-- ==== Sys2Proof/Word.lean ====
section
/-! DEFINITION. Sys2Proof/Word.lean: the plainest data of the model: octets, finite maps as sorted lists, the
names of domains, PLLs, supplies, access paths, and the values the object dictionary holds. -/
namespace Sys2Proof

/-- One octet. -/
abbrev Byte := BitVec 8

/-- A string of octets, octet 0 first (R7). -/
abbrev Octets := List Byte

/-- A finite map with natural keys, as a list of pairs in rising key order. -/
abbrev Map (α : Type) := List (Nat × α)

/-- The supplies of Table 2.4. -/
inductive Rail where
  | vdd | vddCmpin | vddm | vddaLnk | vddqLnk | vddaPrb | vddio | vddioRmii | vaon
deriving DecidableEq, Repr

/-- The clock domains of Table 3.1; LNK has one instance per port (R108). -/
inductive Domain where
  | xo | tick | fab | lnk (p : Fin 6) | cmp | prb | srv | mgt | aon
deriving DecidableEq, Repr

/-- The PLLs of Table 3.2. -/
inductive Pll where
  | rpll | spll | ppll | cpll | port (p : Fin 6)
deriving DecidableEq, Repr

/-- The access paths of 1082h:3; `image` is the image application of boot step 7 and `boot` its absence. -/
inductive Path where
  | can | t1s | mailbox | jtag | image
deriving DecidableEq, Repr

/-- Who makes an access: its path and its requester (REQID of R786, read as a number). -/
structure Who where
  path : Path
  req  : Nat
deriving DecidableEq, Repr

/-- A value of the object dictionary (Table 5.2): a number of the type's width, or an octet string. -/
inductive Val where
  | num (n : Nat)
  | oct (o : Octets)
deriving DecidableEq, Repr

/-- The data types of Table 5.2. -/
inductive Ty where
  | bool | u8 | u16 | u32 | u64 | i32 | i64 | enum | bits16 | bits32 | time80 | octets
deriving DecidableEq, Repr

/-- The object classes of Table 5.3. -/
inductive Cls where
  | s | l | r | o | k
deriving DecidableEq, Repr

/-- The accepted values of an object beside those of its type (R212). -/
inductive Accept where
  | any
  | between (lo hi : Int)
  | oneOf (vs : List Nat)
  /-- `lo ≤ v ≤ hi` and `v` leaves the remainder `r` on division by `m`. -/
  | aligned (lo hi m r : Nat)
  /-- an octet string of exactly this length -/
  | len (n : Nat)
deriving DecidableEq, Repr

/-- One row of the object tables: a run of indices and subindices that share everything but their default. -/
structure Row where
  i0 : Nat
  i1 : Nat
  s0 : Nat
  s1 : Nat
  ty : Ty
  cls : Cls
  /-- level to read -/
  rd : Nat
  /-- level to write -/
  wr : Nat
  /-- default, for a run whose members share it; `Dict.special` gives the others -/
  dflt : Nat
  acc : Accept
  /-- the defined bits of a bit field (R8, R213); all-ones where the type has no reserved bit -/
  mask : Nat
  /-- greatest length of an octet string, or the length of the default -/
  maxLen : Nat
deriving DecidableEq, Repr

end Sys2Proof
end

