-- ==== Sys2Proof/Syntax.lean ====
section
/-! DEFINITION. Sys2Proof/Syntax.lean: the commands of the block, one constructor per row of spec/opcode_table.json, and
the shapes of their operands. -/
namespace Sys2Proof

/-- How an EOP frame reaches the device (Table 6.1). -/
inductive Carrier where
  /-- a CAN data frame: identifier, extended, FD format, bit-rate switch (R271, R272) -/
  | can (id : BitVec 29) (ext fd brs : Bool)
  /-- a UDP datagram over IPv4; `clean` says it is unfragmented, without options and with good checksums (R276, R277) -/
  | udp (src dst : BitVec 32) (sport dport : BitVec 16) (clean : Bool)
  /-- a submission of the mailbox window by a port and source identifier -/
  | mailbox (p : Fin 6) (sid : BitVec 8)
  /-- a submission of the JTAG mailbox -/
  | jtag
deriving DecidableEq, Repr

/-- An EOP frame as a transport delivers it: the octets of its payload, whether the parity of its queue words is good (R269),
whether it finds its path's receive queue full (R288), whether the management core is not free as it completes a request, so that the
request waits (R268), and whether it is a CAN remote frame (Table 6.3). -/
structure Frame where
  via : Carrier
  o : Octets
  parityOk : Bool := true
  queueFull : Bool := false
  waits : Bool := false
  remote : Bool := false
deriving DecidableEq, Repr

/-- The ICMP part of an echo request as the MAC delivers it, and whether its datagram is whole, without options, and with a good header
checksum (R276). -/
structure EchoMsg where
  o : Octets
  clean : Bool := true
deriving DecidableEq, Repr

/-- What the flash answers at boot step 7: its SFDP header and what its Basic Flash Parameter Table holds (R168–R171). -/
structure FlashInfo where
  /-- a flash answers; one that does not reads erased (R171) -/
  answers : Bool := true
  /-- an SFDP header is there with a good signature -/
  sfdp : Bool := false
  /-- major revision of the Basic Flash Parameter Table -/
  major : Nat := 1
  /-- density in octets -/
  density : Nat := 0
  /-- the fast-read modes 1-1-2, 1-2-2, 1-1-4 and 1-4-4, each its opcode and dummy cycles, none where it is not offered -/
  m112 : Option (BitVec 8 × Nat) := none
  m122 : Option (BitVec 8 × Nat) := none
  m114 : Option (BitVec 8 × Nat) := none
  m144 : Option (BitVec 8 × Nat) := none
  /-- quad enable requirement field -/
  qer : Nat := 0
  /-- 4-byte-address instructions advertised -/
  fourByte : Bool := false
  /-- erase types: size in octets and opcode -/
  erases : List (Nat × BitVec 8) := []
  /-- page size in octets -/
  page : Nat := 256
deriving DecidableEq, Repr

/-- One bank's result of boot step 5 as the sensors of the arrays give it (R679–R683): subarray and column pairs that
failed, and whether spare columns were left for them. -/
structure BistFinding where
  bank : Fin 49
  /-- failing bits, one for each failing column, as (subarray, column, row) -/
  cols : List (Nat × Nat × Nat) := []
deriving DecidableEq, Repr

/-- What one word read by the scrub, or by the latch comparison, holds (R243–R246, R348–R350). -/
inductive ScrubFinding where
  /-- a single-bit error in the stored value of an object -/
  | single (idx sub : Nat)
  /-- an uncorrectable word, by its number, among the 32-bit words of the stored value of an object -/
  | double (idx sub word : Nat)
  /-- an uncorrectable word in the staged value of an object's entry (R326) -/
  | stagedDouble (idx sub : Nat)
  /-- the latch copy of a cause object or child differs from the MGT copy, with this value and good parity -/
  | latchDiffers (idx sub value : Nat)
  /-- a latch word fails its parity -/
  | latchParity (idx sub : Nat)
  /-- upsets elsewhere, which no command of their own brings (R670, R691, R805): a single-bit or an uncorrectable error in
  the word of a capture bank at a region offset, and an uncorrectable word in a region of the vault bank -/
  | bankSingle (off : Nat)
  | bankDouble (off : Nat)
  | vaultWord (region : Fin 64)
deriving DecidableEq, Repr

/-- The fields of a Rope HELLO frame that role resolution uses (R743). -/
structure HelloMsg where
  identity : BitVec 32
  serial : BitVec 64
  roleSel : Bool
  /-- 0 BOOTING, 1 LEAD_ACTIVE, 2 SECOND -/
  state : Fin 3
deriving DecidableEq, Repr

/-- An Olelle message as its header slot gives it, without its virtual channel and opcode (Table 9.8). The data slots
hold `data`, 16 octets a slot, zero-padded. -/
structure CohMsg where
  sid : BitVec 8
  tag : BitVec 12
  addr : BitVec 52
  poison : Bool := false
  data : Octets := []
  /-- another request for this line becomes visible in the same FAB cycle and follows in the queue (R417) -/
  more : Bool := false
deriving DecidableEq, Repr

/-- An Olelle message whole (Table 9.8). -/
structure LinkMsg where
  vc : Nat
  opc : Nat
  sid : Nat
  did : Nat
  tag : Nat
  addr : Nat
  poison : Bool
  data : Octets
  /-- header bits [43:42], which only OBS messages use (Table 11.3) -/
  epoch : Nat := 0
deriving DecidableEq, Repr

/-- The outcome of main-band training (phase 3 of Table 9.4). -/
inductive MainbandResult where
  | failed
  | noStreamRaw
  /-- rate code of Table 9.3, width code of Table 9.12, redundant lanes in use -/
  | ok (rate : Fin 6) (width : Fin 4) (repaired : Bool)
deriving DecidableEq, Repr

/-- What the sideband reads of a die's Cairn registers at its admission (Table 11.2): TCAP, or none where the access
fails, and the TDESC words of its taps. -/
structure DieInfo where
  port : Fin 6
  tcap : Option (BitVec 32)
  tdesc : List (BitVec 32) := []
deriving DecidableEq, Repr

/-- A T_PONG (Table 11.5): `late` is how long before the command, in 2^-16 ns, its flit reached the device's bumps. -/
structure PongMsg where
  sid : BitVec 8
  tag : BitVec 12
  ctr : BitVec 2
  epoch : BitVec 2
  t2 : BitVec 64
  t3 : BitVec 64
  late : Nat := 0
deriving DecidableEq, Repr

/-- An OBS message (Table 11.3, R462) with what its queue words gave: the parity of its header slot, and the numbers of
the samples drawn from data words that failed parity (R546). -/
structure ObsMsg where
  sid : BitVec 8
  tap : BitVec 4
  stamp : BitVec 48
  epoch : BitVec 2
  count : BitVec 6 := 0
  poison : Bool := false
  data : Octets := []
  headerBad : Bool := false
  badWords : Nat := 0
  badSamples : List Nat := []
deriving DecidableEq, Repr

/-- What the sensors of a servo frame give (R491, R493, R520): the Rope phase of S24, the receive latencies of P0–P5 in
ps, the device temperature in 0.01 °C, and the coefficient words, as loop and subindex, that the frame's computations
would find with a single-bit or an uncorrectable error. -/
structure ServoInputs where
  ropePhase : Int := 0
  latency : List Int := []
  temp : Int := 2500
  single : List (Nat × Nat) := []
  double : List (Nat × Nat) := []
deriving DecidableEq, Repr

/-- What the probe pins give for the sample tick of a release (R557, R558) and what the slice store's parity gives (R544):
the eight sub-samples of every channel after the comparators, bit 8p + j for sub-sample j of channel p; the edges of PRB_CLK in
order, each its slot, whether it rises, and the levels captured at it; and the granules of the row that fail parity. -/
structure GpSample where
  sub : BitVec 512 := 0
  edges : List (Fin 8 × Bool × BitVec 64) := []
  badGranules : List Nat := []
deriving DecidableEq, Repr

/-- What a phase of a background test step finds (R684, R688, R692): failing bits, one for each failing column, as
(subarray, column, row), and the lines of the save buffer that hold an uncorrectable word. -/
structure TestFinding where
  faults : List (Nat × Nat × Nat) := []
  badLines : List (Fin 64) := []
deriving DecidableEq, Repr

/-- What a protected memory reports in one step: that of a lane or of the decompressor while it works on a frame or a job
(R730, R731), or the descriptor cache as a job's descriptor is taken from it (R442). -/
structure LaneEvent where
  /-- single-bit errors corrected -/
  corrected : Nat := 0
  /-- an uncorrectable error -/
  bad : Bool := false
deriving DecidableEq, Repr

/-- What a host job meets (R717, R719, R729, R731): the octets of its input as host memory holds them; and which error its
reads or writes end in (0 none, 1 ERR_ADDR, 2 ERR_GONE, 3 poisoned input). -/
structure JobInput where
  input : Octets := []
  err : Fin 4 := 0
  lane : LaneEvent := {}
deriving DecidableEq, Repr

/-- The commands the block takes: one constructor per row of spec/opcode_table.json. -/
inductive Instr where
  /-- R70: A supply stays below its falling threshold, so POR is asserted and the device and package enter reset. -/
  | supplyMonitorTrip (rail : Rail) (ns : Nat)
  /-- R70: Every supply has been above its rising threshold for 1.0 ms, so POR is released and boot step 1 begins. -/
  | porRelease (temp : Int) (orderOk : Bool)
  /-- R80: RESET_N held low passes the 16-cycle AON filter and causes a pin reset. -/
  | pinReset (lowNs : Nat)
  /-- R160: The filter sees RESET_N high for 16 consecutive AON cycles, and the boot begins. -/
  | pinResetRelease
  /-- R90: The device temperature reaches 120 °C; PWR cause THERM is set and the DVFS ceiling falls to OP3. -/
  | thermThreshold (temp : Int)
  /-- R91: The temperature stays at or above 132 °C for 1.0 ms, and the device enters the pin-reset state. -/
  | thermalTrip
  /-- R91: After a thermal trip the temperature falls below 115 °C, and the device boots as after a pin reset and sets TRIP. -/
  | thermalTripRecovery (temp : Int)
  /-- R99: A level change on ROLE_SEL or PAIR_PRES outside POR keeps the booted role and sets PWR cause STRAP. -/
  | strapChange (roleSel : Bool) (pairPres : Bool)
  /-- R98: VDDIO falls below its threshold while VAON is present, and the AON domain sees both TAMPER_N inputs as asserted. -/
  | vddioLoss
  /-- R81: An XTRIG_IN edge is captured in tick k or k + 1 and becomes visible to the holds three ticks later. -/
  | xtrigInEdge (pin : Fin 4) (level : Bool) (violates : Bool)
  /-- R90: The device temperature falls below 115 °C, ending the condition behind PWR cause THERM so that a later clear takes effect. -/
  | temperatureBelow115
  /-- R112: A 1,024-AON-cycle qualification window ends, its count is judged, and XO qualifies after four consecutive passes. -/
  | xoQualWindowEnd (count : Nat)
  /-- R113: XO is not qualified within 20 ms, so CLK cause QUAL is set and the windows continue. -/
  | xoQualTimeout
  /-- R114: The PLLs lock at boot step 3, and the boot sequencer switches the domain roots to them in order. -/
  | pllLock (pll : Pll)
  /-- R167: A PLL does not lock within 1 ms at step 3, so CLK cause LOCK is set and step 3 restarts. -/
  | bootPllLockTimeout
  /-- R115: A write to 2203h requests a normal glitch-free switch of a domain root. -/
  | rootSelect (w : Who) (sub : BitVec 8) (src : BitVec 8)
  /-- R115: A normal root switch completes at the new clock's falling edge, and SWITCHING clears. -/
  | normalSwitchComplete (d : Domain)
  /-- R117: A clock monitor sees 96 edgeless AON cycles, declares a stall and sets STALLED and CLK cause STALL. -/
  | stallDeclared (d : Domain)
  /-- R117: A root that was declared stalled produces an edge again, and its STALLED bit clears. -/
  | rootEdgeAfterStall (d : Domain)
  /-- R118: The REF-clocked monitor finds the AON root stopped or off frequency, sets AONF and asserts POR when the root has stopped. -/
  | aonClockFault (stopped : Bool)
  /-- R140: A write to 2204h starts a forced switch of a domain to a given source. -/
  | forcedSwitch (w : Who) (v : BitVec 16)
  /-- R143: The forced switch releases the domain reset, clears FORCING and sets CLK cause FORCE, and the domain loses the state of Table 3.12. -/
  | forcedSwitchComplete (d : Domain)
  /-- R144: The new PLL does not lock within 1 ms of a forced switch, so LOCK is set and the domain stays in reset. -/
  | forcedSwitchLockTimeout (d : Domain)
  /-- R148: A PLL loses lock, so CLK cause LOCK is set and the per-PLL consequences apply. -/
  | pllLossOfLock (pll : Pll)
  /-- R148: A PLL regains lock; LOCKED sets again, and poisoning or non-traceability that depended on it ends. -/
  | pllRelock (pll : Pll)
  /-- R128: Every 100 µs the DVFS sequencer re-evaluates demand and selects a target operating point. -/
  | dvfsEvaluation
  /-- R126: A voltage ramp, the settle time or a frequency glide of a DVFS transition ends, and the next phase begins. -/
  | dvfsTransitionPhaseDone
  /-- R131: Writing true to 2206h:4 starts a frequency meter window. -/
  | meterStart (w : Who) (v : BitVec 8)
  /-- R131: The meter window of N reference cycles ends, and the count, frequency and DONE state are stored. -/
  | meterWindowEnd (count : Nat)
  /-- R135: A change of CLKMON_OUT source, divider or enable drives the pin low and restarts it after the AON waits. -/
  | clkmonChange (w : Who) (sub : BitVec 8) (v : BitVec 16)
  /-- R111: Boot step 1 ends 64 AON cycles after reset release, with the RC oscillator trimmed. -/
  | aonStart
  /-- R166: The fuse load and column repair of step 4 complete, or the boot halts after three failed loads. -/
  | fuseLoad (checkOk : Bool) (k3Ok : Bool)
  /-- R681: Boot step 5 completes the BIST or zeroing of the banks and applies soft repairs. -/
  | bankBist (findings : List BistFinding)
  /-- R696: Boot step 6 reads and tags the vault bank, wiping it when required. -/
  | vaultInitialisation (uncorrectable : Bool)
  /-- R176: Step 7 reads both slot headers, orders the candidates and applies the newest valid slot, or defaults. -/
  | imageSelection (flash : FlashInfo)
  /-- R186: The flash stays busy beyond 3 s, so the save fails or the boot proceeds on defaults with BOOT cause FLASH. -/
  | flashBusyTimeout
  /-- R743: A HELLO camp message from the partner is received and used for role resolution. -/
  | hello (h : HelloMsg)
  /-- R743: The wait W expires without a HELLO, and the role is resolved from ROLE_SEL and the phase reference net. -/
  | roleWaitExpiry (refEdges : Bool) (allLos : Bool)
  /-- R188: The REFCLK lead time of 2012h elapses and boot step 10 begins. -/
  | refclkLeadTimeExpiry
  /-- R189: A PRST_N_OUT line's release delay elapses, and the line is released at the next REF rising edge. -/
  | prstNOutRelease (line : Fin 8)
  /-- R191: The link start delay elapses after the last release, and link training at step 11 begins. -/
  | linkStartDelayExpiry
  /-- R452: Step 12 starts package time at zero, applies any held time write, sends T_SET and starts slice release. -/
  | timeBaseStart
  /-- R161: A write of 0x5752_5354 to 2017h:0 requests a warm reset. -/
  | warmResetRequest (w : Who) (v : BitVec 32)
  /-- R161: The warm reset takes effect at the first tick boundary after the response has left the device. -/
  | warmReset
  /-- R184: Writing true to 201Ch:1 snapshots the committed set and starts an image save into the target slot. -/
  | saveRequest (w : Who) (v : BitVec 8)
  /-- R184: An erase, program or read-back of the save completes, and the save moves to its next phase, DONE or FAILED. -/
  | saveFlashCommandDone (ok : Bool)
  /-- R220: A write of 0x4C4F_434B to 1081h:1 locks every class K object. -/
  | lockRequest (w : Who) (v : BitVec 32)
  /-- R236: A write to 1083h:1 names the object whose descriptor 1083h:2 returns on this path. -/
  | descriptorQuery (w : Who) (v : BitVec 32)
  /-- R240: A write of 0x4443_4C52 to F0FFh:0 zeroes every diagnostic counter. -/
  | diagnosticClear (w : Who) (v : BitVec 32)
  /-- R245: The 100 ms scrub reads every dictionary store word and compares the alert latch with its MGT copy. -/
  | storeScrub (findings : List ScrubFinding)
  /-- R232: A write to an object with no row of its own passes the checks of Table 5.5 and is staged or takes effect. -/
  | dictWrite (w : Who) (idx : BitVec 16) (sub : BitVec 8) (o : Octets) (ty : Option (BitVec 8))
  /-- R255: A READ frame is answered with READ_RSP or SEG_READ_START for the value snapshot. -/
  | read (f : Frame)
  /-- R256: An expedited WRITE frame is served as one access and answered with WRITE_ACK or ABORT. -/
  | write (f : Frame)
  /-- R259: A segmented write opens after checks 1–7 against its total length and is answered with SEG_ACK. -/
  | segWriteStart (f : Frame)
  /-- R259: A segment of a segmented write is checked against its toggle, acknowledged, repeated or ends the transfer. -/
  | seg (f : Frame)
  /-- R258: A SEG_REQ fetches the next or repeated segment of a segmented read. -/
  | segReq (f : Frame)
  /-- R261: A host ABORT ends its open transfer without an answer, writing nothing. -/
  | abort (f : Frame)
  /-- R263: The transfer timeout expires; ABORT 0x0501 is sent, or a completed transfer closes silently. -/
  | transferTimeout (path : Path)
  /-- R264: An ALERT frame is sent within 1 ms of a change of the unmasked summary, combining changes. -/
  | alertFrameSend (path : Path)
  /-- R264: The alert repeat interval expires while the summary is not zero, and an ALERT frame is sent. -/
  | alertRepeatExpiry (path : Path)
  /-- R269: The acceptance queue's duplicated pointers mismatch, so it is reset and DICT cause QRESET is set. -/
  | acceptanceQueueReset
  /-- R290: The CAN controller goes bus-off and DICT cause BUSOFF is set. -/
  | canBusOff
  /-- R290: After 128 occurrences of 11 recessive bits the controller recovers from bus-off. -/
  | canBusOffRecovery
  /-- R274: The CAN bus becomes idle, so committed bit timing takes effect, a returning or failed-over CAN path joins the bus and addresses change. -/
  | canBusIdle
  /-- R270: A CAN bus error changes TEC or REC and moves the controller into or out of error-passive, counted in F008h:3. -/
  | canErrorPassive (tec : Nat) (rec : Nat)
  /-- R291: The PHY reports link down or PLCA becomes INACTIVE, so DICT cause NETDOWN is set. -/
  | networkDown (linkDown : Bool)
  /-- R291: The 10BASE-T1S link returns, and datagrams flow again. -/
  | networkUp
  /-- R276: An ARP request for the device's address is answered. -/
  | arpRequest (target : BitVec 32) (sender : BitVec 32) (senderMac : BitVec 48)
  /-- R276: An ARP reply resolves a next hop that the device asked for, so answers and alerts through the gateway can be sent. -/
  | arpReply (ip : BitVec 32) (mac : BitVec 48)
  /-- R276: An ICMP echo request is answered; `clean` says that its datagram is unfragmented, without options and with a good header
  checksum. -/
  | icmpEchoRequest (src : BitVec 32) (dst : BitVec 32) (m : EchoMsg)
  /-- R280: A non-zero CLAIM write claims an unclaimed fabric mailbox and records OWNER. -/
  | mailboxClaim (p : Fin 6) (sid : BitVec 8) (v : BitVec 32)
  /-- R280: A zero CLAIM write by the owner releases the mailbox, closing its transfer and session. -/
  | mailboxRelease (p : Fin 6) (sid : BitVec 8) (v : BitVec 32)
  /-- R281: A DOORBELL write of 1 by the owner submits the request and sets STATUS to BUSY. -/
  | mailboxDoorbell (p : Fin 6) (sid : BitVec 8) (v : BitVec 32)
  /-- R280: A REQLEN write by the owner sets the request length, or is discarded when out of range. -/
  | mailboxReqlenWrite (p : Fin 6) (sid : BitVec 8) (v : BitVec 32)
  /-- R280: A write to the REQUEST buffer by the owner stores request octets, or is discarded. -/
  | mailboxRequestWrite (p : Fin 6) (sid : BitVec 8) (off : BitVec 16) (o : Octets)
  /-- R282: The owner writes no doorbell for the claim idle limit, so the claim is released. -/
  | mailboxClaimExpiry
  /-- R279: A misaligned, wrongly sized or out-of-service window access is discarded, reads zero and is counted. -/
  | mailboxInvalidAccess (p : Fin 6) (write : Bool)
  /-- R283: A read of the TIME view's low word latches the rest of one time snapshot for the reading port. -/
  | timeViewRead (p : Fin 6) (off : BitVec 16) (wide : Bool)
  /-- R283: A read of the TICK view's low word latches its high word for the reading port. -/
  | tickViewRead (p : Fin 6) (off : BitVec 16) (wide : Bool)
  /-- R284: The EXTEST instruction selects the boundary register and drives pins while RESET_N is low. -/
  | extest (scan : Octets)
  /-- R284: The IDCODE instruction selects the 32-bit IDCODE register. -/
  | idcode
  /-- R284: The SAMPLE/PRELOAD instruction samples and preloads the boundary register. -/
  | samplePreload (scan : Octets)
  /-- R284: The CLAMP instruction holds boundary values on the pins with bypass selected, while RESET_N is low. -/
  | clamp
  /-- R284: The HIGHZ instruction places the outputs in high impedance while RESET_N is low. -/
  | highz
  /-- R285: The IJTAG_ACCESS instruction selects the IEEE 1687 network with the mailbox segment. -/
  | ijtagAccess (sib : Bool)
  /-- R284: The BYPASS instruction, or any undefined code, selects the 1-bit bypass register. -/
  | bypass (code : BitVec 8)
  /-- R295: TRST_N or Test-Logic-Reset resets the TAP, selecting IDCODE and clearing the segment insertion bit. -/
  | tapReset
  /-- R285: Mailbox command 1 at Update-DR writes DATA into request word ADDR. -/
  | jtagWriteRequestWord (addr : BitVec 6) (data : BitVec 32)
  /-- R285: Mailbox command 2 at Update-DR selects response word ADDR for the next capture. -/
  | jtagSelectResponseWord (addr : BitVec 6)
  /-- R285: The control doorbell submits the JTAG mailbox request with its REQLEN. -/
  | jtagDoorbell (reqlen : BitVec 9)
  /-- R286: The control release closes the JTAG mailbox transfer and session. -/
  | jtagRelease
  /-- R285: The control command selects RSPLEN for the next capture. -/
  | jtagSelectRsplen
  /-- R300: A write to 2001h:1 names the staged entry that 2001h:2 returns on this path. -/
  | stagedQuery (w : Who) (v : BitVec 32)
  /-- R301: A write of 0x4452_4F50 to 2002h:0 discards every staged entry. -/
  | discard (w : Who) (v : BitVec 32)
  /-- R303: A write of 0x434F_4D54 to 2003h:4 freezes the staged set and starts the commit check. -/
  | commitRequest (w : Who) (v : BitVec 32)
  /-- R308: The checker ends; the commit fails, goes to mirroring, or goes on to the choice of T. -/
  | commitCheckDone
  /-- R310: No mirror acknowledgement arrives within 1 ms; MIRROR is set and the commit continues without mirroring. -/
  | mirrorTimeout
  /-- R312: Package time reaches the instant less M, so T is fixed, the state is WAITING and T is sent to the Second. -/
  | commitFixTick
  /-- R316: At commit boundary tick T the checked set takes effect whole and the staged set is emptied. -/
  | commitApply
  /-- R322: A write of 0x434E_434C to 2003h:5 cancels the commit when it is visible in TICK by the freeze tick. -/
  | commitCancel (w : Who) (v : BitVec 32)
  /-- R336: A write-one-to-clear write to a cause object or a child clears the named bits, except those kept. -/
  | causeClear (w : Who) (idx : BitVec 16) (sub : BitVec 8) (v : BitVec 32)
  /-- R337: A write of 0x434C_5241 to 2123h:0 clears every cause and child bit that is not kept. -/
  | clearAll (w : Who) (v : BitVec 32)
  /-- R340: A write to 2122h:2 drives ALERT_N low, or releases it, without setting any cause. -/
  | pinTest (w : Who) (v : BitVec 8)
  /-- R358: A write of 0x5254_524E to 7020h starts the training of a port from phase 1. -/
  | retrainRequest (w : Who) (p : Fin 6) (v : BitVec 32)
  /-- R358: Training phase 1 ends with the port PLL locked at the target rate. -/
  | portPllLocked (p : Fin 6) (ok : Bool)
  /-- R358: Training phase 2 ends with UCIe sideband initialisation complete. -/
  | sidebandInitialisationDone (p : Fin 6) (ok : Bool)
  /-- R358: Training phase 3 ends with the main band trained in streaming Raw format. -/
  | mainbandTrainingDone (p : Fin 6) (r : MainbandResult)
  /-- R360: The sideband read of OCAP completes, and the device selects the generation. -/
  | ocapReadDone (p : Fin 6) (ocap : BitVec 32)
  /-- R361: The write of OSET with GO completes, and the main band starts in the selected generation. -/
  | osetWriteDone (p : Fin 6)
  /-- R362: The neighbour's CRINIT is received, stating its initial credits. -/
  | crinit (p : Fin 6) (credits : List Nat)
  /-- R362: OSTAT reads READY, so the attempt succeeds and the port waits for admission. -/
  | ostatReady (p : Fin 6) (ostat : BitVec 32)
  /-- R358: The attempt limit expires before phase 6 ends, and the attempt fails with TIMEOUT. -/
  | trainingAttemptTimeout (p : Fin 6)
  /-- R359: A sideband register access is not completed within 1 ms, so the phase fails and SIDEBAND is set. -/
  | sidebandAccessTimeout (p : Fin 6)
  /-- R363: 100 µs after a failed attempt the next attempt starts, or the port enters FAILED. -/
  | trainingRetry (p : Fin 6)
  /-- R376: At each 16,384-tick boundary the device sends EPOCH on every trained port and admits waiting ports. -/
  | creditEpochBoundary (dies : List DieInfo)
  /-- R368: A flit is received and checked for CRC and sequence, and its acknowledgements and credits are taken. -/
  | flitReceive (p : Fin 6) (o : Octets)
  /-- R370: 1,024 adapter cycles pass without an advance of the acknowledgement, and every outstanding flit is replayed. -/
  | replayTimeout (p : Fin 6)
  /-- R377: The neighbour's ECHO is audited against the EPOCH totals, and a mismatch retrains the port. -/
  | echo (p : Fin 6) (epoch : Nat) (mismatch : Bool) (totals : List Nat)
  /-- R388: After the required responses of a disabled port have been sent, the device sends QUIESCE. -/
  | quiesce (p : Fin 6)
  /-- R388: QDONE is received, and the device disables the link through the sideband. -/
  | qdone (p : Fin 6)
  /-- R388: No QDONE arrives within 1 ms, so the link is disabled and the agents are removed. -/
  | quiesceTimeout (p : Fin 6)
  /-- R357: A neighbour requests a low-power link state, which is refused, and SIDEBAND is set. -/
  | lowPowerRequest (p : Fin 6)
  /-- R386: A lane fails at runtime, causing a UCIe retrain, lane repair or degradation, and DOWN. -/
  | laneFailure (p : Fin 6)
  /-- R386: The neighbour initiates a UCIe retrain or link reset, and the port retrains with DOWN set. -/
  | neighbourRetrain (p : Fin 6)
  /-- R406: An uncached 4-octet read request is decided by the home and answered with DATA_UC. -/
  | rdU32 (p : Fin 6) (m : CohMsg)
  /-- R406: An uncached 8-octet read request is decided by the home and answered with DATA_UC. -/
  | rdU64 (p : Fin 6) (m : CohMsg)
  /-- R406: An uncached line read request is decided by the home and answered with DATA_UC. -/
  | rdUline (p : Fin 6) (m : CohMsg)
  /-- R406: An uncached 4-octet write is decided, performed and answered with WR_ACK or an error. -/
  | wrU32 (p : Fin 6) (m : CohMsg)
  /-- R406: An uncached 8-octet write is decided, performed and answered with WR_ACK or an error. -/
  | wrU64 (p : Fin 6) (m : CohMsg)
  /-- R406: An uncached line write is decided, performed and answered with WR_ACK or an error. -/
  | wrUline (p : Fin 6) (m : CohMsg)
  /-- R406: A shared read request is decided from the directory, with snoops where needed, and answered with data. -/
  | rdS (p : Fin 6) (m : CohMsg)
  /-- R406: An ownership read request invalidates the other holders and is answered with DATA_E. -/
  | rdOwn (p : Fin 6) (m : CohMsg)
  /-- R406: An UPGRADE from S invalidates the other sharers and is answered with GNT_E or DATA_E. -/
  | upgrade (p : Fin 6) (m : CohMsg)
  /-- R409: An invalidating snoop to the device caching agent is answered per Table 10.5. -/
  | snpInv (p : Fin 6) (m : CohMsg)
  /-- R409: A sharing snoop to the device caching agent is answered per Table 10.5. -/
  | snpShr (p : Fin 6) (m : CohMsg)
  /-- R406: A snoop answer showing no copy is applied to the directory. -/
  | rspI (p : Fin 6) (m : CohMsg)
  /-- R406: A snoop answer showing a shared copy is applied to the directory. -/
  | rspS (p : Fin 6) (m : CohMsg)
  /-- R411: A snoop answer crossing a clean eviction lets the home proceed as for RSP_I. -/
  | rspGoneC (p : Fin 6) (m : CohMsg)
  /-- R412: A snoop answer crossing a dirty eviction makes the home hold for the matching WB_D. -/
  | rspGoneD (p : Fin 6) (m : CohMsg)
  /-- R428: A write acknowledgement completes a request of the device caching agent to its unit. -/
  | wrAck (p : Fin 6) (m : CohMsg)
  /-- R407: A grant of E answers the device caching agent's UPGRADE. -/
  | gntE (p : Fin 6) (m : CohMsg)
  /-- R410: A writeback acknowledgement from a foreign home completes the device's eviction. -/
  | wbAck (p : Fin 6) (m : CohMsg)
  /-- R427: An address error answer completes a device request to its unit with an error. -/
  | errAddr (p : Fin 6) (m : CohMsg)
  /-- R408: A type error answer completes a device request to its unit with an error. -/
  | errType (p : Fin 6) (m : CohMsg)
  /-- R429: A gone error answer completes a device request to its unit with an error. -/
  | errGone (p : Fin 6) (m : CohMsg)
  /-- R398: Uncached data answers a read of the device caching agent. -/
  | dataUc (p : Fin 6) (m : CohMsg)
  /-- R400: Shared data is granted to the device caching agent. -/
  | dataS (p : Fin 6) (m : CohMsg)
  /-- R400: Exclusive data is granted to the device caching agent. -/
  | dataE (p : Fin 6) (m : CohMsg)
  /-- R400: Data valid for one access reaches the device caching agent, which does not cache it. -/
  | dataI (p : Fin 6) (m : CohMsg)
  /-- R406: Snoop data with invalidation is applied by the capture home and written to memory. -/
  | sdataI (p : Fin 6) (m : CohMsg)
  /-- R406: Snoop data with a shared copy kept is applied by the capture home and written to memory. -/
  | sdataS (p : Fin 6) (m : CohMsg)
  /-- R410: A clean eviction updates the directory and is answered with WB_ACK. -/
  | evictC (p : Fin 6) (m : CohMsg)
  /-- R412: A dirty writeback is written to memory, matched to a pending hold and answered with WB_ACK. -/
  | wbD (p : Fin 6) (m : CohMsg)
  /-- R404: A request waiting in a Transient line is decided once the transaction before it completes. -/
  | waitingRequestDecided (line : BitVec 64)
  /-- R440: A snoop answer is not visible within the limit, so TIMEOUT is set and the silent port leaves service. -/
  | snoopAnswerTimeout (line : BitVec 64) (sid : BitVec 8)
  /-- R440: The crossed WB_D after RSP_GONE_D does not arrive within the limit, so TIMEOUT is set and the port leaves service. -/
  | crossedWritebackTimeout (line : BitVec 64) (sid : BitVec 8)
  /-- R429: A device caching agent request expires; the unit receives ERR_GONE and DCACHE is set. -/
  | deviceRequestTimeout (tag : BitVec 16)
  /-- R436: A write to 7805h:1 names a capture line whose filter entry 7805h:2 reports. -/
  | filterQuery (w : Who) (v : BitVec 64)
  /-- R419: A whole capture line drains from the write buffer into its bank and updates the snoop filter. -/
  | captureWrite
  /-- R466: A time source's exchange period elapses, and T_PING is sent unless the previous exchange is still open. -/
  | tPingDue (source : Fin 16)
  /-- R466: A T_PONG completes an exchange, giving theta and delay, and may confirm an outstanding step. -/
  | tPong (p : Fin 6) (m : PongMsg)
  /-- R467: An exchange stays open for 4,096 ticks, so it is lost and PONGLATE is set. -/
  | exchangeTimeout (source : Fin 16)
  /-- R532: An OBS_SAMPLE message visible in TICK has its samples mapped to ticks and written as rows. -/
  | obsSample (p : Fin 6) (m : ObsMsg)
  /-- R532: An OBS_CHANGE message extends the coverage with its last value and writes the changed sample. -/
  | obsChange (p : Fin 6) (m : ObsMsg)
  /-- R532: An OBS_THRU message extends the coverage with the last value. -/
  | obsThru (p : Fin 6) (m : ObsMsg)
  /-- R532: An OBS_LOST message extends the coverage with poisoned rows of reason LOST. -/
  | obsLost (p : Fin 6) (m : ObsMsg)
  /-- R475: A captured PPS_IN edge is judged against the window and disciplines, steps or applies an armed write. -/
  | ppsInEdge (rising : Bool) (violates : Bool)
  /-- R478: A watched whole second passes without an edge inside the window, so PPSMISS is set. -/
  | ppsMiss
  /-- R478: No inside edge for the holdover limit, so the PPS state becomes HOLDOVER and the slew term clears. -/
  | ppsHoldover
  /-- R476: The PPS slew term ends after 10^9 ticks and is cleared. -/
  | slewTermExpiry
  /-- R473: An armed AT_PPS write sees no edge within the holdover limit, so it lapses and PPSMISS is set. -/
  | atPpsLapse
  /-- R479: PPS_OUT rises in the tick at the whole second less the advance. -/
  | ppsOutRise
  /-- R479: PPS_OUT falls when its width has elapsed. -/
  | ppsOutFall
  /-- R457: As camp work the device writes a tap's TCTL after a commit changes the tap's entry. -/
  | tctlWrite (tap : Fin 64) (ok : Bool)
  /-- R457: A failed TCTL write is repeated every 1 ms until it completes. -/
  | tctlWriteRetry (tap : Fin 64) (ok : Bool)
  /-- R494: A servo frame latches inputs, computes the scheduled loops and applies the previous outputs and flags. -/
  | servoFrame (x : ServoInputs)
  /-- R498: A loop computation is not complete by SRV cycle 399, so its output holds and MISS is set. -/
  | missedDeadline (loop : Fin 32)
  /-- R506: The following-error timer expires, and the loop leaves lock per FEACT. -/
  | followingErrorExpiry (loop : Fin 32)
  /-- R515: The boot lock limit expires, so unlocked loops get NOLOCK and step 13 ends. -/
  | lockLimitExpiry
  /-- R510: A write to 620Bh re-enables HELD loops bumplessly. -/
  | resume (w : Who) (v : BitVec 32)
  /-- R513: A write to 6250h:1 starts a recalibration sweep of a disabled loop. -/
  | sweepStart (w : Who) (v : BitVec 8)
  /-- R534: In each tick the alignment buffer releases row k = r − H as the slice to the trigger and storage. -/
  | sliceRelease (gp : GpSample)
  /-- R539: At join tick J a tap's samples start to count. -/
  | tapJoin (tap : Fin 64)
  /-- R546: A dispatch queue pointer mismatch resets that port's queues and sets TRIG cause QRESET. -/
  | dispatchQueueReset (p : Fin 6)
  /-- R546: A tap event queue pointer fault resets it, and every counting or joining tap becomes GONE. -/
  | tapEventQueueReset
  /-- R542: Writing true to 3007h:0 resets every minimum margin to 0x7FFF_FFFF. -/
  | marginReset (w : Who) (v : BitVec 8)
  /-- R564: A 4,096-edge eye window ends, giving the measurement of loop S(16 + g) and flagging a closed eye. -/
  | eyeWindowEnd (g : Fin 8) (edges : Nat) (early : Nat) (late : Nat)
  /-- R562: 1,024 sample ticks after a comparator change, the granule's PROBE poisoning ends. -/
  | settlingEnd (g : Fin 8)
  /-- R572: A filtered change of a decoder's A or B input counts an edge and updates position and speed. -/
  | decoderInputChange (j : Fin 4) (a : Bool) (b : Bool) (z : Bool) (tick : Nat)
  /-- R580: No counted edge for the standstill time, so speed becomes 0 and STILL is set. -/
  | standstillExpiry (j : Fin 4)
  /-- R575: A write of 0x4C4F_4144 to 3908h loads the position preset at the next processed tick. -/
  | positionLoad (w : Who) (j : Fin 4) (v : BitVec 32)
  /-- R569: A PULSE-mode XTRIG_OUT output ends after WIDTH ticks. -/
  | xtrigOutPulseEnd (pin : Fin 4)
  /-- R611: A write of 0x4152_4D21 to 4000h:1 fixes arm tick A and enters PENDING. -/
  | armRequest (w : Who) (v : BitVec 32)
  /-- R608: At tick A the sequencer starts at L0 with cleared counters and enters ARMED. -/
  | armTick
  /-- R612: A write of 0x5354_4F50 to 4000h:2 fixes disarm tick D. -/
  | disarmRequest (w : Who) (v : BitVec 32)
  /-- R612: At tick D the sequencer enters IDLE, closes the store gate and freezes. -/
  | disarmTick
  /-- R602: A trigger timer reaches its limit and raises its flag for that tick. -/
  | triggerTimerExpiry (j : Fin 8)
  /-- R636: No record enters a window's block for the idle close time, so the block is closed. -/
  | idleClose (win : Fin 16)
  /-- R628: A SNAPSHOT window freezes at the end of release tick r_S + POST. -/
  | windowFreeze (win : Fin 16)
  /-- R644: A stream starts a frame for its next closed block once a lane and ring space are available. -/
  | spillFrameStart (st : Fin 4)
  /-- R706: A lane finishes coding a block into a capture frame, which is written to the host ring in block order. -/
  | spillFrameEncoded (st : Fin 4) (lane : LaneEvent)
  /-- R646: While space is short, the stream rereads the consumer line at most once per µs. -/
  | consumerLineReread (st : Fin 4)
  /-- R655: A write of 0x5245_5355 to 5120h resumes an ERROR stream from its checkpoint. -/
  | streamResume (w : Who) (st : Fin 4) (v : BitVec 32)
  /-- R673: At freeze tick T − 64 a bank in Retention starts waking for a commit. -/
  | retentionWake (bank : Fin 48)
  /-- R672: A DRAINING bank has no line left in the write buffer and enters ENTERING. -/
  | bankDrainDone (bank : Fin 48)
  /-- R672: A bank finishes ENTERING and reads RETENTION or OFF. -/
  | bankEntryDone (bank : Fin 48)
  /-- R672: A bank finishes WAKING and becomes READY, or starts ZEROING after Off. -/
  | bankWakeDone (bank : Fin 48)
  /-- R672: A bank finishes zeroing and becomes READY, or enters Retention. -/
  | bankZeroingDone (bank : Fin 48)
  /-- R693: A bank's switched supply stays out of limit for 1 µs, so the bank is switched off, FAILED and BANKPWR is set. -/
  | bankSupplyFault (bank : Fin 48)
  /-- R693: A bank transition lasts more than ten times its duration, and the bank is FAILED. -/
  | bankTransitionOvertime (bank : Fin 48)
  /-- R684: After the step interval the test engine starts SAVE on its next region. -/
  | backgroundStepStart
  /-- R684: A SAVE, TEST, RESTORE or VERIFY phase ends, and a miscompare is recorded and repaired. -/
  | backgroundPhaseDone (r : TestFinding)
  /-- R696: A wipe request starts zeroing the vault bank within 1 µs. -/
  | vaultWipe
  /-- R696: The vault wipe ends, rewriting the tag, clearing the latch, setting WIPE and completing a life-cycle transition. -/
  | vaultWipeDone
  /-- R713: A write to 5802h:1 submits pending jobs. -/
  | jobTailWrite (w : Who) (v : BitVec 8)
  /-- R714: The next pending job starts on a free lane or the decompressor. -/
  | jobStart (cache : LaneEvent)
  /-- R717: A job ends with its status, its descriptor is written back and the head advances. -/
  | jobComplete (slot : Fin 16) (r : JobInput)
  /-- R723: A host job's watchdog expires, and the job ends WDOG. -/
  | jobWatchdogExpiry (slot : Fin 16)
  /-- R726: A write of 0x464C_5553 to 5802h:4 cancels every pending job that has not started. -/
  | jobFlush (w : Who) (v : BitVec 32)
  /-- R724: Every 100 µs the engine sets the per-lane demand 2208h:7. -/
  | demandUpdate
  /-- R748: Every fourth tick the device begins a Rope frame carrying state words, AUX and a camp segment. -/
  | ropeFrameSend
  /-- R749: A Rope frame is received, checked, aligned and used for heartbeat, comparison and camp data. -/
  | ropeFrameReceive (o : Octets)
  /-- R772: A Rope lane loses signal, so ROPELOS is set and the Second becomes ineligible. -/
  | ropeLossOfSignal (lanes : BitVec 4)
  /-- R772: The Rope link is not realigned within 1 ms, so RPLL moves to OSC and the Second warm-resets on realignment. -/
  | ropeLossTimeout
  /-- R752: The Second receives the start of a CATCHUP or COMMIT set. -/
  | setBegin (o : Octets)
  /-- R752: The Second receives one object record of a mirrored set. -/
  | setRec (o : Octets)
  /-- R752: The Second receives the end of a set with its CRC and answers SET_ACK. -/
  | setEnd (o : Octets)
  /-- R310: The Lead receives the Second's acknowledgement and moves the commit on with M = 1,024. -/
  | setAck (o : Octets)
  /-- R315: The Second receives T for a mirrored set and applies or cancels it. -/
  | boundary (o : Octets)
  /-- R757: The Second loads the tick counter and package time at tick Y. -/
  | timeSync (o : Octets)
  /-- R757: The Second receives a change of ADJ with its apply tick. -/
  | adj (o : Octets)
  /-- R757: With a mirroring Second, a change of ADJ or a held time step is applied 1,024 ticks after the decision. -/
  | delayedAdjApply
  /-- R757: The Second receives a time-source step for stamp conversion. -/
  | step (o : Octets)
  /-- R757: The Second receives the confirmation of a time-source step with its new EPOCH. -/
  | confirm (o : Octets)
  /-- R756: The Second receives a source's status and last TRIM. -/
  | srcstat (o : Octets)
  /-- R613: The Second receives arm tick A and arms at the same tick. -/
  | arm (o : Octets)
  /-- R613: The Second receives disarm tick D and disarms at the same tick. -/
  | disarm (o : Octets)
  /-- R758: The Second installs the Lead's sequencer snapshot and enters SHADOW. -/
  | trigSnap (o : Octets)
  /-- R756: The Second receives a spill checkpoint for use at failover. -/
  | ckpt (o : Octets)
  /-- R753: The Second receives an order to train, or to quiesce and disable, a port. -/
  | train (o : Octets)
  /-- R753: A partner's port status is received for catch-up and eligibility. -/
  | portstat (o : Octets)
  /-- R767: The Second receives the handover yield tick X. -/
  | handover (o : Octets)
  /-- R753: The Lead receives the Second's catch-up state. -/
  | progress (o : Octets)
  /-- R751: CACK does not advance for 256 ticks, so unacknowledged segments are resent, and after eight resends the channel resets. -/
  | campResendTimeout
  /-- R763: No good DATA frame within the heartbeat limit, so HEARTBEAT is set and the Second becomes ineligible. -/
  | heartbeatExpiry
  /-- R765: No edge is sensed on the phase reference net by tick e + 15, so REF loss is declared and a yield may be detected. -/
  | refLoss
  /-- R767: A write of 0x4841_4E44 to 8003h:0 fixes yield tick X and sends HANDOVER. -/
  | handoverRequest (w : Who) (v : BitVec 32)
  /-- R767: At tick X the Lead yields and enters failover reset. -/
  | handoverYield
  /-- R781: A write to 1001h:2 requests a one-way life-cycle transition and starts burning fuses. -/
  | transitionRequest (w : Who) (v : BitVec 32)
  /-- R782: The transition's fuse group reads back, so a vault wipe starts, or the transition FAILED. -/
  | fuseBurnDone (ok : Bool)
  /-- R788: A write of a level to 1010h:1 issues a challenge for a session. -/
  | sessionRequest (w : Who) (v : BitVec 8)
  /-- R788: A write of 0 to 1010h:1 by the holder closes the session. -/
  | sessionClose (w : Who) (v : BitVec 8)
  /-- R789: An HMAC response written to 1010h:3 opens the session or counts a failure. -/
  | sessionResponse (w : Who) (o : Octets)
  /-- R789: An outstanding challenge passes its limit and is no longer valid. -/
  | challengeExpiry (path : Path)
  /-- R791: No request from the holder for the idle limit, so the session closes. -/
  | sessionIdleExpiry (path : Path)
  /-- R790: The back-off period after repeated failures ends, and session requests are accepted again. -/
  | backoffExpiry (path : Path)
  /-- R793: A write to 9020h:1 starts programming KI into fuses. -/
  | integratorKeyWrite (w : Who) (o : Octets)
  /-- R793: The VALID fuse of a fuse-backed object is programmed, so it reads written, or FAILED. -/
  | fuseProgrammingDone (ok : Bool)
  /-- R796: A write to 9021h:1 stores K1 in the vault. -/
  | operatorKeyWrite (w : Who) (o : Octets)
  /-- R796: A write to 9030h stores a sealed record in its vault region. -/
  | sealedRecordWrite (w : Who) (n : BitVec 8) (o : Octets)
  /-- R799: A filtered TAMPER_N assertion sets the tamper cause, logs it and applies the configured response. -/
  | tamperEvent (t0 : Bool) (t1 : Bool)
  /-- R798: A TAMPER_N input is released after 8 consecutive high samples, so that its next low run is a new tamper event. -/
  | tamperRelease (t0 : Bool) (t1 : Bool)
  /-- R804: The entropy source fails a health test, and session requests are refused until a test passes. -/
  | entropyHealthFailure
  /-- R804: The entropy source passes a health test; ENTROPY sets again and session requests are accepted. -/
  | entropyHealthPass
deriving DecidableEq, Repr

end Sys2Proof
end

