-- ==== Sys2Proof/Config.lean ====
section
/-! DEFINITION. Sys2Proof/Config.lean: the values the spec leaves open. Each is an opaque constant without a body, so that
nothing can be proved of its value and a statement that holds, holds for every value. -/
namespace Sys2Proof

/-- The n-th free value drawn, as a number the user reduces to the width it needs (see the assumption log). [DESIGN CHOICE, log entry 8] -/
opaque Config.freeNat : Nat → Nat

/-- The device serial number that Preldo fused (R801: "Fused"), fixed for a part. [DESIGN CHOICE, log entry 9] -/
opaque Config.serial : BitVec 64

/-- The cells of the boundary register that hold the level and the enable of an output, by its number (R284 states no map of the cells).
[DESIGN CHOICE, log entry 9] -/
opaque Config.boundaryCells : Nat → Nat × Nat

/-- The vendor key K3 that Preldo fused before the part left manufacture (R779). [DESIGN CHOICE, log entry 9] -/
opaque Config.k3 : List (BitVec 8)

/-- How many spare columns the fuses of a part map into a subarray of a bank (R678), fixed for a part; at most 4 are used. [DESIGN CHOICE, log entry 9] -/
opaque Config.fusedSpares : Nat → Nat → Nat

/-- The chain head, among 32,768, that a lane's hash gives to three octets (R699 states no hash function). [DESIGN CHOICE, log entry 9] -/
opaque Config.hash3 : Nat → Nat

/-- The header of a dynamic-Huffman block as a lane codes it, from HLIT to the last code length, as bits in stream order, by
the counts of the literal and length symbols and of the distance symbols (R699, R700 state no code construction). [DESIGN CHOICE, log entry 9] -/
opaque Config.dynHeader : List Nat → List Nat → List Bool

end Sys2Proof
end

