-- ==== Sys2Proof/Machine/State.lean ====
section
/-! DEFINITION. Sys2Proof/Machine/State.lean: the whole state of the device as plain data, the reasons a command can
stop for, and the state right after power is first applied. -/
namespace Sys2Proof.Machine

/-- Why the device stops with a fault. -/
inductive Fault where
  /-- Raised by nothing in this model: the spec gives every command an effect (R17–R813), so no meaning faults.
  Kept because the interface asks for a type. Safe: no run ends here. -/
  | none
deriving DecidableEq, Repr

/-- Why a command has no meaning. -/
inductive Refusal where
  /-- Raised by `exec` on an arm that has no meaning yet; safe: no statement speaks of a refused command. -/
  | notModelled (mnemonic : String)
deriving DecidableEq, Repr

/-- The reset kinds of Table 4.1 that clear state as Table 4.2 gives (a domain reset is not one of them). -/
inductive ResetKind where
  | por | pin | thermal | warm | failover
deriving DecidableEq, Repr

/-- A datagram of the device: a UDP datagram, or an ICMP echo reply without ports (R276, R277). -/
structure Datagram where
  dst : Nat
  dport : Nat
  src : Nat
  sport : Nat
  o : Octets
  echo : Bool := false
deriving DecidableEq, Repr

/-- What the device hands outward. A transport, a neighbour or a tester takes it; the device never reads it back. [DESIGN CHOICE, log entry 71] -/
inductive Output where
  /-- the management core's answer to an access made by a row command: abort code (0 for success) and value read -/
  | answer (w : Who) (code : Nat) (value : Octets)
  /-- a CAN frame (R271, R272) -/
  | can (id : Nat) (fd : Bool) (brs : Bool) (o : Octets)
  /-- an IPv4 datagram, and its DF flag (R276, R277) -/
  | ip (d : Datagram) (df : Bool)
  /-- an ARP answer or request (R276): operation, target address, target MAC -/
  | arp (op : Nat) (ip mac : Nat)
  /-- a Clause 22 frame on MDIO: a read of a register of the PHY at an address (R275) -/
  | mdio (phy reg : Nat)
  /-- the medium access the MAC takes: 0 CSMA/CD, 1 PLCA follower, 2 PLCA coordinator; its node ID, and the node count that a
  coordinator uses (R275) -/
  | mac (access id nodes : Nat)
  /-- data returned to a port that read the mailbox window -/
  | window (port : Nat) (data : Nat) (octets : Nat)
  /-- data captured into the TAP's data register -/
  | tdo (bits : Nat) (width : Nat)
  /-- a flit on the lanes of a port (R365) -/
  | flit (port : Nat) (o : Octets)
  /-- a message as it enters the link layer of a port -/
  | msg (port : Nat) (m : LinkMsg)
  /-- a sideband message of the device on a port: its kind (0 read, 1 write, 2 refusal of a low-power state, 3 disable of the link), address,
  data (R357–R362, R388) -/
  | sideband (port : Nat) (kind : Nat) (addr data : Nat)
  /-- a Rope frame (R748) -/
  | rope (o : Octets)
  /-- a Rope camp message before framing: its type code and body (R751) -/
  | camp (code : Nat) (body : Octets)
  /-- a command to the flash (R168–R186): its kind (0 erase with opcode and 4-octet size of the erase type, 1 program, 2 4-byte mode, 3 read
  with opcode and dummy cycles, 4 quad enable with the requirement field), address, data -/
  | flash (op addr : Nat) (o : Octets)
  /-- a write or read of host memory through the device's caching agent -/
  | host (kind addr : Nat) (o : Octets)
deriving DecidableEq, Repr

/-- Supplies, straps and temperature as the device itself holds them (R52–R107). -/
structure Power where
  /-- POR is asserted (R70) -/
  por : Bool := true
  /-- real time at which POR was asserted; VAON was among the supplies that failed -/
  porAt : Nat := 0
  vaonLost : Bool := false
  /-- RESET_N is held low and the pin reset lasts (R160) -/
  pinHeld : Bool := false
  /-- a thermal trip, or a hot POR release, is held until the temperature falls below 115 °C (R91, R107) -/
  tripHeld : Bool := false
  /-- the boot in progress follows a thermal trip, so TRIP is set after it (R91) -/
  tripped : Bool := false
  /-- the condition of THERM holds (R90) -/
  therm : Bool := false
  /-- live level of ROLE_SEL -/
  roleSel : Bool := false
  /-- live level of PAIR_PRES -/
  pairPres : Bool := false
  /-- ROLE_SEL as read at POR release (R99) -/
  bootRoleSel : Bool := false
  /-- PAIR_PRES as read at POR release (R99, Table 7.2a) -/
  bootPairPres : Bool := false
  /-- VDDIO is below its falling threshold while VAON is present (R98) -/
  vddioLow : Bool := false
  /-- VDDIO, and VAON, have risen above their rising thresholds and not fallen since (R70, R105, R106) -/
  vddioUp : Bool := false
  vaonUp : Bool := false
  /-- the same for VDDIO_RMII and VDDA_LNK, which feed outputs of their own (Table 2.2) -/
  rmiiUp : Bool := false
  lnkUp : Bool := false
  /-- the same for VDDA_PRB, which feeds the probe pins (Table 2.2) -/
  prbUp : Bool := false
  /-- the AON time in ms since VAON last rose starts at this real time (Table 20.8) -/
  vaonRose : Nat := 0
deriving DecidableEq, Repr

/-- One clock domain root (Table 3.7). -/
structure DomainSt where
  src : Nat := 1
  /-- the target of a normal switch that waits for an edge (R115) -/
  switching : Option Nat := none
  stalled : Bool := false
  /-- the target of a forced switch in progress (R143) -/
  forcing : Option Nat := none
  inReset : Bool := true
  running : Bool := false
  /-- start of the forced switch in progress; moved on by a wait for lock (R143) -/
  since : Nat := 0
deriving DecidableEq, Repr

/-- One PLL (2202h, and the port PLLs). -/
structure PllSt where
  started : Bool := false
  locked : Bool := false
  /-- RPLL follows the Rope clock (R109) -/
  refRope : Bool := false
  holdover : Bool := false
deriving DecidableEq, Repr

/-- The clock unit beyond its objects (Chapter 3). -/
structure Clocks where
  /-- domain roots by number, in the order XO, TICK, FAB, LNK of P0–P5, CMP, PRB, SRV, MGT, AON -/
  dom : Map DomainSt := []
  /-- PLLs by number: RPLL, SPLL, PPLL, CPLL, then the six port PLLs -/
  pll : Map PllSt := []
  /-- the 20 ms of R113 have been reported in this boot step 2 -/
  qualLate : Bool := false
  /-- XO qualification runs (R112) -/
  qualRun : Bool := false
  /-- start of the window that runs -/
  qualAt : Nat := 0
  /-- frequency meter: a window runs; target, reference and N are those taken at its start (R131) -/
  meterRun : Bool := false
  meterTarget : Nat := 1
  meterRef : Nat := 1
  meterN : Nat := 1024
  /-- the window met a stall or a forced switch of its target (R132) -/
  meterBad : Bool := false
  /-- the meter still belongs to the boot sequencer (R133) -/
  meterBoot : Bool := true
  /-- start of the meter window -/
  meterAt : Nat := 0
  /-- selection that CLKMON_OUT carries: source, divider, enable (R135) -/
  clkmonSrc : Nat := 0
  clkmonDiv : Nat := 0
  clkmonOn : Bool := false
  /-- real time from which the pin may carry the selection: 32 AON cycles after its change (R135) -/
  clkmonAt : Nat := 0
  /-- DVFS: current point, state of 2208h:6, target of the transition in progress -/
  dvfsCur : Nat := 0
  dvfsState : Nat := 5
  dvfsTarget : Nat := 0
  /-- start of the phase in progress, and of the next evaluation's interval -/
  dvfsAt : Nat := 0
  /-- the voltage settles (R126) -/
  dvfsSettle : Bool := false
  /-- a stall of CMP has abandoned the transition (Table 3.11) -/
  dvfsHold : Bool := false
  dvfsEval : Nat := 0
  /-- CMP voltage held in mV (R126, R130, Table 3.11) -/
  dvfsMv : Nat := 600
  /-- real time since which the demand has stayed below the rate of the next lower point (R128) -/
  dvfsLowSince : Option Nat := none
  /-- MGT has run on AON and has not returned to SPLL since (R146) -/
  netsOut : Bool := true
deriving DecidableEq, Repr

/-- Boot sequencer, package outputs, flash and save engine (Chapter 4). [DESIGN CHOICE, log entry 6] -/
structure Boot where
  /-- 2018h:1: 0 in reset, 1–13 a step, 14 capture ready -/
  step : Nat := 0
  /-- the step at which the boot enters when the reset is released (Table 4.1) -/
  entry : Nat := 1
  /-- real time of the release of the reset being recovered from (2018h:2, 2018h:3) -/
  releasedAt : Nat := 0
  /-- start of the step in progress -/
  stepAt : Nat := 0
  /-- failed fuse loads at step 4 (R166) -/
  fuseFails : Nat := 0
  /-- the boot is halted at step 4 (R166) or at the end of step 6 (R786) -/
  halted : Bool := false
  /-- capture banks were under full POR, so BV is tested too (R165) -/
  afterPor : Bool := true
  /-- REFCLK_OUT lines that run -/
  refclk : Nat := 0
  /-- PRST_N_OUT lines released high -/
  prst : Nat := 0
  /-- the lines that ran, and those that were high, before the commit of real time `fanAt` moved them (R136, R192) -/
  refclkOld : Nat := 0
  prstOld : Nat := 0
  fanAt : Nat := 0
  /-- a line has been released in this boot (2018h:2) -/
  prstFirst : Bool := false
  /-- lines whose release of step 10 is pending -/
  prstPending : Nat := 0
  /-- 2012h, 2013h and 2016h as committed at the start of the step that uses them (R195) -/
  lead : Nat := 0
  delays : List Nat := []
  linkDelay : Nat := 0
  /-- real time of the last release, or of the start of step 10 -/
  prstAt : Nat := 0
  /-- flash contents of the two slots, 65,536 octets each; octets past the list's end read 0xFF (erased) -/
  slotA : Octets := []
  slotB : Octets := []
  /-- a flash answers SFDP and what it offers, as taken at step 7 (R168–R171) -/
  flash : FlashInfo := {}
  /-- slot of the last successful save in this boot, or the slot selected at the boot (R184): 0 none, 1 A, 2 B -/
  refSlot : Nat := 0
  /-- RDCLK of the slot selected at the boot, or 0 (R184) -/
  bootRdclk : Nat := 0
  /-- save engine: 2 ERASE, 3 BODY, 4 HEADER, 5 VERIFY while one runs, else 0 -/
  savePhase : Nat := 0
  /-- VERIFY is that of the header (step 7 of R184), not of the record area -/
  saveHeader : Bool := false
  saveSlot : Nat := 0
  saveSeq : Nat := 0
  saveBody : Octets := []
  /-- a warm reset has been requested and takes effect at the next tick boundary (R161, R782, R799) -/
  warmDue : Bool := false
  /-- a reset cut a save short (201Ch:3 reads RESET after the boot) -/
  saveCut : Bool := false
deriving DecidableEq, Repr

/-- One entry of the staged set (R297). -/
structure Staged where
  idx : Nat
  sub : Nat
  val : Val
  path : Path
  level : Nat
  /-- a word of the entry is known to be uncorrectable (R326) -/
  bad : Bool := false
deriving DecidableEq, Repr

/-- A violation of a check rule (Table 7.3). -/
structure Violation where
  rule : Nat
  aidx : Nat
  asub : Nat
  bidx : Nat
  bsub : Nat
deriving DecidableEq, Repr

/-- Commit engine (Chapter 7). -/
structure Commit where
  /-- Table 7.1 -/
  state : Nat := 0
  /-- mode and instant taken at acceptance (R303) -/
  atTime : Bool := false
  instant : Nat := 0
  /-- violations of the last check, at most 32 kept in the report -/
  report : List Violation := []
  /-- inputs of the running check were violated in this way, found at its start (R306) -/
  found : List Violation := []
  /-- t_ready, X and T (R311, R312) -/
  tReady : Nat := 0
  margin : Nat := 64
  fixTick : Nat := 0
  boundary : Nat := 0
  /-- MGT has abandoned a commit in its reset and has not yet set the cause (R328, R351) -/
  abandonDue : Bool := false
  /-- a Second holds the checked set (R315, R322) -/
  mirrored : Bool := false
  /-- start of the mirror timeout -/
  mirrorAt : Nat := 0
deriving DecidableEq, Repr

/-- An open transfer of a path (R257–R263). -/
structure Transfer where
  req : Nat
  write : Bool
  idx : Nat
  sub : Nat
  /-- the value being read, or the data collected so far -/
  data : Octets
  total : Nat
  /-- toggle of the next segment -/
  toggle : Nat
  /-- last frame the device sent for this transfer -/
  last : Octets
  /-- last segment sent or accepted -/
  any : Bool
  /-- completed read or write (R258, R259) -/
  done : Bool
  fd : Bool
  /-- the carrier the answers leave on -/
  carrier : Carrier
  /-- start of the transfer timeout (R262) -/
  since : Nat
deriving DecidableEq, Repr

/-- A session of a path (R787–R791). -/
structure Session where
  req : Nat
  level : Nat
  /-- acceptance of the last request -/
  last : Nat
deriving DecidableEq, Repr

/-- An outstanding challenge of a path. -/
structure Challenge where
  req : Nat
  level : Nat
  octets : Octets
  since : Nat
deriving DecidableEq, Repr

/-- One access path (Chapter 6; sessions of Chapter 20). -/
structure PathSt where
  xfer : Option Transfer := none
  session : Option Session := none
  challenge : Option Challenge := none
  /-- 1010h:5 and the last failure (R790) -/
  fails : Nat := 0
  failAt : Nat := 0
  /-- 1083h:1, 2001h:1 and 1010h:1, held per path (R236, R300, R801) -/
  query : Nat := 0
  squery : Nat := 0
  level : Nat := 0
  /-- ALSEQ of the next ALERT frame (R265) -/
  alseq : Nat := 0
  /-- SUMMARY of the last ALERT frame, branches risen since, whether a change waits for a frame -/
  sent : Nat := 0
  risen : Nat := 0
  due : Bool := false
  /-- last ALERT frame, once one has left -/
  alertAt : Option Nat := none
deriving DecidableEq, Repr

/-- A complete request that waits for the management core (R268): the MGT cycle in which it completed, its path and requester, and its
frame. -/
structure Request where
  cycle : Nat
  path : Nat
  req : Nat
  via : Carrier
  o : Octets
deriving DecidableEq, Repr

/-- CAN, 10BASE-T1S, mailbox and TAP beyond their objects (Chapter 6). -/
structure Access where
  /-- paths by code of 1082h:3 -/
  path : Map PathSt := []
  canState : Nat := 0
  /-- node address in use on the bus -/
  canNode : Nat := 16
  tecErr : Nat := 0
  recErr : Nat := 0
  /-- bit timing in use: the eight values of 1101h and 1102h:1–4 (R274) -/
  canTiming : List Nat := [10, 159, 40, 40, 5, 74, 25, 25]
  /-- a committed bit timing waits for bus idle -/
  canPending : Bool := false
  phyLink : Bool := false
  plca : Nat := 0
  /-- the condition of NETDOWN holds -/
  netDown : Bool := false
  /-- resolved next hops: address to MAC (R276) -/
  arp : Map Nat := []
  /-- datagrams that wait for a next hop -/
  arpWait : List Datagram := []
  /-- complete requests that wait for the management core, in order of arrival: the acceptance queue over the receive queues (R268, R269) -/
  queue : List Request := []
  /-- the mailbox claim: port, source identifier, claim value -/
  owner : Option (Nat × Nat × Nat) := none
  claimAt : Nat := 0
  mbStatus : Nat := 0
  reqLen : Nat := 0
  rspLen : Nat := 0
  request : Octets := []
  response : Octets := []
  /-- ALERT register of the window -/
  mbAlert : Nat := 0
  /-- latched TIME and TICK views per port (R283) -/
  timeView : Map Nat := []
  tickView : Map Nat := []
  /-- TAP: instruction register, segment insertion bit, boundary register -/
  tapIr : Nat := 1
  sib : Bool := false
  boundary : Octets := []
  jtagReq : Octets := []
  jtagRsp : Octets := []
  jtagRspLen : Nat := 0
  jtagState : Nat := 0
  /-- selected response word, or 64 for RSPLEN -/
  jtagSel : Nat := 0
deriving DecidableEq, Repr

/-- The always-on alert latch and the pin (Chapter 8). -/
structure Alerts where
  /-- latch copies of causes and children, by object key (R341) -/
  latch : Map Nat := []
  /-- latch words whose parity is bad (R348) -/
  badParity : List Nat := []
  /-- latch copy of the committed masks, by branch; empty until step 7 (R342) -/
  masks : Map Nat := []
  /-- ALERT_N is driven low (R340) -/
  driven : Bool := false
  /-- the unmasked summary as the ALERT frames last saw it (R264) -/
  summary : Nat := 0
  /-- the MGT cycle that the three fields below speak of (R338) -/
  cycle : Nat := 0
  /-- bits that events have set, and bits that clears have taken, in that cycle, by object key -/
  raised : Map Nat := []
  cleared : Map Nat := []
  /-- before the first clear of that cycle: ALERT_N was driven, the summary, and each path's due frame with its risen branches -/
  before : Option (Bool × Nat × List (Bool × Nat)) := none
deriving DecidableEq, Repr

/-- Life cycle, keys, vault contents and tamper (Chapter 20). [DESIGN CHOICE, log entry 6] -/
structure Security where
  /-- programmed fuses of each group of R780: PROVISIONED, DEPLOYED, RETURNED, SCRAPPED -/
  fuses : List Nat := [0, 0, 0, 0]
  /-- the state as last read (1001h:1) -/
  lcs : Nat := 0
  /-- K3 read back with a good fuse check (9000h:1 [1]); the serial number has been read -/
  k3Ok : Bool := false
  /-- value fuses of KI, its VALID fuse, and 9020h:2 with the value being programmed -/
  ki : Nat := 0
  kiValid : Bool := false
  kiState : Nat := 0
  kiNew : Nat := 0
  /-- value fuses of the pair identity, its VALID fuse, and the value being programmed -/
  pairId : Nat := 0
  pairValid : Bool := false
  pairProg : Option Nat := none
  /-- transition: 1001h:3 and its target -/
  trState : Nat := 0
  trTarget : Nat := 0
  /-- operator key in region 0 of BV, and the sealed records by number -/
  k1 : Option Octets := none
  records : Map Octets := []
  /-- regions of BV that hold an uncorrectable word (R805) -/
  badRegion : List Nat := []
  /-- life-cycle tag of the vault (R783), 5410h:1 and 5410h:2, start of the wipe in progress -/
  vaultTag : Nat := 0
  vaultState : Nat := 0
  wipeReason : Nat := 0
  wipeAt : Nat := 0
  /-- reason in the always-on wipe-pending latch -/
  wipePending : Option Nat := none
  /-- AON copy of 9010h:1 (R798) -/
  tamperCtl : Nat := 0x53
  /-- the committed value on its way to the copy, and the AON cycle in which it reaches it (R802) -/
  tamperNext : Option (Nat × Nat) := none
  /-- filtered levels of TAMPER_N[1:0] -/
  tamper0 : Bool := false
  tamper1 : Bool := false
  /-- AON cycle of the last tamper event (R800, Table 2.16) -/
  tamperAt : Option Nat := none
  tamperCount : Nat := 0
  /-- the log, newest first -/
  tamperLog : List Nat := []
  entropyOk : Bool := false
  /-- challenges issued since POR -/
  challenges : Nat := 0
deriving DecidableEq, Repr

/-- One die-to-die port (Chapter 9). -/
structure PortSt where
  /-- STATE of Table 9.12: 0 DISABLED … 9 FAILED -/
  st : Nat := 1
  rate : Nat := 0
  gen : Nat := 0
  width : Nat := 0
  repaired : Bool := false
  tap : Bool := false
  caching : Bool := false
  home : Bool := false
  admitted : Bool := false
  sidBase : Nat := 0
  agents : Nat := 0
  ocap : Nat := 0
  latency : Nat := 0
  result : Nat := 0
  /-- phase of Table 9.4 in progress, 0 when none; attempts made; start of the attempt -/
  phase : Nat := 0
  attempt : Nat := 0
  attemptAt : Nat := 0
  /-- the next attempt is due 100 µs after this real time (R363) -/
  retryAt : Option Nat := none
  crinitIn : Bool := false
  ready : Bool := false
  /-- tick at which training completed (R376) -/
  trainedAt : Nat := 0
  /-- receiver: next expected FSEQ, a sequenced flit has been accepted, NAK sent in this episode (R368) -/
  rxSeq : Nat := 0
  rxAny : Bool := false
  rxNak : Bool := false
  /-- sender: next FSEQ and the unacknowledged flits, oldest first (R370) -/
  txSeq : Nat := 0
  held : List (Nat × Octets) := []
  /-- consecutive replays from one FSEQ (R371) -/
  repSeq : Nat := 0
  repCount : Nat := 0
  /-- replay episodes in the 1 ms window numbered `epWin` (R371) -/
  epWin : Nat := 0
  epCount : Nat := 0
  /-- message slots received of the message in progress, and how many are still to come (R367) -/
  partialSlots : Octets := []
  cont : Nat := 0
  /-- credits the neighbour has granted, by virtual channel -/
  creditOut : Map Nat := []
  /-- credits to return in coming flits, and returned since CRINIT -/
  creditDue : Map Nat := []
  creditRet : Map Nat := []
  /-- credits received since CRINIT, for the device's own ECHO count -/
  creditGot : Map Nat := []
  /-- totals sent in the last EPOCH and its number, while its ECHO is awaited (R377) -/
  epochNo : Option Nat := none
  epochTot : List Nat := []
  /-- messages that wait for credits or for room among the held flits, in the order of each channel -/
  txq : List LinkMsg := []
  /-- control messages that wait for room among the held flits: CTYPE, FLAGS, EPOCHNO (R370) -/
  ctrlq : List (Nat × Nat × Nat) := []
  /-- QUIESCE has been sent at this real time (R388) -/
  quiesceAt : Option Nat := none
  /-- the last training applied lane repair or width degradation -/
  wasRepaired : Bool := false
  wasNarrow : Bool := false
deriving DecidableEq, Repr

/-- A snoop the capture home awaits the answer of (R405, R440). -/
structure Snoop where
  sid : Nat
  /-- SNP_INV rather than SNP_SHR -/
  inv : Bool
  /-- its TAG; 4096 while it waits for one that no other snoop to the agent has (R399) -/
  tag : Nat
  since : Nat
deriving DecidableEq, Repr

/-- A transaction of the capture home on one line (R404–R413). -/
structure Txn where
  port : Nat
  /-- the request being served; none for a recall or a back-invalidation -/
  req : Option LinkMsg
  snoops : List Snoop
  /-- agents whose crossed WB_D is awaited, and since when (R412) -/
  wbHold : List (Nat × Nat)
  /-- the recall of a line: returned dirty data is discarded (R420) -/
  recalling : Bool
deriving DecidableEq, Repr

/-- A request that waits at the capture home (R404): the victim whose entry it waits for (R415), and whether more requests
for its line are visible in the same FAB cycle (R417). -/
structure Waiter where
  line : Nat
  port : Nat
  msg : LinkMsg
  victim : Option Nat
  group : Bool
  /-- it has been counted at F048h:14, and waits for a way (R415) -/
  noWay : Bool := false
deriving DecidableEq, Repr

/-- One snoop-filter entry (R414). -/
structure FilterEntry where
  way : Nat
  /-- 1 S, 2 EM -/
  st : Nat
  owner : Nat
  holders : List Nat
  used : Bool
  recalling : Bool
deriving DecidableEq, Repr

/-- One line of the descriptor cache (R427): 1 S, 2 E, 3 M. -/
structure DescLine where
  st : Nat
  data : Octets
  /-- port of the home -/
  port : Nat
deriving DecidableEq, Repr

/-- One request of the device caching agent (R429). -/
structure DevReq where
  line : Nat
  port : Nat
  opc : Nat
  /-- the unit that asked: 0 a line of a spill frame, 1 descriptor read, 2 descriptor write, 4 producer line, 5 consumer line -/
  unit : Nat
  arg : Nat
  data : Octets
  since : Nat
deriving DecidableEq, Repr

/-- Capture home and device caching agent (Chapter 10). -/
structure Coh where
  /-- snoop-filter entries by line address -/
  filter : Map FilterEntry := []
  /-- transactions by line address -/
  txn : Map Txn := []
  /-- requests that wait, oldest first (R404) -/
  waiting : List Waiter := []
  /-- REQ messages that wait in their port's receive buffer while the tracker is full, oldest first: port, message, and whether its
  credits are held back (R432, R433) -/
  inbox : List (Nat × LinkMsg × Bool) := []
  highWater : Nat := 0
  rot : Nat := 0
  desc : Map DescLine := []
  /-- outstanding requests of the device caching agent, by TAG -/
  reqs : Map DevReq := []
  /-- unacknowledged WB messages of the device caching agent, by TAG: line and port -/
  wbs : Map DevReq := []
  nextTag : Nat := 0
  eventAddr : Nat := 0
  eventSid : Nat := 0
  eventKind : Nat := 0
  /-- agents whose WB_D or EVICT_C arrived while a snoop to them was outstanding: line and SID (R412, R413) -/
  crossed : List (Nat × Nat) := []
  /-- lines written by capture writes and not yet settled (R425) -/
  unsettled : List Nat := []
  /-- snoops of foreign homes deferred until a grant arrives: port and message (Table 10.5) -/
  deferred : List (Nat × LinkMsg) := []
  /-- requests of units that wait for one of the 64 places, or for their line (R403, R429) -/
  devWait : List DevReq := []
  /-- evictions that wait for one of the 16 places of WB messages (R429) -/
  wbWait : List DevReq := []
  /-- completions the units have not yet taken: request, result (0 data, 1 ERR_ADDR, 2 ERR_GONE, 3 poisoned), data -/
  done : List (DevReq × Nat × Octets) := []
deriving DecidableEq, Repr

/-- A set of records in reception on the camp channel (R752). -/
structure RxSet where
  number : Nat
  /-- 0 CATCHUP, 1 COMMIT -/
  kind : Nat
  count : Nat
  records : List Octets
  /-- SET_END has closed it with a good CRC -/
  whole : Bool
deriving DecidableEq, Repr

/-- A camp segment that awaits its acknowledgement (R751). -/
structure CampSeg where
  seq : Nat
  urgent : Bool
  data : Octets
deriving DecidableEq, Repr

/-- Pair redundancy (Chapter 19). -/
structure Pair where
  /-- Table 19.1 -/
  role : Nat := 0
  /-- Table 19.6 -/
  catchup : Nat := 0
  /-- 8001h:3; on a Lead, ELIG of the partner's last frame -/
  eligible : Bool := false
  run : Nat := 0
  partner : Nat := 1
  partnerId : Nat := 0
  aligned : Bool := false
  /-- lanes locked, and lanes in loss of signal -/
  lanes : Nat := 0
  los : Nat := 0
  /-- consecutive frames that passed FCRC, and consecutive frames with an invalid header (R749) -/
  good : Nat := 0
  invalid : Nat := 0
  latency : Nat := 0
  /-- tick of the last DATA frame with a good FCRC; the timer runs -/
  frameAt : Nat := 0
  hbRun : Bool := false
  /-- real time of the start of the loss of signal in progress, and its 1 ms has passed (R772) -/
  losAt : Option Nat := none
  losLong : Bool := false
  /-- tick l of R765 and the eligibility at its start -/
  losTick : Option Nat := none
  losElig : Bool := false
  /-- TICKLO of the last frame received, and the tick of its receipt -/
  lastLo : Nat := 0
  lastRx : Nat := 0
  /-- REF loss is declared on the phase reference net (R765) -/
  refLost : Bool := false
  mirrorFail : Bool := false
  campReset : Bool := false
  tickReset : Bool := false
  /-- the partner's catch-up state by PROGRESS; absent from mirroring until its next SET_ACK (R763) -/
  secondState : Nat := 0
  absent : Bool := true
  /-- send streams of the camp channel -/
  txUrgent : Octets := []
  txBulk : Octets := []
  unacked : List CampSeg := []
  /-- how many of them still have to be sent again (R751) -/
  resend : Nat := 0
  txSeq : Nat := 0
  ackTick : Nat := 0
  resends : Nat := 0
  /-- receive side: next segment expected, and the octets of unfinished messages -/
  rxSeq : Nat := 0
  rxUrgent : Octets := []
  rxBulk : Octets := []
  rxSet : Option RxSet := none
  /-- number of the last set sent, and the commit set that awaits its SET_ACK -/
  setNo : Nat := 0
  /-- kind of the last set sent: 0 CATCHUP, 1 a commit's -/
  setKind : Nat := 0
  /-- boundary announced for the set received -/
  boundary : Option Nat := none
  /-- port status words that the partner reports, and those last reported to it, by number (Table 19.5) -/
  partnerPorts : Map Nat := []
  sentPorts : Map Nat := []
  /-- H24–H31 of sample ticks, as AUX gave them (R759) -/
  aux : Map Nat := []
  /-- own state words, and H24–H31, of the last release ticks -/
  words : Map Nat := []
  ownAux : Map Nat := []
  /-- yield tick X of an accepted handover -/
  yieldAt : Option Nat := none
  /-- first tick of the last Rope frame sent -/
  txT0 : Option Nat := none
  /-- a Second waits in TRIG_WAIT for a snapshot (R758) -/
  snapDue : Bool := false
  /-- last release tick compared -/
  compared : Nat := 0
  /-- tick of the Lead's last start of capture, as mirrored by ARM -/
  leadStart : Option Nat := none
deriving DecidableEq, Repr
/-- An open TIME exchange (R466, R467). -/
structure Exchange where
  tag : Nat
  /-- package time at which the T_PING left, in 2^-32 ns -/
  t1 : Nat
  /-- tick in which it left -/
  sent : Nat
  /-- EPOCH expected when it left; none after a T_SET that is not confirmed -/
  expect : Option Nat
  /-- a step has been sent since it left: discarded for EPOCH (Table 11.15) -/
  spoiled : Bool
deriving DecidableEq, Repr

/-- One time source (R464–R468, Table 11.11). -/
structure SourceSt where
  present : Bool := false
  set : Bool := false
  meas : Bool := false
  late : Bool := false
  /-- the EPOCH the device expects -/
  epoch : Nat := 0
  /-- theta in 2^-16 ns and delay in ps -/
  theta : Int := 0
  delay : Nat := 0
  open_ : Option Exchange := none
  /-- TAGs of the exchanges that have expired, as far as no later exchange has taken them (R467) -/
  lateTags : List Nat := []
  tag : Nat := 0
  /-- servo frame in which the next T_PING is due -/
  nextPing : Nat := 0
  /-- the outstanding phase step, in 2^-16 ns -/
  step : Option Int := none
  /-- a T_SET is outstanding -/
  setting : Bool := false
  /-- the held step -/
  held : Option Int := none
  /-- TRIM last sent -/
  trim : Int := 0
  /-- a measurement has become visible since loop Ss last latched one -/
  fresh : Bool := false
  /-- the next computation of loop Ss is its first after a T_SET (R509, R523) -/
  rearm : Bool := false
deriving DecidableEq, Repr

/-- Rows of the slice store that one tap has written with one value: sample ticks `a` to `b` (R531). -/
structure TapSeg where
  a : Nat
  b : Nat
  value : Nat
  /-- reason of 3008h, 0 for no poison -/
  why : Nat
deriving DecidableEq, Repr

/-- One tap entry with its alignment queue (Table 11.10, Table 13.5). -/
structure TapSt where
  /-- STATE of Table 11.10 -/
  st : Nat := 0
  /-- TDESC of the tap, as read at the last admission -/
  width : Nat := 0
  interval : Nat := 0
  chg : Bool := false
  ctr : Nat := 0
  /-- the TCTL write has completed; when a repetition of it is due -/
  tctl : Bool := false
  /-- a TCTL write is due (R457) -/
  due : Bool := false
  retryAt : Option Nat := none
  /-- STATE of Table 13.5 -/
  q : Nat := 0
  /-- t_c has passed, so J is fixed -/
  ready : Bool := false
  join : Nat := 0
  /-- the first tick that the source has not established: coverage end c plus one -/
  cov : Nat := 1
  /-- package time of the coverage end, in 2^-16 ns -/
  covTime : Option Nat := none
  last : Option Nat := none
  /-- reason that poisoned the last value -/
  lastWhy : Nat := 0
  /-- reason of the gap flag, 0 when it is clear -/
  gap : Nat := 0
  /-- slots in the alignment queue at the tick `occAt`, and the most since its last reset -/
  occ : Nat := 0
  occAt : Nat := 0
  peak : Nat := 0
  margin : Option Int := none
  /-- 3008h -/
  reason : Nat := 0
  rows : List TapSeg := []
deriving DecidableEq, Repr

/-- What a die's TCAP and TDESC registers read at admission (Table 11.2): the TDESC words of its taps and the number of
its counters. [DESIGN CHOICE, log entry 62] -/
structure DieSt where
  taps : List Nat
  counters : Nat
deriving DecidableEq, Repr

/-- A change that a mirroring pair applies 1,024 ticks after its decision (R757). -/
inductive Delayed where
  /-- the PPS terms and the tick at whose end the slew term ends -/
  | adj (at_ : Nat) (rate slew : Int) (slewEnd : Option Nat)
  /-- the T_ADJ phase step of a source -/
  | step (at_ source : Nat) (delta : Int)
  /-- the T_SET of a source -/
  | set (at_ source : Nat)
deriving DecidableEq, Repr
/-- The time base (Chapter 11). -/
structure TimeBase where
  /-- the tick counter runs (R158); the ticks since it last began at 0: its 64 bits, which every register and message shows, are
  this number modulo 2^64 (R451) -/
  tickRun : Bool := false
  tick : Nat := 0
  /-- the last credit epoch boundary taken (R376) -/
  epochAt : Nat := 0
  /-- state BRIDGING (R453) -/
  bridging : Bool := false
  /-- ticks of the REF cycle in which bridging began that had passed by then (R453) -/
  bridgeLead : Nat := 0
  /-- package time runs (R452), and its value in units of 2^-32 ns (R449) -/
  ptRun : Bool := false
  pt : Nat := 0
  /-- the PPS rate term and the PPS slew term of ADJ (R450) -/
  rate : Int := 0
  slew : Int := 0
  /-- tick at whose end the slew term ends (R476) -/
  slewEnd : Option Nat := none
  /-- earlier values of ADJ, newest first, each with the tick at which it ended -/
  past : List (Nat × Int) := []
  /-- bit WRITTEN (R472) -/
  written : Bool := false
  /-- tick of the last write of package time -/
  writtenAt : Option Nat := none
  /-- an armed AT_PPS write: its value in 2^-32 ns and its boundary T -/
  atPps : Option (Nat × Nat) := none
  /-- a time write that waits for step 12: mode, value in 2^-32 ns, negative (R452) -/
  heldWrite : Option (Nat × Nat × Bool) := none
  /-- 6005h:1 in 2^-16 ns and 6005h:2 -/
  ppsErr : Int := 0
  ppsState : Nat := 0
  /-- consecutive edges with |e| ≤ 100 ns -/
  ppsGood : Nat := 0
  /-- errors of the consecutive edges outside the window, newest first, in 2^-32 ns -/
  ppsOut : List Int := []
  /-- the watched whole second (R478) -/
  watch : Option Nat := none
  /-- real time of the last inside edge, or of the start of the watch -/
  lastInside : Nat := 0
  /-- PPS_OUT is high, when it falls, and the second it next rises for (R479) -/
  outHigh : Bool := false
  outFall : Nat := 0
  outNext : Option Nat := none
  source : Map SourceSt := []
  tap : Map TapSt := []
  /-- dies behind the ports, as last read -/
  die : Map DieSt := []
  /-- H in effect, the sample tick of the last slice and the tick of its release (R534, R545) -/
  horizon : Nat := 512
  lastSlice : Nat := 0
  lastRelease : Option Nat := none
  /-- empty slices still to come after an increase of H -/
  empties : Nat := 0
  /-- PZ of the last slice released -/
  poisoned : Nat := 0
  /-- changes that wait for their delayed application, earliest first (R757) -/
  delayed : List Delayed := []
deriving DecidableEq, Repr

/-- One Belay loop beyond its objects (Chapter 12). -/
structure LoopSt where
  /-- STATE of Table 12.6 -/
  st : Nat := 0
  reenable : Bool := false
  miss : Bool := false
  follow : Bool := false
  sat : Bool := false
  /-- frame in which the following-error timer started (R506) -/
  feStart : Option Nat := none
  /-- consecutive computations inside the lock window (R505), and consecutive misses (R500) -/
  lockCount : Nat := 0
  missRun : Nat := 0
  e : Int := 0
  /-- actuator value applied, and the value that cycle 0 of the next frame applies -/
  u : Int := 0
  uNext : Option Int := none
  /-- integrator and derivative, Q32.16 -/
  i : Int := 0
  d : Int := 0
  /-- past compensator inputs and outputs, newest first -/
  xs : List Int := []
  ws : List Int := []
  /-- histories of the notch sections: x[n-1], x[n-2], z[n-1], z[n-2] of each, Q32.16 -/
  notch1 : List Int := []
  notch2 : List Int := []
  /-- HELD by a phase step that is not confirmed (R509) -/
  stepHeld : Bool := false
  /-- last measurement latched, and whether a new one has been latched since the last computation -/
  y : Int := 0
  fresh : Bool := false
  /-- the unit was present in the last frame -/
  was : Bool := false
  /-- NOLOCK has been set in this boot (R515), or the loop has locked since step 13 began -/
  started : Bool := false
deriving DecidableEq, Repr

/-- The recalibration sweep (R513). -/
structure SweepSt where
  loop : Nat
  k : Nat
  steps : Nat
  settle : Nat
  /-- frame from which the measurement may be recorded -/
  ready : Nat
  /-- actuator before the sweep -/
  saved : Int
deriving DecidableEq, Repr

/-- The Belay engine (Chapter 12). -/
structure Belay where
  /-- number of the next frame, and the real time at which frame 0 began -/
  frame : Nat := 0
  startAt : Option Nat := none
  lastCycles : Nat := 16
  peakCycles : Nat := 16
  loop : Map LoopSt := []
  /-- loops whose missed computation has not yet taken effect (R498) -/
  missed : List Nat := []
  /-- an uncorrectable coefficient error ended these computations (R520) -/
  broken : List Nat := []
  sweep : Option SweepSt := none
  /-- LOCKED, FOLLOW, SAT and MISS vectors (R507) -/
  flags : List Nat := [0, 0, 0, 0]
  /-- eye measurements of the probe granules not yet latched: granule and y (R564) -/
  eyes : Map Int := []
  /-- real time at which the lock limit of step 13 expires -/
  lockBy : Option Nat := none
  /-- last TRIM sent per source is kept with the source; the deskew codes and the DAC follow `u` -/
  temp : Int := 0
deriving DecidableEq, Repr

/-- What a motion decoder reports from a sample tick on (R573–R581). [DEDUCED, log entry 64] -/
structure MotionRec where
  tick : Nat
  pos : Int
  speed : Int
  /-- interval of R578 and tick of the last counted edge, for the decay of R579 -/
  interval : Nat
  edgeAt : Nat
  mev : Nat
  /-- the decoder runs (STATE of Table 14.5) -/
  running : Bool := true
  /-- bits 6 to 0 of the decoder status word (Table 14.5) -/
  word : Nat := 0
  /-- deviation of the last mismatch, mismatch count and last index position (R577, R581) -/
  deviation : Int := 0
  mismatches : Nat := 0
  lastIndex : Int := 0
deriving DecidableEq, Repr

/-- One motion decoder (Chapter 14). -/
structure Decoder where
  running : Bool := false
  startAt : Nat := 0
  pos : Int := 0
  speed : Int := 0
  interval : Nat := 0
  /-- tick of the last counted edge since the start or since STILL -/
  edgeAt : Option Nat := none
  /-- tick from which the standstill time counts -/
  stillFrom : Nat := 0
  /-- filtered inputs at the last unpoisoned tick -/
  a : Bool := false
  b : Bool := false
  z : Bool := false
  /-- Z has risen and its qualification is awaited (R576) -/
  zWait : Bool := false
  still : Bool := true
  reverse : Bool := false
  neg : Bool := false
  phaseErr : Bool := false
  indexed : Bool := false
  mismatched : Bool := false
  reloaded : Bool := false
  deviation : Int := 0
  mismatches : Nat := 0
  skips : Nat := 0
  lastIndex : Int := 0
  /-- newest first -/
  hist : List MotionRec := []
deriving DecidableEq, Repr

/-- One probe granule beyond its objects. -/
structure GranuleSt where
  closed : Bool := false
  meas : Bool := false
  early : Nat := 0
  late : Nat := 0
  /-- sample tick at which the settling ends (R562) -/
  settleTo : Nat := 0
deriving DecidableEq, Repr

/-- Probe bank, cross-trigger pins and decoders (Chapter 14). -/
structure Probe where
  /-- the bank samples (R589) -/
  on : Bool := false
  granule : Map GranuleSt := []
  /-- intervals of sample ticks in which granules are poisoned PROBE: granule mask, first tick, end -/
  bad : List (Nat × Nat × Option Nat) := []
  /-- GP of the last sample tick in STATE mode (R560) -/
  gp : Nat := 0
  /-- levels of XTRIG_IN as captured, and of XTRIG_OUT before INVERT -/
  xin : Nat := 0
  xout : Nat := 0
  /-- tick in which a pulse ends, by pin (R569) -/
  pulse : Map Nat := []
  decoder : Map Decoder := []
deriving DecidableEq, Repr

/-- Values of the sources that are attributed to sample ticks outside the slice (Table 15.3), newest first: each a sample
tick and the value from it on; and pulses with their sample ticks. -/
structure Signals where
  xtrig : List (Nat × Nat) := []
  /-- the four flag vectors of the Belay engine -/
  flags : Map (List (Nat × Nat)) := []
  /-- levels of the Rope events (Table 19.10) -/
  rope : List (Nat × Nat) := []
  pps : List Nat := []
  /-- Rope event pulses: sample tick, code -/
  ropePulse : List (Nat × Nat) := []
  /-- matches of H24–H27: sample tick, mask of holds -/
  fabric : List (Nat × Nat) := []
deriving DecidableEq, Repr

/-- The slice of a sample tick (Table 13.3). -/
structure Slice where
  k : Nat := 0
  /-- D: 4,160 channels -/
  d : Nat := 0
  /-- PZ: 520 granules -/
  pz : Nat := 0
  sub : Nat := 0
  clkv : Bool := false
  clkpos : Nat := 0
  /-- of M0–M3, 8 bits each -/
  mev : Nat := 0
  mpos : List Int := [0, 0, 0, 0]
  mspd : List Int := [0, 0, 0, 0]
  mpz : Nat := 0
deriving DecidableEq, Repr

/-- One trigger timer. -/
structure TimerSt where
  running : Bool := false
  start : Nat := 0
  elapsed : Nat := 0
  /-- the tick of the last expiry that a command of its own has brought and counted (R602) -/
  seen : Option Nat := none
deriving DecidableEq, Repr

/-- The trigger sequencer (Chapter 15). -/
structure Trigger where
  /-- Table 15.1 -/
  st : Nat := 0
  level : Nat := 0
  armAt : Nat := 0
  /-- D of the last disarm; a disarm is pending -/
  disarmAt : Nat := 0
  disarming : Bool := false
  value : List Nat := [0, 0, 0, 0, 0, 0, 0, 0]
  timer : Map TimerSt := []
  gate : Bool := false
  summitAt : Nat := 0
  summitK : Nat := 0
  summitTime : Nat := 0
  summitBranch : Nat := 0
  word : Nat := 0
  /-- hold values after policy, holds poisoned, flags -/
  holds : Nat := 0
  poisoned : Nat := 0
  flags : Nat := 0
  /-- the last slice released, none before the first -/
  prev : Option Slice := none
  /-- the last arm, by its tick and whether it was a re-arm, and the tick of the last disarm: for the markers of R634 -/
  armMark : Option (Nat × Bool) := none
  disarmMark : Option Nat := none
deriving DecidableEq, Repr
/-- One capture bank, or BV as number 48 (Chapter 17). -/
structure BankSt where
  /-- Table 17.2 -/
  st : Nat := 0
  /-- where the transition in progress ends: 0 READY, 3 RETENTION, 4 OFF -/
  target : Nat := 0
  /-- real time at which the transition in progress began -/
  since : Nat := 0
  /-- the bank wakes from Off or FAILED, so ZEROING follows -/
  zeroNext : Bool := false
  /-- 5403h: 0 NOT_RUN, 1 PASS, 2 PASS_REPAIRED, 3 FAIL -/
  bist : Nat := 0
  /-- spares mapped at run time, by subarray (R679) -/
  soft : Map Nat := []
  /-- columns replaced by a spare, as subarray × 512 + column -/
  spared : List Nat := []
  /-- failing columns without a spare, as subarray × 512 + column (R679) -/
  bare : List Nat := []
deriving DecidableEq, Repr

/-- A line of the background test's save buffer (R684, R685). -/
structure SaveLine where
  data : Octets
  poison : Bool
  /-- an uncorrectable word of the save buffer (R692) -/
  bad : Bool
deriving DecidableEq, Repr

/-- Capture memory (Chapter 17). [DESIGN CHOICE, log entry 7] -/
structure Memory where
  /-- the fuse load has mapped the fused spares (R678) -/
  fused : Bool := false
  /-- octets of the capture banks by region offset, in canonical form: an octet that reads 0 is not listed -/
  cells : List Host.Cell := []
  /-- lines whose poison bit is set, by region offset, rising -/
  poison : List Nat := []
  /-- words with a single-bit error and words with an uncorrectable error, by offset of the word -/
  single : List Nat := []
  double : List Nat := []
  bank : Map BankSt := []
  /-- background test: phase of 5401h:1, bank, region, passes, abandons of the current region -/
  phase : Nat := 0
  tbank : Nat := 0
  tregion : Nat := 0
  /-- where the next step goes: 0 to the region shown, 1 on to the next, 2 to the first region of a new pass (R684) -/
  visited : Nat := 0
  passes : Nat := 0
  abandons : Nat := 0
  /-- the step in progress is abandoned (R686) -/
  abandoned : Bool := false
  /-- save buffer by line within the region -/
  save : Map SaveLine := []
  /-- the next step is due at this real time -/
  nextStep : Nat := 0
  /-- real time at which the phase in progress has made its word operations, when no foreground access keeps it waiting (Table 17.5) -/
  phaseEnd : Nat := 0
  faultBank : Nat := 0
  faultSub : Nat := 0
  faultCol : Nat := 0
  faultRow : Nat := 0
  faultSrc : Nat := 0
deriving DecidableEq, Repr

/-- A pending GAP (R641). -/
structure Gap where
  /-- 1 BANDWIDTH, 2 SPILL -/
  src : Nat
  count : Nat
  /-- first lost sample tick -/
  first : Nat
deriving DecidableEq, Repr

/-- One ring window (Chapter 16). -/
structure WindowSt where
  /-- STATE as 5030h + w:1 gives it while the window is enabled: 0 none stored since the start (reads IDLE), 2 STORING,
  3 PAUSED, 4 POST, 5 FROZEN, 6 FAULT -/
  st : Nat := 0
  /-- a tick has been stored since the start -/
  had : Bool := false
  wpos : Nat := 0
  summitLine : Option Nat := none
  summit : Bool := false
  summitLost : Bool := false
  wrapped : Bool := false
  lost : Nat := 0
  gap : Option Gap := none
  /-- a block is open: its octets so far and the tick K of its latest TIME record -/
  open_ : Bool := false
  cur : Octets := []
  curK : Nat := 0
  /-- a package-time write or step has applied since the last stored tick (R633) -/
  timeDue : Bool := false
  /-- the last release tick was not stored, or its data was discarded (R638) -/
  keyDue : Bool := true
  /-- release tick of the last record placed (R636) -/
  lastRec : Nat := 0
  /-- release tick at whose end the window freezes (R628) -/
  freezeAt : Option Nat := none
  /-- the window's last start fell at the same tick as the Lead's (R766) -/
  inStep : Bool := false
  /-- sequence numbers of the blocks closed and the octets each used, newest first, as far as they are intact -/
  closed : List (Nat × Nat) := []
deriving DecidableEq, Repr

/-- A line in the write buffer (R639): the window, or 16 when it has started anew since, position, region offset, data. [DEDUCED, log entry 69] -/
structure BufLine where
  win : Nat
  pos : Nat
  off : Nat
  data : Octets
deriving DecidableEq, Repr

/-- A frame of a spill stream in flight (R644–R648). -/
structure SpillFrame where
  /-- number of the frame among all frames of the stream, by which its answers find it -/
  id : Nat
  block : Nat
  lane : Nat
  /-- the capture frame, padded, once encoded -/
  octets : Octets := []
  ulen : Nat := 0
  flen : Nat := 0
  encoded : Bool := false
  /-- lines whose WR_ACK is still to come -/
  acks : Nat := 0
  /-- the producer line has been sent -/
  prodSent : Bool := false
deriving DecidableEq, Repr

/-- One spill stream. -/
structure StreamSt where
  /-- 5110h + s:1 holds WAITSPACE (3) or ERROR (4); 1 otherwise -/
  st : Nat := 1
  next : Nat := 0
  /-- checkpointed values -/
  produced : Nat := 0
  consumed : Nat := 0
  frames : Nat := 0
  lost : Nat := 0
  error : Nat := 0
  lostNew : Bool := false
  flight : List SpillFrame := []
  /-- number of the next frame -/
  nextId : Nat := 0
  /-- real time of the last reread of the consumer line, and one is outstanding -/
  reread : Option Nat := none
  rereading : Bool := false
  ulenTotal : Nat := 0
  frameTotal : Nat := 0
deriving DecidableEq, Repr

/-- Storage writer and spill engine (Chapter 16). -/
structure Storage where
  win : Map WindowSt := []
  stream : Map StreamSt := []
  /-- the write buffer, oldest line first -/
  buf : List BufLine := []
  peak : Nat := 0
  /-- store gate at the end of the last release tick -/
  gate : Bool := false
deriving DecidableEq, Repr

/-- A pending job (R712–R714). -/
structure Job where
  /-- the descriptor, once the device has read it -/
  desc : Octets := []
  /-- 1 the read of its descriptor is outstanding, 2 it is read, 3 running, 4 its write-back is outstanding, 5 its read
  failed, 6 completed, 7 cancelled while its descriptor was being read -/
  st : Nat := 0
  /-- lane it runs on, or 8 for the decompressor -/
  lane : Nat := 0
  /-- real time at which it started on its unit (R723), and its place in the order of starts (R710) -/
  since : Nat := 0
  order : Nat := 0
  /-- DETAIL of a failed read of the descriptor -/
  why : Nat := 0
deriving DecidableEq, Repr

/-- The compression engine (Chapter 18). -/
structure Comp where
  head : Nat := 0
  tail : Nat := 0
  /-- pending jobs by count modulo 32 -/
  job : Map Job := []
  /-- lanes that run: by lane number, the STATE and SOURCE of 5803h -/
  lane : Map (Nat × Nat) := []
  starts : Nat := 0
  lastSlot : Nat := 0
  lastStatus : Nat := 0
  lastDetail : Nat := 0
  /-- octets consumed by all lanes since the last evaluation of the demand (R724) -/
  consumed : Nat := 0
deriving DecidableEq, Repr

/-- The whole device. [DESIGN CHOICE, log entry 5] -/
structure State where
  /-- commands that wait, first in, first out -/
  pending : List Instr := []
  /-- what the device has handed outward, newest first -/
  out : List Output := []
  /-- how many free values have been drawn: the model's own field, no state of the spec -/
  free : Nat := 0
  /-- real time in ns since power was first applied: the model's own clock, which no register shows -/
  now : Nat := 0
  /-- the dictionary store: every object value that differs from its default, by index × 256 + subindex -/
  obj : Map Val := []
  /-- the staged set, oldest entry first (R297) -/
  staged : List Staged := []
  /-- words of the store known to be bad, by object key × 1024 + number of the word within the value (R245). [DESIGN CHOICE, log entry 75] -/
  badWords : List Nat := []
  /-- class O objects that have been committed in this boot or fused (R218), by object key -/
  written : List Nat := []
  /-- the lock of class K (R220) -/
  locked : Bool := false
  power : Power := {}
  clk : Clocks := {}
  boot : Boot := {}
  commit : Commit := {}
  acc : Access := {}
  alerts : Alerts := {}
  sec : Security := {}
  ports : Map PortSt := []
  coh : Coh := {}
  time : TimeBase := {}
  belay : Belay := {}
  probe : Probe := {}
  sig : Signals := {}
  trig : Trigger := {}
  pair : Pair := {}
  mem : Memory := {}
  sto : Storage := {}
  comp : Comp := {}
deriving DecidableEq, Repr

/-- The machine when power is first applied: POR asserted, every register at the value of its Default column, every
memory unlisted. [DESIGN CHOICE, log entry 5] -/
def State.reset : State := {}

end Sys2Proof.Machine
end

