-- ==== Sys2Proof/Machine/DictRows.lean ====
section
/-! DEFINITION. Sys2Proof/Machine/DictRows.lean: the object tables of the spec, one row per run of subindices that
share type, class, access, accepted values and default (R138, R194, R235, R287, R324, R346, R381, R436, R481, R516, R542,
R582, R616, R652, R689, R725, R769, R801), in blocks by the high octet of the index. The counts of R9 are rows too. -/
namespace Sys2Proof.Machine

/-- Object rows of the indices 1000h–10FFh, part 1. -/
def rows10_0 : List Row := [
  ⟨0x1000, 0x1000, 1, 1, .u16, .r, 0, 0, 0x7410, .any, 0xffff, 2⟩,
  ⟨0x1000, 0x1000, 2, 2, .u8, .r, 0, 0, 177, .any, 0xff, 1⟩,
  ⟨0x1000, 0x1000, 3, 3, .u64, .r, 0, 0, 0, .any, 0xffffffffffffffff, 8⟩,
  ⟨0x1001, 0x1001, 1, 1, .enum, .r, 0, 0, 0, .any, 0xffff, 2⟩,
  ⟨0x1001, 0x1001, 2, 2, .u32, .l, 0, 2, 0, .any, 0xffffffff, 4⟩,
  ⟨0x1001, 0x1001, 3, 3, .enum, .r, 0, 0, 0, .any, 0xffff, 2⟩,
  ⟨0x1010, 0x1010, 1, 1, .u8, .l, 0, 0, 0, .any, 0xff, 1⟩,
  ⟨0x1010, 0x1010, 2, 2, .octets, .r, 0, 0, 0, .any, 0x0, 32⟩,
  ⟨0x1010, 0x1010, 3, 3, .octets, .l, 0, 0, 0, .len 32, 0x0, 32⟩,
  ⟨0x1010, 0x1010, 4, 4, .u8, .r, 0, 0, 0, .any, 0xff, 1⟩,
  ⟨0x1010, 0x1010, 5, 5, .u8, .r, 0, 0, 0, .any, 0xff, 1⟩,
  ⟨0x1011, 0x1011, 1, 1, .u32, .s, 0, 2, 0x2710, .between 100 60000, 0xffffffff, 4⟩,
  ⟨0x1011, 0x1011, 2, 2, .u32, .s, 0, 2, 600, .between 10 86400, 0xffffffff, 4⟩,
  ⟨0x1011, 0x1011, 3, 3, .octets, .r, 0, 0, 0, .any, 0x0, 6⟩,
  ⟨0x1080, 0x1080, 0, 0, .u16, .r, 0, 0, 256, .any, 0xffff, 2⟩,
  ⟨0x1081, 0x1081, 1, 1, .u32, .l, 0, 2, 0, .oneOf [1280262987], 0xffffffff, 4⟩,
  ⟨0x1081, 0x1081, 2, 2, .bool, .r, 0, 0, 0, .any, 0xff, 1⟩,
  ⟨0x1082, 0x1082, 1, 1, .u32, .r, 0, 0, 0, .any, 0xffffffff, 4⟩,
  ⟨0x1082, 0x1082, 2, 2, .u16, .r, 0, 0, 0, .any, 0xffff, 2⟩,
  ⟨0x1082, 0x1082, 3, 3, .enum, .r, 0, 0, 0, .any, 0xffff, 2⟩]

/-- Object rows of the indices 1000h–10FFh, part 2. -/
def rows10_1 : List Row := [
  ⟨0x1083, 0x1083, 1, 1, .u32, .l, 0, 0, 0, .any, 0xffffffff, 4⟩,
  ⟨0x1083, 0x1083, 2, 2, .bits32, .r, 0, 0, 0, .any, 0xffffffff, 4⟩,
  ⟨0x1084, 0x1084, 1, 1, .u32, .o, 0, 2, 0, .any, 0xffffffff, 4⟩,
  ⟨0x1084, 0x1084, 2, 2, .octets, .k, 0, 2, 0, .any, 0x0, 32⟩]

/-- Object rows of the indices 1100h–11FFh, part 1. -/
def rows11_0 : List Row := [
  ⟨0x1100, 0x1100, 1, 1, .bool, .s, 0, 2, 1, .any, 0xff, 1⟩,
  ⟨0x1100, 0x1100, 2, 2, .u8, .s, 0, 2, 16, .between 1 254, 0xff, 1⟩,
  ⟨0x1100, 0x1100, 3, 3, .bool, .s, 0, 2, 1, .any, 0xff, 1⟩,
  ⟨0x1101, 0x1101, 1, 4, .u16, .s, 0, 2, 0, .any, 0xffff, 2⟩,
  ⟨0x1102, 0x1102, 1, 4, .u16, .s, 0, 2, 0, .any, 0xffff, 2⟩,
  ⟨0x1102, 0x1102, 5, 5, .bool, .s, 0, 2, 1, .any, 0xff, 1⟩,
  ⟨0x1102, 0x1102, 6, 6, .u16, .s, 0, 2, 75, .between 0 127, 0xffff, 2⟩,
  ⟨0x1103, 0x1103, 1, 1, .enum, .r, 0, 0, 0, .any, 0xffff, 2⟩,
  ⟨0x1103, 0x1103, 2, 2, .u16, .r, 0, 0, 0, .any, 0xffff, 2⟩,
  ⟨0x1103, 0x1103, 3, 3, .u16, .r, 0, 0, 0, .any, 0xffff, 2⟩,
  ⟨0x1103, 0x1103, 4, 4, .u16, .r, 0, 0, 0, .any, 0xffff, 2⟩,
  ⟨0x1104, 0x1104, 0, 0, .u8, .r, 0, 0, 4, .any, 0xff, 1⟩,
  ⟨0x1104, 0x1104, 1, 4, .u16, .l, 0, 2, 1000, .between 10 60000, 0xffff, 2⟩,
  ⟨0x1105, 0x1105, 1, 1, .bits16, .s, 0, 2, 7, .any, 0x7, 2⟩,
  ⟨0x1105, 0x1105, 2, 2, .u16, .s, 0, 2, 100, .between 10 10000, 0xffff, 2⟩,
  ⟨0x1110, 0x1110, 1, 1, .bool, .s, 0, 2, 1, .any, 0xff, 1⟩,
  ⟨0x1110, 0x1110, 2, 2, .octets, .s, 0, 2, 0, .len 6, 0x0, 6⟩,
  ⟨0x1110, 0x1110, 3, 3, .u32, .s, 0, 2, 0xc0a80a0a, .any, 0xffffffff, 4⟩,
  ⟨0x1110, 0x1110, 4, 4, .u32, .s, 0, 2, 0xffffff00, .any, 0xffffffff, 4⟩,
  ⟨0x1110, 0x1110, 5, 5, .u32, .s, 0, 2, 0, .any, 0xffffffff, 4⟩]

/-- Object rows of the indices 1100h–11FFh, part 2. -/
def rows11_1 : List Row := [
  ⟨0x1110, 0x1110, 6, 6, .u16, .s, 0, 2, 0xb932, .between 1 65535, 0xffff, 2⟩,
  ⟨0x1110, 0x1110, 7, 7, .u32, .s, 0, 2, 0, .any, 0xffffffff, 4⟩,
  ⟨0x1110, 0x1110, 8, 8, .u16, .s, 0, 2, 0xb932, .any, 0xffff, 2⟩,
  ⟨0x1111, 0x1111, 1, 1, .bool, .s, 0, 2, 1, .any, 0xff, 1⟩,
  ⟨0x1111, 0x1111, 2, 2, .u8, .s, 0, 2, 1, .between 0 31, 0xff, 1⟩,
  ⟨0x1111, 0x1111, 3, 3, .u8, .s, 0, 2, 8, .between 1 32, 0xff, 1⟩,
  ⟨0x1111, 0x1111, 4, 4, .u8, .s, 0, 2, 32, .any, 0xff, 1⟩,
  ⟨0x1111, 0x1111, 5, 5, .u8, .s, 0, 2, 0, .any, 0xff, 1⟩,
  ⟨0x1111, 0x1111, 6, 6, .u8, .s, 0, 2, 128, .any, 0xff, 1⟩,
  ⟨0x1112, 0x1112, 1, 1, .u8, .s, 0, 2, 0, .between 0 31, 0xff, 1⟩,
  ⟨0x1112, 0x1112, 2, 2, .bool, .r, 0, 0, 0, .any, 0xff, 1⟩,
  ⟨0x1112, 0x1112, 3, 3, .enum, .r, 0, 0, 0, .any, 0xffff, 2⟩,
  ⟨0x1120, 0x1120, 1, 1, .bool, .s, 0, 2, 1, .any, 0xff, 1⟩,
  ⟨0x1120, 0x1120, 2, 2, .u64, .s, 0, 2, 0x8000000000, .aligned 0 0xffffffffffffffff 65536 0, 0xffffffffffffffff, 8⟩,
  ⟨0x1120, 0x1120, 3, 3, .u16, .s, 0, 2, 1000, .between 10 60000, 0xffff, 2⟩,
  ⟨0x1120, 0x1120, 4, 4, .u32, .r, 0, 0, 0, .any, 0xffffffff, 4⟩,
  ⟨0x1130, 0x1130, 1, 1, .u32, .r, 0, 0, 0x174105bf, .any, 0xffffffff, 4⟩]

/-- Object rows of the indices 2000h–20FFh, part 1. -/
def rows20_0 : List Row := [
  ⟨0x2000, 0x2000, 1, 1, .u16, .r, 0, 0, 0, .any, 0xffff, 2⟩,
  ⟨0x2000, 0x2000, 2, 2, .u32, .r, 0, 0, 0, .any, 0xffffffff, 4⟩,
  ⟨0x2000, 0x2000, 3, 3, .u8, .r, 0, 0, 0, .any, 0xff, 1⟩,
  ⟨0x2001, 0x2001, 1, 1, .u32, .l, 0, 0, 0, .any, 0xffffffff, 4⟩,
  ⟨0x2001, 0x2001, 2, 2, .octets, .r, 0, 0, 0, .any, 0x0, 4096⟩,
  ⟨0x2001, 0x2001, 3, 3, .enum, .r, 0, 0, 0, .any, 0xffff, 2⟩,
  ⟨0x2002, 0x2002, 0, 0, .u32, .l, 0, 1, 0, .oneOf [1146244944], 0xffffffff, 4⟩,
  ⟨0x2003, 0x2003, 1, 1, .enum, .l, 0, 1, 0, .between 0 1, 0xffff, 2⟩,
  ⟨0x2003, 0x2003, 2, 2, .time80, .l, 0, 1, 0, .any, 0xffffffffffffffffffff, 10⟩,
  ⟨0x2003, 0x2003, 3, 3, .u16, .l, 0, 1, 0, .any, 0xffff, 2⟩,
  ⟨0x2003, 0x2003, 4, 4, .u32, .l, 0, 1, 0, .oneOf [1129270612], 0xffffffff, 4⟩,
  ⟨0x2003, 0x2003, 5, 5, .u32, .l, 0, 1, 0, .oneOf [1129202508], 0xffffffff, 4⟩,
  ⟨0x2004, 0x2004, 1, 1, .enum, .r, 0, 0, 0, .any, 0xffff, 2⟩,
  ⟨0x2004, 0x2004, 2, 2, .u32, .r, 0, 0, 0, .any, 0xffffffff, 4⟩,
  ⟨0x2004, 0x2004, 3, 3, .u64, .r, 0, 0, 0, .any, 0xffffffffffffffff, 8⟩,
  ⟨0x2004, 0x2004, 4, 4, .bool, .r, 0, 0, 0, .any, 0xff, 1⟩,
  ⟨0x2004, 0x2004, 5, 5, .enum, .r, 0, 0, 0, .any, 0xffff, 2⟩,
  ⟨0x2004, 0x2004, 6, 6, .u16, .r, 0, 0, 0, .any, 0xffff, 2⟩,
  ⟨0x2005, 0x2005, 0, 0, .u8, .r, 0, 0, 0, .any, 0xff, 1⟩,
  ⟨0x2005, 0x2005, 1, 32, .u64, .r, 0, 0, 0, .any, 0xffffffffffffffff, 8⟩]

/-- Object rows of the indices 2000h–20FFh, part 2. -/
def rows20_1 : List Row := [
  ⟨0x2010, 0x2010, 0, 0, .enum, .r, 0, 0, 0, .any, 0xffff, 2⟩,
  ⟨0x2011, 0x2011, 1, 1, .enum, .l, 0, 2, 1, .between 0 2, 0xffff, 2⟩,
  ⟨0x2011, 0x2011, 2, 2, .u8, .r, 0, 0, 0, .any, 0xff, 1⟩,
  ⟨0x2012, 0x2012, 0, 0, .u16, .s, 0, 2, 200, .between 100 10000, 0xffff, 2⟩,
  ⟨0x2013, 0x2013, 0, 0, .u8, .r, 0, 0, 8, .any, 0xff, 1⟩,
  ⟨0x2013, 0x2013, 1, 8, .u16, .s, 0, 2, 0, .between 0 10000, 0xffff, 2⟩,
  ⟨0x2014, 0x2014, 0, 0, .bits16, .s, 0, 2, 255, .any, 0xff, 2⟩,
  ⟨0x2016, 0x2016, 0, 0, .u16, .s, 0, 2, 1000, .between 0 10000, 0xffff, 2⟩,
  ⟨0x2017, 0x2017, 0, 0, .u32, .l, 0, 2, 0, .oneOf [1465013076], 0xffffffff, 4⟩,
  ⟨0x2018, 0x2018, 1, 1, .u8, .r, 0, 0, 0, .any, 0xff, 1⟩,
  ⟨0x2018, 0x2018, 2, 2, .u32, .r, 0, 0, 0, .any, 0xffffffff, 4⟩,
  ⟨0x2018, 0x2018, 3, 3, .u32, .r, 0, 0, 0, .any, 0xffffffff, 4⟩,
  ⟨0x2019, 0x2019, 0, 0, .u8, .r, 0, 0, 2, .any, 0xff, 1⟩,
  ⟨0x2019, 0x2019, 1, 2, .bits16, .r, 0, 0, 0, .any, 0x1ff, 2⟩,
  ⟨0x201A, 0x201A, 1, 2, .u32, .r, 0, 0, 0, .any, 0xffffffff, 4⟩,
  ⟨0x201B, 0x201B, 0, 0, .enum, .r, 0, 0, 0, .any, 0xffff, 2⟩,
  ⟨0x201C, 0x201C, 1, 1, .bool, .l, 0, 2, 0, .any, 0xff, 1⟩,
  ⟨0x201C, 0x201C, 2, 2, .enum, .r, 0, 0, 0, .any, 0xffff, 2⟩,
  ⟨0x201C, 0x201C, 3, 3, .enum, .r, 0, 0, 0, .any, 0xffff, 2⟩,
  ⟨0x201C, 0x201C, 4, 4, .enum, .r, 0, 0, 0, .any, 0xffff, 2⟩]

/-- Object rows of the indices 2000h–20FFh, part 3. -/
def rows20_2 : List Row := [
  ⟨0x201D, 0x201D, 1, 1, .enum, .r, 0, 0, 0, .any, 0xffff, 2⟩,
  ⟨0x201D, 0x201D, 2, 2, .u32, .r, 0, 0, 0, .any, 0xffffffff, 4⟩,
  ⟨0x201D, 0x201D, 3, 3, .u32, .r, 0, 0, 0, .any, 0xffffffff, 4⟩,
  ⟨0x201D, 0x201D, 4, 4, .u16, .r, 0, 0, 0, .any, 0xffff, 2⟩,
  ⟨0x201E, 0x201E, 1, 1, .u32, .r, 0, 0, 0, .any, 0xffffffff, 4⟩,
  ⟨0x201E, 0x201E, 2, 2, .enum, .r, 0, 0, 0, .any, 0xffff, 2⟩,
  ⟨0x201E, 0x201E, 3, 3, .u8, .r, 0, 0, 3, .any, 0xff, 1⟩,
  ⟨0x201E, 0x201E, 4, 4, .bool, .r, 0, 0, 0, .any, 0xff, 1⟩]

/-- Object rows of the indices 2100h–21FFh. -/
def rows21 : List Row := [
  ⟨0x2100, 0x2100, 0, 0, .bits32, .r, 0, 0, 0, .any, 0xffff, 4⟩,
  ⟨0x2101, 0x2110, 0, 0, .bits32, .l, 0, 1, 0, .any, 0xffffffff, 4⟩,
  ⟨0x2111, 0x2111, 0, 0, .bits32, .s, 0, 2, 0, .any, 0x1f, 4⟩,
  ⟨0x2112, 0x2112, 0, 0, .bits32, .s, 0, 2, 0, .any, 0xf, 4⟩,
  ⟨0x2113, 0x2113, 0, 0, .bits32, .s, 0, 2, 0, .any, 0x3ff, 4⟩,
  ⟨0x2114, 0x2114, 0, 0, .bits32, .s, 0, 2, 0, .any, 0x1f, 4⟩,
  ⟨0x2115, 0x2115, 0, 0, .bits32, .s, 0, 2, 0, .any, 0xf, 4⟩,
  ⟨0x2116, 0x2116, 0, 0, .bits32, .s, 0, 2, 0, .any, 0x13f, 4⟩,
  ⟨0x2117, 0x2117, 0, 0, .bits32, .s, 0, 2, 0, .any, 0x1f, 4⟩,
  ⟨0x2118, 0x2118, 0, 0, .bits32, .s, 0, 2, 0, .any, 0xf, 4⟩,
  ⟨0x2119, 0x2119, 0, 0, .bits32, .s, 0, 2, 0, .any, 0xffffffff, 4⟩,
  ⟨0x211A, 0x211A, 0, 0, .bits32, .s, 0, 2, 0, .any, 0x3f, 4⟩,
  ⟨0x211B, 0x211B, 0, 0, .bits32, .s, 0, 2, 0, .any, 0xffff, 4⟩,
  ⟨0x211C, 0x211D, 0, 0, .bits32, .s, 0, 2, 0, .any, 0x1f, 4⟩,
  ⟨0x211E, 0x211E, 0, 0, .bits32, .s, 0, 2, 0, .any, 0x30f, 4⟩,
  ⟨0x211F, 0x211F, 0, 0, .bits32, .s, 0, 2, 0, .any, 0x3f, 4⟩,
  ⟨0x2120, 0x2120, 0, 0, .bits32, .s, 0, 2, 0, .any, 0x1f, 4⟩,
  ⟨0x2121, 0x2121, 0, 0, .bits32, .r, 0, 0, 0, .any, 0xffff, 4⟩,
  ⟨0x2122, 0x2122, 1, 1, .bool, .r, 0, 0, 0, .any, 0xff, 1⟩,
  ⟨0x2122, 0x2122, 2, 2, .bool, .l, 0, 2, 0, .any, 0xff, 1⟩,
  ⟨0x2123, 0x2123, 0, 0, .u32, .l, 0, 1, 0, .oneOf [1129075265], 0xffffffff, 4⟩,
  ⟨0x2140, 0x2140, 0, 0, .u8, .r, 0, 0, 6, .any, 0xff, 1⟩,
  ⟨0x2140, 0x2140, 1, 6, .bits16, .l, 0, 1, 0, .any, 0x7f, 2⟩,
  ⟨0x2150, 0x2150, 0, 0, .u8, .r, 0, 0, 32, .any, 0xff, 1⟩,
  ⟨0x2150, 0x2150, 1, 32, .bits16, .l, 0, 1, 0, .any, 0x1f, 2⟩,
  ⟨0x2160, 0x2160, 0, 0, .u8, .r, 0, 0, 16, .any, 0xff, 1⟩,
  ⟨0x2160, 0x2160, 1, 16, .bits16, .l, 0, 1, 0, .any, 0x1f, 2⟩]

/-- Object rows of the indices 2200h–22FFh, part 1. -/
def rows22_0 : List Row := [
  ⟨0x2200, 0x2200, 0, 0, .u8, .r, 0, 0, 9, .any, 0xff, 1⟩,
  ⟨0x2200, 0x2200, 1, 9, .bits16, .r, 0, 0, 0, .any, 0xfff, 2⟩,
  ⟨0x2201, 0x2201, 0, 0, .u8, .r, 0, 0, 6, .any, 0xff, 1⟩,
  ⟨0x2201, 0x2201, 1, 6, .bits16, .r, 0, 0, 276, .any, 0xfff, 2⟩,
  ⟨0x2202, 0x2202, 0, 0, .u8, .r, 0, 0, 4, .any, 0xff, 1⟩,
  ⟨0x2202, 0x2202, 1, 4, .u8, .r, 0, 0, 0, .any, 0xff, 1⟩,
  ⟨0x2203, 0x2203, 1, 9, .u8, .l, 0, 3, 0, .any, 0xff, 1⟩,
  ⟨0x2204, 0x2204, 0, 0, .u16, .l, 0, 2, 0, .any, 0xffff, 2⟩,
  ⟨0x2205, 0x2205, 1, 1, .u16, .r, 0, 0, 0, .any, 0xffff, 2⟩,
  ⟨0x2205, 0x2205, 2, 2, .u8, .r, 0, 0, 0, .any, 0xff, 1⟩,
  ⟨0x2205, 0x2205, 3, 3, .enum, .r, 0, 0, 0, .any, 0xffff, 2⟩,
  ⟨0x2206, 0x2206, 1, 1, .enum, .l, 0, 1, 1, .oneOf [0, 1, 2, 16, 17, 18, 19, 20, 21, 4, 5, 6, 7, 8, 32, 33, 34], 0xffff, 2⟩,
  ⟨0x2206, 0x2206, 2, 2, .enum, .l, 0, 1, 1, .between 0 1, 0xffff, 2⟩,
  ⟨0x2206, 0x2206, 3, 3, .u32, .l, 0, 1, 1024, .between 1024 16777216, 0xffffffff, 4⟩,
  ⟨0x2206, 0x2206, 4, 4, .bool, .l, 0, 1, 0, .any, 0xff, 1⟩,
  ⟨0x2206, 0x2206, 5, 5, .enum, .r, 0, 0, 0, .any, 0xffff, 2⟩,
  ⟨0x2206, 0x2206, 6, 6, .u32, .r, 0, 0, 0, .any, 0xffffffff, 4⟩,
  ⟨0x2206, 0x2206, 7, 7, .u32, .r, 0, 0, 0, .any, 0xffffffff, 4⟩,
  ⟨0x2206, 0x2206, 8, 8, .bool, .r, 0, 0, 0, .any, 0xff, 1⟩,
  ⟨0x2207, 0x2207, 1, 1, .enum, .l, 0, 1, 0, .oneOf [0, 1, 2, 16, 17, 18, 19, 20, 21, 4, 5, 6, 7, 8, 32, 33, 34, 35], 0xffff, 2⟩]

/-- Object rows of the indices 2200h–22FFh, part 2. -/
def rows22_1 : List Row := [
  ⟨0x2207, 0x2207, 2, 2, .u8, .l, 0, 1, 0, .between 0 16, 0xff, 1⟩,
  ⟨0x2207, 0x2207, 3, 3, .bool, .l, 0, 1, 0, .any, 0xff, 1⟩,
  ⟨0x2208, 0x2208, 1, 1, .enum, .l, 0, 2, 1, .between 0 1, 0xffff, 2⟩,
  ⟨0x2208, 0x2208, 2, 2, .u8, .l, 0, 2, 5, .between 0 5, 0xff, 1⟩,
  ⟨0x2208, 0x2208, 3, 3, .u8, .l, 0, 2, 0, .between 0 5, 0xff, 1⟩,
  ⟨0x2208, 0x2208, 4, 4, .u8, .l, 0, 2, 5, .between 0 5, 0xff, 1⟩,
  ⟨0x2208, 0x2208, 5, 5, .u8, .r, 0, 0, 0, .any, 0xff, 1⟩,
  ⟨0x2208, 0x2208, 6, 6, .enum, .r, 0, 0, 5, .any, 0xffff, 2⟩,
  ⟨0x2208, 0x2208, 7, 7, .u32, .r, 0, 0, 0, .any, 0xffffffff, 4⟩,
  ⟨0x2209, 0x2209, 0, 0, .u8, .r, 0, 0, 6, .any, 0xff, 1⟩,
  ⟨0x2209, 0x2209, 1, 6, .u32, .r, 0, 0, 0, .any, 0xffffffff, 4⟩,
  ⟨0x220A, 0x220A, 0, 0, .bits16, .s, 0, 2, 255, .any, 0xff, 2⟩,
  ⟨0x220B, 0x220B, 0, 0, .bits16, .l, 0, 3, 0, .any, 0x1ff, 2⟩]

/-- Object rows of the indices 2300h–23FFh. -/
def rows23 : List Row := [
  ⟨0x2300, 0x2300, 0, 0, .u8, .r, 0, 0, 48, .any, 0xff, 1⟩,
  ⟨0x2300, 0x2300, 1, 48, .enum, .s, 0, 2, 0, .between 0 2, 0xffff, 2⟩,
  ⟨0x2301, 0x2301, 0, 0, .u8, .r, 0, 0, 49, .any, 0xff, 1⟩,
  ⟨0x2301, 0x2301, 1, 49, .bits16, .r, 0, 0, 0, .any, 0xf00f, 2⟩]

/-- Object rows of the indices 3000h–30FFh. -/
def rows30 : List Row := [
  ⟨0x3000, 0x3000, 1, 1, .u16, .s, 0, 2, 512, .between 64 4096, 0xffff, 2⟩,
  ⟨0x3001, 0x3001, 0, 0, .u8, .r, 0, 0, 17, .any, 0xff, 1⟩,
  ⟨0x3001, 0x3001, 1, 17, .bits32, .r, 0, 0, 0, .any, 0xffffffff, 4⟩,
  ⟨0x3002, 0x3002, 0, 0, .u8, .r, 0, 0, 17, .any, 0xff, 1⟩,
  ⟨0x3002, 0x3002, 1, 17, .bits32, .r, 0, 0, 0, .any, 0xffffffff, 4⟩,
  ⟨0x3003, 0x3003, 0, 0, .u8, .r, 0, 0, 64, .any, 0xff, 1⟩,
  ⟨0x3003, 0x3003, 1, 64, .bits32, .r, 0, 0, 0, .any, 0xf9ff01ff, 4⟩,
  ⟨0x3004, 0x3004, 0, 0, .u8, .r, 0, 0, 64, .any, 0xff, 1⟩,
  ⟨0x3004, 0x3004, 1, 64, .u64, .r, 0, 0, 0, .any, 0xffffffffffffffff, 8⟩,
  ⟨0x3005, 0x3005, 0, 0, .u8, .r, 0, 0, 64, .any, 0xff, 1⟩,
  ⟨0x3005, 0x3005, 1, 64, .u64, .r, 0, 0, 0, .any, 0xffffffffffffffff, 8⟩,
  ⟨0x3006, 0x3006, 0, 0, .u8, .r, 0, 0, 64, .any, 0xff, 1⟩,
  ⟨0x3006, 0x3006, 1, 64, .i32, .r, 0, 0, 0x7fffffff, .any, 0xffffffff, 4⟩,
  ⟨0x3007, 0x3007, 0, 0, .bool, .l, 0, 1, 0, .any, 0xff, 1⟩,
  ⟨0x3008, 0x3008, 0, 0, .u8, .r, 0, 0, 64, .any, 0xff, 1⟩,
  ⟨0x3008, 0x3008, 1, 64, .enum, .r, 0, 0, 0, .any, 0xffff, 2⟩,
  ⟨0x3009, 0x3009, 1, 1, .bool, .r, 0, 0, 0, .any, 0xff, 1⟩]

/-- Object rows of the indices 3200h–32FFh. -/
def rows32 : List Row := [
  ⟨0x3200, 0x3200, 0, 0, .u8, .r, 0, 0, 64, .any, 0xff, 1⟩,
  ⟨0x3200, 0x3200, 1, 64, .u64, .s, 0, 2, 0, .any, 0xffffffe000000000, 8⟩,
  ⟨0x3201, 0x3201, 0, 0, .u8, .r, 0, 0, 16, .any, 0xff, 1⟩,
  ⟨0x3201, 0x3201, 1, 16, .u32, .s, 0, 2, 8, .any, 0xfc00ffff, 4⟩,
  ⟨0x3202, 0x3202, 0, 0, .u8, .r, 0, 0, 16, .any, 0xff, 1⟩,
  ⟨0x3202, 0x3202, 1, 16, .i32, .s, 0, 2, 0, .between (-10000) 10000, 0xffffffff, 4⟩,
  ⟨0x3203, 0x3203, 0, 0, .u8, .r, 0, 0, 64, .any, 0xff, 1⟩,
  ⟨0x3203, 0x3203, 1, 64, .u32, .r, 0, 0, 0, .any, 0xfff00000, 4⟩,
  ⟨0x3204, 0x3204, 0, 0, .u8, .r, 0, 0, 16, .any, 0xff, 1⟩,
  ⟨0x3204, 0x3204, 1, 16, .i64, .r, 0, 0, 0, .any, 0xffffffffffffffff, 8⟩,
  ⟨0x3205, 0x3205, 0, 0, .u8, .r, 0, 0, 16, .any, 0xff, 1⟩,
  ⟨0x3205, 0x3205, 1, 16, .u32, .r, 0, 0, 0, .any, 0xffffffff, 4⟩,
  ⟨0x3206, 0x3206, 0, 0, .u8, .r, 0, 0, 16, .any, 0xff, 1⟩,
  ⟨0x3206, 0x3206, 1, 16, .bits16, .r, 0, 0, 0, .any, 0xc01f, 2⟩]

/-- Object rows of the indices 3800h–38FFh. -/
def rows38 : List Row := [
  ⟨0x3800, 0x3800, 1, 1, .enum, .s, 0, 2, 0, .between 0 2, 0xffff, 2⟩,
  ⟨0x3800, 0x3800, 2, 2, .enum, .s, 0, 2, 0, .between 0 2, 0xffff, 2⟩,
  ⟨0x3800, 0x3800, 3, 3, .u8, .s, 0, 2, 128, .between 0 240, 0xff, 1⟩,
  ⟨0x3801, 0x3801, 0, 0, .u8, .r, 0, 0, 64, .any, 0xff, 1⟩,
  ⟨0x3801, 0x3801, 1, 64, .u8, .s, 0, 2, 128, .between 0 240, 0xff, 1⟩,
  ⟨0x3802, 0x3802, 0, 0, .u8, .r, 0, 0, 8, .any, 0xff, 1⟩,
  ⟨0x3802, 0x3802, 1, 8, .bits16, .s, 0, 2, 0, .any, 0xfc00, 2⟩,
  ⟨0x3803, 0x3803, 0, 0, .u8, .r, 0, 0, 8, .any, 0xff, 1⟩,
  ⟨0x3803, 0x3803, 1, 8, .u16, .s, 0, 2, 256, .between 0 511, 0xffff, 2⟩,
  ⟨0x3804, 0x3804, 0, 0, .u8, .r, 0, 0, 8, .any, 0xff, 1⟩,
  ⟨0x3804, 0x3804, 1, 8, .u16, .s, 0, 2, 128, .between 16 256, 0xffff, 2⟩,
  ⟨0x3805, 0x3805, 0, 0, .u8, .r, 0, 0, 8, .any, 0xff, 1⟩,
  ⟨0x3805, 0x3805, 1, 8, .bits16, .r, 0, 0, 0, .any, 0xf003, 2⟩,
  ⟨0x3806, 0x3806, 0, 0, .u8, .r, 0, 0, 8, .any, 0xff, 1⟩,
  ⟨0x3806, 0x3806, 1, 8, .u32, .r, 0, 0, 0, .any, 0xffffffff, 4⟩,
  ⟨0x3810, 0x3810, 0, 0, .u8, .r, 0, 0, 4, .any, 0xff, 1⟩,
  ⟨0x3810, 0x3810, 1, 4, .bits16, .s, 0, 2, 0, .any, 0x3, 2⟩,
  ⟨0x3811, 0x3811, 0, 0, .u8, .r, 0, 0, 4, .any, 0xff, 1⟩,
  ⟨0x3811, 0x3811, 1, 4, .bits16, .s, 0, 2, 0, .any, 0xf0ff, 2⟩,
  ⟨0x3812, 0x3812, 0, 0, .bits16, .r, 0, 0, 0, .any, 0xff, 2⟩]

/-- Object rows of the indices 3900h–39FFh, part 1. -/
def rows39_0 : List Row := [
  ⟨0x3900, 0x3900, 0, 0, .u8, .r, 0, 0, 4, .any, 0xff, 1⟩,
  ⟨0x3900, 0x3900, 1, 4, .u32, .s, 0, 2, 0, .any, 0xff81f000, 4⟩,
  ⟨0x3901, 0x3901, 0, 0, .u8, .r, 0, 0, 4, .any, 0xff, 1⟩,
  ⟨0x3901, 0x3901, 1, 4, .u32, .s, 0, 2, 0, .any, 0x3f3f3f, 4⟩,
  ⟨0x3902, 0x3902, 0, 0, .u8, .r, 0, 0, 4, .any, 0xff, 1⟩,
  ⟨0x3902, 0x3902, 1, 4, .i32, .s, 0, 2, 0, .any, 0xffffffff, 4⟩,
  ⟨0x3903, 0x3903, 0, 0, .u8, .r, 0, 0, 4, .any, 0xff, 1⟩,
  ⟨0x3903, 0x3903, 1, 4, .u32, .s, 0, 2, 0, .between 0 1000000000, 0xffffffff, 4⟩,
  ⟨0x3904, 0x3904, 0, 0, .u8, .r, 0, 0, 4, .any, 0xff, 1⟩,
  ⟨0x3904, 0x3904, 1, 4, .u16, .s, 0, 2, 0, .any, 0xffff, 2⟩,
  ⟨0x3905, 0x3905, 0, 0, .u8, .r, 0, 0, 4, .any, 0xff, 1⟩,
  ⟨0x3905, 0x3905, 1, 4, .u16, .s, 0, 2, 0, .any, 0xffff, 2⟩,
  ⟨0x3906, 0x3906, 0, 0, .u8, .r, 0, 0, 4, .any, 0xff, 1⟩,
  ⟨0x3906, 0x3906, 1, 4, .u32, .s, 0, 2, 0x186a0, .between 1 10000000, 0xffffffff, 4⟩,
  ⟨0x3907, 0x3907, 0, 0, .u8, .r, 0, 0, 4, .any, 0xff, 1⟩,
  ⟨0x3907, 0x3907, 1, 4, .i32, .s, 0, 2, 0, .any, 0xffffffff, 4⟩,
  ⟨0x3908, 0x3908, 0, 0, .u8, .r, 0, 0, 4, .any, 0xff, 1⟩,
  ⟨0x3908, 0x3908, 1, 4, .u32, .l, 0, 1, 0, .oneOf [1280262468], 0xffffffff, 4⟩,
  ⟨0x3910, 0x3910, 0, 0, .u8, .r, 0, 0, 4, .any, 0xff, 1⟩,
  ⟨0x3910, 0x3910, 1, 4, .i32, .r, 0, 0, 0, .any, 0xffffffff, 4⟩]

/-- Object rows of the indices 3900h–39FFh, part 2. -/
def rows39_1 : List Row := [
  ⟨0x3911, 0x3911, 0, 0, .u8, .r, 0, 0, 4, .any, 0xff, 1⟩,
  ⟨0x3911, 0x3911, 1, 4, .i32, .r, 0, 0, 0, .any, 0xffffffff, 4⟩,
  ⟨0x3912, 0x3912, 0, 0, .u8, .r, 0, 0, 4, .any, 0xff, 1⟩,
  ⟨0x3912, 0x3912, 1, 4, .bits16, .r, 0, 0, 0, .any, 0xf07f, 2⟩,
  ⟨0x3913, 0x3913, 0, 0, .u8, .r, 0, 0, 4, .any, 0xff, 1⟩,
  ⟨0x3913, 0x3913, 1, 4, .i32, .r, 0, 0, 0, .any, 0xffffffff, 4⟩,
  ⟨0x3914, 0x3914, 0, 0, .u8, .r, 0, 0, 4, .any, 0xff, 1⟩,
  ⟨0x3914, 0x3914, 1, 4, .u16, .r, 0, 0, 0, .any, 0xffff, 2⟩,
  ⟨0x3915, 0x3915, 0, 0, .u8, .r, 0, 0, 4, .any, 0xff, 1⟩,
  ⟨0x3915, 0x3915, 1, 4, .i32, .r, 0, 0, 0, .any, 0xffffffff, 4⟩]

/-- Object rows of the indices 4000h–40FFh, part 1. -/
def rows40_0 : List Row := [
  ⟨0x4000, 0x4000, 1, 1, .u32, .l, 0, 1, 0, .oneOf [1095912737], 0xffffffff, 4⟩,
  ⟨0x4000, 0x4000, 2, 2, .u32, .l, 0, 1, 0, .oneOf [1398034256], 0xffffffff, 4⟩,
  ⟨0x4000, 0x4000, 3, 3, .enum, .r, 0, 0, 0, .any, 0xffff, 2⟩,
  ⟨0x4000, 0x4000, 4, 4, .u8, .r, 0, 0, 0, .any, 0xff, 1⟩,
  ⟨0x4000, 0x4000, 5, 5, .u64, .r, 0, 0, 0, .any, 0xffffffffffffffff, 8⟩,
  ⟨0x4000, 0x4000, 6, 6, .u64, .r, 0, 0, 0, .any, 0xffffffffffffffff, 8⟩,
  ⟨0x4000, 0x4000, 7, 7, .u64, .r, 0, 0, 0, .any, 0xffffffffffffffff, 8⟩,
  ⟨0x4000, 0x4000, 8, 8, .time80, .r, 0, 0, 0, .any, 0xffffffffffffffffffff, 10⟩,
  ⟨0x4000, 0x4000, 9, 9, .u16, .r, 0, 0, 0, .any, 0xffff, 2⟩,
  ⟨0x4000, 0x4000, 10, 10, .u8, .r, 0, 0, 0, .any, 0xff, 1⟩,
  ⟨0x4000, 0x4000, 11, 11, .bool, .s, 0, 2, 0, .any, 0xff, 1⟩,
  ⟨0x4000, 0x4000, 12, 12, .u64, .r, 0, 0, 0, .any, 0xffffffffffffffff, 8⟩,
  ⟨0x4001, 0x4001, 0, 0, .bits32, .r, 0, 0, 0, .any, 0xffe0ffff, 4⟩,
  ⟨0x4002, 0x4002, 1, 1, .bits32, .r, 0, 0, 0, .any, 0xffffffff, 4⟩,
  ⟨0x4002, 0x4002, 2, 2, .bits16, .r, 0, 0, 0, .any, 0xffff, 2⟩,
  ⟨0x4002, 0x4002, 3, 3, .bits32, .r, 0, 0, 0, .any, 0xffffffff, 4⟩,
  ⟨0x4010, 0x4010, 0, 0, .u8, .r, 0, 0, 8, .any, 0xff, 1⟩,
  ⟨0x4010, 0x4010, 1, 8, .u64, .s, 0, 2, 1, .between 1 281474976710655, 0xffffffffffffffff, 8⟩,
  ⟨0x4011, 0x4011, 0, 0, .u8, .r, 0, 0, 8, .any, 0xff, 1⟩,
  ⟨0x4011, 0x4011, 1, 8, .u64, .s, 0, 2, 0, .any, 0xffffffffffff, 8⟩]

/-- Object rows of the indices 4000h–40FFh, part 2. -/
def rows40_1 : List Row := [
  ⟨0x4012, 0x4012, 0, 0, .u8, .r, 0, 0, 8, .any, 0xff, 1⟩,
  ⟨0x4012, 0x4012, 1, 8, .u64, .s, 0, 2, 0, .any, 0xffffffffffff, 8⟩,
  ⟨0x4013, 0x4013, 0, 0, .u8, .r, 0, 0, 8, .any, 0xff, 1⟩,
  ⟨0x4013, 0x4013, 1, 8, .bits16, .s, 0, 2, 0, .any, 0xffff, 2⟩,
  ⟨0x4014, 0x4014, 0, 0, .u8, .r, 0, 0, 8, .any, 0xff, 1⟩,
  ⟨0x4014, 0x4014, 1, 8, .u64, .r, 0, 0, 0, .any, 0xffffffffffffffff, 8⟩,
  ⟨0x4018, 0x4018, 0, 0, .u8, .r, 0, 0, 8, .any, 0xff, 1⟩,
  ⟨0x4018, 0x4018, 1, 8, .u64, .s, 0, 2, 1, .between 1 281474976710655, 0xffffffffffffffff, 8⟩,
  ⟨0x4019, 0x4019, 0, 0, .u8, .r, 0, 0, 8, .any, 0xff, 1⟩,
  ⟨0x4019, 0x4019, 1, 8, .bits16, .s, 0, 2, 0, .any, 0x3, 2⟩,
  ⟨0x401A, 0x401A, 0, 0, .u8, .r, 0, 0, 8, .any, 0xff, 1⟩,
  ⟨0x401A, 0x401A, 1, 8, .u64, .r, 0, 0, 0, .any, 0xffffffffffffffff, 8⟩,
  ⟨0x401B, 0x401B, 0, 0, .bits16, .r, 0, 0, 0, .any, 0xff, 2⟩]

/-- Object rows of the indices 4100h–41FFh. -/
def rows41 : List Row := [
  ⟨0x4100, 0x410F, 1, 1, .bits32, .s, 0, 2, 0, .any, 0xfc1f0000, 4⟩,
  ⟨0x4100, 0x410F, 2, 2, .octets, .s, 0, 2, 0, .len 32, 0x0, 32⟩,
  ⟨0x4100, 0x410F, 3, 3, .octets, .s, 0, 2, 0, .len 32, 0x0, 32⟩,
  ⟨0x4110, 0x4117, 1, 1, .bits32, .s, 0, 2, 0, .any, 0xffffff7f, 4⟩,
  ⟨0x4110, 0x4117, 2, 2, .u64, .s, 0, 2, 0xffffffffffffffff, .any, 0xffffffffffffffff, 8⟩,
  ⟨0x4110, 0x4117, 3, 3, .u64, .s, 0, 2, 0, .any, 0xffffffffffffffff, 8⟩,
  ⟨0x4110, 0x4117, 4, 4, .u64, .s, 0, 2, 0, .any, 0xffffffffffffffff, 8⟩,
  ⟨0x4118, 0x411B, 1, 1, .bits32, .s, 0, 2, 0, .any, 0xffffffc0, 4⟩,
  ⟨0x4118, 0x411B, 2, 2, .u64, .s, 0, 2, 0, .between 0 4503599627370495, 0xffffffffffffffff, 8⟩,
  ⟨0x4118, 0x411B, 3, 3, .u64, .s, 0, 2, 0xfffffffffffff, .between 0 4503599627370495, 0xffffffffffffffff, 8⟩,
  ⟨0x4118, 0x411B, 4, 4, .u16, .s, 0, 2, 0, .any, 0xffff, 2⟩,
  ⟨0x411C, 0x411F, 1, 1, .bits32, .s, 0, 2, 0, .any, 0xf8ffffff, 4⟩]

/-- Object rows of the indices 4200h–42FFh. -/
def rows42 : List Row := [
  ⟨0x4200, 0x420F, 1, 4, .u64, .s, 0, 2, 0, .any, 0xffffffffffffff80, 8⟩,
  ⟨0x4200, 0x420F, 5, 68, .u64, .s, 0, 2, 0, .any, 0xffffffffffff, 8⟩]

/-- Object rows of the indices 5000h–50FFh. -/
def rows50 : List Row := [
  ⟨0x5000, 0x5000, 1, 1, .u16, .r, 0, 0, 0, .any, 0xffff, 2⟩,
  ⟨0x5000, 0x5000, 2, 2, .u16, .r, 0, 0, 0, .any, 0xffff, 2⟩,
  ⟨0x5010, 0x501F, 1, 1, .bits32, .s, 0, 2, 0, .any, 0xfff80000, 4⟩,
  ⟨0x5010, 0x501F, 2, 2, .u32, .s, 0, 2, 0, .between 0 24575, 0xffffffff, 4⟩,
  ⟨0x5010, 0x501F, 3, 3, .u32, .s, 0, 2, 16, .between 16 24576, 0xffffffff, 4⟩,
  ⟨0x5010, 0x501F, 4, 4, .bits32, .s, 0, 2, 0, .any, 0x7ffff, 4⟩,
  ⟨0x5010, 0x501F, 5, 5, .u64, .s, 0, 2, 0, .between 0 281474976710655, 0xffffffffffffffff, 8⟩,
  ⟨0x5010, 0x501F, 6, 6, .u32, .s, 0, 2, 0x10000, .any, 0xffffffff, 4⟩,
  ⟨0x5030, 0x503F, 1, 1, .enum, .r, 0, 0, 0, .any, 0xffff, 2⟩,
  ⟨0x5030, 0x503F, 2, 2, .u64, .r, 0, 0, 0, .any, 0xffffffffffffffff, 8⟩,
  ⟨0x5030, 0x503F, 3, 3, .u64, .r, 0, 0, 0, .any, 0xffffffffffffffff, 8⟩,
  ⟨0x5030, 0x503F, 4, 4, .u64, .r, 0, 0, 0, .any, 0xffffffffffffffff, 8⟩,
  ⟨0x5030, 0x503F, 5, 5, .u64, .r, 0, 0, 0xffffffffffffffff, .any, 0xffffffffffffffff, 8⟩,
  ⟨0x5030, 0x503F, 6, 6, .bits16, .r, 0, 0, 0, .any, 0xf, 2⟩,
  ⟨0x5030, 0x503F, 7, 7, .u64, .r, 0, 0, 0, .any, 0xffffffffffffffff, 8⟩]

/-- Object rows of the indices 5100h–51FFh. -/
def rows51 : List Row := [
  ⟨0x5100, 0x5103, 1, 1, .bits16, .s, 0, 2, 0, .any, 0xc00f, 2⟩,
  ⟨0x5100, 0x5103, 2, 2, .u64, .s, 0, 2, 0, .aligned 0 0xfffffffffffff 4096 0, 0xffffffffffffffff, 8⟩,
  ⟨0x5100, 0x5103, 3, 3, .u64, .s, 0, 2, 0x10000, .aligned 65536 0x10000000000 4096 0, 0xffffffffffffffff, 8⟩,
  ⟨0x5100, 0x5103, 4, 4, .u64, .s, 0, 2, 0, .aligned 0 0xffffffffffffffff 64 0, 0xffffffffffffffff, 8⟩,
  ⟨0x5100, 0x5103, 5, 5, .u64, .s, 0, 2, 0, .aligned 0 0xffffffffffffffff 64 0, 0xffffffffffffffff, 8⟩,
  ⟨0x5110, 0x5113, 1, 1, .enum, .r, 0, 0, 0, .any, 0xffff, 2⟩,
  ⟨0x5110, 0x5113, 2, 2, .u64, .r, 0, 0, 0, .any, 0xffffffffffffffff, 8⟩,
  ⟨0x5110, 0x5113, 3, 3, .u64, .r, 0, 0, 0, .any, 0xffffffffffffffff, 8⟩,
  ⟨0x5110, 0x5113, 4, 4, .u64, .r, 0, 0, 0, .any, 0xffffffffffffffff, 8⟩,
  ⟨0x5110, 0x5113, 5, 5, .u64, .r, 0, 0, 0, .any, 0xffffffffffffffff, 8⟩,
  ⟨0x5110, 0x5113, 6, 6, .u64, .r, 0, 0, 0, .any, 0xffffffffffffffff, 8⟩,
  ⟨0x5110, 0x5113, 7, 7, .enum, .r, 0, 0, 0, .any, 0xffff, 2⟩,
  ⟨0x5120, 0x5120, 0, 0, .u8, .r, 0, 0, 4, .any, 0xff, 1⟩,
  ⟨0x5120, 0x5120, 1, 4, .u32, .l, 0, 2, 0, .oneOf [1380275029], 0xffffffff, 4⟩]

/-- Object rows of the indices 5400h–54FFh. -/
def rows54 : List Row := [
  ⟨0x5400, 0x5400, 1, 1, .bool, .s, 0, 2, 1, .any, 0xff, 1⟩,
  ⟨0x5400, 0x5400, 2, 2, .u32, .s, 0, 2, 100, .between 10 1000000, 0xffffffff, 4⟩,
  ⟨0x5400, 0x5400, 3, 3, .u8, .s, 0, 2, 16, .between 1 255, 0xff, 1⟩,
  ⟨0x5401, 0x5401, 1, 1, .enum, .r, 0, 0, 0, .any, 0xffff, 2⟩,
  ⟨0x5401, 0x5401, 2, 2, .u8, .r, 0, 0, 0, .any, 0xff, 1⟩,
  ⟨0x5401, 0x5401, 3, 3, .u16, .r, 0, 0, 0, .any, 0xffff, 2⟩,
  ⟨0x5401, 0x5401, 4, 4, .u32, .r, 0, 0, 0, .any, 0xffffffff, 4⟩,
  ⟨0x5401, 0x5401, 5, 5, .u8, .r, 0, 0, 0, .any, 0xff, 1⟩,
  ⟨0x5402, 0x5402, 0, 0, .u8, .r, 0, 0, 49, .any, 0xff, 1⟩,
  ⟨0x5402, 0x5402, 1, 49, .u32, .r, 0, 0, 0, .any, 0xffffffff, 4⟩,
  ⟨0x5403, 0x5403, 0, 0, .u8, .r, 0, 0, 49, .any, 0xff, 1⟩,
  ⟨0x5403, 0x5403, 1, 49, .enum, .r, 0, 0, 0, .any, 0xffff, 2⟩,
  ⟨0x5404, 0x5404, 1, 1, .u8, .r, 0, 0, 0, .any, 0xff, 1⟩,
  ⟨0x5404, 0x5404, 2, 2, .u8, .r, 0, 0, 0, .any, 0xff, 1⟩,
  ⟨0x5404, 0x5404, 3, 3, .u16, .r, 0, 0, 0, .any, 0xffff, 2⟩,
  ⟨0x5404, 0x5404, 4, 4, .u16, .r, 0, 0, 0, .any, 0xffff, 2⟩,
  ⟨0x5404, 0x5404, 5, 5, .enum, .r, 0, 0, 0, .any, 0xffff, 2⟩,
  ⟨0x5410, 0x5410, 1, 1, .enum, .r, 0, 0, 0, .any, 0xffff, 2⟩,
  ⟨0x5410, 0x5410, 2, 2, .enum, .r, 0, 0, 0, .any, 0xffff, 2⟩]

/-- Object rows of the indices 5800h–58FFh. -/
def rows58 : List Row := [
  ⟨0x5800, 0x5800, 1, 1, .bool, .s, 0, 2, 1, .any, 0xff, 1⟩,
  ⟨0x5800, 0x5800, 2, 2, .u8, .s, 0, 2, 8, .between 1 128, 0xff, 1⟩,
  ⟨0x5800, 0x5800, 3, 3, .u8, .s, 0, 2, 2, .between 1 2, 0xff, 1⟩,
  ⟨0x5800, 0x5800, 4, 4, .u32, .s, 0, 2, 0x186a0, .between 10 10000000, 0xffffffff, 4⟩,
  ⟨0x5801, 0x5801, 1, 1, .u64, .s, 0, 2, 0, .aligned 0 0xfffffffffffff 1024 0, 0xffffffffffffffff, 8⟩,
  ⟨0x5801, 0x5801, 2, 2, .bool, .s, 0, 2, 0, .any, 0xff, 1⟩,
  ⟨0x5802, 0x5802, 1, 1, .u8, .l, 0, 1, 0, .any, 0xff, 1⟩,
  ⟨0x5802, 0x5802, 2, 2, .u8, .r, 0, 0, 0, .any, 0xff, 1⟩,
  ⟨0x5802, 0x5802, 3, 3, .u8, .r, 0, 0, 0, .any, 0xff, 1⟩,
  ⟨0x5802, 0x5802, 4, 4, .u32, .l, 0, 1, 0, .any, 0xffffffff, 4⟩,
  ⟨0x5803, 0x5803, 0, 0, .u8, .r, 0, 0, 8, .any, 0xff, 1⟩,
  ⟨0x5803, 0x5803, 1, 8, .bits16, .r, 0, 0, 0, .any, 0xff00, 2⟩,
  ⟨0x5804, 0x5804, 1, 1, .enum, .r, 0, 0, 0, .any, 0xffff, 2⟩,
  ⟨0x5805, 0x5805, 1, 1, .u8, .r, 0, 0, 0, .any, 0xff, 1⟩,
  ⟨0x5805, 0x5805, 2, 2, .enum, .r, 0, 0, 0, .any, 0xffff, 2⟩,
  ⟨0x5805, 0x5805, 3, 3, .u8, .r, 0, 0, 0, .any, 0xff, 1⟩,
  ⟨0x5806, 0x5806, 0, 0, .u8, .r, 0, 0, 4, .any, 0xff, 1⟩,
  ⟨0x5806, 0x5806, 1, 4, .u64, .r, 0, 0, 0, .any, 0xffffffffffffffff, 8⟩,
  ⟨0x5807, 0x5807, 0, 0, .u8, .r, 0, 0, 4, .any, 0xff, 1⟩,
  ⟨0x5807, 0x5807, 1, 4, .u64, .r, 0, 0, 0, .any, 0xffffffffffffffff, 8⟩]

/-- Object rows of the indices 6000h–60FFh. -/
def rows60 : List Row := [
  ⟨0x6000, 0x6000, 1, 1, .octets, .r, 0, 0, 0, .any, 0x0, 20⟩,
  ⟨0x6000, 0x6000, 2, 2, .time80, .r, 0, 0, 0, .any, 0xffffffffffffffffffff, 10⟩,
  ⟨0x6000, 0x6000, 3, 3, .u16, .r, 0, 0, 0, .any, 0xffff, 2⟩,
  ⟨0x6000, 0x6000, 4, 4, .u64, .r, 0, 0, 0, .any, 0xffffffffffffffff, 8⟩,
  ⟨0x6001, 0x6001, 1, 1, .enum, .s, 0, 2, 0, .between 0 3, 0xffff, 2⟩,
  ⟨0x6001, 0x6001, 2, 2, .time80, .s, 0, 2, 0, .any, 0xffffffffffffffffffff, 10⟩,
  ⟨0x6001, 0x6001, 3, 3, .u16, .s, 0, 2, 0, .any, 0xffff, 2⟩,
  ⟨0x6001, 0x6001, 4, 4, .bool, .s, 0, 2, 0, .any, 0xff, 1⟩,
  ⟨0x6002, 0x6002, 1, 1, .bits16, .r, 0, 0, 0, .any, 0x1f, 2⟩,
  ⟨0x6002, 0x6002, 2, 2, .i32, .r, 0, 0, 0, .any, 0xffffffff, 4⟩,
  ⟨0x6003, 0x6003, 1, 1, .enum, .s, 0, 2, 0, .between 0 2, 0xffff, 2⟩,
  ⟨0x6003, 0x6003, 2, 2, .enum, .s, 0, 2, 0, .between 0 1, 0xffff, 2⟩,
  ⟨0x6003, 0x6003, 3, 3, .u32, .s, 0, 2, 1000, .between 100 100000, 0xffffffff, 4⟩,
  ⟨0x6003, 0x6003, 4, 4, .u16, .s, 0, 2, 10, .between 1 3600, 0xffff, 2⟩,
  ⟨0x6003, 0x6003, 5, 5, .i32, .s, 0, 2, 0, .between (-1000000) 1000000, 0xffffffff, 4⟩,
  ⟨0x6004, 0x6004, 1, 1, .bool, .s, 0, 2, 0, .any, 0xff, 1⟩,
  ⟨0x6004, 0x6004, 2, 2, .u32, .s, 0, 2, 0x5f5e100, .between 100 500000000, 0xffffffff, 4⟩,
  ⟨0x6004, 0x6004, 3, 3, .u16, .s, 0, 2, 7, .between 0 20, 0xffff, 2⟩,
  ⟨0x6005, 0x6005, 1, 1, .i64, .r, 0, 0, 0, .any, 0xffffffffffffffff, 8⟩,
  ⟨0x6005, 0x6005, 2, 2, .enum, .r, 0, 0, 0, .any, 0xffff, 2⟩]

/-- Object rows of the indices 6200h–62FFh, part 1. -/
def rows62_0 : List Row := [
  ⟨0x6200, 0x6200, 1, 1, .bool, .s, 0, 2, 1, .any, 0xff, 1⟩,
  ⟨0x6200, 0x6200, 2, 2, .u16, .s, 0, 2, 32, .between 0 128, 0xffff, 2⟩,
  ⟨0x6200, 0x6200, 3, 3, .u16, .s, 0, 2, 10, .between 1 100, 0xffff, 2⟩,
  ⟨0x6200, 0x6200, 4, 4, .u32, .r, 0, 0, 0, .any, 0xffffffff, 4⟩,
  ⟨0x6200, 0x6200, 5, 5, .u16, .r, 0, 0, 16, .any, 0xffff, 2⟩,
  ⟨0x6200, 0x6200, 6, 6, .u16, .r, 0, 0, 16, .any, 0xffff, 2⟩,
  ⟨0x6201, 0x6201, 0, 0, .u8, .r, 0, 0, 32, .any, 0xff, 1⟩,
  ⟨0x6201, 0x6201, 1, 32, .u64, .s, 0, 2, 0, .any, 0xffffffffc0000000, 8⟩,
  ⟨0x6202, 0x6202, 0, 0, .u8, .r, 0, 0, 32, .any, 0xff, 1⟩,
  ⟨0x6202, 0x6202, 1, 32, .i32, .s, 0, 2, 0, .any, 0xffffffff, 4⟩,
  ⟨0x6203, 0x6203, 0, 0, .u8, .r, 0, 0, 32, .any, 0xff, 1⟩,
  ⟨0x6203, 0x6203, 1, 32, .i32, .s, 0, 2, 0, .any, 0xffffffff, 4⟩,
  ⟨0x6204, 0x6204, 0, 0, .u8, .r, 0, 0, 32, .any, 0xff, 1⟩,
  ⟨0x6204, 0x6204, 1, 32, .i32, .s, 0, 2, 0, .any, 0xffffffff, 4⟩,
  ⟨0x6205, 0x6205, 0, 0, .u8, .r, 0, 0, 32, .any, 0xff, 1⟩,
  ⟨0x6205, 0x6205, 1, 32, .u32, .s, 0, 2, 0, .any, 0xffffffff, 4⟩,
  ⟨0x6206, 0x6206, 0, 0, .u8, .r, 0, 0, 32, .any, 0xff, 1⟩,
  ⟨0x6206, 0x6206, 1, 32, .u16, .s, 0, 2, 1000, .between 1 65535, 0xffff, 2⟩,
  ⟨0x6207, 0x6207, 0, 0, .u8, .r, 0, 0, 32, .any, 0xff, 1⟩,
  ⟨0x6207, 0x6207, 1, 32, .u32, .s, 0, 2, 0, .any, 0xffffffff, 4⟩]

/-- Object rows of the indices 6200h–62FFh, part 2. -/
def rows62_1 : List Row := [
  ⟨0x6208, 0x6208, 0, 0, .u8, .r, 0, 0, 32, .any, 0xff, 1⟩,
  ⟨0x6208, 0x6208, 1, 32, .u16, .s, 0, 2, 16, .between 1 1024, 0xffff, 2⟩,
  ⟨0x6209, 0x6209, 0, 0, .u8, .r, 0, 0, 32, .any, 0xff, 1⟩,
  ⟨0x6209, 0x6209, 1, 32, .i32, .s, 0, 2, 0x1000000, .any, 0xffffffff, 4⟩,
  ⟨0x620A, 0x620A, 0, 0, .u8, .r, 0, 0, 16, .any, 0xff, 1⟩,
  ⟨0x620A, 0x620A, 1, 16, .u32, .s, 0, 2, 0x640000, .any, 0xffffffff, 4⟩,
  ⟨0x620B, 0x620B, 0, 0, .bits32, .l, 0, 2, 0, .any, 0xffffffff, 4⟩,
  ⟨0x6210, 0x622F, 1, 17, .i32, .s, 0, 2, 0, .any, 0xffffffff, 4⟩,
  ⟨0x6230, 0x6230, 0, 0, .u8, .r, 0, 0, 32, .any, 0xff, 1⟩,
  ⟨0x6230, 0x6230, 1, 32, .bits16, .r, 0, 0, 0, .any, 0xf01f, 2⟩,
  ⟨0x6231, 0x6231, 0, 0, .u8, .r, 0, 0, 32, .any, 0xff, 1⟩,
  ⟨0x6231, 0x6231, 1, 32, .i32, .r, 0, 0, 0, .any, 0xffffffff, 4⟩,
  ⟨0x6232, 0x6232, 0, 0, .u8, .r, 0, 0, 32, .any, 0xff, 1⟩,
  ⟨0x6232, 0x6232, 1, 32, .i32, .r, 0, 0, 0, .any, 0xffffffff, 4⟩,
  ⟨0x6233, 0x6233, 0, 0, .u8, .r, 0, 0, 32, .any, 0xff, 1⟩,
  ⟨0x6233, 0x6233, 1, 32, .i64, .r, 0, 0, 0, .any, 0xffffffffffffffff, 8⟩,
  ⟨0x6240, 0x6240, 1, 1, .enum, .s, 0, 2, 0, .between 0 2, 0xffff, 2⟩,
  ⟨0x6240, 0x6240, 2, 2, .enum, .s, 0, 2, 0, .between 0 3, 0xffff, 2⟩,
  ⟨0x6240, 0x6240, 3, 3, .i32, .l, 0, 1, 0, .any, 0xffffffff, 4⟩,
  ⟨0x6240, 0x6240, 4, 4, .u8, .s, 0, 2, 0, .between 0 30, 0xff, 1⟩]

/-- Object rows of the indices 6200h–62FFh, part 3. -/
def rows62_2 : List Row := [
  ⟨0x6240, 0x6240, 5, 5, .u16, .r, 0, 0, 2048, .any, 0xffff, 2⟩,
  ⟨0x6250, 0x6250, 1, 1, .u8, .l, 0, 2, 0, .between 0 31, 0xff, 1⟩,
  ⟨0x6250, 0x6250, 2, 2, .u16, .l, 0, 2, 64, .between 2 256, 0xffff, 2⟩,
  ⟨0x6250, 0x6250, 3, 3, .u16, .l, 0, 2, 8, .between 1 1024, 0xffff, 2⟩,
  ⟨0x6250, 0x6250, 4, 4, .enum, .r, 0, 0, 0, .any, 0xffff, 2⟩,
  ⟨0x6250, 0x6250, 5, 5, .u16, .r, 0, 0, 0, .any, 0xffff, 2⟩,
  ⟨0x6251, 0x6251, 0, 255, .i32, .r, 0, 0, 0, .any, 0xffffffff, 4⟩,
  ⟨0x6260, 0x6260, 1, 4, .bits32, .r, 0, 0, 0, .any, 0xffffffff, 4⟩]

/-- Object rows of the indices 7000h–70FFh, part 1. -/
def rows70_0 : List Row := [
  ⟨0x7000, 0x7000, 0, 0, .u8, .r, 0, 0, 6, .any, 0xff, 1⟩,
  ⟨0x7000, 0x7000, 1, 6, .bool, .s, 0, 2, 1, .any, 0xff, 1⟩,
  ⟨0x7001, 0x7001, 0, 0, .u8, .r, 0, 0, 6, .any, 0xff, 1⟩,
  ⟨0x7001, 0x7001, 1, 6, .enum, .s, 0, 2, 5, .between 0 5, 0xffff, 2⟩,
  ⟨0x7002, 0x7002, 0, 0, .u8, .r, 0, 0, 6, .any, 0xff, 1⟩,
  ⟨0x7002, 0x7002, 1, 6, .u8, .s, 0, 2, 1, .between 1 3, 0xff, 1⟩,
  ⟨0x7003, 0x7003, 0, 0, .u8, .r, 0, 0, 6, .any, 0xff, 1⟩,
  ⟨0x7003, 0x7003, 1, 6, .u8, .s, 0, 2, 3, .between 1 3, 0xff, 1⟩,
  ⟨0x7004, 0x7004, 0, 0, .u8, .r, 0, 0, 6, .any, 0xff, 1⟩,
  ⟨0x7004, 0x7004, 1, 6, .u16, .s, 0, 2, 16, .between 1 1000, 0xffff, 2⟩,
  ⟨0x7005, 0x7005, 0, 0, .u8, .r, 0, 0, 6, .any, 0xff, 1⟩,
  ⟨0x7005, 0x7005, 1, 6, .u8, .s, 0, 2, 255, .oneOf [0, 1, 2, 3, 4, 5, 6, 7, 255], 0xff, 1⟩,
  ⟨0x7006, 0x7006, 0, 0, .u16, .s, 0, 2, 16, .between 4 100, 0xffff, 2⟩,
  ⟨0x7007, 0x7007, 0, 0, .u8, .s, 0, 2, 3, .between 1 8, 0xff, 1⟩,
  ⟨0x7010, 0x7010, 0, 0, .u8, .r, 0, 0, 6, .any, 0xff, 1⟩,
  ⟨0x7010, 0x7010, 1, 6, .bits32, .r, 0, 0, 4096, .any, 0xfff8ffff, 4⟩,
  ⟨0x7011, 0x7011, 0, 0, .u8, .r, 0, 0, 6, .any, 0xff, 1⟩,
  ⟨0x7011, 0x7011, 1, 6, .u32, .r, 0, 0, 0, .any, 0xffffffff, 4⟩,
  ⟨0x7012, 0x7012, 0, 0, .u8, .r, 0, 0, 6, .any, 0xff, 1⟩,
  ⟨0x7012, 0x7012, 1, 6, .u32, .r, 0, 0, 0, .any, 0xffffffff, 4⟩]

/-- Object rows of the indices 7000h–70FFh, part 2. -/
def rows70_1 : List Row := [
  ⟨0x7013, 0x7013, 0, 0, .u8, .r, 0, 0, 6, .any, 0xff, 1⟩,
  ⟨0x7013, 0x7013, 1, 6, .enum, .r, 0, 0, 0, .any, 0xffff, 2⟩,
  ⟨0x7020, 0x7020, 0, 0, .u8, .r, 0, 0, 6, .any, 0xff, 1⟩,
  ⟨0x7020, 0x7020, 1, 6, .u32, .l, 0, 2, 0, .oneOf [1381257806], 0xffffffff, 4⟩,
  ⟨0x7030, 0x7030, 0, 0, .u8, .r, 0, 0, 16, .any, 0xff, 1⟩,
  ⟨0x7030, 0x7030, 1, 16, .u64, .s, 0, 2, 0, .aligned 0 0xfffffffffffff 4096 0, 0xffffffffffffffff, 8⟩,
  ⟨0x7031, 0x7031, 0, 0, .u8, .r, 0, 0, 16, .any, 0xff, 1⟩,
  ⟨0x7031, 0x7031, 1, 16, .u64, .s, 0, 2, 0, .aligned 0 0xfffffffffffff 4096 4095, 0xffffffffffffffff, 8⟩,
  ⟨0x7032, 0x7032, 0, 0, .u8, .r, 0, 0, 16, .any, 0xff, 1⟩,
  ⟨0x7032, 0x7032, 1, 16, .u8, .s, 0, 2, 255, .oneOf [0, 1, 2, 3, 4, 5, 255], 0xff, 1⟩,
  ⟨0x7033, 0x7033, 0, 0, .u8, .r, 0, 0, 16, .any, 0xff, 1⟩,
  ⟨0x7033, 0x7033, 1, 16, .u8, .s, 0, 2, 0, .any, 0xff, 1⟩]

/-- Object rows of the indices 7800h–78FFh. -/
def rows78 : List Row := [
  ⟨0x7800, 0x7800, 1, 1, .u64, .s, 0, 2, 0x4000000000, .aligned 0 0xfffffffffffff 134217728 0, 0xffffffffffffffff, 8⟩,
  ⟨0x7800, 0x7800, 2, 2, .bool, .s, 0, 2, 0, .any, 0xff, 1⟩,
  ⟨0x7801, 0x7801, 1, 1, .u32, .s, 0, 2, 100, .between 10 10000, 0xffffffff, 4⟩,
  ⟨0x7801, 0x7801, 2, 2, .u32, .s, 0, 2, 200, .between 10 10000, 0xffffffff, 4⟩,
  ⟨0x7802, 0x7802, 1, 1, .u16, .s, 0, 2, 1024, .between 0 4096, 0xffff, 2⟩,
  ⟨0x7803, 0x7803, 1, 1, .u16, .r, 0, 0, 0, .any, 0xffff, 2⟩,
  ⟨0x7803, 0x7803, 2, 2, .u16, .r, 0, 0, 0, .any, 0xffff, 2⟩,
  ⟨0x7803, 0x7803, 3, 3, .u16, .r, 0, 0, 0, .any, 0xffff, 2⟩,
  ⟨0x7803, 0x7803, 4, 4, .u8, .r, 0, 0, 0, .any, 0xff, 1⟩,
  ⟨0x7804, 0x7804, 1, 1, .bool, .s, 0, 2, 1, .any, 0xff, 1⟩,
  ⟨0x7804, 0x7804, 2, 2, .u16, .r, 0, 0, 0, .any, 0xffff, 2⟩,
  ⟨0x7804, 0x7804, 3, 3, .u16, .r, 0, 0, 0, .any, 0xffff, 2⟩,
  ⟨0x7805, 0x7805, 1, 1, .u64, .l, 0, 2, 0, .any, 0xffffffffffffffff, 8⟩,
  ⟨0x7805, 0x7805, 2, 2, .bits32, .r, 0, 0, 0, .any, 0xefffff00, 4⟩,
  ⟨0x7806, 0x7806, 1, 1, .u64, .r, 0, 0, 0, .any, 0xffffffffffffffff, 8⟩,
  ⟨0x7806, 0x7806, 2, 2, .u8, .r, 0, 0, 0, .any, 0xff, 1⟩,
  ⟨0x7806, 0x7806, 3, 3, .enum, .r, 0, 0, 0, .any, 0xffff, 2⟩]

/-- Object rows of the indices 8000h–80FFh. -/
def rows80 : List Row := [
  ⟨0x8000, 0x8000, 1, 1, .u32, .o, 0, 2, 0, .any, 0xffffffff, 4⟩,
  ⟨0x8001, 0x8001, 1, 1, .enum, .r, 0, 0, 0, .any, 0xffff, 2⟩,
  ⟨0x8001, 0x8001, 2, 2, .enum, .r, 0, 0, 0, .any, 0xffff, 2⟩,
  ⟨0x8001, 0x8001, 3, 3, .bool, .r, 0, 0, 0, .any, 0xff, 1⟩,
  ⟨0x8001, 0x8001, 4, 4, .u32, .r, 0, 0, 0, .any, 0xffffffff, 4⟩,
  ⟨0x8001, 0x8001, 5, 5, .enum, .r, 0, 0, 1, .any, 0xffff, 2⟩,
  ⟨0x8001, 0x8001, 6, 6, .bits16, .r, 0, 0, 0, .any, 0x8ff0, 2⟩,
  ⟨0x8001, 0x8001, 7, 7, .u16, .r, 0, 0, 0, .any, 0xffff, 2⟩,
  ⟨0x8002, 0x8002, 1, 1, .u16, .s, 0, 2, 32, .between 16 32, 0xffff, 2⟩,
  ⟨0x8002, 0x8002, 2, 2, .u8, .s, 0, 2, 0, .between 0 7, 0xff, 1⟩,
  ⟨0x8003, 0x8003, 0, 0, .u32, .l, 0, 2, 0, .oneOf [1212239428], 0xffffffff, 4⟩,
  ⟨0x8004, 0x8004, 1, 1, .u64, .r, 0, 0, 0, .any, 0xffffffffffffffff, 8⟩,
  ⟨0x8004, 0x8004, 2, 2, .bits32, .r, 0, 0, 0, .any, 0xffffffff, 4⟩,
  ⟨0x8004, 0x8004, 3, 3, .bits32, .r, 0, 0, 0, .any, 0xffffffff, 4⟩,
  ⟨0x8005, 0x8005, 1, 1, .u64, .r, 0, 0, 0, .any, 0xffffffffffffffff, 8⟩,
  ⟨0x8005, 0x8005, 2, 2, .u16, .r, 0, 0, 0, .any, 0xffff, 2⟩,
  ⟨0x8010, 0x8010, 1, 1, .u8, .s, 0, 2, 17, .between 1 254, 0xff, 1⟩,
  ⟨0x8010, 0x8010, 2, 2, .octets, .s, 0, 2, 0, .len 6, 0x0, 6⟩,
  ⟨0x8010, 0x8010, 3, 3, .u32, .s, 0, 2, 0xc0a80a0b, .any, 0xffffffff, 4⟩,
  ⟨0x8010, 0x8010, 4, 4, .u8, .s, 0, 2, 2, .between 0 31, 0xff, 1⟩]

/-- Object rows of the indices 9000h–90FFh. -/
def rows90 : List Row := [
  ⟨0x9000, 0x9000, 1, 1, .bits16, .r, 0, 0, 0, .any, 0x1f, 2⟩,
  ⟨0x9010, 0x9010, 1, 1, .bits32, .k, 0, 2, 83, .any, 0xf3, 4⟩,
  ⟨0x9011, 0x9011, 1, 1, .bits16, .r, 0, 0, 0, .any, 0x7, 2⟩,
  ⟨0x9012, 0x9012, 1, 1, .u32, .r, 0, 0, 0, .any, 0xffffffff, 4⟩,
  ⟨0x9013, 0x9013, 0, 0, .u8, .r, 0, 0, 8, .any, 0xff, 1⟩,
  ⟨0x9013, 0x9013, 1, 8, .u64, .r, 0, 0, 0, .any, 0xffffffffffffffff, 8⟩,
  ⟨0x9020, 0x9020, 1, 1, .octets, .l, 0, 2, 0, .len 32, 0x0, 32⟩,
  ⟨0x9020, 0x9020, 2, 2, .enum, .r, 0, 0, 0, .any, 0xffff, 2⟩,
  ⟨0x9021, 0x9021, 1, 1, .octets, .l, 0, 2, 0, .len 32, 0x0, 32⟩,
  ⟨0x9021, 0x9021, 2, 2, .enum, .r, 0, 0, 0, .any, 0xffff, 2⟩,
  ⟨0x9030, 0x9030, 0, 0, .u8, .r, 0, 0, 63, .any, 0xff, 1⟩,
  ⟨0x9030, 0x9030, 1, 63, .octets, .l, 2, 2, 0, .any, 0x0, 4096⟩]

/-- Object rows of the indices F000h–F0FFh, part 1. -/
def rowsF0_0 : List Row := [
  ⟨0xF000, 0xF000, 1, 9, .u32, .r, 0, 0, 0, .any, 0xffffffff, 4⟩,
  ⟨0xF008, 0xF008, 1, 14, .u32, .r, 0, 0, 0, .any, 0xffffffff, 4⟩,
  ⟨0xF010, 0xF010, 1, 10, .u32, .r, 0, 0, 0, .any, 0xffffffff, 4⟩,
  ⟨0xF018, 0xF018, 1, 19, .u32, .r, 0, 0, 0, .any, 0xffffffff, 4⟩,
  ⟨0xF030, 0xF030, 1, 6, .u32, .r, 0, 0, 0, .any, 0xffffffff, 4⟩,
  ⟨0xF040, 0xF040, 1, 2, .u64, .r, 0, 0, 0, .any, 0xffffffffffffffff, 8⟩,
  ⟨0xF040, 0xF040, 3, 11, .u32, .r, 0, 0, 0, .any, 0xffffffff, 4⟩,
  ⟨0xF040, 0xF040, 17, 18, .u64, .r, 0, 0, 0, .any, 0xffffffffffffffff, 8⟩,
  ⟨0xF040, 0xF040, 19, 27, .u32, .r, 0, 0, 0, .any, 0xffffffff, 4⟩,
  ⟨0xF040, 0xF040, 33, 34, .u64, .r, 0, 0, 0, .any, 0xffffffffffffffff, 8⟩,
  ⟨0xF040, 0xF040, 35, 43, .u32, .r, 0, 0, 0, .any, 0xffffffff, 4⟩,
  ⟨0xF040, 0xF040, 49, 50, .u64, .r, 0, 0, 0, .any, 0xffffffffffffffff, 8⟩,
  ⟨0xF040, 0xF040, 51, 59, .u32, .r, 0, 0, 0, .any, 0xffffffff, 4⟩,
  ⟨0xF040, 0xF040, 65, 66, .u64, .r, 0, 0, 0, .any, 0xffffffffffffffff, 8⟩,
  ⟨0xF040, 0xF040, 67, 75, .u32, .r, 0, 0, 0, .any, 0xffffffff, 4⟩,
  ⟨0xF040, 0xF040, 81, 82, .u64, .r, 0, 0, 0, .any, 0xffffffffffffffff, 8⟩,
  ⟨0xF040, 0xF040, 83, 91, .u32, .r, 0, 0, 0, .any, 0xffffffff, 4⟩,
  ⟨0xF048, 0xF048, 1, 2, .u64, .r, 0, 0, 0, .any, 0xffffffffffffffff, 8⟩,
  ⟨0xF048, 0xF048, 3, 10, .u32, .r, 0, 0, 0, .any, 0xffffffff, 4⟩,
  ⟨0xF048, 0xF048, 11, 11, .u64, .r, 0, 0, 0, .any, 0xffffffffffffffff, 8⟩]

/-- Object rows of the indices F000h–F0FFh, part 2. -/
def rowsF0_1 : List Row := [
  ⟨0xF048, 0xF048, 12, 17, .u32, .r, 0, 0, 0, .any, 0xffffffff, 4⟩,
  ⟨0xF050, 0xF050, 1, 5, .u32, .r, 0, 0, 0, .any, 0xffffffff, 4⟩,
  ⟨0xF050, 0xF050, 6, 6, .u64, .r, 0, 0, 0, .any, 0xffffffffffffffff, 8⟩,
  ⟨0xF050, 0xF050, 7, 16, .u32, .r, 0, 0, 0, .any, 0xffffffff, 4⟩,
  ⟨0xF058, 0xF058, 1, 2, .u64, .r, 0, 0, 0, .any, 0xffffffffffffffff, 8⟩,
  ⟨0xF058, 0xF058, 3, 41, .u32, .r, 0, 0, 0, .any, 0xffffffff, 4⟩,
  ⟨0xF060, 0xF060, 1, 2, .u64, .r, 0, 0, 0, .any, 0xffffffffffffffff, 8⟩,
  ⟨0xF060, 0xF060, 3, 4, .u32, .r, 0, 0, 0, .any, 0xffffffff, 4⟩,
  ⟨0xF060, 0xF060, 5, 8, .u64, .r, 0, 0, 0, .any, 0xffffffffffffffff, 8⟩,
  ⟨0xF060, 0xF060, 9, 15, .u32, .r, 0, 0, 0, .any, 0xffffffff, 4⟩,
  ⟨0xF068, 0xF068, 1, 12, .u32, .r, 0, 0, 0, .any, 0xffffffff, 4⟩,
  ⟨0xF070, 0xF070, 1, 2, .u64, .r, 0, 0, 0, .any, 0xffffffffffffffff, 8⟩,
  ⟨0xF070, 0xF070, 3, 8, .u32, .r, 0, 0, 0, .any, 0xffffffff, 4⟩,
  ⟨0xF070, 0xF070, 9, 10, .u64, .r, 0, 0, 0, .any, 0xffffffffffffffff, 8⟩,
  ⟨0xF070, 0xF070, 11, 11, .u32, .r, 0, 0, 0, .any, 0xffffffff, 4⟩,
  ⟨0xF078, 0xF078, 1, 3, .u64, .r, 0, 0, 0, .any, 0xffffffffffffffff, 8⟩,
  ⟨0xF078, 0xF078, 4, 8, .u32, .r, 0, 0, 0, .any, 0xffffffff, 4⟩,
  ⟨0xF078, 0xF078, 9, 11, .u64, .r, 0, 0, 0, .any, 0xffffffffffffffff, 8⟩,
  ⟨0xF078, 0xF078, 12, 14, .u32, .r, 0, 0, 0, .any, 0xffffffff, 4⟩,
  ⟨0xF080, 0xF080, 1, 1, .u64, .r, 0, 0, 0, .any, 0xffffffffffffffff, 8⟩]

/-- Object rows of the indices F000h–F0FFh, part 3. -/
def rowsF0_2 : List Row := [
  ⟨0xF080, 0xF080, 2, 3, .u32, .r, 0, 0, 0, .any, 0xffffffff, 4⟩,
  ⟨0xF080, 0xF080, 4, 4, .u64, .r, 0, 0, 0, .any, 0xffffffffffffffff, 8⟩,
  ⟨0xF080, 0xF080, 5, 13, .u32, .r, 0, 0, 0, .any, 0xffffffff, 4⟩,
  ⟨0xF088, 0xF088, 1, 3, .u64, .r, 0, 0, 0, .any, 0xffffffffffffffff, 8⟩,
  ⟨0xF088, 0xF088, 4, 10, .u32, .r, 0, 0, 0, .any, 0xffffffff, 4⟩,
  ⟨0xF088, 0xF088, 11, 11, .u64, .r, 0, 0, 0, .any, 0xffffffffffffffff, 8⟩,
  ⟨0xF088, 0xF088, 12, 14, .u32, .r, 0, 0, 0, .any, 0xffffffff, 4⟩,
  ⟨0xF090, 0xF090, 1, 1, .u64, .r, 0, 0, 0, .any, 0xffffffffffffffff, 8⟩,
  ⟨0xF090, 0xF090, 2, 3, .u32, .r, 0, 0, 0, .any, 0xffffffff, 4⟩,
  ⟨0xF090, 0xF090, 4, 4, .u64, .r, 0, 0, 0, .any, 0xffffffffffffffff, 8⟩,
  ⟨0xF090, 0xF090, 5, 13, .u32, .r, 0, 0, 0, .any, 0xffffffff, 4⟩,
  ⟨0xF098, 0xF098, 1, 9, .u32, .r, 0, 0, 0, .any, 0xffffffff, 4⟩,
  ⟨0xF0FF, 0xF0FF, 0, 0, .u32, .l, 0, 2, 0, .oneOf [1145261138], 0xffffffff, 4⟩]

/-- The rows whose indices have the high octet `h`. -/
def rowsOf (h : Nat) : List Row :=
  match h with
  | 0x10 => rows10_0 ++ rows10_1
  | 0x11 => rows11_0 ++ rows11_1
  | 0x20 => rows20_0 ++ rows20_1 ++ rows20_2
  | 0x21 => rows21
  | 0x22 => rows22_0 ++ rows22_1
  | 0x23 => rows23
  | 0x30 => rows30
  | 0x32 => rows32
  | 0x38 => rows38
  | 0x39 => rows39_0 ++ rows39_1
  | 0x40 => rows40_0 ++ rows40_1
  | 0x41 => rows41
  | 0x42 => rows42
  | 0x50 => rows50
  | 0x51 => rows51
  | 0x54 => rows54
  | 0x58 => rows58
  | 0x60 => rows60
  | 0x62 => rows62_0 ++ rows62_1 ++ rows62_2
  | 0x70 => rows70_0 ++ rows70_1
  | 0x78 => rows78
  | 0x80 => rows80
  | 0x90 => rows90
  | 0xF0 => rowsF0_0 ++ rowsF0_1 ++ rowsF0_2
  | _ => []

end Sys2Proof.Machine
end

