-- ==== Sys2Proof/Machine/Ops.lean ====
section
/-! DEFINITION. Sys2Proof/Machine/Ops.lean: the named operations over the state: finite maps, numbers and octets, the
dictionary store, counters, outputs, free values, the passing of time, and the cause tree. -/
namespace Sys2Proof.Machine

/-! ### Finite maps -/

/-- The value listed at a key. -/
def mget {α : Type} (m : Map α) (k : Nat) : Option α :=
  match m with
  | [] => none
  | (k', v) :: t => if k = k' then some v else mget t k

/-- The value at a key, or `d` where none is listed. -/
def mgetD {α : Type} (m : Map α) (k : Nat) (d : α) : α := (mget m k).getD d

/-- List a value at a key, in key order. -/
def mset {α : Type} (m : Map α) (k : Nat) (v : α) : Map α :=
  match m with
  | [] => [(k, v)]
  | (k', v') :: t =>
    if k < k' then (k, v) :: (k', v') :: t
    else if k = k' then (k, v) :: t
    else (k', v') :: mset t k v

/-- Drop a key. -/
def mdel {α : Type} (m : Map α) (k : Nat) : Map α := m.filter fun e => decide (e.1 ≠ k)

/-- Keys in strictly rising order. -/
def msorted {α : Type} (m : Map α) : Bool :=
  match m with
  | [] => true
  | [_] => true
  | a :: b :: t => decide (a.1 < b.1) && msorted (b :: t)

/-! ### Numbers and octets -/

/-- Bits [lo + w − 1:lo] of a number. -/
def bits (n lo w : Nat) : Nat := n / 2 ^ lo % 2 ^ w

/-- Bit i of a number. -/
def bit (n i : Nat) : Bool := n / 2 ^ i % 2 = 1

/-- Set bit i. -/
def setBit (n i : Nat) : Nat := if bit n i then n else n + 2 ^ i

/-- Clear bit i. -/
def clrBit (n i : Nat) : Nat := if bit n i then n - 2 ^ i else n

/-- Bit i as this Boolean. -/
def putBit (n i : Nat) (b : Bool) : Nat := if b then setBit n i else clrBit n i

/-- The bits of n that m has clear. -/
def andNot (n m : Nat) : Nat := n - (n &&& m)

/-- A number's place value of one bit. -/
def b2n (b : Bool) : Nat := if b then 1 else 0

/-- How many of the low `w` bits are set. -/
def popCount (w n : Nat) : Nat :=
  match w with
  | 0 => 0
  | w + 1 => b2n (bit n w) + popCount w n

/-- The set bits among the low `w`, ascending. -/
def bitList (w n : Nat) : List Nat := (List.range w).filter fun i => bit n i

/-- Two's complement of `w` bits read as an integer (R209). -/
def toInt (w n : Nat) : Int := if n % 2 ^ w < 2 ^ (w - 1) then (n % 2 ^ w : Nat) else (n % 2 ^ w : Nat) - (2 ^ w : Nat)

/-- An integer as `w` bits of two's complement. -/
def ofInt (w : Nat) (i : Int) : Nat := (i % (2 ^ w : Nat)).toNat

/-- Clamp an integer. -/
def clampI (lo hi i : Int) : Int := if i < lo then lo else if hi < i then hi else i

/-- A number as `n` octets, least significant first (R7). -/
def leBytes (n v : Nat) : Octets :=
  match n with
  | 0 => []
  | n + 1 => BitVec.ofNat 8 v :: leBytes n (v / 256)

/-- Octets, least significant first, as a number (R7). -/
def leNat (o : Octets) : Nat :=
  match o with
  | [] => 0
  | b :: t => b.toNat + 256 * leNat t

/-- `n` octets from offset `i`, with zeros past the end. -/
def octAt (o : Octets) (i n : Nat) : Octets := ((o.drop i).take n) ++ List.replicate (n - ((o.drop i).take n).length) 0

/-- The little-endian number in `n` octets from offset `i`. -/
def leAt (o : Octets) (i n : Nat) : Nat := leNat (octAt o i n)

/-- `n` octets of zeros. -/
def zeros (n : Nat) : Octets := List.replicate n 0

/-- Put octets over others at an offset; the string grows by zeros where it must. -/
def putOct (o : Octets) (i : Nat) (v : Octets) : Octets := octAt o 0 i ++ v ++ o.drop (i + v.length)

/-- Round up to a multiple of m. -/
def roundUp (n m : Nat) : Nat := (n + m - 1) / m * m

/-! ### CRC-32C (R5) -/

/-- One bit of the reflected CRC. -/
def crcBit (c : BitVec 32) : BitVec 32 := if c.getLsbD 0 then (c >>> 1) ^^^ 0x82F63B78#32 else c >>> 1

/-- One octet of the reflected CRC. -/
def crcByte (c : BitVec 32) (b : Byte) : BitVec 32 :=
  crcBit (crcBit (crcBit (crcBit (crcBit (crcBit (crcBit (crcBit (c ^^^ b.setWidth 32))))))))

/-- CRC-32C of R5: polynomial 0x1EDC6F41 reflected, initial value and final XOR all ones. -/
def crc32c (o : Octets) : Nat := (o.foldl crcByte 0xFFFFFFFF#32 ^^^ 0xFFFFFFFF#32).toNat

/-! ### Object rows -/

/-- An object's key in the store. -/
def key (idx sub : Nat) : Nat := idx * 256 + sub

/-- Octets of a type (Table 5.2); 0 for OCTETS, whose length varies. -/
def tyLen (t : Ty) : Nat :=
  match t with
  | .bool => 1 | .u8 => 1 | .u16 => 2 | .u32 => 4 | .u64 => 8 | .i32 => 4 | .i64 => 8
  | .enum => 2 | .bits16 => 2 | .bits32 => 4 | .time80 => 10 | .octets => 0

/-- Type code of Table 5.2. -/
def tyCode (t : Ty) : Nat :=
  match t with
  | .bool => 1 | .u8 => 2 | .u16 => 3 | .u32 => 4 | .u64 => 5 | .i32 => 6 | .i64 => 7
  | .enum => 8 | .bits16 => 9 | .bits32 => 10 | .time80 => 11 | .octets => 12

/-- A signed type. -/
def tySigned (t : Ty) : Bool :=
  match t with
  | .i32 => true
  | .i64 => true
  | _ => false

/-- The row of an object, if it exists (R205). -/
def findRow (idx sub : Nat) : Option Row :=
  (rowsOf (idx / 256)).find? fun r => decide (r.i0 ≤ idx) && decide (idx ≤ r.i1) && decide (r.s0 ≤ sub) && decide (sub ≤ r.s1)

/-- An index some row defines (R205). -/
def indexDefined (idx : Nat) : Bool :=
  (rowsOf (idx / 256)).any fun r => decide (r.i0 ≤ idx) && decide (idx ≤ r.i1)

/-! ### Loop defaults (Table 12.1, Table 12.5) and the other defaults that differ within a run -/

/-- Kind of a Belay loop (Table 12.1): 0 source time, 1 probe phase, 2 Rope phase, 3 port deskew, 4 trim DAC. -/
def loopKind (l : Nat) : Nat :=
  if l < 16 then 0 else if l < 24 then 1 else if l = 24 then 2 else if l < 31 then 3 else 4

/-- Control word of a loop by default (Table 12.4, Table 12.5). -/
def loopCtlDefault (l : Nat) : Nat :=
  l * 2 ^ 37 +
  match loopKind l with
  | 0 => 2 ^ 63 + 2 ^ 56 + 3 * 2 ^ 52 + (l % 8) * 2 ^ 42
  | 1 => 2 ^ 63 + 4 * 2 ^ 52 + (l - 16) * 2 ^ 42
  | 2 => 2 ^ 63
  | 3 => 2 ^ 63 + 6 * 2 ^ 52 + (l - 25) * 2 ^ 42
  | _ => 0

/-- Least actuator value of a loop (Table 12.1). -/
def loopMin (l : Nat) : Int :=
  match loopKind l with
  | 0 => -858993
  | 2 => -32768
  | _ => 0

/-- Greatest actuator value of a loop (Table 12.1). -/
def loopMax (l : Nat) : Int :=
  match loopKind l with
  | 0 => 858993
  | 1 => 511
  | 2 => 32767
  | 3 => 1023
  | _ => 4095

/-- Actuator of a loop at reset (Table 12.1). -/
def loopReset (l : Nat) : Int :=
  match loopKind l with
  | 1 => 256
  | 3 => 512
  | 4 => 2048
  | _ => 0

/-- Following-error limit by default (Table 12.5). -/
def loopFeDefault (l : Nat) : Nat :=
  match loopKind l with
  | 0 => 32768
  | 1 => 32
  | 2 => 80
  | 3 => 50
  | _ => 0x7FFFFFFF

/-- Lock window by default (Table 12.5). -/
def loopLockDefault (l : Nat) : Nat :=
  match loopKind l with
  | 0 => 9830
  | 1 => 8
  | 2 => 40
  | 3 => 10
  | _ => 0x7FFFFFFF

/-- Coefficient of a loop by default (Table 12.5); those the table does not name, the notch sections', are 0. -/
def loopCoefDefault (l sub : Nat) : Int :=
  match sub, loopKind l with
  | 1, 0 => 0x020C49BA
  | 2, 0 => 0x0020C49C
  | 1, 1 => 0x00400000
  | 2, 1 => 0x00100000
  | 1, 2 => 0x00800000
  | 2, 2 => 0x00080000
  | 1, 3 => 0x00200000
  | 2, 3 => 0x00040000
  | _, _ => 0

/-- The default of an object whose run does not share one (R206). -/
def specialDefault (idx sub : Nat) : Option Val :=
  match idx with
  | 0x2200 => if sub = 0 then none else some (.num (((([0x0106, 0x0114, 0x0114, 0x0010, 0x0114, 0x0114, 0x0114, 0x0204, 0x0006] : List Nat)[sub - 1]?).getD 0)))
  | 0x2209 => if sub = 0 then none else some (.num (((([0x0258012C, 0x027601C2, 0x029E0258, 0x02D00320, 0x030C03E8, 0x035204B0] : List Nat)[sub - 1]?).getD 0)))
  | 0x2013 => if sub = 0 then none else some (.num (50 * (sub - 1)))
  | 0x1084 => if sub = 2 then some (.oct [0]) else none
  | 0x1101 => some (.num ((([10, 159, 40, 40] : List Nat)[sub - 1]?).getD 0))
  | 0x1102 => if sub ≤ 4 then some (.num ((([5, 74, 25, 25] : List Nat)[sub - 1]?).getD 0)) else none
  | 0x1104 => if sub = 4 then some (.num 10000) else none
  | 0x1110 => if sub = 2 then some (.oct [0x02, 0, 0, 0, 0x74, 0x10]) else none
  | 0x8010 => if sub = 2 then some (.oct [0x02, 0, 0, 0, 0x74, 0x11]) else none
  | 0x1010 => if sub = 2 ∨ sub = 3 then some (.oct (zeros 32)) else none
  | 0x1011 => if sub = 3 then some (.oct (zeros 6)) else none
  | 0x9020 => if sub = 1 then some (.oct (zeros 32)) else none
  | 0x9021 => if sub = 1 then some (.oct (zeros 32)) else none
  | 0x9030 => if sub = 0 then none else some (.oct [0])
  | 0x6000 => if sub = 1 then some (.oct (zeros 20)) else none
  | 0x6201 => if sub = 0 then none else some (.num (loopCtlDefault (sub - 1)))
  | 0x6203 => if sub = 0 then none else some (.num (ofInt 32 (loopMin (sub - 1))))
  | 0x6204 => if sub = 0 then none else some (.num (ofInt 32 (loopMax (sub - 1))))
  | 0x6205 => if sub = 0 then none else some (.num (loopFeDefault (sub - 1)))
  | 0x6207 => if sub = 0 then none else some (.num (loopLockDefault (sub - 1)))
  | 0x6232 => if sub = 0 then none else some (.num (ofInt 32 (loopReset (sub - 1))))
  | _ =>
    if 0x6210 ≤ idx ∧ idx ≤ 0x622F then some (.num (ofInt 32 (loopCoefDefault (idx - 0x6210) sub)))
    else if 0x4100 ≤ idx ∧ idx ≤ 0x410F ∧ (sub = 2 ∨ sub = 3) then some (.oct (zeros 32))
    else none

/-- The default of an object (R206). -/
def defaultVal (idx sub : Nat) : Val :=
  match specialDefault idx sub with
  | some v => v
  | none =>
    match findRow idx sub with
    | some r => .num r.dflt
    | none => .num 0

/-! ### The dictionary store -/

/-- The value the store holds for an object: as last put, else its default (R206, R214). -/
def State.val (s : State) (idx sub : Nat) : Val :=
  match mget s.obj (key idx sub) with
  | some v => v
  | none => defaultVal idx sub

/-- A value as a number; an octet string counts as its little-endian number. -/
def valNum (v : Val) : Nat :=
  match v with
  | .num n => n
  | .oct o => leNat o

/-- A value as octets. -/
def valOct (v : Val) : Octets :=
  match v with
  | .num _ => []
  | .oct o => o

/-- The number an object holds. -/
def State.n (s : State) (idx sub : Nat) : Nat := valNum (s.val idx sub)

/-- The flag a BOOL object holds. -/
def State.b (s : State) (idx sub : Nat) : Bool := s.n idx sub = 1

/-- The integer an I32 object holds. -/
def State.i (s : State) (idx sub : Nat) : Int := toInt 32 (s.n idx sub)

/-- The number an object holds whose default is 0: the same as `State.n` there, without looking the default up. -/
def State.z (s : State) (idx sub : Nat) : Nat :=
  match mget s.obj (key idx sub) with
  | some v => valNum v
  | none => 0

/-- Put a value into the store. -/
def State.putVal (s : State) (idx sub : Nat) (v : Val) : State := { s with obj := mset s.obj (key idx sub) v }

/-- Put a number into the store. -/
def State.put (s : State) (idx sub n : Nat) : State := s.putVal idx sub (.num n)

/-- Add to a diagnostic counter of width `w` bits, which stays at all-ones once there (R238, R239). -/
def State.bumpW (s : State) (idx sub w d : Nat) : State :=
  s.put idx sub (min (s.z idx sub + d) (2 ^ w - 1))

/-- Add to a U32 diagnostic counter. -/
def State.bump (s : State) (idx sub d : Nat) : State := s.bumpW idx sub 32 d

/-! ### Outputs and free values -/

/-- Hand something outward. -/
def State.emit (s : State) (o : Output) : State := { s with out := o :: s.out }

/-- The next free value. [DESIGN CHOICE, log entry 8] -/
def State.freeVal (s : State) : Nat := Config.freeNat s.free

/-- One more free value has been drawn. [DESIGN CHOICE, log entry 8] -/
def State.drawn (s : State) : State := { s with free := s.free + 1 }

/-! ### Time -/

/-- ADJ: the sum of both terms, limited to ±858,993 units of 2^-32 ns per tick (R449, R450). -/
def State.adj (s : State) : Int := clampI (-858993) 858993 (s.time.rate + s.time.slew)

/-- The modulus of package time in units of 2^-32 ns: 2^48 seconds (R448). -/
def ptMod : Nat := 2 ^ 48 * 1000000000 * 2 ^ 32

/-- Package time advanced by d ticks at INC = 1 ns + ADJ each (R449). -/
def ptAdvance (pt : Nat) (adj : Int) (d : Nat) : Nat :=
  (((pt : Int) + (d : Int) * ((2 ^ 32 : Nat) + adj)) % (ptMod : Int)).toNat

/-- `d` ns pass: real time, the tick counter and package time advance. While the time base bridges, they advance by 10
ticks at each REF cycle, at the first one by what was left of it, and the cycle is counted (R449, R451, R453). [DESIGN CHOICE, log entry 1; DEDUCED, log entry 25] -/
def State.elapse (s : State) (d : Nat) : State :=
  let refs := (s.now + d) / 10 - s.now / 10
  let ticks := if s.time.bridging then (if refs = 0 then 0 else 10 * refs - s.time.bridgeLead) else d
  let t := s.time
  let t := if t.tickRun then
      { t with
        tick := t.tick + ticks, pt := if t.ptRun then ptAdvance t.pt s.adj ticks else t.pt
        bridgeLead := if t.bridging ∧ refs ≠ 0 then 0 else t.bridgeLead }
    else t
  let s' := { s with now := s.now + d, time := t }
  if s.time.bridging ∧ s.time.tickRun then s'.bump 0xF050 16 refs else s'

/-- Time moves on to a real time that a timed command stands for, if that lies ahead. [DESIGN CHOICE, log entry 1] -/
def State.elapseTo (s : State) (t : Nat) : State := if s.now < t then s.elapse (t - s.now) else s

/-- How many ns pass until the tick counter has advanced by `n`: a bridging time base reaches it, or passes it, at an edge of REF (R453). -/
def State.spanOf (s : State) (n : Nat) : Nat :=
  if s.time.bridging then (s.now / 10 + (n + s.time.bridgeLead + 9) / 10) * 10 - s.now else n

/-- Time moves on until the tick counter holds `k`, if it runs and `k` lies ahead. [DESIGN CHOICE, log entry 1] -/
def State.elapseToTick (s : State) (k : Nat) : State :=
  if s.time.tickRun ∧ s.time.tick < k then s.elapse (s.spanOf (k - s.time.tick)) else s

/-- The tick that the 64 bits `v` of another device's counter name (R451). [DEDUCED, log entry 79] -/
def State.tickOf (s : State) (v : Nat) : Nat := v + s.time.tick / 2 ^ 64 * 2 ^ 64

/-! ### Domains and PLLs -/

/-- Number of a domain, in the order of the root list. -/
def domNo (d : Domain) : Nat :=
  match d with
  | .xo => 0 | .tick => 1 | .fab => 2 | .lnk p => 3 + p.val | .cmp => 9 | .prb => 10 | .srv => 11 | .mgt => 12 | .aon => 13

/-- Number of a PLL. -/
def pllNo (p : Pll) : Nat :=
  match p with
  | .rpll => 0 | .spll => 1 | .ppll => 2 | .cpll => 3 | .port p => 4 + p.val

/-- State of a root after POR (Table 3.3, Table 3.7). The oscillator starts once VDDIO and VAON are up, and AON with VAON (R106). -/
def domInit (p : Power) (d : Domain) : DomainSt :=
  match d with
  | .xo => { src := 1, inReset := false, running := p.vddioUp && p.vaonUp }
  | .mgt => { src := 2, inReset := false }
  | .aon => { src := 0, inReset := false, running := p.vaonUp }
  | _ => {}

/-- A domain root. -/
def State.dom (s : State) (d : Domain) : DomainSt := mgetD s.clk.dom (domNo d) (domInit s.power d)

/-- Change a domain root. -/
def State.setDom (s : State) (d : Domain) (x : DomainSt) : State :=
  { s with clk := { s.clk with dom := mset s.clk.dom (domNo d) x } }

/-- A PLL. -/
def State.pll (s : State) (p : Pll) : PllSt := mgetD s.clk.pll (pllNo p) {}

/-- Change a PLL. -/
def State.setPll (s : State) (p : Pll) (x : PllSt) : State :=
  { s with clk := { s.clk with pll := mset s.clk.pll (pllNo p) x } }

/-- The device is out of every reset kind of Table 4.2. -/
def State.up (s : State) : Bool := s.boot.step ≠ 0

/-- MGT runs: the device is out of reset, and MGT is not in domain reset (R248). -/
def State.mgtUp (s : State) : Bool := s.up && !(s.dom .mgt).inReset

/-- MGT runs on a clock other than AON (R146). -/
def State.mgtFast (s : State) : Bool := s.mgtUp && decide ((s.dom .mgt).src ≠ 2)

/-- The clock of a domain as so many cycles in so many ns, by the source its root runs on (Tables 3.1, 3.3, 3.5). [DESIGN CHOICE, log entry 85] -/
def State.clockRate (s : State) (d : Domain) : Nat × Nat :=
  match d, (s.dom d).src with
  | .aon, _ => (2, 125)
  | .xo, _ => (1, 10)
  | .mgt, 2 => (2, 125)
  | .mgt, 0 => (1, 4)
  | .tick, 0 => (1, 1)
  | .prb, 0 => (1, 1)
  | .fab, 0 => (8, 5)
  | .srv, 0 => (2, 5)
  | .cmp, 0 => (bits (s.n 0x2209 (s.clk.dvfsCur + 1)) 0 16, 1000)
  | .lnk p, 0 => ([250, 500, 750, 1000, 1500, 2000].getD (mgetD s.ports p.val {}).rate 2000, 1000)
  | _, _ => (1, 10)

/-- The cycle of a domain at a real time (R10). [DESIGN CHOICE, log entry 85] -/
def State.cycle (s : State) (d : Domain) (t : Nat) : Nat := t * (s.clockRate d).1 / (s.clockRate d).2

/-- A timer of a domain that started at a real time has passed the instant of its expiry, `limit` ns later: an awaited event that
becomes visible now is late (R10, R12, R14). -/
def State.late (s : State) (d : Domain) (since limit : Nat) : Bool :=
  decide (s.cycle d since + limit * (s.clockRate d).1 / (s.clockRate d).2 < s.cycle d s.now)

/-- The first real time at which that timer's expiry has passed. -/
def State.lateAt (s : State) (d : Domain) (since limit : Nat) : Nat :=
  let r := s.clockRate d
  ((since * r.1 / r.2 + limit * r.1 / r.2 + 1) * r.2 + r.1 - 1) / r.1

/-! ### The cause tree (Chapter 8) -/

/-- Defined bits of the cause object of a branch that are not aggregates (Table 8.3). -/
def causeBits (br : Nat) : Nat :=
  ((([0x1F, 0x0F, 0x3FF, 0x1F, 0x0F, 0x100, 0x1F, 0x0F, 0, 0x3F, 0, 0x1F, 0x1F, 0x30F, 0x3F, 0x1F] : List Nat)[br]?).getD 0)

/-- Children of a branch: index, number, defined bits (Table 8.4). -/
def childOf (br : Nat) : Option (Nat × Nat × Nat) :=
  match br with
  | 5 => some (0x2140, 6, 0x7F)
  | 8 => some (0x2150, 32, 0x1F)
  | 10 => some (0x2160, 16, 0x1F)
  | _ => none

/-- Defined bits of a cause object, aggregates among them (Table 8.3). -/
def causeMask (br : Nat) : Nat :=
  match childOf br with
  | some (_, n, _) => causeBits br + (2 ^ n - 1)
  | none => causeBits br

/-- The aggregate field formed from the children by this reading of them (R332). -/
def aggregate (f : Nat → Nat → Nat) (br : Nat) : Nat :=
  match childOf br with
  | some (ci, n, _) => ((List.range n).map fun j => if f ci (j + 1) = 0 then 0 else 2 ^ j).sum
  | none => 0

/-- A cause object as MGT reads it (R332). -/
def State.cause (s : State) (br : Nat) : Nat := s.z (0x2101 + br) 0 + aggregate s.z br

/-- A latch copy. -/
def State.latchWord (s : State) (idx sub : Nat) : Nat := mgetD s.alerts.latch (key idx sub) 0

/-- A cause object as the always-on latch holds it (R341). -/
def State.latchCause (s : State) (br : Nat) : Nat := s.latchWord (0x2101 + br) 0 + aggregate s.latchWord br

/-- Bit per branch whose word under its mask is not zero (R331). -/
def summaryOf (cause mask : Nat → Nat) : Nat :=
  ((List.range 16).map fun br => if andNot (cause br) (mask br) = 0 then 0 else 2 ^ br).sum

/-- The mask of a branch, as MGT uses it. -/
def State.mask (s : State) (br : Nat) : Nat := s.z (0x2111 + br) 0 &&& causeMask br

/-- The summary, 2100h:0 (R331). -/
def State.summary (s : State) : Nat := summaryOf s.cause s.mask

/-- The raw summary, 2121h:0 (R331). -/
def State.rawSummary (s : State) : Nat := summaryOf s.cause fun _ => 0

/-- The latch summary (R341). -/
def State.latchSummary (s : State) : Nat := summaryOf s.latchCause fun br => mgetD s.alerts.masks br 0

/-- ALERT_N is driven low (R340, R353). -/
def State.alertN (s : State) : Bool :=
  s.up && (decide (s.latchSummary ≠ 0) || (decide (7 ≤ s.boot.step) && (decide (s.summary ≠ 0) || decide (s.z 0x2122 2 = 1))))

/-- A path's state. -/
def State.path (s : State) (p : Nat) : PathSt := mgetD s.acc.path p {}

/-- Change a path's state. -/
def State.setPath (s : State) (p : Nat) (x : PathSt) : State := { s with acc := { s.acc with path := mset s.acc.path p x } }

/-- A path learns that the summary has changed: an ALERT frame is due, and risen branches add up (R264, R265). [DEDUCED, log entry 37] -/
def pathAlert (old new : Nat) (s : State) (p : Nat) : State :=
  let x := s.path p
  s.setPath p { x with due := true, risen := x.risen ||| andNot new old }

/-- A path's due frame and risen branches are put back (R338, Table 8.7). -/
def pathCalm (s : State) (e : Nat × Bool × Nat) : State := s.setPath e.1 { s.path e.1 with due := e.2.1, risen := e.2.2 }

/-- What the first clear of the present MGT cycle found (R338). -/
def State.calm (s : State) : Option (Bool × Nat × List (Bool × Nat)) :=
  if s.alerts.cycle = s.cycle .mgt s.now then s.alerts.before else none

/-- The assertions of ALERT_N are counted (R343): one that a clear of this MGT cycle would have released has lasted (Table 8.7). -/
def State.alertEdge (s : State) : State :=
  if s.alertN && !(s.alerts.driven || (match s.calm with | some c => c.1 | none => false)) then s.bump 0xF018 17 1 else s

/-- The paths learn of a summary that was `old` and is `new`. A summary that a clear took and an event of the same MGT cycle brings back
has never changed (Table 8.7). -/
def State.alertPaths (s : State) (old new : Nat) : State :=
  if old = new then s
  else
    let s := [1, 2, 3].foldl (pathAlert old new) s
    match s.calm with
    | some c => if new = c.2.1 then ([1, 2, 3].zip c.2.2).foldl pathCalm s else s
    | none => s

/-- Let the pin and the ALERT frames follow the tree (R264, R340, R343). -/
def State.alertSync (s : State) : State :=
  let t := s.alertEdge
  State.alertPaths { t with alerts := { t.alerts with driven := s.alertN, summary := t.summary } } t.alerts.summary t.summary

/-- Put a cause word into the MGT copy and the latch (R341). -/
def State.putCause (s : State) (idx sub n : Nat) : State :=
  let s := s.put idx sub n
  { s with alerts := { s.alerts with latch := mset s.alerts.latch (key idx sub) n } }

/-- Branches whose bits are set in the always-on latch by AON itself (R333). [DEDUCED, log entry 36] -/
def aonBranch (br : Nat) : Bool := br = 0 || br = 1 || br = 15

/-- The records of R338 are those of the present MGT cycle. -/
def State.alertCycle (s : State) : State :=
  if s.alerts.cycle = s.cycle .mgt s.now then s
  else { s with alerts := { s.alerts with cycle := s.cycle .mgt s.now, raised := [], cleared := [], before := none } }

/-- An event becomes visible in MGT: the bits it sets are noted, and those that a clear of this cycle has taken count as overtaken
(R338). -/
def State.raise (s : State) (k m : Nat) : State :=
  let s := s.alertCycle
  let c := mgetD s.alerts.cleared k 0
  let n := popCount 32 (c &&& m)
  let s := { s with alerts := { s.alerts with
    raised := mset s.alerts.raised k (mgetD s.alerts.raised k 0 ||| m), cleared := mset s.alerts.cleared k (andNot c m) } }
  if n = 0 then s else s.bump 0xF018 18 n

/-- An event sets bits of a cause word of a branch. While MGT is in domain reset or on AON, only the CLK, PWR and SEC branches
see it; in domain reset, in the latch alone (R333, R343, R351). -/
def State.setWord (s : State) (br idx sub m : Nat) : State :=
  if s.mgtFast || (s.mgtUp && aonBranch br) then
    (((s.raise (key idx sub) m).putCause idx sub (s.z idx sub ||| m)).bump 0xF018 (br + 1) 1).alertSync
  else if aonBranch br then
    State.alertSync ({ s with alerts := { s.alerts with latch := mset s.alerts.latch (key idx sub) (s.latchWord idx sub ||| m) } }.bump 0xF018 (br + 1) 1)
  else s

/-- An event sets one bit of a branch's own cause object (R333). [DEDUCED, log entry 36] -/
def State.setCause (s : State) (br b : Nat) : State := s.setWord br (0x2101 + br) 0 (2 ^ b)

/-- An event sets one bit of a port's child (Table 8.4). -/
def State.setPortCause (s : State) (p b : Nat) : State := s.setWord 5 0x2140 (p + 1) (2 ^ b)

/-- An event sets one bit of a loop's child (Table 8.4). -/
def State.setLoopCause (s : State) (l b : Nat) : State := s.setWord 8 0x2150 (l + 1) (2 ^ b)

/-- An event sets one bit of a window's child (Table 8.4). -/
def State.setWinCause (s : State) (w b : Nat) : State := s.setWord 10 0x2160 (w + 1) (2 ^ b)

end Sys2Proof.Machine
end

