-- ==== Sys2Proof/Machine/LinkTx.lean ====
section
/-! DEFINITION. Sys2Proof/Machine/LinkTx.lean: the sending side of an Olelle port: header slots, flits, credits and the
held flits (Chapter 9). -/
namespace Sys2Proof.Machine

/-- A port's state. -/
def State.port (s : State) (p : Nat) : PortSt := mgetD s.ports p {}

/-- Change a port's state. -/
def State.setPort (s : State) (p : Nat) (x : PortSt) : State := { s with ports := mset s.ports p x }

/-- Count on a port's diagnostics (Table 9.13). -/
def State.bumpPort (s : State) (p k : Nat) : State := s.bumpW 0xF040 (16 * p + k) (if k ≤ 2 then 64 else 32) 1

/-- Record a COH event (7806h) and set its cause bit (R415, R439, R440). -/
def State.cohEvent (s : State) (bitNo kind addr sid : Nat) : State :=
  State.setCause { s with coh := { s.coh with eventAddr := addr, eventSid := sid, eventKind := kind } } 6 bitNo

/-- Octets of a flit of a generation (R365). -/
def flitLen (gen : Nat) : Nat := if gen = 1 then 64 else if gen = 2 then 128 else 256

/-- Message slots of a flit of a generation (R365). -/
def flitSlots (gen : Nat) : Nat := if gen = 1 then 3 else if gen = 2 then 7 else 15

/-- A virtual channel that the generation carries (Table 9.9). -/
def vcPresent (gen vc : Nat) : Bool :=
  match gen with
  | 1 => vc = 0 || vc = 2 || vc = 3 || vc = 6 || vc = 7
  | 2 => decide (vc < 5) || vc = 6 || vc = 7
  | 3 => decide (vc < 8)
  | _ => false

/-- Data slots of a message. -/
def msgLen (m : LinkMsg) : Nat := (m.data.length + 15) / 16

/-- The 16 octets of a message's header slot with this end-to-end CRC (Table 9.8). -/
def headerSlot (m : LinkMsg) (e2e : Bool) (crc : Nat) : Octets :=
  leBytes 16 (m.vc + m.opc * 2 ^ 3 + m.sid * 2 ^ 8 + m.did * 2 ^ 16 + m.tag * 2 ^ 24 + msgLen m * 2 ^ 36 +
    b2n m.poison * 2 ^ 39 + b2n e2e * 2 ^ 40 + m.epoch % 4 * 2 ^ 42 + m.addr * 2 ^ 44 + crc * 2 ^ 96)

/-- The end-to-end CRC of a message (R373): over the header with octets 12–15 zero, then the data slots. -/
def e2eCrc (m : LinkMsg) : Nat := crc32c (headerSlot m true 0 ++ octAt m.data 0 (16 * msgLen m))

/-- The slots of a message in a generation (R372, R373). -/
def msgSlots (gen : Nat) (m : LinkMsg) : Octets :=
  (if gen = 3 then headerSlot m true (e2eCrc m) else headerSlot m false 0) ++ octAt m.data 0 (16 * msgLen m)

/-- Octets 4–11 of a flit header: the credits returned, at most 255 a channel (Table 9.7). -/
def creditOctets (due : Map Nat) : Octets := (List.range 8).map fun v => BitVec.ofNat 8 (min 255 (mgetD due v 0))

/-- The credits that stay due after a flit has carried what it could. -/
def creditRest (due : Map Nat) : Map Nat := due.map fun e => (e.1, e.2 - min 255 e.2)

/-- The totals returned after a flit has carried what it could, modulo 2^16 (R377). -/
def creditTotals (due ret : Map Nat) : Map Nat :=
  (List.range 8).foldl (fun r v => mset r v ((mgetD r v 0 + min 255 (mgetD due v 0)) % 65536)) ret

/-- A flit's octets (R365, Table 9.7). [DEDUCED, log entry 53] -/
def flitOctets (x : PortSt) (ftype fseq cont : Nat) (nak : Bool) (credits slots : Octets) : Octets :=
  let w := ftype * 2 ^ 30 + fseq * 2 ^ 20 + (if x.rxAny then (x.rxSeq + 1023) % 1024 * 2 ^ 10 + 2 ^ 9 else 0) +
    b2n nak * 2 ^ 8 + cont * 2 ^ 4
  let body := leBytes 4 w ++ credits ++ octAt slots 0 (16 * flitSlots x.gen)
  body ++ leBytes 4 (crc32c body)

/-- Send one sequenced flit, PAYLOAD (1) or CTRL (2); it is held until acknowledged (R366, R370). -/
def sendSeqFlit (p ftype cont : Nat) (slots : Octets) (s : State) : State :=
  let x := s.port p
  let o := flitOctets x ftype x.txSeq cont false (creditOctets x.creditDue) slots
  let x' := { x with
    held := x.held ++ [(x.txSeq, o)]
    txSeq := (x.txSeq + 1) % 1024
    creditRet := creditTotals x.creditDue x.creditRet
    creditDue := creditRest x.creditDue }
  ((s.setPort p x').bumpPort p 2).emit (.flit p o)

/-- Send one NULL flit, which carries an acknowledgement, and NAK when asked (R366, R368). -/
def sendNullFlit (p : Nat) (nak : Bool) (s : State) : State :=
  let x := s.port p
  s.emit (.flit p (flitOctets x 0 0 0 nak (zeros 8) []))

/-- Send the slots of a message in successive PAYLOAD flits; `fuel` bounds their number (R367). -/
def sendSlots (p fuel cont : Nat) (slots : Octets) (s : State) : State :=
  match fuel with
  | 0 => s
  | f + 1 =>
    let room := 16 * flitSlots (s.port p).gen
    let s' := sendSeqFlit p 1 cont (slots.take room) s
    if slots.length ≤ room then s' else sendSlots p f ((slots.length - room) / 16) (slots.drop room) s'

/-- Flits that a message of `slots` slots takes in a generation (R365, R367). -/
def flitCount (gen slots : Nat) : Nat := (slots + flitSlots gen - 1) / flitSlots gen

/-- A message can leave: its credits suffice, its flits find room among the 256 held, and no earlier message of its channel waits (R370,
R375, R402, R431). -/
def PortSt.canSend (x : PortSt) (m : LinkMsg) : Bool :=
  decide (1 + msgLen m ≤ mgetD x.creditOut m.vc 0) && decide (x.held.length + flitCount x.gen (1 + msgLen m) ≤ 256) &&
    !(x.txq.any fun w => decide (w.vc = m.vc))

/-- A message leaves if its channel exists in the generation and it can leave; else it waits behind the others of its channel (R370,
R374, R375, R431). [DEDUCED, log entry 53] -/
def sendMsg (p : Nat) (m : LinkMsg) (s : State) : State :=
  let x := s.port p
  if vcPresent x.gen m.vc then
    if x.canSend m then
      let s := s.setPort p { x with creditOut := mset x.creditOut m.vc (mgetD x.creditOut m.vc 0 - (1 + msgLen m)) }
      (sendSlots p 2 0 (msgSlots x.gen m) s).emit (.msg p m)
    else s.setPort p { x with txq := x.txq ++ [m] }
  else s

/-- Credits the device advertises per virtual channel in a generation (R375). -/
def ownCredits (gen vc : Nat) : Nat :=
  if vcPresent gen vc then (([128, 32, 128, 320, 160, 16, 512, 32] : List Nat)[vc]?).getD 0 else 0

/-- VALUE0 to VALUE7 of a control message (Table 9.10): the initial credits in CRINIT, the totals returned in EPOCH. -/
def ctrlValues (x : PortSt) (ctype : Nat) : List Nat :=
  if ctype = 1 then (List.range 8).map (ownCredits x.gen)
  else if ctype = 2 then (List.range 8).map fun v => mgetD x.creditRet v 0 else []

/-- A CTRL flit of Table 9.10 leaves; an EPOCH's number and totals are kept for its ECHO (R377). -/
def sendCtrlNow (p ctype flags epochNo : Nat) (s : State) : State :=
  let x := s.port p
  let values := ctrlValues x ctype
  let s := if ctype = 2 then s.setPort p { x with epochNo := some epochNo, epochTot := values } else s
  sendSeqFlit p 2 0 (BitVec.ofNat 8 ctype :: BitVec.ofNat 8 flags :: leBytes 4 epochNo ++ zeros 10 ++
    ((List.range 8).map fun v => leBytes 2 ((values[v]?).getD 0)).flatten) s

/-- A control message leaves, or waits while 256 flits are held (R370). -/
def sendCtrl (p ctype flags epochNo : Nat) (s : State) : State :=
  let x := s.port p
  if x.held.length < 256 ∧ x.ctrlq.isEmpty then sendCtrlNow p ctype flags epochNo s
  else s.setPort p { x with ctrlq := x.ctrlq ++ [(ctype, flags, epochNo)] }

/-- What waited leaves while room and credits last: control messages first, then messages in the order of each channel. [DEDUCED, log entry 53] -/
def drainTx (p : Nat) (s : State) : State :=
  let cs := (s.port p).ctrlq
  let s := cs.foldl (fun s c => sendCtrl p c.1 c.2.1 c.2.2 s) (s.setPort p { s.port p with ctrlq := [] })
  let ms := (s.port p).txq
  ms.foldl (fun s m => sendMsg p m s) (s.setPort p { s.port p with txq := [] })

/-- A message of the device, from identifier 0x00 (R354). -/
def devMsg (vc opc did tag addr : Nat) (poison : Bool) (data : Octets) : LinkMsg :=
  ⟨vc, opc, 0, did, tag, addr, poison, data, 0⟩

end Sys2Proof.Machine
end

