-- ==== Sys2Proof/Machine/Time.lean ====
section
/-! DEFINITION. Sys2Proof/Machine/Time.lean: the time base, the TIME exchange, package-time writes and steps, PPS in and
out, and the camp channel's sending side that mirrors them (Chapter 11, R751, R752, R757). -/
namespace Sys2Proof.Machine

/-! ### The camp channel's sending side -/

/-- A message of Table 19.5 enters its stream (R752). -/
def State.campSend (s : State) (urgent : Bool) (code : Nat) (body : Octets) : State :=
  let o := BitVec.ofNat 8 code :: leBytes 2 body.length ++ body
  let s := s.emit (.camp code body)
  if urgent then { s with pair := { s.pair with txUrgent := s.pair.txUrgent ++ o } }
  else { s with pair := { s.pair with txBulk := s.pair.txBulk ++ o } }

/-- The device acts for the package: it is single or the Lead (Table 19.1). -/
def State.acts (s : State) : Bool := s.pair.role = 0 || s.pair.role = 2

/-- A Lead whose Second is in the mirroring state (R753, R763). -/
def State.mirrors (s : State) : Bool := s.pair.role = 2 && decide (3 ≤ s.pair.secondState) && !s.pair.absent

/-! ### Package time in numbers -/

/-- One second in units of 2^-32 ns. -/
def secUnits : Nat := 1000000000 * 2 ^ 32

/-- A time as seconds, nanoseconds and upper 16 fraction bits (R448, R449). -/
def timeParts (t : Nat) : Nat × Nat × Nat := (t / secUnits % 2 ^ 48, t % secUnits / 2 ^ 32, t % 2 ^ 32 / 65536)

/-- TIME80 of a time: nanoseconds in [31:0], seconds above (Table 5.2). -/
def time80 (t : Nat) : Nat := (timeParts t).2.1 + (timeParts t).1 * 2 ^ 32

/-- The time a TIME80 and a fraction of 2^-16 ns spell, in 2^-32 ns. -/
def ofTime80 (v frac : Nat) : Nat := v / 2 ^ 32 * secUnits + v % 2 ^ 32 * 2 ^ 32 + frac * 65536

/-- Quotient rounded to the nearest integer, ties toward +∞. -/
def rnd (a b : Int) : Int := (2 * a + b) / (2 * b)

/-- Least integer at or above a quotient. -/
def ceilDiv (a b : Int) : Int := -((-a) / b)

/-- The nearest whole second to a time, in seconds. -/
def nearSecond (t : Int) : Int := rnd t secUnits

/-- time(tick + n) on the present line. -/
def State.ptAhead (s : State) (n : Nat) : Nat := ptAdvance s.time.pt s.adj n

/-- Time moves on until package time has reached a value, if that lies ahead. -/
def State.elapseToPt (s : State) (target : Nat) : State :=
  if s.time.ptRun ∧ s.time.tickRun ∧ s.time.pt < target then
    s.elapse (s.spanOf (ceilDiv ((target : Int) - s.time.pt) ((2 ^ 32 : Nat) + s.adj)).toNat)
  else s

/-- How many ticks before `tick` an instant lies that is `d` units before time(tick), by the values ADJ has had (R470):
ticks are nearest, a midpoint belongs to the later tick. [DEDUCED, log entry 61] -/
def ticksBack (past : List (Nat × Int)) (tick : Nat) (adj : Int) (d : Int) : Int :=
  let inc := (2 ^ 32 : Nat) + adj
  match past with
  | [] => ceilDiv (2 * d - inc) (2 * inc)
  | (b, a) :: t =>
    let span := ((tick : Int) - b) * inc
    if d ≤ span ∨ tick < b then ceilDiv (2 * d - inc) (2 * inc) else ((tick : Int) - b) + ticksBack t b a (d - span)

/-- The tick whose start is nearest to a package time (R470). -/
def State.tickOfTime (s : State) (t : Int) : Nat :=
  ((s.time.tick : Int) - ticksBack s.time.past s.time.tick s.adj ((s.time.pt : Int) - t)).toNat

/-- time(k) of a tick not after the present one, by the values ADJ has had. -/
def timeBack (past : List (Nat × Int)) (tick : Nat) (adj : Int) (pt : Int) (k : Nat) : Int :=
  let inc := (2 ^ 32 : Nat) + adj
  match past with
  | [] => pt - ((tick : Int) - k) * inc
  | (b, a) :: t => if b ≤ k ∨ tick < b then pt - ((tick : Int) - k) * inc else timeBack t b a (pt - ((tick : Int) - b) * inc) k

/-- time(k) (R449). -/
def State.timeOf (s : State) (k : Nat) : Nat :=
  (timeBack s.time.past s.time.tick s.adj s.time.pt k % (ptMod : Int)).toNat

/-- The PPS terms change; the past value of ADJ is kept for R470 as long as a stamp can need it. -/
def State.setAdj (s : State) (rate slew : Int) (slewEnd : Option Nat) : State :=
  let t := s.time
  let past := (if s.adj = clampI (-858993) 858993 (rate + slew) then t.past else (t.tick, s.adj) :: t.past).filter
    fun p => t.tick < p.1 + 16384
  { s with time := { t with rate := rate, slew := slew, slewEnd := slewEnd, past := past } }

/-! ### Traceability (R455) -/

/-- Package time is traceable. -/
def State.traceable (s : State) : Bool :=
  s.time.ptRun && (s.time.written || decide (s.time.ppsState = 2)) && (s.pll .spll).locked && decide (s.time.ppsState ≠ 3)

/-- The condition of NOTRACE (R335, R455). [DEDUCED, log entry 61] -/
def State.noTrace (s : State) : Bool := s.time.ptRun && !s.traceable

/-- NOTRACE is set while its condition holds. -/
def State.syncTrace (s : State) : State :=
  if s.noTrace ∧ ¬ bit (s.z 0x2108 0) 0 then s.setCause 7 0 else s

/-! ### Sources -/

/-- A time source. -/
def State.src (s : State) (i : Nat) : SourceSt := mgetD s.time.source i {}

/-- Change a time source. -/
def State.setSrc (s : State) (i : Nat) (x : SourceSt) : State :=
  { s with time := { s.time with source := mset s.time.source i x } }

/-- Entry word of a source, 3201h. -/
def State.srcEntry (s : State) (i : Nat) : Nat := s.n 0x3201 (i + 1)

/-- EN, PORT, CTR and PERIOD of a source entry (Table 11.9). -/
def srcEn (e : Nat) : Bool := bit e 31
def srcPort (e : Nat) : Nat := bits e 28 3
def srcCtr (e : Nat) : Nat := bits e 26 2
def srcPeriod (e : Nat) : Nat := max 1 (bits e 0 16)

/-- Source status word (Table 11.11). [DEDUCED, log entry 60] -/
def State.srcStatus (s : State) (i : Nat) : Nat :=
  let x := s.src i
  x.epoch * 2 ^ 14 + b2n (x.step.isSome || x.setting) * 16 + b2n x.set * 8 + b2n x.late * 4 + b2n x.meas * 2 + b2n x.present

/-- The last status and TRIM of a source go to the Second (Table 19.7). -/
def State.campSrcStat (s : State) (i : Nat) : State :=
  if s.mirrors then
    s.campSend false 0x0B (BitVec.ofNat 8 i :: BitVec.ofNat 8 (s.srcStatus i) :: leBytes 4 (ofInt 32 (s.src i).trim))
  else s

/-- A TIME message leaves on TIME at O3 and on MGT otherwise, to the first identifier of the port (R464). -/
def State.sendTime (s : State) (i opc tag : Nat) (data : Octets) : State :=
  let e := s.srcEntry i
  let x := s.port (srcPort e)
  sendMsg (srcPort e) (devMsg (if x.gen = 3 then 5 else 7) opc x.sidBase tag (srcCtr e * 2 ^ 50) false data) s

/-- T_ADJ with a phase step in 2^-16 ns and the current TRIM (Table 11.5). -/
def State.sendAdjMsg (s : State) (i : Nat) (delta trim : Int) : State :=
  (s.setSrc i { s.src i with trim := trim }).sendTime i 3 0 (leBytes 8 (ofInt 64 delta) ++ leBytes 4 (ofInt 32 trim) ++ zeros 4)

/-- T_SET with the time of its first bit at the bumps plus the one-way delay (R465). -/
def State.sendSetMsg (s : State) (i : Nat) : State :=
  let x := s.src i
  let t := timeParts (s.time.pt + (if x.meas then x.delay * 2 ^ 32 / 1000 else 0))
  s.sendTime i 4 0 (leBytes 6 t.1 ++ leBytes 4 t.2.1 ++ leBytes 2 t.2.2 ++ zeros 4)

/-- A change waits 1,024 ticks in a mirroring pair (R757). -/
def State.delay (s : State) (d : Delayed) : State :=
  { s with time := { s.time with delayed := s.time.delayed ++ [d] } }

/-- STEP body of Table 19.5. -/
def stepBody (i kind epoch : Nat) (eight : Octets) (trim : Int) : Octets :=
  [BitVec.ofNat 8 i, BitVec.ofNat 8 kind, BitVec.ofNat 8 epoch, 0] ++ octAt eight 0 12 ++ leBytes 4 (ofInt 32 trim)

/-- Sources whose SET bit has just been lost take their taps with them; the taps are told later by `State.tapsFollow`. -/
def SourceSt.startSet (x : SourceSt) : SourceSt :=
  { x with setting := true, set := false, step := none, held := none, open_ := x.open_.map fun o => { o with spoiled := true } }

/-- A T_SET to a source: at once, or 1,024 ticks later in a mirroring pair (R452, R468, R757). [DEDUCED, log entry 60] -/
def State.issueSet (s : State) (i : Nat) : State :=
  let x := s.src i
  let s := s.setSrc i x.startSet
  if s.mirrors then
    let t := timeParts s.time.pt
    (s.campSend true 0x09 (stepBody i 1 x.epoch (leBytes 6 t.1 ++ leBytes 4 t.2.1 ++ leBytes 2 t.2.2) x.trim)).delay
      (.set (s.time.tick + 1024) i)
  else s.sendSetMsg i

/-- A phase step of a source becomes outstanding and its T_ADJ leaves, at once or 1,024 ticks later (R468, R757). [DEDUCED, log entry 60] -/
def State.issueStep (s : State) (i : Nat) (delta : Int) : State :=
  let x := s.src i
  let s := s.setSrc i { x with
    step := some delta, epoch := (x.epoch + 1) % 4, open_ := x.open_.map fun o => { o with spoiled := true } }
  if s.mirrors then
    (s.campSend true 0x09 (stepBody i 0 x.epoch (leBytes 8 (ofInt 64 delta)) x.trim)).delay (.step (s.time.tick + 1024) i delta)
  else s.sendAdjMsg i delta x.trim

/-- A phase step in T_ADJ is below 2^47 ns in magnitude (R468, R472). -/
def stepFits (delta : Int) : Bool := decide (-(2 ^ 63 : Int) < delta) && decide (delta < 2 ^ 63)

/-- A device step of a source: sent, or summed into the held step while one is outstanding (R468, R472). -/
def State.stepSource (delta : Int) (s : State) (i : Nat) : State :=
  let x := s.src i
  if x.step.isSome ∨ x.setting then s.setSrc i { x with held := some (x.held.getD 0 + delta) }
  else if x.set then (if stepFits delta then s.issueStep i delta else s.issueSet i)
  else s

/-- The outstanding step of a source is confirmed; its held step follows (R468). -/
def State.confirmed (s : State) (i : Nat) : State :=
  let x := s.src i
  let s := if s.mirrors then s.campSend true 0x0A [BitVec.ofNat 8 i, BitVec.ofNat 8 x.epoch] else s
  match x.held with
  | none => s
  | some d =>
    let s := s.setSrc i { s.src i with held := none }
    if stepFits d then s.issueStep i d else s.issueSet i

/-! ### Taps: what the time base itself changes -/

/-- A tap entry's state. -/
def State.tap (s : State) (i : Nat) : TapSt := mgetD s.time.tap i {}

/-- Change a tap entry's state. -/
def State.setTap (s : State) (i : Nat) (x : TapSt) : State := { s with time := { s.time with tap := mset s.time.tap i x } }

/-- Coverage ends of the taps are package times, so a step moves them. -/
def shiftCov (d : Int) (x : TapSt) : TapSt := { x with covTime := x.covTime.map fun c => ((c : Int) + d).toNat }

/-! ### Steps and writes of package time -/

/-- The watch restarts from the next whole second after the present time (R478). -/
def State.startWatch (s : State) : State :=
  if s.z 0x6003 1 = 0 then { s with time := { s.time with watch := none } }
  else { s with time := { s.time with watch := some (s.time.pt / secUnits + 1), lastInside := s.now } }

/-- The rise point of PPS_OUT for a second, in units of 2^-32 ns (R479). -/
def State.risePoint (s : State) (sec : Nat) : Nat := sec * secUnits - s.n 0x6004 3 * 2 ^ 32

/-- The next second whose rise point has not been reached. -/
def State.nextRise (s : State) : Nat := (s.time.pt + s.n 0x6004 3 * 2 ^ 32) / secUnits + 1

/-- PPS_OUT begins to follow package time: on enable or when the time base starts (R479). -/
def State.startPpsOut (s : State) : State :=
  if s.b 0x6004 1 ∧ s.time.ptRun then { s with time := { s.time with outNext := some s.nextRise } }
  else { s with time := { s.time with outNext := none, outHigh := false } }

/-- PPS_OUT rises in this tick. -/
def State.ppsRise (s : State) : State :=
  { s with time := { s.time with outHigh := true, outFall := s.time.tick + s.n 0x6004 2, outNext := some s.nextRise } }

/-- After a step of package time, PPS_OUT rises at once where the step went over a rise point (R479). -/
def State.ppsAfterStep (s : State) : State :=
  match s.time.outNext with
  | none => s
  | some w =>
    if s.risePoint w ≤ s.time.pt then s.ppsRise
    else { s with time := { s.time with outNext := some s.nextRise } }

/-- A tap entry with its coverage end moved. -/
def shiftTap (d : Int) (e : Nat × TapSt) : Nat × TapSt := (e.1, shiftCov d e.2)

/-- A window owes a TIME record (R633). -/
def timeDueWin (e : Nat × WindowSt) : Nat × WindowSt := (e.1, { e.2 with timeDue := true })

/-- Package time takes a new value by a step of `d` units: the sources follow, STEP is set (R472, R477). -/
def State.stepTo (s : State) (new : Nat) (d : Int) : State :=
  let s := { s with time := { s.time with pt := new % ptMod, tap := s.time.tap.map (shiftTap (d / 65536)) } }
  let s := { s with sto := { s.sto with win := s.sto.win.map timeDueWin } }
  let s := if s.acts then (List.range 16).foldl (State.stepSource (d / 65536)) s else s
  (s.startWatch.ppsAfterStep).setCause 7 3

/-- The four objects of a time write return to their defaults (R473). -/
def State.clearTimeWrite (s : State) : State :=
  { s with obj := [1, 2, 3, 4].foldl (fun o k => mdel o (key 0x6001 k)) s.obj }

/-- A time write has applied. -/
def State.wroteTime (s : State) : State :=
  State.syncTrace (State.bump { s with time := { s.time with written := true, writtenAt := some s.time.tick, atPps := none } } 0xF050 11 1)

/-- A package-time write takes effect in this tick (R472). -/
def State.applyTimeWrite (s : State) (mode v : Nat) (neg : Bool) : State :=
  match mode with
  | 1 => ((s.stepTo v ((v : Int) - s.time.pt)).wroteTime).clearTimeWrite
  | 2 =>
    let d : Int := if neg then -(v : Int) else v
    ((s.stepTo (((s.time.pt : Int) + d) % (ptMod : Int)).toNat d).wroteTime).clearTimeWrite
  | 3 => { s with time := { s.time with atPps := some (v, s.time.tick) } }
  | _ => s.clearTimeWrite

/-- A commit that holds an entry for 6001h applies at its boundary: it disarms an armed write, and its own mode counts; before
the time base runs, the write is held (R472, R452). -/
def State.commitTimeWrite (s : State) : State :=
  let mode := s.z 0x6001 1
  let v := ofTime80 (s.z 0x6001 2) (s.z 0x6001 3)
  let neg := s.z 0x6001 4 = 1
  let s := { s with time := { s.time with atPps := none } }
  if s.time.ptRun then s.applyTimeWrite mode v neg
  else { s with time := { s.time with heldWrite := if mode = 0 then none else some (mode, v, neg) } }

/-- The time base starts (R452): time 0, ADJ 0, a held write, and T_SET to every enabled source on an admitted port. -/
def State.startTimeBase (s : State) : State :=
  let t := s.time
  let s := { s with time := { t with
    ptRun := true, pt := 0, rate := 0, slew := 0, slewEnd := none, past := [], written := false, writtenAt := none
    heldWrite := none, ppsState := if s.z 0x6003 1 = 0 then 0 else 1, ppsGood := 0, ppsOut := [], ppsErr := 0 } }
  let s := match t.heldWrite with
    | some (m, v, neg) => s.applyTimeWrite m v neg
    | none => s
  let s := s.startWatch.startPpsOut
  let s := if s.acts then (List.range 16).foldl (fun s i => if (s.src i).present then s.issueSet i else s) s else s
  s.syncTrace

/-! ### PPS in (R475–R478) -/

/-- The PPS terms take new values: at once, or announced and 1,024 ticks later in a mirroring pair (R476, R757). -/
def State.decideAdj (s : State) (rate slew : Int) (slewEnd : Option Nat) : State :=
  if s.mirrors then
    let at_ := s.time.tick + 1024
    (s.campSend true 0x08 (leBytes 8 at_ ++ leBytes 4 (ofInt 32 (clampI (-858993) 858993 (rate + slew))))).delay
      (.adj at_ rate slew (slewEnd.map fun k => k + 1024))
  else s.setAdj rate slew slewEnd

/-- The rate term as last decided. -/
def State.rateDecided (s : State) : Int :=
  s.time.delayed.foldl (fun r d => match d with
    | .adj _ x _ _ => x
    | .step _ _ _ => r
    | .set _ _ => r) s.time.rate

/-- An inside edge of mode DISCIPLINE sets both terms (R476). -/
def State.disciplineEdge (s : State) (e : Int) : State :=
  let rate := clampI (-858993) 858993 (s.rateDecided - rnd e 16000000000)
  s.decideAdj rate (rnd (-e) 2000000000) (some (s.time.tick + 1000000000))

/-- The three errors of consecutive outside edges lie within 1 µs of each other (R477). -/
def threeAgree (l : List Int) : Bool :=
  match l with
  | [a, b, c] =>
    let w : Int := 1000 * 2 ^ 32
    decide (a - b ≤ w) && decide (b - a ≤ w) && decide (a - c ≤ w) && decide (c - a ≤ w) && decide (b - c ≤ w) && decide (c - b ≤ w)
  | _ => false

/-- A captured edge is judged by its error `e`, in 2^-32 ns (R475–R478). [DEDUCED, log entry 61] -/
def State.judgeEdge (s : State) (mode : Nat) (e sec : Int) : State :=
  let s := { s with time := { s.time with ppsErr := e / 65536 } }
  let near := decide (-(100 * 2 ^ 32 : Int) ≤ e) && decide (e ≤ 100 * 2 ^ 32)
  let w : Int := s.n 0x6003 3 * 2 ^ 32
  let inside := decide (-w ≤ e) && decide (e ≤ w)
  let good := if near then s.time.ppsGood + 1 else 0
  let st := if near ∧ 4 ≤ good then 2
    else if s.time.ppsState = 2 ∧ ¬ near then 1
    else if s.time.ppsState = 3 ∧ inside then 1
    else s.time.ppsState
  let s := { s with time := { s.time with ppsGood := good, ppsState := st } }
  if inside then
    let s := { s with time := { s.time with
      ppsOut := [], lastInside := s.now, watch := if s.time.watch.isSome then some (sec.toNat + 1) else none } }
    if mode = 2 ∧ s.pair.role ≠ 3 then s.disciplineEdge e else s
  else
    let s := (s.setCause 7 2).bump 0xF050 13 1
    let l := (e :: s.time.ppsOut).take 3
    if mode = 2 ∧ threeAgree l then
      let s := { s with time := { s.time with ppsOut := [] } }
      (s.stepTo (((s.time.pt : Int) - e) % (ptMod : Int)).toNat (-e)).bump 0xF050 15 1
    else { s with time := { s.time with ppsOut := l } }

/-- A watched second passes without an inside edge (R478). -/
def State.ppsMiss (s : State) : State :=
  match s.time.watch with
  | none => s
  | some w =>
    let s := s.elapseToPt (w * secUnits + s.n 0x6003 3 * 2 ^ 32 + 1)
    State.bump (State.setCause { s with time := { s.time with watch := some (w + 1) } } 7 1) 0xF050 14 1

/-- No inside edge for the holdover limit: HOLDOVER, the rate term stays and the slew term is cleared (R478). -/
def State.ppsHoldover (s : State) : State :=
  if s.time.watch.isNone ∨ s.time.ppsState = 3 ∨ s.time.ppsState = 0 then s
  else
    let s := s.elapseTo (s.time.lastInside + s.n 0x6003 4 * 1000000000)
    let s := { s with time := { s.time with ppsState := 3, ppsGood := 0 } }
    (if s.time.slew = 0 ∨ s.pair.role = 3 then s else s.decideAdj s.rateDecided 0 none).syncTrace

/-- The slew term ends (R476). -/
def State.slewExpiry (s : State) : State :=
  match s.time.slewEnd with
  | none => s
  | some k => let s := s.elapseToTick k; s.setAdj s.time.rate 0 none

/-- An AT_PPS write lapses: no edge within the holdover limit after T (R473). -/
def State.atPpsLapse (s : State) : State :=
  match s.time.atPps with
  | none => s
  | some (_, t) =>
    let s := s.elapseToTick (t + s.n 0x6003 4 * 1000000000)
    (State.setCause { s with time := { s.time with atPps := none } } 7 1).clearTimeWrite

/-- How many watched seconds have passed with their window: the first is watched, and the present time lies behind its window's end
(R478). -/
def State.secondsMissed (s : State) : Nat :=
  match s.time.watch with
  | some w => let w0 : Int := s.n 0x6003 3 * 2 ^ 32
              (((s.time.pt : Int) - w0 - 1) / secUnits - w + 1).toNat
  | none => 0

/-- Watched seconds that have passed without an inside edge are missed, whatever edge comes after them (R14, R478). -/
def State.missPast (s : State) : State :=
  let n := s.secondsMissed
  if n = 0 then s
  else State.bump (State.setCause { s with time := { s.time with watch := s.time.watch.map fun w => w + n } } 7 1) 0xF050 14 n

/-- An armed AT_PPS write has lapsed once the holdover limit after T has passed (R14, R473). -/
def State.lapsePast (s : State) : State :=
  match s.time.atPps with
  | some (_, t) => if t + s.n 0x6003 4 * 1000000000 < s.time.tick then s.atPpsLapse else s
  | none => s

/-- HOLDOVER has begun once the holdover limit has passed in a second before the present one (R14, R478, Table 11.15). -/
def State.holdPast (s : State) : State :=
  if s.time.lastInside + s.n 0x6003 4 * 1000000000 + 500000000 < s.now then s.ppsHoldover else s

/-- An edge of PPS_IN is captured in this tick (R475). -/
def State.ppsEdge (s : State) (rising : Bool) : State :=
  if rising ≠ (s.z 0x6003 2 == 0) ∨ ¬ s.time.ptRun then s
  else
    let s := s.lapsePast.missPast.holdPast
    let s := { s with sig := { s.sig with pps := (s.time.tick + 3) :: s.sig.pps } }
    let mode := s.z 0x6003 1
    let delay : Int := s.i 0x6003 5 * 2 ^ 32
    let edge : Int := s.time.pt - delay
    match s.time.atPps with
    | some (v, _) =>
      let s := s.bump 0xF050 12 1
      let new := (((v : Int) + delay) % (ptMod : Int)).toNat
      ((s.stepTo new (((v : Int) + delay) - s.time.pt)).wroteTime).clearTimeWrite
    | none =>
      if mode = 0 then s
      else
        let s := s.bump 0xF050 12 1
        let sec := nearSecond edge
        if s.time.writtenAt = some s.time.tick then s
        else (s.judgeEdge mode (edge - sec * secUnits) sec).syncTrace

/-- A committed change of the PPS mode (R450, R478). -/
def State.ppsModeChange (s : State) (old : Nat) : State :=
  let new := s.z 0x6003 1
  if old = new then s
  else
    let s := if old = 2 then { s.setAdj 0 0 none with time := { (s.setAdj 0 0 none).time with
      delayed := s.time.delayed.filter fun d => match d with
        | .adj _ _ _ _ => false
        | .step _ _ _ => true
        | .set _ _ => true } } else s
    let s := { s with time := { s.time with ppsState := if new = 0 then 0 else 1, ppsGood := 0, ppsOut := [] } }
    (if old = 0 ∨ new = 0 then s.startWatch else s).syncTrace

/-- The earliest change that waits in a mirroring pair is applied (R757). -/
def State.applyDelayed (s : State) : State :=
  match s.time.delayed with
  | [] => s
  | d :: t =>
    let at_ := match d with
      | .adj a _ _ _ => a
      | .step a _ _ => a
      | .set a _ => a
    let s := s.elapseToTick at_
    let s := { s with time := { s.time with delayed := t } }
    match d with
    | .adj _ r sl e => s.setAdj r sl e
    | .step _ i delta => s.sendAdjMsg i delta (s.src i).trim
    | .set _ i => (s.setSrc i (s.src i).startSet).sendSetMsg i

/-! ### TIME exchange (R466–R468) -/

/-- The TAGs of a source's exchanges that have expired. -/
def State.lateTagsOf (s : State) (i : Nat) : List Nat := (s.src i).lateTags

/-- An open exchange expires (R467). -/
def State.exchangeExpiry (s : State) (i : Nat) : State :=
  match (s.src i).open_ with
  | none => s
  | some o =>
    let s := s.elapseToTick (o.sent + 4096)
    (s.setSrc i { s.src i with open_ := none, lateTags := o.tag :: s.lateTagsOf i, late := true }).bump 0xF050 3 1

/-- An exchange open for more than 4,096 ticks has expired, whatever comes after it (R13, R14, R467). -/
def State.exchangePast (s : State) (i : Nat) : State :=
  match (s.src i).open_ with
  | some o => if o.sent + 4096 < s.time.tick then s.exchangeExpiry i else s
  | none => s

/-- A T_PING is due in a servo frame (R466). -/
def State.pingDue (s : State) (i : Nat) : State :=
  let s := s.exchangePast i
  let x := s.src i
  let e := s.srcEntry i
  if ¬ (x.present ∧ srcEn e ∧ s.acts ∧ s.time.ptRun ∧ x.nextPing < s.belay.frame) then s
  else
    let next := (if x.nextPing = 0 then s.belay.frame - 1 else x.nextPing) + srcPeriod e
    if x.open_.isSome then s.setSrc i { x with nextPing := next }
    else
      let x' : SourceSt := { x with
        nextPing := next
        tag := (x.tag + 1) % 4096
        lateTags := x.lateTags.filter fun t => decide (t ≠ x.tag)
        open_ := some ⟨x.tag, s.time.pt, s.time.tick, if x.setting then none else some x.epoch, false⟩ }
      ((s.setSrc i x').sendTime i 1 x.tag []).bump 0xF050 1 1

/-- The time a STAMP64 spells, in 2^-32 ns modulo 2^16 seconds (Table 11.1). -/
def stamp64 (v : Nat) : Nat := bits v 48 16 * secUnits + bits v 16 30 * 2 ^ 32 + bits v 0 16 * 65536

/-- A difference reduced to less than half a modulus in magnitude. -/
def nearDiff (d m : Int) : Int := (d + m / 2) % m - m / 2

/-- theta in 2^-16 ns and delay in ps from the four times in 2^-32 ns and the asymmetry in ps (R466). -/
def thetaDelay (t1 t4 : Int) (t2 t3 : Nat) (asym : Int) : Int × Int :=
  let m : Int := 65536 * secUnits
  let d21 := nearDiff ((t2 : Int) - t1) m
  let d43 := nearDiff (t4 - t3) m
  (rnd (1000 * (d21 - d43) - asym * 2 ^ 32) (2000 * 65536), rnd (1000 * (d21 + d43)) (2 * 2 ^ 32))

/-- The source of a port and counter. -/
def State.srcOf (s : State) (p ctr : Nat) : Option Nat :=
  (List.range 16).find? fun i => srcEn (s.srcEntry i) && srcPort (s.srcEntry i) == p && srcCtr (s.srcEntry i) == ctr

/-- A message discarded under R374 for a fault its consumer finds. -/
def State.discardMsg (s : State) (p addr sid : Nat) : State := (s.bumpPort p 10).cohEvent 1 4 addr sid

/-- A T_PONG becomes visible (R466–R468). [DEDUCED, log entry 60; DESIGN CHOICE, log entry 62] -/
def State.pong (s : State) (p : Nat) (m : PongMsg) : State :=
  let bad := s.discardMsg p 0 m.sid.toNat
  match s.srcOf p m.ctr.toNat with
  | none => bad
  | some i =>
    let s := s.exchangePast i
    let bad := s.discardMsg p 0 m.sid.toNat
    let x := s.src i
    match x.open_ with
    | none => if x.lateTags.contains m.tag.toNat then s.bump 0xF050 4 1 else bad
    | some o =>
      if o.tag ≠ m.tag.toNat then (if x.lateTags.contains m.tag.toNat then s.bump 0xF050 4 1 else bad)
      else
        let t4 : Int := (s.time.pt : Int) - m.late * 65536
        let (theta, delay) := thetaDelay o.t1 t4 (stamp64 m.t2.toNat) (stamp64 m.t3.toNat) (s.i 0x3202 (i + 1))
        let ep := m.epoch.toNat
        let stepDone := x.step.isSome && ep == x.epoch
        let setDone := x.setting && o.expect.isNone && !o.spoiled
        let good := !o.spoiled && (match o.expect with | none => true | some q => q == ep)
        let y : SourceSt := { x with open_ := none, late := false }
        let y := if stepDone then { y with step := none } else y
        let y := if setDone then { y with setting := false, set := true, epoch := ep, rearm := true } else y
        let y := if good then { y with theta := theta, delay := delay.toNat, meas := true, fresh := true } else y
        let s := s.setSrc i y
        let s := if good then s.bump 0xF050 2 1 else s.bump 0xF050 5 1
        (if stepDone ∨ setDone then s.confirmed i else s).campSrcStat i

end Sys2Proof.Machine
end

