-- ==== Sys2Proof/Machine/Observation.lean ====
section
/-! DEFINITION. Sys2Proof/Machine/Observation.lean: the taps, their alignment queues and rows, joining and leaving, and the
tap part of the released slice (Chapter 13, R456–R471, R485, R488). -/
namespace Sys2Proof.Machine

/-! ### Tap entries -/

/-- Entry word of a tap, 3200h. -/
def State.tapEntry (s : State) (i : Nat) : Nat := s.z 0x3200 (i + 1)

/-- Fields of a tap entry (Table 11.8). -/
def tapEn (e : Nat) : Bool := bit e 63
def tapChange (e : Nat) : Bool := bit e 62
def tapPort (e : Nat) : Nat := bits e 59 3
def tapAgent (e : Nat) : Nat := bits e 55 4
def tapNo (e : Nat) : Nat := bits e 51 4
def tapGroup (e : Nat) : Nat := bits e 47 4
def tapOffset (e : Nat) : Nat := bits e 42 5
/-- THRU as written to TCTL: 0 stands for 32. -/
def tapThru (e : Nat) : Nat := if bits e 37 5 = 0 then 32 else bits e 37 5

/-- Channels of a width code (Table 11.2). -/
def widthBits (w : Nat) : Nat := 8 * 2 ^ min w 5

/-- Interval in ns of an interval code (Table 11.2). -/
def intervalNs (c : Nat) : Nat := 2 ^ c

/-- A tap entry that maps its granules: enabled and of known width, or left behind (R526, R540). -/
def TapSt.mapped (x : TapSt) : Bool := x.q = 3 || (x.q ≠ 0 && x.st ≠ 0)

/-- The time source that stamps a tap entry's samples. -/
def State.tapSource (s : State) (i : Nat) : Option Nat := s.srcOf (tapPort (s.tapEntry i)) (s.tap i).ctr

/-- Tap status word (Table 11.10). -/
def State.tapStatus (s : State) (i : Nat) : Nat :=
  let x := s.tap i
  x.st * 2 ^ 28 + x.width * 2 ^ 25 + x.interval * 2 ^ 23 + b2n x.chg * 2 ^ 22 + x.ctr * 2 ^ 20

/-- Slots of an OBS message: its header and its data. -/
def obsSlots (m : ObsMsg) : Nat := 1 + (m.data.length + 15) / 16

/-- Slots in a tap's alignment queue at a tick; the expander takes 4 of them in each tick (Table 13.1). [DEDUCED, log entry 63] -/
def TapSt.occNow (x : TapSt) (tick : Nat) : Nat := x.occ - 4 * (tick - x.occAt)

/-- The alignment queue of 256 slots has room for the whole message (R528). -/
def TapSt.hasRoom (x : TapSt) (tick : Nat) (m : ObsMsg) : Bool := decide (x.occNow tick + obsSlots m ≤ 256)

/-- A message enters the alignment queue. -/
def TapSt.enqueue (x : TapSt) (tick : Nat) (m : ObsMsg) : TapSt :=
  { x with occ := x.occNow tick + obsSlots m, occAt := tick, peak := max x.peak (x.occNow tick + obsSlots m) }

/-- Queue status word (Table 13.5). -/
def State.queueStatus (s : State) (i : Nat) : Nat :=
  let x := s.tap i
  x.q * 2 ^ 28 + b2n (decide (x.gap ≠ 0)) * 2 ^ 27 + x.peak * 2 ^ 16 + x.occNow s.time.tick

/-- Granule mask of a group from the mapped taps (3001h). -/
def State.granuleMap (s : State) (g : Nat) : Nat :=
  (List.range 64).foldl (fun m i =>
    let e := s.tapEntry i
    if (s.tap i).mapped && tapGroup e == g then m ||| ((2 ^ (widthBits (s.tap i).width / 8) - 1) * 2 ^ tapOffset e) else m) 0

/-! ### Joining and leaving (R539, R540) -/

/-- An alignment queue is reset and its rows go; the last value stays for the granules it leaves behind. -/
def TapSt.leave (x : TapSt) : TapSt := { x with q := 3, ready := false, gap := 0, occ := 0, peak := 0, rows := [], covTime := none }

/-- A tap leaves: GONE while it stays enabled (R540). -/
def State.tapLeave (s : State) (i : Nat) : State :=
  let x := s.tap i
  if x.q = 1 ∨ x.q = 2 then (s.setTap i x.leave).bump 0xF060 13 1 else s

/-- A tap whose source has SET and whose TCTL write has completed gets its join tick (R539). -/
def State.tapReady (s : State) (i : Nat) : State :=
  let x := s.tap i
  let isSet := match s.tapSource i with | some j => (s.src j).set | none => false
  if tapEn (s.tapEntry i) && isSet && x.tctl && !x.ready then
    let j := roundUp s.time.tick 4096
    s.setTap i { x with ready := true, q := 1, join := j, cov := j, last := none, lastWhy := 0, rows := [], covTime := none }
  else s

/-- One tap follows its source's SET: it leaves when SET is lost; after SET its TCTL write falls due, and it joins (R488,
R539, R540). -/
def State.tapFollow (s : State) (i : Nat) : State :=
  let x := s.tap i
  let isSet := match s.tapSource i with | some j => (s.src j).set | none => false
  if ¬ tapEn (s.tapEntry i) then s
  else if isSet then
    let s := if x.st = 2 && !x.tctl && !x.due then s.setTap i { x with due := true } else s
    s.tapReady i
  else if x.ready then s.tapLeave i
  else s

/-- Every tap that the device has looked at follows its source. -/
def State.tapsFollow (s : State) : State := (s.time.tap.map Prod.fst).foldl State.tapFollow s

/-- A tap entry as a die offers it: its TDESC fields, and DISABLED or SETUP (Table 11.10). -/
def State.tapEval (s : State) (i : Nat) : State :=
  let e := s.tapEntry i
  let x := s.tap i
  match mget s.time.die (tapPort e) with
  | none => s.setTap i { x with st := 0, tctl := false, due := false, retryAt := none }
  | some d =>
    match d.taps[tapNo e]? with
    | none => s.setTap i { x with st := 0, tctl := false, due := false, retryAt := none }
    | some w => s.setTap i { x with
        st := if tapEn e then 2 else 1, tctl := false, due := false, retryAt := none
        width := bits w 29 3, interval := bits w 27 2, chg := bit w 26, ctr := bits w 24 2 }

/-- A commit changes a tap entry: the old tap leaves, the new one is evaluated, and a TCTL write falls due (R457, R540). -/
def State.tapEntryChange (s : State) (i : Nat) : State :=
  let s := if (s.tap i).q = 1 ∨ (s.tap i).q = 2 then s.bump 0xF060 13 1 else s
  let s := (s.setTap i { margin := (s.tap i).margin, reason := (s.tap i).reason }).tapEval i
  let x := s.tap i
  s.setTap i { x with q := if tapEn (s.tapEntry i) then 1 else 0, due := decide (x.st ≠ 0) }

/-- A source of an admitted port becomes PRESENT; T_SET follows when package time runs (R488). -/
def State.sourceAdmit (s : State) (i : Nat) : State :=
  let e := s.srcEntry i
  match mget s.time.die (srcPort e) with
  | none => s
  | some d =>
    if srcEn e ∧ srcCtr e < d.counters then
      let s := s.setSrc i { s.src i with present := true, set := false, open_ := none, step := none, setting := false, held := none, nextPing := s.belay.frame }
      if s.time.ptRun ∧ s.acts then s.issueSet i else s
    else s

/-- A commit changes a source entry: the source starts anew (R466). -/
def State.sourceEntryChange (s : State) (i : Nat) : State :=
  ((s.setSrc i { trim := (s.src i).trim }).sourceAdmit i).tapsFollow

/-- The device reads TCAP and TDESC of a port at its admission, over its sideband (R456, R457, R488). [DESIGN CHOICE, log entry 54; DESIGN
CHOICE, log entry 62] -/
def State.admitCairn (s : State) (p : Nat) (d : Option DieInfo) : State :=
  if ¬ (s.port p).tap then s
  else
    let s := s.emit (.sideband p 0 0x0F0C 0)
    let good := match d with
      | some x => (match x.tcap with | some w => bits w.toNat 16 16 == 0x4354 | none => false)
      | none => false
    match d, good with
    | some x, true =>
      let w := (x.tcap.getD 0).toNat
      let die : DieSt := ⟨(x.tdesc.map fun b => b.toNat).take (bits w 4 4 + 1), bits w 0 2 + 1⟩
      let s := (List.range (bits w 4 4 + 1)).foldl (fun (s : State) k => s.emit (.sideband p 0 (0x0F10 + 8 * k) 0)) s
      let s := { s with time := { s.time with die := mset s.time.die p die } }
      let s := (List.range 64).foldl (fun s i => if tapPort (s.tapEntry i) = p then
          (let s := s.tapEval i
           if tapEn (s.tapEntry i) && (s.tap i).q == 0 then s.setTap i { s.tap i with q := 1 } else s) else s) s
      (List.range 16).foldl (fun s i => if srcPort (s.srcEntry i) = p then s.sourceAdmit i else s) s
    | _, _ => s.cohEvent 1 4 0 (s.port p).sidBase

/-- A port leaves service: its sources lose PRESENT and SET, its taps read ABSENT and are GONE (R488, R540). -/
def State.cairnGone (s : State) (p : Nat) : State :=
  let s := { s with time := { s.time with die := mdel s.time.die p } }
  let s := (List.range 16).foldl (fun s i => if srcPort (s.srcEntry i) = p then
    s.setSrc i { s.src i with present := false, set := false, open_ := none, step := none, setting := false, held := none } else s) s
  (List.range 64).foldl (fun s i => if tapPort (s.tapEntry i) = p then
    (let s := if (s.tap i).ready then s.tapLeave i else s
     s.setTap i { s.tap i with st := 0, tctl := false, due := false, retryAt := none }) else s) s

/-- The TCTL write of a tap ends (R457). -/
def State.tctlWrite (s : State) (i : Nat) (ok : Bool) : State :=
  let x := s.tap i
  if ¬ x.due then s
  else
    let e := s.tapEntry i
    let w := b2n (tapEn e) * 2 ^ 31 + b2n (tapChange e) * 2 ^ 30 + tapThru e
    let s := s.emit (.sideband (tapPort e) 1 (0x0F14 + 8 * tapNo e) w)
    if ok then
      (s.setTap i { x with due := false, retryAt := none, tctl := tapEn e, st := if tapEn e then 3 else 1 }).tapReady i
    else s.setTap i { x with due := true, retryAt := some (s.now + 1000000) }

/-- A repeated TCTL write (R457). -/
def State.tctlRetry (s : State) (i : Nat) (ok : Bool) : State :=
  match (s.tap i).retryAt with
  | none => s
  | some t => (s.elapseTo t).tctlWrite i ok

/-- The join tick of a tap (R539). -/
def State.tapJoin (s : State) (i : Nat) : State :=
  let x := s.tap i
  if x.q = 1 ∧ x.ready then
    let s := s.elapseToTick x.join
    s.setTap i { s.tap i with q := 2 }
  else s

/-! ### From message to rows (R469–R471, R528–R533) -/

/-- H in effect. -/
def State.horizon (s : State) : Nat := s.time.horizon

/-- Rows end before a tick. -/
def cutRows (rows : List TapSeg) (k : Nat) : List TapSeg :=
  rows.filterMap fun r => if r.b < k then some r else if r.a < k then some { r with b := k - 1 } else none

/-- Ticks of a source's coverage that a message at tick k fills by repeating the sample before it (R471): those from `from_` on, and for
THRU tick k itself. -/
def TapSt.repeats (x : TapSt) (kind from_ k : Nat) : Nat :=
  if x.interval ≠ 0 ∨ kind = 4 then 0
  else (if x.gap = 0 then k - from_ else 0) + (if kind = 3 ∧ x.cov ≤ k then 1 else 0)

/-- An accepted sample at tick k (R531, R532): `kind` is 1 SAMPLE, 2 CHANGE, 3 THRU, 4 LOST; `why` poisons the sample. -/
def State.acceptSample (s : State) (i kind k value why : Nat) : State :=
  let x := s.tap i
  let from_ := max x.cov (s.time.tick - s.horizon)
  let lastV := x.last.getD 0
  let fillWhy := if kind = 4 then 3 else if x.gap ≠ 0 then x.gap else x.lastWhy
  let fill := if from_ < k then [(⟨from_, k - 1, lastV, fillWhy⟩ : TapSeg)] else []
  let v := if kind ≤ 2 then value else lastV
  let w := if kind ≤ 2 then why else if kind = 4 then 3 else x.lastWhy
  let displaced := decide (kind ≤ 2) && decide (k < x.cov)
  let repeated := x.repeats kind from_ k
  let x' : TapSt := { x with
    rows := cutRows x.rows k ++ fill ++ [⟨k, k, v, w⟩]
    cov := k + 1
    gap := 0
    last := if kind ≤ 2 then some value else x.last
    lastWhy := if kind ≤ 2 then why else x.lastWhy
    margin := (let m : Int := (k : Int) + s.horizon - s.time.tick
               match x.margin with
               | none => some m
               | some q => some (if m < q then m else q)) }
  let s := (s.setTap i x').bumpW 0xF060 2 64 1
  let s := if displaced then s.bump 0xF050 9 1 else s
  if repeated = 0 then s else s.bump 0xF050 10 repeated

/-- A sample is decided against its visibility tick: accepted, or late (R530); samples before the join tick do not count. -/
def State.decideSample (s : State) (i kind k value why : Nat) : State :=
  let x := s.tap i
  if k < x.join then s
  else if s.time.tick ≤ k + s.horizon then s.acceptSample i kind k value why
  else ((s.setTap i { x with gap := 2 }).bump 0xF060 3 1).setCause 9 4

/-- Samples from the one numbered `n` on, `iv` units of 2^-32 ns apart (Table 11.4). -/
def State.takeSamples (i wb : Nat) (m : ObsMsg) (t0 iv : Int) (n fuel : Nat) (s : State) : State :=
  match fuel with
  | 0 => s
  | f + 1 =>
    let why := if m.badSamples.contains n then 5 else if m.poison then 4 else 0
    let s := s.decideSample i 1 (s.tickOfTime (t0 + n * iv)) (leAt m.data (n * wb) wb) why
    State.takeSamples i wb m t0 iv (n + 1) f s

/-- A message that breaks a rule of R485 is discarded; its tap, where one is named, goes to FAULT. -/
def State.obsFault (s : State) (i : Option Nat) (sid : Nat) : State :=
  let s := (s.cohEvent 1 4 0 sid).bump 0xF050 7 1
  match i with
  | none => s
  | some i => s.setTap i { s.tap i with st := if (s.tap i).st = 3 then 4 else (s.tap i).st }

/-- The enabled tap entry that a message's port, SID and TAP match (R528). -/
def State.obsEntry (s : State) (p sid tapN : Nat) : Option Nat :=
  (List.range 64).find? fun i =>
    let e := s.tapEntry i
    tapEn e && tapPort e == p && (s.port p).sidBase + tapAgent e == sid && tapNo e == tapN

/-- LEN and COUNT of a message agree with its opcode (R462, Table 11.4). -/
def obsLenOk (kind wb : Nat) (m : ObsMsg) : Bool :=
  let slots := (m.data.length + 15) / 16
  let n := m.count.toNat + 1
  match kind with
  | 1 => decide (n * wb ≤ 64) && slots == (n * wb + 15) / 16
  | 2 => n == 1 && slots == (wb + 15) / 16
  | _ => slots == 0

/-- The expander takes a message of tap entry `i`, whose source is `j`, and decides its samples (R469–R471, R485, R530–R533).
[DEDUCED, log entry 63] -/
def State.expand (s : State) (i j kind : Nat) (m : ObsMsg) : State :=
  let sid := m.sid.toNat
  let x := s.tap i
  let e := s.tapEntry i
  let src := s.src j
  let s := s.bump 0xF060 9 m.badWords
  let wb := widthBits x.width / 8
  let allowed := (tapChange e && decide (1 ≤ kind) && decide (kind ≤ 4)) || kind == 1 || kind == 4
  if !(allowed && obsLenOk kind wb m) then s.obsFault (some i) sid
  else
    let ep := m.epoch.toNat
    let before := src.step.isSome && ep == (src.epoch + 3) % 4
    if !(before || ep == src.epoch) then s.bump 0xF050 7 1
    else
      let delta : Int := if before then src.step.getD 0 * 65536 else 0
      let ref : Int := (s.time.pt : Int) - delta
      let st := m.stamp.toNat
      let v : Int := bits st 46 2 * secUnits + bits st 16 30 * 2 ^ 32 + bits st 0 16 * 65536
      let t : Int := ref + nearDiff (v - ref) (4 * secUnits)
      if ref + 4096 * 2 ^ 32 < t then s.bump 0xF050 8 1
      else
        let t := t + delta
        let behind := match x.covTime with | some c => decide (t / 65536 ≤ (c : Int)) | none => false
        if behind then s.obsFault (some i) sid
        else
          let iv : Int := intervalNs x.interval * 2 ^ 32
          let n := m.count.toNat
          let tEnd := if kind = 1 then t + n * iv else t
          let s := s.bumpW 0xF050 6 64 1
          let s := s.setTap i { x with st := 3, covTime := some (tEnd / 65536).toNat }
          if s.tickOfTime tEnd < x.join ∨ ¬ x.ready then s.bump 0xF060 11 1
          else if kind = 1 then State.takeSamples i wb m t iv 0 (n + 1) s
          else
            let why := if m.badSamples.contains 0 then 5 else if m.poison then 4 else 0
            s.decideSample i kind (s.tickOfTime t) (leAt m.data 0 wb) why

/-- An OBS message becomes visible in TICK: it is routed to its tap's alignment queue, or dropped when that lacks room for all
of it (R485, R527–R529). [DEDUCED, log entry 63] -/
def State.obs (s : State) (p kind : Nat) (m : ObsMsg) : State :=
  let sid := m.sid.toNat
  match s.obsEntry p sid m.tap.toNat with
  | none => s.obsFault none sid
  | some i =>
    let x := s.tap i
    if !x.tctl then s
    else match s.tapSource i with
    | none => s.obsFault (some i) sid
    | some j =>
      if !(s.src j).set then s.obsFault (some i) sid
      else if !x.hasRoom s.time.tick m then (s.setTap i { x with gap := 6 }).bump 0xF060 4 1
      else
        let x := x.enqueue s.time.tick m
        let s := s.bumpW 0xF060 1 64 1
        if m.headerBad then (s.setTap i { x with gap := 5 }).bump 0xF060 9 1
        else (s.setTap i x).expand i j kind m

/-- An OBS message as a link message carries it (Table 11.3). -/
def obsOf (m : LinkMsg) : ObsMsg :=
  { sid := BitVec.ofNat 8 m.sid, tap := BitVec.ofNat 4 (bits m.addr 48 4), stamp := BitVec.ofNat 48 m.addr
    epoch := BitVec.ofNat 2 m.epoch, count := BitVec.ofNat 6 (bits m.tag 6 6), poison := m.poison, data := m.data }

/-- A T_PONG as a link message carries it (Table 11.5). -/
def pongOf (m : LinkMsg) : PongMsg :=
  { sid := BitVec.ofNat 8 m.sid, tag := BitVec.ofNat 12 m.tag, ctr := BitVec.ofNat 2 (bits m.addr 50 2)
    epoch := BitVec.ofNat 2 (bits m.addr 48 2), t2 := BitVec.ofNat 64 (leAt m.data 0 8), t3 := BitVec.ofNat 64 (leAt m.data 8 8) }

/-! ### Queue faults (R546) -/

/-- A dispatch queue of a port is reset. -/
def State.dispatchReset (s : State) (p : Nat) : State :=
  let s := (List.range 64).foldl (fun s i => if tapPort (s.tapEntry i) = p ∧ (s.tap i).q = 2 then
    s.setTap i { s.tap i with gap := 7 } else s) s
  (s.setCause 9 5).bump 0xF060 12 1

/-- The tap event queue is reset: every tap in JOINING or COUNTING is GONE, and its TCTL is rewritten. -/
def State.tapEventReset (s : State) : State :=
  let s := (List.range 64).foldl (fun s i =>
    let x := s.tap i
    if x.q = 1 ∨ x.q = 2 then s.setTap i { x.leave with tctl := false, due := decide (x.st ≠ 0), st := if 2 ≤ x.st then 2 else x.st } else s) s
  (s.setCause 9 5).bump 0xF060 12 1

/-- Every 3006h entry returns to its greatest value (3007h:0). -/
def State.marginReset (s : State) : State :=
  (List.range 64).foldl (fun s i => s.setTap i { s.tap i with margin := none }) s

/-! ### The tap part of a slice (R534–R538) -/

/-- What one tap gives to sample tick k: its value and the reason that poisons it, 0 for none. [DEDUCED, log entry 63] -/
def TapSt.at (x : TapSt) (k : Nat) : Nat × Nat :=
  let lastV := x.last.getD 0
  if x.q = 3 then (lastV, 9)
  else if !x.ready || k < x.join then (lastV, 8)
  else match x.rows.find? fun r => decide (r.a ≤ k) && decide (k ≤ r.b) with
    | some r => (r.value, r.why)
    | none => (lastV, 1)

/-- Granule numbers of a tap entry: the first, and how many. -/
def tapGranules (e width : Nat) : Nat × Nat := (32 * tapGroup e + tapOffset e, widthBits width / 8)

/-- F060h row that counts granule-ticks of a poison reason, 0 for none (Table 13.6). -/
def poisonRow (why : Nat) : Nat := match why with | 1 => 5 | 2 => 6 | 3 => 7 | 4 => 8 | _ => 0

/-- A tap's part of the slice of sample tick k is added; its row is cleared (R534, R536, R538). [DEDUCED, log entry 63] -/
def State.sliceTap (k : Nat) (empty : Bool) (acc : State × Slice) (i : Nat) : State × Slice :=
  let (s, sl) := acc
  let x := s.tap i
  if !x.mapped then acc
  else
    let e := s.tapEntry i
    let (v, why0) := x.at k
    let why := if empty then 1 else why0
    let (g, n) := tapGranules e x.width
    let w := widthBits x.width
    let sl := { sl with
      d := sl.d + v % 2 ^ w * 2 ^ (8 * g)
      pz := if why = 0 then sl.pz else sl.pz ||| ((2 ^ n - 1) * 2 ^ g) }
    if why = 0 then
      (s.setTap i { x with rows := x.rows.filter fun r => decide (k < r.b) }, sl)
    else
      let s := s.setTap i { x with reason := why, rows := if empty then x.rows else x.rows.filter fun r => decide (k < r.b) }
      let s := if poisonRow why = 0 then s else s.bumpW 0xF060 (poisonRow why) 64 n
      (if why = 1 ∧ ¬ empty then s.setCause 9 4 else s, sl)

end Sys2Proof.Machine
end

