-- ==== Sys2Proof/Machine/Belay.lean ====
section
/-! DEFINITION. Sys2Proof/Machine/Belay.lean: the Belay engine: fixed-point arithmetic, control laws, the servo frame, lock
and following error, re-enable, sweeps and the boot lock (Chapter 12). -/
namespace Sys2Proof.Machine

/-! ### Arithmetic (R501) -/

/-- Limits of Q32.16 in 48 bits. -/
def sat48 (a : Int) : Int := clampI (-(2 ^ 47)) (2 ^ 47 - 1) a

/-- Limits of a signed 32-bit integer. -/
def sat32 (a : Int) : Int := clampI (-(2 ^ 31)) (2 ^ 31 - 1) a

/-- rnd16 of an accumulator with 40 fraction bits. -/
def rnd16 (a : Int) : Int := sat48 ((a + 2 ^ 23) / 2 ^ 24)

/-- rnd0 of an accumulator with 40 fraction bits. -/
def rnd0 (a : Int) : Int := sat32 ((a + 2 ^ 39) / 2 ^ 40)

/-- The n-th of past values, 0 past their end. -/
def pastAt (l : List Int) (n : Nat) : Int := (l[n]?).getD 0

/-- One notch section (R502): coefficients n0, n1, n2, m1, m2, history x1, x2, z1, z2, input x; output and new history. -/
def notchStep (c : List Int) (h : List Int) (x : Int) : Int × List Int :=
  let z := rnd16 (pastAt c 0 * x + pastAt c 1 * pastAt h 0 + pastAt c 2 * pastAt h 1 - pastAt c 3 * pastAt h 2 - pastAt c 4 * pastAt h 3)
  (z, [x, pastAt h 0, z, pastAt h 2])

/-- Fields of a loop control word (Table 12.4). -/
def loopEn (w : Nat) : Bool := bit w 63
def loopType (w : Nat) : Nat := bits w 61 2
def loopNotch (w : Nat) : Nat := bits w 59 2
def loopAw (w : Nat) : Nat := bits w 57 2
def loopEvent (w : Nat) : Bool := bit w 56
def loopDiv (w : Nat) : Nat := 2 ^ bits w 52 4
def loopPhase (w : Nat) : Nat := bits w 42 10
def loopOrder (w : Nat) : Nat := bits w 37 5
def loopNest (w : Nat) : Bool := bit w 36
def loopOuter (w : Nat) : Nat := bits w 31 5
def loopHold (w : Nat) : Bool := bit w 30

/-- Scheduled in a frame (R495). -/
def scheduled (w f : Nat) : Bool := f % loopDiv w = loopPhase w

/-- Nominal cost of a computation (Table 12.2). -/
def nominalCost (w : Nat) : Nat :=
  (if loopType w = 0 then 24 else if loopType w = 1 then 32 else 40) + 16 * loopNotch w

/-- What a loop computes with: coefficients c1–c17, control word and limits. -/
structure LoopCfg where
  c : List Int
  w : Nat
  umin : Int
  umax : Int
deriving DecidableEq, Repr

/-- The error through the notch sections (R502): x[n] and the loop with its new histories. -/
def LoopSt.filter (x : LoopSt) (g : LoopCfg) (e : Int) : Int × LoopSt :=
  let x0 := sat48 (e * 2 ^ 16)
  match loopNotch g.w with
  | 0 => (x0, x)
  | 1 => let r := notchStep (g.c.drop 7) x.notch1 x0
         (r.1, { x with notch1 := r.2 })
  | _ => let r := notchStep (g.c.drop 7) x.notch1 x0
         let q := notchStep (g.c.drop 12) x.notch2 r.1
         (q.1, { x with notch1 := r.2, notch2 := q.2 })

/-- Sum of products of coefficients from the n-th on with values. -/
def dot (c : List Int) (v : List Int) : Int := ((c.zip v).map fun p => p.1 * p.2).sum

/-- The PID law (R503): v, u and the new state. -/
def LoopSt.pid (s : LoopSt) (g : LoopCfg) (x : Int) : Int × Int × LoopSt :=
  let kp := pastAt g.c 0
  let ki := pastAt g.c 1
  let d := rnd16 (pastAt g.c 3 * s.d + pastAt g.c 2 * (x - pastAt s.xs 0))
  let ci := rnd16 (s.i * 2 ^ 24 + ki * x)
  let v := rnd0 (kp * x + ci * 2 ^ 24 + d * 2 ^ 24)
  let u := clampI g.umin g.umax v
  let lim := fun i : Int => clampI (g.umin * 2 ^ 16) (g.umax * 2 ^ 16) i
  let i := match loopAw g.w with
    | 0 => lim (if u ≠ v ∧ 0 < ki * x * (v - u) then s.i else ci)
    | 1 => lim (rnd16 (ci * 2 ^ 24 + pastAt g.c 4 * (u - v) * 2 ^ 16))
    | _ => ci
  (v, u, { s with d := d, i := i, xs := [x] })

/-- The two-pole and three-pole laws with `n` poles (R503). -/
def LoopSt.poles (s : LoopSt) (g : LoopCfg) (n : Nat) (x : Int) : Int × Int × LoopSt :=
  let xs := (x :: s.xs).take (n + 1)
  let v := rnd0 (dot (g.c.take (n + 1)) xs - dot ((g.c.drop (n + 1)).take n) (s.ws.take n) * 2 ^ 16)
  let u := clampI g.umin g.umax v
  (v, u, { s with xs := xs.take n, ws := ((if loopAw g.w = 2 then v else u) :: s.ws).take n })

/-- The compensator of TYPE. -/
def LoopSt.law (s : LoopSt) (g : LoopCfg) (x : Int) : Int × Int × LoopSt :=
  match loopType g.w with
  | 0 => s.pid g x
  | 1 => s.poles g 2 x
  | _ => s.poles g 3 x

/-- The state a re-enable loads (R511). [DEDUCED, log entry 73] -/
def LoopSt.reload (s : LoopSt) (g : LoopCfg) (e : Int) : LoopSt :=
  let (x, s) := { s with notch1 := [], notch2 := [] }.filter g e
  match loopType g.w with
  | 0 => { s with
      d := 0, xs := [x], ws := []
      i := clampI (g.umin * 2 ^ 16) (g.umax * 2 ^ 16) (rnd16 (s.u * 2 ^ 40 - pastAt g.c 0 * x)) }
  | _ => { s with d := 0, i := 0, xs := [x], ws := [s.u, s.u, s.u] }

/-! ### Loops of the device -/

/-- A loop. -/
def State.loop (s : State) (l : Nat) : LoopSt := mgetD s.belay.loop l { u := loopReset l }

/-- Change a loop. -/
def State.setLoop (s : State) (l : Nat) (x : LoopSt) : State := { s with belay := { s.belay with loop := mset s.belay.loop l x } }

/-- Control word of a loop. -/
def State.loopCtl (s : State) (l : Nat) : Nat := s.n 0x6201 (l + 1)

/-- What a loop computes with. -/
def State.loopCfg (s : State) (l : Nat) : LoopCfg :=
  ⟨(List.range 17).map fun k => s.i (0x6210 + l) (k + 1), s.loopCtl l, s.i 0x6203 (l + 1), s.i 0x6204 (l + 1)⟩

/-- A probe granule samples: the bank runs and the granule is enabled (R526, R588). -/
def State.granuleOn (s : State) (g : Nat) : Bool := s.probe.on && decide (s.z 0x3800 1 ≠ 0) && bit (s.z 0x3802 (g + 1)) 15

/-- The unit of a loop is present (R492). -/
def State.loopPresent (s : State) (l : Nat) : Bool :=
  match loopKind l with
  | 0 => (s.src l).present
  | 1 => s.granuleOn (l - 16) && decide (s.z 0x3800 1 = 2) && (s.pll .ppll).locked
  | 2 => s.pair.role = 3
  | 3 => (s.port (l - 25)).admitted
  | _ => true

/-- A loop is enabled: by its control word and by the engine (6200h:1). -/
def State.loopEnabled (s : State) (l : Nat) : Bool := loopEn (s.loopCtl l) && s.b 0x6200 1

/-- The loops that run on this device: on a Second those that Table 19.6 names, S16 to S30 (R515, R753). [DEDUCED, log entry 92] -/
def State.loopRuns (s : State) (l : Nat) : Bool := s.pair.role ≠ 3 || (decide (16 ≤ l) && decide (l ≤ 30))

/-- Setpoint of a loop (Table 12.1, R504). -/
def State.setpoint (s : State) (l : Nat) : Int :=
  let w := s.loopCtl l
  if loopNest w then rnd0 (s.i 0x6209 (l + 1) * (s.loop (loopOuter w)).u * 2 ^ 16)
  else if loopKind l = 3 then ((s.port (l - 25)).latency : Int)
  else s.i 0x6202 (l + 1)

/-- The measurement of a loop at the input latch, and whether it is new (R491, R493, R494). [DESIGN CHOICE, log entries 82
and 92] -/
def State.measure (s : State) (x : ServoInputs) (l : Nat) : Int × Bool :=
  match loopKind l with
  | 0 => (sat32 (s.src l).theta, (s.src l).fresh)
  | 1 => (match mget s.belay.eyes (l - 16) with
    | some y => (y, true)
    | none => ((s.loop l).y, false))
  | 2 => (x.ropePhase, true)
  | 3 => ((x.latency[l - 25]?).getD (s.loop l).y, true)
  | _ => match s.z 0x6240 2 with
    | 0 => (s.i 0x6240 3, false)
    | 1 => (sat32 (rnd s.time.ppsErr 65536), true)
    | 2 => (x.temp, true)
    | _ => ((s.loop (s.z 0x6240 4)).e, true)

/-- Latch a loop's measurement. -/
def State.latchLoop (x : ServoInputs) (s : State) (l : Nat) : State :=
  let (y, new) := s.measure x l
  let a := s.loop l
  let s := s.setLoop l { a with y := y, fresh := a.fresh || new }
  if loopKind l = 0 then s.setSrc l { s.src l with fresh := false } else s

/-- A loop that leaves LOCKED other than by a commit gets LOCKLOST (R522). -/
def State.lockLost (s : State) (l : Nat) (was : Nat) : State := if was = 2 then s.setLoopCause l 0 else s

/-- Presence decides ABSENT, the end of a phase step ends HELD, and a returning unit re-enables (R492, R509, R511). -/
def State.followUnit (s : State) (l : Nat) : State :=
  let a := s.loop l
  if a.st = 4 ∨ !s.loopRuns l then s
  else if !loopEn (s.loopCtl l) then s.setLoop l { a with st := 0, reenable := false, stepHeld := false, feStart := none }
  else if !s.loopPresent l then
    if a.st = 5 then s
    else (s.setLoop l { a with st := 5, stepHeld := false, feStart := none, fresh := false }).lockLost l a.st
  else if a.st = 5 ∨ a.st = 0 then s.setLoop l { a with st := 1, reenable := true, lockCount := 0, feStart := none }
  else if a.stepHeld ∧ (s.src l).step.isNone ∧ ¬ (s.src l).setting then s.setLoop l { a with st := 1, stepHeld := false, reenable := true, lockCount := 0 }
  else if loopKind l = 0 ∧ (s.src l).rearm then
    let s := s.setSrc l { s.src l with rearm := false }
    if a.st = 3 then s else s.setLoop l { a with st := 1, reenable := true, lockCount := 0, feStart := none }
  else s

/-- An actuator takes a value; where it is the TRIM of a tap loop and differs from the last one sent, it leaves in T_ADJ (Table 12.1,
R494, R513). -/
def State.setActuator (s : State) (l : Nat) (u : Int) : State :=
  let s := s.setLoop l { s.loop l with u := u, uNext := none }
  if loopKind l = 0 ∧ (s.src l).present ∧ s.acts ∧ (s.src l).trim ≠ u then (s.sendAdjMsg l 0 u).campSrcStat l else s

/-- Cycle 0 of a frame applies a loop's output (R494). -/
def State.applyOutput (s : State) (l : Nat) : State :=
  match (s.loop l).uNext with
  | none => s
  | some u => s.setActuator l u

/-- Bits of a flag over all loops. -/
def State.flagWord (s : State) (f : LoopSt → Bool) : Nat :=
  ((List.range 32).map fun l => if f (s.loop l) then 2 ^ l else 0).sum

/-- Cycle 0 publishes the four flag vectors; they are visible in the third tick after it (R507). -/
def State.publishFlags (s : State) : State :=
  let v := [s.flagWord fun x => x.st == 2, s.flagWord LoopSt.follow, s.flagWord LoopSt.sat, s.flagWord LoopSt.miss]
  let put := fun (m : Map (List (Nat × Nat))) (k : Nat) =>
    let w := (v[k]?).getD 0
    let h := mgetD m k []
    if (match h with | [] => 0 | p :: _ => p.2) = w then m else mset m k (((s.time.tick + 3, w) :: h).take 16384)
  { s with belay := { s.belay with flags := v }, sig := { s.sig with flags := (List.range 4).foldl put s.sig.flags } }

/-- A loop loses lock by supervision: FEACT decides (R510). -/
def State.dropLock (s : State) (l sub : Nat) : State :=
  let a := s.loop l
  let s := ((s.setLoopCause l 1).setLoopCause l 0).bump 0xF058 sub 1
  s.setLoop l { a with
    st := if loopHold (s.loopCtl l) then 3 else 1, feStart := none, lockCount := 0, missRun := 0, uNext := if loopHold (s.loopCtl l) then none else a.uNext }

/-- A missed deadline takes effect (R498, R500). -/
def State.missLoop (s : State) (l : Nat) : State :=
  let a := s.loop l
  let n := a.missRun + 1
  let s := (s.setLoop l { a with miss := true, missRun := n, uNext := none }).setLoopCause l 3
  let s := (s.bump 0xF058 3 1).bump 0xF058 (9 + l) 1
  if 16 ≤ n ∧ (a.st = 1 ∨ a.st = 2) then s.dropLock l 6 else s

/-- A computation that an uncorrectable coefficient ends (R520). [DEDUCED, log entry 73] -/
def State.breakLoop (s : State) (l : Nat) : State :=
  let s := (s.missLoop l).setLoopCause l 0
  (s.setLoop l { s.loop l with st := 3, feStart := none, lockCount := 0 }).bump 0xF058 41 1

/-- The following-error timer of a loop has run out before frame `f` (R506). -/
def State.feOver (s : State) (l f : Nat) : Bool :=
  match (s.loop l).feStart with
  | some f0 => decide ((s.loop l).st = 2) && decide (f0 + s.n 0x6206 (l + 1) < f)
  | none => false

/-- Lock, following error and flags after a computation with error `e` in frame `f` (R505, R506). [DESIGN CHOICE, log entry 4] -/
def State.supervise (s : State) (l f : Nat) (e : Int) : State :=
  let a := s.loop l
  let mag := e.natAbs
  let follow := decide (s.n 0x6205 (l + 1) < mag)
  let a := { a with follow := follow }
  let a := if a.st = 1 then
      (if mag ≤ s.n 0x6207 (l + 1) then
        (if s.n 0x6208 (l + 1) ≤ a.lockCount + 1 then { a with st := 2, lockCount := 0, feStart := none }
         else { a with lockCount := a.lockCount + 1 })
       else { a with lockCount := 0 })
    else if a.st = 2 then
      (if follow then { a with feStart := match a.feStart with | some k => some k | none => some f } else { a with feStart := none })
    else a
  s.setLoop l a

/-- One computation of a loop in frame `f`; the answer is the extra cycle cost of a clamp (R503, R508, R509, R511). -/
def State.computeLoop (s : State) (l f : Nat) : Nat × State :=
  let a := s.loop l
  let g := s.loopCfg l
  let e := sat32 (s.setpoint l - a.y)
  let s := s.bumpW 0xF058 2 64 1
  let thr := if loopKind l = 0 then s.n 0x620A (l + 1) else 0
  if a.reenable then
    let b := { a.reload g e with
      st := 1, reenable := false, fresh := false, e := e, miss := false, missRun := 0, sat := false, lockCount := 0, uNext := some a.u
      follow := decide (s.n 0x6205 (l + 1) < e.natAbs) }
    (0, s.setLoop l b)
  else if thr ≠ 0 ∧ thr < a.y.natAbs ∧ (s.src l).step.isNone ∧ !(s.src l).setting ∧ s.acts then
    let s := s.setLoop l { a with st := 3, stepHeld := true, fresh := false, e := e, miss := false, missRun := 0, feStart := none, lockCount := 0 }
    (0, (s.issueStep l (-(s.src l).theta)).lockLost l a.st)
  else
    let (x, a1) := a.filter g e
    let (v, u, a2) := a1.law g x
    let clamped := decide (u ≠ v)
    let s := s.setLoop l { a2 with fresh := false, e := e, miss := false, missRun := 0, sat := clamped, uNext := some u }
    let s := if clamped then (if a.sat then s else s.setLoopCause l 2).bump 0xF058 4 1 else s
    (if clamped then 4 else 0, s.supervise l f e)

/-- The loop computes in frame `f` (R495). -/
def State.computes (s : State) (l f : Nat) : Bool :=
  let a := s.loop l
  s.loopEnabled l && s.loopRuns l && scheduled (s.loopCtl l) f && (a.st = 1 || a.st = 2 || (a.st = 3 && a.reenable)) &&
    (!loopEvent (s.loopCtl l) || a.fresh)

/-- Loops in ascending ORDER. -/
def State.loopOrderList (s : State) : List Nat :=
  ((List.range 32).map fun o => (List.range 32).filter fun l => loopOrder (s.loopCtl l) == o).flatten

/-- One place of the frame's schedule: the next free cycle goes along (R494, R496, R498, R520). -/
def State.frameLoop (f : Nat) (x : ServoInputs) (acc : Nat × State) (l : Nat) : Nat × State :=
  let (c, s) := acc
  if !s.computes l f then acc
  else if 400 ≤ c then (400, { s with belay := { s.belay with missed := s.belay.missed ++ [l] } })
  else if x.double.any fun p => p.1 == l then
    (min 400 (c + nominalCost (s.loopCtl l)), { s with belay := { s.belay with broken := s.belay.broken ++ [l] } })
  else
    let ones := (x.single.filter fun p => p.1 == l).length
    let s := if ones = 0 then s else s.bump 0xF058 7 ones
    let (extra, s') := s.computeLoop l f
    let cost := nominalCost (s.loopCtl l) + extra + 8 * ones
    if c + cost ≤ 400 then (c + cost, s')
    else (400, { s with belay := { s.belay with missed := s.belay.missed ++ [l] } })

/-! ### Sweeps (R513, R514) -/

/-- Actuator of step k of a sweep. -/
def State.sweepValue (s : State) (w : SweepSt) (k : Nat) : Int :=
  let lo := s.i 0x6203 (w.loop + 1)
  let hi := s.i 0x6204 (w.loop + 1)
  lo + rnd ((k : Int) * (hi - lo)) ((w.steps : Int) - 1)

/-- A sweep starts. -/
def State.startSweep (s : State) (l : Nat) : State :=
  let w : SweepSt := ⟨l, 0, s.n 0x6250 2, s.n 0x6250 3, s.belay.frame + s.n 0x6250 3, (s.loop l).u⟩
  let s := { s with belay := { s.belay with sweep := some w } }
  let s := s.setLoop l { s.loop l with st := 4 }
  let s := if s.b 0x6200 1 then s.setActuator l (s.sweepValue w 0) else s
  ((s.put 0x6250 1 l).put 0x6250 4 1).put 0x6250 5 0

/-- A sweep ends, DONE (2) or ABORTED (3): the actuator returns and the loop reads DISABLED. -/
def State.endSweep (s : State) (w : SweepSt) (how : Nat) : State :=
  let s := { s with belay := { s.belay with sweep := none } }
  ((s.setLoop w.loop { s.loop w.loop with st := 0 }).setActuator w.loop w.saved).put 0x6250 4 how

/-- The sweep's part of frame `f`, after every loop computation, from cycle `c` on. While 6200h:1 holds every actuator, the sweep
stands still, and its step settles anew (R516). [DESIGN CHOICE, log entry 92] -/
def State.sweepFrame (s : State) (f c : Nat) : Nat × State :=
  match s.belay.sweep with
  | none => (c, s)
  | some w =>
    if !s.b 0x6200 1 then (c, { s with belay := { s.belay with sweep := some { w with ready := f + w.settle + 2 } } })
    else if f < w.ready then (c, if (s.loop w.loop).u = s.sweepValue w w.k then s else s.setActuator w.loop (s.sweepValue w w.k))
    else if 400 < c + 8 then (c, s.bump 0xF058 8 1)
    else
      let s := (s.put 0x6251 w.k (ofInt 32 (s.loop w.loop).y)).put 0x6250 5 (w.k + 1)
      if w.steps ≤ w.k + 1 then (c + 8, s.endSweep w 2)
      else
        let w' := { w with k := w.k + 1, ready := f + w.settle + 1 }
        let s := { s with belay := { s.belay with sweep := some w' } }
        (c + 8, s.setActuator w.loop (s.sweepValue w (w.k + 1)))

/-! ### Boot lock (R515) and the frame -/

/-- The test engine begins to run at step 14, or when a commit enables it. -/
def State.startTest (s : State) : State :=
  if s.b 0x5400 1 ∧ s.mem.phase = 0 then { s with mem := { s.mem with phase := 5, nextStep := s.now + s.n 0x5400 2 * 1000 } } else s

/-- Step 14, capture ready (R162): the time since the reset's release is kept, and a Second waits for its snapshot. [DEDUCED, log entry 29] -/
def State.captureReady (s : State) : State :=
  let s := { s with boot := { s.boot with step := 14 }, belay := { s.belay with lockBy := none } }
  let s := s.put 0x2018 3 (min ((s.now - s.boot.releasedAt) / 1000) (2 ^ 32 - 1))
  let s := if s.power.tripped then State.setCause { s with power := { s.power with tripped := false } } 1 2 else s
  let s := s.startTest
  if s.pair.role = 3 then { s with pair := { s.pair with catchup := 6 } }.campSend false 0x13 [6] else s

/-- A loop takes part in the boot lock: every enabled, present one, and on a Second those of Table 19.6. -/
def State.locksAtBoot (s : State) (l : Nat) : Bool :=
  s.loopEnabled l && s.loopPresent l && s.loopRuns l

/-- Step 13 starts every enabled, present loop with a re-enable from its actuator's reset value. -/
def State.startLock (s : State) : State :=
  let s := { s with
    boot := { s.boot with step := 13, stepAt := s.now }
    belay := { s.belay with lockBy := some (s.now + s.n 0x6200 3 * 1000000) } }
  (List.range 32).foldl (fun s l =>
    if !s.loopRuns l then s
    else if s.loopEnabled l ∧ s.loopPresent l then s.setLoop l { (({} : LoopSt)) with u := loopReset l, st := 1, reenable := true }
    else if s.loopEnabled l then s.setLoop l { s.loop l with st := 5 }
    else s) s

/-- Every loop of the boot lock reads LOCKED. -/
def State.allLocked (s : State) : Bool := (List.range 32).all fun l => !s.locksAtBoot l || (s.loop l).st = 2

/-- The lock limit expires: NOLOCK for each loop that is not locked, and the boot goes on (R515). -/
def State.lockLimit (s : State) : State :=
  match s.belay.lockBy with
  | none => s
  | some t =>
    let s := s.elapseTo t
    let s := (List.range 32).foldl (fun s l => if s.locksAtBoot l ∧ (s.loop l).st ≠ 2 then s.setLoopCause l 4 else s) s
    s.captureReady

/-- Real time at which a frame begins. -/
def State.frameStart (s : State) (f : Nat) : Nat := s.belay.startAt.getD 0 + f * 1000

/-- Misses and expiries of earlier frames that no command has brought yet take effect. [DESIGN CHOICE, log entry 4] -/
def State.settleFrame (s : State) : State :=
  let s := s.belay.missed.foldl State.missLoop s
  let s := s.belay.broken.foldl State.breakLoop s
  let s := { s with belay := { s.belay with missed := [], broken := [] } }
  (List.range 32).foldl (fun s l => if s.feOver l s.belay.frame then s.dropLock l 5 else s) s

/-- Cycle 0 of a frame: earlier outputs and flags apply, presence is taken, and every loop latches its measurement. -/
def State.frameBegin (s : State) (x : ServoInputs) : State :=
  let s := s.settleFrame
  let s := (List.range 32).foldl State.applyOutput s
  let s := State.publishFlags { s with belay := { s.belay with temp := x.temp } }
  let s := if 13 ≤ s.boot.step then (List.range 32).foldl State.followUnit s else s
  let s := (List.range 32).foldl (State.latchLoop x) s
  { s with belay := { s.belay with eyes := [] } }

/-- The computations of frame `f` and the sweep's part: the cycles used and the state. -/
def State.frameBody (s : State) (f : Nat) (x : ServoInputs) : Nat × State :=
  let r := if 13 ≤ s.boot.step then s.loopOrderList.foldl (State.frameLoop f x) (16, s) else (16, s)
  r.2.sweepFrame f r.1

/-- The frame ends: its cycles are kept, the next number follows, and step 13 ends once every loop is LOCKED. -/
def State.frameEnd (s : State) (f c : Nat) : State :=
  let b := s.belay
  let s := State.bumpW { s with belay := { b with frame := f + 1, lastCycles := c, peakCycles := max c b.peakCycles } } 0xF058 1 64 1
  if s.boot.step = 13 ∧ s.allLocked then s.captureReady else s

/-- The lock limit has expired in a frame before frame `f` (R14, R515). -/
def State.lockPast (s : State) (f : Nat) : State :=
  match s.belay.lockBy with
  | some t => if t < s.frameStart f then s.lockLimit else s
  | none => s

/-- A servo frame (R494). The engine runs while SRV is out of its domain reset; loops run from step 13 on. -/
def State.servoFrame (s : State) (x : ServoInputs) : State :=
  if s.belay.startAt.isNone then s
  else
    let f := s.belay.frame
    let r := (((s.elapseTo (s.frameStart f)).lockPast f).frameBegin x).frameBody f x
    r.2.frameEnd f r.1

/-- A missed deadline of the frame in progress (R498): the loop's computation was not complete within cycle 399. -/
def State.missedDeadline (s : State) (l : Nat) : State :=
  if s.belay.missed.contains l then
    let s := s.elapseTo (s.frameStart s.belay.frame)
    State.missLoop { s with belay := { s.belay with missed := s.belay.missed.filter fun k => k != l } } l
  else if s.belay.broken.contains l then
    let s := s.elapseTo (s.frameStart s.belay.frame)
    State.breakLoop { s with belay := { s.belay with broken := s.belay.broken.filter fun k => k != l } } l
  else s

/-- A following-error timer expires (R506, R510). -/
def State.feExpiry (s : State) (l : Nat) : State := if s.feOver l s.belay.frame then s.dropLock l 5 else s

/-- 620Bh:0: each named loop that is HELD re-enables in its next scheduled frame (R510, R511). -/
def State.resumeLoops (s : State) (m : Nat) : State :=
  (List.range 32).foldl (fun s l =>
    let s := if bit m l ∧ s.feOver l s.belay.frame then s.dropLock l 5 else s
    let a := s.loop l
    if bit m l ∧ a.st = 3 ∧ !a.stepHeld then s.setLoop l { a with st := 1, reenable := true, lockCount := 0 } else s) s

/-- A commit changes loop `l`: its control or a coefficient; a disabled loop stops, another re-enables (R511, R522). [DEDUCED, log entry 45] -/
def State.loopCommit (s : State) (l : Nat) : State :=
  let a := s.loop l
  if a.st = 4 then s
  else if !loopEn (s.loopCtl l) then s.setLoop l { a with st := 0, reenable := false, stepHeld := false, feStart := none }
  else if s.boot.step < 13 ∨ !s.loopRuns l then s
  else s.setLoop l { a with st := if s.loopPresent l then 1 else 5, reenable := true, stepHeld := false, lockCount := 0, feStart := none, missRun := 0 }

/-- Loop status word (Table 12.6). The next computation of a HELD or ABSENT loop is a re-enable frame (R523). [DEDUCED, log entry 49] -/
def State.loopStatus (s : State) (l : Nat) : Nat :=
  let a := s.loop l
  a.st * 2 ^ 12 + b2n (a.reenable || decide (a.st = 3 ∨ a.st = 5)) * 16 + b2n a.miss * 8 + b2n a.follow * 4 + b2n a.sat * 2 + b2n a.feStart.isSome

/-- The SRV domain is reset: loop state is lost, outputs hold; a sweep is ABORTED (Table 12.11). -/
def State.srvLost (s : State) : State :=
  let s := match s.belay.sweep with | some w => s.endSweep w 3 | none => s
  let s := (List.range 32).foldl (fun s l =>
    let a := s.loop l
    let s := s.lockLost l a.st
    s.setLoop l { ({} : LoopSt) with u := a.u, st := if a.st = 0 then 0 else 1, reenable := decide (a.st ≠ 0) }) s
  { s with
    belay := { s.belay with startAt := none, frame := 0, lastCycles := 16, missed := [], broken := [], eyes := [] }
    time := { s.time with source := s.time.source.map fun e => (e.1, { e.2 with nextPing := 0 }) } }

/-- The SRV domain leaves its reset: frame 0 begins now. -/
def State.srvStart (s : State) : State :=
  if s.belay.startAt.isSome then s else { s with belay := { s.belay with startAt := some s.now, frame := 0 } }

end Sys2Proof.Machine
end

