-- ==== Sys2Proof/Machine/Probe.lean ====
section
/-! DEFINITION. Sys2Proof/Machine/Probe.lean: the probe bank's GP part of a slice, its poison and settling, the eye windows,
the cross-trigger pins, and the motion decoders (Chapter 14). -/
namespace Sys2Proof.Machine

/-! ### Granules and GP -/

/-- A probe granule. -/
def State.granule (s : State) (g : Nat) : GranuleSt := mgetD s.probe.granule g {}

/-- Change a probe granule. -/
def State.setGranule (s : State) (g : Nat) (x : GranuleSt) : State :=
  { s with probe := { s.probe with granule := mset s.probe.granule g x } }

/-- Configuration word of a granule (Table 14.8). -/
def State.granuleCfg (s : State) (g : Nat) : Nat := s.z 0x3802 (g + 1)

/-- DIFF and INVERT of a granule. -/
def cfgDiff (w : Nat) : Bool := bit w 14
def cfgInvert (w : Nat) : Bool := bit w 12

/-- A granule is poisoned PROBE in sample tick k (R537, R562, R585). -/
def State.probeBad (s : State) (g k : Nat) : Bool :=
  s.probe.bad.any fun b => bit b.1 g && decide (b.2.1 ≤ k) && (match b.2.2 with | some e => decide (k < e) | none => true)

/-- Mask of the mapped GP granules that are poisoned in sample tick k. -/
def State.probeBadMask (s : State) (k : Nat) : Nat :=
  ((List.range 8).map fun g => if s.granuleOn g && s.probeBad g k then 2 ^ g else 0).sum

/-- The octet of a granule after INVERT and pairing (R554, R555). -/
def granuleOctet (w o : Nat) : Nat :=
  let v := if cfgInvert w then 255 - o % 256 else o % 256
  if cfgDiff w then v &&& 0x55 else v

/-- The sub-samples of a granule after INVERT and pairing. -/
def granuleSub (w o : Nat) : Nat :=
  let v := if cfgInvert w then 2 ^ 64 - 1 - o % 2 ^ 64 else o % 2 ^ 64
  if cfgDiff w then v &&& 0x00FF00FF00FF00FF else v

/-- GP from 64 pin levels: enabled granules only. -/
def State.gpOf (s : State) (lv : Nat) : Nat :=
  ((List.range 8).map fun g => if s.granuleOn g then granuleOctet (s.granuleCfg g) (bits lv (8 * g) 8) * 2 ^ (8 * g) else 0).sum

/-- SUB of TIMING mode. -/
def State.subOf (s : State) (sub : Nat) : Nat :=
  ((List.range 8).map fun g => if s.granuleOn g then granuleSub (s.granuleCfg g) (bits sub (64 * g) 64) * 2 ^ (64 * g) else 0).sum

/-- Sub-sample 7 of every channel, as 64 levels (R557). -/
def lastSub (sub : Nat) : Nat := ((List.range 64).map fun p => if bit sub (8 * p + 7) then 2 ^ p else 0).sum

/-- The GP value held from the last accepted edge, in the granules that sample (R560). -/
def State.gpHeld (s : State) : Nat :=
  ((List.range 8).map fun g => if s.granuleOn g then bits s.probe.gp (8 * g) 8 * 2 ^ (8 * g) else 0).sum

/-- An edge of PRB_CLK of the polarity of 3800h:2 is accepted (R558). -/
def State.edgeAccepted (s : State) (rises : Bool) : Bool :=
  match s.z 0x3800 2 with
  | 0 => rises
  | 1 => !rises
  | _ => true

/-- The probe bank's part of the slice of sample tick k: GP, SUB, CLKV, CLKPOS (Table 14.1, Table 14.2, R557–R560). -/
def State.probeSample (s : State) (x : GpSample) : State × Nat × Nat × Bool × Nat :=
  match s.z 0x3800 1 with
  | 1 => (s, s.gpOf (lastSub x.sub.toNat), s.subOf x.sub.toNat, false, 0)
  | 2 =>
    match (x.edges.filter fun e : Fin 8 × Bool × BitVec 64 => s.edgeAccepted e.2.1).reverse with
    | [] => (s, s.gpHeld, 0, false, 0)
    | (slot, _, lv) :: rest =>
      let gp := s.gpOf lv.toNat
      let s := { s with probe := { s.probe with gp := gp } }
      (if rest.isEmpty then s else s.bump 0xF068 3 rest.length, gp, 0, true, slot.val)
  | _ => (s, 0, 0, false, 0)

/-- A comparator change of a granule at tick T poisons it for 1,024 sample ticks (R562, R588). -/
def State.settleGranule (s : State) (g t : Nat) : State :=
  let s := s.setGranule g { s.granule g with settleTo := t + 1024 }
  { s with probe := { s.probe with bad := (2 ^ g, t, some (t + 1024)) :: s.probe.bad } }

/-- The settling of a granule ends. -/
def State.settlingEnd (s : State) (g : Nat) : State :=
  let x := s.granule g
  if x.settleTo = 0 then s else (s.elapseToTick x.settleTo).setGranule g { x with settleTo := 0 }

/-- GP is poisoned from this tick on (R537, R585, R588). -/
def State.probeBadFrom (s : State) : State :=
  if s.probe.bad.any fun b => b.2.2.isNone then s
  else { s with probe := { s.probe with bad := (0xFF, s.time.tick, none) :: s.probe.bad } }

/-- The poison of GP without an end ends with this tick. -/
def State.probeBadTo (s : State) : State :=
  { s with probe := { s.probe with bad := s.probe.bad.map fun b => if b.2.2.isNone then (b.1, b.2.1, some s.time.tick) else b } }

/-- The condition of PROBE cause PLL: PPLL unlocked while the bank runs (R335, R585). -/
def State.probePll (s : State) : Bool := s.probe.on && !(s.pll .ppll).locked

/-- PLL is set while its condition holds, with GP poisoned; the poison ends as the lock returns, while PRB runs (R148, R585). -/
def State.syncProbe (s : State) : State :=
  if s.probePll then
    let s := s.probeBadFrom
    if bit (s.z 0x210E 0) 8 then s else s.setCause 13 8
  else if s.probe.on && !(s.dom .prb).inReset then s.probeBadTo
  else s

/-- An eye window of 4,096 accepted edges ends (R563–R566). -/
def State.eyeWindow (s : State) (g edges e l : Nat) : State :=
  if edges ≠ 4096 ∨ ¬ s.granuleOn g ∨ s.z 0x3800 1 ≠ 2 ∨ ¬ (s.pll .ppll).locked then s
  else
    let moff := s.n 0x3804 (g + 1)
    let y : Int := if e + l = 0 then 0 else rnd (((l : Int) - e) * moff) ((e + l : Nat) : Int)
    let lim := if cfgDiff (s.granuleCfg g) then 1024 else 2048
    let closed := decide (lim ≤ e) && decide (lim ≤ l)
    let s := s.setGranule g { s.granule g with closed := closed, meas := true, early := min e 65535, late := min l 65535 }
    let s := { s with belay := { s.belay with eyes := mset s.belay.eyes g y } }
    let s := s.bump 0xF068 1 1
    if closed then (s.setCause 13 9).bump 0xF068 2 1 else s

/-- Granule status word (3805h). -/
def State.granuleStatus (s : State) (g : Nat) : Nat :=
  let x := s.granule g
  let st := if !s.granuleOn g then 0 else if s.time.tick < x.settleTo then 2 else if s.probeBad g s.time.tick then 3 else 1
  st * 2 ^ 12 + b2n x.closed * 2 + b2n x.meas

/-! ### Cross-trigger pins (R81, R568, R569) -/

/-- An edge of XTRIG_IN[n] is captured in this tick, or, where it violates setup or hold, in this tick or the next (R81). -/
def State.xtrigIn (s : State) (n : Nat) (level violates : Bool) : State :=
  if ¬ bit (s.z 0x3810 (n + 1)) 1 then s
  else
    let late := if violates then s.freeVal % 2 else 0
    let s := if violates then s.drawn else s
    let x := putBit s.probe.xin n level
    { s with
      probe := { s.probe with xin := x }
      sig := { s.sig with xtrig := (s.time.tick + late + 3, x) :: s.sig.xtrig } }

/-- Mode of an XTRIG_OUT control word (3811h). -/
def xoutMode (w : Nat) : Nat := bits w 12 2

/-- The drive requests of the branch taken for tick d (R569, Table 15.4). -/
def State.driveXout (req d : Nat) (s : State) (n : Nat) : State :=
  let w := s.z 0x3811 (n + 1)
  let r := bit req n
  match xoutMode w with
  | 0 => { s with probe := { s.probe with xout := putBit s.probe.xout n r } }
  | 1 => if r then { s with probe := { s.probe with
            xout := setBit s.probe.xout n, pulse := mset s.probe.pulse n (d + max 1 (bits w 0 8)) } } else s
  | _ => if r then { s with probe := { s.probe with xout := putBit s.probe.xout n (!bit s.probe.xout n) } } else s

/-- The pulse of XTRIG_OUT[n] ends. -/
def State.pulseEnd (s : State) (n : Nat) : State :=
  match mget s.probe.pulse n with
  | none => s
  | some t =>
    let s := s.elapseToTick t
    { s with probe := { s.probe with xout := clrBit s.probe.xout n, pulse := mdel s.probe.pulse n } }

/-- The pins XTRIG_OUT[3:0] as driven (3812h [7:4], Table 19.1). -/
def State.xoutPins (s : State) : Nat :=
  if s.boot.step < 12 ∨ ¬ s.acts then 0
  else ((List.range 4).map fun n =>
    let w := s.z 0x3811 (n + 1)
    if bit w 15 && (bit s.probe.xout n != bit w 14) then 2 ^ n else 0).sum

/-! ### Motion decoders -/

/-- A decoder. -/
def State.decoder (s : State) (j : Nat) : Decoder := mgetD s.probe.decoder j {}

/-- Change a decoder. -/
def State.setDecoder (s : State) (j : Nat) (x : Decoder) : State :=
  { s with probe := { s.probe with decoder := mset s.probe.decoder j x } }

/-- Fields of a decoder control word (Table 14.9). -/
def decEn (w : Nat) : Bool := bit w 31
def decMode (w : Nat) : Nat := bits w 28 3
def decInvDir (w : Nat) : Bool := bit w 27
def decZen (w : Nat) : Bool := bit w 26
def decZqual (w : Nat) : Bool := bit w 25
def decPolicy (w : Nat) : Nat := bits w 23 2

/-- Control word of a decoder. -/
def State.decCtl (s : State) (j : Nat) : Nat := s.z 0x3900 (j + 1)

/-- An input granule of the decoder is poisoned in sample tick k (R571). -/
def State.decBad (s : State) (j k : Nat) : Bool :=
  let w := s.z 0x3901 (j + 1)
  s.probeBad (bits w 0 6 / 8) k || s.probeBad (bits w 8 6 / 8) k || (decZen (s.decCtl j) && s.probeBad (bits w 16 6 / 8) k)

/-- Wrapping to 32 bits. -/
def wrap32 (i : Int) : Int := toInt 32 (ofInt 32 i)

/-- Place of the inputs in the quadrature sequence 00, 10, 11, 01. -/
def quadAt (a b : Bool) : Nat := if a then (if b then 2 else 1) else if b then 3 else 0

/-- The change of position that a tick's inputs give (Table 14.3); none is a phase error. -/
def countStep (mode : Nat) (a0 b0 a b : Bool) : Option Int :=
  let both := (a0 != a) && (b0 != b)
  match mode with
  | 0 => if both then none else some (if a0 != a && !b then (if a then 1 else -1) else 0)
  | 1 => if both then none else some (if a0 != a then (if a == b then -1 else 1) else 0)
  | 2 => if both then none else
      let d := (quadAt a b + 4 - quadAt a0 b0) % 4
      some (if d = 1 then 1 else if d = 3 then -1 else 0)
  | 3 => some (if !a0 && a then (if b then -1 else 1) else 0)
  | _ =>
    let up := !a0 && a
    let dn := !b0 && b
    some (if up && dn then 0 else if up then 1 else if dn then -1 else 0)

/-- ±rnd0(10^9 / interval). -/
def speedOf (interval : Nat) (neg : Bool) : Int :=
  let v := rnd 1000000000 (max 1 interval : Nat)
  if neg then -v else v

/-- Bits 6 to 0 of the decoder status word (Table 14.5). -/
def Decoder.word (x : Decoder) : Nat :=
  b2n x.phaseErr * 64 + b2n x.still * 32 + b2n x.reverse * 16 + b2n x.neg * 8 + b2n x.indexed * 4 + b2n x.mismatched * 2 + b2n x.reloaded

/-- What a decoder reports is put down for its sample tick; events of one tick join (Table 14.6). -/
def Decoder.record (x : Decoder) (t mev : Nat) : Decoder :=
  let r : MotionRec := ⟨t, x.pos, x.speed, x.interval, x.edgeAt.getD t, mev, x.running, x.word, x.deviation, x.mismatches, x.lastIndex⟩
  match x.hist with
  | h :: rest => if h.tick = t then { x with hist := { r with mev := h.mev ||| mev } :: rest } else { x with hist := r :: h :: rest }
  | [] => { x with hist := [r] }

/-- A counted edge at tick t changes speed and direction (R578); the answer holds the MEV bits. -/
def Decoder.edge (x : Decoder) (t : Nat) (neg : Bool) : Nat × Decoder :=
  let m := 1 + (if neg then 2 else 0)
  let y := { x with neg := neg, edgeAt := some t, stillFrom := t }
  match x.edgeAt with
  | none => (m, { y with speed := 0, still := true })
  | some k =>
    if x.neg = neg then (m, { y with speed := speedOf (t - k) neg, interval := t - k, still := false, reverse := false })
    else (m + 4, { y with speed := 0, interval := 0, still := false, reverse := true })

/-- The expected position of an index (R576). -/
def expectedIndex (pos iref cpr : Int) : Int :=
  if cpr = 0 then iref else wrap32 (iref + rnd (pos - iref) cpr * cpr)

/-- Entry into STILL at tick t (R580). [DEDUCED, log entry 65] -/
def State.enterStill (s : State) (j t : Nat) : State :=
  let x := s.decoder j
  if x.still then s.setDecoder j { x with edgeAt := none, stillFrom := t }
  else (s.setDecoder j (({ x with speed := 0, still := true, edgeAt := none, stillFrom := t } : Decoder).record t 64)).bump 0xF068 12 1

/-- Tick at which a decoder's standstill time runs out. [DESIGN CHOICE, log entry 4] -/
def State.stillTick (s : State) (j : Nat) : Nat := (s.decoder j).stillFrom + s.n 0x3906 (j + 1) * 1000

/-- The standstill time of a running decoder expires. -/
def State.standstill (s : State) (j : Nat) : State :=
  let x := s.decoder j
  if x.running ∧ x.edgeAt.isSome ∧ s.z 0x3800 1 ≠ 0 then (s.elapseToTick (s.stillTick j)).enterStill j (s.stillTick j) else s

/-- An index event at tick t, after the tick's count (R576, R577, Table 14.4); the answer holds the MEV bits. -/
def State.indexEvent (s : State) (j : Nat) : Nat × State :=
  let x := s.decoder j
  let w := s.decCtl j
  let want := expectedIndex x.pos (s.i 0x3902 (j + 1)) (s.n 0x3903 (j + 1))
  let dev := wrap32 (x.pos - want)
  let s := s.bump 0xF068 9 1
  let x := { x with indexed := true, lastIndex := x.pos }
  if s.n 0x3904 (j + 1) < dev.natAbs then
    let pol := decPolicy w
    let reload := decide (pol = 1) || (decide (pol = 2) && decide (s.n 0x3905 (j + 1) < x.skips + 1))
    let x := { x with mismatched := true, deviation := dev, mismatches := min 65535 (x.mismatches + 1), skips := x.skips + 1 }
    let x := if reload then { x with pos := want, reloaded := true } else { x with reloaded := false }
    (8 + 16, (s.setDecoder j x).setCause 13 j)
  else (8, s.setDecoder j { x with mismatched := false, reloaded := false })

/-- The filtered inputs of a decoder change at sample tick t (R570–R577), in every bank mode but OFF (R552). The levels of the tick in
which the decoder starts are no change: it has no history (R574). -/
def State.decoderInput (s : State) (j : Nat) (a b z : Bool) (t : Nat) : State :=
  let x := s.decoder j
  if !x.running || t < x.startAt || s.decBad j t || decide (s.z 0x3800 1 = 0) then s
  else if t = x.startAt then s.setDecoder j { x with a := a, b := b, z := z }
  else
    let s := if x.edgeAt.isSome ∧ s.stillTick j < t then s.enterStill j (s.stillTick j) else s
    let x := s.decoder j
    let w := s.decCtl j
    let zRise := !x.z && z && decZen w
    let step := countStep (decMode w) x.a x.b a b
    let x := { x with a := a, b := b, z := z }
    let (mev, s) : Nat × State := match step with
      | none => (128, (s.setDecoder j { x with phaseErr := true }).bump 0xF068 (5 + j) 1)
      | some d =>
        let d := if decInvDir w then -d else d
        if d = 0 then (0, s.setDecoder j x)
        else
          let pos := wrap32 (x.pos + d)
          let (m, y) := { x with pos := pos }.edge t (decide (d < 0))
          let s := s.setDecoder j y
          if pos = x.pos + d then (m, s) else (m + 32, s.bump 0xF068 10 1)
    let x := s.decoder j
    let wait := x.zWait || zRise
    let fires := if decZqual w then wait && z && a && b else zRise
    let s := s.setDecoder j { x with zWait := wait && !fires }
    let (m2, s) := if fires then s.indexEvent j else (0, s)
    s.setDecoder j ((s.decoder j).record t (mev + m2))

/-- A position load (R575). [DEDUCED, log entry 65] -/
def State.positionLoad (s : State) (j : Nat) : State :=
  let x := s.decoder j
  let t := match x.hist with | h :: _ => max s.time.tick h.tick | [] => s.time.tick
  (s.setDecoder j (({ x with pos := s.i 0x3907 (j + 1) } : Decoder).record t 0)).bump 0xF068 11 1

/-- A decoder starts at sample tick T (R574), or stops where it is disabled. What it reported of earlier sample ticks stays to be
read (R581). -/
def State.startDecoder (t : Nat) (s : State) (j : Nat) : State :=
  let x := s.decoder j
  if decEn (s.decCtl j) ∧ s.probe.on then
    s.setDecoder j (({ running := true, startAt := t, stillFrom := t, pos := s.i 0x3907 (j + 1), hist := x.hist } : Decoder).record t 0)
  else if x.running then s.setDecoder j (({ x with running := false, speed := 0 } : Decoder).record t 0)
  else s

/-- The newest report not after sample tick k. -/
def Decoder.recAt (x : Decoder) (k : Nat) : Option MotionRec := x.hist.find? fun r => decide (r.tick ≤ k)

/-- The speed reported for sample tick k, decaying between edges (R579). -/
def MotionRec.speedAt (r : MotionRec) (k : Nat) : Int :=
  if r.speed = 0 then 0 else speedOf (max r.interval (k - r.edgeAt)) (decide (r.speed < 0))

/-- Position, speed and events of a decoder in sample tick k (Table 14.2). -/
def State.motionAt (s : State) (j k : Nat) : Int × Int × Nat :=
  match (s.decoder j).recAt k with
  | some r => (r.pos, r.speedAt k, if r.tick = k then r.mev else 0)
  | none => (0, 0, 0)

/-- A decoder runs in sample tick k. [DEDUCED, log entry 64] -/
def State.motionRuns (s : State) (j k : Nat) : Bool := match (s.decoder j).recAt k with | some r => r.running | none => false

/-- Decoder status word (Table 14.5), at sample tick k. -/
def State.decoderStatus (s : State) (j k : Nat) : Nat :=
  match (s.decoder j).recAt k with
  | some r => if r.running then (if s.decBad j k then 2 else 1) * 2 ^ 12 + r.word else 0
  | none => 0

/-- A decoder object, 3910h–3915h, as a read returns it: the state after the sample tick 40 ticks before the sampling tick (R581). [DEDUCED, log entry 64] -/
def State.decoderObject (s : State) (idx j : Nat) : Nat :=
  if s.time.tick < 40 then 0
  else
    let k := s.time.tick - 40
    match (s.decoder j).recAt k with
    | none => 0
    | some r => match idx with
      | 0x3910 => ofInt 32 r.pos
      | 0x3911 => ofInt 32 (r.speedAt k)
      | 0x3912 => s.decoderStatus j k
      | 0x3913 => ofInt 32 r.deviation
      | 0x3914 => r.mismatches
      | _ => ofInt 32 r.lastIndex

/-- Sampling and decoders start (R589). -/
def State.startProbe (s : State) : State :=
  let s := { s with probe := { s.probe with on := true } }
  ((List.range 4).foldl (State.startDecoder s.time.tick) s).syncProbe

/-- The PRB domain is reset: positions, speeds and edge history are lost, and GP is poisoned (R588). [DEDUCED, log entry 64] -/
def State.prbLost (s : State) : State :=
  State.probeBadFrom { s with probe := { s.probe with
    gp := 0, decoder := s.probe.decoder.map fun e => (e.1, { e.2 with running := false, speed := 0, hist := [] })
    granule := s.probe.granule.map fun e => (e.1, { settleTo := e.2.settleTo }) } }

/-- The PRB domain returns: poison ends and each enabled decoder restarts (R588). -/
def State.prbBack (s : State) : State :=
  if !s.probe.on then s
  else (List.range 4).foldl (State.startDecoder s.time.tick) (if (s.pll .ppll).locked then s.probeBadTo else s)

end Sys2Proof.Machine
end

