-- ==== Sys2Proof/Machine/Trigger.lean ====
section
/-! DEFINITION. Sys2Proof/Machine/Trigger.lean: the trigger sequencer: holds and their attribution, counters, timers,
branches, one tick, the Summit, arming and disarming (Chapter 15). -/
namespace Sys2Proof.Machine

/-! ### Signals attributed to sample ticks (Table 15.3) -/

/-- The value of a level history in sample tick k. -/
def levelAt (h : List (Nat × Nat)) (k : Nat) : Nat :=
  match h.find? fun p => decide (p.1 ≤ k) with
  | some p => p.2
  | none => 0

/-- A history without what no slice from k on can need. -/
def pruneLevels (h : List (Nat × Nat)) (k : Nat) : List (Nat × Nat) :=
  (h.takeWhile fun p => decide (k < p.1)) ++ ((h.dropWhile fun p => decide (k < p.1)).take 1)

/-- Signals from sample tick k on. -/
def Signals.prune (g : Signals) (k : Nat) : Signals :=
  { xtrig := pruneLevels g.xtrig k
    flags := g.flags.map fun e => (e.1, pruneLevels e.2 k)
    rope := pruneLevels g.rope k
    pps := g.pps.filter fun t => decide (k ≤ t)
    ropePulse := g.ropePulse.filter fun t => decide (k ≤ t.1)
    fabric := g.fabric.filter fun t => decide (k ≤ t.1) }

/-- A message that a port's link layer accepts is compared with H24–H27; a match belongs to the tick in which the command brings the
message, which is the crossing of the bumps plus the receive latency (R596, Table 15.3). [DESIGN CHOICE, log entry 54] -/
def State.matchFabric (s : State) (p : Nat) (m : LinkMsg) : State :=
  let hit := fun x : Nat =>
    let w := s.z (0x4100 + x) 1
    let sv := s.z (0x4100 + x) 4
    bit w 31 && bit w (24 + p) && bit w (16 + m.vc) && decide ((bits w 11 5 ^^^ m.opc) &&& bits w 6 5 = 0) &&
      decide (s.z (0x4100 + x) 2 ≤ m.addr) && decide (m.addr ≤ s.n (0x4100 + x) 3) &&
      decide ((bits sv 8 8 ^^^ m.sid) &&& bits sv 0 8 = 0) && (!bit w 30 || m.poison)
  let mask := ((List.range 4).map fun j => if hit (24 + j) then 2 ^ j else 0).sum
  if mask = 0 then s
  else
    State.bumpW { s with sig := { s.sig with fabric := (s.time.tick, mask) :: s.sig.fabric } } 0xF070 10 64 1

/-! ### Holds (R592–R599) -/

/-- The channels of group 0–16 in a slice. -/
def Slice.group (x : Slice) (g : Nat) : Nat := if g = 16 then bits x.d 4096 64 else bits x.d (256 * g) 256

/-- The granule poison of a group. -/
def Slice.groupPz (x : Slice) (g : Nat) : Nat := if g = 16 then bits x.pz 512 8 else bits x.pz (32 * g) 32

/-- PG (Table 13.3). -/
def Slice.pg (x : Slice) : Nat := ((List.range 17).map fun g => if x.groupPz g = 0 then 0 else 2 ^ g).sum

/-- Granules of a group that hold a set bit of a mask. -/
def granulesOf (mask : Nat) : Nat := ((List.range 32).map fun g => if bits mask (8 * g) 8 = 0 then 0 else 2 ^ g).sum

/-- A pattern hold (R594): value before policy, and whether it is poisoned. -/
def State.patternHold (s : State) (x : Nat) (now old : Slice) : Bool × Bool :=
  let i := 0x4100 + x
  let w := s.z i 1
  let g := bits w 16 5
  let mask := s.z i 2
  let want := s.z i 3 &&& mask
  let a := now.group g &&& mask
  let b := old.group g &&& mask
  let hit := a == want
  let was := b == want
  let mode := bits w 28 3
  let v := match mode with
    | 0 => hit
    | 1 => !hit
    | 2 => hit && !was
    | 3 => was && !hit
    | _ => a != b
  let gm := granulesOf mask
  (v, (now.groupPz g &&& gm) != 0 || (decide (2 ≤ mode) && (old.groupPz g &&& gm) != 0))

/-- Granules that cover bits lo to lo + w − 1. -/
def coverGranules (lo w : Nat) : Nat :=
  ((List.range 32).map fun g => if 8 * g < lo + w ∧ lo < 8 * g + 8 then 2 ^ g else 0).sum

/-- The field of a field hold in a slice, as an integer, and its poison (R595). -/
def fieldOf (w : Nat) (x : Slice) : Int × Bool :=
  let sel := bits w 17 5
  let lo := bits w 8 9
  let wd := bits w 0 7
  let sgn := bit w 25
  let ext := fun (n width : Nat) => if sgn then toInt width n else ((n % 2 ^ width : Nat) : Int)
  match bits w 22 3 with
  | 0 => (ext (bits (x.group sel) lo wd) wd, (x.groupPz sel &&& coverGranules lo wd) != 0)
  | 1 => (ext (ofInt 32 ((x.mpos[sel % 4]?).getD 0)) 32, bit x.mpz (sel % 4))
  | _ => (ext (ofInt 32 ((x.mspd[sel % 4]?).getD 0)) 32, bit x.mpz (sel % 4))

/-- A field hold (R595). -/
def State.fieldHold (s : State) (x : Nat) (now old : Slice) : Bool × Bool :=
  let i := 0x4100 + x
  let w := s.z i 1
  let (f, bad) := fieldOf w now
  let (f0, bad0) := fieldOf w old
  let lim := fun k => if bit w 25 then toInt 64 (s.n i k) else ((s.n i k : Nat) : Int)
  let mask := s.n i 2
  let mode := bits w 28 3
  let v := match mode with
    | 0 => (ofInt 64 f &&& mask) == (s.n i 3 &&& mask)
    | 1 => (ofInt 64 f &&& mask) != (s.n i 3 &&& mask)
    | 2 => decide (lim 3 ≤ f) && decide (f ≤ lim 4)
    | 3 => decide (f < lim 3) || decide (lim 4 < f)
    | _ => decide (lim 3 ≤ ((f - f0).natAbs : Int))
  (v, bad || (mode = 4 && bad0))

/-- The source of an auxiliary hold in a slice, and its poison (R598, Table 15.10). -/
def State.auxValue (s : State) (w : Nat) (x : Slice) : Bool × Bool :=
  let sel := bits w 0 16
  match bits w 16 8 with
  | 1 => (bit x.mev (8 * bits sel 8 2 + bits sel 0 3), bit x.mpz (bits sel 8 2))
  | 2 => (s.sig.pps.contains x.k, false)
  | 3 => (bit (levelAt (mgetD s.sig.flags (bits sel 5 2) []) x.k) (bits sel 0 5), false)
  | 4 =>
    let c := s.z 0x3810 (bits sel 0 2 + 1)
    (bit c 1 && (bit (levelAt s.sig.xtrig x.k) (bits sel 0 2) != bit c 0), false)
  | 5 =>
    let c := bits sel 0 4
    (if c = 1 ∨ c = 2 ∨ c = 3 then s.sig.ropePulse.contains (x.k, c) else decide (c < 7) && bit (levelAt s.sig.rope x.k) c, false)
  | 6 => (bit x.pg (bits sel 0 5), false)
  | _ => (false, false)

/-- An auxiliary hold (R598). -/
def State.auxHold (s : State) (x : Nat) (now old : Slice) : Bool × Bool :=
  let w := s.z (0x4100 + x) 1
  let (v, bad) := s.auxValue w now
  let v0 := (s.auxValue w old).1
  match bits w 29 2 with
  | 0 => (v, bad)
  | 1 => (v && !v0, bad)
  | 2 => (!v && v0, bad)
  | _ => (v != v0, bad)

/-- A hold before its policy. -/
def State.rawHold (s : State) (x : Nat) (now old : Slice) : Bool × Bool :=
  if x < 16 then s.patternHold x now old
  else if x < 24 then s.fieldHold x now old
  else if x < 28 then (s.sig.fabric.any fun f => f.1 == now.k && bit f.2 (x - 24), false)
  else s.auxHold x now old

/-- POISON field of a hold's control word. -/
def holdPolicy (x w : Nat) : Nat := if x < 24 then bits w 26 2 else if x < 28 then 0 else bits w 27 2

/-- All 32 holds of a slice after policy, and the mask of those poisoned (R593, R599). -/
def State.holdsOf (s : State) (now : Slice) : Nat × Nat :=
  let old := s.trig.prev.getD now
  (List.range 32).foldl (fun acc x =>
    let w := s.z (0x4100 + x) 1
    if !bit w 31 then acc
    else
      let (v, bad) := s.rawHold x now old
      let v := if bad then (match holdPolicy x w with
        | 0 => false
        | 1 => true
        | _ => bit s.trig.holds x) else v
      (if v then acc.1 + 2 ^ x else acc.1, if bad then acc.2 + 2 ^ x else acc.2)) (0, 0)

/-! ### Counters, timers, branches (R600–R607) -/

/-- The greatest counter value. -/
def countMax : Nat := 2 ^ 48 - 1

/-- A product term (R604). -/
def term (inputs t f : Nat) : Bool := (inputs &&& t) == t && (inputs &&& f) == 0

/-- A trigger timer. -/
def State.timer (s : State) (j : Nat) : TimerSt := mgetD s.trig.timer j {}

/-- A timer's expiry flag in tick r (R602, R606). [DEDUCED, log entry 66] -/
def State.timerFlag (s : State) (r j : Nat) : Bool :=
  let t := s.timer j
  let n := s.n 0x4018 (j + 1)
  t.running && decide (t.start < r) && (r - t.start == n || (bit (s.z 0x4019 (j + 1)) 1 && (r - t.start) % n == 0))

/-- The auto increment of a counter (R600). -/
def State.autoInc (s : State) (inputs i : Nat) : Bool :=
  bit (s.z 0x4013 (i + 1)) s.trig.level && term inputs (s.z 0x4011 (i + 1)) (s.z 0x4012 (i + 1))

/-- A branch of the current level holds (R604). -/
def State.branchHolds (s : State) (inputs b : Nat) : Bool :=
  let i := 0x4200 + s.trig.level
  (List.range (min 8 (bits (s.z i (b + 1)) 60 4))).any fun t =>
    term inputs (s.z i (5 + 16 * b + 2 * t)) (s.z i (6 + 16 * b + 2 * t))

/-- What the sequencer tells the storage writer of one tick (Table 15.4). -/
structure TrigOut where
  /-- the slice lies inside the store gate -/
  store : Bool
  /-- marker code -/
  mark : Option Nat
  summit : Bool
deriving DecidableEq, Repr

/-- A counter at the end of a tick (R601): its value, and whether an increment was lost to saturation. -/
def counterEnd (value : Nat) (auto inc clr : Bool) : Nat × Bool :=
  let sum := value + b2n auto + b2n inc
  if clr then (0, decide (countMax < value + b2n auto)) else (min sum countMax, decide (countMax < sum))

/-- A timer at the end of tick r (R602, Table 15.4). [DEDUCED, log entry 66] -/
def timerEnd (t : TimerSt) (r : Nat) (flag periodic start stop : Bool) : TimerSt :=
  let t := if t.running then { t with elapsed := r - t.start } else t
  let t := if flag && !periodic then { t with running := false } else t
  let t := if stop then { t with running := false } else t
  if start then { running := true, start := r } else t

/-- DIG of the state word (R615). -/
def digest (vs : List Nat) : Nat := vs.foldl (fun d v => d ^^^ bits v 0 16 ^^^ bits v 16 16 ^^^ bits v 32 16) 0

/-- The state word (Table 15.6). -/
def State.stateWord (s : State) (branch : Nat) (summit : Bool) : Nat :=
  let t := s.trig
  let st := if t.st = 2 ∨ t.st = 4 then 1 else if t.st = 3 then 2 else 0
  t.level * 2 ^ 28 + branch * 2 ^ 25 + b2n summit * 2 ^ 24 + b2n t.gate * 2 ^ 23 + st * 2 ^ 21 +
    digest (t.value ++ (List.range 8).map fun j => (s.timer j).elapsed)

/-- The Summit in tick r on a branch (R609). -/
def State.summitAt (s : State) (r k b : Nat) : State :=
  let t := s.trig
  (State.setCause { s with trig := { t with
    st := 3, summitAt := r, summitK := k, summitTime := s.timeOf k, summitBranch := t.level * 16 + b } } 9 0).bump 0xF070 4 1

/-- One evaluated tick r with its inputs (R606, R607). -/
def State.evalTick (s : State) (r k hv : Nat) : State × TrigOut :=
  let t := s.trig
  let tf := fun j => s.timerFlag r j
  let tfw := ((List.range 8).map fun j => if tf j then 2 ^ j else 0).sum
  let pre := hv + tfw * 2 ^ 40
  let auto := fun i => s.autoInc pre i
  let val := fun i => (t.value[i]?).getD 0
  let cfw := ((List.range 8).map fun i => if s.n 0x4010 (i + 1) ≤ min (val i + b2n (auto i)) countMax then 2 ^ i else 0).sum
  let inputs := pre + cfw * 2 ^ 32
  let held := (List.range 4).filter fun b => s.branchHolds inputs b
  let ctl := fun b => s.z (0x4200 + t.level) (b + 1)
  let plain := held.find? fun b => !bit (ctl b) 58
  let taken := match plain with | some b => some b | none => held.head?
  let w := match taken with | some b => ctl b | none => 0
  let passed := plain.isSome && (held.any fun b => bit (ctl b) 58)
  let ends := (List.range 8).map fun i => counterEnd (val i) (auto i) (bit w (43 + i)) (bit w (35 + i))
  let sats := (ends.filter fun e => e.2).length
  let exps := ((List.range 8).filter fun j => tf j && decide ((s.timer j).seen ≠ some r)).length
  let timers := (List.range 8).foldl (fun m j =>
    mset m j (timerEnd (s.timer j) r (tf j) (bit (s.z 0x4019 (j + 1)) 1) (bit w (27 + j)) (bit w (19 + j)))) t.timer
  let store := bits w 52 2
  let summit := taken.isSome && bit w 59
  let go := taken.isSome && !summit
  let level := if go then bits w 54 4 else t.level
  let s := { s with trig := { t with
    value := ends.map Prod.fst, timer := timers, flags := tfw * 256 + cfw
    gate := if store = 1 then true else if store = 2 then false else t.gate } }
  let s := s.bumpW 0xF070 1 64 1
  let s := if taken.isSome then s.bumpW 0xF070 2 64 1 else s
  let s := if level = t.level then s else s.bump 0xF070 3 1
  let s := if exps = 0 then s else s.bump 0xF070 7 exps
  let s := if sats = 0 then s else (s.bump 0xF070 8 sats).setCause 9 2
  let s := if passed then s.bump 0xF070 11 1 else s
  let s := if summit then s.summitAt r k (taken.getD 0) else { s with trig := { s.trig with level := level } }
  let word := s.stateWord (match taken with | some b => b + 1 | none => 0) summit
  let s := { s with trig := { s.trig with word := word } }
  let s := (List.range 4).foldl (State.driveXout (bits w 15 4) (r + 1)) s
  (s, ⟨t.gate || store = 1, if taken.isSome && bit w 51 then some (bits w 7 8) else none, summit⟩)

/-- The slice of tick r reaches the sequencer: holds are formed in every state, and an ARMED or STOPPING tick is evaluated
(R590, R606). -/
def State.triggerTick (s : State) (r : Nat) (x : Slice) (auxIn : Option Nat) : State × TrigOut :=
  let (hv0, bad) := s.holdsOf x
  let hv := match auxIn with
    | some a => bits hv0 0 24 + a % 256 * 2 ^ 24
    | none => hv0
  let n := popCount 32 bad
  let s := if n = 0 then s else s.bumpW 0xF070 9 64 n
  let (s, o) := if (s.trig.st = 2 ∨ s.trig.st = 4) ∧ s.trig.armAt ≤ r then s.evalTick r x.k hv
    else ((List.range 4).foldl (State.driveXout 0 (r + 1)) s, ⟨s.trig.gate, none, false⟩)
  let s := { s with
    trig := { s.trig with holds := hv, poisoned := bad, prev := some x }
    sig := s.sig.prune x.k }
  ({ s with pair := { s.pair with
    words := ((r, s.trig.word) :: s.pair.words).take 96
    ownAux := ((x.k, bits hv 24 8) :: s.pair.ownAux).take 96 } }, o)

/-! ### Arming and disarming (R608, R611, R612, R614) -/

/-- The tick A or D for a request visible now: a multiple of 1,024, with the margin of R611. -/
def State.armTickFor (s : State) : Nat := roundUp (s.time.tick + (if s.mirrors then 1024 else 64)) 1024

/-- The sequencer arms at tick A (R608). -/
def State.armNow (s : State) (a : Nat) (rearm : Bool) : State :=
  let t := s.trig
  let timer := fun j : Nat => if bit (s.z 0x4019 (j + 1)) 0 then ({ running := true, start := a - 1 } : TimerSt) else {}
  { s with trig := { t with
      st := if t.disarming then 4 else 2, level := 0, armAt := a
      value := [0, 0, 0, 0, 0, 0, 0, 0]
      timer := (List.range 8).map fun j => (j, timer j)
      gate := s.b 0x4000 11, armMark := some (a, rearm), summitAt := 0, summitK := 0, summitTime := 0, summitBranch := 0 } }

/-- A disarm takes effect (R612). -/
def State.disarmNow (s : State) : State :=
  let t := s.trig
  State.bump { s with trig := { t with
    st := 0, level := 0, gate := false, disarming := false, disarmMark := some t.disarmAt
    timer := t.timer.map fun e => (e.1, { e.2 with running := false }) } } 0xF070 6 1

/-- An accepted arm request (R611, R613). -/
def State.requestArm (s : State) : State :=
  let a := s.armTickFor
  let s := State.bump { s with trig := { s.trig with st := 1, armAt := a, gate := false } } 0xF070 5 1
  if s.mirrors then s.campSend true 0x0C (leBytes 8 a) else s

/-- An accepted disarm request (R612, R613). -/
def State.requestDisarm (s : State) : State :=
  if s.trig.st = 0 ∨ s.trig.disarming then s
  else
    let d := s.armTickFor
    let s := { s with trig := { s.trig with disarming := true, disarmAt := d, st := if s.trig.st = 2 then 4 else s.trig.st } }
    if s.mirrors then s.campSend true 0x0D (leBytes 8 d) else s

/-- The TICK domain is reset: everything of the sequencer is lost (R620). -/
def State.triggerLost (s : State) : State :=
  { s with trig := { disarmAt := s.trig.disarmAt }, sig := { s.sig with xtrig := [], pps := [], fabric := [], ropePulse := [] }, probe := { s.probe with xout := 0, pulse := [] } }

end Sys2Proof.Machine
end

