-- ==== Sys2Proof/Machine/CapMem.lean ====
section
/-! DEFINITION. Sys2Proof/Machine/CapMem.lean: the octets of the capture banks, their poison bits and check code, the
bank a region offset selects, and the reads and writes of both ports (Chapter 17). -/
namespace Sys2Proof.Machine

/-- Octets of the capture region (R395). -/
def regionSize : Nat := 96 * 1024 * 1024

/-- The octet listed at an offset; one that is not listed reads 0, as step 5 leaves it (R681). [DESIGN CHOICE, log entry 7] -/
def cellGet (m : List Host.Cell) (a : Nat) : Byte :=
  match m with
  | [] => 0
  | (a', v) :: t => if a = a' then v else cellGet t a

/-- Write an octet and keep the canonical form: rising offsets, no listed 0. -/
def cellSet (m : List Host.Cell) (a : Nat) (v : Byte) : List Host.Cell :=
  match m with
  | [] => if v = 0 then [] else [(a, v)]
  | (a', v') :: t =>
    if a < a' then (if v = 0 then (a', v') :: t else (a, v) :: (a', v') :: t)
    else if a = a' then (if v = 0 then t else (a, v) :: t)
    else (a', v') :: cellSet t a v

/-- The canonical form of the cells: strictly rising offsets, and no listed 0. -/
def cellWf (m : List Host.Cell) : Bool :=
  match m with
  | [] => true
  | [(_, v)] => decide (v ≠ 0)
  | (a, v) :: (b, w) :: t => decide (a < b) && decide (v ≠ 0) && cellWf ((b, w) :: t)

/-- Offsets in strictly rising order. -/
def rising (l : List Nat) : Bool :=
  match l with
  | a :: b :: t => decide (a < b) && rising (b :: t)
  | _ => true

/-- The canonical form of the capture memory: equal contents are equal data. -/
def Memory.wf (m : Memory) : Bool := cellWf m.cells && rising m.poison && rising m.single && rising m.double

/-- `n` octets from an offset. -/
def cellRead (m : List Host.Cell) (a n : Nat) : Octets := (List.range n).map fun i => cellGet m (a + i)

/-- Octets written from an offset. -/
def cellWrite (m : List Host.Cell) (a : Nat) (o : Octets) : List Host.Cell :=
  match o with
  | [] => m
  | b :: t => cellWrite (cellSet m a b) (a + 1) t

/-- Bank of a region offset (Table 17.1). -/
def bankOf (off : Nat) : Nat := 4 * (off / 2 ^ 23) + off / 64 % 4

/-- Bank line of a region offset (Table 17.1). -/
def bankLine (off : Nat) : Nat := off / 256 % 32768

/-- Region offset of a line of a bank (Table 17.1). -/
def offOf (bank line : Nat) : Nat := bank / 4 * 2 ^ 23 + line * 256 + bank % 4 * 64

/-- A bank's state. -/
def State.bank (s : State) (n : Nat) : BankSt := mgetD s.mem.bank n {}

/-- Change a bank's state. -/
def State.setBank (s : State) (n : Nat) (x : BankSt) : State := { s with mem := { s.mem with bank := mset s.mem.bank n x } }

/-- A bank is READY and step 5 has made it so (R671, R697). [DEDUCED, log entry 70] -/
def State.bankReady (s : State) (n : Nat) : Bool := (s.bank n).st = 0 && decide ((s.bank n).bist ≠ 0)

/-- The line's poison bit. -/
def State.poisoned (s : State) (off : Nat) : Bool := s.mem.poison.contains off

/-- An offset put into a rising list, or taken from it. -/
def poisonSet (l : List Nat) (off : Nat) (b : Bool) : List Nat :=
  let r := l.filter fun x => decide (x ≠ off)
  if b then (r.filter fun x => decide (x < off)) ++ off :: r.filter fun x => decide (off < x) else r

/-- The line lies in the test region whose save buffer serves foreground accesses: SAVE to RESTORE (R685). -/
def State.redirected (s : State) (off : Nat) : Bool :=
  (s.mem.phase = 1 || s.mem.phase = 2 || s.mem.phase = 3) && decide (bankOf off = s.mem.tbank) &&
    decide (bankLine off / 64 = s.mem.tregion)

/-- A redirected access during SAVE or TEST abandons the step: RESTORE follows at once (R686). -/
def State.abandonStep (s : State) : State :=
  if s.mem.phase = 1 ∨ s.mem.phase = 2 then
    State.bump { s with mem := { s.mem with phase := 3, phaseEnd := s.now + 512, abandoned := true, abandons := min 255 (s.mem.abandons + 1) } } 0xF080 5 1
  else s

/-- The words of a line by their offsets. -/
def lineWords (off : Nat) : List Nat := (List.range 8).map fun i => off + 8 * i

/-- A line is written with fresh check bits (R669). -/
def State.freshLine (s : State) (off : Nat) (data : Octets) (poison : Bool) : State :=
  { s with mem := { s.mem with
      cells := cellWrite s.mem.cells off (octAt data 0 64)
      poison := poisonSet s.mem.poison off poison
      single := s.mem.single.filter fun w => !(lineWords off).contains w
      double := s.mem.double.filter fun w => !(lineWords off).contains w } }

/-- A write of a whole line by either port, through the save buffer where the test redirects it (R669, R685). -/
def State.writeLine (s : State) (off : Nat) (data : Octets) (poison : Bool) : State :=
  if s.redirected off then
    State.abandonStep { s with mem := { s.mem with save := mset s.mem.save (bankLine off % 64) ⟨octAt data 0 64, poison, false⟩ } }
  else s.freshLine off data poison

/-- The single-bit errors of a line are corrected and counted (R670). -/
def State.correctLine (s : State) (off : Nat) : State :=
  let n := ((lineWords off).filter fun w => s.mem.single.contains w).length
  let s1 := { s with mem := { s.mem with single := s.mem.single.filter fun w => !(lineWords off).contains w } }
  if n = 0 then s1 else s1.bumpW 0xF080 1 64 n

/-- A line with uncorrectable words, of which w is the first, is poisoned, recorded and counted (R670). -/
def State.failLine (s : State) (off w n : Nat) : State :=
  let b := 72 * (w % 64 / 8)
  let s := { s with mem := { s.mem with
    poison := poisonSet s.mem.poison off true
    faultBank := bankOf off
    faultSub := b % 64
    faultCol := (bankLine off + 29 * (b / 64)) % 256
    faultRow := 128 * (b / 64) + bankLine off / 256
    faultSrc := 3 } }
  (s.bump 0xF080 2 n).bump 0xF080 3 1

/-- A read of one line: its octets, its poison, and the state after the corrections and poisonings it causes (R670,
R685). An unavailable bank gives zeros with POISON (R676). -/
def State.readLine (s : State) (off : Nat) : Octets × Bool × State :=
  if !s.bankReady (bankOf off) then (zeros 64, true, s.bump 0xF080 12 1)
  else if s.redirected off then
    match mget s.mem.save (bankLine off % 64) with
    | some l => (l.data, l.poison, s.abandonStep)
    | none => (cellRead s.mem.cells off 64, s.poisoned off, s.abandonStep)
  else
    match (lineWords off).filter fun w => s.mem.double.contains w with
    | [] => (cellRead s.mem.cells off 64, s.poisoned off, s.correctLine off)
    | w :: t => (cellRead s.mem.cells off 64, true, (s.correctLine off).failLine off w (t.length + 1))

/-- A host write: whole lines clear or set the poison bit, partial ones leave it unless POISON is set; a bank that is not
READY acknowledges and discards it (R669, R676). -/
def State.hostWrite (s : State) (off i : Nat) (data : Octets) (poison : Bool) : State :=
  if !s.bankReady (bankOf off) then s.bump 0xF080 12 1
  else if data.length = 64 then s.writeLine off data poison
  else
    let (old, p, s') := s.readLine off
    s'.writeLine off (putOct old i data) (poison || p)

end Sys2Proof.Machine
end

