-- ==== Sys2Proof/Machine/Home.lean ====
section
/-! DEFINITION. Sys2Proof/Machine/Home.lean: the capture home: its snoop filter, its decisions, snoop answers, evictions,
recalls and the removal of agents (Chapter 10). -/
namespace Sys2Proof.Machine

/-- Port of an agent identifier (Table 9.1a). -/
def portOfSid (sid : Nat) : Nat := sid / 16 - 1

/-- An address in the capture region, as its region offset (R395). -/
def State.region (s : State) (a : Nat) : Option Nat :=
  let b := s.n 0x7800 1
  if b ≤ a ∧ a < b + regionSize then some (a - b) else none

/-- The line address of an offset's line. -/
def State.lineAddr (s : State) (off : Nat) : Nat := s.n 0x7800 1 + off / 64 * 64

/-- A protocol violation: the message is discarded (R439). -/
def State.protoViolation (s : State) (addr sid : Nat) : State := (s.cohEvent 1 4 addr sid).bump 0xF048 17 1

/-- Send an answer of the home: TAG of the message answered, SID and DID exchanged (R399). Error answers are counted. -/
def State.answer (s : State) (p : Nat) (m : LinkMsg) (vc opc : Nat) (poison : Bool) (data : Octets) : State :=
  let s := if vc = 2 ∧ 0x1C ≤ opc then s.bump 0xF048 10 1 else s
  sendMsg p (devMsg vc opc m.sid m.tag m.addr poison data) s

/-- Answer with the line's data: DATA_S (2), DATA_E (3) or DATA_I (4); poison is reported (R400, R401). -/
def State.answerLine (s : State) (p : Nat) (m : LinkMsg) (opc off : Nat) : State :=
  let (d, poison, s) := s.readLine (off / 64 * 64)
  let s := if poison then s.cohEvent 3 2 (m.addr / 64 * 64) m.sid else s
  s.answer p m 3 opc poison d

/-- Answer an uncached read of 4, 8 or 64 octets with DATA_UC (R398). -/
def State.answerUc (s : State) (p : Nat) (m : LinkMsg) (off : Nat) : State :=
  let (d, poison, s) := s.readLine (off / 64 * 64)
  let s := if poison then s.cohEvent 3 2 (m.addr / 64 * 64) m.sid else s
  match m.opc with
  | 1 => s.answer p m 3 1 poison (octAt (octAt d (off % 64) 4) 0 16)
  | 2 => s.answer p m 3 1 poison (octAt (octAt d (off % 64) 8) 0 16)
  | _ => s.answer p m 3 1 poison d

/-- The write of an uncached write request, then WR_ACK (Table 10.4). [DEDUCED, log entry 56] -/
def State.applyWrite (s : State) (p : Nat) (m : LinkMsg) (off : Nat) : State :=
  let n := if m.opc = 4 then 4 else if m.opc = 5 then 8 else 64
  (s.hostWrite (off / 64 * 64) (off % 64) (octAt m.data 0 n) m.poison).answer p m 2 1 false []

/-- A filter entry. -/
def State.entry (s : State) (line : Nat) : Option FilterEntry := mget s.coh.filter line

/-- Put a filter entry; the high-water mark follows (7803h:2). -/
def State.putEntry (s : State) (line : Nat) (e : FilterEntry) : State :=
  let f := mset s.coh.filter line e
  { s with coh := { s.coh with filter := f, highWater := max s.coh.highWater f.length } }

/-- A waiter whose victim's entry has been freed waits for it no longer (R415). -/
def Waiter.freed (line : Nat) (w : Waiter) : Waiter := if w.victim = some line then { w with victim := none } else w

/-- Free a filter entry; the line is settled (R420). [DESIGN CHOICE, log entry 57] -/
def State.freeEntry (s : State) (line : Nat) : State :=
  { s with coh := { s.coh with
    filter := mdel s.coh.filter line, unsettled := s.coh.unsettled.filter fun l => decide (l ≠ line)
    waiting := s.coh.waiting.map (Waiter.freed line) } }

/-- A transaction. -/
def State.txn (s : State) (line : Nat) : Option Txn := mget s.coh.txn line

/-- Open or change a transaction. -/
def State.putTxn (s : State) (line : Nat) (t : Txn) : State := { s with coh := { s.coh with txn := mset s.coh.txn line t } }

/-- End a transaction. -/
def State.endTxn (s : State) (line : Nat) : State := { s with coh := { s.coh with txn := mdel s.coh.txn line } }

/-- TAGs of the snoops that are outstanding to an agent. -/
def State.usedTags (s : State) (sid : Nat) : List Nat :=
  s.coh.txn.flatMap fun e => (e.2.snoops.filter fun x => decide (x.sid = sid) && decide (x.tag < 4096)).map fun x => x.tag

/-- The first TAG from `t` on that none of these uses; `fuel` bounds the search. -/
def freeTag (used : List Nat) (fuel t : Nat) : Nat :=
  match fuel with
  | 0 => t
  | f + 1 => if used.contains t then freeTag used f ((t + 1) % 4096) else t

/-- The message of a snoop leaves (R405). -/
def State.sendSnp (s : State) (line sid : Nat) (inv : Bool) (tag : Nat) : State :=
  let s := { s with coh := { s.coh with nextTag := (tag + 1) % 4096 } }
  sendMsg (portOfSid sid) (devMsg 1 (if inv then 1 else 2) sid tag line false []) (s.bumpW 0xF048 2 64 1)

/-- A transaction awaits one more snoop. -/
def State.awaitSnoop (s : State) (line : Nat) (x : Snoop) : State :=
  match s.txn line with
  | some t => s.putTxn line { t with snoops := t.snoops ++ [x] }
  | none => s

/-- Send one snoop and have it awaited, under a TAG that no outstanding snoop to the agent has; with every TAG in use it waits (R399,
R405). -/
def State.sendSnoop (s : State) (line sid : Nat) (inv : Bool) : State :=
  let used := s.usedTags sid
  if used.length < 4096 then
    let tag := freeTag used used.length (s.coh.nextTag % 4096)
    (s.sendSnp line sid inv tag).awaitSnoop line ⟨sid, inv, tag, s.now⟩
  else s.awaitSnoop line ⟨sid, inv, 4096, s.now⟩

/-- A TAG of the agent is free again: the first snoop that waits for one leaves (R399). -/
def State.nextSnoop (s : State) (sid tag : Nat) : State :=
  match s.coh.txn.find? fun e : Nat × Txn => e.2.snoops.any fun x => decide (x.sid = sid) && decide (x.tag = 4096) with
  | some e =>
    match e.2.snoops.find? fun x => decide (x.sid = sid) && decide (x.tag = 4096) with
    | some x =>
      let s := s.putTxn e.1 { e.2 with snoops := e.2.snoops.map fun y => if y = x then { x with tag := tag, since := s.now } else y }
      s.sendSnp e.1 sid x.inv tag
    | none => s
  | none => s

/-- Open a transaction and send its snoops. -/
def State.snoopAll (s : State) (line port : Nat) (req : Option LinkMsg) (recalling : Bool) (sids : List Nat) (inv : Bool) : State :=
  sids.foldl (fun s sid => s.sendSnoop line sid inv) (s.putTxn line ⟨port, req, [], [], recalling⟩)

/-- Set of a line: ADDR[15:6] (R414). -/
def lineSet (line : Nat) : Nat := line / 64 % 1024

/-- Entries of a set, with their lines. -/
def State.setEntries (s : State) (k : Nat) : List (Nat × FilterEntry) := s.coh.filter.filter fun e => decide (lineSet e.1 = k)

/-- The ways below 16 that no entry of the list uses. [DESIGN CHOICE, log entry 57] -/
def freeWays (es : List (Nat × FilterEntry)) : List Nat := (List.range 16).filter fun w => !(es.any fun e => e.2.way = w)

/-- The entry with the lowest way. -/
def lowestWay (es : List (Nat × FilterEntry)) : Option (Nat × FilterEntry) :=
  (List.range 16).findSome? fun w => es.find? fun e => decide (e.2.way = w)

/-- The victim of R415 among the entries of a set that are neither Transient nor recalling, and whether their use bits are
cleared first. -/
def State.victim (s : State) (es : List (Nat × FilterEntry)) : Option (Nat × Bool) :=
  let free := es.filter fun e => (s.txn e.1).isNone && !e.2.recalling
  match lowestWay (free.filter fun e => !e.2.used) with
  | some e => some (e.1, false)
  | none => (lowestWay free).map fun e => (e.1, true)

/-- An entry with its use bit clear, unless its line is Transient or recalling or outside the set (R415). -/
def State.unuse (s : State) (k : Nat) (e : Nat × FilterEntry) : Nat × FilterEntry :=
  if (lineSet (Prod.fst e) == k && Option.isNone (s.txn (Prod.fst e)) && !(Prod.snd e).recalling) then
    (Prod.fst e, { Prod.snd e with used := false })
  else e

/-- Clear the use bits of the entries of a set that are neither Transient nor recalling (R415). -/
def State.clearUse (s : State) (k : Nat) : State :=
  { s with coh := { s.coh with filter := s.coh.filter.map (s.unuse k) } }

/-- Wait at the home (R404). -/
def State.wait (s : State) (w : Waiter) : State := { s with coh := { s.coh with waiting := s.coh.waiting ++ [w] } }

/-- Wait at the home before every other request for the line: a request that was decided, and cannot be served yet (R404). -/
def State.waitOn (s : State) (w : Waiter) : State :=
  let other := fun x : Waiter => decide (x.line ≠ w.line)
  { s with coh := { s.coh with waiting := s.coh.waiting.takeWhile other ++ w :: s.coh.waiting.dropWhile other } }

/-- Grant a line: allocate an entry, or find a victim and wait for it (R415). Which of several free ways is taken is not stated: a
free value picks it. -/
def State.grantNew (s : State) (line p : Nat) (m : LinkMsg) (off : Nat) (excl : Bool) : State :=
  let es := s.setEntries (lineSet line)
  let ways := freeWays es
  match ways[s.freeVal % ways.length]? with
  | some w =>
    let s := s.drawn.putEntry line ⟨w, if excl then 2 else 1, if excl then m.sid else 0, [m.sid], true, false⟩
    s.answerLine p m (if excl then 3 else 2) off
  | none =>
    match s.victim es with
    | some (v, cl) =>
      let s := if cl then s.clearUse (lineSet line) else s
      let hs := match s.entry v with | some e => e.holders | none => []
      let s := (s.waitOn ⟨line, p, m, some v, false, false⟩).cohEvent 4 1 v 0
      (s.bump 0xF048 5 1).snoopAll v 0 none false hs true
    | none => (s.waitOn ⟨line, p, m, none, false, true⟩).bump 0xF048 14 1

/-- Use bit of an entry hit by a request (R415). -/
def State.hit (s : State) (line : Nat) : State :=
  match s.entry line with
  | some e => s.putEntry line { e with used := true }
  | none => s

/-- E is allowed for the capture region (R406). -/
def State.eAllowed (s : State) : Bool := s.b 0x7800 2

/-- Decide a request on a line that no agent holds (Table 10.4, Directory I). [DEDUCED, log entry 56] -/
def State.decideI (s : State) (line p : Nat) (m : LinkMsg) (off : Nat) : State :=
  match m.opc with
  | 8 => s.grantNew line p m off s.eAllowed
  | 9 => s.grantNew line p m off true
  | 10 => s.grantNew line p m off true
  | 4 => s.applyWrite p m off
  | 5 => s.applyWrite p m off
  | 6 => s.applyWrite p m off
  | _ => s.answerUc p m off

/-- Decide a request on a line in directory S (Table 10.4). -/
def State.decideS (s : State) (line p : Nat) (m : LinkMsg) (off : Nat) (e : FilterEntry) : State :=
  let others := e.holders.filter fun h => decide (h ≠ m.sid)
  match m.opc with
  | 8 => (s.putEntry line { e with holders := e.holders ++ [m.sid] }).answerLine p m 2 off
  | 9 => s.snoopAll line p (some m) false e.holders true
  | 10 =>
    if e.holders.contains m.sid then
      if others.isEmpty then (s.putEntry line { e with st := 2, owner := m.sid }).answer p m 2 2 false []
      else s.snoopAll line p (some m) false others true
    else s.snoopAll line p (some m) false e.holders true
  | 4 => s.snoopAll line p (some m) false e.holders true
  | 5 => s.snoopAll line p (some m) false e.holders true
  | 6 => s.snoopAll line p (some m) false e.holders true
  | _ => s.answerUc p m off

/-- Decide a request on a line in directory EM (Table 10.4). [DEDUCED, log entry 56] -/
def State.decideEM (s : State) (line p : Nat) (m : LinkMsg) (e : FilterEntry) : State :=
  match m.opc with
  | 9 => s.snoopAll line p (some m) false [e.owner] true
  | 10 => if e.owner = m.sid then s.answer p m 2 2 false [] else s.snoopAll line p (some m) false [e.owner] true
  | 4 => s.snoopAll line p (some m) false [e.owner] true
  | 5 => s.snoopAll line p (some m) false [e.owner] true
  | 6 => s.snoopAll line p (some m) false [e.owner] true
  | _ => s.snoopAll line p (some m) false [e.owner] false

/-- While 7800h:2 is false the capture region takes no request that would write or own a line (R408). -/
def State.typeRefused (s : State) (m : LinkMsg) : Bool :=
  !s.eAllowed && (m.opc = 9 || m.opc = 10 || m.opc = 4 || m.opc = 5 || m.opc = 6)

/-- The agent is behind a port that a commit is quiescing (R388). -/
def State.quiescing (s : State) (sid : Nat) : Bool := decide (16 ≤ sid) && decide ((s.port (portOfSid sid)).st = 7)

/-- A line held by agents behind a quiescing port is taken back from them with SNP_INV, once no transaction runs on it; the copies
of other ports' agents stay (R443). [DEDUCED, log entry 46] -/
def State.quiesceLine (s : State) (line : Nat) : State :=
  match s.entry line, s.txn line with
  | some e, none =>
    let hs := e.holders.filter s.quiescing
    if e.recalling || hs.isEmpty then s else s.snoopAll line 0 none false hs true
  | _, _ => s

/-- A window's state. -/
def State.win (s : State) (w : Nat) : WindowSt := mgetD s.sto.win w {}

/-- Change a window's state. -/
def State.setWin (s : State) (w : Nat) (x : WindowSt) : State := { s with sto := { s.sto with win := mset s.sto.win w x } }

/-- The line lies in the recall zone of a window that has wrapped (R422). -/
def State.inZone (s : State) (off : Nat) : Bool :=
  (List.range 16).any fun w =>
    let x := s.win w
    let base := 64 * s.n (0x5010 + w) 2
    let lines := 64 * s.n (0x5010 + w) 3
    x.wrapped && decide (base ≤ off / 64) && decide (off / 64 < base + lines) &&
      decide ((off / 64 - base + lines - x.wpos % lines) % lines < s.n 0x7802 1)

/-- The line's entry is recalling (R420). -/
def State.recalls (s : State) (line : Nat) : Bool :=
  match s.entry line with
  | some e => e.recalling
  | none => false

/-- A request for a line that is recalling or in a recall zone, which is answered without waiting: RD_S, RD_OWN and UPGRADE with DATA_I;
while it recalls, writes with WR_ACK, their data overwritten, and uncached reads as ever (R423). -/
def State.barred (s : State) (line off : Nat) (m : LinkMsg) : Bool :=
  s.recalls line || ((m.opc = 8 || m.opc = 9 || m.opc = 10) && s.inZone off)

/-- The answer to such a request (R423). -/
def State.answerBarred (s : State) (p : Nat) (m : LinkMsg) (off : Nat) : State :=
  if m.opc = 8 ∨ m.opc = 9 ∨ m.opc = 10 then s.answerLine p m 4 off
  else if m.opc = 4 ∨ m.opc = 5 ∨ m.opc = 6 then s.answer p m 2 1 false []
  else s.answerUc p m off

/-- Decide a request from the directory state of its line (R406, R408, R423). [DESIGN CHOICE, log entry 83] -/
def State.homeDecide (s : State) (line p : Nat) (m : LinkMsg) (off : Nat) : State :=
  if s.typeRefused m then s.answer p m 2 0x1D false []
  else if s.barred line off m then s.answerBarred p m off
  else
    let s := s.hit line
    State.quiesceLine (match s.entry line with
      | none => s.decideI line p m off
      | some e => if e.st = 2 then s.decideEM line p m e else s.decideS line p m off e) line

/-- Start the recall of a line whose entry is flagged, when no transaction runs on it (R420). -/
def State.startRecall (s : State) (line : Nat) : State :=
  match s.entry line, s.txn line with
  | some e, none =>
    if e.holders.isEmpty then s.freeEntry line else s.snoopAll line 0 none true e.holders true
  | _, _ => s

/-- Recall a line, counted at F048h sub `k` (R420, R422, R674). -/
def State.recallLine (s : State) (line k : Nat) : State :=
  match s.entry line with
  | some e =>
    if e.recalling then s
    else (s.putEntry line { e with recalling := true }).bump 0xF048 k 1 |>.startRecall line
  | none => s

/-- The directory records the agent as a holder of the line. -/
def State.holds (s : State) (line sid : Nat) : Bool :=
  match s.entry line with
  | some e => e.holders.contains sid
  | none => false

/-- The line is in a transaction that serves a request of the agent. -/
def State.serves (s : State) (line sid : Nat) : Bool :=
  match s.txn line with
  | some t => (match t.req with | some r => r.sid == sid | none => false)
  | none => false

/-- A snoop to the agent is outstanding on the line. -/
def State.snooping (s : State) (line sid : Nat) : Bool :=
  match s.txn line with
  | some t => t.snoops.any fun x => x.sid == sid
  | none => false

/-- A REQ message enters the home's tracker and is counted at F048h:1 (R433). [DEDUCED, log entry 84] -/
def State.tracked (s : State) : State := s.bumpW 0xF048 1 64 1

/-- A request that the home has accepted: its line recalls, is in conflict, is busy, or lets it be decided (R404, R417, R423). -/
def State.placeRequest (s : State) (p : Nat) (m : LinkMsg) (off : Nat) (more : Bool) : State :=
  let line := s.lineAddr off
  if s.barred line off m then s.answerBarred p m off
  else if more || (s.coh.waiting.any fun w => decide (w.line = line) && w.group) then s.wait ⟨line, p, m, none, true, false⟩
  else if (s.txn line).isSome ∨ (s.coh.waiting.any fun w => decide (w.line = line)) then s.wait ⟨line, p, m, none, false, false⟩
  else s.homeDecide line p m off

/-- Transactions in the home's tracker: requests that wait, and those that are being served (R433). -/
def State.trackerUse (s : State) : Nat := s.coh.waiting.length + (s.coh.txn.filter fun e : Nat × Txn => e.2.req.isSome).length

/-- The tracker of 512 transactions is full (R433). -/
def State.trackerFull (s : State) : Bool := decide (512 ≤ s.trackerUse) || !s.coh.inbox.isEmpty

/-- A request of a line opcode in the capture region, a write, or an uncached read, becomes visible (R406, R408, R423). -/
def State.request (s : State) (p : Nat) (m : LinkMsg) (off : Nat) (more : Bool) : State :=
  let line := s.lineAddr off
  let caches := m.opc = 8 ∨ m.opc = 9
  if s.typeRefused m then s.tracked.answer p m 2 0x1D false []
  else if (s.coh.waiting.any fun w => decide (w.line = line) && decide (w.msg.sid = m.sid)) || s.serves line m.sid then
    s.protoViolation line m.sid
  else if caches ∧ s.holds line m.sid then
    s.protoViolation line m.sid
  else s.tracked.placeRequest p m off more

/-- The conflicting requests of a line in the order the rotating priority gives (R417). -/
def conflictOrder (rot : Nat) (ws : List Waiter) : List Waiter :=
  (List.range 6).flatMap fun k => ws.filter fun w => decide (w.port = (rot + k) % 6)

/-- A way could be found for a line that needs one: a free one, or a victim (R415). -/
def State.wayOpen (s : State) (line : Nat) : Bool :=
  let es := s.setEntries (lineSet line)
  (s.entry line).isSome || !(freeWays es).isEmpty || (s.victim es).isSome

/-- The oldest waiting request of a line is decided, when the line, its victim and its set allow (R404, R406, R415). -/
def State.decideWaiting (s : State) (line : Nat) : State :=
  match s.coh.waiting.find? fun w => decide (w.line = line) && !w.group, s.region line with
  | some w, some off =>
    let busy := (s.txn line).isSome || (match w.victim with | some v => (s.entry v).isSome | none => false) || (w.noWay && !s.wayOpen line)
    if busy then s
    else State.homeDecide { s with coh := { s.coh with waiting := s.coh.waiting.filter fun x => decide (x ≠ w) } } line w.port w.msg
      (off + w.msg.addr % 64)
  | _, _ => s

/-- The requests for a line of one FAB cycle are complete: two or more are a line conflict, which is ordered and counted; the first is
decided when the line allows (R404, R417, R434). [DESIGN CHOICE, log entry 3] -/
def State.closeConflict (s : State) (line : Nat) : State :=
  let g := s.coh.waiting.filter fun w => decide (w.line = line) && w.group
  let rest := s.coh.waiting.filter fun w => !(decide (w.line = line) && w.group)
  let ord := (conflictOrder s.coh.rot g).map fun w => { w with group := false }
  let first := rest.all fun w => decide (w.line ≠ line)
  let s := { s with coh := { s.coh with waiting := rest ++ ord } }
  let s := if 2 ≤ g.length then State.bump { s with coh := { s.coh with rot := (s.coh.rot + 1) % 6 } } 0xF048 15 1 else s
  if first then s.decideWaiting line else s

/-- The last message of a FAB cycle is there: every line's requests of the cycle are complete (R416, R417). -/
def State.closeCycle (s : State) : State :=
  (((s.coh.waiting.filter fun w => w.group).map fun w => w.line).eraseDups).foldl State.closeConflict s

/-- The oldest REQ message that waits enters the tracker, and its credits become due (R433). -/
def State.drainOneReq (s : State) : State :=
  match s.coh.inbox with
  | [] => s
  | (p, m, charged) :: t =>
    if 512 ≤ s.trackerUse then s
    else
      let s := { s with coh := { s.coh with inbox := t } }
      let x := s.port p
      let s := if charged then s.setPort p { x with creditDue := mset x.creditDue 0 (mgetD x.creditDue 0 0 + 1 + msgLen m) } else s
      match s.region m.addr with
      | some off => s.request p m off false
      | none => s

/-- REQ messages that waited enter the tracker while it has room (R433). -/
def State.drainInbox (s : State) : State := s.coh.inbox.foldl (fun s _ => s.drainOneReq) s

/-- A REQ message for the capture region enters the tracker, or waits for room in it (R433). -/
def State.enter (s : State) (p : Nat) (m : LinkMsg) (off : Nat) (more : Bool) : State :=
  if s.trackerFull then { s with coh := { s.coh with inbox := s.coh.inbox ++ [(p, m, false)] } } else s.request p m off more

/-- Credits of a port's REQ messages that wait for the tracker (R433). -/
def State.heldCredits (s : State) (p : Nat) : Nat := ((s.coh.inbox.filter fun w => decide (w.1 = p) && w.2.2).map fun w => 1 + msgLen w.2.1).sum

/-- The message that a flit has just brought waits for the tracker: its credits are not due (R433). -/
def State.holdCredits (s : State) (p : Nat) (m : LinkMsg) : State :=
  let x := s.port p
  { s.setPort p { x with creditDue := mset x.creditDue 0 (mgetD x.creditDue 0 0 - (1 + msgLen m)) } with
    coh := { s.coh with inbox := s.coh.inbox.dropLast ++ [(p, m, true)] } }

/-- A transaction without a request ends: a recall or a back-invalidation frees the entry; SNP_SHR to an EM holder leaves the
line in S (R415, R420, Table 10.13). -/
def State.endSnoops (s : State) (line : Nat) (recalling : Bool) : State :=
  match s.entry line with
  | some e => if recalling || e.holders.isEmpty || (s.coh.waiting.any fun w => w.victim == some line) then s.freeEntry line else s
  | none => s.freeEntry line

/-- Host writes are no longer allowed: a line held in EM draws SNP_SHR to its holder (Table 10.13). -/
def State.demote (s : State) (line : Nat) : State :=
  match s.entry line with
  | some e =>
    if !s.eAllowed && decide (e.st = 2) && (s.txn line).isNone && !e.recalling then s.snoopAll line 0 none false [e.owner] false
    else s
  | none => s

/-- A transaction's request is answered from the directory as its snoops left it; a line that a capture write has made recalling meanwhile
keeps its flag, and its request is decided as R423 says (R406, R408, R420, R424). -/
def State.serveTxn (s : State) (line p : Nat) (m : LinkMsg) (off : Nat) : State :=
  match s.entry line with
  | none => s.homeDecide line p m off
  | some e =>
    if e.holders.isEmpty then (if e.recalling then s else s.freeEntry line).homeDecide line p m off
    else if s.typeRefused m then s.answer p m 2 0x1D false []
    else if m.opc = 8 then
      (s.putEntry line { e with st := 1, owner := 0, holders := e.holders ++ [m.sid] }).answerLine p m 2 off
    else if m.opc = 10 ∧ e.holders = [m.sid] then
      (s.putEntry line { e with st := 2, owner := m.sid }).answer p m 2 2 false []
    else if e.recalling then s.answerBarred p m off
    else if m.opc = 4 ∨ m.opc = 5 ∨ m.opc = 6 then s.applyWrite p m off
    else s.answerUc p m off

/-- Every answer of a transaction is there: the request is answered, or the recall ends; a recall or a quiesce that waited for the
line begins (R406, R408, R420, R443). -/
def State.finishTxn (s : State) (line : Nat) : State :=
  match s.txn line with
  | none => s
  | some t =>
    if t.snoops.isEmpty ∧ t.wbHold.isEmpty then
      let s := s.endTxn line
      let s := match t.req with
        | none => s.endSnoops line t.recalling
        | some m => s.serveTxn line t.port m ((s.region line).getD 0 + m.addr % 64)
      if s.recalls line then s.startRecall line else s.quiesceLine line
    else s

/-- An agent no longer holds a line. -/
def State.dropHolder (s : State) (line sid : Nat) : State :=
  match s.entry line with
  | some e =>
    let hs := e.holders.filter fun h => decide (h ≠ sid)
    if hs.isEmpty ∧ (s.txn line).isNone then s.freeEntry line
    else s.putEntry line { e with holders := hs, owner := if e.owner = sid then 0 else e.owner, st := if e.owner = sid then 1 else e.st }
  | none => s

/-- Dirty data that an agent returned goes to memory, or is discarded in a recall (R401, R420). -/
def State.takeDirty (s : State) (line : Nat) (data : Octets) (poison : Bool) : State :=
  if s.recalls line then s.bump 0xF048 7 1
  else match s.region line with
    | some off => s.hostWrite off 0 (octAt data 0 64) poison
    | none => s

/-- The awaited snoop that an answer's TAG and SID match. -/
def State.findSnoop (s : State) (line : Nat) (m : LinkMsg) : Option Snoop :=
  match s.txn line with
  | some t => t.snoops.find? fun x => decide (x.sid = m.sid) && decide (x.tag = m.tag)
  | none => none

/-- A snoop is answered. -/
def State.dropSnoop (s : State) (line : Nat) (x : Snoop) : State :=
  match s.txn line with
  | some t => s.putTxn line { t with snoops := t.snoops.filter fun y => decide (y ≠ x) }
  | none => s

/-- A snoop answer becomes visible (R409–R413): `gone` is 0 RSP_I or SDATA_I, 1 RSP_S or SDATA_S, 2 RSP_GONE_C,
3 RSP_GONE_D. -/
def State.snoopAnswer (s : State) (m : LinkMsg) (gone : Nat) (dirty : Bool) : State :=
  let line := m.addr
  match s.findSnoop line m with
  | none => s.protoViolation line m.sid
  | some x =>
    let s := (s.dropSnoop line x).nextSnoop x.sid x.tag
    let s := if dirty then s.takeDirty line m.data m.poison else s
    let s := if 2 ≤ gone then s.bump 0xF048 6 1 else s
    let seen := s.coh.crossed.contains (line, m.sid)
    let s := { s with coh := { s.coh with crossed := s.coh.crossed.filter fun c => decide (c ≠ (line, m.sid)) } }
    let s := if gone = 1 then
        (match s.entry line with
        | some e => s.putEntry line { e with st := 1, owner := 0 }
        | none => s)
      else s.dropHolder line m.sid
    let s := if gone = 3 ∧ ¬ seen then
        (match s.txn line with
        | some t => s.putTxn line { t with wbHold := t.wbHold ++ [(m.sid, s.now)] }
        | none => s)
      else s
    s.finishTxn line

/-- An EVICT_C or WB_D becomes visible (R410–R413). -/
def State.evict (s : State) (p : Nat) (m : LinkMsg) (dirty : Bool) : State :=
  let line := m.addr
  let s := if dirty then s.takeDirty line m.data m.poison else s
  let s := if s.snooping line m.sid then { s with coh := { s.coh with crossed := (line, m.sid) :: s.coh.crossed } } else s
  let s := s.dropHolder line m.sid
  let s := match s.txn line with
    | some t => s.putTxn line { t with wbHold := t.wbHold.filter fun h => decide (h.1 ≠ m.sid) }
    | none => s
  (s.answer p m 2 3 false []).finishTxn line

/-- A capture write of one line: memory first, then the filter (R419, R420, R424, R676). The answer says whether the bank
took it. [DEDUCED, log entry 59] -/
def State.captureWrite (s : State) (off : Nat) (data : Octets) : State :=
  let line := s.lineAddr off
  let s := s.writeLine off data false
  match s.entry line with
  | some e =>
    let s := { s with coh := { s.coh with unsettled := (s.coh.unsettled.filter fun l => decide (l ≠ line)) ++ [line] } }
    if e.recalling then s else s.recallLine line 3
  | none => s

/-- The line is not settled (R425). -/
def State.isUnsettled (s : State) (line : Nat) : Bool := s.coh.unsettled.contains line

/-- One line of a removed owner is poisoned (R444). -/
def State.poisonLine (s : State) (line : Nat) : State :=
  match s.region line with
  | some off => State.bump { s with mem := { s.mem with poison := poisonSet s.mem.poison off true } } 0xF048 9 1
  | none => s

/-- Remove the agents of a port from one line's entry and transaction (R444). -/
def State.removeFromLine (port : Nat) (s : State) (line : Nat) : State :=
  let mine : Nat → Bool := fun sid => portOfSid sid == port && decide (16 ≤ sid)
  let s := match s.entry line with
    | some e =>
      let s := if e.st = 2 ∧ mine e.owner then s.poisonLine line else s
      let hs := e.holders.filter fun h => !mine h
      if hs.isEmpty ∧ (s.txn line).isNone then s.freeEntry line
      else s.putEntry line { e with holders := hs, owner := if mine e.owner then 0 else e.owner, st := if mine e.owner then 1 else e.st }
    | none => s
  match s.txn line with
  | some t =>
    let held := t.wbHold.any fun h => mine h.1
    let s := if held then s.poisonLine line else s
    let drop : Bool := match t.req with | some r => mine r.sid | none => false
    (s.putTxn line { t with
      snoops := t.snoops.filter fun x => !mine x.sid
      wbHold := t.wbHold.filter fun h => !mine h.1
      req := if drop then none else t.req }).finishTxn line
  | none => s

/-- Remove every agent behind a port (R444). -/
def State.removeAgents (s : State) (port : Nat) : State :=
  let s := { s with coh := { s.coh with
    waiting := s.coh.waiting.filter fun w => decide (w.port ≠ port)
    inbox := s.coh.inbox.filter fun w => decide (w.1 ≠ port)
    crossed := s.coh.crossed.filter fun c => decide (portOfSid c.2 ≠ port) } }
  let lines := (s.coh.filter.map Prod.fst) ++ (s.coh.txn.map Prod.fst).filter fun l => (mget s.coh.filter l).isNone
  let s := lines.foldl (State.removeFromLine port) s
  -- the device caching agent: its requests to a home behind the port end, its lines there are dropped (R444)
  let gone := s.coh.reqs.filter fun r => decide (r.2.port = port)
  { s with coh := { s.coh with
    reqs := s.coh.reqs.filter fun r => decide (r.2.port ≠ port)
    wbs := s.coh.wbs.filter fun r => decide (r.2.port ≠ port)
    wbWait := s.coh.wbWait.filter fun r => decide (r.port ≠ port)
    desc := s.coh.desc.filter fun d => decide (d.2.port ≠ port)
    deferred := s.coh.deferred.filter fun d => decide (d.1 ≠ port)
    done := s.coh.done ++ gone.map fun r => (r.2, 2, []) } }

end Sys2Proof.Machine
end

