-- ==== Sys2Proof/Machine/DevCache.lean ====
section
/-! DEFINITION. Sys2Proof/Machine/DevCache.lean: the device caching agent: outbound windows, its requests and their answers,
its descriptor cache, and its answers to the snoops of foreign homes (Chapter 10, R379). -/
namespace Sys2Proof.Machine

/-- The enabled outbound window that contains an address, as port and DID (R379). -/
def State.route (s : State) (a : Nat) : Option (Nat × Nat) :=
  (List.range 16).findSome? fun w =>
    if s.n 0x7032 (w + 1) < 6 ∧ s.z 0x7030 (w + 1) ≤ a ∧ a ≤ s.z 0x7031 (w + 1) then
      some (s.n 0x7032 (w + 1), s.z 0x7033 (w + 1))
    else none

/-- A request of a unit completes: 0 with data, 1 ERR_ADDR, 2 ERR_GONE, 3 poisoned data. -/
def State.devDone (s : State) (r : DevReq) (result : Nat) (data : Octets) : State :=
  { s with coh := { s.coh with done := s.coh.done ++ [(r, result, data)] } }

/-- A port can carry a request of the device: ACTIVE and admitted. -/
def State.portActive (s : State) (p : Nat) : Bool := (s.port p).st = 6 && (s.port p).admitted

/-- The next TAG that no outstanding REQ or WB message of the device carries (R399). [DEDUCED, log entry 55] -/
def State.freshTag (s : State) : Nat :=
  (((List.range 96).map fun k => (s.coh.nextTag + k) % 4096).find? fun t =>
    (mget s.coh.reqs t).isNone && (mget s.coh.wbs t).isNone).getD (s.coh.nextTag % 4096)

/-- Send a request on its channel and await its answer under the limit of 7801h:2 (R429). -/
def State.devSend (s : State) (r : DevReq) (did : Nat) : State :=
  let tag := s.freshTag
  let s := { s with coh := { s.coh with
    nextTag := (tag + 1) % 4096, reqs := mset s.coh.reqs tag { r with since := s.now } } }
  sendMsg r.port (devMsg 0 r.opc did tag r.line false (if r.opc = 6 then octAt r.data 0 64 else [])) s

/-- A line of the descriptor cache. -/
def State.desc (s : State) (line : Nat) : Option DescLine := mget s.coh.desc line

/-- Put a line into the descriptor cache. -/
def State.putDesc (s : State) (line : Nat) (d : DescLine) : State :=
  { s with coh := { s.coh with desc := mset s.coh.desc line d } }

/-- Drop a line of the descriptor cache. -/
def State.dropDesc (s : State) (line : Nat) : State := { s with coh := { s.coh with desc := mdel s.coh.desc line } }

/-- Send a WB message and await its WB_ACK. -/
def State.sendWb (s : State) (w : DevReq) : State :=
  let tag := s.freshTag
  let did := match s.route w.line with | some r => r.2 | none => 0
  let s := { s with coh := { s.coh with
    nextTag := (tag + 1) % 4096, wbs := mset s.coh.wbs tag { w with since := s.now } } }
  sendMsg w.port (devMsg 4 w.opc did tag w.line false (if w.opc = 2 then w.data else [])) s

/-- A WB message is sent, or waits: at most 16 are outstanding (R429). -/
def State.queueWb (s : State) (w : DevReq) : State :=
  if s.coh.wbs.length < 16 then s.sendWb w else { s with coh := { s.coh with wbWait := s.coh.wbWait ++ [w] } }

/-- Evict a line: WB_D from M, EVICT_C otherwise (R410). -/
def State.evictDesc (s : State) (line : Nat) : State :=
  match s.desc line with
  | none => s
  | some d => (s.dropDesc line).queueWb ⟨line, d.port, if d.st = 3 then 2 else 1, 0, 0, d.data, s.now⟩

/-- An eviction that waited is sent. -/
def State.drainWb (s : State) : State :=
  match s.coh.wbWait with
  | [] => s
  | w :: t => if s.coh.wbs.length < 16 then State.sendWb { s with coh := { s.coh with wbWait := t } } w else s

/-- Set of a line in the descriptor cache: ADDR[12:6] (R427). -/
def descSet (line : Nat) : Nat := line / 64 % 128

/-- Make room in a line's set of 8 ways. Which line leaves is not stated: a free value picks it. [DESIGN CHOICE, log entry 57] -/
def State.makeRoom (s : State) (line : Nat) : State :=
  let es := s.coh.desc.filter fun e => descSet e.1 == descSet line
  if es.length < 8 then s
  else
    match es[s.freeVal % es.length]? with
    | some v => s.drawn.evictDesc v.1
    | none => s

/-- No request for the line may be sent yet: one is outstanding, or a WB message for it awaits its WB_ACK (R403). [DEDUCED, log entry 55] -/
def State.lineBusy (s : State) (line : Nat) : Bool :=
  (s.coh.reqs.any fun r => r.2.line == line) || (s.coh.wbs.any fun w => w.2.line == line) ||
    s.coh.wbWait.any fun w => w.line == line

/-- A unit's request enters the agent: opcodes 3 and 6 read and write a line without caching
it, 8 reads it, 9 writes it through the
cache; toward an O1 home, and with the cache disabled, lines are not cached (R403, R427–R429, 7804h:1). [DEDUCED, log entry 55] -/
def State.devRequest (s : State) (unit arg opc line : Nat) (data : Octets) : State :=
  match s.route line with
  | none => s.devDone ⟨line, 0, opc, unit, arg, data, s.now⟩ 1 []
  | some (p, did) =>
    let r : DevReq := ⟨line, p, opc, unit, arg, data, s.now⟩
    if !s.portActive p then s.devDone r 2 []
    else if 64 ≤ s.coh.reqs.length ∨ s.lineBusy line then { s with coh := { s.coh with devWait := s.coh.devWait ++ [r] } }
    else
      let caches := decide (2 ≤ (s.port p).gen) && s.b 0x7804 1
      match opc with
      | 3 => s.devSend r did
      | 6 => s.devSend r did
      | 8 =>
        if caches then
          match s.desc line with
          | some d => ((s.bumpW 0xF048 11 64 1).putDesc line d).devDone r 0 d.data
          | none => (s.bump 0xF048 12 1).devSend r did
        else s.devSend { r with opc := 3 } did
      | _ =>
        if caches then
          match s.desc line with
          | some d =>
            if 2 ≤ d.st then
              ((s.bumpW 0xF048 11 64 1).putDesc line { d with st := 3, data := octAt data 0 64 }).devDone r 0 []
            else (s.bump 0xF048 12 1).devSend { r with opc := 10 } did
          | none => (s.bump 0xF048 12 1).devSend r did
        else s.devSend { r with opc := 6 } did

/-- A request that waited enters the agent; the ones behind it keep their order. [DEDUCED, log entry 55] -/
def State.drainOne (s : State) : State :=
  match s.coh.devWait with
  | [] => s
  | r :: t =>
    if s.coh.reqs.length < 64 ∧ ¬ s.lineBusy r.line then
      State.devRequest { s with coh := { s.coh with devWait := t } } r.unit r.arg r.opc r.line r.data
    else s

/-- Requests that waited enter the agent while places last. -/
def State.drainDev (s : State) : State := (List.range s.coh.devWait.length).foldl (fun s _ => s.drainOne) s

/-- Answer a snoop from a line's state (Table 10.5). -/
def State.answerSnoop (s : State) (p : Nat) (m : LinkMsg) : State :=
  let send := fun (s : State) vc opc data => sendMsg p (devMsg vc opc m.sid m.tag m.addr false data) s
  let wb := ((s.coh.wbs.map Prod.snd) ++ s.coh.wbWait).find? fun w => w.line == m.addr
  match s.desc m.addr with
  | some d =>
    if m.opc = 2 then
      if d.st = 3 then send (s.putDesc m.addr { d with st := 1 }) 3 6 d.data
      else send (s.putDesc m.addr { d with st := 1 }) 2 5 []
    else
      if d.st = 3 then send (s.dropDesc m.addr) 3 5 d.data
      else send (s.dropDesc m.addr) 2 4 []
  | none =>
    match wb with
    | some w => send s 2 (if w.opc = 2 then 7 else 6) []
    | none => send s 2 4 []

/-- The agent gives up a line whose home's port is quiescing: WB_D if dirty, EVICT_C if clean (R410, R443). -/
def State.giveUp (s : State) (line : Nat) : State := s.evictDesc line

/-- A snoop of a foreign home becomes visible; while RD_S or RD_OWN is outstanding from I, it is deferred (Table 10.5). -/
def State.foreignSnoop (s : State) (p : Nat) (m : LinkMsg) : State :=
  let waits := s.coh.reqs.any fun r => r.2.line == m.addr && (r.2.opc == 8 || r.2.opc == 9)
  if waits && (s.desc m.addr).isNone then { s with coh := { s.coh with deferred := s.coh.deferred ++ [(p, m)] } }
  else s.answerSnoop p m

/-- Snoops deferred for a line are answered. -/
def State.runDeferred (s : State) (line : Nat) : State :=
  let mine := s.coh.deferred.filter fun d => d.2.addr == line
  let s := { s with coh := { s.coh with deferred := s.coh.deferred.filter fun d => d.2.addr != line } }
  mine.foldl (fun s d => s.answerSnoop d.1 d.2) s

/-- The outstanding request that an answer's TAG and port match. -/
def State.devReq (s : State) (p tag : Nat) : Option DevReq :=
  match mget s.coh.reqs tag with
  | some r => if r.port = p then some r else none
  | none => none

/-- An answer to a request of the device becomes visible: `grant` is 0 for no grant, 1 S, 2 E (R400, R401, R407). A line read with poisoned
data is given back with EVICT_C at once; a grant for a whole line that the unit writes serves, whatever data came with it (R401, R410).
[DEDUCED, log entry 55] -/
def State.devAnswer (s : State) (p : Nat) (m : LinkMsg) (result grant : Nat) : State :=
  match s.devReq p m.tag with
  | none => s.protoViolation m.addr m.sid
  | some r =>
    let s := { s with coh := { s.coh with reqs := mdel s.coh.reqs m.tag } }
    let s := if m.poison then s.cohEvent 3 2 r.line m.sid else s
    let data := octAt m.data 0 64
    let s := if grant = 0 then s
      else if r.opc = 8 ∧ m.poison then (s.dropDesc r.line).queueWb ⟨r.line, p, 1, 0, 0, [], s.now⟩
      else if r.opc = 8 then (s.makeRoom r.line).putDesc r.line ⟨grant, data, p⟩
      else (s.makeRoom r.line).putDesc r.line ⟨3, octAt r.data 0 64, p⟩
    let s := s.devDone r (if m.poison && !(grant ≠ 0 && r.opc ≠ 8) then 3 else result) data
    let s := s.runDeferred r.line
    (if (s.port p).st = 7 then s.giveUp r.line else s).drainDev

/-- A WB_ACK for the device becomes visible. -/
def State.devWbAck (s : State) (p : Nat) (m : LinkMsg) : State :=
  match mget s.coh.wbs m.tag with
  | some w =>
    if w.port = p then State.drainDev (State.drainWb { s with coh := { s.coh with wbs := mdel s.coh.wbs m.tag } }) else s.protoViolation m.addr m.sid
  | none => s.protoViolation m.addr m.sid

/-- A request or a WB message of the device expires (R429): ERR_GONE to its unit, the line invalidated without writeback. -/
def State.devExpire (s : State) (tag : Nat) : State :=
  match mget s.coh.reqs tag, mget s.coh.wbs tag with
  | some r, _ =>
    let s := s.elapseTo (r.since + s.n 0x7801 2 * 1000)
    let s := { s with coh := { s.coh with reqs := mdel s.coh.reqs tag } }
    let s := ((s.dropDesc r.line).cohEvent 0 5 r.line 0).bump 0xF048 16 1
    ((s.devDone r 2 []).runDeferred r.line).drainDev
  | none, some w =>
    let s := s.elapseTo (w.since + s.n 0x7801 2 * 1000)
    let s := { s with coh := { s.coh with wbs := mdel s.coh.wbs tag } }
    (((s.cohEvent 0 5 w.line 0).bump 0xF048 16 1).drainWb).drainDev
  | none, none => s

end Sys2Proof.Machine
end

