-- ==== Sys2Proof/Machine/Storage.lean ====
section
/-! DEFINITION. Sys2Proof/Machine/Storage.lean: the storage writer: which ticks a window stores, its records and blocks, the
write buffer and its drain, freezes, and what a window's status reads (Chapter 16, R623–R643). -/
namespace Sys2Proof.Machine

/-! ### Configuration of a window -/

/-- Control word of a window (Table 16.8). -/
def State.winCtl (s : State) (w : Nat) : Nat := s.z (0x5010 + w) 1

/-- Fields of a window's control word. -/
def winEn (c : Nat) : Bool := bit c 31
def winMode (c : Nat) : Nat := bits c 29 2
def winGate (c : Nat) : Nat := bits c 27 2
def winStream (c : Nat) : Bool := bit c 26
def winDrop (c : Nat) : Bool := bit c 25
def winQpol (c : Nat) : Bool := bit c 24
def winQhold (c : Nat) : Nat := bits c 19 5

/-- BASE and SIZE of a window, in blocks (R623). -/
def State.winBase (s : State) (w : Nat) : Nat := s.n (0x5010 + w) 2
def State.winSize (s : State) (w : Nat) : Nat := max 1 (s.n (0x5010 + w) 3)

/-- Region offset of a line position (R624). -/
def State.posOff (s : State) (w p : Nat) : Nat := 4096 * (s.winBase w + p / 64 % s.winSize w) + 64 * (p % 64)

/-- The window stores or may store again without a start: enabled, neither FROZEN nor in FAULT (R627). -/
def State.winLive (s : State) (w : Nat) : Bool := winEn (s.winCtl w) && decide ((s.win w).st ≠ 5) && decide ((s.win w).st ≠ 6)

/-- A block of the region lies in the bank's quad, so the window places a block in the bank (R665). -/
def State.winUses (s : State) (w bank : Nat) : Bool :=
  decide (s.winBase w / 2048 ≤ bank / 4) && decide (bank / 4 ≤ (s.winBase w + s.winSize w - 1) / 2048)

/-! ### Records (R630–R633) -/

/-- A record header word (Table 16.4). -/
def recHeader (kind len grp : Nat) (pzv : Bool) (src code dt : Nat) : Nat :=
  kind * 2 ^ 60 + len * 2 ^ 56 + grp * 2 ^ 51 + b2n pzv * 2 ^ 50 + src * 2 ^ 40 + code * 2 ^ 32 + dt

/-- DT: sample tick less K, in 32 bits. [DEDUCED, log entry 68] -/
def deltaTick (k curK : Nat) : Nat := ofInt 32 ((k : Int) - curK)

/-- A record of a tick before it is placed. -/
structure Rec where
  /-- 1 SAMPLE, 2 TRANS, 3 MARK, 4 GAP, 5 TIME -/
  kind : Nat
  grp : Nat
  src : Nat
  code : Nat
  /-- sample tick that DT counts to -/
  tick : Nat
  /-- PZ of a SAMPLE or TRANS record -/
  pz : Nat
  /-- payload, the mask word of a SAMPLE or TRANS left out -/
  body : Octets
  /-- CHG of a TRANS record -/
  chg : Nat
deriving DecidableEq, Repr

/-- The mask word stands in the record. -/
def Rec.masked (r : Rec) : Bool := r.kind = 2 || (r.kind = 1 && decide (r.pz ≠ 0))

/-- Octets a record takes. -/
def Rec.size (r : Rec) : Nat := 8 + (if r.masked then 8 else 0) + r.body.length

/-- A record's octets under a TIME record of tick K. -/
def Rec.octets (r : Rec) (curK : Nat) : Octets :=
  let dt := if r.kind = 5 then 0 else deltaTick r.tick curK
  leBytes 8 (recHeader r.kind (r.size / 8 - 1) r.grp r.masked r.src r.code dt) ++
    (if r.masked then leBytes 8 (r.pz * 2 ^ 32 + r.chg) else []) ++ r.body

/-- A SAMPLE or TRANS record, which a lack of room discards. -/
def Rec.data (r : Rec) : Bool := r.kind = 1 || r.kind = 2

/-- Sum of the sizes of records. -/
def recsSize (l : List Rec) : Nat := (l.map Rec.size).sum

/-- Data octets of a group in a slice (Table 16.2). -/
def groupData (x : Slice) (g : Nat) : Octets :=
  if g < 16 then leBytes 32 (x.group g)
  else if g = 16 then leBytes 8 (x.group 16)
  else if g = 17 then leBytes 64 x.sub
  else leBytes 8 (x.clkpos % 8 * 2 ^ 37 + b2n x.clkv * 2 ^ 36 + x.mpz % 16 * 2 ^ 32 + x.mev % 2 ^ 32) ++
    ((List.range 4).map fun j => leBytes 4 (ofInt 32 ((x.mpos[j]?).getD 0))).flatten ++
    ((List.range 4).map fun j => leBytes 4 (ofInt 32 ((x.mspd[j]?).getD 0))).flatten

/-- PZ of a group (R632). -/
def groupPoison (x : Slice) (g : Nat) : Nat := if g < 16 then x.groupPz g else if g = 18 then x.mpz % 16 else x.groupPz 16

/-- The SAMPLE record of a group. -/
def sampleRec (x : Slice) (g : Nat) : Rec := ⟨1, g, 0, 0, x.k, groupPoison x g, groupData x g, 0⟩

/-- Granules of a group 0–16 that changed (R637). -/
def changedGranules (now old : Slice) (g : Nat) : Nat :=
  ((List.range (if g = 16 then 8 else 32)).map fun i =>
    if bits (now.group g) (8 * i) 8 ≠ bits (old.group g) (8 * i) 8 ∨ bit (now.groupPz g) i ≠ bit (old.groupPz g) i then 2 ^ i else 0).sum

/-- Group 17 changed: some channel's sub-samples are not all equal to its sub-sample 7 of the tick before (R637). -/
def subChanged (now old : Slice) : Bool :=
  (List.range 64).any fun p => bits now.sub (8 * p) 8 ≠ (if bit old.sub (8 * p + 7) then 255 else 0)

/-- The data record of a group in mode TRANSITION outside a keyframe, where the group changed (R637, Table 16.5). -/
def transRec (now old : Slice) (g : Nat) : Option Rec :=
  if g = 17 then (if subChanged now old then some (sampleRec now g) else none)
  else if g = 18 then (if now.mev ≠ 0 ∨ now.mpz ≠ old.mpz then some (sampleRec now g) else none)
  else
    let c := changedGranules now old g
    if c = 0 then none
    else
      let o : Octets := (bitList 32 c).map fun i => BitVec.ofNat 8 (bits (now.group g) (8 * i) 8)
      some ⟨2, g, 0, 0, now.k, groupPoison now g, octAt o 0 (roundUp o.length 8), c⟩

/-- Selected groups of a window, ascending. -/
def State.winGroups (s : State) (w : Nat) : List Nat := bitList 19 (s.z (0x5010 + w) 4)

/-- A marker (Table 16.4, Table 16.5). -/
def markRec (src code k : Nat) (body : Octets) : Rec := ⟨3, 0, src, code, k, 0, body, 0⟩

/-- The TIME record of sample tick k in block q (Table 16.5). -/
def State.timeRec (s : State) (k q : Nat) : Rec :=
  let t := timeParts (s.timeOf k)
  ⟨5, 0, 0, 0, k, 0, leBytes 8 k ++ leBytes 8 t.1 ++ leBytes 8 (t.2.1 * 2 ^ 32 + t.2.2) ++ leBytes 8 q, 0⟩

/-! ### The write buffer, lines and blocks -/

/-- Lines free in the write buffer. [DEDUCED, log entry 59] -/
def State.freeLines (s : State) : Nat := 1024 - s.sto.buf.length

/-- Lines enter the write buffer. -/
def State.bufPush (s : State) (l : List BufLine) : State :=
  let b := s.sto.buf ++ l
  { s with sto := { s.sto with buf := b, peak := max s.sto.peak b.length } }

/-- The lines of a block's octets from line i to line j − 1, each whole. -/
def State.blockLines (s : State) (w q i j : Nat) (o : Octets) : List BufLine :=
  (List.range (j - i)).map fun n => ⟨w, 64 * q + i + n, s.posOff w (64 * q + i + n), octAt o (64 * (i + n)) 64⟩

/-- Ring-wrap recall: lines with an entry that have come into a recall zone (R422). -/
def State.ringRecall (s : State) : State :=
  s.coh.filter.foldl (fun s e => match s.region e.1 with
    | some off => if !e.2.recalling && s.inZone off then s.recallLine e.1 4 else s
    | none => s) s

/-- The write position moves on; a window that reaches its size has wrapped (R626, R422). -/
def State.setWpos (s : State) (w p : Nat) : State :=
  let x := s.win w
  let s := s.setWin w { x with wpos := p, wrapped := x.wrapped || decide (64 * s.winSize w ≤ p) }
  if (s.win w).wrapped ∧ s.n 0x7802 1 ≠ 0 ∧ p ≠ x.wpos then s.ringRecall else s

/-- Sequence number of the block that is open, or that would open next. -/
def WindowSt.block (x : WindowSt) : Nat := (if x.open_ then x.wpos - x.cur.length / 64 else x.wpos) / 64

/-- Octets of the END record and the zeros behind it, which close a block at an octet offset (R636). -/
def endOctets (n : Nat) : Octets := if n = 4096 then [] else leBytes 8 (6 * 2 ^ 60) ++ zeros (63 - (n + 7) % 64)

/-- Lines that closing a block of n octets brings into the buffer. -/
def closeLines (n : Nat) : Nat := (n + (endOctets n).length) / 64 - n / 64

/-- The current block of a window is closed (R636). Its last line enters the buffer if a line is free (R640). -/
def State.closeBlock (s : State) (w : Nat) : State :=
  let x := s.win w
  if !x.open_ then s
  else
    let q := x.block
    let n := x.cur.length
    let o := x.cur ++ endOctets n
    let ls := s.blockLines w q (n / 64) (o.length / 64) o
    let s := if ls.length ≤ s.freeLines then s.bufPush ls else s
    let used := if n = 4096 then 4096 else n + 8
    let keep := x.closed.filter fun c => decide (q + 1 ≤ c.1 + s.winSize w)
    let s := s.setWin w { x with open_ := false, cur := [], closed := (q, used) :: keep }
    let s := if n = 4096 then s else s.bumpW 0xF078 1 64 1
    (s.setWpos w (64 * (q + 1))).bump 0xF078 6 1

/-! ### Spill streams as the writer sees them (R649, R650) -/

/-- A stream. -/
def State.stream (s : State) (t : Nat) : StreamSt := mgetD s.sto.stream t {}

/-- Change a stream. -/
def State.setStream (s : State) (t : Nat) (x : StreamSt) : State :=
  { s with sto := { s.sto with stream := mset s.sto.stream t x } }

/-- EN, COMP and WINDOW of a stream's control word (Table 16.7). -/
def State.streamEn (s : State) (t : Nat) : Bool := bit (s.z (0x5100 + t) 1) 15
def State.streamDeflate (s : State) (t : Nat) : Bool := bit (s.z (0x5100 + t) 1) 14
def State.streamWin (s : State) (t : Nat) : Nat := bits (s.z (0x5100 + t) 1) 0 4

/-- The enabled stream that a window has. -/
def State.winStreamOf (s : State) (w : Nat) : Option Nat := (List.range 4).find? fun t => s.streamEn t && s.streamWin t == w

/-- First block of the stream that is not checkpointed. -/
def StreamSt.first (x : StreamSt) : Nat := match x.flight with | f :: _ => f.block | [] => x.next

/-- Lanes run nothing for a stream any more. -/
def State.freeStreamLanes (s : State) (t : Nat) : State :=
  { s with comp := { s.comp with lane := s.comp.lane.filter fun l => decide (l.2 ≠ (1, t)) } }

/-- A stream loses `n` blocks and goes on from block `next` (R649, R650). [DEDUCED, log entry 70] -/
def State.skipBlocks (s : State) (t next n : Nat) : State :=
  let x := s.stream t
  let s := (s.setStream t { x with next := next, flight := [], lost := x.lost + n, lostNew := x.lostNew || decide (0 < n) }).freeStreamLanes t
  if n = 0 then s else (s.setWinCause (s.streamWin t) 1).bump 0xF078 12 n

/-- Block q of a window may be opened; under OVERWRITE a stream that is behind skips to the oldest intact block, under DROP it
may not (R649). -/
def State.mayOpen (s : State) (w q : Nat) : Bool × State :=
  match s.winStreamOf w with
  | none => (true, s)
  | some t =>
    let f := (s.stream t).first
    if q < f + s.winSize w then (true, s)
    else if winDrop (s.winCtl w) then (false, s)
    else (true, s.skipBlocks t (q + 1 - s.winSize w) (q + 1 - s.winSize w - f))

/-! ### Starting and freezing (R625, R628) -/

/-- A window starts (R625, R650). [DEDUCED, log entry 69; DEDUCED, log entry 70] -/
def State.startWindow (s : State) (w : Nat) : State :=
  let s := match s.winStreamOf w with
    | some t => s.skipBlocks t 0 (((s.win w).closed.filter fun c : Nat × Nat => decide ((s.stream t).first ≤ c.1)).length)
    | none => s
  let s := { s with sto := { s.sto with buf := s.sto.buf.map fun l : BufLine => if l.win = w then { l with win := 16 } else l } }
  s.setWin w {}

/-- A window freezes: its block is closed, and it stores nothing until it starts again (R628). [DEDUCED, log entry 67] -/
def State.freeze (s : State) (w : Nat) : State :=
  let s := s.closeBlock w
  s.setWin w { s.win w with st := 5, freezeAt := none }

/-- A freeze whose release tick has passed. -/
def State.freezeDue (s : State) (r w : Nat) : State :=
  match (s.win w).freezeAt with
  | some f => if f ≤ r ∧ s.winLive w then s.freeze w else s
  | none => s

/-- The idle close time of a window has run out by the end of release tick r (R636). -/
def State.idleDue (s : State) (r w : Nat) : Bool :=
  let n := s.n (0x5010 + w) 6
  (s.win w).open_ && s.winLive w && decide (n ≠ 0) && decide ((s.win w).lastRec + n ≤ r)

/-- An idle close. -/
def State.idleCloseAt (s : State) (r w : Nat) : State :=
  if s.idleDue r w then (s.closeBlock w).bump 0xF078 7 1 else s

/-! ### One release tick of one window (R627, R633–R640) -/

/-- What a release tick brings to every window. -/
structure StoreIn where
  r : Nat
  now : Slice
  old : Option Slice
  out : TrigOut
  /-- the arm mark of this tick, with REARM told apart; a disarm mark -/
  arm : Option Bool
  disarm : Bool
  /-- the store gate opens, and closes, in this tick -/
  opens : Bool
  closes : Bool
deriving DecidableEq, Repr

/-- The window stores this tick (R627, Table 16.3). -/
def State.winStores (s : State) (w : Nat) (i : StoreIn) : Bool :=
  let c := s.winCtl w
  let gate := match winGate c with
    | 0 => i.out.store
    | 1 => (s.trig.st = 2 || s.trig.st = 3 || s.trig.st = 4) && decide (s.trig.armAt ≤ i.r)
    | _ => true
  gate && (winMode c ≠ 2 || bit s.trig.holds (winQhold c) != winQpol c)

/-- Markers ahead of the data (R633, R634). -/
def marksBefore (trigGate : Bool) (i : StoreIn) : List Rec :=
  (match i.arm with
    | some re => [markRec (if re then 3 else 2) 0 i.now.k []]
    | none => []) ++
  (if trigGate && i.opens then [markRec 4 0 i.now.k []] else [])

/-- Markers behind the data (R633, R634). -/
def marksAfter (trigGate : Bool) (branch : Nat) (i : StoreIn) : List Rec :=
  (match i.out.mark with
    | some c => [markRec 0 c i.now.k []]
    | none => []) ++
  (if i.out.summit then [markRec 1 0 i.now.k (leBytes 8 branch)] else []) ++
  (if trigGate && i.closes then [markRec 5 0 i.now.k []] else []) ++
  (if i.disarm then [markRec 6 0 i.now.k []] else [])

/-- Data records of a stored tick: every selected group, or outside a keyframe of TRANSITION those that changed. -/
def State.dataRecs (s : State) (w : Nat) (key : Bool) (i : StoreIn) : List Rec :=
  let gs := s.winGroups w
  match key || winMode (s.winCtl w) ≠ 1, i.old with
  | false, some old => gs.filterMap (transRec i.now old)
  | _, _ => gs.map (sampleRec i.now)

/-- The records of a tick behind its TIME record. -/
def State.tickRecs (s : State) (w : Nat) (stored key : Bool) (i : StoreIn) : List Rec :=
  let tg := winGate (s.winCtl w) = 0
  let data := if stored then s.dataRecs w key i else []
  let gap := match (s.win w).gap with
    | some g => if data.isEmpty then [] else [(⟨4, 0, g.src, 0, g.first, 0, leBytes 8 (g.count % 2 ^ 32), 0⟩ : Rec)]
    | none => []
  gap ++ marksBefore tg i ++ data ++ marksAfter tg s.trig.summitBranch i

/-- A tick's data is lost: the loss is counted, and a GAP is pending (R641). [DEDUCED, log entry 68] -/
def State.lose (s : State) (w src : Nat) (k : Nat) : State :=
  let x := s.win w
  let mixed : Bool := match x.gap with | some g => g.src != src | none => false
  let g : Gap := match x.gap with
    | some g => ⟨if mixed then 1 + s.freeVal % 2 else src, g.count + 1, g.first⟩
    | none => ⟨src, 1, k⟩
  let s := if mixed then s.drawn else s
  (s.setWin w { x with lost := x.lost + 1, gap := some g, keyDue := true }).bumpW 0xF078 3 64 1

/-- The octets of records in order; a TIME record sets the K that the later ones count from. -/
def layRecs (l : List Rec) (curK : Nat) : Octets × Nat :=
  l.foldl (fun acc r =>
    let k := if r.kind = 5 then r.tick else acc.2
    (acc.1 ++ r.octets k, k)) ([], curK)

/-- Octet offset, in the records laid, of the SUMMIT header. -/
def summitAtOctet (l : List Rec) : Option Nat :=
  match l with
  | [] => none
  | r :: t => if r.kind = 3 ∧ r.src = 1 then some 0 else (summitAtOctet t).map fun n => n + r.size

/-- Records enter the current block of a window, whose block is open or opens here; the lines they complete enter the
buffer. -/
def State.layInto (s : State) (w : Nat) (l : List Rec) (r : Nat) : State :=
  let x := s.win w
  let q := x.block
  let start := if x.open_ then x.cur else []
  let (o, k) := layRecs l x.curK
  let cur := start ++ o
  let s := s.bufPush (s.blockLines w q (start.length / 64) (cur.length / 64) cur)
  let sl := (summitAtOctet l).map fun n => 64 * q + (start.length + n) / 64
  let lostMark := match x.summitLine with
    | some p => decide (p / 64 + s.winSize w ≤ q)
    | none => false
  let s := s.setWin w { x with
    open_ := true, cur := cur, curK := k, lastRec := r
    summitLine := if sl.isSome then sl else x.summitLine
    summitLost := x.summitLost || lostMark
    gap := if l.any fun y => y.kind == 4 then none else x.gap }
  let s := s.setWpos w (64 * q + cur.length / 64)
  let s := s.bumpW 0xF078 1 64 l.length
  let marks := (l.filter fun y => y.kind == 3).length
  let s := if marks = 0 then s else s.bump 0xF078 5 marks
  let s := if l.any fun y => y.kind == 4 then (s.setWinCause w 0).bump 0xF078 4 1 else s
  let bad := (l.filter fun y => y.data && decide (y.pz ≠ 0)).length
  if bad = 0 then s else (s.setWinCause w 4).bumpW 0xF078 9 64 bad

/-- A TIME record is due in a tick of an open block: DT would not fit, or a time write or step has applied (R633). -/
def WindowSt.timeRecDue (x : WindowSt) (stored : Bool) (k : Nat) : Bool :=
  (stored && x.timeDue) || decide (2 ^ 32 ≤ k - x.curK)

/-- How a tick's records lie (R635): a new block is opened, with the records of the tick, TIME ahead of them where due. -/
structure Placement where
  newBlock : Bool
  key : Bool
  recs : List Rec
deriving DecidableEq, Repr

/-- The placement of a tick's records, decided in its own release tick (R633, R635, R638). [DEDUCED, log entry 68] -/
def State.placeTick (s : State) (w : Nat) (stored : Bool) (i : StoreIn) : Placement :=
  let x := s.win w
  let trans := winMode (s.winCtl w) = 1
  let re := match i.arm with | some b => b | none => false
  let key := trans && stored && (x.keyDue || re)
  let base := s.tickRecs w stored key i
  let here := if x.timeRecDue stored i.now.k && (!base.isEmpty || stored) then s.timeRec i.now.k x.block :: base else base
  let n := x.cur.length + recsSize here
  if x.open_ && (n = 4096 || n ≤ 4088) then ⟨false, key, here⟩
  else if here.isEmpty then ⟨false, key, []⟩
  else
    let q := if x.open_ then x.block + 1 else x.block
    let key := trans && stored
    ⟨true, key, s.timeRec i.now.k q :: s.tickRecs w stored key i⟩

/-- Lines that a placement brings into the buffer: those its close and its records complete. -/
def WindowSt.linesOf (x : WindowSt) (newBlock : Bool) (size : Nat) : Nat :=
  if newBlock then (if x.open_ then closeLines x.cur.length else 0) + size / 64
  else (x.cur.length + size) / 64 - x.cur.length / 64

/-- The records of a placement that has been decided enter, a new block being opened ahead of them. [DEDUCED, log entry 68] -/
def State.enterTick (s : State) (w r : Nat) (newBlock : Bool) (recs : List Rec) : State :=
  if recs.isEmpty then s
  else (if newBlock then s.closeBlock w else s).layInto w recs r

/-- A tick whose data is in its block: keyframes are counted, and the marks of the last ticks are settled. -/
def State.tickStored (s : State) (w : Nat) (key : Bool) : State :=
  let x := s.win w
  let s := s.setWin w { x with keyDue := false, timeDue := false, had := true }
  if key then s.bump 0xF078 8 1 else s

/-- A window's release tick with its placement (R640, R641, R649). -/
def State.placeWindow (s : State) (w : Nat) (stored : Bool) (i : StoreIn) (p : Placement) : State :=
  let x := s.win w
  let q := if x.open_ then x.block + 1 else x.block
  let (ok, s) := if p.newBlock then s.mayOpen w q else (true, s)
  if !ok then
    let s := s.closeBlock w
    if p.recs.any Rec.data then s.lose w 2 i.now.k else s
  else if p.recs.any Rec.data then
    if x.linesOf p.newBlock (recsSize p.recs) ≤ s.freeLines - 64 then (s.enterTick w i.r p.newBlock p.recs).tickStored w p.key
    else
      let marks := p.recs.filter fun y => y.kind = 3 || y.kind = 5
      let s := if x.linesOf p.newBlock (recsSize marks) ≤ s.freeLines then s.enterTick w i.r p.newBlock marks else s
      s.lose w 1 i.now.k
  else
    let s := if x.linesOf p.newBlock (recsSize p.recs) ≤ s.freeLines then s.enterTick w i.r p.newBlock p.recs else s
    if stored then s.tickStored w p.key else s

/-- Status of a window after a release tick. -/
def WindowSt.after (x : WindowSt) (stored : Bool) : WindowSt :=
  let x := if stored then x else { x with keyDue := true }
  if x.st = 6 then x
  else if x.freezeAt.isSome then { x with st := 4 }
  else { x with st := if stored then 2 else if x.had then 3 else 0 }

/-- One window in one release tick. -/
def State.windowTick (i : StoreIn) (s : State) (w : Nat) : State :=
  if !s.winLive w then s
  else
    let stored := s.winStores w i
    let s := s.placeWindow w stored i (s.placeTick w stored i)
    let c := s.winCtl w
    let x := s.win w
    let x := if i.out.summit then
        { x with summit := true, freezeAt := if winStream c then none else some (i.r + s.n (0x5010 + w) 5) } else x
    let s := s.setWin w (x.after stored)
    if i.disarm then s.closeBlock w else s

/-- Freezes and idle closes that fell due by the end of release tick r. [DESIGN CHOICE, log entry 4] -/
def State.storageDue (s : State) (r : Nat) : State :=
  (List.range 16).foldl (fun s w => (s.freezeDue r w).idleCloseAt r w) s

/-- The storage writer in one release tick (R639, R640): windows enter in ascending number. -/
def State.storageTick (s : State) (r : Nat) (now : Slice) (old : Option Slice) (o : TrigOut) : State :=
  let arm := match s.trig.armMark with | some (a, re) => if a = r then some re else none | none => none
  let before := s.sto.gate
  let i : StoreIn := ⟨r, now, old, o, arm, s.trig.disarmMark == some r, o.store && !before, (before || o.store) && !s.trig.gate⟩
  let s := (List.range 16).foldl (State.windowTick i) s
  { s with sto := { s.sto with gate := s.trig.gate } }

/-- A SNAPSHOT window starts at an arm; on a Second, in step with the Lead when ARM announced the tick (R625, R766). [DEDUCED, log entry 68] -/
def State.armWindow (a : Nat) (s : State) (w : Nat) : State :=
  if winEn (s.winCtl w) && !winStream (s.winCtl w) then
    let s := s.startWindow w
    s.setWin w { s.win w with inStep := decide (s.pair.role = 3) && decide (s.pair.leadStart = some a) }
  else s

/-- The sequencer arms at tick a: SNAPSHOT windows start (R625). -/
def State.armStart (s : State) (a : Nat) : State := (List.range 16).foldl (State.armWindow a) (s.armNow a false)

/-- A commit at its boundary changed a window's configuration; its block has been closed (R625, R659, Table 16.12). [DEDUCED, log entry 68] -/
def State.winCommit (s : State) (w : Nat) : State :=
  if winEn (s.winCtl w) then s.startWindow w else s

/-! ### The drain into the banks (R419, R639, R676) -/

/-- A window that places a write in a bank that has left On enters FAULT (R657); a frozen window stores nothing and stays. [DEDUCED, log entry 67] -/
def State.winFault (s : State) (w : Nat) : State :=
  if s.winLive w then s.setWin w { s.win w with st := 6, freezeAt := none } else s

/-- The oldest line of the write buffer drains into its bank. [DEDUCED, log entry 59] -/
def State.drainLine (s : State) : State :=
  match s.sto.buf with
  | [] => s
  | l :: t =>
    let s := { s with sto := { s.sto with buf := t } }
    let b := s.bank (bankOf l.off)
    if b.bist ≠ 0 ∧ (b.st = 0 ∨ b.st = 1) then (s.captureWrite l.off l.data).bumpW 0xF078 2 64 1
    else (s.bump 0xF080 12 1).winFault l.win

/-! ### Status (Table 16.7) -/

/-- 5030h + w:1. [DEDUCED, log entry 67] -/
def State.winState (s : State) (w : Nat) : Nat :=
  if !winEn (s.winCtl w) then 0 else if (s.win w).st = 0 then 1 else (s.win w).st

/-- 5030h + w:4 (R626). -/
def State.oldestBlock (s : State) (w : Nat) : Nat := ((s.win w).wpos + 63) / 64 - s.winSize w

/-- The newest position below the write position that a region offset holds. -/
def State.newestPos (s : State) (w off : Nat) : Option Nat :=
  let x := s.win w
  let n := 64 * s.winSize w
  let b := 64 * s.winBase w
  if b ≤ off / 64 ∧ off / 64 < b + n ∧ 0 < x.wpos then
    let back := ((x.wpos - 1) % n + n - (off / 64 - b)) % n
    if back < x.wpos then some (x.wpos - 1 - back) else none
  else none

/-- 5030h + w:3: the first position that is not both written and settled (R425, R642). -/
def State.published (s : State) (w : Nat) : Nat :=
  let p := (s.sto.buf.filter fun l => decide (l.win = w)).foldl (fun m l => min m l.pos) (s.win w).wpos
  s.coh.unsettled.foldl (fun m line => match s.region line with
    | some off => (match s.newestPos w off with | some q => min m q | none => m)
    | none => m) p

/-- 5030h + w:6. -/
def State.winFlags (s : State) (w : Nat) : Nat :=
  let x := s.win w
  b2n x.gap.isSome * 8 + b2n x.summitLost * 4 + b2n x.summit * 2 + b2n x.wrapped

end Sys2Proof.Machine
end

