-- ==== Sys2Proof/Machine/Deflate.lean ====
section
/-! DEFINITION. Sys2Proof/Machine/Deflate.lean: the check values, the decoder of RFC 1951 with the wrappers of RFC 1950 and RFC
1952, and the block coder of a compression lane (Chapter 18, R699–R708, R716, R719, R720). -/
namespace Sys2Proof.Machine

/-! ### Check values (Table 18.4) -/

/-- One bit of the reflected CRC-32 of RFC 1952. -/
def crc32Bit (c : BitVec 32) : BitVec 32 := if c.getLsbD 0 then (c >>> 1) ^^^ 0xEDB88320#32 else c >>> 1

/-- One octet of it. -/
def crc32Byte (c : BitVec 32) (b : Byte) : BitVec 32 :=
  crc32Bit (crc32Bit (crc32Bit (crc32Bit (crc32Bit (crc32Bit (crc32Bit (crc32Bit (c ^^^ b.setWidth 32))))))))

/-- CRC-32 of RFC 1952. -/
def crc32 (o : Octets) : Nat := (o.foldl crc32Byte 0xFFFFFFFF#32 ^^^ 0xFFFFFFFF#32).toNat

/-- Adler-32 of RFC 1950. -/
def adler32 (o : Octets) : Nat :=
  let p := o.foldl (fun (p : Nat × Nat) b => let a := (p.1 + b.toNat) % 65521; (a, (p.2 + a) % 65521)) (1, 0)
  p.2 * 65536 + p.1

/-- The check value of an operation over the uncompressed data (Table 18.4). [PRESUMED, log entry 81] -/
def checkValue (op : Nat) (o : Octets) : Nat :=
  match op with
  | 2 => adler32 o
  | 5 => adler32 o
  | 3 => crc32 o
  | 6 => crc32 o
  | _ => crc32c o

/-! ### Canonical Huffman codes (RFC 1951, 3.2.2) -/

/-- The bits of an octet, least significant first. -/
def octetBits (b : Byte) : List Bool := (List.range 8).map fun i => b.getLsbD i

/-- The bits of octets in stream order. -/
def bitsOf (o : Octets) : List Bool := (o.map octetBits).flatten

/-- `n` bits of a number, least significant first. -/
def numBits (n v : Nat) : List Bool := (List.range n).map fun i => bit v i

/-- A number from bits, least significant first. -/
def bitsNum (l : List Bool) : Nat :=
  match l with
  | [] => 0
  | b :: t => b2n b + 2 * bitsNum t

/-- Octets from bits in stream order, the last one filled with zeros; `fuel` is the number of octets. -/
def packBits (fuel : Nat) (l : List Bool) : Octets :=
  match fuel with
  | 0 => []
  | f + 1 => BitVec.ofNat 8 (bitsNum (l.take 8)) :: packBits f (l.drop 8)

/-- How many code lengths equal n. -/
def lenCount (lens : List Nat) (n : Nat) : Nat := (lens.filter fun l => decide (l = n)).length

/-- The first code of length n. -/
def firstCode (lens : List Nat) (n : Nat) : Nat :=
  match n with
  | 0 => 0
  | n + 1 => (firstCode lens n + (if n = 0 then 0 else lenCount lens n)) * 2

/-- The code of a symbol, most significant bit first. -/
def codeBits (lens : List Nat) (sym : Nat) : List Bool :=
  let n := (lens[sym]?).getD 0
  let c := firstCode lens n + ((lens.take sym).filter fun l => decide (l = n)).length
  (numBits n c).reverse

/-- The sum of 2^(15 − length) over the codes in use: 2^15 for a complete set of lengths. -/
def kraft (lens : List Nat) : Nat := (lens.map fun l => if l = 0 then 0 else 2 ^ (15 - l)).sum

/-- Lengths that RFC 1951 lets a block use: not over-subscribed, and complete unless a single code is in use. -/
def lensOk (lens : List Nat) : Bool :=
  kraft lens = 2 ^ 15 || (decide ((lens.filter fun l => decide (l ≠ 0)).length ≤ 1) && decide (kraft lens < 2 ^ 15))

/-- The code lengths of fixed-Huffman blocks. -/
def fixedLit : List Nat :=
  List.replicate 144 8 ++ List.replicate 112 9 ++ List.replicate 24 7 ++ List.replicate 8 8

/-- The distance code lengths of fixed-Huffman blocks. -/
def fixedDist : List Nat := List.replicate 32 5

/-- Read one symbol: the symbol and the bits behind it; 16 bits are tried. -/
def readSymAt (lens : List Nat) (fuel n code : Nat) (l : List Bool) : Option (Nat × List Bool) :=
  match fuel, l with
  | 0, _ => none
  | _, [] => none
  | f + 1, b :: t =>
    let code := code * 2 + b2n b
    let n := n + 1
    let first := firstCode lens n
    let cnt := lenCount lens n
    if first ≤ code ∧ code < first + cnt then
      match ((List.range lens.length).filter fun i => (lens[i]?).getD 0 == n)[code - first]? with
      | some s => some (s, t)
      | none => none
    else readSymAt lens f n code t

/-- Read one symbol. -/
def readSym (lens : List Nat) (l : List Bool) : Option (Nat × List Bool) := readSymAt lens 15 0 0 l

/-! ### INFLATE (RFC 1951) -/

/-- Base and extra bits of length symbol 257 + i. -/
def lengthBase : List (Nat × Nat) :=
  [(3, 0), (4, 0), (5, 0), (6, 0), (7, 0), (8, 0), (9, 0), (10, 0), (11, 1), (13, 1), (15, 1), (17, 1), (19, 2), (23, 2),
   (27, 2), (31, 2), (35, 3), (43, 3), (51, 3), (59, 3), (67, 4), (83, 4), (99, 4), (115, 4), (131, 5), (163, 5), (195, 5),
   (227, 5), (258, 0)]

/-- Base and extra bits of a distance symbol. -/
def distBase : List (Nat × Nat) :=
  [(1, 0), (2, 0), (3, 0), (4, 0), (5, 1), (7, 1), (9, 2), (13, 2), (17, 3), (25, 3), (33, 4), (49, 4), (65, 5), (97, 5),
   (129, 6), (193, 6), (257, 7), (385, 7), (513, 8), (769, 8), (1025, 9), (1537, 9), (2049, 10), (3073, 10), (4097, 11),
   (6145, 11), (8193, 12), (12289, 12), (16385, 13), (24577, 13)]

/-- Order in which a dynamic block states the code-length code. -/
def clOrder : List Nat := [16, 17, 18, 0, 8, 7, 9, 6, 10, 5, 11, 4, 12, 3, 13, 2, 14, 1, 15]

/-- How decoding stands: the bits left, the octets out (newest first), and the detail of an error (Table 18.5), 0 for none;
`full` says that the output space ended. -/
structure Inflate where
  left : List Bool
  out : Octets
  err : Nat
  full : Bool
deriving DecidableEq, Repr

/-- Take n bits as a number. -/
def takeNum (n : Nat) (l : List Bool) : Option (Nat × List Bool) :=
  if l.length < n then none else some (bitsNum (l.take n), l.drop n)

/-- One octet out, within the space. -/
def Inflate.put (x : Inflate) (cap : Nat) (b : Byte) : Inflate :=
  if cap ≤ x.out.length then { x with full := true } else { x with out := b :: x.out }

/-- A copy of `n` octets from a distance. -/
def Inflate.copy (x : Inflate) (cap d n : Nat) : Inflate :=
  match n with
  | 0 => x
  | n + 1 => if x.full then x else (x.put cap ((x.out[d - 1]?).getD 0)).copy cap d n

/-- A stored block's octets. -/
def Inflate.stored (x : Inflate) (cap n : Nat) : Inflate :=
  match n with
  | 0 => x
  | n + 1 =>
    if x.full then x
    else match takeNum 8 x.left with
    | none => { x with err := 6 }
    | some (v, t) => ({ x with left := t }.put cap (BitVec.ofNat 8 v)).stored cap n

/-- The symbols of a Huffman block, at most `fuel` of them. -/
def Inflate.symbols (lit dist : List Nat) (cap fuel : Nat) (x : Inflate) : Inflate :=
  match fuel with
  | 0 => { x with err := 6 }
  | f + 1 =>
    match readSym lit x.left with
    | none => { x with err := if x.left.length < 15 then 6 else 5 }
    | some (s, t) =>
      if s < 256 then
        let y := { x with left := t }.put cap (BitVec.ofNat 8 s)
        if y.full then y else Inflate.symbols lit dist cap f y
      else if s = 256 then { x with left := t }
      else match lengthBase[s - 257]? with
      | none => { x with err := 5 }
      | some (lb, le) =>
        match takeNum le t with
        | none => { x with err := 6 }
        | some (lx, t) =>
          match readSym dist t with
          | none => { x with err := if t.length < 15 then 6 else 5 }
          | some (ds, t) =>
            match distBase[ds]? with
            | none => { x with err := 5 }
            | some (db, de) =>
              match takeNum de t with
              | none => { x with err := 6 }
              | some (dx, t) =>
                let d := db + dx
                if x.out.length < d then { x with err := 4 }
                else
                  let y := { x with left := t }.copy cap d (lb + lx)
                  if y.full then y else Inflate.symbols lit dist cap f y

/-- The code lengths of a dynamic block, run by run, until `need` are there. -/
def readLens (cl : List Nat) (need fuel : Nat) (acc : List Nat) (l : List Bool) : Except Nat (List Nat × List Bool) :=
  match fuel with
  | 0 => .error 3
  | f + 1 =>
    if need ≤ acc.length then (if acc.length = need then .ok (acc, l) else .error 3)
    else match readSym cl l with
    | none => .error (if l.length < 7 then 6 else 3)
    | some (s, t) =>
      if s < 16 then readLens cl need f (acc ++ [s]) t
      else
        let (eb, base) := if s = 16 then (2, 3) else if s = 17 then (3, 3) else (7, 11)
        match takeNum eb t with
        | none => .error 6
        | some (x, t) =>
          match s, acc.getLast? with
          | 16, none => .error 3
          | 16, some v => readLens cl need f (acc ++ List.replicate (base + x) v) t
          | _, _ => readLens cl need f (acc ++ List.replicate (base + x) 0) t

/-- The header of a dynamic block: its literal and distance code lengths. -/
def readDynamic (l : List Bool) : Except Nat ((List Nat × List Nat) × List Bool) :=
  match takeNum 14 l with
  | none => .error 6
  | some (h, l) =>
    let nlit := bits h 0 5 + 257
    let ndist := bits h 5 5 + 1
    let ncl := bits h 10 4 + 4
    if 286 < nlit ∨ 30 < ndist then .error 3
    else if l.length < 3 * ncl then .error 6
    else
      let raw := (List.range ncl).map fun i => bitsNum ((l.drop (3 * i)).take 3)
      let cl := (List.range 19).map fun s => match clOrder.findIdx? (fun x => x == s) with
        | some i => (raw[i]?).getD 0
        | none => 0
      if !lensOk cl then .error 3
      else match readLens cl (nlit + ndist) 320 [] (l.drop (3 * ncl)) with
      | .error e => .error e
      | .ok (lens, t) =>
        let lit := lens.take nlit
        let dist := lens.drop nlit
        if !lensOk lit || !lensOk dist || (lit[256]?).getD 0 = 0 then .error 3 else .ok ((lit, dist), t)

/-- The blocks of a DEFLATE stream, at most `fuel` of them; `total` is the number of input bits. -/
def Inflate.blocks (cap total fuel : Nat) (x : Inflate) : Inflate :=
  match fuel with
  | 0 => { x with err := 6 }
  | f + 1 =>
    match takeNum 3 x.left with
    | none => { x with err := 6 }
    | some (h, t) =>
      let y : Inflate := match h / 2 with
        | 0 =>
          let t := t.drop (t.length % 8)
          match takeNum 32 t with
          | none => { x with err := 6 }
          | some (n, t) =>
            if n % 65536 + n / 65536 ≠ 65535 then { x with err := 2 } else { x with left := t }.stored cap (n % 65536)
        | 1 => Inflate.symbols fixedLit fixedDist cap total { x with left := t }
        | 2 =>
          match readDynamic t with
          | .error e => { x with err := e }
          | .ok ((lit, dist), t) => Inflate.symbols lit dist cap total { x with left := t }
        | _ => { x with err := 1 }
      if y.err ≠ 0 ∨ y.full ∨ h % 2 = 1 then y else Inflate.blocks cap total f y

/-- Decode a raw DEFLATE stream into at most `cap` octets. [PRESUMED, log entry 81] -/
def inflate (o : Octets) (cap : Nat) : Inflate :=
  let l := bitsOf o
  Inflate.blocks cap (l.length + 1) (l.length + 1) ⟨l, [], 0, false⟩

/-- Input octets that a decoding has used. -/
def Inflate.used (x : Inflate) (o : Octets) : Nat := o.length - x.left.length / 8

/-! ### Matching (R699) -/

/-- One output of the matcher. -/
inductive Tok where
  | lit (b : Byte)
  | copy (len dist : Nat)
deriving DecidableEq, Repr

/-- Length of the common prefix, at most `max` octets. -/
def matchLen (mx : Nat) (a b : Octets) : Nat :=
  match mx, a, b with
  | m + 1, x :: s, y :: t => if x = y then matchLen m s t + 1 else 0
  | _, _, _ => 0

/-- Chain head of the three octets at a position; none nearer the end. -/
def hashAt (o : Octets) (i : Nat) : Option Nat :=
  if i + 3 ≤ o.length then some (Config.hash3 (leAt o i 3) % 32768) else none

/-- Earlier positions of the chain at a position, newest first, at most `depth`, within 32,768 octets. -/
def chain (o : Octets) (i depth : Nat) : List Nat :=
  match hashAt o i with
  | none => []
  | some h => (((List.range i).reverse.takeWhile fun j => decide (i - j ≤ 32768)).filter fun j => hashAt o j == some h).take depth

/-- The longest match at a position that ends at `stop` or before, the nearest among equals: length and distance. -/
def bestMatch (o : Octets) (i depth stop : Nat) : Nat × Nat :=
  (chain o i depth).foldl (fun best j =>
    let n := matchLen (min 258 (stop - i)) (o.drop j) (o.drop i)
    if 3 ≤ n ∧ best.1 < n then (n, i - j) else best) (0, 0)

/-- The matcher's output for the octets from position i up to `stop`, with one-step lazy evaluation; matches end at `stop`,
since each segment is one block (R699, R700). -/
def tokens (o : Octets) (depth stop fuel i : Nat) : List Tok :=
  match fuel with
  | 0 => []
  | f + 1 =>
    if stop ≤ i then []
    else
      let m := bestMatch o i depth stop
      let lit := Tok.lit ((o[i]?).getD 0)
      if m.1 = 0 then lit :: tokens o depth stop f (i + 1)
      else if m.1 < (bestMatch o (i + 1) depth stop).1 then lit :: tokens o depth stop f (i + 1)
      else .copy m.1 m.2 :: tokens o depth stop f (i + m.1)

/-- The symbol whose range holds a length or distance: index, extra bits, extra value. -/
def symbolOf (t : List (Nat × Nat)) (v : Nat) : Nat × Nat × Nat :=
  (List.range t.length).foldl (fun acc i =>
    let e := (t[i]?).getD (0, 0)
    if e.1 ≤ v then (i, e.2, v - e.1) else acc) (0, 0, 0)

/-- The bits of a token under code lengths. -/
def tokBits (lit dist : List Nat) (t : Tok) : List Bool :=
  match t with
  | .lit b => codeBits lit b.toNat
  | .copy n d =>
    let (ls, le, lx) := symbolOf lengthBase n
    let (ds, de, dx) := symbolOf distBase d
    codeBits lit (257 + ls) ++ numBits le lx ++ codeBits dist ds ++ numBits de dx

/-- The literal or length symbol of a token. -/
def tokLit (t : Tok) : Nat :=
  match t with
  | .lit b => b.toNat
  | .copy n _ => 257 + (symbolOf lengthBase n).1

/-- The distance symbol of a token. -/
def tokDist (t : Tok) : Option Nat :=
  match t with
  | .lit _ => none
  | .copy _ d => some (symbolOf distBase d).1

/-! ### The block coder (R700) -/

/-- A Huffman block's symbols and its end. -/
def huffBits (lit dist : List Nat) (ts : List Tok) : List Bool := (ts.map (tokBits lit dist)).flatten ++ codeBits lit 256

/-- A dynamic-Huffman block, if the header the lane builds codes every symbol the block uses. -/
def dynBits (ts : List Tok) : Option (List Bool) :=
  let ls := 256 :: ts.map tokLit
  let ds := ts.filterMap tokDist
  let lc := (List.range 286).map fun s => (ls.filter fun x => decide (x = s)).length
  let dc := (List.range 30).map fun s => (ds.filter fun x => decide (x = s)).length
  let h := Config.dynHeader lc dc
  match readDynamic h with
  | .ok ((lit, dist), []) =>
    if (ls.all fun s => (lit[s]?).getD 0 ≠ 0) && (ds.all fun s => (dist[s]?).getD 0 ≠ 0) then some (h ++ huffBits lit dist ts) else none
  | _ => none

/-- A stored block from a bit position. -/
def storedBits (pos : Nat) (o : Octets) : List Bool :=
  List.replicate ((8 - (pos + 3) % 8) % 8) false ++ numBits 16 o.length ++ numBits 16 (65535 - o.length) ++ bitsOf o

/-- One segment as the block that ends lowest: stored, fixed or dynamic, in that order among equals (R700). -/
def blockBits (o : Octets) (depth pos i n : Nat) (final : Bool) : List Bool :=
  let seg := (o.drop i).take n
  let ts := tokens o depth (i + n) n i
  let stored := [final, false, false] ++ storedBits pos seg
  let fixed := [final, true, false] ++ huffBits fixedLit fixedDist ts
  let best := if stored.length ≤ fixed.length then stored else fixed
  match dynBits ts with
  | some d => let dyn := [final, false, true] ++ d; if dyn.length < best.length then dyn else best
  | none => best

/-- The blocks of an input, segment after segment. -/
def deflateBits (o : Octets) (depth fuel i : Nat) (acc : List Bool) : List Bool :=
  match fuel with
  | 0 => acc
  | f + 1 =>
    let n := min 65535 (o.length - i)
    let final := decide (o.length ≤ i + n)
    let acc := acc ++ blockBits o depth acc.length i n final
    if final then acc else deflateBits o depth f (i + n) acc

/-- Bits of a lane's DEFLATE output; an empty input is one empty fixed-Huffman final block (R700). [PRESUMED, log entry 81] -/
def deflateStream (o : Octets) (depth : Nat) : List Bool :=
  if o.isEmpty then [true, true, false] ++ codeBits fixedLit 256
  else deflateBits o depth (o.length / 65535 + 1) 0 []

/-- A lane's DEFLATE output (R699–R701). -/
def deflate (o : Octets) (depth : Nat) : Octets :=
  let l := deflateStream o depth
  packBits ((l.length + 7) / 8) l

/-! ### The capture frame (R705–R708) -/

/-- A capture frame and whether it was written STORED under R706. -/
def captureFrame (win stream q pmask depth : Nat) (useDeflate : Bool) (o : Octets) : Octets × Bool :=
  let d := if useDeflate then deflate o depth else o
  let def_ := useDeflate && decide (d.length < o.length)
  let pay := if def_ then d else o
  let head := leBytes 4 0x46435A49 ++ leBytes 1 1 ++ leBytes 1 (b2n def_ + b2n (decide (pmask ≠ 0)) * 2) ++ leBytes 1 win ++
    leBytes 1 stream ++ leBytes 8 q ++ leBytes 2 o.length ++ leBytes 2 pay.length ++ leBytes 8 pmask ++ leBytes 4 (crc32c o)
  (head ++ pay ++ leBytes 4 (crc32c (head ++ pay)), useDeflate && !def_)

/-! ### Jobs (R715–R721) -/

/-- The end of a job: STATUS, DETAIL, CONSUMED, CHECK, and the output. -/
structure JobEnd where
  status : Nat
  detail : Nat
  consumed : Nat
  check : Nat
  out : Octets
deriving DecidableEq, Repr

/-- Header and trailer around a compressed stream (R716). -/
def wrapOf (op depth : Nat) (o : Octets) : Octets × Octets :=
  match op with
  | 2 =>
    let flg : Nat := if depth ≤ 2 then 0x01 else if depth ≤ 8 then 0x5E else if depth ≤ 32 then 0x9C else 0xDA
    ([0x78, BitVec.ofNat 8 flg], (leBytes 4 (adler32 o)).reverse)
  | 3 => ([0x1F, 0x8B, 8, 0, 0, 0, 0, 0, 0, 255], leBytes 4 (crc32 o) ++ leBytes 4 o.length)
  | _ => ([], [])

/-- Input octets whose blocks lie wholly within the first `n` octets of the stream (R717). -/
def wholeBlocks (o : Octets) (depth fuel i n : Nat) (acc : List Bool) : Nat :=
  match fuel with
  | 0 => i
  | f + 1 =>
    if o.length ≤ i then i
    else
      let m := min 65535 (o.length - i)
      let acc := acc ++ blockBits o depth acc.length i m (decide (o.length ≤ i + m))
      if n < (acc.length + 7) / 8 then i else wholeBlocks o depth f (i + m) n acc

/-- A compression job (R716–R718). -/
def compressJob (op depth : Nat) (noGrow : Bool) (dstLen : Nat) (o : Octets) : JobEnd :=
  let (h, t) := wrapOf op depth o
  let out := h ++ deflate o depth ++ t
  let chk := checkValue op o
  if noGrow ∧ o.length < out.length ∧ o.length ≤ dstLen then
    ⟨2, 0, wholeBlocks o depth (o.length / 65535 + 1) 0 (o.length - h.length) [], chk, out.take o.length⟩
  else if dstLen < out.length then
    ⟨3, 0, wholeBlocks o depth (o.length / 65535 + 1) 0 (dstLen - h.length) [], chk, out.take dstLen⟩
  else ⟨1, 0, o.length, chk, out⟩

/-- Octets up to and with the first zero. -/
def skipZ (o : Octets) : Octets := (o.dropWhile fun b => b ≠ 0).drop 1

/-- The gzip member header: the octets behind it, or FORMAT's detail (R720, RFC 1952). -/
def gzipHeader (o : Octets) : Except Nat Octets :=
  if o.length < 10 then .error 6
  else if leAt o 0 2 ≠ 0x8B1F ∨ leAt o 2 1 ≠ 8 ∨ 32 ≤ leAt o 3 1 then .error 7
  else
    let flg := leAt o 3 1
    let r := o.drop 10
    let r := if bit flg 2 then r.drop (2 + leAt r 0 2) else r
    let r := if bit flg 3 then skipZ r else r
    let r := if bit flg 4 then skipZ r else r
    if bit flg 1 then
      if r.length < 2 then .error 6
      else if leAt r 0 2 ≠ crc32 (o.take (o.length - r.length)) % 65536 then .error 7
      else .ok (r.drop 2)
    else .ok r

/-- What follows a decoded stream: the status of its check values. -/
def endOfStream (op : Nat) (o body : Octets) (x : Inflate) : JobEnd :=
  let out := x.out.reverse
  let used := o.length - body.length + x.used body
  let chk := checkValue op out
  if x.err ≠ 0 then ⟨4, x.err, used, chk, out⟩
  else if x.full then ⟨3, 0, used, chk, out⟩
  else
    let t := o.drop used
    match op with
    | 5 =>
      if t.length < 4 then ⟨4, 6, o.length, chk, out⟩
      else if leNat (t.take 4).reverse ≠ adler32 out then ⟨5, 1, used + 4, chk, out⟩
      else ⟨1, 0, used + 4, chk, out⟩
    | 6 =>
      if t.length < 8 then ⟨4, 6, o.length, chk, out⟩
      else if leAt t 0 4 ≠ crc32 out then ⟨5, 2, used + 8, chk, out⟩
      else if leAt t 4 4 ≠ out.length % 2 ^ 32 then ⟨5, 3, used + 8, chk, out⟩
      else ⟨1, 0, used + 8, chk, out⟩
    | _ => ⟨1, 0, used, chk, out⟩

/-- UNFRAME: FCRC before decoding, UCRC after (R719, R721). -/
def unframe (cap : Nat) (o : Octets) : JobEnd :=
  let clen := leAt o 18 2
  let ulen := leAt o 16 2
  if o.length < 36 ∨ leAt o 0 4 ≠ 0x46435A49 ∨ leAt o 4 1 ≠ 1 ∨ clen = 0 ∨ 4096 < clen ∨ ulen < 8 ∨ 4096 < ulen then ⟨4, 8, min o.length 36, 0, []⟩
  else if o.length < 36 + clen then ⟨4, 6, o.length, 0, []⟩
  else if leAt o (32 + clen) 4 ≠ crc32c (o.take (32 + clen)) then ⟨5, 4, 36 + clen, 0, []⟩
  else
    let pay := (o.drop 32).take clen
    let x : Inflate := if bit (leAt o 5 1) 0 then inflate pay (min cap ulen)
      else if clen = ulen then ⟨[], (pay.take cap).reverse, 0, decide (cap < clen)⟩ else ⟨[], [], 8, false⟩
    let out := x.out.reverse
    if x.err ≠ 0 then ⟨4, x.err, 36 + clen, crc32c out, out⟩
    else if x.full ∧ cap < ulen then ⟨3, 0, 32 + x.used pay, crc32c out, out⟩
    else if x.full ∨ out.length ≠ ulen then ⟨4, 8, 36 + clen, crc32c out, out⟩
    else if crc32c out ≠ leAt o 28 4 then ⟨5, 5, 36 + clen, crc32c out, out⟩
    else ⟨1, 0, 36 + clen, crc32c out, out⟩

/-- A decompression job (R719, R720). -/
def decompressJob (op cap : Nat) (o : Octets) : JobEnd :=
  match op with
  | 4 => endOfStream op o o (inflate o cap)
  | 5 =>
    if o.length < 2 then ⟨4, 6, o.length, checkValue op [], []⟩
    else if leAt o 0 1 % 16 ≠ 8 ∨ 7 < leAt o 0 1 / 16 ∨ (leAt o 0 1 * 256 + leAt o 1 1) % 31 ≠ 0 then ⟨4, 7, 2, checkValue op [], []⟩
    else if bit (leAt o 1 1) 5 then ⟨6, 1, 2, checkValue op [], []⟩
    else endOfStream op o (o.drop 2) (inflate (o.drop 2) cap)
  | 6 =>
    match gzipHeader o with
    | .error e => ⟨4, e, min o.length 10, checkValue op [], []⟩
    | .ok r => endOfStream op o r (inflate r cap)
  | _ => unframe cap o

end Sys2Proof.Machine
end

