-- ==== Sys2Proof/Machine/Compress.lean ====
section
/-! DEFINITION. Sys2Proof/Machine/Compress.lean: the spill streams and the job ring of the compression engine, its lanes and
its demand (R644–R651, R655, R709–R737). -/
namespace Sys2Proof.Machine

/-! ### Lanes -/

/-- The lowest lane that runs nothing (R709). -/
def State.freeLane (s : State) : Option Nat := (List.range 8).find? fun l => (mget s.comp.lane l).isNone

/-- A lane runs: STATE and SOURCE of 5803h. -/
def State.takeLane (s : State) (l st src : Nat) : State := { s with comp := { s.comp with lane := mset s.comp.lane l (st, src) } }

/-- A lane runs nothing any more. -/
def State.dropLane (s : State) (l : Nat) : State := { s with comp := { s.comp with lane := mdel s.comp.lane l } }

/-- The engine may start work: enabled, and CMP in service (R733, R735). -/
def State.engineOn (s : State) : Bool := s.b 0x5800 1 && !(s.dom .cmp).inReset

/-- A pending job by its count. -/
def State.job (s : State) (c : Nat) : Job := mgetD s.comp.job c {}

/-- Change a pending job. -/
def State.setJob (s : State) (c : Nat) (j : Job) : State := { s with comp := { s.comp with job := mset s.comp.job c j } }

/-- Pending jobs (5802h:3, R713). -/
def State.jobsPending (s : State) : Nat := (s.comp.tail + 32 - s.comp.head) % 32

/-- Counts of the pending jobs in ring order. -/
def State.jobCounts (s : State) : List Nat := (List.range s.jobsPending).map fun i => (s.comp.head + i) % 32

/-- The job most recently started on a lane yields (R710). -/
def State.yieldJob (s : State) : Option (Nat × State) :=
  match (s.jobCounts.filter fun c => (s.job c).st == 3 && decide ((s.job c).lane < 8)).foldl (fun b c => match b with
      | none => some c
      | some d => if (s.job d).order < (s.job c).order then some c else some d) none with
  | none => none
  | some c =>
    let j := s.job c
    some (j.lane, ((s.dropLane j.lane).setJob c { j with st := 2 }).bump 0xF088 7 1)

/-! ### Spill streams -/

/-- Ring base and size of a stream. -/
def State.ringBase (s : State) (t : Nat) : Nat := s.z (0x5100 + t) 2
def State.ringSize (s : State) (t : Nat) : Nat := max 64 (s.n (0x5100 + t) 3)

/-- Octets a block used, once it is closed. -/
def WindowSt.usedOf (x : WindowSt) (q : Nat) : Option Nat := (x.closed.find? fun c => c.1 == q).map Prod.snd

/-- The stream's next block is closed and all its written lines are in the banks (R644). -/
def State.blockReady (s : State) (t : Nat) : Bool :=
  let w := s.streamWin t
  let q := (s.stream t).next
  ((s.win w).usedOf q).isSome && !(s.sto.buf.any fun l => l.win == w && l.pos / 64 == q)

/-- Lanes a stream holds. -/
def StreamSt.lanes (x : StreamSt) : Nat := (x.flight.filter fun f => !f.encoded).length

/-- The port that a stream's ring lies behind is in service, or no port is (R659). -/
def State.streamPort (s : State) (t : Nat) : Bool :=
  match s.route (s.ringBase t) with
  | some (p, _) => s.portActive p
  | none => true

/-- Apart from ring space and a free lane, the stream would start a frame (R709); out of service, it holds its checkpoint (R659). -/
def State.streamWants (s : State) (t : Nat) : Bool :=
  s.streamEn t && s.streamPort t && s.acts && decide ((s.stream t).st ≠ 4) && s.engineOn && s.blockReady t && decide ((s.stream t).lanes < s.n 0x5800 3)

/-- The space of R646: frames in flight count with their greatest length. [DEDUCED, log entry 70] -/
def State.ringRoom (s : State) (t : Nat) : Bool :=
  let x := s.stream t
  decide (x.produced + 4160 * (x.flight.length + 1) ≤ s.ringSize t + x.consumed)

/-- The stream starts a frame, or waits for space (R646, R709). -/
def State.startFrame (s : State) (t : Nat) : State :=
  let x := s.stream t
  if !s.streamWants t then s
  else if !s.ringRoom t then
    if x.st = 3 then s
    else ((s.setStream t { x with st := 3 }).setWinCause (s.streamWin t) 2).bump 0xF078 13 1
  else
    match (match s.freeLane with | some l => some (l, s) | none => s.yieldJob) with
    | none => s
    | some (l, s) =>
      (s.takeLane l 1 t).setStream t { x with
        st := 1, next := x.next + 1, nextId := x.nextId + 1, flight := x.flight ++ [{ id := x.nextId, block := x.next, lane := l }] }

/-- A stream enters ERROR with its checkpoint kept (R655). -/
def State.streamError (s : State) (t code : Nat) : State :=
  let x := s.stream t
  (((s.setStream t { x with st := 4, error := code, next := x.first, flight := [] }).freeStreamLanes t).setWinCause (s.streamWin t) 3).bump 0xF078 14 1

/-- Read lines of a block up to its used octets: data and the mask of poisoned lines (R644, R708). -/
def State.readBlock (s : State) (w q used : Nat) : Octets × Nat × State :=
  (List.range ((used + 63) / 64)).foldl (fun (acc : Octets × Nat × State) i =>
    let (d, p, s) := acc.2.2.readLine (acc.2.2.posOff w (64 * q + i))
    (acc.1 ++ d, acc.2.1 + (if p then 2 ^ i else 0), s)) ([], 0, s)

/-- The producer line (Table 16.6). -/
def producerLine (x : StreamSt) (f : SpillFrame) : Octets :=
  leBytes 8 (x.produced + f.octets.length) ++ leBytes 8 f.block ++ leBytes 8 (x.frames + 1) ++ leBytes 8 x.lost ++
    leBytes 4 ((if x.st = 3 then 3 else 2) + b2n x.lostNew * 16) ++ zeros 28

/-- The first frame in flight is written whole: its producer line follows (R647). -/
def State.sendProducer (s : State) (t : Nat) : State :=
  let x := s.stream t
  match x.flight with
  | f :: rest =>
    if f.encoded && f.acks = 0 && !f.prodSent then
      let s := s.setStream t { x with lostNew := false, flight := { f with prodSent := true } :: rest }
      let s := s.bumpW 0xF078 11 64 f.octets.length
      s.devRequest 4 (t + 4 * f.id) 6 (s.z (0x5100 + t) 4) (producerLine x f)
    else s
  | [] => s

/-- A line of a frame is acknowledged. -/
def State.frameAck (s : State) (t id : Nat) : State :=
  let x := s.stream t
  (s.setStream t { x with flight := x.flight.map fun f : SpillFrame => if f.id = id then { f with acks := f.acks - 1 } else f }).sendProducer t

/-- The producer line is acknowledged: the frame is checkpointed (R647). -/
def State.checkpoint (s : State) (t id : Nat) : State :=
  let x := s.stream t
  match x.flight with
  | f :: rest =>
    if f.id = id ∧ f.prodSent then
      let s := s.setStream t { x with
        produced := x.produced + f.octets.length, frames := x.frames + 1, flight := rest
        ulenTotal := x.ulenTotal + f.ulen, frameTotal := x.frameTotal + f.flen }
      let s := s.bumpW 0xF078 10 64 1
      let y := s.stream t
      let s := if s.mirrors then s.campSend false 0x0F (BitVec.ofNat 8 t :: zeros 7 ++ leBytes 8 y.produced ++
        leBytes 8 (f.block + 1) ++ leBytes 8 y.frames ++ leBytes 8 y.lost) else s
      s.sendProducer t
    else s
  | [] => s

/-- The octets of a frame go out line by line behind those of the frames before it (R645). -/
def State.writeFrame (s : State) (t : Nat) (f : SpillFrame) (start : Nat) : State :=
  (List.range (f.octets.length / 64)).foldl (fun s i =>
    s.devRequest 0 (t + 4 * f.id) 6 (s.ringBase t + (start + 64 * i) % s.ringSize t) (octAt f.octets (64 * i) 64)) s

/-- A lane finishes coding the oldest frame of a stream that is being coded (R644, R645, R706–R709, R731). -/
def State.frameEncoded (s : State) (t : Nat) (ev : LaneEvent) : State :=
  let x := s.stream t
  match x.flight.find? fun f => !f.encoded with
  | none => s
  | some f =>
    let s := if ev.corrected = 0 then s else s.bump 0xF088 12 ev.corrected
    if !s.engineOn ∧ (s.dom .cmp).inReset then s
    else if ev.bad then (s.bump 0xF088 13 1).bump 0xF088 14 1
    else
      let w := s.streamWin t
      let used := ((s.win w).usedOf f.block).getD 4096
      let (d, pmask, s) := s.readBlock w f.block used
      let (o, plain) := captureFrame w t f.block pmask (s.n 0x5800 2) (s.streamDeflate t) (d.take used)
      let pad := octAt o 0 (roundUp o.length 64)
      let g : SpillFrame := { f with octets := pad, ulen := used, flen := o.length, encoded := true, acks := pad.length / 64 }
      let start := x.produced + ((x.flight.takeWhile fun y => y.id != f.id).map fun y => y.octets.length).sum
      let s := s.setStream t { s.stream t with flight := x.flight.map fun y : SpillFrame => if y.id = f.id then g else y }
      let s := (((s.dropLane f.lane).bumpW 0xF088 1 64 used).bumpW 0xF088 2 64 o.length).bumpW 0xF088 3 64 1
      let s := if plain then s.bump 0xF088 4 1 else s
      let s := { s with comp := { s.comp with consumed := s.comp.consumed + used } }
      s.writeFrame t g start

/-- The consumer line is reread while space is short, at most once per µs (R646). -/
def State.rereadConsumer (s : State) (t : Nat) : State :=
  let x := s.stream t
  if x.st ≠ 3 ∨ x.rereading ∨ !s.streamEn t then s
  else
    let s := match x.reread with | some r => s.elapseTo (r + 1000) | none => s
    let s := s.setStream t { x with rereading := true, reread := some s.now }
    s.devRequest 5 t 3 (s.z (0x5100 + t) 5) []

/-- PRODUCED as the producer line last written gives it, before or behind its WR_ACK (R645, R647). -/
def StreamSt.shown (x : StreamSt) : Nat :=
  match x.flight with
  | f :: _ => if f.prodSent then x.produced + f.octets.length else x.produced
  | [] => x.produced

/-- CONSUMED has been read (R646, R655). -/
def State.consumerRead (s : State) (t : Nat) (data : Octets) : State :=
  let x := s.stream t
  let c := leAt data 0 8
  let s := s.setStream t { x with rereading := false }
  if x.st = 4 then s
  else if x.shown < c then s.streamError t 3
  else
    let s := s.setStream t { x with rereading := false, consumed := c }
    if x.st = 3 ∧ s.ringRoom t then s.setStream t { s.stream t with st := 1 } else s

/-- An ERROR stream resumes from its checkpoint (R648, R655). -/
def State.resumeStream (s : State) (t : Nat) : State := (s.setStream t { s.stream t with st := 1 }).setCause 12 4

/-- A commit changed a stream's configuration; enabling starts it at the window's oldest intact block (R651, R655). -/
def State.streamCommit (s : State) (t : Nat) (was : Bool) : State :=
  if s.streamEn t ∧ (¬ was ∨ (s.stream t).st = 4) then
    (s.freeStreamLanes t).setStream t { next := s.oldestBlock (s.streamWin t), nextId := (s.stream t).nextId }
  else if !s.streamEn t then (s.freeStreamLanes t).setStream t { s.stream t with next := (s.stream t).first, flight := [] }
  else s

/-- State of a stream (5110h + s:1). -/
def State.streamState (s : State) (t : Nat) : Nat :=
  let x := s.stream t
  if !s.streamEn t then 0 else if x.st = 1 ∧ ¬ x.flight.isEmpty then 2 else x.st

/-! ### Jobs -/

/-- Fields of a descriptor (Table 18.3). -/
def Job.op (j : Job) : Nat := leAt j.desc 0 1
def Job.depth (j : Job) : Nat := leAt j.desc 2 1
def Job.noGrow (j : Job) : Bool := bit (leAt j.desc 1 1) 0
def Job.srcLen (j : Job) : Nat := leAt j.desc 16 8
def Job.dst (j : Job) : Nat := leAt j.desc 24 8
def Job.dstLen (j : Job) : Nat := leAt j.desc 32 8

/-- A compression job. -/
def Job.codes (j : Job) : Bool := decide (1 ≤ j.op) && decide (j.op ≤ 3)

/-- The descriptor names work that exists (R715). -/
def Job.valid (j : Job) : Bool :=
  decide (1 ≤ j.op) && decide (j.op ≤ 7) && decide (leAt j.desc 1 1 < (if j.codes then 2 else 1)) &&
    (if j.codes then decide (1 ≤ j.depth) && decide (j.depth ≤ 128) else decide (j.depth = 0)) &&
    decide (j.srcLen < 2 ^ 32) && (j.codes || decide (1 ≤ j.srcLen)) && decide (1 ≤ j.dstLen) && decide (j.dstLen ≤ 2 ^ 32) &&
    decide (leAt j.desc 8 8 < 2 ^ 52) && decide (j.dst < 2 ^ 52)

/-- The head advances past completed jobs (R714). [DEDUCED, log entry 72] -/
def State.advanceHead (s : State) (fuel : Nat) : State :=
  match fuel with
  | 0 => s
  | f + 1 =>
    if s.comp.head ≠ s.comp.tail ∧ (s.job s.comp.head).st = 6 then
      State.advanceHead { s with comp := { s.comp with job := mdel s.comp.job s.comp.head, head := (s.comp.head + 1) % 32 } } f
    else s

/-- A failure is recorded in 5805h, sets its cause and is counted (R722, Table 18.5). -/
def State.jobFailed (s : State) (slot status detail : Nat) : State :=
  let c := if status = 2 then 2 else if status = 5 then 3 else if status = 8 then 1 else 0
  let s := { s with comp := { s.comp with lastSlot := slot, lastStatus := status, lastDetail := detail } }
  let s := (s.setCause 12 c).bump 0xF088 6 1
  let s := if status = 8 then s.bump 0xF088 8 1 else s
  let s := if status = 2 then s.bump 0xF088 9 1 else s
  if status = 5 then s.bump 0xF088 10 1 else s

/-- The descriptor as the device writes it back (Table 18.3). -/
def Job.result (j : Job) (e : JobEnd) (produced : Nat) : Octets :=
  octAt j.desc 0 40 ++ leBytes 8 e.consumed ++ leBytes 8 produced ++ leBytes 4 e.check ++ leBytes 1 e.status ++ leBytes 1 e.detail ++
    octAt j.desc 62 2

/-- A job ends: its result is recorded, its unit freed, and its descriptor written back in one whole-line write (R712, R717,
R722). -/
def State.endJob (s : State) (c : Nat) (e : JobEnd) : State :=
  let j := s.job c
  let s := if j.st = 3 ∧ j.lane < 8 then s.dropLane j.lane else s
  let s := if e.status = 1 then s.bump 0xF088 5 1 else if e.status = 11 then s else s.jobFailed (c % 16) e.status e.detail
  let s := s.setJob c { j with st := 4 }
  s.devRequest 2 c 9 (s.z 0x5801 1 + 64 * (c % 16)) (j.result e e.out.length)

/-- A descriptor has been read. [DEDUCED, log entry 72] -/
def State.descRead (s : State) (c result : Nat) (data : Octets) : State :=
  let j := s.job c
  if j.st ≠ 1 ∧ j.st ≠ 7 then s
  else
    let j' : Job := { j with desc := octAt data 0 64, st := if result = 0 then 2 else 5, why := result }
    let s := s.setJob c j'
    if j.st = 7 then s.endJob c ⟨11, 0, 0, 0, []⟩ else s

/-- A descriptor write-back has ended; one that failed loses the result (R729). [DEDUCED, log entry 72] -/
def State.descWritten (s : State) (c result : Nat) : State :=
  let s := s.setJob c { s.job c with st := 6 }
  let s := if result = 0 then s
    else { s.setCause 12 0 with comp := { (s.setCause 12 0).comp with lastSlot := c % 16 } }
  s.advanceHead 32

/-- A tail write is refused (R713): abort code, 0 when it is not. -/
def State.tailCode (s : State) (v : Nat) : Nat :=
  let held := s.staged.any fun e => e.idx == 0x5801 && (e.sub == 1 || e.sub == 2)
  let n := (v + 32 - s.comp.head) % 32
  if 32 ≤ v ∨ 16 < n ∨ n < s.jobsPending then 0x0302
  else if decide (1 ≤ s.commit.state) && decide (s.commit.state ≤ 4) && held then 0x0401
  else if !s.b 0x5801 2 then 0x0303
  else 0

/-- The tail moves: the descriptors of the new jobs are read (R712, R713). [DESIGN CHOICE, log entry 71] -/
def State.submitJobs (s : State) (v : Nat) : State :=
  let old := s.comp.tail
  let n := (v + 32 - old) % 32
  let s := { s with comp := { s.comp with tail := v } }
  (List.range n).foldl (fun s i =>
    let c := (old + i) % 32
    (s.setJob c { st := 1 }).devRequest 1 c 8 (s.z 0x5801 1 + 64 * (c % 16)) []) s

/-- The decompressor runs a job (5804h:1). -/
def State.decompBusy (s : State) : Bool := s.jobCounts.any fun c => (s.job c).st == 3 && (s.job c).lane == 8

/-- The next pending job starts (R714, R715). -/
def State.startJob (s : State) : State :=
  match s.jobCounts.find? fun c => (s.job c).st == 1 || (s.job c).st == 2 || (s.job c).st == 5 || (s.job c).st == 7 with
  | none => s
  | some c =>
    let j := s.job c
    if !s.engineOn || !s.b 0x5801 2 then s
    else if j.st = 5 then s.endJob c ⟨7, j.why, 0, 0, []⟩
    else if j.st ≠ 2 then s
    else if !j.valid then s.endJob c ⟨9, 0, 0, 0, []⟩
    else
      let run := fun (s : State) l => State.setJob { s with comp := { s.comp with starts := s.comp.starts + 1 } } c
        { j with st := 3, lane := l, since := s.now, order := s.comp.starts }
      if j.codes then
        let free := 8 - s.comp.lane.length
        let claims := ((List.range 4).filter fun t => s.streamWants t && s.ringRoom t).length
        match s.freeLane with
        | some l => if claims < free then run (s.takeLane l 2 (c % 16)) l else s
        | none => s
      else if s.decompBusy then s
      else run s 8

/-- The running job of a slot. -/
def State.running (s : State) (slot : Nat) : Option Nat := s.jobCounts.find? fun c => (s.job c).st == 3 && c % 16 == slot

/-- A job's work (R716–R721). -/
def Job.work (j : Job) (o : Octets) : JobEnd :=
  if j.codes then compressJob j.op j.depth j.noGrow j.dstLen o else decompressJob j.op j.dstLen o

/-- A running job completes with what it met, unless its watchdog expired before (R14, R714, R717, R719, R729, R731). [DESIGN CHOICE, log entry 71; DESIGN CHOICE, log entry 83] -/
def State.completeJob (s : State) (slot : Nat) (x : JobInput) : State :=
  match s.running slot with
  | none => s
  | some c =>
    let j := s.job c
    let s := if x.lane.corrected = 0 then s else s.bump 0xF088 12 x.lane.corrected
    if (s.dom .cmp).inReset then s
    else if s.late .mgt j.since (s.n 0x5800 4 * 1000) then s.endJob c ⟨8, 0, 0, 0, []⟩
    else if x.lane.bad then (s.bump 0xF088 13 1).endJob c ⟨10, 2, 0, 0, []⟩
    else if x.err ≠ 0 then s.endJob c ⟨7, x.err.val, 0, 0, []⟩
    else
      let o := octAt x.input 0 j.srcLen
      let e := j.work o
      let s := if j.codes then
          State.bumpW { (s.bumpW 0xF088 1 64 o.length) with
            comp := { (s.bumpW 0xF088 1 64 o.length).comp with consumed := s.comp.consumed + o.length } } 0xF088 2 64 e.out.length
        else s.bumpW 0xF088 11 64 e.out.length
      (s.emit (.host 1 j.dst e.out)).endJob c e

/-- A job's watchdog expires (R723). -/
def State.jobWatchdog (s : State) (slot : Nat) : State :=
  match s.running slot with
  | none => s
  | some c => (s.elapseTo ((s.job c).since + s.n 0x5800 4 * 1000)).endJob c ⟨8, 0, 0, 0, []⟩

/-- Flush: every pending job that has not started is CANCELLED (R726). -/
def State.flushJobs (s : State) : State :=
  s.jobCounts.foldl (fun s c =>
    let j := s.job c
    if j.st = 1 then s.setJob c { j with st := 7 }
    else if j.st = 2 ∨ j.st = 5 then s.endJob c ⟨11, 0, 0, 0, []⟩ else s) s

/-- The demand of R724. -/
def State.demand (s : State) : Nat :=
  let spill := ((List.range 4).map fun t =>
    if s.streamEn t then (((s.win (s.streamWin t)).closed.filter fun c : Nat × Nat => decide ((s.stream t).next ≤ c.1)).map Prod.snd).sum else 0).sum
  let jobs := (s.jobCounts.map fun c =>
    let j := s.job c
    if j.codes && (j.st == 3 || (j.st == 2 && s.b 0x5801 2)) then j.srcLen else 0).sum
  min 6000 ((s.comp.consumed + spill + jobs + 799) / 800)

/-- Every 100 µs the engine sets the demand (R724). -/
def State.setDemand (s : State) : State :=
  let s := s.put 0x2208 7 s.demand
  { s with comp := { s.comp with consumed := 0 } }

/-- The lanes come back after a CMP domain reset: running jobs end LANE, and streams resume from their checkpoints (R735,
R737). -/
def State.cmpBack (s : State) : State :=
  let lost := (List.range 4).any fun t => !(s.stream t).flight.isEmpty
  let s := (List.range 4).foldl (fun s t =>
    (s.freeStreamLanes t).setStream t { s.stream t with next := (s.stream t).first, flight := [] }) s
  let s := if lost then s.setCause 12 4 else s
  s.jobCounts.foldl (fun s c => if (s.job c).st = 3 then s.endJob c ⟨10, 1, 0, 0, []⟩ else s) s

/-- Lane status (Table 18.7). -/
def State.laneStatus (s : State) (l : Nat) : Nat :=
  if (s.dom .cmp).inReset then 4 * 2 ^ 12
  else match mget s.comp.lane l with
    | some (st, src) => st * 2 ^ 12 + src * 2 ^ 8
    | none => 0

/-! ### Completions of the device caching agent -/

/-- One completion reaches its unit. [DESIGN CHOICE, log entry 71] -/
def State.unitDone (s : State) (r : DevReq) (result : Nat) (data : Octets) : State :=
  let t := r.arg % 4
  let live := (s.stream t).flight.any fun f => f.id == r.arg / 4
  let bad := decide (result = 1) || decide (result = 2)
  match r.unit with
  | 0 => if !live then s else if bad then s.streamError t result else s.frameAck t (r.arg / 4)
  | 4 => if !live then s else if bad then s.streamError t result else s.checkpoint t (r.arg / 4)
  | 5 =>
    if bad then (s.setStream t { s.stream t with rereading := false }).streamError t result
    else if result = 3 then s.setStream t { s.stream t with rereading := false }
    else s.consumerRead t data
  | 1 => s.descRead r.arg result data
  | _ => s.descWritten r.arg (if bad then result else 0)

/-- The units take their completions. -/
def State.takeDone (s : State) (fuel : Nat) : State :=
  match fuel with
  | 0 => s
  | f + 1 =>
    match s.coh.done with
    | [] => s
    | (r, result, data) :: rest => (State.unitDone { s with coh := { s.coh with done := rest } } r result data).takeDone f

/-- The units take every completion that waits. -/
def State.serveUnits (s : State) : State := s.takeDone (4096 + s.coh.done.length)

end Sys2Proof.Machine
end

