-- ==== Sys2Proof/Machine/Banks.lean ====
section
/-! DEFINITION. Sys2Proof/Machine/Banks.lean: the power states of the capture banks, BIST, column repair and the background
test (Chapter 17, R671–R698). -/
namespace Sys2Proof.Machine

/-! ### Repair (R678–R683) -/

/-- Subarrays of a bank; bank 48 is BV (R664). -/
def subarrays (b : Nat) : Nat := if b = 48 then 8 else 64

/-- Spares that the fuses map into a subarray, once they are loaded. -/
def State.fusedIn (s : State) (b sub : Nat) : Nat := if s.mem.fused then Config.fusedSpares b sub % 5 else 0

/-- FUSED of the repair status (Table 17.8). -/
def State.fusedCount (s : State) (b : Nat) : Nat := ((List.range (subarrays b)).map (s.fusedIn b)).sum

/-- Soft repairs of a bank. -/
def BankSt.softCount (x : BankSt) : Nat := (x.soft.map Prod.snd).sum

/-- Repair status word (Table 17.8). -/
def State.repairStatus (s : State) (b : Nat) : Nat :=
  s.fusedCount b * 2 ^ 18 + (s.bank b).softCount * 2 ^ 9 + min 511 (s.bank b).bare.length

/-- Bank status word (Table 17.7): its reset value until step 4 rewrites it (Table 17.12). [DESIGN CHOICE, log entry 34] -/
def State.bankStatus (s : State) (b : Nat) : Nat :=
  let x := s.bank b
  let under := decide (s.mem.tbank = b) && decide (1 ≤ s.mem.phase) && decide (s.mem.phase ≤ 3)
  x.st * 2 ^ 12 + b2n under * 8 + b2n (decide (x.softCount ≠ 0)) * 4 + b2n (decide (x.bist = 3)) * 2 +
    b2n (s.mem.fused && (x.st = 0 || x.st = 1 || x.st = 3 || x.st = 6))

/-- The fault record (R680). -/
def State.recordFault (s : State) (b sub col row src : Nat) : State :=
  { s with mem := { s.mem with faultBank := b, faultSub := sub, faultCol := col, faultRow := row, faultSrc := src } }

/-- A failing column is repaired by a spare, or stays unrepaired (R679); the answer says whether it was spared. -/
def State.repairColumn (s : State) (b sub col : Nat) : Bool × State :=
  let x := s.bank b
  let n := mgetD x.soft sub 0
  if s.fusedIn b sub + n < 4 then
    (true, (s.setBank b { x with soft := mset x.soft sub (n + 1), spared := (sub * 512 + col) :: x.spared }).bump 0xF080 8 1)
  else
    let c := sub * 512 + col
    (false, (s.setBank b { x with bare := if x.bare.contains c then x.bare else c :: x.bare }).setCause 11 2)

/-- One failing column of BIST (R680, R682). -/
def State.bistColumn (b : Nat) (acc : Bool × State) (f : Nat × Nat × Nat) : Bool × State :=
  let (ok, s) := (acc.2.recordFault b f.1 f.2.1 f.2.2 1).repairColumn b f.1 f.2.1
  (acc.1 && ok, s)

/-- The result of BIST for one bank (R681–R683). -/
def State.bistBank (find : List BistFinding) (s : State) (b : Nat) : State :=
  let cols := if s.n 0x2011 1 = 0 then [] else ((find.filter fun f => f.bank.val = b).map fun f => f.cols).flatten
  let (ok, s) := cols.foldl (State.bistColumn b) (true, s)
  let x := s.bank b
  if ok then s.setBank b { x with bist := if x.softCount = 0 then 1 else 2, st := 0, since := s.now }
  else (s.setBank b { x with bist := 3, st := 7 }).setCause 11 1

/-! ### Power states (R671–R676, R693) -/

/-- The contents of a bank are lost: every octet reads 0, no line is poisoned. -/
def State.clearBank (s : State) (b : Nat) : State :=
  { s with mem := { s.mem with
    cells := s.mem.cells.filter fun c => decide (bankOf c.1 ≠ b)
    poison := s.mem.poison.filter fun o => decide (bankOf o ≠ b)
    single := s.mem.single.filter fun o => decide (bankOf o ≠ b)
    double := s.mem.double.filter fun o => decide (bankOf o ≠ b) } }

/-- Every filter entry of a bank is recalled (R674). -/
def State.recallBank (s : State) (b : Nat) : State :=
  s.coh.filter.foldl (fun s e => match s.region e.1 with
    | some off => if bankOf off = b then s.recallLine e.1 3 else s
    | none => s) s

/-- A test step in the bank is abandoned without counting (Table 17.11). -/
def State.stopTest (s : State) (b : Nat) : State :=
  if s.mem.tbank = b ∧ (s.mem.phase = 1 ∨ s.mem.phase = 2) then
    { s with mem := { s.mem with phase := 3, phaseEnd := s.now + 512, abandoned := true } }
  else s

/-- A transition of a bank starts. -/
def State.moveBank (s : State) (b st target : Nat) (zero : Bool) : State :=
  s.setBank b { s.bank b with st := st, target := target, since := s.now, zeroNext := zero }

/-- A bank is taken toward a selection of 2300h: 0 ON, 1 RETENTION, 2 OFF (Table 17.3). A bank in transition completes it
first, and a FAILED one that is set to Off has no supply to take. [DESIGN CHOICE, log entry 75] -/
def State.bankToward (s : State) (b sel : Nat) : State :=
  let x := s.bank b
  match x.st, sel with
  | 0, 1 => ((s.moveBank b 1 3 false).stopTest b).recallBank b
  | 0, 2 => ((s.moveBank b 1 4 false).stopTest b).recallBank b
  | 3, 0 => s.moveBank b 5 0 false
  | 3, 2 => s.moveBank b 2 4 false
  | 4, 0 => s.moveBank b 5 0 true
  | 4, 1 => s.moveBank b 5 3 true
  | 7, 0 => if x.bist = 3 then s else s.moveBank b 5 0 true
  | 7, 1 => if x.bist = 3 then s else s.moveBank b 5 3 true
  | 7, 2 => if x.bist = 3 then s else s.setBank b { x with st := 4 }
  | _, _ => s

/-- A transition has completed; a selection made meanwhile is followed. -/
def State.bankSettle (s : State) (b : Nat) : State :=
  let s := s.bump 0xF080 9 1
  s.bankToward b (s.z 0x2300 (b + 1))

/-- A Retention bank starts waking at the freeze tick of a commit that makes it On (R673). -/
def State.wakeBank (s : State) (b : Nat) : State :=
  if (s.bank b).st = 3 ∧ s.commit.state = 3 ∧ s.commit.boundary ≤ s.time.tick + 64 ∧
      (s.staged.any fun e => e.idx == 0x2300 && e.sub == b + 1 && valNum e.val == 0) then
    s.moveBank b 5 0 false
  else s

/-- DRAINING ends (R672). -/
def State.drainDone (s : State) (b : Nat) : State :=
  let busy := (s.sto.buf.any fun l => bankOf l.off == b) || (decide (s.mem.tbank = b) && decide (1 ≤ s.mem.phase) && decide (s.mem.phase ≤ 3))
  if (s.bank b).st ≠ 1 ∨ busy then s else s.moveBank b 2 (s.bank b).target false

/-- ENTERING ends: 2 µs to Retention, 1 µs to Off, whose contents are lost (Table 17.3). -/
def State.entryDone (s : State) (b : Nat) : State :=
  let x := s.bank b
  if x.st ≠ 2 then s
  else
    let s := s.elapseTo (x.since + (if x.target = 3 then 2000 else 1000))
    let s := s.setBank b { x with st := x.target, since := s.now }
    (if x.target = 4 then s.clearBank b else s).bankSettle b

/-- WAKING ends: READY from Retention, ZEROING from Off or FAILED (Table 17.3). -/
def State.wakeDone (s : State) (b : Nat) : State :=
  let x := s.bank b
  if x.st ≠ 5 then s
  else if x.zeroNext then
    let s := s.elapseTo (x.since + 20000)
    (s.clearBank b).setBank b { x with st := 6, since := s.now }
  else
    let s := s.setBank b { x with st := 0, since := s.now }
    -- until the commit that woke the bank applies or is abandoned, its entry still reads RETENTION (R673)
    if s.commit.state = 3 then s.bump 0xF080 9 1 else s.bankSettle b

/-- ZEROING ends (R672). -/
def State.zeroingDone (s : State) (b : Nat) : State :=
  let x := s.bank b
  if x.st ≠ 6 then s
  else
    let s := (s.elapseTo (x.since + 262144)).bump 0xF080 10 1
    if x.target = 3 then s.moveBank b 2 3 false
    else (s.setBank b { x with st := 0, since := s.now }).bankSettle b

/-- A bank is switched off by the device: FAILED, with BANKPWR, its windows in FAULT, its entries recalled (R693). -/
def State.failBank (s : State) (b : Nat) : State :=
  let s := ((s.clearBank b).setBank b { s.bank b with st := 7, since := s.now }).setCause 11 0
  let s := (List.range 16).foldl (fun s w => if winEn (s.winCtl w) && s.winUses w b then s.winFault w else s) s
  let s := if s.mem.tbank = b ∧ 1 ≤ s.mem.phase ∧ s.mem.phase ≤ 4 then { s with mem := { s.mem with phase := 5, save := [] } } else s
  s.recallBank b

/-- A bank's supply stays out of the limit of its state for 1 µs (R693). [DESIGN CHOICE, log entry 75] -/
def State.supplyFault (s : State) (b : Nat) : State :=
  let st := (s.bank b).st
  -- a commit that takes the bank to Off in this tick governs (Table 17.11)
  if st = 1 ∧ (s.bank b).target = 4 ∧ (s.bank b).since = s.now then s
  else if st = 0 ∨ st = 1 ∨ st = 3 ∨ st = 6 then s.failBank b else s

/-- Stated duration of the transition phase in progress, in ns (Table 17.3). -/
def BankSt.duration (x : BankSt) : Nat :=
  match x.st with
  | 1 => 256
  | 2 => if x.target = 3 then 2000 else 1000
  | 5 => if x.zeroNext then 20000 else 48
  | _ => 262144

/-- A transition lasts more than ten times its duration (R693). -/
def State.overtime (s : State) (b : Nat) : State :=
  let x := s.bank b
  if x.st = 1 ∨ x.st = 2 ∨ x.st = 5 ∨ x.st = 6 then (s.elapseTo (x.since + 10 * x.duration + 1)).failBank b else s

/-- The committed power entries take effect at step 7 (R698). -/
def State.banksFollow (s : State) : State := (List.range 48).foldl (fun s b => s.bankToward b (s.z 0x2300 (b + 1))) s

/-! ### Background test (R684–R688, R692, R694) -/

/-- The next READY bank from one on. -/
def State.nextReady (s : State) (b : Nat) : Option Nat := (List.range 48).find? fun n => decide (b ≤ n) && s.bankReady n

/-- No region of the pass is left behind the one shown (R684). [DEDUCED, log entry 74] -/
def State.passEnds (s : State) : Bool :=
  !(decide (s.mem.tregion + 1 < 512) && s.bankReady s.mem.tbank) && (s.nextReady (s.mem.tbank + 1)).isNone

/-- The region shown has been visited, or is skipped: the next step goes on, or starts a new pass (R684). [DEDUCED, log entry 74] -/
def State.regionDone (s : State) : State :=
  if s.passEnds then { s with mem := { s.mem with visited := 2, passes := (s.mem.passes + 1) % 2 ^ 32 } }
  else { s with mem := { s.mem with visited := 1 } }

/-- The region that the step now starting visits: the one shown where it is still to be visited, else the next region of a READY bank
(R684). [DEDUCED, log entry 74] -/
def State.goOn (s : State) : State :=
  let m := s.mem
  if m.visited = 0 ∧ s.bankReady m.tbank then s
  else if m.visited ≠ 2 ∧ m.tregion + 1 < 512 ∧ s.bankReady m.tbank then
    { s with mem := { m with tregion := m.tregion + 1, visited := 0, abandons := 0 } }
  else match (if m.visited = 2 then none else s.nextReady (m.tbank + 1)) with
  | some b => { s with mem := { m with tbank := b, tregion := 0, visited := 0, abandons := 0 } }
  | none => match s.nextReady 0 with
    | some b => { s with mem := { m with
        tbank := b, tregion := 0, visited := 0, abandons := 0, passes := if m.visited = 2 then m.passes else (m.passes + 1) % 2 ^ 32 } }
    | none => s

/-- A step ends; the next is due one interval later (R684). [DEDUCED, log entry 74] -/
def State.stepEnd (s : State) : State :=
  { s with mem := { s.mem with
    phase := if s.b 0x5400 1 then 5 else 0, save := [], abandoned := false, nextStep := s.now + s.n 0x5400 2 * 1000 } }

/-- One line of the region is saved, with correction on read. -/
def State.saveLine (s : State) (i : Nat) : State :=
  let (d, p, s) := s.readLine (offOf s.mem.tbank (64 * s.mem.tregion + i))
  { s with mem := { s.mem with save := mset s.mem.save i ⟨d, p, false⟩ } }

/-- SAVE starts on the next region (R684). While MGT is in domain reset the engine pauses (R695). -/
def State.testStep (s : State) : State :=
  if s.mem.phase ≠ 5 ∨ s.mgtUp = false then s
  else
    let s := s.elapseTo s.mem.nextStep
    let s := s.goOn
    if s.bankReady s.mem.tbank then
      let s := (List.range 64).foldl State.saveLine s
      { s with mem := { s.mem with phase := 1, phaseEnd := s.now + 512, abandoned := false } }
    else s

/-- A miscompare is a background fault; a column that is spared already is not counted again (R688). -/
def State.testFault (s : State) (f : Nat × Nat × Nat) : State :=
  let b := s.mem.tbank
  if (s.bank b).spared.contains (f.1 * 512 + f.2.1) then s
  else ((((s.recordFault b f.1 f.2.1 f.2.2 2).setCause 11 3).bump 0xF080 7 1).repairColumn b f.1 f.2.1).2

/-- RESTORE writes a line of the save buffer back (R684, R692). -/
def State.restoreLine (bad : List Nat) (s : State) (i : Nat) : State :=
  match mget s.mem.save i with
  | none => s
  | some l =>
    let s := s.freshLine (offOf s.mem.tbank (64 * s.mem.tregion + i)) l.data (l.poison || bad.contains i)
    if bad.contains i then (s.bump 0xF080 2 1).bump 0xF080 3 1 else s

/-- A step that was abandoned ends behind RESTORE; a region that starves is skipped (R686, R687). -/
def State.abandonEnd (s : State) : State :=
  let s := if s.n 0x5400 3 ≤ s.mem.abandons then ((s.setCause 11 4).bump 0xF080 6 1).regionDone else s
  s.stepEnd

/-- Real time of a phase's end (Table 17.5): it comes after the phase's word operations, later where the storage writer took the port. -/
def State.phaseOver (s : State) : State :=
  if 1 ≤ s.mem.phase ∧ s.mem.phase ≤ 4 then s.elapseTo s.mem.phaseEnd else s

/-- The next phase of a step starts, and takes `n` ticks. -/
def State.nextPhase (s : State) (k n : Nat) : State := { s with mem := { s.mem with phase := k, phaseEnd := s.now + n } }

/-- A phase of the test ends (Table 17.5); a step's end is the last tick of its VERIFY (Example 17.1). -/
def State.phaseDone (s : State) (r : TestFinding) : State :=
  let s := s.phaseOver
  match s.mem.phase with
  | 1 => s.nextPhase 2 5120
  | 2 => (r.faults.foldl State.testFault s).nextPhase 3 512
  | 3 =>
    let s := (List.range 64).foldl (State.restoreLine (r.badLines.map fun i => i.val)) s
    if s.mem.abandoned then s.abandonEnd else s.nextPhase 4 511
  | 4 =>
    let s := (r.faults.foldl State.testFault s).bumpW 0xF080 4 64 1
    State.stepEnd (State.regionDone { s with mem := { s.mem with abandons := 0 } })
  | _ => s

/-- A TICK domain reset during SAVE to RESTORE loses the save buffer: the region is zeroed and poisoned when the domain returns
(R694). -/
def State.testLost (s : State) : State :=
  if 1 ≤ s.mem.phase ∧ s.mem.phase ≤ 3 then
    let s : State := { s with mem := { s.mem with save := [] } }
    let s : State := (List.range 64).foldl (fun (s : State) i => s.freshLine (offOf s.mem.tbank (64 * s.mem.tregion + i)) (zeros 64) true) s
    let s := if decide (s.mem.phase ≠ 3) || !s.mem.abandoned then
        { s.bump 0xF080 5 1 with mem := { (s.bump 0xF080 5 1).mem with abandons := min 255 (s.mem.abandons + 1) } } else s
    (s.bump 0xF080 13 1).abandonEnd
  else if s.mem.phase = 4 then s.stepEnd
  else s

end Sys2Proof.Machine
end

