-- ==== Sys2Proof/Machine/Sha.lean ====
section
/-! DEFINITION. Sys2Proof/Machine/Sha.lean: SHA-256 (FIPS 180-4) and HMAC-SHA-256 (FIPS 198-1), which R787 uses. -/
namespace Sys2Proof.Machine

/-- The greatest number below `r + 2 ^ n` whose `k`-th power does not exceed `m`, found from bit `n - 1` down. -/
def rootBits (k m : Nat) (n r : Nat) : Nat :=
  match n with
  | 0 => r
  | n + 1 => rootBits k m n (if (r + 2 ^ n) ^ k ≤ m then r + 2 ^ n else r)

/-- The first 32 bits of the fraction of the `k`-th root of `p` (FIPS 180-4). -/
def rootFraction (k p : Nat) : BitVec 32 := BitVec.ofNat 32 (rootBits k (p * 2 ^ (32 * k)) 38 0)

/-- The primes up to 311, the 64th: no prime below 19 divides one but itself. -/
def shaPrimes : List Nat :=
  (List.range 312).filter fun n => decide (2 ≤ n) && [2, 3, 5, 7, 11, 13, 17].all fun d => decide (n = d) || decide (n % d ≠ 0)

/-- The constant of each round: the fraction of the cube root of a prime (FIPS 180-4, 4.2.2). -/
def shaK : List (BitVec 32) := shaPrimes.map (rootFraction 3)

/-- The initial hash value: the fractions of the square roots of the first eight primes (FIPS 180-4, 5.3.3). -/
def shaInit : List (BitVec 32) := (shaPrimes.take 8).map (rootFraction 2)

/-- Big-endian number of octets. -/
def beNat (o : Octets) : Nat := o.foldl (fun n b => n * 256 + b.toNat) 0

/-- A number as `n` octets, most significant first. -/
def beBytes (n v : Nat) : Octets := (leBytes n v).reverse

/-- The i-th word from the front, 0 past the end. -/
def wordAt (l : List (BitVec 32)) (i : Nat) : BitVec 32 := (l[i]?).getD 0

/-- Message schedule, newest word first, `n` words further. -/
def shaExpand (n : Nat) (w : List (BitVec 32)) : List (BitVec 32) :=
  match n with
  | 0 => w
  | n + 1 =>
    let a := wordAt w 1
    let b := wordAt w 14
    let s1 := a.rotateRight 17 ^^^ a.rotateRight 19 ^^^ (a >>> 10)
    let s0 := b.rotateRight 7 ^^^ b.rotateRight 18 ^^^ (b >>> 3)
    shaExpand n ((s1 + wordAt w 6 + s0 + wordAt w 15) :: w)

/-- One round on the eight working variables. -/
def shaRound (v : List (BitVec 32)) (kw : BitVec 32 × BitVec 32) : List (BitVec 32) :=
  match v with
  | [a, b, c, d, e, f, g, h] =>
    let t1 := h + (e.rotateRight 6 ^^^ e.rotateRight 11 ^^^ e.rotateRight 25) + ((e &&& f) ^^^ (~~~e &&& g)) + kw.1 + kw.2
    let t2 := (a.rotateRight 2 ^^^ a.rotateRight 13 ^^^ a.rotateRight 22) + ((a &&& b) ^^^ (a &&& c) ^^^ (b &&& c))
    [t1 + t2, a, b, c, d + t1, e, f, g]
  | _ => v

/-- One block of 64 octets. -/
def shaBlock (h : List (BitVec 32)) (o : Octets) : List (BitVec 32) :=
  let w := ((List.range 16).map fun i => BitVec.ofNat 32 (beNat (octAt o (4 * i) 4))).reverse
  let v := (shaK.zip (shaExpand 48 w).reverse).foldl shaRound h
  (h.zip v).map fun p => p.1 + p.2

/-- Blocks of 64 octets, `n` of them. -/
def shaBlocks (n : Nat) (h : List (BitVec 32)) (o : Octets) : List (BitVec 32) :=
  match n with
  | 0 => h
  | n + 1 => shaBlocks n (shaBlock h (o.take 64)) (o.drop 64)

/-- SHA-256 of octets. -/
def sha256 (o : Octets) : Octets :=
  let p := o ++ [0x80] ++ zeros ((119 - o.length % 64) % 64) ++ beBytes 8 (8 * o.length)
  ((shaBlocks (p.length / 64) shaInit p).map fun w => beBytes 4 w.toNat).flatten

/-- HMAC-SHA-256 of a message under a key of at most 64 octets. -/
def hmac (key msg : Octets) : Octets :=
  let k := octAt key 0 64
  sha256 ((k.map fun b => b ^^^ 0x5C) ++ sha256 ((k.map fun b => b ^^^ 0x36) ++ msg))

end Sys2Proof.Machine
end

