-- ==== Sys2Proof/Machine/Security.lean ====
section
/-! DEFINITION. Sys2Proof/Machine/Security.lean: life cycle, keys, sessions, the vault and tamper (Chapter 20, R696). -/
namespace Sys2Proof.Machine

/-! ### Life-cycle state (R780, R785) -/

/-- The state the fuses read as: the highest whose group has at least 9 fuses programmed (R780). -/
def fusedState (f : List Nat) : Nat :=
  (List.range 4).foldl (fun best i => if 9 ≤ (f[i]?).getD 0 then i + 1 else best) 0

/-- A session at this level is withheld in the life-cycle state on the path (Table 20.3); path 4 is JTAG. -/
def sessionWithheld (lcs path level : Nat) : Bool :=
  match level with
  | 0 => false
  | 1 => lcs = 3 || lcs = 4 || (path = 4 && (lcs = 2 || lcs = 4))
  | 2 => lcs = 4 || (path = 4 && (lcs = 2 || lcs = 4))
  | _ => lcs = 2 || lcs = 4

/-- An access to an object is withheld in the life-cycle state (Table 20.3). -/
def accessWithheld (lcs idx sub : Nat) (write : Bool) : Bool :=
  if lcs = 4 then write || !(idx = 0x1000 || idx = 0x1001)
  else if idx = 0x9020 ∧ sub = 1 ∧ write then lcs = 1 || lcs = 2 || lcs = 3
  else if idx = 0x9021 ∧ sub = 1 ∧ write then lcs = 0 || lcs = 3
  else if idx = 0x9030 then lcs = 0 || lcs = 3
  else false

/-! ### Sessions (R787–R791) -/

/-- Code of a path in 1082h:3. -/
def pathNo (p : Path) : Nat :=
  match p with
  | .can => 1 | .t1s => 2 | .mailbox => 3 | .jtag => 4 | .image => 5

/-- The session on a path is closed. -/
def State.closeSession (s : State) (p : Nat) : State := s.setPath p { s.path p with session := none, challenge := none }

/-- Every session on every path is closed. -/
def State.closeSessions (s : State) : State := [1, 2, 3, 4].foldl State.closeSession s

/-- A session's idle limit in ns (R791). -/
def State.idleLimit (s : State) : Nat := s.n 0x1011 2 * 1000000000

/-- A session whose idle limit has passed closes (R791): a request in the MGT cycle in which it expires still counts (R10, Table 20.12). [DESIGN CHOICE, log entry 4] -/
def State.closeIdle (s : State) (p : Nat) : State :=
  match (s.path p).session with
  | some x => if s.late .mgt x.last s.idleLimit then (s.setPath p { s.path p with session := none }).bump 0xF098 3 1 else s
  | none => s

/-- The level at which a requester is served on a path (R225). -/
def State.levelOf (s : State) (p req : Nat) : Nat :=
  match (s.path p).session with
  | some x => if x.req = req then x.level else 0
  | none => 0

/-- The session on a path reaches its idle limit (R791). -/
def State.idleExpiry (s : State) (p : Nat) : State :=
  match (s.path p).session with
  | some x => (s.elapseTo (s.lateAt .mgt x.last s.idleLimit)).closeIdle p
  | none => s

/-- The key that opens a session of a level (Table 20.1). -/
def State.levelKey (s : State) (level : Nat) : Octets :=
  match level with
  | 3 => Config.k3.take 32
  | 2 => if s.sec.lcs = 0 then zeros 32 else leBytes 32 s.sec.ki
  | _ => if s.sec.lcs = 0 then zeros 32 else s.sec.k1.getD (zeros 32)

/-- Back-off is in force on a path: real time at which it ends (R790). -/
def PathSt.backoffEnd (x : PathSt) : Nat := if x.fails < 4 then 0 else x.failAt + min (2 ^ (x.fails - 4)) 64 * 1000000000

/-- Back-off is in force on a path, judged in MGT cycles (R10, R790). -/
def State.backoffOn (s : State) (p : Nat) : Bool :=
  let x := s.path p
  decide (4 ≤ x.fails) && decide (s.cycle .mgt s.now < s.cycle .mgt x.failAt + (min (2 ^ (x.fails - 4)) 64 * 1000000000) * (s.clockRate .mgt).1 / (s.clockRate .mgt).2)

/-- Another requester holds a session or a challenge on the path (R788). -/
def PathSt.taken (x : PathSt) (req : Nat) : Bool :=
  (match x.session with | some y => y.req != req | none => false) || (match x.challenge with | some y => y.req != req | none => false)

/-- KI reads written and good (9020h:2 reads WRITTEN). -/
def State.kiWritten (s : State) : Bool := s.sec.kiState = 2

/-- The vault holds K1 (9021h:2). -/
def State.k1Set (s : State) : Bool := s.sec.k1.isSome && decide (s.sec.vaultState ≠ 3)

/-- The refusal of a session request, behind steps 1–8 of Table 5.5 (R788, R790, R804, R806). [DESIGN CHOICE, log entry 38] -/
def State.sessionCode (s : State) (p req v : Nat) : Nat :=
  let x := s.path p
  if v = 1 ∧ s.sec.lcs ≠ 0 ∧ !s.k1Set then 0x0303
  else if v = 2 ∧ s.sec.lcs ≠ 0 ∧ !s.kiWritten then 0x0303
  else if v = 3 ∧ !s.sec.k3Ok then 0x0303
  else if x.taken req ∨ s.backoffOn p ∨ !s.sec.entropyOk then 0x0601
  else 0

/-- A challenge is issued: 24 octets of entropy and the count of challenges (R787). [DEDUCED, log entry 40] -/
def State.issueChallenge (s : State) (p req level : Nat) : State :=
  let n := s.sec.challenges + 1
  let c := leBytes 24 s.freeVal ++ leBytes 8 n
  let s := s.drawn
  let s := { s with sec := { s.sec with challenges := n } }
  s.setPath p { s.path p with level := level, challenge := some ⟨req, level, c, s.now⟩ }

/-- The challenge limit in ns (R789). -/
def State.challengeLimit (s : State) : Nat := s.n 0x1011 1 * 1000000

/-- The valid challenge of a requester on a path (R789): a response in the MGT cycle in which its limit expires still counts (R10,
Table 20.12). [DESIGN CHOICE, log entry 4; DEDUCED, log entry 40] -/
def State.liveChallenge (s : State) (p req : Nat) : Option Challenge :=
  match (s.path p).challenge with
  | some c => if c.req = req ∧ s.late .mgt c.since s.challengeLimit = false then some c else none
  | none => none

/-- The message of Table 20.4. -/
def authMessage (c : Challenge) (path : Nat) : Octets :=
  c.octets ++ leBytes 8 Config.serial.toNat ++ leBytes 1 c.level ++ leBytes 1 path ++ leBytes 6 c.req

/-- A response: the code and the state after it (R789). [DESIGN CHOICE, log entry 38] -/
def State.response (s : State) (p req : Nat) (o : Octets) : Nat × State :=
  match s.liveChallenge p req with
  | none => (0x0303, s)
  | some c =>
    let x := s.path p
    if o = hmac (s.levelKey c.level) (authMessage c p) then
      (0, (s.setPath p { x with challenge := none, session := some ⟨req, c.level, s.now⟩, fails := 0 }).bump 0xF098 1 1)
    else
      (0x0201, ((s.setPath p { x with challenge := none, fails := min 255 (x.fails + 1), failAt := s.now }).setCause 15 2).bump 0xF098 2 1)

/-- A challenge passes its limit (R789). -/
def State.challengeExpiry (s : State) (p : Nat) : State :=
  match (s.path p).challenge with
  | some c =>
    let s := s.elapseTo (s.lateAt .mgt c.since s.challengeLimit)
    s.setPath p { s.path p with challenge := none }
  | none => s

/-! ### The vault (R696, R796, R797, R805) -/

/-- Refusal of an access to 9021h:1 or 9030h for the vault's state (R797). -/
def State.vaultCode (s : State) : Nat :=
  if s.sec.vaultState = 3 then 0x0602 else if s.sec.vaultState = 2 then 0 else 0x0601

/-- The contents of BV become zero. -/
def State.zeroVault (s : State) : State := { s with sec := { s.sec with k1 := none, records := [], badRegion := [] } }

/-- A wipe starts, or starts again from line 0 (R696, Table 17.11). [DEDUCED, log entry 41] -/
def State.startWipe (s : State) : State :=
  match s.sec.wipePending with
  | none => s
  | some r =>
    let s := s.zeroVault
    { s with sec := { s.sec with vaultState := 1, wipeReason := r, wipeAt := s.now } }

/-- The wipe-pending latch takes a reason; TAMPER stands over LIFECYCLE, and a wipe in progress starts again from line 0 (Table 17.11). -/
def State.requestWipe (s : State) (reason : Nat) : State :=
  let r := if s.sec.wipePending = some 2 then 2 else reason
  { s with sec := { s.sec with
    wipePending := some r
    wipeReason := if s.sec.vaultState = 1 then r else s.sec.wipeReason, wipeAt := if s.sec.vaultState = 1 then s.now else s.sec.wipeAt } }

/-- A region of the vault cannot be read: refused, and a wipe is pending (R805). -/
def State.vaultBad (s : State) (region : Nat) : Bool := s.sec.badRegion.contains region

/-- A life-cycle transition completes when its wipe ends (R782). [DEDUCED, log entry 42] -/
def State.transitionDone (s : State) : State :=
  if s.sec.trState ≠ 2 then s
  else
    let s := { s with sec := { s.sec with lcs := s.sec.trTarget, trState := 3 } }
    let s := (s.closeSessions.setCause 15 4).bump 0xF098 6 1
    if s.sec.lcs = 4 then { s with boot := { s.boot with warmDue := true } } else s

/-- The vault's state once it is initialised: READY, or FAILED where its bank failed its test (R682). -/
def State.vaultAfter (s : State) : Nat := if (s.bank 48).bist = 3 then 3 else 2

/-- A wipe ends (R696). -/
def State.wipeDone (s : State) : State :=
  if s.sec.wipePending.isNone ∨ s.sec.vaultState ≠ 1 then s
  else
    let s := s.elapseTo (s.sec.wipeAt + 32768)
    let s := { s with sec := { s.sec with vaultState := s.vaultAfter, vaultTag := fusedState s.sec.fuses, wipePending := none } }
    ((s.setCause 15 3).bump 0xF080 11 1).transitionDone

/-- The vault is initialised at step 6 (R696): after POR it is READY with reason POR; otherwise it is wiped when it must be. [DEDUCED, log entry 41] -/
def State.initVault (s : State) (bad : Bool) : State :=
  let s := if s.boot.afterPor then
      (let s := s.zeroVault
       { s with sec := { s.sec with
          vaultTag := s.sec.lcs, vaultState := s.vaultAfter, wipeReason := 1, wipePending := none } })
    else
      (let tagBad := decide (s.sec.vaultTag ≠ s.sec.lcs)
       let s := if tagBad ∧ s.sec.wipePending.isNone then s.requestWipe 3 else s
       let s := if bad ∧ s.sec.wipePending.isNone then s.requestWipe 4 else s
       let s := { s with sec := { s.sec with vaultState := s.vaultAfter } }
       if s.sec.wipePending.isSome then s.startWipe.wipeDone else s)
  s

/-! ### Transitions (R781–R783) -/

/-- The target of a transition request, where the value names one (R781). -/
def State.transitionTarget (s : State) (v : Nat) : Option Nat :=
  let t := v % 256
  if v / 256 = 0x4C4353 ∧ t ≤ 4 ∧ (t = s.sec.lcs + 1 ∨ t = 4) then some t else none

/-- The conditions of R781 behind step 8 of Table 5.5. -/
def State.transitionCode (s : State) (level t : Nat) (commit : Bool) : Nat :=
  if s.sec.lcs = 3 ∧ level < 3 then 0x0201
  else if t = 1 ∧ !s.kiWritten then 0x0303
  else if commit || s.sec.vaultState = 1 || s.sec.trState = 1 || s.sec.trState = 2 then 0x0303
  else 0

/-- A transition starts (R782). -/
def State.startTransition (s : State) (t : Nat) : State := { s with sec := { s.sec with trState := 1, trTarget := t } }

/-- A list with the i-th place replaced. -/
def listSet (l : List Nat) (i v : Nat) : List Nat := (List.range l.length).map fun j => if j = i then v else (l[j]?).getD 0

/-- The fuses of the target's group have been programmed and read back (R782). -/
def State.burnDone (s : State) (ok : Bool) : State :=
  if s.sec.trState ≠ 1 then s
  else
    let g := s.sec.trTarget - 1
    if ok then State.requestWipe { s with sec := { s.sec with trState := 2, fuses := listSet s.sec.fuses g 16 } } 3
    else
      let n := max ((s.sec.fuses[g]?).getD 0) (s.freeVal % 9)
      let s := s.drawn
      State.bump { s with sec := { s.sec with trState := 4, fuses := listSet s.sec.fuses g n } } 0xF098 8 1

/-- A reset meets a transition while its fuses burn: how many are programmed is open (R783). [DESIGN CHOICE, log entry 43] -/
def State.burnCut (s : State) : State :=
  let s := if s.sec.trState = 1 then
      (let g := s.sec.trTarget - 1
       let n := max ((s.sec.fuses[g]?).getD 0) (s.freeVal % 17)
       let s := s.drawn
       { s with sec := { s.sec with fuses := listSet s.sec.fuses g n } }) else s
  { s with sec := { s.sec with trState := 0 } }

/-! ### Fuse-backed objects (R793–R795) -/

/-- Every value fuse programmed is a one-bit of the new value (R794). -/
def fusesFit (old new : Nat) : Bool := old &&& new = old

/-- Programming of KI starts (R793). -/
def State.startKi (s : State) (v : Nat) : State := { s with sec := { s.sec with kiState := 1, kiNew := v } }

/-- Programming of the pair identity starts at the commit boundary (R793). -/
def State.startPairId (s : State) (v : Nat) : State :=
  if s.sec.pairValid then s else { s with sec := { s.sec with pairProg := some v } }

/-- The VALID fuse is programmed, or a read-back differs (R793, R795). -/
def State.fuseDone (s : State) (ok : Bool) : State :=
  if s.sec.kiState = 1 then
    if ok then { s with sec := { s.sec with ki := s.sec.kiNew, kiValid := true, kiState := 2 } }
    else State.bump { s with sec := { s.sec with ki := s.sec.ki ||| s.sec.kiNew, kiState := 3 } } 0xF098 8 1
  else match s.sec.pairProg with
  | some v =>
    if ok then { s with sec := { s.sec with pairId := v, pairValid := true, pairProg := none } }
    else State.bump { s with sec := { s.sec with pairId := s.sec.pairId ||| v, pairProg := none } } 0xF098 8 1
  | none => s

/-- A reset meets a programming before the VALID fuse: which value fuses are programmed is open (R794). [DESIGN CHOICE, log entry 43] -/
def State.fuseCut (s : State) : State :=
  let s := if s.sec.kiState = 1 then
      (let k := s.sec.ki ||| (s.sec.kiNew &&& s.freeVal)
       let s := s.drawn
       { s with sec := { s.sec with ki := k, kiState := 0 } }) else s
  match s.sec.pairProg with
  | some v =>
    let k := s.sec.pairId ||| (v &&& s.freeVal)
    let s := s.drawn
    { s with sec := { s.sec with pairId := k, pairProg := none } }
  | none => s

/-- The fuses as step 4 reads them, and whether K3 passes its check (R780, R793, R806, R809). -/
def State.readFuses (s : State) (k3 : Bool) : State :=
  { s with sec := { s.sec with
    lcs := fusedState s.sec.fuses, kiState := if s.sec.kiValid then (if s.sec.kiState = 3 then 3 else 2) else s.sec.kiState, k3Ok := k3 } }

/-! ### Tamper (R798–R802) -/

/-- AON time in ms since VAON last rose (Table 20.8). [DESIGN CHOICE, log entry 30] -/
def State.aonMs (s : State) : Nat := (s.now - s.power.vaonRose) / 1000000 % 2 ^ 32

/-- The response of an input in the AON copy. -/
def tamperResp (ctl n : Nat) : Nat := bits ctl (4 + 2 * n) 2

/-- The AON cycle of a real time. AON runs at 16 MHz whatever becomes of the other clocks. [DESIGN CHOICE, log entry 85] -/
def State.aonCycle (s : State) : Nat := s.now * 2 / 125

/-- The newest entry of the tamper log is that of an event of this AON cycle, which a further assertion joins (R800, Table 2.16). -/
def State.tamperJoins (s : State) : Bool := decide (s.sec.tamperAt = some s.aonCycle) && !s.sec.tamperLog.isEmpty

/-- The AON copy of 9010h:1: a commit's value stands behind the AON cycle in which T becomes visible in AON, the second after that of T
(R802, Table 3.4); an event in that cycle still meets the copy before (Table 20.12). -/
def State.tamperCopy (s : State) : Nat :=
  match s.sec.tamperNext with
  | some (v, c) => if c < s.aonCycle then v else s.sec.tamperCtl
  | none => s.sec.tamperCtl

/-- A commit's value of 9010h:1 sets out for the AON copy (R802). -/
def State.sendTamperCopy (s : State) (v : Nat) : State :=
  { s with sec := { s.sec with tamperCtl := s.tamperCopy, tamperNext := some (v, s.aonCycle + 2) } }

/-- One tamper event of the inputs in a mask, with VDDIO low or not (R799, R800), by the AON copy of 9010h:1 and the life-cycle state
that held in its cycle. Assertions of one AON cycle are one event: its entry takes their bits and the higher response. [DEDUCED, log entry 42] -/
def State.tamperBy (s : State) (ctl lcs mask : Nat) (vddio : Bool) : State :=
  let m := mask &&& bits ctl 0 2
  let join := s.tamperJoins
  let prev := if join then s.sec.tamperLog.headD 0 else 0
  if m = 0 ∧ ¬(join ∧ vddio) then s
  else
    let all := m ||| bits prev 60 2
    let r := max (bits prev 52 2) (max (if bit m 0 then tamperResp ctl 0 else 0) (if bit m 1 then tamperResp ctl 1 else 0))
    let entry := (all + b2n (vddio || bit prev 62) * 4) * 2 ^ 60 + (if join then bits prev 56 4 else lcs) * 2 ^ 56 + r * 2 ^ 52 +
      (if join then bits prev 0 32 else s.aonMs)
    let s := { s with sec := { s.sec with
      tamperAt := some s.aonCycle
      tamperCount := if join then s.sec.tamperCount else min (2 ^ 32 - 1) (s.sec.tamperCount + 1)
      tamperLog := (entry :: if join then s.sec.tamperLog.tail else s.sec.tamperLog).take 8 } }
    let new := m ||| andNot all (s.latchWord 0x2110 0)
    let s := if bit new 0 then s.setCause 15 0 else s
    let s := if bit new 1 then s.setCause 15 1 else s
    let s := if join then s else s.bump 0xF098 4 1
    let s := if r = 0 then s else s.requestWipe 2
    if r = 1 then (if s.mgtUp then s.closeSessions else s)
    else if r = 2 then { s with boot := { s.boot with warmDue := true } }
    else s

/-- A tamper event under the AON copy and the life-cycle state of this cycle. -/
def State.tamper (s : State) (mask : Nat) (vddio : Bool) : State := s.tamperBy s.tamperCopy s.sec.lcs mask vddio

/-- Inputs have met their eighth low sample (R798). -/
def State.tamperIn (s : State) (t0 t1 : Bool) : State :=
  let m := b2n (t0 && !s.sec.tamper0) + 2 * b2n (t1 && !s.sec.tamper1)
  let s := { s with sec := { s.sec with tamper0 := s.sec.tamper0 || t0, tamper1 := s.sec.tamper1 || t1 } }
  s.tamper m false

/-- Inputs have met eight high samples (R798); while VDDIO is low both read as asserted (R98). -/
def State.tamperOut (s : State) (t0 t1 : Bool) : State :=
  if s.power.vddioLow then s
  else { s with sec := { s.sec with tamper0 := s.sec.tamper0 && !t0, tamper1 := s.sec.tamper1 && !t1 } }

/-- Security status word (Table 20.9). -/
def State.secStatus (s : State) : Nat :=
  b2n s.sec.entropyOk * 16 + b2n s.sec.wipePending.isSome * 8 + b2n s.locked * 4 + b2n s.sec.k3Ok * 2 + b2n s.kiWritten

end Sys2Proof.Machine
end

