-- ==== Sys2Proof/Machine/Links.lean ====
section
/-! DEFINITION. Sys2Proof/Machine/Links.lean: training and negotiation of a port, its departure from service, acknowledgement
and replay, credit epochs, and the reading of a received flit into messages (Chapter 9). -/
namespace Sys2Proof.Machine

/-- The adapter state of a link is lost; the results and capabilities last read stay (Table 3.12, R387). -/
def freshLink (x : PortSt) (st : Nat) : PortSt :=
  { ({} : PortSt) with
    st := st, ocap := x.ocap, latency := x.latency, result := x.result, wasRepaired := x.wasRepaired, wasNarrow := x.wasNarrow }

/-- Path p leaves service: transfer, session, claim, queued requests and datagrams are discarded, and ALSEQ starts again; queries and the failure count stay
(R293, R294). -/
def State.pathLost (s : State) (p : Nat) : State :=
  let x := s.path p
  let s := s.setPath p { query := x.query, squery := x.squery, level := x.level, fails := x.fails, failAt := x.failAt }
  let s := { s with acc := { s.acc with queue := s.acc.queue.filter fun r => decide (r.path ≠ p) } }
  if p = 1 then { s with acc := { s.acc with canState := 0, tecErr := 0, recErr := 0 } }
  else if p = 2 then { s with acc := { s.acc with arpWait := [] } }
  else if p = 3 then { s with acc := { s.acc with owner := none, mbStatus := 0, reqLen := 0, rspLen := 0 } }
  else if p = 4 then { s with acc := { s.acc with jtagState := 0, jtagRspLen := 0 } }
  else s

/-- The fabric mailbox as the port sees it leaves service: a claim from behind the port goes with its transfer, its session and its requests
(R293). -/
def State.mailboxLost (s : State) (p : Nat) : State :=
  match s.acc.owner with
  | some o => if o.1 = p then s.pathLost 3 else s
  | none => s

/-- One training attempt starts at phase 1 (R358). -/
def State.startAttempt (s : State) (p attempt : Nat) : State :=
  let pll : Pll := .port (Fin.ofNat 6 p)
  (s.setPll pll { s.pll pll with started := true }).setPort p
    { freshLink (s.port p) 2 with phase := 1, attempt := attempt, attemptAt := s.now }

/-- Training of a port starts (R358). -/
def State.startTraining (s : State) (p : Nat) : State := s.startAttempt p 1

/-- The attempt in progress fails with a result of 7013h; another follows after 100 µs, or the port is FAILED (R358, R363). [DESIGN CHOICE, log entry 52] -/
def State.failAttempt (s : State) (p result : Nat) : State :=
  let x := s.port p
  let s := s.bumpPort p 8
  if x.attempt < s.n 0x7007 0 then
    s.setPort p { freshLink x 2 with result := result, attempt := x.attempt, retryAt := some (s.now + 100000) }
  else (s.setPort p { freshLink x 9 with result := result, attempt := x.attempt }).setPortCause p 0

/-- A port that left service trains again at once where the device trains its own ports; a Second's waits for the Lead's TRAIN (R387, R777,
Table 19.1). -/
def State.trainAgain (s : State) (p : Nat) : State := if s.acts then s.startTraining p else s

/-- A port leaves service without a commit: what was in flight is discarded, its agents are removed, and DOWN is set (R293, R387). -/
def State.portDown (s : State) (p : Nat) : State :=
  let s := (s.setPort p (freshLink (s.port p) 8)).mailboxLost p
  ((s.removeAgents p).cairnGone p).setPortCause p 5

/-- A quiesced port is disabled: its agents are removed and DOWN is not set (R388). -/
def State.portDisable (s : State) (p : Nat) : State :=
  (((s.setPort p (freshLink (s.port p) 0)).mailboxLost p).removeAgents p).cairnGone p

/-- A quiesce ends: the link is disabled through the sideband, and trains again where a later commit has enabled it meanwhile (R388,
R390). [DEDUCED, log entry 46] -/
def State.quiesceEnd (s : State) (p : Nat) : State :=
  let s := (s.emit (.sideband p 3 0 0)).portDisable p
  if s.b 0x7000 (p + 1) then s.trainAgain p else s

/-- A port leaves service without a commit, and the device retrains it (R387); one that a commit has disabled ends its quiesce
instead (R388). [DEDUCED, log entry 46] -/
def State.portLeave (s : State) (p : Nat) : State :=
  if (s.port p).st = 7 then s.quiesceEnd p else (s.portDown p).trainAgain p

/-- A port that carries Olelle flits. -/
def PortSt.linked (x : PortSt) : Bool := decide (0 < x.gen) && (x.phase = 6 || x.st = 5 || x.st = 6 || x.st = 7)

/-- A port that has trained. -/
def PortSt.trained (x : PortSt) : Bool := x.st = 5 || x.st = 6 || x.st = 7

/-- Training completes: the port waits for admission (R362). -/
def State.trainingDone (s : State) (p : Nat) : State :=
  let x := s.port p
  if x.crinitIn ∧ x.ready ∧ x.phase = 6 then
    (s.setPort p { x with st := 5, phase := 0, result := 1, trainedAt := s.time.tick }).bumpPort p 7
  else s

/-- The neighbour's CRINIT is received (R362, R375). -/
def State.crinit (s : State) (p : Nat) (credits : List Nat) : State :=
  let x := s.port p
  if x.phase = 6 ∧ !x.crinitIn then
    (s.setPort p { x with
      crinitIn := true
      creditOut := (List.range 8).map fun v => (v, min 4095 ((credits[v]?).getD 0)) }).trainingDone p
  else s

/-- OSTAT is read: ERR fails the attempt, READY lets it complete, and without either it is read again (R359, R361, R362). -/
def State.ostat (s : State) (p o : Nat) : State :=
  let x := s.port p
  if x.phase ≠ 6 then s
  else if bit o 1 then s.failAttempt p 7
  else if bit o 0 then (s.setPort p { x with ready := true }).trainingDone p
  else s.emit (.sideband p 0 0x0F08 0)

/-- Generation chosen from OCAP's GENS under the port's maximum (R360): 0 for none. -/
def pickGen (gens mx : Nat) : Nat :=
  if bit gens 2 ∧ 3 ≤ mx then 3 else if bit gens 1 ∧ 2 ≤ mx then 2 else if bit gens 0 ∧ 1 ≤ mx then 1 else 0

/-- OCAP has been read: phase 4, then the choice and the OSET write of phase 5 (R360, R361, Table 9.6). -/
def State.ocapRead (s : State) (p ocap : Nat) : State :=
  let x := s.port p
  if x.phase ≠ 4 then s
  else
    let s := s.setPort p { x with ocap := ocap }
    if bits ocap 16 16 ≠ 0x4F4C ∨ bits ocap 0 3 = 0 then s.failAttempt p 5
    else
      let g := pickGen (bits ocap 0 3) (s.n 0x7003 (p + 1))
      if g = 0 then s.failAttempt p 6
      else
        let s := if g < s.n 0x7002 (p + 1) then s.setPortCause p 6 else s
        let agents := bits ocap 4 4 + 1
        let s := s.setPort p { s.port p with
          phase := 5, gen := g, sidBase := 16 * (p + 1), agents := agents
          tap := bit ocap 8, caching := bit ocap 9 && decide (2 ≤ g), home := bit ocap 10 }
        s.emit (.sideband p 1 0x0F04 (16 * (p + 1) * 2 ^ 24 + (agents - 1) * 2 ^ 20 + 2 ^ 16 + g))

/-- OSET is written: the main band starts, CRINIT is the first flit, and OSTAT is read (R359, R361, R362). -/
def State.osetDone (s : State) (p : Nat) : State :=
  let x := s.port p
  if x.phase ≠ 5 then s
  else (sendCtrl p 1 0 0 (s.setPort p { x with phase := 6, st := 4 })).emit (.sideband p 0 0x0F08 0)

/-- Width and repair within the subset of the port's module: x64 with or without repair on P0–P3; x16 or x8 without repair on P4–P5
(R356, Table 9.2). -/
def inSubset (p width : Nat) (rep : Bool) : Bool :=
  if p < 4 then decide (width = 3) else (decide (width = 1) || decide (width = 2)) && !rep

/-- Main-band training ends (phase 3): rate, width and repair; DEGRADE when repair or a narrower width is newly applied;
then the device reads OCAP (R358, Table 9.17). -/
def State.mainband (s : State) (p : Nat) (r : MainbandResult) : State :=
  let x := s.port p
  if x.phase ≠ 3 then s
  else
    match r with
    | .failed => s.failAttempt p 3
    | .noStreamRaw => s.failAttempt p 4
    | .ok rate width rep =>
      if !inSubset p width.val rep then s.failAttempt p 3 else
      let narrow := decide (4 ≤ p) && decide (width.val = 1)
      let fresh := (rep && !x.wasRepaired) || (narrow && !x.wasNarrow)
      let s := s.setPort p { x with
        phase := 4, st := 3, rate := min rate.val (s.n 0x7001 (p + 1)), width := width.val, repaired := rep
        wasRepaired := rep, wasNarrow := narrow }
      let s := if fresh then s.setPortCause p 1 else s
      s.emit (.sideband p 0 0x0F00 0)

/-- A sideband access failed or took over 1 ms: its phase fails (R359). [DESIGN CHOICE, log entry 52] -/
def State.sidebandFail (s : State) (p : Nat) : State :=
  let x := s.port p
  let s := s.setCause 5 8
  if x.phase = 4 then s.failAttempt p 5 else if x.phase = 5 then s.failAttempt p 6 else if x.phase = 6 then s.failAttempt p 7 else s

/-- One more replay episode in the 1 ms window of the tick counter (R371). -/
def State.episode (s : State) (p : Nat) : State :=
  let x := s.port p
  let w := s.time.tick / 1000000
  let n := if x.epWin = w then x.epCount + 1 else 1
  let s := s.setPort p { x with epWin := w, epCount := n }
  if s.n 0x7004 (p + 1) < n then s.setPortCause p 2 else s

/-- Send the held flits again from a position; eight replays from one FSEQ without progress end the service (R370, R371). -/
def State.replayFrom (s : State) (p : Nat) (fl : List (Nat × Octets)) : State :=
  match fl with
  | [] => s
  | (q, _) :: _ =>
    let x := s.port p
    let cnt := if 0 < x.repCount ∧ x.repSeq = q then x.repCount + 1 else 1
    let s := s.setPort p { x with repSeq := q, repCount := cnt }
    let s := fl.foldl (fun s f => (s.bumpPort p 2).emit (.flit p f.2)) s
    let s := (s.bumpPort p 5).episode p
    if 8 ≤ cnt then s.portLeave p else s

/-- An acknowledgement releases the held flits up to its number (R370). -/
def PortSt.ack (x : PortSt) (ackseq : Nat) : PortSt :=
  if x.held.any fun f => f.1 == ackseq then
    { x with held := (x.held.dropWhile fun f => f.1 != ackseq).drop 1, repCount := 0 }
  else x

/-- ACKSEQ, ACKV and NAK of a flit with a good CRC (R368, R370). -/
def State.ackNak (s : State) (p w : Nat) : State :=
  let ackv := bit w 9
  let a := bits w 10 10
  let s := if ackv then s.setPort p ((s.port p).ack a) else s
  let s := if bit w 8 then
      let next := if ackv then (a + 1) % 1024 else 0
      s.replayFrom p ((s.port p).held.dropWhile fun f => f.1 != next)
    else s
  drainTx p s

/-- The first bad or unexpected flit of an episode draws one NAK (R368). -/
def State.nakOnce (s : State) (p : Nat) : State :=
  let x := s.port p
  if x.rxNak then s
  else ((sendNullFlit p true (s.setPort p { x with rxNak := true })).bumpPort p 4).episode p

/-- Credits that a flit returns (R375, R377). -/
def PortSt.credit (x : PortSt) (cr : Octets) : PortSt :=
  { x with
    creditOut := (List.range 8).map fun v => (v, mgetD x.creditOut v 0 + ((cr[v]?).getD 0).toNat)
    creditGot := (List.range 8).map fun v => (v, (mgetD x.creditGot v 0 + ((cr[v]?).getD 0).toNat) % 65536) }

/-- Messages completed by the slots of a PAYLOAD flit, each as its slots' octets; with what stays unfinished (R367). [DEDUCED, log entry 53] -/
def takeSlots (slots : Octets) (fuel : Nat) (part : Octets) (need : Nat) (acc : List Octets) : List Octets × Octets × Nat :=
  match fuel with
  | 0 => (acc.reverse, part, need)
  | f + 1 =>
    let h := slots.take 16
    let t := slots.drop 16
    if 0 < need then
      if need = 1 then takeSlots t f [] 0 ((part ++ h) :: acc) else takeSlots t f (part ++ h) (need - 1) acc
    else if h.all fun b => b == 0 then takeSlots t f [] 0 acc
    else
      let len := bits (leNat h) 36 3
      if len = 0 then takeSlots t f [] 0 (h :: acc) else takeSlots t f h len acc

/-- A message as its slots give it (Table 9.8). -/
def slotsMsg (o : Octets) : LinkMsg :=
  let h := leNat (o.take 16)
  ⟨bits h 0 3, bits h 3 5, bits h 8 8, bits h 16 8, bits h 24 12, bits h 44 52, bit h 39, o.drop 16, bits h 42 2⟩

/-- The faults of R374 in a message. -/
def State.msgFault (s : State) (p : Nat) (m : LinkMsg) (len : Nat) : Bool :=
  let x := s.port p
  !vcPresent x.gen m.vc || !(decide (x.sidBase ≤ m.sid) && decide (m.sid < x.sidBase + x.agents)) || decide (4 < len) ||
    (x.gen = 1 && m.vc = 0 && (m.opc = 8 || m.opc = 9 || m.opc = 10)) || !x.admitted

/-- The end-to-end CRC of a message as its slots were received (R373). -/
def slotsCrc (o : Octets) : Nat := crc32c (octAt o 0 12 ++ zeros 4 ++ o.drop 16)

/-- One received message is charged and checked; what remains is for its consumer (R373, R374, R375, R385). -/
def State.takeMsg (p : Nat) (acc : State × List LinkMsg) (o : Octets) : State × List LinkMsg :=
  let s := acc.1
  let x := s.port p
  if !x.linked then acc
  else
    let m := slotsMsg o
    let s := s.matchFabric p m
    let len := bits (leNat (o.take 16)) 36 3
    let cost := o.length / 16
    if ownCredits x.gen m.vc < mgetD x.creditDue m.vc 0 + (if m.vc = 0 then s.heldCredits p else 0) + cost ∧ vcPresent x.gen m.vc then
      (((s.setPortCause p 4).bumpPort p 9).portLeave p, acc.2)
    else
      let s := s.setPort p { x with creditDue := mset x.creditDue m.vc (mgetD x.creditDue m.vc 0 + cost) }
      if s.msgFault p m len then ((s.bumpPort p 10).cohEvent 1 4 (m.addr / 64 * 64) m.sid, acc.2)
      else if x.gen = 3 ∧ bits (leNat (o.take 16)) 96 32 ≠ slotsCrc o then ((s.setPortCause p 3).bumpPort p 6, acc.2)
      else (s, acc.2 ++ [m])

/-- ECHO answers an EPOCH: its totals are compared with the credits received over the flits before it (R377). -/
def State.echo (s : State) (p epoch : Nat) (mismatch : Bool) (got : Map Nat) (totals : List Nat) : State :=
  let x := s.port p
  if x.epochNo ≠ some epoch then s
  else
    let s := s.setPort p { x with epochNo := none }
    let bad := mismatch || !((List.range 8).all fun v => (totals[v]?).getD 0 == mgetD got v 0)
    if bad then ((s.setPortCause p 4).bumpPort p 9).portLeave p else s

/-- The quiesce limit of 1 ms passes: it is counted, and the port is disabled (R388). -/
def State.quiesceOver (s : State) (p : Nat) : State := (s.bumpPort p 11).quiesceEnd p

/-- QDONE ends a quiesce, unless the limit has passed before it (R14, R388, Table 9.16). -/
def State.qdone (s : State) (p : Nat) : State :=
  match (s.port p).quiesceAt with
  | some t => if (s.port p).st ≠ 7 then s else if s.late .fab t 1000000 then s.quiesceOver p else s.quiesceEnd p
  | none => s

/-- A control message (Table 9.10); `got` are the credits received before its flit. -/
def State.control (s : State) (p : Nat) (got : Map Nat) (slots : Octets) : State :=
  let vals := (List.range 8).map fun v => leAt slots (16 + 2 * v) 2
  match leAt slots 0 1 with
  | 1 => s.crinit p vals
  | 3 => s.echo p (leAt slots 2 4) (bit (leAt slots 1 1) 1) got vals
  | 5 => s.qdone p
  | _ => s

/-- After a sequenced flit: acknowledge it, and return the credits due; before admission no PAYLOAD flit leaves (R369, R375, R389). -/
def State.ackBack (s : State) (p : Nat) : State :=
  let x := s.port p
  if !x.linked then s
  else if x.admitted ∧ (x.creditDue.any fun c => 0 < c.2) ∧ x.held.length < 256 then sendSeqFlit p 1 0 [] s
  else sendNullFlit p false s

/-- One received flit: its checks, acknowledgements, credits and control messages; the messages it completes, and whether it is acknowledged once
they have reached their consumers (R365–R377). -/
def State.flitIn (s : State) (p : Nat) (o : Octets) : State × List LinkMsg × Bool :=
  let x := s.port p
  if !x.linked then (s, [], false)
  else
    let n := flitLen x.gen
    if o.length ≠ n ∨ leAt o (n - 4) 4 ≠ crc32c (o.take (n - 4)) then ((s.bumpPort p 3).nakOnce p, [], false)
    else
      let s := s.bumpPort p 1
      let w := leAt o 0 4
      let ftype := bits w 30 2
      if ftype = 3 then (s.portLeave p, [], false)
      else if ftype = 0 then (s.ackNak p w, [], false)
      else if bits w 20 10 ≠ x.rxSeq then (s.nakOnce p, [], false)
      else
        let s := s.setPort p (PortSt.credit { x with rxSeq := (x.rxSeq + 1) % 1024, rxAny := true, rxNak := false } (octAt o 4 8))
        let s := s.ackNak p w
        let slots := (o.drop 12).take (n - 16)
        if !(s.port p).linked then (s, [], false)
        else if ftype = 2 then ((s.control p x.creditGot slots).ackBack p, [], false)
        else
          let y := s.port p
          if bits w 4 4 ≠ y.cont ∧ bits w 4 4 ≠ min y.cont (flitSlots y.gen) then (s.portLeave p, [], false)
          else
            let (msgs, part, need) := takeSlots slots (flitSlots y.gen) y.partialSlots y.cont []
            let s := s.setPort p { y with partialSlots := part, cont := need }
            let (s, ms) := msgs.foldl (State.takeMsg p) (s, [])
            (s, ms, true)

/-- OROLE is written to a die in a pair package (R740): LEAD, and PAIRED. -/
def State.writeOrole (s : State) (p : Nat) (lead : Bool) : State :=
  if s.power.bootPairPres then s.emit (.sideband p 1 0x0F90 (2 + b2n lead)) else s

/-- The EPOCH of a boundary on one trained port; a port that has waited 64 ticks is admitted, and what the sideband reads of
its die is taken (R376, R377, R380, R456, R740). -/
def State.epochPort (b : Nat) (dies : List DieInfo) (s : State) (p : Nat) : State :=
  let x := s.port p
  if !x.trained then s
  else
    let granted := decide (x.st = 5) && decide (x.trainedAt + 64 ≤ b)
    let lat := s.freeVal % 2 ^ 32
    let s := if granted then
        State.drawn (s.setPort p { x with st := 6, admitted := true, latency := lat })
      else s
    let s := sendCtrl p 2 (b2n granted) (b / 16384 % 2 ^ 32) s
    if granted then (s.writeOrole p s.acts).admitCairn p (dies.find? fun d => d.port.val == p) else s

/-- The credit epoch boundary that comes next: the tick in progress where its own boundary has not been taken, so that a commit at T = B
can apply before it (R376, Table 9.16). -/
def State.nextEpoch (s : State) : Nat :=
  if s.time.tick % 16384 = 0 ∧ s.time.epochAt < s.time.tick then s.time.tick else (s.time.tick / 16384 + 1) * 16384

/-- A credit epoch boundary: a multiple of 16,384 ticks (R376). -/
def State.epochBoundary (s : State) (dies : List DieInfo) : State :=
  let b := s.nextEpoch
  let s := s.elapseToTick b
  let s := { s with time := { s.time with epochAt := b } }
  ((List.range 6).foldl (State.epochPort b dies) s).tapsFollow

/-- Port status word (Table 9.12). -/
def State.portStatus (s : State) (p : Nat) : Nat :=
  let x := s.port p
  x.sidBase * 2 ^ 24 + x.agents * 2 ^ 19 + x.st * 2 ^ 12 + x.rate * 2 ^ 9 + x.gen * 2 ^ 7 + x.width * 2 ^ 5 +
    b2n x.repaired * 16 + b2n x.tap * 8 + b2n x.caching * 4 + b2n x.home * 2 + b2n x.admitted

end Sys2Proof.Machine
end

