-- ==== Sys2Proof/Machine/Slice.lean ====
section
/-! DEFINITION. Sys2Proof/Machine/Slice.lean: the release of one slice to the trigger sequencer and the storage writer (R534–R545,
R579, R590, R606, R639). -/
namespace Sys2Proof.Machine

/-- Slices are released: from boot step 12, while the TICK domain runs (R550). [DEDUCED, log entry 25] -/
def State.releases (s : State) : Bool := decide (12 ≤ s.boot.step) && s.time.ptRun && s.time.tickRun && !(s.dom .tick).inReset && !s.time.bridging

/-- The release tick that comes next. -/
def State.nextRelease (s : State) : Nat := match s.time.lastRelease with | some r => r + 1 | none => s.time.tick

/-- The tap entry that maps a granule. -/
def State.granuleTap (s : State) (g : Nat) : Option Nat :=
  (List.range 64).find? fun i =>
    let r := tapGranules (s.tapEntry i) (s.tap i).width
    (s.tap i).mapped && decide (r.1 ≤ g) && decide (g < r.1 + r.2)

/-- A granule is mapped: an enabled tap covers it, or the probe bank samples it (R526). -/
def State.granuleMapped (s : State) (g : Nat) : Bool :=
  if g < 512 then (s.granuleTap g).isSome else decide (g < 520) && s.granuleOn (g - 512)

/-- A granule of the row fails parity: delivered as read, poisoned PARITY, where it is mapped (R526, R544). -/
def State.parityGranule (acc : State × Slice) (g : Nat) : State × Slice :=
  let (s, sl) := acc
  if !s.granuleMapped g then acc
  else
    let s := match s.granuleTap g with
      | some i => s.setTap i { s.tap i with reason := 5 }
      | none => s
    (s, { sl with pz := sl.pz ||| 2 ^ g })

/-- The slice of sample tick k holds a granule poisoned LOST, MSG, PARITY, DROP or QRESET (R538). -/
def State.sliceFaulty (s : State) (k : Nat) (x : GpSample) : Bool :=
  ((List.range 64).any fun i => (s.tap i).mapped && decide (3 ≤ ((s.tap i).at k).2) && decide (((s.tap i).at k).2 ≤ 7)) ||
    x.badGranules.any s.granuleMapped

/-- The motion part of a slice (Table 14.2). -/
def State.sliceMotion (s : State) (k : Nat) (sl : Slice) : Slice :=
  let m := (List.range 4).map fun j => s.motionAt j k
  { sl with
    mev := ((List.range 4).map fun j => ((m[j]?).getD (0, 0, 0)).2.2 % 256 * 2 ^ (8 * j)).sum
    mpos := m.map fun x => x.1
    mspd := m.map fun x => x.2.1
    mpz := ((List.range 4).map fun j => if s.motionRuns j k && s.decBad j k then 2 ^ j else 0).sum }

/-- The probe part of a slice (R537, R557–R560). -/
def State.sliceProbe (s : State) (k : Nat) (empty : Bool) (x : GpSample) (sl : Slice) : State × Slice :=
  let (s, gp, sub, clkv, pos) := if empty then (s, s.gpHeld, 0, false, 0) else s.probeSample x
  let all := ((List.range 8).map fun g => if s.granuleOn g then 2 ^ g else 0).sum
  let bad := if empty then all else s.probeBadMask k
  let s := if bad = 0 then s else if empty then s.bumpW 0xF060 5 64 (popCount 8 bad) else s.bump 0xF068 4 1
  (s, { sl with d := sl.d + gp * 2 ^ 4096, sub := sub, clkv := clkv, clkpos := pos, pz := sl.pz ||| (bad * 2 ^ 512) })

/-- The slice of release tick r (Table 13.3), and the state with its row cleared. -/
def State.formSlice (s : State) (r : Nat) (x : GpSample) : State × Slice :=
  let empty := decide (0 < s.time.empties)
  let k := if empty then s.time.lastSlice else r - s.horizon
  let s := if empty then State.bump { s with time := { s.time with empties := s.time.empties - 1 } } 0xF060 15 1 else s
  let s := if !empty && s.sliceFaulty k x then s.setCause 9 3 else s
  let (s, sl) := (List.range 64).foldl (State.sliceTap k empty) (s, { k := k })
  let (s, sl) := s.sliceProbe k empty x sl
  let sl := s.sliceMotion k sl
  let (s, sl) := if empty ∨ x.badGranules.isEmpty then (s, sl)
    else x.badGranules.foldl State.parityGranule (s.bump 0xF060 10 1, sl)
  ({ s with time := { s.time with lastSlice := k, lastRelease := some r, poisoned := sl.pz } }, sl)

/-- Arm and disarm ticks that have come by release tick r (R608, R612). [DESIGN CHOICE, log entry 4] -/
def State.armDue (s : State) (r : Nat) : State :=
  let s := if s.trig.disarming ∧ s.trig.disarmAt ≤ r then s.disarmNow else s
  if s.trig.st = 1 ∧ s.trig.armAt ≤ r then s.armStart s.trig.armAt else s

/-- In each tick the alignment buffer releases row k = r − H as the slice (R534): the sequencer evaluates it (R606), and the
storage writer stores it (R639). On a Second, H24–H31 are those that AUX gave for the sample tick (R759). -/
def State.sliceRelease (s : State) (x : GpSample) : State :=
  if !s.releases then s
  else
    let r := s.nextRelease
    let s := s.elapseToTick r
    let s := (s.storageDue (r - 1)).armDue r
    let old := s.trig.prev
    let (s, sl) := s.formSlice r x
    let aux := if s.pair.role = 3 then mget s.pair.aux sl.k else none
    let (s, o) := s.triggerTick r sl aux
    s.storageTick r sl old o

end Sys2Proof.Machine
end

