-- ==== Sys2Proof/Machine/Reset.lean ====
section
/-! DEFINITION. Sys2Proof/Machine/Reset.lean: what each reset kind clears and keeps, and how a reset is entered and left
(Chapters 2 and 4, and the reset tables of the other chapters). -/
namespace Sys2Proof.Machine

/-- Diagnostic counters F000h–F0FFh that a reset kind keeps (R157). -/
def keepDiag (k : ResetKind) (e : Nat × Val) : Bool :=
  decide (0xF000 * 256 ≤ e.1) && (match k with | .warm => true | .failover => true | _ => false)

/-- A cause object of CLK, PWR or SEC (Table 8.6). -/
def keptCause (k : Nat) : Bool := k = key 0x2101 0 || k = key 0x2102 0 || k = key 0x2110 0

/-- Objects whose value a reset kind keeps: CLK, PWR and SEC causes, the BIST mode and the counters (Table 4.2, Table 8.6). -/
def keepObj (k : ResetKind) (e : Nat × Val) : Bool :=
  keepDiag k e || (match k with | .por => false | _ => keptCause e.1 || e.1 = key 0x2011 1) ||
    (match k with | .warm => decide (e.1 / 256 = 0x2205) | .failover => decide (e.1 / 256 = 0x2205) | _ => false)

/-- 2010h:0 of a reset kind (Table 4.1). -/
def resetCode (k : ResetKind) : Nat :=
  match k with | .por => 0 | .pin => 1 | .warm => 2 | .thermal => 3 | .failover => 4

/-- The reset kind keeps the PLLs and the roots, and the boot enters at step 4 (Table 4.1, R153, R154). -/
def keepsClocks (k : ResetKind) : Bool := match k with | .warm => true | .failover => true | _ => false

/-- A domain root behind a warm or failover reset: on the source it runs on, out of its domain reset (R153). A forced switch that the reset
meets is complete at once, locked or not. [DESIGN CHOICE, log entry 28] -/
def rootAfterReset (x : DomainSt) : DomainSt :=
  match x.forcing with
  | some t => { x with src := t, switching := none, forcing := none, inReset := false, running := true, stalled := false }
  | none => { x with switching := none, inReset := x.inReset && !x.running }

/-- A root that is not LNK, by its number, behind a reset; the six LNK domains stay in their domain reset, on the source they run on, until
their ports train (R153, Table 4.1). -/
def keptRoot (e : Nat × DomainSt) : Nat × DomainSt :=
  (e.1, if 3 ≤ e.1 ∧ e.1 ≤ 8 then { rootAfterReset e.2 with inReset := true } else rootAfterReset e.2)

/-- The clock unit behind a reset (R152, R153): every root stays on its running source and every PLL locked; the CMP point is OP0, HELD while
its root is not on CPLL (R130), and the networks stay out until MGT is back on SPLL (R146). [DEDUCED, log entry 28] -/
def clocksAfterReset (k : ResetKind) (c : Clocks) : Clocks :=
  if keepsClocks k then
    let dom := c.dom.map keptRoot
    { dom := dom
      pll := c.pll
      meterBoot := false, netsOut := c.netsOut
      dvfsState := (match mget dom 9 with | some x => if x.src = 0 ∧ !x.inReset then 0 else 5 | none => 5) }
  else {}

/-- A slot that a reset finds under a save: it is not valid afterwards (Table 4.11, R186). [DEDUCED, log entry 31] -/
def cutSlot (phase : Nat) (o : Octets) : Octets := if phase ≤ 2 then [] else List.replicate 32 0xFF#8 ++ o.drop 32

/-- A save in progress is abandoned by a reset: its slot is not valid, and 201Ch:3 will read RESET after the boot (Table 4.11). -/
def Boot.cutSave (b : Boot) : Boot :=
  { b with
    slotA := if b.savePhase ≠ 0 ∧ b.saveSlot = 1 then cutSlot b.savePhase b.slotA else b.slotA
    slotB := if b.savePhase ≠ 0 ∧ b.saveSlot = 2 then cutSlot b.savePhase b.slotB else b.slotB
    saveCut := decide (b.savePhase ≠ 0) || (b.saveCut && decide (b.step < 7))
    savePhase := 0, saveBody := [], saveHeader := false }

/-- The boot sequencer behind a reset: the flash keeps its contents (Table 4.2, Table 4.11), and what step 7 found of it stands until the
next step 7 reads it anew. [DEDUCED, log entry 28; DESIGN CHOICE, log entry 87] -/
def bootAfterReset (k : ResetKind) (b : Boot) : Boot :=
  { entry := if keepsClocks k then 4 else 1
    afterPor := (match k with | .por => true | _ => b.afterPor)
    slotA := b.cutSave.slotA, slotB := b.cutSave.slotB, saveCut := b.cutSave.saveCut
    flash := b.flash }

/-- The security unit behind a reset (Table 20.13): fuses, the vault's contents, the tamper levels, log and count, and the
wipe-pending latch stay. -/
def secAfterReset (k : ResetKind) (vaonLost : Bool) (x : Security) : Security :=
  let lost : Bool := match k with | .por => vaonLost | _ => false
  { x with
    lcs := 0, k3Ok := false, trState := 0, vaultState := 0, wipeAt := 0
    wipeReason := (match k with | .por => 0 | _ => x.wipeReason)
    wipePending := (match k with | .por => none | _ => x.wipePending)
    tamperCtl := 0x53, tamperNext := none, entropyOk := false
    challenges := (match k with | .por => 0 | _ => x.challenges)
    tamperCount := if lost then 0 else x.tamperCount
    tamperLog := if lost then [] else x.tamperLog }

/-- The paths behind a reset (R294, R295): the TAP keeps its registers, which only TRST_N and Test-Logic-Reset clear. -/
def accAfterReset (x : Access) : Access :=
  { phyLink := x.phyLink, tapIr := x.tapIr, sib := x.sib, boundary := x.boundary }

/-- The latch behind a reset (Table 8.6). -/
def alertsAfterReset (k : ResetKind) (x : Alerts) : Alerts :=
  match k with
  | .por => {}
  | _ => { latch := x.latch.filter fun e => keptCause e.1, badParity := x.badParity.filter keptCause }

/-- A reset of a kind of Table 4.2 takes effect. [DEDUCED, log entry 28] -/
def State.enterReset (s : State) (k : ResetKind) : State :=
  let s := s.burnCut.fuseCut
  let pairNow : Bool := match k with | .por => s.power.pairPres | _ => s.power.bootPairPres
  let t : State := {
    pending := s.pending, out := s.out, free := s.free, now := s.now
    obj := mset (s.obj.filter (keepObj k)) (key 0x2010 0) (.num (resetCode k))
    written := if s.sec.pairValid then [key 0x8000 1] else []
    power := s.power
    clk := clocksAfterReset k s.clk
    boot := bootAfterReset k s.boot
    acc := accAfterReset s.acc
    alerts := alertsAfterReset k s.alerts
    sec := secAfterReset k s.power.vaonLost s.sec
    probe := { xin := s.probe.xin }
    pair := { role := b2n pairNow }
    mem := { bank := (match k with | .por => [] | _ => s.mem.bank.filter fun e => decide (e.1 = 48)) } }
  t

/-- A latch word fails its parity: every defined bit of its object, and of the children of a cause object with an aggregate,
is set in both copies (R350). -/
def State.latchFault (s : State) (k : Nat) : State :=
  let idx := k / 256
  let br := idx - 0x2101
  let s : State :=
    if idx = 0x2140 then s.putCause idx (k % 256) 0x7F
    else if idx = 0x2150 ∨ idx = 0x2160 then s.putCause idx (k % 256) 0x1F
    else
      match childOf br with
      | some (ci, n, m) => (List.range n).foldl (fun (s : State) j => s.putCause ci (j + 1) m) (s.putCause idx 0 (causeBits br))
      | none => s.putCause idx 0 (causeBits br)
  s.bump 0xF018 19 1

/-- MGT loads its copies of the causes from the latch, and a word whose parity is bad sets every defined bit (R341, R348–R350). -/
def State.reloadLatch (s : State) : State :=
  let s := s.alerts.latch.foldl (fun (s : State) e => s.put (e.1 / 256) (e.1 % 256) e.2) s
  let bad := s.alerts.badParity
  (bad.foldl State.latchFault { s with alerts := { s.alerts with badParity := [] } }).alertSync

/-- The boot starts at a step, at the release of a reset (R160, R162). -/
def State.startBoot (s : State) (step : Nat) : State :=
  State.reloadLatch { s with boot := { s.boot with step := step, entry := step, releasedAt := s.now, stepAt := s.now } }

/-- A warm or a failover reset: it takes effect and the boot enters step 4 (Table 4.1); the tick counter starts again at 0
as the TICK domain leaves its reset (R158). [DEDUCED, log entry 23; DEDUCED, log entry 28] -/
def State.softReset (s : State) (k : ResetKind) : State :=
  let s := (s.enterReset k).startBoot 4
  let t := s.dom .tick
  let s := { s with time := { s.time with tickRun := !t.inReset, bridging := !t.inReset && decide (t.src ≠ 0), bridgeLead := s.now % 10 } }
  if (s.dom .srv).inReset then s else s.srvStart

/-! ### Supplies, pins and temperature (Chapter 2) -/

/-- This supply is VDDIO; VAON; VDDIO_RMII; VDDA_LNK; VDDA_PRB. -/
def isVddio (r : Rail) : Bool := match r with | .vddio => true | _ => false
def isVaon (r : Rail) : Bool := match r with | .vaon => true | _ => false
def isRmii (r : Rail) : Bool := match r with | .vddioRmii => true | _ => false
def isLnk (r : Rail) : Bool := match r with | .vddaLnk => true | _ => false
def isPrb (r : Rail) : Bool := match r with | .vddaPrb => true | _ => false

/-- The supplies as POR finds them once one has fallen: POR begins, and the condition of THERM ends with everything else it clears (R70,
R90, R97). -/
def Power.fall (p : Power) (rail : Rail) (now : Nat) : Power :=
  { p with
    por := true, porAt := now, vaonLost := p.vaonLost || isVaon rail, tripHeld := false, tripped := false, therm := false
    vddioLow := p.vddioLow || (isVddio rail && p.vddioUp && p.vaonUp)
    vddioUp := p.vddioUp && !isVddio rail, vaonUp := p.vaonUp && !isVaon rail
    rmiiUp := p.rmiiUp && !isRmii rail, lnkUp := p.lnkUp && !isLnk rail, prbUp := p.prbUp && !isPrb rail }

/-- A supply falls below its falling threshold: POR (R70, R97). Where it is VDDIO while VAON is present, the AON domain sees both TAMPER_N
inputs as asserted in that cycle, under the copy of 9010h:1 it held, and its records and causes stand in the POR (R98, R799). [DEDUCED, log entry 42] -/
def State.supplyFall (s : State) (rail : Rail) : State :=
  let p := s.power.fall rail s.now
  let t := State.enterReset { s with power := p } .por
  if p.vddioLow && !s.power.vddioLow then
    let m := b2n (!s.sec.tamper0) + 2 * b2n (!s.sec.tamper1)
    let t := State.tamperBy { t with sec := { t.sec with tamper0 := true, tamper1 := true } } s.tamperCopy s.sec.lcs m true
    { t with boot := { t.boot with warmDue := false } }
  else t

/-- A supply stays below its falling threshold for `ns` (R70, R71). -/
def State.supplyTrip (s : State) (rail : Rail) (ns : Nat) : State :=
  let mid := decide (250 ≤ ns) && decide (ns < 1000)
  let trip := decide (1000 ≤ ns) || (mid && s.freeVal % 2 == 1)
  let s := if mid then s.drawn else s
  if trip then s.supplyFall rail else s

/-- VDDIO falls below its threshold while VAON is present (R70, R98, R800). -/
def State.vddioLost (s : State) : State := s.supplyFall .vddio

/-- POR is released after 1.0 ms of good supplies (R70); a hot device holds in reset first (R107); SEQ reports a wrong
supply order (R69). Where RESET_N is still low, the pin reset holds the device, and 2010h:0 reads 1 for the boot that follows. [DEDUCED,
log entry 29; DESIGN CHOICE, log entry 30; DESIGN CHOICE, log entry 86] -/
def State.porRelease (s : State) (temp : Int) (orderOk : Bool) : State :=
  if !s.power.por then s
  else
    let s := s.elapseTo (s.power.porAt + 1000000)
    let p := s.power
    let s := { s with
      power := { p with
        por := false, bootRoleSel := p.roleSel, bootPairPres := p.pairPres, vaonLost := false
        vddioLow := false, vddioUp := true, vaonUp := true, rmiiUp := true, lnkUp := true, prbUp := true
        vaonRose := if p.vaonLost then s.now - 1000000 else p.vaonRose }
      pair := { s.pair with role := b2n p.pairPres } }
    let s := if orderOk then s else s.setCause 1 0
    if 132 ≤ temp then
      { s with power := { s.power with tripHeld := true, tripped := true }, obj := mset s.obj (key 0x2010 0) (.num 3) }
    else if p.pinHeld then { s with obj := mset s.obj (key 0x2010 0) (.num 1) }
    else s.startBoot 1

/-- RESET_N is low for `lowNs` (R80). POR and a thermal trip stand (Table 2.16). -/
def State.pinReset (s : State) (lowNs : Nat) : State :=
  let mid := decide (800 < lowNs) && decide (lowNs < 1200)
  let hit := decide (1200 ≤ lowNs) || (mid && s.freeVal % 2 == 1)
  let s := if mid then s.drawn else s
  if !hit then s
  else if s.power.por ∨ s.power.tripHeld then { s with power := { s.power with pinHeld := true } }
  else State.enterReset { s with power := { s.power with pinHeld := true } } .pin

/-- The boot begins when nothing holds the device in reset. -/
def State.bootIfFree (s : State) : State :=
  if s.power.por || s.power.pinHeld || s.power.tripHeld || s.up then s else s.startBoot 1

/-- RESET_N has been high for 16 AON cycles (R160). -/
def State.pinRelease (s : State) : State :=
  if s.power.pinHeld then State.bootIfFree { s with power := { s.power with pinHeld := false } } else s

/-- The thermal trip (R91). -/
def State.thermalTrip (s : State) : State :=
  if s.power.por ∨ s.power.tripHeld then s
  else State.enterReset { s with power := { s.power with tripHeld := true, tripped := true } } .thermal

/-- The temperature falls below 115 °C after a trip (R91). -/
def State.tripRecovery (s : State) (temp : Int) : State :=
  if s.power.tripHeld ∧ temp < 115 then
    State.bootIfFree { s with power := { s.power with tripHeld := false, therm := false } }
  else s

/-- ROLE_SEL or PAIR_PRES change (R99). -/
def State.strapChange (s : State) (roleSel pairPres : Bool) : State :=
  let changed := decide (s.power.roleSel ≠ roleSel) || decide (s.power.pairPres ≠ pairPres)
  let s := { s with power := { s.power with roleSel := roleSel, pairPres := pairPres } }
  if s.power.por then { s with pair := { s.pair with role := b2n pairPres } }
  else if changed then s.setCause 1 3 else s

/-- A warm reset that was requested takes effect at the next tick boundary (R159, R161). [DEDUCED, log entry 42] -/
def State.warmReset (s : State) : State :=
  if s.boot.warmDue then (s.elapse 1).softReset .warm else s

end Sys2Proof.Machine
end

