-- ==== Sys2Proof/Machine/Domains.lean ====
section
/-! DEFINITION. Sys2Proof/Machine/Domains.lean: clock domains: XO qualification, root switches, stalls and forced switches,
what a domain reset loses and what comes back, PLL locks, the CMP operating points, the frequency meter and CLKMON_OUT
(Chapter 3). -/
namespace Sys2Proof.Machine

/-! ### Sources -/

/-- The domain of a code of Table 3.1. -/
def domOfCode (c : Nat) : Option Domain :=
  match c with
  | 0 => some .xo | 1 => some .tick | 2 => some .fab | 4 => some .cmp | 5 => some .prb | 6 => some .srv | 7 => some .mgt | 8 => some .aon
  | 16 => some (.lnk 0) | 17 => some (.lnk 1) | 18 => some (.lnk 2) | 19 => some (.lnk 3) | 20 => some (.lnk 4) | 21 => some (.lnk 5)
  | _ => none

/-- The domain of a subindex of 2200h and 2203h; none for LNK, which 2201h gives per port. -/
def domOfSub (sub : Nat) : Option Domain :=
  match sub with
  | 1 => some .xo | 2 => some .tick | 3 => some .fab | 5 => some .cmp | 6 => some .prb | 7 => some .srv | 8 => some .mgt | 9 => some .aon
  | _ => none

/-- Subindex of a domain in the order of 2200h. -/
def subOfDom (d : Domain) : Nat :=
  match d with
  | .xo => 1 | .tick => 2 | .fab => 3 | .lnk _ => 4 | .cmp => 5 | .prb => 6 | .srv => 7 | .mgt => 8 | .aon => 9

/-- The PLL behind source code 0 of a domain (Table 3.3). -/
def srcPll (d : Domain) : Option Pll :=
  match d with
  | .xo => some .rpll | .tick => some .spll | .fab => some .spll | .srv => some .spll | .mgt => some .spll
  | .cmp => some .cpll | .prb => some .ppll | .lnk p => some (.port p) | .aon => none

/-- The PLL that a source code selects, if it is a PLL. -/
def selPll (d : Domain) (src : Nat) : Option Pll := if src = 0 then srcPll d else none

/-- A source is defined for a domain (Table 3.3). -/
def srcDefined (d : Domain) (src : Nat) : Bool := match d with | .mgt => decide (src ≤ 2) | _ => decide (src ≤ 1)

/-- SRCLOCK: the source of a code is ready (Table 3.7). -/
def State.srcReady (s : State) (d : Domain) (src : Nat) : Bool :=
  match selPll d src with
  | some p => (s.pll p).locked
  | none => true

/-- The source that the multiplexer of a root selects: in a forced switch the new one from its cycle 16 on, 1 µs after the start (R143). -/
def State.selected (s : State) (d : Domain) : Nat :=
  let x := s.dom d
  match x.forcing with
  | some t => if x.since + 1000 ≤ s.now then t else x.src
  | none => x.src

/-- Domain status word (Table 3.7). -/
def State.domStatus (s : State) (d : Domain) : Nat :=
  let x := s.dom d
  s.selected d * 256 + b2n x.switching.isSome * 128 + b2n x.stalled * 64 + b2n x.forcing.isSome * 32 + b2n x.inReset * 16 +
    b2n (bit (s.z 0x220B 0) (subOfDom d - 1)) * 8 + b2n (s.srcReady d (s.selected d)) * 4 + b2n x.running * 2 +
    (match d with | .xo => b2n (s.pll .rpll).holdover | _ => 0)

/-- The LNK entry of 2200h: bits [6:4] of every 2201h entry. -/
def State.lnkStatus (s : State) : Nat :=
  let f := fun i => decide (∃ p : Fin 6, bit (s.domStatus (.lnk p)) i = true)
  b2n (f 6) * 64 + b2n (f 5) * 32 + b2n (f 4) * 16

/-! ### What a domain loses (Table 3.12) and what returns -/

/-- The ports that a reset of their clocks takes from service or from their training. -/
def PortSt.alive (x : PortSt) : Bool := decide (2 ≤ x.st) && decide (x.st ≤ 8)

/-- The port's LNK domain or FAB goes into domain reset (R387, R392); over a port that is being disabled the disable governs
(Table 9.16). -/
def State.portLost (s : State) (p : Nat) : State :=
  if (s.port p).st = 7 then s.portDisable p else if (s.port p).alive then s.portDown p else s

/-- The port's LNK domain or FAB returns: it retrains (R150, R392). -/
def State.portBack (s : State) (p : Nat) : State := if (s.port p).alive then s.trainAgain p else s

/-- FAB goes into domain reset (R446): the directory and the descriptor cache are lost before the ports leave. [DEDUCED, log entry 22] -/
def State.fabLost (s : State) : State :=
  let dirty := s.coh.desc.any fun e => e.2.st == 3
  let c := s.coh
  let s := { s with coh := { reqs := c.reqs, wbs := c.wbs, devWait := c.devWait, done := c.done, nextTag := c.nextTag } }
  let s := (List.range 6).foldl State.portLost s
  let s := { s with coh := { done := s.coh.done ++ (s.coh.reqs.map fun e => (e.2, 2, [])) ++ (s.coh.devWait.map fun r => (r, 2, [])) } }
  if dirty then s.setCause 6 0 else s

/-- TICK goes into domain reset, or its root leaves SPLL (R453, R549, R620, R662, R694): the time base bridges, and the queues,
the sequencer and the writer lose their state. -/
def State.tickLost (s : State) : State :=
  let s := { s with time := { s.time with
    bridging := true, bridgeLead := if s.time.bridging then s.time.bridgeLead else s.now % 10
    lastRelease := none, empties := 0, poisoned := 0
    tap := s.time.tap.map fun e : Nat × TapSt => (e.1, { ({} : TapSt) with
      st := e.2.st, width := e.2.width, interval := e.2.interval, chg := e.2.chg, ctr := e.2.ctr, tctl := e.2.tctl, due := e.2.due
      retryAt := e.2.retryAt, q := if e.2.q = 0 then 0 else 1 }) } }
  let s := s.triggerLost
  let s := { s with
    sto := { s.sto with buf := [], gate := false }
    pair := { s.pair with tickReset := true } }
  s.pathLost 1

/-- TICK returns to SPLL, out of its domain reset, at a REF rising edge: the tick counter carries on (R453), windows start
(R625), taps join (R550), and the region under test is poisoned (R694). -/
def State.tickBack (s : State) : State :=
  let s := s.elapse ((10 - s.now % 10) % 10)
  let s := { s with time := { s.time with bridging := false } }
  let s := s.testLost
  let s := (List.range 16).foldl (fun (s : State) w => if winEn (s.winCtl w) then s.startWindow w else s) s
  s.tapsFollow

/-- A commit in progress is ABANDONED (R328); the cause is set when MGT can see it. -/
def State.commitInProgress (s : State) : Bool := decide (1 ≤ s.commit.state) && decide (s.commit.state ≤ 4)

/-- A bank that woke for a commit which has been abandoned returns to Retention (R673). -/
def State.wakesUndone (s : State) : State :=
  (List.range 48).foldl (fun s b => if (s.bank b).st = 0 then s.bankToward b (s.z 0x2300 (b + 1)) else s) s

/-- MGT goes into domain reset (R248, R293, R329): transfers, sessions, the staged set and a commit in progress are lost; the
mode and the instant of a commit request, 2003h:1–3, read their defaults (Table 7.7). -/
def State.mgtLost (s : State) : State :=
  let s := if s.commit.state = 3 then s.wakesUndone else s
  let s := { s with
    staged := []
    commit := if s.commitInProgress then { s.commit with state := 9, atTime := false, mirrored := false, abandonDue := true } else s.commit
    obj := (s.obj.filter fun e => e.1 / 256 ≠ 0x1082 && e.1 ≠ key 0x2122 2 && e.1 / 256 ≠ 0x2003)
    acc := { s.acc with path := [], timeView := [], tickView := [] } }
  [1, 2, 3, 4].foldl State.pathLost s

/-- PAIR cause INELIG stands while its condition holds (R762). [DEDUCED, log entry 78] -/
def State.ineligible (s : State) : Bool := (s.pair.role = 2 || s.pair.role = 3) && !s.pair.eligible

/-- INELIG is set where its condition holds and the bit is clear. -/
def State.syncInelig (s : State) : State :=
  if s.ineligible && !bit (s.z 0x210F 0) 4 then s.setCause 14 4 else s

/-- The causes that MGT could not see while it was away, once it runs on a clock other than AON again: ABANDON of a commit that its reset
abandoned, and the condition causes whose condition holds (R328, R335, R351). -/
def State.dueCauses (s : State) : State :=
  let s := if s.commit.abandonDue then State.setCause { s with commit := { s.commit with abandonDue := false } } 4 3 else s
  let s := if s.acc.netDown && !bit (s.z 0x2104 0) 4 then s.setCause 3 4 else s
  let s := if s.pair.los ≠ 0 && !bit (s.z 0x210F 0) 2 then s.setCause 14 2 else s
  s.syncTrace.syncProbe.syncInelig

/-- MGT returns from its domain reset or from AON: its copies of the causes come from the latch (R341), and what it missed is set when it
can see it (R328, R351). -/
def State.mgtBack (s : State) : State :=
  let s := s.reloadLatch
  if s.mgtFast then s.dueCauses else s

/-- CMP goes into domain reset: the point falls to OP0 (Table 3.12, R130). -/
def State.cmpLost (s : State) : State :=
  { s with clk := { s.clk with dvfsCur := 0, dvfsMv := 600, dvfsHold := false, dvfsSettle := false, dvfsTarget := 0, dvfsState := 5, dvfsLowSince := none } }

/-- A domain's reset is asserted. [DEDUCED, log entry 22] -/
def State.domainLost (s : State) (d : Domain) : State :=
  match d with
  | .tick => s.tickLost
  | .fab => s.fabLost
  | .lnk p => s.portLost p.val
  | .cmp => s.cmpLost
  | .prb => s.prbLost
  | .srv => s.srvLost
  | .mgt => s.mgtLost
  | _ => s

/-- A domain's reset is released while it runs on source `src`. A TICK domain that a reset of the device found in its own reset starts its
counter at 0 now (R149, R158). [DEDUCED, log entry 22] -/
def State.domainBack (s : State) (d : Domain) (src : Nat) : State :=
  match d with
  | .tick =>
    if s.time.tickRun then (if src = 0 then s.tickBack else s)
    else if s.boot.step < 4 then s
    else { s with time := { s.time with tickRun := true, tick := 0, bridging := decide (src ≠ 0), bridgeLead := s.now % 10 } }
  | .fab => (List.range 6).foldl State.portBack s
  | .lnk p => s.portBack p.val
  | .cmp => State.cmpBack { s with clk := { s.clk with dvfsState := if src = 0 then 0 else 5 } }
  | .prb => s.prbBack
  | .srv => s.srvStart
  | .mgt => s.mgtBack
  | _ => s

/-! ### The CMP operating points (R125–R130) -/

/-- Frequency of a point in MHz, and its voltage in mV (Table 3.5, Table 3.9). -/
def State.opMhz (s : State) (p : Nat) : Nat := bits (s.n 0x2209 (p + 1)) 0 16
def State.opMv (s : State) (p : Nat) : Nat := bits (s.n 0x2209 (p + 1)) 16 16

/-- Input rate per lane of a point in MB/s (Table 3.5). -/
def State.opRate (s : State) (p : Nat) : Nat := 5 * s.opMhz p

/-- Effective ceiling and floor: THERM limits both to OP3 (R128, R129). -/
def State.dvfsCeil (s : State) : Nat := if bit (s.z 0x2102 0) 1 then min (s.n 0x2208 4) 3 else s.n 0x2208 4
def State.dvfsFloor (s : State) : Nat := min (s.n 0x2208 3) s.dvfsCeil

/-- The point that mode FIXED holds, or the lowest point whose rate covers the demand. -/
def State.dvfsNeed (s : State) : Nat :=
  if s.n 0x2208 1 = 0 then s.n 0x2208 2
  else ((List.range 6).find? fun p => decide (s.z 0x2208 7 ≤ s.opRate p)).getD 5

/-- The point to move to (R128): a rise at once; in mode DEMAND a fall only after 1 ms of low demand. -/
def State.dvfsPick (s : State) : Nat :=
  let cur := s.clk.dvfsCur
  let need := s.dvfsNeed
  let calm : Bool := match s.clk.dvfsLowSince with | some t => decide (t + 1000000 ≤ s.now) | none => false
  let want := if cur ≤ need ∨ s.n 0x2208 1 = 0 ∨ calm then need else cur
  max s.dvfsFloor (min s.dvfsCeil want)

/-- The sequencer starts a transition toward the latest target, when it is STABLE. -/
def State.dvfsMove (s : State) : State :=
  let c := s.clk
  let t := s.dvfsPick
  if c.dvfsState ≠ 0 ∨ t = c.dvfsCur then s
  else { s with clk := { c with dvfsTarget := t, dvfsAt := s.now, dvfsSettle := false, dvfsState := if c.dvfsCur < t then 1 else 3 } }

/-- The demand has stayed below the rate of the next lower point since this real time. -/
def State.dvfsLow (s : State) : Option Nat :=
  if 0 < s.clk.dvfsCur ∧ s.z 0x2208 7 < s.opRate (s.clk.dvfsCur - 1) then
    (match s.clk.dvfsLowSince with | some t => some t | none => some s.now)
  else none

/-- The sequencer's evaluation, every 100 µs (R128). [DESIGN CHOICE, log entry 26] -/
def State.dvfsEvaluate (s : State) : State :=
  let s := s.elapseTo (s.clk.dvfsEval + 100000)
  State.dvfsMove { s with clk := { s.clk with dvfsEval := s.now, dvfsLowSince := s.dvfsLow } }

/-- A phase's length in ns: ramp at 25 mV/µs, settling 2 µs, glide at 100 MHz/µs (R126). [DESIGN CHOICE, log entry 26] -/
def State.dvfsPhase (s : State) : Nat :=
  let c := s.clk
  if c.dvfsSettle then 2000
  else if c.dvfsState = 1 ∨ c.dvfsState = 4 then ((s.opMv c.dvfsTarget : Int) - s.opMv c.dvfsCur).natAbs * 40
  else ((s.opMhz c.dvfsTarget : Int) - s.opMhz c.dvfsCur).natAbs * 10

/-- The transition ends, and the sequencer goes on to the latest target. -/
def State.dvfsArrive (s : State) : State :=
  let s := { s with clk := { s.clk with dvfsCur := s.clk.dvfsTarget, dvfsState := 0, dvfsSettle := false, dvfsLowSince := none } }
  (s.bump 0xF030 4 1).dvfsMove

/-- A ramp, a settling or a glide ends (R126). [DESIGN CHOICE, log entry 26] -/
def State.dvfsPhaseDone (s : State) : State :=
  let c := s.clk
  if c.dvfsState = 0 ∨ c.dvfsState = 5 ∨ c.dvfsHold ∨ (s.dom .cmp).inReset then s
  else
    let s : State := s.elapseTo (c.dvfsAt + s.dvfsPhase)
    let c : Clocks := { s.clk with dvfsAt := s.now }
    if (c.dvfsState = 1 ∨ c.dvfsState = 4) ∧ !c.dvfsSettle then
      { s with clk := { c with dvfsSettle := true, dvfsMv := s.opMv c.dvfsTarget } }
    else if c.dvfsState = 1 then { s with clk := { c with dvfsSettle := false, dvfsState := 2 } }
    else if c.dvfsState = 3 then { s with clk := { c with dvfsState := 4 } }
    else State.dvfsArrive { s with clk := c }

/-- A stall of CMP abandons a transition; the voltage holds where it is (Table 3.11). -/
def State.dvfsAbandon (s : State) : State :=
  let c := s.clk
  if c.dvfsState = 0 ∨ c.dvfsState = 5 ∨ c.dvfsHold then s
  else
    let part : Int := ((s.now - c.dvfsAt) / 40 : Nat)
    let mv : Int := if (c.dvfsState = 1 ∨ c.dvfsState = 4) ∧ !c.dvfsSettle then
        (if c.dvfsState = 1 then min (s.opMv c.dvfsTarget : Int) (c.dvfsMv + part) else max (s.opMv c.dvfsTarget : Int) (c.dvfsMv - part))
      else c.dvfsMv
    { s with clk := { c with dvfsHold := true, dvfsMv := mv.toNat } }

/-! ### Switches -/

/-- From the time MGT runs on AON until it runs on SPLL, the field networks and the mailbox are out of service (R146). -/
def State.netsFollow (s : State) (src : Nat) : State :=
  if src = 2 then { s with clk := { s.clk with netsOut := true } }
  else if src = 0 then { s with clk := { s.clk with netsOut := false } }
  else s

/-- MGT comes to run on AON, or leaves it: while it does, only the JTAG mailbox reaches the dictionary (R146, R293). -/
def State.mgtSource (s : State) (old new : Nat) : State :=
  let s := s.netsFollow new
  if new = 2 ∧ old ≠ 2 then [1, 2, 3].foldl State.pathLost s
  else if old = 2 ∧ new ≠ 2 then s.mgtBack
  else s

/-- What follows when a root has come to run on a source by a normal switch. -/
def State.rootMoved (s : State) (d : Domain) (old new : Nat) : State :=
  match d with
  | .tick => if old = 0 ∧ new ≠ 0 then s.tickLost else if old ≠ 0 ∧ new = 0 ∧ s.time.bridging then s.tickBack else s
  | .cmp => if new ≠ 0 then s.cmpLost else if old ≠ 0 then State.dvfsMove { s with clk := { s.clk with dvfsState := 0 } } else s
  | .mgt => s.mgtSource old new
  | _ => s

/-- A normal switch of a root is requested (R115). -/
def State.requestRoot (s : State) (d : Domain) (src : Nat) : State :=
  let s := s.setDom d { s.dom d with switching := some src }
  s.put 0x2203 (subOfDom d) src

/-- A source produces edges: a PLL once it is started. -/
def State.srcRuns (s : State) (d : Domain) (src : Nat) : Bool :=
  match selPll d src with
  | some p => (s.pll p).started
  | none => true

/-- A normal switch completes, when both clocks produce their edges (R115, R116). -/
def State.normalDone (s : State) (d : Domain) : State :=
  let x := s.dom d
  match x.switching with
  | none => s
  | some t =>
    if x.stalled || !s.srcRuns d t then s
    else (s.setDom d { x with src := t, switching := none, running := true }).rootMoved d x.src t

/-- The meter's window meets a stall or a forced switch of its target (R132). -/
def State.meterHit (s : State) (d : Domain) : State :=
  if s.clk.meterRun ∧ domOfCode s.clk.meterTarget = some d then { s with clk := { s.clk with meterBad := true } } else s

/-- 2203h reads the source last asked for; LNK has no entry there. -/
def State.rootAsked (s : State) (d : Domain) (src : Nat) : State :=
  match d with
  | .lnk _ => s
  | _ => s.put 0x2203 (subOfDom d) src

/-- A forced switch starts: the domain reset is asserted, and a PLL that is not locked is restarted (R143). One asked for while the domain
is FORCING starts the sequence anew. [DESIGN CHOICE, log entry 24] -/
def State.startForced (s : State) (d : Domain) (src : Nat) : State :=
  let s := s.meterHit d
  let was := (s.dom d).inReset
  let s := if was then s else s.domainLost d
  let s := if was then (match d with | .cmp => s.cmpLost | _ => s) else s
  let s := s.setDom d { s.dom d with switching := none, forcing := some src, inReset := true, running := false, since := s.now }
  let s := s.rootAsked d src
  match selPll d src with
  | some p => if (s.pll p).locked then s else s.setPll p { s.pll p with started := true }
  | none => s

/-- A Lead whose Second is eligible (R764). -/
def State.leadWithSecond (s : State) : Bool := decide (s.pair.role = 2) && s.pair.eligible

/-- A forced switch that the host starts. A Lead with an eligible Second yields instead when its TICK domain is forced (R764). -/
def State.hostForced (s : State) (d : Domain) (src : Nat) : State :=
  match d with
  | .tick => if s.leadWithSecond then s.softReset .failover else s.startForced d src
  | _ => s.startForced d src

/-- A forced switch completes 32 AON cycles after its source is ready, 48 after its start at the least (R143): the reset is
released, FORCE is set, and the domain returns (R149). [DEDUCED, log entry 24] -/
def State.forcedDone (s : State) (d : Domain) : State :=
  match (s.dom d).forcing with
  | none => s
  | some src =>
    if !s.srcReady d src then s
    else
      let s := s.elapseTo ((s.dom d).since + 3000)
      let x := s.dom d
      let s := s.setDom d { x with src := src, forcing := none, inReset := false, running := true, stalled := false }
      let s := (match d with | .mgt => s.netsFollow src | _ => s).domainBack d src
      (s.setCause 0 4).bump 0xF030 2 1

/-- The new PLL does not lock within 1 ms (R144). -/
def State.forcedLate (s : State) (d : Domain) : State :=
  match (s.dom d).forcing with
  | none => s
  | some src =>
    if s.srcReady d src then s
    else
      let s := s.elapseTo ((s.dom d).since + 1001000)
      (s.setDom d { s.dom d with src := src, forcing := none }).setCause 0 1

/-! ### Stalls (R117, R118, R145) -/

/-- The boot sequencer behind an XO stall: a save is abandoned as by any reset (Table 4.11), and steps 3 to 14 run again as in a new boot
(R156). -/
def bootAfterXo (b : Boot) (now : Nat) : Boot :=
  { b.cutSave with
    step := 2, entry := 3, stepAt := now, releasedAt := now, fuseFails := 0, halted := false
    refclk := 0, prst := 0, refclkOld := 0, prstOld := 0, prstFirst := false, prstPending := 0, warmDue := false }

/-- The XO root stalls (R145, R147, R454): fan-out, clocks and every domain but AON go down, qualification runs again, its first window
3 µs after the stall [DESIGN CHOICE, log entry 23], and the boot will resume from step 3. A Lead with an eligible Second releases the
fan-out (R764) and recovers as any device does, with code 5 [DESIGN CHOICE, log entry 88]. A frequency meter window that runs completes as
not valid (R132). [DEDUCED, log entry 23] -/
def State.xoRecovery (s : State) : State :=
  let s := s.startForced .mgt 2
  let s := s.startForced .xo 1
  let down : List Domain := [.tick, .fab, .cmp, .prb, .srv, .lnk 0, .lnk 1, .lnk 2, .lnk 3, .lnk 4, .lnk 5]
  let s := down.foldl (fun (s : State) d =>
    if (s.dom d).inReset then s.setDom d { s.dom d with switching := none, forcing := none, running := false }
    else (s.domainLost d).setDom d { s.dom d with switching := none, forcing := none, inReset := true, running := false }) s
  let s := if s.boot.savePhase ≠ 0 then s.put 0x201C 2 0 else s
  let s := { s with
    time := { ppsState := if s.z 0x6003 1 = 0 then 0 else 1 }
    clk := { s.clk with
      pll := [], qualRun := true, qualAt := s.now + 3000, qualLate := false, meterBoot := true, meterBad := s.clk.meterBad || s.clk.meterRun }
    boot := bootAfterXo s.boot s.now
    mem := { s.mem with phase := 0, save := [], abandoned := false, visited := 0, abandons := 0 }
    pair := { role := b2n s.power.bootPairPres } }
  (((((s.put 0x2010 0 5).put 0x2018 2 0).put 0x2018 3 0).put 0x2205 1 0).put 0x2205 2 0).put 0x2205 3 1

/-- MGT stalls: the device forces it to REF while XO runs, else to AON (R145). -/
def State.mgtRecovery (s : State) : State :=
  s.startForced .mgt (if (s.dom .xo).running && !(s.dom .xo).stalled then 1 else 2)

/-- A clock monitor declares a stall (R117). -/
def State.stall (s : State) (d : Domain) : State :=
  match d with
  | .aon => s
  | _ =>
    let x := s.dom d
    if x.stalled then s
    else
      let s := s.setDom d { x with stalled := true, running := false }
      let s := ((s.meterHit d).setCause 0 0).bump 0xF030 1 1
      match d with
      | .cmp => s.dvfsAbandon
      | .mgt => s.mgtRecovery
      | .xo => s.xoRecovery
      | _ => s

/-- A stalled root produces an edge again (R117). -/
def State.stallEnd (s : State) (d : Domain) : State :=
  let x := s.dom d
  if x.stalled then s.setDom d { x with stalled := false, running := true } else s

/-- The AON root is found off frequency or stopped (R118). -/
def State.aonFault (s : State) (stopped : Bool) : State :=
  let s := (s.setCause 0 3).bump 0xF030 6 1
  if stopped then State.enterReset { s with power := { s.power with por := true, porAt := s.now, tripHeld := false, tripped := false, therm := false } } .por
  else s

/-! ### XO qualification and PLL lock (R112–R114, R148, R167) -/

/-- Boot step 2 starts qualification. -/
def State.startQual (s : State) : State :=
  let s := { s with
    boot := { s.boot with step := 2, stepAt := s.now }
    clk := { s.clk with qualRun := true, qualAt := s.now, qualLate := false } }
  ((s.put 0x2205 1 0).put 0x2205 2 0).put 0x2205 3 1

/-- Boot step 3 starts: RPLL is started first (R114); on a Second it follows the Rope clock only once the role is known. -/
def State.startPlls (s : State) : State :=
  let s := { s with boot := { s.boot with step := 3, stepAt := s.now } }
  s.setPll .rpll { started := true }

/-- XO is found not qualified 20 ms after the start of step 2 (R113). -/
def State.qualLate (s : State) : State :=
  if s.clk.qualLate then s
  else State.put ({ s with clk := { s.clk with qualLate := true } }.setCause 0 2) 0x2205 3 3

/-- The window that runs ends in this cycle; behind the AON cycle in which the 20 ms expire it does not come before QUAL (R14, R113). -/
def State.windowEnd (s : State) : State :=
  let s := s.elapseTo (s.clk.qualAt + 64000)
  if s.late .aon s.boot.stepAt 20000000 then s.qualLate else s

/-- The count of a window is judged: 2205h:1 and 2205h:2 take it, and a failing window counts at F030h:5 (R112). -/
def State.qualCount (s : State) (count : Nat) : State :=
  let pass := decide (6272 ≤ count) && decide (count ≤ 6528)
  let t := (s.put 0x2205 1 (min 65535 count)).put 0x2205 2 (if pass then min 255 (s.z 0x2205 2 + 1) else 0)
  if pass then t else t.bump 0xF030 5 1

/-- The next window starts as one ends. -/
def State.qualNext (s : State) : State := { s with clk := { s.clk with qualAt := s.now } }

/-- Qualification stops. -/
def State.qualStop (s : State) : State := { s with clk := { s.clk with qualRun := false } }

/-- A qualification window of 1,024 AON cycles ends (R112). -/
def State.qualWindow (s : State) (count : Nat) : State :=
  if !s.clk.qualRun then s
  else
    let t := s.windowEnd.qualNext.qualCount count
    if t.z 0x2205 2 < 4 then t else (t.put 0x2205 3 2).qualStop.startPlls

/-- XO is not qualified 20 ms after the start of step 2 (R113). -/
def State.qualTimeout (s : State) : State :=
  if !s.clk.qualRun || s.clk.qualLate then s else (s.elapseTo (s.boot.stepAt + 20000000)).qualLate

/-- A root is switched to its PLL by the boot sequencer and leaves its domain reset (R114). -/
def State.bootSwitch (s : State) (d : Domain) : State :=
  let x := s.dom d
  (s.setDom d { x with src := 0, switching := none, forcing := none, inReset := false, running := true, stalled := false }).rootAsked d 0

/-- SPLL, PPLL and CPLL are locked: the roots are switched in order, the tick counter starts at 0 (R158), and the boot goes on
to step 4 with MGT on SPLL. Behind an XO stall the lanes come back as from a CMP domain reset (R147, R735). -/
def State.pllsLocked (s : State) : State :=
  let s := ([.tick, .fab, .srv, .prb, .cmp, .mgt] : List Domain).foldl State.bootSwitch s
  let s := { s with
    time := { s.time with tickRun := true, tick := 0, bridging := false }
    clk := { s.clk with meterBoot := false, netsOut := false, dvfsState := 0, dvfsCur := 0, dvfsMv := 600, dvfsEval := s.now }
    boot := { s.boot with step := 4, stepAt := s.now } }
  let s := if s.boot.entry = 3 then s.cmpBack else s
  s.srvStart.mgtBack.dvfsMove

/-- A PLL has not locked within 1 ms at step 3: LOCK is set and the step starts again (R167). -/
def State.bootLockLate (s : State) : State :=
  if s.boot.step ≠ 3 then s
  else
    let s := (s.elapseTo (s.boot.stepAt + 1000000)).setCause 0 1
    (((s.setPll .spll {}).setPll .ppll {}).setPll .cpll {}).startPlls

/-- The domains whose source 0 is a PLL. -/
def pllDomains : List Domain := [.tick, .fab, .cmp, .prb, .srv, .mgt, .lnk 0, .lnk 1, .lnk 2, .lnk 3, .lnk 4, .lnk 5]

/-- A PLL that locks behind a limit of 1 ms comes too late for it: the limit of step 3 (R167), or that of a forced switch that waits for it
(R144), has taken its effect before (R14). -/
def State.lockLimits (s : State) (p : Pll) : State :=
  let s := if s.boot.step = 3 ∧ s.late .aon s.boot.stepAt 1000000 ∧ !(s.pll p).locked then s.bootLockLate else s
  pllDomains.foldl (fun (s : State) d =>
    if (s.dom d).forcing = some 0 ∧ srcPll d = some p ∧ s.late .aon (s.dom d).since 1001000 then s.forcedLate d else s) s

/-- A PLL locks. At step 3 the boot goes on from RPLL to the others (R114); a domain that waits for it in a forced switch is
ready now (R143). -/
def State.pllLocked (s : State) (p : Pll) : State :=
  if !(s.pll p).started then s
  else
    let s := s.lockLimits p
    let x := s.pll p
    if !x.started then s
    else
      let s := s.setPll p { x with locked := true, holdover := false }
      let s := pllDomains.foldl
        (fun (s : State) d => let y := s.dom d
          if y.forcing = some 0 ∧ srcPll d = some p ∧ !x.locked ∧ y.since + 1000 < s.now then
            s.setDom d { y with since := s.now - 1000 } else s) s
      if s.boot.step ≠ 3 then s
      else
        match p with
        | .rpll =>
          let s := s.bootSwitch .xo
          ((s.setPll .spll { started := true }).setPll .ppll { started := true }).setPll .cpll { started := true }
        | _ => if (s.pll .spll).locked && (s.pll .ppll).locked && (s.pll .cpll).locked then s.pllsLocked else s

/-- A PLL loses lock (R148): the output goes on, package time or GP may be marked. -/
def State.pllLoss (s : State) (p : Pll) : State :=
  let x := s.pll p
  if !x.locked then s
  else
    let s := s.setPll p { x with locked := false }
    ((s.setCause 0 1).bump 0xF030 3 1).syncTrace.syncProbe

/-- A PLL regains lock (R148, R151). -/
def State.pllRelock (s : State) (p : Pll) : State := (s.pllLocked p).syncTrace.syncProbe

/-! ### Frequency meter and CLKMON_OUT (R131–R135) -/

/-- A window starts (R131). -/
def State.startMeter (s : State) : State :=
  { s with clk := { s.clk with
    meterRun := true, meterTarget := s.n 0x2206 1, meterRef := s.n 0x2206 2, meterN := s.n 0x2206 3, meterBad := false, meterAt := s.now } }

/-- The window ends (R131, R132): a REF cycle lasts 10 ns and an AON cycle 62.5 ns. -/
def State.meterEnd (s : State) (count : Nat) : State :=
  let c := s.clk
  if !c.meterRun then s
  else
    let s := s.elapseTo (c.meterAt + (if c.meterRef = 0 then c.meterN * 125 / 2 else c.meterN * 10))
    let khz := count * (if c.meterRef = 0 then 16000 else 100000) / c.meterN
    let s := { s with clk := { s.clk with meterRun := false } }
    (((s.put 0x2206 5 2).put 0x2206 6 (min count (2 ^ 32 - 1))).put 0x2206 7 (min khz (2 ^ 32 - 1))).put 0x2206 8 (b2n !c.meterBad)

/-- 2206h:5: BOOT, RUNNING, DONE or IDLE. -/
def State.meterState (s : State) : Nat := if s.clk.meterBoot then 3 else if s.clk.meterRun then 1 else s.z 0x2206 5

/-- Nominal greatest frequency of a source of CLKMON_OUT in MHz (R134). [DEDUCED, log entry 27] -/
def clkmonMhz (src : Nat) : Nat :=
  match src with
  | 0 => 100 | 1 => 1000 | 2 => 1600 | 4 => 1200 | 5 => 1000 | 6 => 400 | 7 => 250 | 8 => 16 | 0x20 => 100 | 0x21 => 500 | 0x22 => 50 | 0x23 => 100
  | _ => 2000

/-- The selection of CLKMON_OUT changes: the pin is low for 32 AON cycles, then carries it (R135). -/
def State.clkmonFollow (s : State) : State :=
  let c := s.clk
  let src := s.z 0x2207 1
  let div := s.z 0x2207 2
  let on := s.b 0x2207 3
  if c.clkmonSrc = src ∧ c.clkmonDiv = div ∧ c.clkmonOn = on then s
  else { s with clk := { c with clkmonSrc := src, clkmonDiv := div, clkmonOn := on, clkmonAt := s.now + 2000 } }

/-- A source of CLKMON_OUT runs. -/
def State.clkmonRuns (s : State) (src : Nat) : Bool :=
  match domOfCode src with
  | some d => (s.dom d).running
  | none => true

/-- The level of a pin; undriven while no supply of the output is there (R30, R105). -/
inductive PinLevel where
  | undriven | z | low | high | runs
deriving DecidableEq, Repr

/-- CLKMON_OUT (Table 4.13): from step 7 on, as selected; low while it changes or its source has stopped; undriven until VDDIO is up. -/
def State.clkmonPin (s : State) : PinLevel :=
  if !s.power.vddioUp then .undriven
  else if 7 ≤ s.boot.step && s.clk.clkmonOn && decide (s.clk.clkmonAt ≤ s.now) && s.clkmonRuns s.clk.clkmonSrc then .runs else .low

end Sys2Proof.Machine
end

