-- ==== Sys2Proof/Machine/Check.lean ====
section
/-! DEFINITION. Sys2Proof/Machine/Check.lean: the consistency checker: the resulting set, every check rule of Table 7.2 and
of the home chapters, in ascending code (R306–R309). -/
namespace Sys2Proof.Machine

/-- A violation of a rule by an object A, against an object B (Table 7.3). [DEDUCED, log entry 47] -/
def vio (rule aidx asub bidx bsub : Nat) : Violation := ⟨rule, aidx, asub, bidx, bsub⟩

/-- One violation where a condition holds, none otherwise. -/
def vioIf (c : Bool) (v : Violation) : List Violation := if c then [v] else []

/-- The resulting set: each object's staged value where an entry exists, its committed value otherwise (R306). -/
def State.resulting (s : State) : State :=
  { s with obj := s.staged.foldl (fun m (e : Staged) => mset m (key e.idx e.sub) e.val) s.obj }

/-- The numbers below n. -/
def upto (n : Nat) : List Nat := List.range n

/-- Pairs i < j of a list. -/
def pairsOf {α : Type} (l : List α) : List (α × α) :=
  match l with
  | [] => []
  | a :: t => (t.map fun b => (a, b)) ++ pairsOf t

/-- Two ranges, each from its first octet for a length, overlap. -/
def overlaps (a m b n : Nat) : Bool := decide (a < b + n) && decide (b < a + m)

/-! ### Chapters 4 and 7 -/

/-- 0x0401: a reference clock stops only under a line that the committed set holds in reset (R137, R192). -/
def check0401 (s r : State) : List Violation :=
  (upto 16).flatMap fun n => vioIf (decide (n < 8) && !bit (r.n 0x220A 0) n && bit (s.n 0x2014 0) n) (vio 0x0401 0x220A 0 0x2014 0)

/-- 0x0402: a released line has its reference clock. -/
def check0402 (r : State) : List Violation :=
  (upto 8).flatMap fun n => vioIf (bit (r.n 0x2014 0) n && !bit (r.n 0x220A 0) n) (vio 0x0402 0x2014 0 0x220A 0)

/-- 0x0701: the write-time checks of R139 and R273 against other objects, on the resulting set. -/
def check0701 (r : State) : List Violation :=
  let slow := fun idx least => decide (r.n idx 1 * (1 + r.n idx 2 + r.n idx 3) < least)
  vioIf (decide (r.n 0x1101 3 < r.n 0x1101 4)) (vio 0x0701 0x1101 4 0x1101 3) ++
  vioIf (slow 0x1101 1000) (vio 0x0701 0x1101 1 0x1101 2) ++
  vioIf (decide (r.n 0x1102 3 < r.n 0x1102 4)) (vio 0x0701 0x1102 4 0x1102 3) ++
  vioIf (slow 0x1102 125) (vio 0x0701 0x1102 1 0x1102 2) ++
  vioIf (decide (r.n 0x2208 4 < r.n 0x2208 3)) (vio 0x0701 0x2208 3 0x2208 4)

/-- TDESC of the tap that an entry names, where the die of its port has it (R456, R482). -/
def State.tapDesc (s : State) (e : Nat) : Option Nat :=
  match mget s.time.die (tapPort e) with
  | some d => d.taps[tapNo e]?
  | none => none

/-- 0x0702 for taps: the port, and the tap unless an image is checked before any port is trained. -/
def namesTaps (s r : State) (img : Bool) : List Violation :=
  (upto 64).flatMap fun i =>
    let e := r.tapEntry i
    if ¬ tapEn e then []
    else if ¬ r.b 0x7000 (tapPort e + 1) then [vio 0x0702 0x3200 (i + 1) 0x7000 (tapPort e + 1)]
    else vioIf (!img && (s.tapDesc e).isNone) (vio 0x0702 0x3200 (i + 1) 0x3203 (i + 1))

/-- 0x0702 for sources: the port. -/
def namesSources (r : State) : List Violation :=
  (upto 16).flatMap fun i =>
    let e := r.srcEntry i
    vioIf (srcEn e && !r.b 0x7000 (srcPort e + 1)) (vio 0x0702 0x3201 (i + 1) 0x7000 (srcPort e + 1))

/-- 0x0702 for S31: the loop its source names (R493). -/
def namesLoop (r : State) : List Violation :=
  vioIf (loopEn (r.loopCtl 31) && decide (r.n 0x6240 2 = 3) && decide (r.n 0x6240 4 < 31) && !loopEn (r.loopCtl (r.n 0x6240 4)))
    (vio 0x0702 0x6240 2 0x6201 (r.n 0x6240 4 + 1))

/-- 0x0702 for field holds: the decoder. -/
def namesField (r : State) : List Violation :=
  (upto 8).flatMap fun x =>
    let c := r.z (0x4110 + x) 1
    let j := bits c 17 5
    vioIf (bit c 31 && (bits c 22 3 = 1 || bits c 22 3 = 2) && decide (j < 4) && !bit (r.z 0x3900 (j + 1)) 31)
      (vio 0x0702 (0x4110 + x) 1 0x3900 (j + 1))

/-- 0x0702 for auxiliary holds: decoder, loop or XTRIG_IN pin. -/
def namesAux (r : State) : List Violation :=
  (upto 4).flatMap fun x =>
    let c := r.z (0x411C + x) 1
    if ¬ bit c 31 then []
    else match bits c 16 8 with
      | 1 => vioIf (!bit (r.z 0x3900 (bits c 8 2 + 1)) 31) (vio 0x0702 (0x411C + x) 1 0x3900 (bits c 8 2 + 1))
      | 3 => vioIf (!loopEn (r.loopCtl (bits c 0 5))) (vio 0x0702 (0x411C + x) 1 0x6201 (bits c 0 5 + 1))
      | 4 => vioIf (!bit (r.z 0x3810 (bits c 0 2 + 1)) 1) (vio 0x0702 (0x411C + x) 1 0x3810 (bits c 0 2 + 1))
      | _ => []

/-- Fields of a window as the resulting set gives them. -/
def winOn (r : State) (w : Nat) : Bool := bit (r.z (0x5010 + w) 1) 31
def winFrom (r : State) (w : Nat) : Nat := r.z (0x5010 + w) 2
def winLen (r : State) (w : Nat) : Nat := r.n (0x5010 + w) 3

/-- Banks that hold a block of a window, ascending (R665, Table 17.1). -/
def winBanks (r : State) (w : Nat) : List Nat :=
  (upto 48).filter fun n => decide (winFrom r w / 2048 ≤ n / 4) && decide (n / 4 * 2048 < winFrom r w + winLen r w)

/-- 0x0702 for windows: a FAILED bank is absent (R682). -/
def namesBanks (s r : State) : List Violation :=
  (upto 16).flatMap fun w =>
    if ¬ winOn r w then []
    else (winBanks r w).flatMap fun n =>
      vioIf (decide ((s.bank n).st = 7) || decide ((s.bank n).bist = 3)) (vio 0x0702 (0x5010 + w) 2 0x2301 (n + 1))

/-- 0x0702 for matchers: the ports of PORTS (R596). -/
def namesPorts (r : State) : List Violation :=
  (upto 4).flatMap fun x =>
    let c := r.z (0x4118 + x) 1
    if ¬ bit c 31 then []
    else (upto 6).flatMap fun n => vioIf (bit c (24 + n) && !r.b 0x7000 (n + 1)) (vio 0x0702 (0x4118 + x) 1 0x7000 (n + 1))

/-- 0x0702: no enabled unit names a disabled or absent unit. [DEDUCED, log entry 47] -/
def check0702 (s r : State) (img : Bool) : List Violation :=
  namesTaps s r img ++ namesSources r ++ namesField r ++ namesPorts r ++ namesAux r ++ namesBanks s r ++ namesLoop r

/-- 0x0704: a set in mode AT_TIME holds no time write. -/
def check0704 (s : State) (atTime : Bool) : List Violation :=
  if atTime then (upto 4).flatMap fun k =>
    vioIf (s.staged.any fun e => decide (e.idx = 0x6001) && decide (e.sub = k + 1)) (vio 0x0704 0x6001 (k + 1) 0x2003 1)
  else []

/-- The objects marked "Armed: fixed". -/
def armedFixed (idx sub : Nat) : Bool :=
  (idx = 0x3000 && sub = 1) || (idx = 0x3800 && (sub = 1 || sub = 2)) || idx = 0x3802 || idx = 0x3900 || idx = 0x3901 ||
  (idx = 0x7800 && (sub = 1 || sub = 2)) || (decide (0x5010 ≤ idx) && decide (idx ≤ 0x501F)) ||
  (decide (0x5100 ≤ idx) && decide (idx ≤ 0x5103))

/-- The objects marked "Re-arms". -/
def rearms (idx sub : Nat) : Bool :=
  idx = 0x3200 || (idx = 0x4000 && sub = 11) || (decide (0x4010 ≤ idx) && decide (idx ≤ 0x4013)) || idx = 0x4018 || idx = 0x4019 ||
  (decide (0x4100 ≤ idx) && decide (idx ≤ 0x411F)) || (decide (0x4200 ≤ idx) && decide (idx ≤ 0x420F))

/-- 4000h:3 reads PENDING, ARMED or STOPPING (Table 7.2a). -/
def State.captureArmed (s : State) : Bool := s.trig.st = 1 || s.trig.st = 2 || s.trig.st = 4

/-- An entry changes the committed value (R299). -/
def State.changes (s : State) (e : Staged) : Bool := decide (s.val e.idx e.sub ≠ e.val)

/-- The staged entries by ascending object. -/
def State.stagedSorted (s : State) : List Staged :=
  (s.staged.foldl (fun (m : Map Staged) e => mset m (key e.idx e.sub) e) []).map fun e => e.2

/-- 0x0705: nothing fixed changes while the capture is armed. -/
def check0705 (s : State) : List Violation :=
  if s.captureArmed then
    (s.stagedSorted.filter fun e => armedFixed e.idx e.sub && s.changes e).map fun e => vio 0x0705 e.idx e.sub 0 0
  else []

/-- 0x07FF: the staged values were read without an uncorrectable error (R326). -/
def check07FF (s : State) : List Violation := (s.stagedSorted.filter fun e => e.bad).map fun e => vio 0x07FF e.idx e.sub 0 0

/-! ### Chapter 9: ports and outbound windows -/

/-- The enabled outbound windows: number, base and length (0 where the limit lies below the base). -/
def outWindows (r : State) : List (Nat × Nat × Nat) :=
  (upto 16).filterMap fun w =>
    if r.n 0x7032 (w + 1) ≤ 5 then some (w, r.z 0x7030 (w + 1), r.z 0x7031 (w + 1) + 1 - r.z 0x7030 (w + 1)) else none

/-- An area lies wholly inside one enabled outbound window. -/
def insideWindow (r : State) (a n : Nat) : Bool := (outWindows r).any fun w => decide (w.2.1 ≤ a) && decide (a + n ≤ w.2.1 + w.2.2)

/-- Number and base object of the enabled outbound window that holds an address, or none. -/
def windowAt (r : State) (a : Nat) : Nat × Nat :=
  match (outWindows r).find? fun w => decide (w.2.1 ≤ a) && decide (a < w.2.1 + w.2.2) with
  | some w => (0x7030, w.1 + 1)
  | none => (0, 0)

/-- Overlaps of one window with those after it, the mailbox window and the capture region. -/
def windowHits (r : State) (rest : List (Nat × Nat × Nat)) (w : Nat × Nat × Nat) : List Violation :=
  if w.2.2 = 0 then [vio 0x0902 0x7030 (w.1 + 1) 0x7031 (w.1 + 1)]
  else
    (rest.flatMap fun v => vioIf (decide (v.2.2 ≠ 0) && overlaps w.2.1 w.2.2 v.2.1 v.2.2) (vio 0x0902 0x7030 (w.1 + 1) 0x7030 (v.1 + 1))) ++
    vioIf (overlaps w.2.1 w.2.2 (r.n 0x1120 2) 65536) (vio 0x0902 0x7030 (w.1 + 1) 0x1120 2) ++
    vioIf (overlaps w.2.1 w.2.2 (r.n 0x7800 1) regionSize) (vio 0x0902 0x7030 (w.1 + 1) 0x7800 1)

/-- The windows of a list, each against those after it. -/
def windowsHit (r : State) (l : List (Nat × Nat × Nat)) : List Violation :=
  match l with
  | [] => []
  | w :: t => windowHits r t w ++ windowsHit r t

/-- The rules of Table 9.14. [DEDUCED, log entry 47] -/
def check09 (s r : State) : List Violation :=
  ((upto 6).flatMap fun n => vioIf (decide (r.n 0x7003 (n + 1) < r.n 0x7002 (n + 1))) (vio 0x0901 0x7002 (n + 1) 0x7003 (n + 1))) ++
  windowsHit r (outWindows r) ++
  ((upto 6).flatMap fun n => vioIf (decide (r.n 0x7005 (n + 1) ≠ 0xFF) && !bit (r.n 0x2014 0) (r.n 0x7005 (n + 1)) && s.b 0x7000 (n + 1))
    (vio 0x0903 0x2014 0 0x7000 (n + 1))) ++
  ((upto 6).flatMap fun n => vioIf (decide (r.n 0x7005 (n + 1) ≠ 0xFF) && !bit (r.n 0x2014 0) (r.n 0x7005 (n + 1)) && r.b 0x7000 (n + 1))
    (vio 0x0904 0x7000 (n + 1) 0x2014 0)) ++
  ((upto 16).flatMap fun w =>
    let p := r.n 0x7032 (w + 1)
    vioIf (decide (p ≤ 5) && !(r.b 0x7000 (p + 1) && decide (r.n 0x7033 (w + 1) / 16 = p + 1)))
      (vio 0x0905 0x7032 (w + 1) 0x7033 (w + 1)))

/-! ### Chapters 10 and 11 -/

/-- The rule of Table 10.11. -/
def check0A01 (r : State) : List Violation :=
  let b := r.n 0x7800 1
  vioIf (decide (b % 2 ^ 27 ≠ 0) || decide (2 ^ 52 < b + regionSize) || overlaps b regionSize (r.n 0x1120 2) 65536)
    (vio 0x0A01 0x7800 1 0x1120 2)

/-- Enabled taps whose description the device holds: number, entry and TDESC. [DEDUCED, log entry 48] -/
def describedTaps (s r : State) : List (Nat × Nat × Nat) :=
  (upto 64).filterMap fun i =>
    let e := r.tapEntry i
    if tapEn e then (s.tapDesc e).map fun w => (i, e, w) else none

/-- First channel and width of a described tap. -/
def tapSpan (t : Nat × Nat × Nat) : Nat × Nat := (8 * tapOffset t.2.1, widthBits (bits t.2.2 29 3))

/-- 0x0B01: placement inside the group, and no shared channel. -/
def check0B01 (l : List (Nat × Nat × Nat)) : List Violation :=
  match l with
  | [] => []
  | t :: rest =>
    vioIf (decide (256 < (tapSpan t).1 + (tapSpan t).2) || decide ((tapSpan t).1 % (tapSpan t).2 ≠ 0)) (vio 0x0B01 0x3200 (t.1 + 1) 0 0) ++
    (rest.flatMap fun u => vioIf (decide (tapGroup t.2.1 = tapGroup u.2.1) && overlaps (tapSpan t).1 (tapSpan t).2 (tapSpan u).1 (tapSpan u).2)
      (vio 0x0B01 0x3200 (t.1 + 1) 0x3200 (u.1 + 1))) ++
    check0B01 rest

/-- 0x0B02: the tap's port and counter name an enabled source; a source that only lacks its enable is object B. [DEDUCED, log entry 47] -/
def check0B02 (r : State) (t : Nat × Nat × Nat) : List Violation :=
  let same := (upto 16).filter fun i => decide (srcPort (r.srcEntry i) = tapPort t.2.1) && decide (srcCtr (r.srcEntry i) = bits t.2.2 24 2)
  if same.any fun i => srcEn (r.srcEntry i) then []
  else match same with
    | [] => [vio 0x0B02 0x3200 (t.1 + 1) 0 0]
    | i :: _ => [vio 0x0B02 0x3200 (t.1 + 1) 0x3201 (i + 1)]

/-- 0x0B03: no two enabled sources name one counter. -/
def check0B03 (r : State) : List Violation :=
  (pairsOf ((upto 16).filter fun i => srcEn (r.srcEntry i))).flatMap fun p =>
    vioIf (decide (srcPort (r.srcEntry p.1) = srcPort (r.srcEntry p.2)) && decide (srcCtr (r.srcEntry p.1) = srcCtr (r.srcEntry p.2)))
      (vio 0x0B03 0x3201 (p.1 + 1) 0x3201 (p.2 + 1))

/-- The rules of Table 11.13; those that rest on a tap's status are left out of the check of an image, before any port is
trained. -/
def check0B (s r : State) (img : Bool) : List Violation :=
  let taps := if img then [] else describedTaps s r
  check0B01 taps ++ taps.flatMap (check0B02 r) ++ check0B03 r ++
  (taps.flatMap fun t => vioIf (tapChange t.2.1 && !bit t.2.2 26) (vio 0x0B04 0x3200 (t.1 + 1) 0 0)) ++
  vioIf (decide (r.n 0x6001 1 = 3) && decide (r.n 0x6003 1 = 0)) (vio 0x0B05 0x6001 1 0x6003 1)

/-! ### Chapter 12: Belay -/

/-- Sum of the nominal costs of the enabled loops scheduled in a frame (R497). [DEDUCED, log entry 73] -/
def frameCost (loops : List (Nat × Nat)) (f : Nat) : Nat :=
  (loops.map fun l => if scheduled l.2 f then nominalCost l.2 else 0).sum

/-- The heaviest of some frames, the first of equals. -/
def heaviest (loops : List (Nat × Nat)) (fs : List Nat) : Nat × Nat :=
  fs.foldl (fun (best : Nat × Nat) f => if best.1 < frameCost loops f then (frameCost loops f, f) else best) (0, 0)

/-- 0x0C01: the frame budget; object A is the first loop in ORDER of the heaviest failing frame. -/
def check0C01 (r : State) : List Violation :=
  let loops := ((upto 32).map fun l => (l, r.loopCtl l)).filter fun l : Nat × Nat => loopEn l.2
  let h := heaviest loops (upto 1024)
  if 384 < h.1 + r.n 0x6200 2 then
    let first := (loops.filter fun l : Nat × Nat => scheduled l.2 h.2).foldl (fun (best : Option (Nat × Nat)) l =>
      match best with
      | some x => if loopOrder l.2 < loopOrder x.2 then some l else best
      | none => some l) none
    [vio 0x0C01 0x6201 ((first.map fun l : Nat × Nat => l.1 + 1).getD 0) 0x6200 2]
  else []

/-- 0x0C03: ORDER is unique among enabled loops. -/
def check0C03 (r : State) : List Violation :=
  (pairsOf ((upto 32).filter fun l => loopEn (r.loopCtl l))).flatMap fun p =>
    vioIf (decide (loopOrder (r.loopCtl p.1) = loopOrder (r.loopCtl p.2))) (vio 0x0C03 0x6201 (p.1 + 1) 0x6201 (p.2 + 1))

/-- 0x0C05: the compensator of a loop holds an integrator. [DEDUCED, log entry 47] -/
def check0C05 (r : State) (l : Nat) : List Violation :=
  let w := r.loopCtl l
  let c := fun k => r.i (0x6210 + l) k
  if ¬ loopEn w then []
  else match loopType w with
    | 1 => vioIf (decide (c 4 + c 5 ≠ -(2 ^ 24 : Int))) (vio 0x0C05 (0x6210 + l) 4 0 0)
    | 2 => vioIf (decide (c 5 + c 6 + c 7 ≠ -(2 ^ 24 : Int))) (vio 0x0C05 (0x6210 + l) 5 0 0)
    | _ => []

/-- The chain of outer loops from a loop ends within `fuel` steps. -/
def chainEnds (r : State) (fuel l : Nat) : Bool :=
  match fuel with
  | 0 => false
  | fuel + 1 => if loopNest (r.loopCtl l) then chainEnds r fuel (loopOuter (r.loopCtl l)) else true

/-- 0x0C06: the outer loop of a loop with NEST set, enabled or not. -/
def check0C06 (r : State) (l : Nat) : List Violation :=
  let w := r.loopCtl l
  let o := loopOuter w
  vioIf (loopNest w && !(decide (o ≠ l) && loopEn (r.loopCtl o) && decide (loopDiv w ≤ loopDiv (r.loopCtl o)) && chainEnds r 33 l))
    (vio 0x0C06 0x6201 (l + 1) 0x6201 (o + 1))

/-- The rules of Table 12.8. [DEDUCED, log entry 49] -/
def check0C (r : State) : List Violation :=
  check0C01 r ++
  ((upto 32).flatMap fun l =>
    let w := r.loopCtl l
    vioIf (decide (10 < bits w 52 4) || decide (loopDiv w ≤ loopPhase w) || decide (loopType w = 3) || decide (loopAw w = 3)) (vio 0x0C02 0x6201 (l + 1) 0 0)) ++
  check0C03 r ++
  ((upto 32).flatMap fun l =>
    let a := r.i 0x6203 (l + 1)
    let b := r.i 0x6204 (l + 1)
    vioIf (decide (b < a) || decide (a < loopMin l) || decide (loopMax l < b)) (vio 0x0C04 0x6203 (l + 1) 0x6204 (l + 1))) ++
  (upto 32).flatMap (check0C05 r) ++ (upto 32).flatMap (check0C06 r) ++
  ((upto 32).flatMap fun l => vioIf (decide (loopType (r.loopCtl l) = 0) && (decide (r.i (0x6210 + l) 4 < 0) || decide ((2 ^ 24 : Int) ≤ r.i (0x6210 + l) 4)))
    (vio 0x0C07 (0x6210 + l) 4 0 0)) ++
  vioIf (decide (r.n 0x6240 2 = 3) && decide (r.n 0x6240 4 = 31)) (vio 0x0C08 0x6240 2 0x6240 4)

/-! ### Chapters 14 and 15 -/

/-- A GP channel lies in an enabled granule, on an even channel of a differential one. -/
def channelBad (r : State) (c : Nat) : Bool :=
  let g := r.z 0x3802 (c / 8 + 1)
  !bit g 15 || (bit g 14 && decide (c % 2 = 1))

/-- The rules of Table 14.11. -/
def check0E (r : State) : List Violation :=
  ((upto 4).flatMap fun j =>
    let c := r.z 0x3900 (j + 1)
    let i := r.z 0x3901 (j + 1)
    if ¬ bit c 31 then []
    else ([bits i 0 6, bits i 8 6] ++ (if bit c 26 then [bits i 16 6] else [])).flatMap fun ch =>
      vioIf (channelBad r ch) (vio 0x0E01 0x3901 (j + 1) 0x3802 (ch / 8 + 1))) ++
  ((upto 8).flatMap fun g => vioIf (decide (bits (r.z 0x3802 (g + 1)) 10 2 = 3)) (vio 0x0E02 0x3802 (g + 1) 0 0)) ++
  ((upto 4).flatMap fun n => vioIf (decide (bits (r.z 0x3811 (n + 1)) 12 2 = 3)) (vio 0x0E02 0x3811 (n + 1) 0 0)) ++
  ((upto 4).flatMap fun j => vioIf (decide (5 ≤ bits (r.z 0x3900 (j + 1)) 28 3) || decide (bits (r.z 0x3900 (j + 1)) 23 2 = 3)) (vio 0x0E02 0x3900 (j + 1) 0 0)) ++
  ((upto 4).flatMap fun j => vioIf (decide (r.z 0x3903 (j + 1) ≠ 0) && decide (r.z 0x3903 (j + 1) ≤ 2 * r.z 0x3904 (j + 1))) (vio 0x0E03 0x3904 (j + 1) 0x3903 (j + 1))) ++
  vioIf (decide (r.z 0x3800 1 = 2) && !((upto 8).any fun g => bit (r.z 0x3802 (g + 1)) 15)) (vio 0x0E04 0x3800 1 0 0)

/-- The pairs of TRUE and FALSE masks: those of the terms, and those of the auto terms (R604, R603). -/
def maskPairs : List (Nat × Nat × Nat × Nat) :=
  ((upto 8).map fun i => (0x4011, i + 1, 0x4012, i + 1)) ++
  (upto 16).flatMap fun l => (upto 32).map fun u => (0x4200 + l, 5 + 2 * u, 0x4200 + l, 6 + 2 * u)

/-- 0x0F03 for a branch control word. -/
def branchBad (c : Nat) : Bool :=
  decide (8 < bits c 60 4) || decide (bits c 43 8 &&& bits c 35 8 ≠ 0) || decide (bits c 27 8 &&& bits c 19 8 ≠ 0) || decide (bits c 52 2 = 3)

/-- A field hold breaks 0x0F06. -/
def fieldBad (r : State) (x : Nat) : Bool :=
  let c := r.z (0x4110 + x) 1
  let w := bits c 0 7
  let lo := r.z (0x4110 + x) 3
  let hi := r.z (0x4110 + x) 4
  let top := if bits c 17 5 = 16 then 64 else 256
  (decide (bits c 22 3 = 0) && (decide (w = 0) || decide (top < bits c 8 9 + w))) ||
  ((bits c 28 3 = 2 || bits c 28 3 = 3) && (if bit c 25 then decide (toInt 64 hi < toInt 64 lo) else decide (hi < lo)))

/-- 0x0F08 for the control words of pattern, field and auxiliary holds. -/
def patternCtlBad (c : Nat) : Bool := decide (4 < bits c 28 3) || decide (bits c 26 2 = 3) || decide (16 < bits c 16 5)
def fieldCtlBad (c : Nat) : Bool :=
  decide (4 < bits c 28 3) || decide (bits c 26 2 = 3) || decide (2 < bits c 22 3) ||
  (decide (bits c 22 3 = 0) && decide (16 < bits c 17 5)) || (decide (bits c 22 3 ≠ 0) && decide (3 < bits c 17 5))
def auxCtlBad (c : Nat) : Bool :=
  decide (bits c 27 2 = 3) || decide (bits c 16 8 = 0) || decide (6 < bits c 16 8) || (decide (bits c 16 8 = 6) && decide (16 < bits c 0 5))

/-- The control words of a kind of hold, against a rule. -/
def holdVios (r : State) (base n : Nat) (bad : Nat → Nat → Bool) (v : Nat → Violation) : List Violation :=
  (upto n).flatMap fun x => vioIf (bad x (r.z (base + x) 1)) (v x)

/-- The rules of Table 15.13. 0x0F06, and 0x0F08 for auxiliary holds, look at enabled holds only: WIDTH 0 and SRC 0, which they refuse, are
the defaults of every hold. [DEDUCED, log entry 47] -/
def check0F (r : State) : List Violation :=
  (maskPairs.flatMap fun p => vioIf (decide ((r.z p.1 p.2.1 &&& r.z p.2.2.1 p.2.2.2) % 2 ^ 48 ≠ 0)) (vio 0x0F01 p.1 p.2.1 p.2.2.1 p.2.2.2)) ++
  ((upto 8).flatMap fun i =>
    vioIf (decide (bits (r.z 0x4011 (i + 1)) 32 8 ≠ 0)) (vio 0x0F02 0x4011 (i + 1) 0 0) ++
    vioIf (decide (bits (r.z 0x4012 (i + 1)) 32 8 ≠ 0)) (vio 0x0F02 0x4012 (i + 1) 0 0)) ++
  ((upto 16).flatMap fun l => (upto 4).flatMap fun b => vioIf (branchBad (r.z (0x4200 + l) (b + 1))) (vio 0x0F03 (0x4200 + l) (b + 1) 0 0)) ++
  ((upto 16).flatMap fun l => (upto 4).flatMap fun b =>
    let c := r.z (0x4200 + l) (b + 1)
    if bit c 58 then (upto (min 8 (bits c 60 4))).flatMap fun t =>
      vioIf (decide (bits (r.z (0x4200 + l) (5 + 16 * b + 2 * t)) 40 8 = 0)) (vio 0x0F04 (0x4200 + l) (b + 1) (0x4200 + l) (5 + 16 * b + 2 * t))
    else []) ++
  holdVios r 0x4100 16 (fun x c => decide (bits c 16 5 = 16) && decide (r.n (0x4100 + x) 2 / 2 ^ 64 ≠ 0)) (fun x => vio 0x0F05 (0x4100 + x) 2 (0x4100 + x) 1) ++
  holdVios r 0x4110 8 (fun x c => bit c 31 && fieldBad r x) (fun x => vio 0x0F06 (0x4110 + x) 1 (0x4110 + x) 3) ++
  holdVios r 0x4118 4 (fun x _ => decide (r.n (0x4118 + x) 3 < r.z (0x4118 + x) 2)) (fun x => vio 0x0F07 (0x4118 + x) 2 (0x4118 + x) 3) ++
  holdVios r 0x4100 16 (fun _ c => patternCtlBad c) (fun x => vio 0x0F08 (0x4100 + x) 1 0 0) ++
  holdVios r 0x4110 8 (fun _ c => fieldCtlBad c) (fun x => vio 0x0F08 (0x4110 + x) 1 0 0) ++
  holdVios r 0x411C 4 (fun _ c => bit c 31 && auxCtlBad c) (fun x => vio 0x0F08 (0x411C + x) 1 0 0) ++
  ((upto 8).flatMap fun i => vioIf (decide (r.n 0x4010 (i + 1) = 0) || decide (2 ^ 48 ≤ r.n 0x4010 (i + 1))) (vio 0x0F09 0x4010 (i + 1) 0 0)) ++
  ((upto 8).flatMap fun j => vioIf (decide (r.n 0x4018 (j + 1) = 0) || decide (2 ^ 48 ≤ r.n 0x4018 (j + 1))) (vio 0x0F09 0x4018 (j + 1) 0 0))

/-! ### Chapters 16, 18 and 19 -/

/-- Index of the control object of a hold. -/
def holdIdx (x : Nat) : Nat := 0x4100 + x

/-- 0x1002 for an enabled window. -/
def check1002 (r : State) (w : Nat) : List Violation :=
  let c := r.z (0x5010 + w) 1
  vioIf (decide (bits (r.z (0x5010 + w) 4) 0 19 = 0)) (vio 0x1002 (0x5010 + w) 1 (0x5010 + w) 4) ++
  vioIf (decide (bits c 29 2 = 3) || decide (bits c 27 2 = 3)) (vio 0x1002 (0x5010 + w) 1 0 0) ++
  vioIf (decide (bits c 29 2 = 2) && !bit (r.z (holdIdx (bits c 19 5)) 1) 31) (vio 0x1002 (0x5010 + w) 1 (holdIdx (bits c 19 5)) 1)

/-- Ring, producer line and consumer line of a stream: first octet and length. -/
def streamAreas (r : State) (st : Nat) : List (Nat × Nat) :=
  [(r.z (0x5100 + st) 2, r.n (0x5100 + st) 3), (r.z (0x5100 + st) 4, 64), (r.z (0x5100 + st) 5, 64)]

/-- 0x1004 for an enabled stream. -/
def check1004 (r : State) (st : Nat) : List Violation :=
  let w := bits (r.z (0x5100 + st) 1) 0 4
  let areas := streamAreas r st
  vioIf (!winOn r w || (upto st).any fun q => bit (r.z (0x5100 + q) 1) 15 && decide (bits (r.z (0x5100 + q) 1) 0 4 = w))
    (vio 0x1004 (0x5100 + st) 1 (0x5010 + w) 1) ++
  vioIf (decide (r.z (0x5100 + st) 2 % 4096 ≠ 0) || decide (r.n (0x5100 + st) 3 % 4096 ≠ 0) || decide (r.z (0x5100 + st) 4 % 64 ≠ 0) || decide (r.z (0x5100 + st) 5 % 64 ≠ 0))
    (vio 0x1004 (0x5100 + st) 1 (windowAt r (r.z (0x5100 + st) 2)).1 (windowAt r (r.z (0x5100 + st) 2)).2) ++
  ((pairsOf areas).flatMap fun p => vioIf (overlaps p.1.1 p.1.2 p.2.1 p.2.2)
    (vio 0x1004 (0x5100 + st) 1 (windowAt r p.2.1).1 (windowAt r p.2.1).2)) ++
  (areas.flatMap fun a => vioIf (!insideWindow r a.1 a.2) (vio 0x1004 (0x5100 + st) 1 (windowAt r a.1).1 (windowAt r a.1).2))

/-- The rules of Table 16.9. [DEDUCED, log entry 47] -/
def check10 (r : State) : List Violation :=
  let wins := (upto 16).filter (winOn r)
  (wins.flatMap fun w =>
    vioIf (decide (24576 < winFrom r w + winLen r w)) (vio 0x1001 (0x5010 + w) 2 0 0) ++
    vioIf (decide (64 * winLen r w ≤ r.n 0x7802 1)) (vio 0x1001 (0x5010 + w) 2 0x7802 1) ++
    ((wins.filter fun v => decide (w < v)).flatMap fun v => vioIf (overlaps (winFrom r w) (winLen r w) (winFrom r v) (winLen r v))
      (vio 0x1001 (0x5010 + w) 2 (0x5010 + v) 2))) ++
  wins.flatMap (check1002 r) ++
  (wins.flatMap fun w => (winBanks r w).flatMap fun n => vioIf (decide (r.z 0x2300 (n + 1) ≠ 0)) (vio 0x1003 (0x5010 + w) 2 0x2300 (n + 1))) ++
  ((upto 4).filter fun st => bit (r.z (0x5100 + st) 1) 15).flatMap (check1004 r)

/-- The rules of Chapter 18. [DEDUCED, log entry 47] -/
def check12 (s r : State) : List Violation :=
  vioIf (r.b 0x5801 2 && !insideWindow r (r.z 0x5801 1) 1024) (vio 0x1201 0x5801 1 (windowAt r (r.z 0x5801 1)).1 (windowAt r (r.z 0x5801 1)).2) ++
  (if r.b 0x5800 1 then [] else (upto 4).flatMap fun st => vioIf (bit (r.z (0x5100 + st) 1) 15) (vio 0x1202 (0x5100 + st) 1 0x5800 1)) ++
  vioIf (decide (r.val 0x5801 1 ≠ s.val 0x5801 1) && decide (s.jobsPending ≠ 0)) (vio 0x1203 0x5801 1 0x5802 3)

/-- The rules of Chapter 19. -/
def check13 (s r : State) : List Violation :=
  vioIf (s.power.bootPairPres && !bit (r.n 0x220A 0) (r.n 0x8002 2)) (vio 0x1301 0x8002 2 0x220A 0) ++
  ([(1, 0x1100, 2), (2, 0x1110, 2), (3, 0x1110, 3), (4, 0x1111, 2)].flatMap fun k : Nat × Nat × Nat =>
    vioIf (decide (r.val 0x8010 k.1 = r.val k.2.1 k.2.2)) (vio 0x1302 0x8010 k.1 k.2.1 k.2.2)) ++
  vioIf (decide (r.n 0x8010 3 &&& r.n 0x1110 4 ≠ r.n 0x1110 3 &&& r.n 0x1110 4)) (vio 0x1302 0x8010 3 0x1110 3) ++
  vioIf (decide (r.n 0x8000 1 ≠ 0) && decide (s.pair.partnerId ≠ 0) && decide (r.n 0x8000 1 ≠ s.pair.partnerId)) (vio 0x1303 0x8000 1 0 0)

/-- The rules of Chapter 4 and 7 but 0x07FF. -/
def check04 (s r : State) (img atTime : Bool) : List Violation :=
  check0401 s r ++ check0402 r ++ check0701 r ++ check0702 s r img ++ check0704 s atTime ++ check0705 s

/-- The rules of Chapters 9 to 19. -/
def checkHome (s r : State) (img : Bool) : List Violation :=
  check09 s r ++ check0A01 r ++ check0B s r img ++ check0C r ++ check0E r ++ check0F r ++ check10 r ++ check12 s r ++ check13 s r

/-- Everything the checker reports of the inputs at its start, but the store reads of 0x07FF (R306, R307). [DEDUCED, log entry 44; DEDUCED, log entry 47] -/
def State.checkStart (s : State) (atTime : Bool) : List Violation :=
  check04 s s.resulting false atTime ++ checkHome s s.resulting false

/-- The violations of a check that ends, in ascending code: those found at its start, and 0x07FF (R307, R326). [DEDUCED, log entry 44] -/
def State.checkEnd (s : State) : List Violation :=
  (s.commit.found.filter fun v => decide (v.rule < 0x0800)) ++ check07FF s ++ s.commit.found.filter fun v => decide (0x0800 ≤ v.rule)

end Sys2Proof.Machine
end

