-- ==== Sys2Proof/Machine/Records.lean ====
section
/-! DEFINITION. Sys2Proof/Machine/Records.lean: values as octets and object records (Tables 4.7, 5.2), the committed set as
records, and the sets that a Lead sends to its Second (Chapters 4, 5, 19). -/
namespace Sys2Proof.Machine

/-- A value in the dictionary's encoding (Table 5.2). -/
def valOctets (t : Ty) (v : Val) : Octets :=
  match t with
  | .octets => valOct v
  | _ => leBytes (tyLen t) (valNum v)

/-- Octets as a value of a type. -/
def octetsVal (t : Ty) (o : Octets) : Val :=
  match t with
  | .octets => .oct o
  | _ => .num (leNat o)

/-- An object record (Table 4.7). -/
def recordOctets (idx sub : Nat) (t : Ty) (v : Val) : Octets :=
  let o := valOctets t v
  leBytes 2 idx ++ leBytes 1 sub ++ leBytes 1 (tyCode t) ++ leBytes 2 o.length ++ zeros 2 ++ o ++ zeros ((4 - o.length % 4) % 4)

/-- A class whose values are committed (Table 5.3). -/
def stagedClass (c : Cls) : Bool :=
  match c with
  | .s => true
  | .o => true
  | .k => true
  | _ => false

/-- The committed objects that differ from their defaults, ascending, without 6001h (R184, R474). -/
def State.committedEntries (s : State) : List (Nat × Nat × Ty × Val) :=
  s.obj.filterMap fun e : Nat × Val =>
    match findRow (e.1 / 256) (e.1 % 256) with
    | some r => if stagedClass r.cls && decide (e.2 ≠ defaultVal (e.1 / 256) (e.1 % 256)) && decide (e.1 / 256 ≠ 0x6001) then some (e.1 / 256, e.1 % 256, r.ty, e.2) else none
    | none => none

/-- Their records, in order. -/
def State.committedRecords (s : State) : List Octets := s.committedEntries.map fun e => recordOctets e.1 e.2.1 e.2.2.1 e.2.2.2

/-- The records of the staged set. -/
def State.stagedRecords (s : State) : List Octets :=
  s.stagedSorted.filterMap fun e => (findRow e.idx e.sub).map fun r => recordOctets e.idx e.sub r.ty e.val

/-- The Lead sends a set: SET_BEGIN, one SET_REC for each record, SET_END with its CRC (Table 19.5). -/
def State.sendSet (s : State) (kind : Nat) (recs : List Octets) : State :=
  let n := s.pair.setNo + 1
  let s := { s with pair := { s.pair with setNo := n, setKind := kind } }
  let s := s.campSend false 2 (leBytes 4 n ++ leBytes 1 kind ++ leBytes 4 recs.length)
  let s := recs.foldl (fun s r => s.campSend false 3 r) s
  s.campSend false 4 (leBytes 4 n ++ leBytes 4 (crc32c recs.flatten))

/-- BOUNDARY of the last set sent: tick T, or 0 for at once; apply or cancel. -/
def State.sendBoundary (s : State) (t : Nat) (cancel : Bool) : State :=
  s.campSend true 6 (leBytes 4 s.pair.setNo ++ leBytes 8 t ++ leBytes 1 (b2n cancel))

/-- The Lead sends the CATCHUP set (R754). -/
def State.sendCatchup (s : State) : State := s.sendSet 0 s.committedRecords

/-- The levels of Table 19.10 as one mask: ELIGIBLE, ALIGNED, LOS, LEAD. -/
def State.ropeMask (s : State) : Nat :=
  b2n s.pair.eligible + 16 * b2n s.pair.aligned + 32 * b2n (decide (s.pair.los ≠ 0)) + 64 * b2n (decide (s.pair.role = 2))

/-- The Rope event levels follow in this tick (R768). -/
def State.syncRope (s : State) : State :=
  let old := match s.sig.rope with | e :: _ => e.2 | [] => 0
  if old = s.ropeMask then s else { s with sig := { s.sig with rope := (s.time.tick, s.ropeMask) :: s.sig.rope } }

/-- A Rope event pulse in this tick (R768). -/
def State.ropePulse (s : State) (code : Nat) : State :=
  { s with sig := { s.sig with ropePulse := (s.time.tick, code) :: s.sig.ropePulse } }

/-- A change of eligibility: its loss is counted (R762, Table 19.12). -/
def State.setEligible (s : State) (e : Bool) : State :=
  let s := if s.pair.eligible && !e then s.bump 0xF090 11 1 else s
  State.syncRope (State.syncInelig { s with pair := { s.pair with eligible := e } })

end Sys2Proof.Machine
end

