-- ==== Sys2Proof/Machine/Commit.lean ====
section
/-! DEFINITION. Sys2Proof/Machine/Commit.lean: the commit engine: request, check, mirroring, the choice of the boundary, what
each unit does when the set applies, cancellation (Chapter 7). -/
namespace Sys2Proof.Machine

/-! ### What the units do when a set applies at tick T -/

/-- The set changes an object of a range of indices. -/
def touches (l : List Staged) (i0 i1 : Nat) : Bool := l.any fun e => decide (i0 ≤ e.idx) && decide (e.idx ≤ i1)

/-- The set changes subindex `sub` of an index. -/
def touchesSub (l : List Staged) (idx sub : Nat) : Bool := l.any fun e => decide (e.idx = idx) && decide (e.sub = sub)

/-- Paths whose enable the set clears leave service; new CAN timing waits for bus idle (R274, R293). -/
def State.hookAccess (s : State) (l : List Staged) : State :=
  let s := if touchesSub l 0x1100 1 ∧ ¬ s.b 0x1100 1 then s.pathLost 1 else s
  let s := if touchesSub l 0x1110 1 ∧ ¬ s.b 0x1110 1 then s.pathLost 2 else s
  let s := if touchesSub l 0x1120 1 ∧ ¬ s.b 0x1120 1 then s.pathLost 3 else s
  let s := if (touches l 0x1100 0x1100 ∨ touches l 0x8010 0x8010) ∧ s.pair.role ≠ 1 then
      { s with acc := { s.acc with canNode := s.n (if s.pair.role = 3 then 0x8010 else 0x1100) (if s.pair.role = 3 then 1 else 2) } } else s
  if touches l 0x1101 0x1102 then { s with acc := { s.acc with canPending := true } } else s

/-- The masks as the always-on latch holds them (R341). [DEDUCED, log entry 36] -/
def State.latchMasks (s : State) : Map Nat := (upto 16).map fun br => (br, s.mask br)

/-- The pin and the frames follow new masks (R339). -/
def State.hookAlerts (s : State) (l : List Staged) : State :=
  if touches l 0x2111 0x2120 then State.alertSync { s with alerts := { s.alerts with masks := s.latchMasks } } else s

/-- The first release of a boot, at real time t, gives 2018h:2. -/
def State.firstRelease (s : State) (t : Nat) : State :=
  if s.boot.prstFirst then s
  else { s with boot := { s.boot with prstFirst := true } }.put 0x2018 2 (min ((t - s.boot.releasedAt) / 1000) (2 ^ 32 - 1))

/-- The lines as they are now, to which a commit's edges refer (R136, R192). -/
def Boot.noteFan (b : Boot) (now : Nat) : Boot := { b with refclkOld := b.refclk, prstOld := b.prst, fanAt := now }

/-- Lines that a commit of 2014h:0 releases. -/
def State.newlyReleased (s old : State) : Nat := andNot (s.n 0x2014 0 % 256) (old.n 0x2014 0)

/-- PRST_N_OUT follows a changed mask: a cleared bit is low in T, a set one goes high at the first rising edge of REF at or after it (R192);
a line whose release of step 10 is pending stays low where its bit is cleared (Table 4.11). -/
def State.fanPrst (s old : State) : State :=
  let s' := { s with boot := { s.boot with
    prst := (s.boot.prst ||| s.newlyReleased old) &&& s.n 0x2014 0, prstPending := s.boot.prstPending &&& s.n 0x2014 0 } }
  if s.newlyReleased old ≠ 0 then s'.firstRelease (roundUp s.now 10) else s'

/-- REFCLK_OUT and PRST_N_OUT follow their masks once step 9 and step 10 have begun (R136, R192, R195); at which edge a line moves is the
pin's (R136, R192). -/
def State.hookFanout (s : State) (l : List Staged) (old : State) : State :=
  let clk := touches l 0x220A 0x220A && decide (9 ≤ s.boot.step)
  let rst := touches l 0x2014 0x2014 && decide (10 ≤ s.boot.step)
  if !s.acts || !(clk || rst) then s
  else
    let s := { s with boot := s.boot.noteFan s.now }
    let s := if clk then { s with boot := { s.boot with refclk := s.n 0x220A 0 % 256 } } else s
    if rst then s.fanPrst old else s

/-- The agents of a port lose every capture line they hold, by SNP_INV (R443). -/
def State.recallAgents (s : State) (p : Nat) : State :=
  (s.coh.filter.filter fun e : Nat × FilterEntry => e.2.holders.any fun h => decide (portOfSid h = p)).foldl
    (fun s e => s.quiesceLine e.1) s

/-- The device caching agent gives up every line homed behind a port (R443). -/
def State.giveUpLines (s : State) (p : Nat) : State :=
  (s.coh.desc.filter fun e : Nat × DescLine => decide (e.2.port = p)).foldl (fun s e => s.giveUp e.1) s

/-- A commit disables a port: a trained one is quiesced, another is disabled at once (R388, R443). [DEDUCED, log entry 46] -/
def State.quiescePort (s : State) (p : Nat) : State :=
  let x := s.port p
  if x.st = 5 ∨ x.st = 6 then (s.setPort p { x with st := 7, quiesceAt := none }).recallAgents p |>.giveUpLines p
  else s.portDisable p

/-- A commit enables a port: it trains at once on a device that acts and has come to step 11 (R358, R390); one that is still
quiescing trains at the end of its quiesce. -/
def State.enablePort (s : State) (p : Nat) : State :=
  if (s.port p).st = 7 then s
  else if s.acts ∧ 11 ≤ s.boot.step then s.startTraining p else s.setPort p (freshLink (s.port p) 1)

/-- Ports follow their enables. [DEDUCED, log entry 45] -/
def State.hookPorts (s : State) (l : List Staged) : State :=
  (upto 6).foldl (fun s p =>
    if touchesSub l 0x7000 (p + 1) then (if s.b 0x7000 (p + 1) then s.enablePort p else s.quiescePort p) else s) s

/-- Taps, sources and the time base (R450, R457, R466, R472, R478, R479, R540). -/
def State.hookTime (s : State) (l : List Staged) (old : State) (all : List Staged) : State :=
  let s := (upto 64).foldl (fun s i => if touchesSub l 0x3200 (i + 1) then s.tapEntryChange i else s) s
  let s := (upto 16).foldl (fun s i => if touchesSub l 0x3201 (i + 1) then s.sourceEntryChange i else s) s
  let s := if touchesSub l 0x6003 1 then s.ppsModeChange (old.n 0x6003 1) else s
  let s := if touchesSub l 0x6004 1 then s.startPpsOut else s
  if all.any fun e => decide (e.idx = 0x6001) then s.commitTimeWrite.tapsFollow else s

/-- The alignment horizon changes (R545). -/
def State.hookHorizon (s : State) (l : List Staged) : State :=
  if touchesSub l 0x3000 1 then
    let h := s.n 0x3000 1
    let old := s.time.horizon
    let s := if s.time.lastRelease.isNone then s
      else if old < h then { s with time := { s.time with empties := s.time.empties + (h - old) } }
      else s.bump 0xF060 14 (old - h)
    { s with time := { s.time with horizon := h } }
  else s

/-- Comparators that a change disturbs: channel thresholds, hysteresis, DIFF, ODT and INVERT, and the return of a granule
(R562, R588). -/
def disturbed (l : List Staged) (old new : State) (g : Nat) : Bool :=
  new.granuleOn g && (decide (old.z 0x3800 1 = 0) || !bit (old.z 0x3802 (g + 1)) 15 ||
    decide (bits (old.z 0x3802 (g + 1)) 10 5 ≠ bits (new.z 0x3802 (g + 1)) 10 5) ||
    (upto 8).any fun c => touchesSub l 0x3801 (8 * g + c + 1))

/-- Probe bank and decoders (R562, R566, R574, R588). -/
def State.hookProbe (s : State) (l : List Staged) (old : State) (t : Nat) : State :=
  let s := if touches l 0x3800 0x3802 then
      (upto 8).foldl (fun s g => if disturbed l old s g then s.settleGranule g t else s) s
    else s
  let s := (upto 4).foldl (fun s j =>
    if touchesSub l 0x3900 (j + 1) ∨ touchesSub l 0x3901 (j + 1) then State.startDecoder t s j else s) s
  let s := if old.z 0x3800 1 ≠ s.z 0x3800 1 then { s with probe := { s.probe with gp := 0 } } else s
  if touches l 0x3800 0x3802 then s.syncProbe else s

/-- Loops: an enable, a change of TYPE, NOTCH or AW, or of a coefficient; and the coefficients of a loop that one of them has
put into HELD, written again (R511, R520, R522). [DEDUCED, log entry 45] -/
def State.hookLoops (s : State) (l : List Staged) (old : State) (all : List Staged) : State :=
  (upto 32).foldl (fun s i =>
    let ctl := decide (bits (old.loopCtl i) 57 7 ≠ bits (s.loopCtl i) 57 7)
    let coef := touches l (0x6210 + i) (0x6210 + i) || (decide ((s.loop i).st = 3) && touches all (0x6210 + i) (0x6210 + i))
    if ctl || coef then s.loopCommit i else s) s

/-- Windows, streams and capture banks (R625, R651, R659, R672, R674). -/
def State.hookStorage (s : State) (l : List Staged) (old : State) : State :=
  let s := (upto 16).foldl (fun s w => if touches l (0x5010 + w) (0x5010 + w) then s.winCommit w else s) s
  let s := (upto 4).foldl (fun s q => if touches l (0x5100 + q) (0x5100 + q) then s.streamCommit q (old.streamEn q) else s) s
  let s := (upto 48).foldl (fun s b => if touchesSub l 0x2300 (b + 1) then s.bankToward b (s.z 0x2300 (b + 1)) else s) s
  if touchesSub l 0x5400 1 then
    (if s.b 0x5400 1 then (if s.boot.step = 14 then s.startTest else s)
     else if s.mem.phase = 5 then { s with mem := { s.mem with phase := 0 } } else s)
  else s

/-- A line that a longer recall lead has brought into a recall zone is recalled (R422). -/
def State.recallZone (s : State) (line : Nat) : State :=
  match s.region line with
  | some off => if s.inZone off then s.recallLine line 4 else s
  | none => s

/-- Host writes are turned off: every line held in EM is demoted (Table 10.13); a new recall lead moves the ends of the recall zones (R422). -/
def State.hookHome (s : State) (l : List Staged) : State :=
  let s := if touchesSub l 0x7800 2 then (s.coh.filter.map Prod.fst).foldl State.demote s else s
  if touchesSub l 0x7802 1 then (s.coh.filter.map Prod.fst).foldl State.recallZone s else s

/-- The pair identity is programmed, and the tamper control copied into AON unless the lock freezes it (R793, R802). -/
def State.hookSecurity (s : State) (l all : List Staged) : State :=
  let s := if touchesSub all 0x8000 1 ∧ s.n 0x8000 1 ≠ 0 then s.startPairId (s.n 0x8000 1) else s
  if touchesSub l 0x9010 1 ∧ ¬ s.locked then s.sendTamperCopy (s.n 0x9010 1) else s

/-- What every unit does at T with the set just installed; `l` are the entries that changed a value, `all` every entry. -/
def State.hooks (s : State) (l all : List Staged) (old : State) (t : Nat) : State :=
  let s := (s.hookHorizon l).hookTime l old all
  let s := (s.hookProbe l old t).hookLoops l old all
  let s := ((s.hookPorts l).hookHome l).hookStorage l old
  ((s.hookFanout l old).hookSecurity l all).hookAccess l |>.hookAlerts l

/-- Keys of the write-once objects of a set; a pair identity of 0 is unwritten (R218, R745). -/
def writtenKeys (l : List Staged) : List Nat :=
  l.filterMap fun e =>
    match findRow e.idx e.sub with
    | some r => if r.cls = .o ∧ ¬ (e.idx = 0x8000 ∧ valNum e.val = 0) then some (key e.idx e.sub) else none
    | none => none

/-- Put the values of a set into the store; its words are rewritten (R245, R316–R318). -/
def State.install (s : State) (l : List Staged) : State :=
  { s with
    obj := l.foldl (fun m (e : Staged) => mset m (key e.idx e.sub) e.val) s.obj
    badWords := s.badWords.filter fun k => !(l.any fun e => decide (key e.idx e.sub = k / 1024))
    written := s.written ++ (writtenKeys l).filter fun k => !s.written.contains k }

/-- The capture runs and its Summit has not occurred (R320). -/
def State.captureRuns (s : State) : Bool := s.trig.st = 2 || s.trig.st = 4

/-- A window whose configuration changes closes its block where it lies so far (R659, Table 16.12). -/
def State.closeChanged (s : State) (l : List Staged) : State :=
  (upto 16).foldl (fun s w => if touches l (0x5010 + w) (0x5010 + w) then s.closeBlock w else s) s

/-- A set applies in tick T: every value at once, then what the units do, then a re-arm (R316, R319, R320, R614). [DEDUCED, log entry 44] -/
def State.applySet (s : State) (l : List Staged) (t : Nat) : Bool × State :=
  let changed := l.filter s.changes
  let again := s.captureRuns && changed.any fun e => rearms e.idx e.sub
  let s := s.closeChanged changed
  let s' := (s.install l).hooks changed l s t
  (again, if again then ((s'.armNow t true).bump 0xF010 9 1).setCause 9 1 else s')

/-! ### The request -/

/-- Highest write level among the staged entries (2000h:3). -/
def State.stagedLevel (s : State) : Nat := (s.staged.map Staged.level).foldl max 0

/-- Octets of the staged values (2000h:2). -/
def stagedOctets (l : List Staged) : Nat :=
  (l.map fun e => match findRow e.idx e.sub with | some r => (valOctets r.ty e.val).length | none => 0).sum

/-- The instant of 2003h:2–3 in 2^-32 ns. -/
def State.commitInstant (s : State) : Nat := ofTime80 (s.z 0x2003 2) (s.z 0x2003 3)

/-- Refusal of a commit request, by the conditions of Table 5.5 from step 8 on (R303, R305, R330). -/
def State.commitCode (s : State) (v : Nat) : Nat :=
  let timed := decide (s.z 0x2003 1 = 1)
  if v ≠ 0x434F4D54 then 0x0302
  else if timed && s.time.ptRun && decide (s.time.pt + 86400 * secUnits < s.commitInstant) then 0x0302
  else if s.commitInProgress then 0x0401
  else if s.staged.isEmpty || decide (s.pair.role = 3) || (timed && !s.time.ptRun) || decide (s.boot.step < 8) then 0x0303
  else 0

/-- An accepted commit request: the check starts, with every input sampled now (R304, R306). -/
def State.startCommit (s : State) : State :=
  let timed := decide (s.z 0x2003 1 = 1)
  let found := s.checkStart timed
  State.bump { s with commit := { s.commit with
    state := 1, atTime := timed, instant := s.commitInstant, report := [], found := found
    tReady := 0, fixTick := 0, mirrored := false } } 0xF010 1 1

/-- T is chosen: the next boundary (R312). -/
def State.fixNext (s : State) : State :=
  let x := s.time.tick
  let t := roundUp (x + s.commit.margin) 1024
  { s with commit := { s.commit with state := 3, fixTick := x, boundary := t } }

/-- The Lead tells its Second the boundary (R315). -/
def State.announce (s : State) : State :=
  if s.commit.mirrored ∧ s.commit.state = 3 then s.sendBoundary s.commit.boundary false else s

/-- The end of the check, or the acknowledgement, is visible in TICK: t_ready (R311–R314). -/
def State.chooseBoundary (s : State) (m : Nat) : State :=
  let s := { s with commit := { s.commit with tReady := s.time.tick, margin := m } }
  if !s.commit.atTime then s.fixNext.announce
  else if s.commit.instant ≤ s.time.pt + m * 2 ^ 32 then
    let s := State.setCause (State.bump { s with commit := { s.commit with state := 7 } } 0xF010 5 1) 4 2
    if s.commit.mirrored then s.sendBoundary 0 true else s
  else { s with commit := { s.commit with state := 4, boundary := 0 } }

/-- The check has failed (R308, R309). -/
def State.checkFailed (s : State) (l : List Violation) : State :=
  let s := { s with commit := { s.commit with state := 6, report := l.take 32 } }
  let s := s.put 0x2004 6 (min l.length 65535)
  ((s.bump 0xF010 3 1).bump 0xF010 4 l.length).setCause 4 0

/-- The check ends (R308). -/
def State.checkDone (s : State) : State :=
  if s.commit.state ≠ 1 then s
  else
    let l := s.checkEnd
    let s := if l.any fun v => decide (v.rule = 0x07FF) then s.setCause 3 1 else s
    if ¬ l.isEmpty then s.checkFailed l
    else
      let s := (s.put 0x2004 6 0).put 0x2004 5 0
      if s.mirrors then
        State.sendSet { s with commit := { s.commit with state := 2, mirrorAt := s.now } } 1 s.stagedRecords
      else s.chooseBoundary 64

/-- The mirror timeout of 250,000 MGT cycles in ns: 1 ms while MGT runs on SPLL (R310). -/
def State.mirrorLimit (s : State) : Nat := 250000 * (s.clockRate .mgt).2 / (s.clockRate .mgt).1

/-- The commit goes on without the Second, which is ineligible (R310). -/
def State.mirrorGivenUp (s : State) : State :=
  let s := ((s.setCause 4 1).bump 0xF010 7 1).put 0x2004 5 2
  State.chooseBoundary (State.setEligible { s with pair := { s.pair with mirrorFail := true } } false) 64

/-- The Second's acknowledgement of the commit set, unless the timeout has expired before it (R14, R310, R311). -/
def State.mirrorAck (s : State) : State :=
  if s.commit.state ≠ 2 then s
  else if s.late .mgt s.commit.mirrorAt s.mirrorLimit then s.mirrorGivenUp
  else State.chooseBoundary { s.put 0x2004 5 1 with commit := { s.commit with mirrored := true } } 1024

/-- The mirror timeout expires (R310). -/
def State.mirrorTimeout (s : State) : State :=
  if s.commit.state ≠ 2 then s else (s.elapseTo (s.commit.mirrorAt + s.mirrorLimit)).mirrorGivenUp

/-- The fix tick X of a scheduled commit: the first tick with time(X) ≥ instant − M (R312, R313). -/
def State.fixTick (s : State) : State :=
  if s.commit.state ≠ 4 ∨ ¬ s.time.ptRun then s
  else
    let s := s.elapseToPt (s.commit.instant - s.commit.margin * 2 ^ 32)
    let x := s.time.tick
    State.announce { s with commit := { s.commit with state := 3, fixTick := x, boundary := x + s.commit.margin } }

/-- The Lead applied a commit that it has not mirrored while its Second is in DICT or beyond: catch-up starts again (R327,
R754). [DEDUCED, log entry 78] -/
def State.restartCatchup (s : State) (mirrored : Bool) : State :=
  if s.pair.role = 2 ∧ 2 ≤ s.pair.secondState ∧ ¬ mirrored then s.sendCatchup else s

/-- Commit boundary tick T of the device's own commit: the set applies whole; while TICK is in domain reset it waits for the
first tick after (R316, R317, Table 7.7a). -/
def State.ownApply (s : State) : State :=
  if s.commit.state ≠ 3 ∨ (s.dom .tick).inReset then s
  else
    let s := s.elapseToTick s.commit.boundary
    let m := s.commit.mirrored
    let (again, s) := s.applySet s.staged s.time.tick
    let s := { s with staged := [], commit := { s.commit with state := 5 } }
    let s := ((s.put 0x2004 2 ((s.z 0x2004 2 + 1) % 2 ^ 32)).put 0x2004 4 (b2n again)).bump 0xF010 2 1
    s.restartCatchup m

/-! ### Cancel and discard -/

/-- Refusal of a cancel (R322). -/
def State.cancelCode (s : State) (v : Nat) : Nat :=
  if v ≠ 0x434E434C then 0x0302
  else if s.commit.state = 1 ∨ s.commit.state = 2 ∨ s.commit.state = 4 then 0
  else if s.commit.state = 3 ∧ s.time.tick + 64 ≤ s.commit.boundary then 0
  else 0x0303

/-- An effective cancel; a mirrored Second discards the set (R322). -/
def State.cancelCommit (s : State) : State :=
  let sent := decide (s.commit.state = 2) || s.commit.mirrored
  let s := State.bump { s with commit := { s.commit with state := 8, mirrored := false } } 0xF010 6 1
  if sent then s.sendBoundary 0 true else s

/-- Refusal of a discard (R301, R305). -/
def State.discardCode (s : State) (v : Nat) : Nat :=
  if v ≠ 0x44524F50 then 0x0302 else if s.commitInProgress then 0x0401 else if s.pair.role = 3 then 0x0303 else 0

/-- Every staged entry is discarded (R301). -/
def State.discard (s : State) : State := State.bump { s with staged := [] } 0xF010 8 1

end Sys2Proof.Machine
end

