-- ==== Sys2Proof/Machine/Stage.lean ====
section
/-! DEFINITION. Sys2Proof/Machine/Stage.lean: the checks of Table 5.5 that every access makes, the staging of a write of class
S, O or K, and the record of a refusal (Chapters 5 and 7). -/
namespace Sys2Proof.Machine

/-- One access: the code of its path, its requester, the level it is served at, and the object it names. -/
structure Acc where
  path : Nat
  req : Nat
  level : Nat
  idx : Nat
  sub : Nat
deriving DecidableEq, Repr

/-- Steps 1 and 2 of Table 5.5 (R205). -/
def nameCode (idx sub : Nat) : Nat := if (findRow idx sub).isSome then 0 else if indexDefined idx then 0x0102 else 0x0101

/-- The level that a commit request or a discard requires (R302). -/
def State.setLevel (s : State) : Nat := max 1 s.stagedLevel

/-- Step 4 of Table 5.5 for a write, with the levels that its home chapter ties to the state (R302). -/
def State.writeLevel (s : State) (r : Row) (a : Acc) : Nat :=
  if a.idx = 0x2002 ∨ (a.idx = 0x2003 ∧ a.sub = 4) then max r.wr s.setLevel else r.wr

/-- Step 7 of Table 5.5: the length, and the type code where the write carries one (R211). [DEDUCED, log entry 14] -/
def lengthOk (r : Row) (len : Nat) (ty : Option Nat) : Bool :=
  (match r.ty with
   | .octets => decide (1 ≤ len) && decide (len ≤ r.maxLen)
   | t => decide (len = tyLen t)) &&
  (match ty with
   | some c => decide (c = tyCode r.ty)
   | none => true)

/-- Steps 3 to 7 of Table 5.5 for a write of `len` octets. -/
def State.headCode (s : State) (r : Row) (a : Acc) (len : Nat) (ty : Option Nat) : Nat :=
  if accessWithheld s.sec.lcs a.idx a.sub true then 0x0203
  else if a.level < s.writeLevel r a then 0x0201
  else match r.cls with
    | .r => 0x0202
    | .k => if s.locked && decide (a.path ≠ 5) then 0x0204 else if lengthOk r len ty then 0 else 0x0301
    | _ => if lengthOk r len ty then 0 else 0x0301

/-- The value as the object holds it: reserved bits are dropped (R8, R213, Table 5.2). -/
def maskVal (r : Row) (v : Val) : Val :=
  match r.ty, v with
  | .octets, _ => v
  | .time80, .num n => .num (n / 2 ^ 32 * 2 ^ 32 + n % 2 ^ 30)
  | _, .num n => .num (n &&& r.mask)
  | _, v => v

/-- The accepted values of a type (Table 5.2). -/
def typeOk (t : Ty) (v : Val) : Bool :=
  match t with
  | .bool => decide (valNum v ≤ 1)
  | .time80 => decide (valNum v % 2 ^ 30 < 1000000000)
  | _ => true

/-- The accepted values that the object's row gives (R212). [DEDUCED, log entry 14] -/
def acceptOk (r : Row) (v : Val) : Bool :=
  let n := valNum v
  let i : Int := if tySigned r.ty then toInt (8 * tyLen r.ty) n else n
  match r.acc with
  | .any => true
  | .between lo hi => decide (lo ≤ i) && decide (i ≤ hi)
  | .oneOf l => l.contains n
  | .aligned lo hi m rem => decide (lo ≤ n) && decide (n ≤ hi) && decide (n % m = rem)
  | .len k => decide ((valOct v).length = k)

/-- A bit-timing phase of CAN FD within the ranges of Table 6.6 and the rate limit (R273). -/
def canTimingOk (r : State) (idx : Nat) : Bool :=
  let brp := r.n idx 1
  let t1 := r.n idx 2
  let t2 := r.n idx 3
  let sjw := r.n idx 4
  let data := decide (idx = 0x1102)
  decide (1 ≤ brp) && decide (brp ≤ if data then 32 else 1024) && decide ((if data then 1 else 2) ≤ t1) &&
  decide (t1 ≤ if data then 128 else 256) && decide (1 ≤ t2) && decide (t2 ≤ if data then 64 else 128) && decide (1 ≤ sjw) &&
  decide (sjw ≤ if data then 64 else 128) && decide (sjw ≤ t2) && decide ((if data then 125 else 1000) ≤ brp * (1 + t1 + t2))

/-- The object holds this value in the resulting set. -/
def State.resultingWith (s : State) (idx sub : Nat) (v : Val) : State := s.resulting.putVal idx sub v

/-- A mask whose one-bits are contiguous from bit 31 (R278). -/
def maskContiguous (n : Nat) : Bool := (List.range 33).any fun k => decide (n = 2 ^ 32 - 2 ^ k)

/-- An IPv4 address that R278 accepts. -/
def hostAddress (n : Nat) : Bool :=
  !(decide (n = 0) || decide (n = 0xFFFFFFFF) || decide (n / 2 ^ 28 = 14) || decide (n / 2 ^ 24 = 127))

/-- CLKMON_OUT stays at 200 MHz or less with this source, divider and enable (R134). [DEDUCED, log entry 27] -/
def clkmonOk (src div en : Nat) : Bool := decide (en = 0) || decide (clkmonMhz src ≤ 200 * 2 ^ div)

/-- Step 8 of Table 5.5 where an object's home chapter says more than its row. -/
def State.homeValueOk (s : State) (idx sub : Nat) (v : Val) : Bool :=
  let n := valNum v
  match idx with
  | 0x1101 => canTimingOk (s.resultingWith idx sub v) 0x1101
  | 0x1102 => if sub ≤ 4 then canTimingOk (s.resultingWith idx sub v) 0x1102 else true
  | 0x1110 => if sub = 3 then hostAddress n else if sub = 4 then maskContiguous n else true
  | 0x2203 => match domOfSub sub with | some d => srcDefined d n | none => true
  | 0x2204 => match domOfCode (n / 256) with | some d => srcDefined d (n % 256) | none => false
  | 0x2207 =>
    if sub = 1 then clkmonOk n (s.z idx 2) (s.z idx 3) else if sub = 2 then clkmonOk (s.z idx 1) n (s.z idx 3)
    else clkmonOk (s.z idx 1) (s.z idx 2) n
  | 0x2208 => if sub = 3 then decide (n ≤ s.n idx 4) else if sub = 4 then decide (s.n idx 3 ≤ n) else true
  | 0x3200 => decide (tapPort n ≤ 5)
  | 0x3201 => decide (srcPort n ≤ 5) && decide (1 ≤ bits n 0 16) && decide (bits n 0 16 ≤ 1024)
  | 0x6201 => decide (bits n 59 2 ≠ 3)
  | 0x8010 => if sub = 3 then hostAddress n else true
  | 0x9010 => if sub = 1 then decide (bits n 4 2 ≠ 3) && decide (bits n 6 2 ≠ 3) else true
  | _ => true

/-- Step 8 of Table 5.5 (R212). [DEDUCED, log entry 49] -/
def State.valueOk (s : State) (r : Row) (idx sub : Nat) (v : Val) : Bool :=
  typeOk r.ty v && acceptOk r v && s.homeValueOk idx sub v

/-! ### Staging -/

/-- The staged entry of an object. -/
def State.stagedEntry (s : State) (idx sub : Nat) : Option Staged := s.staged.find? fun e => decide (e.idx = idx ∧ e.sub = sub)

/-- The value that a write-once object already holds, staged or written (R219). -/
def State.onceHeld (s : State) (idx sub : Nat) : Option Val :=
  match s.stagedEntry idx sub with
  | some e => some e.val
  | none => if s.written.contains (key idx sub) then some (s.val idx sub) else none

/-- Step 9: another value is held, or the value fuses of an unwritten identity do not allow this one (R219, R794). -/
def State.onceRefused (s : State) (r : Row) (idx sub : Nat) (v : Val) : Bool :=
  match r.cls with
  | .o =>
    (match s.onceHeld idx sub with
     | some x => decide (x ≠ v)
     | none => decide (idx = 0x8000) && !fusesFit s.sec.pairId (valNum v))
  | _ => false

/-- The write is the silent repetition of a write-once value (R219). -/
def State.onceSame (s : State) (r : Row) (idx sub : Nat) (v : Val) : Bool :=
  match r.cls with
  | .o => decide (s.onceHeld idx sub = some v)
  | _ => false

/-- Put an entry into the staged set: it replaces the entry of its object, in place (R215, R297). -/
def putStaged (l : List Staged) (e : Staged) : List Staged :=
  match l with
  | [] => [e]
  | x :: t => if x.idx = e.idx ∧ x.sub = e.sub then e :: t else x :: putStaged t e

/-- The staged set fits its capacity (R298). -/
def fits (l : List Staged) : Bool := decide (l.length ≤ 2048) && decide (stagedOctets l ≤ 65536)

/-- Path of a code of 1082h:3. -/
def pathOfNo (p : Nat) : Path :=
  match p with
  | 1 => .can | 2 => .t1s | 3 => .mailbox | 4 => .jtag | _ => .image

/-- Steps 9 to 12 of Table 5.5 for a write of class S, O or K (R219, R222, R223, R298, R305, R474). -/
def State.stageCode (s : State) (r : Row) (a : Acc) (v : Val) : Nat :=
  if s.onceRefused r a.idx a.sub v then 0x0205
  else if s.commitInProgress then 0x0401
  else if !s.onceSame r a.idx a.sub v && !fits (putStaged s.staged ⟨a.idx, a.sub, v, pathOfNo a.path, r.wr, false⟩) then 0x0402
  else if s.pair.role = 3 ∨ (a.path = 5 ∧ a.idx = 0x6001) then 0x0303
  else 0

/-- An accepted write of class S, O or K: staged, or counted as silent (R219). -/
def State.stage (s : State) (r : Row) (a : Acc) (v : Val) : State :=
  if s.onceSame r a.idx a.sub v then s.bump 0xF000 8 1
  else { s with staged := putStaged s.staged ⟨a.idx, a.sub, v, pathOfNo a.path, r.wr, false⟩ }

/-- The value of an object lies in the vault, or in the fuses, and not in the dictionary store. -/
def outsideStore (idx : Nat) : Bool := idx = 0x1010 || idx = 0x9020 || idx = 0x9021 || idx = 0x9030

/-- A refused access is counted and recorded, 0x0402 at F010h:10 as well; 0x0205 sets REFUSED and 0x0701 of the dictionary
store sets STORE (R219, R234, R246). -/
def State.refuse (s : State) (a : Acc) (code : Nat) : State :=
  let s := s.bump 0xF000 4 1
  let s := if code = 0x0205 then (s.bump 0xF000 5 1).setCause 3 0 else s
  let s := if code = 0x0204 then s.bump 0xF000 6 1 else s
  let s := if code = 0x0201 then s.bump 0xF000 7 1 else s
  let s := if code = 0x0402 then s.bump 0xF010 10 1 else s
  let s := if code = 0x0701 ∧ outsideStore a.idx = false then s.setCause 3 1 else s
  ((s.put 0x1082 1 (key a.idx a.sub)).put 0x1082 2 code).put 0x1082 3 a.path

/-! ### One record of an image (R178, R222, R234) -/

/-- The whole of Table 5.5 for an image record. -/
def State.imageCode (s : State) (a : Acc) (ty : Nat) (o : Octets) : Nat :=
  match findRow a.idx a.sub with
  | none => nameCode a.idx a.sub
  | some r =>
    let h := s.headCode r a o.length (some ty)
    let v := octetsVal r.ty o
    if h ≠ 0 then h
    else if !s.valueOk r a.idx a.sub (maskVal r v) || !typeOk r.ty v then 0x0302
    else match r.cls with
      | .l => 0x0303
      | _ => s.stageCode r a (maskVal r v)

/-- An image record is written into the staged set; the code, and the state with its counts. -/
def State.imageRecord (s : State) (idx sub ty : Nat) (o : Octets) : Nat × State :=
  let a : Acc := ⟨5, 0, 3, idx, sub⟩
  let s := s.bump 0xF000 1 1
  let code := s.imageCode a ty o
  if code ≠ 0 then (code, s.refuse a code)
  else match findRow idx sub with
    | some r => (0, (s.stage r a (maskVal r (octetsVal r.ty o))).bump 0xF000 3 1)
    | none => (0, s)

end Sys2Proof.Machine
end

