-- ==== Sys2Proof/Machine/Boot.lean ====
section
/-! DEFINITION. Sys2Proof/Machine/Boot.lean: the boot steps, the image slots and the image save (Chapter 4). -/
namespace Sys2Proof.Machine

/-! ### Slots and images (R172–R183) -/

/-- Octets of a slot; past what has been programmed, flash reads erased (R172). [DESIGN CHOICE, log entry 6] -/
def slotAt (o : Octets) (i n : Nat) : Octets := (o.drop i).take n ++ List.replicate (n - ((o.drop i).take n).length) 0xFF#8

/-- The slot of a number: 1 is A, 2 is B. -/
def State.slot (s : State) (n : Nat) : Octets := if n = 1 then s.boot.slotA else s.boot.slotB

/-- Put the octets of a slot. -/
def State.setSlot (s : State) (n : Nat) (o : Octets) : State :=
  if n = 1 then { s with boot := { s.boot with slotA := o } } else { s with boot := { s.boot with slotB := o } }

/-- The header of a slot (Table 4.5). -/
structure SlotHeader where
  magic : Bool
  version : Bool
  part : Bool
  seq : Nat
  length : Nat
  rdclk : Nat
  crc : Nat
deriving DecidableEq, Repr

/-- A slot's header as step 7 reads it. -/
def readHeader (o : Octets) : SlotHeader :=
  let f := fun i n => leNat (slotAt o i n)
  { magic := decide (f 0 4 = 0x4C505A49), version := decide (f 4 2 = 1) && decide (f 6 2 = 32), part := decide (f 16 2 = 0x7410)
    seq := f 8 4, length := f 12 4, rdclk := f 18 2 % 4, crc := f 28 4 }

/-- A candidate's header (R176). -/
def SlotHeader.candidate (h : SlotHeader) : Bool := h.magic && h.version && h.part && decide (h.length ≤ 65504)

/-- Slot status as far as the header gives it (Table 4.9): an erased slot reads MAGICBAD alone. [DEDUCED, log entry 32] -/
def SlotHeader.status (h : SlotHeader) : Nat :=
  if !h.magic then 2 else b2n (!h.version) * 4 + b2n (!h.part) * 8 + b2n (decide (65504 < h.length)) * 16

/-- The record area of a slot. -/
def recordArea (o : Octets) (h : SlotHeader) : Octets := slotAt o 32 h.length

/-- The CRC of a slot matches (Table 4.5). -/
def crcMatches (o : Octets) (h : SlotHeader) : Bool := decide (crc32c (slotAt o 0 28 ++ recordArea o h) = h.crc)

/-- One record of an image: its offset in the slot, its object, its type code and its value. -/
structure ImageRecord where
  off : Nat
  idx : Nat
  sub : Nat
  ty : Nat
  val : Octets
deriving DecidableEq, Repr

/-- Every octet is zero. -/
def allZero (o : Octets) : Bool := o.all fun b => decide (b = 0)

/-- The records of a record area, or none where it is malformed (R174). -/
def parseRecords (fuel off : Nat) (o : Octets) : Option (List ImageRecord) :=
  match fuel with
  | 0 => if o.isEmpty then some [] else none
  | fuel + 1 =>
    if o.isEmpty then some []
    else
      let len := leAt o 4 2
      let pad := (4 - len % 4) % 4
      let size := 8 + len + pad
      if o.length < 8 ∨ len = 0 ∨ 4096 < len ∨ o.length < size ∨ !allZero (octAt o 6 2) ∨ !allZero (octAt o (8 + len) pad) then none
      else match parseRecords fuel (off + size) (o.drop size) with
        | some t => some (⟨off, leAt o 0 2, leAt o 2 1, leAt o 3 1, octAt o 8 len⟩ :: t)
        | none => none

/-- The records of a slot. -/
def slotRecords (o : Octets) (h : SlotHeader) : Option (List ImageRecord) := parseRecords h.length 32 (recordArea o h)

/-- s1 is newer than s2 (R181). -/
def seqNewer (s1 s2 : Nat) : Bool :=
  (decide (s1 < s2) && decide (2 ^ 31 < s2 - s1)) || (decide (s2 < s1) && decide (s1 - s2 < 2 ^ 31))

/-- The candidates in the order they are tried, and whether SEQEQ is set (R176, R177). -/
def candidateOrder (a b : SlotHeader) : List Nat × Bool :=
  match a.candidate, b.candidate with
  | true, true => if seqNewer a.seq b.seq then ([1, 2], false) else if seqNewer b.seq a.seq then ([2, 1], false) else ([1, 2], true)
  | true, false => ([1], false)
  | false, true => ([2], false)
  | false, false => ([], false)

/-- Set bits of a slot's status. [DEDUCED, log entry 32] -/
def State.slotMark (s : State) (n m : Nat) : State := s.put 0x2019 n (s.z 0x2019 n ||| m)

/-- The store's objects of class S, O and K take their defaults; a fused identity stays (R179, R218). [DEDUCED, log entry 23] -/
def State.toDefaults (s : State) : State :=
  let keep : Nat → Bool := fun k =>
    match findRow (k / 256) (k % 256) with
    | some r => !stagedClass r.cls || (s.sec.pairValid && decide (k = key 0x8000 1))
    | none => true
  { s with
    obj := s.obj.filter fun e : Nat × Val => keep e.1
    badWords := s.badWords.filter fun w => keep (w / 1024)
    staged := []
    written := if s.sec.pairValid then [key 0x8000 1] else [] }

/-- The records are written in order until one is refused (R178). -/
def writeRecords (l : List ImageRecord) (s : State) : Option (ImageRecord × Nat) × State :=
  match l with
  | [] => (none, s)
  | r :: t =>
    match s.imageRecord r.idx r.sub r.ty r.val with
    | (0, s') => writeRecords t s'
    | (c, s') => (some (r, c), s')

/-- What the rules 0x0401 and 0x0903 read as the committed set at step 7: no line is released and no port is in service before step 10, so
that an image which keeps a line in reset applies, as it does in Example 21.5. [DEDUCED, log entry 48] -/
def State.beforeRelease (s : State) : State :=
  (upto 6).foldl (fun (s : State) p => s.put 0x7000 (p + 1) 0) (s.put 0x2014 0 0)

/-- The whole staged set is checked as an image (R178, R323). [DEDUCED, log entry 48] -/
def State.imageCheck (s : State) : List Violation :=
  check04 s.beforeRelease s.resulting true false ++ checkHome s.beforeRelease s.resulting true

/-- An image of slot n is applied from an empty staged set: whether it succeeded (R178). A failed check puts the slot alone into 201Dh.
[DEDUCED, log entry 32] -/
def State.applyImage (s : State) (n : Nat) (l : List ImageRecord) : Bool × State :=
  match writeRecords l { s with staged := [] } with
  | (some (r, c), s) =>
    let s := (((s.put 0x201D 1 n).put 0x201D 2 r.off).put 0x201D 3 (key r.idx r.sub)).put 0x201D 4 c
    (false, State.setCause ({ s with staged := [] }.slotMark n 64) 2 5)
  | (none, s) =>
    if s.imageCheck.isEmpty then
      (true, { (s.install s.staged) with staged := [] })
    else (false, State.setCause ({ s.put 0x201D 1 n with staged := [] }.slotMark n 64) 2 6)

/-! ### SFDP discovery (R168–R171) -/

/-- SFDP is there, in a revision that the device accepts (R168, R171). -/
def flashOk (f : FlashInfo) : Bool := f.answers && f.sfdp && decide (f.major = 1)

/-- Quad enable can be set as the requirement field directs (R169). -/
def quadEnable (f : FlashInfo) : Bool := decide (1 ≤ f.qer) && decide (f.qer ≤ 5)

/-- The read mode of R169: 201Eh:2. -/
def readMode (f : FlashInfo) : Nat :=
  if !flashOk f then 0 else if f.m144.isSome && quadEnable f then 4 else if f.m114.isSome && quadEnable f then 3
  else if f.m122.isSome then 2 else if f.m112.isSome then 1 else 0

/-- Opcode and dummy cycles of the reads at step 7 and in saves (R169, R171); 0x03 in 1-1-1 mode. [DEDUCED, log entry 32] -/
def readCommand (f : FlashInfo) : BitVec 8 × Nat :=
  let of := fun (m : Option (BitVec 8 × Nat)) => m.getD (0x03#8, 0)
  match readMode f with
  | 4 => of f.m144
  | 3 => of f.m114
  | 2 => of f.m122
  | 1 => of f.m112
  | _ => (0x03#8, 0)

/-- The smallest erase type of 64 KiB or less: its size and opcode (R184, R185). -/
def eraseType (f : FlashInfo) : Option (Nat × BitVec 8) :=
  (f.erases.filter fun e => decide (1 ≤ e.1) && decide (e.1 ≤ 65536)).foldl (fun m e =>
    match m with
    | some x => if e.1 < x.1 then some e else some x
    | none => some e) none

/-- A read of the flash at a clock: 0 is 25 MHz, 1 50 MHz, 2 100 MHz (R173). -/
def State.flashRead (s : State) (addr clk : Nat) : State :=
  let c := readCommand s.boot.flash
  s.emit (.flash 3 addr [c.1, BitVec.ofNat 8 c.2, BitVec.ofNat 8 (if clk = 3 then 0 else clk)])

/-- First octet of a slot in the flash (R172). -/
def slotBase (n : Nat) : Nat := (n - 1) * 65536

/-- What step 7 reads in a slot: a flash that does not answer reads erased (R171). -/
def State.slotRead (s : State) (n : Nat) : Octets := if s.boot.flash.answers then s.slot n else []

/-- The flash takes the commands that SFDP asks for: quad enable, and 4-byte mode where no 4-byte instruction is advertised (R169, R170). -/
def State.setupFlash (s : State) (f : FlashInfo) : State :=
  let s := if 3 ≤ readMode f then s.emit (.flash 4 0 [BitVec.ofNat 8 f.qer]) else s
  if 16777216 < f.density ∧ !f.fourByte then s.emit (.flash 2 0xB7 []) else s

/-- What SFDP gives (R168–R171). [DEDUCED, log entry 32] -/
def State.discoverFlash (s : State) (f : FlashInfo) : State :=
  let s := State.emit { s with boot := { s.boot with flash := f } } (.flash 3 0 [0x5A#8, 8#8, 0#8])
  let s := (((s.put 0x201E 1 (if flashOk f then min f.density 67108864 else 0)).put 0x201E 2 (readMode f)).put 0x201E 3
    (if flashOk f && decide (16777216 < f.density) then 4 else 3)).put 0x201E 4 (b2n (flashOk f))
  if flashOk f then s.setupFlash f else s.setCause 2 1

/-! ### Trying the slots (R175–R183) -/

/-- One candidate is read, checked and applied: whether it succeeded (R175, R176, R180). [DEDUCED, log entry 32] -/
def State.trySlot (s : State) (n : Nat) : Bool × State :=
  let o := s.slotRead n
  let h := readHeader o
  let s := s.flashRead (slotBase n + 32) h.rdclk
  if !crcMatches o h then (false, (s.slotMark n 32).setCause 2 (n + 1))
  else match slotRecords o h with
    | none => (false, s.slotMark n 16)
    | some l =>
      let (ok, s) := (s.slotMark n 1).applyImage n l
      if ok then
        (true, { ((s.slotMark n 128).put 0x201B 0 n) with boot := { s.boot with refSlot := n, bootRdclk := h.rdclk } })
      else (false, s)

/-- The candidates are tried in order (R176); with none applied, every object takes its default (R183). -/
def State.trySlots (s : State) (l : List Nat) : State :=
  match l with
  | [] => ({ s with staged := [] }.put 0x201B 0 0).setCause 2 7
  | n :: t => match s.trySlot n with
    | (true, s') => s'
    | (false, s') => s'.trySlots t

/-! ### Steps 1 to 7 -/

/-- Boot step 1 ends 64 AON cycles after the release (R111). [DESIGN CHOICE, log entry 34] -/
def State.aonStart (s : State) : State :=
  if s.boot.step ≠ 1 then s else (s.elapseTo (s.boot.stepAt + 4000)).startQual

/-- The boot goes on to a step. [DESIGN CHOICE, log entry 34] -/
def State.toStep (s : State) (n : Nat) : State := { s with boot := { s.boot with step := n, stepAt := s.now } }

/-- The repairs of a bank go with the fuse load that comes before its next BIST (R679, R697). -/
def BankSt.noRepairs (x : BankSt) : BankSt := { x with soft := [], spared := [], bare := [] }

/-- The fuse load of step 4 (R166, R678, R679, R793, R806). -/
def State.fuseLoad (s : State) (checkOk k3Ok : Bool) : State :=
  if s.boot.step ≠ 4 ∨ s.boot.halted then s
  else if checkOk then
    let s := s.readFuses k3Ok
    let s := { s with
      boot := { s.boot with fuseFails := 0 }
      mem := { s.mem with fused := true, bank := s.mem.bank.map fun e : Nat × BankSt => (e.1, e.2.noRepairs) } }
    let s := if s.sec.pairValid then s.put 0x8000 1 s.sec.pairId else s
    s.toStep 5
  else
    let n := s.boot.fuseFails + 1
    let s := { s with boot := { s.boot with fuseFails := n } }
    if n < 3 then s else State.setCause { s with boot := { s.boot with halted := true } } 2 0

/-- Every line of the capture banks is zero, with correct check bits and clear poison (R165, R681). -/
def State.zeroBanks (s : State) : State := { s with mem := { s.mem with cells := [], poison := [], single := [], double := [] } }

/-- Step 5: the banks are tested or zeroed in ascending order, BV only after POR (R165, R681). -/
def State.bistAll (s : State) (find : List BistFinding) : State :=
  if s.boot.step ≠ 5 then s
  else
    let banks := if s.boot.afterPor then upto 49 else upto 48
    let s := banks.foldl (State.bistBank find) s.zeroBanks
    (s.put 0x2011 2 (banks.filter fun b => (s.bank b).bist = 3).length).toStep 6

/-- Step 6 (R696); a SCRAPPED device halts at its end (R786). -/
def State.vaultStep (s : State) (bad : Bool) : State :=
  if s.boot.step ≠ 6 ∨ s.boot.halted then s
  else
    let s := s.initVault bad
    let s := { s with boot := { s.boot with afterPor := false } }
    if s.sec.lcs = 4 then { s with boot := { s.boot with halted := true } } else s.toStep 7

/-- The state word of HELLO (Table 19.5). -/
def State.helloState (s : State) : Nat := if s.pair.role = 2 then 1 else if s.pair.role = 3 then 2 else 0

/-- A HELLO is queued (R743, R744). [DEDUCED, log entry 77] -/
def State.sendHello (s : State) : State :=
  s.campSend false 1 (leBytes 4 (s.n 0x8000 1) ++ leBytes 8 Config.serial.toNat ++ leBytes 1 (b2n s.power.bootRoleSel) ++ leBytes 1 s.helloState)

/-- Time moves on to the next rising edge of REF. [DESIGN CHOICE, log entry 50] -/
def State.toRefEdge (s : State) : State := s.elapse ((10 - s.now % 10) % 10)

/-- Step 9: the enabled REFCLK_OUT lines start at a rising edge of REF (R188, R195). [DEDUCED, log entry 33] -/
def State.enterRefclk (s : State) : State :=
  let s := s.toRefEdge.toStep 9
  { s with boot := { s.boot with refclk := s.n 0x220A 0 % 256, lead := s.n 0x2012 0 } }

/-- Step 8: a single device has its role at once; a device of a pair starts its handshake (R743). -/
def State.enterRoles (s : State) : State :=
  let s := s.toStep 8
  if s.pair.role = 0 then s.enterRefclk else s.sendHello

/-- The committed set is in place at the end of step 7: masks, tamper control, CAN timing, banks, ports and the horizon
take their values, and the pair identity of an image is fused (R178, R342, R661, R802, Table 17.12). -/
def State.committed (s : State) (once : Bool) : State :=
  let s := { s with
    alerts := { s.alerts with masks := s.latchMasks }
    acc := { s.acc with canPending := true }
    sec := if s.locked then s.sec else { s.sec with tamperCtl := s.n 0x9010 1, tamperNext := none }
    time := { s.time with horizon := s.n 0x3000 1 } }
  let s := s.banksFollow
  let s := (upto 6).foldl (fun (s : State) p => if s.b 0x7000 (p + 1) then s else s.setPort p (freshLink (s.port p) 0)) s
  let s := if once ∧ s.n 0x8000 1 ≠ 0 then s.startPairId (s.n 0x8000 1) else s
  s.alertSync

/-- An XO domain reset keeps the masks over its boot (Table 8.6); after any other reset step 7 gives them. -/
def State.keepMasks (s old : State) : State :=
  if s.boot.entry ≠ 3 then s
  else (upto 16).foldl (fun (s : State) br => s.putVal (0x2111 + br) 0 (old.val (0x2111 + br) 0)) s

/-- Step 7 ends and the boot goes on. -/
def State.endStep7 (s : State) : State :=
  let s := if s.boot.saveCut then (State.put { s with boot := { s.boot with saveCut := false } } 0x201C 2 7).put 0x201C 3 4 else s
  (s.committed true).enterRoles

/-- Step 7: discovery, the two headers, and the newest slot that applies (R168–R183). -/
def State.selectImage (s : State) (f : FlashInfo) : State :=
  if s.boot.step ≠ 7 then s
  else
    let old := s
    let s := ((s.toDefaults.discoverFlash f).flashRead (slotBase 1) 0).flashRead (slotBase 2) 0
    let a := readHeader (s.slotRead 1)
    let b := readHeader (s.slotRead 2)
    let s := ((s.put 0x2019 1 a.status).put 0x2019 2 b.status)
    let s := (s.put 0x201A 1 (if a.magic then a.seq else 0)).put 0x201A 2 (if b.magic then b.seq else 0)
    let (l, eq) := candidateOrder a b
    let s := if eq then s.setCause 2 4 else s
    ((s.trySlots l).keepMasks old).endStep7

/-! ### Image save (R184–R187) -/

/-- A save runs. -/
def State.saving (s : State) : Bool := decide (s.boot.savePhase ≠ 0)

/-- Refusal of a save request, by the conditions of Table 5.5 from step 12 on (R185, R187). -/
def State.saveCode (s : State) : Nat :=
  if s.boot.step < 8 || !flashOk s.boot.flash || (eraseType s.boot.flash).isNone then 0x0303
  else if s.saving then 0x0601 else 0

/-- A save ends in FAILED (R185, R186). [DEDUCED, log entry 31] -/
def State.saveFailed (s : State) (why : Nat) : State :=
  let s := ({ s with boot := { s.boot with savePhase := 0, saveBody := [] } }.put 0x201C 2 7).put 0x201C 3 why
  if why = 1 then s else s.setCause 2 8

/-- The header of the slot being saved (Table 4.5). -/
def State.saveHead (s : State) : Octets :=
  let h := leBytes 4 0x4C505A49 ++ leBytes 2 1 ++ leBytes 2 32 ++ leBytes 4 s.boot.saveSeq ++ leBytes 4 s.boot.saveBody.length ++
    leBytes 2 0x7410 ++ leBytes 2 s.boot.bootRdclk ++ zeros 8
  h ++ leBytes 4 (crc32c (h ++ s.boot.saveBody))

/-- The target slot is erased with the smallest erase type (R184). -/
def State.eraseTarget (s : State) (n : Nat) : State :=
  let e := (eraseType s.boot.flash).getD (65536, 0xD8#8)
  s.emit (.flash 0 (slotBase n) (e.2 :: leBytes 4 e.1))

/-- A save starts: the snapshot is taken, and the target slot erased (R184, R185). -/
def State.startSave (s : State) : State :=
  let body := s.committedRecords.flatten
  let r := s.boot.refSlot
  let target := if r = 1 then 2 else 1
  let seq := if r = 0 then 1 else (s.z 0x201A r + 1) % 2 ^ 32
  let s := { s with boot := { s.boot with saveSlot := target, saveSeq := seq, saveBody := body, saveHeader := false } }
  let s := (s.put 0x201C 4 target).put 0x201C 3 0
  if 65504 < body.length then s.saveFailed 1
  else ({ s with boot := { s.boot with savePhase := 2 } }.put 0x201C 2 2).eraseTarget target

/-- The read-back of the header failed: the slot's CRC is wrong, in a way that is open (R186). [DEDUCED, log entry 31] -/
def State.spoilHeader (s : State) : State :=
  let o := s.slot s.boot.saveSlot
  let bad := (leAt o 28 4 + 1 + s.freeVal % (2 ^ 32 - 1)) % 2 ^ 32
  s.drawn.setSlot s.boot.saveSlot (putOct o 28 (leBytes 4 bad))

/-- The save is done: the target becomes the reference slot (R184). -/
def State.saveDone (s : State) : State :=
  let n := s.boot.saveSlot
  let s := { s with boot := { s.boot with savePhase := 0, saveBody := [], refSlot := n } }
  ((s.put 0x201C 2 6).put 0x2019 n (257 + (s.z 0x2019 n &&& 128))).put 0x201A n s.boot.saveSeq

/-- A save goes on to a phase of 201Ch:2. -/
def State.savePhaseTo (s : State) (ph : Nat) (head : Bool) : State :=
  { s with boot := { s.boot with savePhase := ph, saveHeader := head } }.put 0x201C 2 ph

/-- A flash command of the save completes; `ok` is the comparison of a read-back (R184, R186). -/
def State.saveNext (s : State) (ok : Bool) : State :=
  let b := s.boot
  let n := b.saveSlot
  match b.savePhase with
  | 2 => ((s.setSlot n []).savePhaseTo 3 false).emit (.flash 1 (slotBase n + 32) b.saveBody)
  | 3 => ((s.setSlot n (List.replicate 32 0xFF#8 ++ b.saveBody)).savePhaseTo 5 false).flashRead (slotBase n + 32) b.bootRdclk
  | 4 => ((s.setSlot n (s.saveHead ++ b.saveBody)).savePhaseTo 5 true).flashRead (slotBase n) 0
  | 5 =>
    if b.saveHeader then (if ok then s.saveDone else s.spoilHeader.saveFailed 2)
    else if ok then (s.savePhaseTo 4 false).emit (.flash 1 (slotBase n) s.saveHead)
    else s.saveFailed 2
  | _ => s

/-- The target slot of a save that the flash fails: its header is not programmed, or fails its CRC (R186). [DEDUCED, log entry 31] -/
def State.spoilTarget (s : State) : State :=
  if s.boot.savePhase = 5 ∧ s.boot.saveHeader then s.spoilHeader
  else s.setSlot s.boot.saveSlot (cutSlot s.boot.savePhase (s.slot s.boot.saveSlot))

/-- The flash stays busy beyond 3 s: a save fails, or step 7 goes on with the defaults (R183, R186, Table 4.11). -/
def State.flashBusy (s : State) : State :=
  if s.saving then s.spoilTarget.saveFailed 3
  else if s.boot.step = 7 then (((s.toDefaults.setCause 2 9).trySlots []).keepMasks s).endStep7
  else s

/-! ### Steps 9 to 12 -/

/-- Step 10 begins after the lead time (R188, R189, R195). -/
def State.refclkLead (s : State) : State :=
  if s.boot.step ≠ 9 then s
  else
    let s := (s.elapseTo (s.boot.stepAt + s.boot.lead * 1000)).toStep 10
    { s with boot := { s.boot with
      prstAt := s.now, prstPending := s.n 0x2014 0 % 256, linkDelay := s.n 0x2016 0
      delays := (upto 8).map fun n => s.n 0x2013 (n + 1) } }

/-- A line is released at the first rising edge of REF at or after its delay (R189). [DEDUCED, log entry 33] -/
def State.releaseLine (s : State) (n : Nat) : State :=
  if s.boot.step ≠ 10 || !bit s.boot.prstPending n then s
  else
    let s := s.elapseTo (roundUp (s.boot.stepAt + (s.boot.delays[n]?).getD 0 * 1000) 10)
    State.firstRelease { s with boot := { s.boot with
      prst := setBit s.boot.prst n, prstPending := clrBit s.boot.prstPending n, prstAt := s.now } } s.now

/-- Step 11 begins after the link start delay: every enabled port trains (R191, R358). [DEDUCED, log entry 33] -/
def State.linkStart (s : State) : State :=
  if s.boot.step ≠ 10 || decide (s.boot.prstPending ≠ 0) then s
  else
    let s := (s.elapseTo (s.boot.prstAt + s.boot.linkDelay * 1000)).toStep 11
    (upto 6).foldl (fun (s : State) p => if s.b 0x7000 (p + 1) then s.startTraining p else s) s

/-- Every enabled port is ACTIVE or FAILED (R364). -/
def State.portsSettled (s : State) : Bool :=
  (upto 6).all fun p => !s.b 0x7000 (p + 1) || decide ((s.port p).st = 6) || decide ((s.port p).st = 9)

/-- Step 13 begins, and ends at once where no loop has to lock (R515). -/
def State.lockStep (s : State) : State :=
  let s := s.startLock
  if s.allLocked then s.captureReady else s

/-- Step 12: the time base, the probe bank and the release start (R452, R550, R589); then step 13. -/
def State.timeStep (s : State) : State :=
  if s.boot.step = 11 ∧ s.acts ∧ s.portsSettled then (s.toStep 12).startTimeBase.startProbe.lockStep else s

end Sys2Proof.Machine
end

