-- ==== Sys2Proof/Machine/Pair.lean ====
section
/-! DEFINITION. Sys2Proof/Machine/Pair.lean: the redundant pair: role resolution, Rope frames and the camp channel, catch-up,
mirroring, comparison, eligibility, heartbeat, failover and handover (Chapter 19). -/
namespace Sys2Proof.Machine

/-! ### Eligibility and progress (R753, R761–R762) -/

/-- The Second reports its catch-up state (R753). -/
def State.progress (s : State) (code : Nat) : State :=
  { s with pair := { s.pair with catchup := code } }.campSend false 0x13 [BitVec.ofNat 8 code]

/-- Every port that the Lead reports admitted is admitted here (Table 19.8). -/
def State.portsMatch (s : State) : Bool := s.pair.partnerPorts.all fun e : Nat × Nat => !bit e.2 0 || (s.port e.1).admitted

/-- The conditions of Table 19.8 but for the length of the matching run. -/
def State.shadowGood (s : State) : Bool :=
  decide (s.pair.role = 3) && decide (s.pair.catchup = 7) && s.pair.aligned && decide (s.pair.los = 0) && s.pair.hbRun &&
    (s.pll .rpll).locked && (s.pll .rpll).refRope && decide ((s.loop 24).st = 2) && !s.pair.mirrorFail && !s.pair.campReset &&
    s.portsMatch && !s.pair.tickReset

/-- A Second's eligibility follows its conditions; a condition that fails restarts the run (R761, R762). -/
def State.syncElig (s : State) : State :=
  if s.pair.role ≠ 3 then s
  else
    let good := s.shadowGood
    let s := if good then s else { s with pair := { s.pair with run := 0 } }
    let e := good && decide (1024 ≤ s.pair.run)
    if e = s.pair.eligible then s.syncInelig else s.setEligible e

/-- Catch-up starts at DICT, or returns there (R753, R772, R773). -/
def State.toDict (s : State) : State :=
  State.syncElig ({ s with pair := { s.pair with mirrorFail := false, campReset := false, run := 0, rxSet := none, boundary := none } }.progress 2)

/-- Every port the Lead reports admitted has been trained here and is admitted or FAILED (Table 19.6). -/
def State.portsCaughtUp (s : State) : Bool :=
  decide (s.pair.partnerPorts.length = 6) &&
    s.pair.partnerPorts.all fun e : Nat × Nat => !bit e.2 0 || (s.port e.1).admitted || decide ((s.port e.1).st = 9)

/-- A boot step is entered, unless the boot has come further. [DEDUCED, log entry 35] -/
def State.stepUp (s : State) (n : Nat) : State := if s.boot.step < n then s.toStep n else s

/-- The catch-up states whose end condition holds now are left (Table 19.6). -/
def State.secondFollow (s : State) : State :=
  let s := if s.pair.catchup = 1 ∧ s.pair.aligned ∧ 11 ≤ s.boot.step then s.toDict else s
  let s := if s.pair.catchup = 3 ∧ s.portsCaughtUp then (s.stepUp 12).progress 4 else s
  let s := if s.pair.catchup = 5 ∧ s.boot.step = 14 ∧ s.allLocked then s.progress 6 else s
  s.syncElig

/-- A port's status goes to the partner when it has changed (Table 19.5). -/
def State.sendPortStat (s : State) (p : Nat) : State :=
  let w := s.portStatus p
  if mget s.pair.sentPorts p = some w then s
  else { s with pair := { s.pair with sentPorts := mset s.pair.sentPorts p w } }.campSend false 0x11
    (leBytes 1 p ++ leBytes 4 w)

/-- The Lead reports its ports, and orders its Second to train a port that has been admitted, or to quiesce one that has left
by a commit (R753, R777). -/
def State.leadPort (s : State) (p : Nat) : State :=
  let was := bit (mgetD s.pair.sentPorts p 0) 0
  let s := s.sendPortStat p
  if (s.port p).admitted ∧ ¬ was then s.campSend false 0x10 (leBytes 1 p ++ [0])
  else if was ∧ ((s.port p).st = 7 ∨ (s.port p).st = 0) then s.campSend false 0x10 (leBytes 1 p ++ [1])
  else s

/-- TRIG_SNAP (Table 19.5, R758). -/
def State.snapBody (s : State) : Octets :=
  let t := s.trig
  let six := fun f : Nat → Nat => ((upto 8).map fun j => leBytes 6 (f j)).flatten
  leBytes 8 s.time.tick ++ leBytes 4 t.word ++ leBytes 1 t.st ++ leBytes 1 t.level ++ leBytes 8 t.armAt ++ leBytes 8 t.disarmAt ++
    six (fun j => (t.value[j]?).getD 0) ++ six (fun j => (s.timer j).elapsed) ++
    leBytes 1 ((upto 8).map fun j => b2n (s.timer j).running * 2 ^ j).sum ++ leBytes 1 (b2n t.gate) ++ leBytes 4 t.holds ++
    leBytes 8 t.summitAt ++ leBytes 8 t.summitK ++ leBytes 10 (time80 t.summitTime) ++ leBytes 2 (timeParts t.summitTime).2.2 ++
    leBytes 1 t.summitBranch

/-- The Lead sends what a Second in PORTS or beyond waits for. -/
def State.leadFollow (s : State) : State :=
  let s := if 3 ≤ s.pair.secondState then (upto 6).foldl State.leadPort s else s
  if s.pair.snapDue ∧ (s.trig.st = 0 ∨ s.trig.st = 1 ∨ s.trig.st = 3) then
    { s with pair := { s.pair with snapDue := false } }.campSend false 0x0E s.snapBody
  else s

/-- What the pair does after any change that its conditions look at. -/
def State.pairFollow (s : State) : State :=
  if s.pair.role = 3 then
    let s := if 3 ≤ s.pair.catchup then (upto 6).foldl State.sendPortStat s else s
    s.secondFollow
  else if s.pair.role = 2 then s.leadFollow
  else s

/-! ### Role resolution (R743–R746) -/

/-- The identities match (R745). -/
def State.idMatch (s : State) (id : Nat) : Bool := decide (s.n 0x8000 1 = id) || decide (id = 0) || decide (s.n 0x8000 1 = 0)

/-- PAIR cause ROLE (Table 19.3, Table 19.12). -/
def State.roleConflict (s : State) : State := (s.setCause 14 5).bump 0xF090 13 1

/-- The role is LEAD, and step 9 begins. -/
def State.becomeLead (s : State) : State :=
  let s := { s with pair := { s.pair with role := 2 }, acc := { s.acc with canNode := s.n 0x1100 2 } }
  s.sendHello.syncInelig.syncRope.enterRefclk

/-- The role is ISOLATED. -/
def State.isolate (s : State) : State := State.roleConflict { s with pair := { s.pair with role := 4, catchup := 0 } }

/-- Step 8 of a Second ends when RPLL is locked to the Rope clock; steps 9 and 10 are skipped (R746, R193). [DEDUCED, log entry 35] -/
def State.secondLocked (s : State) : State :=
  if s.pair.role = 3 ∧ s.boot.step = 8 ∧ (s.pll .rpll).locked ∧ (s.pll .rpll).refRope then (s.toStep 11).pairFollow else s

/-- The role is SECOND: RPLL changes its reference to the Rope clock, and an unwritten identity takes the Lead's (R745, R746,
R775). [DEDUCED, log entry 35] -/
def State.becomeSecond (s : State) (id : Nat) : State :=
  let s := { s with pair := { s.pair with role := 3, catchup := 1 }, acc := { s.acc with canNode := s.n 0x8010 1 } }
  let x := s.pll .rpll
  let s := if x.refRope ∧ x.locked then s else s.setPll .rpll { started := true, refRope := true }
  let s := if s.n 0x8000 1 = 0 ∧ id ≠ 0 then s.startPairId id else s
  s.sendHello.syncInelig.syncRope.secondLocked

/-- The wait W of step 8 in ns (R743). [DEDUCED, log entry 77] -/
def State.roleWait (s : State) : Nat := if s.power.bootRoleSel then 800000 else 1000000

/-- A HELLO is received (Table 19.3, R744); one that comes after the expiry of W resolves no role (R14, R743). [DEDUCED, log entry 77] -/
def State.hello (s : State) (h : HelloMsg) : State :=
  let id := h.identity.toNat
  let partner := match h.state.val with | 0 => 1 | 1 => 2 | _ => 3
  let s := if s.pair.role = 0 then s
    else { s with pair := { s.pair with partner := partner, partnerId := id } }
  if s.pair.role = 1 ∧ s.boot.step = 8 then
    (if h.state = 2 ∨ s.late .aon s.boot.stepAt s.roleWait then s
     else if !s.idMatch id then s.isolate
     else if h.state = 1 then s.becomeSecond id
     else if h.roleSel ≠ s.power.bootRoleSel then (if s.power.bootRoleSel then s.becomeLead else s.becomeSecond id)
     else if Config.serial.toNat < h.serial.toNat then s.roleConflict.becomeLead
     else s.roleConflict.becomeSecond id)
  else if s.pair.role = 4 ∧ h.state = 1 ∧ s.idMatch id then s.becomeSecond id
  else if s.pair.role = 2 ∧ h.state = 0 then s.sendHello
  else s

/-- W expires without a HELLO (Table 19.3). -/
def State.roleWaitOver (s : State) (edges allLos : Bool) : State :=
  if s.pair.role ≠ 1 ∨ s.boot.step ≠ 8 then s
  else
    let s := s.elapseTo (s.boot.stepAt + s.roleWait)
    if s.power.bootRoleSel then (if edges then s.isolate else s.becomeLead)
    else if allLos && !edges then s.becomeLead else s.isolate

/-- A programming of fuses ends; the identity that a Second takes from its Lead isolates it when it fails (R775). -/
def State.fuseEnd (s : State) (ok : Bool) : State :=
  let failed := s.sec.kiState ≠ 1 ∧ s.sec.pairProg.isSome ∧ ¬ ok ∧ s.pair.role = 3
  let s := s.fuseDone ok
  let s := if s.sec.pairValid ∧ ok then (s.put 0x8000 1 s.sec.pairId) else s
  let s := if s.sec.pairValid ∧ !s.written.contains (key 0x8000 1) then { s with written := s.written ++ [key 0x8000 1] } else s
  if failed then s.isolate else s

/-! ### Sets (R310, R315, R752–R755) -/

/-- SET_BEGIN: a CATCHUP set puts a Second that has come further back into DICT (R754). -/
def State.setBegin (s : State) (o : Octets) : State :=
  if s.pair.role ≠ 3 then s
  else
    let kind := leAt o 4 1
    let s := { s with pair := { s.pair with rxSet := some ⟨leAt o 0 4, kind, leAt o 5 4, [], false⟩, boundary := none } }
    if kind = 0 ∧ 2 < s.pair.catchup then
      State.syncElig { s with pair := { s.pair with catchup := 2, mirrorFail := false, campReset := false, run := 0 } }
    else s

/-- SET_REC. -/
def State.setRec (s : State) (o : Octets) : State :=
  match s.pair.rxSet with
  | some x => if s.pair.role = 3 then { s with pair := { s.pair with rxSet := some { x with records := x.records ++ [o] } } } else s
  | none => s

/-- SET_END: the set is whole when its number, count and CRC fit; SET_ACK answers (R752). -/
def State.setEnd (s : State) (o : Octets) : State :=
  match s.pair.rxSet with
  | some x =>
    if s.pair.role ≠ 3 ∨ leAt o 0 4 ≠ x.number then s
    else
      let ok := decide (x.records.length = x.count) && decide (crc32c x.records.flatten = leAt o 4 4)
      { s with pair := { s.pair with rxSet := if ok then some { x with whole := true } else none } }.campSend true 5
        (leBytes 4 x.number ++ leBytes 1 (b2n !ok))
  | none => s

/-- A record as an entry of a set. -/
def recordEntry (o : Octets) : Option Staged :=
  match parseRecords o.length 0 o with
  | some [r] => (findRow r.idx r.sub).map fun w => ⟨r.idx, r.sub, octetsVal w.ty r.val, .image, w.wr, false⟩
  | _ => none

/-- The entries of a set; a CATCHUP set also returns every object it does not name to its default, but for the package time
write and a fused identity (Table 19.6, R474). -/
def State.rxEntries (s : State) (x : RxSet) : List Staged :=
  let l := x.records.filterMap recordEntry
  if x.kind ≠ 0 then l
  else
    let named := fun i u => l.any fun e : Staged => decide (e.idx = i) && decide (e.sub = u)
    l.filter (fun e => !(s.sec.pairValid && decide (e.idx = 0x8000))) ++
      (s.committedEntries.filter fun e => !named e.1 e.2.1 && decide (e.1 ≠ 0x8000)).map fun e =>
        ⟨e.1, e.2.1, defaultVal e.1 e.2.1, .image, 0, false⟩

/-- Windows that a mirrored commit restarts are in step with the Lead's (R766). [DEDUCED, log entry 80] -/
def State.markStep (s : State) (l : List Staged) : State :=
  (upto 16).foldl (fun (s : State) w => if touches l (0x5010 + w) (0x5010 + w) then s.setWin w { s.win w with inStep := true } else s) s

/-- A set received whole is installed, at once or at T (R315, Table 19.6). -/
def State.installSet (s : State) (x : RxSet) (now : Bool) : State :=
  let l := (s.rxEntries x)
  let changed := l.filter s.changes
  let s := { s with pair := { s.pair with rxSet := none, boundary := none } }
  let s := (s.applySet l s.time.tick).2
  let s := if now then s else s.markStep changed
  if x.kind = 0 ∧ s.pair.role = 3 then (s.progress 3).pairFollow else s

/-- BOUNDARY: a set is cancelled, applied at once, or given its T; a T that comes too late leaves the set unapplied (R315). [DEDUCED, log entry 79] -/
def State.boundary (s : State) (o : Octets) : State :=
  match s.pair.rxSet with
  | some x =>
    let t := if leAt o 4 8 = 0 then 0 else s.tickOf (leAt o 4 8)
    if s.pair.role ≠ 3 ∨ leAt o 0 4 ≠ x.number then s
    else if leAt o 12 1 = 1 then { s with pair := { s.pair with rxSet := none, boundary := none } }
    else if !x.whole then s
    else if t = 0 then s.installSet x true
    else if t < s.time.tick + 64 then s.toDict
    else { s with pair := { s.pair with boundary := some t } }
  | none => s

/-- A mirrored set applies at its T, whichever role the device has by then (R315, Table 19.15). -/
def State.mirrorApply (s : State) : State :=
  match s.pair.rxSet, s.pair.boundary with
  | some x, some t => if (s.dom .tick).inReset then s else (s.elapseToTick t).installSet x false
  | _, _ => s

/-- COMMIT_APPLY: the mirrored set's boundary, or that of the device's own commit. -/
def State.commitApply (s : State) : State :=
  match s.pair.boundary with
  | some t => if s.commit.state = 3 ∧ s.commit.boundary < t then s.ownApply else s.mirrorApply
  | none => s.ownApply

/-- The Lead sends the CATCHUP set, so its Second is in DICT (R754). -/
def State.startCatchup (s : State) : State :=
  State.sendCatchup { s with pair := { s.pair with secondState := 2, mirrorFail := false } }

/-- SET_ACK: the Lead's commit goes on; a CATCHUP set gets its boundary; a set with a CRC mismatch is sent again (R310, R754,
R763). A commit that has timed out, or has been cancelled, has no use for the acknowledgement of its set, which the Second discards (R310,
R322). -/
def State.setAck (s : State) (o : Octets) : State :=
  if s.pair.role ≠ 2 ∨ leAt o 0 4 ≠ s.pair.setNo then s
  else
    let commit := decide (s.commit.state = 2)
    let s := { s with pair := { s.pair with absent := false } }
    if s.pair.setKind = 1 ∧ !commit then (if leAt o 4 1 ≠ 0 ∨ s.commit.mirrored then s else s.sendBoundary 0 true)
    else if leAt o 4 1 ≠ 0 then (if commit then s.sendSet 1 s.stagedRecords else s.startCatchup)
    else
      let past := decide (5 ≤ s.pair.secondState)
      if commit then s.mirrorAck
      else s.sendBoundary (if past then roundUp (s.time.tick + 1024) 1024 else 0) false

/-! ### Time, sources and the sequencer (R756–R759) -/

/-- A value extended from its low 16 bits to the nearest at or below `tick`. -/
def extend16 (tick lo : Nat) : Nat := tick - (tick + 65536 - lo % 65536) % 65536

/-- The ticks that the pair keeps follow a new numbering, in which tick `old` is tick `y`. -/
def Pair.renumber (p : Pair) (old y latency : Nat) : Pair :=
  { p with
    latency := latency, lastRx := y - (old - p.lastRx), frameAt := y - (old - p.frameAt), ackTick := y - (old - p.ackTick)
    losTick := p.losTick.map fun t => y - (old - t), txT0 := p.txT0.map fun t => y - (old - t) }

/-- TIME_SYNC: L is half the round trip, and the tick counter and package time are loaded at Y (R757). [DEDUCED, log entry 79] -/
def State.timeSync (s : State) (o : Octets) : State :=
  if s.pair.role ≠ 3 ∨ s.pair.catchup ≠ 4 then s
  else
    let y := leAt o 0 8
    let leadRx := leAt o 28 8
    let own := extend16 s.pair.lastRx (leAt o 26 2)
    let leadT0 := extend16 (leadRx + 65535) s.pair.lastLo
    let trip : Int := ((s.pair.lastRx : Int) - own) - ((leadT0 : Int) - leadRx)
    let l := (rnd trip 2).toNat
    let lead := leadT0 + l + (s.time.tick - s.pair.lastRx)
    let s := s.elapse (y - lead)
    let first := !s.time.ptRun
    let s := if first then s.startTimeBase else s
    let adj := toInt 32 (leAt o 22 4)
    let pt := leAt o 8 6 * secUnits + leAt o 14 4 * 2 ^ 32 + leAt o 18 4
    let s := { s with
      time := { s.time with tick := y, pt := pt, rate := adj, slew := 0, slewEnd := none, past := [] }
      pair := s.pair.renumber s.time.tick y (min l 65535) }
    let s := s.progress 5
    (if first then s.startProbe.lockStep else s).pairFollow

/-- The Lead's TIME_SYNC for a tick Y ahead (R757, Table 19.5). [DEDUCED, log entry 79] -/
def State.sendTimeSync (s : State) : State :=
  let y := roundUp (s.time.tick + 1024) 10
  let t := s.ptAhead (y - s.time.tick)
  s.campSend false 7 (leBytes 8 y ++ leBytes 6 (timeParts t).1 ++ leBytes 4 (timeParts t).2.1 ++ leBytes 4 (t % 2 ^ 32) ++
    leBytes 4 (ofInt 32 s.adj) ++ leBytes 2 s.pair.lastLo ++ leBytes 8 s.pair.lastRx)

/-- ADJ: a change of ADJ with its apply tick. -/
def State.adjMsg (s : State) (o : Octets) : State :=
  if s.pair.role = 3 then s.delay (.adj (s.tickOf (leAt o 0 8)) (toInt 32 (leAt o 8 4)) 0 none) else s

/-- STEP: a time-source step, for stamp conversion (R469). -/
def State.stepMsg (s : State) (o : Octets) : State :=
  let i := leAt o 0 1
  if s.pair.role ≠ 3 ∨ 16 ≤ i then s
  else
    let x := { s.src i with trim := toInt 32 (leAt o 16 4) }
    if leAt o 1 1 = 1 then s.setSrc i x.startSet
    else s.setSrc i { x with step := some (toInt 64 (leAt o 4 8)), epoch := (leAt o 2 1 + 1) % 4 }

/-- CONFIRM: the step of a source is confirmed with its new EPOCH. -/
def State.confirmMsg (s : State) (o : Octets) : State :=
  let i := leAt o 0 1
  if s.pair.role ≠ 3 ∨ 16 ≤ i then s
  else
    let x := s.src i
    (s.setSrc i { x with step := none, setting := false, set := x.set || x.setting, epoch := leAt o 1 1 % 4 }).tapsFollow

/-- SRCSTAT: a source's status and last TRIM. -/
def State.srcStatMsg (s : State) (o : Octets) : State :=
  let i := leAt o 0 1
  if s.pair.role ≠ 3 ∨ 16 ≤ i then s
  else
    let w := leAt o 1 1
    (s.setSrc i { s.src i with
      set := bit w 3, late := bit w 2, meas := bit w 1, present := bit w 0, trim := toInt 32 (leAt o 2 4) }).tapsFollow

/-- ARM: the Second arms at tick A when the message is visible by A − 64; otherwise it is not eligible (R613). [DEDUCED, log entry 79] -/
def State.armMsg (s : State) (o : Octets) : State :=
  let a := s.tickOf (leAt o 0 8)
  if s.pair.role ≠ 3 ∨ s.pair.catchup < 3 then s
  else if s.time.tick + 64 ≤ a then
    { s with trig := { s.trig with st := 1, armAt := a, gate := false }, pair := { s.pair with leadStart := some a } }
  else State.syncElig { s with pair := { s.pair with run := 0 } }

/-- DISARM: as ARM, for tick D. [DEDUCED, log entry 79] -/
def State.disarmMsg (s : State) (o : Octets) : State :=
  let d := s.tickOf (leAt o 0 8)
  if s.pair.role ≠ 3 ∨ s.pair.catchup < 3 then s
  else if s.time.tick + 64 ≤ d then
    { s with trig := { s.trig with disarming := true, disarmAt := d, st := if s.trig.st = 2 then 4 else s.trig.st } }
  else State.syncElig { s with pair := { s.pair with run := 0 } }

/-- TRIG_SNAP: a Second in TRIG_WAIT takes the snapshot as its sequencer state, in which a disarm tick that lies ahead is still to come, and
enters SHADOW (R613, R758). [DEDUCED, log entry 79] -/
def State.trigSnap (s : State) (o : Octets) : State :=
  if s.pair.role ≠ 3 ∨ s.pair.catchup ≠ 6 then s
  else
    let z := s.tickOf (leAt o 0 8)
    let run := leAt o 126 1
    let s := { s with
      trig := { s.trig with
        word := leAt o 8 4, st := leAt o 12 1, level := leAt o 13 1, armAt := s.tickOf (leAt o 14 8), disarmAt := s.tickOf (leAt o 22 8)
        disarming := decide (leAt o 12 1 ≠ 0) && decide (s.time.tick < s.tickOf (leAt o 22 8))
        value := (upto 8).map fun j => leAt o (30 + 6 * j) 6
        timer := (upto 8).map fun j => let e := leAt o (78 + 6 * j) 6; (j, { running := bit run j, start := z - e, elapsed := e })
        gate := decide (leAt o 127 1 = 1), holds := leAt o 128 4
        summitAt := s.tickOf (leAt o 132 8), summitK := s.tickOf (leAt o 140 8), summitTime := ofTime80 (leAt o 148 10) (leAt o 158 2), summitBranch := leAt o 160 1 }
      pair := { s.pair with run := 0, tickReset := false } }
    State.syncElig (((s.bump 0xF090 9 1).bump 0xF090 8 1).progress 7)

/-- CKPT: a stream's checkpoint, for use at failover (R764). -/
def State.ckpt (s : State) (o : Octets) : State :=
  let t := leAt o 0 1
  if s.pair.role ≠ 3 ∨ 4 ≤ t then s
  else s.setStream t { s.stream t with produced := leAt o 8 8, next := leAt o 16 8, frames := leAt o 24 8, lost := leAt o 32 8 }

/-! ### Ports, handover and progress (R753, R767, R777) -/

/-- TRAIN: the Second trains a port, or quiesces and disables it. -/
def State.trainMsg (s : State) (o : Octets) : State :=
  let p := leAt o 0 1
  if s.pair.role ≠ 3 ∨ 6 ≤ p then s
  else if leAt o 1 1 = 1 then (s.quiescePort p).pairFollow
  else if (s.port p).trained ∨ (s.port p).st = 2 ∨ !s.b 0x7000 (p + 1) then s
  else s.startTraining p

/-- A port that the Second has lost, while the Lead's is admitted: the Lead orders TRAIN once it learns of the loss (R777). -/
def State.trainLost (s : State) (p status : Nat) : State :=
  let lost := fun w => decide (bits w 12 4 = 8)
  if s.pair.role = 2 ∧ (s.port p).admitted ∧ lost status ∧ !lost (mgetD s.pair.partnerPorts p 0) then s.campSend false 0x10 (leBytes 1 p ++ [0])
  else s

/-- PORTSTAT: the partner's port status. -/
def State.portStat (s : State) (o : Octets) : State :=
  let p := leAt o 0 1
  if 6 ≤ p ∨ (s.pair.role ≠ 2 ∧ s.pair.role ≠ 3) then s
  else
    let s := s.trainLost p (leAt o 1 4)
    State.pairFollow { s with pair := { s.pair with partnerPorts := mset s.pair.partnerPorts p (leAt o 1 4) } }

/-- HANDOVER: the Second learns the yield tick X. -/
def State.handoverMsg (s : State) (o : Octets) : State :=
  if s.pair.role = 3 then { s with pair := { s.pair with yieldAt := some (s.tickOf (leAt o 0 8)) } } else s

/-- PROGRESS: the Lead learns the Second's catch-up state and sends what it waits for (R753–R758). -/
def State.progressMsg (s : State) (o : Octets) : State :=
  let c := leAt o 0 1
  if s.pair.role ≠ 2 then s
  else
    let s := { s with pair := { s.pair with secondState := c } }
    match c with
    | 2 => s.startCatchup
    | 3 => State.pairFollow { s with pair := { s.pair with sentPorts := [] } }
    | 4 => s.sendTimeSync
    | 6 => State.pairFollow { s with pair := { s.pair with snapDue := true } }
    | _ => s

/-- Refusal of a handover request behind step 8 of Table 5.5 (R767). -/
def State.handoverCode (s : State) : Nat := if s.leadWithSecond then 0 else 0x0303

/-- A handover request: X is fixed and announced (R767). -/
def State.startHandover (s : State) : State :=
  let x := roundUp (s.time.tick + 1024) 1024
  ({ s with pair := { s.pair with yieldAt := some x } }.bump 0xF090 12 1).campSend true 0x12 (leBytes 8 x)

/-- The Lead yields at X and enters failover reset (R764, R767). -/
def State.handoverYield (s : State) : State :=
  match s.pair.yieldAt with
  | some x => if s.pair.role = 2 then (s.elapseToTick x).softReset .failover else s
  | none => s

/-! ### The camp channel (R751, R752) -/

/-- A camp message by its type (Table 19.5). -/
def State.campMsg (s : State) (m : Nat × Octets) : State :=
  let o := m.2
  match m.1 with
  | 1 => s.hello ⟨BitVec.ofNat 32 (leAt o 0 4), BitVec.ofNat 64 (leAt o 4 8), decide (leAt o 12 1 = 1), Fin.ofNat 3 (min 2 (leAt o 13 1))⟩
  | 2 => s.setBegin o | 3 => s.setRec o | 4 => s.setEnd o | 5 => s.setAck o | 6 => s.boundary o
  | 7 => s.timeSync o | 8 => s.adjMsg o | 9 => s.stepMsg o | 10 => s.confirmMsg o | 11 => s.srcStatMsg o
  | 12 => s.armMsg o | 13 => s.disarmMsg o | 14 => s.trigSnap o | 15 => s.ckpt o | 16 => s.trainMsg o
  | 17 => s.portStat o | 18 => s.handoverMsg o | 19 => s.progressMsg o
  | _ => s

/-- The whole messages at the front of a stream, and what is left. -/
def takeCamp (fuel : Nat) (o : Octets) : List (Nat × Octets) × Octets :=
  match fuel with
  | 0 => ([], o)
  | fuel + 1 =>
    let n := leAt o 1 2
    if o.length < 3 ∨ o.length < 3 + n then ([], o)
    else
      let r := takeCamp fuel (o.drop (3 + n))
      ((leAt o 0 1, octAt o 3 n) :: r.1, r.2)

/-- A segment in order adds its octets to its stream, whose whole messages are taken. -/
def State.campSegment (s : State) (urgent : Bool) (data : Octets) : State :=
  let o := (if urgent then s.pair.rxUrgent else s.pair.rxBulk) ++ data
  let r := takeCamp o.length o
  let s := if urgent then { s with pair := { s.pair with rxUrgent := r.2 } } else { s with pair := { s.pair with rxBulk := r.2 } }
  r.1.foldl State.campMsg s

/-- CACK acknowledges every segment up to it (R751). -/
def State.campAck (s : State) (cack : Nat) : State :=
  let u := s.pair.unacked
  let hit := u.findIdx? fun g => decide (g.seq = cack)
  match hit with
  | some i =>
    let rest := u.drop (i + 1)
    { s with pair := { s.pair with unacked := rest, resend := min s.pair.resend rest.length, ackTick := s.time.tick, resends := 0 } }
  | none => s

/-- The next segment: one to be sent again, then urgent octets, then bulk octets; none beyond 64 unacknowledged (R751). -/
def State.nextSegment (s : State) : Option CampSeg × State :=
  let p := s.pair
  if 0 < p.resend then
    (p.unacked[p.unacked.length - p.resend]?, { s with pair := { p with resend := p.resend - 1 } })
  else if 64 ≤ p.unacked.length ∨ (p.txUrgent.isEmpty ∧ p.txBulk.isEmpty) then (none, s)
  else
    let u := !p.txUrgent.isEmpty
    let g : CampSeg := ⟨p.txSeq, u, (if u then p.txUrgent else p.txBulk).take 19⟩
    (some g, { s with pair := { p with
      txSeq := (p.txSeq + 1) % 256, unacked := p.unacked ++ [g], ackTick := if p.unacked.isEmpty then s.time.tick else p.ackTick
      txUrgent := if u then p.txUrgent.drop 19 else p.txUrgent, txBulk := if u then p.txBulk else p.txBulk.drop 19 } })

/-- CACK has not advanced for 256 ticks: everything unacknowledged is sent again, or the channel resets (R751). -/
def State.campTimeout (s : State) : State :=
  if s.pair.unacked.isEmpty then s
  else
    let s := s.elapseToTick (s.pair.ackTick + 256)
    let n := s.pair.unacked.length
    if 8 ≤ s.pair.resends then
      let s := { s with pair := { s.pair with
        unacked := [], resend := 0, resends := 0, txUrgent := [], txBulk := [], rxUrgent := [], rxBulk := [], campReset := true } }
      if s.pair.role = 3 ∧ 2 ≤ s.pair.catchup then s.toDict else s.syncElig
    else
      State.bump { s with pair := { s.pair with resend := n, resends := s.pair.resends + 1, ackTick := s.time.tick } } 0xF090 3 n

/-- The resend timer has expired before the segment that comes now (R14, R751). -/
def State.resendPast (s : State) : State :=
  if s.pair.ackTick + 256 < s.time.tick then s.campTimeout else s

/-! ### Rope frames (R748–R750, R761) -/

/-- The Rope transmitters send: from the end of step 3, in a pair (R747). -/
def State.ropeSends (s : State) : Bool := decide (s.pair.role ≠ 0) && decide (4 ≤ s.boot.step)

/-- The state word of a release tick, as far as it is kept. -/
def State.wordAt (s : State) (r : Nat) : Nat := mgetD s.pair.words r s.trig.word

/-- The payload of the frame that begins in tick t0 (Table 19.4). -/
def State.ropePayload (s : State) (t0 : Nat) (seg : Option CampSeg) : Octets :=
  let data := decide (s.pair.role = 2) || decide (s.pair.role = 3)
  let ft := b2n data + 16 * b2n (decide (s.pair.role = 2)) + 32 * b2n (decide (s.pair.role = 3) && s.pair.eligible) + 64 * b2n seg.isSome
  let mid := if data then
      leBytes 2 t0 ++ ((upto 4).map fun j => leBytes 4 (s.wordAt (t0 + j))).flatten ++
        (upto 4).map fun j => BitVec.ofNat 8 (if s.pair.role = 3 then 0 else mgetD s.pair.ownAux (t0 + j - 16) 0)
    else zeros 22
  let g : CampSeg := seg.getD ⟨0, false, []⟩
  let o := leBytes 1 ft ++ mid ++ leBytes 1 g.seq ++ leBytes 1 ((s.pair.rxSeq + 255) % 256) ++
    leBytes 1 (b2n g.urgent * 128 + g.data.length) ++ octAt g.data 0 19
  o ++ leBytes 4 (crc32c o)

/-- The frame of the next four ticks leaves when they have passed (R748); a device without a role, or with one that nobody
answers, keeps sending HELLO (R743, R744). [DEDUCED, log entry 76] -/
def State.ropeSend (s : State) : State :=
  if !s.ropeSends then s
  else
    let base := match s.pair.txT0 with | some t => t + 4 | none => roundUp s.time.tick 4
    let t0 := max base (s.time.tick / 4 * 4 - 4)
    let s := s.elapseToTick (t0 + 4)
    let idle := s.pair.txBulk.isEmpty && s.pair.unacked.isEmpty && decide (s.boot.step = 8)
    let s := if idle && (decide (s.pair.role = 1) || decide (s.pair.role = 4)) then s.sendHello else s
    let (seg, s) := s.nextSegment
    State.emit { s with pair := { s.pair with txT0 := some t0 } } (.rope (s.ropePayload t0 seg))

/-- A release tick's own word is compared with the Lead's (R761). -/
def State.compareWord (s : State) (r w : Nat) : State :=
  if s.pair.catchup ≠ 7 then s
  else match mget s.pair.words r with
    | none => s
    | some own =>
      let s := s.bumpW 0xF090 4 64 1
      let s := { s with pair := { s.pair with compared := r } }
      if own = w then { s with pair := { s.pair with run := min (2 ^ 32 - 1) (s.pair.run + 1) } }
      else
        let s := ((({ s with pair := { s.pair with run := 0 } }.put 0x8004 1 r).put 0x8004 2 w).put 0x8004 3 own).setCause 14 1
        ((s.bump 0xF090 5 1).ropePulse 1).progress 6

/-- RPLL follows OSC again, hitless (R110). -/
def State.rpllToOsc (s : State) : State := s.setPll .rpll { s.pll .rpll with refRope := false, holdover := false, locked := true }

/-- The link is lost: a Second runs on its own oscillator from then on (R746, R772). -/
def State.ropeLost (s : State) : State :=
  if s.pair.role = 3 then State.syncElig (State.rpllToOsc { s with pair := { s.pair with losLong := true } })
  else { s with pair := { s.pair with losLong := true } }

/-- The link realigns after its 1 ms has passed (R14, R772). -/
def State.lossPast (s : State) : State :=
  match s.pair.losAt with
  | some t => if !s.pair.losLong && s.late .aon t 1000000 then s.ropeLost else s
  | none => s

/-- The link reads ALIGNED, and what that means to a Second (R749, R772). [DEDUCED, log entry 76] -/
def State.realigned (s : State) : State :=
  let s := s.lossPast
  let was := s.pair.losAt.isSome
  let long := s.pair.losLong
  let s := State.syncRope { s with pair := { s.pair with aligned := true, losAt := none, losLong := false } }
  if s.pair.role ≠ 3 then s
  else if long then s.softReset .warm
  else
    let s := if (s.pll .rpll).refRope then s.setPll .rpll { s.pll .rpll with holdover := false } else s
    if was ∧ 2 ≤ s.pair.catchup then s.toDict else s.pairFollow

/-- A frame is discarded (R749, R761). [DEDUCED, log entry 76] -/
def State.frameLost (s : State) (header : Bool) : State :=
  let n := if header then s.pair.invalid + 1 else 0
  let s := State.bump { s with pair := { s.pair with good := 0, run := 0, invalid := n } } 0xF090 2 1
  let s := if 16 ≤ n ∧ s.pair.aligned then State.syncRope { s with pair := { s.pair with aligned := false } } else s
  s.syncElig

/-- The heartbeat limit passes without a DATA frame (R763). [DEDUCED, log entry 78] -/
def State.heartbeatOver (s : State) : State :=
  if !s.pair.hbRun then s
  else
    let s := s.elapseToTick (s.pair.frameAt + s.n 0x8002 1)
    let s := { s with pair := { s.pair with hbRun := false } }
    let s := ((s.setCause 14 0).bump 0xF090 6 1).ropePulse 2
    if s.pair.role = 2 then State.setEligible { s with pair := { s.pair with absent := true } } false
    else s.syncElig

/-- A limit of `n` ticks from tick `t` has passed before this tick (R14). -/
def State.ticksPast (s : State) (t n : Nat) : Bool := decide (t + n < s.time.tick)

/-- The heartbeat has expired before the frame that comes now (R14, R763). -/
def State.heartbeatPast (s : State) : State :=
  if s.pair.hbRun && s.ticksPast s.pair.frameAt (s.n 0x8002 1) then s.heartbeatOver else s

/-- The contents of a DATA frame with a good FCRC (R757, R759, R761–R764). [DEDUCED, log entry 78] -/
def State.dataFrame (s : State) (o : Octets) : State :=
  let ft := leAt o 0 1
  let t0 := extend16 s.time.tick (leAt o 1 2)
  let s := s.heartbeatPast
  let s := State.bumpW { s with pair := { s.pair with
    frameAt := s.time.tick, hbRun := true, losTick := none, lastLo := leAt o 1 2, lastRx := s.time.tick
    partner := if bit ft 4 then 2 else 3 } } 0xF090 1 64 1
  if s.pair.role = 2 then
    if bit ft 4 then s.softReset .failover
    else
      let e := bit ft 5 && !s.pair.mirrorFail
      if e = s.pair.eligible then s.syncInelig else s.setEligible e
  else
    let aux := (upto 4).map fun j => (t0 + j - 16, leAt o (19 + j) 1)
    let s := { s with pair := { s.pair with aux := (aux ++ s.pair.aux).take 96 } }
    (upto 4).foldl (fun (s : State) j => s.compareWord (t0 + j) (leAt o (3 + 4 * j) 4)) s

/-- A Rope frame is received (R749): its payload, or any other string of octets for one with an invalid header. [DEDUCED, log entry 76] -/
def State.ropeReceive (s : State) (o : Octets) : State :=
  if s.pair.role = 0 ∨ !s.up then s
  else
    let s := { s with pair := { s.pair with lanes := 15, los := 0 } }
    if o.length ≠ 49 then s.frameLost true
    else if leAt o 45 4 ≠ crc32c (o.take 45) ∨ 19 < leAt o 25 1 % 32 ∨ 1 < leAt o 0 1 % 16 then s.frameLost false
    else
      let g := s.pair.good + 1
      let s := State.syncRope { s with pair := { s.pair with good := g, invalid := 0 } }
      let s := if 16 ≤ g ∧ !s.pair.aligned then s.realigned else s
      let s := if leAt o 0 1 % 16 = 1 ∧ (s.pair.role = 2 ∨ s.pair.role = 3) then s.dataFrame o else s
      let s := s.resendPast.campAck (leAt o 24 1)
      let s := if bit (leAt o 0 1) 6 ∧ leAt o 23 1 = s.pair.rxSeq then
          State.campSegment { s with pair := { s.pair with rxSeq := (s.pair.rxSeq + 1) % 256 } } (bit (leAt o 25 1) 7)
            (octAt o 26 (leAt o 25 1 % 32))
        else s
      s.syncElig

/-! ### Heartbeat, loss of signal and failover (R763–R766, R772–R774) -/

/-- A source loop of the new Lead re-enables from the mirrored TRIM (Table 19.9). -/
def State.failLoop (s : State) (l : Nat) : State :=
  if s.loopEnabled l then
    s.setLoop l { ({} : LoopSt) with u := (s.src l).trim, st := if (s.src l).present then 1 else 5, reenable := true }
  else s

/-- A stream of the new Lead: in step, it resumes from its mirrored checkpoint; otherwise its blocks are lost (Table 19.9,
R650). -/
def State.failStream (s : State) (t : Nat) : State :=
  if !s.streamEn t then s
  else if (s.win (s.streamWin t)).inStep then s
  else s.skipBlocks t 0 (((s.win (s.streamWin t)).closed.filter fun c : Nat × Nat => decide ((s.stream t).first ≤ c.1)).length)

/-- The failover at tick F (Table 19.9, R766), where the sessions on CAN FD and 10BASE-T1S close (R792). [DEDUCED, log entry 80] -/
def State.failover (s : State) : State :=
  let s := s.elapse 1
  let f := s.time.tick
  let gap := (f - 1) - s.pair.compared
  let s := { s with
    pair := { s.pair with
      role := 2, catchup := 0, run := 0, secondState := 0, absent := true, hbRun := false, mirrorFail := false, snapDue := false, refLost := false
      losTick := none, yieldAt := none, sentPorts := [], partnerPorts := [] }
    boot := { s.boot with
      prst := s.n 0x2014 0 % 256, prstFirst := true, refclk := s.n 0x220A 0 % 256, prstOld := s.n 0x2014 0 % 256, refclkOld := 0
      fanAt := s.now }
    acc := { s.acc with canPending := true } }
  let s := s.rpllToOsc
  let s := (s.put 0x8005 1 f).put 0x8005 2 (min gap 65535)
  let s := ((s.setCause 14 3).bump 0xF090 10 1).ropePulse 3
  let s := s.setEligible false
  let s := (upto 16).foldl State.failLoop s
  let s := (upto 6).foldl (fun (s : State) p => if (s.port p).admitted then s.writeOrole p true else s) s
  let s := (upto 4).foldl State.failStream s
  let s := (s.closeSession 1).closeSession 2
  if s.mgtFast && s.b 0x1110 1 && !s.acc.netDown then s.emit (.arp 1 (s.n 0x1110 3) (leNat (valOct (s.val 0x1110 2)).reverse)) else s

/-- A yield is detected when the loss of signal on all lanes and the loss of REF are both visible: the failover, or the
Second's own warm reset (R765, R774). -/
def State.checkYield (s : State) : State :=
  match s.pair.losTick with
  | some l =>
    if s.pair.role = 3 ∧ s.pair.los = 15 ∧ s.pair.refLost then
      (if s.pair.losElig ∧ s.time.tick ≤ l + 16 then s.failover else s.rpllToOsc.softReset .warm)
    else s
  | none => s

/-- Lanes go into loss of signal (R749, R765, R772). -/
def State.ropeLoss (s : State) (m : Nat) : State :=
  let new := andNot m s.pair.los
  if s.pair.role = 0 ∨ !s.up ∨ new = 0 then s
  else
    let p := s.pair
    let s := { s with pair := { p with
      los := p.los ||| m, lanes := andNot p.lanes m, aligned := false, good := 0
      losAt := if p.los = 0 ∧ p.losAt.isNone then some s.now else p.losAt
      losTick := if p.losTick.isNone then some s.time.tick else p.losTick
      losElig := if p.losTick.isNone then p.eligible else p.losElig } }
    let s := (State.syncRope s).bump 0xF090 7 1 |>.setCause 14 2
    let s := if s.pair.role = 3 ∧ bit m 0 then s.setPll .rpll { s.pll .rpll with holdover := true } else s
    s.syncElig.checkYield

/-- The link has not realigned within 1 ms (R772). -/
def State.ropeLossOver (s : State) : State :=
  match s.pair.losAt with
  | some t => State.ropeLost (s.elapseTo (t + 1000000))
  | none => s

/-- REF loss is declared on the phase reference net of a Second (R765). [DEDUCED, log entry 80] -/
def State.refLoss (s : State) : State :=
  if s.pair.role = 3 then State.checkYield { s with pair := { s.pair with refLost := true } } else s

/-- A PLL locks again: at step 8 of a Second, RPLL to the Rope clock (R746, R148). -/
def State.pllLockedAgain (s : State) (p : Pll) : State := (s.pllRelock p).secondLocked.syncElig

/-- A commit whose boundary is tick `k` applies before that tick's other events. -/
def State.applyAt (s : State) (k : Nat) : State :=
  if s.pair.boundary = some k ∨ (s.pair.boundary = none ∧ s.commit.state = 3 ∧ s.commit.boundary = k) then s.commitApply else s

/-- A commit whose boundary is the credit epoch boundary that comes next applies before it (Table 9.16). -/
def State.applyBefore (s : State) : State := s.applyAt s.nextEpoch

/-- What follows every message and every access: requests that waited go on, the units take their completions, and a pair its changes. -/
def State.settle (s : State) : State := s.drainInbox.drainDev.serveUnits.pairFollow

end Sys2Proof.Machine
end

