-- ==== Sys2Proof/Machine/Read.lean ====
section
/-! DEFINITION. Sys2Proof/Machine/Read.lean: what a read of an object returns: the store's value, or for a status object the
live value of the unit that shows it (Chapters 3 to 20). -/
namespace Sys2Proof.Machine

/-- The object a query names exists, and is (index, subindex). -/
def queryOf (v : Nat) : Nat × Nat := (v / 256 % 65536, v % 256)

/-- Class code of Table 5.9. -/
def clsCode (c : Cls) : Nat :=
  match c with
  | .s => 0 | .l => 1 | .r => 2 | .o => 3 | .k => 4

/-- Fuse-backed objects (Table 5.9, R745, R793). -/
def fuseBacked (idx sub : Nat) : Bool := decide (idx = 0x8000 ∧ sub = 1) || decide (idx = 0x9020 ∧ sub = 1)

/-- Descriptor of an object (Table 5.9); RDLVL of 2001h:2, whose read level is that of the object it shows, reads 0 (Table 7.4). [DESIGN CHOICE, log
entry 91] -/
def State.descriptor (s : State) (idx sub : Nat) : Nat :=
  match findRow idx sub with
  | none => 0
  | some r =>
    let len := match r.ty with | .octets => r.maxLen | t => tyLen t
    let wr := decide (r.cls ≠ .r)
    let written := (decide (r.cls = .o) && s.written.contains (key idx sub)) || (decide (idx = 0x9020 ∧ sub = 1) && s.sec.kiValid)
    len * 2 ^ 19 + clsCode r.cls * 2 ^ 16 + r.rd * 2 ^ 14 + (if wr then r.wr else 0) * 2 ^ 12 + b2n wr * 2 ^ 11 +
      b2n (decide (r.cls = .k) && s.locked) * 2 ^ 10 + b2n written * 2 ^ 9 + b2n (fuseBacked idx sub) * 2 ^ 8 + tyCode r.ty

/-- A check-report entry (Table 7.3). -/
def violationWord (v : Violation) : Nat := v.rule * 2 ^ 48 + v.aidx * 2 ^ 32 + v.asub * 2 ^ 24 + v.bidx * 2 ^ 8 + v.bsub

/-- One TIME80 value with its fraction and tick, as octets (Table 11.6): a read that runs in tick k has sampled at the end of the tick before
it, so that k is its tick (R228, R480). [DEDUCED, log entry 11] -/
def State.timeSnapshot (s : State) : Octets :=
  leBytes 10 (time80 s.time.pt) ++ leBytes 2 (timeParts s.time.pt).2.2 ++ leBytes 8 s.time.tick

/-- Filter result word (Table 10.9) of a line. A line under recall keeps its state and shows RECALL. [DESIGN CHOICE, log entry 57] -/
def State.filterResult (s : State) (line : Nat) : Nat :=
  match s.entry line with
  | none => if (s.txn line).isSome then 3 * 2 ^ 30 else 0
  | some e =>
    let transient : Bool := match s.txn line with | some t => !t.recalling | none => false
    (if transient then 3 else e.st) * 2 ^ 30 + b2n e.recalling * 2 ^ 29 + e.way * 2 ^ 24 +
      (if e.st = 2 ∧ ¬ transient then e.owner else 0) * 2 ^ 16 + min 255 e.holders.length * 2 ^ 8

/-- Lines in Transient or recalling (7803h:3). -/
def State.transientLines (s : State) : Nat :=
  (s.coh.txn.map Prod.fst ++ ((s.coh.filter.filter fun e : Nat × FilterEntry => e.2.recalling && (mget s.coh.txn e.1).isNone).map Prod.fst)).length

/-- The owner word of the mailbox (Table 6.5). -/
def State.ownerWord (s : State) : Nat :=
  match s.acc.owner with
  | some (p, sid, v) => v * 65536 + sid * 256 + p
  | none => 0

/-- PLL status (2202h). -/
def State.pllStatus (s : State) (p : Pll) : Nat :=
  let x := s.pll p
  b2n x.locked + b2n x.refRope * 2 + b2n x.holdover * 4

/-- Domain of an entry of 2200h, where it shows one domain. -/
def domainEntry (sub : Nat) : Option Domain :=
  match sub with
  | 1 => some .xo | 2 => some .tick | 3 => some .fab | 5 => some .cmp | 6 => some .prb | 7 => some .srv | 8 => some .mgt | 9 => some .aon
  | _ => none

/-- PLL of an entry of 2202h. -/
def pllEntry (sub : Nat) : Pll := match sub with | 1 => .rpll | 2 => .spll | 3 => .ppll | _ => .cpll

/-- Identity, session and dictionary objects that do not lie in the store (1000h–1083h). -/
def State.readAccess (s : State) (p req idx sub : Nat) : Option Val :=
  let x := s.path p
  match idx, sub with
  | 0x1000, 3 => some (.num Config.serial.toNat)
  | 0x1001, 1 => some (.num s.sec.lcs)
  | 0x1001, 3 => some (.num s.sec.trState)
  | 0x1010, 1 => some (.num x.level)
  | 0x1010, 2 => some (.oct (match x.challenge with | some c => if s.now ≤ c.since + s.n 0x1011 1 * 1000000 then c.octets else zeros 32 | none => zeros 32))
  | 0x1010, 4 => some (.num (match x.session with | some e => if e.req = req then e.level else 0 | none => 0))
  | 0x1010, 5 => some (.num x.fails)
  | 0x1011, 3 => some (.oct (match x.session with | some e => leBytes 6 e.req | none => zeros 6))
  | 0x1081, 2 => some (.num (b2n s.locked))
  | 0x1083, 1 => some (.num x.query)
  | 0x1083, 2 => some (.num (s.descriptor (queryOf x.query).1 (queryOf x.query).2))
  | 0x1103, 1 => some (.num s.acc.canState)
  | 0x1103, 2 => some (.num s.acc.tecErr)
  | 0x1103, 3 => some (.num s.acc.recErr)
  | 0x1112, 2 => some (.num (b2n s.acc.phyLink))
  | 0x1112, 3 => some (.num (if s.b 0x1111 1 then s.acc.plca else 0))
  | 0x1120, 4 => some (.num s.ownerWord)
  | _, _ => none

/-- Staging and commit objects (2000h–2005h). -/
def State.readCommit (s : State) (p idx sub : Nat) : Option Val :=
  let q := queryOf (s.path p).squery
  match idx, sub with
  | 0x2000, 1 => some (.num s.staged.length)
  | 0x2000, 2 => some (.num (stagedOctets s.staged))
  | 0x2000, 3 => some (.num s.stagedLevel)
  | 0x2001, 1 => some (.num (s.path p).squery)
  | 0x2001, 2 => (s.stagedEntry q.1 q.2).map fun e => .oct (match findRow q.1 q.2 with | some r => valOctets r.ty e.val | none => [])
  | 0x2001, 3 => some (.num (match s.stagedEntry q.1 q.2 with | some e => pathNo e.path | none => 0))
  | 0x2004, 1 => some (.num s.commit.state)
  | 0x2004, 3 => some (.num s.commit.boundary)
  | 0x2005, 0 => some (.num s.commit.report.length)
  | 0x2005, k => some (.num (match s.commit.report[k - 1]? with | some v => violationWord v | none => 0))
  | _, _ => none

/-- Boot, alert, clock and bank objects (2018h–2301h). -/
def State.readDevice (s : State) (idx sub : Nat) : Option Val :=
  match idx with
  | 0x2018 => if sub = 1 then some (.num s.boot.step) else none
  | 0x201C => if sub = 1 then some (.num (b2n s.saving)) else none
  | 0x2100 => some (.num s.summary)
  | 0x2121 => some (.num s.rawSummary)
  | 0x2122 => if sub = 1 then some (.num (b2n s.alerts.driven)) else none
  | 0x2200 => if sub = 4 then some (.num s.lnkStatus) else (domainEntry sub).map fun d => .num (s.domStatus d)
  | 0x2201 => if h : 0 < sub ∧ sub ≤ 6 then some (.num (s.domStatus (.lnk ⟨sub - 1, by omega⟩))) else none
  | 0x2202 => if sub = 0 then none else some (.num (s.pllStatus (pllEntry sub)))
  | 0x2206 => if sub = 4 then some (.num (b2n s.clk.meterRun)) else if sub = 5 then some (.num s.meterState) else none
  | 0x2208 => if sub = 5 then some (.num s.clk.dvfsCur) else if sub = 6 then some (.num s.clk.dvfsState) else none
  | 0x2301 => if sub = 0 then none else some (.num (s.bankStatus (sub - 1)))
  | _ => if 0x2101 ≤ idx ∧ idx ≤ 0x2110 then some (.num (s.cause (idx - 0x2101))) else none

/-- Observation, tap and probe objects (3001h–3915h). -/
def State.readObserve (s : State) (idx sub : Nat) : Option Val :=
  let i := sub - 1
  if sub = 0 then if idx = 0x3812 then some (.num (s.xoutPins * 16 + s.probe.xin)) else none
  else match idx with
    | 0x3001 => some (.num (if i < 16 then s.granuleMap i else ((upto 8).map fun g => if s.granuleOn g then 2 ^ g else 0).sum))
    | 0x3002 => some (.num (match s.trig.prev with | some x => x.groupPz i | none => 0))
    | 0x3003 => some (.num (s.queueStatus i))
    | 0x3004 => some (.num (s.tap i).join)
    | 0x3005 => some (.num ((s.tap i).cov - 1))
    | 0x3006 => some (.num (match (s.tap i).margin with | some m => ofInt 32 m | none => 0x7FFFFFFF))
    | 0x3008 => some (.num (s.tap i).reason)
    | 0x3009 => some (.num (b2n (match s.trig.prev with | some x => decide (s.probeBadMask x.k ≠ 0) | none => false)))
    | 0x3203 => some (.num (s.tapStatus i))
    | 0x3204 => some (.num (ofInt 64 (s.src i).theta))
    | 0x3205 => some (.num (min (2 ^ 32 - 1) (s.src i).delay))
    | 0x3206 => some (.num (s.srcStatus i))
    | 0x3805 => some (.num (s.granuleStatus i))
    | 0x3806 => some (.num ((s.granule i).early * 65536 + (s.granule i).late))
    | 0x3910 | 0x3911 | 0x3912 | 0x3913 | 0x3914 | 0x3915 => some (.num (s.decoderObject idx i))
    | _ => none

/-- Trigger objects (4000h–401Bh). -/
def State.readTrigger (s : State) (idx sub : Nat) : Option Val :=
  let t := s.trig
  match idx with
  | 0x4000 =>
    match sub with
    | 3 => some (.num t.st)
    | 4 => some (.num t.level)
    | 5 => some (.num t.armAt)
    | 6 => some (.num t.summitAt)
    | 7 => some (.num t.summitK)
    | 8 => some (.num (time80 t.summitTime))
    | 9 => some (.num (timeParts t.summitTime).2.2)
    | 10 => some (.num t.summitBranch)
    | 12 => some (.num t.disarmAt)
    | _ => none
  | 0x4001 => some (.num t.word)
  | 0x4002 => if sub = 1 then some (.num t.holds) else if sub = 2 then some (.num t.flags) else some (.num t.poisoned)
  | 0x4014 => if sub = 0 then none else some (.num ((t.value[sub - 1]?).getD 0))
  | 0x401A => if sub = 0 then none else some (.num (s.timer (sub - 1)).elapsed)
  | 0x401B => some (.num ((upto 8).map fun j => if (s.timer j).running then 2 ^ j else 0).sum)
  | _ => none

/-- Window and stream objects (5000h–5113h). -/
def State.readStorage (s : State) (idx sub : Nat) : Option Val :=
  if idx = 0x5000 then some (.num (if sub = 1 then s.sto.buf.length else s.sto.peak))
  else if 0x5030 ≤ idx ∧ idx ≤ 0x503F then
    let w := idx - 0x5030
    let x := s.win w
    match sub with
    | 1 => some (.num (s.winState w))
    | 2 => some (.num x.wpos)
    | 3 => some (.num (s.published w))
    | 4 => some (.num (s.oldestBlock w))
    | 5 => some (.num (x.summitLine.getD (2 ^ 64 - 1)))
    | 6 => some (.num (s.winFlags w))
    | _ => some (.num x.lost)
  else if 0x5110 ≤ idx ∧ idx ≤ 0x5113 then
    let x := s.stream (idx - 0x5110)
    match sub with
    | 1 => some (.num (s.streamState (idx - 0x5110)))
    | 2 => some (.num x.next)
    | 3 => some (.num x.produced)
    | 4 => some (.num x.consumed)
    | 5 => some (.num x.frames)
    | 6 => some (.num x.lost)
    | _ => some (.num x.error)
  else none

/-- Memory test and repair objects (5401h–5410h). -/
def State.readMemory (s : State) (idx sub : Nat) : Option Val :=
  let m := s.mem
  match idx, sub with
  | 0x5401, 1 => some (.num m.phase)
  | 0x5401, 2 => some (.num m.tbank)
  | 0x5401, 3 => some (.num m.tregion)
  | 0x5401, 4 => some (.num m.passes)
  | 0x5401, 5 => some (.num m.abandons)
  | 0x5402, 0 => none
  | 0x5402, k => some (.num (s.repairStatus (k - 1)))
  | 0x5403, 0 => none
  | 0x5403, k => some (.num (s.bank (k - 1)).bist)
  | 0x5404, 1 => some (.num m.faultBank)
  | 0x5404, 2 => some (.num m.faultSub)
  | 0x5404, 3 => some (.num m.faultCol)
  | 0x5404, 4 => some (.num m.faultRow)
  | 0x5404, 5 => some (.num m.faultSrc)
  | 0x5410, 1 => some (.num s.sec.vaultState)
  | 0x5410, 2 => some (.num s.sec.wipeReason)
  | _, _ => none

/-- Compression objects (5802h–5807h). -/
def State.readComp (s : State) (idx sub : Nat) : Option Val :=
  let c := s.comp
  match idx, sub with
  | 0x5802, 1 => some (.num c.tail)
  | 0x5802, 2 => some (.num c.head)
  | 0x5802, 3 => some (.num s.jobsPending)
  | 0x5803, 0 => none
  | 0x5803, k => some (.num (s.laneStatus (k - 1)))
  | 0x5804, 1 => some (.num (b2n s.decompBusy))
  | 0x5805, 1 => some (.num c.lastSlot)
  | 0x5805, 2 => some (.num c.lastStatus)
  | 0x5805, 3 => some (.num c.lastDetail)
  | 0x5806, 0 => none
  | 0x5806, k => some (.num (s.stream (k - 1)).ulenTotal)
  | 0x5807, 0 => none
  | 0x5807, k => some (.num (s.stream (k - 1)).frameTotal)
  | _, _ => none

/-- Time and Belay objects (6000h–6260h). -/
def State.readTime (s : State) (idx sub : Nat) : Option Val :=
  let t := s.time
  match idx, sub with
  | 0x6000, 1 => some (.oct s.timeSnapshot)
  | 0x6000, 2 => some (.num (time80 t.pt))
  | 0x6000, 3 => some (.num (timeParts t.pt).2.2)
  | 0x6000, 4 => some (.num t.tick)
  | 0x6002, 1 =>
    some (.num (b2n t.ptRun * 16 + b2n (t.ptRun && s.traceable) * 8 + b2n t.written * 4 + b2n t.bridging * 2 + b2n t.atPps.isSome))
  | 0x6002, 2 => some (.num (ofInt 32 s.adj))
  | 0x6005, 1 => some (.num (ofInt 64 t.ppsErr))
  | 0x6005, 2 => some (.num t.ppsState)
  | 0x6200, 4 => some (.num ((s.belay.frame - 1) % 2 ^ 32))
  | 0x6200, 5 => some (.num s.belay.lastCycles)
  | 0x6200, 6 => some (.num s.belay.peakCycles)
  | 0x6230, 0 => none
  | 0x6230, k => some (.num (s.loopStatus (k - 1)))
  | 0x6231, 0 => none
  | 0x6231, k => some (.num (ofInt 32 (s.loop (k - 1)).e))
  | 0x6232, 0 => none
  | 0x6232, k => some (.num (ofInt 32 (s.loop (k - 1)).u))
  | 0x6233, 0 => none
  | 0x6233, k => some (.num (if loopType (s.loopCtl (k - 1)) = 0 then ofInt 64 (s.loop (k - 1)).i else 0))
  | 0x6240, 5 => some (.num (ofInt 16 (s.loop 31).u))
  | 0x6260, k => some (.num ((s.belay.flags[k - 1]?).getD 0))
  | _, _ => none

/-- Port and coherence objects (7010h–7806h). -/
def State.readPort (s : State) (idx sub : Nat) : Option Val :=
  let x := s.port (sub - 1)
  match idx, sub with
  | 0x7010, 0 => none
  | 0x7010, _ => some (.num (s.portStatus (sub - 1)))
  | 0x7011, 0 => none
  | 0x7011, _ => some (.num x.ocap)
  | 0x7012, 0 => none
  | 0x7012, _ => some (.num x.latency)
  | 0x7013, 0 => none
  | 0x7013, _ => some (.num x.result)
  | 0x7803, 1 => some (.num s.coh.filter.length)
  | 0x7803, 2 => some (.num s.coh.highWater)
  | 0x7803, 3 => some (.num s.transientLines)
  | 0x7803, 4 => some (.num s.coh.rot)
  | 0x7804, 2 => some (.num s.coh.desc.length)
  | 0x7804, 3 => some (.num (s.coh.desc.filter fun e : Nat × DescLine => decide (e.2.st = 3)).length)
  | 0x7805, 2 => some (.num (s.filterResult (s.z 0x7805 1)))
  | 0x7806, 1 => some (.num s.coh.eventAddr)
  | 0x7806, 2 => some (.num s.coh.eventSid)
  | 0x7806, 3 => some (.num s.coh.eventKind)
  | _, _ => none

/-- Pair and security objects (8001h–9021h). -/
def State.readPair (s : State) (idx sub : Nat) : Option Val :=
  let p := s.pair
  match idx, sub with
  | 0x8001, 1 => some (.num p.role)
  | 0x8001, 2 => some (.num p.catchup)
  | 0x8001, 3 => some (.num (b2n p.eligible))
  | 0x8001, 4 => some (.num p.run)
  | 0x8001, 5 => some (.num p.partner)
  | 0x8001, 6 => some (.num (b2n p.aligned * 2 ^ 15 + p.lanes * 2 ^ 8 + p.los * 2 ^ 4))
  | 0x8001, 7 => some (.num p.latency)
  | 0x9000, 1 => some (.num s.secStatus)
  | 0x9011, 1 => some (.num (b2n s.power.vddioLow * 4 + b2n s.sec.tamper1 * 2 + b2n s.sec.tamper0))
  | 0x9012, 1 => some (.num s.sec.tamperCount)
  | 0x9013, 0 => none
  | 0x9013, k => some (.num ((s.sec.tamperLog[k - 1]?).getD 0))
  | 0x9020, 2 => some (.num s.sec.kiState)
  | 0x9021, 2 => some (.num (b2n s.k1Set))
  | 0x9030, 0 => none
  | 0x9030, k => some (.oct (mgetD s.sec.records k [0]))
  | _, _ => none

/-- The live value of an object, where it is not the store's. -/
def State.readLive (s : State) (p req idx sub : Nat) : Option Val :=
  match idx / 4096 with
  | 1 => s.readAccess p req idx sub
  | 2 => if idx < 0x2010 then s.readCommit p idx sub else s.readDevice idx sub
  | 3 => s.readObserve idx sub
  | 4 => s.readTrigger idx sub
  | 5 => if idx < 0x5400 then s.readStorage idx sub else if idx < 0x5800 then s.readMemory idx sub else s.readComp idx sub
  | 6 => s.readTime idx sub
  | 7 => s.readPort idx sub
  | 8 => s.readPair idx sub
  | 9 => s.readPair idx sub
  | _ => none

/-- What a read of an object returns on a path to a requester (R214, R227). -/
def State.readVal (s : State) (p req idx sub : Nat) : Val :=
  match s.readLive p req idx sub with
  | some v => v
  | none => s.val idx sub

end Sys2Proof.Machine
end

