-- ==== Sys2Proof/Machine/Access.lean ====
section
/-! DEFINITION. Sys2Proof/Machine/Access.lean: one read and one write of an object as the management core serves them: the order
of checks of Table 5.5, the staging of classes S, O and K, and the effect of every object of class L (Chapters 3 to 20). -/
namespace Sys2Proof.Machine

/-! ### Clearing causes (R335–R337) -/

/-- Condition causes of a branch whose condition holds (R335). -/
def State.held (s : State) (br : Nat) : Nat :=
  match br with
  | 1 => b2n s.power.therm * 2
  | 3 => b2n s.acc.netDown * 16
  | 7 => b2n s.noTrace
  | 13 => b2n s.probePll * 256
  | 14 => b2n (decide (s.pair.los ≠ 0)) * 4 + b2n s.ineligible * 16
  | _ => 0

/-- The first clear of an MGT cycle notes what it finds: the pin, the summary and what the paths are to report (R338). -/
def State.noteBefore (s : State) : State :=
  match s.alerts.before with
  | some _ => s
  | none =>
    { s with alerts := { s.alerts with
      before := some (s.alerts.driven, s.alerts.summary, [1, 2, 3].map fun p => ((s.path p).due, (s.path p).risen)) } }

/-- Bits of a cause word that a clear takes are noted for its MGT cycle (R338). -/
def State.noteCleared (s : State) (k m : Nat) : State :=
  { s with alerts := { s.alerts with cleared := mset s.alerts.cleared k (mgetD s.alerts.cleared k 0 ||| m) } }

/-- Bits of a cause word are cleared in the MGT copy and in the latch (R341). A bit that an event sets in the same MGT cycle stays, and
counts as overtaken (R338). -/
def State.clearWord (s : State) (idx sub m : Nat) : State :=
  let hit := s.z idx sub &&& m
  if hit = 0 then s
  else
    let s := s.alertCycle
    let met := hit &&& mgetD s.alerts.raised (key idx sub) 0
    let took := andNot hit met
    let s := if met = 0 then s else s.bump 0xF018 18 (popCount 32 met)
    if took = 0 then s else (s.noteBefore.noteCleared (key idx sub) took).putCause idx sub (andNot (s.z idx sub) took)

/-- A write-one-to-clear of a branch's cause object: its own bits, and each named aggregate's child (R336). -/
def State.clearBranch (s : State) (br m : Nat) : State :=
  let s := s.clearWord (0x2101 + br) 0 (andNot (m &&& causeBits br) (s.held br))
  match childOf br with
  | some (ci, n, d) => (List.range n).foldl (fun s j => if bit m j then s.clearWord ci (j + 1) d else s) s
  | none => s

/-- A write to a cause object or to a child (R336). -/
def State.clearCause (s : State) (idx sub m : Nat) : State :=
  State.alertSync (
    if 0x2101 ≤ idx ∧ idx ≤ 0x2110 then s.clearBranch (idx - 0x2101) m
    else match (List.range 16).find? fun br => (childOf br).any fun c => c.1 == idx with
      | some br => (match childOf br with | some (_, _, d) => s.clearWord idx sub (m &&& d) | none => s)
      | none => s)

/-- Every cause bit and every child bit is cleared but those whose condition holds (R337). -/
def State.clearAll (s : State) : State :=
  ((List.range 16).foldl (fun s br => s.clearBranch br (2 ^ 32 - 1)) s).alertSync

/-! ### Conditions of class L objects, steps 8 to 14 of Table 5.5 -/

/-- A value must be this one, else 0x0302. -/
def only (v x code : Nat) : Nat := if v = x then code else 0x0302

/-- The first code that is not 0. -/
def firstCode2 (a b : Nat) : Nat := if a ≠ 0 then a else b

/-- A domain is in reset: its unit is out of service (R224). -/
def State.downCode (s : State) (d : Domain) : Nat := if (s.dom d).inReset then 0x0602 else 0

/-- Refusal of a query object's write (R236). -/
def queryCode (v : Nat) : Nat := if 2 ^ 24 ≤ v then 0x0302 else nameCode (queryOf v).1 (queryOf v).2

/-- A staged entry is of class K (R221). -/
def State.stagesK (s : State) : Bool :=
  s.staged.any fun e => match findRow e.idx e.sub with | some r => decide (r.cls = .k) | none => false

/-- Refusal of a lock request (R221); none is taken before step 7 has applied the image (R250). [DEDUCED, log entry 89] -/
def State.lockCode (s : State) : Nat :=
  if s.commitInProgress then 0x0401 else if s.stagesK ∨ s.boot.step < 8 then 0x0303 else 0

/-- Refusal of an arm request (R611). -/
def State.armCode (s : State) : Nat :=
  if (s.trig.st ≠ 0 ∧ s.trig.st ≠ 3) ∨ s.boot.step < 14 ∨ s.commitInProgress ∨ s.pair.role = 3 then 0x0303 else s.downCode .tick

/-- A port is out of service for a retrain request: it is disabled, or FAB or its LNK domain is in domain reset; a FAILED port is in service
(R382). [DEDUCED, log entry 51] -/
def State.portOut (s : State) (p : Nat) : Bool :=
  let d := s.dom (.lnk (Fin.ofNat 6 p))
  !s.b 0x7000 (p + 1) || decide ((s.port p).st = 0) || (s.dom .fab).inReset || d.forcing.isSome || (d.inReset && decide ((s.port p).st ≠ 9))

/-- Refusal of a retrain request (R305, R382). -/
def State.retrainCode (s : State) (p : Nat) : Nat :=
  let x := s.port p
  if s.pair.role = 3 then 0x0303
  else if s.portOut p then 0x0602
  else if x.st = 2 ∨ x.st = 3 ∨ x.st = 4 ∨ x.st = 8 then 0x0601 else 0

/-- Refusal of a root select or a forced switch (R140, Table 3.6). [DEDUCED, log entry 24] -/
def State.rootCode (s : State) (sub : Nat) : Nat :=
  match domOfSub sub with
  | none => 0x0303
  | some d => if (s.dom d).forcing.isSome then 0x0601 else 0

/-- A forced switch of XO or AON is the device's alone (R140). -/
def forcedCode (v : Nat) : Nat :=
  match domOfCode (v / 256) with
  | some .xo => 0x0303
  | some .aon => 0x0303
  | _ => 0

/-- Refusal of a write of KI (R793–R795). [DEDUCED, log entry 39] -/
def State.kiCode (s : State) (v : Nat) : Nat :=
  if s.sec.kiValid then (if v = s.sec.ki then 0 else 0x0205)
  else if s.sec.kiState = 1 then (if v = s.sec.kiNew then 0x0601 else 0x0205)
  else if fusesFit s.sec.ki v then 0 else 0x0205

/-- The write repeats the KI that the fuses hold (R219, R795). [DEDUCED, log entry 39] -/
def State.kiSame (s : State) (v : Nat) : Bool := s.sec.kiValid && decide (v = s.sec.ki)

/-- Refusal of a session request in the order of Table 5.5: a missing key is its step 12, MGT on AON its step 13, and a path or a unit that
is not free its step 14 (R788, R807). -/
def State.requestCode (s : State) (a : Acc) (v : Nat) : Nat :=
  if 3 < v then 0x0302
  else if sessionWithheld s.sec.lcs a.path v then 0x0203
  else
    let c := s.sessionCode a.path a.req v
    if c ≠ 0x0303 ∧ !s.mgtFast then 0x0602 else c

/-- Refusal of a sweep's start or of its settings (R513). -/
def State.sweepCode (s : State) (sub v : Nat) : Nat :=
  if sub = 1 ∧ (31 < v) then 0x0302
  else if sub = 1 ∧ (loopEn (s.loopCtl v) ∨ !s.loopPresent v) then 0x0303
  else if (s.dom .srv).inReset then 0x0602
  else if s.belay.sweep.isSome then 0x0601 else 0

/-- The code that a write of class L draws from its own conditions (steps 8 to 14 of Table 5.5), 0 where it takes effect. -/
def State.liveCode (s : State) (a : Acc) (v : Val) : Nat :=
  let n := valNum v
  match a.idx, a.sub with
  | 0x1001, 2 => (match s.transitionTarget n with | some t => s.transitionCode a.level t s.commitInProgress | none => 0x0302)
  | 0x1010, 1 => s.requestCode a n
  | 0x1081, 1 => s.lockCode
  | 0x1083, 1 => queryCode n
  | 0x2001, 1 => queryCode n
  | 0x2002, 0 => s.discardCode n
  | 0x2003, 4 => s.commitCode n
  | 0x2003, 5 => s.cancelCode n
  | 0x2017, 0 => only n 0x57525354 0
  | 0x201C, 1 => if n = 1 then s.saveCode else 0
  | 0x2123, 0 => only n 0x434C5241 0
  | 0x2203, k => s.rootCode k
  | 0x2204, 0 => forcedCode n
  | 0x2206, 4 => if n = 1 ∧ (s.clk.meterBoot ∨ s.clk.meterRun) then 0x0601 else 0
  | 0x3007, 0 => s.downCode .tick
  | 0x3908, k => only n 0x4C4F4144 (if decEn (s.decCtl (k - 1)) then firstCode2 (s.downCode .tick) (s.downCode .prb) else 0x0303)
  | 0x4000, 1 => only n 0x41524D21 s.armCode
  | 0x4000, 2 => only n 0x53544F50 (if s.pair.role = 3 then 0x0303 else s.downCode .tick)
  | 0x5120, k => only n 0x52455355 (if s.pair.role = 3 ∨ s.streamState (k - 1) ≠ 4 then 0x0303 else s.downCode .cmp)
  | 0x5802, 1 => firstCode2 (s.tailCode n) (if s.pair.role = 3 then 0x0303 else s.downCode .cmp)
  | 0x5802, 4 => only n 0x464C5553 (s.downCode .cmp)
  | 0x620B, 0 => s.downCode .srv
  | 0x6240, 3 => s.downCode .srv
  | 0x6250, k => s.sweepCode k n
  | 0x7020, k => only n 0x5254524E (s.retrainCode (k - 1))
  | 0x7805, 1 => if n % 64 = 0 ∧ (s.region n).isSome then s.downCode .fab else 0x0302
  | 0x8003, 0 => only n 0x48414E44 s.handoverCode
  | 0x9020, 1 => s.kiCode n
  | 0x9021, 1 => s.vaultCode
  | 0x9030, _ => s.vaultCode
  | 0xF0FF, 0 => only n 0x44434C52 0
  | _, _ => 0

/-! ### Effects of class L objects -/

/-- Every diagnostic counter becomes zero (R240). -/
def State.clearDiag (s : State) : State := { s with obj := s.obj.filter fun e : Nat × Val => decide (e.1 < key 0xF000 0) }

/-- A session request that is accepted: 0 closes the requester's session, a level draws a challenge (R787, R788). -/
def State.requestSession (s : State) (a : Acc) (v : Nat) : State :=
  if v = 0 then (s.closeSession a.path).setPath a.path { (s.closeSession a.path).path a.path with level := 0 }
  else s.issueChallenge a.path a.req v

/-- A retrain request that is accepted (R358, R387). [DEDUCED, log entry 51] -/
def State.retrain (s : State) (p : Nat) : State :=
  (if (s.port p).trained then s.portLeave p else s.startTraining p).pairFollow

/-- Clock objects take a live write (R115, R131, R135, R140, R128). -/
def State.liveClock (s : State) (a : Acc) (n : Nat) : State :=
  match a.idx, a.sub with
  | 0x2203, k => (match domOfSub k with | some d => s.requestRoot d n | none => s)
  | 0x2204, _ => (match domOfCode (n / 256) with | some d => (s.put 0x2204 0 n).hostForced d (n % 256) | none => s)
  | 0x2206, 4 => if n = 1 then s.startMeter else s
  | 0x2207, k => (s.put 0x2207 k n).clkmonFollow
  | 0x2208, k => (s.put 0x2208 k n).dvfsMove
  | i, k => s.put i k n

/-- Access, staging and boot objects take a live write. -/
def State.liveAccess (s : State) (a : Acc) (n : Nat) : State :=
  match a.idx, a.sub with
  | 0x1001, 2 => (match s.transitionTarget n with | some t => s.startTransition t | none => s)
  | 0x1010, 1 => s.requestSession a n
  | 0x1081, 1 => { s with locked := true }
  | 0x1083, 1 => s.setPath a.path { s.path a.path with query := n }
  | 0x2001, 1 => s.setPath a.path { s.path a.path with squery := n }
  | 0x2002, 0 => s.discard
  | 0x2003, 4 => s.startCommit
  | 0x2003, 5 => s.cancelCommit
  | 0x2017, 0 => { s with boot := { s.boot with warmDue := true } }
  | 0x201C, 1 => if n = 1 then s.startSave else s
  | 0x2122, 2 => (s.put 0x2122 2 n).alertSync
  | 0x2123, 0 => s.clearAll
  | i, k => if 0x2101 ≤ i ∧ i ≤ 0x2160 then s.clearCause i k n else s.put i k n

/-- Unit, pair and security objects take a live write. -/
def State.liveUnit (s : State) (a : Acc) (v : Val) : State :=
  let n := valNum v
  match a.idx, a.sub with
  | 0x3007, 0 => if n = 1 then s.marginReset else s
  | 0x3908, k => s.positionLoad (k - 1)
  | 0x4000, 1 => s.requestArm
  | 0x4000, 2 => s.requestDisarm
  | 0x5120, k => s.resumeStream (k - 1)
  | 0x5802, 1 => s.submitJobs n
  | 0x5802, 4 => s.flushJobs
  | 0x620B, 0 => s.resumeLoops n
  | 0x6240, 3 => (s.put 0x6240 3 n).setLoop 31 { s.loop 31 with fresh := true }
  | 0x6250, 1 => s.startSweep n
  | 0x7020, k => s.retrain (k - 1)
  | 0x8003, 0 => s.startHandover
  | 0x9020, 1 => if s.kiSame n then s.bump 0xF000 8 1 else s.startKi n
  | 0x9021, 1 => { s with sec := { s.sec with k1 := some (valOct v), badRegion := s.sec.badRegion.filter fun r => decide (r ≠ 0) } }
  | 0x9030, k => State.bump { s with sec := { s.sec with
      records := mset s.sec.records k (valOct v), badRegion := s.sec.badRegion.filter fun r => decide (r ≠ k) } } 0xF098 5 1
  | 0xF0FF, 0 => s.clearDiag
  | i, k => s.put i k n

/-- The words of an object's value are rewritten, so none of them is known bad any longer (R245). -/
def State.rewritten (s : State) (k : Nat) : State := { s with badWords := s.badWords.filter fun w => decide (w / 1024 ≠ k) }

/-- The effect of an accepted write of class L. -/
def State.liveEffect (s : State) (a : Acc) (v : Val) : State :=
  let s := s.rewritten (key a.idx a.sub)
  if a.idx < 0x2200 then s.liveAccess a (valNum v)
  else if a.idx < 0x3000 then s.liveClock a (valNum v)
  else s.liveUnit a v

/-- A response reads K1 from region 0 of the vault when it answers a level 1 challenge, and is refused when that word is bad
(R805). [DESIGN CHOICE, log entry 38] -/
def State.k1Bad (s : State) (a : Acc) : Bool :=
  s.vaultBad 0 && decide (s.sec.lcs ≠ 0) && (match s.liveChallenge a.path a.req with | some c => decide (c.level = 1) | none => false)

/-- A write of class L: its code and the state after it. A refusal in back-off is counted (R790); a response that is wrong
uses up its challenge (R789). -/
def State.liveWrite (s : State) (a : Acc) (v : Val) : Nat × State :=
  if a.idx = 0x1010 ∧ a.sub = 3 then
    if s.k1Bad a then (0x0701, s.requestWipe 4) else s.response a.path a.req (valOct v)
  else
    let c := s.liveCode a v
    if c = 0 then (0, s.liveEffect a v)
    else (c, if c = 0x0601 ∧ a.idx = 0x1010 ∧ s.backoffOn a.path then s.bump 0xF098 7 1 else s)

/-! ### The service of an access (Table 5.5) -/

/-- An access is accepted on a path: an idle session or an expired challenge has closed before, the session of the requester
goes on, and the access is counted (R789, R791, F000h:1). -/
def State.accept (s : State) (p req : Nat) : State :=
  let s := s.closeIdle p
  let x := s.path p
  let x := match x.challenge with
    | some c => if s.late .mgt c.since s.challengeLimit then { x with challenge := none } else x
    | none => x
  let x := match x.session with
    | some y => if y.req = req then { x with session := some { y with last := s.now } } else x
    | none => x
  (s.setPath p x).bump 0xF000 1 1

/-- MGT may be forced from level 3 alone, checked with the level (R140). -/
def forcedLevel (a : Acc) (v : Val) : Bool := decide (a.idx = 0x2204) && decide (domOfCode (valNum v / 256) = some .mgt) && decide (a.level < 3)

/-- A write of an object that exists: its code and the state after it. [DESIGN CHOICE, log entry 11] -/
def State.writeRow (s : State) (r : Row) (a : Acc) (o : Octets) (ty : Option Nat) : Nat × State :=
  let h := s.headCode r a o.length ty
  let v := octetsVal r.ty o
  let m := maskVal r v
  if h ≠ 0 then (h, s)
  else if forcedLevel a v then (0x0201, s)
  else if !typeOk r.ty v || !s.valueOk r a.idx a.sub m then (0x0302, s)
  else match r.cls with
    | .l => s.liveWrite a m
    | _ =>
      let c := s.stageCode r a m
      if c = 0 then (0, s.stage r a m) else (c, s)

/-- A write is served: the abort code, 0 for success, and the state after it (R231–R234). [DESIGN CHOICE, log entry 11; DESIGN CHOICE, log entry 83] -/
def State.serveWrite (s : State) (p req idx sub : Nat) (o : Octets) (ty : Option Nat) : Nat × State :=
  let s := s.accept p req
  let a : Acc := ⟨p, req, s.levelOf p req, idx, sub⟩
  match findRow idx sub with
  | none => (nameCode idx sub, s.refuse a (nameCode idx sub))
  | some r =>
    let (c, t) := s.writeRow r a o ty
    if c = 0 then (0, t.bump 0xF000 3 1) else (c, t.refuse a c)

/-- A word of the stored value of an object is known to be bad (R245). -/
def State.knownBad (s : State) (idx sub : Nat) : Bool := s.badWords.any fun w => decide (w / 1024 = key idx sub)

/-- The code that a read of an object that exists draws (Table 5.5, R246, R300, R326, R797, R805). -/
def State.readCode (s : State) (r : Row) (a : Acc) : Nat :=
  let q := queryOf (s.path a.path).squery
  let rd := match findRow q.1 q.2 with | some x => x.rd | none => 0
  if accessWithheld s.sec.lcs a.idx a.sub false then 0x0203
  else if a.level < r.rd then 0x0201
  else if a.idx = 0x2001 ∧ a.sub = 2 then
    if a.level < rd then 0x0201
    else match s.stagedEntry q.1 q.2 with
      | none => 0x0303
      | some e => if e.bad then 0x0701 else 0
  else if (a.idx = 0x9021 ∧ a.sub = 1) ∨ (a.idx = 0x9030 ∧ a.sub ≠ 0) then
    if s.vaultCode ≠ 0 then s.vaultCode
    else if a.idx = 0x9030 ∧ (s.vaultBad 0 ∨ s.vaultBad a.sub) then 0x0701 else 0
  else if (s.readLive a.path a.req a.idx a.sub).isNone ∧ s.knownBad a.idx a.sub then 0x0701
  else 0

/-- A read is served: the abort code, the value's octets, and the state after it. -/
def State.serveRead (s : State) (p req idx sub : Nat) : Nat × Octets × State :=
  let s := s.accept p req
  let a : Acc := ⟨p, req, s.levelOf p req, idx, sub⟩
  match findRow idx sub with
  | none => (nameCode idx sub, [], s.refuse a (nameCode idx sub))
  | some r =>
    let c := s.readCode r a
    if c = 0 then (0, valOctets r.ty (s.readVal p req idx sub), s.bump 0xF000 2 1)
    else (c, [], (if c = 0x0701 ∧ idx = 0x9030 then s.requestWipe 4 else s).refuse a c)

/-! ### Paths in service (R203, R293) -/

/-- A path is in service: JTAG from the end of boot step 3 and while MGT runs on AON; the field networks from the end of step
7 while they are enabled, CAN FD while it is on the bus; the mailbox while it is enabled and FAB runs; none but JTAG from the time MGT runs
on AON until it is back on SPLL (R146). -/
def State.pathUp (s : State) (p : Nat) : Bool :=
  match p with
  | 1 => s.mgtFast && !s.clk.netsOut && decide (8 ≤ s.boot.step) && s.b 0x1100 1 && !(s.dom .tick).inReset && (s.acc.canState = 1 || s.acc.canState = 2)
  | 2 => s.mgtFast && !s.clk.netsOut && decide (8 ≤ s.boot.step) && s.b 0x1110 1 && !s.acc.netDown
  | 3 => s.mgtFast && !s.clk.netsOut && decide (8 ≤ s.boot.step) && s.b 0x1120 1 && !(s.dom .fab).inReset
  | 4 => s.mgtUp && (s.dom .mgt).running
  | _ => false

/-- The requester of an access that a command brings: the owner word on the mailbox, 0 on JTAG (Table 20.4). -/
def State.requester (s : State) (w : Who) : Nat :=
  match w.path with
  | .can => w.req % 256
  | .t1s => w.req % 2 ^ 48
  | .mailbox => s.ownerWord
  | _ => 0

/-- An access that a command brings reaches the dictionary; on the mailbox it comes from the owner, through an admitted port. -/
def State.reaches (s : State) (w : Who) : Bool :=
  s.pathUp (pathNo w.path) &&
  (match w.path with
   | .mailbox => (match s.acc.owner with | some (q, _, _) => (s.port q).admitted && decide (w.req = s.ownerWord) | none => false)
   | _ => true)

end Sys2Proof.Machine
end

