-- ==== Sys2Proof/Machine/Frames.lean ====
section
/-! DEFINITION. Sys2Proof/Machine/Frames.lean: EOP: how a frame reaches the dictionary on each path, expedited and segmented
transfers, answers and ALERT frames (Chapter 6, R251–R278). -/
namespace Sys2Proof.Machine

/-! ### Where a frame comes from and where its answer goes -/

/-- Path code of a carrier. -/
def carrierPath (c : Carrier) : Nat :=
  match c with
  | .can _ _ _ _ => 1 | .udp _ _ _ _ _ => 2 | .mailbox _ _ => 3 | .jtag => 4

/-- An FD frame on CAN. -/
def carrierFd (c : Carrier) : Bool := match c with | .can _ _ fd _ => fd | _ => false

/-- Expedited maximum of a carrier (Table 6.1). -/
def expMax (c : Carrier) : Nat := match c with | .can _ _ false _ => 4 | _ => 15

/-- Segment maximum of a carrier (Table 6.1). -/
def segMax (c : Carrier) : Nat := match c with | .can _ _ false _ => 6 | .can _ _ true _ => 62 | _ => 254

/-- The device's IPv4 address (1110h:3, or 8010h:3 on a Second). -/
def State.ownIp (s : State) : Nat := if s.pair.role = 3 then s.n 0x8010 3 else s.n 0x1110 3

/-- An address lies in the device's subnet. -/
def State.inSubnet (s : State) (ip : Nat) : Bool := decide (ip &&& s.n 0x1110 4 = s.ownIp &&& s.n 0x1110 4)

/-- The next hop toward an address; none where the gateway does not serve (R277). -/
def State.nextHop (s : State) (ip : Nat) : Option Nat :=
  let g := s.z 0x1110 5
  if s.inSubnet ip then some ip else if g = 0 ∨ !s.inSubnet g then none else some g

/-- A datagram leaves with DF set, once its next hop is resolved by ARP (R276), and none while the network is down (R291); the model keeps
the address of the hop, not its MAC. [DEDUCED, log entry 17] -/
def State.sendIp (s : State) (d : Datagram) : State :=
  if s.acc.netDown then s
  else match s.nextHop d.dst with
    | none => s
    | some h =>
      match mget s.acc.arp h with
      | some _ => s.emit (.ip d true)
      | none => State.emit { s with acc := { s.acc with arpWait := s.acc.arpWait ++ [d] } } (.arp 1 h 0)

/-- A UDP datagram leaves (R277). -/
def State.sendUdp (s : State) (dst dport src sport : Nat) (o : Octets) : State := s.sendIp { dst := dst, dport := dport, src := src, sport := sport, o := o }

/-- Payload lengths that a CAN FD data length code gives; an answer is padded with zeros up to the next (R253). [DEDUCED, log entry 18] -/
def dlcLen (n : Nat) : Nat :=
  if n ≤ 8 then n else if n ≤ 12 then 12 else if n ≤ 16 then 16 else if n ≤ 20 then 20 else if n ≤ 24 then 24 else if n ≤ 32 then 32
  else if n ≤ 48 then 48 else 64

/-- A CAN frame leaves; with the bit-rate switch and delay compensation on, the measured delay is what it is (1103h:4). [DEDUCED, log entry 18; DESIGN CHOICE, log entry 19] -/
def State.sendCan (s : State) (id : Nat) (fd brs : Bool) (o : Octets) : State :=
  if s.acc.canState = 1 ∨ s.acc.canState = 2 then
    let s := (s.bump 0xF008 2 1).emit (.can id fd brs (octAt o 0 (dlcLen o.length)))
    if fd && brs && s.b 0x1102 5 then (s.put 0x1103 4 (s.freeVal % 65536)).drawn else s
  else s

/-- An EOP frame of the device leaves on the carrier of a request (R272, R277, R281, R285). [DEDUCED, log entry 16] -/
def State.reply (s : State) (c : Carrier) (o : Octets) : State :=
  match c with
  | .can id _ fd brs =>
    let i := id.toNat
    s.sendCan (0x1A * 2 ^ 24 + 2 * 2 ^ 16 + bits i 0 8 * 2 ^ 8 + bits i 8 8) fd brs o
  | .udp src dst sport dport _ => s.sendUdp src.toNat sport.toNat dst.toNat dport.toNat o
  | .mailbox _ _ => { s with acc := { s.acc with response := o, rspLen := o.length, mbStatus := 2 } }
  | .jtag => { s with acc := { s.acc with jtagRsp := o, jtagRspLen := o.length, jtagState := 2 } }

/-! ### Frames of the device (Table 6.2) -/

/-- An ABORT frame. -/
def abortFrame (idx sub code : Nat) : Octets := leBytes 1 0xF0 ++ leBytes 1 sub ++ leBytes 2 idx ++ leBytes 2 code

/-- A WRITE_ACK frame. -/
def ackFrame (idx sub : Nat) : Octets := leBytes 1 0x40 ++ leBytes 1 sub ++ leBytes 2 idx

/-- A READ_RSP frame. -/
def rspFrame (idx sub : Nat) (o : Octets) : Octets := leBytes 1 (0x20 + o.length) ++ leBytes 1 sub ++ leBytes 2 idx ++ o

/-- A SEG_READ_START frame. -/
def segReadStart (idx sub len : Nat) : Octets := leBytes 1 0x50 ++ leBytes 1 sub ++ leBytes 2 idx ++ leBytes 2 len

/-- A SEG frame. -/
def segFrame (toggle : Nat) (o : Octets) : Octets := leBytes 1 (0x70 + toggle % 16) ++ leBytes 1 o.length ++ o

/-- A SEG_ACK frame. -/
def segAck (toggle : Nat) : Octets := leBytes 1 (0x80 + toggle % 16)

/-- An ABORT leaves for a transfer rather than an access; 0x0502 and 0x0504 are counted (R234, Table 6.10). -/
def State.pathAbort (s : State) (c : Carrier) (idx sub code : Nat) : State :=
  let s := s.bump 0xF000 4 1
  let s := if code = 0x0502 then s.bump 0xF008 8 1 else if code = 0x0504 then s.bump 0xF008 9 1 else s
  let s := if code = 0x0601 then ((s.put 0x1082 1 (key idx sub)).put 0x1082 2 code).put 0x1082 3 (carrierPath c) else s
  s.reply c (abortFrame idx sub code)

/-! ### Transfers -/

/-- The open transfer of a path changes. -/
def State.setXfer (s : State) (p : Nat) (t : Option Transfer) : State := s.setPath p { s.path p with xfer := t }

/-- The open transfer ends with ABORT 0x0502 in the format of carrier `c` (R258–R260). -/
def State.endXfer (s : State) (p : Nat) (c : Carrier) (t : Transfer) : State :=
  (s.setXfer p none).pathAbort c t.idx t.sub 0x0502

/-- A frame outside any transfer draws 0x0502 (R260). [DEDUCED, log entry 16] -/
def State.noXfer (s : State) (c : Carrier) : State := s.pathAbort c 0 0 0x0502

/-- The frame starts a new request: an open transfer of its requester ends first, a completed one without a frame; another
requester's refuses it (R260). The flag says whether the request is served. [DEDUCED, log entry 15] -/
def State.newRequest (s : State) (p req : Nat) (c : Carrier) (idx sub : Nat) : Bool × State :=
  match (s.path p).xfer with
  | none => (true, s)
  | some t =>
    if t.req ≠ req then (false, s.pathAbort c idx sub 0x0601)
    else if t.done then (true, s.setXfer p none)
    else (true, s.endXfer p t.carrier t)

/-- A READ frame (R255, R258). -/
def State.eopRead (s : State) (p req : Nat) (c : Carrier) (idx sub : Nat) : State :=
  let (go, s) := s.newRequest p req c idx sub
  if !go then s
  else
    let (code, o, s) := s.serveRead p req idx sub
    if code ≠ 0 then s.reply c (abortFrame idx sub code)
    else if o.length ≤ expMax c then s.reply c (rspFrame idx sub o)
    else
      let f := segReadStart idx sub o.length
      (s.setXfer p (some ⟨req, false, idx, sub, o, o.length, 0, f, false, false, carrierFd c, c, s.now⟩)).reply c f

/-- The answer of a completed write. -/
def writeAnswer (idx sub code : Nat) : Octets := if code = 0 then ackFrame idx sub else abortFrame idx sub code

/-- A WRITE frame (R256). -/
def State.eopWrite (s : State) (p req : Nat) (c : Carrier) (idx sub : Nat) (o : Octets) : State :=
  let (go, s) := s.newRequest p req c idx sub
  if !go then s
  else
    let (code, s) := s.serveWrite p req idx sub o none
    if s.up then s.reply c (writeAnswer idx sub code) else s

/-- A SEG_WRITE_START frame: checks 1 to 7 against the total length (R259). -/
def State.segStartFrame (s : State) (p req : Nat) (c : Carrier) (idx sub total : Nat) : State :=
  let (go, s) := s.newRequest p req c idx sub
  if !go then s
  else
    let a : Acc := ⟨p, req, s.levelOf p req, idx, sub⟩
    let code := match findRow idx sub with | none => nameCode idx sub | some r => s.headCode r a total none
    if code ≠ 0 then (s.refuse a code).reply c (abortFrame idx sub code)
    else (s.setXfer p (some ⟨req, true, idx, sub, [], total, 0, segAck 0, false, false, carrierFd c, c, s.now⟩)).reply c (segAck 0)

/-- A SEG with the expected toggle of an open write (R259). -/
def State.segAccept (s : State) (p : Nat) (c : Carrier) (t : Transfer) (o : Octets) : State :=
  let data := t.data ++ o
  if t.total < data.length ∨ (data.length < t.total ∧ o.length < segMax c) then s.endXfer p c t
  else
    let next := (t.toggle + 1) % 16
    if data.length < t.total then
      (s.setXfer p (some { t with data := data, toggle := next, last := segAck next, any := true, since := s.now })).reply c (segAck next)
    else
      let (code, s) := s.serveWrite p t.req t.idx t.sub data none
      let f := writeAnswer t.idx t.sub code
      if s.up ∧ (s.path p).xfer.isSome then
        (s.setXfer p (some { t with data := data, toggle := next, last := f, any := true, done := true, since := s.now })).reply c f
      else if s.up then s.reply c f else s

/-- A frame of the transfer that repeats the last segment is answered as before (R258, R259). -/
def State.repeatLast (s : State) (p : Nat) (c : Carrier) (t : Transfer) : State :=
  (s.setXfer p (some { t with since := s.now })).reply c t.last

/-- The toggle is that of the segment last sent or accepted. -/
def Transfer.again (t : Transfer) (toggle : Nat) : Bool := t.any && decide ((toggle + 1) % 16 = t.toggle)

/-- The frame belongs to no transfer of the requester: 0x0502, 0x0601, or the end of the transfer for its format; the transfer
it belongs to is returned otherwise (R260). -/
def State.xferFor (s : State) (p req : Nat) (c : Carrier) : Option Transfer × State :=
  match (s.path p).xfer with
  | none => (none, s.noXfer c)
  | some t =>
    if t.req ≠ req then (none, s.pathAbort c 0 0 0x0601)
    else if p = 1 ∧ t.fd ≠ carrierFd c then (none, s.endXfer p c t)
    else (some t, s)

/-- A SEG frame (R259, R260). -/
def State.segIn (s : State) (p req : Nat) (c : Carrier) (toggle : Nat) (o : Octets) : State :=
  match s.xferFor p req c with
  | (none, s) => s
  | (some t, s) =>
    if t.write ∧ t.again toggle then s.repeatLast p c t
    else if t.done then (s.setXfer p none).noXfer c
    else if t.write ∧ toggle = t.toggle then s.segAccept p c t o
    else s.endXfer p c t

/-- A SEG_REQ frame (R258, R260). -/
def State.segReqIn (s : State) (p req : Nat) (c : Carrier) (toggle : Nat) : State :=
  match s.xferFor p req c with
  | (none, s) => s
  | (some t, s) =>
    if !t.write ∧ t.again toggle then s.repeatLast p c t
    else if t.done then (s.setXfer p none).noXfer c
    else if !t.write ∧ toggle = t.toggle then
      let f := segFrame toggle (t.data.take (segMax c))
      let rest := t.data.drop (segMax c)
      (s.setXfer p (some { t with data := rest, toggle := (toggle + 1) % 16, last := f, any := true, done := rest.isEmpty, since := s.now })).reply c f
    else s.endXfer p c t

/-- An ABORT from the host ends its own open transfer, without an answer (R261). -/
def State.hostAbort (s : State) (p req : Nat) : State :=
  match (s.path p).xfer with
  | some t => if t.req = req then s.setXfer p none else s
  | none => s

/-! ### The transfer timeout (R262, R263) -/

/-- The limit of the transfer timeout of a path in ns (1104h). -/
def State.xferLimit (s : State) (p : Nat) : Nat := s.n 0x1104 p * 1000000

/-- The transfer timeout of a path fires: a completed transfer closes without a frame, another draws ABORT 0x0501 (R263). [DEDUCED, log entry 15] -/
def State.xferFire (s : State) (p : Nat) : State :=
  match (s.path p).xfer with
  | none => s
  | some t =>
    if t.done then s.setXfer p none
    else ((s.setXfer p none).bump 0xF008 7 1).pathAbort t.carrier t.idx t.sub 0x0501

/-- The transfer of a path has passed its limit: a frame in the MGT cycle of expiry still counts (R12, R262). -/
def State.xferLate (s : State) (p : Nat) : Bool :=
  match (s.path p).xfer with
  | none => false
  | some t => s.late .mgt t.since (s.xferLimit p)

/-- A timeout that has passed has fired before what comes now (R14, R263). -/
def State.xferDue (s : State) (p : Nat) : State := if s.xferLate p then s.xferFire p else s

/-- The next frame of the open transfer waits for the core, so its timeout has stopped (R262). -/
def State.xferHeld (s : State) (p : Nat) : Bool :=
  match (s.path p).xfer with
  | none => false
  | some t => s.acc.queue.any fun r => decide (r.path = p) && decide (r.req = t.req)

/-- The transfer timeout of a path expires (R262, R263). -/
def State.xferTimeout (s : State) (p : Nat) : State :=
  match (s.path p).xfer with
  | none => s
  | some t => if s.xferHeld p then s else (s.elapseTo (t.since + s.xferLimit p)).xferFire p

/-! ### Rows that write an object -/

/-- The conditions of R260 on a row that writes an object, as on a WRITE: a transfer of its own requester ends first, with ABORT 0x0502
where it is not complete; another requester's refuses it. The flag says whether it is served. [DESIGN CHOICE, log entry 11] -/
def State.rowTurn (s : State) (p req : Nat) : Bool × State :=
  match (s.path p).xfer with
  | none => (true, s)
  | some t =>
    if t.req ≠ req then (false, s)
    else if t.done then (true, s.setXfer p none)
    else (true, s.endXfer p t.carrier t)

/-- A write that cannot be served is refused with 0x0601 for a reason outside Table 5.5, and recorded (R234, R247, R260). -/
def State.busyRow (s : State) (w : Who) (idx sub : Nat) : State :=
  let p := pathNo w.path
  ((((s.bump 0xF000 4 1).put 0x1082 1 (key idx sub)).put 0x1082 2 0x0601).put 0x1082 3 p).emit (.answer w 0x0601 [])

/-- A command writes an object: the access is served, and its answer leaves. -/
def State.writeBy (s : State) (w : Who) (idx sub : Nat) (o : Octets) (ty : Option Nat) : State :=
  if s.reaches w then
    match (s.xferDue (pathNo w.path)).rowTurn (pathNo w.path) (s.requester w) with
    | (false, s) => (s.busyRow w idx sub).settle
    | (true, s) =>
      let (c, t) := s.serveWrite (pathNo w.path) (s.requester w) idx sub o ty
      (if t.up then t.emit (.answer w c []) else t).settle
  else s

/-! ### One frame -/

/-- The frame breaks Table 6.2 (R254). [DEDUCED, log entry 15] -/
def malformed (c : Carrier) (o : Octets) : Bool :=
  let b := leAt o 0 1
  let par := b % 16
  match b / 16 with
  | 1 => decide (par ≠ 0) || decide (o.length < 4)
  | 3 => decide (par = 0) || decide (o.length < 4 + par)
  | 6 => decide (par ≠ 0) || decide (o.length < 6) || decide (leAt o 4 2 = 0) || decide (4096 < leAt o 4 2)
  | 7 => decide (o.length < 2) || decide (leAt o 1 1 = 0) || decide (segMax c < leAt o 1 1) || decide (o.length < 2 + leAt o 1 1)
  | 9 => decide (o.length < 1)
  | 15 => decide (par ≠ 0) || decide (o.length < 6)
  | _ => true

/-- The object that a malformed frame holds, if its command has one (R254). -/
def heldObject (o : Octets) : Nat × Nat :=
  let cmd := leAt o 0 1 / 16
  if 4 ≤ o.length ∧ (cmd = 1 ∨ cmd = 2 ∨ cmd = 3 ∨ cmd = 4 ∨ cmd = 5 ∨ cmd = 6 ∨ cmd = 15) then (leAt o 2 2, leAt o 1 1) else (0, 0)

/-- A completed transfer closes without a frame when its requester sends anything but the repeat it waits for (R258, R259). -/
def State.closeDone (s : State) (p req : Nat) : State :=
  match (s.path p).xfer with
  | some t => if t.req = req ∧ t.done then s.setXfer p none else s
  | none => s

/-- A frame of a requester on a path is handled by its command (Table 6.2). [DESIGN CHOICE, log entry 13] -/
def State.handle (s : State) (p req : Nat) (c : Carrier) (o : Octets) : State :=
  let b := leAt o 0 1
  let sub := leAt o 1 1
  let idx := leAt o 2 2
  if malformed c o then (s.closeDone p req).pathAbort c (heldObject o).1 (heldObject o).2 0x0504
  else match b / 16 with
    | 1 => s.eopRead p req c idx sub
    | 3 => s.eopWrite p req c idx sub (octAt o 4 (b % 16))
    | 6 => s.segStartFrame p req c idx sub (leAt o 4 2)
    | 7 => s.segIn p req c (b % 16) (octAt o 2 (leAt o 1 1))
    | 9 => s.segReqIn p req c (b % 16)
    | _ => s.hostAbort p req

/-- The handling of one request or frame on its path: the mailboxes are BUSY while it lasts, and return to IDLE where it draws no answer
(R281, R285). -/
def State.handleOn (s : State) (p req : Nat) (c : Carrier) (o : Octets) : State :=
  match p with
  | 3 =>
    let s := State.handle { s with acc := { s.acc with mbStatus := 1 } } 3 req c o
    if s.acc.mbStatus = 1 then { s with acc := { s.acc with mbStatus := 0 } } else s
  | 4 =>
    let s := State.handle { s with acc := { s.acc with jtagState := 1 } } 4 req c o
    if s.acc.jtagState = 1 then { s with acc := { s.acc with jtagState := 0 } } else s
  | _ => s.handle p req c o

/-- A frame completes a request: a READ, a WRITE, or the SEG with the expected toggle that fills an open write of its requester (R268). -/
def State.completesRequest (s : State) (p req : Nat) (c : Carrier) (o : Octets) : Bool :=
  let b := leAt o 0 1
  !malformed c o &&
    match b / 16 with
    | 1 => true
    | 3 => true
    | 7 => (match (s.path p).xfer with
      | some t => t.write && !t.done && decide (t.req = req) && decide (t.toggle = b % 16) && decide (t.data.length + leAt o 1 1 = t.total)
      | none => false)
    | _ => false

/-- Of two waiting requests the first is accepted before the second: it completed in an earlier MGT cycle, or in the same one on a path
that goes before, in the order JTAG, mailbox, 10BASE-T1S, CAN FD (R268). -/
def Request.before (a b : Request) : Bool := decide (a.cycle < b.cycle) || (decide (a.cycle = b.cycle) && decide (b.path < a.path))

/-- The waiting request that the core accepts next; requests of one path keep their order of arrival (R231, R268). -/
def firstRequest (l : List Request) : Option Request :=
  match l with
  | [] => none
  | r :: t => match firstRequest t with
    | some x => some (if x.before r then x else r)
    | none => some r

/-- The core accepts the requests that wait, one after the other (R268). -/
def State.serveQueue (s : State) (fuel : Nat) : State :=
  match fuel with
  | 0 => s
  | n + 1 =>
    match firstRequest s.acc.queue with
    | none => s
    | some r => ((State.handleOn { s with acc := { s.acc with queue := s.acc.queue.erase r } } r.path r.req r.via r.o)).serveQueue n

/-- Places of the receive queue of a path (Table 6.6). -/
def queueDepth (p : Nat) : Nat := if p = 1 ∨ p = 2 then 4 else 1

/-- The receive queue of a path has no place for one more frame (R288). -/
def State.queueFull (s : State) (p : Nat) : Bool := decide (queueDepth p ≤ (s.acc.queue.filter fun r => decide (r.path = p)).length)

/-- A frame that its receive queue drops, for want of room or for parity: it has not been received (R269, R288). [DESIGN CHOICE, log entry 12] -/
def State.drops (s : State) (f : Frame) : Bool := f.queueFull || s.queueFull (carrierPath f.via) || !f.parityOk

/-- The drop is counted (R269, R288). [DESIGN CHOICE, log entry 12; DEDUCED, log entry 15] -/
def State.dropFrame (s : State) (f : Frame) : State := s.bump 0xF008 (if f.queueFull || s.queueFull (carrierPath f.via) then 10 else 14) 1

/-- A frame has been received on a path. One that the path handles alone is handled at once; a complete request is accepted by the core,
with those that wait, in their order, or waits where the core is not free (R268). [DESIGN CHOICE, log entry 12] -/
def State.receive (s : State) (f : Frame) (p req : Nat) : State :=
  let s := s.xferDue p
  if !s.completesRequest p req f.via f.o then s.handleOn p req f.via f.o
  else
    let q := s.acc.queue ++ [⟨s.cycle .mgt s.now, p, req, f.via, f.o⟩]
    let s := { s with acc := { s.acc with
      queue := q, mbStatus := if p = 3 then 1 else s.acc.mbStatus, jtagState := if p = 4 then 1 else s.acc.jtagState } }
    if f.waits then s else s.serveQueue q.length

/-- The acceptance queue is reset: every complete request that waits is dropped without an answer, a final SEG among them, so its transfer
awaits that segment again; the mailboxes show IDLE (R269). [DESIGN CHOICE, log entry 12] -/
def State.queueReset (s : State) : State :=
  let here : Nat → Bool := fun p => s.acc.queue.any fun r => decide (r.path = p)
  let s := { s with acc := { s.acc with
    queue := [], mbStatus := if here 3 then 0 else s.acc.mbStatus, jtagState := if here 4 then 0 else s.acc.jtagState } }
  s.setCause 3 2

/-- A CAN frame (R271, R272); a remote frame is ignored (Table 6.3). [DEDUCED, log entry 18] -/
def State.canFrame (s : State) (f : Frame) (id : Nat) (ext : Bool) : State :=
  let src := bits id 0 8
  if f.remote || !s.pathUp 1 || !ext || decide (bits id 24 5 ≠ 0x1A) || decide (bits id 16 8 ≠ 1) || decide (bits id 8 8 ≠ s.acc.canNode) ||
    decide (src = 0) || decide (src = 255) || decide (src = s.acc.canNode) then s
  else if s.drops f then s.dropFrame f
  else (s.bump 0xF008 1 1).receive f 1 src

/-- A UDP datagram (R276, R277). [DEDUCED, log entry 17] -/
def State.udpFrame (s : State) (f : Frame) (src dst sport dport : Nat) (clean : Bool) : State :=
  if !s.pathUp 2 then s
  else if !clean || decide (dst ≠ s.ownIp) || decide (dport ≠ s.n 0x1110 6) || (s.nextHop src).isNone then s.bump 0xF008 6 1
  else if s.drops f then s.dropFrame f
  else (s.bump 0xF008 5 1).receive f 2 (src + sport * 2 ^ 32)

/-- The claim ends: transfer and session of the path close, and REQLEN returns to 0 (R282). [DESIGN CHOICE, log entry 20] -/
def State.releaseClaim (s : State) : State :=
  let s := { s with acc := { s.acc with owner := none, reqLen := 0 } }
  (s.setXfer 3 none).closeSession 3

/-- The claim idle limit in ns (1120h:3). -/
def State.claimLimit (s : State) : Nat := s.n 0x1120 3 * 1000000

/-- A claim whose idle limit has passed is released; a doorbell in the MGT cycle of expiry still counts (R12, R282). -/
def State.claimDue (s : State) : State :=
  match s.acc.owner with
  | some _ => if s.late .mgt s.acc.claimAt s.claimLimit then s.releaseClaim.bump 0xF008 13 1 else s
  | none => s

/-- A submission of the mailbox window's owner (R281). -/
def State.mailboxFrame (s : State) (f : Frame) (q sid : Nat) : State :=
  let s := s.claimDue
  match s.acc.owner with
  | some (op, osid, _) =>
    if s.pathUp 3 ∧ (s.port q).admitted ∧ op = q ∧ osid = sid ∧ s.acc.mbStatus ≠ 1 then
      if s.drops f then s.dropFrame f
      else State.receive { s with acc := { s.acc with claimAt := s.now } } f 3 s.ownerWord
    else s
  | none => s

/-- A submission of the JTAG mailbox (R285). -/
def State.jtagFrame (s : State) (f : Frame) : State :=
  if !s.pathUp 4 then s
  else if s.drops f then s.dropFrame f
  else s.receive f 4 0

/-- A frame reaches the device on its transport. [DESIGN CHOICE, log entry 12; DESIGN CHOICE, log entry 13] -/
def State.takeFrame (s : State) (f : Frame) : State :=
  (match f.via with
   | .can id ext _ _ => s.canFrame f id.toNat ext
   | .udp src dst sport dport clean => s.udpFrame f src.toNat dst.toNat sport.toNat dport.toNat clean
   | .mailbox q sid => s.mailboxFrame f q.val sid.toNat
   | .jtag => s.jtagFrame f).settle

/-! ### ALERT frames (R264–R266) -/

/-- An ALERT frame leaves on a path (Table 6.2). [DEDUCED, log entry 37] -/
def State.sendAlert (s : State) (p : Nat) : State :=
  let x := s.path p
  let sum := s.summary % 65536
  let raised := (if x.alertAt.isNone then x.risen ||| sum else x.risen) % 65536
  let o := leBytes 1 0xA0 ++ leBytes 1 x.alseq ++ leBytes 2 sum ++ leBytes 2 raised
  let s := (s.setPath p { x with alseq := (x.alseq + 1) % 256, sent := sum, risen := 0, due := false, alertAt := some s.now }).bump 0xF008 11 1
  match p with
  | 1 => s.sendCan (0x1A * 2 ^ 24 + 3 * 2 ^ 16 + 0xFF * 2 ^ 8 + s.acc.canNode) (s.b 0x1100 3) (s.b 0x1100 3) o
  | 2 => s.sendUdp (s.z 0x1110 7) (s.n 0x1110 8) s.ownIp (s.n 0x1110 6) o
  | _ => { s with acc := { s.acc with mbAlert := x.alseq + sum * 65536 } }

/-- ALERT frames are sent on a path. -/
def State.alertsOn (s : State) (p : Nat) : Bool :=
  s.pathUp p && bit (s.n 0x1105 1) (p - 1) && (decide (p ≠ 2) || decide (s.z 0x1110 7 ≠ 0)) && decide (1 ≤ p) && decide (p ≤ 3)

/-- A change of the summary waits for a frame, or the path has become reachable with a summary (R264, R295). -/
def State.alertSend (s : State) (p : Nat) : State :=
  let x := s.path p
  if s.alertsOn p ∧ (x.due ∨ (x.alertAt.isNone ∧ s.summary ≠ 0)) then
    (match x.alertAt with | some t => s.elapseTo (t + 1000000) | none => s).sendAlert p
  else s

/-- The repeat interval expires while the summary is not zero (R264). -/
def State.alertRepeat (s : State) (p : Nat) : State :=
  match (s.path p).alertAt with
  | some t => if s.alertsOn p ∧ s.summary ≠ 0 then (s.elapseTo (t + s.n 0x1105 2 * 1000000)).sendAlert p else s
  | none => s

/-! ### The network (R276, R290, R291) -/

/-- The CAN controller goes bus-off (R290). [DESIGN CHOICE, log entry 82] -/
def State.busOff (s : State) : State :=
  if s.pathUp 1 then (State.setCause { s with acc := { s.acc with canState := 3 } } 3 3).bump 0xF008 4 1 else s

/-- It recovers from bus-off (R290). -/
def State.busRecovered (s : State) : State :=
  if s.acc.canState = 3 then { s with acc := { s.acc with canState := 1, tecErr := 0, recErr := 0 } } else s

/-- The node address in use: 1100h:2, or 8010h:1 on a Second. -/
def State.ownNode (s : State) : Nat := if s.pair.role = 3 then s.n 0x8010 1 else s.n 0x1100 2

/-- Committed bit timing, as it comes into use (R274). -/
def State.canTimes (s : State) : List Nat := (upto 4).map (fun k => s.n 0x1101 (k + 1)) ++ (upto 4).map fun k => s.n 0x1102 (k + 1)

/-- The bus is idle: committed timing takes effect, and a path that is not on the bus joins it (R274, R294). [DEDUCED, log entry 18] -/
def State.busIdle (s : State) : State :=
  let s := if s.acc.canPending ∨ s.acc.canState = 0 then
      { s with acc := { s.acc with canTiming := s.canTimes, canPending := false } } else s
  let on := s.mgtFast && decide (8 ≤ s.boot.step) && s.b 0x1100 1 && !(s.dom .tick).inReset
  if on then { s with acc := { s.acc with canNode := s.ownNode, canState := if s.acc.canState = 0 then 1 else s.acc.canState } } else s

/-- The error counters of the controller take new values (Table 6.3): from 128 on it is error-passive, and above 255 in TEC it goes
bus-off, as the standard has it. [DESIGN CHOICE, log entry 82] -/
def State.canErrors (s : State) (tec rec : Nat) : State :=
  if s.pathUp 1 then
    let passive := decide (128 ≤ tec) || decide (128 ≤ rec)
    let s' := { s with acc := { s.acc with tecErr := min tec 65535, recErr := min rec 65535, canState := if passive then 2 else 1 } }
    let s' := if passive && decide (s.acc.canState = 1) then s'.bump 0xF008 3 1 else s'
    if 255 < tec then s'.busOff else s'
  else s

/-- How the MAC takes the medium (R275): CSMA/CD while PLCA is disabled; with PLCA, node 0 is the coordinator, which alone uses the node
count. -/
def State.macAccess (s : State) : Nat × Nat × Nat :=
  if !s.b 0x1111 1 then (0, 0, 0)
  else if s.n 0x1111 2 = 0 then (2, 0, s.n 0x1111 3)
  else (1, s.n 0x1111 2, 0)

/-- The device reads the link status of the PHY at the address of 1112h:1, by a Clause 22 frame to its status register (R275). [PRESUMED,
log entry 90] -/
def State.readPhy (s : State) : State := s.emit (.mdio (s.n 0x1112 1) 1)

/-- The MAC takes its access to the medium (R275). [DESIGN CHOICE, log entry 90] -/
def State.setMac (s : State) : State := s.emit (.mac s.macAccess.1 s.macAccess.2.1 s.macAccess.2.2)

/-- The 10BASE-T1S link or PLCA goes down (R291). [DESIGN CHOICE, log entry 82] -/
def State.netDown (s : State) (linkDown : Bool) : State :=
  if linkDown || s.b 0x1111 1 then
    let was := s.acc.netDown
    let s := if linkDown then s.readPhy else s
    let s := { s with acc := { s.acc with
      netDown := true, phyLink := if linkDown then false else s.acc.phyLink, plca := if s.b 0x1111 1 then 2 else 0 } }
    if was then s else s.setCause 3 4
  else s

/-- The link returns (R291). [DEDUCED, log entry 17] -/
def State.netUp (s : State) : State :=
  let s := s.readPhy.setMac
  { s with acc := { s.acc with netDown := false, phyLink := true, plca := if s.b 0x1111 1 then 1 else 0 } }

/-- An ARP request: answered for the device's address, whose sender is learnt with it (R276). [DEDUCED, log entry 17; PRESUMED, log entry 81] -/
def State.arpRequest (s : State) (target sender mac : Nat) : State :=
  if s.pathUp 2 ∧ target = s.ownIp then
    State.emit { s with acc := { s.acc with arp := mset s.acc.arp sender mac } } (.arp 2 sender mac)
  else s

/-- An ARP reply resolves a next hop: the datagrams that wait for it leave (R276). -/
def State.arpReply (s : State) (ip mac : Nat) : State :=
  if !s.pathUp 2 then s
  else
    let s := { s with acc := { s.acc with arp := mset s.acc.arp ip mac } }
    let go := s.acc.arpWait.filter fun d => s.nextHop d.dst == some ip
    let s := { s with acc := { s.acc with arpWait := s.acc.arpWait.filter fun d => s.nextHop d.dst != some ip } }
    go.foldl (fun s d => s.emit (.ip d true)) s

/-- An ICMP echo request to the device's address is answered through its next hop; one in a fragment, with options or with a bad header
checksum is dropped and counted (R276). [PRESUMED, log entry 81] -/
def State.icmpEcho (s : State) (src dst : Nat) (o : Octets) (clean : Bool) : State :=
  if s.pathUp 2 ∧ dst = s.ownIp then
    if !clean || (s.nextHop src).isNone then s.bump 0xF008 6 1
    else s.sendIp { dst := src, dport := 0, src := dst, sport := 0, o := o, echo := true }
  else s

end Sys2Proof.Machine
end

