-- ==== Sys2Proof/Machine/Window.lean ====
section
/-! DEFINITION. Sys2Proof/Machine/Window.lean: the fabric mailbox window and the TAP with its JTAG mailbox (Chapter 6,
R279–R286). -/
namespace Sys2Proof.Machine

/-! ### The fabric mailbox window (Table 6.5) -/

/-- An address lies in the window, while it is decoded: its offset (R279). -/
def State.windowOff (s : State) (a : Nat) : Option Nat :=
  let base := s.n 0x1120 2
  if s.b 0x1120 1 && decide (base ≤ a) && decide (a < base + 65536) then some (a - base) else none

/-- An access to the window is discarded; while MGT is in domain reset it is not counted (R279). -/
def State.windowDiscard (s : State) : State := if (s.dom .mgt).inReset then s else s.bump 0xF008 12 1

/-- The source owns the mailbox. -/
def State.owns (s : State) (p sid : Nat) : Bool := match s.acc.owner with | some (q, t, _) => q == p && t == sid | none => false

/-- A CLAIM write (R280). -/
def State.claimWrite (s : State) (p sid v : Nat) : State :=
  let c := v % 65536
  match s.acc.owner with
  | none => if c = 0 then s else { s with acc := { s.acc with owner := some (p, sid, c), claimAt := s.now } }
  | some _ => if s.owns p sid && decide (c = 0) then s.releaseClaim else s

/-- A DOORBELL write submits the request (R280, R281). -/
def State.doorbellWrite (s : State) (p sid : Nat) : State :=
  s.takeFrame ⟨.mailbox (Fin.ofNat 6 p) (BitVec.ofNat 8 sid), octAt s.acc.request 0 s.acc.reqLen, true, false, false, false⟩

/-- A write to REQUEST (R280). -/
def State.requestWrite (s : State) (off : Nat) (o : Octets) : State :=
  { s with acc := { s.acc with request := (putOct s.acc.request (off - 0x100) o).take 256 } }

/-- A 32-bit write at an offset is discarded and counted: it is not the owner's, meets STATUS BUSY, carries a value out of range, or goes
to an offset that is not written (R279, R280). -/
def State.windowRefuses (s : State) (p sid off v : Nat) : Bool :=
  if off = 8 then s.acc.owner.isSome && !s.owns p sid
  else if off = 0x10 then !s.owns p sid || decide (s.acc.mbStatus = 1) || decide (v ≠ 1)
  else if off = 0x14 then !s.owns p sid || decide (s.acc.mbStatus = 1) || decide (v = 0) || decide (256 < v)
  else if 0x100 ≤ off ∧ off < 0x200 then !s.owns p sid || decide (s.acc.mbStatus = 1)
  else true

/-- One 32-bit word is written at an offset that takes it. -/
def State.windowPut (s : State) (p sid off v : Nat) : State :=
  if off = 8 then s.claimWrite p sid v
  else if off = 0x10 then s.doorbellWrite p sid
  else if off = 0x14 then { s with acc := { s.acc with reqLen := v } }
  else s.requestWrite off (leBytes 4 v)

/-- One 32-bit word is written at an offset. -/
def State.windowWord (s : State) (p sid off v : Nat) : State :=
  if s.windowRefuses p sid off v then s.windowDiscard else s.windowPut p sid off v

/-- One access of 64 bits writes two words, the lower first; where both are discarded, it counts once (R279). [DESIGN CHOICE, log entry 20] -/
def State.windowPair (s : State) (p sid off v w : Nat) : State :=
  let t := s.windowWord p sid off v
  if s.windowRefuses p sid off v && t.windowRefuses p sid (off + 4) w then t else t.windowWord p sid (off + 4) w

/-- Accesses that the window serves: naturally aligned, of 4 or 8 octets (R279). -/
def windowForm (off n : Nat) : Bool := (decide (n = 4) || decide (n = 8)) && decide (off % n = 0)

/-- A write of octets at an offset by a source on a port; one of 64 bits is two words, the lower first. [DESIGN CHOICE, log entry 20] -/
def State.windowWrite (s : State) (p sid off : Nat) (o : Octets) : State :=
  let s := s.claimDue
  if !s.pathUp 3 || !windowForm off o.length then s.windowDiscard
  else if o.length = 8 then s.windowPair p sid off (leAt o 0 4) (leAt o 4 4)
  else s.windowWord p sid off (leAt o 0 4)

/-- The words of the TIME view after its low word, of one snapshot (Table 6.5a). -/
def State.timeWords (s : State) : Nat :=
  let (sec, _, frac) := timeParts s.time.pt
  sec + frac * 2 ^ 48

/-- The low word of the TIME view. -/
def State.timeLow (s : State) : Nat := (timeParts s.time.pt).2.1

/-- A read of the TIME view from a port: its low word latches the rest for the port (R283). -/
def State.timeView (s : State) (p off n : Nat) : Nat × State :=
  let hi := mgetD s.acc.timeView p 0
  if off = 0x400 then
    let w := s.timeWords
    ((s.timeLow + w * 2 ^ 32) % 2 ^ (8 * n), { s with acc := { s.acc with timeView := mset s.acc.timeView p w } })
  else (hi / 2 ^ (8 * (off - 0x404)) % 2 ^ (8 * n), s)

/-- A read of the TICK view from a port (R283). -/
def State.tickView (s : State) (p off n : Nat) : Nat × State :=
  if off = 0x410 then
    (s.time.tick % 2 ^ (8 * n), { s with acc := { s.acc with tickView := mset s.acc.tickView p (s.time.tick / 2 ^ 32) } })
  else (mgetD s.acc.tickView p 0 % 2 ^ (8 * n), s)

/-- One readable 32-bit word below the views; none where the offset cannot be read. RESPONSE is valid while STATUS is DONE. [DESIGN CHOICE, log entry 20] -/
def State.windowRead32 (s : State) (off : Nat) : Option Nat :=
  if off = 0 then some 0x74100001
  else if off = 4 then some (s.acc.mbStatus + b2n s.acc.owner.isSome * 256)
  else if off = 0xC then some s.ownerWord
  else if off = 0x18 then some s.acc.rspLen
  else if off = 0x1C then some s.acc.mbAlert
  else if 0x200 ≤ off ∧ off < 0x300 then some (if s.acc.mbStatus = 2 then leAt s.acc.response (off - 0x200) 4 else s.freeVal % 2 ^ 32)
  else none

/-- A read of `n` octets at an offset from a port: the value and the state after it (R279, R283). [DESIGN CHOICE, log entry 20] -/
def State.windowRead (s : State) (p off n : Nat) : Nat × State :=
  if !s.pathUp 3 || !windowForm off n then (0, s.windowDiscard)
  else if 0x400 ≤ off ∧ off < 0x410 then s.timeView p off n
  else if 0x410 ≤ off ∧ off < 0x418 then s.tickView p off n
  else
    let lo := s.windowRead32 off
    let hi := if n = 8 then s.windowRead32 (off + 4) else some 0
    let s' := if lo.isNone ∨ hi.isNone then s.windowDiscard else s
    (lo.getD 0 + hi.getD 0 * 2 ^ 32, if 0x200 ≤ off ∧ off < 0x300 ∧ s.acc.mbStatus ≠ 2 then s'.drawn else s')

/-- An access of a command reaches the window: it is decoded, and the port carries messages. -/
def State.windowOpen (s : State) (p : Nat) : Bool := s.b 0x1120 1 && (s.port p).admitted

/-- A write of a command to the window. -/
def State.windowCmd (s : State) (p sid off : Nat) (o : Octets) : State :=
  if s.windowOpen p then s.windowWrite p sid off o else s

/-- A read of a command from the window; the data leaves toward the port. -/
def State.windowGet (s : State) (p off n : Nat) : State :=
  if s.windowOpen p then
    let (v, s) := s.windowRead p off n
    s.emit (.window p v n)
  else s

/-- The claim idle limit passes without a doorbell (R282). -/
def State.claimExpiry (s : State) : State :=
  match s.acc.owner with
  | some _ => ((s.elapseTo (s.acc.claimAt + s.claimLimit)).releaseClaim).bump 0xF008 13 1
  | none => s

/-- An access that is misaligned, of another size or to an offset the table does not list (R279). -/
def State.invalidWindow (s : State) (p : Nat) (write : Bool) : State :=
  if s.windowOpen p then (if write then s.windowDiscard else s.windowDiscard.emit (.window p 0 4)) else s

/-! ### The TAP (R284, R285, R295) -/

/-- An instruction is loaded. [DESIGN CHOICE, log entry 21] -/
def State.tapLoad (s : State) (ir : Nat) : State := { s with acc := { s.acc with tapIr := ir } }

/-- The boundary register captures the pins, which a tester drives in part, and shifts in 90 bits (Table 6.7). [DESIGN CHOICE, log entry 21] -/
def State.boundaryScan (s : State) (ir : Nat) (scan : Octets) : State :=
  let s := (s.tapLoad ir).emit (.tdo (s.freeVal % 2 ^ 90) 90)
  State.drawn { s with acc := { s.acc with boundary := leBytes 12 (leAt scan 0 12 % 2 ^ 90) } }

/-- The bypass register captures 0 and passes one bit. -/
def State.bypassScan (s : State) (ir : Nat) : State := (s.tapLoad ir).emit (.tdo 0 1)

/-- Whether the mailbox register lies in the scan path (R285). [DESIGN CHOICE, log entry 21] -/
def State.jtagOpen (s : State) : Bool := decide (s.acc.tapIr = 0x10) && s.acc.sib

/-- What Capture-DR loads into the mailbox register: STATE, the selected address and the selected word (R285); no word address is shown
while RSPLEN is selected. [DESIGN CHOICE, log entry 21] -/
def State.jtagWord (s : State) : Nat :=
  let k := s.acc.jtagSel
  s.acc.jtagState * 2 ^ 38 + k % 64 * 2 ^ 32 + (if k = 64 then s.acc.jtagRspLen else leAt s.acc.jtagRsp (4 * k) 4)

/-- One scan of the network: the segment insertion bit leaves first, and the mailbox register behind it while the bit is set (R285). [DESIGN
CHOICE, log entry 21] -/
def State.jtagCapture (s : State) : State := if s.acc.sib then s.emit (.tdo (2 * s.jtagWord + 1) 41) else s.emit (.tdo 0 1)

/-- The TAP is reset: IDCODE, and the segment insertion bit is clear (R295). [PRESUMED, log entry 81] -/
def State.tapReset (s : State) : State := { s with acc := { s.acc with tapIr := 1, sib := false } }

/-- One scan of the mailbox register with what Update-DR does. -/
def State.jtagScan (s : State) (f : State → State) : State := if s.jtagOpen then f s.jtagCapture else s

/-- CMD 1: DATA goes into request word ADDR. -/
def State.jtagWrite (s : State) (k v : Nat) : State :=
  { s with acc := { s.acc with jtagReq := (putOct s.acc.jtagReq (4 * k) (leBytes 4 v)).take 256 } }

/-- CMD 3, ADDR 0: the request is submitted. [DESIGN CHOICE, log entry 21] -/
def State.jtagSubmit (s : State) (n : Nat) : State := s.takeFrame ⟨.jtag, octAt s.acc.jtagReq 0 (min n 256), true, false, false, false⟩

/-- CMD 3, ADDR 1: the open transfer closes without a frame, and so does the session (R286); STATE returns to IDLE. [DESIGN CHOICE, log
entry 21] -/
def State.jtagRelease (s : State) : State :=
  let s := { s with acc := { s.acc with jtagState := 0 } }
  (s.setXfer 4 none).closeSession 4

end Sys2Proof.Machine
end

