-- ==== Sys2Proof/Machine/Deliver.lean ====
section
/-! DEFINITION. Sys2Proof/Machine/Deliver.lean: what a received Olelle message does: the decode of a request by its address, snoop
answers and writebacks to the capture home, answers to the device caching agent, samples and time exchanges (Chapters 9 to 11). -/
namespace Sys2Proof.Machine

/-- The opcodes whose ADDR names a line (Table 10.3). -/
def lineOpcode (opc : Nat) : Bool := opc = 3 || opc = 6 || opc = 8 || opc = 9 || opc = 10

/-- Data slots that a request of an opcode carries (Table 10.3). -/
def reqLen (opc : Nat) : Nat := if opc = 4 ∨ opc = 5 then 1 else if opc = 6 then 4 else 0

/-- A REQ opcode of Table 10.3. -/
def reqOpcode (opc : Nat) : Bool := (decide (1 ≤ opc) && decide (opc ≤ 6)) || (decide (8 ≤ opc) && decide (opc ≤ 10))

/-- A 4-octet or 8-octet opcode with a misaligned address (R408). [DEDUCED, log entry 55] -/
def misaligned (m : LinkMsg) : Bool :=
  ((m.opc = 1 || m.opc = 4) && decide (m.addr % 4 ≠ 0)) || ((m.opc = 2 || m.opc = 5) && decide (m.addr % 8 ≠ 0))

/-- A request to the fabric mailbox window (R279, R396, R408); poisoned data is not used (R401). [DEDUCED, log entry 55] -/
def State.windowReq (s : State) (p : Nat) (m : LinkMsg) (off : Nat) : State :=
  match m.opc with
  | 1 => let (v, s) := s.windowRead p off 4; s.answer p m 3 1 false (octAt (leBytes 4 v) 0 16)
  | 2 => let (v, s) := s.windowRead p off 8; s.answer p m 3 1 false (octAt (leBytes 8 v) 0 16)
  | 3 => s.windowDiscard.answer p m 3 1 false (zeros 64)
  | 4 => (if m.poison then s.windowDiscard else s.windowWrite p m.sid off (octAt m.data 0 4)).answer p m 2 1 false []
  | 5 => (if m.poison then s.windowDiscard else s.windowWrite p m.sid off (octAt m.data 0 8)).answer p m 2 1 false []
  | 6 => s.windowDiscard.answer p m 2 1 false []
  | _ => s.windowDiscard.answer p m 3 4 false (zeros 64)

/-- A REQ message becomes visible to the capture home (R396, R408, R439, R443, R759). [DEDUCED, log entry 55; DEDUCED, log entry 58] -/
def State.homeReq (s : State) (p : Nat) (m : LinkMsg) (more : Bool) : State :=
  if !reqOpcode m.opc || decide (msgLen m ≠ reqLen m.opc) || (lineOpcode m.opc && decide (m.addr % 64 ≠ 0)) then
    s.protoViolation (m.addr / 64 * 64) m.sid
  else if (s.port p).st = 7 then s.answer p m 2 0x1F false []
  else match s.windowOff m.addr with
    | some off => if misaligned m then s.windowDiscard.answer p m 2 0x1D false [] else s.windowReq p m off
    | none =>
      if s.pair.role = 3 then s
      else match s.region m.addr with
        | some off => if misaligned m then s.tracked.answer p m 2 0x1D false [] else s.enter p m off more
        | none => s.tracked.answer p m 2 0x1C false []

/-- A line message without data, or with a line of data (R439). -/
def lineMsg (m : LinkMsg) (slots : Nat) : Bool := decide (msgLen m = slots) && decide (m.addr % 64 = 0)

/-- A SNP message of a foreign home becomes visible to the device caching agent (Table 10.5). -/
def State.snoopIn (s : State) (p : Nat) (m : LinkMsg) : State :=
  if (m.opc = 1 ∨ m.opc = 2) ∧ lineMsg m 0 then s.foreignSnoop p m else s.protoViolation (m.addr / 64 * 64) m.sid

/-- The agents whose answer, or whose crossed writeback, the home has awaited for the limit of 7801h:1, by line (R440). -/
def State.silent (s : State) : List (Nat × Nat) :=
  let due := fun t => decide (t + s.n 0x7801 1 * 1000 ≤ s.now)
  s.coh.txn.flatMap fun e =>
    ((e.2.snoops.filter fun x => decide (x.tag < 4096) && due x.since).map fun x => (e.1, x.sid)) ++
      (e.2.wbHold.filter fun h => due h.2).map fun h => (e.1, h.1)

/-- Answers that are overdue at one instant: each sets TIMEOUT and counts, in the order of their lines, and then each silent port leaves
service (R15, R440). -/
def State.expire (s : State) (l : List (Nat × Nat)) : State :=
  let s := l.foldl (fun s x => (s.cohEvent 2 3 x.1 x.2).bump 0xF048 8 1) s
  ((l.map fun x => portOfSid x.2).eraseDups).foldl State.portLeave s

/-- A snoop answer becomes visible; one whose limit has passed comes after its expiry (R14, R440). -/
def State.snoopAnswered (s : State) (m : LinkMsg) (gone : Nat) (dirty : Bool) : State :=
  match s.findSnoop m.addr m with
  | some x =>
    if s.late .fab x.since (s.n 0x7801 1 * 1000) then (s.expire s.silent).snoopAnswer m gone dirty else s.snoopAnswer m gone dirty
  | none => s.snoopAnswer m gone dirty

/-- A WB message becomes visible; one that the home has awaited past its limit comes after the expiry (R14, R440). -/
def State.evicted (s : State) (p : Nat) (m : LinkMsg) (dirty : Bool) : State :=
  match (s.txn m.addr).bind fun t => t.wbHold.find? fun h => h.1 == m.sid with
  | some h => if s.late .fab h.2 (s.n 0x7801 1 * 1000) then s.expire s.silent else s.evict p m dirty
  | none => s.evict p m dirty

/-- An answer to a request of the device becomes visible; one whose limit has passed comes after its expiry (R14, R429). -/
def State.devAnswered (s : State) (p : Nat) (m : LinkMsg) (result grant : Nat) : State :=
  match s.devReq p m.tag with
  | some r => if s.late .fab r.since (s.n 0x7801 2 * 1000) then (s.devExpire m.tag).devAnswer p m result grant else s.devAnswer p m result grant
  | none => s.devAnswer p m result grant

/-- An RSP message becomes visible (Table 10.3). -/
def State.rspIn (s : State) (p : Nat) (m : LinkMsg) : State :=
  let bad := s.protoViolation (m.addr / 64 * 64) m.sid
  if msgLen m ≠ 0 then bad
  else match m.opc with
    | 1 => s.devAnswered p m 0 0
    | 2 => s.devAnswered p m 0 2
    | 3 => s.devWbAck p m
    | 4 => if m.addr % 64 = 0 then s.snoopAnswered m 0 false else bad
    | 5 => if m.addr % 64 = 0 then s.snoopAnswered m 1 false else bad
    | 6 => if m.addr % 64 = 0 then s.snoopAnswered m 2 false else bad
    | 7 => if m.addr % 64 = 0 then s.snoopAnswered m 3 false else bad
    | 0x1C => s.devAnswered p m 1 0
    | 0x1D => s.devAnswered p m 1 0
    | 0x1F => s.devAnswered p m 2 0
    | _ => bad

/-- A DAT message becomes visible (Table 10.3). -/
def State.datIn (s : State) (p : Nat) (m : LinkMsg) : State :=
  let bad := s.protoViolation (m.addr / 64 * 64) m.sid
  match m.opc with
  | 1 => if msgLen m = 1 ∨ msgLen m = 4 then s.devAnswered p m 0 0 else bad
  | 2 => if lineMsg m 4 then s.devAnswered p m 0 1 else bad
  | 3 => if lineMsg m 4 then s.devAnswered p m 0 2 else bad
  | 4 => if lineMsg m 4 then s.devAnswered p m 0 0 else bad
  | 5 => if lineMsg m 4 then s.snoopAnswered m 0 true else bad
  | 6 => if lineMsg m 4 then s.snoopAnswered m 1 true else bad
  | _ => bad

/-- A WB message becomes visible (Table 10.3). -/
def State.wbIn (s : State) (p : Nat) (m : LinkMsg) : State :=
  match m.opc with
  | 1 => if lineMsg m 0 then s.evicted p m false else s.protoViolation (m.addr / 64 * 64) m.sid
  | 2 => if lineMsg m 4 then s.evicted p m true else s.protoViolation (m.addr / 64 * 64) m.sid
  | _ => s.protoViolation (m.addr / 64 * 64) m.sid

/-- A T_PONG becomes visible; taps whose source gains or loses SET by it follow (R468, R539, R540). -/
def State.pongVisible (s : State) (p : Nat) (m : PongMsg) : State := (s.pong p m).tapsFollow

/-- A TIME or MGT message becomes visible: T_PONG is the one that a die sends (R464, Table 11.5). -/
def State.timeIn (s : State) (p : Nat) (m : LinkMsg) : State :=
  let channel := if (s.port p).gen = 3 then 5 else 7
  if m.vc = channel ∧ m.opc = 2 ∧ msgLen m = 1 then s.pongVisible p (pongOf m) else s.discardMsg p 0 m.sid

/-- An OBS message becomes visible; an opcode that no mode allows is the fault of its tap (R461, R463, R485, Table 11.4). -/
def State.obsIn (s : State) (p : Nat) (m : LinkMsg) : State := s.obs p m.opc (obsOf m)

/-- A message reaches its consumer. -/
def State.deliver (s : State) (p : Nat) (m : LinkMsg) (more : Bool) : State :=
  match m.vc with
  | 0 => s.homeReq p m more
  | 1 => s.snoopIn p m
  | 2 => s.rspIn p m
  | 3 => s.datIn p m
  | 4 => s.wbIn p m
  | 6 => s.obsIn p m
  | _ => s.timeIn p m

/-- A message that a command brings from a port's link layer: it is compared with the fabric holds, checked as R374 checks it,
and given to `f`. It comes without a flit, so that its credits are not part of the command. [DESIGN CHOICE, log entry 53] -/
def State.fromPort (s : State) (p : Nat) (m : LinkMsg) (f : State → State) : State :=
  if !(s.port p).linked then s
  else
    let s := s.matchFabric p m
    if s.msgFault p m (msgLen m) then (s.bumpPort p 10).cohEvent 1 4 (m.addr / 64 * 64) m.sid
    else (f s).settle

/-- A coherence message as its command gives it. -/
def coherent (vc opc : Nat) (m : CohMsg) : LinkMsg := ⟨vc, opc, m.sid.toNat, 0, m.tag.toNat, m.addr.toNat, m.poison, m.data, 0⟩

/-- A coherence message that a command brings; the last of its FAB cycle completes the cycle's conflicts (R416, R417). -/
def State.cohIn (s : State) (p : Nat) (vc opc : Nat) (m : CohMsg) : State :=
  let s := s.fromPort p (coherent vc opc m) fun s => s.deliver p (coherent vc opc m) m.more
  if m.more || !(s.coh.waiting.any fun w => w.group) then s else s.closeCycle.settle

/-- An OBS message as a link message (Table 11.3). -/
def obsMsg (kind : Nat) (m : ObsMsg) : LinkMsg :=
  ⟨6, kind, m.sid.toNat, 0, m.count.toNat * 64, m.tap.toNat * 2 ^ 48 + m.stamp.toNat, m.poison, m.data, m.epoch.toNat⟩

/-- An OBS message that a command brings. -/
def State.sampleIn (s : State) (p kind : Nat) (m : ObsMsg) : State := s.fromPort p (obsMsg kind m) fun s => s.obs p kind m

/-- A T_PONG as a link message (Table 11.5). -/
def pongMsg (gen : Nat) (m : PongMsg) : LinkMsg :=
  ⟨if gen = 3 then 5 else 7, 2, m.sid.toNat, 0, m.tag.toNat, m.ctr.toNat * 2 ^ 50 + m.epoch.toNat * 2 ^ 48, false,
   leBytes 8 m.t2.toNat ++ leBytes 8 m.t3.toNat, 0⟩

/-- A T_PONG that a command brings. -/
def State.pongIn (s : State) (p : Nat) (m : PongMsg) : State :=
  s.fromPort p (pongMsg (s.port p).gen m) fun s => s.pongVisible p m

/-- A message of a flit reaches its consumer; where it waits for the tracker, its credits are held back (R375, R433). -/
def State.deliverFlit (p : Nat) (s : State) (m : LinkMsg) : State :=
  if !(s.port p).linked then s
  else
    let t := s.deliver p m false
    if s.coh.inbox.length < t.coh.inbox.length then t.holdCredits p m else t

/-- A flit is received, and its messages reach their consumers; its acknowledgement and the credits of what they freed go back (R365–R378). The
command's instant is that at which the messages are visible to them. [DESIGN CHOICE, log entry 54] -/
def State.flitReceive (s : State) (p : Nat) (o : Octets) : State :=
  let (s, ms, ack) := s.flitIn p o
  let s := ms.foldl (State.deliverFlit p) s
  (if ack then s.ackBack p else s).settle

/-! ### Timers of the capture home (R440) -/

/-- A snoop answer is overdue: TIMEOUT, and the silent agent's port leaves service; every other that is overdue by then expires with it
(R15, R440). -/
def State.snoopLate (s : State) (line sid : Nat) : State :=
  match (s.txn line).bind fun t => t.snoops.find? fun x => x.sid == sid && decide (x.tag < 4096) with
  | some x =>
    let s := s.elapseTo (x.since + s.n 0x7801 1 * 1000)
    (s.expire s.silent).settle
  | none => s

/-- A crossed writeback is overdue (R440). -/
def State.crossedLate (s : State) (line sid : Nat) : State :=
  match (s.txn line).bind fun t => t.wbHold.find? fun h => h.1 == sid with
  | some h =>
    let s := s.elapseTo (h.2 + s.n 0x7801 1 * 1000)
    (s.expire s.silent).settle
  | none => s

/-! ### Timers and events of a port (R359, R388, Table 9.17) -/

/-- A port is disabled at the end of its quiesce limit (R388). -/
def State.quiesceLate (s : State) (p : Nat) : State :=
  match (s.port p).quiesceAt with
  | some t => if (s.port p).st = 7 then ((s.elapseTo (t + 1000000)).quiesceOver p).settle else s
  | none => s

end Sys2Proof.Machine
end

