-- ==== Sys2Proof/Machine/Events.lean ====
section
/-! DEFINITION. Sys2Proof/Machine/Events.lean: what an event of its own does where no chapter's file has said it before: the
temperature sensors, the scrub, the phases of a training attempt, faults of a port, ticks and timers that a command brings. -/
namespace Sys2Proof.Machine

/-! ### Temperature and clocks (Chapters 2 and 3) -/

/-- The device temperature has reached 120 °C: THERM and its condition (R90); a point above OP3 is left for it (R129). -/
def State.thermReached (s : State) (temp : Int) : State :=
  if temp < 120 ∨ s.power.therm then s
  else (State.setCause { s with power := { s.power with therm := true } } 1 1).dvfsMove

/-- The device temperature has fallen below 115 °C: the condition of THERM ends (R90). -/
def State.thermOver (s : State) : State := { s with power := { s.power with therm := false } }

/-- A PLL loses lock, with what that means to a port's training and service, and to a Second (R148, Table 9.16). -/
def State.pllUnlocked (s : State) (p : Pll) : State :=
  let s := s.pllLoss p
  match p with
  | .port q =>
    let x := s.port q.val
    if x.phase ≠ 0 then s.failAttempt q.val 9 else if x.trained then s.portLeave q.val else s
  | .rpll => s.syncElig
  | _ => s

/-! ### The scrub (R243–R246, R326, R348–R350) -/

/-- A cause object or a child, as the latch holds it. -/
def isCauseWord (idx sub : Nat) : Bool :=
  (decide (0x2101 ≤ idx) && decide (idx ≤ 0x2110) && decide (sub = 0)) ||
    (decide (idx = 0x2140) && decide (1 ≤ sub) && decide (sub ≤ 6)) ||
    (decide (idx = 0x2150) && decide (1 ≤ sub) && decide (sub ≤ 32)) ||
    (decide (idx = 0x2160) && decide (1 ≤ sub) && decide (sub ≤ 16))

/-- The defined bits of a cause word's own object (Tables 8.3, 8.4). -/
def causeWordBits (idx : Nat) : Nat :=
  if idx = 0x2140 then 0x7F else if idx = 0x2150 ∨ idx = 0x2160 then 0x1F else causeBits (idx - 0x2101)

/-- How many 32-bit words of the store the value of an object takes, from words of its own. [DESIGN CHOICE, log entry 75] -/
def storeWords (r : Row) : Nat := ((match r.ty with | .octets => r.maxLen | t => tyLen t) + 3) / 4

/-- An uncorrectable word of the store is found: STORE once, and the word is known bad (R245). [DESIGN CHOICE, log entry 75] -/
def State.storeDouble (s : State) (k : Nat) : State :=
  if s.badWords.contains k then s else State.setCause { s with badWords := s.badWords ++ [k] } 3 1

/-- An uncorrectable word of a staged entry is found (R245, R326). [DESIGN CHOICE, log entry 75] -/
def State.stagedDouble (s : State) (idx sub : Nat) : State :=
  if s.staged.any fun e => decide (e.idx = idx) && decide (e.sub = sub) && !e.bad then
    State.setCause { s with staged := s.staged.map fun e : Staged =>
      if e.idx = idx ∧ e.sub = sub then { e with bad := true } else e } 3 1
  else s

/-- One thing that the scrub's pass finds. While MGT is in domain reset nothing scrubs: an upset waits for the next pass, a
latch word for its reload. [DESIGN CHOICE, log entry 75] -/
def State.scrubFinds (s : State) (f : ScrubFinding) : State :=
  match f with
  | .single _ _ => if s.mgtUp then s.bump 0xF000 9 1 else s
  | .double idx sub w =>
    if s.mgtUp && (findRow idx sub).any fun r => decide (w < storeWords r) then s.storeDouble (key idx sub * 1024 + w) else s
  | .stagedDouble idx sub => if s.mgtUp then s.stagedDouble idx sub else s
  | .latchDiffers idx sub v =>
    if s.mgtUp && isCauseWord idx sub then (s.putCause idx sub (v &&& causeWordBits idx)).alertSync else s
  | .latchParity idx sub =>
    if !isCauseWord idx sub then s
    else if s.mgtUp then (s.latchFault (key idx sub)).alertSync
    else { s with alerts := { s.alerts with badParity := key idx sub :: s.alerts.badParity } }
  | .bankSingle off => { s with mem := { s.mem with single := poisonSet s.mem.single (off / 8 * 8) true } }
  | .bankDouble off => { s with mem := { s.mem with double := poisonSet s.mem.double (off / 8 * 8) true } }
  | .vaultWord r => { s with sec := { s.sec with badRegion := r.val :: s.sec.badRegion } }

/-! ### Training of a port (R358, R359, R363) -/

/-- Phase 1 ends: the port PLL is locked and the port's root is switched to it, or the phase fails (R114, R358). [DEDUCED, log entry 24] -/
def State.portPllLocked (s : State) (p : Fin 6) (ok : Bool) : State :=
  let x := s.port p.val
  if x.phase ≠ 1 then s
  else if !ok then s.failAttempt p.val 9
  else ((s.setPll (.port p) { s.pll (.port p) with started := true, locked := true }).bootSwitch (.lnk p)).setPort p.val { x with phase := 2 }

/-- Phase 2 ends (R358). -/
def State.sidebandReady (s : State) (p : Nat) (ok : Bool) : State :=
  let x := s.port p
  if x.phase ≠ 2 then s
  else if ok then s.setPort p { x with phase := 3 }
  else s.failAttempt p 2

/-- The attempt limit passes before phase 6 ends (R358). [DESIGN CHOICE, log entry 52] -/
def State.attemptLate (s : State) (p : Nat) : State :=
  let x := s.port p
  if x.phase = 0 then s else (s.elapseTo (x.attemptAt + s.n 0x7006 0 * 1000000)).failAttempt p 8

/-- The next attempt is due, 100 µs after the failed one (R363). -/
def State.attemptAgain (s : State) (p : Nat) : State :=
  let x := s.port p
  match x.retryAt with
  | some t => (s.elapseTo t).startAttempt p (x.attempt + 1)
  | none => s

/-! ### Faults of a port (R357, R370, R386, R388) -/

/-- Every outstanding flit is replayed (R370). -/
def State.replayAll (s : State) (p : Nat) : State :=
  if (s.port p).linked then s.replayFrom p (s.port p).held else s

/-- A lane fails, or the neighbour retrains or resets the link: the port retrains (Table 9.17). -/
def State.linkLost (s : State) (p : Nat) : State := if (s.port p).trained then s.portLeave p else s

/-- A low-power link state is refused on the sideband (R357). -/
def State.lowPower (s : State) (p : Nat) : State := if (s.port p).st = 0 then s else (s.emit (.sideband p 2 0 0)).setCause 5 8

/-- What the home still owes before QUIESCE: answers to the port's agents, and the snoops that take their lines back; a message
that waits for credits has not been sent. [DEDUCED, log entry 46] -/
def State.owesAnswers (s : State) (p : Nat) : Bool :=
  (s.coh.txn.any fun e => e.2.req.isSome && decide (e.2.port = p)) || (s.coh.waiting.any fun w => decide (w.port = p)) ||
    (s.coh.filter.any fun e : Nat × FilterEntry => e.2.holders.any fun h => decide (portOfSid h = p) && !(s.snooping e.1 h)) ||
    !(s.port p).txq.isEmpty

/-- QUIESCE leaves once the answers have (R388, R443). -/
def State.sendQuiesce (s : State) (p : Nat) : State :=
  let x := s.port p
  if x.st ≠ 7 ∨ x.quiesceAt.isSome ∨ s.owesAnswers p then s
  else sendCtrl p 4 0 0 (s.setPort p { x with quiesceAt := some s.now })

/-! ### PPS_OUT (R479) -/

/-- PPS_OUT rises in the tick of its rise point. -/
def State.ppsOutRise (s : State) : State :=
  match s.time.outNext with
  | some w => if s.time.ptRun then (s.elapseToPt (s.risePoint w)).ppsRise else s
  | none => s

/-- PPS_OUT falls when its width has passed. -/
def State.ppsOutFall (s : State) : State :=
  if s.time.outHigh then
    let s := s.elapseToTick s.time.outFall
    { s with time := { s.time with outHigh := false } }
  else s

/-! ### The trigger sequencer's own ticks (R602, R608, R612) -/

/-- Tick A has come (R608). -/
def State.armTick (s : State) : State :=
  if s.trig.st = 1 ∧ s.releases then (s.elapseToTick s.trig.armAt).armStart s.trig.armAt else s

/-- Tick D has come (R612). -/
def State.disarmTick (s : State) : State :=
  if s.trig.disarming then (s.elapseToTick s.trig.disarmAt).disarmNow else s

/-- The next tick in which a running timer expires, behind the last release tick and behind the expiry last brought. -/
def State.nextExpiry (s : State) (j : Nat) : Nat :=
  let t := s.timer j
  let n := s.n 0x4018 (j + 1)
  let k0 := max t.start (max (s.time.lastRelease.getD 0) (t.seen.getD 0))
  t.start + ((k0 - t.start) / n + 1) * n

/-- A timer reaches its limit: TFj in that tick, and the expiry is counted (R602, R603). The tick's evaluation stops a ONESHOT
timer and does not count the expiry again. [DEDUCED, log entry 66] -/
def State.timerExpiry (s : State) (j : Nat) : State :=
  let t := s.timer j
  let n := s.n 0x4018 (j + 1)
  let e := s.nextExpiry j
  if !t.running ∨ n = 0 ∨ (s.trig.st ≠ 2 ∧ s.trig.st ≠ 4) ∨ (!bit (s.z 0x4019 (j + 1)) 1 ∧ e ≠ t.start + n) then s
  else
    let s := s.elapseToTick e
    State.bump { s with trig := { s.trig with
      timer := mset s.trig.timer j { t with elapsed := e - t.start, seen := some e }
      flags := s.trig.flags ||| 2 ^ (8 + j) } } 0xF070 7 1

/-! ### Storage (R628, R636) -/

/-- The idle close time of a window runs out (R636). -/
def State.idleClose (s : State) (w : Nat) : State :=
  let n := s.n (0x5010 + w) 6
  if (s.win w).open_ ∧ s.winLive w ∧ n ≠ 0 then
    (s.elapseToTick ((s.win w).lastRec + n)).idleCloseAt ((s.win w).lastRec + n) w
  else s

/-- A SNAPSHOT window's last release tick has been stored (R628). [DEDUCED, log entry 67] -/
def State.windowFreeze (s : State) (w : Nat) : State :=
  match (s.win w).freezeAt, s.time.lastRelease with
  | some f, some r => if f ≤ r then s.freezeDue r w else s
  | _, _ => s

/-- A commit's freeze tick T − 64 wakes a bank that it makes On (R673). -/
def State.retentionWake (s : State) (b : Nat) : State :=
  if s.commit.state = 3 then (s.elapseToTick (s.commit.boundary - 64)).wakeBank b else s

/-! ### Jobs (R442, R714) -/

/-- The next job starts; its descriptor, taken from the descriptor cache, meets the cache's protection: a corrected error is
counted, an uncorrectable one discards the line, and the job ends as ERR_GONE does (R442). -/
def State.jobBegin (s : State) (ev : LaneEvent) : State :=
  let s := if ev.corrected = 0 then s else s.bump 0xF048 13 ev.corrected
  match (if ev.bad && s.engineOn && s.b 0x5801 2 then s.jobCounts.find? fun c => (s.job c).st == 2 else none) with
  | some c =>
    let line := s.z 0x5801 1 + 64 * (c % 16)
    ((s.dropDesc line).cohEvent 0 5 line 0).endJob c ⟨7, 2, 0, 0, []⟩
  | none => s.startJob

/-! ### Inputs of the pins (R81, R284) -/

/-- An edge of PPS_IN is captured in this tick, or, where it violates setup or hold, in this tick or the next (R81); a time write
whose commit applies in the tick of the edge comes first (R472, R483). [DEDUCED, log entry 61] -/
def State.ppsPinEdge (s : State) (rising violates : Bool) : State :=
  let s := if violates then (s.elapse (s.freeVal % 2)).drawn else s
  ((s.applyAt s.time.tick).ppsEdge rising).tapsFollow

/-- The codes of Table 6.7 that name an instruction other than BYPASS. -/
def tapCode (c : Nat) : Bool := c = 0 || c = 1 || c = 2 || c = 4 || c = 5 || c = 0x10

/-- BYPASS, or a code that Table 6.7 gives no other instruction (R284). -/
def State.tapBypass (s : State) (c : Nat) : State := if tapCode c then s.tapLoad c else s.bypassScan c

/-- IJTAG_ACCESS is loaded; a scan with CMD 0 captures the network and writes the segment insertion bit (R285). -/
def State.ijtag (s : State) (sib : Bool) : State :=
  let s := (s.tapLoad 0x10).jtagCapture
  { s with acc := { s.acc with sib := sib } }

/-- CMD 2, and CMD 3 with ADDR 2: what the next capture shows (R285). -/
def State.jtagSelect (s : State) (k : Nat) : State := { s with acc := { s.acc with jtagSel := k } }

/-! ### Security (R696, R790, R804) -/

/-- The vault wipe begins (R696). [DEDUCED, log entry 41] -/
def State.vaultWipe (s : State) : State := if s.sec.vaultState = 0 then s else s.startWipe

/-- The back-off of a path ends (R790). -/
def State.backoffOver (s : State) (p : Nat) : State := s.elapseTo (s.path p).backoffEnd

/-- The entropy source fails a health test (R804). -/
def State.entropyFails (s : State) : State :=
  if s.up then State.bump { s with sec := { s.sec with entropyOk := false } } 0xF098 9 1 else s

/-- The entropy source passes a health test (R804). [DEDUCED, log entry 42] -/
def State.entropyPasses (s : State) : State :=
  if s.up then { s with sec := { s.sec with entropyOk := true } } else s

/-! ### Operands of the rows that write an object -/

/-- The octets of an operand in the width of the object's type (Table 5.2). [DESIGN CHOICE, log entry 11] -/
def operand (idx sub n : Nat) : Octets :=
  match findRow idx sub with
  | some r => leBytes (tyLen r.ty) n
  | none => leBytes 4 n

/-! ### The end of a command -/

/-- What every command has in common at its end: ALERT_N and the ALERT frames follow the tree (R264, R340), and the queue of
the commands that wait is as the command found it. [DESIGN CHOICE, log entry 2] -/
def State.ends (s t : State) : Host.Outcome State Fault Refusal := .next { t.alertSync with pending := s.pending }

/-- A command writes a number to an object, without a type octet. -/
def State.writeNum (s : State) (w : Who) (idx sub n : Nat) : State := s.writeBy w idx sub (operand idx sub n) none

end Sys2Proof.Machine
end

