-- ==== Sys2Proof/Machine/ExecAlerts.lean ====
section
/-! DEFINITION. Sys2Proof/Machine/ExecAlerts.lean: the meanings of the rows about the alert tree. -/
namespace Sys2Proof.Machine

/-- CAUSE_CLEAR: A write-one-to-clear write to a cause object or a child clears the named bits, except those kept
(R79, R90, R335, R336, R338, R340). -/
def execCauseClear (w : Who) (idx : BitVec 16) (sub : BitVec 8) (v : BitVec 32) (s : State) : Host.Outcome State Fault Refusal :=
  s.ends (s.writeNum w idx.toNat sub.toNat v.toNat)

/-- CLEAR_ALL: A write of 0x434C_5241 to 2123h:0 clears every cause and child bit that is not kept (R335, R337, R338). -/
def execClearAll (w : Who) (v : BitVec 32) (s : State) : Host.Outcome State Fault Refusal :=
  s.ends (s.writeNum w 0x2123 0 v.toNat)

/-- PIN_TEST: A write to 2122h:2 drives ALERT_N low, or releases it, without setting any cause (R340). -/
def execPinTest (w : Who) (v : BitVec 8) (s : State) : Host.Outcome State Fault Refusal :=
  s.ends (s.writeNum w 0x2122 2 v.toNat)

end Sys2Proof.Machine
end

