-- ==== Sys2Proof/Machine/ExecBelay.lean ====
section
/-! DEFINITION. Sys2Proof/Machine/ExecBelay.lean: the meanings of the rows about the Belay engine. -/
namespace Sys2Proof.Machine

/-- SERVO_FRAME: A servo frame latches inputs, computes the scheduled loops and applies the previous outputs and
flags (R27, R492, R493, R494, R495, R502, R503, R504, R505, R506, R507, R508, R509, R511, R513, R514, R515, R520,
R521, R522, R753). -/
def execServoFrame (x : ServoInputs) (s : State) : Host.Outcome State Fault Refusal :=
  s.ends ((s.servoFrame x).pairFollow)

/-- MISSED_DEADLINE: A loop computation is not complete by SRV cycle 399, so its output holds and MISS is set (R498,
R500, R510). -/
def execMissedDeadline (loop : Fin 32) (s : State) : Host.Outcome State Fault Refusal :=
  s.ends ((s.missedDeadline loop.val).pairFollow)

/-- FOLLOWING_ERROR_EXPIRY: The following-error timer expires, and the loop leaves lock per FEACT (R506, R510). -/
def execFollowingErrorExpiry (loop : Fin 32) (s : State) : Host.Outcome State Fault Refusal :=
  s.ends ((s.feExpiry loop.val).pairFollow)

/-- LOCK_LIMIT_EXPIRY: The boot lock limit expires, so unlocked loops get NOLOCK and step 13 ends (R515, R753). -/
def execLockLimitExpiry (s : State) : Host.Outcome State Fault Refusal := s.ends (s.lockLimit.pairFollow)

/-- RESUME: A write to 620Bh re-enables HELD loops bumplessly (R510, R511). -/
def execResume (w : Who) (v : BitVec 32) (s : State) : Host.Outcome State Fault Refusal :=
  s.ends (s.writeNum w 0x620B 0 v.toNat)

/-- SWEEP_START: A write to 6250h:1 starts a recalibration sweep of a disabled loop (R513). -/
def execSweepStart (w : Who) (v : BitVec 8) (s : State) : Host.Outcome State Fault Refusal :=
  s.ends (s.writeNum w 0x6250 1 v.toNat)

end Sys2Proof.Machine
end

