-- ==== Sys2Proof/Machine/ExecBoot.lean ====
section
/-! DEFINITION. Sys2Proof/Machine/ExecBoot.lean: the meanings of the rows about the boot sequence and image saves. -/
namespace Sys2Proof.Machine

/-- AON_START: Boot step 1 ends 64 AON cycles after reset release, with the RC oscillator trimmed (R111, R162). -/
def execAonStart (s : State) : Host.Outcome State Fault Refusal := s.ends (s.aonStart)

/-- FUSE_LOAD: The fuse load and column repair of step 4 complete, or the boot halts after three failed loads (R162,
R166, R678, R780, R783, R806, R809). -/
def execFuseLoad (checkOk : Bool) (k3Ok : Bool) (s : State) : Host.Outcome State Fault Refusal :=
  s.ends (s.fuseLoad checkOk k3Ok)

/-- BANK_BIST: Boot step 5 completes the BIST or zeroing of the banks and applies soft repairs (R162, R165, R679,
R680, R681, R682, R683). -/
def execBankBist (findings : List BistFinding) (s : State) : Host.Outcome State Fault Refusal :=
  s.ends (s.bistAll findings)

/-- VAULT_INITIALISATION: Boot step 6 reads and tags the vault bank, wiping it when required (R162, R696, R783, R786). -/
def execVaultInitialisation (uncorrectable : Bool) (s : State) : Host.Outcome State Fault Refusal :=
  s.ends (s.vaultStep uncorrectable)

/-- IMAGE_SELECTION: Step 7 reads both slot headers, orders the candidates and applies the newest valid slot, or
defaults (R162, R168, R169, R170, R171, R173, R176, R177, R178, R179, R180, R182, R183, R199, R202, R211, R222, R226,
R234, R295, R323, R342, R353, R474, R589, R661, R698, R736). -/
def execImageSelection (flash : FlashInfo) (s : State) : Host.Outcome State Fault Refusal :=
  s.ends (s.selectImage flash)

/-- FLASH_BUSY_TIMEOUT: The flash stays busy beyond 3 s, so the save fails or the boot proceeds on defaults with BOOT
cause FLASH (R183, R186, R200). -/
def execFlashBusyTimeout (s : State) : Host.Outcome State Fault Refusal := s.ends (s.flashBusy)

/-- HELLO: A HELLO camp message from the partner is received and used for role resolution (R49, R188, R193, R738,
R743, R744, R745, R746, R776). -/
def execHello (h : HelloMsg) (s : State) : Host.Outcome State Fault Refusal := s.ends ((s.hello h).pairFollow)

/-- ROLE_WAIT_EXPIRY: The wait W expires without a HELLO, and the role is resolved from ROLE_SEL and the phase
reference net (R49, R188, R193, R738, R743). -/
def execRoleWaitExpiry (refEdges : Bool) (allLos : Bool) (s : State) : Host.Outcome State Fault Refusal :=
  s.ends ((s.roleWaitOver refEdges allLos).pairFollow)

/-- REFCLK_LEAD_TIME_EXPIRY: The REFCLK lead time of 2012h elapses and boot step 10 begins (R188, R189, R202). -/
def execRefclkLeadTimeExpiry (s : State) : Host.Outcome State Fault Refusal := s.ends (s.refclkLead)

/-- PRST_N_OUT_RELEASE: A PRST_N_OUT line's release delay elapses, and the line is released at the next REF rising
edge (R34, R78, R189, R202). -/
def execPrstNOutRelease (line : Fin 8) (s : State) : Host.Outcome State Fault Refusal :=
  s.ends (s.releaseLine line.val)

/-- LINK_START_DELAY_EXPIRY: The link start delay elapses after the last release, and link training at step 11 begins
(R191, R358, R391). -/
def execLinkStartDelayExpiry (s : State) : Host.Outcome State Fault Refusal := s.ends (s.linkStart.settle)

/-- TIME_BASE_START: Step 12 starts package time at zero, applies any held time write, sends T_SET and starts slice
release (R452, R465, R472, R478, R490, R550, R589, R622, R661). -/
def execTimeBaseStart (s : State) : Host.Outcome State Fault Refusal := s.ends (s.timeStep.settle)

/-- WARM_RESET_REQUEST: A write of 0x5752_5354 to 2017h:0 requests a warm reset (R161). -/
def execWarmResetRequest (w : Who) (v : BitVec 32) (s : State) : Host.Outcome State Fault Refusal :=
  s.ends (s.writeNum w 0x2017 0 v.toNat)

/-- WARM_RESET: The warm reset takes effect at the first tick boundary after the response has left the device (R41,
R47, R52, R153, R155, R156, R157, R159, R161, R249, R329, R352, R764, R767, R778). -/
def execWarmReset (s : State) : Host.Outcome State Fault Refusal := s.ends (s.warmReset)

/-- SAVE_REQUEST: Writing true to 201Ch:1 snapshots the committed set and starts an image save into the target slot
(R184, R185, R187, R474, R810). -/
def execSaveRequest (w : Who) (v : BitVec 8) (s : State) : Host.Outcome State Fault Refusal :=
  s.ends (s.writeNum w 0x201C 1 v.toNat)

/-- SAVE_FLASH_COMMAND_DONE: An erase, program or read-back of the save completes, and the save moves to its next
phase, DONE or FAILED (R184, R186, R200). -/
def execSaveFlashCommandDone (ok : Bool) (s : State) : Host.Outcome State Fault Refusal := s.ends (s.saveNext ok)

end Sys2Proof.Machine
end

