-- ==== Sys2Proof/Machine/ExecClocks.lean ====
section
/-! DEFINITION. Sys2Proof/Machine/ExecClocks.lean: the meanings of the rows about clock domains. -/
namespace Sys2Proof.Machine

/-- XO_QUAL_WINDOW_END: A 1,024-AON-cycle qualification window ends, its count is judged, and XO qualifies after four
consecutive passes (R112, R114, R162). -/
def execXoQualWindowEnd (count : Nat) (s : State) : Host.Outcome State Fault Refusal := s.ends (s.qualWindow count)

/-- XO_QUAL_TIMEOUT: XO is not qualified within 20 ms, so CLK cause QUAL is set and the windows continue (R113). -/
def execXoQualTimeout (s : State) : Host.Outcome State Fault Refusal := s.ends (s.qualTimeout)

/-- PLL_LOCK: The PLLs lock at boot step 3, and the boot sequencer switches the domain roots to them in order (R109,
R114, R158, R162, R203, R747). -/
def execPllLock (pll : Pll) (s : State) : Host.Outcome State Fault Refusal := s.ends (s.pllLockedAgain pll)

/-- BOOT_PLL_LOCK_TIMEOUT: A PLL does not lock within 1 ms at step 3, so CLK cause LOCK is set and step 3 restarts
(R167). -/
def execBootPllLockTimeout (s : State) : Host.Outcome State Fault Refusal := s.ends (s.bootLockLate)

/-- ROOT_SELECT: A write to 2203h requests a normal glitch-free switch of a domain root (R115, R116). -/
def execRootSelect (w : Who) (sub : BitVec 8) (src : BitVec 8) (s : State) : Host.Outcome State Fault Refusal :=
  s.ends (s.writeNum w 0x2203 sub.toNat src.toNat)

/-- NORMAL_SWITCH_COMPLETE: A normal root switch completes at the new clock's falling edge, and SWITCHING clears
(R114, R115). -/
def execNormalSwitchComplete (d : Domain) (s : State) : Host.Outcome State Fault Refusal :=
  s.ends ((s.normalDone d).settle)

/-- STALL_DECLARED: A clock monitor sees 96 edgeless AON cycles, declares a stall and sets STALLED and CLK cause
STALL (R42, R79, R116, R117, R145, R146, R147, R293, R328, R333, R454, R764). -/
def execStallDeclared (d : Domain) (s : State) : Host.Outcome State Fault Refusal := s.ends ((s.stall d).settle)

/-- ROOT_EDGE_AFTER_STALL: A root that was declared stalled produces an edge again, and its STALLED bit clears (R117). -/
def execRootEdgeAfterStall (d : Domain) (s : State) : Host.Outcome State Fault Refusal := s.ends (s.stallEnd d)

/-- AON_CLOCK_FAULT: The REF-clocked monitor finds the AON root stopped or off frequency, sets AONF and asserts POR
when the root has stopped (R118). -/
def execAonClockFault (stopped : Bool) (s : State) : Host.Outcome State Fault Refusal := s.ends (s.aonFault stopped)

/-- FORCED_SWITCH: A write to 2204h starts a forced switch of a domain to a given source (R140, R143, R154, R293,
R453, R658, R764). -/
def execForcedSwitch (w : Who) (v : BitVec 16) (s : State) : Host.Outcome State Fault Refusal :=
  s.ends (s.writeNum w 0x2204 0 v.toNat)

/-- FORCED_SWITCH_COMPLETE: The forced switch releases the domain reset, clears FORCING and sets CLK cause FORCE, and
the domain loses the state of Table 3.12 (R46, R130, R143, R146, R147, R149, R150, R158, R248, R294, R328, R329,
R341, R387, R392, R446, R453, R489, R524, R549, R550, R588, R620, R625, R648, R662, R673, R694, R697, R735, R737). -/
def execForcedSwitchComplete (d : Domain) (s : State) : Host.Outcome State Fault Refusal :=
  s.ends ((s.forcedDone d).settle)

/-- FORCED_SWITCH_LOCK_TIMEOUT: The new PLL does not lock within 1 ms of a forced switch, so LOCK is set and the
domain stays in reset (R144). -/
def execForcedSwitchLockTimeout (d : Domain) (s : State) : Host.Outcome State Fault Refusal := s.ends (s.forcedLate d)

/-- PLL_LOSS_OF_LOCK: A PLL loses lock, so CLK cause LOCK is set and the per-PLL consequences apply (R142, R148,
R455, R487, R566, R585). -/
def execPllLossOfLock (pll : Pll) (s : State) : Host.Outcome State Fault Refusal := s.ends ((s.pllUnlocked pll).settle)

/-- PLL_RELOCK: A PLL regains lock; LOCKED sets again, and poisoning or non-traceability that depended on it ends
(R109, R148, R151, R455, R585, R746). -/
def execPllRelock (pll : Pll) (s : State) : Host.Outcome State Fault Refusal := s.ends ((s.pllLockedAgain pll).settle)

/-- DVFS_EVALUATION: Every 100 µs the DVFS sequencer re-evaluates demand and selects a target operating point (R126,
R128, R129). -/
def execDvfsEvaluation (s : State) : Host.Outcome State Fault Refusal := s.ends (s.dvfsEvaluate)

/-- DVFS_TRANSITION_PHASE_DONE: A voltage ramp, the settle time or a frequency glide of a DVFS transition ends, and
the next phase begins (R61, R125, R126, R127). -/
def execDvfsTransitionPhaseDone (s : State) : Host.Outcome State Fault Refusal := s.ends (s.dvfsPhaseDone)

/-- METER_START: Writing true to 2206h:4 starts a frequency meter window (R131, R133). -/
def execMeterStart (w : Who) (v : BitVec 8) (s : State) : Host.Outcome State Fault Refusal :=
  s.ends (s.writeNum w 0x2206 4 v.toNat)

/-- METER_WINDOW_END: The meter window of N reference cycles ends, and the count, frequency and DONE state are stored
(R131, R132). -/
def execMeterWindowEnd (count : Nat) (s : State) : Host.Outcome State Fault Refusal := s.ends (s.meterEnd count)

/-- CLKMON_CHANGE: A change of CLKMON_OUT source, divider or enable drives the pin low and restarts it after the AON
waits (R134, R135). -/
def execClkmonChange (w : Who) (sub : BitVec 8) (v : BitVec 16) (s : State) : Host.Outcome State Fault Refusal :=
  s.ends (s.writeNum w 0x2207 sub.toNat v.toNat)

end Sys2Proof.Machine
end

