-- ==== Sys2Proof/Machine/ExecCoherence.lean ====
section
/-! DEFINITION. Sys2Proof/Machine/ExecCoherence.lean: the meanings of the rows about Olelle coherence. -/
namespace Sys2Proof.Machine

/-- RD_U32: An uncached 4-octet read request is decided by the home and answered with DATA_UC (R396, R406). -/
def execRdU32 (p : Fin 6) (m : CohMsg) (s : State) : Host.Outcome State Fault Refusal :=
  s.ends (s.cohIn p.val 0 0x01 m)

/-- RD_U64: An uncached 8-octet read request is decided by the home and answered with DATA_UC (R406). -/
def execRdU64 (p : Fin 6) (m : CohMsg) (s : State) : Host.Outcome State Fault Refusal :=
  s.ends (s.cohIn p.val 0 0x02 m)

/-- RD_ULINE: An uncached line read request is decided by the home and answered with DATA_UC (R396, R401, R406, R408,
R667, R670, R676, R680, R685, R686). -/
def execRdUline (p : Fin 6) (m : CohMsg) (s : State) : Host.Outcome State Fault Refusal :=
  s.ends (s.cohIn p.val 0 0x03 m)

/-- WR_U32: An uncached 4-octet write is decided, performed and answered with WR_ACK or an error (R396, R406, R408,
R669). -/
def execWrU32 (p : Fin 6) (m : CohMsg) (s : State) : Host.Outcome State Fault Refusal :=
  s.ends (s.cohIn p.val 0 0x04 m)

/-- WR_U64: An uncached 8-octet write is decided, performed and answered with WR_ACK or an error (R406, R408). -/
def execWrU64 (p : Fin 6) (m : CohMsg) (s : State) : Host.Outcome State Fault Refusal :=
  s.ends (s.cohIn p.val 0 0x05 m)

/-- WR_ULINE: An uncached line write is decided, performed and answered with WR_ACK or an error (R401, R406, R408,
R423, R669, R676). -/
def execWrUline (p : Fin 6) (m : CohMsg) (s : State) : Host.Outcome State Fault Refusal :=
  s.ends (s.cohIn p.val 0 0x06 m)

/-- RD_S: A shared read request is decided from the directory, with snoops where needed, and answered with data
(R404, R406, R408, R415, R416, R417, R423, R433, R435, R439, R670). -/
def execRdS (p : Fin 6) (m : CohMsg) (s : State) : Host.Outcome State Fault Refusal := s.ends (s.cohIn p.val 0 0x08 m)

/-- RD_OWN: An ownership read request invalidates the other holders and is answered with DATA_E (R406, R408, R415,
R417, R423, R434). -/
def execRdOwn (p : Fin 6) (m : CohMsg) (s : State) : Host.Outcome State Fault Refusal :=
  s.ends (s.cohIn p.val 0 0x09 m)

/-- UPGRADE: An UPGRADE from S invalidates the other sharers and is answered with GNT_E or DATA_E (R406, R407, R408,
R423). -/
def execUpgrade (p : Fin 6) (m : CohMsg) (s : State) : Host.Outcome State Fault Refusal :=
  s.ends (s.cohIn p.val 0 0x0A m)

/-- SNP_INV: An invalidating snoop to the device caching agent is answered per Table 10.5 (R409). -/
def execSnpInv (p : Fin 6) (m : CohMsg) (s : State) : Host.Outcome State Fault Refusal :=
  s.ends (s.cohIn p.val 1 0x01 m)

/-- SNP_SHR: A sharing snoop to the device caching agent is answered per Table 10.5 (R409). -/
def execSnpShr (p : Fin 6) (m : CohMsg) (s : State) : Host.Outcome State Fault Refusal :=
  s.ends (s.cohIn p.val 1 0x02 m)

/-- RSP_I: A snoop answer showing no copy is applied to the directory (R406, R416, R420, R425, R439). -/
def execRspI (p : Fin 6) (m : CohMsg) (s : State) : Host.Outcome State Fault Refusal := s.ends (s.cohIn p.val 2 0x04 m)

/-- RSP_S: A snoop answer showing a shared copy is applied to the directory (R406). -/
def execRspS (p : Fin 6) (m : CohMsg) (s : State) : Host.Outcome State Fault Refusal := s.ends (s.cohIn p.val 2 0x05 m)

/-- RSP_GONE_C: A snoop answer crossing a clean eviction lets the home proceed as for RSP_I (R411, R435). -/
def execRspGoneC (p : Fin 6) (m : CohMsg) (s : State) : Host.Outcome State Fault Refusal :=
  s.ends (s.cohIn p.val 2 0x06 m)

/-- RSP_GONE_D: A snoop answer crossing a dirty eviction makes the home hold for the matching WB_D (R412, R435). -/
def execRspGoneD (p : Fin 6) (m : CohMsg) (s : State) : Host.Outcome State Fault Refusal :=
  s.ends (s.cohIn p.val 2 0x07 m)

/-- WR_ACK: A write acknowledgement completes a request of the device caching agent to its unit (R428, R647). -/
def execWrAck (p : Fin 6) (m : CohMsg) (s : State) : Host.Outcome State Fault Refusal :=
  s.ends (s.cohIn p.val 2 0x01 m)

/-- GNT_E: A grant of E answers the device caching agent's UPGRADE (R407). -/
def execGntE (p : Fin 6) (m : CohMsg) (s : State) : Host.Outcome State Fault Refusal := s.ends (s.cohIn p.val 2 0x02 m)

/-- WB_ACK: A writeback acknowledgement from a foreign home completes the device's eviction (R410). -/
def execWbAck (p : Fin 6) (m : CohMsg) (s : State) : Host.Outcome State Fault Refusal :=
  s.ends (s.cohIn p.val 2 0x03 m)

/-- ERR_ADDR: An address error answer completes a device request to its unit with an error (R427, R655, R729). -/
def execErrAddr (p : Fin 6) (m : CohMsg) (s : State) : Host.Outcome State Fault Refusal :=
  s.ends (s.cohIn p.val 2 0x1C m)

/-- ERR_TYPE: A type error answer completes a device request to its unit with an error (R408). -/
def execErrType (p : Fin 6) (m : CohMsg) (s : State) : Host.Outcome State Fault Refusal :=
  s.ends (s.cohIn p.val 2 0x1D m)

/-- ERR_GONE: A gone error answer completes a device request to its unit with an error (R429, R655, R729). -/
def execErrGone (p : Fin 6) (m : CohMsg) (s : State) : Host.Outcome State Fault Refusal :=
  s.ends (s.cohIn p.val 2 0x1F m)

/-- DATA_UC: Uncached data answers a read of the device caching agent (R398, R401, R655). -/
def execDataUc (p : Fin 6) (m : CohMsg) (s : State) : Host.Outcome State Fault Refusal :=
  s.ends (s.cohIn p.val 3 0x01 m)

/-- DATA_S: Shared data is granted to the device caching agent (R400). -/
def execDataS (p : Fin 6) (m : CohMsg) (s : State) : Host.Outcome State Fault Refusal :=
  s.ends (s.cohIn p.val 3 0x02 m)

/-- DATA_E: Exclusive data is granted to the device caching agent (R400, R407). -/
def execDataE (p : Fin 6) (m : CohMsg) (s : State) : Host.Outcome State Fault Refusal :=
  s.ends (s.cohIn p.val 3 0x03 m)

/-- DATA_I: Data valid for one access reaches the device caching agent, which does not cache it (R400). -/
def execDataI (p : Fin 6) (m : CohMsg) (s : State) : Host.Outcome State Fault Refusal :=
  s.ends (s.cohIn p.val 3 0x04 m)

/-- SDATA_I: Snoop data with invalidation is applied by the capture home and written to memory (R406, R420, R434). -/
def execSdataI (p : Fin 6) (m : CohMsg) (s : State) : Host.Outcome State Fault Refusal :=
  s.ends (s.cohIn p.val 3 0x05 m)

/-- SDATA_S: Snoop data with a shared copy kept is applied by the capture home and written to memory (R406). -/
def execSdataS (p : Fin 6) (m : CohMsg) (s : State) : Host.Outcome State Fault Refusal :=
  s.ends (s.cohIn p.val 3 0x06 m)

/-- EVICT_C: A clean eviction updates the directory and is answered with WB_ACK (R410, R411, R443). -/
def execEvictC (p : Fin 6) (m : CohMsg) (s : State) : Host.Outcome State Fault Refusal :=
  s.ends (s.cohIn p.val 4 0x01 m)

/-- WB_D: A dirty writeback is written to memory, matched to a pending hold and answered with WB_ACK (R410, R412,
R413, R416, R434, R435, R443). -/
def execWbD (p : Fin 6) (m : CohMsg) (s : State) : Host.Outcome State Fault Refusal := s.ends (s.cohIn p.val 4 0x02 m)

/-- WAITING_REQUEST_DECIDED: A request waiting in a Transient line is decided once the transaction before it
completes (R404). -/
def execWaitingRequestDecided (line : BitVec 64) (s : State) : Host.Outcome State Fault Refusal :=
  s.ends ((s.decideWaiting line.toNat).settle)

/-- SNOOP_ANSWER_TIMEOUT: A snoop answer is not visible within the limit, so TIMEOUT is set and the silent port
leaves service (R440, R441, R444). -/
def execSnoopAnswerTimeout (line : BitVec 64) (sid : BitVec 8) (s : State) : Host.Outcome State Fault Refusal :=
  s.ends (s.snoopLate line.toNat sid.toNat)

/-- CROSSED_WRITEBACK_TIMEOUT: The crossed WB_D after RSP_GONE_D does not arrive within the limit, so TIMEOUT is set
and the port leaves service (R440). -/
def execCrossedWritebackTimeout (line : BitVec 64) (sid : BitVec 8) (s : State) : Host.Outcome State Fault Refusal :=
  s.ends (s.crossedLate line.toNat sid.toNat)

/-- DEVICE_REQUEST_TIMEOUT: A device caching agent request expires; the unit receives ERR_GONE and DCACHE is set
(R429, R441, R655, R729). -/
def execDeviceRequestTimeout (tag : BitVec 16) (s : State) : Host.Outcome State Fault Refusal :=
  s.ends ((s.devExpire tag.toNat).settle)

/-- FILTER_QUERY: A write to 7805h:1 names a capture line whose filter entry 7805h:2 reports (R436). -/
def execFilterQuery (w : Who) (v : BitVec 64) (s : State) : Host.Outcome State Fault Refusal :=
  s.ends (s.writeNum w 0x7805 1 v.toNat)

/-- CAPTURE_WRITE: A whole capture line drains from the write buffer into its bank and updates the snoop filter (R21,
R26, R419, R420, R422, R424, R425, R626, R639, R643, R657, R667, R668, R669, R676, R685, R686, R687). -/
def execCaptureWrite (s : State) : Host.Outcome State Fault Refusal := s.ends (s.drainLine.settle)

end Sys2Proof.Machine
end

