-- ==== Sys2Proof/Machine/ExecCommit.lean ====
section
/-! DEFINITION. Sys2Proof/Machine/ExecCommit.lean: the meanings of the rows about staging and commit. -/
namespace Sys2Proof.Machine

/-- STAGED_QUERY: A write to 2001h:1 names the staged entry that 2001h:2 returns on this path (R300). -/
def execStagedQuery (w : Who) (v : BitVec 32) (s : State) : Host.Outcome State Fault Refusal :=
  s.ends (s.writeNum w 0x2001 1 v.toNat)

/-- DISCARD: A write of 0x4452_4F50 to 2002h:0 discards every staged entry (R301, R302, R305). -/
def execDiscard (w : Who) (v : BitVec 32) (s : State) : Host.Outcome State Fault Refusal :=
  s.ends (s.writeNum w 0x2002 0 v.toNat)

/-- COMMIT_REQUEST: A write of 0x434F_4D54 to 2003h:4 freezes the staged set and starts the commit check (R216, R302,
R303, R304, R305, R330). -/
def execCommitRequest (w : Who) (v : BitVec 32) (s : State) : Host.Outcome State Fault Refusal :=
  s.ends (s.writeNum w 0x2003 4 v.toNat)

/-- COMMIT_CHECK_DONE: The checker ends; the commit fails, goes to mirroring, or goes on to the choice of T (R306,
R307, R308, R309, R311, R312, R314, R326, R383, R437, R482, R497, R518, R583, R617, R653, R727, R770). -/
def execCommitCheckDone (s : State) : Host.Outcome State Fault Refusal := s.ends (s.checkDone)

/-- MIRROR_TIMEOUT: No mirror acknowledgement arrives within 1 ms; MIRROR is set and the commit continues without
mirroring (R310, R327). -/
def execMirrorTimeout (s : State) : Host.Outcome State Fault Refusal := s.ends (s.mirrorTimeout.pairFollow)

/-- COMMIT_FIX_TICK: Package time reaches the instant less M, so T is fixed, the state is WAITING and T is sent to
the Second (R312, R313, R318). -/
def execCommitFixTick (s : State) : Host.Outcome State Fault Refusal := s.ends (s.fixTick)

/-- COMMIT_APPLY: At commit boundary tick T the checked set takes effect whole and the staged set is emptied (R23,
R121, R136, R192, R195, R201, R218, R293, R299, R316, R317, R320, R339, R388, R443, R450, R455, R465, R468, R472,
R473, R478, R479, R487, R522, R526, R540, R545, R562, R566, R574, R588, R614, R625, R634, R650, R651, R659, R672,
R674, R733, R734, R754, R793, R802). -/
def execCommitApply (s : State) : Host.Outcome State Fault Refusal := s.ends (s.commitApply.settle)

/-- COMMIT_CANCEL: A write of 0x434E_434C to 2003h:5 cancels the commit when it is visible in TICK by the freeze tick
(R322). -/
def execCommitCancel (w : Who) (v : BitVec 32) (s : State) : Host.Outcome State Fault Refusal :=
  s.ends (s.writeNum w 0x2003 5 v.toNat)

end Sys2Proof.Machine
end

