-- ==== Sys2Proof/Machine/ExecCompression.lean ====
section
/-! DEFINITION. Sys2Proof/Machine/ExecCompression.lean: the meanings of the rows about the compression engine. -/
namespace Sys2Proof.Machine

/-- JOB_TAIL_WRITE: A write to 5802h:1 submits pending jobs (R713, R760). -/
def execJobTailWrite (w : Who) (v : BitVec 8) (s : State) : Host.Outcome State Fault Refusal :=
  s.ends (s.writeNum w 0x5802 1 v.toNat)

/-- JOB_START: The next pending job starts on a free lane or the decompressor (R379, R427, R442, R712, R714, R715,
R723). -/
def execJobStart (cache : LaneEvent) (s : State) : Host.Outcome State Fault Refusal :=
  s.ends ((s.jobBegin cache).settle)

/-- JOB_COMPLETE: A job ends with its status, its descriptor is written back and the head advances (R699, R700, R712,
R714, R716, R717, R719, R720, R721, R722, R723, R730, R731, R732). -/
def execJobComplete (slot : Fin 16) (r : JobInput) (s : State) : Host.Outcome State Fault Refusal :=
  s.ends ((s.completeJob slot.val r).settle)

/-- JOB_WATCHDOG_EXPIRY: A host job's watchdog expires, and the job ends WDOG (R723). -/
def execJobWatchdogExpiry (slot : Fin 16) (s : State) : Host.Outcome State Fault Refusal :=
  s.ends ((s.jobWatchdog slot.val).settle)

/-- JOB_FLUSH: A write of 0x464C_5553 to 5802h:4 cancels every pending job that has not started (R726). -/
def execJobFlush (w : Who) (v : BitVec 32) (s : State) : Host.Outcome State Fault Refusal :=
  s.ends (s.writeNum w 0x5802 4 v.toNat)

/-- DEMAND_UPDATE: Every 100 µs the engine sets the per-lane demand 2208h:7 (R724). -/
def execDemandUpdate (s : State) : Host.Outcome State Fault Refusal := s.ends (s.setDemand)

end Sys2Proof.Machine
end

