-- ==== Sys2Proof/Machine/ExecDictionary.lean ====
section
/-! DEFINITION. Sys2Proof/Machine/ExecDictionary.lean: the meanings of the rows about dictionary rows. -/
namespace Sys2Proof.Machine

/-- LOCK_REQUEST: A write of 0x4C4F_434B to 1081h:1 locks every class K object (R220, R221). -/
def execLockRequest (w : Who) (v : BitVec 32) (s : State) : Host.Outcome State Fault Refusal :=
  s.ends (s.writeNum w 0x1081 1 v.toNat)

/-- DESCRIPTOR_QUERY: A write to 1083h:1 names the object whose descriptor 1083h:2 returns on this path (R236). -/
def execDescriptorQuery (w : Who) (v : BitVec 32) (s : State) : Host.Outcome State Fault Refusal :=
  s.ends (s.writeNum w 0x1083 1 v.toNat)

/-- DIAGNOSTIC_CLEAR: A write of 0x4443_4C52 to F0FFh:0 zeroes every diagnostic counter (R240). -/
def execDiagnosticClear (w : Who) (v : BitVec 32) (s : State) : Host.Outcome State Fault Refusal :=
  s.ends (s.writeNum w 0xF0FF 0 v.toNat)

/-- STORE_SCRUB: The 100 ms scrub reads every dictionary store word and compares the alert latch with its MGT copy
(R243, R245, R246, R348, R349, R350). -/
def execStoreScrub (findings : List ScrubFinding) (s : State) : Host.Outcome State Fault Refusal :=
  s.ends (findings.foldl State.scrubFinds s)

/-- DICT_WRITE: A write to an object with no row of its own passes the checks of Table 5.5 and is staged or takes
effect (R8, R139, R196, R205, R207, R211, R212, R215, R216, R217, R219, R220, R223, R224, R225, R226, R232, R234,
R247, R273, R278, R297, R298, R305, R382, R517, R785). -/
def execDictWrite (w : Who) (idx : BitVec 16) (sub : BitVec 8) (o : Octets) (ty : Option (BitVec 8)) (s : State) : Host.Outcome State Fault Refusal :=
  s.ends (s.writeBy w idx.toNat sub.toNat o (ty.map BitVec.toNat))

end Sys2Proof.Machine
end

