-- ==== Sys2Proof/Machine/ExecEop.lean ====
section
/-! DEFINITION. Sys2Proof/Machine/ExecEop.lean: the meanings of the rows about EOP frames. -/
namespace Sys2Proof.Machine

/-- READ: A READ frame is answered with READ_RSP or SEG_READ_START for the value snapshot (R205, R207, R213, R214,
R225, R227, R228, R229, R234, R243, R246, R254, R255, R260, R267, R268, R269, R271, R272, R276, R277, R288, R480,
R581, R785, R805). -/
def execRead (f : Frame) (s : State) : Host.Outcome State Fault Refusal := s.ends (s.takeFrame f)

/-- WRITE: An expedited WRITE frame is served as one access and answered with WRITE_ACK or ABORT (R205, R254, R256,
R260, R268, R271, R277, R288). -/
def execWrite (f : Frame) (s : State) : Host.Outcome State Fault Refusal := s.ends (s.takeFrame f)

/-- SEG_WRITE_START: A segmented write opens after checks 1–7 against its total length and is answered with SEG_ACK
(R256, R259). -/
def execSegWriteStart (f : Frame) (s : State) : Host.Outcome State Fault Refusal := s.ends (s.takeFrame f)

/-- SEG: A segment of a segmented write is checked against its toggle, acknowledged, repeated or ends the transfer
(R259, R260, R262, R268). -/
def execSeg (f : Frame) (s : State) : Host.Outcome State Fault Refusal := s.ends (s.takeFrame f)

/-- SEG_REQ: A SEG_REQ fetches the next or repeated segment of a segmented read (R258, R260, R262). -/
def execSegReq (f : Frame) (s : State) : Host.Outcome State Fault Refusal := s.ends (s.takeFrame f)

/-- ABORT: A host ABORT ends its open transfer without an answer, writing nothing (R261). -/
def execAbort (f : Frame) (s : State) : Host.Outcome State Fault Refusal := s.ends (s.takeFrame f)

/-- TRANSFER_TIMEOUT: The transfer timeout expires; ABORT 0x0501 is sent, or a completed transfer closes silently
(R262, R263). -/
def execTransferTimeout (path : Path) (s : State) : Host.Outcome State Fault Refusal :=
  s.ends (s.xferTimeout (pathNo path))

/-- ALERT_FRAME_SEND: An ALERT frame is sent within 1 ms of a change of the unmasked summary, combining changes
(R264, R265, R266, R272, R344). -/
def execAlertFrameSend (path : Path) (s : State) : Host.Outcome State Fault Refusal :=
  s.ends (s.alertSend (pathNo path))

/-- ALERT_REPEAT_EXPIRY: The alert repeat interval expires while the summary is not zero, and an ALERT frame is sent
(R264). -/
def execAlertRepeatExpiry (path : Path) (s : State) : Host.Outcome State Fault Refusal :=
  s.ends (s.alertRepeat (pathNo path))

/-- ACCEPTANCE_QUEUE_RESET: The acceptance queue's duplicated pointers mismatch, so it is reset and DICT cause QRESET
is set (R269). -/
def execAcceptanceQueueReset (s : State) : Host.Outcome State Fault Refusal := s.ends (s.queueReset)

end Sys2Proof.Machine
end

