-- ==== Sys2Proof/Machine/ExecFieldbus.lean ====
section
/-! DEFINITION. Sys2Proof/Machine/ExecFieldbus.lean: the meanings of the rows about CAN FD and 10BASE-T1S. -/
namespace Sys2Proof.Machine

/-- CAN_BUS_OFF: The CAN controller goes bus-off and DICT cause BUSOFF is set (R290). -/
def execCanBusOff (s : State) : Host.Outcome State Fault Refusal := s.ends (s.busOff)

/-- CAN_BUS_OFF_RECOVERY: After 128 occurrences of 11 recessive bits the controller recovers from bus-off (R290). -/
def execCanBusOffRecovery (s : State) : Host.Outcome State Fault Refusal := s.ends (s.busRecovered)

/-- CAN_BUS_IDLE: The CAN bus becomes idle, so committed bit timing takes effect, a returning or failed-over CAN path
joins the bus and addresses change (R274, R294). -/
def execCanBusIdle (s : State) : Host.Outcome State Fault Refusal := s.ends (s.busIdle)

/-- CAN_ERROR_PASSIVE: A CAN bus error changes TEC or REC and moves the controller into or out of error-passive,
counted in F008h:3 (R270). -/
def execCanErrorPassive (tec : Nat) (rec : Nat) (s : State) : Host.Outcome State Fault Refusal :=
  s.ends (s.canErrors tec rec)

/-- NETWORK_DOWN: The PHY reports link down or PLCA becomes INACTIVE, so DICT cause NETDOWN is set (R291). -/
def execNetworkDown (linkDown : Bool) (s : State) : Host.Outcome State Fault Refusal := s.ends (s.netDown linkDown)

/-- NETWORK_UP: The 10BASE-T1S link returns, and datagrams flow again (R291). -/
def execNetworkUp (s : State) : Host.Outcome State Fault Refusal := s.ends (s.netUp)

/-- ARP_REQUEST: An ARP request for the device's address is answered (R276). -/
def execArpRequest (target : BitVec 32) (sender : BitVec 32) (senderMac : BitVec 48) (s : State) : Host.Outcome State Fault Refusal :=
  s.ends (s.arpRequest target.toNat sender.toNat senderMac.toNat)

/-- ARP_REPLY: An ARP reply resolves a next hop that the device asked for, so answers and alerts through the gateway
can be sent (R276). -/
def execArpReply (ip : BitVec 32) (mac : BitVec 48) (s : State) : Host.Outcome State Fault Refusal :=
  s.ends (s.arpReply ip.toNat mac.toNat)

/-- ICMP_ECHO_REQUEST: An ICMP echo request is answered (R276). -/
def execIcmpEchoRequest (src : BitVec 32) (dst : BitVec 32) (m : EchoMsg) (s : State) : Host.Outcome State Fault Refusal :=
  s.ends (s.icmpEcho src.toNat dst.toNat m.o m.clean)

end Sys2Proof.Machine
end

