-- ==== Sys2Proof/Machine/ExecJtag.lean ====
section
/-! DEFINITION. Sys2Proof/Machine/ExecJtag.lean: the meanings of the rows about the TAP and the JTAG mailbox. -/
namespace Sys2Proof.Machine

/-- EXTEST: The EXTEST instruction selects the boundary register and drives pins while RESET_N is low (R284). -/
def execExtest (scan : Octets) (s : State) : Host.Outcome State Fault Refusal := s.ends (s.boundaryScan 0x00 scan)

/-- IDCODE: The IDCODE instruction selects the 32-bit IDCODE register (R284). -/
def execIdcode (s : State) : Host.Outcome State Fault Refusal := s.ends ((s.tapLoad 0x01).emit (.tdo 0x174105BF 32))

/-- SAMPLE_PRELOAD: The SAMPLE/PRELOAD instruction samples and preloads the boundary register (R284). -/
def execSamplePreload (scan : Octets) (s : State) : Host.Outcome State Fault Refusal :=
  s.ends (s.boundaryScan 0x02 scan)

/-- CLAMP: The CLAMP instruction holds boundary values on the pins with bypass selected, while RESET_N is low (R284). -/
def execClamp (s : State) : Host.Outcome State Fault Refusal := s.ends (s.bypassScan 0x04)

/-- HIGHZ: The HIGHZ instruction places the outputs in high impedance while RESET_N is low (R284). -/
def execHighz (s : State) : Host.Outcome State Fault Refusal := s.ends (s.bypassScan 0x05)

/-- IJTAG_ACCESS: The IJTAG_ACCESS instruction selects the IEEE 1687 network with the mailbox segment (R285). -/
def execIjtagAccess (sib : Bool) (s : State) : Host.Outcome State Fault Refusal := s.ends (s.ijtag sib)

/-- BYPASS: The BYPASS instruction, or any undefined code, selects the 1-bit bypass register (R284). -/
def execBypass (code : BitVec 8) (s : State) : Host.Outcome State Fault Refusal := s.ends (s.tapBypass code.toNat)

/-- TAP_RESET: TRST_N or Test-Logic-Reset resets the TAP, selecting IDCODE and clearing the segment insertion bit
(R295). -/
def execTapReset (s : State) : Host.Outcome State Fault Refusal := s.ends (s.tapReset)

/-- JTAG_WRITE_REQUEST_WORD: Mailbox command 1 at Update-DR writes DATA into request word ADDR (R285). -/
def execJtagWriteRequestWord (addr : BitVec 6) (data : BitVec 32) (s : State) : Host.Outcome State Fault Refusal :=
  s.ends (s.jtagScan fun s => s.jtagWrite addr.toNat data.toNat)

/-- JTAG_SELECT_RESPONSE_WORD: Mailbox command 2 at Update-DR selects response word ADDR for the next capture (R285). -/
def execJtagSelectResponseWord (addr : BitVec 6) (s : State) : Host.Outcome State Fault Refusal :=
  s.ends (s.jtagScan fun s => s.jtagSelect addr.toNat)

/-- JTAG_DOORBELL: The control doorbell submits the JTAG mailbox request with its REQLEN (R285). -/
def execJtagDoorbell (reqlen : BitVec 9) (s : State) : Host.Outcome State Fault Refusal :=
  s.ends (s.jtagScan fun s => s.jtagSubmit reqlen.toNat)

/-- JTAG_RELEASE: The control release closes the JTAG mailbox transfer and session (R286, R791). -/
def execJtagRelease (s : State) : Host.Outcome State Fault Refusal := s.ends (s.jtagScan State.jtagRelease)

/-- JTAG_SELECT_RSPLEN: The control command selects RSPLEN for the next capture (R285). -/
def execJtagSelectRsplen (s : State) : Host.Outcome State Fault Refusal := s.ends (s.jtagScan fun s => s.jtagSelect 64)

end Sys2Proof.Machine
end

