-- ==== Sys2Proof/Machine/ExecLinks.lean ====
section
/-! DEFINITION. Sys2Proof/Machine/ExecLinks.lean: the meanings of the rows about Olelle links. -/
namespace Sys2Proof.Machine

/-- RETRAIN_REQUEST: A write of 0x5254_524E to 7020h starts the training of a port from phase 1 (R358, R382, R760). -/
def execRetrainRequest (w : Who) (p : Fin 6) (v : BitVec 32) (s : State) : Host.Outcome State Fault Refusal :=
  s.ends (s.writeNum w 0x7020 (p.val + 1) v.toNat)

/-- PORT_PLL_LOCKED: Training phase 1 ends with the port PLL locked at the target rate (R358). -/
def execPortPllLocked (p : Fin 6) (ok : Bool) (s : State) : Host.Outcome State Fault Refusal :=
  s.ends ((s.portPllLocked p ok).settle)

/-- SIDEBAND_INITIALISATION_DONE: Training phase 2 ends with UCIe sideband initialisation complete (R358). -/
def execSidebandInitialisationDone (p : Fin 6) (ok : Bool) (s : State) : Host.Outcome State Fault Refusal :=
  s.ends ((s.sidebandReady p.val ok).settle)

/-- MAINBAND_TRAINING_DONE: Training phase 3 ends with the main band trained in streaming Raw format (R356, R358). -/
def execMainbandTrainingDone (p : Fin 6) (r : MainbandResult) (s : State) : Host.Outcome State Fault Refusal :=
  s.ends ((s.mainband p.val r).settle)

/-- OCAP_READ_DONE: The sideband read of OCAP completes, and the device selects the generation (R29, R359, R360). -/
def execOcapReadDone (p : Fin 6) (ocap : BitVec 32) (s : State) : Host.Outcome State Fault Refusal :=
  s.ends ((s.ocapRead p.val ocap.toNat).settle)

/-- OSET_WRITE_DONE: The write of OSET with GO completes, and the main band starts in the selected generation (R361). -/
def execOsetWriteDone (p : Fin 6) (s : State) : Host.Outcome State Fault Refusal := s.ends ((s.osetDone p.val).settle)

/-- CRINIT: The neighbour's CRINIT is received, stating its initial credits (R362, R375). -/
def execCrinit (p : Fin 6) (credits : List Nat) (s : State) : Host.Outcome State Fault Refusal :=
  s.ends ((s.crinit p.val credits).settle)

/-- OSTAT_READY: OSTAT reads READY, so the attempt succeeds and the port waits for admission (R362). -/
def execOstatReady (p : Fin 6) (ostat : BitVec 32) (s : State) : Host.Outcome State Fault Refusal :=
  s.ends ((s.ostat p.val ostat.toNat).settle)

/-- TRAINING_ATTEMPT_TIMEOUT: The attempt limit expires before phase 6 ends, and the attempt fails with TIMEOUT
(R358). -/
def execTrainingAttemptTimeout (p : Fin 6) (s : State) : Host.Outcome State Fault Refusal :=
  s.ends ((s.attemptLate p.val).settle)

/-- SIDEBAND_ACCESS_TIMEOUT: A sideband register access is not completed within 1 ms, so the phase fails and SIDEBAND
is set (R359, R386). -/
def execSidebandAccessTimeout (p : Fin 6) (s : State) : Host.Outcome State Fault Refusal :=
  s.ends ((s.sidebandFail p.val).settle)

/-- TRAINING_RETRY: 100 µs after a failed attempt the next attempt starts, or the port enters FAILED (R363, R386). -/
def execTrainingRetry (p : Fin 6) (s : State) : Host.Outcome State Fault Refusal :=
  s.ends ((s.attemptAgain p.val).settle)

/-- CREDIT_EPOCH_BOUNDARY: At each 16,384-tick boundary the device sends EPOCH on every trained port and admits
waiting ports; a commit that is due at the same tick applies first (Table 9.16) (R203, R294, R376, R380, R389, R445, R447, R456, R488, R523, R740). -/
def execCreditEpochBoundary (dies : List DieInfo) (s : State) : Host.Outcome State Fault Refusal :=
  s.ends ((s.applyBefore.epochBoundary dies).settle)

/-- FLIT_RECEIVE: A flit is received and checked for CRC and sequence, and its acknowledgements and credits are taken
(R367, R368, R369, R370, R371, R373, R374, R375, R385, R386, R387, R397, R439, R486, R596). -/
def execFlitReceive (p : Fin 6) (o : Octets) (s : State) : Host.Outcome State Fault Refusal :=
  s.ends (s.flitReceive p.val o)

/-- REPLAY_TIMEOUT: 1,024 adapter cycles pass without an advance of the acknowledgement, and every outstanding flit
is replayed (R370, R371). -/
def execReplayTimeout (p : Fin 6) (s : State) : Host.Outcome State Fault Refusal := s.ends ((s.replayAll p.val).settle)

/-- ECHO: The neighbour's ECHO is audited against the EPOCH totals, and a mismatch retrains the port (R377, R387). -/
def execEcho (p : Fin 6) (epoch : Nat) (mismatch : Bool) (totals : List Nat) (s : State) : Host.Outcome State Fault Refusal :=
  s.ends ((s.echo p.val epoch mismatch (s.port p.val).creditGot totals).settle)

/-- QUIESCE: After the required responses of a disabled port have been sent, the device sends QUIESCE (R388). -/
def execQuiesce (p : Fin 6) (s : State) : Host.Outcome State Fault Refusal := s.ends ((s.sendQuiesce p.val).settle)

/-- QDONE: QDONE is received, and the device disables the link through the sideband (R388). -/
def execQdone (p : Fin 6) (s : State) : Host.Outcome State Fault Refusal := s.ends ((s.qdone p.val).settle)

/-- QUIESCE_TIMEOUT: No QDONE arrives within 1 ms, so the link is disabled and the agents are removed (R388, R444). -/
def execQuiesceTimeout (p : Fin 6) (s : State) : Host.Outcome State Fault Refusal := s.ends (s.quiesceLate p.val)

/-- LOW_POWER_REQUEST: A neighbour requests a low-power link state, which is refused, and SIDEBAND is set (R357). -/
def execLowPowerRequest (p : Fin 6) (s : State) : Host.Outcome State Fault Refusal := s.ends (s.lowPower p.val)

/-- LANE_FAILURE: A lane fails at runtime, causing a UCIe retrain, lane repair or degradation, and DOWN (R293, R386,
R387, R444, R488, R540). -/
def execLaneFailure (p : Fin 6) (s : State) : Host.Outcome State Fault Refusal := s.ends ((s.linkLost p.val).settle)

/-- NEIGHBOUR_RETRAIN: The neighbour initiates a UCIe retrain or link reset, and the port retrains with DOWN set
(R386, R387). -/
def execNeighbourRetrain (p : Fin 6) (s : State) : Host.Outcome State Fault Refusal :=
  s.ends ((s.linkLost p.val).settle)

end Sys2Proof.Machine
end

