-- ==== Sys2Proof/Machine/ExecMailbox.lean ====
section
/-! DEFINITION. Sys2Proof/Machine/ExecMailbox.lean: the meanings of the rows about the fabric mailbox window. -/
namespace Sys2Proof.Machine

/-- MAILBOX_CLAIM: A non-zero CLAIM write claims an unclaimed fabric mailbox and records OWNER (R280). -/
def execMailboxClaim (p : Fin 6) (sid : BitVec 8) (v : BitVec 32) (s : State) : Host.Outcome State Fault Refusal :=
  s.ends (s.windowCmd p.val sid.toNat 0x08 (leBytes 4 v.toNat))

/-- MAILBOX_RELEASE: A zero CLAIM write by the owner releases the mailbox, closing its transfer and session (R280,
R282, R791). -/
def execMailboxRelease (p : Fin 6) (sid : BitVec 8) (v : BitVec 32) (s : State) : Host.Outcome State Fault Refusal :=
  s.ends (s.windowCmd p.val sid.toNat 0x08 (leBytes 4 v.toNat))

/-- MAILBOX_DOORBELL: A DOORBELL write of 1 by the owner submits the request and sets STATUS to BUSY (R280, R281). -/
def execMailboxDoorbell (p : Fin 6) (sid : BitVec 8) (v : BitVec 32) (s : State) : Host.Outcome State Fault Refusal :=
  s.ends (s.windowCmd p.val sid.toNat 0x10 (leBytes 4 v.toNat))

/-- MAILBOX_REQLEN_WRITE: A REQLEN write by the owner sets the request length, or is discarded when out of range
(R280). -/
def execMailboxReqlenWrite (p : Fin 6) (sid : BitVec 8) (v : BitVec 32) (s : State) : Host.Outcome State Fault Refusal :=
  s.ends (s.windowCmd p.val sid.toNat 0x14 (leBytes 4 v.toNat))

/-- MAILBOX_REQUEST_WRITE: A write to the REQUEST buffer by the owner stores request octets, or is discarded (R280). -/
def execMailboxRequestWrite (p : Fin 6) (sid : BitVec 8) (off : BitVec 16) (o : Octets) (s : State) : Host.Outcome State Fault Refusal :=
  s.ends (s.windowCmd p.val sid.toNat off.toNat o)

/-- MAILBOX_CLAIM_EXPIRY: The owner writes no doorbell for the claim idle limit, so the claim is released (R282,
R791). -/
def execMailboxClaimExpiry (s : State) : Host.Outcome State Fault Refusal := s.ends (s.claimExpiry)

/-- MAILBOX_INVALID_ACCESS: A misaligned, wrongly sized or out-of-service window access is discarded, reads zero and
is counted (R279). -/
def execMailboxInvalidAccess (p : Fin 6) (write : Bool) (s : State) : Host.Outcome State Fault Refusal :=
  s.ends (s.invalidWindow p.val write)

/-- TIME_VIEW_READ: A read of the TIME view's low word latches the rest of one time snapshot for the reading port
(R283, R480). -/
def execTimeViewRead (p : Fin 6) (off : BitVec 16) (wide : Bool) (s : State) : Host.Outcome State Fault Refusal :=
  s.ends (s.windowGet p.val off.toNat (if wide then 8 else 4))

/-- TICK_VIEW_READ: A read of the TICK view's low word latches its high word for the reading port (R283). -/
def execTickViewRead (p : Fin 6) (off : BitVec 16) (wide : Bool) (s : State) : Host.Outcome State Fault Refusal :=
  s.ends (s.windowGet p.val off.toNat (if wide then 8 else 4))

end Sys2Proof.Machine
end

