-- ==== Sys2Proof/Machine/ExecMemory.lean ====
section
/-! DEFINITION. Sys2Proof/Machine/ExecMemory.lean: the meanings of the rows about capture memory and the vault bank. -/
namespace Sys2Proof.Machine

/-- RETENTION_WAKE: At freeze tick T − 64 a bank in Retention starts waking for a commit (R672, R673). -/
def execRetentionWake (bank : Fin 48) (s : State) : Host.Outcome State Fault Refusal :=
  s.ends (s.retentionWake bank.val)

/-- BANK_DRAIN_DONE: A DRAINING bank has no line left in the write buffer and enters ENTERING (R672). -/
def execBankDrainDone (bank : Fin 48) (s : State) : Host.Outcome State Fault Refusal := s.ends (s.drainDone bank.val)

/-- BANK_ENTRY_DONE: A bank finishes ENTERING and reads RETENTION or OFF (R62, R672). -/
def execBankEntryDone (bank : Fin 48) (s : State) : Host.Outcome State Fault Refusal := s.ends (s.entryDone bank.val)

/-- BANK_WAKE_DONE: A bank finishes WAKING and becomes READY, or starts ZEROING after Off (R672, R675). -/
def execBankWakeDone (bank : Fin 48) (s : State) : Host.Outcome State Fault Refusal := s.ends (s.wakeDone bank.val)

/-- BANK_ZEROING_DONE: A bank finishes zeroing and becomes READY, or enters Retention (R660, R672, R675). -/
def execBankZeroingDone (bank : Fin 48) (s : State) : Host.Outcome State Fault Refusal :=
  s.ends (s.zeroingDone bank.val)

/-- BANK_SUPPLY_FAULT: A bank's switched supply stays out of limit for 1 µs, so the bank is switched off, FAILED and
BANKPWR is set (R657, R693). -/
def execBankSupplyFault (bank : Fin 48) (s : State) : Host.Outcome State Fault Refusal :=
  s.ends (((s.applyAt s.time.tick).supplyFault bank.val).settle)

/-- BANK_TRANSITION_OVERTIME: A bank transition lasts more than ten times its duration, and the bank is FAILED (R693). -/
def execBankTransitionOvertime (bank : Fin 48) (s : State) : Host.Outcome State Fault Refusal :=
  s.ends ((s.overtime bank.val).settle)

/-- BACKGROUND_STEP_START: After the step interval the test engine starts SAVE on its next region (R21, R684). -/
def execBackgroundStepStart (s : State) : Host.Outcome State Fault Refusal := s.ends (s.testStep)

/-- BACKGROUND_PHASE_DONE: A SAVE, TEST, RESTORE or VERIFY phase ends, and a miscompare is recorded and repaired
(R679, R680, R684, R687, R688, R692). -/
def execBackgroundPhaseDone (r : TestFinding) (s : State) : Host.Outcome State Fault Refusal := s.ends (s.phaseDone r)

/-- VAULT_WIPE: A wipe request starts zeroing the vault bank within 1 µs (R696). -/
def execVaultWipe (s : State) : Host.Outcome State Fault Refusal := s.ends (s.vaultWipe)

/-- VAULT_WIPE_DONE: The vault wipe ends, rewriting the tag, clearing the latch, setting WIPE and completing a
life-cycle transition (R696, R782, R791). -/
def execVaultWipeDone (s : State) : Host.Outcome State Fault Refusal := s.ends (s.wipeDone)

end Sys2Proof.Machine
end

