-- ==== Sys2Proof/Machine/ExecObservation.lean ====
section
/-! DEFINITION. Sys2Proof/Machine/ExecObservation.lean: the meanings of the rows about the observation path. -/
namespace Sys2Proof.Machine

/-- SLICE_RELEASE: In each tick the alignment buffer releases row k = r − H as the slice to the trigger and storage
(R19, R25, R45, R82, R449, R534, R536, R537, R538, R544, R557, R558, R559, R560, R561, R569, R579, R590, R592, R593,
R594, R595, R596, R598, R599, R600, R601, R602, R604, R605, R606, R607, R609, R615, R626, R627, R629, R632, R633,
R634, R635, R636, R637, R638, R639, R640, R641, R649, R759, R768). -/
def execSliceRelease (gp : GpSample) (s : State) : Host.Outcome State Fault Refusal :=
  s.ends ((s.sliceRelease gp).pairFollow)

/-- TAP_JOIN: At join tick J a tap's samples start to count (R46, R539). -/
def execTapJoin (tap : Fin 64) (s : State) : Host.Outcome State Fault Refusal := s.ends (s.tapJoin tap.val)

/-- DISPATCH_QUEUE_RESET: A dispatch queue pointer mismatch resets that port's queues and sets TRIG cause QRESET
(R546). -/
def execDispatchQueueReset (p : Fin 6) (s : State) : Host.Outcome State Fault Refusal := s.ends (s.dispatchReset p.val)

/-- TAP_EVENT_QUEUE_RESET: A tap event queue pointer fault resets it, and every counting or joining tap becomes GONE
(R546). -/
def execTapEventQueueReset (s : State) : Host.Outcome State Fault Refusal := s.ends (s.tapEventReset)

/-- MARGIN_RESET: Writing true to 3007h:0 resets every minimum margin to 0x7FFF_FFFF (R542). -/
def execMarginReset (w : Who) (v : BitVec 8) (s : State) : Host.Outcome State Fault Refusal :=
  s.ends (s.writeNum w 0x3007 0 v.toNat)

end Sys2Proof.Machine
end

