-- ==== Sys2Proof/Machine/ExecPair.lean ====
section
/-! DEFINITION. Sys2Proof/Machine/ExecPair.lean: the meanings of the rows about redundant pairs. -/
namespace Sys2Proof.Machine

/-- ROPE_FRAME_SEND: Every fourth tick the device begins a Rope frame carrying state words, AUX and a camp segment
(R747, R748, R762). -/
def execRopeFrameSend (s : State) : Host.Outcome State Fault Refusal := s.ends (s.ropeSend)

/-- ROPE_FRAME_RECEIVE: A Rope frame is received, checked, aligned and used for heartbeat, comparison and camp data
(R28, R615, R749, R751, R753, R759, R761, R762, R763, R764, R772). -/
def execRopeFrameReceive (o : Octets) (s : State) : Host.Outcome State Fault Refusal :=
  s.ends ((s.ropeReceive o).pairFollow)

/-- ROPE_LOSS_OF_SIGNAL: A Rope lane loses signal, so ROPELOS is set and the Second becomes ineligible (R44, R101,
R110, R749, R765, R772). -/
def execRopeLossOfSignal (lanes : BitVec 4) (s : State) : Host.Outcome State Fault Refusal :=
  s.ends ((s.ropeLoss lanes.toNat).pairFollow)

/-- ROPE_LOSS_TIMEOUT: The Rope link is not realigned within 1 ms, so RPLL moves to OSC and the Second warm-resets on
realignment (R110, R772). -/
def execRopeLossTimeout (s : State) : Host.Outcome State Fault Refusal := s.ends (s.ropeLossOver.pairFollow)

/-- SET_BEGIN: The Second receives the start of a CATCHUP or COMMIT set (R752). -/
def execSetBegin (o : Octets) (s : State) : Host.Outcome State Fault Refusal := s.ends ((s.setBegin o).pairFollow)

/-- SET_REC: The Second receives one object record of a mirrored set (R745, R752). -/
def execSetRec (o : Octets) (s : State) : Host.Outcome State Fault Refusal := s.ends ((s.setRec o).pairFollow)

/-- SET_END: The Second receives the end of a set with its CRC and answers SET_ACK (R752, R753). -/
def execSetEnd (o : Octets) (s : State) : Host.Outcome State Fault Refusal := s.ends ((s.setEnd o).pairFollow)

/-- SET_ACK: The Lead receives the Second's acknowledgement and moves the commit on with M = 1,024 (R310, R311, R312,
R314). -/
def execSetAck (o : Octets) (s : State) : Host.Outcome State Fault Refusal := s.ends ((s.setAck o).pairFollow)

/-- BOUNDARY: The Second receives T for a mirrored set and applies or cancels it (R315, R327, R753). -/
def execBoundary (o : Octets) (s : State) : Host.Outcome State Fault Refusal := s.ends ((s.boundary o).pairFollow)

/-- TIME_SYNC: The Second loads the tick counter and package time at tick Y (R750, R753, R757). -/
def execTimeSync (o : Octets) (s : State) : Host.Outcome State Fault Refusal := s.ends ((s.timeSync o).pairFollow)

/-- ADJ: The Second receives a change of ADJ with its apply tick (R757). -/
def execAdj (o : Octets) (s : State) : Host.Outcome State Fault Refusal := s.ends ((s.adjMsg o).pairFollow)

/-- DELAYED_ADJ_APPLY: With a mirroring Second, a change of ADJ or a held time step is applied 1,024 ticks after the
decision (R757). -/
def execDelayedAdjApply (s : State) : Host.Outcome State Fault Refusal := s.ends (s.applyDelayed)

/-- STEP: The Second receives a time-source step for stamp conversion (R757). -/
def execStep (o : Octets) (s : State) : Host.Outcome State Fault Refusal := s.ends ((s.stepMsg o).pairFollow)

/-- CONFIRM: The Second receives the confirmation of a time-source step with its new EPOCH (R757). -/
def execConfirm (o : Octets) (s : State) : Host.Outcome State Fault Refusal := s.ends ((s.confirmMsg o).pairFollow)

/-- SRCSTAT: The Second receives a source's status and last TRIM (R756). -/
def execSrcstat (o : Octets) (s : State) : Host.Outcome State Fault Refusal := s.ends ((s.srcStatMsg o).pairFollow)

/-- ARM: The Second receives arm tick A and arms at the same tick (R613). -/
def execArm (o : Octets) (s : State) : Host.Outcome State Fault Refusal := s.ends ((s.armMsg o).pairFollow)

/-- DISARM: The Second receives disarm tick D and disarms at the same tick (R613). -/
def execDisarm (o : Octets) (s : State) : Host.Outcome State Fault Refusal := s.ends ((s.disarmMsg o).pairFollow)

/-- TRIG_SNAP: The Second installs the Lead's sequencer snapshot and enters SHADOW (R753, R758). -/
def execTrigSnap (o : Octets) (s : State) : Host.Outcome State Fault Refusal := s.ends ((s.trigSnap o).pairFollow)

/-- CKPT: The Second receives a spill checkpoint for use at failover (R756). -/
def execCkpt (o : Octets) (s : State) : Host.Outcome State Fault Refusal := s.ends ((s.ckpt o).pairFollow)

/-- TRAIN: The Second receives an order to train, or to quiesce and disable, a port (R753, R777). -/
def execTrain (o : Octets) (s : State) : Host.Outcome State Fault Refusal := s.ends ((s.trainMsg o).pairFollow)

/-- PORTSTAT: A partner's port status is received for catch-up and eligibility (R753). -/
def execPortstat (o : Octets) (s : State) : Host.Outcome State Fault Refusal := s.ends ((s.portStat o).pairFollow)

/-- HANDOVER: The Second receives the handover yield tick X (R767). -/
def execHandover (o : Octets) (s : State) : Host.Outcome State Fault Refusal := s.ends ((s.handoverMsg o).pairFollow)

/-- PROGRESS: The Lead receives the Second's catch-up state (R753, R754). -/
def execProgress (o : Octets) (s : State) : Host.Outcome State Fault Refusal := s.ends ((s.progressMsg o).pairFollow)

/-- CAMP_RESEND_TIMEOUT: CACK does not advance for 256 ticks, so unacknowledged segments are resent, and after eight
resends the channel resets (R751). -/
def execCampResendTimeout (s : State) : Host.Outcome State Fault Refusal := s.ends (s.campTimeout.pairFollow)

/-- HEARTBEAT_EXPIRY: No good DATA frame within the heartbeat limit, so HEARTBEAT is set and the Second becomes
ineligible (R44, R763). -/
def execHeartbeatExpiry (s : State) : Host.Outcome State Fault Refusal := s.ends (s.heartbeatOver.pairFollow)

/-- REF_LOSS: No edge is sensed on the phase reference net by tick e + 15, so REF loss is declared and a yield may be
detected (R28, R36, R43, R110, R740, R765, R766, R774, R792). -/
def execRefLoss (s : State) : Host.Outcome State Fault Refusal := s.ends (s.refLoss.pairFollow)

/-- HANDOVER_REQUEST: A write of 0x4841_4E44 to 8003h:0 fixes yield tick X and sends HANDOVER (R760, R767). -/
def execHandoverRequest (w : Who) (v : BitVec 32) (s : State) : Host.Outcome State Fault Refusal :=
  s.ends (s.writeNum w 0x8003 0 v.toNat)

/-- HANDOVER_YIELD: At tick X the Lead yields and enters failover reset (R36, R154, R156, R764, R767). -/
def execHandoverYield (s : State) : Host.Outcome State Fault Refusal := s.ends (s.handoverYield)

end Sys2Proof.Machine
end

