-- ==== Sys2Proof/Machine/ExecPower.lean ====
section
/-! DEFINITION. Sys2Proof/Machine/ExecPower.lean: the meanings of the rows about supplies, pins and temperature. -/
namespace Sys2Proof.Machine

/-- SUPPLY_MONITOR_TRIP: A supply stays below its falling threshold, so POR is asserted and the device and package
enter reset (R34, R35, R41, R47, R52, R70, R71, R97, R102, R105, R155, R156, R159, R202, R249, R295, R329, R352,
R391, R446, R489, R524, R549, R622, R697, R736, R764, R778, R808). -/
def execSupplyMonitorTrip (rail : Rail) (ns : Nat) (s : State) : Host.Outcome State Fault Refusal :=
  s.ends (s.supplyTrip rail ns)

/-- POR_RELEASE: Every supply has been above its rising threshold for 1.0 ms, so POR is released and boot step 1
begins (R34, R69, R70, R105, R107, R152, R738). -/
def execPorRelease (temp : Int) (orderOk : Bool) (s : State) : Host.Outcome State Fault Refusal :=
  s.ends (s.porRelease temp orderOk)

/-- PIN_RESET: RESET_N held low passes the 16-cycle AON filter and causes a pin reset (R41, R47, R52, R80, R155,
R156, R157, R159, R249, R329, R352, R764, R778, R808). -/
def execPinReset (lowNs : Nat) (s : State) : Host.Outcome State Fault Refusal := s.ends (s.pinReset lowNs)

/-- PIN_RESET_RELEASE: The filter sees RESET_N high for 16 consecutive AON cycles, and the boot begins (R152, R160). -/
def execPinResetRelease (s : State) : Host.Outcome State Fault Refusal := s.ends (s.pinRelease)

/-- THERM_THRESHOLD: The device temperature reaches 120 °C; PWR cause THERM is set and the DVFS ceiling falls to OP3
(R90, R129, R333). -/
def execThermThreshold (temp : Int) (s : State) : Host.Outcome State Fault Refusal := s.ends (s.thermReached temp)

/-- THERMAL_TRIP: The temperature stays at or above 132 °C for 1.0 ms, and the device enters the pin-reset state
(R91). -/
def execThermalTrip (s : State) : Host.Outcome State Fault Refusal := s.ends (s.thermalTrip)

/-- THERMAL_TRIP_RECOVERY: After a thermal trip the temperature falls below 115 °C, and the device boots as after a
pin reset and sets TRIP (R91). -/
def execThermalTripRecovery (temp : Int) (s : State) : Host.Outcome State Fault Refusal := s.ends (s.tripRecovery temp)

/-- STRAP_CHANGE: A level change on ROLE_SEL or PAIR_PRES outside POR keeps the booted role and sets PWR cause STRAP
(R35, R53, R99, R193). -/
def execStrapChange (roleSel : Bool) (pairPres : Bool) (s : State) : Host.Outcome State Fault Refusal :=
  s.ends (s.strapChange roleSel pairPres)

/-- VDDIO_LOSS: VDDIO falls below its threshold while VAON is present, and the AON domain sees both TAMPER_N inputs
as asserted (R98, R800). -/
def execVddioLoss (s : State) : Host.Outcome State Fault Refusal := s.ends (s.vddioLost)

/-- XTRIG_IN_EDGE: An XTRIG_IN edge is captured in tick k or k + 1 and becomes visible to the holds three ticks later
(R81, R568). -/
def execXtrigInEdge (pin : Fin 4) (level : Bool) (violates : Bool) (s : State) : Host.Outcome State Fault Refusal :=
  s.ends (s.xtrigIn pin.val level violates)

/-- TEMPERATURE_BELOW_115: The device temperature falls below 115 °C, ending the condition behind PWR cause THERM so
that a later clear takes effect (R90). -/
def execTemperatureBelow115 (s : State) : Host.Outcome State Fault Refusal := s.ends (s.thermOver)

end Sys2Proof.Machine
end

