-- ==== Sys2Proof/Machine/ExecProbe.lean ====
section
/-! DEFINITION. Sys2Proof/Machine/ExecProbe.lean: the meanings of the rows about probes and motion. -/
namespace Sys2Proof.Machine

/-- EYE_WINDOW_END: A 4,096-edge eye window ends, giving the measurement of loop S(16 + g) and flagging a closed eye
(R564, R565). -/
def execEyeWindowEnd (g : Fin 8) (edges : Nat) (early : Nat) (late : Nat) (s : State) : Host.Outcome State Fault Refusal :=
  s.ends (s.eyeWindow g.val edges early late)

/-- SETTLING_END: 1,024 sample ticks after a comparator change, the granule's PROBE poisoning ends (R562). -/
def execSettlingEnd (g : Fin 8) (s : State) : Host.Outcome State Fault Refusal := s.ends (s.settlingEnd g.val)

/-- DECODER_INPUT_CHANGE: A filtered change of a decoder's A or B input counts an edge and updates position and speed
(R570, R571, R572, R573, R576, R577, R578). -/
def execDecoderInputChange (j : Fin 4) (a : Bool) (b : Bool) (z : Bool) (tick : Nat) (s : State) : Host.Outcome State Fault Refusal :=
  s.ends (s.decoderInput j.val a b z tick)

/-- STANDSTILL_EXPIRY: No counted edge for the standstill time, so speed becomes 0 and STILL is set (R580). -/
def execStandstillExpiry (j : Fin 4) (s : State) : Host.Outcome State Fault Refusal := s.ends (s.standstill j.val)

/-- POSITION_LOAD: A write of 0x4C4F_4144 to 3908h loads the position preset at the next processed tick (R575). -/
def execPositionLoad (w : Who) (j : Fin 4) (v : BitVec 32) (s : State) : Host.Outcome State Fault Refusal :=
  s.ends (s.writeNum w 0x3908 (j.val + 1) v.toNat)

/-- XTRIG_OUT_PULSE_END: A PULSE-mode XTRIG_OUT output ends after WIDTH ticks (R569). -/
def execXtrigOutPulseEnd (pin : Fin 4) (s : State) : Host.Outcome State Fault Refusal := s.ends (s.pulseEnd pin.val)

end Sys2Proof.Machine
end

