-- ==== Sys2Proof/Machine/ExecSecurity.lean ====
section
/-! DEFINITION. Sys2Proof/Machine/ExecSecurity.lean: the meanings of the rows about security and life cycle. -/
namespace Sys2Proof.Machine

/-- TRANSITION_REQUEST: A write to 1001h:2 requests a one-way life-cycle transition and starts burning fuses (R781,
R782). -/
def execTransitionRequest (w : Who) (v : BitVec 32) (s : State) : Host.Outcome State Fault Refusal :=
  s.ends (s.writeNum w 0x1001 2 v.toNat)

/-- FUSE_BURN_DONE: The transition's fuse group reads back, so a vault wipe starts, or the transition FAILED (R780,
R782). -/
def execFuseBurnDone (ok : Bool) (s : State) : Host.Outcome State Fault Refusal := s.ends (s.burnDone ok)

/-- SESSION_REQUEST: A write of a level to 1010h:1 issues a challenge for a session (R267, R785, R787, R788, R790). -/
def execSessionRequest (w : Who) (v : BitVec 8) (s : State) : Host.Outcome State Fault Refusal :=
  s.ends (s.writeNum w 0x1010 1 v.toNat)

/-- SESSION_CLOSE: A write of 0 to 1010h:1 by the holder closes the session (R788, R791). -/
def execSessionClose (w : Who) (v : BitVec 8) (s : State) : Host.Outcome State Fault Refusal :=
  s.ends (s.writeNum w 0x1010 1 v.toNat)

/-- SESSION_RESPONSE: An HMAC response written to 1010h:3 opens the session or counts a failure (R787, R789, R790). -/
def execSessionResponse (w : Who) (o : Octets) (s : State) : Host.Outcome State Fault Refusal :=
  s.ends (s.writeBy w 0x1010 3 o none)

/-- CHALLENGE_EXPIRY: An outstanding challenge passes its limit and is no longer valid (R789). -/
def execChallengeExpiry (path : Path) (s : State) : Host.Outcome State Fault Refusal :=
  s.ends (s.challengeExpiry (pathNo path))

/-- SESSION_IDLE_EXPIRY: No request from the holder for the idle limit, so the session closes (R791). -/
def execSessionIdleExpiry (path : Path) (s : State) : Host.Outcome State Fault Refusal :=
  s.ends (s.idleExpiry (pathNo path))

/-- BACKOFF_EXPIRY: The back-off period after repeated failures ends, and session requests are accepted again (R790). -/
def execBackoffExpiry (path : Path) (s : State) : Host.Outcome State Fault Refusal :=
  s.ends (s.backoffOver (pathNo path))

/-- INTEGRATOR_KEY_WRITE: A write to 9020h:1 starts programming KI into fuses (R793, R794, R795). -/
def execIntegratorKeyWrite (w : Who) (o : Octets) (s : State) : Host.Outcome State Fault Refusal :=
  s.ends (s.writeBy w 0x9020 1 o none)

/-- FUSE_PROGRAMMING_DONE: The VALID fuse of a fuse-backed object is programmed, so it reads written, or FAILED
(R775, R793, R795). -/
def execFuseProgrammingDone (ok : Bool) (s : State) : Host.Outcome State Fault Refusal := s.ends (s.fuseEnd ok)

/-- OPERATOR_KEY_WRITE: A write to 9021h:1 stores K1 in the vault (R796, R797). -/
def execOperatorKeyWrite (w : Who) (o : Octets) (s : State) : Host.Outcome State Fault Refusal :=
  s.ends (s.writeBy w 0x9021 1 o none)

/-- SEALED_RECORD_WRITE: A write to 9030h stores a sealed record in its vault region (R796, R797, R805). -/
def execSealedRecordWrite (w : Who) (n : BitVec 8) (o : Octets) (s : State) : Host.Outcome State Fault Refusal :=
  s.ends (s.writeBy w 0x9030 n.toNat o none)

/-- TAMPER_EVENT: A filtered TAMPER_N assertion sets the tamper cause, logs it and applies the configured response
(R333, R696, R791, R798, R799, R800). -/
def execTamperEvent (t0 : Bool) (t1 : Bool) (s : State) : Host.Outcome State Fault Refusal :=
  s.ends (s.tamperIn t0 t1)

/-- TAMPER_RELEASE: A TAMPER_N input is released after 8 consecutive high samples, so that its next low run is a new
tamper event (R798). -/
def execTamperRelease (t0 : Bool) (t1 : Bool) (s : State) : Host.Outcome State Fault Refusal :=
  s.ends (s.tamperOut t0 t1)

/-- ENTROPY_HEALTH_FAILURE: The entropy source fails a health test, and session requests are refused until a test
passes (R804). -/
def execEntropyHealthFailure (s : State) : Host.Outcome State Fault Refusal := s.ends (s.entropyFails)

/-- ENTROPY_HEALTH_PASS: The entropy source passes a health test; ENTROPY sets again and session requests are
accepted (R804). -/
def execEntropyHealthPass (s : State) : Host.Outcome State Fault Refusal := s.ends (s.entropyPasses)

end Sys2Proof.Machine
end

