-- ==== Sys2Proof/Machine/ExecStorage.lean ====
section
/-! DEFINITION. Sys2Proof/Machine/ExecStorage.lean: the meanings of the rows about rings and spill. -/
namespace Sys2Proof.Machine

/-- IDLE_CLOSE: No record enters a window's block for the idle close time, so the block is closed (R636). -/
def execIdleClose (win : Fin 16) (s : State) : Host.Outcome State Fault Refusal := s.ends (s.idleClose win.val)

/-- WINDOW_FREEZE: A SNAPSHOT window freezes at the end of release tick r_S + POST (R628, R636). -/
def execWindowFreeze (win : Fin 16) (s : State) : Host.Outcome State Fault Refusal := s.ends (s.windowFreeze win.val)

/-- SPILL_FRAME_START: A stream starts a frame for its next closed block once a lane and ring space are available
(R379, R427, R442, R644, R646, R656, R670, R709, R710, R711). -/
def execSpillFrameStart (st : Fin 4) (s : State) : Host.Outcome State Fault Refusal :=
  s.ends ((s.startFrame st.val).settle)

/-- SPILL_FRAME_ENCODED: A lane finishes coding a block into a capture frame, which is written to the host ring in
block order (R644, R645, R699, R700, R705, R706, R708, R731). -/
def execSpillFrameEncoded (st : Fin 4) (lane : LaneEvent) (s : State) : Host.Outcome State Fault Refusal :=
  s.ends ((s.frameEncoded st.val lane).settle)

/-- CONSUMER_LINE_REREAD: While space is short, the stream rereads the consumer line at most once per µs (R646). -/
def execConsumerLineReread (st : Fin 4) (s : State) : Host.Outcome State Fault Refusal :=
  s.ends ((s.rereadConsumer st.val).settle)

/-- STREAM_RESUME: A write of 0x5245_5355 to 5120h resumes an ERROR stream from its checkpoint (R648, R655, R760). -/
def execStreamResume (w : Who) (st : Fin 4) (v : BitVec 32) (s : State) : Host.Outcome State Fault Refusal :=
  s.ends (s.writeNum w 0x5120 (st.val + 1) v.toNat)

end Sys2Proof.Machine
end

