-- ==== Sys2Proof/Machine/ExecTime.lean ====
section
/-! DEFINITION. Sys2Proof/Machine/ExecTime.lean: the meanings of the rows about taps, time sources and package time. -/
namespace Sys2Proof.Machine

/-- T_PING_DUE: A time source's exchange period elapses, and T_PING is sent unless the previous exchange is still
open (R466). -/
def execTPingDue (source : Fin 16) (s : State) : Host.Outcome State Fault Refusal := s.ends (s.pingDue source.val)

/-- T_PONG: A T_PONG completes an exchange, giving theta and delay, and may confirm an outstanding step (R466, R467,
R468, R488, R509, R523, R539, R757). -/
def execTPong (p : Fin 6) (m : PongMsg) (s : State) : Host.Outcome State Fault Refusal := s.ends (s.pongIn p.val m)

/-- EXCHANGE_TIMEOUT: An exchange stays open for 4,096 ticks, so it is lost and PONGLATE is set (R467, R484). -/
def execExchangeTimeout (source : Fin 16) (s : State) : Host.Outcome State Fault Refusal :=
  s.ends (s.exchangeExpiry source.val)

/-- OBS_SAMPLE: An OBS_SAMPLE message visible in TICK has its samples mapped to ticks and written as rows (R19, R462,
R469, R470, R471, R485, R527, R528, R530, R531, R532, R533, R546). -/
def execObsSample (p : Fin 6) (m : ObsMsg) (s : State) : Host.Outcome State Fault Refusal :=
  s.ends (s.sampleIn p.val 1 m)

/-- OBS_CHANGE: An OBS_CHANGE message extends the coverage with its last value and writes the changed sample (R469,
R485, R531, R532). -/
def execObsChange (p : Fin 6) (m : ObsMsg) (s : State) : Host.Outcome State Fault Refusal :=
  s.ends (s.sampleIn p.val 2 m)

/-- OBS_THRU: An OBS_THRU message extends the coverage with the last value (R485, R532). -/
def execObsThru (p : Fin 6) (m : ObsMsg) (s : State) : Host.Outcome State Fault Refusal :=
  s.ends (s.sampleIn p.val 3 m)

/-- OBS_LOST: An OBS_LOST message extends the coverage with poisoned rows of reason LOST (R485, R532). -/
def execObsLost (p : Fin 6) (m : ObsMsg) (s : State) : Host.Outcome State Fault Refusal :=
  s.ends (s.sampleIn p.val 4 m)

/-- PPS_IN_EDGE: A captured PPS_IN edge is judged against the window and disciplines, steps or applies an armed write
(R450, R455, R472, R473, R475, R476, R477, R757). -/
def execPpsInEdge (rising : Bool) (violates : Bool) (s : State) : Host.Outcome State Fault Refusal :=
  s.ends (s.ppsPinEdge rising violates)

/-- PPS_MISS: A watched whole second passes without an edge inside the window, so PPSMISS is set (R478). -/
def execPpsMiss (s : State) : Host.Outcome State Fault Refusal := s.ends (s.ppsMiss)

/-- PPS_HOLDOVER: No inside edge for the holdover limit, so the PPS state becomes HOLDOVER and the slew term clears
(R455, R478). -/
def execPpsHoldover (s : State) : Host.Outcome State Fault Refusal := s.ends (s.ppsHoldover)

/-- SLEW_TERM_EXPIRY: The PPS slew term ends after 10^9 ticks and is cleared (R476). -/
def execSlewTermExpiry (s : State) : Host.Outcome State Fault Refusal := s.ends (s.slewExpiry)

/-- AT_PPS_LAPSE: An armed AT_PPS write sees no edge within the holdover limit, so it lapses and PPSMISS is set
(R473). -/
def execAtPpsLapse (s : State) : Host.Outcome State Fault Refusal := s.ends (s.atPpsLapse)

/-- PPS_OUT_RISE: PPS_OUT rises in the tick at the whole second less the advance (R479). -/
def execPpsOutRise (s : State) : Host.Outcome State Fault Refusal := s.ends (s.ppsOutRise)

/-- PPS_OUT_FALL: PPS_OUT falls when its width has elapsed (R479). -/
def execPpsOutFall (s : State) : Host.Outcome State Fault Refusal := s.ends (s.ppsOutFall)

/-- TCTL_WRITE: As camp work the device writes a tap's TCTL after a commit changes the tap's entry (R457, R539). -/
def execTctlWrite (tap : Fin 64) (ok : Bool) (s : State) : Host.Outcome State Fault Refusal :=
  s.ends (s.tctlWrite tap.val ok)

/-- TCTL_WRITE_RETRY: A failed TCTL write is repeated every 1 ms until it completes (R457). -/
def execTctlWriteRetry (tap : Fin 64) (ok : Bool) (s : State) : Host.Outcome State Fault Refusal :=
  s.ends (s.tctlRetry tap.val ok)

end Sys2Proof.Machine
end

