-- ==== Sys2Proof/Machine/ExecTrigger.lean ====
section
/-! DEFINITION. Sys2Proof/Machine/ExecTrigger.lean: the meanings of the rows about the trigger sequencer. -/
namespace Sys2Proof.Machine

/-- ARM_REQUEST: A write of 0x4152_4D21 to 4000h:1 fixes arm tick A and enters PENDING (R203, R321, R611). -/
def execArmRequest (w : Who) (v : BitVec 32) (s : State) : Host.Outcome State Fault Refusal :=
  s.ends (s.writeNum w 0x4000 1 v.toNat)

/-- ARM_TICK: At tick A the sequencer starts at L0 with cleared counters and enters ARMED (R608, R625, R634, R650). -/
def execArmTick (s : State) : Host.Outcome State Fault Refusal := s.ends (s.armTick.pairFollow)

/-- DISARM_REQUEST: A write of 0x5354_4F50 to 4000h:2 fixes disarm tick D (R612). -/
def execDisarmRequest (w : Who) (v : BitVec 32) (s : State) : Host.Outcome State Fault Refusal :=
  s.ends (s.writeNum w 0x4000 2 v.toNat)

/-- DISARM_TICK: At tick D the sequencer enters IDLE, closes the store gate and freezes (R612, R634, R636). -/
def execDisarmTick (s : State) : Host.Outcome State Fault Refusal := s.ends (s.disarmTick.pairFollow)

/-- TRIGGER_TIMER_EXPIRY: A trigger timer reaches its limit and raises its flag for that tick (R602, R603). -/
def execTriggerTimerExpiry (j : Fin 8) (s : State) : Host.Outcome State Fault Refusal := s.ends (s.timerExpiry j.val)

end Sys2Proof.Machine
end

