-- ==== Sys2Proof/Machine/Dispatch.lean ====
section
/-! DEFINITION. Sys2Proof/Machine/Dispatch.lean: one arm per command, each a call of its meaning. -/
namespace Sys2Proof.Machine

/-- The effect of a command on everything but the queue. [DESIGN CHOICE, log entry 2] -/
def exec (i : Instr) (s : State) : Host.Outcome State Fault Refusal :=
  match i with
  | .supplyMonitorTrip rail ns => Sys2Proof.Machine.execSupplyMonitorTrip rail ns s
  | .porRelease temp orderOk => Sys2Proof.Machine.execPorRelease temp orderOk s
  | .pinReset lowNs => Sys2Proof.Machine.execPinReset lowNs s
  | .pinResetRelease => Sys2Proof.Machine.execPinResetRelease s
  | .thermThreshold temp => Sys2Proof.Machine.execThermThreshold temp s
  | .thermalTrip => Sys2Proof.Machine.execThermalTrip s
  | .thermalTripRecovery temp => Sys2Proof.Machine.execThermalTripRecovery temp s
  | .strapChange roleSel pairPres => Sys2Proof.Machine.execStrapChange roleSel pairPres s
  | .vddioLoss => Sys2Proof.Machine.execVddioLoss s
  | .xtrigInEdge pin level violates => Sys2Proof.Machine.execXtrigInEdge pin level violates s
  | .temperatureBelow115 => Sys2Proof.Machine.execTemperatureBelow115 s
  | .xoQualWindowEnd count => Sys2Proof.Machine.execXoQualWindowEnd count s
  | .xoQualTimeout => Sys2Proof.Machine.execXoQualTimeout s
  | .pllLock pll => Sys2Proof.Machine.execPllLock pll s
  | .bootPllLockTimeout => Sys2Proof.Machine.execBootPllLockTimeout s
  | .rootSelect w sub src => Sys2Proof.Machine.execRootSelect w sub src s
  | .normalSwitchComplete d => Sys2Proof.Machine.execNormalSwitchComplete d s
  | .stallDeclared d => Sys2Proof.Machine.execStallDeclared d s
  | .rootEdgeAfterStall d => Sys2Proof.Machine.execRootEdgeAfterStall d s
  | .aonClockFault stopped => Sys2Proof.Machine.execAonClockFault stopped s
  | .forcedSwitch w v => Sys2Proof.Machine.execForcedSwitch w v s
  | .forcedSwitchComplete d => Sys2Proof.Machine.execForcedSwitchComplete d s
  | .forcedSwitchLockTimeout d => Sys2Proof.Machine.execForcedSwitchLockTimeout d s
  | .pllLossOfLock pll => Sys2Proof.Machine.execPllLossOfLock pll s
  | .pllRelock pll => Sys2Proof.Machine.execPllRelock pll s
  | .dvfsEvaluation => Sys2Proof.Machine.execDvfsEvaluation s
  | .dvfsTransitionPhaseDone => Sys2Proof.Machine.execDvfsTransitionPhaseDone s
  | .meterStart w v => Sys2Proof.Machine.execMeterStart w v s
  | .meterWindowEnd count => Sys2Proof.Machine.execMeterWindowEnd count s
  | .clkmonChange w sub v => Sys2Proof.Machine.execClkmonChange w sub v s
  | .aonStart => Sys2Proof.Machine.execAonStart s
  | .fuseLoad checkOk k3Ok => Sys2Proof.Machine.execFuseLoad checkOk k3Ok s
  | .bankBist findings => Sys2Proof.Machine.execBankBist findings s
  | .vaultInitialisation uncorrectable => Sys2Proof.Machine.execVaultInitialisation uncorrectable s
  | .imageSelection flash => Sys2Proof.Machine.execImageSelection flash s
  | .flashBusyTimeout => Sys2Proof.Machine.execFlashBusyTimeout s
  | .hello h => Sys2Proof.Machine.execHello h s
  | .roleWaitExpiry refEdges allLos => Sys2Proof.Machine.execRoleWaitExpiry refEdges allLos s
  | .refclkLeadTimeExpiry => Sys2Proof.Machine.execRefclkLeadTimeExpiry s
  | .prstNOutRelease line => Sys2Proof.Machine.execPrstNOutRelease line s
  | .linkStartDelayExpiry => Sys2Proof.Machine.execLinkStartDelayExpiry s
  | .timeBaseStart => Sys2Proof.Machine.execTimeBaseStart s
  | .warmResetRequest w v => Sys2Proof.Machine.execWarmResetRequest w v s
  | .warmReset => Sys2Proof.Machine.execWarmReset s
  | .saveRequest w v => Sys2Proof.Machine.execSaveRequest w v s
  | .saveFlashCommandDone ok => Sys2Proof.Machine.execSaveFlashCommandDone ok s
  | .lockRequest w v => Sys2Proof.Machine.execLockRequest w v s
  | .descriptorQuery w v => Sys2Proof.Machine.execDescriptorQuery w v s
  | .diagnosticClear w v => Sys2Proof.Machine.execDiagnosticClear w v s
  | .storeScrub findings => Sys2Proof.Machine.execStoreScrub findings s
  | .dictWrite w idx sub o ty => Sys2Proof.Machine.execDictWrite w idx sub o ty s
  | .read f => Sys2Proof.Machine.execRead f s
  | .write f => Sys2Proof.Machine.execWrite f s
  | .segWriteStart f => Sys2Proof.Machine.execSegWriteStart f s
  | .seg f => Sys2Proof.Machine.execSeg f s
  | .segReq f => Sys2Proof.Machine.execSegReq f s
  | .abort f => Sys2Proof.Machine.execAbort f s
  | .transferTimeout path => Sys2Proof.Machine.execTransferTimeout path s
  | .alertFrameSend path => Sys2Proof.Machine.execAlertFrameSend path s
  | .alertRepeatExpiry path => Sys2Proof.Machine.execAlertRepeatExpiry path s
  | .acceptanceQueueReset => Sys2Proof.Machine.execAcceptanceQueueReset s
  | .canBusOff => Sys2Proof.Machine.execCanBusOff s
  | .canBusOffRecovery => Sys2Proof.Machine.execCanBusOffRecovery s
  | .canBusIdle => Sys2Proof.Machine.execCanBusIdle s
  | .canErrorPassive tec rec => Sys2Proof.Machine.execCanErrorPassive tec rec s
  | .networkDown linkDown => Sys2Proof.Machine.execNetworkDown linkDown s
  | .networkUp => Sys2Proof.Machine.execNetworkUp s
  | .arpRequest target sender senderMac => Sys2Proof.Machine.execArpRequest target sender senderMac s
  | .arpReply ip mac => Sys2Proof.Machine.execArpReply ip mac s
  | .icmpEchoRequest src dst m => Sys2Proof.Machine.execIcmpEchoRequest src dst m s
  | .mailboxClaim p sid v => Sys2Proof.Machine.execMailboxClaim p sid v s
  | .mailboxRelease p sid v => Sys2Proof.Machine.execMailboxRelease p sid v s
  | .mailboxDoorbell p sid v => Sys2Proof.Machine.execMailboxDoorbell p sid v s
  | .mailboxReqlenWrite p sid v => Sys2Proof.Machine.execMailboxReqlenWrite p sid v s
  | .mailboxRequestWrite p sid off o => Sys2Proof.Machine.execMailboxRequestWrite p sid off o s
  | .mailboxClaimExpiry => Sys2Proof.Machine.execMailboxClaimExpiry s
  | .mailboxInvalidAccess p write => Sys2Proof.Machine.execMailboxInvalidAccess p write s
  | .timeViewRead p off wide => Sys2Proof.Machine.execTimeViewRead p off wide s
  | .tickViewRead p off wide => Sys2Proof.Machine.execTickViewRead p off wide s
  | .extest scan => Sys2Proof.Machine.execExtest scan s
  | .idcode => Sys2Proof.Machine.execIdcode s
  | .samplePreload scan => Sys2Proof.Machine.execSamplePreload scan s
  | .clamp => Sys2Proof.Machine.execClamp s
  | .highz => Sys2Proof.Machine.execHighz s
  | .ijtagAccess sib => Sys2Proof.Machine.execIjtagAccess sib s
  | .bypass code => Sys2Proof.Machine.execBypass code s
  | .tapReset => Sys2Proof.Machine.execTapReset s
  | .jtagWriteRequestWord addr data => Sys2Proof.Machine.execJtagWriteRequestWord addr data s
  | .jtagSelectResponseWord addr => Sys2Proof.Machine.execJtagSelectResponseWord addr s
  | .jtagDoorbell reqlen => Sys2Proof.Machine.execJtagDoorbell reqlen s
  | .jtagRelease => Sys2Proof.Machine.execJtagRelease s
  | .jtagSelectRsplen => Sys2Proof.Machine.execJtagSelectRsplen s
  | .stagedQuery w v => Sys2Proof.Machine.execStagedQuery w v s
  | .discard w v => Sys2Proof.Machine.execDiscard w v s
  | .commitRequest w v => Sys2Proof.Machine.execCommitRequest w v s
  | .commitCheckDone => Sys2Proof.Machine.execCommitCheckDone s
  | .mirrorTimeout => Sys2Proof.Machine.execMirrorTimeout s
  | .commitFixTick => Sys2Proof.Machine.execCommitFixTick s
  | .commitApply => Sys2Proof.Machine.execCommitApply s
  | .commitCancel w v => Sys2Proof.Machine.execCommitCancel w v s
  | .causeClear w idx sub v => Sys2Proof.Machine.execCauseClear w idx sub v s
  | .clearAll w v => Sys2Proof.Machine.execClearAll w v s
  | .pinTest w v => Sys2Proof.Machine.execPinTest w v s
  | .retrainRequest w p v => Sys2Proof.Machine.execRetrainRequest w p v s
  | .portPllLocked p ok => Sys2Proof.Machine.execPortPllLocked p ok s
  | .sidebandInitialisationDone p ok => Sys2Proof.Machine.execSidebandInitialisationDone p ok s
  | .mainbandTrainingDone p r => Sys2Proof.Machine.execMainbandTrainingDone p r s
  | .ocapReadDone p ocap => Sys2Proof.Machine.execOcapReadDone p ocap s
  | .osetWriteDone p => Sys2Proof.Machine.execOsetWriteDone p s
  | .crinit p credits => Sys2Proof.Machine.execCrinit p credits s
  | .ostatReady p ostat => Sys2Proof.Machine.execOstatReady p ostat s
  | .trainingAttemptTimeout p => Sys2Proof.Machine.execTrainingAttemptTimeout p s
  | .sidebandAccessTimeout p => Sys2Proof.Machine.execSidebandAccessTimeout p s
  | .trainingRetry p => Sys2Proof.Machine.execTrainingRetry p s
  | .creditEpochBoundary dies => Sys2Proof.Machine.execCreditEpochBoundary dies s
  | .flitReceive p o => Sys2Proof.Machine.execFlitReceive p o s
  | .replayTimeout p => Sys2Proof.Machine.execReplayTimeout p s
  | .echo p epoch mismatch totals => Sys2Proof.Machine.execEcho p epoch mismatch totals s
  | .quiesce p => Sys2Proof.Machine.execQuiesce p s
  | .qdone p => Sys2Proof.Machine.execQdone p s
  | .quiesceTimeout p => Sys2Proof.Machine.execQuiesceTimeout p s
  | .lowPowerRequest p => Sys2Proof.Machine.execLowPowerRequest p s
  | .laneFailure p => Sys2Proof.Machine.execLaneFailure p s
  | .neighbourRetrain p => Sys2Proof.Machine.execNeighbourRetrain p s
  | .rdU32 p m => Sys2Proof.Machine.execRdU32 p m s
  | .rdU64 p m => Sys2Proof.Machine.execRdU64 p m s
  | .rdUline p m => Sys2Proof.Machine.execRdUline p m s
  | .wrU32 p m => Sys2Proof.Machine.execWrU32 p m s
  | .wrU64 p m => Sys2Proof.Machine.execWrU64 p m s
  | .wrUline p m => Sys2Proof.Machine.execWrUline p m s
  | .rdS p m => Sys2Proof.Machine.execRdS p m s
  | .rdOwn p m => Sys2Proof.Machine.execRdOwn p m s
  | .upgrade p m => Sys2Proof.Machine.execUpgrade p m s
  | .snpInv p m => Sys2Proof.Machine.execSnpInv p m s
  | .snpShr p m => Sys2Proof.Machine.execSnpShr p m s
  | .rspI p m => Sys2Proof.Machine.execRspI p m s
  | .rspS p m => Sys2Proof.Machine.execRspS p m s
  | .rspGoneC p m => Sys2Proof.Machine.execRspGoneC p m s
  | .rspGoneD p m => Sys2Proof.Machine.execRspGoneD p m s
  | .wrAck p m => Sys2Proof.Machine.execWrAck p m s
  | .gntE p m => Sys2Proof.Machine.execGntE p m s
  | .wbAck p m => Sys2Proof.Machine.execWbAck p m s
  | .errAddr p m => Sys2Proof.Machine.execErrAddr p m s
  | .errType p m => Sys2Proof.Machine.execErrType p m s
  | .errGone p m => Sys2Proof.Machine.execErrGone p m s
  | .dataUc p m => Sys2Proof.Machine.execDataUc p m s
  | .dataS p m => Sys2Proof.Machine.execDataS p m s
  | .dataE p m => Sys2Proof.Machine.execDataE p m s
  | .dataI p m => Sys2Proof.Machine.execDataI p m s
  | .sdataI p m => Sys2Proof.Machine.execSdataI p m s
  | .sdataS p m => Sys2Proof.Machine.execSdataS p m s
  | .evictC p m => Sys2Proof.Machine.execEvictC p m s
  | .wbD p m => Sys2Proof.Machine.execWbD p m s
  | .waitingRequestDecided line => Sys2Proof.Machine.execWaitingRequestDecided line s
  | .snoopAnswerTimeout line sid => Sys2Proof.Machine.execSnoopAnswerTimeout line sid s
  | .crossedWritebackTimeout line sid => Sys2Proof.Machine.execCrossedWritebackTimeout line sid s
  | .deviceRequestTimeout tag => Sys2Proof.Machine.execDeviceRequestTimeout tag s
  | .filterQuery w v => Sys2Proof.Machine.execFilterQuery w v s
  | .captureWrite => Sys2Proof.Machine.execCaptureWrite s
  | .tPingDue source => Sys2Proof.Machine.execTPingDue source s
  | .tPong p m => Sys2Proof.Machine.execTPong p m s
  | .exchangeTimeout source => Sys2Proof.Machine.execExchangeTimeout source s
  | .obsSample p m => Sys2Proof.Machine.execObsSample p m s
  | .obsChange p m => Sys2Proof.Machine.execObsChange p m s
  | .obsThru p m => Sys2Proof.Machine.execObsThru p m s
  | .obsLost p m => Sys2Proof.Machine.execObsLost p m s
  | .ppsInEdge rising violates => Sys2Proof.Machine.execPpsInEdge rising violates s
  | .ppsMiss => Sys2Proof.Machine.execPpsMiss s
  | .ppsHoldover => Sys2Proof.Machine.execPpsHoldover s
  | .slewTermExpiry => Sys2Proof.Machine.execSlewTermExpiry s
  | .atPpsLapse => Sys2Proof.Machine.execAtPpsLapse s
  | .ppsOutRise => Sys2Proof.Machine.execPpsOutRise s
  | .ppsOutFall => Sys2Proof.Machine.execPpsOutFall s
  | .tctlWrite tap ok => Sys2Proof.Machine.execTctlWrite tap ok s
  | .tctlWriteRetry tap ok => Sys2Proof.Machine.execTctlWriteRetry tap ok s
  | .servoFrame x => Sys2Proof.Machine.execServoFrame x s
  | .missedDeadline loop => Sys2Proof.Machine.execMissedDeadline loop s
  | .followingErrorExpiry loop => Sys2Proof.Machine.execFollowingErrorExpiry loop s
  | .lockLimitExpiry => Sys2Proof.Machine.execLockLimitExpiry s
  | .resume w v => Sys2Proof.Machine.execResume w v s
  | .sweepStart w v => Sys2Proof.Machine.execSweepStart w v s
  | .sliceRelease gp => Sys2Proof.Machine.execSliceRelease gp s
  | .tapJoin tap => Sys2Proof.Machine.execTapJoin tap s
  | .dispatchQueueReset p => Sys2Proof.Machine.execDispatchQueueReset p s
  | .tapEventQueueReset => Sys2Proof.Machine.execTapEventQueueReset s
  | .marginReset w v => Sys2Proof.Machine.execMarginReset w v s
  | .eyeWindowEnd g edges early late => Sys2Proof.Machine.execEyeWindowEnd g edges early late s
  | .settlingEnd g => Sys2Proof.Machine.execSettlingEnd g s
  | .decoderInputChange j a b z tick => Sys2Proof.Machine.execDecoderInputChange j a b z tick s
  | .standstillExpiry j => Sys2Proof.Machine.execStandstillExpiry j s
  | .positionLoad w j v => Sys2Proof.Machine.execPositionLoad w j v s
  | .xtrigOutPulseEnd pin => Sys2Proof.Machine.execXtrigOutPulseEnd pin s
  | .armRequest w v => Sys2Proof.Machine.execArmRequest w v s
  | .armTick => Sys2Proof.Machine.execArmTick s
  | .disarmRequest w v => Sys2Proof.Machine.execDisarmRequest w v s
  | .disarmTick => Sys2Proof.Machine.execDisarmTick s
  | .triggerTimerExpiry j => Sys2Proof.Machine.execTriggerTimerExpiry j s
  | .idleClose win => Sys2Proof.Machine.execIdleClose win s
  | .windowFreeze win => Sys2Proof.Machine.execWindowFreeze win s
  | .spillFrameStart st => Sys2Proof.Machine.execSpillFrameStart st s
  | .spillFrameEncoded st lane => Sys2Proof.Machine.execSpillFrameEncoded st lane s
  | .consumerLineReread st => Sys2Proof.Machine.execConsumerLineReread st s
  | .streamResume w st v => Sys2Proof.Machine.execStreamResume w st v s
  | .retentionWake bank => Sys2Proof.Machine.execRetentionWake bank s
  | .bankDrainDone bank => Sys2Proof.Machine.execBankDrainDone bank s
  | .bankEntryDone bank => Sys2Proof.Machine.execBankEntryDone bank s
  | .bankWakeDone bank => Sys2Proof.Machine.execBankWakeDone bank s
  | .bankZeroingDone bank => Sys2Proof.Machine.execBankZeroingDone bank s
  | .bankSupplyFault bank => Sys2Proof.Machine.execBankSupplyFault bank s
  | .bankTransitionOvertime bank => Sys2Proof.Machine.execBankTransitionOvertime bank s
  | .backgroundStepStart => Sys2Proof.Machine.execBackgroundStepStart s
  | .backgroundPhaseDone r => Sys2Proof.Machine.execBackgroundPhaseDone r s
  | .vaultWipe => Sys2Proof.Machine.execVaultWipe s
  | .vaultWipeDone => Sys2Proof.Machine.execVaultWipeDone s
  | .jobTailWrite w v => Sys2Proof.Machine.execJobTailWrite w v s
  | .jobStart cache => Sys2Proof.Machine.execJobStart cache s
  | .jobComplete slot r => Sys2Proof.Machine.execJobComplete slot r s
  | .jobWatchdogExpiry slot => Sys2Proof.Machine.execJobWatchdogExpiry slot s
  | .jobFlush w v => Sys2Proof.Machine.execJobFlush w v s
  | .demandUpdate => Sys2Proof.Machine.execDemandUpdate s
  | .ropeFrameSend => Sys2Proof.Machine.execRopeFrameSend s
  | .ropeFrameReceive o => Sys2Proof.Machine.execRopeFrameReceive o s
  | .ropeLossOfSignal lanes => Sys2Proof.Machine.execRopeLossOfSignal lanes s
  | .ropeLossTimeout => Sys2Proof.Machine.execRopeLossTimeout s
  | .setBegin o => Sys2Proof.Machine.execSetBegin o s
  | .setRec o => Sys2Proof.Machine.execSetRec o s
  | .setEnd o => Sys2Proof.Machine.execSetEnd o s
  | .setAck o => Sys2Proof.Machine.execSetAck o s
  | .boundary o => Sys2Proof.Machine.execBoundary o s
  | .timeSync o => Sys2Proof.Machine.execTimeSync o s
  | .adj o => Sys2Proof.Machine.execAdj o s
  | .delayedAdjApply => Sys2Proof.Machine.execDelayedAdjApply s
  | .step o => Sys2Proof.Machine.execStep o s
  | .confirm o => Sys2Proof.Machine.execConfirm o s
  | .srcstat o => Sys2Proof.Machine.execSrcstat o s
  | .arm o => Sys2Proof.Machine.execArm o s
  | .disarm o => Sys2Proof.Machine.execDisarm o s
  | .trigSnap o => Sys2Proof.Machine.execTrigSnap o s
  | .ckpt o => Sys2Proof.Machine.execCkpt o s
  | .train o => Sys2Proof.Machine.execTrain o s
  | .portstat o => Sys2Proof.Machine.execPortstat o s
  | .handover o => Sys2Proof.Machine.execHandover o s
  | .progress o => Sys2Proof.Machine.execProgress o s
  | .campResendTimeout => Sys2Proof.Machine.execCampResendTimeout s
  | .heartbeatExpiry => Sys2Proof.Machine.execHeartbeatExpiry s
  | .refLoss => Sys2Proof.Machine.execRefLoss s
  | .handoverRequest w v => Sys2Proof.Machine.execHandoverRequest w v s
  | .handoverYield => Sys2Proof.Machine.execHandoverYield s
  | .transitionRequest w v => Sys2Proof.Machine.execTransitionRequest w v s
  | .fuseBurnDone ok => Sys2Proof.Machine.execFuseBurnDone ok s
  | .sessionRequest w v => Sys2Proof.Machine.execSessionRequest w v s
  | .sessionClose w v => Sys2Proof.Machine.execSessionClose w v s
  | .sessionResponse w o => Sys2Proof.Machine.execSessionResponse w o s
  | .challengeExpiry path => Sys2Proof.Machine.execChallengeExpiry path s
  | .sessionIdleExpiry path => Sys2Proof.Machine.execSessionIdleExpiry path s
  | .backoffExpiry path => Sys2Proof.Machine.execBackoffExpiry path s
  | .integratorKeyWrite w o => Sys2Proof.Machine.execIntegratorKeyWrite w o s
  | .fuseProgrammingDone ok => Sys2Proof.Machine.execFuseProgrammingDone ok s
  | .operatorKeyWrite w o => Sys2Proof.Machine.execOperatorKeyWrite w o s
  | .sealedRecordWrite w n o => Sys2Proof.Machine.execSealedRecordWrite w n o s
  | .tamperEvent t0 t1 => Sys2Proof.Machine.execTamperEvent t0 t1 s
  | .tamperRelease t0 t1 => Sys2Proof.Machine.execTamperRelease t0 t1 s
  | .entropyHealthFailure => Sys2Proof.Machine.execEntropyHealthFailure s
  | .entropyHealthPass => Sys2Proof.Machine.execEntropyHealthPass s

end Sys2Proof.Machine
end

