-- ==== Sys2Proof/Machine/Step.lean ====
section
/-! DEFINITION. Sys2Proof/Machine/Step.lean: one step of the block: the command at the front of the queue, or one nanosecond. -/
namespace Sys2Proof.Machine

/-- One step: the command that has waited longest takes effect, with the queue's rest; on an empty queue 1 ns passes, a tick
where the tick counter runs (R451, R453), and nothing else happens. [DESIGN CHOICE, log entry 1; DESIGN CHOICE, log entry 3] -/
def step (s : State) : Host.Outcome State Fault Refusal :=
  match s.pending with
  | [] => s.ends (s.elapse 1)
  | c :: q => exec c { s with pending := q }

/-- The state with the command that a word spells at the front of its queue. [DESIGN CHOICE, log entry 10] -/
def State.withFetchWord (s : State) (nbits w : Nat) : State :=
  match decodeTableWord nbits w with
  | some c => { s with pending := c :: s.pending }
  | none => s

end Sys2Proof.Machine
end

