-- ==== Sys2Proof/Machine/Pins.lean ====
section
/-! DEFINITION. Sys2Proof/Machine/Pins.lean: the levels of the device's outputs as the package sees them (Tables 1.5, 2.2 and 4.13). -/
namespace Sys2Proof.Machine

/-- The outputs of Table 2.2 and of the UCIe modules, and the probe pins of Table 1.5, PRB_CLK the last. -/
inductive OutPin where
  | refclk (n : Fin 8)
  | prst (n : Fin 8)
  | alertN | ppsOut
  | xtrigOut (n : Fin 4)
  | clkmonOut | spiClk | spiCsN
  | spiIo (n : Fin 4)
  | canTxd
  | rmiiTxd (n : Fin 2)
  | rmiiTxEn | mdc | mdio | tdo
  | ropeTx (n : Fin 4)
  | lanes (p : Fin 6)
  | sideband (p : Fin 6)
  | probe (n : Fin 65)
deriving DecidableEq, Repr

/-! ### The fan-out (R35, R136, R188, R192, R193) -/

/-- The device drives the shared fan-out: a single device always; in a pair package only a Lead, and never in reset (R34, R35, R53). -/
def State.drivesFanout (s : State) : Bool := if s.up then s.acts else !s.power.pairPres

/-- The first rising, and the first falling, edge of REF at or after a real time. [DESIGN CHOICE, log entry 50] -/
def risingEdge (t : Nat) : Nat := roundUp t 10
def fallingEdge (t : Nat) : Nat := roundUp (t + 5) 10 - 5

/-- REFCLK_OUT[n] runs: a line starts at a rising edge and stops at a falling one (R136, R188). -/
def State.refclkRuns (s : State) (n : Nat) : Bool :=
  let b := s.boot
  if bit b.refclk n then bit b.refclkOld n || decide (risingEdge b.fanAt ≤ s.now)
  else bit b.refclkOld n && decide (s.now < fallingEdge b.fanAt)

/-- PRST_N_OUT[n] is released: at a rising edge of REF, and driven low at once (R189, R192). -/
def State.prstHigh (s : State) (n : Nat) : Bool :=
  bit s.boot.prst n && (bit s.boot.prstOld n || decide (risingEdge s.boot.fanAt ≤ s.now))

/-- REFCLK_OUT[n] (Table 4.13). -/
def State.refclkPin (s : State) (n : Nat) : PinLevel :=
  if !s.drivesFanout then .z else if s.refclkRuns n then .runs else .low

/-- PRST_N_OUT[n] (Table 4.13). -/
def State.prstPin (s : State) (n : Nat) : PinLevel :=
  if !s.drivesFanout then .z else if s.prstHigh n then .high else .low

/-! ### The other outputs -/

/-- A level from a flag. -/
def driveOf (high : Bool) : PinLevel := if high then .high else .low

/-- ALERT_N, an open-drain output (R340). -/
def State.alertPin (s : State) : PinLevel := if s.alertN then .low else .z

/-- PPS_OUT: low from reset until step 12, and on a Second (R490, Table 19.1). -/
def State.ppsPin (s : State) : PinLevel := driveOf (s.acts && s.time.ptRun && s.time.outHigh)

/-- The SPI pins: driven at step 7 and during saves (Table 4.13). -/
def State.spiPin (s : State) : PinLevel := if decide (s.boot.step = 7) || s.saving then .runs else .z

/-- CAN_TXD: recessive from step 8 on, but for the frames it sends (R295); high-impedance before (Table 4.13). -/
def State.canPin (s : State) : PinLevel := if 8 ≤ s.boot.step then .high else .z

/-- MDC: runs from step 8 on while 10BASE-T1S is enabled (R295). -/
def State.mdcPin (s : State) : PinLevel := if decide (8 ≤ s.boot.step) && s.b 0x1110 1 then .runs else .low

/-- The Rope transmitters: electrical idle, shown as high impedance, during reset and steps 1 to 3, and in role SINGLE (R747). -/
def State.ropePin (s : State) : PinLevel := if decide (4 ≤ s.boot.step) && decide (s.pair.role ≠ 0) then .runs else .z

/-- Die-to-die lanes and sideband of a port: high-impedance in reset, before step 11, and while the port is DISABLED (R391, Table 4.13).
[DEDUCED, log entry 50] -/
def State.lanePin (s : State) (p : Nat) : PinLevel :=
  if decide (11 ≤ s.boot.step) && decide ((s.port p).st ≠ 0) && decide ((s.port p).st ≠ 1) then .runs else .z

/-- The supply of an output is there (Table 2.2). [DESIGN CHOICE, log entry 29] -/
def State.powered (s : State) (o : OutPin) : Bool :=
  match o with
  | .rmiiTxd _ | .rmiiTxEn | .mdc | .mdio => s.power.rmiiUp
  | .ropeTx _ | .lanes _ | .sideband _ => s.power.lnkUp
  | .probe _ => s.power.prbUp
  | _ => s.power.vddioUp

/-- What the device's own function drives on an output; idle buses show their idle level. -/
def State.ownLevel (s : State) (o : OutPin) : PinLevel :=
  match o with
  | .refclk n => s.refclkPin n.val
  | .prst n => s.prstPin n.val
  | .alertN => s.alertPin
  | .ppsOut => s.ppsPin
  | .xtrigOut n => driveOf (bit s.xoutPins n.val)
  | .clkmonOut => s.clkmonPin
  | .spiClk | .spiCsN | .spiIo _ => s.spiPin
  | .canTxd => s.canPin
  | .rmiiTxd _ | .rmiiTxEn => .low
  | .mdc => s.mdcPin
  | .mdio | .tdo | .probe _ => .z
  | .ropeTx _ => s.ropePin
  | .lanes p | .sideband p => s.lanePin p.val

/-! ### The TAP's hold on the pins (R284) -/

/-- The boundary register covers an output: the LVCMOS, OD and ST pins other than those of JTAG (R284). -/
def scanned (o : OutPin) : Bool :=
  match o with
  | .tdo | .ropeTx _ | .lanes _ | .sideband _ | .probe _ => false
  | _ => true

/-- The number by which the boundary register knows an output. -/
def outNumber (o : OutPin) : Nat :=
  match o with
  | .refclk n => n.val
  | .prst n => 8 + n.val
  | .alertN => 16
  | .ppsOut => 17
  | .xtrigOut n => 18 + n.val
  | .clkmonOut => 22
  | .spiClk => 23
  | .spiCsN => 24
  | .spiIo n => 25 + n.val
  | .canTxd => 29
  | .rmiiTxd n => 30 + n.val
  | .rmiiTxEn => 32
  | .mdc => 33
  | .mdio => 34
  | .tdo => 35
  | .ropeTx n => 36 + n.val
  | .lanes p => 40 + p.val
  | .sideband p => 46 + p.val
  | .probe n => 52 + n.val

/-- An output as the boundary register drives it; which two of its cells hold the level and the enable is open, and an open-drain output
drives low only. [DESIGN CHOICE, log entry 9; DESIGN CHOICE, log entry 21] -/
def State.boundaryLevel (s : State) (o : OutPin) : PinLevel :=
  let cells := Config.boundaryCells (outNumber o)
  let reg := leNat s.acc.boundary
  if !bit reg (cells.2 % 90) then .z
  else if bit reg (cells.1 % 90) then (if o = .alertN then .z else .high) else .low

/-- A high PAIR_PRES keeps the fan-out high-impedance under every instruction (R53, R284). -/
def State.fanoutBarred (s : State) (o : OutPin) : Bool :=
  match o with
  | .refclk _ | .prst _ => s.power.pairPres
  | _ => false

/-- EXTEST, CLAMP and HIGHZ drive the pins while RESET_N is low (R284). -/
def State.tapDrives (s : State) (o : OutPin) : Bool :=
  s.power.pinHeld && scanned o && (decide (s.acc.tapIr = 0) || decide (s.acc.tapIr = 4) || decide (s.acc.tapIr = 5))

/-- The level of an output (Tables 1.5, 2.2 and 4.13). -/
def State.pinLevel (s : State) (o : OutPin) : PinLevel :=
  if !s.powered o then .undriven
  else if !s.tapDrives o then s.ownLevel o
  else if s.acc.tapIr = 5 ∨ s.fanoutBarred o then .z
  else s.boundaryLevel o

end Sys2Proof.Machine
end

