-- ==== Sys2Proof/Safety.lean ====
section
/-! DEFINITION. Sys2Proof/Safety.lean: the terms that statements about the machine use: what a command leaves alone, that it
completes, that an access is accepted, and the condition that holds between any two commands. -/
namespace Sys2Proof

open Sys2Proof.Machine

/-! ### What a command leaves alone -/

/-- The parts of the state, apart from the queue, that a command may leave alone as a whole. The objects of the dictionary are not
among them: a frame names each object. -/
inductive Part where
  | out | free | now | staged | badWords | written | locked | power | clk | boot | commit | acc | latch | sec | ports | coh | time
  | belay | probe | sig | trig | pair | mem | sto | comp
deriving DecidableEq, Repr

/-- A path apart from what every command may change in it: that an ALERT frame is due, and the branches risen since the last
one (R264, R265). -/
def quietPath (x : PathSt) : PathSt := { x with due := false, risen := 0 }

/-- A part of the state is the same in two states. The access part leaves out the ALERT frames that are due (R264), and the part
`latch`, the always-on latch and its masks, the level that ALERT_N is driven to (R340) and the records of the present MGT cycle (R338). -/
def Part.same (p : Part) (s t : State) : Prop :=
  match p with
  | .out => t.out = s.out
  | .free => t.free = s.free
  | .now => t.now = s.now
  | .staged => t.staged = s.staged
  | .badWords => t.badWords = s.badWords
  | .written => t.written = s.written
  | .locked => t.locked = s.locked
  | .power => t.power = s.power
  | .clk => t.clk = s.clk
  | .boot => t.boot = s.boot
  | .commit => t.commit = s.commit
  | .acc => { t.acc with path := [] } = { s.acc with path := [] } ∧ ∀ k, quietPath (t.path k) = quietPath (s.path k)
  | .latch => t.alerts.latch = s.alerts.latch ∧ t.alerts.badParity = s.alerts.badParity ∧ t.alerts.masks = s.alerts.masks
  | .sec => t.sec = s.sec
  | .ports => t.ports = s.ports
  | .coh => t.coh = s.coh
  | .time => t.time = s.time
  | .belay => t.belay = s.belay
  | .probe => t.probe = s.probe
  | .sig => t.sig = s.sig
  | .trig => t.trig = s.trig
  | .pair => t.pair = s.pair
  | .mem => t.mem = s.mem
  | .sto => t.sto = s.sto
  | .comp => t.comp = s.comp

/-- The parts outside `parts` stay, and so does the queue. -/
def KeepsParts (parts : List Part) (s t : State) : Prop := t.pending = s.pending ∧ ∀ p, p ∉ parts → p.same s t

/-- The objects outside `objs` keep their values. The counter of ALERT_N's assertions (F018h:17) follows the tree at the end of
every command (R340) and is left out throughout. -/
def KeepsObjects (objs : List (Nat × Nat)) (s t : State) : Prop :=
  ∀ idx sub, sub < 256 → (idx, sub) ∉ objs → (idx, sub) ≠ (0xF018, 17) → t.val idx sub = s.val idx sub

/-- The command completes: it has a next state, which holds what `P` says, and it changes nothing but the parts `parts` and the
objects `objs`. -/
def Completes (c : Instr) (s : State) (parts : List Part) (objs : List (Nat × Nat)) (P : State → Prop) : Prop :=
  ∃ t, exec c s = .next t ∧ KeepsParts parts s t ∧ KeepsObjects objs s t ∧ P t

/-- The command completes: it has a next state, which holds what `P` says, and it changes no part but the parts `parts`. -/
def CompletesWithin (c : Instr) (s : State) (parts : List Part) (P : State → Prop) : Prop :=
  ∃ t, exec c s = .next t ∧ KeepsParts parts s t ∧ P t

/-- The objects that raising a cause of a branch may change: its cause object, the counter of its events, and that of the clears which an
event of their MGT cycle overtakes (R333, R338, R343). -/
def causeObjects (br : Nat) : List (Nat × Nat) := [(0x2101 + br, 0), (0xF018, br + 1), (0xF018, 18)]

/-- The bits of a cause word that events have set in the present MGT cycle: a clear of that cycle leaves them set (R338). -/
def raisedNow (s : State) (idx sub : Nat) : Nat := mgetD s.alertCycle.alerts.raised (key idx sub) 0

/-- What a reset leaves (Table 4.2): the boot has not begun, 2010h:0 holds the code of the kind, and the staged set, the lock, the
commit engine, the ports, the coherence agents, the time base, the Belay engine, the sequencer, the writer and the engine are as
after power-on. The queue, the real time and what has been handed outward stay. -/
def Cleared (code : Nat) (s t : State) : Prop :=
  t.boot.step = 0 ∧ t.val 0x2010 0 = .num code ∧ t.staged = [] ∧ t.locked = false ∧ t.commit = {} ∧ t.ports = [] ∧ t.coh = {} ∧
    t.time = {} ∧ t.belay = {} ∧ t.trig = {} ∧ t.sto = {} ∧ t.comp = {} ∧ t.mem.cells = [] ∧
    t.pending = s.pending ∧ t.now = s.now ∧ t.out = s.out

/-! ### Accepted accesses -/

/-- The command's write reaches the dictionary over a path without an open transfer (R247, R260). -/
def Served (s : State) (w : Who) : Prop := s.reaches w = true ∧ (s.path (pathNo w.path)).xfer = none

/-- The command's write is served, no word of the object's stored value is known to be bad, and no check of Table 5.5 refuses it (R231,
R245, R260). -/
def Accepted (s : State) (w : Who) (idx sub n : Nat) : Prop :=
  s.reaches w = true ∧ (s.path (pathNo w.path)).xfer = none ∧ s.knownBad idx sub = false ∧
    (s.serveWrite (pathNo w.path) (s.requester w) idx sub (operand idx sub n) none).1 = 0

/-- Neither Lead nor Second, no completion of a coherence request waits for its unit, no request of a unit waits for its place and no
REQ message for the tracker: nothing but the command itself acts at its end. -/
def Alone (s : State) : Prop := s.pair.role ≠ 2 ∧ s.pair.role ≠ 3 ∧ s.coh.done = [] ∧ s.coh.devWait = [] ∧ s.coh.inbox = []

/-- The objects that every accepted write counts in: accesses, writes and sessions closed for idleness (F000h:1, F000h:3,
F098h:3). -/
def accessObjects : List (Nat × Nat) := [(0xF000, 1), (0xF000, 3), (0xF098, 3)]

/-- The counter of the REF cycles that the time base has bridged, which the passing of time may move on (R453, F050h:16). -/
def clockObjects : List (Nat × Nat) := [(0xF050, 16)]

/-! ### EOP frames -/

/-- A frame reaches the management core, which is free, before the transfer timeout and the claim limit of its path expire (R262, R268,
R269, R271, R276, R277, R281, R285, R288): its path, its requester, and the state in which its command is handled. -/
def Heard (s : State) (f : Frame) (p req : Nat) (u : State) : Prop :=
  s.acc.queue = [] ∧ f.waits = false ∧ f.queueFull = false ∧ f.parityOk = true ∧ s.xferLate p = false ∧
  match f.via with
  | .can id ext _ _ =>
    f.remote = false ∧ s.pathUp 1 = true ∧ ext = true ∧ bits id.toNat 24 5 = 0x1A ∧ bits id.toNat 16 8 = 1 ∧ bits id.toNat 8 8 = s.acc.canNode ∧
      bits id.toNat 0 8 ≠ 0 ∧ bits id.toNat 0 8 ≠ 255 ∧ bits id.toNat 0 8 ≠ s.acc.canNode ∧
      p = 1 ∧ req = bits id.toNat 0 8 ∧ u = s.bump 0xF008 1 1
  | .udp src dst sport dport clean =>
    s.pathUp 2 = true ∧ dst.toNat = s.ownIp ∧ clean = true ∧ dport.toNat = s.n 0x1110 6 ∧ (s.nextHop src.toNat).isSome = true ∧
      p = 2 ∧ req = src.toNat + sport.toNat * 2 ^ 32 ∧ u = s.bump 0xF008 5 1
  | .mailbox q sid =>
    s.pathUp 3 = true ∧ (s.port q.val).admitted = true ∧ s.acc.owner.map (fun o => (o.1, o.2.1)) = some (q.val, sid.toNat) ∧
      s.acc.mbStatus ≠ 1 ∧ s.late .mgt s.acc.claimAt s.claimLimit = false ∧ p = 3 ∧ req = s.ownerWord ∧ u = { s with acc := { s.acc with mbStatus := 1, claimAt := s.now } }
  | .jtag => s.pathUp 4 = true ∧ p = 4 ∧ req = 0 ∧ u = { s with acc := { s.acc with jtagState := 1 } }

/-- A frame of the device has left in `t` on the carrier of a request, as state `v` sends it: on CAN to the requester's node
(R271), in a datagram with DF set to its address and port or waiting for the next hop (R276, R277), or as the response of the mailbox
(R281, R285). -/
def Answered (c : Carrier) (o : Octets) (v t : State) : Prop :=
  match c with
  | .can id _ fd brs =>
    v.acc.canState = 1 ∨ v.acc.canState = 2 →
      .can (0x1A020000 + bits id.toNat 0 8 * 2 ^ 8 + bits id.toNat 8 8) fd brs (octAt o 0 (dlcLen o.length)) ∈ t.out
  | .udp src dst sport dport _ =>
    v.acc.netDown = false → (v.nextHop src.toNat).isSome = true →
      .ip ⟨src.toNat, sport.toNat, dst.toNat, dport.toNat, o, false⟩ true ∈ t.out ∨
        ⟨src.toNat, sport.toNat, dst.toNat, dport.toNat, o, false⟩ ∈ t.acc.arpWait
  | .mailbox _ _ => t.acc.response = o ∧ t.acc.rspLen = o.length ∧ t.acc.mbStatus = 2
  | .jtag => t.acc.jtagRsp = o ∧ t.acc.jtagRspLen = o.length ∧ t.acc.jtagState = 2

/-- An ALERT frame of a path has left in `t` (R264, R265): SUMMARY, the branches risen since the last one, and the next ALSEQ. -/
def AlertLeft (s t : State) (p : Nat) : Prop :=
  let x := s.path p
  let sum := s.summary % 65536
  let o := leBytes 1 0xA0 ++ leBytes 1 x.alseq ++ leBytes 2 sum ++ leBytes 2 ((if x.alertAt.isNone then x.risen ||| sum else x.risen) % 65536)
  t.path p = { x with alseq := (x.alseq + 1) % 256, sent := sum, risen := 0, due := false, alertAt := some t.now } ∧
    t.z 0xF008 11 = min (s.z 0xF008 11 + 1) (2 ^ 32 - 1) ∧
    (p = 1 → .can (0x1A03FF00 + s.acc.canNode) (s.b 0x1100 3) (s.b 0x1100 3) (octAt o 0 (dlcLen o.length)) ∈ t.out) ∧
    (p = 2 → s.acc.netDown = false → (s.nextHop (s.z 0x1110 7)).isSome = true →
      .ip ⟨s.z 0x1110 7, s.n 0x1110 8, s.ownIp, s.n 0x1110 6, o, false⟩ true ∈ t.out ∨
        ⟨s.z 0x1110 7, s.n 0x1110 8, s.ownIp, s.n 0x1110 6, o, false⟩ ∈ t.acc.arpWait) ∧
    (p = 3 → t.acc.mbAlert = x.alseq + sum * 65536)

/-! ### Ports -/

/-- A training attempt of port p, whose link was `x`, has failed with a result (R358, R363): another is due after 100 µs, or the port is
FAILED with LINK cause TRAIN of the port. -/
def AttemptFailed (s t : State) (p : Nat) (x : PortSt) (result : Nat) : Prop :=
  (x.attempt < s.n 0x7007 0 →
    t.port p = { freshLink x 2 with result := result, attempt := x.attempt, retryAt := some (t.now + 100000) }) ∧
  (s.n 0x7007 0 ≤ x.attempt →
    t.port p = { freshLink x 9 with result := result, attempt := x.attempt } ∧ (s.mgtFast = true → bit (t.z 0x2140 (p + 1)) 0 = true)) ∧
  t.z 0xF040 (16 * p + 8) = min (s.z 0xF040 (16 * p + 8) + 1) (2 ^ 32 - 1)

/-- Training of port p starts from phase 1 with its first attempt (R358). -/
def Trains (t : State) (p : Nat) : Prop := (t.port p).st = 2 ∧ (t.port p).phase = 1 ∧ (t.port p).attempt = 1

/-- Port p has left service without a commit and trains again, with its cause DOWN (R387). -/
def WentDown (s t : State) (p : Nat) : Prop := Trains t p ∧ (s.mgtFast = true → bit (t.z 0x2140 (p + 1)) 5 = true)

/-! ### Olelle messages -/

/-- A coherence message reaches its consumer: the port is linked, no fault of R374 discards the message, and no conflict of its FAB cycle
waits for its end (R416, R417). -/
def Arrives (s : State) (p vc opc : Nat) (m : CohMsg) : Prop :=
  (s.port p).linked = true ∧ s.msgFault p (coherent vc opc m) (msgLen (coherent vc opc m)) = false ∧
    (s.coh.waiting.any fun w => w.group) = false

/-- The device has sent a message on port p, or holds it for want of credits (R375). -/
def Sent (t : State) (p : Nat) (x : LinkMsg) : Prop := .msg p x ∈ t.out ∨ x ∈ (t.port p).txq

/-- No transaction runs on the line, no request waits for it, and its entry is not recalling. -/
def LineQuiet (s : State) (line : Nat) : Prop :=
  s.txn line = none ∧ (∀ w ∈ s.coh.waiting, w.line ≠ line) ∧ s.recalls line = false

/-- A well-formed request for an offset of the capture region reaches the home, on a quiet line outside every recall zone; the region
starts at a line. -/
def Requests (s : State) (p opc : Nat) (m : CohMsg) (off : Nat) : Prop :=
  Alone s ∧ Arrives s p 0 opc m ∧ (s.port p).st ≠ 7 ∧ msgLen (coherent 0 opc m) = reqLen opc ∧
    (lineOpcode opc = true → m.addr.toNat % 64 = 0) ∧ misaligned (coherent 0 opc m) = false ∧ s.windowOff m.addr.toNat = none ∧
    s.region m.addr.toNat = some off ∧ s.n 0x7800 1 % 64 = 0 ∧ m.more = false ∧ LineQuiet s (s.lineAddr off) ∧ s.inZone off = false

/-- The snoops that a request awaits on a line: the request, and each agent with whether it shall invalidate. -/
def Snoops (t : State) (line : Nat) (x : LinkMsg) (sids : List Nat) (inv : Bool) : Prop :=
  ∃ y, t.txn line = some y ∧ y.req = some x ∧ y.snoops.map (fun z => (z.sid, z.inv)) = sids.map fun h => (h, inv)

/-- Octets stored from an offset of the capture region, and every other octet as it was. -/
def Stores (s t : State) (off : Nat) (o : Octets) : Prop :=
  (∀ i, i < o.length → some (cellGet t.mem.cells (off + i)) = o[i]?) ∧
    ∀ a, a < off ∨ off + o.length ≤ a → cellGet t.mem.cells a = cellGet s.mem.cells a

/-- The command ends like `u` once the units have taken their completions and the pair has followed. -/
def EndsAs (c : Instr) (s u : State) : Prop := ∃ t, exec c s = .next t ∧ .next t = s.ends u.settle

/-- Neither the heartbeat limit nor the resend time of the camp channel has passed (R751, R763). -/
def RopeInTime (s : State) : Prop :=
  (s.pair.hbRun = true → s.time.tick ≤ s.pair.frameAt + s.n 0x8002 1) ∧ (s.pair.unacked ≠ [] → s.time.tick ≤ s.pair.ackTick + 256)

/-! ### Samples -/

/-- The package time that the stamp of an OBS message names, nearest to the present (R469), with no step outstanding. -/
def stampTime (s : State) (m : ObsMsg) : Int :=
  let st := m.stamp.toNat
  let v : Int := bits st 46 2 * secUnits + bits st 16 30 * 2 ^ 32 + bits st 0 16 * 65536
  (s.time.pt : Int) + nearDiff (v - s.time.pt) (4 * secUnits)

/-- The tick of the n-th sample of an OBS message (R470, R471). -/
def sampleTick (s : State) (i : Nat) (m : ObsMsg) (n : Nat) : Nat :=
  s.tickOfTime (stampTime s m + n * (intervalNs (s.tap i).interval * 2 ^ 32))

/-- An OBS message of a kind (1 SAMPLE, 2 CHANGE, 3 THRU, 4 LOST) is for tap entry i: its entry counts, and its source has SET with the
EPOCH of the message and no step outstanding. -/
def ForTap (s : State) (p kind : Nat) (m : ObsMsg) (i : Nat) : Prop :=
  Alone s ∧ (s.port p).linked = true ∧ s.msgFault p (obsMsg kind m) (msgLen (obsMsg kind m)) = false ∧
    s.obsEntry p m.sid.toNat m.tap.toNat = some i ∧ (s.tap i).tctl = true ∧ (s.tap i).ready = true ∧
    (∃ j ∈ s.tapSource i, (s.src j).set = true ∧ (s.src j).step = none ∧ (s.src j).epoch = m.epoch.toNat)

/-- An OBS message for tap entry i is taken: the entry's queue has room for it, and no rule of R469 or R485 is broken. -/
def Observed (s : State) (p kind : Nat) (m : ObsMsg) (i : Nat) : Prop :=
  ForTap s p kind m i ∧ (s.tap i).hasRoom s.time.tick m = true ∧
    m.headerBad = false ∧ (tapChange (s.tapEntry i) || kind == 1 || kind == 4) = true ∧
    obsLenOk kind (widthBits (s.tap i).width / 8) m = true ∧ stampTime s m ≤ s.time.pt + 4096 * 2 ^ 32 ∧
    (∀ c ∈ (s.tap i).covTime, (c : Int) < stampTime s m / 65536) ∧
    ∀ n, n ≤ (if kind = 1 then m.count.toNat else 0) → (s.tap i).join ≤ sampleTick s i m n

/-! ### Between any two commands -/

/-- ALERT_N is driven exactly as R340 says, and the summary that the ALERT frames have seen is the summary of the tree (R264). -/
def AlertsFollow (s : State) : Prop := s.alerts.driven = s.alertN ∧ s.alerts.summary = s.summary

/-- A run is safe as long as no command ends in a fault or a refusal. -/
def Safe (s : State) : Prop := ∃ t, step s = .next t

end Sys2Proof
end

