-- ==== Sys2Proof/Certificates/Slice0/Obligations.lean ====
section
/-! DEFINITION. Sys2Proof/Certificates/Slice0/Obligations.lean: what is claimed of the model, one definition for each claim. -/

open Sys2Proof Sys2Proof.Machine

/-! ### The machine as a whole -/

/-- A step takes the command at the front of the queue and runs it with the queue's rest. -/
def Obligations.StepRunsTheFrontCommand : Prop :=
  ∀ (c : Instr) (q : List Instr) (s : State), step { s with pending := c :: q } = exec c { s with pending := q }

/-- With no command waiting, one nanosecond passes (DESIGN CHOICE, log entry 1): real time moves on, the queue stays empty, and
package time and the tick counter stand while the time base does not run. -/
def Claims.IdleStepLetsTimePass : Prop :=
  ∀ s : State, s.pending = [] → ∃ t, step s = .next t ∧ t.now = s.now + 1 ∧ t.pending = [] ∧
    (s.time.tickRun = false → t.time = s.time) ∧
    (s.time.tickRun = true → s.time.bridging = false → t.time.tick = s.time.tick + 1)

/-- No step ends in a fault or a refusal: whatever the state, the next step has a next state, and the queue has lost exactly its
front. -/
def Claims.NoStepStops : Prop :=
  ∀ s : State, ∃ t, step s = .next t ∧ t.pending = s.pending.tail

/-- After every step ALERT_N is driven exactly as the rule says, and the summary that the ALERT frames follow is that of the
tree (R264, R331, R340): the invariant holds after a step from any state that satisfies it. -/
def Obligations.AlertPinFollowsTheTree : Prop :=
  ∀ s t : State, AlertsFollow s → step s = .next t → AlertsFollow t

/-- At power-on the alert pin follows the tree, POR is asserted, the boot has not begun, the summary is zero, nothing is staged, class K is
not locked, no command waits, and capture memory lists nothing. -/
def Obligations.PowerOnState : Prop :=
  AlertsFollow State.reset ∧ State.reset.power.por = true ∧ State.reset.boot.step = 0 ∧ State.reset.summary = 0 ∧
    State.reset.staged = [] ∧ State.reset.locked = false ∧ State.reset.mem.cells = [] ∧ State.reset.mem.wf = true ∧
    State.reset.pending = [] ∧ ∀ o, State.reset.pinLevel o = .undriven

/-- Every step has a next state that has lost exactly the front of the queue, and with no command waiting one nanosecond passes. -/
def Obligations.StepsAlwaysComplete : Prop := Claims.NoStepStops ∧ Claims.IdleStepLetsTimePass

/-! ### Supplies, resets and temperature (Chapters 2 and 4) -/

/-- A supply below its falling threshold for 1 µs or more asserts POR; RESET_N low for 1.2 µs or more causes a pin reset, unless POR or a
thermal trip stands; a thermal trip enters the pin-reset state. Each leaves boot step 0, its code in 2010h:0 and, of what Table 4.2 clears,
the staged set, the lock, the commit engine, the ports, the coherence agents, the time base, the Belay engine, the sequencer, the writer,
the compression engine and the capture memory as after power-on; the queue, the real time and what has been handed outward stay. -/
def Obligations.ResetsClearTheDevice : Prop :=
  ∀ s : State,
    (∀ rail ns, 1000 ≤ ns → ∃ t, exec (.supplyMonitorTrip rail ns) s = .next t ∧ Cleared 0 s t ∧ t.power.por = true) ∧
    (∀ ns, 1200 ≤ ns → s.power.por = false → s.power.tripHeld = false →
      ∃ t, exec (.pinReset ns) s = .next t ∧ Cleared 1 s t ∧ t.power.pinHeld = true) ∧
    (s.power.por = false → s.power.tripHeld = false →
      ∃ t, exec .thermalTrip s = .next t ∧ Cleared 3 s t ∧ t.power.tripHeld = true ∧ t.power.tripped = true)

/-- POR is released 1.0 ms after its assertion at the earliest, on a device below 132 °C whose RESET_N is high, with the straps as they are
then; RESET_N high, or a temperature below 115 °C after a trip, releases the device where nothing else holds it in reset. Each begins boot
step 1. -/
def Obligations.ReleasesBeginTheBoot : Prop :=
  ∀ s : State,
    (∀ temp, s.power.por = true → s.power.pinHeld = false → temp < 132 →
      ∃ t, exec (.porRelease temp true) s = .next t ∧ t.power.por = false ∧ t.boot.step = 1 ∧ t.boot.releasedAt = t.now ∧
        t.now = max s.now (s.power.porAt + 1000000) ∧ t.power.bootRoleSel = s.power.roleSel ∧
        t.power.bootPairPres = s.power.pairPres) ∧
    (s.power.pinHeld = true → s.power.por = false → s.power.tripHeld = false → s.boot.step = 0 →
      CompletesWithin .pinResetRelease s [.power, .boot, .latch] fun t => t.power.pinHeld = false ∧ t.boot.step = 1) ∧
    (∀ temp, temp < 115 → s.power.tripHeld = true → s.power.por = false → s.power.pinHeld = false → s.boot.step = 0 →
      CompletesWithin (.thermalTripRecovery temp) s [.power, .boot, .latch] fun t =>
        t.power.tripHeld = false ∧ t.power.therm = false ∧ t.boot.step = 1)

/-- At 120 °C PWR cause THERM is set and its condition holds, and a point above OP3 that stands is left downward; below 115 °C the
condition ends and the cause stays. A change of a strap outside POR sets PWR cause STRAP and leaves the booted role. -/
def Claims.TemperatureAndStrapsSetPwrCauses : Prop :=
  ∀ s : State,
    (∀ temp, 120 ≤ temp → s.power.therm = false → s.mgtFast = true →
      Completes (.thermThreshold temp) s [.power, .clk, .latch] (causeObjects 1) fun t =>
        t.power = { s.power with therm := true } ∧ t.z 0x2102 0 = s.z 0x2102 0 ||| 2 ∧
        (s.clk.dvfsState = 0 → 3 < s.clk.dvfsCur →
          t.clk.dvfsState = 3 ∧ t.clk.dvfsTarget ≤ 3 ∧ t.clk.dvfsCur = s.clk.dvfsCur) ∧
        (s.clk.dvfsState ≠ 0 → t.clk = s.clk)) ∧
    Completes .temperatureBelow115 s [.power] [] (fun t => t.power = { s.power with therm := false }) ∧
    (∀ r p, (r ≠ s.power.roleSel ∨ p ≠ s.power.pairPres) → s.power.por = false → s.mgtFast = true →
      Completes (.strapChange r p) s [.power, .latch] (causeObjects 1) fun t =>
        t.power = { s.power with roleSel := r, pairPres := p } ∧ t.z 0x2102 0 = s.z 0x2102 0 ||| 8)

/-- An edge of an enabled XTRIG_IN pin that keeps setup and hold is captured in its tick and becomes visible to the holds three
ticks later; one that violates them becomes visible three or four ticks later, as a free value has it. -/
def Claims.CrossTriggerEdgeIsSeenThreeTicksLater : Prop :=
  ∀ (s : State) (n : Fin 4) (level : Bool), bit (s.z 0x3810 (n.val + 1)) 1 = true →
    (Completes (.xtrigInEdge n level false) s [.probe, .sig] [] fun t =>
      t.probe = { s.probe with xin := putBit s.probe.xin n.val level } ∧
      t.sig = { s.sig with xtrig := (s.time.tick + 3, putBit s.probe.xin n.val level) :: s.sig.xtrig }) ∧
    (Completes (.xtrigInEdge n level true) s [.probe, .sig, .free] [] fun t =>
      t.free = s.free + 1 ∧ t.probe = { s.probe with xin := putBit s.probe.xin n.val level } ∧
      ∃ k, (k = s.time.tick + 3 ∨ k = s.time.tick + 4) ∧
        t.sig = { s.sig with xtrig := (k, putBit s.probe.xin n.val level) :: s.sig.xtrig })

/-- An output without its supply is undriven; HIGHZ leaves every output of the boundary register high-impedance while RESET_N is low; and a
device that sees a partner on PAIR_PRES, in reset or as Second, leaves the fan-out high-impedance, under every TAP instruction. -/
def Claims.OutputsFollowTheSupplies : Prop :=
  ∀ (s : State) (o : OutPin),
    (s.powered o = false → s.pinLevel o = .undriven) ∧
    (s.powered o = true → s.power.pinHeld = true → s.acc.tapIr = 5 → scanned o = true → s.pinLevel o = .z) ∧
    (∀ n, s.powered o = true → (o = .refclk n ∨ o = .prst n) → s.power.pairPres = true → (s.up = false ∨ s.acts = false) →
      s.pinLevel o = .z)

/-- What the temperature sensors, the straps and the cross-trigger input pins do to the device, and the levels of its outputs. -/
def Obligations.PinsAndSensorsAreObserved : Prop :=
  Claims.TemperatureAndStrapsSetPwrCauses ∧ Claims.CrossTriggerEdgeIsSeenThreeTicksLater ∧ Claims.OutputsFollowTheSupplies

/-! ### Clock domains (Chapter 3) -/

/-- XO is reported not qualified in 20 ms (R113): where the command ends behind that limit and nothing has reported it yet, 2205h:3 reads
LATE and CLK cause QUAL is set; otherwise nothing is reported. -/
def Claims.QualReported (s t : State) : Prop :=
  (t.late .aon s.boot.stepAt 20000000 = true → s.clk.qualLate = false →
    t.z 0x2205 3 = 3 ∧ (s.mgtUp = true → bit (t.z 0x2101 0) 2 = true)) ∧
  (t.late .aon s.boot.stepAt 20000000 = false ∨ s.clk.qualLate = true →
    t.z 0x2205 3 = s.z 0x2205 3 ∧ t.z 0x2101 0 = s.z 0x2101 0)

/-- A qualification window takes 64,000 ns; a count from 6,272 to 6,528 passes. A window that passes adds one to the passes in a
row, and the fourth qualifies XO and starts step 3 with RPLL; one that fails starts them again and is counted. 20 ms without
qualification set CLK cause QUAL, and the windows go on. -/
def Claims.XoQualifiesAfterFourPasses : Prop :=
  ∀ s : State, s.clk.qualRun = true →
    (∀ count, 6272 ≤ count → count ≤ 6528 → s.z 0x2205 2 < 3 →
      Completes (.xoQualWindowEnd count) s [.clk, .now, .time, .latch]
        (clockObjects ++ causeObjects 0 ++ [(0x2205, 1), (0x2205, 2), (0x2205, 3)]) fun t =>
        t.now = max s.now (s.clk.qualAt + 64000) ∧
        t.clk = { s.clk with qualAt := t.now, qualLate := s.clk.qualLate || t.late .aon s.boot.stepAt 20000000 } ∧
        t.z 0x2205 1 = count ∧ t.z 0x2205 2 = s.z 0x2205 2 + 1 ∧ Claims.QualReported s t) ∧
    (∀ count, 6272 ≤ count → count ≤ 6528 → 3 ≤ s.z 0x2205 2 →
      Completes (.xoQualWindowEnd count) s [.clk, .now, .time, .boot, .latch]
        (clockObjects ++ causeObjects 0 ++ [(0x2205, 1), (0x2205, 2), (0x2205, 3)]) fun t =>
        t.boot.step = 3 ∧ t.clk.qualRun = false ∧ t.z 0x2205 3 = 2 ∧ (t.pll .rpll).started = true) ∧
    (∀ count, (count < 6272 ∨ 6528 < count) →
      Completes (.xoQualWindowEnd count) s [.clk, .now, .time, .latch]
        (clockObjects ++ causeObjects 0 ++ [(0x2205, 1), (0x2205, 2), (0x2205, 3), (0xF030, 5)]) fun t =>
        t.z 0x2205 2 = 0 ∧ t.clk.qualRun = true ∧ t.z 0xF030 5 = min (s.z 0xF030 5 + 1) (2 ^ 32 - 1) ∧ Claims.QualReported s t) ∧
    (s.clk.qualLate = false → s.mgtUp = true →
      Completes .xoQualTimeout s [.clk, .now, .time, .latch] (clockObjects ++ causeObjects 0 ++ [(0x2205, 3)]) fun t =>
        t.now = max s.now (s.boot.stepAt + 20000000) ∧ t.clk.qualRun = true ∧ t.z 0x2205 3 = 3 ∧ t.z 0x2101 0 = s.z 0x2101 0 ||| 4)

/-- At step 3 a PLL that locks late sets CLK cause LOCK, and step 3 starts again with RPLL. A PLL that loses lock sets LOCK and is
counted; its output goes on, so that no root moves. A PLL that locks reads LOCKED again. -/
def Claims.PllLockAndLossOfLock : Prop :=
  ∀ s : State,
    (s.boot.step = 3 → s.mgtUp = true →
      Completes .bootPllLockTimeout s [.clk, .now, .time, .boot, .latch] (clockObjects ++ causeObjects 0) fun t =>
        t.now = max s.now (s.boot.stepAt + 1000000) ∧ t.boot.step = 3 ∧ t.boot.stepAt = t.now ∧ t.z 0x2101 0 = s.z 0x2101 0 ||| 2 ∧
        t.pll .rpll = { started := true } ∧ t.pll .spll = {} ∧ t.pll .ppll = {} ∧ t.pll .cpll = {}) ∧
    (∀ p, (s.pll p).locked = true →
      ∃ t, exec (.pllLossOfLock p) s = .next t ∧ (t.pll p).locked = false ∧ ∀ d, t.dom d = s.dom d) ∧
    (∀ p, p = .rpll ∨ p = .spll ∨ p = .ppll ∨ p = .cpll → Alone s → s.mgtUp = true → (s.pll p).locked = true →
      ∃ t, exec (.pllLossOfLock p) s = .next t ∧ t.z 0x2101 0 = s.z 0x2101 0 ||| 2 ∧
        t.z 0xF030 3 = min (s.z 0xF030 3 + 1) (2 ^ 32 - 1)) ∧
    (∀ p, (s.pll p).started = true → s.boot.step ≠ 3 →
      (∃ t, exec (.pllLock p) s = .next t ∧ (t.pll p).locked = true ∧ (t.pll p).holdover = false) ∧
      (∃ t, exec (.pllRelock p) s = .next t ∧ (t.pll p).locked = true ∧ (t.pll p).holdover = false))

/-- A write of 2203h asks for a normal switch; the switch completes once both clocks have their edges, and the root then runs on
the source asked for, with SWITCHING clear. -/
def Claims.NormalSwitchMovesTheRoot : Prop :=
  ∀ s : State,
    (∀ w sub (src : BitVec 8) d, Alone s → Accepted s w 0x2203 (BitVec.toNat sub) src.toNat → domOfSub sub.toNat = some d →
      Completes (.rootSelect w sub src) s [.clk, .acc, .out] (accessObjects ++ [(0x2203, subOfDom d)]) fun t =>
        t.dom d = { s.dom d with switching := some src.toNat } ∧ (∀ e, e ≠ d → t.dom e = s.dom e) ∧
        t.n 0x2203 (subOfDom d) = src.toNat ∧ .answer w 0 [] ∈ t.out) ∧
    (∀ d src, (s.dom d).switching = some src → (s.dom d).stalled = false → s.srcRuns d src = true →
      ∃ t, exec (.normalSwitchComplete d) s = .next t ∧ (t.dom d).src = src ∧ (t.dom d).switching = none ∧ (t.dom d).running = true) ∧
    (∀ d src, d = .fab ∨ d = .prb ∨ d = .srv → Alone s → (s.dom d).switching = some src → (s.dom d).stalled = false →
      s.srcRuns d src = true →
      Completes (.normalSwitchComplete d) s [.clk] [] fun t =>
        t.clk = (s.setDom d { s.dom d with src := src, switching := none, running := true }).clk)

/-- The declaration of a stall (R117): STALLED reads 1 and, but for MGT and XO, whose recovery follows, CLK cause STALL
is set and counted. An edge after it clears STALLED. The AON root found off frequency sets AONF; found stopped, it asserts POR. -/
def Obligations.StallsAreDeclaredAndEnd : Prop :=
  ∀ s : State,
    (∀ d, d ≠ .aon → (s.dom d).stalled = false → ∃ t, exec (.stallDeclared d) s = .next t ∧ (t.dom d).stalled = true) ∧
    (∀ d, d ≠ .aon → d ≠ .mgt → d ≠ .xo → Alone s → s.mgtUp = true → (s.dom d).stalled = false →
      Completes (.stallDeclared d) s [.clk, .latch] (causeObjects 0 ++ [(0xF030, 1)]) fun t =>
        t.z 0x2101 0 = s.z 0x2101 0 ||| 1 ∧ t.z 0xF030 1 = min (s.z 0xF030 1 + 1) (2 ^ 32 - 1)) ∧
    (∀ d, (s.dom d).stalled = true →
      Completes (.rootEdgeAfterStall d) s [.clk] [] fun t => t.dom d = { s.dom d with stalled := false, running := true }) ∧
    (s.mgtUp = true →
      Completes (.aonClockFault false) s [.latch] (causeObjects 0 ++ [(0xF030, 6)]) fun t =>
        t.z 0x2101 0 = s.z 0x2101 0 ||| 8 ∧ t.z 0xF030 6 = min (s.z 0xF030 6 + 1) (2 ^ 32 - 1)) ∧
    (∃ t, exec (.aonClockFault true) s = .next t ∧ Cleared 0 s t ∧ t.power.por = true)

/-- A write of 2204h puts the domain it names into its domain reset with the switch in progress; the switch ends with the root on
the new source, out of its reset, 3,000 ns after its start at the earliest; a PLL that does not lock within 1 ms sets CLK cause
LOCK and leaves the domain in reset. -/
def Claims.ForcedSwitchResetsTheDomain : Prop :=
  ∀ s : State,
    (∀ w (v : BitVec 16) d, Accepted s w 0x2204 0 v.toNat → domOfCode (v.toNat / 256) = some d → (d = .tick → s.leadWithSecond = false) →
      ∃ t, exec (.forcedSwitch w v) s = .next t ∧ (t.dom d).forcing = some (v.toNat % 256) ∧ (t.dom d).inReset = true ∧
        (t.dom d).running = false) ∧
    (∀ d src, (s.dom d).forcing = some src → s.srcReady d src = true →
      ∃ t, exec (.forcedSwitchComplete d) s = .next t ∧ s.now ≤ t.now ∧ (s.dom d).since + 3000 ≤ t.now ∧ (t.dom d).src = src ∧
        (t.dom d).forcing = none ∧ (t.dom d).inReset = false ∧ (t.dom d).running = true) ∧
    (∀ d src, (s.dom d).forcing = some src → s.srcReady d src = false → s.mgtUp = true →
      Completes (.forcedSwitchLockTimeout d) s [.clk, .now, .time, .latch] (clockObjects ++ causeObjects 0) fun t =>
        t.dom d = { s.dom d with src := src, forcing := none } ∧ t.z 0x2101 0 = s.z 0x2101 0 ||| 2)

/-- Every 100 µs the sequencer takes a new target; a ramp settles, then glides; a glide down ends in a ramp; and the end of the last
phase is counted with the target as the current point. -/
def Obligations.OperatingPointMovesInPhases : Prop :=
  ∀ s : State,
    (s.clk.dvfsState = 0 →
      Completes .dvfsEvaluation s [.clk, .now, .time] clockObjects fun t =>
        t.now = max s.now (s.clk.dvfsEval + 100000) ∧ t.clk.dvfsEval = t.now ∧ t.clk.dvfsCur = s.clk.dvfsCur ∧
        (t.clk.dvfsState = 0 ∨ (t.clk.dvfsState = 1 ∧ s.clk.dvfsCur < t.clk.dvfsTarget) ∨
          (t.clk.dvfsState = 3 ∧ t.clk.dvfsTarget < s.clk.dvfsCur))) ∧
    ((s.dom .cmp).inReset = false → s.clk.dvfsHold = false →
      (s.clk.dvfsState = 1 → s.clk.dvfsSettle = false →
        Completes .dvfsTransitionPhaseDone s [.clk, .now, .time] clockObjects fun t =>
          t.now = max s.now (s.clk.dvfsAt + s.dvfsPhase) ∧
          t.clk = { s.clk with dvfsAt := t.now, dvfsSettle := true, dvfsMv := s.opMv s.clk.dvfsTarget }) ∧
      (s.clk.dvfsState = 1 → s.clk.dvfsSettle = true →
        Completes .dvfsTransitionPhaseDone s [.clk, .now, .time] clockObjects fun t =>
          t.clk = { s.clk with dvfsAt := t.now, dvfsSettle := false, dvfsState := 2 }) ∧
      (s.clk.dvfsState = 3 →
        Completes .dvfsTransitionPhaseDone s [.clk, .now, .time] clockObjects fun t =>
          t.clk = { s.clk with dvfsAt := t.now, dvfsState := 4 }) ∧
      (s.clk.dvfsState = 2 →
        Completes .dvfsTransitionPhaseDone s [.clk, .now, .time] (clockObjects ++ [(0xF030, 4)]) fun t =>
          t.clk.dvfsCur = s.clk.dvfsTarget ∧ t.z 0xF030 4 = min (s.z 0xF030 4 + 1) (2 ^ 32 - 1)))

/-- A write of true to 2206h:4 starts a meter window on the committed target, reference and length; the window's end stores the
state DONE, the count and the frequency in kHz, and whether no stall or forced switch met it. -/
def Claims.FrequencyMeterMeasuresAWindow : Prop :=
  ∀ s : State,
    (∀ w, Alone s → Accepted s w 0x2206 4 1 →
      Completes (.meterStart w 1) s [.clk, .acc, .out] accessObjects fun t =>
        t.clk = { s.clk with
          meterRun := true, meterTarget := s.n 0x2206 1, meterRef := s.n 0x2206 2, meterN := s.n 0x2206 3, meterBad := false
          meterAt := s.now }) ∧
    (∀ count, s.clk.meterRun = true → s.clk.meterRef = 1 →
      Completes (.meterWindowEnd count) s [.clk, .now, .time]
        (clockObjects ++ [(0x2206, 5), (0x2206, 6), (0x2206, 7), (0x2206, 8)]) fun t =>
        t.now = max s.now (s.clk.meterAt + s.clk.meterN * 10) ∧ t.clk = { s.clk with meterRun := false } ∧ t.z 0x2206 5 = 2 ∧
        t.z 0x2206 6 = min count (2 ^ 32 - 1) ∧ t.z 0x2206 7 = min (count * 100000 / s.clk.meterN) (2 ^ 32 - 1) ∧
        t.z 0x2206 8 = (if s.clk.meterBad then 0 else 1))

/-- A change of CLKMON_OUT's source, divider or enable holds the pin low for 32 AON cycles, and then the pin carries the new
selection (R135). -/
def Claims.ClkmonChangeHoldsThePinLow : Prop :=
  ∀ (s : State) (w : Who) (sub : BitVec 8) (v : BitVec 16), Alone s → Accepted s w 0x2207 sub.toNat v.toNat →
    Completes (.clkmonChange w sub v) s [.clk, .acc, .out] (accessObjects ++ [(0x2207, sub.toNat)]) fun t =>
      t.clk.clkmonSrc = t.z 0x2207 1 ∧ t.clk.clkmonDiv = t.z 0x2207 2 ∧ t.clk.clkmonOn = t.b 0x2207 3 ∧
      ((t.clk.clkmonSrc, t.clk.clkmonDiv, t.clk.clkmonOn) ≠ (s.clk.clkmonSrc, s.clk.clkmonDiv, s.clk.clkmonOn) →
        t.clk.clkmonAt = s.now + 2000 ∧ (s.power.vddioUp = true → t.clkmonPin = .low))

/-- The qualification of XO, and the locking of the PLLs and its loss. -/
def Obligations.OscillatorQualifiesAndPllsLock : Prop := Claims.XoQualifiesAfterFourPasses ∧ Claims.PllLockAndLossOfLock

/-- A normal switch moves a root without a reset; a forced switch moves it through its domain reset. -/
def Obligations.RootsSwitchNormallyAndForced : Prop := Claims.NormalSwitchMovesTheRoot ∧ Claims.ForcedSwitchResetsTheDomain

/-- The frequency meter measures its window, and a change of CLKMON_OUT holds its pin low first. -/
def Obligations.MeterAndClockMonitor : Prop := Claims.FrequencyMeterMeasuresAWindow ∧ Claims.ClkmonChangeHoldsThePinLow

/-! ### Boot, images and resets (Chapter 4) -/

/-- Step 1 ends 64 AON cycles (4,000 ns) after its start, and XO qualification begins. Step 4 ends with a good fuse load, which maps
the spares and reads the life-cycle state; the third load that fails halts the boot and sets BOOT cause FUSE. -/
def Claims.FirstStepsOfTheBoot : Prop :=
  ∀ s : State,
    (s.boot.step = 1 →
      Completes .aonStart s [.boot, .clk, .now, .time] (clockObjects ++ [(0x2205, 1), (0x2205, 2), (0x2205, 3)]) fun t =>
        t.now = max s.now (s.boot.stepAt + 4000) ∧ t.boot = { s.boot with step := 2, stepAt := t.now } ∧ t.clk.qualRun = true ∧
        t.clk.qualAt = t.now ∧ t.z 0x2205 2 = 0 ∧ t.z 0x2205 3 = 1) ∧
    (s.boot.step = 4 → s.boot.halted = false →
      (∀ k3, Completes (.fuseLoad true k3) s [.boot, .sec, .mem] [(0x8000, 1)] fun t =>
        t.boot = { s.boot with step := 5, stepAt := s.now, fuseFails := 0 } ∧
        t.mem = { s.mem with fused := true, bank := s.mem.bank.map fun e : Nat × BankSt => (e.1, e.2.noRepairs) } ∧
        t.sec.lcs = fusedState s.sec.fuses ∧ t.sec.k3Ok = k3) ∧
      (∀ k3, s.boot.fuseFails < 2 → Completes (.fuseLoad false k3) s [.boot] [] fun t =>
        t.boot = { s.boot with fuseFails := s.boot.fuseFails + 1 }) ∧
      (∀ k3, 2 ≤ s.boot.fuseFails → s.mgtFast = true → Completes (.fuseLoad false k3) s [.boot, .latch] (causeObjects 2) fun t =>
        t.boot.halted = true ∧ t.boot.step = 4 ∧ t.z 0x2103 0 = s.z 0x2103 0 ||| 1))

/-- Step 5 brings every bank without a fault to READY and ends; step 6 ends with the vault initialised, and a SCRAPPED device halts
there. -/
def Claims.MemoryAndVaultSteps : Prop :=
  ∀ s : State,
    (∀ l, s.boot.step = 5 →
      (∃ t, exec (.bankBist l) s = .next t ∧ t.boot.step = 6 ∧ t.boot.stepAt = s.now) ∧
      (s.n 0x2011 1 = 0 → CompletesWithin (.bankBist l) s [.boot, .mem] fun t =>
        ∀ b, b < 48 → (t.bank b).st = 0 ∧ (t.bank b).bist = (if (s.bank b).softCount = 0 then 1 else 2))) ∧
    (∀ bad, s.boot.step = 6 → s.boot.halted = false →
      (s.sec.lcs ≠ 4 → s.sec.trState = 0 → ∃ t, exec (.vaultInitialisation bad) s = .next t ∧ t.boot.step = 7 ∧ t.boot.afterPor = false) ∧
      (s.boot.afterPor = true → (s.bank 48).bist ≠ 3 → s.sec.lcs ≠ 4 →
        ∃ t, exec (.vaultInitialisation bad) s = .next t ∧ t.sec.vaultState = 2 ∧ t.sec.vaultTag = s.sec.lcs ∧ t.sec.wipeReason = 1 ∧
          t.sec.k1 = none ∧ t.sec.records = []) ∧
      (s.sec.lcs = 4 → s.boot.afterPor = true → ∃ t, exec (.vaultInitialisation bad) s = .next t ∧ t.boot.halted = true ∧ t.boot.step = 6))

/-- Step 7 goes on to step 9 on a single device and to step 8 on a device of a pair. With no candidate the defaults stand, 201Bh:0 reads 0
and BOOT cause NOIMAGE is set. A flash busy past its limit fails a save in progress, whose target slot is cut as a reset cuts it (before
the header is read back; DEDUCED, log entry 31), or ends step 7. -/
def Claims.ImageSelectionEndsStep7 : Prop :=
  ∀ s : State,
    (∀ flash, s.boot.step = 7 →
      (∃ t, exec (.imageSelection flash) s = .next t ∧ t.boot.step = (if s.pair.role = 0 then 9 else 8)) ∧
      ((candidateOrder (readHeader s.boot.slotA) (readHeader s.boot.slotB)).1 = [] → s.mgtFast = true →
        ∃ t, exec (.imageSelection flash) s = .next t ∧ t.z 0x201B 0 = 0 ∧ bit (t.z 0x2103 0) 7 = true ∧ t.staged = [])) ∧
    (s.boot.savePhase ≠ 0 → s.mgtFast = true →
      Completes .flashBusyTimeout s [.boot, .free, .latch] (causeObjects 2 ++ [(0x201C, 2), (0x201C, 3)]) fun t =>
        t.boot.savePhase = 0 ∧ t.z 0x201C 2 = 7 ∧ t.z 0x201C 3 = 3 ∧ t.z 0x2103 0 = s.z 0x2103 0 ||| 256 ∧
        (s.boot.savePhase ≠ 5 ∨ s.boot.saveHeader = false →
          t.free = s.free ∧ t.slot s.boot.saveSlot = cutSlot s.boot.savePhase (s.slot s.boot.saveSlot))) ∧
    (s.boot.savePhase = 0 → s.boot.step = 7 →
      ∃ t, exec .flashBusyTimeout s = .next t ∧ t.boot.step = (if s.pair.role = 0 then 9 else 8))

/-- Role resolution (Table 19.3): identities that do not match isolate the device; a HELLO from a Lead makes it SECOND; against
another resolving device ROLE_SEL decides; with no HELLO within the wait the device becomes LEAD where it may; and a HELLO that comes
behind the wait resolves no role (R14; DEDUCED, log entry 77). -/
def Obligations.RolesResolve : Prop :=
  ∀ s : State, s.pair.role = 1 → s.boot.step = 8 →
    (∀ h : HelloMsg, s.late .aon s.boot.stepAt s.roleWait = true →
      ∃ t, exec (.hello h) s = .next t ∧ t.pair.role = 1 ∧ t.boot.step = 8) ∧
    (∀ h : HelloMsg, h.state.val ≠ 2 → s.late .aon s.boot.stepAt s.roleWait = false →
      (s.idMatch h.identity.toNat = false → ∃ t, exec (.hello h) s = .next t ∧ t.pair.role = 4) ∧
      (s.idMatch h.identity.toNat = true → h.state.val = 1 →
        ∃ t, exec (.hello h) s = .next t ∧ t.pair.role = 3 ∧ 1 ≤ t.pair.catchup ∧ (t.pll .rpll).refRope = true) ∧
      (s.idMatch h.identity.toNat = true → h.state.val = 0 → h.roleSel ≠ s.power.bootRoleSel →
        ∃ t, exec (.hello h) s = .next t ∧ t.pair.role = (if s.power.bootRoleSel then 2 else 3))) ∧
    (s.power.bootRoleSel = true →
      (∀ los, ∃ t, exec (.roleWaitExpiry false los) s = .next t ∧ t.pair.role = 2 ∧ t.boot.step = 9 ∧ s.boot.stepAt + 800000 ≤ t.now) ∧
      (∀ los, ∃ t, exec (.roleWaitExpiry true los) s = .next t ∧ t.pair.role = 4)) ∧
    (s.power.bootRoleSel = false →
      (∃ t, exec (.roleWaitExpiry false true) s = .next t ∧ t.pair.role = 2 ∧ t.boot.step = 9 ∧ s.boot.stepAt + 1000000 ≤ t.now) ∧
      (∃ t, exec (.roleWaitExpiry true true) s = .next t ∧ t.pair.role = 4) ∧
      ∀ edges, ∃ t, exec (.roleWaitExpiry edges false) s = .next t ∧ t.pair.role = 4)

/-- Steps 9 to 12: the REFCLK lead time, the release of each PRST_N_OUT line at a REF edge once its delay has passed, the link start
delay after the last release with every enabled port put into training, and the start of package time at zero. -/
def Obligations.FanOutAndTimeBaseSteps : Prop :=
  ∀ s : State,
    (s.boot.step = 9 →
      Completes .refclkLeadTimeExpiry s [.boot, .now, .time] clockObjects fun t =>
        t.now = max s.now (s.boot.stepAt + s.boot.lead * 1000) ∧ t.boot.step = 10 ∧ t.boot.stepAt = t.now ∧
        t.boot.prstPending = s.n 0x2014 0 % 256 ∧ t.boot.linkDelay = s.n 0x2016 0) ∧
    (∀ line : Fin 8, s.boot.step = 10 → bit s.boot.prstPending line.val = true →
      Completes (.prstNOutRelease line) s [.boot, .now, .time] (clockObjects ++ [(0x2018, 2)]) fun t =>
        t.now = max s.now (roundUp (s.boot.stepAt + (s.boot.delays[line.val]?).getD 0 * 1000) 10) ∧
        t.boot.prst = setBit s.boot.prst line.val ∧ t.boot.prstPending = clrBit s.boot.prstPending line.val ∧
        t.boot.prstAt = t.now) ∧
    (s.boot.step = 10 → s.boot.prstPending = 0 → Alone s →
      Completes .linkStartDelayExpiry s [.boot, .now, .time, .clk, .ports] clockObjects fun t =>
        t.now = max s.now (s.boot.prstAt + s.boot.linkDelay * 1000) ∧ t.boot.step = 11 ∧
        ∀ p, p < 6 → s.b 0x7000 (p + 1) = true →
          (t.port p).st = 2 ∧ (t.port p).phase = 1 ∧ (t.port p).attempt = 1 ∧ (t.port p).attemptAt = t.now) ∧
    (s.boot.step = 11 → s.acts = true → s.portsSettled = true →
      ∃ t, exec .timeBaseStart s = .next t ∧ t.time.ptRun = true ∧ t.probe.on = true ∧ 13 ≤ t.boot.step ∧
        (s.time.heldWrite = none → t.time.pt = 0))

/-- A write of the key to 2017h:0 requests a warm reset; it takes effect at the next tick boundary, and the device begins again at
step 4 with cause code 2. -/
def Claims.WarmResetEntersStep4 : Prop :=
  ∀ s : State,
    (∀ w, Alone s → Accepted s w 0x2017 0 0x57525354 →
      Completes (.warmResetRequest w 0x57525354#32) s [.boot, .acc, .out] accessObjects fun t =>
        t.boot = { s.boot with warmDue := true } ∧ .answer w 0 [] ∈ t.out) ∧
    (s.boot.warmDue = true →
      ∃ t, exec .warmReset s = .next t ∧ t.boot.step = 4 ∧ t.val 0x2010 0 = .num 2 ∧ t.now = s.now + 1 ∧ t.staged = [] ∧
        t.locked = false ∧ t.ports = [] ∧ t.coh = {} ∧ t.sto = {} ∧ t.trig = {} ∧ t.mem.cells = [] ∧ t.boot.warmDue = false ∧
        t.time.ptRun = false ∧ t.time.tick = 0)

/-- A save erases the slot that is not the reference, writes and reads back the record area, then the header, and makes the target the
reference; a read-back that differs fails it. -/
def Claims.ImageSaveGoesThroughItsPhases : Prop :=
  ∀ s : State,
    (∀ w, Alone s → Accepted s w 0x201C 1 1 → s.committedRecords.flatten.length ≤ 65504 →
      ∃ t, exec (.saveRequest w 1) s = .next t ∧ t.boot.savePhase = 2 ∧ t.z 0x201C 2 = 2 ∧ t.z 0x201C 3 = 0 ∧
        t.boot.saveSlot = (if s.boot.refSlot = 1 then 2 else 1) ∧ t.z 0x201C 4 = t.boot.saveSlot) ∧
    (∀ ok, s.boot.savePhase = 2 → Completes (.saveFlashCommandDone ok) s [.boot, .out] [(0x201C, 2)] fun t =>
      t.boot.savePhase = 3 ∧ t.z 0x201C 2 = 3 ∧ t.slot s.boot.saveSlot = [] ∧
      t.out = .flash 1 (slotBase s.boot.saveSlot + 32) s.boot.saveBody :: s.out) ∧
    (∀ ok, s.boot.savePhase = 3 → Completes (.saveFlashCommandDone ok) s [.boot, .out] [(0x201C, 2)] fun t =>
      t.boot.savePhase = 5 ∧ t.boot.saveHeader = false ∧ t.z 0x201C 2 = 5 ∧
      (t.slot s.boot.saveSlot).drop 32 = s.boot.saveBody) ∧
    (s.boot.savePhase = 5 → s.boot.saveHeader = false → Completes (.saveFlashCommandDone true) s [.boot, .out] [(0x201C, 2)] fun t =>
      t.boot.savePhase = 4 ∧ t.z 0x201C 2 = 4) ∧
    (∀ ok, s.boot.savePhase = 4 → Completes (.saveFlashCommandDone ok) s [.boot, .out] [(0x201C, 2)] fun t =>
      t.boot.savePhase = 5 ∧ t.boot.saveHeader = true ∧ t.slot s.boot.saveSlot = s.saveHead ++ s.boot.saveBody) ∧
    (s.boot.savePhase = 5 → s.boot.saveHeader = true → s.boot.saveSlot ≤ 2 →
      Completes (.saveFlashCommandDone true) s [.boot] [(0x201C, 2), (0x2019, s.boot.saveSlot), (0x201A, s.boot.saveSlot)] fun t =>
        t.boot.savePhase = 0 ∧ t.boot.refSlot = s.boot.saveSlot ∧ t.z 0x201C 2 = 6 ∧ t.z 0x201A s.boot.saveSlot = s.boot.saveSeq) ∧
    (s.boot.savePhase = 5 → s.boot.saveHeader = false → s.mgtFast = true →
      Completes (.saveFlashCommandDone false) s [.boot, .latch] (causeObjects 2 ++ [(0x201C, 2), (0x201C, 3)]) fun t =>
        t.boot.savePhase = 0 ∧ t.z 0x201C 2 = 7 ∧ t.z 0x201C 3 = 2 ∧ t.z 0x2103 0 = s.z 0x2103 0 ||| 256) ∧
    (s.boot.savePhase = 5 → s.boot.saveHeader = true → s.mgtFast = true →
      Completes (.saveFlashCommandDone false) s [.boot, .free, .latch] (causeObjects 2 ++ [(0x201C, 2), (0x201C, 3)]) fun t =>
        t.boot.savePhase = 0 ∧ t.z 0x201C 2 = 7 ∧ t.z 0x201C 3 = 2 ∧ t.z 0x2103 0 = s.z 0x2103 0 ||| 256)

/-- Boot steps 1 to 7: their conditions, their ends, and what halts them. -/
def Obligations.BootStepsOneToSeven : Prop := Claims.FirstStepsOfTheBoot ∧ Claims.MemoryAndVaultSteps ∧ Claims.ImageSelectionEndsStep7

/-- A warm reset enters step 4, and an image save goes through its phases. -/
def Obligations.WarmResetAndImageSave : Prop := Claims.WarmResetEntersStep4 ∧ Claims.ImageSaveGoesThroughItsPhases

/-! ### The dictionary (Chapter 5) -/

/-- A write of the key to 1081h:1 locks every object of class K; from then on a write of such an object on a path other than the
image's is refused 0x0204, and nothing is staged. -/
def Claims.LockFreezesClassK : Prop :=
  ∀ (s : State) (w : Who), Alone s →
    (Accepted s w 0x1081 1 0x4C4F434B →
      Completes (.lockRequest w 0x4C4F434B#32) s [.locked, .acc, .out] accessObjects fun t =>
        t.locked = true ∧ .answer w 0 [] ∈ t.out) ∧
    (∀ idx sub o ty r, Served s w → s.locked = true → findRow (BitVec.toNat idx) (BitVec.toNat sub) = some r → r.cls = .k →
      accessWithheld s.sec.lcs idx.toNat sub.toNat true = false →
      r.wr ≤ (s.accept (pathNo w.path) (s.requester w)).levelOf (pathNo w.path) (s.requester w) →
      ∃ t, exec (.dictWrite w idx sub o ty) s = .next t ∧ .answer w 0x0204 [] ∈ t.out ∧ t.staged = s.staged ∧ t.locked = true)

/-- A write of a class S object that no check refuses puts its value, as the object holds it, into the staged set, in the place
of the object's earlier entry; the committed value stays. -/
def Claims.DictWriteStagesClassS : Prop :=
  ∀ (s : State) (w : Who) (idx : BitVec 16) (sub : BitVec 8) (o : Octets) (ty : Option (BitVec 8)) (r : Row),
    Alone s → Served s w → findRow idx.toNat sub.toNat = some r → r.cls = .s →
    (s.serveWrite (pathNo w.path) (s.requester w) idx.toNat sub.toNat o (ty.map BitVec.toNat)).1 = 0 →
    Completes (.dictWrite w idx sub o ty) s [.staged, .acc, .out] accessObjects fun t =>
      t.staged = putStaged s.staged ⟨idx.toNat, sub.toNat, maskVal r (octetsVal r.ty o), pathOfNo (pathNo w.path), r.wr, false⟩ ∧
        .answer w 0 [] ∈ t.out

/-- A write that a check refuses is answered with its abort code; the refusal is counted and recorded in 1082h with the object
and the path, and the staged set stays. -/
def Claims.RefusedWritesAreRecorded : Prop :=
  ∀ (s : State) (w : Who) (idx : BitVec 16) (sub : BitVec 8) (o : Octets) (ty : Option (BitVec 8)) (c : Nat),
    Alone s → Served s w → idx ≠ 0x1010#16 →
    (s.serveWrite (pathNo w.path) (s.requester w) idx.toNat sub.toNat o (ty.map BitVec.toNat)).1 = c → c ≠ 0 →
    ∃ t, exec (.dictWrite w idx sub o ty) s = .next t ∧ t.staged = s.staged ∧ .answer w c [] ∈ t.out ∧
      t.z 0xF000 4 = min (s.z 0xF000 4 + 1) (2 ^ 32 - 1) ∧ t.z 0x1082 1 = key idx.toNat sub.toNat ∧ t.z 0x1082 2 = c ∧
      t.z 0x1082 3 = pathNo w.path

/-- A write while another requester's transfer is open, and in time, is refused with 0x0601, counted and recorded, and the transfer goes
on (R247, R260; that a row command meets an open transfer is DESIGN CHOICE, log entry 11). -/
def Claims.OpenTransfersRefuseOthers : Prop :=
  ∀ (s : State) (w : Who) (idx : BitVec 16) (sub : BitVec 8) (o : Octets) (ty : Option (BitVec 8)), Alone s → s.reaches w = true →
    ∀ x, (s.path (pathNo w.path)).xfer = some x → x.req ≠ s.requester w → s.xferLate (pathNo w.path) = false →
    Completes (.dictWrite w idx sub o ty) s [.out] [(0xF000, 4), (0x1082, 1), (0x1082, 2), (0x1082, 3)] fun t =>
      t.out = .answer w 0x0601 [] :: s.out ∧ t.z 0xF000 4 = min (s.z 0xF000 4 + 1) (2 ^ 32 - 1) ∧
      t.z 0x1082 1 = key idx.toNat sub.toNat ∧ t.z 0x1082 2 = 0x0601 ∧ t.z 0x1082 3 = pathNo w.path

/-- A write of 1083h:1 names, on this path, the object whose descriptor 1083h:2 returns. -/
def Claims.DescriptorQueryIsHeldPerPath : Prop :=
  ∀ (s : State) (w : Who) (v : BitVec 32), Alone s → Accepted s w 0x1083 1 v.toNat →
    Completes (.descriptorQuery w v) s [.acc, .out] accessObjects fun t =>
      (t.path (pathNo w.path)).query = v.toNat ∧ ∀ p, p ≠ pathNo w.path → (t.path p).query = (s.path p).query

/-- A write of the key to F0FFh:0 zeroes every diagnostic counter, and the write itself is then counted; no object below F000h
changes. -/
def Claims.DiagnosticClearZeroesTheCounters : Prop :=
  ∀ (s : State) (w : Who), Alone s → Accepted s w 0xF0FF 0 0x44434C52 →
    CompletesWithin (.diagnosticClear w 0x44434C52#32) s [.acc, .out] fun t =>
      (∀ idx sub, 0xF000 ≤ idx → sub < 256 → (idx, sub) ≠ (0xF000, 3) → (idx, sub) ≠ (0xF018, 17) → t.z idx sub = 0) ∧
      t.z 0xF000 3 = 1 ∧ ∀ idx sub, idx < 0xF000 → sub < 256 → t.val idx sub = s.val idx sub

/-- The scrub counts a single-bit error, which it corrects, and nothing else changes; an uncorrectable word is known bad from then
on and sets DICT cause STORE once. -/
def Claims.ScrubFindsUpsets : Prop :=
  ∀ (s : State) (idx sub word : Nat), s.mgtFast = true →
    Completes (.storeScrub [.single idx sub]) s [] [(0xF000, 9)] (fun t => t.z 0xF000 9 = min (s.z 0xF000 9 + 1) (2 ^ 32 - 1)) ∧
    (∀ r, findRow idx sub = some r → word < storeWords r → s.badWords.contains (key idx sub * 1024 + word) = false →
      Completes (.storeScrub [.double idx sub word]) s [.badWords, .latch] (causeObjects 3) fun t =>
        t.badWords = s.badWords ++ [key idx sub * 1024 + word] ∧ t.knownBad idx sub = true ∧ t.z 0x2104 0 = s.z 0x2104 0 ||| 2) ∧
    (s.badWords.contains (key idx sub * 1024 + word) = true →
      Completes (.storeScrub [.double idx sub word]) s [] [] fun t => t.badWords = s.badWords)

/-- The lock of class K, and the object that a path asks the descriptor of. -/
def Obligations.LockAndDescriptorQuery : Prop := Claims.LockFreezesClassK ∧ Claims.DescriptorQueryIsHeldPerPath

/-- A write of class S is staged where no check refuses it, and answered, counted and recorded where one does. -/
def Obligations.WritesAreStagedOrRefused : Prop :=
  Claims.DictWriteStagesClassS ∧ Claims.RefusedWritesAreRecorded ∧ Claims.OpenTransfersRefuseOthers

/-- The diagnostic clear, and what the scrub finds. -/
def Obligations.DiagnosticsAndScrub : Prop := Claims.DiagnosticClearZeroesTheCounters ∧ Claims.ScrubFindsUpsets

/-! ### Staging and alerts (Chapters 7 and 8) -/

/-- A write of 2001h:1 names, on this path, the staged entry that 2001h:2 returns; a write of the key to 2002h:0 discards every
staged entry and is counted. -/
def Claims.StagedSetIsQueriedAndDiscarded : Prop :=
  ∀ (s : State) (w : Who), Alone s →
    (∀ v, Accepted s w 0x2001 1 (BitVec.toNat v) →
      Completes (.stagedQuery w v) s [.acc, .out] accessObjects fun t => (t.path (pathNo w.path)).squery = v.toNat) ∧
    (Accepted s w 0x2002 0 0x44524F50 →
      Completes (.discard w 0x44524F50#32) s [.staged, .acc, .out] (accessObjects ++ [(0xF010, 8)]) fun t =>
        t.staged = [] ∧ t.z 0xF010 8 = min (s.z 0xF010 8 + 1) (2 ^ 32 - 1))

/-- A commit request freezes the staged set and starts the check; a cancel of a commit that its Second does not hold ends in
CANCELLED with the staged set kept. -/
def Claims.CommitRequestAndCancel : Prop :=
  ∀ (s : State) (w : Who), Alone s →
    (Accepted s w 0x2003 4 0x434F4D54 →
      Completes (.commitRequest w 0x434F4D54#32) s [.commit, .acc, .out] (accessObjects ++ [(0xF010, 1)]) fun t =>
        t.commit.state = 1 ∧ t.commit.report = [] ∧ t.commit.mirrored = false ∧ t.commit.instant = s.commitInstant ∧
          t.z 0xF010 1 = min (s.z 0xF010 1 + 1) (2 ^ 32 - 1)) ∧
    (Accepted s w 0x2003 5 0x434E434C → s.commit.mirrored = false → s.commit.state ≠ 2 →
      Completes (.commitCancel w 0x434E434C#32) s [.commit, .acc, .out] (accessObjects ++ [(0xF010, 6)]) fun t =>
        t.commit = { s.commit with state := 8 } ∧ t.z 0xF010 6 = min (s.z 0xF010 6 + 1) (2 ^ 32 - 1))

/-- A write-one-to-clear write clears the named bits of a cause object but those whose condition holds and those that an event has set in
the same MGT cycle (R338), which are counted, with the children of the aggregates that it names; a write to a child clears the bits it
names. -/
def Claims.CausesAreClearedByWritingOnes : Prop :=
  ∀ (s : State) (w : Who) (v : BitVec 32), Alone s →
    (∀ br, br < 16 → Accepted s w (0x2101 + br) 0 v.toNat →
      ∃ t, exec (.causeClear w (BitVec.ofNat 16 (0x2101 + br)) 0 v) s = .next t ∧ .answer w 0 [] ∈ t.out ∧
        t.z (0x2101 + br) 0 = andNot (s.z (0x2101 + br) 0)
          (andNot (andNot (v.toNat &&& causeBits br) (s.held br)) (raisedNow s (0x2101 + br) 0)) ∧
        (∀ ci n d j, childOf br = some (ci, n, d) → j < n →
          t.z ci (j + 1) = if bit v.toNat j then andNot (s.z ci (j + 1)) (andNot d (raisedNow s ci (j + 1))) else s.z ci (j + 1))) ∧
    (∀ br, br < 16 → childOf br = none → Accepted s w (0x2101 + br) 0 v.toNat →
      Completes (.causeClear w (BitVec.ofNat 16 (0x2101 + br)) 0 v) s [.latch, .acc, .out]
        (accessObjects ++ [(0x2101 + br, 0), (0xF018, 18)]) fun t =>
        let met := s.z (0x2101 + br) 0 &&& andNot (v.toNat &&& causeBits br) (s.held br) &&& raisedNow s (0x2101 + br) 0
        (met = 0 → t.z 0xF018 18 = s.z 0xF018 18) ∧
        (met ≠ 0 → t.z 0xF018 18 = min (s.z 0xF018 18 + popCount 32 met) (2 ^ 32 - 1))) ∧
    (∀ br ci n d j, childOf br = some (ci, n, d) → j < n → Accepted s w ci (j + 1) v.toNat →
      Completes (.causeClear w (BitVec.ofNat 16 ci) (BitVec.ofNat 8 (j + 1)) v) s [.latch, .acc, .out]
        (accessObjects ++ [(ci, j + 1), (0xF018, 18)]) fun t =>
        t.z ci (j + 1) = andNot (s.z ci (j + 1)) (andNot (v.toNat &&& d) (raisedNow s ci (j + 1))) ∧ .answer w 0 [] ∈ t.out)

/-- A write of the key to 2123h:0 clears every cause bit but those whose condition holds and those that an event has set in the same MGT
cycle (R338), and every child likewise; another value is refused with 0x0302 and clears nothing. -/
def Claims.ClearAllClearsTheTree : Prop :=
  ∀ (s : State) (w : Who), Alone s →
    (Accepted s w 0x2123 0 0x434C5241 →
      CompletesWithin (.clearAll w 0x434C5241#32) s [.latch, .acc, .out] fun t =>
        ∀ br, br < 16 →
          t.z (0x2101 + br) 0 = andNot (s.z (0x2101 + br) 0) (andNot (andNot (causeBits br) (s.held br)) (raisedNow s (0x2101 + br) 0)) ∧
          ∀ ci n d j, childOf br = some (ci, n, d) → j < n →
            t.z ci (j + 1) = andNot (s.z ci (j + 1)) (andNot d (raisedNow s ci (j + 1)))) ∧
    (∀ v : BitVec 32, v ≠ 0x434C5241#32 → Served s w → accessWithheld s.sec.lcs 0x2123 0 true = false →
      1 ≤ (s.accept (pathNo w.path) (s.requester w)).levelOf (pathNo w.path) (s.requester w) →
      ∃ t, exec (.clearAll w v) s = .next t ∧ .answer w 0x0302 [] ∈ t.out ∧
        (∀ br, br < 16 → t.z (0x2101 + br) 0 = s.z (0x2101 + br) 0) ∧
        ∀ br ci n d j, childOf br = some (ci, n, d) → j < n → t.z ci (j + 1) = s.z ci (j + 1))

/-- A write of 2122h:2 drives ALERT_N low from step 7 on, or lets it follow the tree again, and sets no cause. -/
def Claims.PinTestDrivesThePin : Prop :=
  ∀ (s : State) (w : Who) (v : BitVec 8), Alone s → Accepted s w 0x2122 2 v.toNat →
    Completes (.pinTest w v) s [.acc, .out] (accessObjects ++ [(0x2122, 2)]) fun t =>
      t.z 0x2122 2 = v.toNat ∧ (v = 1#8 → 7 ≤ s.boot.step → t.alerts.driven = true) ∧
        (v = 0#8 → t.alerts.driven = (decide (s.latchSummary ≠ 0) || (decide (7 ≤ s.boot.step) && decide (s.summary ≠ 0))))

/-- The commands on the staged set: query, discard, commit request and cancel. -/
def Obligations.StagedSetAndCommitCommands : Prop := Claims.StagedSetIsQueriedAndDiscarded ∧ Claims.CommitRequestAndCancel

/-- The clearing of causes by writes of ones, of the whole tree, and the test of ALERT_N. -/
def Obligations.CausesAreClearedAndThePinTested : Prop := Claims.CausesAreClearedByWritingOnes ∧ Claims.ClearAllClearsTheTree ∧ Claims.PinTestDrivesThePin

/-! ### The commit engine (Chapter 7) -/

/-- A check that finds violations fails the commit: FAILED, the report of at most 32 of them, their number and the counts, COMMIT
cause CHECK, and the staged set as it was. -/
def Claims.FailedCheckReportsItsViolations : Prop :=
  ∀ s : State, s.commit.state = 1 → s.checkEnd ≠ [] → (∀ v ∈ s.checkEnd, v.rule ≠ 0x07FF) → s.mgtFast = true →
    Completes .commitCheckDone s [.commit, .latch] (causeObjects 4 ++ [(0x2004, 6), (0xF010, 3), (0xF010, 4)]) fun t =>
      t.commit = { s.commit with state := 6, report := s.checkEnd.take 32 } ∧ t.z 0x2004 6 = min s.checkEnd.length 65535 ∧
      t.z 0x2105 0 = s.z 0x2105 0 ||| 1 ∧ t.z 0xF010 3 = min (s.z 0xF010 3 + 1) (2 ^ 32 - 1) ∧
      t.z 0xF010 4 = min (s.z 0xF010 4 + s.checkEnd.length) (2 ^ 32 - 1)

/-- A check that passes on a device that mirrors nothing goes on: to the next boundary of 1,024 ticks from t_ready plus 64, to
LATE where the instant asked for lies within the margin, or to SCHEDULED. On a mirroring Lead it waits for the Second. -/
def Claims.PassedCheckChoosesTheBoundary : Prop :=
  ∀ s : State, s.commit.state = 1 → s.checkEnd = [] →
    (s.mirrors = false → s.commit.mirrored = false → s.commit.atTime = false →
      Completes .commitCheckDone s [.commit] [(0x2004, 5), (0x2004, 6)] fun t =>
        t.commit = { s.commit with
          state := 3, tReady := s.time.tick, margin := 64, fixTick := s.time.tick, boundary := roundUp (s.time.tick + 64) 1024 } ∧
        t.z 0x2004 5 = 0 ∧ t.z 0x2004 6 = 0) ∧
    (s.mirrors = false → s.commit.mirrored = false → s.commit.atTime = true → s.mgtFast = true →
      s.commit.instant ≤ s.time.pt + 64 * 2 ^ 32 →
      Completes .commitCheckDone s [.commit, .latch] (causeObjects 4 ++ [(0x2004, 5), (0x2004, 6), (0xF010, 5)]) fun t =>
        t.commit = { s.commit with state := 7, tReady := s.time.tick, margin := 64 } ∧ t.z 0x2105 0 = s.z 0x2105 0 ||| 4) ∧
    (s.mirrors = false → s.commit.mirrored = false → s.commit.atTime = true → s.time.pt + 64 * 2 ^ 32 < s.commit.instant →
      Completes .commitCheckDone s [.commit] [(0x2004, 5), (0x2004, 6)] fun t =>
        t.commit = { s.commit with state := 4, tReady := s.time.tick, margin := 64, boundary := 0 }) ∧
    (s.mirrors = true → ∃ t, exec .commitCheckDone s = .next t ∧ t.commit = { s.commit with state := 2, mirrorAt := s.now } ∧
      t.staged = s.staged)

/-- Without an acknowledgement for 1 ms the commit goes on alone: COMMIT cause MIRROR, 2004h:5 reads 2, and T is chosen with a
margin of 64 ticks. -/
def Claims.MirrorTimeoutGoesOnAlone : Prop :=
  ∀ s : State, s.commit.state = 2 →
    ∃ t, exec .mirrorTimeout s = .next t ∧ s.commit.mirrorAt + 1000000 ≤ t.now ∧ t.z 0x2004 5 = 2 ∧ t.commit.margin = 64 ∧
      (t.commit.state = 3 ∨ t.commit.state = 4 ∨ t.commit.state = 7) ∧ t.staged = s.staged ∧
      t.z 0xF010 7 = min (s.z 0xF010 7 + 1) (2 ^ 32 - 1) ∧ (s.mgtFast = true → bit (t.z 0x2105 0) 1 = true)

/-- At the fix tick X of a scheduled commit T becomes X plus the margin, and the state is WAITING. -/
def Claims.FixTickFixesTheBoundary : Prop :=
  ∀ s : State, s.commit.state = 4 → s.time.ptRun = true → s.commit.mirrored = false →
    Completes .commitFixTick s [.commit, .now, .time] clockObjects fun t =>
      t.commit = { s.commit with state := 3, fixTick := t.time.tick, boundary := t.time.tick + s.commit.margin }

/-- At T the staged set takes effect whole and is emptied, the state is APPLIED and the commit is counted; the values of the access
objects of the set are then the committed ones. While TICK is in domain reset the set waits. -/
def Obligations.CommitAppliesTheWholeSet : Prop :=
  ∀ s : State, s.pair.boundary = none → s.commit.state = 3 →
    ((s.dom .tick).inReset = false →
      ∃ t, exec .commitApply s = .next t ∧ t.staged = [] ∧ t.commit.state = 5 ∧ t.z 0x2004 2 = (s.z 0x2004 2 + 1) % 2 ^ 32 ∧
        t.z 0xF010 2 = min (s.z 0xF010 2 + 1) (2 ^ 32 - 1) ∧ (s.time.tickRun = true → s.time.bridging = false →
          t.time.tick = max s.time.tick s.commit.boundary) ∧
        ((s.staged.map fun e => key e.idx e.sub).Nodup → ∀ e ∈ s.staged, 0x1100 ≤ e.idx → e.idx ≤ 0x1120 → e.sub < 256 →
          t.val e.idx e.sub = e.val)) ∧
    ((s.dom .tick).inReset = true → Alone s → Completes .commitApply s [] [] fun _ => True)

/-- Installing a set with one entry for each object gives every object of the set its staged value and leaves every other object. -/
def Obligations.InstallPutsEveryValue : Prop :=
  ∀ (s : State) (l : List Staged), (l.map fun e => key e.idx e.sub).Nodup →
    (∀ e ∈ l, (s.install l).val e.idx e.sub = e.val) ∧
    ∀ idx sub, (∀ e ∈ l, key e.idx e.sub ≠ key idx sub) → (s.install l).val idx sub = s.val idx sub

/-- What the end of a commit's check does, with violations and without. -/
def Obligations.CommitCheckEnds : Prop := Claims.FailedCheckReportsItsViolations ∧ Claims.PassedCheckChoosesTheBoundary

/-- A commit goes on without its mirror after 1 ms, and a scheduled one fixes its boundary. -/
def Obligations.MirrorTimeoutAndFixTick : Prop := Claims.MirrorTimeoutGoesOnAlone ∧ Claims.FixTickFixesTheBoundary

/-! ### EOP (Chapter 6) -/

/-- A READ frame, with no transfer open, is served as one read: an abort code is answered with ABORT, a value that fits with READ_RSP,
and a longer one with SEG_READ_START, which opens a transfer that holds the value as it was then. -/
def Claims.ReadFramesAreAnswered : Prop :=
  ∀ (s u v : State) (f : Frame) (p req code : Nat) (o : Octets), Heard s f p req u → (u.path p).xfer = none → 4 ≤ f.o.length →
    leAt f.o 0 1 = 0x10 → u.serveRead p req (leAt f.o 2 2) (leAt f.o 1 1) = (code, o, v) → Alone v →
    ∃ t, exec (.read f) s = .next t ∧ t.staged = s.staged ∧
      (code ≠ 0 → Answered f.via (abortFrame (leAt f.o 2 2) (leAt f.o 1 1) code) v t) ∧
      (code = 0 → o.length ≤ expMax f.via → Answered f.via (rspFrame (leAt f.o 2 2) (leAt f.o 1 1) o) v t ∧ (t.path p).xfer = none) ∧
      (code = 0 → expMax f.via < o.length →
        Answered f.via (segReadStart (leAt f.o 2 2) (leAt f.o 1 1) o.length) v t ∧
        (t.path p).xfer = some ⟨req, false, leAt f.o 2 2, leAt f.o 1 1, o, o.length, 0,
          segReadStart (leAt f.o 2 2) (leAt f.o 1 1) o.length, false, false, carrierFd f.via, f.via, s.now⟩)

/-- A WRITE frame, with no transfer open, is served as one write with the octets of its parameter, and answered with WRITE_ACK or
with ABORT and the code. -/
def Claims.WriteFramesAreAnswered : Prop :=
  ∀ (s u v : State) (f : Frame) (p req code : Nat), Heard s f p req u → (u.path p).xfer = none →
    leAt f.o 0 1 / 16 = 3 → leAt f.o 0 1 % 16 ≠ 0 → 4 + leAt f.o 0 1 % 16 ≤ f.o.length →
    u.serveWrite p req (leAt f.o 2 2) (leAt f.o 1 1) (octAt f.o 4 (leAt f.o 0 1 % 16)) none = (code, v) → Alone v → v.up = true →
    ∃ t, exec (.write f) s = .next t ∧ t.staged = v.staged ∧ Answered f.via (writeAnswer (leAt f.o 2 2) (leAt f.o 1 1) code) v t

/-- A SEG_WRITE_START that passes checks 1 to 7 with its total length opens a transfer and is acknowledged; each SEG with the expected
toggle is collected and acknowledged; the one that completes the length is served as one write; a SEG outside any transfer draws
ABORT 0x0502. -/
def Obligations.SegmentedWritesCollectTheirValue : Prop :=
  ∀ (s u : State) (f : Frame) (p req : Nat), Heard s f p req u → Alone u →
    (∀ r, (u.path p).xfer = none → 6 ≤ f.o.length → leAt f.o 0 1 = 0x60 → 1 ≤ leAt f.o 4 2 → leAt f.o 4 2 ≤ 4096 →
      findRow (leAt f.o 2 2) (leAt f.o 1 1) = some r →
      u.headCode r ⟨p, req, u.levelOf p req, leAt f.o 2 2, leAt f.o 1 1⟩ (leAt f.o 4 2) none = 0 →
      ∃ t, exec (.segWriteStart f) s = .next t ∧ Answered f.via (segAck 0) u t ∧ t.staged = s.staged ∧
        (t.path p).xfer = some ⟨req, true, leAt f.o 2 2, leAt f.o 1 1, [], leAt f.o 4 2, 0, segAck 0, false, false,
          carrierFd f.via, f.via, s.now⟩) ∧
    (leAt f.o 0 1 / 16 = 7 → malformed f.via f.o = false →
      ((u.path p).xfer = none → ∃ t, exec (.seg f) s = .next t ∧ Answered f.via (abortFrame 0 0 0x0502) u t) ∧
      ∀ x, (u.path p).xfer = some x → x.req = req → x.write = true → x.done = false → (p = 1 → x.fd = carrierFd f.via) →
        x.toggle = leAt f.o 0 1 % 16 →
        ((x.data ++ octAt f.o 2 (leAt f.o 1 1)).length < x.total → leAt f.o 1 1 = segMax f.via →
          ∃ t, exec (.seg f) s = .next t ∧ Answered f.via (segAck ((x.toggle + 1) % 16)) u t ∧ t.staged = s.staged ∧
            (t.path p).xfer = some { x with
              data := x.data ++ octAt f.o 2 (leAt f.o 1 1), toggle := (x.toggle + 1) % 16, last := segAck ((x.toggle + 1) % 16)
              any := true, since := s.now }) ∧
        (∀ code v, (x.data ++ octAt f.o 2 (leAt f.o 1 1)).length = x.total →
          u.serveWrite p x.req x.idx x.sub (x.data ++ octAt f.o 2 (leAt f.o 1 1)) none = (code, v) → Alone v → v.up = true →
          ∃ t, exec (.seg f) s = .next t ∧ Answered f.via (writeAnswer x.idx x.sub code) v t ∧ t.staged = v.staged))

/-- A SEG_REQ with the expected toggle fetches the next segment of an open read, and the last one completes it; one that repeats the
last toggle draws the last frame again; one outside any transfer draws ABORT 0x0502. An ABORT ends the requester's transfer without an
answer. -/
def Claims.SegmentedReadsAndAborts : Prop :=
  ∀ (s u : State) (f : Frame) (p req : Nat), Heard s f p req u → Alone u →
    (leAt f.o 0 1 / 16 = 9 → 1 ≤ f.o.length →
      ((u.path p).xfer = none → ∃ t, exec (.segReq f) s = .next t ∧ Answered f.via (abortFrame 0 0 0x0502) u t) ∧
      ∀ x, (u.path p).xfer = some x → x.req = req → x.write = false → (p = 1 → x.fd = carrierFd f.via) →
        (x.done = false → x.toggle = leAt f.o 0 1 % 16 →
          ∃ t, exec (.segReq f) s = .next t ∧ Answered f.via (segFrame x.toggle (x.data.take (segMax f.via))) u t ∧
            (t.path p).xfer = some { x with
              data := x.data.drop (segMax f.via), toggle := (x.toggle + 1) % 16
              last := segFrame x.toggle (x.data.take (segMax f.via)), any := true
              done := (x.data.drop (segMax f.via)).isEmpty, since := s.now }) ∧
        (x.any = true → (leAt f.o 0 1 % 16 + 1) % 16 = x.toggle →
          ∃ t, exec (.segReq f) s = .next t ∧ Answered f.via x.last u t ∧ (t.path p).xfer = some { x with since := s.now })) ∧
    (leAt f.o 0 1 = 0xF0 → 6 ≤ f.o.length → ∀ x, (u.path p).xfer = some x → x.req = req →
      Completes (.abort f) s [.acc] [(0xF008, 1), (0xF008, 5)] fun t => (t.path p).xfer = none)

/-- The transfer timeout draws ABORT 0x0501 for an open transfer and closes a completed one in silence; while the next frame of the transfer
waits for the core it has stopped. The pointers of the acceptance queue that do not match drop every request that waits there and set DICT
cause QRESET; no transfer ends. -/
def Claims.TransferTimeoutAndQueueReset : Prop :=
  ∀ s : State,
    (∀ path x, (s.path (pathNo path)).xfer = some x → s.xferHeld (pathNo path) = true →
      Completes (.transferTimeout path) s [] [] fun _ => True) ∧
    (∀ path x, (s.path (pathNo path)).xfer = some x → s.xferHeld (pathNo path) = false →
      (x.done = false → ∃ t, exec (.transferTimeout path) s = .next t ∧ (t.path (pathNo path)).xfer = none ∧
        t.now = max s.now (x.since + s.n 0x1104 (pathNo path) * 1000000) ∧ Answered x.carrier (abortFrame x.idx x.sub 0x0501) s t ∧
        t.z 0xF008 7 = min (s.z 0xF008 7 + 1) (2 ^ 32 - 1)) ∧
      (x.done = true → Completes (.transferTimeout path) s [.acc, .now, .time] clockObjects fun t =>
        (t.path (pathNo path)).xfer = none)) ∧
    (s.mgtFast = true → Completes .acceptanceQueueReset s [.acc, .latch] (causeObjects 3) fun t =>
      t.acc.queue = [] ∧ t.z 0x2104 0 = s.z 0x2104 0 ||| 4 ∧ ∀ p, (t.path p).xfer = (s.path p).xfer)

/-- A path that a change of the summary waits on sends an ALERT frame, 1 ms after the last one at the earliest; the repeat interval
sends one while the summary is not zero. -/
def Obligations.AlertFramesFollowTheSummary : Prop :=
  ∀ (s : State) (path : Path), AlertsFollow s → s.alertsOn (pathNo path) = true →
    ((s.path (pathNo path)).due = true → ∃ t, exec (.alertFrameSend path) s = .next t ∧ AlertLeft s t (pathNo path) ∧
      (∀ a, (s.path (pathNo path)).alertAt = some a → t.now = max s.now (a + 1000000)) ∧ t.staged = s.staged) ∧
    (∀ a, s.summary ≠ 0 → (s.path (pathNo path)).alertAt = some a →
      ∃ t, exec (.alertRepeatExpiry path) s = .next t ∧ AlertLeft s t (pathNo path) ∧
        t.now = max s.now (a + s.n 0x1105 2 * 1000000) ∧ t.staged = s.staged)

/-- READ and WRITE frames are served and answered on their carrier. -/
def Obligations.ReadAndWriteFrames : Prop := Claims.ReadFramesAreAnswered ∧ Claims.WriteFramesAreAnswered

/-- Segmented reads, aborts of the host, transfer timeouts, and the reset of the acceptance queue. -/
def Obligations.SegmentedReadsAbortsAndTimeouts : Prop := Claims.SegmentedReadsAndAborts ∧ Claims.TransferTimeoutAndQueueReset

/-- The CAN controller goes bus-off and sets DICT cause BUSOFF; it recovers with its error counters at zero; it joins an idle bus with
the committed node address and bit timing; at 128 errors or more it is error-passive, and with more than 255 in transmission bus-off. -/
def Claims.CanControllerStates : Prop :=
  ∀ s : State,
    (s.pathUp 1 = true → Completes .canBusOff s [.acc, .latch] (causeObjects 3 ++ [(0xF008, 4)]) fun t =>
      t.acc.canState = 3 ∧ t.z 0x2104 0 = s.z 0x2104 0 ||| 8 ∧ t.z 0xF008 4 = min (s.z 0xF008 4 + 1) (2 ^ 32 - 1)) ∧
    (s.acc.canState = 3 → Completes .canBusOffRecovery s [.acc] [] fun t =>
      t.acc.canState = 1 ∧ t.acc.tecErr = 0 ∧ t.acc.recErr = 0) ∧
    (s.mgtFast = true → 8 ≤ s.boot.step → s.b 0x1100 1 = true → (s.dom .tick).inReset = false → s.acc.canState = 0 →
      Completes .canBusIdle s [.acc] [] fun t =>
        t.acc.canState = 1 ∧ t.acc.canNode = s.ownNode ∧ t.acc.canTiming = s.canTimes ∧ t.acc.canPending = false) ∧
    (∀ tec rec, s.pathUp 1 = true →
      (tec ≤ 255 → Completes (.canErrorPassive tec rec) s [.acc] [(0xF008, 3)] fun t =>
        t.acc.canState = (if 128 ≤ tec ∨ 128 ≤ rec then 2 else 1) ∧ t.acc.tecErr = min tec 65535 ∧ t.acc.recErr = min rec 65535 ∧
        (s.acc.canState = 1 → (128 ≤ tec ∨ 128 ≤ rec) → t.z 0xF008 3 = min (s.z 0xF008 3 + 1) (2 ^ 32 - 1))) ∧
      (255 < tec → Completes (.canErrorPassive tec rec) s [.acc, .latch] (causeObjects 3 ++ [(0xF008, 3), (0xF008, 4)]) fun t =>
        t.acc.canState = 3 ∧ t.z 0x2104 0 = s.z 0x2104 0 ||| 8 ∧ t.z 0xF008 4 = min (s.z 0xF008 4 + 1) (2 ^ 32 - 1)))

/-- The 10BASE-T1S link down sets DICT cause NETDOWN and takes the path out of service; its return ends the condition, reads the PHY and
sets the MAC's access to the medium (how these leave is DESIGN CHOICE, the register of the PHY PRESUMED, log entry 90). An ARP request for
the device's address is answered and its sender learnt, and an ARP reply lets the datagrams that waited for it leave. An ICMP echo request
to the device's address is answered in a datagram with DF set, at once where the next hop is known, else behind an ARP request; one that is
not clean is dropped and counted. -/
def Claims.NetworkAnswersAndLink : Prop :=
  ∀ s : State,
    (s.acc.netDown = false → s.mgtFast = true → Completes (.networkDown true) s [.acc, .out, .latch] (causeObjects 3) fun t =>
      t.acc.netDown = true ∧ t.acc.phyLink = false ∧ t.pathUp 2 = false ∧ t.z 0x2104 0 = s.z 0x2104 0 ||| 16) ∧
    (Completes .networkUp s [.acc, .out] [] fun t => t.acc.netDown = false ∧ t.acc.phyLink = true ∧ .mdio (s.n 0x1112 1) 1 ∈ t.out ∧
      .mac s.macAccess.1 s.macAccess.2.1 s.macAccess.2.2 ∈ t.out) ∧
    (s.pathUp 2 = true →
      (∀ target sender mac, BitVec.toNat target = s.ownIp → Completes (.arpRequest target sender mac) s [.acc, .out] [] fun t =>
        .arp 2 sender.toNat mac.toNat ∈ t.out ∧ mget t.acc.arp sender.toNat = some mac.toNat) ∧
      (∀ ip mac, Completes (.arpReply ip mac) s [.acc, .out] [] fun t =>
        mget t.acc.arp (BitVec.toNat ip) = some (BitVec.toNat mac) ∧
        ∀ d ∈ s.acc.arpWait, s.nextHop d.dst = some ip.toNat → .ip d true ∈ t.out ∧ d ∉ t.acc.arpWait) ∧
      (∀ src dst o hop, BitVec.toNat dst = s.ownIp → s.nextHop (BitVec.toNat src) = some hop → s.acc.netDown = false →
        Completes (.icmpEchoRequest src dst { o := o, clean := true }) s [.acc, .out] [] fun t =>
          let d : Datagram := { dst := src.toNat, dport := 0, src := dst.toNat, sport := 0, o := o, echo := true }
          ((mget s.acc.arp hop).isSome = true → t.out = .ip d true :: s.out ∧ t.acc = s.acc) ∧
          (mget s.acc.arp hop = none → t.out = .arp 1 hop 0 :: s.out ∧ t.acc.arpWait = s.acc.arpWait ++ [d])) ∧
      (∀ src dst o, BitVec.toNat dst = s.ownIp → Completes (.icmpEchoRequest src dst { o := o, clean := false }) s [] [(0xF008, 6)] fun t =>
        t.z 0xF008 6 = min (s.z 0xF008 6 + 1) (2 ^ 32 - 1)))

/-- The states of the CAN controller, and what the 10BASE-T1S path answers. -/
def Obligations.FieldNetworks : Prop := Claims.CanControllerStates ∧ Claims.NetworkAnswersAndLink

/-- The fabric mailbox: an unclaimed one is claimed by a CLAIM that is not zero; the owner alone sets REQLEN and REQUEST, rings the
doorbell, which submits the request, and releases the claim, which closes its transfer and session. What another source writes, and what
lies outside the range of REQLEN, is discarded and counted. A claim whose limit has passed is gone before the next CLAIM. -/
def Claims.MailboxServesItsOwner : Prop :=
  ∀ (s : State) (p : Fin 6) (sid : BitVec 8) (v : BitVec 32), s.windowOpen p.val = true → s.pathUp 3 = true →
    (s.acc.owner ≠ none → s.late .mgt s.acc.claimAt s.claimLimit = true → v.toNat % 65536 ≠ 0 →
      Completes (.mailboxClaim p sid v) s [.acc] [(0xF008, 13)] fun t =>
        t.acc.owner = some (p.val, sid.toNat, v.toNat % 65536) ∧ t.acc.claimAt = s.now ∧
        t.z 0xF008 13 = min (s.z 0xF008 13 + 1) (2 ^ 32 - 1)) ∧
    ((s.acc.owner ≠ none → s.late .mgt s.acc.claimAt s.claimLimit = false) →
    (s.acc.owner = none → v.toNat % 65536 ≠ 0 → Completes (.mailboxClaim p sid v) s [.acc] [] fun t =>
      t.acc.owner = some (p.val, sid.toNat, v.toNat % 65536) ∧ t.acc.claimAt = s.now) ∧
    (∀ q b c, s.acc.owner = some (q, b, c) → (q, b) ≠ (p.val, sid.toNat) → Completes (.mailboxClaim p sid v) s [] [(0xF008, 12)] fun t =>
      t.z 0xF008 12 = min (s.z 0xF008 12 + 1) (2 ^ 32 - 1)) ∧
    ∀ c, s.acc.owner = some (p.val, sid.toNat, c) →
      (v.toNat % 65536 = 0 → Completes (.mailboxRelease p sid v) s [.acc] [] fun t =>
        t.acc.owner = none ∧ t.acc.reqLen = 0 ∧ (t.path 3).xfer = none ∧ (t.path 3).session = none) ∧
      (s.acc.mbStatus ≠ 1 →
        (1 ≤ v.toNat → v.toNat ≤ 256 → Completes (.mailboxReqlenWrite p sid v) s [.acc] [] fun t => t.acc.reqLen = v.toNat) ∧
        (v.toNat = 0 ∨ 256 < v.toNat → Completes (.mailboxReqlenWrite p sid v) s [] [(0xF008, 12)] fun t =>
          t.z 0xF008 12 = min (s.z 0xF008 12 + 1) (2 ^ 32 - 1)) ∧
        (∀ off o, 0x100 ≤ BitVec.toNat off → off.toNat < 0x200 → (o.length = 4 ∨ o.length = 8) → off.toNat % o.length = 0 →
          Completes (.mailboxRequestWrite p sid off o) s [.acc] [] fun t =>
            t.acc.request = (putOct s.acc.request (off.toNat - 0x100) o).take 256) ∧
        (v = 1#32 → ∃ t, exec (.mailboxDoorbell p sid v) s = .next t ∧
          exec (.read { via := .mailbox p sid, o := octAt s.acc.request 0 s.acc.reqLen }) s = .next t ∧ t.acc.mbStatus ≠ 1)))

/-- The claim of an owner that stays silent for the idle limit is released and counted. An access that the window does not serve is
discarded and counted, and reads zero. The low words of the TIME and TICK views latch the rest for the port, which then reads it. -/
def Claims.WindowViewsAndExpiry : Prop :=
  ∀ s : State,
    (s.acc.owner ≠ none → Completes .mailboxClaimExpiry s [.acc, .now, .time] (clockObjects ++ [(0xF008, 13)]) fun t =>
      t.acc.owner = none ∧ (t.path 3).session = none ∧ t.now = max s.now (s.acc.claimAt + s.n 0x1120 3 * 1000000)) ∧
    ∀ p : Fin 6, s.windowOpen p.val = true →
      ((s.dom .mgt).inReset = false →
        Completes (.mailboxInvalidAccess p true) s [] [(0xF008, 12)] (fun t =>
          t.z 0xF008 12 = min (s.z 0xF008 12 + 1) (2 ^ 32 - 1)) ∧
        Completes (.mailboxInvalidAccess p false) s [.out] [(0xF008, 12)] (fun t =>
          t.out = .window p.val 0 4 :: s.out ∧ t.z 0xF008 12 = min (s.z 0xF008 12 + 1) (2 ^ 32 - 1))) ∧
      (s.pathUp 3 = true →
        (∀ wide, Completes (.timeViewRead p 0x400#16 wide) s [.acc, .out] [] fun t =>
          t.out = .window p.val ((s.timeLow + s.timeWords * 2 ^ 32) % 2 ^ (if wide then 64 else 32)) (if wide then 8 else 4) :: s.out ∧
          mget t.acc.timeView p.val = some s.timeWords) ∧
        (∀ k : Nat, k < 3 → Completes (.timeViewRead p (BitVec.ofNat 16 (0x404 + 4 * k)) false) s [.out] [] fun t =>
          t.out = .window p.val (mgetD s.acc.timeView p.val 0 / 2 ^ (32 * k) % 2 ^ 32) 4 :: s.out) ∧
        (∀ wide, Completes (.tickViewRead p 0x410#16 wide) s [.acc, .out] [] fun t =>
          t.out = .window p.val (s.time.tick % 2 ^ (if wide then 64 else 32)) (if wide then 8 else 4) :: s.out ∧
          mget t.acc.tickView p.val = some (s.time.tick / 2 ^ 32)) ∧
        (Completes (.tickViewRead p 0x414#16 false) s [.out] [] fun t =>
          t.out = .window p.val (mgetD s.acc.tickView p.val 0 % 2 ^ 32) 4 :: s.out))

/-- The fabric mailbox serves its owner; its views, its claim limit and its invalid accesses. -/
def Obligations.FabricMailboxWindow : Prop := Claims.MailboxServesItsOwner ∧ Claims.WindowViewsAndExpiry

/-- Each TAP instruction selects its register: the boundary register, whose captured bits are free and into which the scan is shifted, the
IDCODE register, the bypass register, which captures 0 and which every undefined code selects, or the IEEE 1687 network. A reset of the TAP
selects IDCODE with the segment out. -/
def Claims.TapInstructionsSelectRegisters : Prop :=
  ∀ s : State,
    (∀ scan, Completes (.extest scan) s [.acc, .out, .free] [] fun t =>
      t.acc.tapIr = 0 ∧ t.acc.boundary = leBytes 12 (leAt scan 0 12 % 2 ^ 90) ∧ ∃ n, n < 2 ^ 90 ∧ t.out = .tdo n 90 :: s.out) ∧
    (∀ scan, Completes (.samplePreload scan) s [.acc, .out, .free] [] fun t =>
      t.acc.tapIr = 2 ∧ t.acc.boundary = leBytes 12 (leAt scan 0 12 % 2 ^ 90) ∧ ∃ n, n < 2 ^ 90 ∧ t.out = .tdo n 90 :: s.out) ∧
    (Completes .idcode s [.acc, .out] [] fun t => t.acc.tapIr = 1 ∧ t.out = .tdo 0x174105BF 32 :: s.out) ∧
    (Completes .clamp s [.acc, .out] [] fun t => t.acc.tapIr = 4 ∧ t.out = .tdo 0 1 :: s.out) ∧
    (Completes .highz s [.acc, .out] [] fun t => t.acc.tapIr = 5 ∧ t.out = .tdo 0 1 :: s.out) ∧
    (∀ code, tapCode (BitVec.toNat code) = false → Completes (.bypass code) s [.acc, .out] [] fun t =>
      t.acc.tapIr = code.toNat ∧ t.out = .tdo 0 1 :: s.out) ∧
    (∀ sib, Completes (.ijtagAccess sib) s [.acc, .out] [] fun t => t.acc.tapIr = 0x10 ∧ t.acc.sib = sib ∧
      t.out = (if s.acc.sib then .tdo (2 * s.jtagWord + 1) 41 else .tdo 0 1) :: s.out) ∧
    (Completes .tapReset s [.acc] [] fun t => t.acc.tapIr = 1 ∧ t.acc.sib = false)

/-- With its segment in the scan path, each scan of the JTAG mailbox shows the segment insertion bit and captures STATE, the selected
address and the selected word (or RSPLEN), and at Update-DR writes a request word, selects a response word or RSPLEN, rings the doorbell, or
closes the path's transfer and session. That no address is shown beside RSPLEN, that the insertion bit leaves first, and that a release sets
STATE to IDLE, are DESIGN CHOICE (log entry 21). -/
def Claims.JtagMailboxCommands : Prop :=
  ∀ s : State, s.jtagOpen = true →
    let shown := 2 * (s.acc.jtagState * 2 ^ 38 + s.acc.jtagSel % 64 * 2 ^ 32 +
      (if s.acc.jtagSel = 64 then s.acc.jtagRspLen else leAt s.acc.jtagRsp (4 * s.acc.jtagSel) 4)) + 1
    (∀ addr data, Completes (.jtagWriteRequestWord addr data) s [.acc, .out] [] fun t =>
      t.acc.jtagReq = (putOct s.acc.jtagReq (4 * addr.toNat) (leBytes 4 data.toNat)).take 256 ∧ t.out = .tdo shown 41 :: s.out) ∧
    (∀ addr, Completes (.jtagSelectResponseWord addr) s [.acc, .out] [] fun t =>
      t.acc.jtagSel = addr.toNat ∧ t.out = .tdo shown 41 :: s.out) ∧
    (Completes .jtagSelectRsplen s [.acc, .out] [] fun t => t.acc.jtagSel = 64 ∧ t.out = .tdo shown 41 :: s.out) ∧
    (Completes .jtagRelease s [.acc, .out] [] fun t =>
      t.acc.jtagState = 0 ∧ (t.path 4).xfer = none ∧ (t.path 4).session = none ∧ (t.path 4).challenge = none ∧
        t.out = .tdo shown 41 :: s.out) ∧
    (∀ reqlen, ∃ t, exec (.jtagDoorbell reqlen) s = .next t ∧
      exec (.read { via := .jtag, o := octAt s.acc.jtagReq 0 (min reqlen.toNat 256) }) { s with out := .tdo shown 41 :: s.out } = .next t)

/-- The instructions of the TAP and the commands of the JTAG mailbox. -/
def Obligations.TapAndJtagMailbox : Prop := Claims.TapInstructionsSelectRegisters ∧ Claims.JtagMailboxCommands

/-! ### Olelle links (Chapter 9) -/

/-- The phases of a training attempt that succeed, one after the other: PLL locked, sideband ready, main band trained (DEGRADE where
repair or a narrower width is new), OCAP read and the generation chosen, OSET written with CRINIT as the first flit and OSTAT read
through the sideband until READY; and the neighbour's CRINIT and READY, which complete it. -/
def Obligations.TrainingPassesItsPhases : Prop :=
  ∀ (s : State) (p : Fin 6), Alone s →
    ((s.port p.val).phase = 1 → Completes (.portPllLocked p true) s [.clk, .ports] [] fun t =>
      t.port p.val = { s.port p.val with phase := 2 } ∧ (t.pll (.port p)).locked = true ∧ (t.dom (.lnk p)).running = true) ∧
    ((s.port p.val).phase = 2 → Completes (.sidebandInitialisationDone p true) s [.ports] [] fun t =>
      t.port p.val = { s.port p.val with phase := 3 }) ∧
    (∀ rate width rep, (s.port p.val).phase = 3 → inSubset p.val (Fin.val width) rep = true → s.mgtFast = true →
      CompletesWithin (.mainbandTrainingDone p (.ok rate width rep)) s [.ports, .out, .latch] fun t =>
        (t.port p.val).phase = 4 ∧ (t.port p.val).st = 3 ∧ (t.port p.val).width = width.val ∧ (t.port p.val).repaired = rep ∧
        (t.port p.val).rate = min rate.val (s.n 0x7001 (p.val + 1)) ∧ t.out = .sideband p.val 0 0x0F00 0 :: s.out ∧
        t.z 0x2140 (p.val + 1) =
          if rep = true ∧ (s.port p.val).wasRepaired = false ∨ 4 ≤ p.val ∧ width.val = 1 ∧ (s.port p.val).wasNarrow = false then
            s.z 0x2140 (p.val + 1) ||| 2
          else s.z 0x2140 (p.val + 1)) ∧
    (∀ ocap, (s.port p.val).phase = 4 → bits (BitVec.toNat ocap) 16 16 = 0x4F4C → bits ocap.toNat 0 3 ≠ 0 →
      pickGen (bits ocap.toNat 0 3) (s.n 0x7003 (p.val + 1)) ≠ 0 →
      CompletesWithin (.ocapReadDone p ocap) s [.ports, .out, .latch] fun t =>
        (t.port p.val).phase = 5 ∧ (t.port p.val).gen = pickGen (bits ocap.toNat 0 3) (s.n 0x7003 (p.val + 1)) ∧
        (t.port p.val).sidBase = 16 * (p.val + 1) ∧ (t.port p.val).agents = bits ocap.toNat 4 4 + 1 ∧ (t.port p.val).ocap = ocap.toNat) ∧
    ((s.port p.val).phase = 5 → Completes (.osetWriteDone p) s [.ports, .out] [(0xF040, 16 * p.val + 2)] fun t =>
      (t.port p.val).phase = 6 ∧ (t.port p.val).st = 4 ∧
      ((s.port p.val).held.length < 256 → (s.port p.val).ctrlq = [] →
        ∃ o, t.out = .sideband p.val 0 0x0F08 0 :: .flit p.val o :: s.out) ∧
      (256 ≤ (s.port p.val).held.length →
        t.out = .sideband p.val 0 0x0F08 0 :: s.out ∧ (t.port p.val).ctrlq = (s.port p.val).ctrlq ++ [(1, 0, 0)])) ∧
    (∀ credits, (s.port p.val).phase = 6 → (s.port p.val).crinitIn = false →
      Completes (.crinit p credits) s [.ports] [(0xF040, 16 * p.val + 7)] fun t =>
        (t.port p.val).crinitIn = true ∧ (∀ v, v < 8 → mgetD (t.port p.val).creditOut v 0 = min 4095 ((credits[v]?).getD 0)) ∧
        (t.port p.val).st = if (s.port p.val).ready then 5 else (s.port p.val).st) ∧
    (∀ ostat, (s.port p.val).phase = 6 → bit (BitVec.toNat ostat) 1 = false → bit ostat.toNat 0 = true →
      Completes (.ostatReady p ostat) s [.ports] [(0xF040, 16 * p.val + 7)] fun t =>
        (t.port p.val).ready = true ∧ ((s.port p.val).crinitIn = true →
          (t.port p.val).st = 5 ∧ (t.port p.val).phase = 0 ∧ (t.port p.val).result = 1 ∧ (t.port p.val).trainedAt = s.time.tick)) ∧
    (∀ ostat, (s.port p.val).phase = 6 → bit (BitVec.toNat ostat) 1 = false → bit ostat.toNat 0 = false →
      Completes (.ostatReady p ostat) s [.out] [] fun t => t.out = .sideband p.val 0 0x0F08 0 :: s.out)

/-- Each way in which a training attempt fails, with the result that 7013h then reads; the next attempt 100 µs later; and the sideband
access that fails its phase and sets LINK cause SIDEBAND. -/
def Obligations.FailedAttemptsAreRepeated : Prop :=
  ∀ (s : State) (p : Fin 6), Alone s →
    ((s.port p.val).phase = 1 → ∃ t, exec (.portPllLocked p false) s = .next t ∧ AttemptFailed s t p.val (s.port p.val) 9) ∧
    ((s.port p.val).phase = 2 → ∃ t, exec (.sidebandInitialisationDone p false) s = .next t ∧ AttemptFailed s t p.val (s.port p.val) 2) ∧
    ((s.port p.val).phase = 3 →
      (∃ t, exec (.mainbandTrainingDone p .failed) s = .next t ∧ AttemptFailed s t p.val (s.port p.val) 3) ∧
      (∃ t, exec (.mainbandTrainingDone p .noStreamRaw) s = .next t ∧ AttemptFailed s t p.val (s.port p.val) 4) ∧
      ∀ rate width rep, inSubset p.val (Fin.val width) rep = false →
        ∃ t, exec (.mainbandTrainingDone p (.ok rate width rep)) s = .next t ∧ AttemptFailed s t p.val (s.port p.val) 3) ∧
    (∀ ocap, (s.port p.val).phase = 4 →
      (bits (BitVec.toNat ocap) 16 16 ≠ 0x4F4C ∨ bits ocap.toNat 0 3 = 0 →
        ∃ t, exec (.ocapReadDone p ocap) s = .next t ∧ AttemptFailed s t p.val { s.port p.val with ocap := ocap.toNat } 5) ∧
      (bits ocap.toNat 16 16 = 0x4F4C → bits ocap.toNat 0 3 ≠ 0 → pickGen (bits ocap.toNat 0 3) (s.n 0x7003 (p.val + 1)) = 0 →
        ∃ t, exec (.ocapReadDone p ocap) s = .next t ∧ AttemptFailed s t p.val { s.port p.val with ocap := ocap.toNat } 6)) ∧
    (∀ ostat, (s.port p.val).phase = 6 → bit (BitVec.toNat ostat) 1 = true →
      ∃ t, exec (.ostatReady p ostat) s = .next t ∧ AttemptFailed s t p.val (s.port p.val) 7) ∧
    (∀ k, k = 4 ∨ k = 5 ∨ k = 6 → (s.port p.val).phase = k → s.mgtFast = true →
      ∃ t, exec (.sidebandAccessTimeout p) s = .next t ∧ AttemptFailed s t p.val (s.port p.val) (k + 1) ∧ bit (t.z 0x2106 0) 8 = true) ∧
    ((s.port p.val).phase ≠ 0 → ∃ t, exec (.trainingAttemptTimeout p) s = .next t ∧ AttemptFailed s t p.val (s.port p.val) 8 ∧
      t.now = max s.now ((s.port p.val).attemptAt + s.n 0x7006 0 * 1000000)) ∧
    (∀ r, (s.port p.val).retryAt = some r → Completes (.trainingRetry p) s [.ports, .clk, .now, .time] clockObjects fun t =>
      t.now = max s.now r ∧ (t.port p.val).st = 2 ∧ (t.port p.val).phase = 1 ∧
        (t.port p.val).attempt = (s.port p.val).attempt + 1 ∧ (t.port p.val).attemptAt = t.now)

/-- A port leaves service without a commit when a lane fails, when its neighbour retrains, when an ECHO does not match, and when a
retrain request finds it trained: its cause DOWN is set and it trains from phase 1, as an untrained one does on request. A low-power
request is refused on the sideband, sets SIDEBAND and changes no link. -/
def Claims.PortsLeaveServiceAndRetrain : Prop :=
  ∀ (s : State) (p : Fin 6), Alone s →
    ((s.port p.val).trained = true → (s.port p.val).st ≠ 7 →
      (∃ t, exec (.laneFailure p) s = .next t ∧ WentDown s t p.val) ∧ (∃ t, exec (.neighbourRetrain p) s = .next t ∧ WentDown s t p.val)) ∧
    (∀ w, Accepted s w 0x7020 (p.val + 1) 0x5254524E → (s.port p.val).st ≠ 7 →
      ∃ t, exec (.retrainRequest w p 0x5254524E#32) s = .next t ∧ Trains t p.val ∧
        ((s.port p.val).trained = true → s.mgtFast = true → bit (t.z 0x2140 (p.val + 1)) 5 = true)) ∧
    (∀ e mismatch totals, (s.port p.val).epochNo = some e →
      (mismatch = false → (∀ v, v < 8 → (totals[v]?).getD 0 = mgetD (s.port p.val).creditGot v 0) →
        Completes (.echo p e mismatch totals) s [.ports] [] fun t => t.port p.val = { s.port p.val with epochNo := none }) ∧
      (mismatch = true → (s.port p.val).st ≠ 7 → ∃ t, exec (.echo p e mismatch totals) s = .next t ∧ WentDown s t p.val ∧
        (s.mgtFast = true → bit (t.z 0x2140 (p.val + 1)) 4 = true))) ∧
    ((s.port p.val).st ≠ 0 → s.mgtFast = true → Completes (.lowPowerRequest p) s [.out, .latch] (causeObjects 5) fun t =>
      t.z 0x2106 0 = s.z 0x2106 0 ||| 256 ∧ t.out = .sideband p.val 2 0 0 :: s.out)

/-- A port that a commit has disabled sends QUIESCE once no answer is owed; QDONE, or the limit of 1 ms, which is counted, disables it,
without DOWN. -/
def Claims.QuiesceEndsInDisabled : Prop :=
  ∀ (s : State) (p : Fin 6), Alone s → (s.port p.val).st = 7 →
    ((s.port p.val).quiesceAt = none → s.owesAnswers p.val = false →
      Completes (.quiesce p) s [.ports, .out] [(0xF040, 16 * p.val + 2)] fun t =>
        (t.port p.val).quiesceAt = some s.now ∧ (t.port p.val).st = 7 ∧
        ((s.port p.val).held.length < 256 → (s.port p.val).ctrlq = [] → ∃ o, t.out = .flit p.val o :: s.out) ∧
        (256 ≤ (s.port p.val).held.length → t.out = s.out ∧ (t.port p.val).ctrlq = (s.port p.val).ctrlq ++ [(4, 0, 0)])) ∧
    (∀ a, (s.port p.val).quiesceAt = some a → s.b 0x7000 (p.val + 1) = false →
      (∃ t, exec (.qdone p) s = .next t ∧ (t.port p.val).st = 0 ∧ t.z 0x2140 (p.val + 1) = s.z 0x2140 (p.val + 1)) ∧
      (∃ t, exec (.quiesceTimeout p) s = .next t ∧ (t.port p.val).st = 0 ∧ t.now = max s.now (a + 1000000) ∧
        t.z 0xF040 (16 * p.val + 11) = min (s.z 0xF040 (16 * p.val + 11) + 1) (2 ^ 32 - 1)))

/-- At a boundary of 16,384 ticks every trained port gets an EPOCH of that number, where the held flits leave room, and a port that has
waited 64 ticks is admitted. The replay timeout sends every unacknowledged flit again and keeps it. -/
def Claims.EpochsAdmitPortsAndReplaysKeepFlits : Prop :=
  ∀ (s : State) (p : Fin 6), Alone s →
    (∀ dies, (s.port p.val).trained = true →
      ∃ t, exec (.creditEpochBoundary dies) s = .next t ∧
        s.nextEpoch % 16384 = 0 ∧ s.time.tick ≤ s.nextEpoch ∧ s.nextEpoch ≤ s.time.tick + 16384 ∧
        ((s.port p.val).held.length < 256 → (s.port p.val).ctrlq = [] → (t.port p.val).epochNo = some (s.nextEpoch / 16384 % 2 ^ 32)) ∧
        (256 ≤ (s.port p.val).held.length → (t.port p.val).epochNo = (s.port p.val).epochNo) ∧
        ((s.port p.val).st = 5 → (s.port p.val).trainedAt + 64 ≤ s.nextEpoch →
          (t.port p.val).st = 6 ∧ (t.port p.val).admitted = true)) ∧
    ((s.port p.val).linked = true → (s.port p.val).held ≠ [] → (s.port p.val).repCount < 7 →
      CompletesWithin (.replayTimeout p) s [.ports, .out, .latch] fun t =>
        (t.port p.val).held = (s.port p.val).held ∧ ∀ e ∈ (s.port p.val).held, .flit p.val e.2 ∈ t.out)

/-- A flit with a bad CRC is counted, and one out of sequence is not taken: the first of an episode draws one NAK. An in-order PAYLOAD
flit of NULL slots advances the expected FSEQ and draws an acknowledgement. -/
def Claims.FlitsAreCheckedAndAcknowledged : Prop :=
  ∀ (s : State) (p : Fin 6) (o : Octets), Alone s → (s.port p.val).linked = true → o.length = flitLen (s.port p.val).gen →
    let n := flitLen (s.port p.val).gen
    (leAt o (n - 4) 4 ≠ crc32c (o.take (n - 4)) →
      ∃ t, exec (.flitReceive p o) s = .next t ∧ t.z 0xF040 (16 * p.val + 3) = min (s.z 0xF040 (16 * p.val + 3) + 1) (2 ^ 32 - 1) ∧
        (t.port p.val).rxSeq = (s.port p.val).rxSeq ∧ (t.port p.val).rxNak = true) ∧
    (leAt o (n - 4) 4 = crc32c (o.take (n - 4)) → bits (leAt o 0 4) 30 2 = 1 ∨ bits (leAt o 0 4) 30 2 = 2 →
      bits (leAt o 0 4) 20 10 ≠ (s.port p.val).rxSeq →
      ∃ t, exec (.flitReceive p o) s = .next t ∧ (t.port p.val).rxSeq = (s.port p.val).rxSeq ∧ (t.port p.val).rxNak = true ∧
        ((s.port p.val).rxNak = true → t.out = s.out)) ∧
    (leAt o (n - 4) 4 = crc32c (o.take (n - 4)) → bits (leAt o 0 4) 30 2 = 1 → bits (leAt o 0 4) 20 10 = (s.port p.val).rxSeq →
      bits (leAt o 0 4) 4 6 = 0 → (s.port p.val).cont = 0 → ((o.drop 12).take (n - 16)).all (fun b => b == 0) = true →
      ∃ t, exec (.flitReceive p o) s = .next t ∧ (t.port p.val).rxSeq = ((s.port p.val).rxSeq + 1) % 1024 ∧
        (t.port p.val).rxAny = true ∧ (t.port p.val).rxNak = false ∧ t.out ≠ s.out)

/-- A port leaves service with a retrain, or by a quiesce after a commit. -/
def Obligations.PortsLeaveService : Prop := Claims.PortsLeaveServiceAndRetrain ∧ Claims.QuiesceEndsInDisabled

/-- Credit epochs, replays, and the checks of received flits. -/
def Obligations.EpochsReplaysAndFlits : Prop := Claims.EpochsAdmitPortsAndReplaysKeepFlits ∧ Claims.FlitsAreCheckedAndAcknowledged

/-! ### Olelle coherence (Chapter 10) -/

/-- Uncached reads: from a line in I or S the home answers DATA_UC with the octets of the line; from a line in EM it first sends SNP_SHR
to the owner. -/
def Claims.UncachedReads : Prop :=
  ∀ (s : State) (p : Fin 6) (m : CohMsg) (off : Nat) (c : Instr) (opc : Nat),
    (c = .rdU32 p m ∧ opc = 1 ∨ c = .rdU64 p m ∧ opc = 2 ∨ c = .rdUline p m ∧ opc = 3) → Requests s p.val opc m off →
    ((∀ e, s.entry (s.lineAddr off) = some e → e.st ≠ 2) →
      ∃ t, exec c s = .next t ∧ t.mem.cells = s.mem.cells ∧
        Sent t p.val (devMsg 3 1 m.sid.toNat m.tag.toNat m.addr.toNat (s.readLine (off / 64 * 64)).2.1
          (if opc = 1 then octAt (octAt (s.readLine (off / 64 * 64)).1 (off % 64) 4) 0 16
           else if opc = 2 then octAt (octAt (s.readLine (off / 64 * 64)).1 (off % 64) 8) 0 16 else (s.readLine (off / 64 * 64)).1))) ∧
    (∀ e, s.entry (s.lineAddr off) = some e → e.st = 2 →
      ∃ t, exec c s = .next t ∧ t.mem.cells = s.mem.cells ∧ Snoops t (s.lineAddr off) (coherent 0 opc m) [e.owner] false)

/-- Uncached writes: to a line that no agent holds, in a bank that is READY, the octets are stored, no other octet changes, and WR_ACK
answers; to a line that agents hold the home first sends SNP_INV; with E not allowed the answer is ERR_TYPE. -/
def Claims.UncachedWrites : Prop :=
  ∀ (s : State) (p : Fin 6) (m : CohMsg) (off : Nat) (c : Instr) (opc n : Nat),
    (c = .wrU32 p m ∧ opc = 4 ∧ n = 4 ∨ c = .wrU64 p m ∧ opc = 5 ∧ n = 8 ∨ c = .wrUline p m ∧ opc = 6 ∧ n = 64) →
    Requests s p.val opc m off →
    (s.eAllowed = true → s.entry (s.lineAddr off) = none → s.bankReady (bankOf off) = true → s.redirected (off / 64 * 64) = false →
      s.mem.wf = true →
      ∃ t, exec c s = .next t ∧ Stores s t off (octAt m.data 0 n) ∧
        Sent t p.val (devMsg 2 1 m.sid.toNat m.tag.toNat m.addr.toNat false [])) ∧
    (s.eAllowed = true → ∀ e, s.entry (s.lineAddr off) = some e →
      ∃ t, exec c s = .next t ∧ t.mem = s.mem ∧
        Snoops t (s.lineAddr off) (coherent 0 opc m) (if e.st = 2 then [e.owner] else e.holders) true) ∧
    (s.eAllowed = false → ∃ t, exec c s = .next t ∧ t.mem = s.mem ∧ t.coh = s.coh ∧
      Sent t p.val (devMsg 2 0x1D m.sid.toNat m.tag.toNat m.addr.toNat false []))

/-- What an uncached access of a foreign agent to the capture region does. -/
def Obligations.UncachedAccessesToCaptureMemory : Prop := Claims.UncachedReads ∧ Claims.UncachedWrites

/-- Cached requests: RD_S and RD_OWN of a line that no agent holds take an entry and draw DATA_S or DATA_E; RD_S of a shared line adds a
holder; UPGRADE by the only sharer draws GNT_E; and RD_OWN of a shared line invalidates the sharers first. -/
def Obligations.CachedRequestsFollowTheDirectory : Prop :=
  ∀ (s : State) (p : Fin 6) (m : CohMsg) (off : Nat),
    let line := s.lineAddr off
    let data := fun opc => devMsg 3 opc m.sid.toNat m.tag.toNat m.addr.toNat (s.readLine (off / 64 * 64)).2.1 (s.readLine (off / 64 * 64)).1
    let free := freeWays (s.setEntries (lineSet line))
    (Requests s p.val 8 m off → s.entry line = none → free ≠ [] →
      ∃ t, exec (.rdS p m) s = .next t ∧ t.mem.cells = s.mem.cells ∧ Sent t p.val (data (if s.eAllowed then 3 else 2)) ∧
        ∃ w ∈ free, t.entry line = some ⟨w, if s.eAllowed then 2 else 1, if s.eAllowed then m.sid.toNat else 0, [m.sid.toNat], true, false⟩) ∧
    (Requests s p.val 9 m off → s.eAllowed = true → s.entry line = none → free ≠ [] →
      ∃ t, exec (.rdOwn p m) s = .next t ∧ t.mem.cells = s.mem.cells ∧ Sent t p.val (data 3) ∧
        ∃ w ∈ free, t.entry line = some ⟨w, 2, m.sid.toNat, [m.sid.toNat], true, false⟩) ∧
    (∀ e, s.entry line = some e → e.st ≠ 2 →
      (Requests s p.val 8 m off → m.sid.toNat ∉ e.holders →
        ∃ t, exec (.rdS p m) s = .next t ∧ t.mem.cells = s.mem.cells ∧ Sent t p.val (data 2) ∧
          t.entry line = some { e with used := true, holders := e.holders ++ [m.sid.toNat] }) ∧
      (Requests s p.val 9 m off → s.eAllowed = true → m.sid.toNat ∉ e.holders →
        ∃ t, exec (.rdOwn p m) s = .next t ∧ Snoops t line (coherent 0 9 m) e.holders true) ∧
      (Requests s p.val 10 m off → s.eAllowed = true → e.holders = [m.sid.toNat] →
        ∃ t, exec (.upgrade p m) s = .next t ∧ t.mem = s.mem ∧
          Sent t p.val (devMsg 2 2 m.sid.toNat m.tag.toNat m.addr.toNat false []) ∧
          t.entry line = some { e with used := true, st := 2, owner := m.sid.toNat }))

/-- Each answer to an awaited snoop that comes within the limit is applied to its transaction and to the directory: the agent no longer
holds the line, or keeps a shared copy, or its crossed writeback is awaited. An eviction and a writeback on a quiet line drop the holder
and draw WB_ACK; a writeback stores its line. -/
def Obligations.SnoopAnswersAndEvictionsAreApplied : Prop :=
  ∀ (s : State) (p : Fin 6) (m : CohMsg), Alone s →
    (∀ (c : Instr) (vc opc gone : Nat),
      (c = .rspI p m ∧ vc = 2 ∧ opc = 4 ∧ gone = 0 ∨ c = .rspS p m ∧ vc = 2 ∧ opc = 5 ∧ gone = 1 ∨
        c = .rspGoneC p m ∧ vc = 2 ∧ opc = 6 ∧ gone = 2 ∨ c = .rspGoneD p m ∧ vc = 2 ∧ opc = 7 ∧ gone = 3 ∨
        c = .sdataI p m ∧ vc = 3 ∧ opc = 5 ∧ gone = 0 ∨ c = .sdataS p m ∧ vc = 3 ∧ opc = 6 ∧ gone = 1) →
      Arrives s p.val vc opc m → msgLen (coherent vc opc m) = (if vc = 3 then 4 else 0) → m.addr.toNat % 64 = 0 →
      ∀ tx, s.txn m.addr.toNat = some tx → ∀ x, s.findSnoop m.addr.toNat (coherent vc opc m) = some x →
      s.late .fab x.since (s.n 0x7801 1 * 1000) = false → ∀ y ∈ tx.snoops, y ≠ x →
      ∃ t, exec c s = .next t ∧ ∃ tx', t.txn m.addr.toNat = some tx' ∧ tx'.snoops = tx.snoops.filter (fun z => decide (z ≠ x)) ∧
        tx'.req = tx.req ∧
        tx'.wbHold = (if gone = 3 ∧ (m.addr.toNat, m.sid.toNat) ∉ s.coh.crossed then tx.wbHold ++ [(m.sid.toNat, s.now)] else tx.wbHold) ∧
        (gone ≠ 1 → t.holds m.addr.toNat m.sid.toNat = false) ∧
        (gone = 1 → ∀ e, s.entry m.addr.toNat = some e → t.entry m.addr.toNat = some { e with st := 1, owner := 0 })) ∧
    (∀ (c : Instr) (opc : Nat), (c = .evictC p m ∧ opc = 1 ∨ c = .wbD p m ∧ opc = 2) → Arrives s p.val 4 opc m →
      msgLen (coherent 4 opc m) = (if opc = 2 then 4 else 0) → m.addr.toNat % 64 = 0 → s.txn m.addr.toNat = none →
      ∃ t, exec c s = .next t ∧ t.holds m.addr.toNat m.sid.toNat = false ∧
        Sent t p.val (devMsg 2 3 m.sid.toNat m.tag.toNat m.addr.toNat false []) ∧
        (opc = 1 → t.mem = s.mem) ∧
        ∀ off, opc = 2 → s.region m.addr.toNat = some off → s.recalls m.addr.toNat = false → s.bankReady (bankOf off) = true →
          s.redirected off = false → s.mem.wf = true → off % 64 = 0 → Stores s t off (octAt m.data 0 64))

/-- A snoop of a foreign home is answered from the state of the line in the descriptor cache (Table 10.5); one that meets a request of
the device for the line is deferred until the grant. -/
def Obligations.ForeignSnoopsAreAnswered : Prop :=
  ∀ (s : State) (p : Fin 6) (m : CohMsg), Alone s → msgLen (coherent 1 1 m) = 0 → m.addr.toNat % 64 = 0 →
    (∀ d, s.desc m.addr.toNat = some d →
      (Arrives s p.val 1 1 m → ∃ t, exec (.snpInv p m) s = .next t ∧ t.desc m.addr.toNat = none ∧
        Sent t p.val (if d.st = 3 then devMsg 3 5 m.sid.toNat m.tag.toNat m.addr.toNat false d.data
          else devMsg 2 4 m.sid.toNat m.tag.toNat m.addr.toNat false [])) ∧
      (Arrives s p.val 1 2 m → ∃ t, exec (.snpShr p m) s = .next t ∧
        (∃ d', t.desc m.addr.toNat = some d' ∧ d'.st = 1 ∧ d'.data = d.data) ∧
        Sent t p.val (if d.st = 3 then devMsg 3 6 m.sid.toNat m.tag.toNat m.addr.toNat false d.data
          else devMsg 2 5 m.sid.toNat m.tag.toNat m.addr.toNat false []))) ∧
    (∀ (c : Instr) (opc : Nat), (c = .snpInv p m ∧ opc = 1 ∨ c = .snpShr p m ∧ opc = 2) → s.desc m.addr.toNat = none →
      Arrives s p.val 1 opc m →
      ((∃ x ∈ s.coh.reqs, x.2.line = m.addr.toNat ∧ (x.2.opc = 8 ∨ x.2.opc = 9)) →
        ∃ t, exec c s = .next t ∧ t.coh.deferred = s.coh.deferred ++ [(p.val, coherent 1 opc m)] ∧ t.out = s.out) ∧
      ((∀ x ∈ s.coh.reqs, x.2.line ≠ m.addr.toNat) → (∀ x ∈ s.coh.wbs, x.2.line ≠ m.addr.toNat) →
        (∀ x ∈ s.coh.wbWait, x.line ≠ m.addr.toNat) →
        ∃ t, exec c s = .next t ∧ Sent t p.val (devMsg 2 4 m.sid.toNat m.tag.toNat m.addr.toNat false [])))

/-- An answer to a request of the device caching agent that comes within its limit completes it to its unit: with its data, as poisoned, as
an address error, or as gone; a grant of S or E puts the line that was read into the descriptor cache, unless its data is poisoned, and
gives the line that the unit writes there whatever data came with it; and WB_ACK ends a writeback. A request that expires is gone, sets COH cause
DCACHE and is counted. -/
def Obligations.DeviceRequestsComplete : Prop :=
  ∀ (s : State) (p : Fin 6) (m : CohMsg), Alone s →
    (∀ (c : Instr) (vc opc result grant : Nat) (r : DevReq),
      (c = .wrAck p m ∧ vc = 2 ∧ opc = 1 ∧ result = 0 ∧ grant = 0 ∨ c = .gntE p m ∧ vc = 2 ∧ opc = 2 ∧ result = 0 ∧ grant = 2 ∨
        c = .errAddr p m ∧ vc = 2 ∧ opc = 0x1C ∧ result = 1 ∧ grant = 0 ∨ c = .errType p m ∧ vc = 2 ∧ opc = 0x1D ∧ result = 1 ∧ grant = 0 ∨
        c = .errGone p m ∧ vc = 2 ∧ opc = 0x1F ∧ result = 2 ∧ grant = 0 ∨ c = .dataUc p m ∧ vc = 3 ∧ opc = 1 ∧ result = 0 ∧ grant = 0 ∨
        c = .dataS p m ∧ vc = 3 ∧ opc = 2 ∧ result = 0 ∧ grant = 1 ∨ c = .dataE p m ∧ vc = 3 ∧ opc = 3 ∧ result = 0 ∧ grant = 2 ∨
        c = .dataI p m ∧ vc = 3 ∧ opc = 4 ∧ result = 0 ∧ grant = 0) →
      Arrives s p.val vc opc m →
      (if vc = 3 then (if opc = 1 then msgLen (coherent vc opc m) = 1 ∨ msgLen (coherent vc opc m) = 4
        else msgLen (coherent vc opc m) = 4 ∧ m.addr.toNat % 64 = 0) else msgLen (coherent vc opc m) = 0) →
      s.devReq p.val m.tag.toNat = some r → s.late .fab r.since (s.n 0x7801 2 * 1000) = false → s.coh.devWait = [] → s.coh.deferred = [] →
      ∃ u, EndsAs c s u ∧ mget u.coh.reqs m.tag.toNat = none ∧
        u.coh.done = [(r, if m.poison = true ∧ (grant = 0 ∨ r.opc = 8) then 3 else result, octAt m.data 0 64)] ∧
        (grant ≠ 0 → (s.port p.val).st ≠ 7 →
          (r.opc = 8 → m.poison = false → u.desc r.line = some ⟨grant, octAt m.data 0 64, p.val⟩) ∧
          (r.opc = 8 → m.poison = true → u.desc r.line = none) ∧
          (r.opc ≠ 8 → u.desc r.line = some ⟨3, octAt r.data 0 64, p.val⟩))) ∧
    (∀ w, Arrives s p.val 2 3 m → msgLen (coherent 2 3 m) = 0 → mget s.coh.wbs m.tag.toNat = some w → w.port = p.val →
      s.coh.wbWait = [] →
      Completes (.wbAck p m) s [.coh, .sig] [(0xF070, 10)] fun t => t.coh = { s.coh with wbs := mdel s.coh.wbs m.tag.toNat }) ∧
    (∀ (tag : BitVec 16) r, mget s.coh.reqs tag.toNat = some r → s.coh.devWait = [] → s.coh.deferred = [] → s.mgtFast = true →
      ∃ u, EndsAs (.deviceRequestTimeout tag) s u ∧ u.now = max s.now (r.since + s.n 0x7801 2 * 1000) ∧
        mget u.coh.reqs tag.toNat = none ∧ u.coh.done = [(r, 2, [])] ∧ u.desc r.line = none ∧
        u.z 0x2107 0 = s.z 0x2107 0 ||| 1 ∧ u.z 0xF048 16 = min (s.z 0xF048 16 + 1) (2 ^ 32 - 1))

/-- A snoop answer or a crossed writeback that does not come in time sets COH cause TIMEOUT, is counted with every other that is overdue at
that instant, and takes the silent port out of service. A waiting uncached request is decided once its line is free. A capture write drains
the oldest line of the write buffer into its bank, and recalls a line that agents hold. A filter query names its line. -/
def Obligations.HomeTimersQueueAndCaptureWrites : Prop :=
  ∀ s : State, Alone s →
    (∀ (line : BitVec 64) (sid : BitVec 8) tx, s.txn line.toNat = some tx → (s.port (portOfSid sid.toNat)).st ≠ 7 → s.mgtFast = true →
      (∀ x, tx.snoops.find? (fun y => y.sid == sid.toNat && decide (y.tag < 4096)) = some x →
        ∃ t, exec (.snoopAnswerTimeout line sid) s = .next t ∧ t.now = max s.now (x.since + s.n 0x7801 1 * 1000) ∧
          WentDown s t (portOfSid sid.toNat) ∧ bit (t.z 0x2107 0) 2 = true ∧
          t.z 0xF048 8 = min (s.z 0xF048 8 + (s.elapseTo t.now).silent.length) (2 ^ 32 - 1)) ∧
      (∀ h, tx.wbHold.find? (fun y => y.1 == sid.toNat) = some h →
        ∃ t, exec (.crossedWritebackTimeout line sid) s = .next t ∧ t.now = max s.now (h.2 + s.n 0x7801 1 * 1000) ∧
          WentDown s t (portOfSid sid.toNat) ∧ bit (t.z 0x2107 0) 2 = true ∧
          t.z 0xF048 8 = min (s.z 0xF048 8 + (s.elapseTo t.now).silent.length) (2 ^ 32 - 1))) ∧
    (∀ (line : BitVec 64) w, s.coh.waiting.find? (fun w => decide (w.line = line.toNat)) = some w →
      ∀ off, s.region line.toNat = some off →
      s.txn line.toNat = none → w.victim = none → w.msg.opc ≤ 6 →
      ∃ t, exec (.waitingRequestDecided line) s = .next t ∧ t.coh.waiting = s.coh.waiting.filter fun x => decide (x ≠ w)) ∧
    (∀ (w : Who) (v : BitVec 64), Accepted s w 0x7805 1 v.toNat →
      Completes (.filterQuery w v) s [.acc, .out] (accessObjects ++ [(0x7805, 1)]) fun t => t.n 0x7805 1 = v.toNat) ∧
    (∀ l rest, s.sto.buf = l :: rest → s.redirected l.off = false → s.mem.wf = true → (s.bank (bankOf l.off)).bist ≠ 0 →
      ((s.bank (bankOf l.off)).st = 0 ∨ (s.bank (bankOf l.off)).st = 1) →
      (s.entry (s.lineAddr l.off) = none → Completes .captureWrite s [.sto, .mem] [(0xF078, 2)] fun t =>
        t.sto = { s.sto with buf := rest } ∧ Stores s t l.off (octAt l.data 0 64) ∧ t.poisoned l.off = false ∧
          t.z 0xF078 2 = min (s.z 0xF078 2 + 1) (2 ^ 64 - 1)) ∧
      (∀ e, s.entry (s.lineAddr l.off) = some e → e.recalling = false → e.holders ≠ [] → s.txn (s.lineAddr l.off) = none →
        ∃ t, exec .captureWrite s = .next t ∧ Stores s t l.off (octAt l.data 0 64) ∧ t.recalls (s.lineAddr l.off) = true ∧
          t.isUnsettled (s.lineAddr l.off) = true ∧ t.z 0xF048 3 = min (s.z 0xF048 3 + 1) (2 ^ 32 - 1)))

/-! ### Taps, time sources and package time (Chapter 11) -/

/-- A due exchange sends T_PING unless one is open; T_PONG within 4,096 ticks completes it, with theta and delay where its EPOCH is the
expected one; and after 4,096 ticks it is lost and the source is LATE. -/
def Claims.TimeExchanges : Prop :=
  ∀ s : State,
    (∀ i : Fin 16, (s.src i.val).present = true → srcEn (s.srcEntry i.val) = true → s.acts = true → s.time.ptRun = true →
      (s.src i.val).nextPing < s.belay.frame →
      ((s.src i.val).open_ = none → 1 ≤ (s.port (srcPort (s.srcEntry i.val))).gen → (s.port (srcPort (s.srcEntry i.val))).gen ≤ 3 →
        ∃ t, exec (.tPingDue i) s = .next t ∧ t.z 0xF050 1 = min (s.z 0xF050 1 + 1) (2 ^ 32 - 1) ∧
          (t.src i.val).tag = ((s.src i.val).tag + 1) % 4096 ∧
          (∃ o, (t.src i.val).open_ = some o ∧ o.tag = (s.src i.val).tag ∧ o.t1 = s.time.pt ∧ o.sent = s.time.tick) ∧
          Sent t (srcPort (s.srcEntry i.val)) (devMsg (if (s.port (srcPort (s.srcEntry i.val))).gen = 3 then 5 else 7) 1
            (s.port (srcPort (s.srcEntry i.val))).sidBase (s.src i.val).tag (srcCtr (s.srcEntry i.val) * 2 ^ 50) false [])) ∧
      (∀ o, (s.src i.val).open_ = some o → s.time.tick ≤ o.sent + 4096 → Completes (.tPingDue i) s [.time] [] fun t => (t.src i.val).open_ = (s.src i.val).open_)) ∧
    (∀ (p : Fin 6) (m : PongMsg), Alone s → (s.port p.val).linked = true →
      s.msgFault p.val (pongMsg (s.port p.val).gen m) (msgLen (pongMsg (s.port p.val).gen m)) = false →
      ∀ i, s.srcOf p.val m.ctr.toNat = some i → ∀ o, (s.src i).open_ = some o → o.tag = m.tag.toNat → s.time.tick ≤ o.sent + 4096 →
      ∃ t, exec (.tPong p m) s = .next t ∧ (t.src i).open_ = none ∧
        (o.spoiled = false → (o.expect = none ∨ o.expect = some m.epoch.toNat) →
          (t.src i).meas = true ∧ (t.src i).late = false ∧ (t.src i).fresh = true ∧
          ((t.src i).theta, (t.src i).delay) =
            ((thetaDelay o.t1 ((s.time.pt : Int) - m.late * 65536) (stamp64 m.t2.toNat) (stamp64 m.t3.toNat) (s.i 0x3202 (i + 1))).1,
             (thetaDelay o.t1 ((s.time.pt : Int) - m.late * 65536) (stamp64 m.t2.toNat) (stamp64 m.t3.toNat) (s.i 0x3202 (i + 1))).2.toNat) ∧
          t.z 0xF050 2 = min (s.z 0xF050 2 + 1) (2 ^ 32 - 1)) ∧
        (o.spoiled = true → t.z 0xF050 5 = min (s.z 0xF050 5 + 1) (2 ^ 32 - 1))) ∧
    (∀ (i : Fin 16) o, (s.src i.val).open_ = some o →
      Completes (.exchangeTimeout i) s [.now, .time] (clockObjects ++ [(0xF050, 3)]) fun t =>
        t.src i.val = { s.src i.val with open_ := none, lateTags := o.tag :: (s.src i.val).lateTags, late := true } ∧
        t.z 0xF050 3 = min (s.z 0xF050 3 + 1) (2 ^ 32 - 1))

/-- The TCTL write of a tap: one that completes leaves the tap armed or set up as its entry says, and one that fails is due again 1 ms
later. -/
def Claims.TctlWrites : Prop :=
  ∀ (s : State) (i : Fin 64),
    ((s.tap i.val).due = true →
      (CompletesWithin (.tctlWrite i true) s [.time, .out] fun t =>
        (t.tap i.val).due = false ∧ (t.tap i.val).tctl = tapEn (s.tapEntry i.val) ∧
        (t.tap i.val).st = (if tapEn (s.tapEntry i.val) then 3 else 1)) ∧
      (Completes (.tctlWrite i false) s [.time, .out] [] fun t =>
        t.tap i.val = { s.tap i.val with due := true, retryAt := some (s.now + 1000000) })) ∧
    (∀ r, (s.tap i.val).retryAt = some r → (s.tap i.val).due = true →
      (CompletesWithin (.tctlWriteRetry i true) s [.time, .out, .now] fun t =>
        t.now = max s.now r ∧ (t.tap i.val).due = false ∧ (t.tap i.val).tctl = tapEn (s.tapEntry i.val)) ∧
      (CompletesWithin (.tctlWriteRetry i false) s [.time, .out, .now] fun t =>
        t.now = max s.now r ∧ (t.tap i.val).retryAt = some (t.now + 1000000)))

/-- The exchanges with the time sources, and the writes of TCTL. -/
def Obligations.TimeExchangesAndTctl : Prop := Claims.TimeExchanges ∧ Claims.TctlWrites

/-- The samples of an OBS message inside the horizon extend the tap's coverage to the last of them; CHANGE and SAMPLE bring the last
value, THRU and LOST keep it. A sample behind the horizon is late: it leaves a gap and sets TRIG cause LATE. A message for which the tap's
alignment queue has no room is dropped whole and counted, and leaves a gap. -/
def Obligations.ObservationMessagesExtendCoverage : Prop :=
  ∀ (s : State) (p : Fin 6) (m : ObsMsg) (i : Nat),
    (Observed s p.val 1 m i → (∀ n, n ≤ m.count.toNat → s.time.tick ≤ sampleTick s i m n + s.horizon) →
      ∃ t, exec (.obsSample p m) s = .next t ∧ (t.tap i).cov = sampleTick s i m m.count.toNat + 1 ∧ (t.tap i).gap = 0 ∧
        (t.tap i).st = 3 ∧
        (t.tap i).last = some (leAt m.data (m.count.toNat * (widthBits (s.tap i).width / 8)) (widthBits (s.tap i).width / 8))) ∧
    (∀ (c : Instr) (kind : Nat), (c = .obsChange p m ∧ kind = 2 ∨ c = .obsThru p m ∧ kind = 3 ∨ c = .obsLost p m ∧ kind = 4) →
      Observed s p.val kind m i →
      (s.time.tick ≤ sampleTick s i m 0 + s.horizon →
        ∃ t, exec c s = .next t ∧ (t.tap i).cov = sampleTick s i m 0 + 1 ∧ (t.tap i).gap = 0 ∧ (t.tap i).st = 3 ∧
          (t.tap i).last = (if kind = 2 then some (leAt m.data 0 (widthBits (s.tap i).width / 8)) else (s.tap i).last) ∧
          (kind = 4 → ∃ r ∈ (t.tap i).rows, r.a = sampleTick s i m 0 ∧ r.why = 3)) ∧
      (sampleTick s i m 0 + s.horizon < s.time.tick → s.mgtFast = true →
        ∃ t, exec c s = .next t ∧ (t.tap i).cov = (s.tap i).cov ∧ (t.tap i).gap = 2 ∧ bit (t.z 0x210A 0) 4 = true ∧
          t.z 0xF060 3 = min (s.z 0xF060 3 + 1) (2 ^ 32 - 1))) ∧
    (∀ (c : Instr) (kind : Nat), (c = .obsSample p m ∧ kind = 1 ∨ c = .obsChange p m ∧ kind = 2 ∨ c = .obsThru p m ∧ kind = 3 ∨
        c = .obsLost p m ∧ kind = 4) → ForTap s p.val kind m i → (s.tap i).hasRoom s.time.tick m = false →
      ∃ t, exec c s = .next t ∧ t.tap i = { s.tap i with gap := 6 } ∧ t.z 0xF060 4 = min (s.z 0xF060 4 + 1) (2 ^ 32 - 1))

/-- A captured edge of PPS_IN that comes before its second counts as missed and before the holdover limit: inside the window, in
DISCIPLINE, it sets the rate and the slew term; outside it sets TIME cause PPSWIN; an armed write that has not lapsed is applied by it. A
second without an inside edge sets PPSMISS; HOLDOVER clears the slew term; the slew term ends; an armed write lapses; PPS_OUT rises and
falls. -/
def Obligations.PpsDisciplinesPackageTime : Prop :=
  ∀ s : State,
    (∀ (rising : Bool) (e sec edge : Int), rising = (s.z 0x6003 2 == 0) → s.time.ptRun = true →
      edge = (s.time.pt : Int) - s.i 0x6003 5 * 2 ^ 32 → sec = nearSecond edge → e = edge - sec * secUnits →
      s.time.atPps = none → s.z 0x6003 1 ≠ 0 → s.time.writtenAt ≠ some s.time.tick → s.secondsMissed = 0 →
      s.now ≤ s.time.lastInside + s.n 0x6003 4 * 1000000000 + 500000000 →
      (-(s.n 0x6003 3 * 2 ^ 32 : Int) ≤ e → e ≤ s.n 0x6003 3 * 2 ^ 32 → s.z 0x6003 1 = 2 → s.pair.role ≠ 3 → s.mirrors = false →
        ∃ t, exec (.ppsInEdge rising false) s = .next t ∧ t.time.ppsErr = e / 65536 ∧ t.time.lastInside = s.now ∧
          t.time.rate = clampI (-858993) 858993 (s.rateDecided - rnd e 16000000000) ∧ t.time.slew = rnd (-e) 2000000000 ∧
          t.time.slewEnd = some (s.time.tick + 1000000000) ∧ t.z 0xF050 12 = min (s.z 0xF050 12 + 1) (2 ^ 32 - 1)) ∧
      (e < -(s.n 0x6003 3 * 2 ^ 32 : Int) ∨ s.n 0x6003 3 * 2 ^ 32 < e → s.mgtFast = true →
        ∃ t, exec (.ppsInEdge rising false) s = .next t ∧ t.time.ppsErr = e / 65536 ∧ bit (t.z 0x2108 0) 2 = true ∧
          t.z 0xF050 13 = min (s.z 0xF050 13 + 1) (2 ^ 32 - 1) ∧ t.time.rate = s.time.rate)) ∧
    (∀ v k, s.time.atPps = some (v, k) → s.time.ptRun = true → s.time.tick ≤ k + s.n 0x6003 4 * 1000000000 →
      ∃ t, exec (.ppsInEdge (s.z 0x6003 2 == 0) false) s = .next t ∧ t.time.written = true ∧ t.time.atPps = none ∧
        t.time.pt = (((v : Int) + s.i 0x6003 5 * 2 ^ 32) % (ptMod : Int)).toNat ∧ t.z 0x6001 1 = 0) ∧
    (∀ w, s.time.watch = some w → s.mgtFast = true →
      Completes .ppsMiss s [.now, .time, .latch] (clockObjects ++ causeObjects 7 ++ [(0xF050, 14)]) fun t =>
        t.time.watch = some (w + 1) ∧ t.z 0x2108 0 = s.z 0x2108 0 ||| 2 ∧ t.z 0xF050 14 = min (s.z 0xF050 14 + 1) (2 ^ 32 - 1)) ∧
    (s.time.watch ≠ none → s.time.ppsState = 1 ∨ s.time.ppsState = 2 → s.mirrors = false → s.pair.role ≠ 3 →
      CompletesWithin .ppsHoldover s [.now, .time, .latch] fun t =>
        t.time.ppsState = 3 ∧ t.time.slew = 0 ∧ t.now = max s.now (s.time.lastInside + s.n 0x6003 4 * 1000000000)) ∧
    (∀ k, s.time.slewEnd = some k → Completes .slewTermExpiry s [.now, .time] clockObjects fun t =>
      t.time.slew = 0 ∧ t.time.slewEnd = none ∧ t.time.rate = s.time.rate) ∧
    (∀ v k, s.time.atPps = some (v, k) → s.mgtFast = true →
      Completes .atPpsLapse s [.now, .time, .latch]
        (clockObjects ++ causeObjects 7 ++ [(0x6001, 1), (0x6001, 2), (0x6001, 3), (0x6001, 4)]) fun t =>
        t.time.atPps = none ∧ t.z 0x2108 0 = s.z 0x2108 0 ||| 2 ∧ t.z 0x6001 1 = 0) ∧
    (∀ w, s.time.outNext = some w → s.time.ptRun = true →
      Completes .ppsOutRise s [.now, .time] clockObjects fun t =>
        t.time.outHigh = true ∧ t.time.outFall = t.time.tick + s.n 0x6004 2 ∧
        t.time.outNext = some ((t.time.pt + s.n 0x6004 3 * 2 ^ 32) / secUnits + 1)) ∧
    (s.time.outHigh = true → Completes .ppsOutFall s [.now, .time] clockObjects fun t => t.time.outHigh = false)

/-! ### The observation path (Chapter 13) -/

/-- At its join tick a ready tap starts to count; a reset of a dispatch queue leaves a gap in the counting taps of its port; a reset of the
tap event queue makes every joining or counting tap GONE; both set TRIG cause QRESET. Writing true to 3007h:0 resets every margin. Each
tick releases the next slice, of the sample tick H before it or, while empty slices are due, with the sample tick repeated. -/
def Obligations.TapsJoinAndSlicesAreReleased : Prop :=
  ∀ s : State,
    (∀ i : Fin 64, (s.tap i.val).q = 1 → (s.tap i.val).ready = true →
      Completes (.tapJoin i) s [.now, .time] clockObjects fun t => t.tap i.val = { s.tap i.val with q := 2 }) ∧
    (s.mgtFast = true →
      (∀ p : Fin 6, Completes (.dispatchQueueReset p) s [.time, .latch] (causeObjects 9 ++ [(0xF060, 12)]) fun t =>
        t.z 0x210A 0 = s.z 0x210A 0 ||| 32 ∧ t.z 0xF060 12 = min (s.z 0xF060 12 + 1) (2 ^ 32 - 1) ∧
        ∀ i, i < 64 → t.tap i = if tapPort (s.tapEntry i) = p.val ∧ (s.tap i).q = 2 then { s.tap i with gap := 7 } else s.tap i) ∧
      (Completes .tapEventQueueReset s [.time, .latch] (causeObjects 9 ++ [(0xF060, 12)]) fun t =>
        t.z 0x210A 0 = s.z 0x210A 0 ||| 32 ∧ t.z 0xF060 12 = min (s.z 0xF060 12 + 1) (2 ^ 32 - 1) ∧
        ∀ i, i < 64 → if (s.tap i).q = 1 ∨ (s.tap i).q = 2 then (t.tap i).q = 3 ∧ (t.tap i).ready = false ∧ (t.tap i).rows = []
          else t.tap i = s.tap i)) ∧
    (∀ w, Alone s → Accepted s w 0x3007 0 1 → Completes (.marginReset w 1) s [.time, .acc, .out] accessObjects fun t =>
      ∀ i, i < 64 → t.tap i = { s.tap i with margin := none }) ∧
    (∀ gp r, s.releases = true → s.time.lastRelease = some r →
      ∃ t, exec (.sliceRelease gp) s = .next t ∧ t.time.lastRelease = some (r + 1) ∧ t.time.tick = max s.time.tick (r + 1) ∧
        t.trig.prev.map Slice.k = some t.time.lastSlice ∧
        (s.time.empties = 0 → t.time.lastSlice = r + 1 - s.horizon ∧ t.time.empties = 0) ∧
        (0 < s.time.empties → t.time.lastSlice = s.time.lastSlice ∧ t.time.empties = s.time.empties - 1))

/-! ### The Belay engine (Chapter 12) -/

/-- A servo frame begins at its own time, applies the outputs of the frame before, publishes the four flag vectors and has the next number.
A missed deadline holds the output and sets MISS; the following-error limit ends the lock as FEACT says; the boot's lock limit sets NOLOCK
on each loop that is not locked and ends step 13; RESUME re-enables HELD loops; and a sweep takes a disabled loop. -/
def Obligations.BelayFramesAndSupervision : Prop :=
  ∀ s : State,
    (∀ x a, s.belay.startAt = some a → s.belay.missed = [] → s.belay.broken = [] → s.belay.sweep = none → s.belay.lockBy = none →
      (∀ l, l < 32 → s.feOver l s.belay.frame = false) →
      ∃ t, exec (.servoFrame x) s = .next t ∧ t.now = max s.now (a + s.belay.frame * 1000) ∧ t.belay.frame = s.belay.frame + 1 ∧
        t.z 0xF058 1 = min (s.z 0xF058 1 + 1) (2 ^ 64 - 1) ∧ t.belay.peakCycles = max t.belay.lastCycles s.belay.peakCycles ∧
        t.belay.flags = [s.flagWord fun y => y.st == 2, s.flagWord LoopSt.follow, s.flagWord LoopSt.sat, s.flagWord LoopSt.miss] ∧
        ∀ l, l < 32 → (t.loop l).u = ((s.loop l).uNext.getD (s.loop l).u)) ∧
    (∀ l : Fin 32, l.val ∈ s.belay.missed → (s.loop l.val).missRun < 15 → s.mgtFast = true →
      ∃ t, exec (.missedDeadline l) s = .next t ∧ l.val ∉ t.belay.missed ∧
        t.loop l.val = { s.loop l.val with miss := true, missRun := (s.loop l.val).missRun + 1, uNext := none } ∧
        t.z 0x2150 (l.val + 1) = s.z 0x2150 (l.val + 1) ||| 8 ∧ t.z 0xF058 3 = min (s.z 0xF058 3 + 1) (2 ^ 32 - 1)) ∧
    (∀ l : Fin 32, l.val ∈ s.belay.missed → (s.loop l.val).missRun = 15 →
      ((s.loop l.val).st = 1 ∨ (s.loop l.val).st = 2) → s.mgtFast = true →
      ∃ t, exec (.missedDeadline l) s = .next t ∧ (t.loop l.val).st = (if loopHold (s.loopCtl l.val) then 3 else 1) ∧
        bit (t.z 0x2150 (l.val + 1)) 0 = true ∧ bit (t.z 0x2150 (l.val + 1)) 1 = true ∧
        t.z 0xF058 6 = min (s.z 0xF058 6 + 1) (2 ^ 32 - 1)) ∧
    (∀ l : Fin 32, s.feOver l.val s.belay.frame = true → s.mgtFast = true →
      CompletesWithin (.followingErrorExpiry l) s [.belay, .latch, .pair, .out] fun t =>
        (s.pair.role ≠ 2 → s.pair.role ≠ 3 → t.pair = s.pair ∧ t.out = s.out) ∧
        (t.loop l.val).st = (if loopHold (s.loopCtl l.val) then 3 else 1) ∧ (t.loop l.val).feStart = none ∧
        bit (t.z 0x2150 (l.val + 1)) 0 = true ∧ bit (t.z 0x2150 (l.val + 1)) 1 = true ∧
        t.z 0xF058 5 = min (s.z 0xF058 5 + 1) (2 ^ 32 - 1)) ∧
    (∀ a, s.belay.lockBy = some a → s.mgtFast = true →
      ∃ t, exec .lockLimitExpiry s = .next t ∧ t.now = max s.now a ∧ t.boot.step = 14 ∧ t.belay.lockBy = none ∧
        ∀ l, l < 32 → s.locksAtBoot l = true → (s.loop l).st ≠ 2 → bit (t.z 0x2150 (l + 1)) 4 = true) ∧
    (∀ w (v : BitVec 32), Alone s → Accepted s w 0x620B 0 v.toNat → (∀ l, l < 32 → s.feOver l s.belay.frame = false) →
      Completes (.resume w v) s [.belay, .acc, .out] accessObjects fun t =>
        ∀ l, l < 32 → t.loop l = if bit v.toNat l = true ∧ (s.loop l).st = 3 ∧ (s.loop l).stepHeld = false then
          { s.loop l with st := 1, reenable := true, lockCount := 0 } else s.loop l) ∧
    (∀ w (v : BitVec 8), Alone s → Accepted s w 0x6250 1 v.toNat →
      Completes (.sweepStart w v) s [.belay, .acc, .out] (accessObjects ++ [(0x6250, 1), (0x6250, 4), (0x6250, 5)]) fun t =>
        (t.loop v.toNat).st = 4 ∧ t.belay.sweep.map SweepSt.loop = some v.toNat ∧
        t.belay.sweep.map SweepSt.saved = some (s.loop v.toNat).u ∧ t.z 0x6250 4 = 1 ∧ t.z 0x6250 5 = 0)


/-! ### The probe bank (Chapter 14) -/

/-- The end of an eye window of 4,096 accepted edges of an enabled granule in STATE mode gives its measurement and CLOSED, with PROBE cause
EYE where the eye has closed; the settling of a granule ends at its tick; and the pulse of a cross-trigger output ends at its tick. -/
def Claims.EyeWindowsSettlingAndPulses : Prop :=
  ∀ s : State,
    (∀ (g : Fin 8) (early late : Nat), s.granuleOn g.val = true → s.z 0x3800 1 = 2 → (s.pll .ppll).locked = true → s.mgtFast = true →
      Completes (.eyeWindowEnd g 4096 early late) s [.probe, .belay, .latch] (causeObjects 13 ++ [(0xF068, 1), (0xF068, 2)]) fun t =>
        let lim := if cfgDiff (s.granuleCfg g.val) then 1024 else 2048
        let closed := decide (lim ≤ early) && decide (lim ≤ late)
        t.granule g.val = { s.granule g.val with closed := closed, meas := true, early := min early 65535, late := min late 65535 } ∧
        mget t.belay.eyes g.val = some (if early + late = 0 then 0
          else rnd (((late : Int) - early) * s.n 0x3804 (g.val + 1)) ((early + late : Nat) : Int)) ∧
        t.z 0xF068 1 = min (s.z 0xF068 1 + 1) (2 ^ 32 - 1) ∧
        (closed = true → t.z 0x210E 0 = s.z 0x210E 0 ||| 512 ∧ t.z 0xF068 2 = min (s.z 0xF068 2 + 1) (2 ^ 32 - 1))) ∧
    (∀ g : Fin 8, (s.granule g.val).settleTo ≠ 0 →
      Completes (.settlingEnd g) s [.now, .time, .probe] clockObjects fun t =>
        t.granule g.val = { s.granule g.val with settleTo := 0 } ∧
        (s.time.tickRun = true → s.time.bridging = false →
          t.time.tick = max s.time.tick (s.granule g.val).settleTo)) ∧
    (∀ (pin : Fin 4) (k : Nat), mget s.probe.pulse pin.val = some k →
      Completes (.xtrigOutPulseEnd pin) s [.now, .time, .probe] clockObjects fun t =>
        t.probe.xout = clrBit s.probe.xout pin.val ∧ mget t.probe.pulse pin.val = none)

/-- A running decoder of a bank that is not OFF counts a change of its inputs after its first tick by its mode, modulo 2^32, or takes a
phase error where both change at once; an index that deviates by more than its limit sets PROBE cause INDEX of the decoder and reloads the
position where the policy says so; a standstill ends the speed; and a position load sets the position at once. -/
def Claims.DecodersCount : Prop :=
  ∀ (s : State) (j : Fin 4),
    let x := s.decoder j.val
    let w := s.decCtl j.val
    (∀ a b z tick, x.running = true → s.z 0x3800 1 ≠ 0 → x.startAt < tick → s.decBad j.val tick = false →
      (x.edgeAt.isSome = true → tick ≤ s.stillTick j.val) → (x.zWait || (!x.z && z && decZen w)) = false →
      (∀ d, countStep (decMode w) x.a x.b a b = some d →
        Completes (.decoderInputChange j a b z tick) s [.probe] [(0xF068, 10)] fun t =>
          let y := t.decoder j.val
          let e := if decInvDir w then -d else d
          y.pos = (if d = 0 then x.pos else wrap32 (x.pos + e)) ∧ y.a = a ∧ y.b = b ∧ y.z = z ∧ y.phaseErr = x.phaseErr ∧
          (d ≠ 0 → y.edgeAt = some tick ∧ y.neg = decide (e < 0) ∧
            (∀ k, x.edgeAt = some k → x.neg = y.neg → y.speed = speedOf (tick - k) y.neg ∧ y.interval = tick - k ∧ y.still = false))) ∧
      (countStep (decMode w) x.a x.b a b = none →
        Completes (.decoderInputChange j a b z tick) s [.probe] [(0xF068, 5 + j.val)] fun t =>
          (t.decoder j.val).phaseErr = true ∧ (t.decoder j.val).pos = x.pos ∧
          t.z 0xF068 (5 + j.val) = min (s.z 0xF068 (5 + j.val) + 1) (2 ^ 32 - 1))) ∧
    (∀ tick, x.running = true → s.z 0x3800 1 ≠ 0 → x.startAt < tick → s.decBad j.val tick = false →
      (x.edgeAt.isSome = true → tick ≤ s.stillTick j.val) →
      decZen w = true → decZqual w = false → x.z = false → s.mgtFast = true →
      let want := expectedIndex x.pos (s.i 0x3902 (j.val + 1)) (s.n 0x3903 (j.val + 1))
      let dev := wrap32 (x.pos - want)
      Completes (.decoderInputChange j x.a x.b true tick) s [.probe, .latch] (causeObjects 13 ++ [(0xF068, 9)]) fun t =>
        let y := t.decoder j.val
        y.indexed = true ∧ y.lastIndex = x.pos ∧ t.z 0xF068 9 = min (s.z 0xF068 9 + 1) (2 ^ 32 - 1) ∧
        (dev.natAbs ≤ s.n 0x3904 (j.val + 1) → y.mismatched = false ∧ y.reloaded = false ∧ y.pos = x.pos) ∧
        (s.n 0x3904 (j.val + 1) < dev.natAbs → y.mismatched = true ∧ y.deviation = dev ∧
          t.z 0x210E 0 = s.z 0x210E 0 ||| 2 ^ j.val ∧
          (decPolicy w = 0 → y.pos = x.pos) ∧ (decPolicy w = 1 → y.pos = want ∧ y.reloaded = true))) ∧
    (x.running = true → s.z 0x3800 1 ≠ 0 → x.edgeAt.isSome = true → x.still = false →
      Completes (.standstillExpiry j) s [.now, .time, .probe] (clockObjects ++ [(0xF068, 12)]) fun t =>
        (t.decoder j.val).speed = 0 ∧ (t.decoder j.val).still = true ∧ (t.decoder j.val).pos = x.pos ∧
        t.z 0xF068 12 = min (s.z 0xF068 12 + 1) (2 ^ 32 - 1)) ∧
    (∀ who (v : BitVec 32), Alone s → Accepted s who 0x3908 (j.val + 1) v.toNat →
      Completes (.positionLoad who j v) s [.probe, .acc, .out] (accessObjects ++ [(0xF068, 11)]) fun t =>
        (t.decoder j.val).pos = s.i 0x3907 (j.val + 1) ∧ t.z 0xF068 11 = min (s.z 0xF068 11 + 1) (2 ^ 32 - 1))

/-- Eye windows, settling, cross-trigger pulses and the motion decoders of the probe bank. -/
def Obligations.ProbeBankAndDecoders : Prop := Claims.EyeWindowsSettlingAndPulses ∧ Claims.DecodersCount

/-! ### The trigger sequencer (Chapter 15) -/

/-- An accepted arm request makes the sequencer PENDING for the next multiple of 1,024 ticks at least 64 ahead; in that tick it is ARMED at
level 0 with its counters at 0, the auto-start timers running and the SNAPSHOT windows started. An accepted disarm request takes effect
likewise. A timer that reaches its limit sets its flag in that tick. -/
def Obligations.TriggerArmsTimesAndDisarms : Prop :=
  ∀ s : State, Alone s →
    (∀ who (v : BitVec 32), Accepted s who 0x4000 1 v.toNat →
      Completes (.armRequest who v) s [.trig, .acc, .out] (accessObjects ++ [(0xF070, 5)]) fun t =>
        t.trig = { s.trig with st := 1, armAt := roundUp (s.time.tick + 64) 1024, gate := false } ∧
        t.z 0xF070 5 = min (s.z 0xF070 5 + 1) (2 ^ 32 - 1)) ∧
    (s.trig.st = 1 → s.releases = true →
      CompletesWithin .armTick s [.now, .time, .trig, .sto, .comp, .latch] fun t =>
        t.trig.st = (if s.trig.disarming then 4 else 2) ∧ t.trig.level = 0 ∧ t.trig.value = [0, 0, 0, 0, 0, 0, 0, 0] ∧
        t.trig.gate = s.b 0x4000 11 ∧ t.trig.armAt = s.trig.armAt ∧
        (∀ j, j < 8 → t.timer j = if bit (s.z 0x4019 (j + 1)) 0 then { running := true, start := s.trig.armAt - 1 } else {}) ∧
        ∀ w, w < 16 → winEn (s.winCtl w) = true → winStream (s.winCtl w) = false → t.win w = {}) ∧
    (∀ gp r, (s.trig.st = 2 ∨ s.trig.st = 4) → s.trig.disarming = false → s.releases = true → s.time.lastRelease = some r →
      ∃ t, exec (.sliceRelease gp) s = .next t ∧
        t.z 0xF070 1 = if s.trig.armAt ≤ r + 1 then min (s.z 0xF070 1 + 1) (2 ^ 64 - 1) else s.z 0xF070 1) ∧
    (∀ who (v : BitVec 32), Accepted s who 0x4000 2 v.toNat →
      Completes (.disarmRequest who v) s [.trig, .acc, .out] accessObjects fun t =>
        t.trig = if s.trig.st = 0 ∨ s.trig.disarming = true then s.trig
          else { s.trig with disarming := true, disarmAt := roundUp (s.time.tick + 64) 1024,
                             st := if s.trig.st = 2 then 4 else s.trig.st }) ∧
    (s.trig.disarming = true →
      Completes .disarmTick s [.now, .time, .trig] (clockObjects ++ [(0xF070, 6)]) fun t =>
        t.trig.st = 0 ∧ t.trig.gate = false ∧ t.trig.disarming = false ∧ t.trig.value = s.trig.value ∧
        (∀ j, (t.timer j).running = false) ∧ t.z 0xF070 6 = min (s.z 0xF070 6 + 1) (2 ^ 32 - 1)) ∧
    (∀ j : Fin 8, (s.timer j.val).running = true → s.n 0x4018 (j.val + 1) ≠ 0 → (s.trig.st = 2 ∨ s.trig.st = 4) →
      (bit (s.z 0x4019 (j.val + 1)) 1 = true ∨ s.nextExpiry j.val = (s.timer j.val).start + s.n 0x4018 (j.val + 1)) →
      Completes (.triggerTimerExpiry j) s [.now, .time, .trig] (clockObjects ++ [(0xF070, 7)]) fun t =>
        bit t.trig.flags (8 + j.val) = true ∧ (t.timer j.val).elapsed = s.nextExpiry j.val - (s.timer j.val).start ∧
        t.z 0xF070 7 = min (s.z 0xF070 7 + 1) (2 ^ 32 - 1) ∧
        (s.time.tickRun = true → s.time.bridging = false → t.time.tick = max s.time.tick (s.nextExpiry j.val)))

/-! ### Storage windows and spill streams (Chapter 16) -/

/-- The idle close of a window closes its block at the end of the tick in which its idle time runs out; a window whose freeze tick has been
released is FROZEN with its block closed. Where no recall zone is set, nothing but the time and the writer changes. -/
def Claims.WindowsCloseAndFreeze : Prop :=
  ∀ (s : State) (w : Fin 16),
    let x := s.win w.val
    let n := x.cur.length
    (x.open_ = true → s.winLive w.val = true → s.n (0x5010 + w.val) 6 ≠ 0 →
      ∃ t, exec (.idleClose w) s = .next t ∧ (t.win w.val).open_ = false ∧ (t.win w.val).cur = [] ∧
        (t.win w.val).wpos = 64 * (x.block + 1) ∧ (x.block, if n = 4096 then 4096 else n + 8) ∈ (t.win w.val).closed ∧
        t.z 0xF078 6 = min (s.z 0xF078 6 + 1) (2 ^ 32 - 1) ∧ t.z 0xF078 7 = min (s.z 0xF078 7 + 1) (2 ^ 32 - 1) ∧
        (s.n 0x7802 1 = 0 → KeepsParts [.now, .time, .sto] s t ∧
          KeepsObjects (clockObjects ++ [(0xF078, 1), (0xF078, 6), (0xF078, 7)]) s t)) ∧
    (∀ f, x.freezeAt = some f → ∀ r, s.time.lastRelease = some r → f ≤ r → s.winLive w.val = true →
      ∃ t, exec (.windowFreeze w) s = .next t ∧ (t.win w.val).st = 5 ∧ (t.win w.val).freezeAt = none ∧ (t.win w.val).open_ = false ∧
        (x.open_ = true → (t.win w.val).wpos = 64 * (x.block + 1) ∧ t.z 0xF078 6 = min (s.z 0xF078 6 + 1) (2 ^ 32 - 1)) ∧
        (s.n 0x7802 1 = 0 → KeepsParts [.sto] s t ∧ KeepsObjects [(0xF078, 1), (0xF078, 6)] s t))

/-- A stream starts its next frame on the lowest lane that is free, or waits for space in its ring; a coded frame frees its lane and is
counted, and one whose lane met an uncorrectable word is coded again; a waiting stream rereads its consumer line; and a stream in ERROR
resumes on the host's write. -/
def Claims.StreamsSpill : Prop :=
  ∀ (s : State) (i : Fin 4), Alone s →
    let x := s.stream i.val
    (∀ l, s.freeLane = some l → s.streamWants i.val = true → s.ringRoom i.val = true →
      Completes (.spillFrameStart i) s [.sto, .comp] [] fun t =>
        t.stream i.val = { x with st := 1, next := x.next + 1, nextId := x.nextId + 1,
                                  flight := x.flight ++ [{ id := x.nextId, block := x.next, lane := l }] } ∧
        mget t.comp.lane l = some (1, i.val)) ∧
    (s.streamWants i.val = true → s.ringRoom i.val = false → x.st ≠ 3 → s.mgtFast = true →
      Completes (.spillFrameStart i) s [.sto, .latch] [(0x2160, s.streamWin i.val + 1), (0xF018, 11), (0xF078, 13)] fun t =>
        t.stream i.val = { x with st := 3 } ∧ bit (t.z 0x2160 (s.streamWin i.val + 1)) 2 = true ∧
        t.z 0xF078 13 = min (s.z 0xF078 13 + 1) (2 ^ 32 - 1)) ∧
    (∀ f (ev : LaneEvent), x.flight.find? (fun y => !y.encoded) = some f → s.engineOn = true →
      (ev.bad = false →
        ∃ t, exec (.spillFrameEncoded i ev) s = .next t ∧
          t.z 0xF088 3 = min (s.z 0xF088 3 + 1) (2 ^ 64 - 1) ∧ mget t.comp.lane f.lane = none ∧
          t.comp.consumed = s.comp.consumed + ((s.win (s.streamWin i.val)).usedOf f.block).getD 4096) ∧
      (ev.bad = true → ev.corrected = 0 →
        Completes (.spillFrameEncoded i ev) s [] [(0xF088, 13), (0xF088, 14)] fun t =>
          t.z 0xF088 13 = min (s.z 0xF088 13 + 1) (2 ^ 32 - 1) ∧ t.z 0xF088 14 = min (s.z 0xF088 14 + 1) (2 ^ 32 - 1))) ∧
    (∀ p did, x.st = 3 → x.rereading = false → s.streamEn i.val = true →
      s.route (s.z (0x5100 + i.val) 5) = some (p, did) → s.portActive p = true → vcPresent (s.port p).gen 0 = true →
      s.coh.reqs.length < 64 → s.lineBusy (s.z (0x5100 + i.val) 5) = false →
      ∃ t, exec (.consumerLineReread i) s = .next t ∧ (t.stream i.val).rereading = true ∧ (t.stream i.val).reread = some t.now ∧
        t.now = (match x.reread with | some r => max s.now (r + 1000) | none => s.now) ∧
        (mget t.coh.reqs s.freshTag).map DevReq.line = some (s.z (0x5100 + i.val) 5) ∧
        Sent t p (devMsg 0 3 did s.freshTag (s.z (0x5100 + i.val) 5) false [])) ∧
    (∀ who (v : BitVec 32), Accepted s who 0x5120 (i.val + 1) v.toNat → s.mgtFast = true →
      Completes (.streamResume who i v) s [.sto, .acc, .out, .latch] (accessObjects ++ causeObjects 12) fun t =>
        t.stream i.val = { x with st := 1 } ∧ t.z 0x210D 0 = s.z 0x210D 0 ||| 16)

/-- Windows that close and freeze, and spill streams. -/
def Obligations.WindowsAndStreams : Prop := Claims.WindowsCloseAndFreeze ∧ Claims.StreamsSpill

/-! ### The capture banks and the vault (Chapter 17) -/

/-- Power transitions of a capture bank: the freeze tick of a commit wakes a bank that it makes On; a drained bank enters its target state,
2 µs to Retention and 1 µs to Off, whose contents read 0 afterwards; a waking bank is READY, or is zeroed first; and a selection made
meanwhile is followed. -/
def Claims.BankTransitionsComplete : Prop :=
  ∀ (s : State) (b : Fin 48),
    let x := s.bank b.val
    let sel := s.z 0x2300 (b.val + 1)
    (s.commit.state = 3 → x.st = 3 → (∃ e ∈ s.staged, e.idx = 0x2300 ∧ e.sub = b.val + 1 ∧ valNum e.val = 0) →
      s.time.tickRun = true → s.time.bridging = false →
      Completes (.retentionWake b) s [.now, .time, .mem] clockObjects fun t =>
        t.bank b.val = { x with st := 5, target := 0, since := t.now, zeroNext := false } ∧
        t.time.tick = max s.time.tick (s.commit.boundary - 64)) ∧
    (x.st = 1 → (∀ l ∈ s.sto.buf, bankOf l.off ≠ b.val) → ¬(s.mem.tbank = b.val ∧ 1 ≤ s.mem.phase ∧ s.mem.phase ≤ 3) →
      Completes (.bankDrainDone b) s [.mem] [] fun t => t.bank b.val = { x with st := 2, since := s.now, zeroNext := false }) ∧
    (x.st = 2 → (x.target = 3 ∨ x.target = 4) →
      Completes (.bankEntryDone b) s [.now, .time, .mem] (clockObjects ++ [(0xF080, 9)]) fun t =>
        t.now = max s.now (x.since + (if x.target = 3 then 2000 else 1000)) ∧
        (x.target = 3 → t.mem.cells = s.mem.cells ∧
          (t.bank b.val).st = (if sel = 0 then 5 else if sel = 2 then 2 else 3) ∧ (sel = 0 → (t.bank b.val).zeroNext = false)) ∧
        (x.target = 4 → (∀ a, cellGet t.mem.cells a = if bankOf a = b.val then 0 else cellGet s.mem.cells a) ∧
          (t.bank b.val).st = (if sel = 0 ∨ sel = 1 then 5 else 4) ∧ (sel = 0 → (t.bank b.val).zeroNext = true)) ∧
        t.z 0xF080 9 = min (s.z 0xF080 9 + 1) (2 ^ 32 - 1)) ∧
    (x.st = 5 → x.zeroNext = true →
      Completes (.bankWakeDone b) s [.now, .time, .mem] clockObjects fun t =>
        t.now = max s.now (x.since + 20000) ∧ t.bank b.val = { x with st := 6, since := t.now } ∧
        ∀ a, cellGet t.mem.cells a = if bankOf a = b.val then 0 else cellGet s.mem.cells a) ∧
    (x.st = 5 → x.zeroNext = false → (sel = 0 ∨ s.commit.state = 3) →
      Completes (.bankWakeDone b) s [.mem] [(0xF080, 9)] fun t =>
        t.bank b.val = { x with st := 0, since := s.now } ∧ t.mem.cells = s.mem.cells ∧
        t.z 0xF080 9 = min (s.z 0xF080 9 + 1) (2 ^ 32 - 1)) ∧
    (x.st = 5 → x.zeroNext = false → (sel = 1 ∨ sel = 2) → s.commit.state ≠ 3 →
      ∃ t, exec (.bankWakeDone b) s = .next t ∧ (t.bank b.val).st = 1 ∧ (t.bank b.val).target = sel + 2 ∧ t.mem.cells = s.mem.cells) ∧
    (x.st = 6 → x.target = 3 →
      Completes (.bankZeroingDone b) s [.now, .time, .mem] (clockObjects ++ [(0xF080, 10)]) fun t =>
        t.now = max s.now (x.since + 262144) ∧ t.bank b.val = { x with st := 2, since := t.now, zeroNext := false } ∧
        t.z 0xF080 10 = min (s.z 0xF080 10 + 1) (2 ^ 32 - 1)) ∧
    (x.st = 6 → x.target ≠ 3 → sel = 0 →
      Completes (.bankZeroingDone b) s [.now, .time, .mem] (clockObjects ++ [(0xF080, 9), (0xF080, 10)]) fun t =>
        t.now = max s.now (x.since + 262144) ∧ t.bank b.val = { x with st := 0, since := t.now } ∧
        t.z 0xF080 10 = min (s.z 0xF080 10 + 1) (2 ^ 32 - 1) ∧ t.z 0xF080 9 = min (s.z 0xF080 9 + 1) (2 ^ 32 - 1)) ∧
    (x.st = 6 → x.target ≠ 3 → (sel = 1 ∨ sel = 2) →
      ∃ t, exec (.bankZeroingDone b) s = .next t ∧ (t.bank b.val).st = 1 ∧ (t.bank b.val).target = sel + 2 ∧
        t.now = max s.now (x.since + 262144))

/-- A supply outside its limit for 1 µs, where no commit takes the bank to Off at that instant, or a transition of more than ten times its
duration, switches the bank off: FAILED with its contents lost, MEM cause BANKPWR, and every enabled window that places a block in it,
neither FROZEN nor in FAULT, in FAULT. -/
def Claims.BanksFail : Prop :=
  ∀ (s : State) (b : Fin 48), Alone s → s.mgtFast = true →
    let lost := fun t : State =>
      (t.bank b.val).st = 7 ∧ (∀ a, bankOf a = b.val → cellGet t.mem.cells a = 0) ∧ bit (t.z 0x210C 0) 0 = true ∧
      ∀ w, w < 16 → s.winLive w = true → s.winUses w b.val = true → (t.win w).st = 6 ∧ (t.win w).freezeAt = none
    ((s.bank b.val).st = 0 ∨ (s.bank b.val).st = 1 ∨ (s.bank b.val).st = 3 ∨ (s.bank b.val).st = 6 →
      ¬((s.bank b).st = 1 ∧ (s.bank b).target = 4 ∧ (s.bank b).since = s.now) →
      ∃ t, exec (.bankSupplyFault b) s = .next t ∧ lost t ∧ t.now = s.now) ∧
    ((s.bank b.val).st = 1 ∨ (s.bank b.val).st = 2 ∨ (s.bank b.val).st = 5 ∨ (s.bank b.val).st = 6 →
      ∃ t, exec (.bankTransitionOvertime b) s = .next t ∧ lost t ∧
        t.now = max s.now ((s.bank b.val).since + 10 * (s.bank b.val).duration + 1))

/-- The power states of a capture bank, and its failures. -/
def Obligations.BanksMoveBetweenPowerStates : Prop := Claims.BankTransitionsComplete ∧ Claims.BanksFail

/-- A step of the background test saves its region, tests it, writes it back and compares: SAVE takes the 64 lines, TEST and COMPARE
report faults, RESTORE follows, and a whole step is counted, the next is due an interval later, and it goes on to the next region. A step
that was abandoned ends behind RESTORE. While MGT is in domain reset the engine pauses. -/
def Claims.BackgroundTestSteps : Prop :=
  ∀ s : State,
    (s.mem.phase = 5 → s.mgtUp = true → s.bankReady s.mem.tbank = true → s.mem.visited = 0 →
      ∃ t, exec .backgroundStepStart s = .next t ∧ t.now = max s.now s.mem.nextStep ∧ t.mem.phase = 1 ∧ t.mem.abandoned = false ∧
        t.mem.tbank = s.mem.tbank ∧ t.mem.tregion = s.mem.tregion ∧ t.mem.cells = s.mem.cells ∧
        ∀ i, i < 64 → s.bankReady (bankOf (offOf s.mem.tbank (64 * s.mem.tregion + i))) = true →
          (mget t.mem.save i).map SaveLine.data = some (cellRead s.mem.cells (offOf s.mem.tbank (64 * s.mem.tregion + i)) 64)) ∧
    (s.mem.phase = 5 → s.mgtUp = false → Completes .backgroundStepStart s [] [] fun _ => True) ∧
    (∀ r : TestFinding,
      (s.mem.phase = 1 → Completes (.backgroundPhaseDone r) s [.now, .time, .mem] clockObjects fun t =>
        t.now = max s.now s.mem.phaseEnd ∧ t.mem = { s.mem with phase := 2, phaseEnd := t.now + 5120 }) ∧
      (s.mem.phase = 2 → r.faults = [] → Completes (.backgroundPhaseDone r) s [.now, .time, .mem] clockObjects fun t =>
        t.now = max s.now s.mem.phaseEnd ∧ t.mem = { s.mem with phase := 3, phaseEnd := t.now + 512 }) ∧
      (∀ f, s.mem.phase = 2 → r.faults = [f] → (s.bank s.mem.tbank).spared.contains (f.1 * 512 + f.2.1) = false → s.mgtFast = true →
        Completes (.backgroundPhaseDone r) s [.now, .time, .mem, .latch] (clockObjects ++ causeObjects 11 ++ [(0xF080, 7), (0xF080, 8)]) fun t =>
          t.mem.phase = 3 ∧ t.mem.faultBank = s.mem.tbank ∧ t.mem.faultSub = f.1 ∧ t.mem.faultCol = f.2.1 ∧ t.mem.faultRow = f.2.2 ∧
          t.mem.faultSrc = 2 ∧ bit (t.z 0x210C 0) 3 = true ∧ t.z 0xF080 7 = min (s.z 0xF080 7 + 1) (2 ^ 32 - 1)) ∧
      (s.mem.phase = 3 → s.mem.abandoned = false → r.badLines = [] →
        Completes (.backgroundPhaseDone r) s [.now, .time, .mem] clockObjects fun t =>
          t.mem.phase = 4 ∧ t.mem.bank = s.mem.bank ∧ t.mem.phaseEnd = t.now + 511) ∧
      (s.mem.phase = 3 → s.mem.abandoned = true → r.badLines = [] → s.mem.abandons < s.n 0x5400 3 →
        Completes (.backgroundPhaseDone r) s [.now, .time, .mem] clockObjects fun t =>
          t.mem.phase = (if s.b 0x5400 1 then 5 else 0) ∧ t.mem.abandoned = false ∧ t.mem.save = [] ∧
          t.mem.tregion = s.mem.tregion ∧ t.mem.nextStep = t.now + s.n 0x5400 2 * 1000) ∧
      (s.mem.phase = 4 → r.faults = [] →
        Completes (.backgroundPhaseDone r) s [.now, .time, .mem] (clockObjects ++ [(0xF080, 4)]) fun t =>
          t.mem.phase = (if s.b 0x5400 1 then 5 else 0) ∧ t.mem.save = [] ∧ t.mem.cells = s.mem.cells ∧
          t.mem.nextStep = t.now + s.n 0x5400 2 * 1000 ∧ t.z 0xF080 4 = min (s.z 0xF080 4 + 1) (2 ^ 64 - 1) ∧
          t.mem.tbank = s.mem.tbank ∧ t.mem.tregion = s.mem.tregion ∧ t.mem.abandons = 0 ∧
          (s.mem.tregion + 1 < 512 → s.bankReady s.mem.tbank = true → t.mem.visited = 1 ∧ t.mem.passes = s.mem.passes))) ∧
    (s.mem.phase = 5 → s.mgtUp = true → s.bankReady s.mem.tbank = true → s.mem.visited = 1 → s.mem.tregion + 1 < 512 →
      ∃ t, exec .backgroundStepStart s = .next t ∧ t.mem.phase = 1 ∧ t.mem.visited = 0 ∧ t.mem.abandons = 0 ∧
        t.mem.tbank = s.mem.tbank ∧ t.mem.tregion = s.mem.tregion + 1 ∧ t.mem.cells = s.mem.cells)

/-- A vault wipe makes every octet of the vault zero at its start; at its end the vault is READY, or FAILED where its bank failed its test,
with the life-cycle tag of the fuses, and SEC cause WIPED is set. -/
def Claims.VaultWipes : Prop :=
  ∀ s : State,
    (∀ r, s.sec.vaultState ≠ 0 → s.sec.wipePending = some r →
      Completes .vaultWipe s [.sec] [] fun t =>
        t.sec = { s.sec with k1 := none, records := [], badRegion := [], vaultState := 1,
                             wipeReason := r, wipeAt := s.now }) ∧
    (s.sec.wipePending.isSome = true → s.sec.vaultState = 1 → s.sec.trState ≠ 2 → s.mgtUp = true →
      Completes .vaultWipeDone s [.now, .time, .sec, .latch] (clockObjects ++ causeObjects 15 ++ [(0xF080, 11)]) fun t =>
        t.sec = { s.sec with vaultState := s.vaultAfter, vaultTag := fusedState s.sec.fuses, wipePending := none } ∧
        t.now = max s.now (s.sec.wipeAt + 32768) ∧ t.z 0x2110 0 = s.z 0x2110 0 ||| 8 ∧
        t.z 0xF080 11 = min (s.z 0xF080 11 + 1) (2 ^ 32 - 1))

/-- The background test of the banks, and the wipe of the vault. -/
def Obligations.BackgroundTestAndVaultWipe : Prop := Claims.BackgroundTestSteps ∧ Claims.VaultWipes

/-- The capture memory keeps its canonical form, so that equal contents are equal data: through a read and a write of any line by either
port, through every command of the banks' power states and of the background test, and through the scrub. -/
def Obligations.CaptureMemoryStaysCanonical : Prop :=
  Memory.wf State.reset.mem = true ∧
  ∀ s : State, s.mem.wf = true →
    (∀ off i d p, (s.hostWrite off i d p).mem.wf = true ∧ (s.readLine off).2.2.mem.wf = true ∧ (s.writeLine off d p).mem.wf = true ∧
      (s.captureWrite off d).mem.wf = true) ∧
    ∀ c, ((∃ f, c = .storeScrub f) ∨ c = .captureWrite ∨ c = .backgroundStepStart ∨ (∃ r, c = .backgroundPhaseDone r) ∨
        ∃ b, c = .retentionWake b ∨ c = .bankDrainDone b ∨ c = .bankEntryDone b ∨ c = .bankWakeDone b ∨ c = .bankZeroingDone b) →
      ∃ t, exec c s = .next t ∧ t.mem.wf = true

/-! ### The job ring of the compression engine (Chapter 18) -/

/-- A tail write submits the new jobs, whose descriptors are read; the next job whose descriptor is good starts on the lowest free lane, or
on the decompressor; one whose descriptor names no work ends as INVALID. -/
def Claims.JobsAreSubmittedAndStart : Prop :=
  ∀ s : State, Alone s →
    (∀ who (v : BitVec 8), Accepted s who 0x5802 1 v.toNat →
      ∃ t, exec (.jobTailWrite who v) s = .next t ∧ t.comp.tail = v.toNat ∧ t.comp.head = s.comp.head ∧
        ∀ i, i < (v.toNat + 32 - s.comp.tail) % 32 →
          (t.job ((s.comp.tail + i) % 32)).st = 1 ∨ (t.job ((s.comp.tail + i) % 32)).st = 2 ∨ (t.job ((s.comp.tail + i) % 32)).st = 5) ∧
    (∀ c (ev : LaneEvent), s.jobCounts.find? (fun c => (s.job c).st == 1 || (s.job c).st == 2 || (s.job c).st == 5 || (s.job c).st == 7)
        = some c → (s.job c).st = 2 → s.engineOn = true → s.b 0x5801 2 = true → ev.bad = false →
      (∀ l, (s.job c).valid = true → (s.job c).codes = true → s.freeLane = some l →
        (∀ i, i < 4 → s.streamWants i = false) → s.comp.lane.length < 8 →
        Completes (.jobStart ev) s [.comp] [(0xF048, 13)] fun t =>
          t.job c = { s.job c with st := 3, lane := l, since := s.now, order := s.comp.starts } ∧
          mget t.comp.lane l = some (2, c % 16)) ∧
      ((s.job c).valid = true → (s.job c).codes = false → s.decompBusy = false →
        Completes (.jobStart ev) s [.comp] [(0xF048, 13)] fun t =>
          t.job c = { s.job c with st := 3, lane := 8, since := s.now, order := s.comp.starts }) ∧
      ((s.job c).valid = false → s.mgtFast = true →
        ∃ t, exec (.jobStart ev) s = .next t ∧ t.comp.lastSlot = c % 16 ∧ t.comp.lastStatus = 9 ∧
          t.z 0xF088 6 = min (s.z 0xF088 6 + 1) (2 ^ 32 - 1) ∧ bit (t.z 0x210D 0) 0 = true))

/-- A running job that ends within its watchdog limit completes with the work of its descriptor on its input, whose result is written to the
destination; it expires after that limit; and a flush cancels what has not started and leaves what runs. The demand of the lanes is published. -/
def Claims.JobsEnd : Prop :=
  ∀ s : State, Alone s →
    (∀ (slot : Fin 16) c, s.running slot.val = some c →
      (∀ r : JobInput, (s.dom .cmp).inReset = false → s.late .mgt (s.job c).since (s.n 0x5800 4 * 1000) = false → r.lane.bad = false → r.err = 0 →
        ∃ t, exec (.jobComplete slot r) s = .next t ∧
          (let e := (s.job c).work (octAt r.input 0 (s.job c).srcLen)
           .host 1 (s.job c).dst e.out ∈ t.out ∧
           (e.status = 1 → t.z 0xF088 5 = min (s.z 0xF088 5 + 1) (2 ^ 32 - 1)) ∧
           (e.status ≠ 1 → e.status ≠ 11 → t.comp.lastSlot = c % 16 ∧ t.comp.lastStatus = e.status ∧ t.comp.lastDetail = e.detail)) ∧
          ((s.job c).lane < 8 → mget t.comp.lane (s.job c).lane = none)) ∧
      (s.mgtFast = true →
        ∃ t, exec (.jobWatchdogExpiry slot) s = .next t ∧ t.now = max s.now ((s.job c).since + s.n 0x5800 4 * 1000) ∧
          t.comp.lastSlot = c % 16 ∧ t.comp.lastStatus = 8 ∧ bit (t.z 0x210D 0) 1 = true ∧
          t.z 0xF088 8 = min (s.z 0xF088 8 + 1) (2 ^ 32 - 1) ∧ ((s.job c).lane < 8 → mget t.comp.lane (s.job c).lane = none))) ∧
    (∀ who (v : BitVec 32), Accepted s who 0x5802 4 v.toNat →
      ∃ t, exec (.jobFlush who v) s = .next t ∧ ∀ c ∈ s.jobCounts,
        ((s.job c).st = 3 → t.job c = s.job c) ∧ ((s.job c).st = 1 → t.job c = { s.job c with st := 7 }) ∧
        (((s.job c).st = 2 ∨ (s.job c).st = 5) → (t.job c).st ≠ 2 ∧ (t.job c).st ≠ 5 ∧ (t.job c).st ≠ 3)) ∧
    Completes .demandUpdate s [.comp] [(0x2208, 7)] fun t => t.z 0x2208 7 = s.demand ∧ t.comp = { s.comp with consumed := 0 }

/-- What the job ring of the compression engine does. -/
def Obligations.JobsRunInOrder : Prop := Claims.JobsAreSubmittedAndStart ∧ Claims.JobsEnd

/-! ### Rope frames of the pair (Chapter 19) -/

/-- A device that has a partner sends one frame of 49 octets every four ticks: its type, the next camp segment and the FCRC over it. A frame
with another length or a wrong FCRC is discarded and counted; an idle one counts as good, and 16 good ones align the link; a data frame
that comes within the heartbeat limit and the resend time is a heartbeat, tells a Lead whether its Second is eligible, and gives a
shadowing Second the state words to compare. -/
def Claims.RopeFramesAreExchanged : Prop :=
  ∀ s : State,
    (s.ropeSends = true →
      ∃ t o t0, exec .ropeFrameSend s = .next t ∧ .rope o ∈ t.out ∧ o.length = 49 ∧ leAt o 45 4 = crc32c (o.take 45) ∧
        leAt o 0 1 % 16 = (if s.pair.role = 2 ∨ s.pair.role = 3 then 1 else 0) ∧ t.pair.txT0 = some t0 ∧
        (∀ k, s.pair.txT0 = some k → s.time.tick < k + 4 → t0 = k + 4) ∧
        (s.pair.role = 2 ∨ s.pair.role = 3 → s.pair.resend = 0 → s.pair.txUrgent = [] → s.pair.txBulk = [] →
          bit (leAt o 0 1) 6 = false ∧ KeepsParts [.now, .time, .pair, .out] s t) ∧
        (s.pair.role = 2 ∨ s.pair.role = 3 → s.pair.resend = 0 → s.pair.unacked.length < 64 → s.pair.txUrgent ≠ [] →
          bit (leAt o 0 1) 6 = true ∧ t.pair.txUrgent = s.pair.txUrgent.drop 19 ∧ t.pair.txBulk = s.pair.txBulk ∧
          t.pair.unacked = s.pair.unacked ++ [⟨s.pair.txSeq, true, s.pair.txUrgent.take 19⟩])) ∧
    (∀ o : Octets, s.pair.role ≠ 0 → s.up = true →
      (o.length ≠ 49 ∨ leAt o 45 4 ≠ crc32c (o.take 45) →
        ∃ t, exec (.ropeFrameReceive o) s = .next t ∧ t.pair.good = 0 ∧ t.pair.run = 0 ∧
          t.z 0xF090 2 = min (s.z 0xF090 2 + 1) (2 ^ 32 - 1) ∧
          t.pair.invalid = (if o.length = 49 then 0 else s.pair.invalid + 1)) ∧
      (o.length = 49 → leAt o 45 4 = crc32c (o.take 45) → bit (leAt o 0 1) 6 = false → leAt o 25 1 % 32 ≤ 19 →
        (leAt o 0 1 % 16 = 0 → Alone s →
          ∃ t, exec (.ropeFrameReceive o) s = .next t ∧ t.pair.good = s.pair.good + 1 ∧ t.pair.invalid = 0 ∧ t.pair.los = 0 ∧
            (t.pair.aligned = true ↔ s.pair.aligned = true ∨ 16 ≤ s.pair.good + 1) ∧ t.z 0xF090 2 = s.z 0xF090 2) ∧
        (leAt o 0 1 % 16 = 1 → s.pair.aligned = true → s.pair.role = 2 → bit (leAt o 0 1) 4 = false → RopeInTime s →
          ∃ t, exec (.ropeFrameReceive o) s = .next t ∧ t.pair.hbRun = true ∧ t.pair.frameAt = s.time.tick ∧ t.pair.losTick = none ∧
            t.pair.eligible = (bit (leAt o 0 1) 5 && !s.pair.mirrorFail) ∧ t.z 0xF090 1 = min (s.z 0xF090 1 + 1) (2 ^ 64 - 1)) ∧
        (leAt o 0 1 % 16 = 1 → s.pair.aligned = true → s.pair.role = 3 → s.pair.catchup = 7 → RopeInTime s →
          let t0 := extend16 s.time.tick (leAt o 1 2)
          (∀ j, j < 4 → mget s.pair.words (t0 + j) = some (leAt o (3 + 4 * j) 4)) →
          ∃ t, exec (.ropeFrameReceive o) s = .next t ∧ t.pair.hbRun = true ∧ t.pair.frameAt = s.time.tick ∧ t.pair.catchup = 7 ∧
            t.pair.compared = t0 + 3 ∧ t.z 0xF090 4 = min (s.z 0xF090 4 + 4) (2 ^ 64 - 1) ∧ t.z 0xF090 5 = s.z 0xF090 5) ∧
        (leAt o 0 1 % 16 = 1 → s.pair.aligned = true → s.pair.role = 3 → s.pair.catchup = 7 → s.mgtFast = true → RopeInTime s →
          let t0 := extend16 s.time.tick (leAt o 1 2)
          ∀ own, mget s.pair.words t0 = some own → own ≠ leAt o 3 4 →
          ∃ t, exec (.ropeFrameReceive o) s = .next t ∧ t.pair.catchup = 6 ∧ t.pair.run = 0 ∧ t.pair.eligible = false ∧
            t.z 0x8004 1 = t0 ∧ t.z 0x8004 2 = leAt o 3 4 ∧ t.z 0x8004 3 = own ∧ bit (t.z 0x210F 0) 1 = true ∧
            t.z 0xF090 5 = min (s.z 0xF090 5 + 1) (2 ^ 32 - 1))))

/-- Lanes without signal are down and the link is not aligned, with PAIR cause LOS; a link that does not realign within 1 ms is lost, and
a Second then runs on its own oscillator; the heartbeat limit without a data frame sets PAIR cause HEARTBEAT and, on the Lead, ends
mirroring; and camp segments without an acknowledgement for 256 ticks are sent again, or the channel resets after eight times. -/
def Claims.RopeFaults : Prop :=
  ∀ s : State,
    (∀ lanes : BitVec 4, s.pair.role ≠ 0 → s.up = true → andNot lanes.toNat s.pair.los ≠ 0 →
      ¬(s.pair.role = 3 ∧ s.pair.refLost = true) → s.mgtFast = true →
      ∃ t, exec (.ropeLossOfSignal lanes) s = .next t ∧ t.pair.los = s.pair.los ||| lanes.toNat ∧ t.pair.aligned = false ∧ t.pair.good = 0 ∧
        t.z 0xF090 7 = min (s.z 0xF090 7 + 1) (2 ^ 32 - 1) ∧ bit (t.z 0x210F 0) 2 = true ∧
        (s.pair.losTick = none → t.pair.losTick = some s.time.tick ∧ t.pair.losElig = s.pair.eligible)) ∧
    (∀ a, s.pair.losAt = some a →
      ∃ t, exec .ropeLossTimeout s = .next t ∧ t.now = max s.now (a + 1000000) ∧ t.pair.losLong = true ∧
        (s.pair.role = 3 → (t.pll .rpll).refRope = false ∧ (t.pll .rpll).locked = true)) ∧
    (s.pair.hbRun = true → s.mgtFast = true →
      ∃ t, exec .heartbeatExpiry s = .next t ∧ t.pair.hbRun = false ∧ bit (t.z 0x210F 0) 0 = true ∧
        t.z 0xF090 6 = min (s.z 0xF090 6 + 1) (2 ^ 32 - 1) ∧
        (s.pair.role = 2 → t.pair.eligible = false ∧ t.pair.absent = true) ∧ (s.pair.role = 3 → t.pair.eligible = false)) ∧
    (s.pair.unacked ≠ [] →
      (s.pair.resends < 8 →
        ∃ t, exec .campResendTimeout s = .next t ∧ t.pair.resend = s.pair.unacked.length ∧ t.pair.resends = s.pair.resends + 1 ∧
          t.pair.ackTick = t.time.tick ∧ t.pair.unacked = s.pair.unacked ∧
          t.z 0xF090 3 = min (s.z 0xF090 3 + s.pair.unacked.length) (2 ^ 32 - 1)) ∧
      (8 ≤ s.pair.resends → Alone s →
        ∃ t, exec .campResendTimeout s = .next t ∧ t.pair.unacked = [] ∧ t.pair.txUrgent = [] ∧ t.pair.txBulk = [] ∧
          t.pair.campReset = true))

/-- Rope frames and the faults of the Rope. -/
def Obligations.RopeFramesAndFaults : Prop := Claims.RopeFramesAreExchanged ∧ Claims.RopeFaults

/-! ### Camp messages to a Second (Chapter 19) -/

/-- A set that the Lead announces is gathered record by record, acknowledged when it ends, and applied, given its tick or cancelled by
BOUNDARY; a CATCHUP set puts a Second that has come further back into DICT. -/
def Claims.SetsReachTheSecond : Prop :=
  ∀ (s : State) (o : Octets), s.pair.role = 3 → 2 ≤ s.pair.catchup →
    (∃ t, exec (.setBegin o) s = .next t ∧ t.pair.rxSet = some ⟨leAt o 0 4, leAt o 4 1, leAt o 5 4, [], false⟩ ∧
      t.pair.boundary = none ∧ (leAt o 4 1 = 0 → 2 < s.pair.catchup → t.pair.catchup = 2)) ∧
    (∀ x, s.pair.rxSet = some x →
      (∃ t, exec (.setRec o) s = .next t ∧ t.pair.rxSet = some { x with records := x.records ++ [o] }) ∧
      (leAt o 0 4 = x.number →
        let ok := decide (x.records.length = x.count) && decide (crc32c x.records.flatten = leAt o 4 4)
        ∃ t, exec (.setEnd o) s = .next t ∧ t.pair.rxSet = (if ok then some { x with whole := true } else none) ∧
          .camp 5 (leBytes 4 x.number ++ leBytes 1 (b2n !ok)) ∈ t.out) ∧
      (leAt o 0 4 = x.number → x.whole = true →
        (leAt o 12 1 = 1 →
          ∃ t, exec (.boundary o) s = .next t ∧ t.pair.rxSet = none ∧ t.pair.boundary = none ∧ t.staged = s.staged ∧ t.commit = s.commit) ∧
        (leAt o 12 1 ≠ 1 → leAt o 4 8 = 0 → ∃ t, exec (.boundary o) s = .next t ∧ t.pair.rxSet = none ∧ t.pair.boundary = none) ∧
        (leAt o 12 1 ≠ 1 → leAt o 4 8 ≠ 0 → s.time.tick + 64 ≤ s.tickOf (leAt o 4 8) →
          ∃ t, exec (.boundary o) s = .next t ∧ t.pair.rxSet = some x ∧ t.pair.boundary = some (s.tickOf (leAt o 4 8))) ∧
        (leAt o 12 1 ≠ 1 → leAt o 4 8 ≠ 0 → s.tickOf (leAt o 4 8) < s.time.tick + 64 →
          ∃ t, exec (.boundary o) s = .next t ∧ t.pair.rxSet = none ∧ t.pair.catchup = 2)))

/-- TIME_SYNC of a Second in TIME loads its tick counter, its package time and its rate; ADJ waits for its tick, in which it applies; STEP,
CONFIRM and SRCSTAT bring the state of a source. -/
def Claims.TimeReachesTheSecond : Prop :=
  ∀ (s : State) (o : Octets),
    (s.pair.role = 3 → s.pair.catchup = 4 →
      ∃ t, exec (.timeSync o) s = .next t ∧ t.time.tick = leAt o 0 8 ∧
        t.time.pt = leAt o 8 6 * secUnits + leAt o 14 4 * 2 ^ 32 + leAt o 18 4 ∧ t.time.rate = toInt 32 (leAt o 22 4) ∧
        t.time.slew = 0 ∧ (t.pair.catchup = 5 ∨ t.pair.catchup = 6)) ∧
    (s.pair.role = 3 → ∃ t, exec (.adj o) s = .next t ∧
      t.time.delayed = s.time.delayed ++ [.adj (s.tickOf (leAt o 0 8)) (toInt 32 (leAt o 8 4)) 0 none]) ∧
    (∀ k r sl e rest, s.time.delayed = .adj k r sl e :: rest →
      Completes .delayedAdjApply s [.now, .time] clockObjects fun t =>
        t.time.rate = r ∧ t.time.slew = sl ∧ t.time.slewEnd = e ∧ t.time.delayed = rest ∧
        (s.time.tickRun = true → s.time.bridging = false → t.time.tick = max s.time.tick k)) ∧
    (s.pair.role = 3 → leAt o 0 1 < 16 →
      (∃ t, exec (.step o) s = .next t ∧ (t.src (leAt o 0 1)).trim = toInt 32 (leAt o 16 4) ∧
        (leAt o 1 1 = 1 → (t.src (leAt o 0 1)).setting = true ∧ (t.src (leAt o 0 1)).set = false) ∧
        (leAt o 1 1 ≠ 1 → (t.src (leAt o 0 1)).step = some (toInt 64 (leAt o 4 8)) ∧
          (t.src (leAt o 0 1)).epoch = (leAt o 2 1 + 1) % 4)) ∧
      (∃ t, exec (.confirm o) s = .next t ∧ (t.src (leAt o 0 1)).step = none ∧ (t.src (leAt o 0 1)).setting = false ∧
        (t.src (leAt o 0 1)).epoch = leAt o 1 1 % 4 ∧
        (t.src (leAt o 0 1)).set = ((s.src (leAt o 0 1)).set || (s.src (leAt o 0 1)).setting)) ∧
      (∃ t, exec (.srcstat o) s = .next t ∧ (t.src (leAt o 0 1)).set = bit (leAt o 1 1) 3 ∧ (t.src (leAt o 0 1)).late = bit (leAt o 1 1) 2 ∧
        (t.src (leAt o 0 1)).meas = bit (leAt o 1 1) 1 ∧ (t.src (leAt o 0 1)).present = bit (leAt o 1 1) 0 ∧
        (t.src (leAt o 0 1)).trim = toInt 32 (leAt o 2 4)))

/-- ARM and DISARM take effect in the tick they name where they are visible 64 ticks before it, and end the matching run otherwise; a
Second in TRIG_WAIT takes TRIG_SNAP and shadows; CKPT, TRAIN, PORTSTAT and HANDOVER bring checkpoints, port orders, port states and the
yield tick. -/
def Claims.StateReachesTheSecond : Prop :=
  ∀ (s : State) (o : Octets), s.pair.role = 3 →
    (3 ≤ s.pair.catchup →
      (s.time.tick + 64 ≤ s.tickOf (leAt o 0 8) →
        (∃ t, exec (.arm o) s = .next t ∧ t.trig = { s.trig with st := 1, armAt := s.tickOf (leAt o 0 8), gate := false } ∧
          t.pair.leadStart = some (s.tickOf (leAt o 0 8))) ∧
        (∃ t, exec (.disarm o) s = .next t ∧
          t.trig = { s.trig with disarming := true, disarmAt := s.tickOf (leAt o 0 8), st := if s.trig.st = 2 then 4 else s.trig.st })) ∧
      (s.tickOf (leAt o 0 8) < s.time.tick + 64 →
        ∀ c, (c = .arm o ∨ c = .disarm o) → ∃ t, exec c s = .next t ∧ t.trig = s.trig ∧ t.pair.run = 0 ∧ t.pair.eligible = false)) ∧
    (s.pair.catchup = 6 →
      ∃ t, exec (.trigSnap o) s = .next t ∧ t.pair.catchup = 7 ∧ t.pair.run = 0 ∧ t.trig.st = leAt o 12 1 ∧ t.trig.level = leAt o 13 1 ∧
        t.trig.word = leAt o 8 4 ∧ t.trig.armAt = s.tickOf (leAt o 14 8) ∧ t.trig.value = (List.range 8).map (fun j => leAt o (30 + 6 * j) 6) ∧
        t.trig.holds = leAt o 128 4 ∧ t.trig.summitBranch = leAt o 160 1 ∧
        t.z 0xF090 9 = min (s.z 0xF090 9 + 1) (2 ^ 32 - 1) ∧ .camp 0x13 [7] ∈ t.out) ∧
    (leAt o 0 1 < 4 →
      ∃ t, exec (.ckpt o) s = .next t ∧ t.stream (leAt o 0 1) = { s.stream (leAt o 0 1) with
        produced := leAt o 8 8, next := leAt o 16 8, frames := leAt o 24 8, lost := leAt o 32 8 }) ∧
    (leAt o 0 1 < 6 →
      (leAt o 1 1 ≠ 1 → (s.port (leAt o 0 1)).trained = false → (s.port (leAt o 0 1)).st ≠ 2 → s.b 0x7000 (leAt o 0 1 + 1) = true →
        ∃ t, exec (.train o) s = .next t ∧ Trains t (leAt o 0 1)) ∧
      (leAt o 1 1 = 1 → ((s.port (leAt o 0 1)).st = 5 ∨ (s.port (leAt o 0 1)).st = 6) →
        ∃ t, exec (.train o) s = .next t ∧ (t.port (leAt o 0 1)).st = 7) ∧
      (∃ t, exec (.portstat o) s = .next t ∧ mget t.pair.partnerPorts (leAt o 0 1) = some (leAt o 1 4))) ∧
    (∃ t, exec (.handover o) s = .next t ∧ t.pair.yieldAt = some (s.tickOf (leAt o 0 8)))

/-- What a Second does with the camp messages of its Lead. -/
def Obligations.TheSecondFollowsItsLead : Prop := Claims.SetsReachTheSecond ∧ Claims.TimeReachesTheSecond ∧ Claims.StateReachesTheSecond

/-! ### The Lead, failover and handover (Chapter 19) -/

/-- The Lead goes on with its commit when the Second has acknowledged the set in time, sends it again on a CRC mismatch, cancels the set of
a commit that has gone on without it, and gives a CATCHUP set its boundary; PROGRESS tells it the catch-up state of its Second, in DICT of
which it sends the CATCHUP set. -/
def Claims.TheLeadServesItsSecond : Prop :=
  ∀ (s : State) (o : Octets), s.pair.role = 2 →
    (leAt o 0 4 = s.pair.setNo → leAt o 4 1 = 0 →
      (s.commit.state = 2 → s.commit.atTime = false → s.late .mgt s.commit.mirrorAt s.mirrorLimit = false →
        ∃ t, exec (.setAck o) s = .next t ∧ t.commit.state = 3 ∧ t.commit.mirrored = true ∧ t.commit.fixTick = s.time.tick ∧
          t.commit.boundary = roundUp (s.time.tick + 1024) 1024 ∧ t.pair.absent = false ∧
          .camp 6 (leBytes 4 s.pair.setNo ++ leBytes 8 t.commit.boundary ++ leBytes 1 0) ∈ t.out) ∧
      (s.commit.state ≠ 2 → s.pair.setKind = 1 → s.commit.mirrored = false →
        ∃ t, exec (.setAck o) s = .next t ∧ t.pair.absent = false ∧ t.commit = s.commit ∧
          .camp 6 (leBytes 4 s.pair.setNo ++ leBytes 8 0 ++ leBytes 1 1) ∈ t.out) ∧
      (s.commit.state ≠ 2 → s.pair.setKind ≠ 1 →
        ∃ t, exec (.setAck o) s = .next t ∧ t.pair.absent = false ∧ t.commit = s.commit ∧
          .camp 6 (leBytes 4 s.pair.setNo ++
            leBytes 8 (if 5 ≤ s.pair.secondState then roundUp (s.time.tick + 1024) 1024 else 0) ++ leBytes 1 0) ∈ t.out)) ∧
    (leAt o 0 4 = s.pair.setNo → leAt o 4 1 ≠ 0 → (s.commit.state = 2 ∨ s.pair.setKind ≠ 1) →
      ∃ t, exec (.setAck o) s = .next t ∧ t.pair.setNo = s.pair.setNo + 1 ∧ t.commit = s.commit) ∧
    (∃ t, exec (.progress o) s = .next t ∧ t.pair.secondState = leAt o 0 1 ∧
      (leAt o 0 1 = 2 → t.pair.setNo = s.pair.setNo + 1 ∧ t.pair.mirrorFail = false) ∧
      (leAt o 0 1 ≠ 2 → t.pair.setNo = s.pair.setNo)) ∧
    (∀ (p : Nat), leAt o 0 1 = p → p < 6 → ∃ t, exec (.portstat o) s = .next t ∧ mget t.pair.partnerPorts p = some (leAt o 1 4))

/-- A Second that sees loss of signal on all lanes and loss of REF within 16 ticks, while it was eligible, takes over as the Lead: the
failover tick is recorded and PAIR cause FAILOVER is set; one that was not eligible resets. A Lead yields at the tick that its handover
request fixed, the next multiple of 1,024 at least 1,024 ticks ahead, by a failover reset. -/
def Claims.FailoverAndHandover : Prop :=
  ∀ s : State,
    (s.pair.role = 3 →
      (s.pair.losTick = none → ∃ t, exec .refLoss s = .next t ∧ t.pair.refLost = true ∧ t.pair.role = 3) ∧
      (∀ k, s.pair.losTick = some k → s.pair.los = 15 →
        (s.pair.losElig = true → s.time.tick ≤ k + 16 → s.time.tickRun = true → s.time.bridging = false →
          s.mgtFast = true →
          ∃ t, exec .refLoss s = .next t ∧ t.pair.role = 2 ∧ t.pair.absent = true ∧ t.pair.eligible = false ∧
            t.time.tick = s.time.tick + 1 ∧ t.z 0x8005 1 = s.time.tick + 1 ∧ bit (t.z 0x210F 0) 3 = true ∧
            t.z 0xF090 10 = min (s.z 0xF090 10 + 1) (2 ^ 32 - 1) ∧ t.acc.canPending = true ∧ (t.pll .rpll).refRope = false ∧
            t.boot.step = s.boot.step) ∧
        (s.pair.losElig = false ∨ k + 16 < s.time.tick →
          ∃ t, exec .refLoss s = .next t ∧ t.boot.step = 4 ∧ t.val 0x2010 0 = .num 2 ∧ t.commit = {} ∧ t.pair.eligible = false))) ∧
    (∀ who (v : BitVec 32), s.coh.done = [] → s.coh.devWait = [] → s.pair.role = 2 → Accepted s who 0x8003 0 v.toNat →
      ∃ t, exec (.handoverRequest who v) s = .next t ∧ t.pair.yieldAt = some (roundUp (s.time.tick + 1024) 1024) ∧
        t.z 0xF090 12 = min (s.z 0xF090 12 + 1) (2 ^ 32 - 1) ∧
        .camp 0x12 (leBytes 8 (roundUp (s.time.tick + 1024) 1024)) ∈ t.out) ∧
    (∀ x, s.pair.yieldAt = some x → s.pair.role = 2 →
      ∃ t, exec .handoverYield s = .next t ∧ t.boot.step = 4 ∧ t.val 0x2010 0 = .num 4 ∧ t.commit = {} ∧ t.coh = {} ∧ t.trig = {} ∧
        t.pair.eligible = false ∧ t.now = (s.elapseToTick x).now)

/-- What the Lead does with the messages of its Second, and how the roles change. -/
def Obligations.TheLeadAndFailover : Prop := Claims.TheLeadServesItsSecond ∧ Claims.FailoverAndHandover

/-! ### Sessions (Chapter 20) -/

/-- A session request draws a challenge of 24 octets of entropy, a free value, and the count of challenges; level 0 closes the requester's
session. The right response opens the session; a wrong one uses up the challenge, lengthens the back-off and sets SEC cause SESSFAIL. -/
def Claims.SessionsOpenAndClose : Prop :=
  ∀ s : State, Alone s →
    (∀ (w : Who) (v : BitVec 8), Accepted s w 0x1010 1 v.toNat →
      (v.toNat ≠ 0 →
        Completes (.sessionRequest w v) s [.free, .sec, .acc, .out] accessObjects fun t =>
          (t.path (pathNo w.path)).challenge = some ⟨s.requester w, v.toNat,
            leBytes 24 (Config.freeNat s.free) ++ leBytes 8 (s.sec.challenges + 1), s.now⟩ ∧
          t.sec = { s.sec with challenges := s.sec.challenges + 1 } ∧ t.free = s.free + 1) ∧
      (v.toNat = 0 → ∀ c, (c = .sessionRequest w v ∨ c = .sessionClose w v) →
        Completes c s [.acc, .out] accessObjects fun t =>
          (t.path (pathNo w.path)).session = none ∧ (t.path (pathNo w.path)).challenge = none)) ∧
    (∀ (w : Who) (o : Octets), Served s w → s.knownBad 0x1010 3 = false → ∀ c, (s.path (pathNo w.path)).challenge = some c →
      s.late .mgt c.since (s.n 0x1011 1 * 1000000) = false →
      let code := (s.serveWrite (pathNo w.path) (s.requester w) 0x1010 3 o none).1
      (code = 0 →
        Completes (.sessionResponse w o) s [.acc, .out] (accessObjects ++ [(0xF098, 1)]) fun t =>
          o = hmac (s.levelKey c.level) (authMessage c (pathNo w.path)) ∧ c.req = s.requester w ∧
          (t.path (pathNo w.path)).session = some ⟨s.requester w, c.level, s.now⟩ ∧ (t.path (pathNo w.path)).challenge = none ∧
          (t.path (pathNo w.path)).fails = 0 ∧ t.z 0xF098 1 = min (s.z 0xF098 1 + 1) (2 ^ 32 - 1)) ∧
      (code = 0x0201 →
        ∃ t, exec (.sessionResponse w o) s = .next t ∧ o ≠ hmac (s.levelKey c.level) (authMessage c (pathNo w.path)) ∧
          (t.path (pathNo w.path)).challenge = none ∧
          (t.path (pathNo w.path)).fails = min 255 ((s.path (pathNo w.path)).fails + 1) ∧
          (t.path (pathNo w.path)).failAt = s.now ∧ t.z 0x2110 0 = s.z 0x2110 0 ||| 4 ∧
          t.z 0xF098 2 = min (s.z 0xF098 2 + 1) (2 ^ 32 - 1)))

/-- A challenge that passes its limit is gone in the next MGT cycle; a session whose idle limit passes closes in the next and is counted; and a
back-off ends after its time. -/
def Claims.SessionTimersExpire : Prop :=
  ∀ (s : State) (p : Path),
    let x := s.path (pathNo p)
    (∀ c, x.challenge = some c →
      Completes (.challengeExpiry p) s [.now, .time, .acc] clockObjects fun t =>
        (t.path (pathNo p)).challenge = none ∧ (t.path (pathNo p)).session = x.session ∧
        t.now = max s.now (s.lateAt .mgt c.since (s.n 0x1011 1 * 1000000))) ∧
    (∀ y, x.session = some y →
      Completes (.sessionIdleExpiry p) s [.now, .time, .acc] (clockObjects ++ [(0xF098, 3)]) fun t =>
        (t.path (pathNo p)).session = none ∧ t.now = max s.now (s.lateAt .mgt y.last (s.n 0x1011 2 * 1000000000)) ∧
        t.z 0xF098 3 = min (s.z 0xF098 3 + 1) (2 ^ 32 - 1)) ∧
    (Completes (.backoffExpiry p) s [.now, .time] clockObjects fun t =>
      t.now = max s.now x.backoffEnd ∧ (t.path (pathNo p)).backoffEnd ≤ t.now)

/-- Sessions, their challenges and their timers. -/
def Obligations.SessionsAndTheirTimers : Prop := Claims.SessionsOpenAndClose ∧ Claims.SessionTimersExpire

/-- An accepted transition request starts to burn the fuses of its target; when they read back, the vault is to be wiped; when the wipe has
ended, the state is the target, every session is closed and SEC cause LCCHANGE is set, and SCRAPPED resets the device. -/
def Claims.LifeCycleMoves : Prop :=
  ∀ s : State,
    (∀ (w : Who) (v : BitVec 32) g, Alone s → Accepted s w 0x1001 2 v.toNat → s.transitionTarget v.toNat = some g →
      Completes (.transitionRequest w v) s [.sec, .acc, .out] accessObjects fun t => t.sec = { s.sec with trState := 1, trTarget := g }) ∧
    (s.sec.trState = 1 →
      (Completes (.fuseBurnDone true) s [.sec] [] fun t =>
        let r := if s.sec.wipePending = some 2 then 2 else 3
        t.sec = { s.sec with trState := 2, fuses := listSet s.sec.fuses (s.sec.trTarget - 1) 16, wipePending := some r,
                             wipeReason := if s.sec.vaultState = 1 then r else s.sec.wipeReason,
                             wipeAt := if s.sec.vaultState = 1 then s.now else s.sec.wipeAt }) ∧
      (Completes (.fuseBurnDone false) s [.sec, .free] [(0xF098, 8)] fun t =>
        t.sec.trState = 4 ∧ t.sec.lcs = s.sec.lcs ∧ t.free = s.free + 1 ∧
        (∀ i, i ≠ s.sec.trTarget - 1 → t.sec.fuses[i]? = s.sec.fuses[i]?) ∧
        t.z 0xF098 8 = min (s.z 0xF098 8 + 1) (2 ^ 32 - 1))) ∧
    (s.sec.wipePending.isSome = true → s.sec.vaultState = 1 → s.sec.trState = 2 → s.mgtUp = true →
      CompletesWithin .vaultWipeDone s [.now, .time, .sec, .acc, .boot, .latch] fun t =>
        t.sec.lcs = s.sec.trTarget ∧ t.sec.trState = 3 ∧ t.sec.vaultState = s.vaultAfter ∧ t.sec.wipePending = none ∧
        (∀ p, (p = 1 ∨ p = 2 ∨ p = 3 ∨ p = 4) → (t.path p).session = none ∧ (t.path p).challenge = none) ∧
        bit (t.z 0x2110 0) 3 = true ∧ bit (t.z 0x2110 0) 4 = true ∧ t.z 0xF098 6 = min (s.z 0xF098 6 + 1) (2 ^ 32 - 1) ∧
        t.boot.warmDue = (s.boot.warmDue || decide (s.sec.trTarget = 4)))

/-- An accepted integrator key is programmed into its fuses, and is in force once its VALID fuse reads back; a failure is counted. The
operator key and a sealed record are held in the vault. -/
def Claims.KeysAndRecordsAreHeld : Prop :=
  ∀ (s : State) (w : Who) (o : Octets),
    (Alone s → Served s w →
      ((s.serveWrite (pathNo w.path) (s.requester w) 0x9020 1 o none).1 = 0 → s.kiSame (leNat o) = false →
        Completes (.integratorKeyWrite w o) s [.sec, .acc, .out] accessObjects fun t =>
          t.sec = { s.sec with kiState := 1, kiNew := leNat o }) ∧
      ((s.serveWrite (pathNo w.path) (s.requester w) 0x9020 1 o none).1 = 0 → s.kiSame (leNat o) = true →
        Completes (.integratorKeyWrite w o) s [.acc, .out] (accessObjects ++ [(0xF000, 8)]) fun t =>
          t.z 0xF000 8 = min (s.z 0xF000 8 + 1) (2 ^ 32 - 1)) ∧
      ((s.serveWrite (pathNo w.path) (s.requester w) 0x9021 1 o none).1 = 0 →
        Completes (.operatorKeyWrite w o) s [.sec, .acc, .out] accessObjects fun t => t.sec.k1 = some o ∧ t.sec.records = s.sec.records) ∧
      (∀ n : BitVec 8, (s.serveWrite (pathNo w.path) (s.requester w) 0x9030 n.toNat o none).1 = 0 →
        Completes (.sealedRecordWrite w n o) s [.sec, .acc, .out] (accessObjects ++ [(0xF098, 5)]) fun t =>
          t.z 0xF098 5 = min (s.z 0xF098 5 + 1) (2 ^ 32 - 1) ∧ mget t.sec.records n.toNat = some o ∧ (∀ k, k ≠ n.toNat → mget t.sec.records k = mget s.sec.records k) ∧
          t.sec.k1 = s.sec.k1)) ∧
    (s.sec.kiState = 1 →
      (Completes (.fuseProgrammingDone true) s [.sec, .written] [(0x8000, 1)] fun t =>
        t.sec = { s.sec with ki := s.sec.kiNew, kiValid := true, kiState := 2 }) ∧
      (Completes (.fuseProgrammingDone false) s [.sec, .written] [(0xF098, 8)] fun t =>
        t.sec = { s.sec with ki := s.sec.ki ||| s.sec.kiNew, kiState := 3 } ∧
        t.z 0xF098 8 = min (s.z 0xF098 8 + 1) (2 ^ 32 - 1))) ∧
    (∀ v, s.sec.kiState ≠ 1 → s.sec.pairProg = some v →
      (Completes (.fuseProgrammingDone true) s [.sec, .written] [(0x8000, 1)] fun t =>
        t.sec = { s.sec with pairId := v, pairValid := true, pairProg := none } ∧ t.z 0x8000 1 = v) ∧
      (∃ t, exec (.fuseProgrammingDone false) s = .next t ∧ t.sec = { s.sec with pairId := s.sec.pairId ||| v, pairProg := none } ∧
        t.z 0xF098 8 = min (s.z 0xF098 8 + 1) (2 ^ 32 - 1) ∧
        (s.pair.role ≠ 3 → t.pair = s.pair) ∧ (s.pair.role = 3 → t.pair.role = 4 ∧ (s.mgtFast = true → bit (t.z 0x210F 0) 5 = true))))

/-- The life cycle, the keys and the sealed records. -/
def Obligations.LifeCycleKeysAndRecords : Prop := Claims.LifeCycleMoves ∧ Claims.KeysAndRecordsAreHeld

/-- What the inputs in a mask, asserted anew, leave in the records of the AON domain (R799, R800): nothing where none is enabled; otherwise
one event is counted and logged with its time in AON, and a response other than none makes a wipe pending; without one, what stays pending is
`pending`. -/
def Claims.TamperRecorded (m : Nat) (low : Bool) (pending : Option Nat) (s t : State) : Prop :=
  let e := m &&& bits s.tamperCopy 0 2
  let r := max (if bit e 0 then tamperResp s.tamperCopy 0 else 0) (if bit e 1 then tamperResp s.tamperCopy 1 else 0)
  (e = 0 → t.sec.tamperCount = s.sec.tamperCount ∧ t.sec.tamperLog = s.sec.tamperLog ∧ t.sec.wipePending = pending) ∧
  (e ≠ 0 →
    t.sec.tamperCount = min (2 ^ 32 - 1) (s.sec.tamperCount + 1) ∧
    t.sec.tamperLog = (((e + b2n low * 4) * 2 ^ 60 + s.sec.lcs * 2 ^ 56 + r * 2 ^ 52 + s.aonMs) :: s.sec.tamperLog).take 8 ∧
    t.sec.wipePending = (if r = 0 then pending else some 2))

/-- Tamper events of the inputs: those asserted anew in an AON cycle that holds no event yet are recorded, counted and reported as causes of
SEC, and the gravest response of the inputs follows; one in the cycle of an event joins it. A loss of VDDIO with VAON present asserts both
inputs, which are recorded so, and begins a POR. The release of the inputs, and the health of the entropy source. -/
def Obligations.TamperAndEntropyAreWatched : Prop :=
  ∀ s : State,
    (∀ t0 t1 : Bool, CompletesWithin (.tamperEvent t0 t1) s [.sec, .acc, .boot, .latch] fun t =>
      let m := b2n (t0 && !s.sec.tamper0) + 2 * b2n (t1 && !s.sec.tamper1)
      let e := m &&& bits s.tamperCopy 0 2
      let r := max (if bit e 0 then tamperResp s.tamperCopy 0 else 0) (if bit e 1 then tamperResp s.tamperCopy 1 else 0)
      t.sec.tamper0 = (s.sec.tamper0 || t0) ∧ t.sec.tamper1 = (s.sec.tamper1 || t1) ∧
      (s.tamperJoins = true → t.sec.tamperCount = s.sec.tamperCount ∧ t.sec.tamperLog.tail = s.sec.tamperLog.tail) ∧
      (s.tamperJoins = false → Claims.TamperRecorded m false s.sec.wipePending s t ∧
        (e ≠ 0 → t.z 0xF098 4 = min (s.z 0xF098 4 + 1) (2 ^ 32 - 1) ∧
          t.boot.warmDue = (s.boot.warmDue || decide (r = 2)) ∧
          (s.mgtUp = true → (bit e 0 = true → bit (t.z 0x2110 0) 0 = true) ∧ (bit e 1 = true → bit (t.z 0x2110 0) 1 = true) ∧
            (r = 1 → ∀ p, (p = 1 ∨ p = 2 ∨ p = 3 ∨ p = 4) → (t.path p).session = none))))) ∧
    (∃ t, exec .vddioLoss s = .next t ∧ Cleared 0 s t ∧ t.power.por = true ∧ t.power.vddioUp = false ∧
      (s.power.vddioUp = true → s.power.vaonUp = true → s.power.vddioLow = false → s.tamperJoins = false →
        t.power.vddioLow = true ∧ t.sec.tamper0 = true ∧ t.sec.tamper1 = true ∧
        Claims.TamperRecorded (b2n (!s.sec.tamper0) + 2 * b2n (!s.sec.tamper1)) true none s t)) ∧
    (∀ t0 t1 : Bool, Completes (.tamperRelease t0 t1) s [.sec] [] fun t =>
      t.sec = if s.power.vddioLow then s.sec
        else { s.sec with tamper0 := s.sec.tamper0 && !t0, tamper1 := s.sec.tamper1 && !t1 }) ∧
    (s.up = true →
      (Completes .entropyHealthFailure s [.sec] [(0xF098, 9)] fun t =>
        t.sec = { s.sec with entropyOk := false } ∧ t.z 0xF098 9 = min (s.z 0xF098 9 + 1) (2 ^ 32 - 1)) ∧
      (Completes .entropyHealthPass s [.sec] [] fun t => t.sec = { s.sec with entropyOk := true }))
end

