-- ==== Sys2Proof/Laws/State.lean ====
section
/-! SUPPORT. Sys2Proof/Laws/State.lean: what each update of the state leaves alone, one lemma for each update and each field, so
that no proof unfolds a record update. -/
set_option Elab.async false
namespace Sys2Proof.Machine

/-! ### putVal -/

@[simp] theorem State.putVal_pending (s : State) (idx sub : Nat) (v : Val) : (s.putVal idx sub v).pending = s.pending := rfl
@[simp] theorem State.putVal_out (s : State) (idx sub : Nat) (v : Val) : (s.putVal idx sub v).out = s.out := rfl
@[simp] theorem State.putVal_free (s : State) (idx sub : Nat) (v : Val) : (s.putVal idx sub v).free = s.free := rfl
@[simp] theorem State.putVal_now (s : State) (idx sub : Nat) (v : Val) : (s.putVal idx sub v).now = s.now := rfl
@[simp] theorem State.putVal_staged (s : State) (idx sub : Nat) (v : Val) : (s.putVal idx sub v).staged = s.staged := rfl
@[simp] theorem State.putVal_badWords (s : State) (idx sub : Nat) (v : Val) : (s.putVal idx sub v).badWords = s.badWords := rfl
@[simp] theorem State.putVal_written (s : State) (idx sub : Nat) (v : Val) : (s.putVal idx sub v).written = s.written := rfl
@[simp] theorem State.putVal_locked (s : State) (idx sub : Nat) (v : Val) : (s.putVal idx sub v).locked = s.locked := rfl
@[simp] theorem State.putVal_power (s : State) (idx sub : Nat) (v : Val) : (s.putVal idx sub v).power = s.power := rfl
@[simp] theorem State.putVal_clk (s : State) (idx sub : Nat) (v : Val) : (s.putVal idx sub v).clk = s.clk := rfl
@[simp] theorem State.putVal_boot (s : State) (idx sub : Nat) (v : Val) : (s.putVal idx sub v).boot = s.boot := rfl
@[simp] theorem State.putVal_commit (s : State) (idx sub : Nat) (v : Val) : (s.putVal idx sub v).commit = s.commit := rfl
@[simp] theorem State.putVal_acc (s : State) (idx sub : Nat) (v : Val) : (s.putVal idx sub v).acc = s.acc := rfl
@[simp] theorem State.putVal_alerts (s : State) (idx sub : Nat) (v : Val) : (s.putVal idx sub v).alerts = s.alerts := rfl
@[simp] theorem State.putVal_sec (s : State) (idx sub : Nat) (v : Val) : (s.putVal idx sub v).sec = s.sec := rfl
@[simp] theorem State.putVal_ports (s : State) (idx sub : Nat) (v : Val) : (s.putVal idx sub v).ports = s.ports := rfl
@[simp] theorem State.putVal_coh (s : State) (idx sub : Nat) (v : Val) : (s.putVal idx sub v).coh = s.coh := rfl
@[simp] theorem State.putVal_time (s : State) (idx sub : Nat) (v : Val) : (s.putVal idx sub v).time = s.time := rfl
@[simp] theorem State.putVal_belay (s : State) (idx sub : Nat) (v : Val) : (s.putVal idx sub v).belay = s.belay := rfl
@[simp] theorem State.putVal_probe (s : State) (idx sub : Nat) (v : Val) : (s.putVal idx sub v).probe = s.probe := rfl
@[simp] theorem State.putVal_sig (s : State) (idx sub : Nat) (v : Val) : (s.putVal idx sub v).sig = s.sig := rfl
@[simp] theorem State.putVal_trig (s : State) (idx sub : Nat) (v : Val) : (s.putVal idx sub v).trig = s.trig := rfl
@[simp] theorem State.putVal_pair (s : State) (idx sub : Nat) (v : Val) : (s.putVal idx sub v).pair = s.pair := rfl
@[simp] theorem State.putVal_mem (s : State) (idx sub : Nat) (v : Val) : (s.putVal idx sub v).mem = s.mem := rfl
@[simp] theorem State.putVal_sto (s : State) (idx sub : Nat) (v : Val) : (s.putVal idx sub v).sto = s.sto := rfl
@[simp] theorem State.putVal_comp (s : State) (idx sub : Nat) (v : Val) : (s.putVal idx sub v).comp = s.comp := rfl

/-! ### put -/

@[simp] theorem State.put_pending (s : State) (idx sub n : Nat) : (s.put idx sub n).pending = s.pending := rfl
@[simp] theorem State.put_out (s : State) (idx sub n : Nat) : (s.put idx sub n).out = s.out := rfl
@[simp] theorem State.put_free (s : State) (idx sub n : Nat) : (s.put idx sub n).free = s.free := rfl
@[simp] theorem State.put_now (s : State) (idx sub n : Nat) : (s.put idx sub n).now = s.now := rfl
@[simp] theorem State.put_staged (s : State) (idx sub n : Nat) : (s.put idx sub n).staged = s.staged := rfl
@[simp] theorem State.put_badWords (s : State) (idx sub n : Nat) : (s.put idx sub n).badWords = s.badWords := rfl
@[simp] theorem State.put_written (s : State) (idx sub n : Nat) : (s.put idx sub n).written = s.written := rfl
@[simp] theorem State.put_locked (s : State) (idx sub n : Nat) : (s.put idx sub n).locked = s.locked := rfl
@[simp] theorem State.put_power (s : State) (idx sub n : Nat) : (s.put idx sub n).power = s.power := rfl
@[simp] theorem State.put_clk (s : State) (idx sub n : Nat) : (s.put idx sub n).clk = s.clk := rfl
@[simp] theorem State.put_boot (s : State) (idx sub n : Nat) : (s.put idx sub n).boot = s.boot := rfl
@[simp] theorem State.put_commit (s : State) (idx sub n : Nat) : (s.put idx sub n).commit = s.commit := rfl
@[simp] theorem State.put_acc (s : State) (idx sub n : Nat) : (s.put idx sub n).acc = s.acc := rfl
@[simp] theorem State.put_alerts (s : State) (idx sub n : Nat) : (s.put idx sub n).alerts = s.alerts := rfl
@[simp] theorem State.put_sec (s : State) (idx sub n : Nat) : (s.put idx sub n).sec = s.sec := rfl
@[simp] theorem State.put_ports (s : State) (idx sub n : Nat) : (s.put idx sub n).ports = s.ports := rfl
@[simp] theorem State.put_coh (s : State) (idx sub n : Nat) : (s.put idx sub n).coh = s.coh := rfl
@[simp] theorem State.put_time (s : State) (idx sub n : Nat) : (s.put idx sub n).time = s.time := rfl
@[simp] theorem State.put_belay (s : State) (idx sub n : Nat) : (s.put idx sub n).belay = s.belay := rfl
@[simp] theorem State.put_probe (s : State) (idx sub n : Nat) : (s.put idx sub n).probe = s.probe := rfl
@[simp] theorem State.put_sig (s : State) (idx sub n : Nat) : (s.put idx sub n).sig = s.sig := rfl
@[simp] theorem State.put_trig (s : State) (idx sub n : Nat) : (s.put idx sub n).trig = s.trig := rfl
@[simp] theorem State.put_pair (s : State) (idx sub n : Nat) : (s.put idx sub n).pair = s.pair := rfl
@[simp] theorem State.put_mem (s : State) (idx sub n : Nat) : (s.put idx sub n).mem = s.mem := rfl
@[simp] theorem State.put_sto (s : State) (idx sub n : Nat) : (s.put idx sub n).sto = s.sto := rfl
@[simp] theorem State.put_comp (s : State) (idx sub n : Nat) : (s.put idx sub n).comp = s.comp := rfl

/-! ### bumpW -/

@[simp] theorem State.bumpW_pending (s : State) (idx sub w d : Nat) : (s.bumpW idx sub w d).pending = s.pending := rfl
@[simp] theorem State.bumpW_out (s : State) (idx sub w d : Nat) : (s.bumpW idx sub w d).out = s.out := rfl
@[simp] theorem State.bumpW_free (s : State) (idx sub w d : Nat) : (s.bumpW idx sub w d).free = s.free := rfl
@[simp] theorem State.bumpW_now (s : State) (idx sub w d : Nat) : (s.bumpW idx sub w d).now = s.now := rfl
@[simp] theorem State.bumpW_staged (s : State) (idx sub w d : Nat) : (s.bumpW idx sub w d).staged = s.staged := rfl
@[simp] theorem State.bumpW_badWords (s : State) (idx sub w d : Nat) : (s.bumpW idx sub w d).badWords = s.badWords := rfl
@[simp] theorem State.bumpW_written (s : State) (idx sub w d : Nat) : (s.bumpW idx sub w d).written = s.written := rfl
@[simp] theorem State.bumpW_locked (s : State) (idx sub w d : Nat) : (s.bumpW idx sub w d).locked = s.locked := rfl
@[simp] theorem State.bumpW_power (s : State) (idx sub w d : Nat) : (s.bumpW idx sub w d).power = s.power := rfl
@[simp] theorem State.bumpW_clk (s : State) (idx sub w d : Nat) : (s.bumpW idx sub w d).clk = s.clk := rfl
@[simp] theorem State.bumpW_boot (s : State) (idx sub w d : Nat) : (s.bumpW idx sub w d).boot = s.boot := rfl
@[simp] theorem State.bumpW_commit (s : State) (idx sub w d : Nat) : (s.bumpW idx sub w d).commit = s.commit := rfl
@[simp] theorem State.bumpW_acc (s : State) (idx sub w d : Nat) : (s.bumpW idx sub w d).acc = s.acc := rfl
@[simp] theorem State.bumpW_alerts (s : State) (idx sub w d : Nat) : (s.bumpW idx sub w d).alerts = s.alerts := rfl
@[simp] theorem State.bumpW_sec (s : State) (idx sub w d : Nat) : (s.bumpW idx sub w d).sec = s.sec := rfl
@[simp] theorem State.bumpW_ports (s : State) (idx sub w d : Nat) : (s.bumpW idx sub w d).ports = s.ports := rfl
@[simp] theorem State.bumpW_coh (s : State) (idx sub w d : Nat) : (s.bumpW idx sub w d).coh = s.coh := rfl
@[simp] theorem State.bumpW_time (s : State) (idx sub w d : Nat) : (s.bumpW idx sub w d).time = s.time := rfl
@[simp] theorem State.bumpW_belay (s : State) (idx sub w d : Nat) : (s.bumpW idx sub w d).belay = s.belay := rfl
@[simp] theorem State.bumpW_probe (s : State) (idx sub w d : Nat) : (s.bumpW idx sub w d).probe = s.probe := rfl
@[simp] theorem State.bumpW_sig (s : State) (idx sub w d : Nat) : (s.bumpW idx sub w d).sig = s.sig := rfl
@[simp] theorem State.bumpW_trig (s : State) (idx sub w d : Nat) : (s.bumpW idx sub w d).trig = s.trig := rfl
@[simp] theorem State.bumpW_pair (s : State) (idx sub w d : Nat) : (s.bumpW idx sub w d).pair = s.pair := rfl
@[simp] theorem State.bumpW_mem (s : State) (idx sub w d : Nat) : (s.bumpW idx sub w d).mem = s.mem := rfl
@[simp] theorem State.bumpW_sto (s : State) (idx sub w d : Nat) : (s.bumpW idx sub w d).sto = s.sto := rfl
@[simp] theorem State.bumpW_comp (s : State) (idx sub w d : Nat) : (s.bumpW idx sub w d).comp = s.comp := rfl

/-! ### bump -/

@[simp] theorem State.bump_pending (s : State) (idx sub d : Nat) : (s.bump idx sub d).pending = s.pending := rfl
@[simp] theorem State.bump_out (s : State) (idx sub d : Nat) : (s.bump idx sub d).out = s.out := rfl
@[simp] theorem State.bump_free (s : State) (idx sub d : Nat) : (s.bump idx sub d).free = s.free := rfl
@[simp] theorem State.bump_now (s : State) (idx sub d : Nat) : (s.bump idx sub d).now = s.now := rfl
@[simp] theorem State.bump_staged (s : State) (idx sub d : Nat) : (s.bump idx sub d).staged = s.staged := rfl
@[simp] theorem State.bump_badWords (s : State) (idx sub d : Nat) : (s.bump idx sub d).badWords = s.badWords := rfl
@[simp] theorem State.bump_written (s : State) (idx sub d : Nat) : (s.bump idx sub d).written = s.written := rfl
@[simp] theorem State.bump_locked (s : State) (idx sub d : Nat) : (s.bump idx sub d).locked = s.locked := rfl
@[simp] theorem State.bump_power (s : State) (idx sub d : Nat) : (s.bump idx sub d).power = s.power := rfl
@[simp] theorem State.bump_clk (s : State) (idx sub d : Nat) : (s.bump idx sub d).clk = s.clk := rfl
@[simp] theorem State.bump_boot (s : State) (idx sub d : Nat) : (s.bump idx sub d).boot = s.boot := rfl
@[simp] theorem State.bump_commit (s : State) (idx sub d : Nat) : (s.bump idx sub d).commit = s.commit := rfl
@[simp] theorem State.bump_acc (s : State) (idx sub d : Nat) : (s.bump idx sub d).acc = s.acc := rfl
@[simp] theorem State.bump_alerts (s : State) (idx sub d : Nat) : (s.bump idx sub d).alerts = s.alerts := rfl
@[simp] theorem State.bump_sec (s : State) (idx sub d : Nat) : (s.bump idx sub d).sec = s.sec := rfl
@[simp] theorem State.bump_ports (s : State) (idx sub d : Nat) : (s.bump idx sub d).ports = s.ports := rfl
@[simp] theorem State.bump_coh (s : State) (idx sub d : Nat) : (s.bump idx sub d).coh = s.coh := rfl
@[simp] theorem State.bump_time (s : State) (idx sub d : Nat) : (s.bump idx sub d).time = s.time := rfl
@[simp] theorem State.bump_belay (s : State) (idx sub d : Nat) : (s.bump idx sub d).belay = s.belay := rfl
@[simp] theorem State.bump_probe (s : State) (idx sub d : Nat) : (s.bump idx sub d).probe = s.probe := rfl
@[simp] theorem State.bump_sig (s : State) (idx sub d : Nat) : (s.bump idx sub d).sig = s.sig := rfl
@[simp] theorem State.bump_trig (s : State) (idx sub d : Nat) : (s.bump idx sub d).trig = s.trig := rfl
@[simp] theorem State.bump_pair (s : State) (idx sub d : Nat) : (s.bump idx sub d).pair = s.pair := rfl
@[simp] theorem State.bump_mem (s : State) (idx sub d : Nat) : (s.bump idx sub d).mem = s.mem := rfl
@[simp] theorem State.bump_sto (s : State) (idx sub d : Nat) : (s.bump idx sub d).sto = s.sto := rfl
@[simp] theorem State.bump_comp (s : State) (idx sub d : Nat) : (s.bump idx sub d).comp = s.comp := rfl

/-! ### emit -/

@[simp] theorem State.emit_pending (s : State) (o : Output) : (s.emit o).pending = s.pending := rfl
@[simp] theorem State.emit_free (s : State) (o : Output) : (s.emit o).free = s.free := rfl
@[simp] theorem State.emit_now (s : State) (o : Output) : (s.emit o).now = s.now := rfl
@[simp] theorem State.emit_obj (s : State) (o : Output) : (s.emit o).obj = s.obj := rfl
@[simp] theorem State.emit_staged (s : State) (o : Output) : (s.emit o).staged = s.staged := rfl
@[simp] theorem State.emit_badWords (s : State) (o : Output) : (s.emit o).badWords = s.badWords := rfl
@[simp] theorem State.emit_written (s : State) (o : Output) : (s.emit o).written = s.written := rfl
@[simp] theorem State.emit_locked (s : State) (o : Output) : (s.emit o).locked = s.locked := rfl
@[simp] theorem State.emit_power (s : State) (o : Output) : (s.emit o).power = s.power := rfl
@[simp] theorem State.emit_clk (s : State) (o : Output) : (s.emit o).clk = s.clk := rfl
@[simp] theorem State.emit_boot (s : State) (o : Output) : (s.emit o).boot = s.boot := rfl
@[simp] theorem State.emit_commit (s : State) (o : Output) : (s.emit o).commit = s.commit := rfl
@[simp] theorem State.emit_acc (s : State) (o : Output) : (s.emit o).acc = s.acc := rfl
@[simp] theorem State.emit_alerts (s : State) (o : Output) : (s.emit o).alerts = s.alerts := rfl
@[simp] theorem State.emit_sec (s : State) (o : Output) : (s.emit o).sec = s.sec := rfl
@[simp] theorem State.emit_ports (s : State) (o : Output) : (s.emit o).ports = s.ports := rfl
@[simp] theorem State.emit_coh (s : State) (o : Output) : (s.emit o).coh = s.coh := rfl
@[simp] theorem State.emit_time (s : State) (o : Output) : (s.emit o).time = s.time := rfl
@[simp] theorem State.emit_belay (s : State) (o : Output) : (s.emit o).belay = s.belay := rfl
@[simp] theorem State.emit_probe (s : State) (o : Output) : (s.emit o).probe = s.probe := rfl
@[simp] theorem State.emit_sig (s : State) (o : Output) : (s.emit o).sig = s.sig := rfl
@[simp] theorem State.emit_trig (s : State) (o : Output) : (s.emit o).trig = s.trig := rfl
@[simp] theorem State.emit_pair (s : State) (o : Output) : (s.emit o).pair = s.pair := rfl
@[simp] theorem State.emit_mem (s : State) (o : Output) : (s.emit o).mem = s.mem := rfl
@[simp] theorem State.emit_sto (s : State) (o : Output) : (s.emit o).sto = s.sto := rfl
@[simp] theorem State.emit_comp (s : State) (o : Output) : (s.emit o).comp = s.comp := rfl

/-! ### drawn -/

@[simp] theorem State.drawn_pending (s : State) : (s.drawn).pending = s.pending := rfl
@[simp] theorem State.drawn_out (s : State) : (s.drawn).out = s.out := rfl
@[simp] theorem State.drawn_now (s : State) : (s.drawn).now = s.now := rfl
@[simp] theorem State.drawn_obj (s : State) : (s.drawn).obj = s.obj := rfl
@[simp] theorem State.drawn_staged (s : State) : (s.drawn).staged = s.staged := rfl
@[simp] theorem State.drawn_badWords (s : State) : (s.drawn).badWords = s.badWords := rfl
@[simp] theorem State.drawn_written (s : State) : (s.drawn).written = s.written := rfl
@[simp] theorem State.drawn_locked (s : State) : (s.drawn).locked = s.locked := rfl
@[simp] theorem State.drawn_power (s : State) : (s.drawn).power = s.power := rfl
@[simp] theorem State.drawn_clk (s : State) : (s.drawn).clk = s.clk := rfl
@[simp] theorem State.drawn_boot (s : State) : (s.drawn).boot = s.boot := rfl
@[simp] theorem State.drawn_commit (s : State) : (s.drawn).commit = s.commit := rfl
@[simp] theorem State.drawn_acc (s : State) : (s.drawn).acc = s.acc := rfl
@[simp] theorem State.drawn_alerts (s : State) : (s.drawn).alerts = s.alerts := rfl
@[simp] theorem State.drawn_sec (s : State) : (s.drawn).sec = s.sec := rfl
@[simp] theorem State.drawn_ports (s : State) : (s.drawn).ports = s.ports := rfl
@[simp] theorem State.drawn_coh (s : State) : (s.drawn).coh = s.coh := rfl
@[simp] theorem State.drawn_time (s : State) : (s.drawn).time = s.time := rfl
@[simp] theorem State.drawn_belay (s : State) : (s.drawn).belay = s.belay := rfl
@[simp] theorem State.drawn_probe (s : State) : (s.drawn).probe = s.probe := rfl
@[simp] theorem State.drawn_sig (s : State) : (s.drawn).sig = s.sig := rfl
@[simp] theorem State.drawn_trig (s : State) : (s.drawn).trig = s.trig := rfl
@[simp] theorem State.drawn_pair (s : State) : (s.drawn).pair = s.pair := rfl
@[simp] theorem State.drawn_mem (s : State) : (s.drawn).mem = s.mem := rfl
@[simp] theorem State.drawn_sto (s : State) : (s.drawn).sto = s.sto := rfl
@[simp] theorem State.drawn_comp (s : State) : (s.drawn).comp = s.comp := rfl

/-! ### setDom -/

@[simp] theorem State.setDom_pending (s : State) (d : Domain) (x : DomainSt) : (s.setDom d x).pending = s.pending := rfl
@[simp] theorem State.setDom_out (s : State) (d : Domain) (x : DomainSt) : (s.setDom d x).out = s.out := rfl
@[simp] theorem State.setDom_free (s : State) (d : Domain) (x : DomainSt) : (s.setDom d x).free = s.free := rfl
@[simp] theorem State.setDom_now (s : State) (d : Domain) (x : DomainSt) : (s.setDom d x).now = s.now := rfl
@[simp] theorem State.setDom_obj (s : State) (d : Domain) (x : DomainSt) : (s.setDom d x).obj = s.obj := rfl
@[simp] theorem State.setDom_staged (s : State) (d : Domain) (x : DomainSt) : (s.setDom d x).staged = s.staged := rfl
@[simp] theorem State.setDom_badWords (s : State) (d : Domain) (x : DomainSt) : (s.setDom d x).badWords = s.badWords := rfl
@[simp] theorem State.setDom_written (s : State) (d : Domain) (x : DomainSt) : (s.setDom d x).written = s.written := rfl
@[simp] theorem State.setDom_locked (s : State) (d : Domain) (x : DomainSt) : (s.setDom d x).locked = s.locked := rfl
@[simp] theorem State.setDom_power (s : State) (d : Domain) (x : DomainSt) : (s.setDom d x).power = s.power := rfl
@[simp] theorem State.setDom_boot (s : State) (d : Domain) (x : DomainSt) : (s.setDom d x).boot = s.boot := rfl
@[simp] theorem State.setDom_commit (s : State) (d : Domain) (x : DomainSt) : (s.setDom d x).commit = s.commit := rfl
@[simp] theorem State.setDom_acc (s : State) (d : Domain) (x : DomainSt) : (s.setDom d x).acc = s.acc := rfl
@[simp] theorem State.setDom_alerts (s : State) (d : Domain) (x : DomainSt) : (s.setDom d x).alerts = s.alerts := rfl
@[simp] theorem State.setDom_sec (s : State) (d : Domain) (x : DomainSt) : (s.setDom d x).sec = s.sec := rfl
@[simp] theorem State.setDom_ports (s : State) (d : Domain) (x : DomainSt) : (s.setDom d x).ports = s.ports := rfl
@[simp] theorem State.setDom_coh (s : State) (d : Domain) (x : DomainSt) : (s.setDom d x).coh = s.coh := rfl
@[simp] theorem State.setDom_time (s : State) (d : Domain) (x : DomainSt) : (s.setDom d x).time = s.time := rfl
@[simp] theorem State.setDom_belay (s : State) (d : Domain) (x : DomainSt) : (s.setDom d x).belay = s.belay := rfl
@[simp] theorem State.setDom_probe (s : State) (d : Domain) (x : DomainSt) : (s.setDom d x).probe = s.probe := rfl
@[simp] theorem State.setDom_sig (s : State) (d : Domain) (x : DomainSt) : (s.setDom d x).sig = s.sig := rfl
@[simp] theorem State.setDom_trig (s : State) (d : Domain) (x : DomainSt) : (s.setDom d x).trig = s.trig := rfl
@[simp] theorem State.setDom_pair (s : State) (d : Domain) (x : DomainSt) : (s.setDom d x).pair = s.pair := rfl
@[simp] theorem State.setDom_mem (s : State) (d : Domain) (x : DomainSt) : (s.setDom d x).mem = s.mem := rfl
@[simp] theorem State.setDom_sto (s : State) (d : Domain) (x : DomainSt) : (s.setDom d x).sto = s.sto := rfl
@[simp] theorem State.setDom_comp (s : State) (d : Domain) (x : DomainSt) : (s.setDom d x).comp = s.comp := rfl

/-! ### setPll -/

@[simp] theorem State.setPll_pending (s : State) (p : Pll) (x : PllSt) : (s.setPll p x).pending = s.pending := rfl
@[simp] theorem State.setPll_out (s : State) (p : Pll) (x : PllSt) : (s.setPll p x).out = s.out := rfl
@[simp] theorem State.setPll_free (s : State) (p : Pll) (x : PllSt) : (s.setPll p x).free = s.free := rfl
@[simp] theorem State.setPll_now (s : State) (p : Pll) (x : PllSt) : (s.setPll p x).now = s.now := rfl
@[simp] theorem State.setPll_obj (s : State) (p : Pll) (x : PllSt) : (s.setPll p x).obj = s.obj := rfl
@[simp] theorem State.setPll_staged (s : State) (p : Pll) (x : PllSt) : (s.setPll p x).staged = s.staged := rfl
@[simp] theorem State.setPll_badWords (s : State) (p : Pll) (x : PllSt) : (s.setPll p x).badWords = s.badWords := rfl
@[simp] theorem State.setPll_written (s : State) (p : Pll) (x : PllSt) : (s.setPll p x).written = s.written := rfl
@[simp] theorem State.setPll_locked (s : State) (p : Pll) (x : PllSt) : (s.setPll p x).locked = s.locked := rfl
@[simp] theorem State.setPll_power (s : State) (p : Pll) (x : PllSt) : (s.setPll p x).power = s.power := rfl
@[simp] theorem State.setPll_boot (s : State) (p : Pll) (x : PllSt) : (s.setPll p x).boot = s.boot := rfl
@[simp] theorem State.setPll_commit (s : State) (p : Pll) (x : PllSt) : (s.setPll p x).commit = s.commit := rfl
@[simp] theorem State.setPll_acc (s : State) (p : Pll) (x : PllSt) : (s.setPll p x).acc = s.acc := rfl
@[simp] theorem State.setPll_alerts (s : State) (p : Pll) (x : PllSt) : (s.setPll p x).alerts = s.alerts := rfl
@[simp] theorem State.setPll_sec (s : State) (p : Pll) (x : PllSt) : (s.setPll p x).sec = s.sec := rfl
@[simp] theorem State.setPll_ports (s : State) (p : Pll) (x : PllSt) : (s.setPll p x).ports = s.ports := rfl
@[simp] theorem State.setPll_coh (s : State) (p : Pll) (x : PllSt) : (s.setPll p x).coh = s.coh := rfl
@[simp] theorem State.setPll_time (s : State) (p : Pll) (x : PllSt) : (s.setPll p x).time = s.time := rfl
@[simp] theorem State.setPll_belay (s : State) (p : Pll) (x : PllSt) : (s.setPll p x).belay = s.belay := rfl
@[simp] theorem State.setPll_probe (s : State) (p : Pll) (x : PllSt) : (s.setPll p x).probe = s.probe := rfl
@[simp] theorem State.setPll_sig (s : State) (p : Pll) (x : PllSt) : (s.setPll p x).sig = s.sig := rfl
@[simp] theorem State.setPll_trig (s : State) (p : Pll) (x : PllSt) : (s.setPll p x).trig = s.trig := rfl
@[simp] theorem State.setPll_pair (s : State) (p : Pll) (x : PllSt) : (s.setPll p x).pair = s.pair := rfl
@[simp] theorem State.setPll_mem (s : State) (p : Pll) (x : PllSt) : (s.setPll p x).mem = s.mem := rfl
@[simp] theorem State.setPll_sto (s : State) (p : Pll) (x : PllSt) : (s.setPll p x).sto = s.sto := rfl
@[simp] theorem State.setPll_comp (s : State) (p : Pll) (x : PllSt) : (s.setPll p x).comp = s.comp := rfl

/-! ### setPath -/

@[simp] theorem State.setPath_pending (s : State) (p : Nat) (x : PathSt) : (s.setPath p x).pending = s.pending := rfl
@[simp] theorem State.setPath_out (s : State) (p : Nat) (x : PathSt) : (s.setPath p x).out = s.out := rfl
@[simp] theorem State.setPath_free (s : State) (p : Nat) (x : PathSt) : (s.setPath p x).free = s.free := rfl
@[simp] theorem State.setPath_now (s : State) (p : Nat) (x : PathSt) : (s.setPath p x).now = s.now := rfl
@[simp] theorem State.setPath_obj (s : State) (p : Nat) (x : PathSt) : (s.setPath p x).obj = s.obj := rfl
@[simp] theorem State.setPath_staged (s : State) (p : Nat) (x : PathSt) : (s.setPath p x).staged = s.staged := rfl
@[simp] theorem State.setPath_badWords (s : State) (p : Nat) (x : PathSt) : (s.setPath p x).badWords = s.badWords := rfl
@[simp] theorem State.setPath_written (s : State) (p : Nat) (x : PathSt) : (s.setPath p x).written = s.written := rfl
@[simp] theorem State.setPath_locked (s : State) (p : Nat) (x : PathSt) : (s.setPath p x).locked = s.locked := rfl
@[simp] theorem State.setPath_power (s : State) (p : Nat) (x : PathSt) : (s.setPath p x).power = s.power := rfl
@[simp] theorem State.setPath_clk (s : State) (p : Nat) (x : PathSt) : (s.setPath p x).clk = s.clk := rfl
@[simp] theorem State.setPath_boot (s : State) (p : Nat) (x : PathSt) : (s.setPath p x).boot = s.boot := rfl
@[simp] theorem State.setPath_commit (s : State) (p : Nat) (x : PathSt) : (s.setPath p x).commit = s.commit := rfl
@[simp] theorem State.setPath_alerts (s : State) (p : Nat) (x : PathSt) : (s.setPath p x).alerts = s.alerts := rfl
@[simp] theorem State.setPath_sec (s : State) (p : Nat) (x : PathSt) : (s.setPath p x).sec = s.sec := rfl
@[simp] theorem State.setPath_ports (s : State) (p : Nat) (x : PathSt) : (s.setPath p x).ports = s.ports := rfl
@[simp] theorem State.setPath_coh (s : State) (p : Nat) (x : PathSt) : (s.setPath p x).coh = s.coh := rfl
@[simp] theorem State.setPath_time (s : State) (p : Nat) (x : PathSt) : (s.setPath p x).time = s.time := rfl
@[simp] theorem State.setPath_belay (s : State) (p : Nat) (x : PathSt) : (s.setPath p x).belay = s.belay := rfl
@[simp] theorem State.setPath_probe (s : State) (p : Nat) (x : PathSt) : (s.setPath p x).probe = s.probe := rfl
@[simp] theorem State.setPath_sig (s : State) (p : Nat) (x : PathSt) : (s.setPath p x).sig = s.sig := rfl
@[simp] theorem State.setPath_trig (s : State) (p : Nat) (x : PathSt) : (s.setPath p x).trig = s.trig := rfl
@[simp] theorem State.setPath_pair (s : State) (p : Nat) (x : PathSt) : (s.setPath p x).pair = s.pair := rfl
@[simp] theorem State.setPath_mem (s : State) (p : Nat) (x : PathSt) : (s.setPath p x).mem = s.mem := rfl
@[simp] theorem State.setPath_sto (s : State) (p : Nat) (x : PathSt) : (s.setPath p x).sto = s.sto := rfl
@[simp] theorem State.setPath_comp (s : State) (p : Nat) (x : PathSt) : (s.setPath p x).comp = s.comp := rfl

/-! ### putCause -/

@[simp] theorem State.putCause_pending (s : State) (idx sub n : Nat) : (s.putCause idx sub n).pending = s.pending := rfl
@[simp] theorem State.putCause_out (s : State) (idx sub n : Nat) : (s.putCause idx sub n).out = s.out := rfl
@[simp] theorem State.putCause_free (s : State) (idx sub n : Nat) : (s.putCause idx sub n).free = s.free := rfl
@[simp] theorem State.putCause_now (s : State) (idx sub n : Nat) : (s.putCause idx sub n).now = s.now := rfl
@[simp] theorem State.putCause_staged (s : State) (idx sub n : Nat) : (s.putCause idx sub n).staged = s.staged := rfl
@[simp] theorem State.putCause_badWords (s : State) (idx sub n : Nat) : (s.putCause idx sub n).badWords = s.badWords := rfl
@[simp] theorem State.putCause_written (s : State) (idx sub n : Nat) : (s.putCause idx sub n).written = s.written := rfl
@[simp] theorem State.putCause_locked (s : State) (idx sub n : Nat) : (s.putCause idx sub n).locked = s.locked := rfl
@[simp] theorem State.putCause_power (s : State) (idx sub n : Nat) : (s.putCause idx sub n).power = s.power := rfl
@[simp] theorem State.putCause_clk (s : State) (idx sub n : Nat) : (s.putCause idx sub n).clk = s.clk := rfl
@[simp] theorem State.putCause_boot (s : State) (idx sub n : Nat) : (s.putCause idx sub n).boot = s.boot := rfl
@[simp] theorem State.putCause_commit (s : State) (idx sub n : Nat) : (s.putCause idx sub n).commit = s.commit := rfl
@[simp] theorem State.putCause_acc (s : State) (idx sub n : Nat) : (s.putCause idx sub n).acc = s.acc := rfl
@[simp] theorem State.putCause_sec (s : State) (idx sub n : Nat) : (s.putCause idx sub n).sec = s.sec := rfl
@[simp] theorem State.putCause_ports (s : State) (idx sub n : Nat) : (s.putCause idx sub n).ports = s.ports := rfl
@[simp] theorem State.putCause_coh (s : State) (idx sub n : Nat) : (s.putCause idx sub n).coh = s.coh := rfl
@[simp] theorem State.putCause_time (s : State) (idx sub n : Nat) : (s.putCause idx sub n).time = s.time := rfl
@[simp] theorem State.putCause_belay (s : State) (idx sub n : Nat) : (s.putCause idx sub n).belay = s.belay := rfl
@[simp] theorem State.putCause_probe (s : State) (idx sub n : Nat) : (s.putCause idx sub n).probe = s.probe := rfl
@[simp] theorem State.putCause_sig (s : State) (idx sub n : Nat) : (s.putCause idx sub n).sig = s.sig := rfl
@[simp] theorem State.putCause_trig (s : State) (idx sub n : Nat) : (s.putCause idx sub n).trig = s.trig := rfl
@[simp] theorem State.putCause_pair (s : State) (idx sub n : Nat) : (s.putCause idx sub n).pair = s.pair := rfl
@[simp] theorem State.putCause_mem (s : State) (idx sub n : Nat) : (s.putCause idx sub n).mem = s.mem := rfl
@[simp] theorem State.putCause_sto (s : State) (idx sub n : Nat) : (s.putCause idx sub n).sto = s.sto := rfl
@[simp] theorem State.putCause_comp (s : State) (idx sub n : Nat) : (s.putCause idx sub n).comp = s.comp := rfl

/-! ### setPort -/

@[simp] theorem State.setPort_pending (s : State) (p : Nat) (x : PortSt) : (s.setPort p x).pending = s.pending := rfl
@[simp] theorem State.setPort_out (s : State) (p : Nat) (x : PortSt) : (s.setPort p x).out = s.out := rfl
@[simp] theorem State.setPort_free (s : State) (p : Nat) (x : PortSt) : (s.setPort p x).free = s.free := rfl
@[simp] theorem State.setPort_now (s : State) (p : Nat) (x : PortSt) : (s.setPort p x).now = s.now := rfl
@[simp] theorem State.setPort_obj (s : State) (p : Nat) (x : PortSt) : (s.setPort p x).obj = s.obj := rfl
@[simp] theorem State.setPort_staged (s : State) (p : Nat) (x : PortSt) : (s.setPort p x).staged = s.staged := rfl
@[simp] theorem State.setPort_badWords (s : State) (p : Nat) (x : PortSt) : (s.setPort p x).badWords = s.badWords := rfl
@[simp] theorem State.setPort_written (s : State) (p : Nat) (x : PortSt) : (s.setPort p x).written = s.written := rfl
@[simp] theorem State.setPort_locked (s : State) (p : Nat) (x : PortSt) : (s.setPort p x).locked = s.locked := rfl
@[simp] theorem State.setPort_power (s : State) (p : Nat) (x : PortSt) : (s.setPort p x).power = s.power := rfl
@[simp] theorem State.setPort_clk (s : State) (p : Nat) (x : PortSt) : (s.setPort p x).clk = s.clk := rfl
@[simp] theorem State.setPort_boot (s : State) (p : Nat) (x : PortSt) : (s.setPort p x).boot = s.boot := rfl
@[simp] theorem State.setPort_commit (s : State) (p : Nat) (x : PortSt) : (s.setPort p x).commit = s.commit := rfl
@[simp] theorem State.setPort_acc (s : State) (p : Nat) (x : PortSt) : (s.setPort p x).acc = s.acc := rfl
@[simp] theorem State.setPort_alerts (s : State) (p : Nat) (x : PortSt) : (s.setPort p x).alerts = s.alerts := rfl
@[simp] theorem State.setPort_sec (s : State) (p : Nat) (x : PortSt) : (s.setPort p x).sec = s.sec := rfl
@[simp] theorem State.setPort_coh (s : State) (p : Nat) (x : PortSt) : (s.setPort p x).coh = s.coh := rfl
@[simp] theorem State.setPort_time (s : State) (p : Nat) (x : PortSt) : (s.setPort p x).time = s.time := rfl
@[simp] theorem State.setPort_belay (s : State) (p : Nat) (x : PortSt) : (s.setPort p x).belay = s.belay := rfl
@[simp] theorem State.setPort_probe (s : State) (p : Nat) (x : PortSt) : (s.setPort p x).probe = s.probe := rfl
@[simp] theorem State.setPort_sig (s : State) (p : Nat) (x : PortSt) : (s.setPort p x).sig = s.sig := rfl
@[simp] theorem State.setPort_trig (s : State) (p : Nat) (x : PortSt) : (s.setPort p x).trig = s.trig := rfl
@[simp] theorem State.setPort_pair (s : State) (p : Nat) (x : PortSt) : (s.setPort p x).pair = s.pair := rfl
@[simp] theorem State.setPort_mem (s : State) (p : Nat) (x : PortSt) : (s.setPort p x).mem = s.mem := rfl
@[simp] theorem State.setPort_sto (s : State) (p : Nat) (x : PortSt) : (s.setPort p x).sto = s.sto := rfl
@[simp] theorem State.setPort_comp (s : State) (p : Nat) (x : PortSt) : (s.setPort p x).comp = s.comp := rfl

/-! ### setSrc -/

@[simp] theorem State.setSrc_pending (s : State) (i : Nat) (x : SourceSt) : (s.setSrc i x).pending = s.pending := rfl
@[simp] theorem State.setSrc_out (s : State) (i : Nat) (x : SourceSt) : (s.setSrc i x).out = s.out := rfl
@[simp] theorem State.setSrc_free (s : State) (i : Nat) (x : SourceSt) : (s.setSrc i x).free = s.free := rfl
@[simp] theorem State.setSrc_now (s : State) (i : Nat) (x : SourceSt) : (s.setSrc i x).now = s.now := rfl
@[simp] theorem State.setSrc_obj (s : State) (i : Nat) (x : SourceSt) : (s.setSrc i x).obj = s.obj := rfl
@[simp] theorem State.setSrc_staged (s : State) (i : Nat) (x : SourceSt) : (s.setSrc i x).staged = s.staged := rfl
@[simp] theorem State.setSrc_badWords (s : State) (i : Nat) (x : SourceSt) : (s.setSrc i x).badWords = s.badWords := rfl
@[simp] theorem State.setSrc_written (s : State) (i : Nat) (x : SourceSt) : (s.setSrc i x).written = s.written := rfl
@[simp] theorem State.setSrc_locked (s : State) (i : Nat) (x : SourceSt) : (s.setSrc i x).locked = s.locked := rfl
@[simp] theorem State.setSrc_power (s : State) (i : Nat) (x : SourceSt) : (s.setSrc i x).power = s.power := rfl
@[simp] theorem State.setSrc_clk (s : State) (i : Nat) (x : SourceSt) : (s.setSrc i x).clk = s.clk := rfl
@[simp] theorem State.setSrc_boot (s : State) (i : Nat) (x : SourceSt) : (s.setSrc i x).boot = s.boot := rfl
@[simp] theorem State.setSrc_commit (s : State) (i : Nat) (x : SourceSt) : (s.setSrc i x).commit = s.commit := rfl
@[simp] theorem State.setSrc_acc (s : State) (i : Nat) (x : SourceSt) : (s.setSrc i x).acc = s.acc := rfl
@[simp] theorem State.setSrc_alerts (s : State) (i : Nat) (x : SourceSt) : (s.setSrc i x).alerts = s.alerts := rfl
@[simp] theorem State.setSrc_sec (s : State) (i : Nat) (x : SourceSt) : (s.setSrc i x).sec = s.sec := rfl
@[simp] theorem State.setSrc_ports (s : State) (i : Nat) (x : SourceSt) : (s.setSrc i x).ports = s.ports := rfl
@[simp] theorem State.setSrc_coh (s : State) (i : Nat) (x : SourceSt) : (s.setSrc i x).coh = s.coh := rfl
@[simp] theorem State.setSrc_belay (s : State) (i : Nat) (x : SourceSt) : (s.setSrc i x).belay = s.belay := rfl
@[simp] theorem State.setSrc_probe (s : State) (i : Nat) (x : SourceSt) : (s.setSrc i x).probe = s.probe := rfl
@[simp] theorem State.setSrc_sig (s : State) (i : Nat) (x : SourceSt) : (s.setSrc i x).sig = s.sig := rfl
@[simp] theorem State.setSrc_trig (s : State) (i : Nat) (x : SourceSt) : (s.setSrc i x).trig = s.trig := rfl
@[simp] theorem State.setSrc_pair (s : State) (i : Nat) (x : SourceSt) : (s.setSrc i x).pair = s.pair := rfl
@[simp] theorem State.setSrc_mem (s : State) (i : Nat) (x : SourceSt) : (s.setSrc i x).mem = s.mem := rfl
@[simp] theorem State.setSrc_sto (s : State) (i : Nat) (x : SourceSt) : (s.setSrc i x).sto = s.sto := rfl
@[simp] theorem State.setSrc_comp (s : State) (i : Nat) (x : SourceSt) : (s.setSrc i x).comp = s.comp := rfl

/-! ### setTap -/

@[simp] theorem State.setTap_pending (s : State) (i : Nat) (x : TapSt) : (s.setTap i x).pending = s.pending := rfl
@[simp] theorem State.setTap_out (s : State) (i : Nat) (x : TapSt) : (s.setTap i x).out = s.out := rfl
@[simp] theorem State.setTap_free (s : State) (i : Nat) (x : TapSt) : (s.setTap i x).free = s.free := rfl
@[simp] theorem State.setTap_now (s : State) (i : Nat) (x : TapSt) : (s.setTap i x).now = s.now := rfl
@[simp] theorem State.setTap_obj (s : State) (i : Nat) (x : TapSt) : (s.setTap i x).obj = s.obj := rfl
@[simp] theorem State.setTap_staged (s : State) (i : Nat) (x : TapSt) : (s.setTap i x).staged = s.staged := rfl
@[simp] theorem State.setTap_badWords (s : State) (i : Nat) (x : TapSt) : (s.setTap i x).badWords = s.badWords := rfl
@[simp] theorem State.setTap_written (s : State) (i : Nat) (x : TapSt) : (s.setTap i x).written = s.written := rfl
@[simp] theorem State.setTap_locked (s : State) (i : Nat) (x : TapSt) : (s.setTap i x).locked = s.locked := rfl
@[simp] theorem State.setTap_power (s : State) (i : Nat) (x : TapSt) : (s.setTap i x).power = s.power := rfl
@[simp] theorem State.setTap_clk (s : State) (i : Nat) (x : TapSt) : (s.setTap i x).clk = s.clk := rfl
@[simp] theorem State.setTap_boot (s : State) (i : Nat) (x : TapSt) : (s.setTap i x).boot = s.boot := rfl
@[simp] theorem State.setTap_commit (s : State) (i : Nat) (x : TapSt) : (s.setTap i x).commit = s.commit := rfl
@[simp] theorem State.setTap_acc (s : State) (i : Nat) (x : TapSt) : (s.setTap i x).acc = s.acc := rfl
@[simp] theorem State.setTap_alerts (s : State) (i : Nat) (x : TapSt) : (s.setTap i x).alerts = s.alerts := rfl
@[simp] theorem State.setTap_sec (s : State) (i : Nat) (x : TapSt) : (s.setTap i x).sec = s.sec := rfl
@[simp] theorem State.setTap_ports (s : State) (i : Nat) (x : TapSt) : (s.setTap i x).ports = s.ports := rfl
@[simp] theorem State.setTap_coh (s : State) (i : Nat) (x : TapSt) : (s.setTap i x).coh = s.coh := rfl
@[simp] theorem State.setTap_belay (s : State) (i : Nat) (x : TapSt) : (s.setTap i x).belay = s.belay := rfl
@[simp] theorem State.setTap_probe (s : State) (i : Nat) (x : TapSt) : (s.setTap i x).probe = s.probe := rfl
@[simp] theorem State.setTap_sig (s : State) (i : Nat) (x : TapSt) : (s.setTap i x).sig = s.sig := rfl
@[simp] theorem State.setTap_trig (s : State) (i : Nat) (x : TapSt) : (s.setTap i x).trig = s.trig := rfl
@[simp] theorem State.setTap_pair (s : State) (i : Nat) (x : TapSt) : (s.setTap i x).pair = s.pair := rfl
@[simp] theorem State.setTap_mem (s : State) (i : Nat) (x : TapSt) : (s.setTap i x).mem = s.mem := rfl
@[simp] theorem State.setTap_sto (s : State) (i : Nat) (x : TapSt) : (s.setTap i x).sto = s.sto := rfl
@[simp] theorem State.setTap_comp (s : State) (i : Nat) (x : TapSt) : (s.setTap i x).comp = s.comp := rfl

/-! ### setLoop -/

@[simp] theorem State.setLoop_pending (s : State) (l : Nat) (x : LoopSt) : (s.setLoop l x).pending = s.pending := rfl
@[simp] theorem State.setLoop_out (s : State) (l : Nat) (x : LoopSt) : (s.setLoop l x).out = s.out := rfl
@[simp] theorem State.setLoop_free (s : State) (l : Nat) (x : LoopSt) : (s.setLoop l x).free = s.free := rfl
@[simp] theorem State.setLoop_now (s : State) (l : Nat) (x : LoopSt) : (s.setLoop l x).now = s.now := rfl
@[simp] theorem State.setLoop_obj (s : State) (l : Nat) (x : LoopSt) : (s.setLoop l x).obj = s.obj := rfl
@[simp] theorem State.setLoop_staged (s : State) (l : Nat) (x : LoopSt) : (s.setLoop l x).staged = s.staged := rfl
@[simp] theorem State.setLoop_badWords (s : State) (l : Nat) (x : LoopSt) : (s.setLoop l x).badWords = s.badWords := rfl
@[simp] theorem State.setLoop_written (s : State) (l : Nat) (x : LoopSt) : (s.setLoop l x).written = s.written := rfl
@[simp] theorem State.setLoop_locked (s : State) (l : Nat) (x : LoopSt) : (s.setLoop l x).locked = s.locked := rfl
@[simp] theorem State.setLoop_power (s : State) (l : Nat) (x : LoopSt) : (s.setLoop l x).power = s.power := rfl
@[simp] theorem State.setLoop_clk (s : State) (l : Nat) (x : LoopSt) : (s.setLoop l x).clk = s.clk := rfl
@[simp] theorem State.setLoop_boot (s : State) (l : Nat) (x : LoopSt) : (s.setLoop l x).boot = s.boot := rfl
@[simp] theorem State.setLoop_commit (s : State) (l : Nat) (x : LoopSt) : (s.setLoop l x).commit = s.commit := rfl
@[simp] theorem State.setLoop_acc (s : State) (l : Nat) (x : LoopSt) : (s.setLoop l x).acc = s.acc := rfl
@[simp] theorem State.setLoop_alerts (s : State) (l : Nat) (x : LoopSt) : (s.setLoop l x).alerts = s.alerts := rfl
@[simp] theorem State.setLoop_sec (s : State) (l : Nat) (x : LoopSt) : (s.setLoop l x).sec = s.sec := rfl
@[simp] theorem State.setLoop_ports (s : State) (l : Nat) (x : LoopSt) : (s.setLoop l x).ports = s.ports := rfl
@[simp] theorem State.setLoop_coh (s : State) (l : Nat) (x : LoopSt) : (s.setLoop l x).coh = s.coh := rfl
@[simp] theorem State.setLoop_time (s : State) (l : Nat) (x : LoopSt) : (s.setLoop l x).time = s.time := rfl
@[simp] theorem State.setLoop_probe (s : State) (l : Nat) (x : LoopSt) : (s.setLoop l x).probe = s.probe := rfl
@[simp] theorem State.setLoop_sig (s : State) (l : Nat) (x : LoopSt) : (s.setLoop l x).sig = s.sig := rfl
@[simp] theorem State.setLoop_trig (s : State) (l : Nat) (x : LoopSt) : (s.setLoop l x).trig = s.trig := rfl
@[simp] theorem State.setLoop_pair (s : State) (l : Nat) (x : LoopSt) : (s.setLoop l x).pair = s.pair := rfl
@[simp] theorem State.setLoop_mem (s : State) (l : Nat) (x : LoopSt) : (s.setLoop l x).mem = s.mem := rfl
@[simp] theorem State.setLoop_sto (s : State) (l : Nat) (x : LoopSt) : (s.setLoop l x).sto = s.sto := rfl
@[simp] theorem State.setLoop_comp (s : State) (l : Nat) (x : LoopSt) : (s.setLoop l x).comp = s.comp := rfl

/-! ### setWin -/

@[simp] theorem State.setWin_pending (s : State) (w : Nat) (x : WindowSt) : (s.setWin w x).pending = s.pending := rfl
@[simp] theorem State.setWin_out (s : State) (w : Nat) (x : WindowSt) : (s.setWin w x).out = s.out := rfl
@[simp] theorem State.setWin_free (s : State) (w : Nat) (x : WindowSt) : (s.setWin w x).free = s.free := rfl
@[simp] theorem State.setWin_now (s : State) (w : Nat) (x : WindowSt) : (s.setWin w x).now = s.now := rfl
@[simp] theorem State.setWin_obj (s : State) (w : Nat) (x : WindowSt) : (s.setWin w x).obj = s.obj := rfl
@[simp] theorem State.setWin_staged (s : State) (w : Nat) (x : WindowSt) : (s.setWin w x).staged = s.staged := rfl
@[simp] theorem State.setWin_badWords (s : State) (w : Nat) (x : WindowSt) : (s.setWin w x).badWords = s.badWords := rfl
@[simp] theorem State.setWin_written (s : State) (w : Nat) (x : WindowSt) : (s.setWin w x).written = s.written := rfl
@[simp] theorem State.setWin_locked (s : State) (w : Nat) (x : WindowSt) : (s.setWin w x).locked = s.locked := rfl
@[simp] theorem State.setWin_power (s : State) (w : Nat) (x : WindowSt) : (s.setWin w x).power = s.power := rfl
@[simp] theorem State.setWin_clk (s : State) (w : Nat) (x : WindowSt) : (s.setWin w x).clk = s.clk := rfl
@[simp] theorem State.setWin_boot (s : State) (w : Nat) (x : WindowSt) : (s.setWin w x).boot = s.boot := rfl
@[simp] theorem State.setWin_commit (s : State) (w : Nat) (x : WindowSt) : (s.setWin w x).commit = s.commit := rfl
@[simp] theorem State.setWin_acc (s : State) (w : Nat) (x : WindowSt) : (s.setWin w x).acc = s.acc := rfl
@[simp] theorem State.setWin_alerts (s : State) (w : Nat) (x : WindowSt) : (s.setWin w x).alerts = s.alerts := rfl
@[simp] theorem State.setWin_sec (s : State) (w : Nat) (x : WindowSt) : (s.setWin w x).sec = s.sec := rfl
@[simp] theorem State.setWin_ports (s : State) (w : Nat) (x : WindowSt) : (s.setWin w x).ports = s.ports := rfl
@[simp] theorem State.setWin_coh (s : State) (w : Nat) (x : WindowSt) : (s.setWin w x).coh = s.coh := rfl
@[simp] theorem State.setWin_time (s : State) (w : Nat) (x : WindowSt) : (s.setWin w x).time = s.time := rfl
@[simp] theorem State.setWin_belay (s : State) (w : Nat) (x : WindowSt) : (s.setWin w x).belay = s.belay := rfl
@[simp] theorem State.setWin_probe (s : State) (w : Nat) (x : WindowSt) : (s.setWin w x).probe = s.probe := rfl
@[simp] theorem State.setWin_sig (s : State) (w : Nat) (x : WindowSt) : (s.setWin w x).sig = s.sig := rfl
@[simp] theorem State.setWin_trig (s : State) (w : Nat) (x : WindowSt) : (s.setWin w x).trig = s.trig := rfl
@[simp] theorem State.setWin_pair (s : State) (w : Nat) (x : WindowSt) : (s.setWin w x).pair = s.pair := rfl
@[simp] theorem State.setWin_mem (s : State) (w : Nat) (x : WindowSt) : (s.setWin w x).mem = s.mem := rfl
@[simp] theorem State.setWin_comp (s : State) (w : Nat) (x : WindowSt) : (s.setWin w x).comp = s.comp := rfl

/-! ### setStream -/

@[simp] theorem State.setStream_pending (s : State) (t : Nat) (x : StreamSt) : (s.setStream t x).pending = s.pending := rfl
@[simp] theorem State.setStream_out (s : State) (t : Nat) (x : StreamSt) : (s.setStream t x).out = s.out := rfl
@[simp] theorem State.setStream_free (s : State) (t : Nat) (x : StreamSt) : (s.setStream t x).free = s.free := rfl
@[simp] theorem State.setStream_now (s : State) (t : Nat) (x : StreamSt) : (s.setStream t x).now = s.now := rfl
@[simp] theorem State.setStream_obj (s : State) (t : Nat) (x : StreamSt) : (s.setStream t x).obj = s.obj := rfl
@[simp] theorem State.setStream_staged (s : State) (t : Nat) (x : StreamSt) : (s.setStream t x).staged = s.staged := rfl
@[simp] theorem State.setStream_badWords (s : State) (t : Nat) (x : StreamSt) : (s.setStream t x).badWords = s.badWords := rfl
@[simp] theorem State.setStream_written (s : State) (t : Nat) (x : StreamSt) : (s.setStream t x).written = s.written := rfl
@[simp] theorem State.setStream_locked (s : State) (t : Nat) (x : StreamSt) : (s.setStream t x).locked = s.locked := rfl
@[simp] theorem State.setStream_power (s : State) (t : Nat) (x : StreamSt) : (s.setStream t x).power = s.power := rfl
@[simp] theorem State.setStream_clk (s : State) (t : Nat) (x : StreamSt) : (s.setStream t x).clk = s.clk := rfl
@[simp] theorem State.setStream_boot (s : State) (t : Nat) (x : StreamSt) : (s.setStream t x).boot = s.boot := rfl
@[simp] theorem State.setStream_commit (s : State) (t : Nat) (x : StreamSt) : (s.setStream t x).commit = s.commit := rfl
@[simp] theorem State.setStream_acc (s : State) (t : Nat) (x : StreamSt) : (s.setStream t x).acc = s.acc := rfl
@[simp] theorem State.setStream_alerts (s : State) (t : Nat) (x : StreamSt) : (s.setStream t x).alerts = s.alerts := rfl
@[simp] theorem State.setStream_sec (s : State) (t : Nat) (x : StreamSt) : (s.setStream t x).sec = s.sec := rfl
@[simp] theorem State.setStream_ports (s : State) (t : Nat) (x : StreamSt) : (s.setStream t x).ports = s.ports := rfl
@[simp] theorem State.setStream_coh (s : State) (t : Nat) (x : StreamSt) : (s.setStream t x).coh = s.coh := rfl
@[simp] theorem State.setStream_time (s : State) (t : Nat) (x : StreamSt) : (s.setStream t x).time = s.time := rfl
@[simp] theorem State.setStream_belay (s : State) (t : Nat) (x : StreamSt) : (s.setStream t x).belay = s.belay := rfl
@[simp] theorem State.setStream_probe (s : State) (t : Nat) (x : StreamSt) : (s.setStream t x).probe = s.probe := rfl
@[simp] theorem State.setStream_sig (s : State) (t : Nat) (x : StreamSt) : (s.setStream t x).sig = s.sig := rfl
@[simp] theorem State.setStream_trig (s : State) (t : Nat) (x : StreamSt) : (s.setStream t x).trig = s.trig := rfl
@[simp] theorem State.setStream_pair (s : State) (t : Nat) (x : StreamSt) : (s.setStream t x).pair = s.pair := rfl
@[simp] theorem State.setStream_mem (s : State) (t : Nat) (x : StreamSt) : (s.setStream t x).mem = s.mem := rfl
@[simp] theorem State.setStream_comp (s : State) (t : Nat) (x : StreamSt) : (s.setStream t x).comp = s.comp := rfl

/-! ### setBank -/

@[simp] theorem State.setBank_pending (s : State) (n : Nat) (x : BankSt) : (s.setBank n x).pending = s.pending := rfl
@[simp] theorem State.setBank_out (s : State) (n : Nat) (x : BankSt) : (s.setBank n x).out = s.out := rfl
@[simp] theorem State.setBank_free (s : State) (n : Nat) (x : BankSt) : (s.setBank n x).free = s.free := rfl
@[simp] theorem State.setBank_now (s : State) (n : Nat) (x : BankSt) : (s.setBank n x).now = s.now := rfl
@[simp] theorem State.setBank_obj (s : State) (n : Nat) (x : BankSt) : (s.setBank n x).obj = s.obj := rfl
@[simp] theorem State.setBank_staged (s : State) (n : Nat) (x : BankSt) : (s.setBank n x).staged = s.staged := rfl
@[simp] theorem State.setBank_badWords (s : State) (n : Nat) (x : BankSt) : (s.setBank n x).badWords = s.badWords := rfl
@[simp] theorem State.setBank_written (s : State) (n : Nat) (x : BankSt) : (s.setBank n x).written = s.written := rfl
@[simp] theorem State.setBank_locked (s : State) (n : Nat) (x : BankSt) : (s.setBank n x).locked = s.locked := rfl
@[simp] theorem State.setBank_power (s : State) (n : Nat) (x : BankSt) : (s.setBank n x).power = s.power := rfl
@[simp] theorem State.setBank_clk (s : State) (n : Nat) (x : BankSt) : (s.setBank n x).clk = s.clk := rfl
@[simp] theorem State.setBank_boot (s : State) (n : Nat) (x : BankSt) : (s.setBank n x).boot = s.boot := rfl
@[simp] theorem State.setBank_commit (s : State) (n : Nat) (x : BankSt) : (s.setBank n x).commit = s.commit := rfl
@[simp] theorem State.setBank_acc (s : State) (n : Nat) (x : BankSt) : (s.setBank n x).acc = s.acc := rfl
@[simp] theorem State.setBank_alerts (s : State) (n : Nat) (x : BankSt) : (s.setBank n x).alerts = s.alerts := rfl
@[simp] theorem State.setBank_sec (s : State) (n : Nat) (x : BankSt) : (s.setBank n x).sec = s.sec := rfl
@[simp] theorem State.setBank_ports (s : State) (n : Nat) (x : BankSt) : (s.setBank n x).ports = s.ports := rfl
@[simp] theorem State.setBank_coh (s : State) (n : Nat) (x : BankSt) : (s.setBank n x).coh = s.coh := rfl
@[simp] theorem State.setBank_time (s : State) (n : Nat) (x : BankSt) : (s.setBank n x).time = s.time := rfl
@[simp] theorem State.setBank_belay (s : State) (n : Nat) (x : BankSt) : (s.setBank n x).belay = s.belay := rfl
@[simp] theorem State.setBank_probe (s : State) (n : Nat) (x : BankSt) : (s.setBank n x).probe = s.probe := rfl
@[simp] theorem State.setBank_sig (s : State) (n : Nat) (x : BankSt) : (s.setBank n x).sig = s.sig := rfl
@[simp] theorem State.setBank_trig (s : State) (n : Nat) (x : BankSt) : (s.setBank n x).trig = s.trig := rfl
@[simp] theorem State.setBank_pair (s : State) (n : Nat) (x : BankSt) : (s.setBank n x).pair = s.pair := rfl
@[simp] theorem State.setBank_sto (s : State) (n : Nat) (x : BankSt) : (s.setBank n x).sto = s.sto := rfl
@[simp] theorem State.setBank_comp (s : State) (n : Nat) (x : BankSt) : (s.setBank n x).comp = s.comp := rfl

/-! ### setGranule -/

@[simp] theorem State.setGranule_pending (s : State) (g : Nat) (x : GranuleSt) : (s.setGranule g x).pending = s.pending := rfl
@[simp] theorem State.setGranule_out (s : State) (g : Nat) (x : GranuleSt) : (s.setGranule g x).out = s.out := rfl
@[simp] theorem State.setGranule_free (s : State) (g : Nat) (x : GranuleSt) : (s.setGranule g x).free = s.free := rfl
@[simp] theorem State.setGranule_now (s : State) (g : Nat) (x : GranuleSt) : (s.setGranule g x).now = s.now := rfl
@[simp] theorem State.setGranule_obj (s : State) (g : Nat) (x : GranuleSt) : (s.setGranule g x).obj = s.obj := rfl
@[simp] theorem State.setGranule_staged (s : State) (g : Nat) (x : GranuleSt) : (s.setGranule g x).staged = s.staged := rfl
@[simp] theorem State.setGranule_badWords (s : State) (g : Nat) (x : GranuleSt) : (s.setGranule g x).badWords = s.badWords := rfl
@[simp] theorem State.setGranule_written (s : State) (g : Nat) (x : GranuleSt) : (s.setGranule g x).written = s.written := rfl
@[simp] theorem State.setGranule_locked (s : State) (g : Nat) (x : GranuleSt) : (s.setGranule g x).locked = s.locked := rfl
@[simp] theorem State.setGranule_power (s : State) (g : Nat) (x : GranuleSt) : (s.setGranule g x).power = s.power := rfl
@[simp] theorem State.setGranule_clk (s : State) (g : Nat) (x : GranuleSt) : (s.setGranule g x).clk = s.clk := rfl
@[simp] theorem State.setGranule_boot (s : State) (g : Nat) (x : GranuleSt) : (s.setGranule g x).boot = s.boot := rfl
@[simp] theorem State.setGranule_commit (s : State) (g : Nat) (x : GranuleSt) : (s.setGranule g x).commit = s.commit := rfl
@[simp] theorem State.setGranule_acc (s : State) (g : Nat) (x : GranuleSt) : (s.setGranule g x).acc = s.acc := rfl
@[simp] theorem State.setGranule_alerts (s : State) (g : Nat) (x : GranuleSt) : (s.setGranule g x).alerts = s.alerts := rfl
@[simp] theorem State.setGranule_sec (s : State) (g : Nat) (x : GranuleSt) : (s.setGranule g x).sec = s.sec := rfl
@[simp] theorem State.setGranule_ports (s : State) (g : Nat) (x : GranuleSt) : (s.setGranule g x).ports = s.ports := rfl
@[simp] theorem State.setGranule_coh (s : State) (g : Nat) (x : GranuleSt) : (s.setGranule g x).coh = s.coh := rfl
@[simp] theorem State.setGranule_time (s : State) (g : Nat) (x : GranuleSt) : (s.setGranule g x).time = s.time := rfl
@[simp] theorem State.setGranule_belay (s : State) (g : Nat) (x : GranuleSt) : (s.setGranule g x).belay = s.belay := rfl
@[simp] theorem State.setGranule_sig (s : State) (g : Nat) (x : GranuleSt) : (s.setGranule g x).sig = s.sig := rfl
@[simp] theorem State.setGranule_trig (s : State) (g : Nat) (x : GranuleSt) : (s.setGranule g x).trig = s.trig := rfl
@[simp] theorem State.setGranule_pair (s : State) (g : Nat) (x : GranuleSt) : (s.setGranule g x).pair = s.pair := rfl
@[simp] theorem State.setGranule_mem (s : State) (g : Nat) (x : GranuleSt) : (s.setGranule g x).mem = s.mem := rfl
@[simp] theorem State.setGranule_sto (s : State) (g : Nat) (x : GranuleSt) : (s.setGranule g x).sto = s.sto := rfl
@[simp] theorem State.setGranule_comp (s : State) (g : Nat) (x : GranuleSt) : (s.setGranule g x).comp = s.comp := rfl

/-! ### setDecoder -/

@[simp] theorem State.setDecoder_pending (s : State) (j : Nat) (x : Decoder) : (s.setDecoder j x).pending = s.pending := rfl
@[simp] theorem State.setDecoder_out (s : State) (j : Nat) (x : Decoder) : (s.setDecoder j x).out = s.out := rfl
@[simp] theorem State.setDecoder_free (s : State) (j : Nat) (x : Decoder) : (s.setDecoder j x).free = s.free := rfl
@[simp] theorem State.setDecoder_now (s : State) (j : Nat) (x : Decoder) : (s.setDecoder j x).now = s.now := rfl
@[simp] theorem State.setDecoder_obj (s : State) (j : Nat) (x : Decoder) : (s.setDecoder j x).obj = s.obj := rfl
@[simp] theorem State.setDecoder_staged (s : State) (j : Nat) (x : Decoder) : (s.setDecoder j x).staged = s.staged := rfl
@[simp] theorem State.setDecoder_badWords (s : State) (j : Nat) (x : Decoder) : (s.setDecoder j x).badWords = s.badWords := rfl
@[simp] theorem State.setDecoder_written (s : State) (j : Nat) (x : Decoder) : (s.setDecoder j x).written = s.written := rfl
@[simp] theorem State.setDecoder_locked (s : State) (j : Nat) (x : Decoder) : (s.setDecoder j x).locked = s.locked := rfl
@[simp] theorem State.setDecoder_power (s : State) (j : Nat) (x : Decoder) : (s.setDecoder j x).power = s.power := rfl
@[simp] theorem State.setDecoder_clk (s : State) (j : Nat) (x : Decoder) : (s.setDecoder j x).clk = s.clk := rfl
@[simp] theorem State.setDecoder_boot (s : State) (j : Nat) (x : Decoder) : (s.setDecoder j x).boot = s.boot := rfl
@[simp] theorem State.setDecoder_commit (s : State) (j : Nat) (x : Decoder) : (s.setDecoder j x).commit = s.commit := rfl
@[simp] theorem State.setDecoder_acc (s : State) (j : Nat) (x : Decoder) : (s.setDecoder j x).acc = s.acc := rfl
@[simp] theorem State.setDecoder_alerts (s : State) (j : Nat) (x : Decoder) : (s.setDecoder j x).alerts = s.alerts := rfl
@[simp] theorem State.setDecoder_sec (s : State) (j : Nat) (x : Decoder) : (s.setDecoder j x).sec = s.sec := rfl
@[simp] theorem State.setDecoder_ports (s : State) (j : Nat) (x : Decoder) : (s.setDecoder j x).ports = s.ports := rfl
@[simp] theorem State.setDecoder_coh (s : State) (j : Nat) (x : Decoder) : (s.setDecoder j x).coh = s.coh := rfl
@[simp] theorem State.setDecoder_time (s : State) (j : Nat) (x : Decoder) : (s.setDecoder j x).time = s.time := rfl
@[simp] theorem State.setDecoder_belay (s : State) (j : Nat) (x : Decoder) : (s.setDecoder j x).belay = s.belay := rfl
@[simp] theorem State.setDecoder_sig (s : State) (j : Nat) (x : Decoder) : (s.setDecoder j x).sig = s.sig := rfl
@[simp] theorem State.setDecoder_trig (s : State) (j : Nat) (x : Decoder) : (s.setDecoder j x).trig = s.trig := rfl
@[simp] theorem State.setDecoder_pair (s : State) (j : Nat) (x : Decoder) : (s.setDecoder j x).pair = s.pair := rfl
@[simp] theorem State.setDecoder_mem (s : State) (j : Nat) (x : Decoder) : (s.setDecoder j x).mem = s.mem := rfl
@[simp] theorem State.setDecoder_sto (s : State) (j : Nat) (x : Decoder) : (s.setDecoder j x).sto = s.sto := rfl
@[simp] theorem State.setDecoder_comp (s : State) (j : Nat) (x : Decoder) : (s.setDecoder j x).comp = s.comp := rfl

/-! ### setJob -/

@[simp] theorem State.setJob_pending (s : State) (c : Nat) (j : Job) : (s.setJob c j).pending = s.pending := rfl
@[simp] theorem State.setJob_out (s : State) (c : Nat) (j : Job) : (s.setJob c j).out = s.out := rfl
@[simp] theorem State.setJob_free (s : State) (c : Nat) (j : Job) : (s.setJob c j).free = s.free := rfl
@[simp] theorem State.setJob_now (s : State) (c : Nat) (j : Job) : (s.setJob c j).now = s.now := rfl
@[simp] theorem State.setJob_obj (s : State) (c : Nat) (j : Job) : (s.setJob c j).obj = s.obj := rfl
@[simp] theorem State.setJob_staged (s : State) (c : Nat) (j : Job) : (s.setJob c j).staged = s.staged := rfl
@[simp] theorem State.setJob_badWords (s : State) (c : Nat) (j : Job) : (s.setJob c j).badWords = s.badWords := rfl
@[simp] theorem State.setJob_written (s : State) (c : Nat) (j : Job) : (s.setJob c j).written = s.written := rfl
@[simp] theorem State.setJob_locked (s : State) (c : Nat) (j : Job) : (s.setJob c j).locked = s.locked := rfl
@[simp] theorem State.setJob_power (s : State) (c : Nat) (j : Job) : (s.setJob c j).power = s.power := rfl
@[simp] theorem State.setJob_clk (s : State) (c : Nat) (j : Job) : (s.setJob c j).clk = s.clk := rfl
@[simp] theorem State.setJob_boot (s : State) (c : Nat) (j : Job) : (s.setJob c j).boot = s.boot := rfl
@[simp] theorem State.setJob_commit (s : State) (c : Nat) (j : Job) : (s.setJob c j).commit = s.commit := rfl
@[simp] theorem State.setJob_acc (s : State) (c : Nat) (j : Job) : (s.setJob c j).acc = s.acc := rfl
@[simp] theorem State.setJob_alerts (s : State) (c : Nat) (j : Job) : (s.setJob c j).alerts = s.alerts := rfl
@[simp] theorem State.setJob_sec (s : State) (c : Nat) (j : Job) : (s.setJob c j).sec = s.sec := rfl
@[simp] theorem State.setJob_ports (s : State) (c : Nat) (j : Job) : (s.setJob c j).ports = s.ports := rfl
@[simp] theorem State.setJob_coh (s : State) (c : Nat) (j : Job) : (s.setJob c j).coh = s.coh := rfl
@[simp] theorem State.setJob_time (s : State) (c : Nat) (j : Job) : (s.setJob c j).time = s.time := rfl
@[simp] theorem State.setJob_belay (s : State) (c : Nat) (j : Job) : (s.setJob c j).belay = s.belay := rfl
@[simp] theorem State.setJob_probe (s : State) (c : Nat) (j : Job) : (s.setJob c j).probe = s.probe := rfl
@[simp] theorem State.setJob_sig (s : State) (c : Nat) (j : Job) : (s.setJob c j).sig = s.sig := rfl
@[simp] theorem State.setJob_trig (s : State) (c : Nat) (j : Job) : (s.setJob c j).trig = s.trig := rfl
@[simp] theorem State.setJob_pair (s : State) (c : Nat) (j : Job) : (s.setJob c j).pair = s.pair := rfl
@[simp] theorem State.setJob_mem (s : State) (c : Nat) (j : Job) : (s.setJob c j).mem = s.mem := rfl
@[simp] theorem State.setJob_sto (s : State) (c : Nat) (j : Job) : (s.setJob c j).sto = s.sto := rfl

/-! ### toStep -/

@[simp] theorem State.toStep_pending (s : State) (n : Nat) : (s.toStep n).pending = s.pending := rfl
@[simp] theorem State.toStep_out (s : State) (n : Nat) : (s.toStep n).out = s.out := rfl
@[simp] theorem State.toStep_free (s : State) (n : Nat) : (s.toStep n).free = s.free := rfl
@[simp] theorem State.toStep_now (s : State) (n : Nat) : (s.toStep n).now = s.now := rfl
@[simp] theorem State.toStep_obj (s : State) (n : Nat) : (s.toStep n).obj = s.obj := rfl
@[simp] theorem State.toStep_staged (s : State) (n : Nat) : (s.toStep n).staged = s.staged := rfl
@[simp] theorem State.toStep_badWords (s : State) (n : Nat) : (s.toStep n).badWords = s.badWords := rfl
@[simp] theorem State.toStep_written (s : State) (n : Nat) : (s.toStep n).written = s.written := rfl
@[simp] theorem State.toStep_locked (s : State) (n : Nat) : (s.toStep n).locked = s.locked := rfl
@[simp] theorem State.toStep_power (s : State) (n : Nat) : (s.toStep n).power = s.power := rfl
@[simp] theorem State.toStep_clk (s : State) (n : Nat) : (s.toStep n).clk = s.clk := rfl
@[simp] theorem State.toStep_commit (s : State) (n : Nat) : (s.toStep n).commit = s.commit := rfl
@[simp] theorem State.toStep_acc (s : State) (n : Nat) : (s.toStep n).acc = s.acc := rfl
@[simp] theorem State.toStep_alerts (s : State) (n : Nat) : (s.toStep n).alerts = s.alerts := rfl
@[simp] theorem State.toStep_sec (s : State) (n : Nat) : (s.toStep n).sec = s.sec := rfl
@[simp] theorem State.toStep_ports (s : State) (n : Nat) : (s.toStep n).ports = s.ports := rfl
@[simp] theorem State.toStep_coh (s : State) (n : Nat) : (s.toStep n).coh = s.coh := rfl
@[simp] theorem State.toStep_time (s : State) (n : Nat) : (s.toStep n).time = s.time := rfl
@[simp] theorem State.toStep_belay (s : State) (n : Nat) : (s.toStep n).belay = s.belay := rfl
@[simp] theorem State.toStep_probe (s : State) (n : Nat) : (s.toStep n).probe = s.probe := rfl
@[simp] theorem State.toStep_sig (s : State) (n : Nat) : (s.toStep n).sig = s.sig := rfl
@[simp] theorem State.toStep_trig (s : State) (n : Nat) : (s.toStep n).trig = s.trig := rfl
@[simp] theorem State.toStep_pair (s : State) (n : Nat) : (s.toStep n).pair = s.pair := rfl
@[simp] theorem State.toStep_mem (s : State) (n : Nat) : (s.toStep n).mem = s.mem := rfl
@[simp] theorem State.toStep_sto (s : State) (n : Nat) : (s.toStep n).sto = s.sto := rfl
@[simp] theorem State.toStep_comp (s : State) (n : Nat) : (s.toStep n).comp = s.comp := rfl

/-! ### ropePulse -/

@[simp] theorem State.ropePulse_pending (s : State) (code : Nat) : (s.ropePulse code).pending = s.pending := rfl
@[simp] theorem State.ropePulse_out (s : State) (code : Nat) : (s.ropePulse code).out = s.out := rfl
@[simp] theorem State.ropePulse_free (s : State) (code : Nat) : (s.ropePulse code).free = s.free := rfl
@[simp] theorem State.ropePulse_now (s : State) (code : Nat) : (s.ropePulse code).now = s.now := rfl
@[simp] theorem State.ropePulse_obj (s : State) (code : Nat) : (s.ropePulse code).obj = s.obj := rfl
@[simp] theorem State.ropePulse_staged (s : State) (code : Nat) : (s.ropePulse code).staged = s.staged := rfl
@[simp] theorem State.ropePulse_badWords (s : State) (code : Nat) : (s.ropePulse code).badWords = s.badWords := rfl
@[simp] theorem State.ropePulse_written (s : State) (code : Nat) : (s.ropePulse code).written = s.written := rfl
@[simp] theorem State.ropePulse_locked (s : State) (code : Nat) : (s.ropePulse code).locked = s.locked := rfl
@[simp] theorem State.ropePulse_power (s : State) (code : Nat) : (s.ropePulse code).power = s.power := rfl
@[simp] theorem State.ropePulse_clk (s : State) (code : Nat) : (s.ropePulse code).clk = s.clk := rfl
@[simp] theorem State.ropePulse_boot (s : State) (code : Nat) : (s.ropePulse code).boot = s.boot := rfl
@[simp] theorem State.ropePulse_commit (s : State) (code : Nat) : (s.ropePulse code).commit = s.commit := rfl
@[simp] theorem State.ropePulse_acc (s : State) (code : Nat) : (s.ropePulse code).acc = s.acc := rfl
@[simp] theorem State.ropePulse_alerts (s : State) (code : Nat) : (s.ropePulse code).alerts = s.alerts := rfl
@[simp] theorem State.ropePulse_sec (s : State) (code : Nat) : (s.ropePulse code).sec = s.sec := rfl
@[simp] theorem State.ropePulse_ports (s : State) (code : Nat) : (s.ropePulse code).ports = s.ports := rfl
@[simp] theorem State.ropePulse_coh (s : State) (code : Nat) : (s.ropePulse code).coh = s.coh := rfl
@[simp] theorem State.ropePulse_time (s : State) (code : Nat) : (s.ropePulse code).time = s.time := rfl
@[simp] theorem State.ropePulse_belay (s : State) (code : Nat) : (s.ropePulse code).belay = s.belay := rfl
@[simp] theorem State.ropePulse_probe (s : State) (code : Nat) : (s.ropePulse code).probe = s.probe := rfl
@[simp] theorem State.ropePulse_trig (s : State) (code : Nat) : (s.ropePulse code).trig = s.trig := rfl
@[simp] theorem State.ropePulse_pair (s : State) (code : Nat) : (s.ropePulse code).pair = s.pair := rfl
@[simp] theorem State.ropePulse_mem (s : State) (code : Nat) : (s.ropePulse code).mem = s.mem := rfl
@[simp] theorem State.ropePulse_sto (s : State) (code : Nat) : (s.ropePulse code).sto = s.sto := rfl
@[simp] theorem State.ropePulse_comp (s : State) (code : Nat) : (s.ropePulse code).comp = s.comp := rfl

/-! ### elapse -/

@[simp] theorem State.elapse_pending (s : State) (d : Nat) : (s.elapse d).pending = s.pending := by
  unfold State.elapse; dsimp only; split <;> rfl
@[simp] theorem State.elapse_out (s : State) (d : Nat) : (s.elapse d).out = s.out := by
  unfold State.elapse; dsimp only; split <;> rfl
@[simp] theorem State.elapse_free (s : State) (d : Nat) : (s.elapse d).free = s.free := by
  unfold State.elapse; dsimp only; split <;> rfl
@[simp] theorem State.elapse_staged (s : State) (d : Nat) : (s.elapse d).staged = s.staged := by
  unfold State.elapse; dsimp only; split <;> rfl
@[simp] theorem State.elapse_badWords (s : State) (d : Nat) : (s.elapse d).badWords = s.badWords := by
  unfold State.elapse; dsimp only; split <;> rfl
@[simp] theorem State.elapse_written (s : State) (d : Nat) : (s.elapse d).written = s.written := by
  unfold State.elapse; dsimp only; split <;> rfl
@[simp] theorem State.elapse_locked (s : State) (d : Nat) : (s.elapse d).locked = s.locked := by
  unfold State.elapse; dsimp only; split <;> rfl
@[simp] theorem State.elapse_power (s : State) (d : Nat) : (s.elapse d).power = s.power := by
  unfold State.elapse; dsimp only; split <;> rfl
@[simp] theorem State.elapse_clk (s : State) (d : Nat) : (s.elapse d).clk = s.clk := by
  unfold State.elapse; dsimp only; split <;> rfl
@[simp] theorem State.elapse_boot (s : State) (d : Nat) : (s.elapse d).boot = s.boot := by
  unfold State.elapse; dsimp only; split <;> rfl
@[simp] theorem State.elapse_commit (s : State) (d : Nat) : (s.elapse d).commit = s.commit := by
  unfold State.elapse; dsimp only; split <;> rfl
@[simp] theorem State.elapse_acc (s : State) (d : Nat) : (s.elapse d).acc = s.acc := by
  unfold State.elapse; dsimp only; split <;> rfl
@[simp] theorem State.elapse_alerts (s : State) (d : Nat) : (s.elapse d).alerts = s.alerts := by
  unfold State.elapse; dsimp only; split <;> rfl
@[simp] theorem State.elapse_sec (s : State) (d : Nat) : (s.elapse d).sec = s.sec := by
  unfold State.elapse; dsimp only; split <;> rfl
@[simp] theorem State.elapse_ports (s : State) (d : Nat) : (s.elapse d).ports = s.ports := by
  unfold State.elapse; dsimp only; split <;> rfl
@[simp] theorem State.elapse_coh (s : State) (d : Nat) : (s.elapse d).coh = s.coh := by
  unfold State.elapse; dsimp only; split <;> rfl
@[simp] theorem State.elapse_belay (s : State) (d : Nat) : (s.elapse d).belay = s.belay := by
  unfold State.elapse; dsimp only; split <;> rfl
@[simp] theorem State.elapse_probe (s : State) (d : Nat) : (s.elapse d).probe = s.probe := by
  unfold State.elapse; dsimp only; split <;> rfl
@[simp] theorem State.elapse_sig (s : State) (d : Nat) : (s.elapse d).sig = s.sig := by
  unfold State.elapse; dsimp only; split <;> rfl
@[simp] theorem State.elapse_trig (s : State) (d : Nat) : (s.elapse d).trig = s.trig := by
  unfold State.elapse; dsimp only; split <;> rfl
@[simp] theorem State.elapse_pair (s : State) (d : Nat) : (s.elapse d).pair = s.pair := by
  unfold State.elapse; dsimp only; split <;> rfl
@[simp] theorem State.elapse_mem (s : State) (d : Nat) : (s.elapse d).mem = s.mem := by
  unfold State.elapse; dsimp only; split <;> rfl
@[simp] theorem State.elapse_sto (s : State) (d : Nat) : (s.elapse d).sto = s.sto := by
  unfold State.elapse; dsimp only; split <;> rfl
@[simp] theorem State.elapse_comp (s : State) (d : Nat) : (s.elapse d).comp = s.comp := by
  unfold State.elapse; dsimp only; split <;> rfl

/-! ### elapseTo -/

@[simp] theorem State.elapseTo_pending (s : State) (t : Nat) : (s.elapseTo t).pending = s.pending := by
  unfold State.elapseTo; split <;> simp
@[simp] theorem State.elapseTo_out (s : State) (t : Nat) : (s.elapseTo t).out = s.out := by
  unfold State.elapseTo; split <;> simp
@[simp] theorem State.elapseTo_free (s : State) (t : Nat) : (s.elapseTo t).free = s.free := by
  unfold State.elapseTo; split <;> simp
@[simp] theorem State.elapseTo_staged (s : State) (t : Nat) : (s.elapseTo t).staged = s.staged := by
  unfold State.elapseTo; split <;> simp
@[simp] theorem State.elapseTo_badWords (s : State) (t : Nat) : (s.elapseTo t).badWords = s.badWords := by
  unfold State.elapseTo; split <;> simp
@[simp] theorem State.elapseTo_written (s : State) (t : Nat) : (s.elapseTo t).written = s.written := by
  unfold State.elapseTo; split <;> simp
@[simp] theorem State.elapseTo_locked (s : State) (t : Nat) : (s.elapseTo t).locked = s.locked := by
  unfold State.elapseTo; split <;> simp
@[simp] theorem State.elapseTo_power (s : State) (t : Nat) : (s.elapseTo t).power = s.power := by
  unfold State.elapseTo; split <;> simp
@[simp] theorem State.elapseTo_clk (s : State) (t : Nat) : (s.elapseTo t).clk = s.clk := by
  unfold State.elapseTo; split <;> simp
@[simp] theorem State.elapseTo_boot (s : State) (t : Nat) : (s.elapseTo t).boot = s.boot := by
  unfold State.elapseTo; split <;> simp
@[simp] theorem State.elapseTo_commit (s : State) (t : Nat) : (s.elapseTo t).commit = s.commit := by
  unfold State.elapseTo; split <;> simp
@[simp] theorem State.elapseTo_acc (s : State) (t : Nat) : (s.elapseTo t).acc = s.acc := by
  unfold State.elapseTo; split <;> simp
@[simp] theorem State.elapseTo_alerts (s : State) (t : Nat) : (s.elapseTo t).alerts = s.alerts := by
  unfold State.elapseTo; split <;> simp
@[simp] theorem State.elapseTo_sec (s : State) (t : Nat) : (s.elapseTo t).sec = s.sec := by
  unfold State.elapseTo; split <;> simp
@[simp] theorem State.elapseTo_ports (s : State) (t : Nat) : (s.elapseTo t).ports = s.ports := by
  unfold State.elapseTo; split <;> simp
@[simp] theorem State.elapseTo_coh (s : State) (t : Nat) : (s.elapseTo t).coh = s.coh := by
  unfold State.elapseTo; split <;> simp
@[simp] theorem State.elapseTo_belay (s : State) (t : Nat) : (s.elapseTo t).belay = s.belay := by
  unfold State.elapseTo; split <;> simp
@[simp] theorem State.elapseTo_probe (s : State) (t : Nat) : (s.elapseTo t).probe = s.probe := by
  unfold State.elapseTo; split <;> simp
@[simp] theorem State.elapseTo_sig (s : State) (t : Nat) : (s.elapseTo t).sig = s.sig := by
  unfold State.elapseTo; split <;> simp
@[simp] theorem State.elapseTo_trig (s : State) (t : Nat) : (s.elapseTo t).trig = s.trig := by
  unfold State.elapseTo; split <;> simp
@[simp] theorem State.elapseTo_pair (s : State) (t : Nat) : (s.elapseTo t).pair = s.pair := by
  unfold State.elapseTo; split <;> simp
@[simp] theorem State.elapseTo_mem (s : State) (t : Nat) : (s.elapseTo t).mem = s.mem := by
  unfold State.elapseTo; split <;> simp
@[simp] theorem State.elapseTo_sto (s : State) (t : Nat) : (s.elapseTo t).sto = s.sto := by
  unfold State.elapseTo; split <;> simp
@[simp] theorem State.elapseTo_comp (s : State) (t : Nat) : (s.elapseTo t).comp = s.comp := by
  unfold State.elapseTo; split <;> simp

/-! ### elapseToTick -/

@[simp] theorem State.elapseToTick_pending (s : State) (k : Nat) : (s.elapseToTick k).pending = s.pending := by
  unfold State.elapseToTick; split <;> simp
@[simp] theorem State.elapseToTick_out (s : State) (k : Nat) : (s.elapseToTick k).out = s.out := by
  unfold State.elapseToTick; split <;> simp
@[simp] theorem State.elapseToTick_free (s : State) (k : Nat) : (s.elapseToTick k).free = s.free := by
  unfold State.elapseToTick; split <;> simp
@[simp] theorem State.elapseToTick_staged (s : State) (k : Nat) : (s.elapseToTick k).staged = s.staged := by
  unfold State.elapseToTick; split <;> simp
@[simp] theorem State.elapseToTick_badWords (s : State) (k : Nat) : (s.elapseToTick k).badWords = s.badWords := by
  unfold State.elapseToTick; split <;> simp
@[simp] theorem State.elapseToTick_written (s : State) (k : Nat) : (s.elapseToTick k).written = s.written := by
  unfold State.elapseToTick; split <;> simp
@[simp] theorem State.elapseToTick_locked (s : State) (k : Nat) : (s.elapseToTick k).locked = s.locked := by
  unfold State.elapseToTick; split <;> simp
@[simp] theorem State.elapseToTick_power (s : State) (k : Nat) : (s.elapseToTick k).power = s.power := by
  unfold State.elapseToTick; split <;> simp
@[simp] theorem State.elapseToTick_clk (s : State) (k : Nat) : (s.elapseToTick k).clk = s.clk := by
  unfold State.elapseToTick; split <;> simp
@[simp] theorem State.elapseToTick_boot (s : State) (k : Nat) : (s.elapseToTick k).boot = s.boot := by
  unfold State.elapseToTick; split <;> simp
@[simp] theorem State.elapseToTick_commit (s : State) (k : Nat) : (s.elapseToTick k).commit = s.commit := by
  unfold State.elapseToTick; split <;> simp
@[simp] theorem State.elapseToTick_acc (s : State) (k : Nat) : (s.elapseToTick k).acc = s.acc := by
  unfold State.elapseToTick; split <;> simp
@[simp] theorem State.elapseToTick_alerts (s : State) (k : Nat) : (s.elapseToTick k).alerts = s.alerts := by
  unfold State.elapseToTick; split <;> simp
@[simp] theorem State.elapseToTick_sec (s : State) (k : Nat) : (s.elapseToTick k).sec = s.sec := by
  unfold State.elapseToTick; split <;> simp
@[simp] theorem State.elapseToTick_ports (s : State) (k : Nat) : (s.elapseToTick k).ports = s.ports := by
  unfold State.elapseToTick; split <;> simp
@[simp] theorem State.elapseToTick_coh (s : State) (k : Nat) : (s.elapseToTick k).coh = s.coh := by
  unfold State.elapseToTick; split <;> simp
@[simp] theorem State.elapseToTick_belay (s : State) (k : Nat) : (s.elapseToTick k).belay = s.belay := by
  unfold State.elapseToTick; split <;> simp
@[simp] theorem State.elapseToTick_probe (s : State) (k : Nat) : (s.elapseToTick k).probe = s.probe := by
  unfold State.elapseToTick; split <;> simp
@[simp] theorem State.elapseToTick_sig (s : State) (k : Nat) : (s.elapseToTick k).sig = s.sig := by
  unfold State.elapseToTick; split <;> simp
@[simp] theorem State.elapseToTick_trig (s : State) (k : Nat) : (s.elapseToTick k).trig = s.trig := by
  unfold State.elapseToTick; split <;> simp
@[simp] theorem State.elapseToTick_pair (s : State) (k : Nat) : (s.elapseToTick k).pair = s.pair := by
  unfold State.elapseToTick; split <;> simp
@[simp] theorem State.elapseToTick_mem (s : State) (k : Nat) : (s.elapseToTick k).mem = s.mem := by
  unfold State.elapseToTick; split <;> simp
@[simp] theorem State.elapseToTick_sto (s : State) (k : Nat) : (s.elapseToTick k).sto = s.sto := by
  unfold State.elapseToTick; split <;> simp
@[simp] theorem State.elapseToTick_comp (s : State) (k : Nat) : (s.elapseToTick k).comp = s.comp := by
  unfold State.elapseToTick; split <;> simp

/-! ### alertSync -/

/-- What the alert tree's operations touch: objects, the access paths and the alert part. -/
def State.Alerted (s t : State) : Prop := ∃ o a l, t = { s with obj := o, acc := a, alerts := l }

theorem State.Alerted.trans {s t u : State} (h : s.Alerted t) (k : t.Alerted u) : s.Alerted u := by
  obtain ⟨o, a, l, rfl⟩ := h
  obtain ⟨o', a', l', rfl⟩ := k
  exact ⟨o', a', l', rfl⟩

theorem State.bump_alerted (s : State) (idx sub n : Nat) : s.Alerted (s.bump idx sub n) := ⟨_, _, _, rfl⟩

theorem State.putCause_alerted (s : State) (idx sub n : Nat) : s.Alerted (s.putCause idx sub n) := ⟨_, _, _, rfl⟩

theorem State.foldPath_alerted {α : Type} (f : State → α → State) (h : ∀ (s : State) (x : α), s.Alerted (f s x)) (l : List α) :
    ∀ s : State, s.Alerted (l.foldl f s) := by
  induction l with
  | nil => exact fun s => ⟨_, _, _, rfl⟩
  | cons x l ih => exact fun s => (h s x).trans (ih _)

theorem State.alertEdge_alerted (s : State) : s.Alerted s.alertEdge := by
  unfold State.alertEdge; split_ifs
  · exact s.bump_alerted _ _ _
  · exact ⟨_, _, _, rfl⟩

theorem State.alertPaths_alerted (s : State) (old new : Nat) : s.Alerted (s.alertPaths old new) := by
  unfold State.alertPaths
  split
  · exact ⟨_, _, _, rfl⟩
  · have h := State.foldPath_alerted (pathAlert old new) (fun (s : State) _ => ⟨_, _, _, rfl⟩) [1, 2, 3] s
    dsimp only
    split
    · split
      · exact h.trans (State.foldPath_alerted pathCalm (fun (s : State) _ => ⟨_, _, _, rfl⟩) _ _)
      · exact h
    · exact h

/-- ALERT_N and the ALERT frames follow the tree: nothing but the counter of its assertions, the paths and the alert part changes. -/
theorem State.alertSync_alerted (s : State) : s.Alerted s.alertSync := by
  unfold State.alertSync
  exact s.alertEdge_alerted.trans (State.Alerted.trans ⟨_, _, _, rfl⟩ (State.alertPaths_alerted _ _ _))

@[simp] theorem State.alertSync_pending (s : State) : (s.alertSync).pending = s.pending := by
  obtain ⟨o, a, l, h⟩ := s.alertSync_alerted; rw [h]
@[simp] theorem State.alertSync_out (s : State) : (s.alertSync).out = s.out := by
  obtain ⟨o, a, l, h⟩ := s.alertSync_alerted; rw [h]
@[simp] theorem State.alertSync_free (s : State) : (s.alertSync).free = s.free := by
  obtain ⟨o, a, l, h⟩ := s.alertSync_alerted; rw [h]
@[simp] theorem State.alertSync_now (s : State) : (s.alertSync).now = s.now := by
  obtain ⟨o, a, l, h⟩ := s.alertSync_alerted; rw [h]
@[simp] theorem State.alertSync_staged (s : State) : (s.alertSync).staged = s.staged := by
  obtain ⟨o, a, l, h⟩ := s.alertSync_alerted; rw [h]
@[simp] theorem State.alertSync_badWords (s : State) : (s.alertSync).badWords = s.badWords := by
  obtain ⟨o, a, l, h⟩ := s.alertSync_alerted; rw [h]
@[simp] theorem State.alertSync_written (s : State) : (s.alertSync).written = s.written := by
  obtain ⟨o, a, l, h⟩ := s.alertSync_alerted; rw [h]
@[simp] theorem State.alertSync_locked (s : State) : (s.alertSync).locked = s.locked := by
  obtain ⟨o, a, l, h⟩ := s.alertSync_alerted; rw [h]
@[simp] theorem State.alertSync_power (s : State) : (s.alertSync).power = s.power := by
  obtain ⟨o, a, l, h⟩ := s.alertSync_alerted; rw [h]
@[simp] theorem State.alertSync_clk (s : State) : (s.alertSync).clk = s.clk := by
  obtain ⟨o, a, l, h⟩ := s.alertSync_alerted; rw [h]
@[simp] theorem State.alertSync_boot (s : State) : (s.alertSync).boot = s.boot := by
  obtain ⟨o, a, l, h⟩ := s.alertSync_alerted; rw [h]
@[simp] theorem State.alertSync_commit (s : State) : (s.alertSync).commit = s.commit := by
  obtain ⟨o, a, l, h⟩ := s.alertSync_alerted; rw [h]
@[simp] theorem State.alertSync_sec (s : State) : (s.alertSync).sec = s.sec := by
  obtain ⟨o, a, l, h⟩ := s.alertSync_alerted; rw [h]
@[simp] theorem State.alertSync_ports (s : State) : (s.alertSync).ports = s.ports := by
  obtain ⟨o, a, l, h⟩ := s.alertSync_alerted; rw [h]
@[simp] theorem State.alertSync_coh (s : State) : (s.alertSync).coh = s.coh := by
  obtain ⟨o, a, l, h⟩ := s.alertSync_alerted; rw [h]
@[simp] theorem State.alertSync_time (s : State) : (s.alertSync).time = s.time := by
  obtain ⟨o, a, l, h⟩ := s.alertSync_alerted; rw [h]
@[simp] theorem State.alertSync_belay (s : State) : (s.alertSync).belay = s.belay := by
  obtain ⟨o, a, l, h⟩ := s.alertSync_alerted; rw [h]
@[simp] theorem State.alertSync_probe (s : State) : (s.alertSync).probe = s.probe := by
  obtain ⟨o, a, l, h⟩ := s.alertSync_alerted; rw [h]
@[simp] theorem State.alertSync_sig (s : State) : (s.alertSync).sig = s.sig := by
  obtain ⟨o, a, l, h⟩ := s.alertSync_alerted; rw [h]
@[simp] theorem State.alertSync_trig (s : State) : (s.alertSync).trig = s.trig := by
  obtain ⟨o, a, l, h⟩ := s.alertSync_alerted; rw [h]
@[simp] theorem State.alertSync_pair (s : State) : (s.alertSync).pair = s.pair := by
  obtain ⟨o, a, l, h⟩ := s.alertSync_alerted; rw [h]
@[simp] theorem State.alertSync_mem (s : State) : (s.alertSync).mem = s.mem := by
  obtain ⟨o, a, l, h⟩ := s.alertSync_alerted; rw [h]
@[simp] theorem State.alertSync_sto (s : State) : (s.alertSync).sto = s.sto := by
  obtain ⟨o, a, l, h⟩ := s.alertSync_alerted; rw [h]
@[simp] theorem State.alertSync_comp (s : State) : (s.alertSync).comp = s.comp := by
  obtain ⟨o, a, l, h⟩ := s.alertSync_alerted; rw [h]

/-! ### setWord -/

theorem State.raise_alerted (s : State) (k m : Nat) : s.Alerted (s.raise k m) := by
  have h : s.Alerted s.alertCycle := by
    unfold State.alertCycle; split <;> exact ⟨_, _, _, rfl⟩
  unfold State.raise
  generalize s.alertCycle = t at h ⊢
  dsimp only
  split_ifs
  · exact h.trans ⟨_, _, _, rfl⟩
  · exact (h.trans ⟨_, _, _, rfl⟩).trans (State.bump_alerted _ _ _ _)

/-- An event of the cause tree changes the objects, the paths and the alert part alone. -/
theorem State.setWord_alerted (s : State) (br idx sub m : Nat) : s.Alerted (s.setWord br idx sub m) := by
  unfold State.setWord
  split
  · exact (((s.raise_alerted _ _).trans (State.putCause_alerted _ _ _ _)).trans (State.bump_alerted _ _ _ _)).trans (State.alertSync_alerted _)
  · split
    · exact (State.Alerted.trans ⟨_, _, _, rfl⟩ (State.bump_alerted _ _ _ _)).trans (State.alertSync_alerted _)
    · exact ⟨_, _, _, rfl⟩

@[simp] theorem State.setWord_pending (s : State) (br idx sub m : Nat) : (s.setWord br idx sub m).pending = s.pending := by
  obtain ⟨o, a, l, h⟩ := s.setWord_alerted br idx sub m; rw [h]
@[simp] theorem State.setWord_out (s : State) (br idx sub m : Nat) : (s.setWord br idx sub m).out = s.out := by
  obtain ⟨o, a, l, h⟩ := s.setWord_alerted br idx sub m; rw [h]
@[simp] theorem State.setWord_free (s : State) (br idx sub m : Nat) : (s.setWord br idx sub m).free = s.free := by
  obtain ⟨o, a, l, h⟩ := s.setWord_alerted br idx sub m; rw [h]
@[simp] theorem State.setWord_now (s : State) (br idx sub m : Nat) : (s.setWord br idx sub m).now = s.now := by
  obtain ⟨o, a, l, h⟩ := s.setWord_alerted br idx sub m; rw [h]
@[simp] theorem State.setWord_staged (s : State) (br idx sub m : Nat) : (s.setWord br idx sub m).staged = s.staged := by
  obtain ⟨o, a, l, h⟩ := s.setWord_alerted br idx sub m; rw [h]
@[simp] theorem State.setWord_badWords (s : State) (br idx sub m : Nat) : (s.setWord br idx sub m).badWords = s.badWords := by
  obtain ⟨o, a, l, h⟩ := s.setWord_alerted br idx sub m; rw [h]
@[simp] theorem State.setWord_written (s : State) (br idx sub m : Nat) : (s.setWord br idx sub m).written = s.written := by
  obtain ⟨o, a, l, h⟩ := s.setWord_alerted br idx sub m; rw [h]
@[simp] theorem State.setWord_locked (s : State) (br idx sub m : Nat) : (s.setWord br idx sub m).locked = s.locked := by
  obtain ⟨o, a, l, h⟩ := s.setWord_alerted br idx sub m; rw [h]
@[simp] theorem State.setWord_power (s : State) (br idx sub m : Nat) : (s.setWord br idx sub m).power = s.power := by
  obtain ⟨o, a, l, h⟩ := s.setWord_alerted br idx sub m; rw [h]
@[simp] theorem State.setWord_clk (s : State) (br idx sub m : Nat) : (s.setWord br idx sub m).clk = s.clk := by
  obtain ⟨o, a, l, h⟩ := s.setWord_alerted br idx sub m; rw [h]
@[simp] theorem State.setWord_boot (s : State) (br idx sub m : Nat) : (s.setWord br idx sub m).boot = s.boot := by
  obtain ⟨o, a, l, h⟩ := s.setWord_alerted br idx sub m; rw [h]
@[simp] theorem State.setWord_commit (s : State) (br idx sub m : Nat) : (s.setWord br idx sub m).commit = s.commit := by
  obtain ⟨o, a, l, h⟩ := s.setWord_alerted br idx sub m; rw [h]
@[simp] theorem State.setWord_sec (s : State) (br idx sub m : Nat) : (s.setWord br idx sub m).sec = s.sec := by
  obtain ⟨o, a, l, h⟩ := s.setWord_alerted br idx sub m; rw [h]
@[simp] theorem State.setWord_ports (s : State) (br idx sub m : Nat) : (s.setWord br idx sub m).ports = s.ports := by
  obtain ⟨o, a, l, h⟩ := s.setWord_alerted br idx sub m; rw [h]
@[simp] theorem State.setWord_coh (s : State) (br idx sub m : Nat) : (s.setWord br idx sub m).coh = s.coh := by
  obtain ⟨o, a, l, h⟩ := s.setWord_alerted br idx sub m; rw [h]
@[simp] theorem State.setWord_time (s : State) (br idx sub m : Nat) : (s.setWord br idx sub m).time = s.time := by
  obtain ⟨o, a, l, h⟩ := s.setWord_alerted br idx sub m; rw [h]
@[simp] theorem State.setWord_belay (s : State) (br idx sub m : Nat) : (s.setWord br idx sub m).belay = s.belay := by
  obtain ⟨o, a, l, h⟩ := s.setWord_alerted br idx sub m; rw [h]
@[simp] theorem State.setWord_probe (s : State) (br idx sub m : Nat) : (s.setWord br idx sub m).probe = s.probe := by
  obtain ⟨o, a, l, h⟩ := s.setWord_alerted br idx sub m; rw [h]
@[simp] theorem State.setWord_sig (s : State) (br idx sub m : Nat) : (s.setWord br idx sub m).sig = s.sig := by
  obtain ⟨o, a, l, h⟩ := s.setWord_alerted br idx sub m; rw [h]
@[simp] theorem State.setWord_trig (s : State) (br idx sub m : Nat) : (s.setWord br idx sub m).trig = s.trig := by
  obtain ⟨o, a, l, h⟩ := s.setWord_alerted br idx sub m; rw [h]
@[simp] theorem State.setWord_pair (s : State) (br idx sub m : Nat) : (s.setWord br idx sub m).pair = s.pair := by
  obtain ⟨o, a, l, h⟩ := s.setWord_alerted br idx sub m; rw [h]
@[simp] theorem State.setWord_mem (s : State) (br idx sub m : Nat) : (s.setWord br idx sub m).mem = s.mem := by
  obtain ⟨o, a, l, h⟩ := s.setWord_alerted br idx sub m; rw [h]
@[simp] theorem State.setWord_sto (s : State) (br idx sub m : Nat) : (s.setWord br idx sub m).sto = s.sto := by
  obtain ⟨o, a, l, h⟩ := s.setWord_alerted br idx sub m; rw [h]
@[simp] theorem State.setWord_comp (s : State) (br idx sub m : Nat) : (s.setWord br idx sub m).comp = s.comp := by
  obtain ⟨o, a, l, h⟩ := s.setWord_alerted br idx sub m; rw [h]

/-! ### setCause -/

@[simp] theorem State.setCause_pending (s : State) (br b : Nat) : (s.setCause br b).pending = s.pending := by
  simp [State.setCause]
@[simp] theorem State.setCause_out (s : State) (br b : Nat) : (s.setCause br b).out = s.out := by
  simp [State.setCause]
@[simp] theorem State.setCause_free (s : State) (br b : Nat) : (s.setCause br b).free = s.free := by
  simp [State.setCause]
@[simp] theorem State.setCause_now (s : State) (br b : Nat) : (s.setCause br b).now = s.now := by
  simp [State.setCause]
@[simp] theorem State.setCause_staged (s : State) (br b : Nat) : (s.setCause br b).staged = s.staged := by
  simp [State.setCause]
@[simp] theorem State.setCause_badWords (s : State) (br b : Nat) : (s.setCause br b).badWords = s.badWords := by
  simp [State.setCause]
@[simp] theorem State.setCause_written (s : State) (br b : Nat) : (s.setCause br b).written = s.written := by
  simp [State.setCause]
@[simp] theorem State.setCause_locked (s : State) (br b : Nat) : (s.setCause br b).locked = s.locked := by
  simp [State.setCause]
@[simp] theorem State.setCause_power (s : State) (br b : Nat) : (s.setCause br b).power = s.power := by
  simp [State.setCause]
@[simp] theorem State.setCause_clk (s : State) (br b : Nat) : (s.setCause br b).clk = s.clk := by
  simp [State.setCause]
@[simp] theorem State.setCause_boot (s : State) (br b : Nat) : (s.setCause br b).boot = s.boot := by
  simp [State.setCause]
@[simp] theorem State.setCause_commit (s : State) (br b : Nat) : (s.setCause br b).commit = s.commit := by
  simp [State.setCause]
@[simp] theorem State.setCause_sec (s : State) (br b : Nat) : (s.setCause br b).sec = s.sec := by
  simp [State.setCause]
@[simp] theorem State.setCause_ports (s : State) (br b : Nat) : (s.setCause br b).ports = s.ports := by
  simp [State.setCause]
@[simp] theorem State.setCause_coh (s : State) (br b : Nat) : (s.setCause br b).coh = s.coh := by
  simp [State.setCause]
@[simp] theorem State.setCause_time (s : State) (br b : Nat) : (s.setCause br b).time = s.time := by
  simp [State.setCause]
@[simp] theorem State.setCause_belay (s : State) (br b : Nat) : (s.setCause br b).belay = s.belay := by
  simp [State.setCause]
@[simp] theorem State.setCause_probe (s : State) (br b : Nat) : (s.setCause br b).probe = s.probe := by
  simp [State.setCause]
@[simp] theorem State.setCause_sig (s : State) (br b : Nat) : (s.setCause br b).sig = s.sig := by
  simp [State.setCause]
@[simp] theorem State.setCause_trig (s : State) (br b : Nat) : (s.setCause br b).trig = s.trig := by
  simp [State.setCause]
@[simp] theorem State.setCause_pair (s : State) (br b : Nat) : (s.setCause br b).pair = s.pair := by
  simp [State.setCause]
@[simp] theorem State.setCause_mem (s : State) (br b : Nat) : (s.setCause br b).mem = s.mem := by
  simp [State.setCause]
@[simp] theorem State.setCause_sto (s : State) (br b : Nat) : (s.setCause br b).sto = s.sto := by
  simp [State.setCause]
@[simp] theorem State.setCause_comp (s : State) (br b : Nat) : (s.setCause br b).comp = s.comp := by
  simp [State.setCause]

/-! ### setPortCause -/

@[simp] theorem State.setPortCause_pending (s : State) (p b : Nat) : (s.setPortCause p b).pending = s.pending := by
  simp [State.setPortCause]
@[simp] theorem State.setPortCause_out (s : State) (p b : Nat) : (s.setPortCause p b).out = s.out := by
  simp [State.setPortCause]
@[simp] theorem State.setPortCause_free (s : State) (p b : Nat) : (s.setPortCause p b).free = s.free := by
  simp [State.setPortCause]
@[simp] theorem State.setPortCause_now (s : State) (p b : Nat) : (s.setPortCause p b).now = s.now := by
  simp [State.setPortCause]
@[simp] theorem State.setPortCause_staged (s : State) (p b : Nat) : (s.setPortCause p b).staged = s.staged := by
  simp [State.setPortCause]
@[simp] theorem State.setPortCause_badWords (s : State) (p b : Nat) : (s.setPortCause p b).badWords = s.badWords := by
  simp [State.setPortCause]
@[simp] theorem State.setPortCause_written (s : State) (p b : Nat) : (s.setPortCause p b).written = s.written := by
  simp [State.setPortCause]
@[simp] theorem State.setPortCause_locked (s : State) (p b : Nat) : (s.setPortCause p b).locked = s.locked := by
  simp [State.setPortCause]
@[simp] theorem State.setPortCause_power (s : State) (p b : Nat) : (s.setPortCause p b).power = s.power := by
  simp [State.setPortCause]
@[simp] theorem State.setPortCause_clk (s : State) (p b : Nat) : (s.setPortCause p b).clk = s.clk := by
  simp [State.setPortCause]
@[simp] theorem State.setPortCause_boot (s : State) (p b : Nat) : (s.setPortCause p b).boot = s.boot := by
  simp [State.setPortCause]
@[simp] theorem State.setPortCause_commit (s : State) (p b : Nat) : (s.setPortCause p b).commit = s.commit := by
  simp [State.setPortCause]
@[simp] theorem State.setPortCause_sec (s : State) (p b : Nat) : (s.setPortCause p b).sec = s.sec := by
  simp [State.setPortCause]
@[simp] theorem State.setPortCause_ports (s : State) (p b : Nat) : (s.setPortCause p b).ports = s.ports := by
  simp [State.setPortCause]
@[simp] theorem State.setPortCause_coh (s : State) (p b : Nat) : (s.setPortCause p b).coh = s.coh := by
  simp [State.setPortCause]
@[simp] theorem State.setPortCause_time (s : State) (p b : Nat) : (s.setPortCause p b).time = s.time := by
  simp [State.setPortCause]
@[simp] theorem State.setPortCause_belay (s : State) (p b : Nat) : (s.setPortCause p b).belay = s.belay := by
  simp [State.setPortCause]
@[simp] theorem State.setPortCause_probe (s : State) (p b : Nat) : (s.setPortCause p b).probe = s.probe := by
  simp [State.setPortCause]
@[simp] theorem State.setPortCause_sig (s : State) (p b : Nat) : (s.setPortCause p b).sig = s.sig := by
  simp [State.setPortCause]
@[simp] theorem State.setPortCause_trig (s : State) (p b : Nat) : (s.setPortCause p b).trig = s.trig := by
  simp [State.setPortCause]
@[simp] theorem State.setPortCause_pair (s : State) (p b : Nat) : (s.setPortCause p b).pair = s.pair := by
  simp [State.setPortCause]
@[simp] theorem State.setPortCause_mem (s : State) (p b : Nat) : (s.setPortCause p b).mem = s.mem := by
  simp [State.setPortCause]
@[simp] theorem State.setPortCause_sto (s : State) (p b : Nat) : (s.setPortCause p b).sto = s.sto := by
  simp [State.setPortCause]
@[simp] theorem State.setPortCause_comp (s : State) (p b : Nat) : (s.setPortCause p b).comp = s.comp := by
  simp [State.setPortCause]

/-! ### setLoopCause -/

@[simp] theorem State.setLoopCause_pending (s : State) (l b : Nat) : (s.setLoopCause l b).pending = s.pending := by
  simp [State.setLoopCause]
@[simp] theorem State.setLoopCause_out (s : State) (l b : Nat) : (s.setLoopCause l b).out = s.out := by
  simp [State.setLoopCause]
@[simp] theorem State.setLoopCause_free (s : State) (l b : Nat) : (s.setLoopCause l b).free = s.free := by
  simp [State.setLoopCause]
@[simp] theorem State.setLoopCause_now (s : State) (l b : Nat) : (s.setLoopCause l b).now = s.now := by
  simp [State.setLoopCause]
@[simp] theorem State.setLoopCause_staged (s : State) (l b : Nat) : (s.setLoopCause l b).staged = s.staged := by
  simp [State.setLoopCause]
@[simp] theorem State.setLoopCause_badWords (s : State) (l b : Nat) : (s.setLoopCause l b).badWords = s.badWords := by
  simp [State.setLoopCause]
@[simp] theorem State.setLoopCause_written (s : State) (l b : Nat) : (s.setLoopCause l b).written = s.written := by
  simp [State.setLoopCause]
@[simp] theorem State.setLoopCause_locked (s : State) (l b : Nat) : (s.setLoopCause l b).locked = s.locked := by
  simp [State.setLoopCause]
@[simp] theorem State.setLoopCause_power (s : State) (l b : Nat) : (s.setLoopCause l b).power = s.power := by
  simp [State.setLoopCause]
@[simp] theorem State.setLoopCause_clk (s : State) (l b : Nat) : (s.setLoopCause l b).clk = s.clk := by
  simp [State.setLoopCause]
@[simp] theorem State.setLoopCause_boot (s : State) (l b : Nat) : (s.setLoopCause l b).boot = s.boot := by
  simp [State.setLoopCause]
@[simp] theorem State.setLoopCause_commit (s : State) (l b : Nat) : (s.setLoopCause l b).commit = s.commit := by
  simp [State.setLoopCause]
@[simp] theorem State.setLoopCause_sec (s : State) (l b : Nat) : (s.setLoopCause l b).sec = s.sec := by
  simp [State.setLoopCause]
@[simp] theorem State.setLoopCause_ports (s : State) (l b : Nat) : (s.setLoopCause l b).ports = s.ports := by
  simp [State.setLoopCause]
@[simp] theorem State.setLoopCause_coh (s : State) (l b : Nat) : (s.setLoopCause l b).coh = s.coh := by
  simp [State.setLoopCause]
@[simp] theorem State.setLoopCause_time (s : State) (l b : Nat) : (s.setLoopCause l b).time = s.time := by
  simp [State.setLoopCause]
@[simp] theorem State.setLoopCause_belay (s : State) (l b : Nat) : (s.setLoopCause l b).belay = s.belay := by
  simp [State.setLoopCause]
@[simp] theorem State.setLoopCause_probe (s : State) (l b : Nat) : (s.setLoopCause l b).probe = s.probe := by
  simp [State.setLoopCause]
@[simp] theorem State.setLoopCause_sig (s : State) (l b : Nat) : (s.setLoopCause l b).sig = s.sig := by
  simp [State.setLoopCause]
@[simp] theorem State.setLoopCause_trig (s : State) (l b : Nat) : (s.setLoopCause l b).trig = s.trig := by
  simp [State.setLoopCause]
@[simp] theorem State.setLoopCause_pair (s : State) (l b : Nat) : (s.setLoopCause l b).pair = s.pair := by
  simp [State.setLoopCause]
@[simp] theorem State.setLoopCause_mem (s : State) (l b : Nat) : (s.setLoopCause l b).mem = s.mem := by
  simp [State.setLoopCause]
@[simp] theorem State.setLoopCause_sto (s : State) (l b : Nat) : (s.setLoopCause l b).sto = s.sto := by
  simp [State.setLoopCause]
@[simp] theorem State.setLoopCause_comp (s : State) (l b : Nat) : (s.setLoopCause l b).comp = s.comp := by
  simp [State.setLoopCause]

/-! ### setWinCause -/

@[simp] theorem State.setWinCause_pending (s : State) (w b : Nat) : (s.setWinCause w b).pending = s.pending := by
  simp [State.setWinCause]
@[simp] theorem State.setWinCause_out (s : State) (w b : Nat) : (s.setWinCause w b).out = s.out := by
  simp [State.setWinCause]
@[simp] theorem State.setWinCause_free (s : State) (w b : Nat) : (s.setWinCause w b).free = s.free := by
  simp [State.setWinCause]
@[simp] theorem State.setWinCause_now (s : State) (w b : Nat) : (s.setWinCause w b).now = s.now := by
  simp [State.setWinCause]
@[simp] theorem State.setWinCause_staged (s : State) (w b : Nat) : (s.setWinCause w b).staged = s.staged := by
  simp [State.setWinCause]
@[simp] theorem State.setWinCause_badWords (s : State) (w b : Nat) : (s.setWinCause w b).badWords = s.badWords := by
  simp [State.setWinCause]
@[simp] theorem State.setWinCause_written (s : State) (w b : Nat) : (s.setWinCause w b).written = s.written := by
  simp [State.setWinCause]
@[simp] theorem State.setWinCause_locked (s : State) (w b : Nat) : (s.setWinCause w b).locked = s.locked := by
  simp [State.setWinCause]
@[simp] theorem State.setWinCause_power (s : State) (w b : Nat) : (s.setWinCause w b).power = s.power := by
  simp [State.setWinCause]
@[simp] theorem State.setWinCause_clk (s : State) (w b : Nat) : (s.setWinCause w b).clk = s.clk := by
  simp [State.setWinCause]
@[simp] theorem State.setWinCause_boot (s : State) (w b : Nat) : (s.setWinCause w b).boot = s.boot := by
  simp [State.setWinCause]
@[simp] theorem State.setWinCause_commit (s : State) (w b : Nat) : (s.setWinCause w b).commit = s.commit := by
  simp [State.setWinCause]
@[simp] theorem State.setWinCause_sec (s : State) (w b : Nat) : (s.setWinCause w b).sec = s.sec := by
  simp [State.setWinCause]
@[simp] theorem State.setWinCause_ports (s : State) (w b : Nat) : (s.setWinCause w b).ports = s.ports := by
  simp [State.setWinCause]
@[simp] theorem State.setWinCause_coh (s : State) (w b : Nat) : (s.setWinCause w b).coh = s.coh := by
  simp [State.setWinCause]
@[simp] theorem State.setWinCause_time (s : State) (w b : Nat) : (s.setWinCause w b).time = s.time := by
  simp [State.setWinCause]
@[simp] theorem State.setWinCause_belay (s : State) (w b : Nat) : (s.setWinCause w b).belay = s.belay := by
  simp [State.setWinCause]
@[simp] theorem State.setWinCause_probe (s : State) (w b : Nat) : (s.setWinCause w b).probe = s.probe := by
  simp [State.setWinCause]
@[simp] theorem State.setWinCause_sig (s : State) (w b : Nat) : (s.setWinCause w b).sig = s.sig := by
  simp [State.setWinCause]
@[simp] theorem State.setWinCause_trig (s : State) (w b : Nat) : (s.setWinCause w b).trig = s.trig := by
  simp [State.setWinCause]
@[simp] theorem State.setWinCause_pair (s : State) (w b : Nat) : (s.setWinCause w b).pair = s.pair := by
  simp [State.setWinCause]
@[simp] theorem State.setWinCause_mem (s : State) (w b : Nat) : (s.setWinCause w b).mem = s.mem := by
  simp [State.setWinCause]
@[simp] theorem State.setWinCause_sto (s : State) (w b : Nat) : (s.setWinCause w b).sto = s.sto := by
  simp [State.setWinCause]
@[simp] theorem State.setWinCause_comp (s : State) (w b : Nat) : (s.setWinCause w b).comp = s.comp := by
  simp [State.setWinCause]

/-! ### cohEvent -/

@[simp] theorem State.cohEvent_pending (s : State) (bitNo kind addr sid : Nat) : (s.cohEvent bitNo kind addr sid).pending = s.pending := by
  simp [State.cohEvent]
@[simp] theorem State.cohEvent_out (s : State) (bitNo kind addr sid : Nat) : (s.cohEvent bitNo kind addr sid).out = s.out := by
  simp [State.cohEvent]
@[simp] theorem State.cohEvent_free (s : State) (bitNo kind addr sid : Nat) : (s.cohEvent bitNo kind addr sid).free = s.free := by
  simp [State.cohEvent]
@[simp] theorem State.cohEvent_now (s : State) (bitNo kind addr sid : Nat) : (s.cohEvent bitNo kind addr sid).now = s.now := by
  simp [State.cohEvent]
@[simp] theorem State.cohEvent_staged (s : State) (bitNo kind addr sid : Nat) : (s.cohEvent bitNo kind addr sid).staged = s.staged := by
  simp [State.cohEvent]
@[simp] theorem State.cohEvent_badWords (s : State) (bitNo kind addr sid : Nat) : (s.cohEvent bitNo kind addr sid).badWords = s.badWords := by
  simp [State.cohEvent]
@[simp] theorem State.cohEvent_written (s : State) (bitNo kind addr sid : Nat) : (s.cohEvent bitNo kind addr sid).written = s.written := by
  simp [State.cohEvent]
@[simp] theorem State.cohEvent_locked (s : State) (bitNo kind addr sid : Nat) : (s.cohEvent bitNo kind addr sid).locked = s.locked := by
  simp [State.cohEvent]
@[simp] theorem State.cohEvent_power (s : State) (bitNo kind addr sid : Nat) : (s.cohEvent bitNo kind addr sid).power = s.power := by
  simp [State.cohEvent]
@[simp] theorem State.cohEvent_clk (s : State) (bitNo kind addr sid : Nat) : (s.cohEvent bitNo kind addr sid).clk = s.clk := by
  simp [State.cohEvent]
@[simp] theorem State.cohEvent_boot (s : State) (bitNo kind addr sid : Nat) : (s.cohEvent bitNo kind addr sid).boot = s.boot := by
  simp [State.cohEvent]
@[simp] theorem State.cohEvent_commit (s : State) (bitNo kind addr sid : Nat) : (s.cohEvent bitNo kind addr sid).commit = s.commit := by
  simp [State.cohEvent]
@[simp] theorem State.cohEvent_sec (s : State) (bitNo kind addr sid : Nat) : (s.cohEvent bitNo kind addr sid).sec = s.sec := by
  simp [State.cohEvent]
@[simp] theorem State.cohEvent_ports (s : State) (bitNo kind addr sid : Nat) : (s.cohEvent bitNo kind addr sid).ports = s.ports := by
  simp [State.cohEvent]
@[simp] theorem State.cohEvent_time (s : State) (bitNo kind addr sid : Nat) : (s.cohEvent bitNo kind addr sid).time = s.time := by
  simp [State.cohEvent]
@[simp] theorem State.cohEvent_belay (s : State) (bitNo kind addr sid : Nat) : (s.cohEvent bitNo kind addr sid).belay = s.belay := by
  simp [State.cohEvent]
@[simp] theorem State.cohEvent_probe (s : State) (bitNo kind addr sid : Nat) : (s.cohEvent bitNo kind addr sid).probe = s.probe := by
  simp [State.cohEvent]
@[simp] theorem State.cohEvent_sig (s : State) (bitNo kind addr sid : Nat) : (s.cohEvent bitNo kind addr sid).sig = s.sig := by
  simp [State.cohEvent]
@[simp] theorem State.cohEvent_trig (s : State) (bitNo kind addr sid : Nat) : (s.cohEvent bitNo kind addr sid).trig = s.trig := by
  simp [State.cohEvent]
@[simp] theorem State.cohEvent_pair (s : State) (bitNo kind addr sid : Nat) : (s.cohEvent bitNo kind addr sid).pair = s.pair := by
  simp [State.cohEvent]
@[simp] theorem State.cohEvent_mem (s : State) (bitNo kind addr sid : Nat) : (s.cohEvent bitNo kind addr sid).mem = s.mem := by
  simp [State.cohEvent]
@[simp] theorem State.cohEvent_sto (s : State) (bitNo kind addr sid : Nat) : (s.cohEvent bitNo kind addr sid).sto = s.sto := by
  simp [State.cohEvent]
@[simp] theorem State.cohEvent_comp (s : State) (bitNo kind addr sid : Nat) : (s.cohEvent bitNo kind addr sid).comp = s.comp := by
  simp [State.cohEvent]

/-! ### campSend -/

@[simp] theorem State.campSend_pending (s : State) (urgent : Bool) (code : Nat) (body : Octets) : (s.campSend urgent code body).pending = s.pending := by
  unfold State.campSend; dsimp only; split <;> rfl
@[simp] theorem State.campSend_free (s : State) (urgent : Bool) (code : Nat) (body : Octets) : (s.campSend urgent code body).free = s.free := by
  unfold State.campSend; dsimp only; split <;> rfl
@[simp] theorem State.campSend_now (s : State) (urgent : Bool) (code : Nat) (body : Octets) : (s.campSend urgent code body).now = s.now := by
  unfold State.campSend; dsimp only; split <;> rfl
@[simp] theorem State.campSend_obj (s : State) (urgent : Bool) (code : Nat) (body : Octets) : (s.campSend urgent code body).obj = s.obj := by
  unfold State.campSend; dsimp only; split <;> rfl
@[simp] theorem State.campSend_staged (s : State) (urgent : Bool) (code : Nat) (body : Octets) : (s.campSend urgent code body).staged = s.staged := by
  unfold State.campSend; dsimp only; split <;> rfl
@[simp] theorem State.campSend_badWords (s : State) (urgent : Bool) (code : Nat) (body : Octets) : (s.campSend urgent code body).badWords = s.badWords := by
  unfold State.campSend; dsimp only; split <;> rfl
@[simp] theorem State.campSend_written (s : State) (urgent : Bool) (code : Nat) (body : Octets) : (s.campSend urgent code body).written = s.written := by
  unfold State.campSend; dsimp only; split <;> rfl
@[simp] theorem State.campSend_locked (s : State) (urgent : Bool) (code : Nat) (body : Octets) : (s.campSend urgent code body).locked = s.locked := by
  unfold State.campSend; dsimp only; split <;> rfl
@[simp] theorem State.campSend_power (s : State) (urgent : Bool) (code : Nat) (body : Octets) : (s.campSend urgent code body).power = s.power := by
  unfold State.campSend; dsimp only; split <;> rfl
@[simp] theorem State.campSend_clk (s : State) (urgent : Bool) (code : Nat) (body : Octets) : (s.campSend urgent code body).clk = s.clk := by
  unfold State.campSend; dsimp only; split <;> rfl
@[simp] theorem State.campSend_boot (s : State) (urgent : Bool) (code : Nat) (body : Octets) : (s.campSend urgent code body).boot = s.boot := by
  unfold State.campSend; dsimp only; split <;> rfl
@[simp] theorem State.campSend_commit (s : State) (urgent : Bool) (code : Nat) (body : Octets) : (s.campSend urgent code body).commit = s.commit := by
  unfold State.campSend; dsimp only; split <;> rfl
@[simp] theorem State.campSend_acc (s : State) (urgent : Bool) (code : Nat) (body : Octets) : (s.campSend urgent code body).acc = s.acc := by
  unfold State.campSend; dsimp only; split <;> rfl
@[simp] theorem State.campSend_alerts (s : State) (urgent : Bool) (code : Nat) (body : Octets) : (s.campSend urgent code body).alerts = s.alerts := by
  unfold State.campSend; dsimp only; split <;> rfl
@[simp] theorem State.campSend_sec (s : State) (urgent : Bool) (code : Nat) (body : Octets) : (s.campSend urgent code body).sec = s.sec := by
  unfold State.campSend; dsimp only; split <;> rfl
@[simp] theorem State.campSend_ports (s : State) (urgent : Bool) (code : Nat) (body : Octets) : (s.campSend urgent code body).ports = s.ports := by
  unfold State.campSend; dsimp only; split <;> rfl
@[simp] theorem State.campSend_coh (s : State) (urgent : Bool) (code : Nat) (body : Octets) : (s.campSend urgent code body).coh = s.coh := by
  unfold State.campSend; dsimp only; split <;> rfl
@[simp] theorem State.campSend_time (s : State) (urgent : Bool) (code : Nat) (body : Octets) : (s.campSend urgent code body).time = s.time := by
  unfold State.campSend; dsimp only; split <;> rfl
@[simp] theorem State.campSend_belay (s : State) (urgent : Bool) (code : Nat) (body : Octets) : (s.campSend urgent code body).belay = s.belay := by
  unfold State.campSend; dsimp only; split <;> rfl
@[simp] theorem State.campSend_probe (s : State) (urgent : Bool) (code : Nat) (body : Octets) : (s.campSend urgent code body).probe = s.probe := by
  unfold State.campSend; dsimp only; split <;> rfl
@[simp] theorem State.campSend_sig (s : State) (urgent : Bool) (code : Nat) (body : Octets) : (s.campSend urgent code body).sig = s.sig := by
  unfold State.campSend; dsimp only; split <;> rfl
@[simp] theorem State.campSend_trig (s : State) (urgent : Bool) (code : Nat) (body : Octets) : (s.campSend urgent code body).trig = s.trig := by
  unfold State.campSend; dsimp only; split <;> rfl
@[simp] theorem State.campSend_mem (s : State) (urgent : Bool) (code : Nat) (body : Octets) : (s.campSend urgent code body).mem = s.mem := by
  unfold State.campSend; dsimp only; split <;> rfl
@[simp] theorem State.campSend_sto (s : State) (urgent : Bool) (code : Nat) (body : Octets) : (s.campSend urgent code body).sto = s.sto := by
  unfold State.campSend; dsimp only; split <;> rfl
@[simp] theorem State.campSend_comp (s : State) (urgent : Bool) (code : Nat) (body : Octets) : (s.campSend urgent code body).comp = s.comp := by
  unfold State.campSend; dsimp only; split <;> rfl

end Sys2Proof.Machine
end

