-- ==== Sys2Proof/Laws/Pair.lean ====
section
/-! SUPPORT. Sys2Proof/Laws/Pair.lean: what the pair's follow-up of a command leaves alone. It changes the pair's own state, the boot
step of a Second, the Rope events, the camp channel and, by a cause, the objects and the alert tree, and nothing else. -/
set_option Elab.async false
namespace Sys2Proof.Machine

/-- A fold keeps what every step keeps. -/
theorem foldl_keeps {α β : Type} (g : State → β) (f : State → α → State) (h : ∀ s a, g (f s a) = g s) (l : List α) :
    ∀ s, g (l.foldl f s) = g s := by
  induction l with
  | nil => intro s; rfl
  | cons a t ih => intro s; rw [List.foldl_cons, ih, h]

/-! ### progress -/

@[simp] theorem State.progress_pending (s : State) (code : Nat) : (s.progress code).pending = s.pending := by
  simp [State.progress]
@[simp] theorem State.progress_free (s : State) (code : Nat) : (s.progress code).free = s.free := by
  simp [State.progress]
@[simp] theorem State.progress_now (s : State) (code : Nat) : (s.progress code).now = s.now := by
  simp [State.progress]
@[simp] theorem State.progress_staged (s : State) (code : Nat) : (s.progress code).staged = s.staged := by
  simp [State.progress]
@[simp] theorem State.progress_badWords (s : State) (code : Nat) : (s.progress code).badWords = s.badWords := by
  simp [State.progress]
@[simp] theorem State.progress_written (s : State) (code : Nat) : (s.progress code).written = s.written := by
  simp [State.progress]
@[simp] theorem State.progress_locked (s : State) (code : Nat) : (s.progress code).locked = s.locked := by
  simp [State.progress]
@[simp] theorem State.progress_power (s : State) (code : Nat) : (s.progress code).power = s.power := by
  simp [State.progress]
@[simp] theorem State.progress_clk (s : State) (code : Nat) : (s.progress code).clk = s.clk := by
  simp [State.progress]
@[simp] theorem State.progress_commit (s : State) (code : Nat) : (s.progress code).commit = s.commit := by
  simp [State.progress]
@[simp] theorem State.progress_sec (s : State) (code : Nat) : (s.progress code).sec = s.sec := by
  simp [State.progress]
@[simp] theorem State.progress_ports (s : State) (code : Nat) : (s.progress code).ports = s.ports := by
  simp [State.progress]
@[simp] theorem State.progress_coh (s : State) (code : Nat) : (s.progress code).coh = s.coh := by
  simp [State.progress]
@[simp] theorem State.progress_time (s : State) (code : Nat) : (s.progress code).time = s.time := by
  simp [State.progress]
@[simp] theorem State.progress_belay (s : State) (code : Nat) : (s.progress code).belay = s.belay := by
  simp [State.progress]
@[simp] theorem State.progress_probe (s : State) (code : Nat) : (s.progress code).probe = s.probe := by
  simp [State.progress]
@[simp] theorem State.progress_trig (s : State) (code : Nat) : (s.progress code).trig = s.trig := by
  simp [State.progress]
@[simp] theorem State.progress_mem (s : State) (code : Nat) : (s.progress code).mem = s.mem := by
  simp [State.progress]
@[simp] theorem State.progress_sto (s : State) (code : Nat) : (s.progress code).sto = s.sto := by
  simp [State.progress]
@[simp] theorem State.progress_comp (s : State) (code : Nat) : (s.progress code).comp = s.comp := by
  simp [State.progress]

/-! ### syncInelig -/

@[simp] theorem State.syncInelig_pending (s : State) : (s.syncInelig).pending = s.pending := by
  unfold State.syncInelig; split <;> simp
@[simp] theorem State.syncInelig_free (s : State) : (s.syncInelig).free = s.free := by
  unfold State.syncInelig; split <;> simp
@[simp] theorem State.syncInelig_now (s : State) : (s.syncInelig).now = s.now := by
  unfold State.syncInelig; split <;> simp
@[simp] theorem State.syncInelig_staged (s : State) : (s.syncInelig).staged = s.staged := by
  unfold State.syncInelig; split <;> simp
@[simp] theorem State.syncInelig_badWords (s : State) : (s.syncInelig).badWords = s.badWords := by
  unfold State.syncInelig; split <;> simp
@[simp] theorem State.syncInelig_written (s : State) : (s.syncInelig).written = s.written := by
  unfold State.syncInelig; split <;> simp
@[simp] theorem State.syncInelig_locked (s : State) : (s.syncInelig).locked = s.locked := by
  unfold State.syncInelig; split <;> simp
@[simp] theorem State.syncInelig_power (s : State) : (s.syncInelig).power = s.power := by
  unfold State.syncInelig; split <;> simp
@[simp] theorem State.syncInelig_clk (s : State) : (s.syncInelig).clk = s.clk := by
  unfold State.syncInelig; split <;> simp
@[simp] theorem State.syncInelig_commit (s : State) : (s.syncInelig).commit = s.commit := by
  unfold State.syncInelig; split <;> simp
@[simp] theorem State.syncInelig_sec (s : State) : (s.syncInelig).sec = s.sec := by
  unfold State.syncInelig; split <;> simp
@[simp] theorem State.syncInelig_ports (s : State) : (s.syncInelig).ports = s.ports := by
  unfold State.syncInelig; split <;> simp
@[simp] theorem State.syncInelig_coh (s : State) : (s.syncInelig).coh = s.coh := by
  unfold State.syncInelig; split <;> simp
@[simp] theorem State.syncInelig_time (s : State) : (s.syncInelig).time = s.time := by
  unfold State.syncInelig; split <;> simp
@[simp] theorem State.syncInelig_belay (s : State) : (s.syncInelig).belay = s.belay := by
  unfold State.syncInelig; split <;> simp
@[simp] theorem State.syncInelig_probe (s : State) : (s.syncInelig).probe = s.probe := by
  unfold State.syncInelig; split <;> simp
@[simp] theorem State.syncInelig_trig (s : State) : (s.syncInelig).trig = s.trig := by
  unfold State.syncInelig; split <;> simp
@[simp] theorem State.syncInelig_mem (s : State) : (s.syncInelig).mem = s.mem := by
  unfold State.syncInelig; split <;> simp
@[simp] theorem State.syncInelig_sto (s : State) : (s.syncInelig).sto = s.sto := by
  unfold State.syncInelig; split <;> simp
@[simp] theorem State.syncInelig_comp (s : State) : (s.syncInelig).comp = s.comp := by
  unfold State.syncInelig; split <;> simp

/-! ### syncRope -/

@[simp] theorem State.syncRope_pending (s : State) : (s.syncRope).pending = s.pending := by
  unfold State.syncRope; dsimp only; split <;> split <;> rfl
@[simp] theorem State.syncRope_free (s : State) : (s.syncRope).free = s.free := by
  unfold State.syncRope; dsimp only; split <;> split <;> rfl
@[simp] theorem State.syncRope_now (s : State) : (s.syncRope).now = s.now := by
  unfold State.syncRope; dsimp only; split <;> split <;> rfl
@[simp] theorem State.syncRope_staged (s : State) : (s.syncRope).staged = s.staged := by
  unfold State.syncRope; dsimp only; split <;> split <;> rfl
@[simp] theorem State.syncRope_badWords (s : State) : (s.syncRope).badWords = s.badWords := by
  unfold State.syncRope; dsimp only; split <;> split <;> rfl
@[simp] theorem State.syncRope_written (s : State) : (s.syncRope).written = s.written := by
  unfold State.syncRope; dsimp only; split <;> split <;> rfl
@[simp] theorem State.syncRope_locked (s : State) : (s.syncRope).locked = s.locked := by
  unfold State.syncRope; dsimp only; split <;> split <;> rfl
@[simp] theorem State.syncRope_power (s : State) : (s.syncRope).power = s.power := by
  unfold State.syncRope; dsimp only; split <;> split <;> rfl
@[simp] theorem State.syncRope_clk (s : State) : (s.syncRope).clk = s.clk := by
  unfold State.syncRope; dsimp only; split <;> split <;> rfl
@[simp] theorem State.syncRope_commit (s : State) : (s.syncRope).commit = s.commit := by
  unfold State.syncRope; dsimp only; split <;> split <;> rfl
@[simp] theorem State.syncRope_sec (s : State) : (s.syncRope).sec = s.sec := by
  unfold State.syncRope; dsimp only; split <;> split <;> rfl
@[simp] theorem State.syncRope_ports (s : State) : (s.syncRope).ports = s.ports := by
  unfold State.syncRope; dsimp only; split <;> split <;> rfl
@[simp] theorem State.syncRope_coh (s : State) : (s.syncRope).coh = s.coh := by
  unfold State.syncRope; dsimp only; split <;> split <;> rfl
@[simp] theorem State.syncRope_time (s : State) : (s.syncRope).time = s.time := by
  unfold State.syncRope; dsimp only; split <;> split <;> rfl
@[simp] theorem State.syncRope_belay (s : State) : (s.syncRope).belay = s.belay := by
  unfold State.syncRope; dsimp only; split <;> split <;> rfl
@[simp] theorem State.syncRope_probe (s : State) : (s.syncRope).probe = s.probe := by
  unfold State.syncRope; dsimp only; split <;> split <;> rfl
@[simp] theorem State.syncRope_trig (s : State) : (s.syncRope).trig = s.trig := by
  unfold State.syncRope; dsimp only; split <;> split <;> rfl
@[simp] theorem State.syncRope_mem (s : State) : (s.syncRope).mem = s.mem := by
  unfold State.syncRope; dsimp only; split <;> split <;> rfl
@[simp] theorem State.syncRope_sto (s : State) : (s.syncRope).sto = s.sto := by
  unfold State.syncRope; dsimp only; split <;> split <;> rfl
@[simp] theorem State.syncRope_comp (s : State) : (s.syncRope).comp = s.comp := by
  unfold State.syncRope; dsimp only; split <;> split <;> rfl

/-! ### setEligible -/

@[simp] theorem State.setEligible_pending (s : State) (e : Bool) : (s.setEligible e).pending = s.pending := by
  unfold State.setEligible; dsimp only; split <;> simp
@[simp] theorem State.setEligible_free (s : State) (e : Bool) : (s.setEligible e).free = s.free := by
  unfold State.setEligible; dsimp only; split <;> simp
@[simp] theorem State.setEligible_now (s : State) (e : Bool) : (s.setEligible e).now = s.now := by
  unfold State.setEligible; dsimp only; split <;> simp
@[simp] theorem State.setEligible_staged (s : State) (e : Bool) : (s.setEligible e).staged = s.staged := by
  unfold State.setEligible; dsimp only; split <;> simp
@[simp] theorem State.setEligible_badWords (s : State) (e : Bool) : (s.setEligible e).badWords = s.badWords := by
  unfold State.setEligible; dsimp only; split <;> simp
@[simp] theorem State.setEligible_written (s : State) (e : Bool) : (s.setEligible e).written = s.written := by
  unfold State.setEligible; dsimp only; split <;> simp
@[simp] theorem State.setEligible_locked (s : State) (e : Bool) : (s.setEligible e).locked = s.locked := by
  unfold State.setEligible; dsimp only; split <;> simp
@[simp] theorem State.setEligible_power (s : State) (e : Bool) : (s.setEligible e).power = s.power := by
  unfold State.setEligible; dsimp only; split <;> simp
@[simp] theorem State.setEligible_clk (s : State) (e : Bool) : (s.setEligible e).clk = s.clk := by
  unfold State.setEligible; dsimp only; split <;> simp
@[simp] theorem State.setEligible_commit (s : State) (e : Bool) : (s.setEligible e).commit = s.commit := by
  unfold State.setEligible; dsimp only; split <;> simp
@[simp] theorem State.setEligible_sec (s : State) (e : Bool) : (s.setEligible e).sec = s.sec := by
  unfold State.setEligible; dsimp only; split <;> simp
@[simp] theorem State.setEligible_ports (s : State) (e : Bool) : (s.setEligible e).ports = s.ports := by
  unfold State.setEligible; dsimp only; split <;> simp
@[simp] theorem State.setEligible_coh (s : State) (e : Bool) : (s.setEligible e).coh = s.coh := by
  unfold State.setEligible; dsimp only; split <;> simp
@[simp] theorem State.setEligible_time (s : State) (e : Bool) : (s.setEligible e).time = s.time := by
  unfold State.setEligible; dsimp only; split <;> simp
@[simp] theorem State.setEligible_belay (s : State) (e : Bool) : (s.setEligible e).belay = s.belay := by
  unfold State.setEligible; dsimp only; split <;> simp
@[simp] theorem State.setEligible_probe (s : State) (e : Bool) : (s.setEligible e).probe = s.probe := by
  unfold State.setEligible; dsimp only; split <;> simp
@[simp] theorem State.setEligible_trig (s : State) (e : Bool) : (s.setEligible e).trig = s.trig := by
  unfold State.setEligible; dsimp only; split <;> simp
@[simp] theorem State.setEligible_mem (s : State) (e : Bool) : (s.setEligible e).mem = s.mem := by
  unfold State.setEligible; dsimp only; split <;> simp
@[simp] theorem State.setEligible_sto (s : State) (e : Bool) : (s.setEligible e).sto = s.sto := by
  unfold State.setEligible; dsimp only; split <;> simp
@[simp] theorem State.setEligible_comp (s : State) (e : Bool) : (s.setEligible e).comp = s.comp := by
  unfold State.setEligible; dsimp only; split <;> simp

/-! ### syncElig -/

@[simp] theorem State.syncElig_pending (s : State) : (s.syncElig).pending = s.pending := by
  unfold State.syncElig; dsimp only; repeat' split
  all_goals simp
@[simp] theorem State.syncElig_free (s : State) : (s.syncElig).free = s.free := by
  unfold State.syncElig; dsimp only; repeat' split
  all_goals simp
@[simp] theorem State.syncElig_now (s : State) : (s.syncElig).now = s.now := by
  unfold State.syncElig; dsimp only; repeat' split
  all_goals simp
@[simp] theorem State.syncElig_staged (s : State) : (s.syncElig).staged = s.staged := by
  unfold State.syncElig; dsimp only; repeat' split
  all_goals simp
@[simp] theorem State.syncElig_badWords (s : State) : (s.syncElig).badWords = s.badWords := by
  unfold State.syncElig; dsimp only; repeat' split
  all_goals simp
@[simp] theorem State.syncElig_written (s : State) : (s.syncElig).written = s.written := by
  unfold State.syncElig; dsimp only; repeat' split
  all_goals simp
@[simp] theorem State.syncElig_locked (s : State) : (s.syncElig).locked = s.locked := by
  unfold State.syncElig; dsimp only; repeat' split
  all_goals simp
@[simp] theorem State.syncElig_power (s : State) : (s.syncElig).power = s.power := by
  unfold State.syncElig; dsimp only; repeat' split
  all_goals simp
@[simp] theorem State.syncElig_clk (s : State) : (s.syncElig).clk = s.clk := by
  unfold State.syncElig; dsimp only; repeat' split
  all_goals simp
@[simp] theorem State.syncElig_commit (s : State) : (s.syncElig).commit = s.commit := by
  unfold State.syncElig; dsimp only; repeat' split
  all_goals simp
@[simp] theorem State.syncElig_sec (s : State) : (s.syncElig).sec = s.sec := by
  unfold State.syncElig; dsimp only; repeat' split
  all_goals simp
@[simp] theorem State.syncElig_ports (s : State) : (s.syncElig).ports = s.ports := by
  unfold State.syncElig; dsimp only; repeat' split
  all_goals simp
@[simp] theorem State.syncElig_coh (s : State) : (s.syncElig).coh = s.coh := by
  unfold State.syncElig; dsimp only; repeat' split
  all_goals simp
@[simp] theorem State.syncElig_time (s : State) : (s.syncElig).time = s.time := by
  unfold State.syncElig; dsimp only; repeat' split
  all_goals simp
@[simp] theorem State.syncElig_belay (s : State) : (s.syncElig).belay = s.belay := by
  unfold State.syncElig; dsimp only; repeat' split
  all_goals simp
@[simp] theorem State.syncElig_probe (s : State) : (s.syncElig).probe = s.probe := by
  unfold State.syncElig; dsimp only; repeat' split
  all_goals simp
@[simp] theorem State.syncElig_trig (s : State) : (s.syncElig).trig = s.trig := by
  unfold State.syncElig; dsimp only; repeat' split
  all_goals simp
@[simp] theorem State.syncElig_mem (s : State) : (s.syncElig).mem = s.mem := by
  unfold State.syncElig; dsimp only; repeat' split
  all_goals simp
@[simp] theorem State.syncElig_sto (s : State) : (s.syncElig).sto = s.sto := by
  unfold State.syncElig; dsimp only; repeat' split
  all_goals simp
@[simp] theorem State.syncElig_comp (s : State) : (s.syncElig).comp = s.comp := by
  unfold State.syncElig; dsimp only; repeat' split
  all_goals simp

/-! ### toDict -/

@[simp] theorem State.toDict_pending (s : State) : (s.toDict).pending = s.pending := by
  simp [State.toDict]
@[simp] theorem State.toDict_free (s : State) : (s.toDict).free = s.free := by
  simp [State.toDict]
@[simp] theorem State.toDict_now (s : State) : (s.toDict).now = s.now := by
  simp [State.toDict]
@[simp] theorem State.toDict_staged (s : State) : (s.toDict).staged = s.staged := by
  simp [State.toDict]
@[simp] theorem State.toDict_badWords (s : State) : (s.toDict).badWords = s.badWords := by
  simp [State.toDict]
@[simp] theorem State.toDict_written (s : State) : (s.toDict).written = s.written := by
  simp [State.toDict]
@[simp] theorem State.toDict_locked (s : State) : (s.toDict).locked = s.locked := by
  simp [State.toDict]
@[simp] theorem State.toDict_power (s : State) : (s.toDict).power = s.power := by
  simp [State.toDict]
@[simp] theorem State.toDict_clk (s : State) : (s.toDict).clk = s.clk := by
  simp [State.toDict]
@[simp] theorem State.toDict_commit (s : State) : (s.toDict).commit = s.commit := by
  simp [State.toDict]
@[simp] theorem State.toDict_sec (s : State) : (s.toDict).sec = s.sec := by
  simp [State.toDict]
@[simp] theorem State.toDict_ports (s : State) : (s.toDict).ports = s.ports := by
  simp [State.toDict]
@[simp] theorem State.toDict_coh (s : State) : (s.toDict).coh = s.coh := by
  simp [State.toDict]
@[simp] theorem State.toDict_time (s : State) : (s.toDict).time = s.time := by
  simp [State.toDict]
@[simp] theorem State.toDict_belay (s : State) : (s.toDict).belay = s.belay := by
  simp [State.toDict]
@[simp] theorem State.toDict_probe (s : State) : (s.toDict).probe = s.probe := by
  simp [State.toDict]
@[simp] theorem State.toDict_trig (s : State) : (s.toDict).trig = s.trig := by
  simp [State.toDict]
@[simp] theorem State.toDict_mem (s : State) : (s.toDict).mem = s.mem := by
  simp [State.toDict]
@[simp] theorem State.toDict_sto (s : State) : (s.toDict).sto = s.sto := by
  simp [State.toDict]
@[simp] theorem State.toDict_comp (s : State) : (s.toDict).comp = s.comp := by
  simp [State.toDict]

/-! ### stepUp -/

@[simp] theorem State.stepUp_pending (s : State) (n : Nat) : (s.stepUp n).pending = s.pending := by
  unfold State.stepUp; split <;> simp
@[simp] theorem State.stepUp_free (s : State) (n : Nat) : (s.stepUp n).free = s.free := by
  unfold State.stepUp; split <;> simp
@[simp] theorem State.stepUp_now (s : State) (n : Nat) : (s.stepUp n).now = s.now := by
  unfold State.stepUp; split <;> simp
@[simp] theorem State.stepUp_staged (s : State) (n : Nat) : (s.stepUp n).staged = s.staged := by
  unfold State.stepUp; split <;> simp
@[simp] theorem State.stepUp_badWords (s : State) (n : Nat) : (s.stepUp n).badWords = s.badWords := by
  unfold State.stepUp; split <;> simp
@[simp] theorem State.stepUp_written (s : State) (n : Nat) : (s.stepUp n).written = s.written := by
  unfold State.stepUp; split <;> simp
@[simp] theorem State.stepUp_locked (s : State) (n : Nat) : (s.stepUp n).locked = s.locked := by
  unfold State.stepUp; split <;> simp
@[simp] theorem State.stepUp_power (s : State) (n : Nat) : (s.stepUp n).power = s.power := by
  unfold State.stepUp; split <;> simp
@[simp] theorem State.stepUp_clk (s : State) (n : Nat) : (s.stepUp n).clk = s.clk := by
  unfold State.stepUp; split <;> simp
@[simp] theorem State.stepUp_commit (s : State) (n : Nat) : (s.stepUp n).commit = s.commit := by
  unfold State.stepUp; split <;> simp
@[simp] theorem State.stepUp_sec (s : State) (n : Nat) : (s.stepUp n).sec = s.sec := by
  unfold State.stepUp; split <;> simp
@[simp] theorem State.stepUp_ports (s : State) (n : Nat) : (s.stepUp n).ports = s.ports := by
  unfold State.stepUp; split <;> simp
@[simp] theorem State.stepUp_coh (s : State) (n : Nat) : (s.stepUp n).coh = s.coh := by
  unfold State.stepUp; split <;> simp
@[simp] theorem State.stepUp_time (s : State) (n : Nat) : (s.stepUp n).time = s.time := by
  unfold State.stepUp; split <;> simp
@[simp] theorem State.stepUp_belay (s : State) (n : Nat) : (s.stepUp n).belay = s.belay := by
  unfold State.stepUp; split <;> simp
@[simp] theorem State.stepUp_probe (s : State) (n : Nat) : (s.stepUp n).probe = s.probe := by
  unfold State.stepUp; split <;> simp
@[simp] theorem State.stepUp_trig (s : State) (n : Nat) : (s.stepUp n).trig = s.trig := by
  unfold State.stepUp; split <;> simp
@[simp] theorem State.stepUp_mem (s : State) (n : Nat) : (s.stepUp n).mem = s.mem := by
  unfold State.stepUp; split <;> simp
@[simp] theorem State.stepUp_sto (s : State) (n : Nat) : (s.stepUp n).sto = s.sto := by
  unfold State.stepUp; split <;> simp
@[simp] theorem State.stepUp_comp (s : State) (n : Nat) : (s.stepUp n).comp = s.comp := by
  unfold State.stepUp; split <;> simp

/-! ### secondFollow -/

@[simp] theorem State.secondFollow_pending (s : State) : (s.secondFollow).pending = s.pending := by
  unfold State.secondFollow; dsimp only; repeat' split
  all_goals simp
@[simp] theorem State.secondFollow_free (s : State) : (s.secondFollow).free = s.free := by
  unfold State.secondFollow; dsimp only; repeat' split
  all_goals simp
@[simp] theorem State.secondFollow_now (s : State) : (s.secondFollow).now = s.now := by
  unfold State.secondFollow; dsimp only; repeat' split
  all_goals simp
@[simp] theorem State.secondFollow_staged (s : State) : (s.secondFollow).staged = s.staged := by
  unfold State.secondFollow; dsimp only; repeat' split
  all_goals simp
@[simp] theorem State.secondFollow_badWords (s : State) : (s.secondFollow).badWords = s.badWords := by
  unfold State.secondFollow; dsimp only; repeat' split
  all_goals simp
@[simp] theorem State.secondFollow_written (s : State) : (s.secondFollow).written = s.written := by
  unfold State.secondFollow; dsimp only; repeat' split
  all_goals simp
@[simp] theorem State.secondFollow_locked (s : State) : (s.secondFollow).locked = s.locked := by
  unfold State.secondFollow; dsimp only; repeat' split
  all_goals simp
@[simp] theorem State.secondFollow_power (s : State) : (s.secondFollow).power = s.power := by
  unfold State.secondFollow; dsimp only; repeat' split
  all_goals simp
@[simp] theorem State.secondFollow_clk (s : State) : (s.secondFollow).clk = s.clk := by
  unfold State.secondFollow; dsimp only; repeat' split
  all_goals simp
@[simp] theorem State.secondFollow_commit (s : State) : (s.secondFollow).commit = s.commit := by
  unfold State.secondFollow; dsimp only; repeat' split
  all_goals simp
@[simp] theorem State.secondFollow_sec (s : State) : (s.secondFollow).sec = s.sec := by
  unfold State.secondFollow; dsimp only; repeat' split
  all_goals simp
@[simp] theorem State.secondFollow_ports (s : State) : (s.secondFollow).ports = s.ports := by
  unfold State.secondFollow; dsimp only; repeat' split
  all_goals simp
@[simp] theorem State.secondFollow_coh (s : State) : (s.secondFollow).coh = s.coh := by
  unfold State.secondFollow; dsimp only; repeat' split
  all_goals simp
@[simp] theorem State.secondFollow_time (s : State) : (s.secondFollow).time = s.time := by
  unfold State.secondFollow; dsimp only; repeat' split
  all_goals simp
@[simp] theorem State.secondFollow_belay (s : State) : (s.secondFollow).belay = s.belay := by
  unfold State.secondFollow; dsimp only; repeat' split
  all_goals simp
@[simp] theorem State.secondFollow_probe (s : State) : (s.secondFollow).probe = s.probe := by
  unfold State.secondFollow; dsimp only; repeat' split
  all_goals simp
@[simp] theorem State.secondFollow_trig (s : State) : (s.secondFollow).trig = s.trig := by
  unfold State.secondFollow; dsimp only; repeat' split
  all_goals simp
@[simp] theorem State.secondFollow_mem (s : State) : (s.secondFollow).mem = s.mem := by
  unfold State.secondFollow; dsimp only; repeat' split
  all_goals simp
@[simp] theorem State.secondFollow_sto (s : State) : (s.secondFollow).sto = s.sto := by
  unfold State.secondFollow; dsimp only; repeat' split
  all_goals simp
@[simp] theorem State.secondFollow_comp (s : State) : (s.secondFollow).comp = s.comp := by
  unfold State.secondFollow; dsimp only; repeat' split
  all_goals simp

/-! ### sendPortStat -/

@[simp] theorem State.sendPortStat_pending (s : State) (p : Nat) : (s.sendPortStat p).pending = s.pending := by
  unfold State.sendPortStat; dsimp only; split <;> simp
@[simp] theorem State.sendPortStat_free (s : State) (p : Nat) : (s.sendPortStat p).free = s.free := by
  unfold State.sendPortStat; dsimp only; split <;> simp
@[simp] theorem State.sendPortStat_now (s : State) (p : Nat) : (s.sendPortStat p).now = s.now := by
  unfold State.sendPortStat; dsimp only; split <;> simp
@[simp] theorem State.sendPortStat_staged (s : State) (p : Nat) : (s.sendPortStat p).staged = s.staged := by
  unfold State.sendPortStat; dsimp only; split <;> simp
@[simp] theorem State.sendPortStat_badWords (s : State) (p : Nat) : (s.sendPortStat p).badWords = s.badWords := by
  unfold State.sendPortStat; dsimp only; split <;> simp
@[simp] theorem State.sendPortStat_written (s : State) (p : Nat) : (s.sendPortStat p).written = s.written := by
  unfold State.sendPortStat; dsimp only; split <;> simp
@[simp] theorem State.sendPortStat_locked (s : State) (p : Nat) : (s.sendPortStat p).locked = s.locked := by
  unfold State.sendPortStat; dsimp only; split <;> simp
@[simp] theorem State.sendPortStat_power (s : State) (p : Nat) : (s.sendPortStat p).power = s.power := by
  unfold State.sendPortStat; dsimp only; split <;> simp
@[simp] theorem State.sendPortStat_clk (s : State) (p : Nat) : (s.sendPortStat p).clk = s.clk := by
  unfold State.sendPortStat; dsimp only; split <;> simp
@[simp] theorem State.sendPortStat_commit (s : State) (p : Nat) : (s.sendPortStat p).commit = s.commit := by
  unfold State.sendPortStat; dsimp only; split <;> simp
@[simp] theorem State.sendPortStat_sec (s : State) (p : Nat) : (s.sendPortStat p).sec = s.sec := by
  unfold State.sendPortStat; dsimp only; split <;> simp
@[simp] theorem State.sendPortStat_ports (s : State) (p : Nat) : (s.sendPortStat p).ports = s.ports := by
  unfold State.sendPortStat; dsimp only; split <;> simp
@[simp] theorem State.sendPortStat_coh (s : State) (p : Nat) : (s.sendPortStat p).coh = s.coh := by
  unfold State.sendPortStat; dsimp only; split <;> simp
@[simp] theorem State.sendPortStat_time (s : State) (p : Nat) : (s.sendPortStat p).time = s.time := by
  unfold State.sendPortStat; dsimp only; split <;> simp
@[simp] theorem State.sendPortStat_belay (s : State) (p : Nat) : (s.sendPortStat p).belay = s.belay := by
  unfold State.sendPortStat; dsimp only; split <;> simp
@[simp] theorem State.sendPortStat_probe (s : State) (p : Nat) : (s.sendPortStat p).probe = s.probe := by
  unfold State.sendPortStat; dsimp only; split <;> simp
@[simp] theorem State.sendPortStat_trig (s : State) (p : Nat) : (s.sendPortStat p).trig = s.trig := by
  unfold State.sendPortStat; dsimp only; split <;> simp
@[simp] theorem State.sendPortStat_mem (s : State) (p : Nat) : (s.sendPortStat p).mem = s.mem := by
  unfold State.sendPortStat; dsimp only; split <;> simp
@[simp] theorem State.sendPortStat_sto (s : State) (p : Nat) : (s.sendPortStat p).sto = s.sto := by
  unfold State.sendPortStat; dsimp only; split <;> simp
@[simp] theorem State.sendPortStat_comp (s : State) (p : Nat) : (s.sendPortStat p).comp = s.comp := by
  unfold State.sendPortStat; dsimp only; split <;> simp

/-! ### leadPort -/

@[simp] theorem State.leadPort_pending (s : State) (p : Nat) : (s.leadPort p).pending = s.pending := by
  unfold State.leadPort; dsimp only; repeat' split
  all_goals simp
@[simp] theorem State.leadPort_free (s : State) (p : Nat) : (s.leadPort p).free = s.free := by
  unfold State.leadPort; dsimp only; repeat' split
  all_goals simp
@[simp] theorem State.leadPort_now (s : State) (p : Nat) : (s.leadPort p).now = s.now := by
  unfold State.leadPort; dsimp only; repeat' split
  all_goals simp
@[simp] theorem State.leadPort_staged (s : State) (p : Nat) : (s.leadPort p).staged = s.staged := by
  unfold State.leadPort; dsimp only; repeat' split
  all_goals simp
@[simp] theorem State.leadPort_badWords (s : State) (p : Nat) : (s.leadPort p).badWords = s.badWords := by
  unfold State.leadPort; dsimp only; repeat' split
  all_goals simp
@[simp] theorem State.leadPort_written (s : State) (p : Nat) : (s.leadPort p).written = s.written := by
  unfold State.leadPort; dsimp only; repeat' split
  all_goals simp
@[simp] theorem State.leadPort_locked (s : State) (p : Nat) : (s.leadPort p).locked = s.locked := by
  unfold State.leadPort; dsimp only; repeat' split
  all_goals simp
@[simp] theorem State.leadPort_power (s : State) (p : Nat) : (s.leadPort p).power = s.power := by
  unfold State.leadPort; dsimp only; repeat' split
  all_goals simp
@[simp] theorem State.leadPort_clk (s : State) (p : Nat) : (s.leadPort p).clk = s.clk := by
  unfold State.leadPort; dsimp only; repeat' split
  all_goals simp
@[simp] theorem State.leadPort_commit (s : State) (p : Nat) : (s.leadPort p).commit = s.commit := by
  unfold State.leadPort; dsimp only; repeat' split
  all_goals simp
@[simp] theorem State.leadPort_sec (s : State) (p : Nat) : (s.leadPort p).sec = s.sec := by
  unfold State.leadPort; dsimp only; repeat' split
  all_goals simp
@[simp] theorem State.leadPort_ports (s : State) (p : Nat) : (s.leadPort p).ports = s.ports := by
  unfold State.leadPort; dsimp only; repeat' split
  all_goals simp
@[simp] theorem State.leadPort_coh (s : State) (p : Nat) : (s.leadPort p).coh = s.coh := by
  unfold State.leadPort; dsimp only; repeat' split
  all_goals simp
@[simp] theorem State.leadPort_time (s : State) (p : Nat) : (s.leadPort p).time = s.time := by
  unfold State.leadPort; dsimp only; repeat' split
  all_goals simp
@[simp] theorem State.leadPort_belay (s : State) (p : Nat) : (s.leadPort p).belay = s.belay := by
  unfold State.leadPort; dsimp only; repeat' split
  all_goals simp
@[simp] theorem State.leadPort_probe (s : State) (p : Nat) : (s.leadPort p).probe = s.probe := by
  unfold State.leadPort; dsimp only; repeat' split
  all_goals simp
@[simp] theorem State.leadPort_trig (s : State) (p : Nat) : (s.leadPort p).trig = s.trig := by
  unfold State.leadPort; dsimp only; repeat' split
  all_goals simp
@[simp] theorem State.leadPort_mem (s : State) (p : Nat) : (s.leadPort p).mem = s.mem := by
  unfold State.leadPort; dsimp only; repeat' split
  all_goals simp
@[simp] theorem State.leadPort_sto (s : State) (p : Nat) : (s.leadPort p).sto = s.sto := by
  unfold State.leadPort; dsimp only; repeat' split
  all_goals simp
@[simp] theorem State.leadPort_comp (s : State) (p : Nat) : (s.leadPort p).comp = s.comp := by
  unfold State.leadPort; dsimp only; repeat' split
  all_goals simp

/-! ### leadFollow -/

@[simp] theorem State.leadFollow_pending (s : State) : (s.leadFollow).pending = s.pending := by
  have h : ∀ s : State, ((upto 6).foldl State.leadPort s).pending = s.pending := foldl_keeps State.pending _ (fun s a => by simp) _
  unfold State.leadFollow; dsimp only; repeat' split
  all_goals simp [h]
@[simp] theorem State.leadFollow_free (s : State) : (s.leadFollow).free = s.free := by
  have h : ∀ s : State, ((upto 6).foldl State.leadPort s).free = s.free := foldl_keeps State.free _ (fun s a => by simp) _
  unfold State.leadFollow; dsimp only; repeat' split
  all_goals simp [h]
@[simp] theorem State.leadFollow_now (s : State) : (s.leadFollow).now = s.now := by
  have h : ∀ s : State, ((upto 6).foldl State.leadPort s).now = s.now := foldl_keeps State.now _ (fun s a => by simp) _
  unfold State.leadFollow; dsimp only; repeat' split
  all_goals simp [h]
@[simp] theorem State.leadFollow_staged (s : State) : (s.leadFollow).staged = s.staged := by
  have h : ∀ s : State, ((upto 6).foldl State.leadPort s).staged = s.staged := foldl_keeps State.staged _ (fun s a => by simp) _
  unfold State.leadFollow; dsimp only; repeat' split
  all_goals simp [h]
@[simp] theorem State.leadFollow_badWords (s : State) : (s.leadFollow).badWords = s.badWords := by
  have h : ∀ s : State, ((upto 6).foldl State.leadPort s).badWords = s.badWords := foldl_keeps State.badWords _ (fun s a => by simp) _
  unfold State.leadFollow; dsimp only; repeat' split
  all_goals simp [h]
@[simp] theorem State.leadFollow_written (s : State) : (s.leadFollow).written = s.written := by
  have h : ∀ s : State, ((upto 6).foldl State.leadPort s).written = s.written := foldl_keeps State.written _ (fun s a => by simp) _
  unfold State.leadFollow; dsimp only; repeat' split
  all_goals simp [h]
@[simp] theorem State.leadFollow_locked (s : State) : (s.leadFollow).locked = s.locked := by
  have h : ∀ s : State, ((upto 6).foldl State.leadPort s).locked = s.locked := foldl_keeps State.locked _ (fun s a => by simp) _
  unfold State.leadFollow; dsimp only; repeat' split
  all_goals simp [h]
@[simp] theorem State.leadFollow_power (s : State) : (s.leadFollow).power = s.power := by
  have h : ∀ s : State, ((upto 6).foldl State.leadPort s).power = s.power := foldl_keeps State.power _ (fun s a => by simp) _
  unfold State.leadFollow; dsimp only; repeat' split
  all_goals simp [h]
@[simp] theorem State.leadFollow_clk (s : State) : (s.leadFollow).clk = s.clk := by
  have h : ∀ s : State, ((upto 6).foldl State.leadPort s).clk = s.clk := foldl_keeps State.clk _ (fun s a => by simp) _
  unfold State.leadFollow; dsimp only; repeat' split
  all_goals simp [h]
@[simp] theorem State.leadFollow_commit (s : State) : (s.leadFollow).commit = s.commit := by
  have h : ∀ s : State, ((upto 6).foldl State.leadPort s).commit = s.commit := foldl_keeps State.commit _ (fun s a => by simp) _
  unfold State.leadFollow; dsimp only; repeat' split
  all_goals simp [h]
@[simp] theorem State.leadFollow_sec (s : State) : (s.leadFollow).sec = s.sec := by
  have h : ∀ s : State, ((upto 6).foldl State.leadPort s).sec = s.sec := foldl_keeps State.sec _ (fun s a => by simp) _
  unfold State.leadFollow; dsimp only; repeat' split
  all_goals simp [h]
@[simp] theorem State.leadFollow_ports (s : State) : (s.leadFollow).ports = s.ports := by
  have h : ∀ s : State, ((upto 6).foldl State.leadPort s).ports = s.ports := foldl_keeps State.ports _ (fun s a => by simp) _
  unfold State.leadFollow; dsimp only; repeat' split
  all_goals simp [h]
@[simp] theorem State.leadFollow_coh (s : State) : (s.leadFollow).coh = s.coh := by
  have h : ∀ s : State, ((upto 6).foldl State.leadPort s).coh = s.coh := foldl_keeps State.coh _ (fun s a => by simp) _
  unfold State.leadFollow; dsimp only; repeat' split
  all_goals simp [h]
@[simp] theorem State.leadFollow_time (s : State) : (s.leadFollow).time = s.time := by
  have h : ∀ s : State, ((upto 6).foldl State.leadPort s).time = s.time := foldl_keeps State.time _ (fun s a => by simp) _
  unfold State.leadFollow; dsimp only; repeat' split
  all_goals simp [h]
@[simp] theorem State.leadFollow_belay (s : State) : (s.leadFollow).belay = s.belay := by
  have h : ∀ s : State, ((upto 6).foldl State.leadPort s).belay = s.belay := foldl_keeps State.belay _ (fun s a => by simp) _
  unfold State.leadFollow; dsimp only; repeat' split
  all_goals simp [h]
@[simp] theorem State.leadFollow_probe (s : State) : (s.leadFollow).probe = s.probe := by
  have h : ∀ s : State, ((upto 6).foldl State.leadPort s).probe = s.probe := foldl_keeps State.probe _ (fun s a => by simp) _
  unfold State.leadFollow; dsimp only; repeat' split
  all_goals simp [h]
@[simp] theorem State.leadFollow_trig (s : State) : (s.leadFollow).trig = s.trig := by
  have h : ∀ s : State, ((upto 6).foldl State.leadPort s).trig = s.trig := foldl_keeps State.trig _ (fun s a => by simp) _
  unfold State.leadFollow; dsimp only; repeat' split
  all_goals simp [h]
@[simp] theorem State.leadFollow_mem (s : State) : (s.leadFollow).mem = s.mem := by
  have h : ∀ s : State, ((upto 6).foldl State.leadPort s).mem = s.mem := foldl_keeps State.mem _ (fun s a => by simp) _
  unfold State.leadFollow; dsimp only; repeat' split
  all_goals simp [h]
@[simp] theorem State.leadFollow_sto (s : State) : (s.leadFollow).sto = s.sto := by
  have h : ∀ s : State, ((upto 6).foldl State.leadPort s).sto = s.sto := foldl_keeps State.sto _ (fun s a => by simp) _
  unfold State.leadFollow; dsimp only; repeat' split
  all_goals simp [h]
@[simp] theorem State.leadFollow_comp (s : State) : (s.leadFollow).comp = s.comp := by
  have h : ∀ s : State, ((upto 6).foldl State.leadPort s).comp = s.comp := foldl_keeps State.comp _ (fun s a => by simp) _
  unfold State.leadFollow; dsimp only; repeat' split
  all_goals simp [h]

/-! ### pairFollow -/

@[simp] theorem State.pairFollow_pending (s : State) : (s.pairFollow).pending = s.pending := by
  have h : ∀ s : State, ((upto 6).foldl State.sendPortStat s).pending = s.pending := foldl_keeps State.pending _ (fun s a => by simp) _
  unfold State.pairFollow; dsimp only; repeat' split
  all_goals simp [h]
@[simp] theorem State.pairFollow_free (s : State) : (s.pairFollow).free = s.free := by
  have h : ∀ s : State, ((upto 6).foldl State.sendPortStat s).free = s.free := foldl_keeps State.free _ (fun s a => by simp) _
  unfold State.pairFollow; dsimp only; repeat' split
  all_goals simp [h]
@[simp] theorem State.pairFollow_now (s : State) : (s.pairFollow).now = s.now := by
  have h : ∀ s : State, ((upto 6).foldl State.sendPortStat s).now = s.now := foldl_keeps State.now _ (fun s a => by simp) _
  unfold State.pairFollow; dsimp only; repeat' split
  all_goals simp [h]
@[simp] theorem State.pairFollow_staged (s : State) : (s.pairFollow).staged = s.staged := by
  have h : ∀ s : State, ((upto 6).foldl State.sendPortStat s).staged = s.staged := foldl_keeps State.staged _ (fun s a => by simp) _
  unfold State.pairFollow; dsimp only; repeat' split
  all_goals simp [h]
@[simp] theorem State.pairFollow_badWords (s : State) : (s.pairFollow).badWords = s.badWords := by
  have h : ∀ s : State, ((upto 6).foldl State.sendPortStat s).badWords = s.badWords := foldl_keeps State.badWords _ (fun s a => by simp) _
  unfold State.pairFollow; dsimp only; repeat' split
  all_goals simp [h]
@[simp] theorem State.pairFollow_written (s : State) : (s.pairFollow).written = s.written := by
  have h : ∀ s : State, ((upto 6).foldl State.sendPortStat s).written = s.written := foldl_keeps State.written _ (fun s a => by simp) _
  unfold State.pairFollow; dsimp only; repeat' split
  all_goals simp [h]
@[simp] theorem State.pairFollow_locked (s : State) : (s.pairFollow).locked = s.locked := by
  have h : ∀ s : State, ((upto 6).foldl State.sendPortStat s).locked = s.locked := foldl_keeps State.locked _ (fun s a => by simp) _
  unfold State.pairFollow; dsimp only; repeat' split
  all_goals simp [h]
@[simp] theorem State.pairFollow_power (s : State) : (s.pairFollow).power = s.power := by
  have h : ∀ s : State, ((upto 6).foldl State.sendPortStat s).power = s.power := foldl_keeps State.power _ (fun s a => by simp) _
  unfold State.pairFollow; dsimp only; repeat' split
  all_goals simp [h]
@[simp] theorem State.pairFollow_clk (s : State) : (s.pairFollow).clk = s.clk := by
  have h : ∀ s : State, ((upto 6).foldl State.sendPortStat s).clk = s.clk := foldl_keeps State.clk _ (fun s a => by simp) _
  unfold State.pairFollow; dsimp only; repeat' split
  all_goals simp [h]
@[simp] theorem State.pairFollow_commit (s : State) : (s.pairFollow).commit = s.commit := by
  have h : ∀ s : State, ((upto 6).foldl State.sendPortStat s).commit = s.commit := foldl_keeps State.commit _ (fun s a => by simp) _
  unfold State.pairFollow; dsimp only; repeat' split
  all_goals simp [h]
@[simp] theorem State.pairFollow_sec (s : State) : (s.pairFollow).sec = s.sec := by
  have h : ∀ s : State, ((upto 6).foldl State.sendPortStat s).sec = s.sec := foldl_keeps State.sec _ (fun s a => by simp) _
  unfold State.pairFollow; dsimp only; repeat' split
  all_goals simp [h]
@[simp] theorem State.pairFollow_ports (s : State) : (s.pairFollow).ports = s.ports := by
  have h : ∀ s : State, ((upto 6).foldl State.sendPortStat s).ports = s.ports := foldl_keeps State.ports _ (fun s a => by simp) _
  unfold State.pairFollow; dsimp only; repeat' split
  all_goals simp [h]
@[simp] theorem State.pairFollow_coh (s : State) : (s.pairFollow).coh = s.coh := by
  have h : ∀ s : State, ((upto 6).foldl State.sendPortStat s).coh = s.coh := foldl_keeps State.coh _ (fun s a => by simp) _
  unfold State.pairFollow; dsimp only; repeat' split
  all_goals simp [h]
@[simp] theorem State.pairFollow_time (s : State) : (s.pairFollow).time = s.time := by
  have h : ∀ s : State, ((upto 6).foldl State.sendPortStat s).time = s.time := foldl_keeps State.time _ (fun s a => by simp) _
  unfold State.pairFollow; dsimp only; repeat' split
  all_goals simp [h]
@[simp] theorem State.pairFollow_belay (s : State) : (s.pairFollow).belay = s.belay := by
  have h : ∀ s : State, ((upto 6).foldl State.sendPortStat s).belay = s.belay := foldl_keeps State.belay _ (fun s a => by simp) _
  unfold State.pairFollow; dsimp only; repeat' split
  all_goals simp [h]
@[simp] theorem State.pairFollow_probe (s : State) : (s.pairFollow).probe = s.probe := by
  have h : ∀ s : State, ((upto 6).foldl State.sendPortStat s).probe = s.probe := foldl_keeps State.probe _ (fun s a => by simp) _
  unfold State.pairFollow; dsimp only; repeat' split
  all_goals simp [h]
@[simp] theorem State.pairFollow_trig (s : State) : (s.pairFollow).trig = s.trig := by
  have h : ∀ s : State, ((upto 6).foldl State.sendPortStat s).trig = s.trig := foldl_keeps State.trig _ (fun s a => by simp) _
  unfold State.pairFollow; dsimp only; repeat' split
  all_goals simp [h]
@[simp] theorem State.pairFollow_mem (s : State) : (s.pairFollow).mem = s.mem := by
  have h : ∀ s : State, ((upto 6).foldl State.sendPortStat s).mem = s.mem := foldl_keeps State.mem _ (fun s a => by simp) _
  unfold State.pairFollow; dsimp only; repeat' split
  all_goals simp [h]
@[simp] theorem State.pairFollow_sto (s : State) : (s.pairFollow).sto = s.sto := by
  have h : ∀ s : State, ((upto 6).foldl State.sendPortStat s).sto = s.sto := foldl_keeps State.sto _ (fun s a => by simp) _
  unfold State.pairFollow; dsimp only; repeat' split
  all_goals simp [h]
@[simp] theorem State.pairFollow_comp (s : State) : (s.pairFollow).comp = s.comp := by
  have h : ∀ s : State, ((upto 6).foldl State.sendPortStat s).comp = s.comp := foldl_keeps State.comp _ (fun s a => by simp) _
  unfold State.pairFollow; dsimp only; repeat' split
  all_goals simp [h]

/-- On a device that is neither Lead nor Second the pair has nothing to follow. -/
theorem State.pairFollow_single (s : State) (h : s.pair.role ≠ 2) (h' : s.pair.role ≠ 3) : s.pairFollow = s := by
  simp [State.pairFollow, h, h']

/-- With no completion waiting, the units take none. -/
theorem State.serveUnits_idle (s : State) (h : s.coh.done = []) : s.serveUnits = s := by
  simp only [State.serveUnits, h, List.length_nil, Nat.add_zero]
  unfold State.takeDone
  simp [h]

end Sys2Proof.Machine
end

