-- ==== Sys2Proof/Laws/Maps.lean ====
section
/-! SUPPORT. Sys2Proof/Laws/Maps.lean: reading after writing, for the finite maps, the objects and the units held in maps; what
raising a cause does; and how a command's end keeps a frame. -/
set_option Elab.async false
namespace Sys2Proof.Machine

/-! ### Finite maps -/

@[simp] theorem mget_mset {α : Type} (m : Map α) (k j : Nat) (v : α) : mget (mset m k v) j = if j = k then some v else mget m j := by
  induction m with
  | nil => by_cases h : j = k <;> simp [mset, mget, h]
  | cons a t ih =>
    obtain ⟨k', v'⟩ := a
    simp only [mset]
    split
    · by_cases h : j = k <;> simp [mget, h]
    · split
      · subst_vars; by_cases h : j = k' <;> simp [mget, h]
      · by_cases h : j = k'
        · subst h
          have : j ≠ k := by omega
          simp [mget, this]
        · simp [mget, h, ih]

@[simp] theorem mgetD_mset {α : Type} (m : Map α) (k j : Nat) (v d : α) : mgetD (mset m k v) j d = if j = k then v else mgetD m j d := by
  unfold mgetD; rw [mget_mset]; split <;> rfl

/-! ### Objects -/

theorem key_inj {i j a b : Nat} (ha : a < 256) (hb : b < 256) : key i a = key j b ↔ i = j ∧ a = b := by
  unfold key; omega

theorem State.val_putVal (s : State) (i a j b : Nat) (v : Val) :
    (s.putVal i a v).val j b = if key j b = key i a then v else s.val j b := by
  unfold State.putVal State.val
  simp only [mget_mset]
  by_cases h : key j b = key i a <;> simp [h]

theorem State.val_put (s : State) (i a j b n : Nat) :
    (s.put i a n).val j b = if key j b = key i a then .num n else s.val j b := s.val_putVal i a j b _

theorem State.z_put (s : State) (i a j b n : Nat) : (s.put i a n).z j b = if key j b = key i a then n else s.z j b := by
  unfold State.put State.putVal State.z
  simp only [mget_mset]
  by_cases h : key j b = key i a <;> simp [h, valNum]

theorem State.val_bumpW (s : State) (i a w d j b : Nat) (h : key j b ≠ key i a) : (s.bumpW i a w d).val j b = s.val j b := by
  unfold State.bumpW; rw [State.val_put, if_neg h]

theorem State.z_bumpW (s : State) (i a w d j b : Nat) :
    (s.bumpW i a w d).z j b = if key j b = key i a then min (s.z i a + d) (2 ^ w - 1) else s.z j b := by
  unfold State.bumpW; rw [State.z_put]

theorem State.val_bump (s : State) (i a d j b : Nat) (h : key j b ≠ key i a) : (s.bump i a d).val j b = s.val j b := s.val_bumpW i a 32 d j b h

theorem State.z_bump (s : State) (i a d j b : Nat) :
    (s.bump i a d).z j b = if key j b = key i a then min (s.z i a + d) (2 ^ 32 - 1) else s.z j b := s.z_bumpW i a 32 d j b

/-- The objects are read from the store alone. -/
theorem State.val_congr {s t : State} (h : t.obj = s.obj) (i a : Nat) : t.val i a = s.val i a := by unfold State.val; rw [h]
theorem State.z_congr {s t : State} (h : t.obj = s.obj) (i a : Nat) : t.z i a = s.z i a := by unfold State.z; rw [h]
theorem State.n_congr {s t : State} (h : t.obj = s.obj) (i a : Nat) : t.n i a = s.n i a := by unfold State.n; rw [State.val_congr h]

/-- Where an object's default is 0, its two readings agree. -/
theorem State.z_of_val {s t : State} {i a : Nat} (h : t.val i a = s.val i a) (hd : defaultVal i a = .num 0) : t.z i a = s.z i a := by
  unfold State.val at h; unfold State.z
  cases h1 : mget t.obj (key i a) <;> cases h2 : mget s.obj (key i a) <;> simp only [h1, h2, hd] at h ⊢
  · rw [← h]; rfl
  · rw [h]; rfl
  · rw [h]

/-! ### Units held in maps -/

@[simp] theorem State.path_setPath (s : State) (p q : Nat) (x : PathSt) : (s.setPath p x).path q = if q = p then x else s.path q := by
  unfold State.setPath State.path; simp

@[simp] theorem State.port_setPort (s : State) (p q : Nat) (x : PortSt) : (s.setPort p x).port q = if q = p then x else s.port q := by
  unfold State.setPort State.port; simp

@[simp] theorem State.src_setSrc (s : State) (i j : Nat) (x : SourceSt) : (s.setSrc i x).src j = if j = i then x else s.src j := by
  unfold State.setSrc State.src; simp

@[simp] theorem State.tap_setTap (s : State) (i j : Nat) (x : TapSt) : (s.setTap i x).tap j = if j = i then x else s.tap j := by
  unfold State.setTap State.tap; simp

@[simp] theorem State.loop_setLoop (s : State) (i j : Nat) (x : LoopSt) : (s.setLoop i x).loop j = if j = i then x else s.loop j := by
  unfold State.setLoop State.loop; simp

@[simp] theorem State.win_setWin (s : State) (i j : Nat) (x : WindowSt) : (s.setWin i x).win j = if j = i then x else s.win j := by
  unfold State.setWin State.win; simp

@[simp] theorem State.stream_setStream (s : State) (i j : Nat) (x : StreamSt) : (s.setStream i x).stream j = if j = i then x else s.stream j := by
  unfold State.setStream State.stream; simp

@[simp] theorem State.bank_setBank (s : State) (i j : Nat) (x : BankSt) : (s.setBank i x).bank j = if j = i then x else s.bank j := by
  unfold State.setBank State.bank; simp

@[simp] theorem State.granule_setGranule (s : State) (i j : Nat) (x : GranuleSt) : (s.setGranule i x).granule j = if j = i then x else s.granule j := by
  unfold State.setGranule State.granule; simp

@[simp] theorem State.job_setJob (s : State) (i j : Nat) (x : Job) : (s.setJob i x).job j = if j = i then x else s.job j := by
  unfold State.setJob State.job; simp

theorem domNo_inj {d e : Domain} (h : domNo d = domNo e) : d = e := by
  cases d <;> cases e <;> simp_all [domNo] <;> omega

theorem pllNo_inj {p q : Pll} (h : pllNo p = pllNo q) : p = q := by
  cases p <;> cases q <;> simp_all [pllNo] <;> omega

@[simp] theorem State.dom_setDom (s : State) (d e : Domain) (x : DomainSt) : (s.setDom d x).dom e = if e = d then x else s.dom e := by
  unfold State.setDom State.dom
  by_cases h : e = d
  · subst h; simp
  · have : domNo e ≠ domNo d := fun k => h (domNo_inj k)
    simp [h, this]

@[simp] theorem State.pll_setPll (s : State) (p q : Pll) (x : PllSt) : (s.setPll p x).pll q = if q = p then x else s.pll q := by
  unfold State.setPll State.pll
  by_cases h : q = p
  · subst h; simp
  · have : pllNo q ≠ pllNo p := fun k => h (pllNo_inj k)
    simp [h, this]

/-! ### The end of a command: the alert tree's followers -/

/-- What is said of a state and a field of it that the alert paths leave alone. -/
theorem State.foldPath_keeps {α β : Type} {g : State → β} {f : State → α → State} (h : ∀ (s : State) (x : α), g (f s x) = g s) (l : List α) :
    ∀ s : State, g (l.foldl f s) = g s := by
  induction l with
  | nil => exact fun s => rfl
  | cons x l ih => exact fun s => (ih _).trans (h s x)

/-- The alert paths change nothing but the paths. -/
theorem State.alertPaths_keeps {β : Type} {g : State → β} (h : ∀ s p x, g (State.setPath s p x) = g s) (s : State) (o n : Nat) :
    g (s.alertPaths o n) = g s := by
  have h1 := State.foldPath_keeps (g := g) (f := pathAlert o n) (fun s p => h s p _) [1, 2, 3] s
  unfold State.alertPaths
  split
  · rfl
  · dsimp only
    split
    · split
      · exact (State.foldPath_keeps (g := g) (f := pathCalm) (fun s p => h s p.1 _) _ _).trans h1
      · exact h1
    · exact h1

theorem State.alertEdge_obj (s : State) : s.alertEdge.obj = s.obj ∨ s.alertEdge.obj = (s.bump 0xF018 17 1).obj := by
  unfold State.alertEdge; split_ifs
  · exact Or.inr rfl
  · exact Or.inl rfl

theorem State.alertEdge_alerts (s : State) : s.alertEdge.alerts = s.alerts := by
  unfold State.alertEdge; split_ifs <;> rfl

theorem State.alertEdge_acc (s : State) : s.alertEdge.acc = s.acc := by
  unfold State.alertEdge; split_ifs <;> rfl

theorem State.alertSync_obj (s : State) : s.alertSync.obj = s.obj ∨ s.alertSync.obj = (s.bump 0xF018 17 1).obj := by
  have h : s.alertSync.obj = s.alertEdge.obj := State.alertPaths_keeps (g := fun s => s.obj) (fun _ _ _ => rfl) _ _ _
  rw [h]; exact s.alertEdge_obj

/-- The alert part after a command: the level driven and the summary seen are the present ones. -/
theorem State.alertSync_alerts (s : State) :
    s.alertSync.alerts = { s.alerts with driven := s.alertN, summary := s.alertEdge.summary } :=
  (State.alertPaths_keeps (g := fun s => s.alerts) (fun _ _ _ => rfl) _ _ _).trans (by
    show ({ s.alertEdge.alerts with driven := s.alertN, summary := s.alertEdge.summary } : Alerts) = _
    rw [s.alertEdge_alerts])

theorem State.alertSync_val (s : State) (i a : Nat) (h : key i a ≠ key 0xF018 17) : s.alertSync.val i a = s.val i a := by
  obtain e | e := s.alertSync_obj
  · exact State.val_congr e i a
  · rw [State.val_congr e, State.val_bump _ _ _ _ _ _ h]

theorem State.alertSync_z (s : State) (i a : Nat) (h : key i a ≠ key 0xF018 17) : s.alertSync.z i a = s.z i a := by
  obtain e | e := s.alertSync_obj
  · exact State.z_congr e i a
  · rw [State.z_congr e, State.z_bump, if_neg h]

theorem State.alertSync_n (s : State) (i a : Nat) (h : key i a ≠ key 0xF018 17) : s.alertSync.n i a = s.n i a := by
  unfold State.n; rw [s.alertSync_val i a h]

@[simp] theorem State.alertSync_latch (s : State) : s.alertSync.alerts.latch = s.alerts.latch := by rw [s.alertSync_alerts]

@[simp] theorem State.alertSync_badParity (s : State) : s.alertSync.alerts.badParity = s.alerts.badParity := by rw [s.alertSync_alerts]

@[simp] theorem State.alertSync_masks (s : State) : s.alertSync.alerts.masks = s.alerts.masks := by rw [s.alertSync_alerts]

theorem quietPath_pathAlert (o n : Nat) (s : State) (p k : Nat) : quietPath ((pathAlert o n s p).path k) = quietPath (s.path k) := by
  unfold pathAlert
  rw [State.path_setPath]
  by_cases h : k = p
  · subst h; simp [quietPath]
  · simp [h]

theorem quietPath_pathCalm (s : State) (e : Nat × Bool × Nat) (k : Nat) : quietPath ((pathCalm s e).path k) = quietPath (s.path k) := by
  unfold pathCalm
  rw [State.path_setPath]
  by_cases h : k = e.1
  · subst h; simp [quietPath]
  · simp [h]

theorem quietPath_alertPaths (s : State) (o n k : Nat) : quietPath ((s.alertPaths o n).path k) = quietPath (s.path k) := by
  have h := State.foldPath_keeps (g := fun t => quietPath (t.path k)) (fun t p => quietPath_pathAlert o n t p k) [1, 2, 3] s
  unfold State.alertPaths
  split
  · rfl
  · dsimp only
    split
    · split
      · exact (State.foldPath_keeps (g := fun t => quietPath (t.path k)) (fun t e => quietPath_pathCalm t e k) _ _).trans h
      · exact h
    · exact h

theorem quietPath_alertSync (s : State) (k : Nat) : quietPath (s.alertSync.path k) = quietPath (s.path k) := by
  refine (quietPath_alertPaths _ _ _ k).trans ?_
  show quietPath (mgetD s.alertEdge.acc.path k {}) = _
  rw [s.alertEdge_acc]; rfl

theorem State.alertSync_accRest (s : State) : { s.alertSync.acc with path := [] } = { s.acc with path := [] } := by
  refine (State.alertPaths_keeps (g := fun t => { t.acc with path := [] }) (fun _ _ _ => rfl) _ _ _).trans ?_
  show { s.alertEdge.acc with path := [] } = _
  rw [s.alertEdge_acc]

/-- The parts kept up to the end of a command are kept by the command. -/
theorem keepsParts_of_ends {parts : List Part} {s u : State} (hp : ∀ p, p ∉ parts → p.same s u) :
    KeepsParts parts s { u.alertSync with pending := s.pending } := by
  refine ⟨rfl, fun p h => ?_⟩
  have q := hp p h
  cases p <;> simp only [Part.same] at q ⊢ <;> try (first | exact q | (simp; exact q))
  exact ⟨u.alertSync_accRest.trans q.1, fun k => (quietPath_alertSync u k).trans (q.2 k)⟩

/-- The objects kept up to the end of a command are kept by the command. -/
theorem keepsObjects_of_ends {objs : List (Nat × Nat)} {s u : State}
    (ho : ∀ i a, a < 256 → (i, a) ∉ objs → (i, a) ≠ (0xF018, 17) → u.val i a = s.val i a) :
    KeepsObjects objs s { u.alertSync with pending := s.pending } := by
  intro i a ha h1 h2
  have h3 : key i a ≠ key 0xF018 17 := by
    intro e; exact h2 (by obtain ⟨x, y⟩ := (key_inj ha (by omega)).1 e; rw [x, y])
  exact (u.alertSync_val i a h3).trans (ho i a ha h1 h2)

/-- A command whose meaning ends in `u` completes. -/
theorem completes_of_ends {c : Instr} {parts : List Part} {objs : List (Nat × Nat)} {s u : State} {P : State → Prop}
    (hc : exec c s = s.ends u) (hp : ∀ p, p ∉ parts → p.same s u)
    (ho : ∀ i a, a < 256 → (i, a) ∉ objs → (i, a) ≠ (0xF018, 17) → u.val i a = s.val i a)
    (hP : P { u.alertSync with pending := s.pending }) : Completes c s parts objs P :=
  ⟨_, hc, keepsParts_of_ends hp, keepsObjects_of_ends ho, hP⟩

/-- A command whose meaning ends in `u` completes, and keeps the parts that `u` keeps. -/
theorem completesWithin_of_ends {c : Instr} {parts : List Part} {s u : State} {P : State → Prop}
    (hc : exec c s = s.ends u) (hp : ∀ p, p ∉ parts → p.same s u)
    (hP : P { u.alertSync with pending := s.pending }) : CompletesWithin c s parts P :=
  ⟨_, hc, keepsParts_of_ends hp, hP⟩

/-! ### Causes -/

theorem State.putCause_obj (s : State) (i a n : Nat) : (s.putCause i a n).obj = (s.put i a n).obj := rfl

theorem State.alertCycle_obj (s : State) : s.alertCycle.obj = s.obj := by unfold State.alertCycle; split <;> rfl

theorem State.alertCycle_acc (s : State) : s.alertCycle.acc = s.acc := by unfold State.alertCycle; split <;> rfl

theorem State.alertCycle_kept (s : State) : s.alertCycle.alerts.latch = s.alerts.latch ∧ s.alertCycle.alerts.badParity = s.alerts.badParity ∧
    s.alertCycle.alerts.masks = s.alerts.masks := by
  unfold State.alertCycle; split <;> exact ⟨rfl, rfl, rfl⟩

/-- A counter's step reads the objects alone. -/
theorem State.bump_obj_congr {s t : State} (h : t.obj = s.obj) (i a n : Nat) : (t.bump i a n).obj = (s.bump i a n).obj := by
  show mset t.obj (key i a) (.num (min (t.z i a + n) (2 ^ 32 - 1))) = mset s.obj (key i a) (.num (min (s.z i a + n) (2 ^ 32 - 1)))
  rw [h, State.z_congr h]

/-- An event that meets a clear of its MGT cycle changes no object but the count of such clears (R338). -/
theorem State.raise_obj (s : State) (k m : Nat) : ∃ n, (s.raise k m).obj = s.obj ∨ (s.raise k m).obj = (s.bump 0xF018 18 n).obj := by
  have h := s.alertCycle_obj
  unfold State.raise
  generalize s.alertCycle = t at h ⊢
  dsimp only
  refine ⟨popCount 32 (mgetD t.alerts.cleared k 0 &&& m), ?_⟩
  split_ifs
  · exact Or.inl h
  · refine Or.inr ?_
    exact State.bump_obj_congr h _ _ _

theorem State.raise_acc (s : State) (k m : Nat) : (s.raise k m).acc = s.acc := by
  have h := s.alertCycle_acc
  unfold State.raise
  generalize s.alertCycle = t at h ⊢
  dsimp only
  split_ifs <;> exact h

theorem State.raise_kept (s : State) (k m : Nat) : (s.raise k m).alerts.latch = s.alerts.latch ∧
    (s.raise k m).alerts.badParity = s.alerts.badParity ∧ (s.raise k m).alerts.masks = s.alerts.masks := by
  have h := s.alertCycle_kept
  unfold State.raise
  generalize s.alertCycle = t at h ⊢
  dsimp only
  split_ifs <;> exact h

theorem State.raise_val (s : State) (k m j b : Nat) (h : key j b ≠ key 0xF018 18) : (s.raise k m).val j b = s.val j b := by
  obtain ⟨n, e | e⟩ := s.raise_obj k m
  · exact State.val_congr e j b
  · rw [State.val_congr e, State.val_bump _ _ _ _ _ _ h]

theorem State.raise_z (s : State) (k m j b : Nat) (h : key j b ≠ key 0xF018 18) : (s.raise k m).z j b = s.z j b := by
  obtain ⟨n, e | e⟩ := s.raise_obj k m
  · exact State.z_congr e j b
  · rw [State.z_congr e, State.z_bump, if_neg h]

/-- An event that MGT sees sets its bits in both copies and is counted (R333, R341). -/
theorem State.setWord_z (s : State) (br i a m : Nat) (h : s.mgtFast = true) (ha : key i a ≠ key 0xF018 17)
    (hb : key i a ≠ key 0xF018 (br + 1)) : (s.setWord br i a m).z i a = s.z i a ||| m := by
  unfold State.setWord
  rw [h]
  simp only [Bool.true_or, if_true]
  rw [State.alertSync_z _ _ _ ha, State.z_bump, if_neg hb]
  rw [State.z_congr (State.putCause_obj ..), State.z_put, if_pos rfl]

theorem State.setWord_val (s : State) (br i a m j b : Nat) (ha : key j b ≠ key 0xF018 17) (hb : key j b ≠ key 0xF018 (br + 1))
    (hc : key j b ≠ key 0xF018 18) (hi : key j b ≠ key i a) : (s.setWord br i a m).val j b = s.val j b := by
  unfold State.setWord
  split
  · rw [State.alertSync_val _ _ _ ha, State.val_bump _ _ _ _ _ _ hb]
    rw [State.val_congr (State.putCause_obj ..), State.val_put, if_neg hi, s.raise_val _ _ _ _ hc]
  · split
    · rw [State.alertSync_val _ _ _ ha, State.val_bump _ _ _ _ _ _ hb]; exact State.val_congr rfl j b
    · rfl

@[simp] theorem State.setWord_badParity (s : State) (br i a m : Nat) : (s.setWord br i a m).alerts.badParity = s.alerts.badParity := by
  unfold State.setWord; split
  · rw [State.alertSync_badParity]
    have h := (s.raise_kept (key i a) m).2.1
    generalize s.raise (key i a) m = t at h ⊢
    exact h
  · split
    · rw [State.alertSync_badParity]; rfl
    · rfl

@[simp] theorem State.setWord_masks (s : State) (br i a m : Nat) : (s.setWord br i a m).alerts.masks = s.alerts.masks := by
  unfold State.setWord; split
  · rw [State.alertSync_masks]
    have h := (s.raise_kept (key i a) m).2.2
    generalize s.raise (key i a) m = t at h ⊢
    exact h
  · split
    · rw [State.alertSync_masks]; rfl
    · rfl

theorem quietPath_setWord (s : State) (br i a m k : Nat) : quietPath ((s.setWord br i a m).path k) = quietPath (s.path k) := by
  unfold State.setWord; split
  · rw [quietPath_alertSync]
    have h := s.raise_acc (key i a) m
    generalize s.raise (key i a) m = t at h ⊢
    show quietPath (mgetD t.acc.path k {}) = _
    rw [h]; rfl
  · split
    · rw [quietPath_alertSync]; rfl
    · rfl

theorem State.setWord_accRest (s : State) (br i a m : Nat) : { (s.setWord br i a m).acc with path := [] } = { s.acc with path := [] } := by
  unfold State.setWord; split
  · rw [State.alertSync_accRest]
    have h := s.raise_acc (key i a) m
    generalize s.raise (key i a) m = t at h ⊢
    show { t.acc with path := [] } = _
    rw [h]
  · split
    · rw [State.alertSync_accRest]; rfl
    · rfl

end Sys2Proof.Machine
end

