-- ==== Sys2Proof/Laws/Alerts.lean ====
section
/-! SUPPORT. Sys2Proof/Laws/Alerts.lean: what the summary and the level of ALERT_N depend on. -/
set_option Elab.async false
namespace Sys2Proof.Machine

/-- Two states agree on the objects below 3000h. -/
def SameTree (s t : State) : Prop := ∀ i a, i < 0x3000 → a < 256 → t.z i a = s.z i a

theorem childOf_bounds {br ci n m : Nat} (h : childOf br = some (ci, n, m)) : ci < 0x3000 ∧ n < 255 := by
  unfold childOf at h
  split at h <;> simp at h <;> omega

theorem cause_congr {s t : State} (h : SameTree s t) {br : Nat} (hb : br < 16) : t.cause br = s.cause br := by
  unfold State.cause aggregate
  rw [h _ _ (by omega) (by omega)]
  congr 1
  cases e : childOf br with
  | none => rfl
  | some x =>
    obtain ⟨ci, n, m⟩ := x
    have b := childOf_bounds e
    simp only
    congr 1
    apply List.map_congr_left
    intro j hj
    have : j < n := by simpa using hj
    rw [h ci (j + 1) b.1 (by omega)]

/-- The summary reads the causes and their masks. -/
theorem summary_congr {s t : State} (h : SameTree s t) : t.summary = s.summary := by
  unfold State.summary summaryOf
  congr 1
  apply List.map_congr_left
  intro br hbr
  have hb : br < 16 := by simpa using hbr
  rw [cause_congr h hb]
  unfold State.mask
  rw [h _ _ (by omega) (by omega)]

/-- The level of ALERT_N reads the tree, the latch with its masks, the pin test and the boot step. -/
theorem alertN_congr {s t : State} (h : SameTree s t) (hb : t.boot = s.boot) (hl : t.alerts.latch = s.alerts.latch)
    (hm : t.alerts.masks = s.alerts.masks) : t.alertN = s.alertN := by
  have e : t.latchSummary = s.latchSummary := by
    unfold State.latchSummary State.latchCause State.latchWord
    rw [hl, hm]
  unfold State.alertN State.up
  rw [summary_congr h, hb, h _ _ (by omega) (by omega), e]

theorem sameTree_of_obj {s t : State} (h : t.obj = s.obj) : SameTree s t := fun i a _ _ => State.z_congr h i a

theorem sameTree_alertSync (s : State) : SameTree s s.alertSync := by
  intro i a hi ha
  exact s.alertSync_z i a (by unfold key; omega)

end Sys2Proof.Machine
end

