-- ==== Sys2Proof/Laws/Units.lean ====
section
/-! SUPPORT. Sys2Proof/Laws/Units.lean: what sending a message and what the units' completions leave alone: they change the ports, the
coherence agents, the writer, the compression engine and, by a cause or a counter, the objects and the alert tree. -/
set_option Elab.async false
namespace Sys2Proof.Machine

/-! ### State.bumpPort -/

@[simp] theorem State.bumpPort_pending (s : State) (p k : Nat) : (s.bumpPort p k).pending = s.pending := by
  unfold State.bumpPort; simp
@[simp] theorem State.bumpPort_free (s : State) (p k : Nat) : (s.bumpPort p k).free = s.free := by
  unfold State.bumpPort; simp
@[simp] theorem State.bumpPort_now (s : State) (p k : Nat) : (s.bumpPort p k).now = s.now := by
  unfold State.bumpPort; simp
@[simp] theorem State.bumpPort_staged (s : State) (p k : Nat) : (s.bumpPort p k).staged = s.staged := by
  unfold State.bumpPort; simp
@[simp] theorem State.bumpPort_badWords (s : State) (p k : Nat) : (s.bumpPort p k).badWords = s.badWords := by
  unfold State.bumpPort; simp
@[simp] theorem State.bumpPort_written (s : State) (p k : Nat) : (s.bumpPort p k).written = s.written := by
  unfold State.bumpPort; simp
@[simp] theorem State.bumpPort_locked (s : State) (p k : Nat) : (s.bumpPort p k).locked = s.locked := by
  unfold State.bumpPort; simp
@[simp] theorem State.bumpPort_power (s : State) (p k : Nat) : (s.bumpPort p k).power = s.power := by
  unfold State.bumpPort; simp
@[simp] theorem State.bumpPort_clk (s : State) (p k : Nat) : (s.bumpPort p k).clk = s.clk := by
  unfold State.bumpPort; simp
@[simp] theorem State.bumpPort_boot (s : State) (p k : Nat) : (s.bumpPort p k).boot = s.boot := by
  unfold State.bumpPort; simp
@[simp] theorem State.bumpPort_commit (s : State) (p k : Nat) : (s.bumpPort p k).commit = s.commit := by
  unfold State.bumpPort; simp
@[simp] theorem State.bumpPort_sec (s : State) (p k : Nat) : (s.bumpPort p k).sec = s.sec := by
  unfold State.bumpPort; simp
@[simp] theorem State.bumpPort_time (s : State) (p k : Nat) : (s.bumpPort p k).time = s.time := by
  unfold State.bumpPort; simp
@[simp] theorem State.bumpPort_belay (s : State) (p k : Nat) : (s.bumpPort p k).belay = s.belay := by
  unfold State.bumpPort; simp
@[simp] theorem State.bumpPort_probe (s : State) (p k : Nat) : (s.bumpPort p k).probe = s.probe := by
  unfold State.bumpPort; simp
@[simp] theorem State.bumpPort_sig (s : State) (p k : Nat) : (s.bumpPort p k).sig = s.sig := by
  unfold State.bumpPort; simp
@[simp] theorem State.bumpPort_trig (s : State) (p k : Nat) : (s.bumpPort p k).trig = s.trig := by
  unfold State.bumpPort; simp
@[simp] theorem State.bumpPort_mem (s : State) (p k : Nat) : (s.bumpPort p k).mem = s.mem := by
  unfold State.bumpPort; simp
@[simp] theorem State.bumpPort_acc (s : State) (p k : Nat) : (s.bumpPort p k).acc = s.acc := by
  unfold State.bumpPort; simp
@[simp] theorem State.bumpPort_alerts (s : State) (p k : Nat) : (s.bumpPort p k).alerts = s.alerts := by
  unfold State.bumpPort; simp
@[simp] theorem State.bumpPort_coh (s : State) (p k : Nat) : (s.bumpPort p k).coh = s.coh := by
  unfold State.bumpPort; simp
@[simp] theorem State.bumpPort_sto (s : State) (p k : Nat) : (s.bumpPort p k).sto = s.sto := by
  unfold State.bumpPort; simp
@[simp] theorem State.bumpPort_comp (s : State) (p k : Nat) : (s.bumpPort p k).comp = s.comp := by
  unfold State.bumpPort; simp
@[simp] theorem State.bumpPort_pair (s : State) (p k : Nat) : (s.bumpPort p k).pair = s.pair := by
  unfold State.bumpPort; simp
@[simp] theorem State.bumpPort_ports (s : State) (p k : Nat) : (s.bumpPort p k).ports = s.ports := by
  unfold State.bumpPort; simp
@[simp] theorem State.bumpPort_out (s : State) (p k : Nat) : (s.bumpPort p k).out = s.out := by
  unfold State.bumpPort; simp

/-! ### sendSeqFlit -/

@[simp] theorem sendSeqFlit_pending (s : State) (p ftype cont : Nat) (slots : Octets) : (sendSeqFlit p ftype cont slots s).pending = s.pending := by
  unfold sendSeqFlit; simp
@[simp] theorem sendSeqFlit_free (s : State) (p ftype cont : Nat) (slots : Octets) : (sendSeqFlit p ftype cont slots s).free = s.free := by
  unfold sendSeqFlit; simp
@[simp] theorem sendSeqFlit_now (s : State) (p ftype cont : Nat) (slots : Octets) : (sendSeqFlit p ftype cont slots s).now = s.now := by
  unfold sendSeqFlit; simp
@[simp] theorem sendSeqFlit_staged (s : State) (p ftype cont : Nat) (slots : Octets) : (sendSeqFlit p ftype cont slots s).staged = s.staged := by
  unfold sendSeqFlit; simp
@[simp] theorem sendSeqFlit_badWords (s : State) (p ftype cont : Nat) (slots : Octets) : (sendSeqFlit p ftype cont slots s).badWords = s.badWords := by
  unfold sendSeqFlit; simp
@[simp] theorem sendSeqFlit_written (s : State) (p ftype cont : Nat) (slots : Octets) : (sendSeqFlit p ftype cont slots s).written = s.written := by
  unfold sendSeqFlit; simp
@[simp] theorem sendSeqFlit_locked (s : State) (p ftype cont : Nat) (slots : Octets) : (sendSeqFlit p ftype cont slots s).locked = s.locked := by
  unfold sendSeqFlit; simp
@[simp] theorem sendSeqFlit_power (s : State) (p ftype cont : Nat) (slots : Octets) : (sendSeqFlit p ftype cont slots s).power = s.power := by
  unfold sendSeqFlit; simp
@[simp] theorem sendSeqFlit_clk (s : State) (p ftype cont : Nat) (slots : Octets) : (sendSeqFlit p ftype cont slots s).clk = s.clk := by
  unfold sendSeqFlit; simp
@[simp] theorem sendSeqFlit_boot (s : State) (p ftype cont : Nat) (slots : Octets) : (sendSeqFlit p ftype cont slots s).boot = s.boot := by
  unfold sendSeqFlit; simp
@[simp] theorem sendSeqFlit_commit (s : State) (p ftype cont : Nat) (slots : Octets) : (sendSeqFlit p ftype cont slots s).commit = s.commit := by
  unfold sendSeqFlit; simp
@[simp] theorem sendSeqFlit_sec (s : State) (p ftype cont : Nat) (slots : Octets) : (sendSeqFlit p ftype cont slots s).sec = s.sec := by
  unfold sendSeqFlit; simp
@[simp] theorem sendSeqFlit_time (s : State) (p ftype cont : Nat) (slots : Octets) : (sendSeqFlit p ftype cont slots s).time = s.time := by
  unfold sendSeqFlit; simp
@[simp] theorem sendSeqFlit_belay (s : State) (p ftype cont : Nat) (slots : Octets) : (sendSeqFlit p ftype cont slots s).belay = s.belay := by
  unfold sendSeqFlit; simp
@[simp] theorem sendSeqFlit_probe (s : State) (p ftype cont : Nat) (slots : Octets) : (sendSeqFlit p ftype cont slots s).probe = s.probe := by
  unfold sendSeqFlit; simp
@[simp] theorem sendSeqFlit_sig (s : State) (p ftype cont : Nat) (slots : Octets) : (sendSeqFlit p ftype cont slots s).sig = s.sig := by
  unfold sendSeqFlit; simp
@[simp] theorem sendSeqFlit_trig (s : State) (p ftype cont : Nat) (slots : Octets) : (sendSeqFlit p ftype cont slots s).trig = s.trig := by
  unfold sendSeqFlit; simp
@[simp] theorem sendSeqFlit_mem (s : State) (p ftype cont : Nat) (slots : Octets) : (sendSeqFlit p ftype cont slots s).mem = s.mem := by
  unfold sendSeqFlit; simp
@[simp] theorem sendSeqFlit_acc (s : State) (p ftype cont : Nat) (slots : Octets) : (sendSeqFlit p ftype cont slots s).acc = s.acc := by
  unfold sendSeqFlit; simp
@[simp] theorem sendSeqFlit_alerts (s : State) (p ftype cont : Nat) (slots : Octets) : (sendSeqFlit p ftype cont slots s).alerts = s.alerts := by
  unfold sendSeqFlit; simp
@[simp] theorem sendSeqFlit_coh (s : State) (p ftype cont : Nat) (slots : Octets) : (sendSeqFlit p ftype cont slots s).coh = s.coh := by
  unfold sendSeqFlit; simp
@[simp] theorem sendSeqFlit_sto (s : State) (p ftype cont : Nat) (slots : Octets) : (sendSeqFlit p ftype cont slots s).sto = s.sto := by
  unfold sendSeqFlit; simp
@[simp] theorem sendSeqFlit_comp (s : State) (p ftype cont : Nat) (slots : Octets) : (sendSeqFlit p ftype cont slots s).comp = s.comp := by
  unfold sendSeqFlit; simp
@[simp] theorem sendSeqFlit_pair (s : State) (p ftype cont : Nat) (slots : Octets) : (sendSeqFlit p ftype cont slots s).pair = s.pair := by
  unfold sendSeqFlit; simp

/-! ### sendNullFlit -/

@[simp] theorem sendNullFlit_pending (s : State) (p : Nat) (nak : Bool) : (sendNullFlit p nak s).pending = s.pending := by
  unfold sendNullFlit; simp
@[simp] theorem sendNullFlit_free (s : State) (p : Nat) (nak : Bool) : (sendNullFlit p nak s).free = s.free := by
  unfold sendNullFlit; simp
@[simp] theorem sendNullFlit_now (s : State) (p : Nat) (nak : Bool) : (sendNullFlit p nak s).now = s.now := by
  unfold sendNullFlit; simp
@[simp] theorem sendNullFlit_staged (s : State) (p : Nat) (nak : Bool) : (sendNullFlit p nak s).staged = s.staged := by
  unfold sendNullFlit; simp
@[simp] theorem sendNullFlit_badWords (s : State) (p : Nat) (nak : Bool) : (sendNullFlit p nak s).badWords = s.badWords := by
  unfold sendNullFlit; simp
@[simp] theorem sendNullFlit_written (s : State) (p : Nat) (nak : Bool) : (sendNullFlit p nak s).written = s.written := by
  unfold sendNullFlit; simp
@[simp] theorem sendNullFlit_locked (s : State) (p : Nat) (nak : Bool) : (sendNullFlit p nak s).locked = s.locked := by
  unfold sendNullFlit; simp
@[simp] theorem sendNullFlit_power (s : State) (p : Nat) (nak : Bool) : (sendNullFlit p nak s).power = s.power := by
  unfold sendNullFlit; simp
@[simp] theorem sendNullFlit_clk (s : State) (p : Nat) (nak : Bool) : (sendNullFlit p nak s).clk = s.clk := by
  unfold sendNullFlit; simp
@[simp] theorem sendNullFlit_boot (s : State) (p : Nat) (nak : Bool) : (sendNullFlit p nak s).boot = s.boot := by
  unfold sendNullFlit; simp
@[simp] theorem sendNullFlit_commit (s : State) (p : Nat) (nak : Bool) : (sendNullFlit p nak s).commit = s.commit := by
  unfold sendNullFlit; simp
@[simp] theorem sendNullFlit_sec (s : State) (p : Nat) (nak : Bool) : (sendNullFlit p nak s).sec = s.sec := by
  unfold sendNullFlit; simp
@[simp] theorem sendNullFlit_time (s : State) (p : Nat) (nak : Bool) : (sendNullFlit p nak s).time = s.time := by
  unfold sendNullFlit; simp
@[simp] theorem sendNullFlit_belay (s : State) (p : Nat) (nak : Bool) : (sendNullFlit p nak s).belay = s.belay := by
  unfold sendNullFlit; simp
@[simp] theorem sendNullFlit_probe (s : State) (p : Nat) (nak : Bool) : (sendNullFlit p nak s).probe = s.probe := by
  unfold sendNullFlit; simp
@[simp] theorem sendNullFlit_sig (s : State) (p : Nat) (nak : Bool) : (sendNullFlit p nak s).sig = s.sig := by
  unfold sendNullFlit; simp
@[simp] theorem sendNullFlit_trig (s : State) (p : Nat) (nak : Bool) : (sendNullFlit p nak s).trig = s.trig := by
  unfold sendNullFlit; simp
@[simp] theorem sendNullFlit_mem (s : State) (p : Nat) (nak : Bool) : (sendNullFlit p nak s).mem = s.mem := by
  unfold sendNullFlit; simp
@[simp] theorem sendNullFlit_acc (s : State) (p : Nat) (nak : Bool) : (sendNullFlit p nak s).acc = s.acc := by
  unfold sendNullFlit; simp
@[simp] theorem sendNullFlit_alerts (s : State) (p : Nat) (nak : Bool) : (sendNullFlit p nak s).alerts = s.alerts := by
  unfold sendNullFlit; simp
@[simp] theorem sendNullFlit_coh (s : State) (p : Nat) (nak : Bool) : (sendNullFlit p nak s).coh = s.coh := by
  unfold sendNullFlit; simp
@[simp] theorem sendNullFlit_sto (s : State) (p : Nat) (nak : Bool) : (sendNullFlit p nak s).sto = s.sto := by
  unfold sendNullFlit; simp
@[simp] theorem sendNullFlit_comp (s : State) (p : Nat) (nak : Bool) : (sendNullFlit p nak s).comp = s.comp := by
  unfold sendNullFlit; simp
@[simp] theorem sendNullFlit_pair (s : State) (p : Nat) (nak : Bool) : (sendNullFlit p nak s).pair = s.pair := by
  unfold sendNullFlit; simp
@[simp] theorem sendNullFlit_ports (s : State) (p : Nat) (nak : Bool) : (sendNullFlit p nak s).ports = s.ports := by
  unfold sendNullFlit; simp

/-! ### sendCtrl -/

@[simp] theorem sendCtrlNow_pending (s : State) (p ctype flags epochNo : Nat) : (sendCtrlNow p ctype flags epochNo s).pending = s.pending := by
  unfold sendCtrlNow; dsimp only; split <;> simp
@[simp] theorem sendCtrl_pending (s : State) (p ctype flags epochNo : Nat) : (sendCtrl p ctype flags epochNo s).pending = s.pending := by
  unfold sendCtrl; dsimp only; split <;> simp
@[simp] theorem sendCtrlNow_free (s : State) (p ctype flags epochNo : Nat) : (sendCtrlNow p ctype flags epochNo s).free = s.free := by
  unfold sendCtrlNow; dsimp only; split <;> simp
@[simp] theorem sendCtrl_free (s : State) (p ctype flags epochNo : Nat) : (sendCtrl p ctype flags epochNo s).free = s.free := by
  unfold sendCtrl; dsimp only; split <;> simp
@[simp] theorem sendCtrlNow_now (s : State) (p ctype flags epochNo : Nat) : (sendCtrlNow p ctype flags epochNo s).now = s.now := by
  unfold sendCtrlNow; dsimp only; split <;> simp
@[simp] theorem sendCtrl_now (s : State) (p ctype flags epochNo : Nat) : (sendCtrl p ctype flags epochNo s).now = s.now := by
  unfold sendCtrl; dsimp only; split <;> simp
@[simp] theorem sendCtrlNow_staged (s : State) (p ctype flags epochNo : Nat) : (sendCtrlNow p ctype flags epochNo s).staged = s.staged := by
  unfold sendCtrlNow; dsimp only; split <;> simp
@[simp] theorem sendCtrl_staged (s : State) (p ctype flags epochNo : Nat) : (sendCtrl p ctype flags epochNo s).staged = s.staged := by
  unfold sendCtrl; dsimp only; split <;> simp
@[simp] theorem sendCtrlNow_badWords (s : State) (p ctype flags epochNo : Nat) : (sendCtrlNow p ctype flags epochNo s).badWords = s.badWords := by
  unfold sendCtrlNow; dsimp only; split <;> simp
@[simp] theorem sendCtrl_badWords (s : State) (p ctype flags epochNo : Nat) : (sendCtrl p ctype flags epochNo s).badWords = s.badWords := by
  unfold sendCtrl; dsimp only; split <;> simp
@[simp] theorem sendCtrlNow_written (s : State) (p ctype flags epochNo : Nat) : (sendCtrlNow p ctype flags epochNo s).written = s.written := by
  unfold sendCtrlNow; dsimp only; split <;> simp
@[simp] theorem sendCtrl_written (s : State) (p ctype flags epochNo : Nat) : (sendCtrl p ctype flags epochNo s).written = s.written := by
  unfold sendCtrl; dsimp only; split <;> simp
@[simp] theorem sendCtrlNow_locked (s : State) (p ctype flags epochNo : Nat) : (sendCtrlNow p ctype flags epochNo s).locked = s.locked := by
  unfold sendCtrlNow; dsimp only; split <;> simp
@[simp] theorem sendCtrl_locked (s : State) (p ctype flags epochNo : Nat) : (sendCtrl p ctype flags epochNo s).locked = s.locked := by
  unfold sendCtrl; dsimp only; split <;> simp
@[simp] theorem sendCtrlNow_power (s : State) (p ctype flags epochNo : Nat) : (sendCtrlNow p ctype flags epochNo s).power = s.power := by
  unfold sendCtrlNow; dsimp only; split <;> simp
@[simp] theorem sendCtrl_power (s : State) (p ctype flags epochNo : Nat) : (sendCtrl p ctype flags epochNo s).power = s.power := by
  unfold sendCtrl; dsimp only; split <;> simp
@[simp] theorem sendCtrlNow_clk (s : State) (p ctype flags epochNo : Nat) : (sendCtrlNow p ctype flags epochNo s).clk = s.clk := by
  unfold sendCtrlNow; dsimp only; split <;> simp
@[simp] theorem sendCtrl_clk (s : State) (p ctype flags epochNo : Nat) : (sendCtrl p ctype flags epochNo s).clk = s.clk := by
  unfold sendCtrl; dsimp only; split <;> simp
@[simp] theorem sendCtrlNow_boot (s : State) (p ctype flags epochNo : Nat) : (sendCtrlNow p ctype flags epochNo s).boot = s.boot := by
  unfold sendCtrlNow; dsimp only; split <;> simp
@[simp] theorem sendCtrl_boot (s : State) (p ctype flags epochNo : Nat) : (sendCtrl p ctype flags epochNo s).boot = s.boot := by
  unfold sendCtrl; dsimp only; split <;> simp
@[simp] theorem sendCtrlNow_commit (s : State) (p ctype flags epochNo : Nat) : (sendCtrlNow p ctype flags epochNo s).commit = s.commit := by
  unfold sendCtrlNow; dsimp only; split <;> simp
@[simp] theorem sendCtrl_commit (s : State) (p ctype flags epochNo : Nat) : (sendCtrl p ctype flags epochNo s).commit = s.commit := by
  unfold sendCtrl; dsimp only; split <;> simp
@[simp] theorem sendCtrlNow_sec (s : State) (p ctype flags epochNo : Nat) : (sendCtrlNow p ctype flags epochNo s).sec = s.sec := by
  unfold sendCtrlNow; dsimp only; split <;> simp
@[simp] theorem sendCtrl_sec (s : State) (p ctype flags epochNo : Nat) : (sendCtrl p ctype flags epochNo s).sec = s.sec := by
  unfold sendCtrl; dsimp only; split <;> simp
@[simp] theorem sendCtrlNow_time (s : State) (p ctype flags epochNo : Nat) : (sendCtrlNow p ctype flags epochNo s).time = s.time := by
  unfold sendCtrlNow; dsimp only; split <;> simp
@[simp] theorem sendCtrl_time (s : State) (p ctype flags epochNo : Nat) : (sendCtrl p ctype flags epochNo s).time = s.time := by
  unfold sendCtrl; dsimp only; split <;> simp
@[simp] theorem sendCtrlNow_belay (s : State) (p ctype flags epochNo : Nat) : (sendCtrlNow p ctype flags epochNo s).belay = s.belay := by
  unfold sendCtrlNow; dsimp only; split <;> simp
@[simp] theorem sendCtrl_belay (s : State) (p ctype flags epochNo : Nat) : (sendCtrl p ctype flags epochNo s).belay = s.belay := by
  unfold sendCtrl; dsimp only; split <;> simp
@[simp] theorem sendCtrlNow_probe (s : State) (p ctype flags epochNo : Nat) : (sendCtrlNow p ctype flags epochNo s).probe = s.probe := by
  unfold sendCtrlNow; dsimp only; split <;> simp
@[simp] theorem sendCtrl_probe (s : State) (p ctype flags epochNo : Nat) : (sendCtrl p ctype flags epochNo s).probe = s.probe := by
  unfold sendCtrl; dsimp only; split <;> simp
@[simp] theorem sendCtrlNow_sig (s : State) (p ctype flags epochNo : Nat) : (sendCtrlNow p ctype flags epochNo s).sig = s.sig := by
  unfold sendCtrlNow; dsimp only; split <;> simp
@[simp] theorem sendCtrl_sig (s : State) (p ctype flags epochNo : Nat) : (sendCtrl p ctype flags epochNo s).sig = s.sig := by
  unfold sendCtrl; dsimp only; split <;> simp
@[simp] theorem sendCtrlNow_trig (s : State) (p ctype flags epochNo : Nat) : (sendCtrlNow p ctype flags epochNo s).trig = s.trig := by
  unfold sendCtrlNow; dsimp only; split <;> simp
@[simp] theorem sendCtrl_trig (s : State) (p ctype flags epochNo : Nat) : (sendCtrl p ctype flags epochNo s).trig = s.trig := by
  unfold sendCtrl; dsimp only; split <;> simp
@[simp] theorem sendCtrlNow_mem (s : State) (p ctype flags epochNo : Nat) : (sendCtrlNow p ctype flags epochNo s).mem = s.mem := by
  unfold sendCtrlNow; dsimp only; split <;> simp
@[simp] theorem sendCtrl_mem (s : State) (p ctype flags epochNo : Nat) : (sendCtrl p ctype flags epochNo s).mem = s.mem := by
  unfold sendCtrl; dsimp only; split <;> simp
@[simp] theorem sendCtrlNow_acc (s : State) (p ctype flags epochNo : Nat) : (sendCtrlNow p ctype flags epochNo s).acc = s.acc := by
  unfold sendCtrlNow; dsimp only; split <;> simp
@[simp] theorem sendCtrl_acc (s : State) (p ctype flags epochNo : Nat) : (sendCtrl p ctype flags epochNo s).acc = s.acc := by
  unfold sendCtrl; dsimp only; split <;> simp
@[simp] theorem sendCtrlNow_alerts (s : State) (p ctype flags epochNo : Nat) : (sendCtrlNow p ctype flags epochNo s).alerts = s.alerts := by
  unfold sendCtrlNow; dsimp only; split <;> simp
@[simp] theorem sendCtrl_alerts (s : State) (p ctype flags epochNo : Nat) : (sendCtrl p ctype flags epochNo s).alerts = s.alerts := by
  unfold sendCtrl; dsimp only; split <;> simp
@[simp] theorem sendCtrlNow_coh (s : State) (p ctype flags epochNo : Nat) : (sendCtrlNow p ctype flags epochNo s).coh = s.coh := by
  unfold sendCtrlNow; dsimp only; split <;> simp
@[simp] theorem sendCtrl_coh (s : State) (p ctype flags epochNo : Nat) : (sendCtrl p ctype flags epochNo s).coh = s.coh := by
  unfold sendCtrl; dsimp only; split <;> simp
@[simp] theorem sendCtrlNow_sto (s : State) (p ctype flags epochNo : Nat) : (sendCtrlNow p ctype flags epochNo s).sto = s.sto := by
  unfold sendCtrlNow; dsimp only; split <;> simp
@[simp] theorem sendCtrl_sto (s : State) (p ctype flags epochNo : Nat) : (sendCtrl p ctype flags epochNo s).sto = s.sto := by
  unfold sendCtrl; dsimp only; split <;> simp
@[simp] theorem sendCtrlNow_comp (s : State) (p ctype flags epochNo : Nat) : (sendCtrlNow p ctype flags epochNo s).comp = s.comp := by
  unfold sendCtrlNow; dsimp only; split <;> simp
@[simp] theorem sendCtrl_comp (s : State) (p ctype flags epochNo : Nat) : (sendCtrl p ctype flags epochNo s).comp = s.comp := by
  unfold sendCtrl; dsimp only; split <;> simp
@[simp] theorem sendCtrlNow_pair (s : State) (p ctype flags epochNo : Nat) : (sendCtrlNow p ctype flags epochNo s).pair = s.pair := by
  unfold sendCtrlNow; dsimp only; split <;> simp
@[simp] theorem sendCtrl_pair (s : State) (p ctype flags epochNo : Nat) : (sendCtrl p ctype flags epochNo s).pair = s.pair := by
  unfold sendCtrl; dsimp only; split <;> simp

/-! ### sendSlots -/

@[simp] theorem sendSlots_pending (p fuel : Nat) : ∀ (cont : Nat) (slots : Octets) (s : State), (sendSlots p fuel cont slots s).pending = s.pending := by
  induction fuel with
  | zero => intros; rfl
  | succ n ih => intros; unfold sendSlots; dsimp only; split <;> simp [ih]
@[simp] theorem sendSlots_free (p fuel : Nat) : ∀ (cont : Nat) (slots : Octets) (s : State), (sendSlots p fuel cont slots s).free = s.free := by
  induction fuel with
  | zero => intros; rfl
  | succ n ih => intros; unfold sendSlots; dsimp only; split <;> simp [ih]
@[simp] theorem sendSlots_now (p fuel : Nat) : ∀ (cont : Nat) (slots : Octets) (s : State), (sendSlots p fuel cont slots s).now = s.now := by
  induction fuel with
  | zero => intros; rfl
  | succ n ih => intros; unfold sendSlots; dsimp only; split <;> simp [ih]
@[simp] theorem sendSlots_staged (p fuel : Nat) : ∀ (cont : Nat) (slots : Octets) (s : State), (sendSlots p fuel cont slots s).staged = s.staged := by
  induction fuel with
  | zero => intros; rfl
  | succ n ih => intros; unfold sendSlots; dsimp only; split <;> simp [ih]
@[simp] theorem sendSlots_badWords (p fuel : Nat) : ∀ (cont : Nat) (slots : Octets) (s : State), (sendSlots p fuel cont slots s).badWords = s.badWords := by
  induction fuel with
  | zero => intros; rfl
  | succ n ih => intros; unfold sendSlots; dsimp only; split <;> simp [ih]
@[simp] theorem sendSlots_written (p fuel : Nat) : ∀ (cont : Nat) (slots : Octets) (s : State), (sendSlots p fuel cont slots s).written = s.written := by
  induction fuel with
  | zero => intros; rfl
  | succ n ih => intros; unfold sendSlots; dsimp only; split <;> simp [ih]
@[simp] theorem sendSlots_locked (p fuel : Nat) : ∀ (cont : Nat) (slots : Octets) (s : State), (sendSlots p fuel cont slots s).locked = s.locked := by
  induction fuel with
  | zero => intros; rfl
  | succ n ih => intros; unfold sendSlots; dsimp only; split <;> simp [ih]
@[simp] theorem sendSlots_power (p fuel : Nat) : ∀ (cont : Nat) (slots : Octets) (s : State), (sendSlots p fuel cont slots s).power = s.power := by
  induction fuel with
  | zero => intros; rfl
  | succ n ih => intros; unfold sendSlots; dsimp only; split <;> simp [ih]
@[simp] theorem sendSlots_clk (p fuel : Nat) : ∀ (cont : Nat) (slots : Octets) (s : State), (sendSlots p fuel cont slots s).clk = s.clk := by
  induction fuel with
  | zero => intros; rfl
  | succ n ih => intros; unfold sendSlots; dsimp only; split <;> simp [ih]
@[simp] theorem sendSlots_boot (p fuel : Nat) : ∀ (cont : Nat) (slots : Octets) (s : State), (sendSlots p fuel cont slots s).boot = s.boot := by
  induction fuel with
  | zero => intros; rfl
  | succ n ih => intros; unfold sendSlots; dsimp only; split <;> simp [ih]
@[simp] theorem sendSlots_commit (p fuel : Nat) : ∀ (cont : Nat) (slots : Octets) (s : State), (sendSlots p fuel cont slots s).commit = s.commit := by
  induction fuel with
  | zero => intros; rfl
  | succ n ih => intros; unfold sendSlots; dsimp only; split <;> simp [ih]
@[simp] theorem sendSlots_sec (p fuel : Nat) : ∀ (cont : Nat) (slots : Octets) (s : State), (sendSlots p fuel cont slots s).sec = s.sec := by
  induction fuel with
  | zero => intros; rfl
  | succ n ih => intros; unfold sendSlots; dsimp only; split <;> simp [ih]
@[simp] theorem sendSlots_time (p fuel : Nat) : ∀ (cont : Nat) (slots : Octets) (s : State), (sendSlots p fuel cont slots s).time = s.time := by
  induction fuel with
  | zero => intros; rfl
  | succ n ih => intros; unfold sendSlots; dsimp only; split <;> simp [ih]
@[simp] theorem sendSlots_belay (p fuel : Nat) : ∀ (cont : Nat) (slots : Octets) (s : State), (sendSlots p fuel cont slots s).belay = s.belay := by
  induction fuel with
  | zero => intros; rfl
  | succ n ih => intros; unfold sendSlots; dsimp only; split <;> simp [ih]
@[simp] theorem sendSlots_probe (p fuel : Nat) : ∀ (cont : Nat) (slots : Octets) (s : State), (sendSlots p fuel cont slots s).probe = s.probe := by
  induction fuel with
  | zero => intros; rfl
  | succ n ih => intros; unfold sendSlots; dsimp only; split <;> simp [ih]
@[simp] theorem sendSlots_sig (p fuel : Nat) : ∀ (cont : Nat) (slots : Octets) (s : State), (sendSlots p fuel cont slots s).sig = s.sig := by
  induction fuel with
  | zero => intros; rfl
  | succ n ih => intros; unfold sendSlots; dsimp only; split <;> simp [ih]
@[simp] theorem sendSlots_trig (p fuel : Nat) : ∀ (cont : Nat) (slots : Octets) (s : State), (sendSlots p fuel cont slots s).trig = s.trig := by
  induction fuel with
  | zero => intros; rfl
  | succ n ih => intros; unfold sendSlots; dsimp only; split <;> simp [ih]
@[simp] theorem sendSlots_mem (p fuel : Nat) : ∀ (cont : Nat) (slots : Octets) (s : State), (sendSlots p fuel cont slots s).mem = s.mem := by
  induction fuel with
  | zero => intros; rfl
  | succ n ih => intros; unfold sendSlots; dsimp only; split <;> simp [ih]
@[simp] theorem sendSlots_acc (p fuel : Nat) : ∀ (cont : Nat) (slots : Octets) (s : State), (sendSlots p fuel cont slots s).acc = s.acc := by
  induction fuel with
  | zero => intros; rfl
  | succ n ih => intros; unfold sendSlots; dsimp only; split <;> simp [ih]
@[simp] theorem sendSlots_alerts (p fuel : Nat) : ∀ (cont : Nat) (slots : Octets) (s : State), (sendSlots p fuel cont slots s).alerts = s.alerts := by
  induction fuel with
  | zero => intros; rfl
  | succ n ih => intros; unfold sendSlots; dsimp only; split <;> simp [ih]
@[simp] theorem sendSlots_coh (p fuel : Nat) : ∀ (cont : Nat) (slots : Octets) (s : State), (sendSlots p fuel cont slots s).coh = s.coh := by
  induction fuel with
  | zero => intros; rfl
  | succ n ih => intros; unfold sendSlots; dsimp only; split <;> simp [ih]
@[simp] theorem sendSlots_sto (p fuel : Nat) : ∀ (cont : Nat) (slots : Octets) (s : State), (sendSlots p fuel cont slots s).sto = s.sto := by
  induction fuel with
  | zero => intros; rfl
  | succ n ih => intros; unfold sendSlots; dsimp only; split <;> simp [ih]
@[simp] theorem sendSlots_comp (p fuel : Nat) : ∀ (cont : Nat) (slots : Octets) (s : State), (sendSlots p fuel cont slots s).comp = s.comp := by
  induction fuel with
  | zero => intros; rfl
  | succ n ih => intros; unfold sendSlots; dsimp only; split <;> simp [ih]
@[simp] theorem sendSlots_pair (p fuel : Nat) : ∀ (cont : Nat) (slots : Octets) (s : State), (sendSlots p fuel cont slots s).pair = s.pair := by
  induction fuel with
  | zero => intros; rfl
  | succ n ih => intros; unfold sendSlots; dsimp only; split <;> simp [ih]

/-! ### sendMsg -/

@[simp] theorem sendMsg_pending (s : State) (p : Nat) (m : LinkMsg) : (sendMsg p m s).pending = s.pending := by
  unfold sendMsg; dsimp only; repeat' split
  all_goals simp
@[simp] theorem sendMsg_free (s : State) (p : Nat) (m : LinkMsg) : (sendMsg p m s).free = s.free := by
  unfold sendMsg; dsimp only; repeat' split
  all_goals simp
@[simp] theorem sendMsg_now (s : State) (p : Nat) (m : LinkMsg) : (sendMsg p m s).now = s.now := by
  unfold sendMsg; dsimp only; repeat' split
  all_goals simp
@[simp] theorem sendMsg_staged (s : State) (p : Nat) (m : LinkMsg) : (sendMsg p m s).staged = s.staged := by
  unfold sendMsg; dsimp only; repeat' split
  all_goals simp
@[simp] theorem sendMsg_badWords (s : State) (p : Nat) (m : LinkMsg) : (sendMsg p m s).badWords = s.badWords := by
  unfold sendMsg; dsimp only; repeat' split
  all_goals simp
@[simp] theorem sendMsg_written (s : State) (p : Nat) (m : LinkMsg) : (sendMsg p m s).written = s.written := by
  unfold sendMsg; dsimp only; repeat' split
  all_goals simp
@[simp] theorem sendMsg_locked (s : State) (p : Nat) (m : LinkMsg) : (sendMsg p m s).locked = s.locked := by
  unfold sendMsg; dsimp only; repeat' split
  all_goals simp
@[simp] theorem sendMsg_power (s : State) (p : Nat) (m : LinkMsg) : (sendMsg p m s).power = s.power := by
  unfold sendMsg; dsimp only; repeat' split
  all_goals simp
@[simp] theorem sendMsg_clk (s : State) (p : Nat) (m : LinkMsg) : (sendMsg p m s).clk = s.clk := by
  unfold sendMsg; dsimp only; repeat' split
  all_goals simp
@[simp] theorem sendMsg_boot (s : State) (p : Nat) (m : LinkMsg) : (sendMsg p m s).boot = s.boot := by
  unfold sendMsg; dsimp only; repeat' split
  all_goals simp
@[simp] theorem sendMsg_commit (s : State) (p : Nat) (m : LinkMsg) : (sendMsg p m s).commit = s.commit := by
  unfold sendMsg; dsimp only; repeat' split
  all_goals simp
@[simp] theorem sendMsg_sec (s : State) (p : Nat) (m : LinkMsg) : (sendMsg p m s).sec = s.sec := by
  unfold sendMsg; dsimp only; repeat' split
  all_goals simp
@[simp] theorem sendMsg_time (s : State) (p : Nat) (m : LinkMsg) : (sendMsg p m s).time = s.time := by
  unfold sendMsg; dsimp only; repeat' split
  all_goals simp
@[simp] theorem sendMsg_belay (s : State) (p : Nat) (m : LinkMsg) : (sendMsg p m s).belay = s.belay := by
  unfold sendMsg; dsimp only; repeat' split
  all_goals simp
@[simp] theorem sendMsg_probe (s : State) (p : Nat) (m : LinkMsg) : (sendMsg p m s).probe = s.probe := by
  unfold sendMsg; dsimp only; repeat' split
  all_goals simp
@[simp] theorem sendMsg_sig (s : State) (p : Nat) (m : LinkMsg) : (sendMsg p m s).sig = s.sig := by
  unfold sendMsg; dsimp only; repeat' split
  all_goals simp
@[simp] theorem sendMsg_trig (s : State) (p : Nat) (m : LinkMsg) : (sendMsg p m s).trig = s.trig := by
  unfold sendMsg; dsimp only; repeat' split
  all_goals simp
@[simp] theorem sendMsg_mem (s : State) (p : Nat) (m : LinkMsg) : (sendMsg p m s).mem = s.mem := by
  unfold sendMsg; dsimp only; repeat' split
  all_goals simp
@[simp] theorem sendMsg_acc (s : State) (p : Nat) (m : LinkMsg) : (sendMsg p m s).acc = s.acc := by
  unfold sendMsg; dsimp only; repeat' split
  all_goals simp
@[simp] theorem sendMsg_alerts (s : State) (p : Nat) (m : LinkMsg) : (sendMsg p m s).alerts = s.alerts := by
  unfold sendMsg; dsimp only; repeat' split
  all_goals simp
@[simp] theorem sendMsg_coh (s : State) (p : Nat) (m : LinkMsg) : (sendMsg p m s).coh = s.coh := by
  unfold sendMsg; dsimp only; repeat' split
  all_goals simp
@[simp] theorem sendMsg_sto (s : State) (p : Nat) (m : LinkMsg) : (sendMsg p m s).sto = s.sto := by
  unfold sendMsg; dsimp only; repeat' split
  all_goals simp
@[simp] theorem sendMsg_comp (s : State) (p : Nat) (m : LinkMsg) : (sendMsg p m s).comp = s.comp := by
  unfold sendMsg; dsimp only; repeat' split
  all_goals simp
@[simp] theorem sendMsg_pair (s : State) (p : Nat) (m : LinkMsg) : (sendMsg p m s).pair = s.pair := by
  unfold sendMsg; dsimp only; repeat' split
  all_goals simp

/-! ### State.devDone -/

@[simp] theorem State.devDone_pending (s : State) (r : DevReq) (result : Nat) (data : Octets) : (s.devDone r result data).pending = s.pending := by
  rfl
@[simp] theorem State.devDone_free (s : State) (r : DevReq) (result : Nat) (data : Octets) : (s.devDone r result data).free = s.free := by
  rfl
@[simp] theorem State.devDone_now (s : State) (r : DevReq) (result : Nat) (data : Octets) : (s.devDone r result data).now = s.now := by
  rfl
@[simp] theorem State.devDone_staged (s : State) (r : DevReq) (result : Nat) (data : Octets) : (s.devDone r result data).staged = s.staged := by
  rfl
@[simp] theorem State.devDone_badWords (s : State) (r : DevReq) (result : Nat) (data : Octets) : (s.devDone r result data).badWords = s.badWords := by
  rfl
@[simp] theorem State.devDone_written (s : State) (r : DevReq) (result : Nat) (data : Octets) : (s.devDone r result data).written = s.written := by
  rfl
@[simp] theorem State.devDone_locked (s : State) (r : DevReq) (result : Nat) (data : Octets) : (s.devDone r result data).locked = s.locked := by
  rfl
@[simp] theorem State.devDone_power (s : State) (r : DevReq) (result : Nat) (data : Octets) : (s.devDone r result data).power = s.power := by
  rfl
@[simp] theorem State.devDone_clk (s : State) (r : DevReq) (result : Nat) (data : Octets) : (s.devDone r result data).clk = s.clk := by
  rfl
@[simp] theorem State.devDone_boot (s : State) (r : DevReq) (result : Nat) (data : Octets) : (s.devDone r result data).boot = s.boot := by
  rfl
@[simp] theorem State.devDone_commit (s : State) (r : DevReq) (result : Nat) (data : Octets) : (s.devDone r result data).commit = s.commit := by
  rfl
@[simp] theorem State.devDone_sec (s : State) (r : DevReq) (result : Nat) (data : Octets) : (s.devDone r result data).sec = s.sec := by
  rfl
@[simp] theorem State.devDone_time (s : State) (r : DevReq) (result : Nat) (data : Octets) : (s.devDone r result data).time = s.time := by
  rfl
@[simp] theorem State.devDone_belay (s : State) (r : DevReq) (result : Nat) (data : Octets) : (s.devDone r result data).belay = s.belay := by
  rfl
@[simp] theorem State.devDone_probe (s : State) (r : DevReq) (result : Nat) (data : Octets) : (s.devDone r result data).probe = s.probe := by
  rfl
@[simp] theorem State.devDone_sig (s : State) (r : DevReq) (result : Nat) (data : Octets) : (s.devDone r result data).sig = s.sig := by
  rfl
@[simp] theorem State.devDone_trig (s : State) (r : DevReq) (result : Nat) (data : Octets) : (s.devDone r result data).trig = s.trig := by
  rfl
@[simp] theorem State.devDone_mem (s : State) (r : DevReq) (result : Nat) (data : Octets) : (s.devDone r result data).mem = s.mem := by
  rfl
@[simp] theorem State.devDone_acc (s : State) (r : DevReq) (result : Nat) (data : Octets) : (s.devDone r result data).acc = s.acc := by
  rfl
@[simp] theorem State.devDone_alerts (s : State) (r : DevReq) (result : Nat) (data : Octets) : (s.devDone r result data).alerts = s.alerts := by
  rfl
@[simp] theorem State.devDone_sto (s : State) (r : DevReq) (result : Nat) (data : Octets) : (s.devDone r result data).sto = s.sto := by
  rfl
@[simp] theorem State.devDone_comp (s : State) (r : DevReq) (result : Nat) (data : Octets) : (s.devDone r result data).comp = s.comp := by
  rfl
@[simp] theorem State.devDone_pair (s : State) (r : DevReq) (result : Nat) (data : Octets) : (s.devDone r result data).pair = s.pair := by
  rfl
@[simp] theorem State.devDone_ports (s : State) (r : DevReq) (result : Nat) (data : Octets) : (s.devDone r result data).ports = s.ports := by
  rfl
@[simp] theorem State.devDone_out (s : State) (r : DevReq) (result : Nat) (data : Octets) : (s.devDone r result data).out = s.out := by
  rfl
@[simp] theorem State.devDone_obj (s : State) (r : DevReq) (result : Nat) (data : Octets) : (s.devDone r result data).obj = s.obj := by
  rfl

/-! ### State.putDesc -/

@[simp] theorem State.putDesc_pending (s : State) (line : Nat) (d : DescLine) : (s.putDesc line d).pending = s.pending := by
  rfl
@[simp] theorem State.putDesc_free (s : State) (line : Nat) (d : DescLine) : (s.putDesc line d).free = s.free := by
  rfl
@[simp] theorem State.putDesc_now (s : State) (line : Nat) (d : DescLine) : (s.putDesc line d).now = s.now := by
  rfl
@[simp] theorem State.putDesc_staged (s : State) (line : Nat) (d : DescLine) : (s.putDesc line d).staged = s.staged := by
  rfl
@[simp] theorem State.putDesc_badWords (s : State) (line : Nat) (d : DescLine) : (s.putDesc line d).badWords = s.badWords := by
  rfl
@[simp] theorem State.putDesc_written (s : State) (line : Nat) (d : DescLine) : (s.putDesc line d).written = s.written := by
  rfl
@[simp] theorem State.putDesc_locked (s : State) (line : Nat) (d : DescLine) : (s.putDesc line d).locked = s.locked := by
  rfl
@[simp] theorem State.putDesc_power (s : State) (line : Nat) (d : DescLine) : (s.putDesc line d).power = s.power := by
  rfl
@[simp] theorem State.putDesc_clk (s : State) (line : Nat) (d : DescLine) : (s.putDesc line d).clk = s.clk := by
  rfl
@[simp] theorem State.putDesc_boot (s : State) (line : Nat) (d : DescLine) : (s.putDesc line d).boot = s.boot := by
  rfl
@[simp] theorem State.putDesc_commit (s : State) (line : Nat) (d : DescLine) : (s.putDesc line d).commit = s.commit := by
  rfl
@[simp] theorem State.putDesc_sec (s : State) (line : Nat) (d : DescLine) : (s.putDesc line d).sec = s.sec := by
  rfl
@[simp] theorem State.putDesc_time (s : State) (line : Nat) (d : DescLine) : (s.putDesc line d).time = s.time := by
  rfl
@[simp] theorem State.putDesc_belay (s : State) (line : Nat) (d : DescLine) : (s.putDesc line d).belay = s.belay := by
  rfl
@[simp] theorem State.putDesc_probe (s : State) (line : Nat) (d : DescLine) : (s.putDesc line d).probe = s.probe := by
  rfl
@[simp] theorem State.putDesc_sig (s : State) (line : Nat) (d : DescLine) : (s.putDesc line d).sig = s.sig := by
  rfl
@[simp] theorem State.putDesc_trig (s : State) (line : Nat) (d : DescLine) : (s.putDesc line d).trig = s.trig := by
  rfl
@[simp] theorem State.putDesc_mem (s : State) (line : Nat) (d : DescLine) : (s.putDesc line d).mem = s.mem := by
  rfl
@[simp] theorem State.putDesc_acc (s : State) (line : Nat) (d : DescLine) : (s.putDesc line d).acc = s.acc := by
  rfl
@[simp] theorem State.putDesc_alerts (s : State) (line : Nat) (d : DescLine) : (s.putDesc line d).alerts = s.alerts := by
  rfl
@[simp] theorem State.putDesc_sto (s : State) (line : Nat) (d : DescLine) : (s.putDesc line d).sto = s.sto := by
  rfl
@[simp] theorem State.putDesc_comp (s : State) (line : Nat) (d : DescLine) : (s.putDesc line d).comp = s.comp := by
  rfl
@[simp] theorem State.putDesc_pair (s : State) (line : Nat) (d : DescLine) : (s.putDesc line d).pair = s.pair := by
  rfl
@[simp] theorem State.putDesc_ports (s : State) (line : Nat) (d : DescLine) : (s.putDesc line d).ports = s.ports := by
  rfl
@[simp] theorem State.putDesc_out (s : State) (line : Nat) (d : DescLine) : (s.putDesc line d).out = s.out := by
  rfl
@[simp] theorem State.putDesc_obj (s : State) (line : Nat) (d : DescLine) : (s.putDesc line d).obj = s.obj := by
  rfl

/-! ### State.dropDesc -/

@[simp] theorem State.dropDesc_pending (s : State) (line : Nat) : (s.dropDesc line).pending = s.pending := by
  rfl
@[simp] theorem State.dropDesc_free (s : State) (line : Nat) : (s.dropDesc line).free = s.free := by
  rfl
@[simp] theorem State.dropDesc_now (s : State) (line : Nat) : (s.dropDesc line).now = s.now := by
  rfl
@[simp] theorem State.dropDesc_staged (s : State) (line : Nat) : (s.dropDesc line).staged = s.staged := by
  rfl
@[simp] theorem State.dropDesc_badWords (s : State) (line : Nat) : (s.dropDesc line).badWords = s.badWords := by
  rfl
@[simp] theorem State.dropDesc_written (s : State) (line : Nat) : (s.dropDesc line).written = s.written := by
  rfl
@[simp] theorem State.dropDesc_locked (s : State) (line : Nat) : (s.dropDesc line).locked = s.locked := by
  rfl
@[simp] theorem State.dropDesc_power (s : State) (line : Nat) : (s.dropDesc line).power = s.power := by
  rfl
@[simp] theorem State.dropDesc_clk (s : State) (line : Nat) : (s.dropDesc line).clk = s.clk := by
  rfl
@[simp] theorem State.dropDesc_boot (s : State) (line : Nat) : (s.dropDesc line).boot = s.boot := by
  rfl
@[simp] theorem State.dropDesc_commit (s : State) (line : Nat) : (s.dropDesc line).commit = s.commit := by
  rfl
@[simp] theorem State.dropDesc_sec (s : State) (line : Nat) : (s.dropDesc line).sec = s.sec := by
  rfl
@[simp] theorem State.dropDesc_time (s : State) (line : Nat) : (s.dropDesc line).time = s.time := by
  rfl
@[simp] theorem State.dropDesc_belay (s : State) (line : Nat) : (s.dropDesc line).belay = s.belay := by
  rfl
@[simp] theorem State.dropDesc_probe (s : State) (line : Nat) : (s.dropDesc line).probe = s.probe := by
  rfl
@[simp] theorem State.dropDesc_sig (s : State) (line : Nat) : (s.dropDesc line).sig = s.sig := by
  rfl
@[simp] theorem State.dropDesc_trig (s : State) (line : Nat) : (s.dropDesc line).trig = s.trig := by
  rfl
@[simp] theorem State.dropDesc_mem (s : State) (line : Nat) : (s.dropDesc line).mem = s.mem := by
  rfl
@[simp] theorem State.dropDesc_acc (s : State) (line : Nat) : (s.dropDesc line).acc = s.acc := by
  rfl
@[simp] theorem State.dropDesc_alerts (s : State) (line : Nat) : (s.dropDesc line).alerts = s.alerts := by
  rfl
@[simp] theorem State.dropDesc_sto (s : State) (line : Nat) : (s.dropDesc line).sto = s.sto := by
  rfl
@[simp] theorem State.dropDesc_comp (s : State) (line : Nat) : (s.dropDesc line).comp = s.comp := by
  rfl
@[simp] theorem State.dropDesc_pair (s : State) (line : Nat) : (s.dropDesc line).pair = s.pair := by
  rfl
@[simp] theorem State.dropDesc_ports (s : State) (line : Nat) : (s.dropDesc line).ports = s.ports := by
  rfl
@[simp] theorem State.dropDesc_out (s : State) (line : Nat) : (s.dropDesc line).out = s.out := by
  rfl
@[simp] theorem State.dropDesc_obj (s : State) (line : Nat) : (s.dropDesc line).obj = s.obj := by
  rfl

/-! ### State.devSend -/

@[simp] theorem State.devSend_pending (s : State) (r : DevReq) (did : Nat) : (s.devSend r did).pending = s.pending := by
  unfold State.devSend; simp
@[simp] theorem State.devSend_free (s : State) (r : DevReq) (did : Nat) : (s.devSend r did).free = s.free := by
  unfold State.devSend; simp
@[simp] theorem State.devSend_now (s : State) (r : DevReq) (did : Nat) : (s.devSend r did).now = s.now := by
  unfold State.devSend; simp
@[simp] theorem State.devSend_staged (s : State) (r : DevReq) (did : Nat) : (s.devSend r did).staged = s.staged := by
  unfold State.devSend; simp
@[simp] theorem State.devSend_badWords (s : State) (r : DevReq) (did : Nat) : (s.devSend r did).badWords = s.badWords := by
  unfold State.devSend; simp
@[simp] theorem State.devSend_written (s : State) (r : DevReq) (did : Nat) : (s.devSend r did).written = s.written := by
  unfold State.devSend; simp
@[simp] theorem State.devSend_locked (s : State) (r : DevReq) (did : Nat) : (s.devSend r did).locked = s.locked := by
  unfold State.devSend; simp
@[simp] theorem State.devSend_power (s : State) (r : DevReq) (did : Nat) : (s.devSend r did).power = s.power := by
  unfold State.devSend; simp
@[simp] theorem State.devSend_clk (s : State) (r : DevReq) (did : Nat) : (s.devSend r did).clk = s.clk := by
  unfold State.devSend; simp
@[simp] theorem State.devSend_boot (s : State) (r : DevReq) (did : Nat) : (s.devSend r did).boot = s.boot := by
  unfold State.devSend; simp
@[simp] theorem State.devSend_commit (s : State) (r : DevReq) (did : Nat) : (s.devSend r did).commit = s.commit := by
  unfold State.devSend; simp
@[simp] theorem State.devSend_sec (s : State) (r : DevReq) (did : Nat) : (s.devSend r did).sec = s.sec := by
  unfold State.devSend; simp
@[simp] theorem State.devSend_time (s : State) (r : DevReq) (did : Nat) : (s.devSend r did).time = s.time := by
  unfold State.devSend; simp
@[simp] theorem State.devSend_belay (s : State) (r : DevReq) (did : Nat) : (s.devSend r did).belay = s.belay := by
  unfold State.devSend; simp
@[simp] theorem State.devSend_probe (s : State) (r : DevReq) (did : Nat) : (s.devSend r did).probe = s.probe := by
  unfold State.devSend; simp
@[simp] theorem State.devSend_sig (s : State) (r : DevReq) (did : Nat) : (s.devSend r did).sig = s.sig := by
  unfold State.devSend; simp
@[simp] theorem State.devSend_trig (s : State) (r : DevReq) (did : Nat) : (s.devSend r did).trig = s.trig := by
  unfold State.devSend; simp
@[simp] theorem State.devSend_mem (s : State) (r : DevReq) (did : Nat) : (s.devSend r did).mem = s.mem := by
  unfold State.devSend; simp
@[simp] theorem State.devSend_acc (s : State) (r : DevReq) (did : Nat) : (s.devSend r did).acc = s.acc := by
  unfold State.devSend; simp
@[simp] theorem State.devSend_alerts (s : State) (r : DevReq) (did : Nat) : (s.devSend r did).alerts = s.alerts := by
  unfold State.devSend; simp
@[simp] theorem State.devSend_sto (s : State) (r : DevReq) (did : Nat) : (s.devSend r did).sto = s.sto := by
  unfold State.devSend; simp
@[simp] theorem State.devSend_comp (s : State) (r : DevReq) (did : Nat) : (s.devSend r did).comp = s.comp := by
  unfold State.devSend; simp
@[simp] theorem State.devSend_pair (s : State) (r : DevReq) (did : Nat) : (s.devSend r did).pair = s.pair := by
  unfold State.devSend; simp

/-! ### State.devRequest -/

@[simp] theorem State.devRequest_pending (s : State) (unit arg opc line : Nat) (data : Octets) : (s.devRequest unit arg opc line data).pending = s.pending := by
  unfold State.devRequest; dsimp only; repeat' split
  all_goals simp
@[simp] theorem State.devRequest_free (s : State) (unit arg opc line : Nat) (data : Octets) : (s.devRequest unit arg opc line data).free = s.free := by
  unfold State.devRequest; dsimp only; repeat' split
  all_goals simp
@[simp] theorem State.devRequest_now (s : State) (unit arg opc line : Nat) (data : Octets) : (s.devRequest unit arg opc line data).now = s.now := by
  unfold State.devRequest; dsimp only; repeat' split
  all_goals simp
@[simp] theorem State.devRequest_staged (s : State) (unit arg opc line : Nat) (data : Octets) : (s.devRequest unit arg opc line data).staged = s.staged := by
  unfold State.devRequest; dsimp only; repeat' split
  all_goals simp
@[simp] theorem State.devRequest_badWords (s : State) (unit arg opc line : Nat) (data : Octets) : (s.devRequest unit arg opc line data).badWords = s.badWords := by
  unfold State.devRequest; dsimp only; repeat' split
  all_goals simp
@[simp] theorem State.devRequest_written (s : State) (unit arg opc line : Nat) (data : Octets) : (s.devRequest unit arg opc line data).written = s.written := by
  unfold State.devRequest; dsimp only; repeat' split
  all_goals simp
@[simp] theorem State.devRequest_locked (s : State) (unit arg opc line : Nat) (data : Octets) : (s.devRequest unit arg opc line data).locked = s.locked := by
  unfold State.devRequest; dsimp only; repeat' split
  all_goals simp
@[simp] theorem State.devRequest_power (s : State) (unit arg opc line : Nat) (data : Octets) : (s.devRequest unit arg opc line data).power = s.power := by
  unfold State.devRequest; dsimp only; repeat' split
  all_goals simp
@[simp] theorem State.devRequest_clk (s : State) (unit arg opc line : Nat) (data : Octets) : (s.devRequest unit arg opc line data).clk = s.clk := by
  unfold State.devRequest; dsimp only; repeat' split
  all_goals simp
@[simp] theorem State.devRequest_boot (s : State) (unit arg opc line : Nat) (data : Octets) : (s.devRequest unit arg opc line data).boot = s.boot := by
  unfold State.devRequest; dsimp only; repeat' split
  all_goals simp
@[simp] theorem State.devRequest_commit (s : State) (unit arg opc line : Nat) (data : Octets) : (s.devRequest unit arg opc line data).commit = s.commit := by
  unfold State.devRequest; dsimp only; repeat' split
  all_goals simp
@[simp] theorem State.devRequest_sec (s : State) (unit arg opc line : Nat) (data : Octets) : (s.devRequest unit arg opc line data).sec = s.sec := by
  unfold State.devRequest; dsimp only; repeat' split
  all_goals simp
@[simp] theorem State.devRequest_time (s : State) (unit arg opc line : Nat) (data : Octets) : (s.devRequest unit arg opc line data).time = s.time := by
  unfold State.devRequest; dsimp only; repeat' split
  all_goals simp
@[simp] theorem State.devRequest_belay (s : State) (unit arg opc line : Nat) (data : Octets) : (s.devRequest unit arg opc line data).belay = s.belay := by
  unfold State.devRequest; dsimp only; repeat' split
  all_goals simp
@[simp] theorem State.devRequest_probe (s : State) (unit arg opc line : Nat) (data : Octets) : (s.devRequest unit arg opc line data).probe = s.probe := by
  unfold State.devRequest; dsimp only; repeat' split
  all_goals simp
@[simp] theorem State.devRequest_sig (s : State) (unit arg opc line : Nat) (data : Octets) : (s.devRequest unit arg opc line data).sig = s.sig := by
  unfold State.devRequest; dsimp only; repeat' split
  all_goals simp
@[simp] theorem State.devRequest_trig (s : State) (unit arg opc line : Nat) (data : Octets) : (s.devRequest unit arg opc line data).trig = s.trig := by
  unfold State.devRequest; dsimp only; repeat' split
  all_goals simp
@[simp] theorem State.devRequest_mem (s : State) (unit arg opc line : Nat) (data : Octets) : (s.devRequest unit arg opc line data).mem = s.mem := by
  unfold State.devRequest; dsimp only; repeat' split
  all_goals simp
@[simp] theorem State.devRequest_acc (s : State) (unit arg opc line : Nat) (data : Octets) : (s.devRequest unit arg opc line data).acc = s.acc := by
  unfold State.devRequest; dsimp only; repeat' split
  all_goals simp
@[simp] theorem State.devRequest_alerts (s : State) (unit arg opc line : Nat) (data : Octets) : (s.devRequest unit arg opc line data).alerts = s.alerts := by
  unfold State.devRequest; dsimp only; repeat' split
  all_goals simp
@[simp] theorem State.devRequest_sto (s : State) (unit arg opc line : Nat) (data : Octets) : (s.devRequest unit arg opc line data).sto = s.sto := by
  unfold State.devRequest; dsimp only; repeat' split
  all_goals simp
@[simp] theorem State.devRequest_comp (s : State) (unit arg opc line : Nat) (data : Octets) : (s.devRequest unit arg opc line data).comp = s.comp := by
  unfold State.devRequest; dsimp only; repeat' split
  all_goals simp
@[simp] theorem State.devRequest_pair (s : State) (unit arg opc line : Nat) (data : Octets) : (s.devRequest unit arg opc line data).pair = s.pair := by
  unfold State.devRequest; dsimp only; repeat' split
  all_goals simp

/-! ### State.dropLane -/

@[simp] theorem State.dropLane_pending (s : State) (l : Nat) : (s.dropLane l).pending = s.pending := by
  rfl
@[simp] theorem State.dropLane_free (s : State) (l : Nat) : (s.dropLane l).free = s.free := by
  rfl
@[simp] theorem State.dropLane_now (s : State) (l : Nat) : (s.dropLane l).now = s.now := by
  rfl
@[simp] theorem State.dropLane_staged (s : State) (l : Nat) : (s.dropLane l).staged = s.staged := by
  rfl
@[simp] theorem State.dropLane_badWords (s : State) (l : Nat) : (s.dropLane l).badWords = s.badWords := by
  rfl
@[simp] theorem State.dropLane_written (s : State) (l : Nat) : (s.dropLane l).written = s.written := by
  rfl
@[simp] theorem State.dropLane_locked (s : State) (l : Nat) : (s.dropLane l).locked = s.locked := by
  rfl
@[simp] theorem State.dropLane_power (s : State) (l : Nat) : (s.dropLane l).power = s.power := by
  rfl
@[simp] theorem State.dropLane_clk (s : State) (l : Nat) : (s.dropLane l).clk = s.clk := by
  rfl
@[simp] theorem State.dropLane_boot (s : State) (l : Nat) : (s.dropLane l).boot = s.boot := by
  rfl
@[simp] theorem State.dropLane_commit (s : State) (l : Nat) : (s.dropLane l).commit = s.commit := by
  rfl
@[simp] theorem State.dropLane_sec (s : State) (l : Nat) : (s.dropLane l).sec = s.sec := by
  rfl
@[simp] theorem State.dropLane_time (s : State) (l : Nat) : (s.dropLane l).time = s.time := by
  rfl
@[simp] theorem State.dropLane_belay (s : State) (l : Nat) : (s.dropLane l).belay = s.belay := by
  rfl
@[simp] theorem State.dropLane_probe (s : State) (l : Nat) : (s.dropLane l).probe = s.probe := by
  rfl
@[simp] theorem State.dropLane_sig (s : State) (l : Nat) : (s.dropLane l).sig = s.sig := by
  rfl
@[simp] theorem State.dropLane_trig (s : State) (l : Nat) : (s.dropLane l).trig = s.trig := by
  rfl
@[simp] theorem State.dropLane_mem (s : State) (l : Nat) : (s.dropLane l).mem = s.mem := by
  rfl
@[simp] theorem State.dropLane_acc (s : State) (l : Nat) : (s.dropLane l).acc = s.acc := by
  rfl
@[simp] theorem State.dropLane_alerts (s : State) (l : Nat) : (s.dropLane l).alerts = s.alerts := by
  rfl
@[simp] theorem State.dropLane_sto (s : State) (l : Nat) : (s.dropLane l).sto = s.sto := by
  rfl
@[simp] theorem State.dropLane_coh (s : State) (l : Nat) : (s.dropLane l).coh = s.coh := by
  rfl
@[simp] theorem State.dropLane_pair (s : State) (l : Nat) : (s.dropLane l).pair = s.pair := by
  rfl
@[simp] theorem State.dropLane_ports (s : State) (l : Nat) : (s.dropLane l).ports = s.ports := by
  rfl
@[simp] theorem State.dropLane_out (s : State) (l : Nat) : (s.dropLane l).out = s.out := by
  rfl
@[simp] theorem State.dropLane_obj (s : State) (l : Nat) : (s.dropLane l).obj = s.obj := by
  rfl

/-! ### State.freeStreamLanes -/

@[simp] theorem State.freeStreamLanes_pending (s : State) (t : Nat) : (s.freeStreamLanes t).pending = s.pending := by
  unfold State.freeStreamLanes; rfl
@[simp] theorem State.freeStreamLanes_free (s : State) (t : Nat) : (s.freeStreamLanes t).free = s.free := by
  unfold State.freeStreamLanes; rfl
@[simp] theorem State.freeStreamLanes_now (s : State) (t : Nat) : (s.freeStreamLanes t).now = s.now := by
  unfold State.freeStreamLanes; rfl
@[simp] theorem State.freeStreamLanes_staged (s : State) (t : Nat) : (s.freeStreamLanes t).staged = s.staged := by
  unfold State.freeStreamLanes; rfl
@[simp] theorem State.freeStreamLanes_badWords (s : State) (t : Nat) : (s.freeStreamLanes t).badWords = s.badWords := by
  unfold State.freeStreamLanes; rfl
@[simp] theorem State.freeStreamLanes_written (s : State) (t : Nat) : (s.freeStreamLanes t).written = s.written := by
  unfold State.freeStreamLanes; rfl
@[simp] theorem State.freeStreamLanes_locked (s : State) (t : Nat) : (s.freeStreamLanes t).locked = s.locked := by
  unfold State.freeStreamLanes; rfl
@[simp] theorem State.freeStreamLanes_power (s : State) (t : Nat) : (s.freeStreamLanes t).power = s.power := by
  unfold State.freeStreamLanes; rfl
@[simp] theorem State.freeStreamLanes_clk (s : State) (t : Nat) : (s.freeStreamLanes t).clk = s.clk := by
  unfold State.freeStreamLanes; rfl
@[simp] theorem State.freeStreamLanes_boot (s : State) (t : Nat) : (s.freeStreamLanes t).boot = s.boot := by
  unfold State.freeStreamLanes; rfl
@[simp] theorem State.freeStreamLanes_commit (s : State) (t : Nat) : (s.freeStreamLanes t).commit = s.commit := by
  unfold State.freeStreamLanes; rfl
@[simp] theorem State.freeStreamLanes_sec (s : State) (t : Nat) : (s.freeStreamLanes t).sec = s.sec := by
  unfold State.freeStreamLanes; rfl
@[simp] theorem State.freeStreamLanes_time (s : State) (t : Nat) : (s.freeStreamLanes t).time = s.time := by
  unfold State.freeStreamLanes; rfl
@[simp] theorem State.freeStreamLanes_belay (s : State) (t : Nat) : (s.freeStreamLanes t).belay = s.belay := by
  unfold State.freeStreamLanes; rfl
@[simp] theorem State.freeStreamLanes_probe (s : State) (t : Nat) : (s.freeStreamLanes t).probe = s.probe := by
  unfold State.freeStreamLanes; rfl
@[simp] theorem State.freeStreamLanes_sig (s : State) (t : Nat) : (s.freeStreamLanes t).sig = s.sig := by
  unfold State.freeStreamLanes; rfl
@[simp] theorem State.freeStreamLanes_trig (s : State) (t : Nat) : (s.freeStreamLanes t).trig = s.trig := by
  unfold State.freeStreamLanes; rfl
@[simp] theorem State.freeStreamLanes_mem (s : State) (t : Nat) : (s.freeStreamLanes t).mem = s.mem := by
  unfold State.freeStreamLanes; rfl

/-! ### State.streamError -/

@[simp] theorem State.streamError_pending (s : State) (t code : Nat) : (s.streamError t code).pending = s.pending := by
  unfold State.streamError; simp
@[simp] theorem State.streamError_free (s : State) (t code : Nat) : (s.streamError t code).free = s.free := by
  unfold State.streamError; simp
@[simp] theorem State.streamError_now (s : State) (t code : Nat) : (s.streamError t code).now = s.now := by
  unfold State.streamError; simp
@[simp] theorem State.streamError_staged (s : State) (t code : Nat) : (s.streamError t code).staged = s.staged := by
  unfold State.streamError; simp
@[simp] theorem State.streamError_badWords (s : State) (t code : Nat) : (s.streamError t code).badWords = s.badWords := by
  unfold State.streamError; simp
@[simp] theorem State.streamError_written (s : State) (t code : Nat) : (s.streamError t code).written = s.written := by
  unfold State.streamError; simp
@[simp] theorem State.streamError_locked (s : State) (t code : Nat) : (s.streamError t code).locked = s.locked := by
  unfold State.streamError; simp
@[simp] theorem State.streamError_power (s : State) (t code : Nat) : (s.streamError t code).power = s.power := by
  unfold State.streamError; simp
@[simp] theorem State.streamError_clk (s : State) (t code : Nat) : (s.streamError t code).clk = s.clk := by
  unfold State.streamError; simp
@[simp] theorem State.streamError_boot (s : State) (t code : Nat) : (s.streamError t code).boot = s.boot := by
  unfold State.streamError; simp
@[simp] theorem State.streamError_commit (s : State) (t code : Nat) : (s.streamError t code).commit = s.commit := by
  unfold State.streamError; simp
@[simp] theorem State.streamError_sec (s : State) (t code : Nat) : (s.streamError t code).sec = s.sec := by
  unfold State.streamError; simp
@[simp] theorem State.streamError_time (s : State) (t code : Nat) : (s.streamError t code).time = s.time := by
  unfold State.streamError; simp
@[simp] theorem State.streamError_belay (s : State) (t code : Nat) : (s.streamError t code).belay = s.belay := by
  unfold State.streamError; simp
@[simp] theorem State.streamError_probe (s : State) (t code : Nat) : (s.streamError t code).probe = s.probe := by
  unfold State.streamError; simp
@[simp] theorem State.streamError_sig (s : State) (t code : Nat) : (s.streamError t code).sig = s.sig := by
  unfold State.streamError; simp
@[simp] theorem State.streamError_trig (s : State) (t code : Nat) : (s.streamError t code).trig = s.trig := by
  unfold State.streamError; simp
@[simp] theorem State.streamError_mem (s : State) (t code : Nat) : (s.streamError t code).mem = s.mem := by
  unfold State.streamError; simp

/-! ### State.sendProducer -/

@[simp] theorem State.sendProducer_pending (s : State) (t : Nat) : (s.sendProducer t).pending = s.pending := by
  unfold State.sendProducer; dsimp only; repeat' split
  all_goals simp
@[simp] theorem State.sendProducer_free (s : State) (t : Nat) : (s.sendProducer t).free = s.free := by
  unfold State.sendProducer; dsimp only; repeat' split
  all_goals simp
@[simp] theorem State.sendProducer_now (s : State) (t : Nat) : (s.sendProducer t).now = s.now := by
  unfold State.sendProducer; dsimp only; repeat' split
  all_goals simp
@[simp] theorem State.sendProducer_staged (s : State) (t : Nat) : (s.sendProducer t).staged = s.staged := by
  unfold State.sendProducer; dsimp only; repeat' split
  all_goals simp
@[simp] theorem State.sendProducer_badWords (s : State) (t : Nat) : (s.sendProducer t).badWords = s.badWords := by
  unfold State.sendProducer; dsimp only; repeat' split
  all_goals simp
@[simp] theorem State.sendProducer_written (s : State) (t : Nat) : (s.sendProducer t).written = s.written := by
  unfold State.sendProducer; dsimp only; repeat' split
  all_goals simp
@[simp] theorem State.sendProducer_locked (s : State) (t : Nat) : (s.sendProducer t).locked = s.locked := by
  unfold State.sendProducer; dsimp only; repeat' split
  all_goals simp
@[simp] theorem State.sendProducer_power (s : State) (t : Nat) : (s.sendProducer t).power = s.power := by
  unfold State.sendProducer; dsimp only; repeat' split
  all_goals simp
@[simp] theorem State.sendProducer_clk (s : State) (t : Nat) : (s.sendProducer t).clk = s.clk := by
  unfold State.sendProducer; dsimp only; repeat' split
  all_goals simp
@[simp] theorem State.sendProducer_boot (s : State) (t : Nat) : (s.sendProducer t).boot = s.boot := by
  unfold State.sendProducer; dsimp only; repeat' split
  all_goals simp
@[simp] theorem State.sendProducer_commit (s : State) (t : Nat) : (s.sendProducer t).commit = s.commit := by
  unfold State.sendProducer; dsimp only; repeat' split
  all_goals simp
@[simp] theorem State.sendProducer_sec (s : State) (t : Nat) : (s.sendProducer t).sec = s.sec := by
  unfold State.sendProducer; dsimp only; repeat' split
  all_goals simp
@[simp] theorem State.sendProducer_time (s : State) (t : Nat) : (s.sendProducer t).time = s.time := by
  unfold State.sendProducer; dsimp only; repeat' split
  all_goals simp
@[simp] theorem State.sendProducer_belay (s : State) (t : Nat) : (s.sendProducer t).belay = s.belay := by
  unfold State.sendProducer; dsimp only; repeat' split
  all_goals simp
@[simp] theorem State.sendProducer_probe (s : State) (t : Nat) : (s.sendProducer t).probe = s.probe := by
  unfold State.sendProducer; dsimp only; repeat' split
  all_goals simp
@[simp] theorem State.sendProducer_sig (s : State) (t : Nat) : (s.sendProducer t).sig = s.sig := by
  unfold State.sendProducer; dsimp only; repeat' split
  all_goals simp
@[simp] theorem State.sendProducer_trig (s : State) (t : Nat) : (s.sendProducer t).trig = s.trig := by
  unfold State.sendProducer; dsimp only; repeat' split
  all_goals simp
@[simp] theorem State.sendProducer_mem (s : State) (t : Nat) : (s.sendProducer t).mem = s.mem := by
  unfold State.sendProducer; dsimp only; repeat' split
  all_goals simp

/-! ### State.frameAck -/

@[simp] theorem State.frameAck_pending (s : State) (t id : Nat) : (s.frameAck t id).pending = s.pending := by
  unfold State.frameAck; simp
@[simp] theorem State.frameAck_free (s : State) (t id : Nat) : (s.frameAck t id).free = s.free := by
  unfold State.frameAck; simp
@[simp] theorem State.frameAck_now (s : State) (t id : Nat) : (s.frameAck t id).now = s.now := by
  unfold State.frameAck; simp
@[simp] theorem State.frameAck_staged (s : State) (t id : Nat) : (s.frameAck t id).staged = s.staged := by
  unfold State.frameAck; simp
@[simp] theorem State.frameAck_badWords (s : State) (t id : Nat) : (s.frameAck t id).badWords = s.badWords := by
  unfold State.frameAck; simp
@[simp] theorem State.frameAck_written (s : State) (t id : Nat) : (s.frameAck t id).written = s.written := by
  unfold State.frameAck; simp
@[simp] theorem State.frameAck_locked (s : State) (t id : Nat) : (s.frameAck t id).locked = s.locked := by
  unfold State.frameAck; simp
@[simp] theorem State.frameAck_power (s : State) (t id : Nat) : (s.frameAck t id).power = s.power := by
  unfold State.frameAck; simp
@[simp] theorem State.frameAck_clk (s : State) (t id : Nat) : (s.frameAck t id).clk = s.clk := by
  unfold State.frameAck; simp
@[simp] theorem State.frameAck_boot (s : State) (t id : Nat) : (s.frameAck t id).boot = s.boot := by
  unfold State.frameAck; simp
@[simp] theorem State.frameAck_commit (s : State) (t id : Nat) : (s.frameAck t id).commit = s.commit := by
  unfold State.frameAck; simp
@[simp] theorem State.frameAck_sec (s : State) (t id : Nat) : (s.frameAck t id).sec = s.sec := by
  unfold State.frameAck; simp
@[simp] theorem State.frameAck_time (s : State) (t id : Nat) : (s.frameAck t id).time = s.time := by
  unfold State.frameAck; simp
@[simp] theorem State.frameAck_belay (s : State) (t id : Nat) : (s.frameAck t id).belay = s.belay := by
  unfold State.frameAck; simp
@[simp] theorem State.frameAck_probe (s : State) (t id : Nat) : (s.frameAck t id).probe = s.probe := by
  unfold State.frameAck; simp
@[simp] theorem State.frameAck_sig (s : State) (t id : Nat) : (s.frameAck t id).sig = s.sig := by
  unfold State.frameAck; simp
@[simp] theorem State.frameAck_trig (s : State) (t id : Nat) : (s.frameAck t id).trig = s.trig := by
  unfold State.frameAck; simp
@[simp] theorem State.frameAck_mem (s : State) (t id : Nat) : (s.frameAck t id).mem = s.mem := by
  unfold State.frameAck; simp

/-! ### State.checkpoint -/

@[simp] theorem State.checkpoint_pending (s : State) (t id : Nat) : (s.checkpoint t id).pending = s.pending := by
  unfold State.checkpoint; dsimp only; repeat' split
  all_goals simp
@[simp] theorem State.checkpoint_free (s : State) (t id : Nat) : (s.checkpoint t id).free = s.free := by
  unfold State.checkpoint; dsimp only; repeat' split
  all_goals simp
@[simp] theorem State.checkpoint_now (s : State) (t id : Nat) : (s.checkpoint t id).now = s.now := by
  unfold State.checkpoint; dsimp only; repeat' split
  all_goals simp
@[simp] theorem State.checkpoint_staged (s : State) (t id : Nat) : (s.checkpoint t id).staged = s.staged := by
  unfold State.checkpoint; dsimp only; repeat' split
  all_goals simp
@[simp] theorem State.checkpoint_badWords (s : State) (t id : Nat) : (s.checkpoint t id).badWords = s.badWords := by
  unfold State.checkpoint; dsimp only; repeat' split
  all_goals simp
@[simp] theorem State.checkpoint_written (s : State) (t id : Nat) : (s.checkpoint t id).written = s.written := by
  unfold State.checkpoint; dsimp only; repeat' split
  all_goals simp
@[simp] theorem State.checkpoint_locked (s : State) (t id : Nat) : (s.checkpoint t id).locked = s.locked := by
  unfold State.checkpoint; dsimp only; repeat' split
  all_goals simp
@[simp] theorem State.checkpoint_power (s : State) (t id : Nat) : (s.checkpoint t id).power = s.power := by
  unfold State.checkpoint; dsimp only; repeat' split
  all_goals simp
@[simp] theorem State.checkpoint_clk (s : State) (t id : Nat) : (s.checkpoint t id).clk = s.clk := by
  unfold State.checkpoint; dsimp only; repeat' split
  all_goals simp
@[simp] theorem State.checkpoint_boot (s : State) (t id : Nat) : (s.checkpoint t id).boot = s.boot := by
  unfold State.checkpoint; dsimp only; repeat' split
  all_goals simp
@[simp] theorem State.checkpoint_commit (s : State) (t id : Nat) : (s.checkpoint t id).commit = s.commit := by
  unfold State.checkpoint; dsimp only; repeat' split
  all_goals simp
@[simp] theorem State.checkpoint_sec (s : State) (t id : Nat) : (s.checkpoint t id).sec = s.sec := by
  unfold State.checkpoint; dsimp only; repeat' split
  all_goals simp
@[simp] theorem State.checkpoint_time (s : State) (t id : Nat) : (s.checkpoint t id).time = s.time := by
  unfold State.checkpoint; dsimp only; repeat' split
  all_goals simp
@[simp] theorem State.checkpoint_belay (s : State) (t id : Nat) : (s.checkpoint t id).belay = s.belay := by
  unfold State.checkpoint; dsimp only; repeat' split
  all_goals simp
@[simp] theorem State.checkpoint_probe (s : State) (t id : Nat) : (s.checkpoint t id).probe = s.probe := by
  unfold State.checkpoint; dsimp only; repeat' split
  all_goals simp
@[simp] theorem State.checkpoint_sig (s : State) (t id : Nat) : (s.checkpoint t id).sig = s.sig := by
  unfold State.checkpoint; dsimp only; repeat' split
  all_goals simp
@[simp] theorem State.checkpoint_trig (s : State) (t id : Nat) : (s.checkpoint t id).trig = s.trig := by
  unfold State.checkpoint; dsimp only; repeat' split
  all_goals simp
@[simp] theorem State.checkpoint_mem (s : State) (t id : Nat) : (s.checkpoint t id).mem = s.mem := by
  unfold State.checkpoint; dsimp only; repeat' split
  all_goals simp

/-! ### State.consumerRead -/

@[simp] theorem State.consumerRead_pending (s : State) (t : Nat) (data : Octets) : (s.consumerRead t data).pending = s.pending := by
  unfold State.consumerRead; dsimp only; repeat' split
  all_goals simp
@[simp] theorem State.consumerRead_free (s : State) (t : Nat) (data : Octets) : (s.consumerRead t data).free = s.free := by
  unfold State.consumerRead; dsimp only; repeat' split
  all_goals simp
@[simp] theorem State.consumerRead_now (s : State) (t : Nat) (data : Octets) : (s.consumerRead t data).now = s.now := by
  unfold State.consumerRead; dsimp only; repeat' split
  all_goals simp
@[simp] theorem State.consumerRead_staged (s : State) (t : Nat) (data : Octets) : (s.consumerRead t data).staged = s.staged := by
  unfold State.consumerRead; dsimp only; repeat' split
  all_goals simp
@[simp] theorem State.consumerRead_badWords (s : State) (t : Nat) (data : Octets) : (s.consumerRead t data).badWords = s.badWords := by
  unfold State.consumerRead; dsimp only; repeat' split
  all_goals simp
@[simp] theorem State.consumerRead_written (s : State) (t : Nat) (data : Octets) : (s.consumerRead t data).written = s.written := by
  unfold State.consumerRead; dsimp only; repeat' split
  all_goals simp
@[simp] theorem State.consumerRead_locked (s : State) (t : Nat) (data : Octets) : (s.consumerRead t data).locked = s.locked := by
  unfold State.consumerRead; dsimp only; repeat' split
  all_goals simp
@[simp] theorem State.consumerRead_power (s : State) (t : Nat) (data : Octets) : (s.consumerRead t data).power = s.power := by
  unfold State.consumerRead; dsimp only; repeat' split
  all_goals simp
@[simp] theorem State.consumerRead_clk (s : State) (t : Nat) (data : Octets) : (s.consumerRead t data).clk = s.clk := by
  unfold State.consumerRead; dsimp only; repeat' split
  all_goals simp
@[simp] theorem State.consumerRead_boot (s : State) (t : Nat) (data : Octets) : (s.consumerRead t data).boot = s.boot := by
  unfold State.consumerRead; dsimp only; repeat' split
  all_goals simp
@[simp] theorem State.consumerRead_commit (s : State) (t : Nat) (data : Octets) : (s.consumerRead t data).commit = s.commit := by
  unfold State.consumerRead; dsimp only; repeat' split
  all_goals simp
@[simp] theorem State.consumerRead_sec (s : State) (t : Nat) (data : Octets) : (s.consumerRead t data).sec = s.sec := by
  unfold State.consumerRead; dsimp only; repeat' split
  all_goals simp
@[simp] theorem State.consumerRead_time (s : State) (t : Nat) (data : Octets) : (s.consumerRead t data).time = s.time := by
  unfold State.consumerRead; dsimp only; repeat' split
  all_goals simp
@[simp] theorem State.consumerRead_belay (s : State) (t : Nat) (data : Octets) : (s.consumerRead t data).belay = s.belay := by
  unfold State.consumerRead; dsimp only; repeat' split
  all_goals simp
@[simp] theorem State.consumerRead_probe (s : State) (t : Nat) (data : Octets) : (s.consumerRead t data).probe = s.probe := by
  unfold State.consumerRead; dsimp only; repeat' split
  all_goals simp
@[simp] theorem State.consumerRead_sig (s : State) (t : Nat) (data : Octets) : (s.consumerRead t data).sig = s.sig := by
  unfold State.consumerRead; dsimp only; repeat' split
  all_goals simp
@[simp] theorem State.consumerRead_trig (s : State) (t : Nat) (data : Octets) : (s.consumerRead t data).trig = s.trig := by
  unfold State.consumerRead; dsimp only; repeat' split
  all_goals simp
@[simp] theorem State.consumerRead_mem (s : State) (t : Nat) (data : Octets) : (s.consumerRead t data).mem = s.mem := by
  unfold State.consumerRead; dsimp only; repeat' split
  all_goals simp

@[simp] theorem State.advanceHead_pending (fuel : Nat) : ∀ s : State, (s.advanceHead fuel).pending = s.pending := by
  induction fuel with
  | zero => intro s; rfl
  | succ n ih => intro s; unfold State.advanceHead; split <;> simp [ih]
@[simp] theorem State.advanceHead_free (fuel : Nat) : ∀ s : State, (s.advanceHead fuel).free = s.free := by
  induction fuel with
  | zero => intro s; rfl
  | succ n ih => intro s; unfold State.advanceHead; split <;> simp [ih]
@[simp] theorem State.advanceHead_now (fuel : Nat) : ∀ s : State, (s.advanceHead fuel).now = s.now := by
  induction fuel with
  | zero => intro s; rfl
  | succ n ih => intro s; unfold State.advanceHead; split <;> simp [ih]
@[simp] theorem State.advanceHead_staged (fuel : Nat) : ∀ s : State, (s.advanceHead fuel).staged = s.staged := by
  induction fuel with
  | zero => intro s; rfl
  | succ n ih => intro s; unfold State.advanceHead; split <;> simp [ih]
@[simp] theorem State.advanceHead_badWords (fuel : Nat) : ∀ s : State, (s.advanceHead fuel).badWords = s.badWords := by
  induction fuel with
  | zero => intro s; rfl
  | succ n ih => intro s; unfold State.advanceHead; split <;> simp [ih]
@[simp] theorem State.advanceHead_written (fuel : Nat) : ∀ s : State, (s.advanceHead fuel).written = s.written := by
  induction fuel with
  | zero => intro s; rfl
  | succ n ih => intro s; unfold State.advanceHead; split <;> simp [ih]
@[simp] theorem State.advanceHead_locked (fuel : Nat) : ∀ s : State, (s.advanceHead fuel).locked = s.locked := by
  induction fuel with
  | zero => intro s; rfl
  | succ n ih => intro s; unfold State.advanceHead; split <;> simp [ih]
@[simp] theorem State.advanceHead_power (fuel : Nat) : ∀ s : State, (s.advanceHead fuel).power = s.power := by
  induction fuel with
  | zero => intro s; rfl
  | succ n ih => intro s; unfold State.advanceHead; split <;> simp [ih]
@[simp] theorem State.advanceHead_clk (fuel : Nat) : ∀ s : State, (s.advanceHead fuel).clk = s.clk := by
  induction fuel with
  | zero => intro s; rfl
  | succ n ih => intro s; unfold State.advanceHead; split <;> simp [ih]
@[simp] theorem State.advanceHead_boot (fuel : Nat) : ∀ s : State, (s.advanceHead fuel).boot = s.boot := by
  induction fuel with
  | zero => intro s; rfl
  | succ n ih => intro s; unfold State.advanceHead; split <;> simp [ih]
@[simp] theorem State.advanceHead_commit (fuel : Nat) : ∀ s : State, (s.advanceHead fuel).commit = s.commit := by
  induction fuel with
  | zero => intro s; rfl
  | succ n ih => intro s; unfold State.advanceHead; split <;> simp [ih]
@[simp] theorem State.advanceHead_sec (fuel : Nat) : ∀ s : State, (s.advanceHead fuel).sec = s.sec := by
  induction fuel with
  | zero => intro s; rfl
  | succ n ih => intro s; unfold State.advanceHead; split <;> simp [ih]
@[simp] theorem State.advanceHead_time (fuel : Nat) : ∀ s : State, (s.advanceHead fuel).time = s.time := by
  induction fuel with
  | zero => intro s; rfl
  | succ n ih => intro s; unfold State.advanceHead; split <;> simp [ih]
@[simp] theorem State.advanceHead_belay (fuel : Nat) : ∀ s : State, (s.advanceHead fuel).belay = s.belay := by
  induction fuel with
  | zero => intro s; rfl
  | succ n ih => intro s; unfold State.advanceHead; split <;> simp [ih]
@[simp] theorem State.advanceHead_probe (fuel : Nat) : ∀ s : State, (s.advanceHead fuel).probe = s.probe := by
  induction fuel with
  | zero => intro s; rfl
  | succ n ih => intro s; unfold State.advanceHead; split <;> simp [ih]
@[simp] theorem State.advanceHead_sig (fuel : Nat) : ∀ s : State, (s.advanceHead fuel).sig = s.sig := by
  induction fuel with
  | zero => intro s; rfl
  | succ n ih => intro s; unfold State.advanceHead; split <;> simp [ih]
@[simp] theorem State.advanceHead_trig (fuel : Nat) : ∀ s : State, (s.advanceHead fuel).trig = s.trig := by
  induction fuel with
  | zero => intro s; rfl
  | succ n ih => intro s; unfold State.advanceHead; split <;> simp [ih]
@[simp] theorem State.advanceHead_mem (fuel : Nat) : ∀ s : State, (s.advanceHead fuel).mem = s.mem := by
  induction fuel with
  | zero => intro s; rfl
  | succ n ih => intro s; unfold State.advanceHead; split <;> simp [ih]

/-! ### State.jobFailed -/

@[simp] theorem State.jobFailed_pending (s : State) (slot status detail : Nat) : (s.jobFailed slot status detail).pending = s.pending := by
  unfold State.jobFailed; dsimp only; repeat' split
  all_goals simp
@[simp] theorem State.jobFailed_free (s : State) (slot status detail : Nat) : (s.jobFailed slot status detail).free = s.free := by
  unfold State.jobFailed; dsimp only; repeat' split
  all_goals simp
@[simp] theorem State.jobFailed_now (s : State) (slot status detail : Nat) : (s.jobFailed slot status detail).now = s.now := by
  unfold State.jobFailed; dsimp only; repeat' split
  all_goals simp
@[simp] theorem State.jobFailed_staged (s : State) (slot status detail : Nat) : (s.jobFailed slot status detail).staged = s.staged := by
  unfold State.jobFailed; dsimp only; repeat' split
  all_goals simp
@[simp] theorem State.jobFailed_badWords (s : State) (slot status detail : Nat) : (s.jobFailed slot status detail).badWords = s.badWords := by
  unfold State.jobFailed; dsimp only; repeat' split
  all_goals simp
@[simp] theorem State.jobFailed_written (s : State) (slot status detail : Nat) : (s.jobFailed slot status detail).written = s.written := by
  unfold State.jobFailed; dsimp only; repeat' split
  all_goals simp
@[simp] theorem State.jobFailed_locked (s : State) (slot status detail : Nat) : (s.jobFailed slot status detail).locked = s.locked := by
  unfold State.jobFailed; dsimp only; repeat' split
  all_goals simp
@[simp] theorem State.jobFailed_power (s : State) (slot status detail : Nat) : (s.jobFailed slot status detail).power = s.power := by
  unfold State.jobFailed; dsimp only; repeat' split
  all_goals simp
@[simp] theorem State.jobFailed_clk (s : State) (slot status detail : Nat) : (s.jobFailed slot status detail).clk = s.clk := by
  unfold State.jobFailed; dsimp only; repeat' split
  all_goals simp
@[simp] theorem State.jobFailed_boot (s : State) (slot status detail : Nat) : (s.jobFailed slot status detail).boot = s.boot := by
  unfold State.jobFailed; dsimp only; repeat' split
  all_goals simp
@[simp] theorem State.jobFailed_commit (s : State) (slot status detail : Nat) : (s.jobFailed slot status detail).commit = s.commit := by
  unfold State.jobFailed; dsimp only; repeat' split
  all_goals simp
@[simp] theorem State.jobFailed_sec (s : State) (slot status detail : Nat) : (s.jobFailed slot status detail).sec = s.sec := by
  unfold State.jobFailed; dsimp only; repeat' split
  all_goals simp
@[simp] theorem State.jobFailed_time (s : State) (slot status detail : Nat) : (s.jobFailed slot status detail).time = s.time := by
  unfold State.jobFailed; dsimp only; repeat' split
  all_goals simp
@[simp] theorem State.jobFailed_belay (s : State) (slot status detail : Nat) : (s.jobFailed slot status detail).belay = s.belay := by
  unfold State.jobFailed; dsimp only; repeat' split
  all_goals simp
@[simp] theorem State.jobFailed_probe (s : State) (slot status detail : Nat) : (s.jobFailed slot status detail).probe = s.probe := by
  unfold State.jobFailed; dsimp only; repeat' split
  all_goals simp
@[simp] theorem State.jobFailed_sig (s : State) (slot status detail : Nat) : (s.jobFailed slot status detail).sig = s.sig := by
  unfold State.jobFailed; dsimp only; repeat' split
  all_goals simp
@[simp] theorem State.jobFailed_trig (s : State) (slot status detail : Nat) : (s.jobFailed slot status detail).trig = s.trig := by
  unfold State.jobFailed; dsimp only; repeat' split
  all_goals simp
@[simp] theorem State.jobFailed_mem (s : State) (slot status detail : Nat) : (s.jobFailed slot status detail).mem = s.mem := by
  unfold State.jobFailed; dsimp only; repeat' split
  all_goals simp

/-! ### State.endJob -/

@[simp] theorem State.endJob_pending (s : State) (c : Nat) (e : JobEnd) : (s.endJob c e).pending = s.pending := by
  unfold State.endJob; dsimp only; repeat' split
  all_goals simp
@[simp] theorem State.endJob_free (s : State) (c : Nat) (e : JobEnd) : (s.endJob c e).free = s.free := by
  unfold State.endJob; dsimp only; repeat' split
  all_goals simp
@[simp] theorem State.endJob_now (s : State) (c : Nat) (e : JobEnd) : (s.endJob c e).now = s.now := by
  unfold State.endJob; dsimp only; repeat' split
  all_goals simp
@[simp] theorem State.endJob_staged (s : State) (c : Nat) (e : JobEnd) : (s.endJob c e).staged = s.staged := by
  unfold State.endJob; dsimp only; repeat' split
  all_goals simp
@[simp] theorem State.endJob_badWords (s : State) (c : Nat) (e : JobEnd) : (s.endJob c e).badWords = s.badWords := by
  unfold State.endJob; dsimp only; repeat' split
  all_goals simp
@[simp] theorem State.endJob_written (s : State) (c : Nat) (e : JobEnd) : (s.endJob c e).written = s.written := by
  unfold State.endJob; dsimp only; repeat' split
  all_goals simp
@[simp] theorem State.endJob_locked (s : State) (c : Nat) (e : JobEnd) : (s.endJob c e).locked = s.locked := by
  unfold State.endJob; dsimp only; repeat' split
  all_goals simp
@[simp] theorem State.endJob_power (s : State) (c : Nat) (e : JobEnd) : (s.endJob c e).power = s.power := by
  unfold State.endJob; dsimp only; repeat' split
  all_goals simp
@[simp] theorem State.endJob_clk (s : State) (c : Nat) (e : JobEnd) : (s.endJob c e).clk = s.clk := by
  unfold State.endJob; dsimp only; repeat' split
  all_goals simp
@[simp] theorem State.endJob_boot (s : State) (c : Nat) (e : JobEnd) : (s.endJob c e).boot = s.boot := by
  unfold State.endJob; dsimp only; repeat' split
  all_goals simp
@[simp] theorem State.endJob_commit (s : State) (c : Nat) (e : JobEnd) : (s.endJob c e).commit = s.commit := by
  unfold State.endJob; dsimp only; repeat' split
  all_goals simp
@[simp] theorem State.endJob_sec (s : State) (c : Nat) (e : JobEnd) : (s.endJob c e).sec = s.sec := by
  unfold State.endJob; dsimp only; repeat' split
  all_goals simp
@[simp] theorem State.endJob_time (s : State) (c : Nat) (e : JobEnd) : (s.endJob c e).time = s.time := by
  unfold State.endJob; dsimp only; repeat' split
  all_goals simp
@[simp] theorem State.endJob_belay (s : State) (c : Nat) (e : JobEnd) : (s.endJob c e).belay = s.belay := by
  unfold State.endJob; dsimp only; repeat' split
  all_goals simp
@[simp] theorem State.endJob_probe (s : State) (c : Nat) (e : JobEnd) : (s.endJob c e).probe = s.probe := by
  unfold State.endJob; dsimp only; repeat' split
  all_goals simp
@[simp] theorem State.endJob_sig (s : State) (c : Nat) (e : JobEnd) : (s.endJob c e).sig = s.sig := by
  unfold State.endJob; dsimp only; repeat' split
  all_goals simp
@[simp] theorem State.endJob_trig (s : State) (c : Nat) (e : JobEnd) : (s.endJob c e).trig = s.trig := by
  unfold State.endJob; dsimp only; repeat' split
  all_goals simp
@[simp] theorem State.endJob_mem (s : State) (c : Nat) (e : JobEnd) : (s.endJob c e).mem = s.mem := by
  unfold State.endJob; dsimp only; repeat' split
  all_goals simp

/-! ### State.descRead -/

@[simp] theorem State.descRead_pending (s : State) (c result : Nat) (data : Octets) : (s.descRead c result data).pending = s.pending := by
  unfold State.descRead; dsimp only; repeat' split
  all_goals simp
@[simp] theorem State.descRead_free (s : State) (c result : Nat) (data : Octets) : (s.descRead c result data).free = s.free := by
  unfold State.descRead; dsimp only; repeat' split
  all_goals simp
@[simp] theorem State.descRead_now (s : State) (c result : Nat) (data : Octets) : (s.descRead c result data).now = s.now := by
  unfold State.descRead; dsimp only; repeat' split
  all_goals simp
@[simp] theorem State.descRead_staged (s : State) (c result : Nat) (data : Octets) : (s.descRead c result data).staged = s.staged := by
  unfold State.descRead; dsimp only; repeat' split
  all_goals simp
@[simp] theorem State.descRead_badWords (s : State) (c result : Nat) (data : Octets) : (s.descRead c result data).badWords = s.badWords := by
  unfold State.descRead; dsimp only; repeat' split
  all_goals simp
@[simp] theorem State.descRead_written (s : State) (c result : Nat) (data : Octets) : (s.descRead c result data).written = s.written := by
  unfold State.descRead; dsimp only; repeat' split
  all_goals simp
@[simp] theorem State.descRead_locked (s : State) (c result : Nat) (data : Octets) : (s.descRead c result data).locked = s.locked := by
  unfold State.descRead; dsimp only; repeat' split
  all_goals simp
@[simp] theorem State.descRead_power (s : State) (c result : Nat) (data : Octets) : (s.descRead c result data).power = s.power := by
  unfold State.descRead; dsimp only; repeat' split
  all_goals simp
@[simp] theorem State.descRead_clk (s : State) (c result : Nat) (data : Octets) : (s.descRead c result data).clk = s.clk := by
  unfold State.descRead; dsimp only; repeat' split
  all_goals simp
@[simp] theorem State.descRead_boot (s : State) (c result : Nat) (data : Octets) : (s.descRead c result data).boot = s.boot := by
  unfold State.descRead; dsimp only; repeat' split
  all_goals simp
@[simp] theorem State.descRead_commit (s : State) (c result : Nat) (data : Octets) : (s.descRead c result data).commit = s.commit := by
  unfold State.descRead; dsimp only; repeat' split
  all_goals simp
@[simp] theorem State.descRead_sec (s : State) (c result : Nat) (data : Octets) : (s.descRead c result data).sec = s.sec := by
  unfold State.descRead; dsimp only; repeat' split
  all_goals simp
@[simp] theorem State.descRead_time (s : State) (c result : Nat) (data : Octets) : (s.descRead c result data).time = s.time := by
  unfold State.descRead; dsimp only; repeat' split
  all_goals simp
@[simp] theorem State.descRead_belay (s : State) (c result : Nat) (data : Octets) : (s.descRead c result data).belay = s.belay := by
  unfold State.descRead; dsimp only; repeat' split
  all_goals simp
@[simp] theorem State.descRead_probe (s : State) (c result : Nat) (data : Octets) : (s.descRead c result data).probe = s.probe := by
  unfold State.descRead; dsimp only; repeat' split
  all_goals simp
@[simp] theorem State.descRead_sig (s : State) (c result : Nat) (data : Octets) : (s.descRead c result data).sig = s.sig := by
  unfold State.descRead; dsimp only; repeat' split
  all_goals simp
@[simp] theorem State.descRead_trig (s : State) (c result : Nat) (data : Octets) : (s.descRead c result data).trig = s.trig := by
  unfold State.descRead; dsimp only; repeat' split
  all_goals simp
@[simp] theorem State.descRead_mem (s : State) (c result : Nat) (data : Octets) : (s.descRead c result data).mem = s.mem := by
  unfold State.descRead; dsimp only; repeat' split
  all_goals simp

/-! ### State.descWritten -/

@[simp] theorem State.descWritten_pending (s : State) (c result : Nat) : (s.descWritten c result).pending = s.pending := by
  unfold State.descWritten; dsimp only; repeat' split
  all_goals simp
@[simp] theorem State.descWritten_free (s : State) (c result : Nat) : (s.descWritten c result).free = s.free := by
  unfold State.descWritten; dsimp only; repeat' split
  all_goals simp
@[simp] theorem State.descWritten_now (s : State) (c result : Nat) : (s.descWritten c result).now = s.now := by
  unfold State.descWritten; dsimp only; repeat' split
  all_goals simp
@[simp] theorem State.descWritten_staged (s : State) (c result : Nat) : (s.descWritten c result).staged = s.staged := by
  unfold State.descWritten; dsimp only; repeat' split
  all_goals simp
@[simp] theorem State.descWritten_badWords (s : State) (c result : Nat) : (s.descWritten c result).badWords = s.badWords := by
  unfold State.descWritten; dsimp only; repeat' split
  all_goals simp
@[simp] theorem State.descWritten_written (s : State) (c result : Nat) : (s.descWritten c result).written = s.written := by
  unfold State.descWritten; dsimp only; repeat' split
  all_goals simp
@[simp] theorem State.descWritten_locked (s : State) (c result : Nat) : (s.descWritten c result).locked = s.locked := by
  unfold State.descWritten; dsimp only; repeat' split
  all_goals simp
@[simp] theorem State.descWritten_power (s : State) (c result : Nat) : (s.descWritten c result).power = s.power := by
  unfold State.descWritten; dsimp only; repeat' split
  all_goals simp
@[simp] theorem State.descWritten_clk (s : State) (c result : Nat) : (s.descWritten c result).clk = s.clk := by
  unfold State.descWritten; dsimp only; repeat' split
  all_goals simp
@[simp] theorem State.descWritten_boot (s : State) (c result : Nat) : (s.descWritten c result).boot = s.boot := by
  unfold State.descWritten; dsimp only; repeat' split
  all_goals simp
@[simp] theorem State.descWritten_commit (s : State) (c result : Nat) : (s.descWritten c result).commit = s.commit := by
  unfold State.descWritten; dsimp only; repeat' split
  all_goals simp
@[simp] theorem State.descWritten_sec (s : State) (c result : Nat) : (s.descWritten c result).sec = s.sec := by
  unfold State.descWritten; dsimp only; repeat' split
  all_goals simp
@[simp] theorem State.descWritten_time (s : State) (c result : Nat) : (s.descWritten c result).time = s.time := by
  unfold State.descWritten; dsimp only; repeat' split
  all_goals simp
@[simp] theorem State.descWritten_belay (s : State) (c result : Nat) : (s.descWritten c result).belay = s.belay := by
  unfold State.descWritten; dsimp only; repeat' split
  all_goals simp
@[simp] theorem State.descWritten_probe (s : State) (c result : Nat) : (s.descWritten c result).probe = s.probe := by
  unfold State.descWritten; dsimp only; repeat' split
  all_goals simp
@[simp] theorem State.descWritten_sig (s : State) (c result : Nat) : (s.descWritten c result).sig = s.sig := by
  unfold State.descWritten; dsimp only; repeat' split
  all_goals simp
@[simp] theorem State.descWritten_trig (s : State) (c result : Nat) : (s.descWritten c result).trig = s.trig := by
  unfold State.descWritten; dsimp only; repeat' split
  all_goals simp
@[simp] theorem State.descWritten_mem (s : State) (c result : Nat) : (s.descWritten c result).mem = s.mem := by
  unfold State.descWritten; dsimp only; repeat' split
  all_goals simp

/-! ### State.unitDone -/

@[simp] theorem State.unitDone_pending (s : State) (r : DevReq) (result : Nat) (data : Octets) : (s.unitDone r result data).pending = s.pending := by
  unfold State.unitDone; dsimp only; repeat' split
  all_goals simp
@[simp] theorem State.unitDone_free (s : State) (r : DevReq) (result : Nat) (data : Octets) : (s.unitDone r result data).free = s.free := by
  unfold State.unitDone; dsimp only; repeat' split
  all_goals simp
@[simp] theorem State.unitDone_now (s : State) (r : DevReq) (result : Nat) (data : Octets) : (s.unitDone r result data).now = s.now := by
  unfold State.unitDone; dsimp only; repeat' split
  all_goals simp
@[simp] theorem State.unitDone_staged (s : State) (r : DevReq) (result : Nat) (data : Octets) : (s.unitDone r result data).staged = s.staged := by
  unfold State.unitDone; dsimp only; repeat' split
  all_goals simp
@[simp] theorem State.unitDone_badWords (s : State) (r : DevReq) (result : Nat) (data : Octets) : (s.unitDone r result data).badWords = s.badWords := by
  unfold State.unitDone; dsimp only; repeat' split
  all_goals simp
@[simp] theorem State.unitDone_written (s : State) (r : DevReq) (result : Nat) (data : Octets) : (s.unitDone r result data).written = s.written := by
  unfold State.unitDone; dsimp only; repeat' split
  all_goals simp
@[simp] theorem State.unitDone_locked (s : State) (r : DevReq) (result : Nat) (data : Octets) : (s.unitDone r result data).locked = s.locked := by
  unfold State.unitDone; dsimp only; repeat' split
  all_goals simp
@[simp] theorem State.unitDone_power (s : State) (r : DevReq) (result : Nat) (data : Octets) : (s.unitDone r result data).power = s.power := by
  unfold State.unitDone; dsimp only; repeat' split
  all_goals simp
@[simp] theorem State.unitDone_clk (s : State) (r : DevReq) (result : Nat) (data : Octets) : (s.unitDone r result data).clk = s.clk := by
  unfold State.unitDone; dsimp only; repeat' split
  all_goals simp
@[simp] theorem State.unitDone_boot (s : State) (r : DevReq) (result : Nat) (data : Octets) : (s.unitDone r result data).boot = s.boot := by
  unfold State.unitDone; dsimp only; repeat' split
  all_goals simp
@[simp] theorem State.unitDone_commit (s : State) (r : DevReq) (result : Nat) (data : Octets) : (s.unitDone r result data).commit = s.commit := by
  unfold State.unitDone; dsimp only; repeat' split
  all_goals simp
@[simp] theorem State.unitDone_sec (s : State) (r : DevReq) (result : Nat) (data : Octets) : (s.unitDone r result data).sec = s.sec := by
  unfold State.unitDone; dsimp only; repeat' split
  all_goals simp
@[simp] theorem State.unitDone_time (s : State) (r : DevReq) (result : Nat) (data : Octets) : (s.unitDone r result data).time = s.time := by
  unfold State.unitDone; dsimp only; repeat' split
  all_goals simp
@[simp] theorem State.unitDone_belay (s : State) (r : DevReq) (result : Nat) (data : Octets) : (s.unitDone r result data).belay = s.belay := by
  unfold State.unitDone; dsimp only; repeat' split
  all_goals simp
@[simp] theorem State.unitDone_probe (s : State) (r : DevReq) (result : Nat) (data : Octets) : (s.unitDone r result data).probe = s.probe := by
  unfold State.unitDone; dsimp only; repeat' split
  all_goals simp
@[simp] theorem State.unitDone_sig (s : State) (r : DevReq) (result : Nat) (data : Octets) : (s.unitDone r result data).sig = s.sig := by
  unfold State.unitDone; dsimp only; repeat' split
  all_goals simp
@[simp] theorem State.unitDone_trig (s : State) (r : DevReq) (result : Nat) (data : Octets) : (s.unitDone r result data).trig = s.trig := by
  unfold State.unitDone; dsimp only; repeat' split
  all_goals simp
@[simp] theorem State.unitDone_mem (s : State) (r : DevReq) (result : Nat) (data : Octets) : (s.unitDone r result data).mem = s.mem := by
  unfold State.unitDone; dsimp only; repeat' split
  all_goals simp

@[simp] theorem State.takeDone_pending (fuel : Nat) : ∀ s : State, (s.takeDone fuel).pending = s.pending := by
  induction fuel with
  | zero => intro s; rfl
  | succ n ih => intro s; unfold State.takeDone; split <;> simp [ih]
@[simp] theorem State.takeDone_free (fuel : Nat) : ∀ s : State, (s.takeDone fuel).free = s.free := by
  induction fuel with
  | zero => intro s; rfl
  | succ n ih => intro s; unfold State.takeDone; split <;> simp [ih]
@[simp] theorem State.takeDone_now (fuel : Nat) : ∀ s : State, (s.takeDone fuel).now = s.now := by
  induction fuel with
  | zero => intro s; rfl
  | succ n ih => intro s; unfold State.takeDone; split <;> simp [ih]
@[simp] theorem State.takeDone_staged (fuel : Nat) : ∀ s : State, (s.takeDone fuel).staged = s.staged := by
  induction fuel with
  | zero => intro s; rfl
  | succ n ih => intro s; unfold State.takeDone; split <;> simp [ih]
@[simp] theorem State.takeDone_badWords (fuel : Nat) : ∀ s : State, (s.takeDone fuel).badWords = s.badWords := by
  induction fuel with
  | zero => intro s; rfl
  | succ n ih => intro s; unfold State.takeDone; split <;> simp [ih]
@[simp] theorem State.takeDone_written (fuel : Nat) : ∀ s : State, (s.takeDone fuel).written = s.written := by
  induction fuel with
  | zero => intro s; rfl
  | succ n ih => intro s; unfold State.takeDone; split <;> simp [ih]
@[simp] theorem State.takeDone_locked (fuel : Nat) : ∀ s : State, (s.takeDone fuel).locked = s.locked := by
  induction fuel with
  | zero => intro s; rfl
  | succ n ih => intro s; unfold State.takeDone; split <;> simp [ih]
@[simp] theorem State.takeDone_power (fuel : Nat) : ∀ s : State, (s.takeDone fuel).power = s.power := by
  induction fuel with
  | zero => intro s; rfl
  | succ n ih => intro s; unfold State.takeDone; split <;> simp [ih]
@[simp] theorem State.takeDone_clk (fuel : Nat) : ∀ s : State, (s.takeDone fuel).clk = s.clk := by
  induction fuel with
  | zero => intro s; rfl
  | succ n ih => intro s; unfold State.takeDone; split <;> simp [ih]
@[simp] theorem State.takeDone_boot (fuel : Nat) : ∀ s : State, (s.takeDone fuel).boot = s.boot := by
  induction fuel with
  | zero => intro s; rfl
  | succ n ih => intro s; unfold State.takeDone; split <;> simp [ih]
@[simp] theorem State.takeDone_commit (fuel : Nat) : ∀ s : State, (s.takeDone fuel).commit = s.commit := by
  induction fuel with
  | zero => intro s; rfl
  | succ n ih => intro s; unfold State.takeDone; split <;> simp [ih]
@[simp] theorem State.takeDone_sec (fuel : Nat) : ∀ s : State, (s.takeDone fuel).sec = s.sec := by
  induction fuel with
  | zero => intro s; rfl
  | succ n ih => intro s; unfold State.takeDone; split <;> simp [ih]
@[simp] theorem State.takeDone_time (fuel : Nat) : ∀ s : State, (s.takeDone fuel).time = s.time := by
  induction fuel with
  | zero => intro s; rfl
  | succ n ih => intro s; unfold State.takeDone; split <;> simp [ih]
@[simp] theorem State.takeDone_belay (fuel : Nat) : ∀ s : State, (s.takeDone fuel).belay = s.belay := by
  induction fuel with
  | zero => intro s; rfl
  | succ n ih => intro s; unfold State.takeDone; split <;> simp [ih]
@[simp] theorem State.takeDone_probe (fuel : Nat) : ∀ s : State, (s.takeDone fuel).probe = s.probe := by
  induction fuel with
  | zero => intro s; rfl
  | succ n ih => intro s; unfold State.takeDone; split <;> simp [ih]
@[simp] theorem State.takeDone_sig (fuel : Nat) : ∀ s : State, (s.takeDone fuel).sig = s.sig := by
  induction fuel with
  | zero => intro s; rfl
  | succ n ih => intro s; unfold State.takeDone; split <;> simp [ih]
@[simp] theorem State.takeDone_trig (fuel : Nat) : ∀ s : State, (s.takeDone fuel).trig = s.trig := by
  induction fuel with
  | zero => intro s; rfl
  | succ n ih => intro s; unfold State.takeDone; split <;> simp [ih]
@[simp] theorem State.takeDone_mem (fuel : Nat) : ∀ s : State, (s.takeDone fuel).mem = s.mem := by
  induction fuel with
  | zero => intro s; rfl
  | succ n ih => intro s; unfold State.takeDone; split <;> simp [ih]

/-! ### State.serveUnits -/

@[simp] theorem State.serveUnits_pending (s : State) : (s.serveUnits).pending = s.pending := by
  simp [State.serveUnits]
@[simp] theorem State.serveUnits_free (s : State) : (s.serveUnits).free = s.free := by
  simp [State.serveUnits]
@[simp] theorem State.serveUnits_now (s : State) : (s.serveUnits).now = s.now := by
  simp [State.serveUnits]
@[simp] theorem State.serveUnits_staged (s : State) : (s.serveUnits).staged = s.staged := by
  simp [State.serveUnits]
@[simp] theorem State.serveUnits_badWords (s : State) : (s.serveUnits).badWords = s.badWords := by
  simp [State.serveUnits]
@[simp] theorem State.serveUnits_written (s : State) : (s.serveUnits).written = s.written := by
  simp [State.serveUnits]
@[simp] theorem State.serveUnits_locked (s : State) : (s.serveUnits).locked = s.locked := by
  simp [State.serveUnits]
@[simp] theorem State.serveUnits_power (s : State) : (s.serveUnits).power = s.power := by
  simp [State.serveUnits]
@[simp] theorem State.serveUnits_clk (s : State) : (s.serveUnits).clk = s.clk := by
  simp [State.serveUnits]
@[simp] theorem State.serveUnits_boot (s : State) : (s.serveUnits).boot = s.boot := by
  simp [State.serveUnits]
@[simp] theorem State.serveUnits_commit (s : State) : (s.serveUnits).commit = s.commit := by
  simp [State.serveUnits]
@[simp] theorem State.serveUnits_sec (s : State) : (s.serveUnits).sec = s.sec := by
  simp [State.serveUnits]
@[simp] theorem State.serveUnits_time (s : State) : (s.serveUnits).time = s.time := by
  simp [State.serveUnits]
@[simp] theorem State.serveUnits_belay (s : State) : (s.serveUnits).belay = s.belay := by
  simp [State.serveUnits]
@[simp] theorem State.serveUnits_probe (s : State) : (s.serveUnits).probe = s.probe := by
  simp [State.serveUnits]
@[simp] theorem State.serveUnits_sig (s : State) : (s.serveUnits).sig = s.sig := by
  simp [State.serveUnits]
@[simp] theorem State.serveUnits_trig (s : State) : (s.serveUnits).trig = s.trig := by
  simp [State.serveUnits]
@[simp] theorem State.serveUnits_mem (s : State) : (s.serveUnits).mem = s.mem := by
  simp [State.serveUnits]

/-! ### Requests of the device that waited -/

@[simp] theorem State.drainOne_pending (s : State) : s.drainOne.pending = s.pending := by
  unfold State.drainOne; repeat' split
  all_goals simp
theorem State.drainFold_pending (l : List Nat) : ∀ s : State, (l.foldl (fun s _ => s.drainOne) s).pending = s.pending := by
  induction l with
  | nil => intro s; rfl
  | cons _ _ ih => intro s; rw [List.foldl_cons, ih, State.drainOne_pending]
@[simp] theorem State.drainDev_pending (s : State) : s.drainDev.pending = s.pending := State.drainFold_pending _ s
@[simp] theorem State.drainOne_free (s : State) : s.drainOne.free = s.free := by
  unfold State.drainOne; repeat' split
  all_goals simp
theorem State.drainFold_free (l : List Nat) : ∀ s : State, (l.foldl (fun s _ => s.drainOne) s).free = s.free := by
  induction l with
  | nil => intro s; rfl
  | cons _ _ ih => intro s; rw [List.foldl_cons, ih, State.drainOne_free]
@[simp] theorem State.drainDev_free (s : State) : s.drainDev.free = s.free := State.drainFold_free _ s
@[simp] theorem State.drainOne_now (s : State) : s.drainOne.now = s.now := by
  unfold State.drainOne; repeat' split
  all_goals simp
theorem State.drainFold_now (l : List Nat) : ∀ s : State, (l.foldl (fun s _ => s.drainOne) s).now = s.now := by
  induction l with
  | nil => intro s; rfl
  | cons _ _ ih => intro s; rw [List.foldl_cons, ih, State.drainOne_now]
@[simp] theorem State.drainDev_now (s : State) : s.drainDev.now = s.now := State.drainFold_now _ s
@[simp] theorem State.drainOne_staged (s : State) : s.drainOne.staged = s.staged := by
  unfold State.drainOne; repeat' split
  all_goals simp
theorem State.drainFold_staged (l : List Nat) : ∀ s : State, (l.foldl (fun s _ => s.drainOne) s).staged = s.staged := by
  induction l with
  | nil => intro s; rfl
  | cons _ _ ih => intro s; rw [List.foldl_cons, ih, State.drainOne_staged]
@[simp] theorem State.drainDev_staged (s : State) : s.drainDev.staged = s.staged := State.drainFold_staged _ s
@[simp] theorem State.drainOne_badWords (s : State) : s.drainOne.badWords = s.badWords := by
  unfold State.drainOne; repeat' split
  all_goals simp
theorem State.drainFold_badWords (l : List Nat) : ∀ s : State, (l.foldl (fun s _ => s.drainOne) s).badWords = s.badWords := by
  induction l with
  | nil => intro s; rfl
  | cons _ _ ih => intro s; rw [List.foldl_cons, ih, State.drainOne_badWords]
@[simp] theorem State.drainDev_badWords (s : State) : s.drainDev.badWords = s.badWords := State.drainFold_badWords _ s
@[simp] theorem State.drainOne_written (s : State) : s.drainOne.written = s.written := by
  unfold State.drainOne; repeat' split
  all_goals simp
theorem State.drainFold_written (l : List Nat) : ∀ s : State, (l.foldl (fun s _ => s.drainOne) s).written = s.written := by
  induction l with
  | nil => intro s; rfl
  | cons _ _ ih => intro s; rw [List.foldl_cons, ih, State.drainOne_written]
@[simp] theorem State.drainDev_written (s : State) : s.drainDev.written = s.written := State.drainFold_written _ s
@[simp] theorem State.drainOne_locked (s : State) : s.drainOne.locked = s.locked := by
  unfold State.drainOne; repeat' split
  all_goals simp
theorem State.drainFold_locked (l : List Nat) : ∀ s : State, (l.foldl (fun s _ => s.drainOne) s).locked = s.locked := by
  induction l with
  | nil => intro s; rfl
  | cons _ _ ih => intro s; rw [List.foldl_cons, ih, State.drainOne_locked]
@[simp] theorem State.drainDev_locked (s : State) : s.drainDev.locked = s.locked := State.drainFold_locked _ s
@[simp] theorem State.drainOne_power (s : State) : s.drainOne.power = s.power := by
  unfold State.drainOne; repeat' split
  all_goals simp
theorem State.drainFold_power (l : List Nat) : ∀ s : State, (l.foldl (fun s _ => s.drainOne) s).power = s.power := by
  induction l with
  | nil => intro s; rfl
  | cons _ _ ih => intro s; rw [List.foldl_cons, ih, State.drainOne_power]
@[simp] theorem State.drainDev_power (s : State) : s.drainDev.power = s.power := State.drainFold_power _ s
@[simp] theorem State.drainOne_clk (s : State) : s.drainOne.clk = s.clk := by
  unfold State.drainOne; repeat' split
  all_goals simp
theorem State.drainFold_clk (l : List Nat) : ∀ s : State, (l.foldl (fun s _ => s.drainOne) s).clk = s.clk := by
  induction l with
  | nil => intro s; rfl
  | cons _ _ ih => intro s; rw [List.foldl_cons, ih, State.drainOne_clk]
@[simp] theorem State.drainDev_clk (s : State) : s.drainDev.clk = s.clk := State.drainFold_clk _ s
@[simp] theorem State.drainOne_commit (s : State) : s.drainOne.commit = s.commit := by
  unfold State.drainOne; repeat' split
  all_goals simp
theorem State.drainFold_commit (l : List Nat) : ∀ s : State, (l.foldl (fun s _ => s.drainOne) s).commit = s.commit := by
  induction l with
  | nil => intro s; rfl
  | cons _ _ ih => intro s; rw [List.foldl_cons, ih, State.drainOne_commit]
@[simp] theorem State.drainDev_commit (s : State) : s.drainDev.commit = s.commit := State.drainFold_commit _ s
@[simp] theorem State.drainOne_sec (s : State) : s.drainOne.sec = s.sec := by
  unfold State.drainOne; repeat' split
  all_goals simp
theorem State.drainFold_sec (l : List Nat) : ∀ s : State, (l.foldl (fun s _ => s.drainOne) s).sec = s.sec := by
  induction l with
  | nil => intro s; rfl
  | cons _ _ ih => intro s; rw [List.foldl_cons, ih, State.drainOne_sec]
@[simp] theorem State.drainDev_sec (s : State) : s.drainDev.sec = s.sec := State.drainFold_sec _ s
@[simp] theorem State.drainOne_time (s : State) : s.drainOne.time = s.time := by
  unfold State.drainOne; repeat' split
  all_goals simp
theorem State.drainFold_time (l : List Nat) : ∀ s : State, (l.foldl (fun s _ => s.drainOne) s).time = s.time := by
  induction l with
  | nil => intro s; rfl
  | cons _ _ ih => intro s; rw [List.foldl_cons, ih, State.drainOne_time]
@[simp] theorem State.drainDev_time (s : State) : s.drainDev.time = s.time := State.drainFold_time _ s
@[simp] theorem State.drainOne_belay (s : State) : s.drainOne.belay = s.belay := by
  unfold State.drainOne; repeat' split
  all_goals simp
theorem State.drainFold_belay (l : List Nat) : ∀ s : State, (l.foldl (fun s _ => s.drainOne) s).belay = s.belay := by
  induction l with
  | nil => intro s; rfl
  | cons _ _ ih => intro s; rw [List.foldl_cons, ih, State.drainOne_belay]
@[simp] theorem State.drainDev_belay (s : State) : s.drainDev.belay = s.belay := State.drainFold_belay _ s
@[simp] theorem State.drainOne_probe (s : State) : s.drainOne.probe = s.probe := by
  unfold State.drainOne; repeat' split
  all_goals simp
theorem State.drainFold_probe (l : List Nat) : ∀ s : State, (l.foldl (fun s _ => s.drainOne) s).probe = s.probe := by
  induction l with
  | nil => intro s; rfl
  | cons _ _ ih => intro s; rw [List.foldl_cons, ih, State.drainOne_probe]
@[simp] theorem State.drainDev_probe (s : State) : s.drainDev.probe = s.probe := State.drainFold_probe _ s
@[simp] theorem State.drainOne_trig (s : State) : s.drainOne.trig = s.trig := by
  unfold State.drainOne; repeat' split
  all_goals simp
theorem State.drainFold_trig (l : List Nat) : ∀ s : State, (l.foldl (fun s _ => s.drainOne) s).trig = s.trig := by
  induction l with
  | nil => intro s; rfl
  | cons _ _ ih => intro s; rw [List.foldl_cons, ih, State.drainOne_trig]
@[simp] theorem State.drainDev_trig (s : State) : s.drainDev.trig = s.trig := State.drainFold_trig _ s
@[simp] theorem State.drainOne_mem (s : State) : s.drainOne.mem = s.mem := by
  unfold State.drainOne; repeat' split
  all_goals simp
theorem State.drainFold_mem (l : List Nat) : ∀ s : State, (l.foldl (fun s _ => s.drainOne) s).mem = s.mem := by
  induction l with
  | nil => intro s; rfl
  | cons _ _ ih => intro s; rw [List.foldl_cons, ih, State.drainOne_mem]
@[simp] theorem State.drainDev_mem (s : State) : s.drainDev.mem = s.mem := State.drainFold_mem _ s

/-- Where no request waits, none goes on. -/
theorem State.drainDev_idle (s : State) (h : s.coh.devWait = []) : s.drainDev = s := by
  simp [State.drainDev, h]

/-! ### Requests that waited for the home's tracker -/

/-- What the home's service of a request may change: messages leave, objects and causes count, the directory and the capture memory
follow; everything else stays. -/
def State.Homed (s t : State) : Prop :=
  ∃ out free obj acc alerts ports coh mem, t = { s with
    out := out, free := free, obj := obj, acc := acc, alerts := alerts, ports := ports, coh := coh, mem := mem }

theorem State.Homed.refl (s : State) : s.Homed s := ⟨_, _, _, _, _, _, _, _, rfl⟩

theorem State.Homed.trans {s t u : State} (h : s.Homed t) (k : t.Homed u) : s.Homed u := by
  obtain ⟨_, _, _, _, _, _, _, _, rfl⟩ := h
  obtain ⟨_, _, _, _, _, _, _, _, rfl⟩ := k
  exact ⟨_, _, _, _, _, _, _, _, rfl⟩

theorem State.Homed.of_alerted {s t : State} (h : s.Alerted t) : s.Homed t := by
  obtain ⟨_, _, _, rfl⟩ := h; exact ⟨_, _, _, _, _, _, _, _, rfl⟩

theorem State.Homed.foldl {α : Type} {f : State → α → State} (h : ∀ (s : State) (x : α), s.Homed (f s x)) (l : List α) :
    ∀ s : State, s.Homed (l.foldl f s) := by
  induction l with
  | nil => exact fun s => .refl s
  | cons x l ih => exact fun s => (h s x).trans (ih _)

theorem State.bump_homed (s : State) (i a n : Nat) : s.Homed (s.bump i a n) := ⟨_, _, _, _, _, _, _, _, rfl⟩

theorem State.bumpW_homed (s : State) (i a w n : Nat) : s.Homed (s.bumpW i a w n) := ⟨_, _, _, _, _, _, _, _, rfl⟩

theorem State.cohEvent_homed (s : State) (b k a i : Nat) : s.Homed (s.cohEvent b k a i) :=
  State.Homed.trans ⟨_, _, _, _, _, _, _, _, rfl⟩ (.of_alerted (State.setWord_alerted _ _ _ _ _))

theorem sendSeqFlit_homed (s : State) (p f c : Nat) (o : Octets) : s.Homed (sendSeqFlit p f c o s) := ⟨_, _, _, _, _, _, _, _, rfl⟩

theorem sendSlots_homed (p fuel : Nat) : ∀ (c : Nat) (o : Octets) (s : State), s.Homed (sendSlots p fuel c o s) := by
  induction fuel with
  | zero => exact fun _ _ s => .refl s
  | succ n ih =>
    intro c o s
    unfold sendSlots
    dsimp only
    split
    · exact sendSeqFlit_homed ..
    · exact (sendSeqFlit_homed ..).trans (ih ..)

theorem sendMsg_homed (s : State) (p : Nat) (m : LinkMsg) : s.Homed (sendMsg p m s) := by
  unfold sendMsg
  dsimp only
  split
  · split
    · exact (State.Homed.trans ⟨_, _, _, _, _, _, _, _, rfl⟩ (sendSlots_homed ..)).trans ⟨_, _, _, _, _, _, _, _, rfl⟩
    · exact ⟨_, _, _, _, _, _, _, _, rfl⟩
  · exact .refl s

theorem State.answer_homed (s : State) (p : Nat) (m : LinkMsg) (v o : Nat) (x : Bool) (d : Octets) : s.Homed (s.answer p m v o x d) := by
  unfold State.answer
  dsimp only
  split
  · exact (s.bump_homed ..).trans (sendMsg_homed ..)
  · exact sendMsg_homed ..

theorem State.abandonStep_homed (s : State) : s.Homed s.abandonStep := by
  unfold State.abandonStep
  split
  · exact State.Homed.trans ⟨_, _, _, _, _, _, _, _, rfl⟩ (State.bump_homed ..)
  · exact .refl s

theorem State.correctLine_homed (s : State) (off : Nat) : s.Homed (s.correctLine off) := by
  unfold State.correctLine
  dsimp only
  split <;> exact ⟨_, _, _, _, _, _, _, _, rfl⟩

theorem State.readLine_homed (s : State) (off : Nat) : s.Homed (s.readLine off).2.2 := by
  unfold State.readLine
  split
  · exact s.bump_homed ..
  · split
    · split <;> exact s.abandonStep_homed
    · split
      · exact s.correctLine_homed off
      · exact (s.correctLine_homed off).trans ⟨_, _, _, _, _, _, _, _, rfl⟩

theorem State.writeLine_homed (s : State) (off : Nat) (d : Octets) (x : Bool) : s.Homed (s.writeLine off d x) := by
  unfold State.writeLine
  split
  · exact State.Homed.trans ⟨_, _, _, _, _, _, _, _, rfl⟩ (State.abandonStep_homed _)
  · exact ⟨_, _, _, _, _, _, _, _, rfl⟩

theorem State.hostWrite_homed (s : State) (off i : Nat) (d : Octets) (x : Bool) : s.Homed (s.hostWrite off i d x) := by
  unfold State.hostWrite
  split
  · exact s.bump_homed ..
  · split
    · exact s.writeLine_homed ..
    · exact (s.readLine_homed off).trans (State.writeLine_homed ..)

theorem State.answerLine_homed (s : State) (p : Nat) (m : LinkMsg) (o off : Nat) : s.Homed (s.answerLine p m o off) := by
  unfold State.answerLine
  have h := s.readLine_homed (off / 64 * 64)
  generalize s.readLine (off / 64 * 64) = r at h
  obtain ⟨d, x, t⟩ := r
  cases x
  · exact h.trans (State.answer_homed ..)
  · exact (h.trans (State.cohEvent_homed ..)).trans (State.answer_homed ..)

theorem State.answerUc_homed (s : State) (p : Nat) (m : LinkMsg) (off : Nat) : s.Homed (s.answerUc p m off) := by
  unfold State.answerUc
  have h := s.readLine_homed (off / 64 * 64)
  generalize s.readLine (off / 64 * 64) = r at h
  obtain ⟨d, x, t⟩ := r
  have k : s.Homed (if x = true then t.cohEvent 3 2 (m.addr / 64 * 64) m.sid else t) := by
    cases x
    · exact h
    · exact h.trans (State.cohEvent_homed ..)
  dsimp only
  split <;> exact k.trans (State.answer_homed ..)

theorem State.applyWrite_homed (s : State) (p : Nat) (m : LinkMsg) (off : Nat) : s.Homed (s.applyWrite p m off) :=
  (s.hostWrite_homed ..).trans (State.answer_homed ..)

theorem State.sendSnp_homed (s : State) (l i : Nat) (inv : Bool) (g : Nat) : s.Homed (s.sendSnp l i inv g) :=
  (State.Homed.trans ⟨_, _, _, _, _, _, _, _, rfl⟩ (State.bumpW_homed _ _ _ _ _)).trans (sendMsg_homed ..)

theorem State.awaitSnoop_homed (s : State) (l : Nat) (x : Snoop) : s.Homed (s.awaitSnoop l x) := by
  unfold State.awaitSnoop
  split
  · exact ⟨_, _, _, _, _, _, _, _, rfl⟩
  · exact .refl s

theorem State.sendSnoop_homed (s : State) (l i : Nat) (inv : Bool) : s.Homed (s.sendSnoop l i inv) := by
  unfold State.sendSnoop
  dsimp only
  split
  · exact (s.sendSnp_homed ..).trans (State.awaitSnoop_homed ..)
  · exact s.awaitSnoop_homed ..

theorem State.snoopAll_homed (s : State) (l p : Nat) (q : Option LinkMsg) (r : Bool) (sids : List Nat) (inv : Bool) :
    s.Homed (s.snoopAll l p q r sids inv) :=
  State.Homed.trans ⟨_, _, _, _, _, _, _, _, rfl⟩ (State.Homed.foldl (fun s i => s.sendSnoop_homed l i inv) _ _)

theorem State.grantNew_homed (s : State) (l p : Nat) (m : LinkMsg) (off : Nat) (x : Bool) : s.Homed (s.grantNew l p m off x) := by
  unfold State.grantNew
  dsimp only
  split
  · exact State.Homed.trans ⟨_, _, _, _, _, _, _, _, rfl⟩ (State.answerLine_homed ..)
  · split
    · refine State.Homed.trans (t := State.waitOn _ _) ?_ (((State.cohEvent_homed ..).trans (State.bump_homed ..)).trans (State.snoopAll_homed ..))
      split <;> exact ⟨_, _, _, _, _, _, _, _, rfl⟩
    · exact ⟨_, _, _, _, _, _, _, _, rfl⟩

theorem State.decideI_homed (s : State) (l p : Nat) (m : LinkMsg) (off : Nat) : s.Homed (s.decideI l p m off) := by
  unfold State.decideI
  split <;> first | exact s.grantNew_homed .. | exact s.applyWrite_homed .. | exact s.answerUc_homed ..

theorem State.decideS_homed (s : State) (l p : Nat) (m : LinkMsg) (off : Nat) (e : FilterEntry) : s.Homed (s.decideS l p m off e) := by
  unfold State.decideS
  dsimp only
  split
  · exact State.Homed.trans ⟨_, _, _, _, _, _, _, _, rfl⟩ (State.answerLine_homed ..)
  · exact s.snoopAll_homed ..
  · split
    · split
      · exact State.Homed.trans ⟨_, _, _, _, _, _, _, _, rfl⟩ (State.answer_homed ..)
      · exact s.snoopAll_homed ..
    · exact s.snoopAll_homed ..
  all_goals first | exact s.snoopAll_homed .. | exact s.answerUc_homed ..

theorem State.decideEM_homed (s : State) (l p : Nat) (m : LinkMsg) (e : FilterEntry) : s.Homed (s.decideEM l p m e) := by
  unfold State.decideEM
  split
  · exact s.snoopAll_homed ..
  · split
    · exact s.answer_homed ..
    · exact s.snoopAll_homed ..
  all_goals exact s.snoopAll_homed ..

theorem State.quiesceLine_homed (s : State) (l : Nat) : s.Homed (s.quiesceLine l) := by
  unfold State.quiesceLine
  split
  · dsimp only
    split
    · exact .refl s
    · exact s.snoopAll_homed ..
  · exact .refl s

theorem State.answerBarred_homed (s : State) (p : Nat) (m : LinkMsg) (off : Nat) : s.Homed (s.answerBarred p m off) := by
  unfold State.answerBarred
  split
  · exact s.answerLine_homed ..
  · split
    · exact s.answer_homed ..
    · exact s.answerUc_homed ..

theorem State.hit_homed (s : State) (l : Nat) : s.Homed (s.hit l) := by
  unfold State.hit
  split
  · exact ⟨_, _, _, _, _, _, _, _, rfl⟩
  · exact .refl s

/-- The home decides a request: messages leave, the directory and the memory follow. -/
theorem State.homeDecide_homed (s : State) (l p : Nat) (m : LinkMsg) (off : Nat) : s.Homed (s.homeDecide l p m off) := by
  unfold State.homeDecide
  split
  · exact s.answer_homed ..
  · split
    · exact s.answerBarred_homed ..
    · refine ((s.hit_homed l).trans ?_).trans (State.quiesceLine_homed _ _)
      split
      · exact State.decideI_homed ..
      · split
        · exact State.decideEM_homed ..
        · exact State.decideS_homed ..

/-- A request that becomes visible at the home. -/
theorem State.request_homed (s : State) (p : Nat) (m : LinkMsg) (off : Nat) (more : Bool) : s.Homed (s.request p m off more) := by
  have v : ∀ a i, s.Homed (s.protoViolation a i) := fun _ _ => (State.cohEvent_homed ..).trans (State.bump_homed ..)
  unfold State.request
  dsimp only
  split
  · exact (s.bumpW_homed ..).trans (State.answer_homed ..)
  · split
    · exact v _ _
    · split
      · exact v _ _
      · refine State.Homed.trans (t := s.tracked) (s.bumpW_homed ..) ?_
        unfold State.placeRequest
        dsimp only
        split
        · exact State.answerBarred_homed ..
        · split
          · exact ⟨_, _, _, _, _, _, _, _, rfl⟩
          · split
            · exact ⟨_, _, _, _, _, _, _, _, rfl⟩
            · exact State.homeDecide_homed ..

theorem State.drainOneReq_homed (s : State) : s.Homed s.drainOneReq := by
  unfold State.drainOneReq
  split
  · exact .refl s
  · split
    · exact .refl s
    · dsimp only
      split <;> split <;>
        first | exact State.Homed.trans ⟨_, _, _, _, _, _, _, _, rfl⟩ (State.request_homed ..) | exact ⟨_, _, _, _, _, _, _, _, rfl⟩

/-- Requests that waited for the tracker are served as any other. -/
theorem State.drainInbox_homed (s : State) : s.Homed s.drainInbox := State.Homed.foldl (fun s _ => s.drainOneReq_homed) _ _

@[simp] theorem State.drainInbox_pending (s : State) : s.drainInbox.pending = s.pending := by
  obtain ⟨_, _, _, _, _, _, _, _, h⟩ := s.drainInbox_homed; rw [h]
@[simp] theorem State.drainInbox_now (s : State) : s.drainInbox.now = s.now := by
  obtain ⟨_, _, _, _, _, _, _, _, h⟩ := s.drainInbox_homed; rw [h]
@[simp] theorem State.drainInbox_staged (s : State) : s.drainInbox.staged = s.staged := by
  obtain ⟨_, _, _, _, _, _, _, _, h⟩ := s.drainInbox_homed; rw [h]
@[simp] theorem State.drainInbox_badWords (s : State) : s.drainInbox.badWords = s.badWords := by
  obtain ⟨_, _, _, _, _, _, _, _, h⟩ := s.drainInbox_homed; rw [h]
@[simp] theorem State.drainInbox_written (s : State) : s.drainInbox.written = s.written := by
  obtain ⟨_, _, _, _, _, _, _, _, h⟩ := s.drainInbox_homed; rw [h]
@[simp] theorem State.drainInbox_locked (s : State) : s.drainInbox.locked = s.locked := by
  obtain ⟨_, _, _, _, _, _, _, _, h⟩ := s.drainInbox_homed; rw [h]
@[simp] theorem State.drainInbox_power (s : State) : s.drainInbox.power = s.power := by
  obtain ⟨_, _, _, _, _, _, _, _, h⟩ := s.drainInbox_homed; rw [h]
@[simp] theorem State.drainInbox_clk (s : State) : s.drainInbox.clk = s.clk := by
  obtain ⟨_, _, _, _, _, _, _, _, h⟩ := s.drainInbox_homed; rw [h]
@[simp] theorem State.drainInbox_boot (s : State) : s.drainInbox.boot = s.boot := by
  obtain ⟨_, _, _, _, _, _, _, _, h⟩ := s.drainInbox_homed; rw [h]
@[simp] theorem State.drainInbox_commit (s : State) : s.drainInbox.commit = s.commit := by
  obtain ⟨_, _, _, _, _, _, _, _, h⟩ := s.drainInbox_homed; rw [h]
@[simp] theorem State.drainInbox_sec (s : State) : s.drainInbox.sec = s.sec := by
  obtain ⟨_, _, _, _, _, _, _, _, h⟩ := s.drainInbox_homed; rw [h]
@[simp] theorem State.drainInbox_time (s : State) : s.drainInbox.time = s.time := by
  obtain ⟨_, _, _, _, _, _, _, _, h⟩ := s.drainInbox_homed; rw [h]
@[simp] theorem State.drainInbox_belay (s : State) : s.drainInbox.belay = s.belay := by
  obtain ⟨_, _, _, _, _, _, _, _, h⟩ := s.drainInbox_homed; rw [h]
@[simp] theorem State.drainInbox_probe (s : State) : s.drainInbox.probe = s.probe := by
  obtain ⟨_, _, _, _, _, _, _, _, h⟩ := s.drainInbox_homed; rw [h]
@[simp] theorem State.drainInbox_sig (s : State) : s.drainInbox.sig = s.sig := by
  obtain ⟨_, _, _, _, _, _, _, _, h⟩ := s.drainInbox_homed; rw [h]
@[simp] theorem State.drainInbox_trig (s : State) : s.drainInbox.trig = s.trig := by
  obtain ⟨_, _, _, _, _, _, _, _, h⟩ := s.drainInbox_homed; rw [h]
@[simp] theorem State.drainInbox_pair (s : State) : s.drainInbox.pair = s.pair := by
  obtain ⟨_, _, _, _, _, _, _, _, h⟩ := s.drainInbox_homed; rw [h]
@[simp] theorem State.drainInbox_sto (s : State) : s.drainInbox.sto = s.sto := by
  obtain ⟨_, _, _, _, _, _, _, _, h⟩ := s.drainInbox_homed; rw [h]
@[simp] theorem State.drainInbox_comp (s : State) : s.drainInbox.comp = s.comp := by
  obtain ⟨_, _, _, _, _, _, _, _, h⟩ := s.drainInbox_homed; rw [h]

/-- Where no REQ message waits for the tracker, none goes on. -/
theorem State.drainInbox_idle (s : State) (h : s.coh.inbox = []) : s.drainInbox = s := by
  simp [State.drainInbox, h]

/-! ### settle -/

@[simp] theorem State.settle_pending (s : State) : s.settle.pending = s.pending := by simp [State.settle]
@[simp] theorem State.settle_now (s : State) : s.settle.now = s.now := by simp [State.settle]
@[simp] theorem State.settle_staged (s : State) : s.settle.staged = s.staged := by simp [State.settle]
@[simp] theorem State.settle_badWords (s : State) : s.settle.badWords = s.badWords := by simp [State.settle]
@[simp] theorem State.settle_written (s : State) : s.settle.written = s.written := by simp [State.settle]
@[simp] theorem State.settle_locked (s : State) : s.settle.locked = s.locked := by simp [State.settle]
@[simp] theorem State.settle_power (s : State) : s.settle.power = s.power := by simp [State.settle]
@[simp] theorem State.settle_clk (s : State) : s.settle.clk = s.clk := by simp [State.settle]
@[simp] theorem State.settle_commit (s : State) : s.settle.commit = s.commit := by simp [State.settle]
@[simp] theorem State.settle_sec (s : State) : s.settle.sec = s.sec := by simp [State.settle]
@[simp] theorem State.settle_time (s : State) : s.settle.time = s.time := by simp [State.settle]
@[simp] theorem State.settle_belay (s : State) : s.settle.belay = s.belay := by simp [State.settle]
@[simp] theorem State.settle_probe (s : State) : s.settle.probe = s.probe := by simp [State.settle]
@[simp] theorem State.settle_trig (s : State) : s.settle.trig = s.trig := by simp [State.settle]

/-- On a device that is neither Lead nor Second, with no completion and no request waiting, nothing follows a command. -/
theorem State.settle_alone (s : State) (h : s.pair.role ≠ 2) (h' : s.pair.role ≠ 3) (hd : s.coh.done = [])
    (hw : s.coh.devWait = []) (hi : s.coh.inbox = []) : s.settle = s := by
  unfold State.settle; rw [s.drainInbox_idle hi, s.drainDev_idle hw, s.serveUnits_idle hd, s.pairFollow_single h h']

end Sys2Proof.Machine
end

