-- ==== Sys2Proof/Laws/Access.lean ====
section
/-! SUPPORT. Sys2Proof/Laws/Access.lean: what an accepted access does: its session goes on, the access is counted, and the
object's effect takes place. -/
set_option Elab.async false
namespace Sys2Proof.Machine

/-! ### Acceptance -/

/-- Closing an idle session changes a path and a count. -/
theorem State.closeIdle_touches (s : State) (p : Nat) : ∃ o a, s.closeIdle p = { s with obj := o, acc := a } := by
  unfold State.closeIdle
  split
  · split
    · exact ⟨_, _, rfl⟩
    · exact ⟨_, _, rfl⟩
  · exact ⟨_, _, rfl⟩

@[simp] theorem State.closeIdle_pending (s : State) (p : Nat) : (s.closeIdle p).pending = s.pending := by
  obtain ⟨_, _, h⟩ := s.closeIdle_touches p; rw [h]
@[simp] theorem State.closeIdle_out (s : State) (p : Nat) : (s.closeIdle p).out = s.out := by
  obtain ⟨_, _, h⟩ := s.closeIdle_touches p; rw [h]
@[simp] theorem State.closeIdle_free (s : State) (p : Nat) : (s.closeIdle p).free = s.free := by
  obtain ⟨_, _, h⟩ := s.closeIdle_touches p; rw [h]
@[simp] theorem State.closeIdle_now (s : State) (p : Nat) : (s.closeIdle p).now = s.now := by
  obtain ⟨_, _, h⟩ := s.closeIdle_touches p; rw [h]
@[simp] theorem State.closeIdle_staged (s : State) (p : Nat) : (s.closeIdle p).staged = s.staged := by
  obtain ⟨_, _, h⟩ := s.closeIdle_touches p; rw [h]
@[simp] theorem State.closeIdle_badWords (s : State) (p : Nat) : (s.closeIdle p).badWords = s.badWords := by
  obtain ⟨_, _, h⟩ := s.closeIdle_touches p; rw [h]
@[simp] theorem State.closeIdle_written (s : State) (p : Nat) : (s.closeIdle p).written = s.written := by
  obtain ⟨_, _, h⟩ := s.closeIdle_touches p; rw [h]
@[simp] theorem State.closeIdle_locked (s : State) (p : Nat) : (s.closeIdle p).locked = s.locked := by
  obtain ⟨_, _, h⟩ := s.closeIdle_touches p; rw [h]
@[simp] theorem State.closeIdle_power (s : State) (p : Nat) : (s.closeIdle p).power = s.power := by
  obtain ⟨_, _, h⟩ := s.closeIdle_touches p; rw [h]
@[simp] theorem State.closeIdle_clk (s : State) (p : Nat) : (s.closeIdle p).clk = s.clk := by
  obtain ⟨_, _, h⟩ := s.closeIdle_touches p; rw [h]
@[simp] theorem State.closeIdle_boot (s : State) (p : Nat) : (s.closeIdle p).boot = s.boot := by
  obtain ⟨_, _, h⟩ := s.closeIdle_touches p; rw [h]
@[simp] theorem State.closeIdle_commit (s : State) (p : Nat) : (s.closeIdle p).commit = s.commit := by
  obtain ⟨_, _, h⟩ := s.closeIdle_touches p; rw [h]
@[simp] theorem State.closeIdle_alerts (s : State) (p : Nat) : (s.closeIdle p).alerts = s.alerts := by
  obtain ⟨_, _, h⟩ := s.closeIdle_touches p; rw [h]
@[simp] theorem State.closeIdle_sec (s : State) (p : Nat) : (s.closeIdle p).sec = s.sec := by
  obtain ⟨_, _, h⟩ := s.closeIdle_touches p; rw [h]
@[simp] theorem State.closeIdle_ports (s : State) (p : Nat) : (s.closeIdle p).ports = s.ports := by
  obtain ⟨_, _, h⟩ := s.closeIdle_touches p; rw [h]
@[simp] theorem State.closeIdle_coh (s : State) (p : Nat) : (s.closeIdle p).coh = s.coh := by
  obtain ⟨_, _, h⟩ := s.closeIdle_touches p; rw [h]
@[simp] theorem State.closeIdle_time (s : State) (p : Nat) : (s.closeIdle p).time = s.time := by
  obtain ⟨_, _, h⟩ := s.closeIdle_touches p; rw [h]
@[simp] theorem State.closeIdle_belay (s : State) (p : Nat) : (s.closeIdle p).belay = s.belay := by
  obtain ⟨_, _, h⟩ := s.closeIdle_touches p; rw [h]
@[simp] theorem State.closeIdle_probe (s : State) (p : Nat) : (s.closeIdle p).probe = s.probe := by
  obtain ⟨_, _, h⟩ := s.closeIdle_touches p; rw [h]
@[simp] theorem State.closeIdle_sig (s : State) (p : Nat) : (s.closeIdle p).sig = s.sig := by
  obtain ⟨_, _, h⟩ := s.closeIdle_touches p; rw [h]
@[simp] theorem State.closeIdle_trig (s : State) (p : Nat) : (s.closeIdle p).trig = s.trig := by
  obtain ⟨_, _, h⟩ := s.closeIdle_touches p; rw [h]
@[simp] theorem State.closeIdle_pair (s : State) (p : Nat) : (s.closeIdle p).pair = s.pair := by
  obtain ⟨_, _, h⟩ := s.closeIdle_touches p; rw [h]
@[simp] theorem State.closeIdle_mem (s : State) (p : Nat) : (s.closeIdle p).mem = s.mem := by
  obtain ⟨_, _, h⟩ := s.closeIdle_touches p; rw [h]
@[simp] theorem State.closeIdle_sto (s : State) (p : Nat) : (s.closeIdle p).sto = s.sto := by
  obtain ⟨_, _, h⟩ := s.closeIdle_touches p; rw [h]
@[simp] theorem State.closeIdle_comp (s : State) (p : Nat) : (s.closeIdle p).comp = s.comp := by
  obtain ⟨_, _, h⟩ := s.closeIdle_touches p; rw [h]
@[simp] theorem State.accept_pending (s : State) (p req : Nat) : (s.accept p req).pending = s.pending := by simp [State.accept]
@[simp] theorem State.accept_out (s : State) (p req : Nat) : (s.accept p req).out = s.out := by simp [State.accept]
@[simp] theorem State.accept_free (s : State) (p req : Nat) : (s.accept p req).free = s.free := by simp [State.accept]
@[simp] theorem State.accept_now (s : State) (p req : Nat) : (s.accept p req).now = s.now := by simp [State.accept]
@[simp] theorem State.accept_staged (s : State) (p req : Nat) : (s.accept p req).staged = s.staged := by simp [State.accept]
@[simp] theorem State.accept_badWords (s : State) (p req : Nat) : (s.accept p req).badWords = s.badWords := by simp [State.accept]
@[simp] theorem State.accept_written (s : State) (p req : Nat) : (s.accept p req).written = s.written := by simp [State.accept]
@[simp] theorem State.accept_locked (s : State) (p req : Nat) : (s.accept p req).locked = s.locked := by simp [State.accept]
@[simp] theorem State.accept_power (s : State) (p req : Nat) : (s.accept p req).power = s.power := by simp [State.accept]
@[simp] theorem State.accept_clk (s : State) (p req : Nat) : (s.accept p req).clk = s.clk := by simp [State.accept]
@[simp] theorem State.accept_boot (s : State) (p req : Nat) : (s.accept p req).boot = s.boot := by simp [State.accept]
@[simp] theorem State.accept_commit (s : State) (p req : Nat) : (s.accept p req).commit = s.commit := by simp [State.accept]
@[simp] theorem State.accept_alerts (s : State) (p req : Nat) : (s.accept p req).alerts = s.alerts := by simp [State.accept]
@[simp] theorem State.accept_sec (s : State) (p req : Nat) : (s.accept p req).sec = s.sec := by simp [State.accept]
@[simp] theorem State.accept_ports (s : State) (p req : Nat) : (s.accept p req).ports = s.ports := by simp [State.accept]
@[simp] theorem State.accept_coh (s : State) (p req : Nat) : (s.accept p req).coh = s.coh := by simp [State.accept]
@[simp] theorem State.accept_time (s : State) (p req : Nat) : (s.accept p req).time = s.time := by simp [State.accept]
@[simp] theorem State.accept_belay (s : State) (p req : Nat) : (s.accept p req).belay = s.belay := by simp [State.accept]
@[simp] theorem State.accept_probe (s : State) (p req : Nat) : (s.accept p req).probe = s.probe := by simp [State.accept]
@[simp] theorem State.accept_sig (s : State) (p req : Nat) : (s.accept p req).sig = s.sig := by simp [State.accept]
@[simp] theorem State.accept_trig (s : State) (p req : Nat) : (s.accept p req).trig = s.trig := by simp [State.accept]
@[simp] theorem State.accept_pair (s : State) (p req : Nat) : (s.accept p req).pair = s.pair := by simp [State.accept]
@[simp] theorem State.accept_mem (s : State) (p req : Nat) : (s.accept p req).mem = s.mem := by simp [State.accept]
@[simp] theorem State.accept_sto (s : State) (p req : Nat) : (s.accept p req).sto = s.sto := by simp [State.accept]
@[simp] theorem State.accept_comp (s : State) (p req : Nat) : (s.accept p req).comp = s.comp := by simp [State.accept]

theorem State.closeIdle_val (s : State) (p i a : Nat) (h : key i a ≠ key 0xF098 3) : (s.closeIdle p).val i a = s.val i a := by
  unfold State.closeIdle; split
  · split
    · rw [State.val_bump _ _ _ _ _ _ h]; exact State.val_congr rfl i a
    · rfl
  · rfl

/-- Acceptance changes no object but the counts of accesses and of idle closes. -/
theorem State.accept_val (s : State) (p req i a : Nat) (h : key i a ≠ key 0xF098 3) (h' : key i a ≠ key 0xF000 1) :
    (s.accept p req).val i a = s.val i a := by
  unfold State.accept
  rw [State.val_bump _ _ _ _ _ _ h']
  exact (State.val_congr (State.setPath_obj ..) i a).trans (s.closeIdle_val p i a h)

/-! ### Accepted writes of class L -/

/-- The object's value as the write leaves it. -/
theorem State.serveWrite_live {s : State} {p req idx sub : Nat} {o : Octets} {ty : Option Nat} {r : Row}
    (hr : findRow idx sub = some r) (hl : r.cls = .l) (hx : ¬ (idx = 0x1010 ∧ sub = 3))
    (h0 : (s.serveWrite p req idx sub o ty).1 = 0) :
    (s.serveWrite p req idx sub o ty).2 =
      (((s.accept p req).liveEffect ⟨p, req, (s.accept p req).levelOf p req, idx, sub⟩ (maskVal r (octetsVal r.ty o))).bump 0xF000 3 1) := by
  unfold State.serveWrite at h0 ⊢
  rw [hr] at h0 ⊢
  dsimp only at h0 ⊢
  unfold State.writeRow at h0 ⊢
  dsimp only at h0 ⊢
  by_cases c1 : State.headCode (s.accept p req) r ⟨p, req, (s.accept p req).levelOf p req, idx, sub⟩ o.length ty = 0
  · simp only [c1, ne_eq, not_true_eq_false, if_false] at h0 ⊢
    by_cases c2 : forcedLevel ⟨p, req, (s.accept p req).levelOf p req, idx, sub⟩ (octetsVal r.ty o) = true
    · simp [c2] at h0
    · simp only [c2, Bool.false_eq_true, if_false] at h0 ⊢
      split at h0
      · simp at h0
      · rename_i c3
        simp only [c3, Bool.false_eq_true, if_false]
        rw [hl] at h0 ⊢
        dsimp only at h0 ⊢
        unfold State.liveWrite at h0 ⊢
        simp only [hx, if_false] at h0 ⊢
        by_cases c4 : State.liveCode (s.accept p req) ⟨p, req, (s.accept p req).levelOf p req, idx, sub⟩ (maskVal r (octetsVal r.ty o)) = 0
        · simp [c4]
        · simp [c4] at h0
  · simp [c1] at h0

/-- A write of class L that no check refuses takes effect, is counted and answered, and the units and the pair follow. -/
theorem State.writeNum_live {s : State} {w : Who} {idx sub n : Nat} {r : Row} (hr : findRow idx sub = some r) (hl : r.cls = .l)
    (hx : ¬ (idx = 0x1010 ∧ sub = 3)) (h : Accepted s w idx sub n) :
    s.writeNum w idx sub n =
      (let t := ((s.accept (pathNo w.path) (s.requester w)).liveEffect
          ⟨pathNo w.path, s.requester w, (s.accept (pathNo w.path) (s.requester w)).levelOf (pathNo w.path) (s.requester w), idx, sub⟩
          (maskVal r (octetsVal r.ty (operand idx sub n)))).bump 0xF000 3 1
       (if t.up then t.emit (.answer w 0 []) else t).settle) := by
  have turn : (s.xferDue (pathNo w.path)).rowTurn (pathNo w.path) (s.requester w) = (true, s) := by
    have d : s.xferDue (pathNo w.path) = s := by unfold State.xferDue State.xferLate; rw [h.2.1]; rfl
    rw [d]; unfold State.rowTurn; rw [h.2.1]
  unfold State.writeNum State.writeBy
  rw [h.1, turn]
  simp only [if_true]
  have e := State.serveWrite_live (s := s) (p := pathNo w.path) (req := s.requester w) (o := operand idx sub n) (ty := none) hr hl hx h.2.2.2
  generalize hq : s.serveWrite (pathNo w.path) (s.requester w) idx sub (operand idx sub n) none = q at e
  have h0 : q.1 = 0 := by rw [← hq]; exact h.2.2.2
  obtain ⟨c, t⟩ := q
  simp only at h0 e ⊢
  subst h0 e
  rfl

end Sys2Proof.Machine
end

