-- ==== Sys2Proof/Laws/Memory.lean ====
section
/-! SUPPORT. Sys2Proof/Laws/Memory.lean: the canonical form of the capture memory: a read after a write, and that each operation over
the memory keeps the form. -/
set_option Elab.async false
namespace Sys2Proof.Machine

/-- A list rises exactly when its head lies below the rest and the rest rises. -/
theorem rising_cons (a : Nat) (l : List Nat) : rising (a :: l) = true ↔ (∀ b ∈ l, a < b) ∧ rising l = true := by
  induction l generalizing a with
  | nil => simp [rising]
  | cons b t ih =>
    constructor
    · intro h
      simp only [rising, Bool.and_eq_true, decide_eq_true_eq] at h
      refine ⟨fun c hc => ?_, h.2⟩
      rcases List.mem_cons.mp hc with rfl | hc
      · exact h.1
      · exact Nat.lt_trans h.1 (((ih b).mp h.2).1 c hc)
    · rintro ⟨h, hr⟩
      simp [rising, h b (by simp), hr]

/-- A rising list is one whose elements rise pairwise. -/
theorem rising_iff (l : List Nat) : rising l = true ↔ l.Pairwise (· < ·) := by
  induction l with
  | nil => simp [rising]
  | cons a t ih => rw [rising_cons, List.pairwise_cons, ih]

/-- Taking elements out keeps a list rising. -/
theorem rising_filter (l : List Nat) (f : Nat → Bool) (h : rising l = true) : rising (l.filter f) = true := by
  rw [rising_iff] at *; exact h.filter f

/-- Putting an offset in, or taking it out, keeps a list rising. -/
theorem rising_poisonSet (l : List Nat) (off : Nat) (b : Bool) (h : rising l = true) : rising (poisonSet l off b) = true := by
  unfold poisonSet
  have hr := rising_filter l (fun x => decide (x ≠ off)) h
  split
  · rw [rising_iff] at *
    rw [List.pairwise_append, List.pairwise_cons]
    refine ⟨hr.filter _, ⟨?_, hr.filter _⟩, ?_⟩
    · intro x hx; simpa using (List.mem_filter.mp hx).2
    · intro x hx y hy
      have h1 : x < off := by simpa using (List.mem_filter.mp hx).2
      rcases List.mem_cons.mp hy with rfl | hy
      · exact h1
      · have h2 : off < y := by simpa using (List.mem_filter.mp hy).2
        omega
  · exact hr

/-- An offset is in the list after it was put in, and out of it after it was taken out; every other offset stays as it was. -/
theorem mem_poisonSet (l : List Nat) (off x : Nat) (b : Bool) : x ∈ poisonSet l off b ↔ (if x = off then b = true else x ∈ l) := by
  unfold poisonSet
  by_cases hx : x = off
  · subst hx; cases b <;> simp
  · cases b
    · simp [hx]
    · simp only [if_true, List.mem_append, List.mem_filter, List.mem_cons, decide_eq_true_eq, hx, false_or, if_false]
      constructor
      · rintro (h | h) <;> exact h.1.1
      · intro h
        rcases Nat.lt_or_gt_of_ne hx with h' | h'
        · exact .inl ⟨⟨h, hx⟩, h'⟩
        · exact .inr ⟨⟨h, hx⟩, h'⟩

/-- The canonical form of a list of cells, by its head. -/
theorem cellWf_cons (a : Nat) (v : Byte) (m : List Host.Cell) :
    cellWf ((a, v) :: m) = true ↔ v ≠ 0 ∧ (∀ e ∈ m, a < e.1) ∧ cellWf m = true := by
  induction m generalizing a v with
  | nil => simp [cellWf]
  | cons e t ih =>
    obtain ⟨b, w⟩ := e
    constructor
    · intro h
      simp only [cellWf, Bool.and_eq_true, decide_eq_true_eq] at h
      refine ⟨h.1.2, fun e he => ?_, h.2⟩
      rcases List.mem_cons.mp he with rfl | he
      · exact h.1.1
      · exact Nat.lt_trans h.1.1 (((ih b w).mp h.2).2.1 e he)
    · rintro ⟨hv, h, hw⟩
      have := h (b, w) (by simp)
      simp only [cellWf, Bool.and_eq_true, decide_eq_true_eq]
      exact ⟨⟨this, hv⟩, hw⟩

/-- The offsets a write leaves listed are those listed before and its own. -/
theorem mem_cellSet {m : List Host.Cell} {a : Nat} {v : Byte} {e : Host.Cell} (h : e ∈ cellSet m a v) : e = (a, v) ∨ e ∈ m := by
  induction m with
  | nil => unfold cellSet at h; split at h <;> simp_all
  | cons f t ih =>
    obtain ⟨b, w⟩ := f
    unfold cellSet at h
    split at h
    · split at h <;> simp_all
    · split at h
      · split at h
        · exact .inr (List.mem_cons_of_mem _ h)
        · simp at h; rcases h with h | h
          · exact .inl h
          · exact .inr (List.mem_cons_of_mem _ h)
      · rcases List.mem_cons.mp h with rfl | h
        · exact .inr (by simp)
        · exact (ih h).imp_right (List.mem_cons_of_mem _)

/-- Writing an octet keeps the canonical form. -/
theorem cellWf_cellSet (m : List Host.Cell) (a : Nat) (v : Byte) (h : cellWf m = true) : cellWf (cellSet m a v) = true := by
  induction m with
  | nil => unfold cellSet; split <;> simp_all [cellWf]
  | cons f t ih =>
    obtain ⟨b, w⟩ := f
    have hc := (cellWf_cons b w t).mp h
    unfold cellSet
    split
    · split
      · exact h
      · refine (cellWf_cons _ _ _).mpr ⟨by assumption, fun e he => ?_, h⟩
        rcases List.mem_cons.mp he with rfl | he
        · assumption
        · exact Nat.lt_trans (by assumption) (hc.2.1 e he)
    · split
      · rename_i hab; subst hab
        split
        · exact hc.2.2
        · exact (cellWf_cons _ _ _).mpr ⟨by assumption, hc.2.1, hc.2.2⟩
      · refine (cellWf_cons _ _ _).mpr ⟨hc.1, fun e he => ?_, ih hc.2.2⟩
        rcases mem_cellSet he with rfl | he
        · simp only; omega
        · exact hc.2.1 e he

/-- An offset below every listed one reads 0. -/
theorem cellGet_below (m : List Host.Cell) (a : Nat) (h : ∀ e ∈ m, a < e.1) : cellGet m a = 0 := by
  induction m with
  | nil => rfl
  | cons f t ih =>
    obtain ⟨b, w⟩ := f
    have := h (b, w) (by simp)
    simp only at this
    unfold cellGet
    rw [if_neg (by omega)]
    exact ih fun e he => h e (List.mem_cons_of_mem _ he)

/-- A read after a write: the offset written reads what was written, every other offset as before. -/
theorem cellGet_cellSet (m : List Host.Cell) (a b : Nat) (v : Byte) (h : cellWf m = true) :
    cellGet (cellSet m a v) b = if b = a then v else cellGet m b := by
  induction m with
  | nil =>
    unfold cellSet
    by_cases hv : v = 0
    · simp [hv, cellGet]
    · rw [if_neg hv]; by_cases hb : b = a <;> simp [hb, cellGet]
  | cons f t ih =>
    obtain ⟨c, w⟩ := f
    have hc := (cellWf_cons c w t).mp h
    unfold cellSet
    by_cases h1 : a < c
    · have hz : cellGet ((c, w) :: t) a = 0 := cellGet_below _ _ fun e he => by
        rcases List.mem_cons.mp he with rfl | he
        · exact h1
        · exact Nat.lt_trans h1 (hc.2.1 e he)
      rw [if_pos h1]
      by_cases hv : v = 0
      · rw [if_pos hv]; by_cases hb : b = a
        · subst hb; rw [if_pos rfl, hz, hv]
        · rw [if_neg hb]
      · rw [if_neg hv]; by_cases hb : b = a <;> simp [cellGet, hb]
    · by_cases h2 : a = c
      · subst h2
        have hz : cellGet t a = 0 := cellGet_below _ _ hc.2.1
        rw [if_neg h1, if_pos rfl]
        by_cases hv : v = 0
        · rw [if_pos hv]; by_cases hb : b = a
          · subst hb; rw [if_pos rfl, hz, hv]
          · simp [cellGet, hb]
        · rw [if_neg hv]; by_cases hb : b = a <;> simp [cellGet, hb]
      · rw [if_neg h1, if_neg h2]
        by_cases hb : b = c
        · subst hb; simp [cellGet, Ne.symm h2]
        · simp [cellGet, hb, ih hc.2.2]

/-- Writing octets keeps the canonical form. -/
theorem cellWf_cellWrite (o : Octets) (m : List Host.Cell) (a : Nat) (h : cellWf m = true) : cellWf (cellWrite m a o) = true := by
  induction o generalizing m a with
  | nil => exact h
  | cons b t ih => exact ih _ _ (cellWf_cellSet m a b h)

/-- A read after a write of octets: those written read what was written, every other octet as before. -/
theorem cellGet_cellWrite (o : Octets) (m : List Host.Cell) (a b : Nat) (h : cellWf m = true) :
    cellGet (cellWrite m a o) b = if a ≤ b ∧ b < a + o.length then o.getD (b - a) 0 else cellGet m b := by
  induction o generalizing m a with
  | nil => simp [cellWrite]
  | cons c t ih =>
    rw [cellWrite, ih _ _ (cellWf_cellSet m a c h), cellGet_cellSet m a b c h]
    by_cases hb : b = a
    · subst hb; simp
    · by_cases hr : a + 1 ≤ b ∧ b < a + 1 + t.length
      · have e : b - a = b - (a + 1) + 1 := by omega
        rw [if_pos hr, if_pos (by simp only [List.length_cons]; omega), e]; rfl
      · rw [if_neg hr, if_neg hb, if_neg (by simp only [List.length_cons]; omega)]

/-- The four parts of the canonical form. -/
theorem Memory.wf_iff (m : Memory) :
    m.wf = true ↔ cellWf m.cells = true ∧ rising m.poison = true ∧ rising m.single = true ∧ rising m.double = true := by
  simp [Memory.wf, and_assoc]

/-- A memory whose octets and lists are those of one in canonical form is in canonical form. -/
theorem Memory.wf_congr {m n : Memory} (h : m.cells = n.cells ∧ m.poison = n.poison ∧ m.single = n.single ∧ m.double = n.double)
    (hn : n.wf = true) : m.wf = true := by
  unfold Memory.wf at *; rw [h.1, h.2.1, h.2.2.1, h.2.2.2]; exact hn

/-- Reset memory is in canonical form. -/
theorem Memory.wf_reset : State.reset.mem.wf = true := by decide

/-- A line written with fresh check bits keeps the canonical form. -/
theorem State.freshLine_wf (s : State) (off : Nat) (data : Octets) (p : Bool) (h : s.mem.wf = true) :
    (s.freshLine off data p).mem.wf = true := by
  obtain ⟨h1, h2, h3, h4⟩ := (Memory.wf_iff _).mp h
  exact (Memory.wf_iff _).mpr
    ⟨cellWf_cellWrite _ _ _ h1, rising_poisonSet _ _ _ h2, rising_filter _ _ h3, rising_filter _ _ h4⟩

/-- Abandoning a step of the test leaves the octets and the lists of the memory. -/
theorem State.abandonStep_wf (s : State) (h : s.mem.wf = true) : s.abandonStep.mem.wf = true := by
  unfold State.abandonStep
  split
  · exact Memory.wf_congr ⟨rfl, rfl, rfl, rfl⟩ h
  · exact h

/-- A write of a line by either port keeps the canonical form. -/
theorem State.writeLine_wf (s : State) (off : Nat) (data : Octets) (p : Bool) (h : s.mem.wf = true) :
    (s.writeLine off data p).mem.wf = true := by
  unfold State.writeLine
  split
  · exact State.abandonStep_wf _ (Memory.wf_congr ⟨rfl, rfl, rfl, rfl⟩ h)
  · exact s.freshLine_wf off data p h

/-- Correcting a line keeps the canonical form. -/
theorem State.correctLine_wf (s : State) (off : Nat) (h : s.mem.wf = true) : (s.correctLine off).mem.wf = true := by
  obtain ⟨h1, h2, h3, h4⟩ := (Memory.wf_iff _).mp h
  unfold State.correctLine
  dsimp only
  split <;> exact (Memory.wf_iff _).mpr ⟨h1, h2, rising_filter _ _ h3, h4⟩

/-- Poisoning a line keeps the canonical form. -/
theorem State.failLine_wf (s : State) (off w n : Nat) (h : s.mem.wf = true) : (s.failLine off w n).mem.wf = true := by
  obtain ⟨h1, h2, h3, h4⟩ := (Memory.wf_iff _).mp h
  exact (Memory.wf_iff _).mpr ⟨h1, rising_poisonSet s.mem.poison off true h2, h3, h4⟩

/-- A read of a line keeps the canonical form. -/
theorem State.readLine_wf (s : State) (off : Nat) (h : s.mem.wf = true) : (s.readLine off).2.2.mem.wf = true := by
  unfold State.readLine
  split
  · exact h
  · split
    · split <;> exact State.abandonStep_wf _ h
    · split
      · exact s.correctLine_wf off h
      · exact State.failLine_wf _ _ _ _ (s.correctLine_wf off h)

/-- A host write keeps the canonical form. -/
theorem State.hostWrite_wf (s : State) (off i : Nat) (data : Octets) (p : Bool) (h : s.mem.wf = true) :
    (s.hostWrite off i data p).mem.wf = true := by
  unfold State.hostWrite
  split
  · exact h
  · split
    · exact s.writeLine_wf _ _ _ h
    · exact State.writeLine_wf _ _ _ _ (s.readLine_wf off h)

end Sys2Proof.Machine
end

