-- ==== Sys2Proof/WellFormed.lean ====
section
/-! DEFINITION. Sys2Proof/WellFormed.lean: what the operands of a command must be for a sender to be able to send it. The
meanings do not ask it: they are total. -/
namespace Sys2Proof

/-- A command comes over one of the four access paths, from a requester that the path can carry (Table 20.4). -/
def whoOk (w : Who) : Bool :=
  match w.path with
  | .can => decide (w.req < 2 ^ 8)
  | .t1s => decide (w.req < 2 ^ 48)
  | .mailbox => decide (w.req < 2 ^ 48)
  | .jtag => decide (w.req = 0)
  | .image => false

/-- One of the four access paths. -/
def pathOk (p : Path) : Bool := match p with | .image => false | _ => true

/-- The greatest payload of a carrier in octets (R271, R272, R277, R279, R285). -/
def carrierMax (c : Carrier) : Nat :=
  match c with
  | .can _ _ false _ => 8
  | .can _ _ true _ => 64
  | .udp _ _ _ _ _ => 1472
  | .mailbox _ _ => 256
  | .jtag => 256

/-- A frame fits its carrier, and a classical CAN frame switches no bit rate (R271, R272). -/
def frameOk (f : Frame) : Bool :=
  decide (f.o.length ≤ carrierMax f.via) && (match f.via with | .can _ _ fd brs => fd || !brs | _ => true)

/-- A coherence message carries at most one line (Table 9.8). -/
def cohOk (m : CohMsg) : Bool := decide (m.data.length ≤ 64)

/-- Eight counts, one a virtual channel, of 16 bits each (Table 9.10). -/
def countsOk (l : List Nat) : Bool := decide (l.length = 8) && l.all fun n => decide (n < 2 ^ 16)

/-- No port is named twice. -/
def diesOk (l : List DieInfo) : Bool := (l.map DieInfo.port).dedup.length == l.length

/-- A read of a view is aligned to its size (R279). -/
def viewOk (off : BitVec 16) (wide : Bool) : Bool := decide (off.toNat % (if wide then 8 else 4) = 0)

/-- A command that a sender can send. -/
def wellFormed (i : Instr) : Bool :=
  match i with
  | .supplyMonitorTrip _ _ => true
  | .porRelease _ _ => true
  | .pinReset _ => true
  | .pinResetRelease => true
  | .thermThreshold _ => true
  | .thermalTrip => true
  | .thermalTripRecovery _ => true
  | .strapChange _ _ => true
  | .vddioLoss => true
  | .xtrigInEdge _ _ _ => true
  | .temperatureBelow115 => true
  | .xoQualWindowEnd _ => true
  | .xoQualTimeout => true
  | .pllLock _ => true
  | .bootPllLockTimeout => true
  | .rootSelect w _ _ => whoOk w
  | .normalSwitchComplete _ => true
  | .stallDeclared _ => true
  | .rootEdgeAfterStall _ => true
  | .aonClockFault _ => true
  | .forcedSwitch w _ => whoOk w
  | .forcedSwitchComplete _ => true
  | .forcedSwitchLockTimeout _ => true
  | .pllLossOfLock _ => true
  | .pllRelock _ => true
  | .dvfsEvaluation => true
  | .dvfsTransitionPhaseDone => true
  | .meterStart w _ => whoOk w
  | .meterWindowEnd _ => true
  | .clkmonChange w _ _ => whoOk w
  | .aonStart => true
  | .fuseLoad _ _ => true
  | .bankBist _ => true
  | .vaultInitialisation _ => true
  | .imageSelection _ => true
  | .flashBusyTimeout => true
  | .hello _ => true
  | .roleWaitExpiry _ _ => true
  | .refclkLeadTimeExpiry => true
  | .prstNOutRelease _ => true
  | .linkStartDelayExpiry => true
  | .timeBaseStart => true
  | .warmResetRequest w _ => whoOk w
  | .warmReset => true
  | .saveRequest w _ => whoOk w
  | .saveFlashCommandDone _ => true
  | .lockRequest w _ => whoOk w
  | .descriptorQuery w _ => whoOk w
  | .diagnosticClear w _ => whoOk w
  | .storeScrub _ => true
  | .dictWrite w _ _ o _ => whoOk w && decide (o.length ≤ 65535)
  | .read f => frameOk f
  | .write f => frameOk f
  | .segWriteStart f => frameOk f
  | .seg f => frameOk f
  | .segReq f => frameOk f
  | .abort f => frameOk f
  | .transferTimeout path => pathOk path
  | .alertFrameSend path => pathOk path
  | .alertRepeatExpiry path => pathOk path
  | .acceptanceQueueReset => true
  | .canBusOff => true
  | .canBusOffRecovery => true
  | .canBusIdle => true
  | .canErrorPassive _ _ => true
  | .networkDown _ => true
  | .networkUp => true
  | .arpRequest _ _ _ => true
  | .arpReply _ _ => true
  | .icmpEchoRequest _ _ m => decide (m.o.length ≤ 1480)
  | .mailboxClaim _ _ _ => true
  | .mailboxRelease _ _ _ => true
  | .mailboxDoorbell _ _ _ => true
  | .mailboxReqlenWrite _ _ _ => true
  | .mailboxRequestWrite _ _ _ o => (decide (o.length = 4) || decide (o.length = 8))
  | .mailboxClaimExpiry => true
  | .mailboxInvalidAccess _ _ => true
  | .timeViewRead _ off wide => viewOk off wide
  | .tickViewRead _ off wide => viewOk off wide
  | .extest scan => decide (scan.length ≤ 12)
  | .idcode => true
  | .samplePreload scan => decide (scan.length ≤ 12)
  | .clamp => true
  | .highz => true
  | .ijtagAccess _ => true
  | .bypass _ => true
  | .tapReset => true
  | .jtagWriteRequestWord _ _ => true
  | .jtagSelectResponseWord _ => true
  | .jtagDoorbell _ => true
  | .jtagRelease => true
  | .jtagSelectRsplen => true
  | .stagedQuery w _ => whoOk w
  | .discard w _ => whoOk w
  | .commitRequest w _ => whoOk w
  | .commitCheckDone => true
  | .mirrorTimeout => true
  | .commitFixTick => true
  | .commitApply => true
  | .commitCancel w _ => whoOk w
  | .causeClear w _ _ _ => whoOk w
  | .clearAll w _ => whoOk w
  | .pinTest w _ => whoOk w
  | .retrainRequest w _ _ => whoOk w
  | .portPllLocked _ _ => true
  | .sidebandInitialisationDone _ _ => true
  | .mainbandTrainingDone _ _ => true
  | .ocapReadDone _ _ => true
  | .osetWriteDone _ => true
  | .crinit _ credits => countsOk credits
  | .ostatReady _ _ => true
  | .trainingAttemptTimeout _ => true
  | .sidebandAccessTimeout _ => true
  | .trainingRetry _ => true
  | .creditEpochBoundary dies => diesOk dies
  | .flitReceive _ _ => true
  | .replayTimeout _ => true
  | .echo _ _ _ totals => countsOk totals
  | .quiesce _ => true
  | .qdone _ => true
  | .quiesceTimeout _ => true
  | .lowPowerRequest _ => true
  | .laneFailure _ => true
  | .neighbourRetrain _ => true
  | .rdU32 _ m => cohOk m
  | .rdU64 _ m => cohOk m
  | .rdUline _ m => cohOk m
  | .wrU32 _ m => cohOk m
  | .wrU64 _ m => cohOk m
  | .wrUline _ m => cohOk m
  | .rdS _ m => cohOk m
  | .rdOwn _ m => cohOk m
  | .upgrade _ m => cohOk m
  | .snpInv _ m => cohOk m
  | .snpShr _ m => cohOk m
  | .rspI _ m => cohOk m
  | .rspS _ m => cohOk m
  | .rspGoneC _ m => cohOk m
  | .rspGoneD _ m => cohOk m
  | .wrAck _ m => cohOk m
  | .gntE _ m => cohOk m
  | .wbAck _ m => cohOk m
  | .errAddr _ m => cohOk m
  | .errType _ m => cohOk m
  | .errGone _ m => cohOk m
  | .dataUc _ m => cohOk m
  | .dataS _ m => cohOk m
  | .dataE _ m => cohOk m
  | .dataI _ m => cohOk m
  | .sdataI _ m => cohOk m
  | .sdataS _ m => cohOk m
  | .evictC _ m => cohOk m
  | .wbD _ m => cohOk m
  | .waitingRequestDecided _ => true
  | .snoopAnswerTimeout _ _ => true
  | .crossedWritebackTimeout _ _ => true
  | .deviceRequestTimeout _ => true
  | .filterQuery w _ => whoOk w
  | .captureWrite => true
  | .tPingDue _ => true
  | .tPong _ _ => true
  | .exchangeTimeout _ => true
  | .obsSample _ m => decide (m.data.length ≤ 64)
  | .obsChange _ m => decide (m.data.length ≤ 64)
  | .obsThru _ m => decide (m.data.length ≤ 64)
  | .obsLost _ m => decide (m.data.length ≤ 64)
  | .ppsInEdge _ _ => true
  | .ppsMiss => true
  | .ppsHoldover => true
  | .slewTermExpiry => true
  | .atPpsLapse => true
  | .ppsOutRise => true
  | .ppsOutFall => true
  | .tctlWrite _ _ => true
  | .tctlWriteRetry _ _ => true
  | .servoFrame _ => true
  | .missedDeadline _ => true
  | .followingErrorExpiry _ => true
  | .lockLimitExpiry => true
  | .resume w _ => whoOk w
  | .sweepStart w _ => whoOk w
  | .sliceRelease _ => true
  | .tapJoin _ => true
  | .dispatchQueueReset _ => true
  | .tapEventQueueReset => true
  | .marginReset w _ => whoOk w
  | .eyeWindowEnd _ _ _ _ => true
  | .settlingEnd _ => true
  | .decoderInputChange _ _ _ _ _ => true
  | .standstillExpiry _ => true
  | .positionLoad w _ _ => whoOk w
  | .xtrigOutPulseEnd _ => true
  | .armRequest w _ => whoOk w
  | .armTick => true
  | .disarmRequest w _ => whoOk w
  | .disarmTick => true
  | .triggerTimerExpiry _ => true
  | .idleClose _ => true
  | .windowFreeze _ => true
  | .spillFrameStart _ => true
  | .spillFrameEncoded _ _ => true
  | .consumerLineReread _ => true
  | .streamResume w _ _ => whoOk w
  | .retentionWake _ => true
  | .bankDrainDone _ => true
  | .bankEntryDone _ => true
  | .bankWakeDone _ => true
  | .bankZeroingDone _ => true
  | .bankSupplyFault _ => true
  | .bankTransitionOvertime _ => true
  | .backgroundStepStart => true
  | .backgroundPhaseDone _ => true
  | .vaultWipe => true
  | .vaultWipeDone => true
  | .jobTailWrite w _ => whoOk w
  | .jobStart _ => true
  | .jobComplete _ _ => true
  | .jobWatchdogExpiry _ => true
  | .jobFlush w _ => whoOk w
  | .demandUpdate => true
  | .ropeFrameSend => true
  | .ropeFrameReceive _ => true
  | .ropeLossOfSignal _ => true
  | .ropeLossTimeout => true
  | .setBegin o => decide (o.length ≤ 65535)
  | .setRec o => decide (o.length ≤ 65535)
  | .setEnd o => decide (o.length ≤ 65535)
  | .setAck o => decide (o.length ≤ 65535)
  | .boundary o => decide (o.length ≤ 65535)
  | .timeSync o => decide (o.length ≤ 65535)
  | .adj o => decide (o.length ≤ 65535)
  | .delayedAdjApply => true
  | .step o => decide (o.length ≤ 65535)
  | .confirm o => decide (o.length ≤ 65535)
  | .srcstat o => decide (o.length ≤ 65535)
  | .arm o => decide (o.length ≤ 65535)
  | .disarm o => decide (o.length ≤ 65535)
  | .trigSnap o => decide (o.length ≤ 65535)
  | .ckpt o => decide (o.length ≤ 65535)
  | .train o => decide (o.length ≤ 65535)
  | .portstat o => decide (o.length ≤ 65535)
  | .handover o => decide (o.length ≤ 65535)
  | .progress o => decide (o.length ≤ 65535)
  | .campResendTimeout => true
  | .heartbeatExpiry => true
  | .refLoss => true
  | .handoverRequest w _ => whoOk w
  | .handoverYield => true
  | .transitionRequest w _ => whoOk w
  | .fuseBurnDone _ => true
  | .sessionRequest w _ => whoOk w
  | .sessionClose w _ => whoOk w
  | .sessionResponse w o => whoOk w && decide (o.length ≤ 65535)
  | .challengeExpiry path => pathOk path
  | .sessionIdleExpiry path => pathOk path
  | .backoffExpiry path => pathOk path
  | .integratorKeyWrite w o => whoOk w && decide (o.length ≤ 65535)
  | .fuseProgrammingDone _ => true
  | .operatorKeyWrite w o => whoOk w && decide (o.length ≤ 65535)
  | .sealedRecordWrite w _ o => whoOk w && decide (o.length ≤ 65535)
  | .tamperEvent _ _ => true
  | .tamperRelease _ _ => true
  | .entropyHealthFailure => true
  | .entropyHealthPass => true

end Sys2Proof
end

