-- ==== Sys2Proof/Laws/PerInstr.lean ====
section
/-! SUPPORT. Sys2Proof/Laws/PerInstr.lean: one statement about every command as syntax: a requester that a well-formed command names
is one that its access path can carry. -/
set_option Elab.async false
namespace Sys2Proof.Laws

/-- The requester that a command names. -/
def requesterOf (i : Instr) : Option Who :=
  match i with
  | .rootSelect w _ _ => some w
  | .forcedSwitch w _ => some w
  | .meterStart w _ => some w
  | .clkmonChange w _ _ => some w
  | .warmResetRequest w _ => some w
  | .saveRequest w _ => some w
  | .lockRequest w _ => some w
  | .descriptorQuery w _ => some w
  | .diagnosticClear w _ => some w
  | .dictWrite w _ _ _ _ => some w
  | .stagedQuery w _ => some w
  | .discard w _ => some w
  | .commitRequest w _ => some w
  | .commitCancel w _ => some w
  | .causeClear w _ _ _ => some w
  | .clearAll w _ => some w
  | .pinTest w _ => some w
  | .retrainRequest w _ _ => some w
  | .filterQuery w _ => some w
  | .resume w _ => some w
  | .sweepStart w _ => some w
  | .marginReset w _ => some w
  | .positionLoad w _ _ => some w
  | .armRequest w _ => some w
  | .disarmRequest w _ => some w
  | .streamResume w _ _ => some w
  | .jobTailWrite w _ => some w
  | .jobFlush w _ => some w
  | .handoverRequest w _ => some w
  | .transitionRequest w _ => some w
  | .sessionRequest w _ => some w
  | .sessionClose w _ => some w
  | .sessionResponse w _ => some w
  | .integratorKeyWrite w _ => some w
  | .operatorKeyWrite w _ => some w
  | .sealedRecordWrite w _ _ => some w
  | _ => none

/-- A requester that a well-formed command names can come over its path (Table 20.4). -/
def Requester.Statement (i : Instr) : Prop := wellFormed i = true → ∀ w, requesterOf i = some w → whoOk w = true

namespace Requester

theorem supplyMonitorTrip (rail : Rail) (ns : Nat) : Statement (.supplyMonitorTrip rail ns) := fun _ _ e => nomatch e
theorem porRelease (temp : Int) (orderOk : Bool) : Statement (.porRelease temp orderOk) := fun _ _ e => nomatch e
theorem pinReset (lowNs : Nat) : Statement (.pinReset lowNs) := fun _ _ e => nomatch e
theorem pinResetRelease : Statement (.pinResetRelease) := fun _ _ e => nomatch e
theorem thermThreshold (temp : Int) : Statement (.thermThreshold temp) := fun _ _ e => nomatch e
theorem thermalTrip : Statement (.thermalTrip) := fun _ _ e => nomatch e
theorem thermalTripRecovery (temp : Int) : Statement (.thermalTripRecovery temp) := fun _ _ e => nomatch e
theorem strapChange (roleSel : Bool) (pairPres : Bool) : Statement (.strapChange roleSel pairPres) := fun _ _ e => nomatch e
theorem vddioLoss : Statement (.vddioLoss) := fun _ _ e => nomatch e
theorem xtrigInEdge (pin : Fin 4) (level : Bool) (violates : Bool) : Statement (.xtrigInEdge pin level violates) := fun _ _ e => nomatch e
theorem temperatureBelow115 : Statement (.temperatureBelow115) := fun _ _ e => nomatch e
theorem xoQualWindowEnd (count : Nat) : Statement (.xoQualWindowEnd count) := fun _ _ e => nomatch e
theorem xoQualTimeout : Statement (.xoQualTimeout) := fun _ _ e => nomatch e
theorem pllLock (pll : Pll) : Statement (.pllLock pll) := fun _ _ e => nomatch e
theorem bootPllLockTimeout : Statement (.bootPllLockTimeout) := fun _ _ e => nomatch e
theorem rootSelect (w : Who) (sub : BitVec 8) (src : BitVec 8) : Statement (.rootSelect w sub src) := fun h _ e => by cases e; exact h
theorem normalSwitchComplete (d : Domain) : Statement (.normalSwitchComplete d) := fun _ _ e => nomatch e
theorem stallDeclared (d : Domain) : Statement (.stallDeclared d) := fun _ _ e => nomatch e
theorem rootEdgeAfterStall (d : Domain) : Statement (.rootEdgeAfterStall d) := fun _ _ e => nomatch e
theorem aonClockFault (stopped : Bool) : Statement (.aonClockFault stopped) := fun _ _ e => nomatch e
theorem forcedSwitch (w : Who) (v : BitVec 16) : Statement (.forcedSwitch w v) := fun h _ e => by cases e; exact h
theorem forcedSwitchComplete (d : Domain) : Statement (.forcedSwitchComplete d) := fun _ _ e => nomatch e
theorem forcedSwitchLockTimeout (d : Domain) : Statement (.forcedSwitchLockTimeout d) := fun _ _ e => nomatch e
theorem pllLossOfLock (pll : Pll) : Statement (.pllLossOfLock pll) := fun _ _ e => nomatch e
theorem pllRelock (pll : Pll) : Statement (.pllRelock pll) := fun _ _ e => nomatch e
theorem dvfsEvaluation : Statement (.dvfsEvaluation) := fun _ _ e => nomatch e
theorem dvfsTransitionPhaseDone : Statement (.dvfsTransitionPhaseDone) := fun _ _ e => nomatch e
theorem meterStart (w : Who) (v : BitVec 8) : Statement (.meterStart w v) := fun h _ e => by cases e; exact h
theorem meterWindowEnd (count : Nat) : Statement (.meterWindowEnd count) := fun _ _ e => nomatch e
theorem clkmonChange (w : Who) (sub : BitVec 8) (v : BitVec 16) : Statement (.clkmonChange w sub v) := fun h _ e => by cases e; exact h
theorem aonStart : Statement (.aonStart) := fun _ _ e => nomatch e
theorem fuseLoad (checkOk : Bool) (k3Ok : Bool) : Statement (.fuseLoad checkOk k3Ok) := fun _ _ e => nomatch e
theorem bankBist (findings : List BistFinding) : Statement (.bankBist findings) := fun _ _ e => nomatch e
theorem vaultInitialisation (uncorrectable : Bool) : Statement (.vaultInitialisation uncorrectable) := fun _ _ e => nomatch e
theorem imageSelection (flash : FlashInfo) : Statement (.imageSelection flash) := fun _ _ e => nomatch e
theorem flashBusyTimeout : Statement (.flashBusyTimeout) := fun _ _ e => nomatch e
theorem hello (h : HelloMsg) : Statement (.hello h) := fun _ _ e => nomatch e
theorem roleWaitExpiry (refEdges : Bool) (allLos : Bool) : Statement (.roleWaitExpiry refEdges allLos) := fun _ _ e => nomatch e
theorem refclkLeadTimeExpiry : Statement (.refclkLeadTimeExpiry) := fun _ _ e => nomatch e
theorem prstNOutRelease (line : Fin 8) : Statement (.prstNOutRelease line) := fun _ _ e => nomatch e
theorem linkStartDelayExpiry : Statement (.linkStartDelayExpiry) := fun _ _ e => nomatch e
theorem timeBaseStart : Statement (.timeBaseStart) := fun _ _ e => nomatch e
theorem warmResetRequest (w : Who) (v : BitVec 32) : Statement (.warmResetRequest w v) := fun h _ e => by cases e; exact h
theorem warmReset : Statement (.warmReset) := fun _ _ e => nomatch e
theorem saveRequest (w : Who) (v : BitVec 8) : Statement (.saveRequest w v) := fun h _ e => by cases e; exact h
theorem saveFlashCommandDone (ok : Bool) : Statement (.saveFlashCommandDone ok) := fun _ _ e => nomatch e
theorem lockRequest (w : Who) (v : BitVec 32) : Statement (.lockRequest w v) := fun h _ e => by cases e; exact h
theorem descriptorQuery (w : Who) (v : BitVec 32) : Statement (.descriptorQuery w v) := fun h _ e => by cases e; exact h
theorem diagnosticClear (w : Who) (v : BitVec 32) : Statement (.diagnosticClear w v) := fun h _ e => by cases e; exact h
theorem storeScrub (findings : List ScrubFinding) : Statement (.storeScrub findings) := fun _ _ e => nomatch e
theorem dictWrite (w : Who) (idx : BitVec 16) (sub : BitVec 8) (o : Octets) (ty : Option (BitVec 8)) : Statement (.dictWrite w idx sub o ty) := fun h _ e => by cases e; exact (Bool.and_eq_true_iff.mp h).1
theorem read (f : Frame) : Statement (.read f) := fun _ _ e => nomatch e
theorem write (f : Frame) : Statement (.write f) := fun _ _ e => nomatch e
theorem segWriteStart (f : Frame) : Statement (.segWriteStart f) := fun _ _ e => nomatch e
theorem seg (f : Frame) : Statement (.seg f) := fun _ _ e => nomatch e
theorem segReq (f : Frame) : Statement (.segReq f) := fun _ _ e => nomatch e
theorem abort (f : Frame) : Statement (.abort f) := fun _ _ e => nomatch e
theorem transferTimeout (path : Path) : Statement (.transferTimeout path) := fun _ _ e => nomatch e
theorem alertFrameSend (path : Path) : Statement (.alertFrameSend path) := fun _ _ e => nomatch e
theorem alertRepeatExpiry (path : Path) : Statement (.alertRepeatExpiry path) := fun _ _ e => nomatch e
theorem acceptanceQueueReset : Statement (.acceptanceQueueReset) := fun _ _ e => nomatch e
theorem canBusOff : Statement (.canBusOff) := fun _ _ e => nomatch e
theorem canBusOffRecovery : Statement (.canBusOffRecovery) := fun _ _ e => nomatch e
theorem canBusIdle : Statement (.canBusIdle) := fun _ _ e => nomatch e
theorem canErrorPassive (tec : Nat) (rec : Nat) : Statement (.canErrorPassive tec rec) := fun _ _ e => nomatch e
theorem networkDown (linkDown : Bool) : Statement (.networkDown linkDown) := fun _ _ e => nomatch e
theorem networkUp : Statement (.networkUp) := fun _ _ e => nomatch e
theorem arpRequest (target : BitVec 32) (sender : BitVec 32) (senderMac : BitVec 48) : Statement (.arpRequest target sender senderMac) := fun _ _ e => nomatch e
theorem arpReply (ip : BitVec 32) (mac : BitVec 48) : Statement (.arpReply ip mac) := fun _ _ e => nomatch e
theorem icmpEchoRequest (src : BitVec 32) (dst : BitVec 32) (m : EchoMsg) : Statement (.icmpEchoRequest src dst m) := fun _ _ e => nomatch e
theorem mailboxClaim (p : Fin 6) (sid : BitVec 8) (v : BitVec 32) : Statement (.mailboxClaim p sid v) := fun _ _ e => nomatch e
theorem mailboxRelease (p : Fin 6) (sid : BitVec 8) (v : BitVec 32) : Statement (.mailboxRelease p sid v) := fun _ _ e => nomatch e
theorem mailboxDoorbell (p : Fin 6) (sid : BitVec 8) (v : BitVec 32) : Statement (.mailboxDoorbell p sid v) := fun _ _ e => nomatch e
theorem mailboxReqlenWrite (p : Fin 6) (sid : BitVec 8) (v : BitVec 32) : Statement (.mailboxReqlenWrite p sid v) := fun _ _ e => nomatch e
theorem mailboxRequestWrite (p : Fin 6) (sid : BitVec 8) (off : BitVec 16) (o : Octets) : Statement (.mailboxRequestWrite p sid off o) := fun _ _ e => nomatch e
theorem mailboxClaimExpiry : Statement (.mailboxClaimExpiry) := fun _ _ e => nomatch e
theorem mailboxInvalidAccess (p : Fin 6) (write : Bool) : Statement (.mailboxInvalidAccess p write) := fun _ _ e => nomatch e
theorem timeViewRead (p : Fin 6) (off : BitVec 16) (wide : Bool) : Statement (.timeViewRead p off wide) := fun _ _ e => nomatch e
theorem tickViewRead (p : Fin 6) (off : BitVec 16) (wide : Bool) : Statement (.tickViewRead p off wide) := fun _ _ e => nomatch e
theorem extest (scan : Octets) : Statement (.extest scan) := fun _ _ e => nomatch e
theorem idcode : Statement (.idcode) := fun _ _ e => nomatch e
theorem samplePreload (scan : Octets) : Statement (.samplePreload scan) := fun _ _ e => nomatch e
theorem clamp : Statement (.clamp) := fun _ _ e => nomatch e
theorem highz : Statement (.highz) := fun _ _ e => nomatch e
theorem ijtagAccess (sib : Bool) : Statement (.ijtagAccess sib) := fun _ _ e => nomatch e
theorem bypass (code : BitVec 8) : Statement (.bypass code) := fun _ _ e => nomatch e
theorem tapReset : Statement (.tapReset) := fun _ _ e => nomatch e
theorem jtagWriteRequestWord (addr : BitVec 6) (data : BitVec 32) : Statement (.jtagWriteRequestWord addr data) := fun _ _ e => nomatch e
theorem jtagSelectResponseWord (addr : BitVec 6) : Statement (.jtagSelectResponseWord addr) := fun _ _ e => nomatch e
theorem jtagDoorbell (reqlen : BitVec 9) : Statement (.jtagDoorbell reqlen) := fun _ _ e => nomatch e
theorem jtagRelease : Statement (.jtagRelease) := fun _ _ e => nomatch e
theorem jtagSelectRsplen : Statement (.jtagSelectRsplen) := fun _ _ e => nomatch e
theorem stagedQuery (w : Who) (v : BitVec 32) : Statement (.stagedQuery w v) := fun h _ e => by cases e; exact h
theorem discard (w : Who) (v : BitVec 32) : Statement (.discard w v) := fun h _ e => by cases e; exact h
theorem commitRequest (w : Who) (v : BitVec 32) : Statement (.commitRequest w v) := fun h _ e => by cases e; exact h
theorem commitCheckDone : Statement (.commitCheckDone) := fun _ _ e => nomatch e
theorem mirrorTimeout : Statement (.mirrorTimeout) := fun _ _ e => nomatch e
theorem commitFixTick : Statement (.commitFixTick) := fun _ _ e => nomatch e
theorem commitApply : Statement (.commitApply) := fun _ _ e => nomatch e
theorem commitCancel (w : Who) (v : BitVec 32) : Statement (.commitCancel w v) := fun h _ e => by cases e; exact h
theorem causeClear (w : Who) (idx : BitVec 16) (sub : BitVec 8) (v : BitVec 32) : Statement (.causeClear w idx sub v) := fun h _ e => by cases e; exact h
theorem clearAll (w : Who) (v : BitVec 32) : Statement (.clearAll w v) := fun h _ e => by cases e; exact h
theorem pinTest (w : Who) (v : BitVec 8) : Statement (.pinTest w v) := fun h _ e => by cases e; exact h
theorem retrainRequest (w : Who) (p : Fin 6) (v : BitVec 32) : Statement (.retrainRequest w p v) := fun h _ e => by cases e; exact h
theorem portPllLocked (p : Fin 6) (ok : Bool) : Statement (.portPllLocked p ok) := fun _ _ e => nomatch e
theorem sidebandInitialisationDone (p : Fin 6) (ok : Bool) : Statement (.sidebandInitialisationDone p ok) := fun _ _ e => nomatch e
theorem mainbandTrainingDone (p : Fin 6) (r : MainbandResult) : Statement (.mainbandTrainingDone p r) := fun _ _ e => nomatch e
theorem ocapReadDone (p : Fin 6) (ocap : BitVec 32) : Statement (.ocapReadDone p ocap) := fun _ _ e => nomatch e
theorem osetWriteDone (p : Fin 6) : Statement (.osetWriteDone p) := fun _ _ e => nomatch e
theorem crinit (p : Fin 6) (credits : List Nat) : Statement (.crinit p credits) := fun _ _ e => nomatch e
theorem ostatReady (p : Fin 6) (ostat : BitVec 32) : Statement (.ostatReady p ostat) := fun _ _ e => nomatch e
theorem trainingAttemptTimeout (p : Fin 6) : Statement (.trainingAttemptTimeout p) := fun _ _ e => nomatch e
theorem sidebandAccessTimeout (p : Fin 6) : Statement (.sidebandAccessTimeout p) := fun _ _ e => nomatch e
theorem trainingRetry (p : Fin 6) : Statement (.trainingRetry p) := fun _ _ e => nomatch e
theorem creditEpochBoundary (dies : List DieInfo) : Statement (.creditEpochBoundary dies) := fun _ _ e => nomatch e
theorem flitReceive (p : Fin 6) (o : Octets) : Statement (.flitReceive p o) := fun _ _ e => nomatch e
theorem replayTimeout (p : Fin 6) : Statement (.replayTimeout p) := fun _ _ e => nomatch e
theorem echo (p : Fin 6) (epoch : Nat) (mismatch : Bool) (totals : List Nat) : Statement (.echo p epoch mismatch totals) := fun _ _ e => nomatch e
theorem quiesce (p : Fin 6) : Statement (.quiesce p) := fun _ _ e => nomatch e
theorem qdone (p : Fin 6) : Statement (.qdone p) := fun _ _ e => nomatch e
theorem quiesceTimeout (p : Fin 6) : Statement (.quiesceTimeout p) := fun _ _ e => nomatch e
theorem lowPowerRequest (p : Fin 6) : Statement (.lowPowerRequest p) := fun _ _ e => nomatch e
theorem laneFailure (p : Fin 6) : Statement (.laneFailure p) := fun _ _ e => nomatch e
theorem neighbourRetrain (p : Fin 6) : Statement (.neighbourRetrain p) := fun _ _ e => nomatch e
theorem rdU32 (p : Fin 6) (m : CohMsg) : Statement (.rdU32 p m) := fun _ _ e => nomatch e
theorem rdU64 (p : Fin 6) (m : CohMsg) : Statement (.rdU64 p m) := fun _ _ e => nomatch e
theorem rdUline (p : Fin 6) (m : CohMsg) : Statement (.rdUline p m) := fun _ _ e => nomatch e
theorem wrU32 (p : Fin 6) (m : CohMsg) : Statement (.wrU32 p m) := fun _ _ e => nomatch e
theorem wrU64 (p : Fin 6) (m : CohMsg) : Statement (.wrU64 p m) := fun _ _ e => nomatch e
theorem wrUline (p : Fin 6) (m : CohMsg) : Statement (.wrUline p m) := fun _ _ e => nomatch e
theorem rdS (p : Fin 6) (m : CohMsg) : Statement (.rdS p m) := fun _ _ e => nomatch e
theorem rdOwn (p : Fin 6) (m : CohMsg) : Statement (.rdOwn p m) := fun _ _ e => nomatch e
theorem upgrade (p : Fin 6) (m : CohMsg) : Statement (.upgrade p m) := fun _ _ e => nomatch e
theorem snpInv (p : Fin 6) (m : CohMsg) : Statement (.snpInv p m) := fun _ _ e => nomatch e
theorem snpShr (p : Fin 6) (m : CohMsg) : Statement (.snpShr p m) := fun _ _ e => nomatch e
theorem rspI (p : Fin 6) (m : CohMsg) : Statement (.rspI p m) := fun _ _ e => nomatch e
theorem rspS (p : Fin 6) (m : CohMsg) : Statement (.rspS p m) := fun _ _ e => nomatch e
theorem rspGoneC (p : Fin 6) (m : CohMsg) : Statement (.rspGoneC p m) := fun _ _ e => nomatch e
theorem rspGoneD (p : Fin 6) (m : CohMsg) : Statement (.rspGoneD p m) := fun _ _ e => nomatch e
theorem wrAck (p : Fin 6) (m : CohMsg) : Statement (.wrAck p m) := fun _ _ e => nomatch e
theorem gntE (p : Fin 6) (m : CohMsg) : Statement (.gntE p m) := fun _ _ e => nomatch e
theorem wbAck (p : Fin 6) (m : CohMsg) : Statement (.wbAck p m) := fun _ _ e => nomatch e
theorem errAddr (p : Fin 6) (m : CohMsg) : Statement (.errAddr p m) := fun _ _ e => nomatch e
theorem errType (p : Fin 6) (m : CohMsg) : Statement (.errType p m) := fun _ _ e => nomatch e
theorem errGone (p : Fin 6) (m : CohMsg) : Statement (.errGone p m) := fun _ _ e => nomatch e
theorem dataUc (p : Fin 6) (m : CohMsg) : Statement (.dataUc p m) := fun _ _ e => nomatch e
theorem dataS (p : Fin 6) (m : CohMsg) : Statement (.dataS p m) := fun _ _ e => nomatch e
theorem dataE (p : Fin 6) (m : CohMsg) : Statement (.dataE p m) := fun _ _ e => nomatch e
theorem dataI (p : Fin 6) (m : CohMsg) : Statement (.dataI p m) := fun _ _ e => nomatch e
theorem sdataI (p : Fin 6) (m : CohMsg) : Statement (.sdataI p m) := fun _ _ e => nomatch e
theorem sdataS (p : Fin 6) (m : CohMsg) : Statement (.sdataS p m) := fun _ _ e => nomatch e
theorem evictC (p : Fin 6) (m : CohMsg) : Statement (.evictC p m) := fun _ _ e => nomatch e
theorem wbD (p : Fin 6) (m : CohMsg) : Statement (.wbD p m) := fun _ _ e => nomatch e
theorem waitingRequestDecided (line : BitVec 64) : Statement (.waitingRequestDecided line) := fun _ _ e => nomatch e
theorem snoopAnswerTimeout (line : BitVec 64) (sid : BitVec 8) : Statement (.snoopAnswerTimeout line sid) := fun _ _ e => nomatch e
theorem crossedWritebackTimeout (line : BitVec 64) (sid : BitVec 8) : Statement (.crossedWritebackTimeout line sid) := fun _ _ e => nomatch e
theorem deviceRequestTimeout (tag : BitVec 16) : Statement (.deviceRequestTimeout tag) := fun _ _ e => nomatch e
theorem filterQuery (w : Who) (v : BitVec 64) : Statement (.filterQuery w v) := fun h _ e => by cases e; exact h
theorem captureWrite : Statement (.captureWrite) := fun _ _ e => nomatch e
theorem tPingDue (source : Fin 16) : Statement (.tPingDue source) := fun _ _ e => nomatch e
theorem tPong (p : Fin 6) (m : PongMsg) : Statement (.tPong p m) := fun _ _ e => nomatch e
theorem exchangeTimeout (source : Fin 16) : Statement (.exchangeTimeout source) := fun _ _ e => nomatch e
theorem obsSample (p : Fin 6) (m : ObsMsg) : Statement (.obsSample p m) := fun _ _ e => nomatch e
theorem obsChange (p : Fin 6) (m : ObsMsg) : Statement (.obsChange p m) := fun _ _ e => nomatch e
theorem obsThru (p : Fin 6) (m : ObsMsg) : Statement (.obsThru p m) := fun _ _ e => nomatch e
theorem obsLost (p : Fin 6) (m : ObsMsg) : Statement (.obsLost p m) := fun _ _ e => nomatch e
theorem ppsInEdge (rising : Bool) (violates : Bool) : Statement (.ppsInEdge rising violates) := fun _ _ e => nomatch e
theorem ppsMiss : Statement (.ppsMiss) := fun _ _ e => nomatch e
theorem ppsHoldover : Statement (.ppsHoldover) := fun _ _ e => nomatch e
theorem slewTermExpiry : Statement (.slewTermExpiry) := fun _ _ e => nomatch e
theorem atPpsLapse : Statement (.atPpsLapse) := fun _ _ e => nomatch e
theorem ppsOutRise : Statement (.ppsOutRise) := fun _ _ e => nomatch e
theorem ppsOutFall : Statement (.ppsOutFall) := fun _ _ e => nomatch e
theorem tctlWrite (tap : Fin 64) (ok : Bool) : Statement (.tctlWrite tap ok) := fun _ _ e => nomatch e
theorem tctlWriteRetry (tap : Fin 64) (ok : Bool) : Statement (.tctlWriteRetry tap ok) := fun _ _ e => nomatch e
theorem servoFrame (x : ServoInputs) : Statement (.servoFrame x) := fun _ _ e => nomatch e
theorem missedDeadline (loop : Fin 32) : Statement (.missedDeadline loop) := fun _ _ e => nomatch e
theorem followingErrorExpiry (loop : Fin 32) : Statement (.followingErrorExpiry loop) := fun _ _ e => nomatch e
theorem lockLimitExpiry : Statement (.lockLimitExpiry) := fun _ _ e => nomatch e
theorem resume (w : Who) (v : BitVec 32) : Statement (.resume w v) := fun h _ e => by cases e; exact h
theorem sweepStart (w : Who) (v : BitVec 8) : Statement (.sweepStart w v) := fun h _ e => by cases e; exact h
theorem sliceRelease (gp : GpSample) : Statement (.sliceRelease gp) := fun _ _ e => nomatch e
theorem tapJoin (tap : Fin 64) : Statement (.tapJoin tap) := fun _ _ e => nomatch e
theorem dispatchQueueReset (p : Fin 6) : Statement (.dispatchQueueReset p) := fun _ _ e => nomatch e
theorem tapEventQueueReset : Statement (.tapEventQueueReset) := fun _ _ e => nomatch e
theorem marginReset (w : Who) (v : BitVec 8) : Statement (.marginReset w v) := fun h _ e => by cases e; exact h
theorem eyeWindowEnd (g : Fin 8) (edges : Nat) (early : Nat) (late : Nat) : Statement (.eyeWindowEnd g edges early late) := fun _ _ e => nomatch e
theorem settlingEnd (g : Fin 8) : Statement (.settlingEnd g) := fun _ _ e => nomatch e
theorem decoderInputChange (j : Fin 4) (a : Bool) (b : Bool) (z : Bool) (tick : Nat) : Statement (.decoderInputChange j a b z tick) := fun _ _ e => nomatch e
theorem standstillExpiry (j : Fin 4) : Statement (.standstillExpiry j) := fun _ _ e => nomatch e
theorem positionLoad (w : Who) (j : Fin 4) (v : BitVec 32) : Statement (.positionLoad w j v) := fun h _ e => by cases e; exact h
theorem xtrigOutPulseEnd (pin : Fin 4) : Statement (.xtrigOutPulseEnd pin) := fun _ _ e => nomatch e
theorem armRequest (w : Who) (v : BitVec 32) : Statement (.armRequest w v) := fun h _ e => by cases e; exact h
theorem armTick : Statement (.armTick) := fun _ _ e => nomatch e
theorem disarmRequest (w : Who) (v : BitVec 32) : Statement (.disarmRequest w v) := fun h _ e => by cases e; exact h
theorem disarmTick : Statement (.disarmTick) := fun _ _ e => nomatch e
theorem triggerTimerExpiry (j : Fin 8) : Statement (.triggerTimerExpiry j) := fun _ _ e => nomatch e
theorem idleClose (win : Fin 16) : Statement (.idleClose win) := fun _ _ e => nomatch e
theorem windowFreeze (win : Fin 16) : Statement (.windowFreeze win) := fun _ _ e => nomatch e
theorem spillFrameStart (st : Fin 4) : Statement (.spillFrameStart st) := fun _ _ e => nomatch e
theorem spillFrameEncoded (st : Fin 4) (lane : LaneEvent) : Statement (.spillFrameEncoded st lane) := fun _ _ e => nomatch e
theorem consumerLineReread (st : Fin 4) : Statement (.consumerLineReread st) := fun _ _ e => nomatch e
theorem streamResume (w : Who) (st : Fin 4) (v : BitVec 32) : Statement (.streamResume w st v) := fun h _ e => by cases e; exact h
theorem retentionWake (bank : Fin 48) : Statement (.retentionWake bank) := fun _ _ e => nomatch e
theorem bankDrainDone (bank : Fin 48) : Statement (.bankDrainDone bank) := fun _ _ e => nomatch e
theorem bankEntryDone (bank : Fin 48) : Statement (.bankEntryDone bank) := fun _ _ e => nomatch e
theorem bankWakeDone (bank : Fin 48) : Statement (.bankWakeDone bank) := fun _ _ e => nomatch e
theorem bankZeroingDone (bank : Fin 48) : Statement (.bankZeroingDone bank) := fun _ _ e => nomatch e
theorem bankSupplyFault (bank : Fin 48) : Statement (.bankSupplyFault bank) := fun _ _ e => nomatch e
theorem bankTransitionOvertime (bank : Fin 48) : Statement (.bankTransitionOvertime bank) := fun _ _ e => nomatch e
theorem backgroundStepStart : Statement (.backgroundStepStart) := fun _ _ e => nomatch e
theorem backgroundPhaseDone (r : TestFinding) : Statement (.backgroundPhaseDone r) := fun _ _ e => nomatch e
theorem vaultWipe : Statement (.vaultWipe) := fun _ _ e => nomatch e
theorem vaultWipeDone : Statement (.vaultWipeDone) := fun _ _ e => nomatch e
theorem jobTailWrite (w : Who) (v : BitVec 8) : Statement (.jobTailWrite w v) := fun h _ e => by cases e; exact h
theorem jobStart (cache : LaneEvent) : Statement (.jobStart cache) := fun _ _ e => nomatch e
theorem jobComplete (slot : Fin 16) (r : JobInput) : Statement (.jobComplete slot r) := fun _ _ e => nomatch e
theorem jobWatchdogExpiry (slot : Fin 16) : Statement (.jobWatchdogExpiry slot) := fun _ _ e => nomatch e
theorem jobFlush (w : Who) (v : BitVec 32) : Statement (.jobFlush w v) := fun h _ e => by cases e; exact h
theorem demandUpdate : Statement (.demandUpdate) := fun _ _ e => nomatch e
theorem ropeFrameSend : Statement (.ropeFrameSend) := fun _ _ e => nomatch e
theorem ropeFrameReceive (o : Octets) : Statement (.ropeFrameReceive o) := fun _ _ e => nomatch e
theorem ropeLossOfSignal (lanes : BitVec 4) : Statement (.ropeLossOfSignal lanes) := fun _ _ e => nomatch e
theorem ropeLossTimeout : Statement (.ropeLossTimeout) := fun _ _ e => nomatch e
theorem setBegin (o : Octets) : Statement (.setBegin o) := fun _ _ e => nomatch e
theorem setRec (o : Octets) : Statement (.setRec o) := fun _ _ e => nomatch e
theorem setEnd (o : Octets) : Statement (.setEnd o) := fun _ _ e => nomatch e
theorem setAck (o : Octets) : Statement (.setAck o) := fun _ _ e => nomatch e
theorem boundary (o : Octets) : Statement (.boundary o) := fun _ _ e => nomatch e
theorem timeSync (o : Octets) : Statement (.timeSync o) := fun _ _ e => nomatch e
theorem adj (o : Octets) : Statement (.adj o) := fun _ _ e => nomatch e
theorem delayedAdjApply : Statement (.delayedAdjApply) := fun _ _ e => nomatch e
theorem step (o : Octets) : Statement (.step o) := fun _ _ e => nomatch e
theorem confirm (o : Octets) : Statement (.confirm o) := fun _ _ e => nomatch e
theorem srcstat (o : Octets) : Statement (.srcstat o) := fun _ _ e => nomatch e
theorem arm (o : Octets) : Statement (.arm o) := fun _ _ e => nomatch e
theorem disarm (o : Octets) : Statement (.disarm o) := fun _ _ e => nomatch e
theorem trigSnap (o : Octets) : Statement (.trigSnap o) := fun _ _ e => nomatch e
theorem ckpt (o : Octets) : Statement (.ckpt o) := fun _ _ e => nomatch e
theorem train (o : Octets) : Statement (.train o) := fun _ _ e => nomatch e
theorem portstat (o : Octets) : Statement (.portstat o) := fun _ _ e => nomatch e
theorem handover (o : Octets) : Statement (.handover o) := fun _ _ e => nomatch e
theorem progress (o : Octets) : Statement (.progress o) := fun _ _ e => nomatch e
theorem campResendTimeout : Statement (.campResendTimeout) := fun _ _ e => nomatch e
theorem heartbeatExpiry : Statement (.heartbeatExpiry) := fun _ _ e => nomatch e
theorem refLoss : Statement (.refLoss) := fun _ _ e => nomatch e
theorem handoverRequest (w : Who) (v : BitVec 32) : Statement (.handoverRequest w v) := fun h _ e => by cases e; exact h
theorem handoverYield : Statement (.handoverYield) := fun _ _ e => nomatch e
theorem transitionRequest (w : Who) (v : BitVec 32) : Statement (.transitionRequest w v) := fun h _ e => by cases e; exact h
theorem fuseBurnDone (ok : Bool) : Statement (.fuseBurnDone ok) := fun _ _ e => nomatch e
theorem sessionRequest (w : Who) (v : BitVec 8) : Statement (.sessionRequest w v) := fun h _ e => by cases e; exact h
theorem sessionClose (w : Who) (v : BitVec 8) : Statement (.sessionClose w v) := fun h _ e => by cases e; exact h
theorem sessionResponse (w : Who) (o : Octets) : Statement (.sessionResponse w o) := fun h _ e => by cases e; exact (Bool.and_eq_true_iff.mp h).1
theorem challengeExpiry (path : Path) : Statement (.challengeExpiry path) := fun _ _ e => nomatch e
theorem sessionIdleExpiry (path : Path) : Statement (.sessionIdleExpiry path) := fun _ _ e => nomatch e
theorem backoffExpiry (path : Path) : Statement (.backoffExpiry path) := fun _ _ e => nomatch e
theorem integratorKeyWrite (w : Who) (o : Octets) : Statement (.integratorKeyWrite w o) := fun h _ e => by cases e; exact (Bool.and_eq_true_iff.mp h).1
theorem fuseProgrammingDone (ok : Bool) : Statement (.fuseProgrammingDone ok) := fun _ _ e => nomatch e
theorem operatorKeyWrite (w : Who) (o : Octets) : Statement (.operatorKeyWrite w o) := fun h _ e => by cases e; exact (Bool.and_eq_true_iff.mp h).1
theorem sealedRecordWrite (w : Who) (n : BitVec 8) (o : Octets) : Statement (.sealedRecordWrite w n o) := fun h _ e => by cases e; exact (Bool.and_eq_true_iff.mp h).1
theorem tamperEvent (t0 : Bool) (t1 : Bool) : Statement (.tamperEvent t0 t1) := fun _ _ e => nomatch e
theorem tamperRelease (t0 : Bool) (t1 : Bool) : Statement (.tamperRelease t0 t1) := fun _ _ e => nomatch e
theorem entropyHealthFailure : Statement (.entropyHealthFailure) := fun _ _ e => nomatch e
theorem entropyHealthPass : Statement (.entropyHealthPass) := fun _ _ e => nomatch e

end Requester

end Sys2Proof.Laws
end

