-- ==== Sys2Proof/Laws/Pins.lean ====
section
/-! SUPPORT. Sys2Proof/Laws/Pins.lean: what the levels of the outputs depend on. -/
namespace Sys2Proof.Machine

/-- A device of a pair that does not act as its Lead leaves the shared fan-out alone (R35). -/
theorem State.drivesFanout_second {s : State} (hp : s.power.pairPres = true) (ha : s.acts = false) : s.drivesFanout = false := by
  simp [State.drivesFanout, hp, ha]

/-- The fan-out lines of a device that leaves them alone. -/
theorem State.fanout_z {s : State} (h : s.drivesFanout = false) (n : Nat) : s.refclkPin n = .z ∧ s.prstPin n = .z := by
  simp [State.refclkPin, State.prstPin, h]

/-- The boundary register drives a pin or leaves it high-impedance; it never takes its supply away. -/
theorem State.boundaryLevel_driven (s : State) (o : OutPin) : s.boundaryLevel o ≠ .undriven := by
  simp only [State.boundaryLevel]; split
  · simp
  · split
    · split <;> simp
    · simp

/-- Without a TAP instruction that takes the pins, a powered output has the level of its own function. -/
theorem State.pinLevel_own {s : State} {o : OutPin} (hp : s.powered o = true) (ht : s.tapDrives o = false) :
    s.pinLevel o = s.ownLevel o := by
  simp [State.pinLevel, hp, ht]

end Sys2Proof.Machine
end

