-- ==== Sys2Proof/Tests/States.lean ====
section
/-! SUPPORT. Sys2Proof/Tests/States.lean: small states and messages that the tests and the witnesses of the statements are about. -/
namespace Sys2Proof.Tests
open Sys2Proof.Machine

/-- A root that runs on its PLL. -/
def runs : DomainSt := { src := 0, inReset := false, running := true }

/-- A PLL that is locked. -/
def locked : PllSt := { started := true, locked := true }

/-- A single device after its boot, with MGT on its PLL and a session of level 3 on the JTAG path. -/
def base : State :=
  { State.reset with
    power := { por := false, vddioUp := true, vaonUp := true, rmiiUp := true, lnkUp := true, prbUp := true }
    clk := { State.reset.clk with
      dom := [(1, runs), (2, runs), (9, runs), (10, runs), (11, runs), (12, runs)]
      pll := [(0, locked), (1, locked), (2, locked), (3, locked)], netsOut := false }
    boot := { State.reset.boot with step := 14, afterPor := false }
    acc := { State.reset.acc with path := [(4, { session := some ⟨0, 3, 0⟩ })] }
    time := { State.reset.time with tickRun := true, ptRun := true, tick := 5000, lastRelease := some 4999 }
    sec := { State.reset.sec with entropyOk := true }
    now := 5000 }

/-- The host on JTAG. -/
def jtag : Who := ⟨.jtag, 0⟩

/-- The base state at a boot step, before the time base starts. -/
def atStep (n : Nat) : State := { base with boot := { base.boot with step := n }, time := State.reset.time }

def pinHeld : State := { State.reset with power := { por := false, pinHeld := true } }
def tripHeld : State := { State.reset with power := { por := false, tripHeld := true } }
def xtrigOn : State := { base with obj := [(key 0x3810 1, .num 2)] }
def qualifying : State := { (atStep 2) with clk := { (atStep 2).clk with qualRun := true } }
def qualified3 : State := { qualifying with obj := [(key 0x2205 2, .num 3)] }
def switching : State := base.setDom .fab { runs with switching := some 1 }
def stalled : State := base.setDom .fab { runs with stalled := true }
def forcing : State := base.setDom .fab { runs with forcing := some 0, inReset := true, running := false }
def forcingDead : State := (base.setPll .spll {}).setDom .srv { runs with forcing := some 0, inReset := true, running := false }
def dvfs (n : Nat) (settle : Bool) : State := { base with clk := { base.clk with dvfsState := n, dvfsSettle := settle, dvfsTarget := 2, dvfsHold := false } }
def metering : State := { base with clk := { base.clk with meterRun := true, meterRef := 1, meterN := 100 } }
def step4fails : State := { (atStep 4) with boot := { (atStep 4).boot with fuseFails := 2 } }
def bist0 : State := { (atStep 5) with obj := [(key 0x2011 1, .num 0)] }
def step6por : State := { (atStep 6) with boot := { (atStep 6).boot with afterPor := true } }
def scrapped : State := { step6por with sec := { base.sec with lcs := 4 } }
def saving (n : Nat) (header : Bool) : State :=
  { base with boot := { base.boot with savePhase := n, saveSlot := 1, saveHeader := header, saveBody := [1, 2, 3] } }
def resolving : State := { (atStep 8) with pair := { role := 1 } }
def resolvingLead : State := { resolving with power := { resolving.power with bootRoleSel := true } }
def step9 : State := { (atStep 9) with boot := { (atStep 9).boot with lead := 100 } }
def step10 : State := { (atStep 10) with boot := { (atStep 10).boot with prstPending := 3, delays := [5, 10] } }
def step10done : State := { (atStep 10) with boot := { (atStep 10).boot with linkDelay := 7 }, obj := [(key 0x7000 1, .num 1)] }
def step11 : State := { (atStep 11) with time := { State.reset.time with tickRun := true } }
def warmDue : State := { base with boot := { base.boot with warmDue := true } }
def isLocked : State := { base with locked := true }
def badWord : State := { base with badWords := [key 0x1084 1 * 1024] }

def pinOn : State := { base with locked := false, obj := [(key 0x2122 2, .num 1)] }
def checking : State := { base with commit := { base.commit with state := 1 } }
def stagedBad : State := { checking with commit := { checking.commit with found := [⟨0x0C02, 0x6201, 3, 0, 0⟩] }, staged := [⟨0x6201, 3, .num (2 ^ 55 + 2 ^ 53 + 2 ^ 52), .jtag, 3, false⟩] }
def checkingAt (n : Nat) : State := { checking with commit := { checking.commit with atTime := true, instant := n } }
def checkingLead : State := { checking with pair := { role := 2, absent := false, secondState := 7 } }
def mirroring : State := { base with commit := { base.commit with state := 2, mirrorAt := 1000 }, pair := { role := 2, absent := false, secondState := 7 } }
def scheduled : State := { base with commit := { base.commit with state := 4, atTime := true, instant := 9000 * 2 ^ 32 }, time := { base.time with pt := 5000 * 2 ^ 32 } }
def waiting : State := { base with commit := { base.commit with state := 3, boundary := 5120 }, staged := [⟨0x1104, 1, .num 50, .jtag, 3, false⟩, ⟨0x1105, 2, .num 700, .jtag, 3, false⟩] }
def waitingHeld : State := waiting.setDom .tick { runs with inReset := true }
def staged2 : State := { base with staged := waiting.staged }
def fj (o : Octets) : Frame := { via := .jtag, o := o }
def heardJ (s : State) : State := { s with acc := { s.acc with jtagState := 1 } }
def xferJ : Transfer := ⟨0, true, 0x1084, 1, [], 4, 0, [], false, false, false, .jtag, 100⟩
def withXfer (x : Transfer) : State := { base with acc := { base.acc with path := [(4, { session := some ⟨0, 3, 0⟩, xfer := some x })] } }

def can (n : Nat) (o : List (Nat × Val)) : State := { base with obj := (key 0x1100 1, .num 1) :: o, acc := { base.acc with canState := n } }
def netUp : State := { base with obj := [(key 0x1110 1, .num 1), (key 0x1110 3, .num 0xC0A80105), (key 0x1110 4, .num 0xFFFFFF00)], acc := { base.acc with phyLink := true, arp := [(0xC0A80107, 0x1234)], arpWait := [⟨0xC0A80109, 1, 2, 3, [1], false⟩] } }
/-- Port 0 with its root and its PLL running. -/
def port (x : PortSt) : State :=
  { base with ports := [(0, x)], clk := { base.clk with dom := (3, runs) :: base.clk.dom, pll := (4, locked) :: base.clk.pll } }
def active : PortSt := { st := 6, gen := 2, admitted := true, home := true, caching := true, sidBase := 16, agents := 4, creditOut := [(0, 9), (1, 9), (2, 9), (3, 9), (4, 9), (5, 9), (6, 9), (7, 9)] }
def mailbox : State := { (port active) with obj := [(key 0x1120 1, .num 1), (key 0x1120 2, .num 0x100000)] }
def mailboxOf (o : Option (Nat × Nat × Nat)) : State := { mailbox with acc := { mailbox.acc with owner := o } }

def region : Nat := 2 ^ 40
def banksReady : List (Nat × BankSt) := (List.range 48).map fun k => (k, { st := 0, bist := 1 })
/-- A port in service, a capture region and ready banks. -/
def homeIdle : State := { (port active) with obj := [(key 0x7800 1, .num region), (key 0x7800 2, .num 1)], mem := { State.reset.mem with fused := true, bank := banksReady, cells := [(128, 7), (129, 8)] } }
def req (off : Nat) (o : Octets) : CohMsg := { sid := 17, tag := 5, addr := BitVec.ofNat 52 (region + off), data := o }
def entryAt (off : Nat) (e : FilterEntry) (s : State) : State := { s with coh := { s.coh with filter := [(region + off, e)] } }
def shared : FilterEntry := ⟨0, 1, 0, [18, 19], true, false⟩
def sharedBy17 : FilterEntry := ⟨0, 1, 0, [17], true, false⟩
def owned : FilterEntry := ⟨0, 2, 18, [18], true, false⟩
def lm (opc : Nat) : LinkMsg := devMsg 0 opc 20 5 (region + 128) false []
def snooping (e : FilterEntry) : State :=
  let s := entryAt 128 e homeIdle
  { s with coh := { s.coh with txn := [(region + 128, ⟨0, some (lm 9), [⟨17, true, 1, 4000⟩, ⟨18, true, 2, 4000⟩], [], false⟩)] } }
def sn (tag : Nat) (o : Octets) : CohMsg := { sid := 17, tag := BitVec.ofNat 12 tag, addr := BitVec.ofNat 52 (region + 128), data := o }
def descS (n : Nat) : State := { homeIdle with coh := { homeIdle.coh with desc := [(4096, ⟨n, List.replicate 64 3, 0⟩)] } }
def at4096 (o : Octets) : CohMsg := { sid := 17, tag := 9, addr := 4096, data := o }
def asking : DevReq := ⟨4096, 0, 8, 1, 0, [], 4000⟩
def askingS : State := { homeIdle with coh := { homeIdle.coh with reqs := [(9, asking)] } }
def wbS : State := { homeIdle with coh := { homeIdle.coh with wbs := [(9, asking)] } }
def buffered (f : State → State) : State := f { homeIdle with sto := { homeIdle.sto with buf := [⟨0, 0, 128, List.replicate 64 9⟩] } }
def queued : State := { homeIdle with coh := { homeIdle.coh with waiting := [⟨region + 128, 0, lm 3, none, false, false⟩] } }
def held8 : State := let s := snooping owned; { s with coh := { s.coh with txn := [(region + 128, ⟨0, some (lm 9), [], [(18, 4000)], false⟩)] } }

/-- A source on counter 1 of port 0 with SET and EPOCH 2, and tap entry 3 that observes it. -/
def srcOn (x : SourceSt) : State :=
  { (port active) with
    obj := [(key 0x3201 1, .num (2 ^ 31 + 2 ^ 26 + 10)), (key 0x3200 4, .num (2 ^ 63 + 2 ^ 62))]
    belay := { base.belay with frame := 1 }
    time := { base.time with pt := 5000 * 2 ^ 32, source := [(0, x)], tap := [(3, { st := 3, tctl := true, q := 2, ready := true, ctr := 1, chg := true })] } }
def present : SourceSt := { present := true, set := true, epoch := 2 }
def exch : Exchange := ⟨7, 4800 * 2 ^ 32, 4800, some 2, false⟩
def obsM (ns : Nat) (n : Nat) (o : Octets) : ObsMsg := { sid := 16, tap := 0, stamp := BitVec.ofNat 48 (ns * 65536), epoch := 2, count := BitVec.ofNat 6 n, data := o }
def tapS (x : TapSt) : State := { (srcOn present) with time := { (srcOn present).time with tap := [(3, x)] } }
/-- PPS_IN disciplines, with the present 40 ns after a whole second. -/
def pps (mode : Nat) (x : TimeBase → TimeBase) : State :=
  { base with obj := [(key 0x6003 1, .num mode), (key 0x6003 3, .num 1000)], time := x { base.time with pt := 10 ^ 9 * 2 ^ 32 + 40 * 2 ^ 32 } }

def loops (l : List (Nat × LoopSt)) (f : Belay → Belay) (o : List (Nat × Val)) : State :=
  { base with belay := f { base.belay with startAt := some 1000, loop := l }, obj := o }
def probing (o : List (Nat × Val)) (f : Probe → Probe) : State :=
  { base with probe := f { base.probe with on := true }, obj := (key 0x3800 1, .num 2) :: (key 0x3802 1, .num (2 ^ 15)) :: o }
def dec (x : Decoder) (w : Nat) : State := probing [(key 0x3900 1, .num w)] fun p => { p with decoder := [(0, x)] }
def trigS (x : Trigger) (o : List (Nat × Val)) : State := { base with trig := x, obj := o }
def winS (x : WindowSt) (o : List (Nat × Val)) : State :=
  { base with sto := { base.sto with win := [(0, x)] }, obj := (key 0x5010 1, .num (2 ^ 31)) :: (key 0x5010 2, .num 0) :: (key 0x5010 3, .num 16) :: (key 0x5010 6, .num 1000) :: o, mem := { base.mem with bank := banksReady, fused := true } }
def streamS (x : StreamSt) (b : Nat) : State :=
  let s := winS { st := 2, had := true, wpos := 128, closed := [(1, 4096), (0, 4096)] } [(key 0x5010 1, .num (2 ^ 31 + 2 ^ 26)), (key 0x5100 1, .num (2 ^ 15)), (key 0x5100 5, .num 8192), (key 0x7030 1, .num 8192), (key 0x7031 1, .num 16383), (key 0x7032 1, .num 0), (key 0x7033 1, .num 40), (key 0x5100 4, .num b)]
  { s with sto := { s.sto with stream := [(0, x)] }, ports := [(0, active)] }

def bankS (x : BankSt) (sel : Nat) : State :=
  { base with obj := [(key 0x2300 4, .num sel)], mem := { base.mem with fused := true, cells := [(192, 5), (256, 6)], bank := (3, x) :: banksReady } }
def testing (n : Nat) (f : Memory → Memory) : State :=
  { base with mem := f { base.mem with fused := true, cells := [(64, 5)], bank := banksReady, phase := n, nextStep := 9000 } }
def jobDesc (op : Nat) : Octets := leBytes 1 op ++ [0, if op ≤ 3 then 16 else 0, 0, 0, 0, 0, 0] ++ leBytes 8 4096 ++ leBytes 8 4 ++ leBytes 8 8192 ++ leBytes 8 128 ++ List.replicate 24 0
def jobs (j : Job) : State :=
  { base with comp := { base.comp with head := 5, tail := 6, job := [(5, j)], lane := if j.st = 3 ∧ j.lane < 8 then [(j.lane, 2, 5)] else [] }, obj := [(key 0x5801 2, .num 1)] }
def paired (x : Pair → Pair) (role : Nat) : State := { (port active) with pair := x { base.pair with role := role, aligned := true } }

end Sys2Proof.Tests
end

