-- ==== Sys2Proof/Tests/Slice0.lean ====
section
/-! SUPPORT. Sys2Proof/Tests/Slice0.lean: an ill-formed command for each check of WellFormed.lean, and single steps whose expected
results are the spec's worked examples (named with each test). -/
set_option Elab.async false
namespace Sys2Proof.Tests
open Sys2Proof.Machine

/-! ### Well-formed and ill-formed commands -/

def who (p : Path) (n : Nat) : Who := ⟨p, n⟩
def fr (v : Carrier) (n : Nat) : Frame := { via := v, o := List.replicate n 0 }
def coh (n : Nat) : CohMsg := { sid := 16, tag := 1, addr := 0, data := List.replicate n 0 }
def longO : Octets := List.replicate 65536 0
theorem longO_length : longO.length = 65536 := List.length_replicate

theorem test_wf_accepts : wellFormed (.lockRequest (who .can 255) 0) = true ∧ wellFormed (.read (fr (.can 0 true true true) 64)) = true ∧
    wellFormed (.crinit 0 (List.replicate 8 65535)) = true ∧ wellFormed (.wbD 0 (coh 64)) = true := by decide
theorem test_wf_can_requester : wellFormed (.lockRequest (who .can 256) 0) = false := by decide
theorem test_wf_t1s_requester : wellFormed (.lockRequest (who .t1s (2 ^ 48)) 0) = false := by decide
theorem test_wf_mailbox_requester : wellFormed (.lockRequest (who .mailbox (2 ^ 48)) 0) = false := by decide
theorem test_wf_jtag_requester : wellFormed (.lockRequest (who .jtag 1) 0) = false := by decide
theorem test_wf_image_requester : wellFormed (.lockRequest (who .image 0) 0) = false := by decide
theorem test_wf_path : wellFormed (.transferTimeout .image) = false := by decide
theorem test_wf_can_frame : wellFormed (.read (fr (.can 0 true false false) 9)) = false := by decide
theorem test_wf_can_fd_frame : wellFormed (.read (fr (.can 0 true true false) 65)) = false := by decide
theorem test_wf_can_brs : wellFormed (.read (fr (.can 0 true false true) 4)) = false := by decide
theorem test_wf_udp_frame : wellFormed (.read (fr (.udp 0 0 0 0 true) 1473)) = false := by
  show (decide ((List.replicate 1473 (0 : Byte)).length ≤ 1472) && true) = false
  rw [List.length_replicate]; decide
theorem test_wf_mailbox_frame : wellFormed (.read (fr (.mailbox 0 16) 257)) = false := by
  show (decide ((List.replicate 257 (0 : Byte)).length ≤ 256) && true) = false
  rw [List.length_replicate]; decide
theorem test_wf_jtag_frame : wellFormed (.read (fr .jtag 257)) = false := by
  show (decide ((List.replicate 257 (0 : Byte)).length ≤ 256) && true) = false
  rw [List.length_replicate]; decide
theorem test_wf_write_octets : wellFormed (.dictWrite (who .jtag 0) 0 0 longO none) = false := by
  show (whoOk (who .jtag 0) && decide (longO.length ≤ 65535)) = false
  rw [longO_length]; decide
theorem test_wf_echo_request : wellFormed (.icmpEchoRequest 0 0 { o := List.replicate 1481 0 }) = false := by
  show decide ((List.replicate 1481 (0 : Byte)).length ≤ 1480) = false
  rw [List.length_replicate]; decide
theorem test_wf_mailbox_word : wellFormed (.mailboxRequestWrite 0 16 0 [0, 0, 0]) = false := by decide
theorem test_wf_time_view : wellFormed (.timeViewRead 0 2 false) = false := by decide
theorem test_wf_tick_view : wellFormed (.tickViewRead 0 4 true) = false := by decide
theorem test_wf_extest : wellFormed (.extest (List.replicate 13 0)) = false := by decide
theorem test_wf_preload : wellFormed (.samplePreload (List.replicate 13 0)) = false := by decide
theorem test_wf_counts_number : wellFormed (.crinit 0 [1, 2, 3]) = false := by decide
theorem test_wf_counts_size : wellFormed (.echo 0 0 false (65536 :: List.replicate 7 0)) = false := by decide
theorem test_wf_dies : wellFormed (.creditEpochBoundary [⟨1, none, []⟩, ⟨1, none, []⟩]) = false := by decide
theorem test_wf_line : wellFormed (.wbD 0 (coh 65)) = false := by decide
theorem test_wf_observation : wellFormed (.obsSample 0 (obsM 0 0 (List.replicate 65 0))) = false := by decide
theorem test_wf_pair_message : wellFormed (.setBegin longO) = false := by
  show (decide (longO.length ≤ 65535)) = false
  rw [longO_length]; decide
theorem test_wf_response : wellFormed (.sessionResponse (who .jtag 0) longO) = false := by
  show (whoOk (who .jtag 0) && decide (longO.length ≤ 65535)) = false
  rw [longO_length]; decide
theorem test_wf_integrator_key : wellFormed (.integratorKeyWrite (who .jtag 0) longO) = false := by
  show (whoOk (who .jtag 0) && decide (longO.length ≤ 65535)) = false
  rw [longO_length]; decide
theorem test_wf_operator_key : wellFormed (.operatorKeyWrite (who .jtag 0) longO) = false := by
  show (whoOk (who .jtag 0) && decide (longO.length ≤ 65535)) = false
  rw [longO_length]; decide
theorem test_wf_record : wellFormed (.sealedRecordWrite (who .jtag 0) 1 longO) = false := by
  show (whoOk (who .jtag 0) && decide (longO.length ≤ 65535)) = false
  rw [longO_length]; decide

/-! ### Single steps -/

/-- A command's next state passes this test. -/
def after (c : Instr) (s : State) (f : State → Bool) : Bool := match exec c s with | .next t => f t | _ => false

/-- The state at a tick. -/
def atTick (t : Nat) (s : State) : State :=
  { s with now := t, time := { s.time with tick := t, pt := t * 2 ^ 32, lastRelease := some (t - 1), lastSlice := t - 1 - s.time.horizon } }

/-- The number a read of an object by JTAG returns. -/
def reads (s : State) (idx sub : Nat) : Nat := leNat (s.serveRead 4 0 idx sub).2.1

/-- The rows of spec/opcode_table.json give no bits. -/
theorem test_no_word_spells_a_command : decodeTableWord 8 0 = none ∧ decodeTableWord 64 0xFFFF = none := by decide

/-- Example 3.1, step 3: a window of 6,545 is too high and resets the count. -/
theorem test_qualification_restarts :
    after (.xoQualWindowEnd 6545) { qualifying with obj := [(key 0x2205 2, .num 2)] } (fun t => reads t 0x2205 2 == 0) = true := by decide +kernel

/-- Example 3.1, step 5: the fourth passing window in a row qualifies XO, and 2205h reads 6,400, 4 and QUALIFIED. -/
theorem test_qualification_ends :
    after (.xoQualWindowEnd 6400) qualified3 (fun t => reads t 0x2205 1 == 6400 && reads t 0x2205 2 == 4 && reads t 0x2205 3 == 2) = true := by
  decide +kernel

/-- Example 5.1: a lock request while an object of class K is staged is refused with 0x0303. -/
theorem test_lock_is_refused :
    after (.lockRequest jtag 0x4C4F434B) { base with staged := [⟨0x1084, 2, .oct [0x42, 0x41, 0x59, 0x33], .jtag, 3, false⟩] }
      (fun t => t.out == .answer jtag 0x0303 [] :: base.out && !t.locked) = true := by decide +kernel

/-- Example 7.1, step 2: a removed reference driver under a released reset line breaks rule 0x0401, and 2005h:1 names both. -/
theorem test_commit_check_names_both :
    after .commitCheckDone
      { (base.put 0x2014 0 0xFF) with
        commit := { base.commit with state := 1, found := [⟨0x0401, 0x220A, 0, 0x2014, 0⟩] } }
      (fun t => reads t 0x2004 1 == 6 && reads t 0x2005 1 == 0x0401220A00201400 && reads t 0x2100 0 == 0x10) = true := by decide +kernel

/-- Example 10.1, step 2: a capture write to a shared line starts its recall, which shows as S with RECALL. -/
theorem test_capture_write_recalls :
    after .captureWrite
      { base with ports := [(0, { active with sidBase := 0x20 })], mem := { base.mem with fused := true, bank := banksReady },
                  sto := { base.sto with buf := [⟨2, 0, 0x123440, List.replicate 64 9⟩] }
                  coh := { base.coh with filter := [(0x4000123440, ⟨5, 1, 0, [0x20], true, false⟩)] } }
      (fun t => t.filterResult 0x4000123440 == 0x65000100) = true := by decide +kernel

/-- Example 11.1: one exchange gives theta 0x3333 and delay 0x9088. -/
theorem test_exchange :
    after (.tPong 0 { sid := 0x20, tag := 0x3A7, ctr := 0, epoch := 1, t2 := 0x032200024A154000, t3 := 0x032200024B8C4000 })
      { (port { active with gen := 3, sidBase := 0x20 }) with
        obj := [(key 0x3201 3, .num (2 ^ 31 + 10)), (key 0x3202 3, .num 100), (key 0x3200 1, .num (2 ^ 63))]
        time := { base.time with
          pt := 802 * secUnits + 150449 * 2 ^ 32, tick := 7000449
          source := [(2, { present := true, set := true, epoch := 1, tag := 0x3A7,
                           open_ := some ⟨0x3A7, (802 * secUnits + 150000 * 2 ^ 32), 7000000, some 1, false⟩ })]
          tap := [(0, { st := 3, tctl := true, q := 2, ready := true, ctr := 0 })] } }
      (fun t => reads t 0x3204 3 == 0x3333 && reads t 0x3205 3 == 0x9088) = true := by decide +kernel

/-- Decoder M1 of Example 14.1. -/
def axis (x : Decoder) (t : Nat) : State :=
  { (atTick t base) with
    obj := [(key 0x3900 2, .num 0xA5003000), (key 0x3901 2, .num 0xA0908), (key 0x3903 2, .num 0xFA0), (key 0x3904 2, .num 2), (key 0x3905 2, .num 1),
            (key 0x3906 2, .num 0xC350), (key 0x3800 1, .num 1), (key 0x3802 2, .num 0x8000)]
    probe := { base.probe with on := true, decoder := [(1, x)] } }

/-- Example 14.1, step 2: the second edge, 12,500 ticks after the first, gives speed 80,000 and clears STILL. -/
theorem test_speed_of_two_edges :
    after (.decoderInputChange 1 true true false 2012500)
      (axis { running := true, startAt := 1999872, pos := 1, a := true, edgeAt := some 2000000, stillFrom := 2000000 } 2012500)
      (fun t => (t.decoder 1).pos == 2 && (t.decoder 1).speed == 80000 && !(t.decoder 1).still) = true := by decide +kernel

/-- Example 14.1, step 4: at the second mismatch SKIP_N with N = 1 reloads position 5,237 to 4,000. -/
theorem test_skipped_index_reloads :
    after (.decoderInputChange 1 true false true 67450000)
      (axis { running := true, startAt := 1999872, pos := 5236, edgeAt := some 67437500, stillFrom := 67437500, interval := 12500, speed := 80000,
              still := false, mismatches := 1, skips := 1 } 67450000)
      (fun t => (t.decoder 1).pos == 4000 && (t.decoder 1).deviation == 1237 && (t.decoder 1).mismatches == 2 && reads t 0x210E 0 == 2) = true := by
  decide +kernel

/-- Example 15.3, step 4: T3 expires 10,000 ticks after its start, is counted, and raises TF3. -/
theorem test_timer_expiry :
    after (.triggerTimerExpiry 3)
      { (atTick 9450770 base) with obj := [(key 0x4018 4, .num 10000)], trig := { base.trig with st := 2, level := 1, timer := [(3, ⟨true, 9450768, 2, none⟩)] } }
      (fun t => t.time.tick == 9460768 && bit t.trig.flags 11 && t.z 0xF070 7 == 1) = true := by decide +kernel

/-- Example 15.3, step 6: a WB_D that crosses P3's bumps in tick 9,473,402, with a receive latency of 41,250 ps, comes in tick 9,473,444
and is attributed to it. -/
theorem test_fabric_match_attribution :
    after (.wbD 3 { sid := 0x40, tag := 1, addr := 0x4001000040, data := List.replicate 64 1 })
      { (atTick 9473444 base) with
        ports := [(3, { active with sidBase := 0x40, latency := 41250 })]
        obj := [(key 0x4118 1, .num 0x881017C0), (key 0x4118 2, .num 0x4001000000), (key 0x4118 3, .num 0x4001FFFFFF)] }
      (fun t => t.sig.fabric.map Prod.fst == [9473444]) = true := by decide +kernel

/-- Example 17.1, step 3: a read of a line of the region under test is served from the save buffer and abandons the step. -/
theorem test_read_abandons_the_step :
    after (.rdUline 0 { sid := 0x20, tag := 5, addr := 0x4002B14A40 })
      { (atTick 40001300 base) with
        ports := [(0, { active with sidBase := 0x20 })]
        mem := { base.mem with fused := true, bank := banksReady, tbank := 21, tregion := 197, phase := 2, save := [(10, ⟨List.replicate 64 6, false, false⟩)] } }
      (fun t => t.mem.phase == 3 && t.z 0xF080 5 == 1 && t.mem.abandons == 1) = true := by decide +kernel

/-- Example 17.2, step 2: a bank that has woken reads ZEROING with its supply good. -/
theorem test_bank_wakes_to_zeroing :
    after (.bankWakeDone 20)
      { base with mem := { base.mem with fused := true, bank := (20, { st := 5, target := 0, zeroNext := true, bist := 1 }) :: banksReady } }
      (fun t => reads t 0x2301 21 == 0x6001) = true := by decide +kernel

/-- Example 19.1: the loss of REF 6 ticks after the loss of all lanes makes an eligible Second the Lead at F = 7,000,026, 22 ticks after the
last release tick that was compared. -/
theorem test_failover :
    after .refLoss
      { (atTick 7000025 (paired (fun p => { p with catchup := 7, absent := false, compared := 7000003, los := 15, losTick := some 7000019,
                                                     losElig := true, aligned := false }) 3)) with ports := [] }
      (fun t => t.pair.role == 2 && reads t 0x8005 1 == 0x6ACFDA && reads t 0x8005 2 == 0x16) = true := by decide +kernel

/-- Example 20.1, steps 3 and 4: TAMPER_N[0] at AON time 5,412,873 ms in DEPLOYED logs 0x1210_0000_0052_9809 and closes the session. -/
theorem test_tamper_is_logged :
    after (.tamperEvent true false)
      { base with sec := { base.sec with fuses := [16, 16, 0, 0], lcs := 2, vaultState := 2 }, now := 5412873000000 }
      (fun t => reads t 0x9013 1 == 0x1210000000529809 && reads t 0x9012 1 == 1 && t.sec.wipePending == some 2 && (t.path 4).session.isNone) = true := by
  decide +kernel

/-- Example 6.1, step 6: a repeated SEG request with the toggle of the SEG last sent draws that SEG again. -/
theorem test_segment_is_repeated :
    after (.segReq { via := .can 0x1A011021 true false false, o := [0x91] })
      { base with acc := { base.acc with canState := 1, path := [(1, {
          session := some ⟨0x21, 2, 0⟩
          xfer := some ⟨0x21, false, 0x1084, 2, [], 11, 2, [0x71, 5, 0x4E, 0x4F, 0x52, 0x54, 0x48], true, true, false,
                     .can 0x1A011021 true false false, 4000⟩ })] } }
      (fun t => t.out.head? == some (.can 0x1A022110 false false [0x71, 5, 0x4E, 0x4F, 0x52, 0x54, 0x48])) = true := by decide +kernel

end Sys2Proof.Tests
end

