-- ==== Sys2Proof/Tests/WitnessBoot.lean ====
section
/-! SUPPORT. Sys2Proof/Tests/WitnessBoot.lean: for each clause of the statements about power, clocks, boot and images, a state and operands that meet its
hypotheses together: witness_<statement>_<clause>, the clauses in the order in which the statement gives them. -/
set_option Elab.async false
open Sys2Proof Sys2Proof.Machine
namespace Sys2Proof.Tests
namespace boot
def noMB : State := { base with clk := { base.clk with meterBoot := false } }
def s11 : State := { step11 with obj := (List.range 6).map fun p => (key 0x7000 (p+1), .num 0) }
/-- XO is not qualified 20 ms after the boot's start. -/
def lateXo : State := { qualifying with now := qualifying.boot.stepAt + 30000000 }
/-- OP4 stands, or a transition runs. -/
def hot (n : Nat) : State := { base with clk := { base.clk with dvfsState := n, dvfsCur := 4, dvfsTarget := 4 } }
/-- A HELLO comes behind the role wait. -/
def lateRole : State := { resolving with now := resolving.boot.stepAt + 2 * resolving.roleWait }
/-- A transfer of another requester is open. -/
def busy : State := withXfer { xferJ with req := 5 }
def fl : State := { base with boot := { base.boot with flash := { sfdp := true, density := 2 ^ 24, erases := [(4096, 0x20#8)] } } }
def opRow : Row := (findRow 0x9010 1).getD ⟨0x9010, 0x9010, 1, 1, .u32, .o, 0, 2, 0, .any, 0xffffffff, 4⟩
def sRow : Row := (findRow 0x2300 1).getD opRow
def v1 : FlashInfo := {}
def v2 : State := { resolving with obj := [(key 0x8000 1, .num 5)] }
def v3 : HelloMsg := ⟨7, 1, false, 1⟩
/-- RESET_N is low and HIGHZ is loaded. -/
def floated : State := { base with power := { base.power with pinHeld := true }, acc := { base.acc with tapIr := 5 } }
/-- A device of a pair in reset. -/
def pairReset : State := { base with power := { base.power with pinHeld := true, pairPres := true }, boot := {} }
def v5 : Row := (findRow 4228 1).getD opRow
def v4 : HelloMsg := ⟨7, 1, true, 0⟩

theorem witness_ResetsClearTheDevice_a :
    1000 ≤ 1000 := by decide +kernel

theorem witness_ResetsClearTheDevice_b :
    (1200 ≤ 1200) ∧
    (base.power.por = false) ∧
    (base.power.tripHeld = false) := by decide +kernel

theorem witness_ResetsClearTheDevice_c :
    (base.power.por = false) ∧
    (base.power.tripHeld = false) := by decide +kernel

theorem witness_ReleasesBeginTheBoot_a :
    (State.reset.power.por = true) ∧
    (State.reset.power.pinHeld = false) ∧
    (25 < 132) := by decide +kernel

theorem witness_ReleasesBeginTheBoot_b :
    (pinHeld.power.pinHeld = true) ∧
    (pinHeld.power.por = false) ∧
    (pinHeld.power.tripHeld = false) ∧
    (pinHeld.boot.step = 0) := by decide +kernel

theorem witness_ReleasesBeginTheBoot_c :
    (25 < 115) ∧
    (tripHeld.power.tripHeld = true) ∧
    (tripHeld.power.por = false) ∧
    (tripHeld.power.pinHeld = false) ∧
    (tripHeld.boot.step = 0) := by decide +kernel

theorem witness_PinsAndSensorsAreObserved_a :
    (120 ≤ 120) ∧
    (base.power.therm = false) ∧
    (base.mgtFast = true) := by decide +kernel

theorem witness_PinsAndSensorsAreObserved_a1 :
    (120 ≤ 120) ∧
    ((hot 0).power.therm = false) ∧
    ((hot 0).mgtFast = true) ∧
    ((hot 0).clk.dvfsState = 0) ∧
    (3 < (hot 0).clk.dvfsCur) := by decide +kernel

theorem witness_PinsAndSensorsAreObserved_a2 :
    (120 ≤ 120) ∧
    ((hot 2).power.therm = false) ∧
    ((hot 2).mgtFast = true) ∧
    ((hot 2).clk.dvfsState ≠ 0) := by decide +kernel

theorem witness_PinsAndSensorsAreObserved_c :
    (true ≠ base.power.roleSel ∨ false ≠ base.power.pairPres) ∧
    (base.power.por = false) ∧
    (base.mgtFast = true) := by decide +kernel

theorem witness_PinsAndSensorsAreObserved_d :
    bit (xtrigOn.z 14352 (0 + 1)) 1 = true := by decide +kernel

theorem witness_PinsAndSensorsAreObserved_e : State.reset.powered (.refclk 0) = false := by decide +kernel

theorem witness_PinsAndSensorsAreObserved_f :
    (floated.powered .canTxd = true) ∧
    (floated.power.pinHeld = true) ∧
    (floated.acc.tapIr = 5) ∧
    (scanned .canTxd = true) ∧
    (floated.pinLevel .canTxd = .z) := by decide +kernel

theorem witness_PinsAndSensorsAreObserved_g :
    (pairReset.powered (.prst 7) = true) ∧
    (pairReset.power.pairPres = true) ∧
    (pairReset.up = false ∨ pairReset.acts = false) ∧
    (pairReset.pinLevel (.prst 7) = .z) := by decide +kernel

theorem witness_OscillatorQualifiesAndPllsLock_a :
    (qualifying.clk.qualRun = true) ∧
    (6272 ≤ 6400) ∧
    (6400 ≤ 6528) ∧
    (qualifying.z 8709 2 < 3) := by decide +kernel

theorem witness_OscillatorQualifiesAndPllsLock_a1 :
    (lateXo.clk.qualRun = true) ∧
    (lateXo.z 8709 2 < 3) ∧
    (lateXo.late .aon lateXo.boot.stepAt 20000000 = true) ∧
    (lateXo.clk.qualLate = false) ∧
    (lateXo.mgtUp = true) := by decide +kernel

theorem witness_OscillatorQualifiesAndPllsLock_b :
    (qualified3.clk.qualRun = true) ∧
    (6272 ≤ 6528) ∧
    (6528 ≤ 6528) ∧
    (3 ≤ qualified3.z 8709 2) := by decide +kernel

theorem witness_OscillatorQualifiesAndPllsLock_c :
    (qualified3.clk.qualRun = true) ∧
    (6529 < 6272 ∨ 6528 < 6529) := by decide +kernel

theorem witness_OscillatorQualifiesAndPllsLock_d :
    (qualifying.clk.qualRun = true) ∧
    (qualifying.clk.qualLate = false) ∧
    (qualifying.mgtUp = true) := by decide +kernel

theorem witness_OscillatorQualifiesAndPllsLock_e :
    ((atStep 3).boot.step = 3) ∧
    ((atStep 3).mgtUp = true) := by decide +kernel

theorem witness_OscillatorQualifiesAndPllsLock_f :
    (Pll.spll = Pll.rpll ∨ Pll.spll = Pll.spll ∨ Pll.spll = Pll.ppll ∨ Pll.spll = Pll.cpll) ∧
    (Alone base) ∧
    (base.mgtUp = true) ∧
    ((base.pll Pll.spll).locked = true) := ⟨by decide +kernel, by unfold Alone; decide +kernel, by decide +kernel, by decide +kernel⟩

theorem witness_OscillatorQualifiesAndPllsLock_g :
    ((base.pll Pll.ppll).started = true) ∧
    (base.boot.step ≠ 3) := by decide +kernel

theorem witness_RootsSwitchNormallyAndForced_a :
    (Alone base) ∧
    (Accepted base jtag 8707 3 1) ∧
    (domOfSub 3 = some Domain.fab) := ⟨by unfold Alone; decide +kernel, by unfold Accepted; decide +kernel, by decide +kernel⟩

theorem witness_RootsSwitchNormallyAndForced_b :
    ((switching.dom Domain.fab).switching = some 1) ∧
    ((switching.dom Domain.fab).stalled = false) ∧
    (switching.srcRuns Domain.fab 1 = true) := by decide +kernel

theorem witness_RootsSwitchNormallyAndForced_c :
    (Domain.fab = Domain.fab ∨ Domain.fab = Domain.prb ∨ Domain.fab = Domain.srv) ∧
    (Alone switching) ∧
    ((switching.dom Domain.fab).switching = some 1) ∧
    ((switching.dom Domain.fab).stalled = false) ∧
    (switching.srcRuns Domain.fab 1 = true) := ⟨by decide +kernel, by unfold Alone; decide +kernel, by decide +kernel, by decide +kernel, by decide +kernel⟩

theorem witness_RootsSwitchNormallyAndForced_d :
    (Accepted base jtag 8708 0 512) ∧
    (domOfCode (512 / 256) = some Domain.fab) ∧
    (Domain.fab = Domain.tick → base.leadWithSecond = false) := ⟨by unfold Accepted; decide +kernel, by decide +kernel, by decide +kernel⟩

theorem witness_RootsSwitchNormallyAndForced_e :
    ((forcing.dom Domain.fab).forcing = some 0) ∧
    (forcing.srcReady Domain.fab 0 = true) := by decide +kernel

theorem witness_RootsSwitchNormallyAndForced_f :
    ((forcingDead.dom Domain.srv).forcing = some 0) ∧
    (forcingDead.srcReady Domain.srv 0 = false) ∧
    (forcingDead.mgtUp = true) := by decide +kernel

theorem witness_StallsAreDeclaredAndEnd_b :
    (Domain.fab ≠ Domain.aon) ∧
    (Domain.fab ≠ Domain.mgt) ∧
    (Domain.fab ≠ Domain.xo) ∧
    (Alone base) ∧
    (base.mgtUp = true) ∧
    ((base.dom Domain.fab).stalled = false) := ⟨by decide +kernel, by decide +kernel, by decide +kernel, by unfold Alone; decide +kernel, by decide +kernel, by decide +kernel⟩

theorem witness_StallsAreDeclaredAndEnd_c :
    (stalled.dom Domain.fab).stalled = true := by decide +kernel

theorem witness_StallsAreDeclaredAndEnd_d :
    base.mgtUp = true := by decide +kernel

theorem witness_OperatingPointMovesInPhases_a :
    (dvfs 0 false).clk.dvfsState = 0 := by decide +kernel

theorem witness_OperatingPointMovesInPhases_b :
    (((dvfs 1 false).dom Domain.cmp).inReset = false) ∧
    ((dvfs 1 false).clk.dvfsHold = false) ∧
    ((dvfs 1 false).clk.dvfsState = 1) ∧
    ((dvfs 1 false).clk.dvfsSettle = false) := by decide +kernel

theorem witness_OperatingPointMovesInPhases_c :
    (((dvfs 1 true).dom Domain.cmp).inReset = false) ∧
    ((dvfs 1 true).clk.dvfsHold = false) ∧
    ((dvfs 1 true).clk.dvfsState = 1) ∧
    ((dvfs 1 true).clk.dvfsSettle = true) := by decide +kernel

theorem witness_OperatingPointMovesInPhases_d :
    (((dvfs 3 true).dom Domain.cmp).inReset = false) ∧
    ((dvfs 3 true).clk.dvfsHold = false) ∧
    ((dvfs 3 true).clk.dvfsState = 3) := by decide +kernel

theorem witness_OperatingPointMovesInPhases_e :
    (((dvfs 2 false).dom Domain.cmp).inReset = false) ∧
    ((dvfs 2 false).clk.dvfsHold = false) ∧
    ((dvfs 2 false).clk.dvfsState = 2) := by decide +kernel

theorem witness_MeterAndClockMonitor_a :
    (Alone noMB) ∧
    (Accepted noMB jtag 8710 4 1) := ⟨by unfold Alone; decide +kernel, by unfold Accepted; decide +kernel⟩

theorem witness_MeterAndClockMonitor_b :
    (metering.clk.meterRun = true) ∧
    (metering.clk.meterRef = 1) := by decide +kernel

theorem witness_MeterAndClockMonitor_c :
    (Alone base) ∧
    (Accepted base jtag 8711 2 4) ∧
    (base.power.vddioUp = true) := ⟨by unfold Alone; decide +kernel, by unfold Accepted; decide +kernel, by decide +kernel⟩

theorem witness_BootStepsOneToSeven_a :
    (atStep 1).boot.step = 1 := by decide +kernel

theorem witness_BootStepsOneToSeven_b :
    ((atStep 4).boot.step = 4) ∧
    ((atStep 4).boot.halted = false) := by decide +kernel

theorem witness_BootStepsOneToSeven_c :
    ((atStep 4).boot.step = 4) ∧
    ((atStep 4).boot.halted = false) ∧
    ((atStep 4).boot.fuseFails < 2) := by decide +kernel

theorem witness_BootStepsOneToSeven_d :
    (step4fails.boot.step = 4) ∧
    (step4fails.boot.halted = false) ∧
    (2 ≤ step4fails.boot.fuseFails) ∧
    (step4fails.mgtFast = true) := by decide +kernel

theorem witness_BootStepsOneToSeven_e :
    (atStep 5).boot.step = 5 := by decide +kernel

theorem witness_BootStepsOneToSeven_f :
    (bist0.boot.step = 5) ∧
    (bist0.n 8209 1 = 0) := by decide +kernel

theorem witness_BootStepsOneToSeven_g :
    ((atStep 6).boot.step = 6) ∧
    ((atStep 6).boot.halted = false) ∧
    ((atStep 6).sec.lcs ≠ 4) ∧
    ((atStep 6).sec.trState = 0) := by decide +kernel

theorem witness_BootStepsOneToSeven_h :
    (step6por.boot.step = 6) ∧
    (step6por.boot.halted = false) ∧
    (step6por.boot.afterPor = true) ∧
    ((step6por.bank 48).bist ≠ 3) ∧
    (step6por.sec.lcs ≠ 4) := by decide +kernel

theorem witness_BootStepsOneToSeven_i :
    (scrapped.boot.step = 6) ∧
    (scrapped.boot.halted = false) ∧
    (scrapped.sec.lcs = 4) ∧
    (scrapped.boot.afterPor = true) := by decide +kernel

theorem witness_BootStepsOneToSeven_j :
    (atStep 7).boot.step = 7 := by decide +kernel

theorem witness_BootStepsOneToSeven_k :
    ((atStep 7).boot.step = 7) ∧
    ((candidateOrder (readHeader (atStep 7).boot.slotA) (readHeader (atStep 7).boot.slotB)).1 = []) ∧
    ((atStep 7).mgtFast = true) := by decide +kernel

theorem witness_BootStepsOneToSeven_l :
    ((saving 2 false).boot.savePhase ≠ 0) ∧
    ((saving 2 false).mgtFast = true) ∧
    ((saving 2 false).boot.savePhase ≠ 5 ∨ (saving 2 false).boot.saveHeader = false) := by decide +kernel

theorem witness_BootStepsOneToSeven_m :
    ((atStep 7).boot.savePhase = 0) ∧
    ((atStep 7).boot.step = 7) := by decide +kernel

theorem witness_RolesResolve_a0 :
    (lateRole.pair.role = 1) ∧
    (lateRole.boot.step = 8) ∧
    (lateRole.late .aon lateRole.boot.stepAt lateRole.roleWait = true) := by decide +kernel

theorem witness_RolesResolve_a :
    (v2.pair.role = 1) ∧
    (v2.boot.step = 8) ∧
    (1 ≠ 2) ∧
    (v2.idMatch 7 = false) ∧
    (v2.late .aon v2.boot.stepAt v2.roleWait = false) := by decide +kernel

theorem witness_RolesResolve_b :
    (resolving.pair.role = 1) ∧
    (resolving.boot.step = 8) ∧
    (1 ≠ 2) ∧
    (resolving.idMatch 7 = true) ∧
    (1 = 1) ∧
    (resolving.late .aon resolving.boot.stepAt resolving.roleWait = false) := by decide +kernel

theorem witness_RolesResolve_c :
    (resolving.pair.role = 1) ∧
    (resolving.boot.step = 8) ∧
    (0 ≠ 2) ∧
    (resolving.idMatch 7 = true) ∧
    (0 = 0) ∧
    (v4.roleSel ≠ resolving.power.bootRoleSel) ∧
    (resolving.late .aon resolving.boot.stepAt resolving.roleWait = false) := by decide +kernel

theorem witness_RolesResolve_d :
    (resolvingLead.pair.role = 1) ∧
    (resolvingLead.boot.step = 8) ∧
    (resolvingLead.power.bootRoleSel = true) := by decide +kernel

theorem witness_RolesResolve_e :
    (resolvingLead.pair.role = 1) ∧
    (resolvingLead.boot.step = 8) ∧
    (resolvingLead.power.bootRoleSel = true) := by decide +kernel

theorem witness_RolesResolve_f :
    (resolving.pair.role = 1) ∧
    (resolving.boot.step = 8) ∧
    (resolving.power.bootRoleSel = false) := by decide +kernel

theorem witness_RolesResolve_g :
    (resolving.pair.role = 1) ∧
    (resolving.boot.step = 8) ∧
    (resolving.power.bootRoleSel = false) := by decide +kernel

theorem witness_RolesResolve_h :
    (resolving.pair.role = 1) ∧
    (resolving.boot.step = 8) ∧
    (resolving.power.bootRoleSel = false) := by decide +kernel

theorem witness_FanOutAndTimeBaseSteps_a :
    step9.boot.step = 9 := by decide +kernel

theorem witness_FanOutAndTimeBaseSteps_b :
    (step10.boot.step = 10) ∧
    (bit step10.boot.prstPending 1 = true) := by decide +kernel

theorem witness_FanOutAndTimeBaseSteps_c :
    (step10done.boot.step = 10) ∧
    (step10done.boot.prstPending = 0) ∧
    (Alone step10done) := ⟨by decide +kernel, by decide +kernel, by unfold Alone; decide +kernel⟩

theorem witness_FanOutAndTimeBaseSteps_d :
    (s11.boot.step = 11) ∧
    (s11.acts = true) ∧
    (s11.portsSettled = true) := by decide +kernel

theorem witness_WarmResetAndImageSave_a :
    (Alone base) ∧
    (Accepted base jtag 8215 0 1465013076) := ⟨by unfold Alone; decide +kernel, by unfold Accepted; decide +kernel⟩

theorem witness_WarmResetAndImageSave_b :
    warmDue.boot.warmDue = true := by decide +kernel

theorem witness_WarmResetAndImageSave_c :
    (Alone fl) ∧
    (Accepted fl jtag 8220 1 1) ∧
    (fl.committedRecords.flatten.length ≤ 65504) := ⟨by unfold Alone; decide +kernel, by unfold Accepted; decide +kernel, by decide +kernel⟩

theorem witness_WarmResetAndImageSave_d :
    (saving 2 false).boot.savePhase = 2 := by decide +kernel

theorem witness_WarmResetAndImageSave_e :
    (saving 3 false).boot.savePhase = 3 := by decide +kernel

theorem witness_WarmResetAndImageSave_f :
    ((saving 5 false).boot.savePhase = 5) ∧
    ((saving 5 false).boot.saveHeader = false) := by decide +kernel

theorem witness_WarmResetAndImageSave_g :
    (saving 4 false).boot.savePhase = 4 := by decide +kernel

theorem witness_WarmResetAndImageSave_h :
    ((saving 5 true).boot.savePhase = 5) ∧
    ((saving 5 true).boot.saveHeader = true) ∧
    ((saving 5 true).boot.saveSlot ≤ 2) := by decide +kernel

theorem witness_WarmResetAndImageSave_i :
    ((saving 5 false).boot.savePhase = 5) ∧
    ((saving 5 false).boot.saveHeader = false) ∧
    ((saving 5 false).mgtFast = true) := by decide +kernel

theorem witness_WarmResetAndImageSave_j :
    ((saving 5 true).boot.savePhase = 5) ∧
    ((saving 5 true).boot.saveHeader = true) ∧
    ((saving 5 true).mgtFast = true) := by decide +kernel

theorem witness_LockAndDescriptorQuery_a :
    (Alone base) ∧
    (Accepted base jtag 4225 1 1280262987) := ⟨by unfold Alone; decide +kernel, by unfold Accepted; decide +kernel⟩

theorem witness_LockAndDescriptorQuery_b :
    (Alone isLocked) ∧
    (isLocked.reaches jtag = true) ∧
    (isLocked.locked = true) ∧
    (findRow 36880 1 = some opRow) ∧
    (opRow.cls = Cls.k) ∧
    (accessWithheld isLocked.sec.lcs 36880 1 true = false) ∧
    (opRow.wr ≤ (isLocked.accept (pathNo jtag.path) (isLocked.requester jtag)).levelOf (pathNo jtag.path) (isLocked.requester jtag)) ∧
    ((isLocked.path (pathNo jtag.path)).xfer = none) := ⟨by unfold Alone; decide +kernel, by decide +kernel, by decide +kernel, by decide +kernel, by decide +kernel, by decide +kernel, by decide +kernel, by decide +kernel⟩

theorem witness_LockAndDescriptorQuery_c :
    (Alone base) ∧
    (Accepted base jtag 4227 1 1082369) := ⟨by unfold Alone; decide +kernel, by unfold Accepted; decide +kernel⟩

theorem witness_WritesAreStagedOrRefused_a :
    (Alone base) ∧
    (base.reaches jtag = true) ∧
    (findRow 8960 1 = some sRow) ∧
    (sRow.cls = Cls.s) ∧
    ((base.serveWrite (pathNo jtag.path) (base.requester jtag) 8960 1 (leBytes 2 1) (none)).1 = 0) ∧
    ((base.path (pathNo jtag.path)).xfer = none) := ⟨by unfold Alone; decide +kernel, by decide +kernel, by decide +kernel, by decide +kernel, by decide +kernel, by decide +kernel⟩

theorem witness_WritesAreStagedOrRefused_b :
    (Alone base) ∧
    (base.reaches jtag = true) ∧
    (4228 ≠ 4112#16) ∧
    ((base.serveWrite (pathNo jtag.path) (base.requester jtag) 4228 1 [1] (none)).1 = 769) ∧
    (769 ≠ 0) ∧
    ((base.path (pathNo jtag.path)).xfer = none) := ⟨by unfold Alone; decide +kernel, by decide +kernel, by decide +kernel, by decide +kernel, by decide +kernel, by decide +kernel⟩

theorem witness_WritesAreStagedOrRefused_c :
    (Alone busy) ∧
    (busy.reaches jtag = true) ∧
    ((busy.path (pathNo jtag.path)).xfer = some { xferJ with req := 5 }) ∧
    (({ xferJ with req := 5 } : Transfer).req ≠ busy.requester jtag) ∧
    (busy.xferLate (pathNo jtag.path) = false) := ⟨by unfold Alone; decide +kernel, by decide +kernel, by decide +kernel, by decide +kernel, by decide +kernel⟩

theorem witness_DiagnosticsAndScrub_a :
    (Alone base) ∧
    (Accepted base jtag 61695 0 1145261138) := ⟨by unfold Alone; decide +kernel, by unfold Accepted; decide +kernel⟩

theorem witness_DiagnosticsAndScrub_b :
    base.mgtFast = true := by decide +kernel

theorem witness_DiagnosticsAndScrub_c :
    (base.mgtFast = true) ∧
    (findRow 4228 1 = some v5) ∧
    (0 < storeWords v5) ∧
    (base.badWords.contains (key 4228 1 * 1024 + 0) = false) := by decide +kernel

theorem witness_DiagnosticsAndScrub_d :
    (badWord.mgtFast = true) ∧
    (badWord.badWords.contains (key 4228 1 * 1024 + 0) = true) := by decide +kernel

theorem witness_StepsAlwaysComplete_a :
    base.pending = [] := by decide +kernel
/-- The alert invariant holds at reset, from which a step has a next state. -/
theorem witness_AlertPinFollowsTheTree : AlertsFollow State.reset ∧ (match step State.reset with | .next _ => true | _ => false) = true := by
  unfold AlertsFollow; decide +kernel
end boot
end Sys2Proof.Tests
end

