-- ==== Sys2Proof/Tests/WitnessCommits.lean ====
section
/-! SUPPORT. Sys2Proof/Tests/WitnessCommits.lean: for each clause of the statements about the dictionary, commits, alerts, and the access paths, a state and operands that meet its
hypotheses together: witness_<statement>_<clause>, the clauses in the order in which the statement gives them. -/
set_option Elab.async false
open Sys2Proof Sys2Proof.Machine
namespace Sys2Proof.Tests
namespace commits
def rd : Frame := fj (leBytes 1 0x10 ++ leBytes 1 1 ++ leBytes 2 0x1084)
def rdBad : Frame := fj (leBytes 1 0x10 ++ leBytes 1 9 ++ leBytes 2 0x1084)
def wrf : Frame := fj (leBytes 1 0x34 ++ leBytes 1 1 ++ leBytes 2 0x1084 ++ [1, 2, 3, 4])
def sws : Frame := fj (leBytes 1 0x60 ++ leBytes 1 2 ++ leBytes 2 0x1084 ++ leBytes 2 32)
def v1 : Row := ⟨0x1084, 0x1084, 2, 2, .octets, .k, 0, 2, 0, .any, 0x0, 32⟩
def sg (n : Nat) : Frame := fj (leBytes 1 0x70 ++ leBytes 1 n ++ List.replicate n 7)
def ns (x : Transfer) := withXfer x
def bigX : Transfer := { xferJ with idx := 0x3000, sub := 1, total := 4000 }
def sreq : Frame := fj [0x90]
def rX : Transfer := { xferJ with write := false, data := List.replicate 300 5, total := 300, last := [0x50, 1, 2, 3] }
def rX2 : Transfer := { rX with toggle := 1, any := true }
def ab : Frame := fj [0xF0, 1, 0x84, 0x10, 1, 5]
def v2 : State := ns { rX with done := true }
def v3 : Transfer := { rX with done := true }
/-- A cause has been raised in this MGT cycle. -/
def raised : State := base.setCause 4 0
/-- The frame that would end the transfer's wait lies in the acceptance queue. -/
def heldX : State := { (ns rX) with acc := { (ns rX).acc with queue := [⟨0, 4, 0, .jtag, [0x90]⟩] } }
def alertDue : State := { base with obj := [(key 0x2102 0, .num 1), (key 0x1105 1, .num 4)], alerts := { base.alerts with summary := 2, driven := true }, acc := { base.acc with path := [(4, { session := some ⟨0, 3, 0⟩ }), (3, { alertAt := some 100, due := true, risen := 2 })] } }

theorem witness_StagedSetAndCommitCommands_a :
    (Alone base) ∧
    (Accepted base jtag 8193 1 1082369) := ⟨by unfold Alone; decide +kernel, by unfold Accepted; decide +kernel⟩

theorem witness_StagedSetAndCommitCommands_b :
    (Alone staged2) ∧
    (Accepted staged2 jtag 8194 0 1146244944) := ⟨by unfold Alone; decide +kernel, by unfold Accepted; decide +kernel⟩

theorem witness_StagedSetAndCommitCommands_c :
    (Alone staged2) ∧
    (Accepted staged2 jtag 8195 4 1129270612) := ⟨by unfold Alone; decide +kernel, by unfold Accepted; decide +kernel⟩

theorem witness_StagedSetAndCommitCommands_d :
    (Alone Tests.scheduled) ∧
    (Accepted Tests.scheduled jtag 8195 5 1129202508) ∧
    (Tests.scheduled.commit.mirrored = false) ∧
    (Tests.scheduled.commit.state ≠ 2) := ⟨by unfold Alone; decide +kernel, by unfold Accepted; decide +kernel, by decide +kernel, by decide +kernel⟩

theorem witness_CausesAreClearedAndThePinTested_a :
    (Alone base) ∧
    (5 < 16) ∧
    (Accepted base jtag (8449 + 5) 0 3) := ⟨by unfold Alone; decide +kernel, by decide +kernel, by unfold Accepted; decide +kernel⟩

theorem witness_CausesAreClearedAndThePinTested_b :
    (Alone base) ∧
    (4 < 16) ∧
    (childOf 4 = none) ∧
    (Accepted base jtag (8449 + 4) 0 3) := ⟨by unfold Alone; decide +kernel, by decide +kernel, by decide +kernel, by unfold Accepted; decide +kernel⟩

theorem witness_CausesAreClearedAndThePinTested_b1 :
    (Alone raised) ∧
    (childOf 4 = none) ∧
    (Accepted raised jtag (8449 + 4) 0 3) ∧
    (raised.z (8449 + 4) 0 &&& andNot (3 &&& causeBits 4) (raised.held 4) &&& raisedNow raised (8449 + 4) 0 ≠ 0) := ⟨by unfold Alone; decide +kernel, by decide +kernel, by unfold Accepted; decide +kernel, by decide +kernel⟩

theorem witness_CausesAreClearedAndThePinTested_c :
    (Alone base) ∧
    (childOf 5 = some (8512, 6, 127)) ∧
    (5 < 6) ∧
    (Accepted base jtag 8512 (5 + 1) 3) := ⟨by unfold Alone; decide +kernel, by decide +kernel, by decide +kernel, by unfold Accepted; decide +kernel⟩

theorem witness_CausesAreClearedAndThePinTested_d :
    (Alone base) ∧
    (Accepted base jtag 8483 0 1129075265) := ⟨by unfold Alone; decide +kernel, by unfold Accepted; decide +kernel⟩

theorem witness_CausesAreClearedAndThePinTested_e :
    (Alone base) ∧
    (5#32 ≠ 1129075265#32) ∧
    (base.reaches jtag = true) ∧
    (accessWithheld base.sec.lcs 8483 0 true = false) ∧
    (1 ≤ (base.accept (pathNo jtag.path) (base.requester jtag)).levelOf (pathNo jtag.path) (base.requester jtag)) ∧
    ((base.path (pathNo jtag.path)).xfer = none) := ⟨by unfold Alone; decide +kernel, by decide +kernel, by decide +kernel, by decide +kernel, by decide +kernel, by decide +kernel⟩

theorem witness_CausesAreClearedAndThePinTested_f :
    (Alone base) ∧
    (Accepted base jtag 8482 2 1) := ⟨by unfold Alone; decide +kernel, by unfold Accepted; decide +kernel⟩

theorem witness_CausesAreClearedAndThePinTested_g :
    (Alone pinOn) ∧
    (Accepted pinOn jtag 8482 2 0) := ⟨by unfold Alone; decide +kernel, by unfold Accepted; decide +kernel⟩

theorem witness_CommitCheckEnds_a :
    (stagedBad.commit.state = 1) ∧
    (stagedBad.checkEnd ≠ []) ∧
    (∀ v ∈ stagedBad.checkEnd, v.rule ≠ 2047) ∧
    (stagedBad.mgtFast = true) := by decide +kernel

theorem witness_CommitCheckEnds_b :
    (checking.commit.state = 1) ∧
    (checking.checkEnd = []) ∧
    (checking.mirrors = false) ∧
    (checking.commit.mirrored = false) ∧
    (checking.commit.atTime = false) := by decide +kernel

theorem witness_CommitCheckEnds_c :
    ((checkingAt 5).commit.state = 1) ∧
    ((checkingAt 5).checkEnd = []) ∧
    ((checkingAt 5).mirrors = false) ∧
    ((checkingAt 5).commit.mirrored = false) ∧
    ((checkingAt 5).commit.atTime = true) ∧
    ((checkingAt 5).mgtFast = true) ∧
    ((checkingAt 5).commit.instant ≤ (checkingAt 5).time.pt + 64 * 2 ^ 32) := by decide +kernel

theorem witness_CommitCheckEnds_d :
    ((checkingAt (9000 * 2 ^ 32)).commit.state = 1) ∧
    ((checkingAt (9000 * 2 ^ 32)).checkEnd = []) ∧
    ((checkingAt (9000 * 2 ^ 32)).mirrors = false) ∧
    ((checkingAt (9000 * 2 ^ 32)).commit.mirrored = false) ∧
    ((checkingAt (9000 * 2 ^ 32)).commit.atTime = true) ∧
    ((checkingAt (9000 * 2 ^ 32)).time.pt + 64 * 2 ^ 32 < (checkingAt (9000 * 2 ^ 32)).commit.instant) := by decide +kernel

theorem witness_CommitCheckEnds_e :
    (checkingLead.commit.state = 1) ∧
    (checkingLead.checkEnd = []) ∧
    (checkingLead.mirrors = true) := by decide +kernel

theorem witness_MirrorTimeoutAndFixTick_a :
    mirroring.commit.state = 2 := by decide +kernel

theorem witness_MirrorTimeoutAndFixTick_b :
    (Tests.scheduled.commit.state = 4) ∧
    (Tests.scheduled.time.ptRun = true) ∧
    (Tests.scheduled.commit.mirrored = false) := by decide +kernel

theorem witness_CommitAppliesTheWholeSet_a :
    (waiting.pair.boundary = none) ∧
    (waiting.commit.state = 3) ∧
    ((waiting.dom Domain.tick).inReset = false) := by decide +kernel

theorem witness_CommitAppliesTheWholeSet_b :
    (waitingHeld.pair.boundary = none) ∧
    (waitingHeld.commit.state = 3) ∧
    ((waitingHeld.dom Domain.tick).inReset = true) ∧
    (Alone waitingHeld) := ⟨by decide +kernel, by decide +kernel, by decide +kernel, by unfold Alone; decide +kernel⟩

theorem witness_InstallPutsEveryValue_a :
    (List.map (fun e => key e.idx e.sub) waiting.staged).Nodup := by decide +kernel

theorem witness_ReadAndWriteFrames_a :
    (Heard base rd 4 0 (heardJ base)) ∧
    (((heardJ base).path 4).xfer = none) ∧
    (4 ≤ List.length rd.o) ∧
    (leAt rd.o 0 1 = 16) ∧
    ((heardJ base).serveRead 4 0 (leAt rd.o 2 2) (leAt rd.o 1 1) =
      (((heardJ base).serveRead 4 0 4228 1).1, ((heardJ base).serveRead 4 0 4228 1).2.1, ((heardJ base).serveRead 4 0 4228 1).2.2)) ∧
    (Alone ((heardJ base).serveRead 4 0 4228 1).2.2) := ⟨by unfold Heard; exact ⟨by decide +kernel, by decide +kernel, by decide +kernel, by decide +kernel, by decide +kernel, by decide +kernel, rfl, rfl, rfl⟩, by decide +kernel, by decide +kernel, by decide +kernel, by decide +kernel, by unfold Alone; decide +kernel⟩

theorem witness_ReadAndWriteFrames_b :
    (Heard base rdBad 4 0 (heardJ base)) ∧
    (((heardJ base).path 4).xfer = none) ∧
    (4 ≤ List.length rdBad.o) ∧
    (leAt rdBad.o 0 1 = 16) ∧
    ((heardJ base).serveRead 4 0 (leAt rdBad.o 2 2) (leAt rdBad.o 1 1) =
      (((heardJ base).serveRead 4 0 4228 9).1, ((heardJ base).serveRead 4 0 4228 9).2.1, ((heardJ base).serveRead 4 0 4228 9).2.2)) ∧
    (Alone ((heardJ base).serveRead 4 0 4228 9).2.2) := ⟨by unfold Heard; exact ⟨by decide +kernel, by decide +kernel, by decide +kernel, by decide +kernel, by decide +kernel, by decide +kernel, rfl, rfl, rfl⟩, by decide +kernel, by decide +kernel, by decide +kernel, by decide +kernel, by unfold Alone; decide +kernel⟩

theorem witness_ReadAndWriteFrames_c :
    (Heard base wrf 4 0 (heardJ base)) ∧
    (((heardJ base).path 4).xfer = none) ∧
    (leAt wrf.o 0 1 / 16 = 3) ∧
    (leAt wrf.o 0 1 % 16 ≠ 0) ∧
    (4 + leAt wrf.o 0 1 % 16 ≤ List.length wrf.o) ∧
    ((heardJ base).serveWrite 4 0 (leAt wrf.o 2 2) (leAt wrf.o 1 1) (octAt wrf.o 4 (leAt wrf.o 0 1 % 16)) none =
      (((heardJ base).serveWrite 4 0 4228 1 [1, 2, 3, 4] none).1, ((heardJ base).serveWrite 4 0 4228 1 [1, 2, 3, 4] none).2)) ∧
    (Alone ((heardJ base).serveWrite 4 0 4228 1 [1, 2, 3, 4] none).2) ∧
    (((heardJ base).serveWrite 4 0 4228 1 [1, 2, 3, 4] none).2.up = true) := ⟨by unfold Heard; exact ⟨by decide +kernel, by decide +kernel, by decide +kernel, by decide +kernel, by decide +kernel, by decide +kernel, rfl, rfl, rfl⟩, by decide +kernel, by decide +kernel, by decide +kernel, by decide +kernel, by decide +kernel, by unfold Alone; decide +kernel, by decide +kernel⟩

theorem witness_SegmentedWritesCollectTheirValue_a :
    (Heard base sws 4 0 (heardJ base)) ∧
    (Alone (heardJ base)) ∧
    (((heardJ base).path 4).xfer = none) ∧
    (6 ≤ List.length sws.o) ∧
    (leAt sws.o 0 1 = 96) ∧
    (1 ≤ leAt sws.o 4 2) ∧
    (leAt sws.o 4 2 ≤ 4096) ∧
    (findRow (leAt sws.o 2 2) (leAt sws.o 1 1) = some v1) ∧
    ((heardJ base).headCode v1 { path := 4, req := 0, level := (heardJ base).levelOf 4 0, idx := leAt sws.o 2 2, sub := leAt sws.o 1 1 }
      (leAt sws.o 4 2) none =
      0) := ⟨by unfold Heard; exact ⟨by decide +kernel, by decide +kernel, by decide +kernel, by decide +kernel, by decide +kernel, by decide +kernel, rfl, rfl, rfl⟩, by unfold Alone; decide +kernel, by decide +kernel, by decide +kernel, by decide +kernel, by decide +kernel, by decide +kernel, by decide +kernel, by decide +kernel⟩

theorem witness_SegmentedWritesCollectTheirValue_b :
    (Heard base (sg 4) 4 0 (heardJ base)) ∧
    (Alone (heardJ base)) ∧
    (leAt (sg 4).o 0 1 / 16 = 7) ∧
    (malformed (sg 4).via (sg 4).o = false) ∧
    (((heardJ base).path 4).xfer = none) := ⟨by unfold Heard; exact ⟨by decide +kernel, by decide +kernel, by decide +kernel, by decide +kernel, by decide +kernel, by decide +kernel, rfl, rfl, rfl⟩, by unfold Alone; decide +kernel, by decide +kernel, by decide +kernel, by decide +kernel⟩

theorem witness_SegmentedWritesCollectTheirValue_c :
    (Heard (ns bigX) (sg 254) 4 0 (heardJ (ns bigX))) ∧
    (Alone (heardJ (ns bigX))) ∧
    (leAt (sg 254).o 0 1 / 16 = 7) ∧
    (malformed (sg 254).via (sg 254).o = false) ∧
    (((heardJ (ns bigX)).path 4).xfer = some bigX) ∧
    (bigX.req = 0) ∧
    (bigX.write = true) ∧
    (bigX.done = false) ∧
    (4 = 1 → bigX.fd = carrierFd (sg 254).via) ∧
    (bigX.toggle = leAt (sg 254).o 0 1 % 16) ∧
    (List.length (bigX.data ++ octAt (sg 254).o 2 (leAt (sg 254).o 1 1)) < bigX.total) ∧
    (leAt (sg 254).o 1 1 = segMax (sg 254).via) := ⟨by unfold Heard; exact ⟨by decide +kernel, by decide +kernel, by decide +kernel, by decide +kernel, by decide +kernel, by decide +kernel, rfl, rfl, rfl⟩, by unfold Alone; decide +kernel, by decide +kernel, by decide +kernel, by decide +kernel, by decide +kernel, by decide +kernel, by decide +kernel, by decide +kernel, by decide +kernel, by decide +kernel, by decide +kernel⟩

theorem witness_SegmentedWritesCollectTheirValue_d :
    (Heard (ns xferJ) (sg 4) 4 0 (heardJ (ns xferJ))) ∧
    (Alone (heardJ (ns xferJ))) ∧
    (leAt (sg 4).o 0 1 / 16 = 7) ∧
    (malformed (sg 4).via (sg 4).o = false) ∧
    (((heardJ (ns xferJ)).path 4).xfer = some xferJ) ∧
    (xferJ.req = 0) ∧
    (xferJ.write = true) ∧
    (xferJ.done = false) ∧
    (4 = 1 → xferJ.fd = carrierFd (sg 4).via) ∧
    (xferJ.toggle = leAt (sg 4).o 0 1 % 16) ∧
    (List.length (xferJ.data ++ octAt (sg 4).o 2 (leAt (sg 4).o 1 1)) = xferJ.total) ∧
    ((heardJ (ns xferJ)).serveWrite 4 xferJ.req xferJ.idx xferJ.sub (xferJ.data ++ octAt (sg 4).o 2 (leAt (sg 4).o 1 1)) none =
      (((heardJ (ns xferJ)).serveWrite 4 0 4228 1 [7, 7, 7, 7] none).1, ((heardJ (ns xferJ)).serveWrite 4 0 4228 1 [7, 7, 7, 7] none).2)) ∧
    (Alone ((heardJ (ns xferJ)).serveWrite 4 0 4228 1 [7, 7, 7, 7] none).2) ∧
    (((heardJ (ns xferJ)).serveWrite 4 0 4228 1 [7, 7, 7, 7] none).2.up = true) := ⟨by unfold Heard; exact ⟨by decide +kernel, by decide +kernel, by decide +kernel, by decide +kernel, by decide +kernel, by decide +kernel, rfl, rfl, rfl⟩, by unfold Alone; decide +kernel, by decide +kernel, by decide +kernel, by decide +kernel, by decide +kernel, by decide +kernel, by decide +kernel, by decide +kernel, by decide +kernel, by decide +kernel, by decide +kernel, by unfold Alone; decide +kernel, by decide +kernel⟩

theorem witness_SegmentedReadsAbortsAndTimeouts_a :
    (Heard base sreq 4 0 (heardJ base)) ∧
    (Alone (heardJ base)) ∧
    (leAt sreq.o 0 1 / 16 = 9) ∧
    (1 ≤ List.length sreq.o) ∧
    (((heardJ base).path 4).xfer = none) := ⟨by unfold Heard; exact ⟨by decide +kernel, by decide +kernel, by decide +kernel, by decide +kernel, by decide +kernel, by decide +kernel, rfl, rfl, rfl⟩, by unfold Alone; decide +kernel, by decide +kernel, by decide +kernel, by decide +kernel⟩

theorem witness_SegmentedReadsAbortsAndTimeouts_b :
    (Heard (ns rX) sreq 4 0 (heardJ (ns rX))) ∧
    (Alone (heardJ (ns rX))) ∧
    (leAt sreq.o 0 1 / 16 = 9) ∧
    (1 ≤ List.length sreq.o) ∧
    (((heardJ (ns rX)).path 4).xfer = some rX) ∧
    (rX.req = 0) ∧
    (rX.write = false) ∧
    (4 = 1 → rX.fd = carrierFd sreq.via) ∧
    (rX.done = false) ∧
    (rX.toggle = leAt sreq.o 0 1 % 16) := ⟨by unfold Heard; exact ⟨by decide +kernel, by decide +kernel, by decide +kernel, by decide +kernel, by decide +kernel, by decide +kernel, rfl, rfl, rfl⟩, by unfold Alone; decide +kernel, by decide +kernel, by decide +kernel, by decide +kernel, by decide +kernel, by decide +kernel, by decide +kernel, by decide +kernel, by decide +kernel⟩

theorem witness_SegmentedReadsAbortsAndTimeouts_c :
    (Heard (ns rX2) sreq 4 0 (heardJ (ns rX2))) ∧
    (Alone (heardJ (ns rX2))) ∧
    (leAt sreq.o 0 1 / 16 = 9) ∧
    (1 ≤ List.length sreq.o) ∧
    (((heardJ (ns rX2)).path 4).xfer = some rX2) ∧
    (rX2.req = 0) ∧
    (rX2.write = false) ∧
    (4 = 1 → rX2.fd = carrierFd sreq.via) ∧
    (rX2.any = true) ∧
    ((leAt sreq.o 0 1 % 16 + 1) % 16 = rX2.toggle) := ⟨by unfold Heard; exact ⟨by decide +kernel, by decide +kernel, by decide +kernel, by decide +kernel, by decide +kernel, by decide +kernel, rfl, rfl, rfl⟩, by unfold Alone; decide +kernel, by decide +kernel, by decide +kernel, by decide +kernel, by decide +kernel, by decide +kernel, by decide +kernel, by decide +kernel, by decide +kernel⟩

theorem witness_SegmentedReadsAbortsAndTimeouts_d :
    (Heard (ns rX) ab 4 0 (heardJ (ns rX))) ∧
    (Alone (heardJ (ns rX))) ∧
    (leAt ab.o 0 1 = 240) ∧
    (6 ≤ List.length ab.o) ∧
    (((heardJ (ns rX)).path 4).xfer = some rX) ∧
    (rX.req = 0) := ⟨by unfold Heard; exact ⟨by decide +kernel, by decide +kernel, by decide +kernel, by decide +kernel, by decide +kernel, by decide +kernel, rfl, rfl, rfl⟩, by unfold Alone; decide +kernel, by decide +kernel, by decide +kernel, by decide +kernel, by decide +kernel⟩

theorem witness_SegmentedReadsAbortsAndTimeouts_e :
    (((ns rX).path (pathNo Path.jtag)).xfer = some rX) ∧
    (rX.done = false) ∧
    ((ns rX).xferHeld (pathNo Path.jtag) = false) := by decide +kernel

theorem witness_SegmentedReadsAbortsAndTimeouts_e1 :
    ((heldX.path (pathNo Path.jtag)).xfer = some rX) ∧
    (heldX.xferHeld (pathNo Path.jtag) = true) := by decide +kernel

theorem witness_SegmentedReadsAbortsAndTimeouts_f :
    ((v2.path (pathNo Path.jtag)).xfer = some v3) ∧
    (v3.done = true) ∧
    (v2.xferHeld (pathNo Path.jtag) = false) := by decide +kernel

theorem witness_SegmentedReadsAbortsAndTimeouts_g :
    base.mgtFast = true := by decide +kernel

theorem witness_AlertFramesFollowTheSummary_a :
    (AlertsFollow alertDue) ∧
    (alertDue.alertsOn (pathNo Path.mailbox) = true) ∧
    ((alertDue.path (pathNo Path.mailbox)).due = true) := ⟨by unfold AlertsFollow; decide +kernel, by decide +kernel, by decide +kernel⟩

theorem witness_AlertFramesFollowTheSummary_b :
    (AlertsFollow alertDue) ∧
    (alertDue.alertsOn (pathNo Path.mailbox) = true) ∧
    (alertDue.summary ≠ 0) ∧
    ((alertDue.path (pathNo Path.mailbox)).alertAt = some 100) := ⟨by unfold AlertsFollow; decide +kernel, by decide +kernel, by decide +kernel, by decide +kernel⟩
end commits
end Sys2Proof.Tests
end

