-- ==== Sys2Proof/Tests/WitnessHome.lean ====
section
/-! SUPPORT. Sys2Proof/Tests/WitnessHome.lean: for each clause of the statements about the capture home and the device caching agent, a state and operands that meet its
hypotheses together: witness_<statement>_<clause>, the clauses in the order in which the statement gives them. -/
set_option Elab.async false
open Sys2Proof Sys2Proof.Machine
namespace Sys2Proof.Tests
namespace home
def l64 : Octets := List.replicate 64 6
def noE : State := { homeIdle with obj := [(key 0x7800 1, .num region), (key 0x7800 2, .num 0)] }
def tx0 (s : State) : Txn := (s.txn (region + 128)).getD ⟨0, none, [], [], false⟩
def s17 : Snoop := ⟨17, true, 1, 4000⟩
def s18 : Snoop := ⟨18, true, 2, 4000⟩
def own17 : FilterEntry := ⟨0, 2, 17, [17], true, false⟩
def line9 (n : Nat) : DescLine := ⟨n, List.replicate 64 3, 0⟩
def snpS : State := snooping shared
def v1 : Waiter := ⟨region + 128, 0, lm 3, none, false, false⟩
def writing : DevReq := { asking with opc := 9, data := List.replicate 64 1 }
def writingS : State := { askingS with coh := { askingS.coh with reqs := [(9, writing)] } }
def bl : BufLine := ⟨0, 0, 128, List.replicate 64 9⟩

theorem witness_UncachedAccessesToCaptureMemory_a :
    (Instr.rdU32 0 (req 132 []) = Instr.rdU32 0 (req 132 []) ∧ 1 = 1 ∨
      Instr.rdU32 0 (req 132 []) = Instr.rdU64 0 (req 132 []) ∧ 1 = 2 ∨ Instr.rdU32 0 (req 132 []) = Instr.rdUline 0 (req 132 []) ∧ 1 = 3) ∧
    (Requests homeIdle 0 1 (req 132 []) 132) ∧
    (∀ (e : FilterEntry), homeIdle.entry (homeIdle.lineAddr 132) = some e → e.st ≠ 2) := ⟨by decide +kernel, by unfold Requests Alone Arrives LineQuiet; decide +kernel, by decide +kernel⟩

theorem witness_UncachedAccessesToCaptureMemory_a2 :
    (Instr.rdU64 0 (req 128 []) = Instr.rdU32 0 (req 128 []) ∧ 2 = 1 ∨
      Instr.rdU64 0 (req 128 []) = Instr.rdU64 0 (req 128 []) ∧ 2 = 2 ∨ Instr.rdU64 0 (req 128 []) = Instr.rdUline 0 (req 128 []) ∧ 2 = 3) ∧
    (Requests homeIdle 0 2 (req 128 []) 128) ∧
    (∀ (e : FilterEntry), homeIdle.entry (homeIdle.lineAddr 128) = some e → e.st ≠ 2) := ⟨by decide +kernel, by unfold Requests Alone Arrives LineQuiet; decide +kernel, by decide +kernel⟩

theorem witness_UncachedAccessesToCaptureMemory_a3 :
    (Instr.rdUline 0 (req 128 []) = Instr.rdU32 0 (req 128 []) ∧ 3 = 1 ∨
      Instr.rdUline 0 (req 128 []) = Instr.rdU64 0 (req 128 []) ∧ 3 = 2 ∨ Instr.rdUline 0 (req 128 []) = Instr.rdUline 0 (req 128 []) ∧ 3 = 3) ∧
    (Requests homeIdle 0 3 (req 128 []) 128) ∧
    (∀ (e : FilterEntry), homeIdle.entry (homeIdle.lineAddr 128) = some e → e.st ≠ 2) := ⟨by decide +kernel, by unfold Requests Alone Arrives LineQuiet; decide +kernel, by decide +kernel⟩

theorem witness_UncachedAccessesToCaptureMemory_b :
    (Instr.rdUline 0 (req 128 []) = Instr.rdU32 0 (req 128 []) ∧ 3 = 1 ∨
      Instr.rdUline 0 (req 128 []) = Instr.rdU64 0 (req 128 []) ∧ 3 = 2 ∨ Instr.rdUline 0 (req 128 []) = Instr.rdUline 0 (req 128 []) ∧ 3 = 3) ∧
    (Requests (entryAt 128 owned homeIdle) 0 3 (req 128 []) 128) ∧
    ((entryAt 128 owned homeIdle).entry ((entryAt 128 owned homeIdle).lineAddr 128) = some owned) ∧
    (owned.st = 2) := ⟨by decide +kernel, by unfold Requests Alone Arrives LineQuiet; decide +kernel, by decide +kernel, by decide +kernel⟩

theorem witness_UncachedAccessesToCaptureMemory_c :
    (Instr.wrU32 0 (req 132 [1, 2, 3, 4]) = Instr.wrU32 0 (req 132 [1, 2, 3, 4]) ∧ 4 = 4 ∧ 4 = 4 ∨
      Instr.wrU32 0 (req 132 [1, 2, 3, 4]) = Instr.wrU64 0 (req 132 [1, 2, 3, 4]) ∧ 4 = 5 ∧ 4 = 8 ∨
      Instr.wrU32 0 (req 132 [1, 2, 3, 4]) = Instr.wrUline 0 (req 132 [1, 2, 3, 4]) ∧ 4 = 6 ∧ 4 = 64) ∧
    (Requests homeIdle 0 4 (req 132 [1, 2, 3, 4]) 132) ∧
    (homeIdle.eAllowed = true) ∧
    (homeIdle.entry (homeIdle.lineAddr 132) = none) ∧
    (homeIdle.bankReady (bankOf 132) = true) ∧
    (homeIdle.redirected (132 / 64 * 64) = false) ∧
    (homeIdle.mem.wf = true) := ⟨by decide +kernel, by unfold Requests Alone Arrives LineQuiet; decide +kernel, by decide +kernel, by decide +kernel, by decide +kernel, by decide +kernel, by decide +kernel⟩

theorem witness_UncachedAccessesToCaptureMemory_c2 :
    (Instr.wrU64 0 (req 136 [1, 2, 3, 4, 5, 6, 7, 8]) = Instr.wrU32 0 (req 136 [1, 2, 3, 4, 5, 6, 7, 8]) ∧ 5 = 4 ∧ 8 = 4 ∨
      Instr.wrU64 0 (req 136 [1, 2, 3, 4, 5, 6, 7, 8]) = Instr.wrU64 0 (req 136 [1, 2, 3, 4, 5, 6, 7, 8]) ∧ 5 = 5 ∧ 8 = 8 ∨
      Instr.wrU64 0 (req 136 [1, 2, 3, 4, 5, 6, 7, 8]) = Instr.wrUline 0 (req 136 [1, 2, 3, 4, 5, 6, 7, 8]) ∧ 5 = 6 ∧ 8 = 64) ∧
    (Requests homeIdle 0 5 (req 136 [1, 2, 3, 4, 5, 6, 7, 8]) 136) ∧
    (homeIdle.eAllowed = true) ∧
    (homeIdle.entry (homeIdle.lineAddr 136) = none) ∧
    (homeIdle.bankReady (bankOf 136) = true) ∧
    (homeIdle.redirected (136 / 64 * 64) = false) ∧
    (homeIdle.mem.wf = true) := ⟨by decide +kernel, by unfold Requests Alone Arrives LineQuiet; decide +kernel, by decide +kernel, by decide +kernel, by decide +kernel, by decide +kernel, by decide +kernel⟩

theorem witness_UncachedAccessesToCaptureMemory_c3 :
    (Instr.wrUline 0 (req 128 l64) = Instr.wrU32 0 (req 128 l64) ∧ 6 = 4 ∧ 64 = 4 ∨
      Instr.wrUline 0 (req 128 l64) = Instr.wrU64 0 (req 128 l64) ∧ 6 = 5 ∧ 64 = 8 ∨
      Instr.wrUline 0 (req 128 l64) = Instr.wrUline 0 (req 128 l64) ∧ 6 = 6 ∧ 64 = 64) ∧
    (Requests homeIdle 0 6 (req 128 l64) 128) ∧
    (homeIdle.eAllowed = true) ∧
    (homeIdle.entry (homeIdle.lineAddr 128) = none) ∧
    (homeIdle.bankReady (bankOf 128) = true) ∧
    (homeIdle.redirected (128 / 64 * 64) = false) ∧
    (homeIdle.mem.wf = true) := ⟨by decide +kernel, by unfold Requests Alone Arrives LineQuiet; decide +kernel, by decide +kernel, by decide +kernel, by decide +kernel, by decide +kernel, by decide +kernel⟩

theorem witness_UncachedAccessesToCaptureMemory_d :
    (Instr.wrUline 0 (req 128 l64) = Instr.wrU32 0 (req 128 l64) ∧ 6 = 4 ∧ 64 = 4 ∨
      Instr.wrUline 0 (req 128 l64) = Instr.wrU64 0 (req 128 l64) ∧ 6 = 5 ∧ 64 = 8 ∨
      Instr.wrUline 0 (req 128 l64) = Instr.wrUline 0 (req 128 l64) ∧ 6 = 6 ∧ 64 = 64) ∧
    (Requests (entryAt 128 shared homeIdle) 0 6 (req 128 l64) 128) ∧
    ((entryAt 128 shared homeIdle).eAllowed = true) ∧
    ((entryAt 128 shared homeIdle).entry ((entryAt 128 shared homeIdle).lineAddr 128) = some shared) := ⟨by decide +kernel, by unfold Requests Alone Arrives LineQuiet; decide +kernel, by decide +kernel, by decide +kernel⟩

theorem witness_UncachedAccessesToCaptureMemory_e :
    (Instr.wrUline 0 (req 128 l64) = Instr.wrU32 0 (req 128 l64) ∧ 6 = 4 ∧ 64 = 4 ∨
      Instr.wrUline 0 (req 128 l64) = Instr.wrU64 0 (req 128 l64) ∧ 6 = 5 ∧ 64 = 8 ∨
      Instr.wrUline 0 (req 128 l64) = Instr.wrUline 0 (req 128 l64) ∧ 6 = 6 ∧ 64 = 64) ∧
    (Requests noE 0 6 (req 128 l64) 128) ∧
    (noE.eAllowed = false) := ⟨by decide +kernel, by unfold Requests Alone Arrives LineQuiet; decide +kernel, by decide +kernel⟩

theorem witness_CachedRequestsFollowTheDirectory_a :
    (Requests homeIdle 0 8 (req 128 []) 128) ∧
    (homeIdle.entry (homeIdle.lineAddr 128) = none) ∧
    (freeWays (homeIdle.setEntries (lineSet (homeIdle.lineAddr 128))) ≠ []) := ⟨by unfold Requests Alone Arrives LineQuiet; decide +kernel, by decide +kernel, by decide +kernel⟩

theorem witness_CachedRequestsFollowTheDirectory_b :
    (Requests homeIdle 0 9 (req 128 []) 128) ∧
    (homeIdle.eAllowed = true) ∧
    (homeIdle.entry (homeIdle.lineAddr 128) = none) ∧
    (freeWays (homeIdle.setEntries (lineSet (homeIdle.lineAddr 128))) ≠ []) := ⟨by unfold Requests Alone Arrives LineQuiet; decide +kernel, by decide +kernel, by decide +kernel, by decide +kernel⟩

theorem witness_CachedRequestsFollowTheDirectory_c :
    ((entryAt 128 shared homeIdle).entry ((entryAt 128 shared homeIdle).lineAddr 128) = some shared) ∧
    (shared.st ≠ 2) ∧
    (Requests (entryAt 128 shared homeIdle) 0 8 (req 128 []) 128) ∧
    (17 ∉ shared.holders) := ⟨by decide +kernel, by decide +kernel, by unfold Requests Alone Arrives LineQuiet; decide +kernel, by decide +kernel⟩

theorem witness_CachedRequestsFollowTheDirectory_d :
    ((entryAt 128 shared homeIdle).entry ((entryAt 128 shared homeIdle).lineAddr 128) = some shared) ∧
    (shared.st ≠ 2) ∧
    (Requests (entryAt 128 shared homeIdle) 0 9 (req 128 []) 128) ∧
    ((entryAt 128 shared homeIdle).eAllowed = true) ∧
    (17 ∉ shared.holders) := ⟨by decide +kernel, by decide +kernel, by unfold Requests Alone Arrives LineQuiet; decide +kernel, by decide +kernel, by decide +kernel⟩

theorem witness_CachedRequestsFollowTheDirectory_e :
    ((entryAt 128 sharedBy17 homeIdle).entry ((entryAt 128 sharedBy17 homeIdle).lineAddr 128) = some sharedBy17) ∧
    (sharedBy17.st ≠ 2) ∧
    (Requests (entryAt 128 sharedBy17 homeIdle) 0 10 (req 128 []) 128) ∧
    ((entryAt 128 sharedBy17 homeIdle).eAllowed = true) ∧
    (sharedBy17.holders = [17]) := ⟨by decide +kernel, by decide +kernel, by unfold Requests Alone Arrives LineQuiet; decide +kernel, by decide +kernel, by decide +kernel⟩

theorem witness_SnoopAnswersAndEvictionsAreApplied_a1 :
    (Alone (snooping shared)) ∧
    (Instr.rspI 0 (sn 1 []) = Instr.rspI 0 (sn 1 []) ∧ 2 = 2 ∧ 4 = 4 ∧ 0 = 0 ∨
      Instr.rspI 0 (sn 1 []) = Instr.rspS 0 (sn 1 []) ∧ 2 = 2 ∧ 4 = 5 ∧ 0 = 1 ∨
      Instr.rspI 0 (sn 1 []) = Instr.rspGoneC 0 (sn 1 []) ∧ 2 = 2 ∧ 4 = 6 ∧ 0 = 2 ∨
      Instr.rspI 0 (sn 1 []) = Instr.rspGoneD 0 (sn 1 []) ∧ 2 = 2 ∧ 4 = 7 ∧ 0 = 3 ∨
      Instr.rspI 0 (sn 1 []) = Instr.sdataI 0 (sn 1 []) ∧ 2 = 3 ∧ 4 = 5 ∧ 0 = 0 ∨
      Instr.rspI 0 (sn 1 []) = Instr.sdataS 0 (sn 1 []) ∧ 2 = 3 ∧ 4 = 6 ∧ 0 = 1) ∧
    (Arrives (snooping shared) 0 2 4 (sn 1 [])) ∧
    (msgLen (coherent 2 4 (sn 1 [])) = if 2 = 3 then 4 else 0) ∧
    (1099511627904 % 64 = 0) ∧
    ((snooping shared).txn 1099511627904 = some (tx0 (snooping shared))) ∧
    ((snooping shared).findSnoop 1099511627904 (coherent 2 4 (sn 1 [])) = some s17) ∧
    (s18 ∈ (tx0 (snooping shared)).snoops) ∧
    (s18 ≠ s17) ∧
    ((snooping shared).late .fab s17.since ((snooping shared).n 0x7801 1 * 1000) = false) := ⟨by unfold Alone; decide +kernel, by decide +kernel, by unfold Arrives; decide +kernel, by decide +kernel, by decide +kernel, by decide +kernel, by decide +kernel, by decide +kernel, by decide +kernel, by decide +kernel⟩

theorem witness_SnoopAnswersAndEvictionsAreApplied_a2 :
    (Alone (snooping shared)) ∧
    (Instr.rspS 0 (sn 1 []) = Instr.rspI 0 (sn 1 []) ∧ 2 = 2 ∧ 5 = 4 ∧ 1 = 0 ∨
      Instr.rspS 0 (sn 1 []) = Instr.rspS 0 (sn 1 []) ∧ 2 = 2 ∧ 5 = 5 ∧ 1 = 1 ∨
      Instr.rspS 0 (sn 1 []) = Instr.rspGoneC 0 (sn 1 []) ∧ 2 = 2 ∧ 5 = 6 ∧ 1 = 2 ∨
      Instr.rspS 0 (sn 1 []) = Instr.rspGoneD 0 (sn 1 []) ∧ 2 = 2 ∧ 5 = 7 ∧ 1 = 3 ∨
      Instr.rspS 0 (sn 1 []) = Instr.sdataI 0 (sn 1 []) ∧ 2 = 3 ∧ 5 = 5 ∧ 1 = 0 ∨
      Instr.rspS 0 (sn 1 []) = Instr.sdataS 0 (sn 1 []) ∧ 2 = 3 ∧ 5 = 6 ∧ 1 = 1) ∧
    (Arrives (snooping shared) 0 2 5 (sn 1 [])) ∧
    (msgLen (coherent 2 5 (sn 1 [])) = if 2 = 3 then 4 else 0) ∧
    (1099511627904 % 64 = 0) ∧
    ((snooping shared).txn 1099511627904 = some (tx0 (snooping shared))) ∧
    ((snooping shared).findSnoop 1099511627904 (coherent 2 5 (sn 1 [])) = some s17) ∧
    (s18 ∈ (tx0 (snooping shared)).snoops) ∧
    (s18 ≠ s17) ∧
    ((snooping shared).late .fab s17.since ((snooping shared).n 0x7801 1 * 1000) = false) := ⟨by unfold Alone; decide +kernel, by decide +kernel, by unfold Arrives; decide +kernel, by decide +kernel, by decide +kernel, by decide +kernel, by decide +kernel, by decide +kernel, by decide +kernel, by decide +kernel⟩

theorem witness_SnoopAnswersAndEvictionsAreApplied_a3 :
    (Alone (snooping shared)) ∧
    (Instr.rspGoneC 0 (sn 1 []) = Instr.rspI 0 (sn 1 []) ∧ 2 = 2 ∧ 6 = 4 ∧ 2 = 0 ∨
      Instr.rspGoneC 0 (sn 1 []) = Instr.rspS 0 (sn 1 []) ∧ 2 = 2 ∧ 6 = 5 ∧ 2 = 1 ∨
      Instr.rspGoneC 0 (sn 1 []) = Instr.rspGoneC 0 (sn 1 []) ∧ 2 = 2 ∧ 6 = 6 ∧ 2 = 2 ∨
      Instr.rspGoneC 0 (sn 1 []) = Instr.rspGoneD 0 (sn 1 []) ∧ 2 = 2 ∧ 6 = 7 ∧ 2 = 3 ∨
      Instr.rspGoneC 0 (sn 1 []) = Instr.sdataI 0 (sn 1 []) ∧ 2 = 3 ∧ 6 = 5 ∧ 2 = 0 ∨
      Instr.rspGoneC 0 (sn 1 []) = Instr.sdataS 0 (sn 1 []) ∧ 2 = 3 ∧ 6 = 6 ∧ 2 = 1) ∧
    (Arrives (snooping shared) 0 2 6 (sn 1 [])) ∧
    (msgLen (coherent 2 6 (sn 1 [])) = if 2 = 3 then 4 else 0) ∧
    (1099511627904 % 64 = 0) ∧
    ((snooping shared).txn 1099511627904 = some (tx0 (snooping shared))) ∧
    ((snooping shared).findSnoop 1099511627904 (coherent 2 6 (sn 1 [])) = some s17) ∧
    (s18 ∈ (tx0 (snooping shared)).snoops) ∧
    (s18 ≠ s17) ∧
    ((snooping shared).late .fab s17.since ((snooping shared).n 0x7801 1 * 1000) = false) := ⟨by unfold Alone; decide +kernel, by decide +kernel, by unfold Arrives; decide +kernel, by decide +kernel, by decide +kernel, by decide +kernel, by decide +kernel, by decide +kernel, by decide +kernel, by decide +kernel⟩

theorem witness_SnoopAnswersAndEvictionsAreApplied_a4 :
    (Alone (snooping shared)) ∧
    (Instr.rspGoneD 0 (sn 1 []) = Instr.rspI 0 (sn 1 []) ∧ 2 = 2 ∧ 7 = 4 ∧ 3 = 0 ∨
      Instr.rspGoneD 0 (sn 1 []) = Instr.rspS 0 (sn 1 []) ∧ 2 = 2 ∧ 7 = 5 ∧ 3 = 1 ∨
      Instr.rspGoneD 0 (sn 1 []) = Instr.rspGoneC 0 (sn 1 []) ∧ 2 = 2 ∧ 7 = 6 ∧ 3 = 2 ∨
      Instr.rspGoneD 0 (sn 1 []) = Instr.rspGoneD 0 (sn 1 []) ∧ 2 = 2 ∧ 7 = 7 ∧ 3 = 3 ∨
      Instr.rspGoneD 0 (sn 1 []) = Instr.sdataI 0 (sn 1 []) ∧ 2 = 3 ∧ 7 = 5 ∧ 3 = 0 ∨
      Instr.rspGoneD 0 (sn 1 []) = Instr.sdataS 0 (sn 1 []) ∧ 2 = 3 ∧ 7 = 6 ∧ 3 = 1) ∧
    (Arrives (snooping shared) 0 2 7 (sn 1 [])) ∧
    (msgLen (coherent 2 7 (sn 1 [])) = if 2 = 3 then 4 else 0) ∧
    (1099511627904 % 64 = 0) ∧
    ((snooping shared).txn 1099511627904 = some (tx0 (snooping shared))) ∧
    ((snooping shared).findSnoop 1099511627904 (coherent 2 7 (sn 1 [])) = some s17) ∧
    (s18 ∈ (tx0 (snooping shared)).snoops) ∧
    (s18 ≠ s17) ∧
    ((snooping shared).late .fab s17.since ((snooping shared).n 0x7801 1 * 1000) = false) := ⟨by unfold Alone; decide +kernel, by decide +kernel, by unfold Arrives; decide +kernel, by decide +kernel, by decide +kernel, by decide +kernel, by decide +kernel, by decide +kernel, by decide +kernel, by decide +kernel⟩

theorem witness_SnoopAnswersAndEvictionsAreApplied_a5 :
    (Alone (snooping shared)) ∧
    (Instr.sdataI 0 (sn 1 l64) = Instr.rspI 0 (sn 1 l64) ∧ 3 = 2 ∧ 5 = 4 ∧ 0 = 0 ∨
      Instr.sdataI 0 (sn 1 l64) = Instr.rspS 0 (sn 1 l64) ∧ 3 = 2 ∧ 5 = 5 ∧ 0 = 1 ∨
      Instr.sdataI 0 (sn 1 l64) = Instr.rspGoneC 0 (sn 1 l64) ∧ 3 = 2 ∧ 5 = 6 ∧ 0 = 2 ∨
      Instr.sdataI 0 (sn 1 l64) = Instr.rspGoneD 0 (sn 1 l64) ∧ 3 = 2 ∧ 5 = 7 ∧ 0 = 3 ∨
      Instr.sdataI 0 (sn 1 l64) = Instr.sdataI 0 (sn 1 l64) ∧ 3 = 3 ∧ 5 = 5 ∧ 0 = 0 ∨
      Instr.sdataI 0 (sn 1 l64) = Instr.sdataS 0 (sn 1 l64) ∧ 3 = 3 ∧ 5 = 6 ∧ 0 = 1) ∧
    (Arrives (snooping shared) 0 3 5 (sn 1 l64)) ∧
    (msgLen (coherent 3 5 (sn 1 l64)) = if 3 = 3 then 4 else 0) ∧
    (1099511627904 % 64 = 0) ∧
    ((snooping shared).txn 1099511627904 = some (tx0 (snooping shared))) ∧
    ((snooping shared).findSnoop 1099511627904 (coherent 3 5 (sn 1 l64)) = some s17) ∧
    (s18 ∈ (tx0 (snooping shared)).snoops) ∧
    (s18 ≠ s17) ∧
    ((snooping shared).late .fab s17.since ((snooping shared).n 0x7801 1 * 1000) = false) := ⟨by unfold Alone; decide +kernel, by decide +kernel, by unfold Arrives; decide +kernel, by decide +kernel, by decide +kernel, by decide +kernel, by decide +kernel, by decide +kernel, by decide +kernel, by decide +kernel⟩

theorem witness_SnoopAnswersAndEvictionsAreApplied_a6 :
    (Alone (snooping shared)) ∧
    (Instr.sdataS 0 (sn 1 l64) = Instr.rspI 0 (sn 1 l64) ∧ 3 = 2 ∧ 6 = 4 ∧ 1 = 0 ∨
      Instr.sdataS 0 (sn 1 l64) = Instr.rspS 0 (sn 1 l64) ∧ 3 = 2 ∧ 6 = 5 ∧ 1 = 1 ∨
      Instr.sdataS 0 (sn 1 l64) = Instr.rspGoneC 0 (sn 1 l64) ∧ 3 = 2 ∧ 6 = 6 ∧ 1 = 2 ∨
      Instr.sdataS 0 (sn 1 l64) = Instr.rspGoneD 0 (sn 1 l64) ∧ 3 = 2 ∧ 6 = 7 ∧ 1 = 3 ∨
      Instr.sdataS 0 (sn 1 l64) = Instr.sdataI 0 (sn 1 l64) ∧ 3 = 3 ∧ 6 = 5 ∧ 1 = 0 ∨
      Instr.sdataS 0 (sn 1 l64) = Instr.sdataS 0 (sn 1 l64) ∧ 3 = 3 ∧ 6 = 6 ∧ 1 = 1) ∧
    (Arrives (snooping shared) 0 3 6 (sn 1 l64)) ∧
    (msgLen (coherent 3 6 (sn 1 l64)) = if 3 = 3 then 4 else 0) ∧
    (1099511627904 % 64 = 0) ∧
    ((snooping shared).txn 1099511627904 = some (tx0 (snooping shared))) ∧
    ((snooping shared).findSnoop 1099511627904 (coherent 3 6 (sn 1 l64)) = some s17) ∧
    (s18 ∈ (tx0 (snooping shared)).snoops) ∧
    (s18 ≠ s17) ∧
    ((snooping shared).late .fab s17.since ((snooping shared).n 0x7801 1 * 1000) = false) := ⟨by unfold Alone; decide +kernel, by decide +kernel, by unfold Arrives; decide +kernel, by decide +kernel, by decide +kernel, by decide +kernel, by decide +kernel, by decide +kernel, by decide +kernel, by decide +kernel⟩

theorem witness_SnoopAnswersAndEvictionsAreApplied_b1 :
    (Alone (entryAt 128 own17 homeIdle)) ∧
    (Instr.evictC 0 (sn 1 []) = Instr.evictC 0 (sn 1 []) ∧ 1 = 1 ∨ Instr.evictC 0 (sn 1 []) = Instr.wbD 0 (sn 1 []) ∧ 1 = 2) ∧
    (Arrives (entryAt 128 own17 homeIdle) 0 4 1 (sn 1 [])) ∧
    (msgLen (coherent 4 1 (sn 1 [])) = if 1 = 2 then 4 else 0) ∧
    (1099511627904 % 64 = 0) ∧
    ((entryAt 128 own17 homeIdle).txn 1099511627904 = none) := ⟨by unfold Alone; decide +kernel, by decide +kernel, by unfold Arrives; decide +kernel, by decide +kernel, by decide +kernel, by decide +kernel⟩

theorem witness_SnoopAnswersAndEvictionsAreApplied_b2 :
    (Alone (entryAt 128 own17 homeIdle)) ∧
    (Instr.wbD 0 (sn 1 l64) = Instr.evictC 0 (sn 1 l64) ∧ 2 = 1 ∨ Instr.wbD 0 (sn 1 l64) = Instr.wbD 0 (sn 1 l64) ∧ 2 = 2) ∧
    (Arrives (entryAt 128 own17 homeIdle) 0 4 2 (sn 1 l64)) ∧
    (msgLen (coherent 4 2 (sn 1 l64)) = if 2 = 2 then 4 else 0) ∧
    (1099511627904 % 64 = 0) ∧
    ((entryAt 128 own17 homeIdle).txn 1099511627904 = none) := ⟨by unfold Alone; decide +kernel, by decide +kernel, by unfold Arrives; decide +kernel, by decide +kernel, by decide +kernel, by decide +kernel⟩

theorem witness_ForeignSnoopsAreAnswered_a :
    (Alone (descS 3)) ∧
    (msgLen (coherent 1 1 (at4096 [])) = 0) ∧
    (4096 % 64 = 0) ∧
    ((descS 3).desc 4096 = some (line9 3)) ∧
    (Arrives (descS 3) 0 1 1 (at4096 [])) := ⟨by unfold Alone; decide +kernel, by decide +kernel, by decide +kernel, by decide +kernel, by unfold Arrives; decide +kernel⟩

theorem witness_ForeignSnoopsAreAnswered_b :
    (Alone (descS 2)) ∧
    (msgLen (coherent 1 1 (at4096 [])) = 0) ∧
    (4096 % 64 = 0) ∧
    ((descS 2).desc 4096 = some (line9 2)) ∧
    (Arrives (descS 2) 0 1 2 (at4096 [])) := ⟨by unfold Alone; decide +kernel, by decide +kernel, by decide +kernel, by decide +kernel, by unfold Arrives; decide +kernel⟩

theorem witness_ForeignSnoopsAreAnswered_c :
    (Alone askingS) ∧
    (msgLen (coherent 1 1 (at4096 [])) = 0) ∧
    (4096 % 64 = 0) ∧
    (Instr.snpInv 0 (at4096 []) = Instr.snpInv 0 (at4096 []) ∧ 1 = 1 ∨ Instr.snpInv 0 (at4096 []) = Instr.snpShr 0 (at4096 []) ∧ 1 = 2) ∧
    (askingS.desc 4096 = none) ∧
    (Arrives askingS 0 1 1 (at4096 [])) ∧
    (∃ x ∈ askingS.coh.reqs, x.2.line = 4096 ∧ (x.2.opc = 8 ∨ x.2.opc = 9)) := ⟨by unfold Alone; decide +kernel, by decide +kernel, by decide +kernel, by decide +kernel, by decide +kernel, by unfold Arrives; decide +kernel, by decide +kernel⟩

theorem witness_ForeignSnoopsAreAnswered_d :
    (Alone homeIdle) ∧
    (msgLen (coherent 1 1 (at4096 [])) = 0) ∧
    (4096 % 64 = 0) ∧
    (Instr.snpShr 0 (at4096 []) = Instr.snpInv 0 (at4096 []) ∧ 2 = 1 ∨ Instr.snpShr 0 (at4096 []) = Instr.snpShr 0 (at4096 []) ∧ 2 = 2) ∧
    (homeIdle.desc 4096 = none) ∧
    (Arrives homeIdle 0 1 2 (at4096 [])) ∧
    (∀ x ∈ homeIdle.coh.reqs, x.2.line ≠ 4096) ∧
    (∀ x ∈ homeIdle.coh.wbs, x.2.line ≠ 4096) ∧
    (∀ x ∈ homeIdle.coh.wbWait, x.line ≠ 4096) := ⟨by unfold Alone; decide +kernel, by decide +kernel, by decide +kernel, by decide +kernel, by decide +kernel, by unfold Arrives; decide +kernel, by decide +kernel, by decide +kernel, by decide +kernel⟩

theorem witness_DeviceRequestsComplete_a :
    (Alone askingS) ∧
    (Instr.dataE 0 (at4096 l64) = Instr.wrAck 0 (at4096 l64) ∧ 3 = 2 ∧ 3 = 1 ∧ 0 = 0 ∧ 2 = 0 ∨
      Instr.dataE 0 (at4096 l64) = Instr.gntE 0 (at4096 l64) ∧ 3 = 2 ∧ 3 = 2 ∧ 0 = 0 ∧ 2 = 2 ∨
      Instr.dataE 0 (at4096 l64) = Instr.errAddr 0 (at4096 l64) ∧ 3 = 2 ∧ 3 = 28 ∧ 0 = 1 ∧ 2 = 0 ∨
      Instr.dataE 0 (at4096 l64) = Instr.errType 0 (at4096 l64) ∧ 3 = 2 ∧ 3 = 29 ∧ 0 = 1 ∧ 2 = 0 ∨
      Instr.dataE 0 (at4096 l64) = Instr.errGone 0 (at4096 l64) ∧ 3 = 2 ∧ 3 = 31 ∧ 0 = 2 ∧ 2 = 0 ∨
      Instr.dataE 0 (at4096 l64) = Instr.dataUc 0 (at4096 l64) ∧ 3 = 3 ∧ 3 = 1 ∧ 0 = 0 ∧ 2 = 0 ∨
      Instr.dataE 0 (at4096 l64) = Instr.dataS 0 (at4096 l64) ∧ 3 = 3 ∧ 3 = 2 ∧ 0 = 0 ∧ 2 = 1 ∨
      Instr.dataE 0 (at4096 l64) = Instr.dataE 0 (at4096 l64) ∧ 3 = 3 ∧ 3 = 3 ∧ 0 = 0 ∧ 2 = 2 ∨
      Instr.dataE 0 (at4096 l64) = Instr.dataI 0 (at4096 l64) ∧ 3 = 3 ∧ 3 = 4 ∧ 0 = 0 ∧ 2 = 0) ∧
    (Arrives askingS 0 3 3 (at4096 l64)) ∧
    (if 3 = 3 then
      if 3 = 1 then msgLen (coherent 3 3 (at4096 l64)) = 1 ∨ msgLen (coherent 3 3 (at4096 l64)) = 4
      else msgLen (coherent 3 3 (at4096 l64)) = 4 ∧ 4096 % 64 = 0
      else msgLen (coherent 3 3 (at4096 l64)) = 0) ∧
    (askingS.devReq 0 9 = some asking) ∧
    (askingS.coh.devWait = []) ∧
    (askingS.coh.deferred = []) ∧
    (2 ≠ 0 ∧ (at4096 l64).poison = false ∧ asking.opc = 8 ∧ (askingS.port 0).st ≠ 7) ∧
    (askingS.late .fab asking.since (askingS.n 0x7801 2 * 1000) = false) := ⟨by unfold Alone; decide +kernel, by decide +kernel, by unfold Arrives; decide +kernel, by decide +kernel, by decide +kernel, by decide +kernel, by decide +kernel, by decide +kernel, by decide +kernel⟩

theorem witness_DeviceRequestsComplete_a2 :
    (Alone askingS) ∧
    (Instr.errGone 0 (at4096 []) = Instr.wrAck 0 (at4096 []) ∧ 2 = 2 ∧ 31 = 1 ∧ 2 = 0 ∧ 0 = 0 ∨
      Instr.errGone 0 (at4096 []) = Instr.gntE 0 (at4096 []) ∧ 2 = 2 ∧ 31 = 2 ∧ 2 = 0 ∧ 0 = 2 ∨
      Instr.errGone 0 (at4096 []) = Instr.errAddr 0 (at4096 []) ∧ 2 = 2 ∧ 31 = 28 ∧ 2 = 1 ∧ 0 = 0 ∨
      Instr.errGone 0 (at4096 []) = Instr.errType 0 (at4096 []) ∧ 2 = 2 ∧ 31 = 29 ∧ 2 = 1 ∧ 0 = 0 ∨
      Instr.errGone 0 (at4096 []) = Instr.errGone 0 (at4096 []) ∧ 2 = 2 ∧ 31 = 31 ∧ 2 = 2 ∧ 0 = 0 ∨
      Instr.errGone 0 (at4096 []) = Instr.dataUc 0 (at4096 []) ∧ 2 = 3 ∧ 31 = 1 ∧ 2 = 0 ∧ 0 = 0 ∨
      Instr.errGone 0 (at4096 []) = Instr.dataS 0 (at4096 []) ∧ 2 = 3 ∧ 31 = 2 ∧ 2 = 0 ∧ 0 = 1 ∨
      Instr.errGone 0 (at4096 []) = Instr.dataE 0 (at4096 []) ∧ 2 = 3 ∧ 31 = 3 ∧ 2 = 0 ∧ 0 = 2 ∨
      Instr.errGone 0 (at4096 []) = Instr.dataI 0 (at4096 []) ∧ 2 = 3 ∧ 31 = 4 ∧ 2 = 0 ∧ 0 = 0) ∧
    (Arrives askingS 0 2 31 (at4096 [])) ∧
    (if 2 = 3 then
      if 31 = 1 then msgLen (coherent 2 31 (at4096 [])) = 1 ∨ msgLen (coherent 2 31 (at4096 [])) = 4
      else msgLen (coherent 2 31 (at4096 [])) = 4 ∧ 4096 % 64 = 0
      else msgLen (coherent 2 31 (at4096 [])) = 0) ∧
    (askingS.devReq 0 9 = some asking) ∧
    (askingS.coh.devWait = []) ∧
    (askingS.coh.deferred = []) ∧
    (askingS.late .fab asking.since (askingS.n 0x7801 2 * 1000) = false) := ⟨by unfold Alone; decide +kernel, by decide +kernel, by unfold Arrives; decide +kernel, by decide +kernel, by decide +kernel, by decide +kernel, by decide +kernel, by decide +kernel⟩

/-- A unit writes the line that it asked for. -/
theorem witness_DeviceRequestsComplete_a3 :
    (Alone writingS) ∧
    (Arrives writingS 0 3 3 (at4096 l64)) ∧
    (writingS.devReq 0 9 = some writing) ∧
    (writingS.late .fab writing.since (writingS.n 0x7801 2 * 1000) = false) ∧
    (writing.opc ≠ 8) ∧
    ((writingS.port 0).st ≠ 7) := ⟨by unfold Alone; decide +kernel, by unfold Arrives; decide +kernel, by decide +kernel, by decide +kernel, by decide +kernel, by decide +kernel⟩

theorem witness_DeviceRequestsComplete_a4 :
    (Arrives askingS 0 3 3 { at4096 l64 with poison := true }) ∧
    (askingS.devReq 0 9 = some asking) ∧
    (asking.opc = 8) := ⟨by unfold Arrives; decide +kernel, by decide +kernel, by decide +kernel⟩

theorem witness_DeviceRequestsComplete_b :
    (Alone wbS) ∧
    (Arrives wbS 0 2 3 (at4096 [])) ∧
    (msgLen (coherent 2 3 (at4096 [])) = 0) ∧
    (mget wbS.coh.wbs 9 = some asking) ∧
    (asking.port = 0) ∧
    (wbS.coh.wbWait = []) := ⟨by unfold Alone; decide +kernel, by unfold Arrives; decide +kernel, by decide +kernel, by decide +kernel, by decide +kernel, by decide +kernel⟩

theorem witness_DeviceRequestsComplete_c :
    (Alone askingS) ∧
    (mget askingS.coh.reqs 9 = some asking) ∧
    (askingS.coh.devWait = []) ∧
    (askingS.coh.deferred = []) ∧
    (askingS.mgtFast = true) := ⟨by unfold Alone; decide +kernel, by decide +kernel, by decide +kernel, by decide +kernel, by decide +kernel⟩

theorem witness_HomeTimersQueueAndCaptureWrites_a :
    (Alone snpS) ∧
    (snpS.txn 1099511627904 = some (tx0 snpS)) ∧
    ((snpS.port (portOfSid 17)).st ≠ 7) ∧
    (snpS.mgtFast = true) ∧
    (List.find? (fun y => y.sid == 17 && decide (y.tag < 4096)) (tx0 snpS).snoops = some s17) := ⟨by unfold Alone; decide +kernel, by decide +kernel, by decide +kernel, by decide +kernel, by decide +kernel⟩

theorem witness_HomeTimersQueueAndCaptureWrites_b :
    (Alone held8) ∧
    (held8.txn 1099511627904 = some (tx0 held8)) ∧
    ((held8.port (portOfSid 18)).st ≠ 7) ∧
    (held8.mgtFast = true) ∧
    (List.find? (fun y => y.1 == 18) (tx0 held8).wbHold = some (18, 4000)) := ⟨by unfold Alone; decide +kernel, by decide +kernel, by decide +kernel, by decide +kernel, by decide +kernel⟩

theorem witness_HomeTimersQueueAndCaptureWrites_c :
    (Alone queued) ∧
    (List.find? (fun w => decide (w.line = 1099511627904)) queued.coh.waiting = some v1) ∧
    (queued.region 1099511627904 = some 128) ∧
    (queued.txn 1099511627904 = none) ∧
    (v1.victim = none) ∧
    (v1.msg.opc ≤ 6) := ⟨by unfold Alone; decide +kernel, by decide +kernel, by decide +kernel, by decide +kernel, by decide +kernel, by decide +kernel⟩

theorem witness_HomeTimersQueueAndCaptureWrites_d :
    (Alone homeIdle) ∧
    (Accepted homeIdle jtag 30725 1 1099512152192) := ⟨by unfold Alone; decide +kernel, by unfold Accepted; decide +kernel⟩

theorem witness_HomeTimersQueueAndCaptureWrites_e :
    (Alone (buffered id)) ∧
    ((buffered id).sto.buf = [bl]) ∧
    ((buffered id).redirected bl.off = false) ∧
    ((buffered id).mem.wf = true) ∧
    (((buffered id).bank (bankOf bl.off)).bist ≠ 0) ∧
    (((buffered id).bank (bankOf bl.off)).st = 0 ∨ ((buffered id).bank (bankOf bl.off)).st = 1) ∧
    ((buffered id).entry ((buffered id).lineAddr bl.off) = none) := ⟨by unfold Alone; decide +kernel, by decide +kernel, by decide +kernel, by decide +kernel, by decide +kernel, by decide +kernel, by decide +kernel⟩

theorem witness_HomeTimersQueueAndCaptureWrites_f :
    (Alone (buffered (entryAt 128 shared))) ∧
    ((buffered (entryAt 128 shared)).sto.buf = [bl]) ∧
    ((buffered (entryAt 128 shared)).redirected bl.off = false) ∧
    ((buffered (entryAt 128 shared)).mem.wf = true) ∧
    (((buffered (entryAt 128 shared)).bank (bankOf bl.off)).bist ≠ 0) ∧
    (((buffered (entryAt 128 shared)).bank (bankOf bl.off)).st = 0 ∨ ((buffered (entryAt 128 shared)).bank (bankOf bl.off)).st = 1) ∧
    ((buffered (entryAt 128 shared)).entry ((buffered (entryAt 128 shared)).lineAddr bl.off) = some shared) ∧
    (shared.recalling = false) ∧
    (shared.holders ≠ []) ∧
    ((buffered (entryAt 128 shared)).txn ((buffered (entryAt 128 shared)).lineAddr bl.off) = none) := ⟨by unfold Alone; decide +kernel, by decide +kernel, by decide +kernel, by decide +kernel, by decide +kernel, by decide +kernel, by decide +kernel, by decide +kernel, by decide +kernel, by decide +kernel⟩
end home
end Sys2Proof.Tests
end

