-- ==== Sys2Proof/Tests/WitnessLinks.lean ====
section
/-! SUPPORT. Sys2Proof/Tests/WitnessLinks.lean: for each clause of the statements about the fabric mailbox, JTAG and the ports, a state and operands that meet its
hypotheses together: witness_<statement>_<clause>, the clauses in the order in which the statement gives them. -/
set_option Elab.async false
open Sys2Proof Sys2Proof.Machine
namespace Sys2Proof.Tests
namespace links
def mine : State := mailboxOf (some (0, 17, 5))
/-- The owner has been silent for longer than the claim limit. -/
def stale : State := { mine with now := mine.now + 10 ^ 12 }
def mineReq : State := { mine with acc := { mine.acc with reqLen := 4, request := [0x10, 1, 0x84, 0x10] } }
def sib : State := { base with acc := { base.acc with sib := true, tapIr := 0x10, jtagReq := [0x10, 1, 0x84, 0x10] } }
def ph (n : Nat) : State := port { st := 3, phase := n, attempt := 1, attemptAt := 4000 }
def v1 : State := port { (ph 6).port 0 with crinitIn := true }
def last4 : State := port { (ph 4).port 0 with attempt := 7 }
def g3 : State := { (ph 4) with obj := [(key 0x7003 1, .num 1)] }
/-- The flits held leave no room for another. -/
def full (x : PortSt) : PortSt := { x with held := (List.range 256).map fun n => (n, [1]) }
def retryS : State := port { st := 2, attempt := 1, retryAt := some 104000 }
def act : State := port active
def actE : State := port { active with epochNo := some 3, creditGot := [(0, 4)] }
def qu (a : Option Nat) : State := { (port { active with st := 7, quiesceAt := a }) with obj := [(key 0x7000 1, .num 0)] }
def quF : State := { (port (full { active with st := 7 })) with obj := [(key 0x7000 1, .num 0)] }
def aw : State := port { active with st := 5, admitted := false, trainedAt := 5000 }
def heldF : State := port { active with held := [(3, [1, 2]), (4, [5])] }
def withCrc (o : Octets) : Octets := o ++ leBytes 4 (crc32c o)
def fl (seq : Nat) : Octets := withCrc (leBytes 4 (2^30 + seq * 2^20) ++ List.replicate (flitLen 2 - 8) 0)

theorem witness_FieldNetworks_a :
    (can 1 []).pathUp 1 = true := by decide +kernel

theorem witness_FieldNetworks_b :
    (can 3 []).acc.canState = 3 := by decide +kernel

theorem witness_FieldNetworks_c :
    ((can 0 []).mgtFast = true) ∧
    (8 ≤ (can 0 []).boot.step) ∧
    ((can 0 []).b 4352 1 = true) ∧
    (((can 0 []).dom Domain.tick).inReset = false) ∧
    ((can 0 []).acc.canState = 0) := by decide +kernel

theorem witness_FieldNetworks_d :
    (can 1 []).pathUp 1 = true := by decide +kernel

theorem witness_FieldNetworks_d1 :
    ((can 1 []).pathUp 1 = true) ∧
    (255 ≤ 255) := by decide +kernel

theorem witness_FieldNetworks_d2 :
    ((can 1 []).pathUp 1 = true) ∧
    (255 < 256) := by decide +kernel

theorem witness_FieldNetworks_e :
    (netUp.acc.netDown = false) ∧
    (netUp.mgtFast = true) := by decide +kernel

theorem witness_FieldNetworks_g :
    (netUp.pathUp 2 = true) ∧
    (3232235781 = netUp.ownIp) := by decide +kernel

theorem witness_FieldNetworks_h :
    netUp.pathUp 2 = true := by decide +kernel

theorem witness_FieldNetworks_i :
    (netUp.pathUp 2 = true) ∧
    (3232235781 = netUp.ownIp) ∧
    (netUp.nextHop 3232235783 = some 3232235783) ∧
    (netUp.acc.netDown = false) ∧
    ((mget netUp.acc.arp 3232235783).isSome = true) := by decide +kernel

theorem witness_FieldNetworks_i1 :
    (netUp.pathUp 2 = true) ∧
    (3232235781 = netUp.ownIp) ∧
    (netUp.nextHop 3232235786 = some 3232235786) ∧
    (netUp.acc.netDown = false) ∧
    (mget netUp.acc.arp 3232235786 = none) := by decide +kernel

theorem witness_FieldNetworks_h1 :
    (netUp.pathUp 2 = true) ∧
    ((⟨0xC0A80109, 1, 2, 3, [1], false⟩ : Datagram) ∈ netUp.acc.arpWait) ∧
    (netUp.nextHop 0xC0A80109 = some 0xC0A80109) := by decide +kernel

theorem witness_FabricMailboxWindow_a0 :
    (stale.windowOpen 0 = true) ∧
    (stale.pathUp 3 = true) ∧
    (stale.acc.owner ≠ none) ∧
    (stale.late .mgt stale.acc.claimAt stale.claimLimit = true) ∧
    (5 % 65536 ≠ 0) := by decide +kernel

theorem witness_FabricMailboxWindow_a :
    (mailbox.windowOpen 0 = true) ∧
    (mailbox.pathUp 3 = true) ∧
    (mailbox.acc.owner = none) ∧
    (5 % 65536 ≠ 0) := by decide +kernel

theorem witness_FabricMailboxWindow_b :
    (mine.windowOpen 0 = true) ∧
    (mine.pathUp 3 = true) ∧
    (mine.acc.owner = some (0, 17, 5)) ∧
    ((0, 17) ≠ (0, 18)) ∧
    (mine.late .mgt mine.acc.claimAt mine.claimLimit = false) := by decide +kernel

theorem witness_FabricMailboxWindow_c :
    (mine.windowOpen 0 = true) ∧
    (mine.pathUp 3 = true) ∧
    (mine.acc.owner = some (0, 17, 5)) ∧
    (0 % 65536 = 0) ∧
    (mine.late .mgt mine.acc.claimAt mine.claimLimit = false) := by decide +kernel

theorem witness_FabricMailboxWindow_d :
    (mine.windowOpen 0 = true) ∧
    (mine.pathUp 3 = true) ∧
    (mine.acc.owner = some (0, 17, 5)) ∧
    (mine.acc.mbStatus ≠ 1) ∧
    (1 ≤ 256) ∧
    (256 ≤ 256) ∧
    (mine.late .mgt mine.acc.claimAt mine.claimLimit = false) := by decide +kernel

theorem witness_FabricMailboxWindow_e :
    (mine.windowOpen 0 = true) ∧
    (mine.pathUp 3 = true) ∧
    (mine.acc.owner = some (0, 17, 5)) ∧
    (mine.acc.mbStatus ≠ 1) ∧
    (257 = 0 ∨ 256 < 257) ∧
    (mine.late .mgt mine.acc.claimAt mine.claimLimit = false) := by decide +kernel

theorem witness_FabricMailboxWindow_f :
    (mine.windowOpen 0 = true) ∧
    (mine.pathUp 3 = true) ∧
    (mine.acc.owner = some (0, 17, 5)) ∧
    (mine.acc.mbStatus ≠ 1) ∧
    (256 ≤ 508) ∧
    (508 < 512) ∧
    ([1, 2, 3, 4].length = 4 ∨ [1, 2, 3, 4].length = 8) ∧
    (508 % [1, 2, 3, 4].length = 0) ∧
    (mine.late .mgt mine.acc.claimAt mine.claimLimit = false) := by decide +kernel

theorem witness_FabricMailboxWindow_g :
    (mineReq.windowOpen 0 = true) ∧
    (mineReq.pathUp 3 = true) ∧
    (mineReq.acc.owner = some (0, 17, 5)) ∧
    (mineReq.acc.mbStatus ≠ 1) ∧
    (1 = 1#32) ∧
    (mineReq.late .mgt mineReq.acc.claimAt mineReq.claimLimit = false) := by decide +kernel

theorem witness_FabricMailboxWindow_h :
    mine.acc.owner ≠ none := by decide +kernel

theorem witness_FabricMailboxWindow_i :
    (mine.windowOpen 0 = true) ∧
    ((mine.dom Domain.mgt).inReset = false) := by decide +kernel

theorem witness_FabricMailboxWindow_j :
    (mine.windowOpen 0 = true) ∧
    (mine.pathUp 3 = true) := by decide +kernel

theorem witness_FabricMailboxWindow_k :
    (mine.windowOpen 0 = true) ∧
    (mine.pathUp 3 = true) ∧
    (2 < 3) := by decide +kernel

theorem witness_FabricMailboxWindow_l :
    (mine.windowOpen 0 = true) ∧
    (mine.pathUp 3 = true) := by decide +kernel

theorem witness_FabricMailboxWindow_m :
    (mine.windowOpen 0 = true) ∧
    (mine.pathUp 3 = true) := by decide +kernel

theorem witness_TapAndJtagMailbox_c :
    tapCode 7 = false := by decide +kernel

theorem witness_TapAndJtagMailbox_d :
    sib.jtagOpen = true := by decide +kernel

theorem witness_TapAndJtagMailbox_e :
    sib.jtagOpen = true := by decide +kernel

theorem witness_TapAndJtagMailbox_f :
    sib.jtagOpen = true := by decide +kernel

theorem witness_TapAndJtagMailbox_g :
    sib.jtagOpen = true := by decide +kernel

theorem witness_TapAndJtagMailbox_h :
    sib.jtagOpen = true := by decide +kernel

theorem witness_TrainingPassesItsPhases_a :
    (Alone (ph 1)) ∧
    (((ph 1).port 0).phase = 1) := ⟨by unfold Alone; decide +kernel, by decide +kernel⟩

theorem witness_TrainingPassesItsPhases_b :
    (Alone (ph 2)) ∧
    (((ph 2).port 0).phase = 2) := ⟨by unfold Alone; decide +kernel, by decide +kernel⟩

theorem witness_TrainingPassesItsPhases_c :
    (Alone (ph 3)) ∧
    (((ph 3).port 0).phase = 3) ∧
    ((ph 3).mgtFast = true) ∧
    (inSubset 0 3 false = true) := ⟨by unfold Alone; decide +kernel, by decide +kernel, by decide +kernel, by decide +kernel⟩

theorem witness_TrainingPassesItsPhases_d :
    (Alone (ph 4)) ∧
    (((ph 4).port 0).phase = 4) ∧
    (bits 1330380855 16 16 = 20300) ∧
    (bits 1330380855 0 3 ≠ 0) ∧
    (pickGen (bits 1330380855 0 3) ((ph 4).n 28675 (0 + 1)) ≠ 0) := ⟨by unfold Alone; decide +kernel, by decide +kernel, by decide +kernel, by decide +kernel, by decide +kernel⟩

theorem witness_TrainingPassesItsPhases_e :
    (Alone (ph 5)) ∧
    (((ph 5).port 0).phase = 5) := ⟨by unfold Alone; decide +kernel, by decide +kernel⟩

theorem witness_TrainingPassesItsPhases_e1 :
    (((ph 5).port 0).phase = 5) ∧
    (((ph 5).port 0).held.length < 256) ∧
    (((ph 5).port 0).ctrlq = []) := by decide +kernel

theorem witness_TrainingPassesItsPhases_e2 :
    (((port (full ((ph 5).port 0))).port 0).phase = 5) ∧
    (256 ≤ ((port (full ((ph 5).port 0))).port 0).held.length) := by decide +kernel

theorem witness_TrainingPassesItsPhases_f :
    (Alone (ph 6)) ∧
    (((ph 6).port 0).phase = 6) ∧
    (((ph 6).port 0).crinitIn = false) := ⟨by unfold Alone; decide +kernel, by decide +kernel, by decide +kernel⟩

theorem witness_TrainingPassesItsPhases_g :
    (Alone v1) ∧
    ((v1.port 0).phase = 6) ∧
    (bit 1 1 = false) ∧
    (bit 1 0 = true) := ⟨by unfold Alone; decide +kernel, by decide +kernel, by decide +kernel, by decide +kernel⟩

theorem witness_TrainingPassesItsPhases_h :
    (Alone v1) ∧
    ((v1.port 0).phase = 6) ∧
    (bit 4 1 = false) ∧
    (bit 4 0 = false) := ⟨by unfold Alone; decide +kernel, by decide +kernel, by decide +kernel, by decide +kernel⟩

theorem witness_FailedAttemptsAreRepeated_a :
    (Alone (ph 1)) ∧
    (((ph 1).port 0).phase = 1) := ⟨by unfold Alone; decide +kernel, by decide +kernel⟩

theorem witness_FailedAttemptsAreRepeated_b :
    (Alone (ph 2)) ∧
    (((ph 2).port 0).phase = 2) := ⟨by unfold Alone; decide +kernel, by decide +kernel⟩

theorem witness_FailedAttemptsAreRepeated_c :
    (Alone (ph 3)) ∧
    (((ph 3).port 0).phase = 3) := ⟨by unfold Alone; decide +kernel, by decide +kernel⟩

theorem witness_FailedAttemptsAreRepeated_c1 :
    (Alone (ph 3)) ∧
    (((ph 3).port 0).phase = 3) ∧
    (inSubset 0 0 false = false) := ⟨by unfold Alone; decide +kernel, by decide +kernel, by decide +kernel⟩

theorem witness_FailedAttemptsAreRepeated_d :
    (Alone (ph 4)) ∧
    (((ph 4).port 0).phase = 4) ∧
    (bits 5 16 16 ≠ 20300 ∨ bits 5 0 3 = 0) := ⟨by unfold Alone; decide +kernel, by decide +kernel, by decide +kernel⟩

theorem witness_FailedAttemptsAreRepeated_d2 :
    (Alone last4) ∧
    ((last4.port 0).phase = 4) ∧
    (bits 5 16 16 ≠ 20300 ∨ bits 5 0 3 = 0) := ⟨by unfold Alone; decide +kernel, by decide +kernel, by decide +kernel⟩

theorem witness_FailedAttemptsAreRepeated_e :
    (Alone g3) ∧
    ((g3.port 0).phase = 4) ∧
    (bits 1330380850 16 16 = 20300) ∧
    (bits 1330380850 0 3 ≠ 0) ∧
    (pickGen (bits 1330380850 0 3) (g3.n 28675 (0 + 1)) = 0) := ⟨by unfold Alone; decide +kernel, by decide +kernel, by decide +kernel, by decide +kernel, by decide +kernel⟩

theorem witness_FailedAttemptsAreRepeated_f :
    (Alone (ph 6)) ∧
    (((ph 6).port 0).phase = 6) ∧
    (bit 2 1 = true) := ⟨by unfold Alone; decide +kernel, by decide +kernel, by decide +kernel⟩

theorem witness_FailedAttemptsAreRepeated_g :
    (Alone (ph 5)) ∧
    (5 = 4 ∨ 5 = 5 ∨ 5 = 6) ∧
    (((ph 5).port 0).phase = 5) ∧
    ((ph 5).mgtFast = true) := ⟨by unfold Alone; decide +kernel, by decide +kernel, by decide +kernel, by decide +kernel⟩

theorem witness_FailedAttemptsAreRepeated_g4 :
    (Alone (ph 4)) ∧
    (4 = 4 ∨ 4 = 5 ∨ 4 = 6) ∧
    (((ph 4).port 0).phase = 4) ∧
    ((ph 4).mgtFast = true) := ⟨by unfold Alone; decide +kernel, by decide +kernel, by decide +kernel, by decide +kernel⟩

theorem witness_FailedAttemptsAreRepeated_g6 :
    (Alone (ph 6)) ∧
    (6 = 4 ∨ 6 = 5 ∨ 6 = 6) ∧
    (((ph 6).port 0).phase = 6) ∧
    ((ph 6).mgtFast = true) := ⟨by unfold Alone; decide +kernel, by decide +kernel, by decide +kernel, by decide +kernel⟩

theorem witness_FailedAttemptsAreRepeated_h :
    (Alone (ph 5)) ∧
    (((ph 5).port 0).phase ≠ 0) := ⟨by unfold Alone; decide +kernel, by decide +kernel⟩

theorem witness_FailedAttemptsAreRepeated_i :
    (Alone retryS) ∧
    ((retryS.port 0).retryAt = some 104000) := ⟨by unfold Alone; decide +kernel, by decide +kernel⟩

theorem witness_PortsLeaveService_a :
    (Alone act) ∧
    ((act.port 0).trained = true) ∧
    ((act.port 0).st ≠ 7) := ⟨by unfold Alone; decide +kernel, by decide +kernel, by decide +kernel⟩

theorem witness_PortsLeaveService_b :
    (Alone act) ∧
    (Accepted act jtag 28704 (0 + 1) 1381257806) ∧
    ((act.port 0).st ≠ 7) := ⟨by unfold Alone; decide +kernel, by unfold Accepted; decide +kernel, by decide +kernel⟩

theorem witness_PortsLeaveService_c :
    (Alone actE) ∧
    ((actE.port 0).epochNo = some 3) ∧
    (false = false) ∧
    (∀ v < 8, [4][v]?.getD 0 = mgetD (actE.port 0).creditGot v 0) := ⟨by unfold Alone; decide +kernel, by decide +kernel, by decide +kernel, by decide +kernel⟩

theorem witness_PortsLeaveService_d :
    (Alone actE) ∧
    ((actE.port 0).epochNo = some 3) ∧
    (true = true) ∧
    ((actE.port 0).st ≠ 7) := ⟨by unfold Alone; decide +kernel, by decide +kernel, by decide +kernel, by decide +kernel⟩

theorem witness_PortsLeaveService_e :
    (Alone actE) ∧
    ((actE.port 0).st ≠ 0) ∧
    (actE.mgtFast = true) := ⟨by unfold Alone; decide +kernel, by decide +kernel, by decide +kernel⟩

theorem witness_PortsLeaveService_f :
    (Alone (qu none)) ∧
    (((qu none).port 0).st = 7) ∧
    (((qu none).port 0).quiesceAt = none) ∧
    ((qu none).owesAnswers 0 = false) ∧
    (((qu none).port 0).held.length < 256) ∧
    (((qu none).port 0).ctrlq = []) := ⟨by unfold Alone; decide +kernel, by decide +kernel, by decide +kernel, by decide +kernel, by decide +kernel, by decide +kernel⟩

theorem witness_PortsLeaveService_f1 :
    (Alone quF) ∧
    ((quF.port 0).st = 7) ∧
    ((quF.port 0).quiesceAt = none) ∧
    (quF.owesAnswers 0 = false) ∧
    (256 ≤ (quF.port 0).held.length) := ⟨by unfold Alone; decide +kernel, by decide +kernel, by decide +kernel, by decide +kernel, by decide +kernel⟩

theorem witness_PortsLeaveService_g :
    (Alone (qu (some 4000))) ∧
    (((qu (some 4000)).port 0).st = 7) ∧
    (((qu (some 4000)).port 0).quiesceAt = some 4000) ∧
    ((qu (some 4000)).b 28672 (0 + 1) = false) := ⟨by unfold Alone; decide +kernel, by decide +kernel, by decide +kernel, by decide +kernel⟩

theorem witness_EpochsReplaysAndFlits_a :
    (Alone aw) ∧
    ((aw.port 0).trained = true) ∧
    ((aw.port 0).held.length < 256) ∧
    ((aw.port 0).ctrlq = []) ∧
    ((aw.port 0).st = 5) ∧
    ((aw.port 0).trainedAt + 64 ≤ aw.nextEpoch) := ⟨by unfold Alone; decide +kernel, by decide +kernel, by decide +kernel, by decide +kernel, by decide +kernel, by decide +kernel⟩

theorem witness_EpochsReplaysAndFlits_a1 :
    (Alone (port (full active))) ∧
    (((port (full active)).port 0).trained = true) ∧
    (256 ≤ ((port (full active)).port 0).held.length) := ⟨by unfold Alone; decide +kernel, by decide +kernel, by decide +kernel⟩

theorem witness_EpochsReplaysAndFlits_b :
    (Alone heldF) ∧
    ((heldF.port 0).linked = true) ∧
    ((heldF.port 0).held ≠ []) ∧
    ((heldF.port 0).repCount < 7) := ⟨by unfold Alone; decide +kernel, by decide +kernel, by decide +kernel, by decide +kernel⟩

set_option maxRecDepth 100000 in
theorem witness_EpochsReplaysAndFlits_c :
    (Alone act) ∧
    ((act.port 0).linked = true) ∧
    ((List.replicate (flitLen 2) 1).length = flitLen (act.port 0).gen) ∧
    (leAt (List.replicate (flitLen 2) 1) (flitLen (act.port 0).gen - 4) 4 ≠
      crc32c (List.take (flitLen (act.port 0).gen - 4) (List.replicate (flitLen 2) 1))) := ⟨by unfold Alone; decide +kernel, by decide +kernel, by decide +kernel, by decide +kernel⟩

set_option maxRecDepth 100000 in
theorem witness_EpochsReplaysAndFlits_d :
    (Alone act) ∧
    ((act.port 0).linked = true) ∧
    (List.length (fl 5) = flitLen (act.port 0).gen) ∧
    (leAt (fl 5) (flitLen (act.port 0).gen - 4) 4 = crc32c (List.take (flitLen (act.port 0).gen - 4) (fl 5))) ∧
    (bits (leAt (fl 5) 0 4) 30 2 = 1 ∨ bits (leAt (fl 5) 0 4) 30 2 = 2) ∧
    (bits (leAt (fl 5) 0 4) 20 10 ≠ (act.port 0).rxSeq) := ⟨by unfold Alone; decide +kernel, by decide +kernel, by decide +kernel, by decide +kernel, by decide +kernel, by decide +kernel⟩

set_option maxRecDepth 100000 in
theorem witness_EpochsReplaysAndFlits_e :
    (Alone act) ∧
    ((act.port 0).linked = true) ∧
    (List.length (fl 0) = flitLen (act.port 0).gen) ∧
    (leAt (fl 0) (flitLen (act.port 0).gen - 4) 4 = crc32c (List.take (flitLen (act.port 0).gen - 4) (fl 0))) ∧
    (bits (leAt (fl 0) 0 4) 30 2 = 1) ∧
    (bits (leAt (fl 0) 0 4) 20 10 = (act.port 0).rxSeq) ∧
    (bits (leAt (fl 0) 0 4) 4 6 = 0) ∧
    ((act.port 0).cont = 0) ∧
    (((List.take (flitLen (act.port 0).gen - 16) (List.drop 12 (fl 0))).all fun b => b == 0) = true) := ⟨by unfold Alone; decide +kernel, by decide +kernel, by decide +kernel, by decide +kernel, by decide +kernel, by decide +kernel, by decide +kernel, by decide +kernel, by decide +kernel⟩
end links
end Sys2Proof.Tests
end

