-- ==== Sys2Proof/Tests/WitnessMemory.lean ====
section
/-! SUPPORT. Sys2Proof/Tests/WitnessMemory.lean: for each clause of the statements about windows, streams, banks, vault and jobs, a state and operands that meet its
hypotheses together: witness_<statement>_<clause>, the clauses in the order in which the statement gives them. -/
set_option Elab.async false
open Sys2Proof Sys2Proof.Machine
namespace Sys2Proof.Tests
namespace memory
def wk : State := { (bankS { st := 3, bist := 1 } 1) with commit := { base.commit with state := 3, boundary := 6144 }, staged := [⟨0x2300, 4, .num 0, .jtag, 3, false⟩] }
def v1 : State := bankS { st := 1, target := 3 } 1
def v2 : State := bankS { st := 2, target := 3 , since := 4000} 1
def v3 : State := bankS { st := 2, target := 4 , since := 4000} 2
def v4 : State := bankS { st := 2, target := 4 , since := 4000} 0
def v5 : State := bankS { st := 2, target := 3 , since := 4000} 2
def v6 : State := bankS { st := 5, zeroNext := true , since := 4000} 0
def v7 : State := bankS { st := 5, since := 4000} 0
def v8 : State := bankS { st := 5, since := 4000} 2
def v9 : State := bankS { st := 6, target := 3, since := 4000} 1
def v10 : State := bankS { st := 6, target := 0, since := 4000} 0
def v11 : State := bankS { st := 6, target := 4, since := 4000} 2
def v12 : State := bankS { st := 0 } 0
def v13 : State := bankS { st := 5, since := 4000 } 0
def mgtDown : State := (testing 5 id).setDom .mgt { runs with inReset := true }
def v14 : TestFinding := {}
def v15 : TestFinding := { faults := [(1, 2, 3)] }
def v16 : State := testing 3 fun m => { m with abandoned := true }
def visited1 : State := testing 5 fun m => { m with visited := 1 }
def wip (n : Nat) : State := { base with sec := { base.sec with vaultState := n, wipePending := some 3 } }
def v17 : State := jobs { st := 2, desc := jobDesc 1 }
def rdy (op : Nat) : State := jobs { st := 2, desc := jobDesc op }
def v18 : LaneEvent := {}
def runJ (op lane : Nat) : State := jobs { st := 3, desc := jobDesc op, lane := lane, since := 4000 }
def v19 : JobInput := { input := [1,1,1,1] }
def crc (o : Octets) : Octets := o ++ leBytes 4 (crc32c o)
def frameO (h : Nat) (rest : Octets) : Octets := let b := leBytes 1 h ++ rest; crc (b ++ List.replicate (45 - b.length) 0)
def lone : State := paired (fun p => { p with aligned := false, good := 15 }) 1
def shadow (w : Nat) : State := paired (fun p => { p with catchup := 7, words := [(4992, w), (4993, 0), (4994, 0), (4995, 0)], absent := false, run := 5, eligible := true }) 3
def v20 : State := paired (fun p => { p with losAt := some 4000, los := 3, aligned := false }) 3
def v21 : State := paired (fun p => { p with hbRun := true }) 2
def v22 : State := paired (fun p => { p with hbRun := true, eligible := true }) 3
def unack (n r : Nat) : State := paired (fun p => { p with unacked := [⟨1, true, [1]⟩, ⟨2, true, [2]⟩], resends := n }) r

theorem witness_BanksMoveBetweenPowerStates_a :
    (wk.commit.state = 3) ∧
    ((wk.bank 3).st = 3) ∧
    (∃ e ∈ wk.staged, e.idx = 8960 ∧ e.sub = 3 + 1 ∧ valNum e.val = 0) ∧
    (wk.time.tickRun = true) ∧
    (wk.time.bridging = false) ∧
    (wk.commit.boundary < 2 ^ 64) := by decide +kernel

theorem witness_BanksMoveBetweenPowerStates_b :
    ((v1.bank 3).st = 1) ∧
    (∀ l ∈ v1.sto.buf, bankOf l.off ≠ 3) ∧
    (¬(v1.mem.tbank = 3 ∧ 1 ≤ v1.mem.phase ∧ v1.mem.phase ≤ 3)) := by decide +kernel

theorem witness_BanksMoveBetweenPowerStates_c :
    ((v2.bank 3).st = 2) ∧
    ((v2.bank 3).target = 3 ∨ (v2.bank 3).target = 4) := by decide +kernel

theorem witness_BanksMoveBetweenPowerStates_c2 :
    ((v3.bank 3).st = 2) ∧
    ((v3.bank 3).target = 3 ∨ (v3.bank 3).target = 4) := by decide +kernel

theorem witness_BanksMoveBetweenPowerStates_c3 :
    ((v4.bank 3).st = 2) ∧
    ((v4.bank 3).target = 3 ∨ (v4.bank 3).target = 4) := by decide +kernel

theorem witness_BanksMoveBetweenPowerStates_c4 :
    ((v5.bank 3).st = 2) ∧
    ((v5.bank 3).target = 3 ∨ (v5.bank 3).target = 4) := by decide +kernel

theorem witness_BanksMoveBetweenPowerStates_d :
    ((v6.bank 3).st = 5) ∧
    ((v6.bank 3).zeroNext = true) := by decide +kernel

theorem witness_BanksMoveBetweenPowerStates_e :
    ((v7.bank 3).st = 5) ∧
    ((v7.bank 3).zeroNext = false) ∧
    (v7.z 8960 (3 + 1) = 0 ∨ v7.commit.state = 3) := by decide +kernel

theorem witness_BanksMoveBetweenPowerStates_f :
    ((v8.bank 3).st = 5) ∧
    ((v8.bank 3).zeroNext = false) ∧
    (v8.z 8960 (3 + 1) = 1 ∨ v8.z 8960 (3 + 1) = 2) ∧
    (v8.commit.state ≠ 3) := by decide +kernel

theorem witness_BanksMoveBetweenPowerStates_g :
    ((v9.bank 3).st = 6) ∧
    ((v9.bank 3).target = 3) := by decide +kernel

theorem witness_BanksMoveBetweenPowerStates_h :
    ((v10.bank 3).st = 6) ∧
    ((v10.bank 3).target ≠ 3) ∧
    (v10.z 8960 (3 + 1) = 0) := by decide +kernel

theorem witness_BanksMoveBetweenPowerStates_i :
    ((v11.bank 3).st = 6) ∧
    ((v11.bank 3).target ≠ 3) ∧
    (v11.z 8960 (3 + 1) = 1 ∨ v11.z 8960 (3 + 1) = 2) := by decide +kernel

theorem witness_BanksMoveBetweenPowerStates_j :
    (Alone v12) ∧
    (v12.mgtFast = true) ∧
    ((v12.bank 3).st = 0 ∨ (v12.bank 3).st = 1 ∨ (v12.bank 3).st = 3 ∨ (v12.bank 3).st = 6) ∧
    (¬((v12.bank 3).st = 1 ∧ (v12.bank 3).target = 4 ∧ (v12.bank 3).since = v12.now)) := ⟨by unfold Alone; decide +kernel, by decide +kernel, by decide +kernel, by decide +kernel⟩

theorem witness_BanksMoveBetweenPowerStates_k :
    (Alone v13) ∧
    (v13.mgtFast = true) ∧
    ((v13.bank 3).st = 1 ∨ (v13.bank 3).st = 2 ∨ (v13.bank 3).st = 5 ∨ (v13.bank 3).st = 6) := ⟨by unfold Alone; decide +kernel, by decide +kernel, by decide +kernel⟩

theorem witness_BackgroundTestAndVaultWipe_a :
    ((testing 5 id).mem.phase = 5) ∧
    ((testing 5 id).mgtUp = true) ∧
    ((testing 5 id).bankReady (testing 5 id).mem.tbank = true) ∧
    ((testing 5 id).mem.visited = 0) := by decide +kernel

theorem witness_BackgroundTestAndVaultWipe_b :
    (mgtDown.mem.phase = 5) ∧
    (mgtDown.mgtUp = false) := by decide +kernel

theorem witness_BackgroundTestAndVaultWipe_c :
    (testing 1 id).mem.phase = 1 := by decide +kernel

theorem witness_BackgroundTestAndVaultWipe_d :
    ((testing 2 id).mem.phase = 2) ∧
    (v14.faults = []) := by decide +kernel

theorem witness_BackgroundTestAndVaultWipe_e :
    ((testing 2 id).mem.phase = 2) ∧
    (v15.faults = [(1, 2, 3)]) ∧
    (((testing 2 id).bank (testing 2 id).mem.tbank).spared.contains ((1, 2, 3).1 * 512 + (1, 2, 3).2.1) = false) ∧
    ((testing 2 id).mgtFast = true) := by decide +kernel

theorem witness_BackgroundTestAndVaultWipe_f :
    ((testing 3 id).mem.phase = 3) ∧
    ((testing 3 id).mem.abandoned = false) ∧
    (v14.badLines = []) := by decide +kernel

theorem witness_BackgroundTestAndVaultWipe_g :
    (v16.mem.phase = 3) ∧
    (v16.mem.abandoned = true) ∧
    (v14.badLines = []) ∧
    (v16.mem.abandons < v16.n 21504 3) := by decide +kernel

theorem witness_BackgroundTestAndVaultWipe_h :
    ((testing 4 id).mem.phase = 4) ∧
    (v14.faults = []) := by decide +kernel

theorem witness_BackgroundTestAndVaultWipe_k :
    (visited1.mem.phase = 5) ∧
    (visited1.mgtUp = true) ∧
    (visited1.bankReady visited1.mem.tbank = true) ∧
    (visited1.mem.visited = 1) ∧
    (visited1.mem.tregion + 1 < 512) := by decide +kernel

theorem witness_BackgroundTestAndVaultWipe_i :
    ((wip 2).sec.vaultState ≠ 0) ∧
    ((wip 2).sec.wipePending = some 3) := by decide +kernel

theorem witness_BackgroundTestAndVaultWipe_j :
    ((wip 1).sec.wipePending.isSome = true) ∧
    ((wip 1).sec.vaultState = 1) ∧
    ((wip 1).sec.trState ≠ 2) ∧
    ((wip 1).mgtUp = true) := by decide +kernel

theorem witness_CaptureMemoryStaysCanonical_a :
    (testing 4 id).mem.wf = true := by decide +kernel

theorem witness_CaptureMemoryStaysCanonical_b :
    (testing 4 id).mem.wf = true ∧ ∃ r, Instr.backgroundPhaseDone v14 = .backgroundPhaseDone r := ⟨by decide +kernel, _, rfl⟩

theorem witness_JobsRunInOrder_a :
    (Alone v17) ∧
    (Accepted v17 jtag 22530 1 8) := ⟨by unfold Alone; decide +kernel, by unfold Accepted; decide +kernel⟩

theorem witness_JobsRunInOrder_b :
    (Alone (rdy 1)) ∧
    (List.find? (fun c => ((rdy 1).job c).st == 1 || ((rdy 1).job c).st == 2 || ((rdy 1).job c).st == 5 || ((rdy 1).job c).st == 7)
      (rdy 1).jobCounts =
      some 5) ∧
    (((rdy 1).job 5).st = 2) ∧
    ((rdy 1).engineOn = true) ∧
    ((rdy 1).b 22529 2 = true) ∧
    (v18.bad = false) ∧
    (((rdy 1).job 5).valid = true) ∧
    (((rdy 1).job 5).codes = true) ∧
    ((rdy 1).freeLane = some 0) ∧
    (∀ i < 4, (rdy 1).streamWants i = false) ∧
    (List.length (rdy 1).comp.lane < 8) := ⟨by unfold Alone; decide +kernel, by decide +kernel, by decide +kernel, by decide +kernel, by decide +kernel, by decide +kernel, by decide +kernel, by decide +kernel, by decide +kernel, by decide +kernel, by decide +kernel⟩

theorem witness_JobsRunInOrder_c :
    (Alone (rdy 4)) ∧
    (List.find? (fun c => ((rdy 4).job c).st == 1 || ((rdy 4).job c).st == 2 || ((rdy 4).job c).st == 5 || ((rdy 4).job c).st == 7)
      (rdy 4).jobCounts =
      some 5) ∧
    (((rdy 4).job 5).st = 2) ∧
    ((rdy 4).engineOn = true) ∧
    ((rdy 4).b 22529 2 = true) ∧
    (v18.bad = false) ∧
    (((rdy 4).job 5).valid = true) ∧
    (((rdy 4).job 5).codes = false) ∧
    ((rdy 4).decompBusy = false) := ⟨by unfold Alone; decide +kernel, by decide +kernel, by decide +kernel, by decide +kernel, by decide +kernel, by decide +kernel, by decide +kernel, by decide +kernel, by decide +kernel⟩

theorem witness_JobsRunInOrder_d :
    (Alone (rdy 9)) ∧
    (List.find? (fun c => ((rdy 9).job c).st == 1 || ((rdy 9).job c).st == 2 || ((rdy 9).job c).st == 5 || ((rdy 9).job c).st == 7)
      (rdy 9).jobCounts =
      some 5) ∧
    (((rdy 9).job 5).st = 2) ∧
    ((rdy 9).engineOn = true) ∧
    ((rdy 9).b 22529 2 = true) ∧
    (v18.bad = false) ∧
    (((rdy 9).job 5).valid = false) ∧
    ((rdy 9).mgtFast = true) := ⟨by unfold Alone; decide +kernel, by decide +kernel, by decide +kernel, by decide +kernel, by decide +kernel, by decide +kernel, by decide +kernel, by decide +kernel⟩

theorem witness_JobsRunInOrder_e :
    (Alone (runJ 1 0)) ∧
    ((runJ 1 0).running 5 = some 5) ∧
    (((runJ 1 0).dom Domain.cmp).inReset = false) ∧
    (v19.lane.bad = false) ∧
    (v19.err = 0) ∧
    ((runJ 1 0).late .mgt ((runJ 1 0).job 5).since ((runJ 1 0).n 0x5800 4 * 1000) = false) := ⟨by unfold Alone; decide +kernel, by decide +kernel, by decide +kernel, by decide +kernel, by decide +kernel, by decide +kernel⟩

theorem witness_JobsRunInOrder_e2 :
    (Alone (runJ 5 8)) ∧
    ((runJ 5 8).running 5 = some 5) ∧
    (((runJ 5 8).dom Domain.cmp).inReset = false) ∧
    (v19.lane.bad = false) ∧
    (v19.err = 0) ∧
    ((runJ 5 8).late .mgt ((runJ 5 8).job 5).since ((runJ 5 8).n 0x5800 4 * 1000) = false) := ⟨by unfold Alone; decide +kernel, by decide +kernel, by decide +kernel, by decide +kernel, by decide +kernel, by decide +kernel⟩

theorem witness_JobsRunInOrder_f :
    (Alone (runJ 1 0)) ∧
    ((runJ 1 0).running 5 = some 5) ∧
    ((runJ 1 0).mgtFast = true) := ⟨by unfold Alone; decide +kernel, by decide +kernel, by decide +kernel⟩

theorem witness_JobsRunInOrder_g :
    (Alone (rdy 1)) ∧
    (Accepted (rdy 1) jtag 22530 4 1179407699) := ⟨by unfold Alone; decide +kernel, by unfold Accepted; decide +kernel⟩

theorem witness_JobsRunInOrder_h :
    Alone (rdy 1) := by unfold Alone; decide +kernel

theorem witness_RopeFramesAndFaults_a :
    (paired id 2).ropeSends = true := by decide +kernel

theorem witness_RopeFramesAndFaults_b :
    ((paired id 2).pair.role ≠ 0) ∧
    ((paired id 2).up = true) ∧
    ([1].length ≠ 49 ∨ leAt [1] 45 4 ≠ crc32c (List.take 45 [1])) := by decide +kernel

theorem witness_RopeFramesAndFaults_b2 :
    ((paired id 2).pair.role ≠ 0) ∧
    ((paired id 2).up = true) ∧
    ((List.replicate 49 1).length ≠ 49 ∨ leAt (List.replicate 49 1) 45 4 ≠ crc32c (List.take 45 (List.replicate 49 1))) := by decide +kernel

theorem witness_RopeFramesAndFaults_c :
    (lone.pair.role ≠ 0) ∧
    (lone.up = true) ∧
    (List.length (frameO 0 []) = 49) ∧
    (leAt (frameO 0 []) 45 4 = crc32c (List.take 45 (frameO 0 []))) ∧
    (bit (leAt (frameO 0 []) 0 1) 6 = false) ∧
    (leAt (frameO 0 []) 25 1 % 32 ≤ 19) ∧
    (leAt (frameO 0 []) 0 1 % 16 = 0) ∧
    (Alone lone) := ⟨by decide +kernel, by decide +kernel, by decide +kernel, by decide +kernel, by decide +kernel, by decide +kernel, by decide +kernel, by unfold Alone; decide +kernel⟩

theorem witness_RopeFramesAndFaults_d :
    ((paired id 2).pair.role ≠ 0) ∧
    ((paired id 2).up = true) ∧
    (List.length (frameO 33 []) = 49) ∧
    (leAt (frameO 33 []) 45 4 = crc32c (List.take 45 (frameO 33 []))) ∧
    (bit (leAt (frameO 33 []) 0 1) 6 = false) ∧
    (leAt (frameO 33 []) 25 1 % 32 ≤ 19) ∧
    (leAt (frameO 33 []) 0 1 % 16 = 1) ∧
    ((paired id 2).pair.aligned = true) ∧
    ((paired id 2).pair.role = 2) ∧
    (bit (leAt (frameO 33 []) 0 1) 4 = false) ∧
    (RopeInTime (paired id 2)) := ⟨by decide +kernel, by unfold RopeInTime; decide +kernel⟩

theorem witness_RopeFramesAndFaults_e :
    ((shadow 7).pair.role ≠ 0) ∧
    ((shadow 7).up = true) ∧
    (List.length (frameO 1 (leBytes 2 4992 ++ leBytes 4 7)) = 49) ∧
    (leAt (frameO 1 (leBytes 2 4992 ++ leBytes 4 7)) 45 4 = crc32c (List.take 45 (frameO 1 (leBytes 2 4992 ++ leBytes 4 7)))) ∧
    (bit (leAt (frameO 1 (leBytes 2 4992 ++ leBytes 4 7)) 0 1) 6 = false) ∧
    (leAt (frameO 1 (leBytes 2 4992 ++ leBytes 4 7)) 25 1 % 32 ≤ 19) ∧
    (leAt (frameO 1 (leBytes 2 4992 ++ leBytes 4 7)) 0 1 % 16 = 1) ∧
    ((shadow 7).pair.aligned = true) ∧
    ((shadow 7).pair.role = 3) ∧
    ((shadow 7).pair.catchup = 7) ∧
    (∀ j < 4,
      mget (shadow 7).pair.words (extend16 (shadow 7).time.tick (leAt (frameO 1 (leBytes 2 4992 ++ leBytes 4 7)) 1 2) + j) =
      some (leAt (frameO 1 (leBytes 2 4992 ++ leBytes 4 7)) (3 + 4 * j) 4)) ∧
    (RopeInTime (shadow 7)) := ⟨by decide +kernel, by unfold RopeInTime; decide +kernel⟩

theorem witness_RopeFramesAndFaults_f :
    ((shadow 7).pair.role ≠ 0) ∧
    ((shadow 7).up = true) ∧
    (List.length (frameO 1 (leBytes 2 4992 ++ leBytes 4 6)) = 49) ∧
    (leAt (frameO 1 (leBytes 2 4992 ++ leBytes 4 6)) 45 4 = crc32c (List.take 45 (frameO 1 (leBytes 2 4992 ++ leBytes 4 6)))) ∧
    (bit (leAt (frameO 1 (leBytes 2 4992 ++ leBytes 4 6)) 0 1) 6 = false) ∧
    (leAt (frameO 1 (leBytes 2 4992 ++ leBytes 4 6)) 25 1 % 32 ≤ 19) ∧
    (leAt (frameO 1 (leBytes 2 4992 ++ leBytes 4 6)) 0 1 % 16 = 1) ∧
    ((shadow 7).pair.aligned = true) ∧
    ((shadow 7).pair.role = 3) ∧
    ((shadow 7).pair.catchup = 7) ∧
    ((shadow 7).mgtFast = true) ∧
    (mget (shadow 7).pair.words (extend16 (shadow 7).time.tick (leAt (frameO 1 (leBytes 2 4992 ++ leBytes 4 6)) 1 2)) = some 7) ∧
    (7 ≠ leAt (frameO 1 (leBytes 2 4992 ++ leBytes 4 6)) 3 4) ∧
    (RopeInTime (shadow 7)) := ⟨by decide +kernel, by unfold RopeInTime; decide +kernel⟩

theorem witness_RopeFramesAndFaults_g :
    ((paired id 2).pair.role ≠ 0) ∧
    ((paired id 2).up = true) ∧
    (andNot 5 (paired id 2).pair.los ≠ 0) ∧
    (¬((paired id 2).pair.role = 3 ∧ (paired id 2).pair.refLost = true)) ∧
    ((paired id 2).mgtFast = true) := by decide +kernel

theorem witness_RopeFramesAndFaults_g3 :
    ((shadow 1).pair.role ≠ 0) ∧
    ((shadow 1).up = true) ∧
    (andNot 5 (shadow 1).pair.los ≠ 0) ∧
    (¬((shadow 1).pair.role = 3 ∧ (shadow 1).pair.refLost = true)) ∧
    ((shadow 1).mgtFast = true) := by decide +kernel

theorem witness_RopeFramesAndFaults_h :
    v20.pair.losAt = some 4000 := by decide +kernel

theorem witness_RopeFramesAndFaults_i :
    (v21.pair.hbRun = true) ∧
    (v21.mgtFast = true) := by decide +kernel

theorem witness_RopeFramesAndFaults_i3 :
    (v22.pair.hbRun = true) ∧
    (v22.mgtFast = true) := by decide +kernel

theorem witness_RopeFramesAndFaults_j :
    ((unack 3 2).pair.unacked ≠ []) ∧
    ((unack 3 2).pair.resends < 8) := by decide +kernel

theorem witness_RopeFramesAndFaults_k :
    ((unack 8 1).pair.unacked ≠ []) ∧
    (8 ≤ (unack 8 1).pair.resends) ∧
    (Alone (unack 8 1)) := ⟨by decide +kernel, by decide +kernel, by unfold Alone; decide +kernel⟩
end memory
end Sys2Proof.Tests
end

