-- ==== Sys2Proof/Tests/WitnessPair.lean ====
section
/-! SUPPORT. Sys2Proof/Tests/WitnessPair.lean: for each clause of the statements about the pair link, the Second, the Lead and sessions, a state and operands that meet its
hypotheses together: witness_<statement>_<clause>, the clauses in the order in which the statement gives them. -/
set_option Elab.async false
open Sys2Proof Sys2Proof.Machine
namespace Sys2Proof.Tests
namespace pair
def snd (n : Nat) (f : Pair → Pair) : State := paired (fun p => f { p with catchup := n, absent := false, eligible := true, run := 9 }) 3
def sb : Octets := leBytes 4 7 ++ [0] ++ leBytes 4 2
def rset : RxSet := ⟨7, 1, 1, [[1, 2]], false⟩
def rwhole : RxSet := ⟨7, 1, 1, [[1, 2]], true⟩
def snx : State := snd 7 fun p => { p with rxSet := some rset }
def sny : State := snd 7 fun p => { p with rxSet := some rwhole }
def se : Octets := leBytes 4 7 ++ leBytes 4 (crc32c [1,2])
def bd (t k : Nat) : Octets := leBytes 4 7 ++ leBytes 8 t ++ leBytes 1 k
def ts : Octets := leBytes 8 6144 ++ leBytes 6 3 ++ leBytes 4 500 ++ leBytes 4 9 ++ leBytes 4 (2^32 - 5)
def dl : State := { (snd 7 id) with time := { base.time with delayed := [.adj 6000 7 8 none, .adj 6100 7 8 none] } }
def snap : Octets := (List.range 170).map fun n => BitVec.ofNat 8 n
def sn0 : State := { (snd 7 id) with ports := [(0, { st := 0 })], obj := [(key 0x7000 1, .num 1)] }
def lead (c : Nat) : State := { (paired (fun p => { p with setNo := 4, absent := false, secondState := 5 }) 2) with commit := { base.commit with state := c } }
def gone : State := { (lead 0) with pair := { (lead 0).pair with setKind := 1 } }
def los (e : Bool) (k : Nat) : State := snd 7 fun p => { p with losTick := some k, los := 15, losElig := e }
def hov : State := { (lead 0) with pair := { (lead 0).pair with eligible := true, secondState := 7 } }
def v1 : State := { hov with pair := { hov.pair with yieldAt := some 6144 } }
def chal : Challenge := ⟨0, 1, leBytes 32 99, 4000⟩
def chS (x : PathSt) : State := { base with acc := { base.acc with path := [(4, x)] }, sec := { base.sec with vaultState := 2, k1 := some (List.replicate 32 7) } }
def ch1 : State := chS { challenge := some chal }
def good : Octets := hmac (ch1.levelKey 1) (authMessage chal 4)
def v2 : Session := ⟨0, 3, 0⟩
def v3 : State := chS { fails := 3, failAt := 4000 }
def secS (f : Security → Security) : State := { base with sec := f { base.sec with vaultState := 2, fuses := [16, 0, 0, 0], lcs := 1, k3Ok := true } }
def v4 : State := secS fun x => { x with trState := 1, trTarget := 2 }
def v5 : State := secS fun x => { x with trState := 2, trTarget := 4, wipePending := some 3, vaultState := 1, fuses := [16,0,0,16] }
def secF (f : Security → Security) : State := { base with sec := f { base.sec with vaultState := 2, k3Ok := true } }
def ki16 : Octets := List.replicate 32 3
def sameK : State := secF fun x => { x with kiState := 2, ki := leNat ki16, kiValid := true }
def kiP : State := secS fun x => { x with kiState := 1, kiNew := 77 }
def prP (r : Nat) : State := { (secS fun x => { x with pairProg := some 0x1234 }) with pair := { base.pair with role := r, absent := false, catchup := 7 } }

theorem witness_TheSecondFollowsItsLead_a :
    ((snd 7 id).pair.role = 3) ∧
    (2 ≤ (snd 7 id).pair.catchup) := by decide +kernel

theorem witness_TheSecondFollowsItsLead_b :
    (snx.pair.role = 3) ∧
    (2 ≤ snx.pair.catchup) ∧
    (snx.pair.rxSet = some rset) := by decide +kernel

theorem witness_TheSecondFollowsItsLead_c :
    (snx.pair.role = 3) ∧
    (2 ≤ snx.pair.catchup) ∧
    (snx.pair.rxSet = some rset) ∧
    (leAt se 0 4 = rset.number) := by decide +kernel

theorem witness_TheSecondFollowsItsLead_c2 :
    (snx.pair.role = 3) ∧
    (2 ≤ snx.pair.catchup) ∧
    (snx.pair.rxSet = some rset) ∧
    (leAt (leBytes 4 7 ++ leBytes 4 5) 0 4 = rset.number) := by decide +kernel

theorem witness_TheSecondFollowsItsLead_d :
    (sny.pair.role = 3) ∧
    (2 ≤ sny.pair.catchup) ∧
    (sny.pair.rxSet = some rwhole) ∧
    (leAt (bd 6144 1) 0 4 = rwhole.number) ∧
    (rwhole.whole = true) ∧
    (leAt (bd 6144 1) 12 1 = 1) := by decide +kernel

theorem witness_TheSecondFollowsItsLead_e :
    (sny.pair.role = 3) ∧
    (2 ≤ sny.pair.catchup) ∧
    (sny.pair.rxSet = some rwhole) ∧
    (leAt (bd 0 0) 0 4 = rwhole.number) ∧
    (rwhole.whole = true) ∧
    (leAt (bd 0 0) 12 1 ≠ 1) ∧
    (leAt (bd 0 0) 4 8 = 0) := by decide +kernel

theorem witness_TheSecondFollowsItsLead_f :
    (sny.pair.role = 3) ∧
    (2 ≤ sny.pair.catchup) ∧
    (sny.pair.rxSet = some rwhole) ∧
    (leAt (bd 6144 0) 0 4 = rwhole.number) ∧
    (rwhole.whole = true) ∧
    (leAt (bd 6144 0) 12 1 ≠ 1) ∧
    (leAt (bd 6144 0) 4 8 ≠ 0) ∧
    (sny.time.tick + 64 ≤ leAt (bd 6144 0) 4 8) := by decide +kernel

theorem witness_TheSecondFollowsItsLead_g :
    (sny.pair.role = 3) ∧
    (2 ≤ sny.pair.catchup) ∧
    (sny.pair.rxSet = some rwhole) ∧
    (leAt (bd 5010 0) 0 4 = rwhole.number) ∧
    (rwhole.whole = true) ∧
    (leAt (bd 5010 0) 12 1 ≠ 1) ∧
    (leAt (bd 5010 0) 4 8 ≠ 0) ∧
    (leAt (bd 5010 0) 4 8 < sny.time.tick + 64) := by decide +kernel

theorem witness_TheSecondFollowsItsLead_h :
    ((snd 4 id).pair.role = 3) ∧
    ((snd 4 id).pair.catchup = 4) := by decide +kernel

theorem witness_TheSecondFollowsItsLead_i :
    (snd 7 id).pair.role = 3 := by decide +kernel

theorem witness_TheSecondFollowsItsLead_j :
    dl.time.delayed = [Delayed.adj 6000 7 8 none, Delayed.adj 6100 7 8 none] := by decide +kernel

theorem witness_TheSecondFollowsItsLead_k :
    ((snd 7 id).pair.role = 3) ∧
    (leAt ([3, 0, 1, 0] ++ leBytes 8 500 ++ [0, 0, 0, 0] ++ leBytes 4 9) 0 1 < 16) := by decide +kernel

theorem witness_TheSecondFollowsItsLead_k1 :
    ((snd 7 id).pair.role = 3) ∧
    (leAt ([3, 1, 1, 0] ++ leBytes 8 500 ++ [0, 0, 0, 0] ++ leBytes 4 9) 0 1 < 16) := by decide +kernel

theorem witness_TheSecondFollowsItsLead_l :
    ((snd 7 id).pair.role = 3) ∧
    (3 ≤ (snd 7 id).pair.catchup) ∧
    ((snd 7 id).time.tick + 64 ≤ leAt (leBytes 8 6144) 0 8) := by decide +kernel

theorem witness_TheSecondFollowsItsLead_m :
    ((snd 7 id).pair.role = 3) ∧
    (3 ≤ (snd 7 id).pair.catchup) ∧
    (leAt (leBytes 8 5010) 0 8 < (snd 7 id).time.tick + 64) ∧
    (Instr.arm (leBytes 8 5010) = Instr.arm (leBytes 8 5010) ∨ Instr.arm (leBytes 8 5010) = Instr.disarm (leBytes 8 5010)) := by decide +kernel

theorem witness_TheSecondFollowsItsLead_m2 :
    ((snd 7 id).pair.role = 3) ∧
    (3 ≤ (snd 7 id).pair.catchup) ∧
    (leAt (leBytes 8 5010) 0 8 < (snd 7 id).time.tick + 64) ∧
    (Instr.disarm (leBytes 8 5010) = Instr.arm (leBytes 8 5010) ∨ Instr.disarm (leBytes 8 5010) = Instr.disarm (leBytes 8 5010)) := by decide +kernel

theorem witness_TheSecondFollowsItsLead_n :
    ((snd 6 id).pair.role = 3) ∧
    ((snd 6 id).pair.catchup = 6) := by decide +kernel

theorem witness_TheSecondFollowsItsLead_o :
    ((snd 7 id).pair.role = 3) ∧
    (leAt snap 0 1 < 4) := by decide +kernel

theorem witness_TheSecondFollowsItsLead_p :
    (sn0.pair.role = 3) ∧
    (leAt [0, 0] 0 1 < 6) ∧
    (leAt [0, 0] 1 1 ≠ 1) ∧
    ((sn0.port (leAt [0, 0] 0 1)).trained = false) ∧
    ((sn0.port (leAt [0, 0] 0 1)).st ≠ 2) ∧
    (sn0.b 28672 (leAt [0, 0] 0 1 + 1) = true) := by decide +kernel

theorem witness_TheSecondFollowsItsLead_q :
    ((snd 7 id).pair.role = 3) ∧
    (leAt [0, 1] 0 1 < 6) ∧
    (leAt [0, 1] 1 1 = 1) ∧
    (((snd 7 id).port (leAt [0, 1] 0 1)).st = 5 ∨ ((snd 7 id).port (leAt [0, 1] 0 1)).st = 6) := by decide +kernel

theorem witness_TheSecondFollowsItsLead_r :
    ((snd 7 id).pair.role = 3) ∧
    (leAt [0, 1, 2] 0 1 < 6) := by decide +kernel

theorem witness_TheSecondFollowsItsLead_s :
    (snd 7 id).pair.role = 3 := by decide +kernel

theorem witness_TheLeadAndFailover_a :
    ((lead 2).pair.role = 2) ∧
    (leAt (leBytes 4 4 ++ [0]) 0 4 = (lead 2).pair.setNo) ∧
    (leAt (leBytes 4 4 ++ [0]) 4 1 = 0) ∧
    ((lead 2).commit.state = 2) ∧
    ((lead 2).commit.atTime = false) ∧
    ((lead 2).late .mgt (lead 2).commit.mirrorAt (lead 2).mirrorLimit = false) := by decide +kernel

theorem witness_TheLeadAndFailover_b :
    ((lead 0).pair.role = 2) ∧
    (leAt (leBytes 4 4 ++ [0]) 0 4 = (lead 0).pair.setNo) ∧
    (leAt (leBytes 4 4 ++ [0]) 4 1 = 0) ∧
    ((lead 0).commit.state ≠ 2) ∧
    ((lead 0).pair.setKind ≠ 1) := by decide +kernel

theorem witness_TheLeadAndFailover_b1 :
    (gone.pair.role = 2) ∧
    (leAt (leBytes 4 4 ++ [0]) 0 4 = gone.pair.setNo) ∧
    (leAt (leBytes 4 4 ++ [0]) 4 1 = 0) ∧
    (gone.commit.state ≠ 2) ∧
    (gone.pair.setKind = 1) ∧
    (gone.commit.mirrored = false) := by decide +kernel

theorem witness_TheLeadAndFailover_c :
    ((lead 2).pair.role = 2) ∧
    (leAt (leBytes 4 4 ++ [1]) 0 4 = (lead 2).pair.setNo) ∧
    (leAt (leBytes 4 4 ++ [1]) 4 1 ≠ 0) ∧
    ((lead 2).commit.state = 2 ∨ (lead 2).pair.setKind ≠ 1) := by decide +kernel

theorem witness_TheLeadAndFailover_c0 :
    ((lead 0).pair.role = 2) ∧
    (leAt (leBytes 4 4 ++ [1]) 0 4 = (lead 0).pair.setNo) ∧
    (leAt (leBytes 4 4 ++ [1]) 4 1 ≠ 0) ∧
    ((lead 0).commit.state = 2 ∨ (lead 0).pair.setKind ≠ 1) := by decide +kernel

theorem witness_TheLeadAndFailover_d :
    (lead 0).pair.role = 2 := by decide +kernel

theorem witness_TheLeadAndFailover_d6 :
    (lead 0).pair.role = 2 := by decide +kernel

theorem witness_TheLeadAndFailover_e :
    ((lead 0).pair.role = 2) ∧
    (leAt [3, 1, 2] 0 1 = 3) ∧
    (3 < 6) := by decide +kernel

theorem witness_TheLeadAndFailover_f :
    ((snd 7 id).pair.role = 3) ∧
    ((snd 7 id).pair.losTick = none) := by decide +kernel

theorem witness_TheLeadAndFailover_g :
    ((los true 4990).pair.role = 3) ∧
    ((los true 4990).pair.losTick = some 4990) ∧
    ((los true 4990).pair.los = 15) ∧
    ((los true 4990).pair.losElig = true) ∧
    ((los true 4990).time.tick ≤ 4990 + 16) ∧
    ((los true 4990).time.tickRun = true) ∧
    ((los true 4990).time.bridging = false) ∧
    ((los true 4990).time.tick + 1 < 2 ^ 64) ∧
    ((los true 4990).mgtFast = true) := by decide +kernel

theorem witness_TheLeadAndFailover_h :
    ((los false 4990).pair.role = 3) ∧
    ((los false 4990).pair.losTick = some 4990) ∧
    ((los false 4990).pair.los = 15) ∧
    ((los false 4990).pair.losElig = false ∨ 4990 + 16 < (los false 4990).time.tick) := by decide +kernel

theorem witness_TheLeadAndFailover_h2 :
    ((los true 4900).pair.role = 3) ∧
    ((los true 4900).pair.losTick = some 4900) ∧
    ((los true 4900).pair.los = 15) ∧
    ((los true 4900).pair.losElig = false ∨ 4900 + 16 < (los true 4900).time.tick) := by decide +kernel

theorem witness_TheLeadAndFailover_i :
    (hov.coh.done = []) ∧
    (hov.coh.devWait = []) ∧
    (hov.pair.role = 2) ∧
    (Accepted hov jtag 32771 0 1212239428) := ⟨by decide +kernel, by decide +kernel, by decide +kernel, by unfold Accepted; decide +kernel⟩

theorem witness_TheLeadAndFailover_j :
    (v1.pair.yieldAt = some 6144) ∧
    (v1.pair.role = 2) := by decide +kernel

theorem witness_SessionsAndTheirTimers_a :
    (Alone base) ∧
    (Accepted base jtag 4112 1 1) ∧
    (1 ≠ 0) := ⟨by unfold Alone; decide +kernel, by unfold Accepted; decide +kernel, by decide +kernel⟩

theorem witness_SessionsAndTheirTimers_b :
    (Alone base) ∧
    (Accepted base jtag 4112 1 0) ∧
    (0 = 0) ∧
    (Instr.sessionClose jtag 0 = Instr.sessionRequest jtag 0 ∨ Instr.sessionClose jtag 0 = Instr.sessionClose jtag 0) := ⟨by unfold Alone; decide +kernel, by unfold Accepted; decide +kernel, by decide +kernel, by decide +kernel⟩

theorem hmac_length (k m : Octets) : (hmac k m).length = 32 := by
  have hb : ∀ (n : Nat) (h : List (BitVec 32)) (o : Octets), h.length = 8 → (shaBlocks n h o).length = 8 := by
    have hr : ∀ (l : List (BitVec 32 × BitVec 32)) (v : List (BitVec 32)), v.length = 8 → (l.foldl shaRound v).length = 8 := by
      intro l
      induction l with
      | nil => intro v h; exact h
      | cons x l ih =>
        intro v h
        refine ih _ ?_
        unfold shaRound
        split
        · rfl
        · exact h
    intro n
    induction n with
    | zero => intro h o hh; exact hh
    | succ n ih =>
      intro h o hh
      refine ih _ _ ?_
      simp [shaBlock, hh, hr _ _ hh]
  have hl : ∀ (l : List (BitVec 32)), ((l.map fun w => beBytes 4 w.toNat).flatten).length = 4 * l.length := by
    intro l
    induction l with
    | nil => rfl
    | cons x l ih => rw [List.map_cons, List.flatten_cons, List.length_append, ih, List.length_cons]; simp [beBytes, leBytes]; omega
  unfold hmac sha256
  rw [hl, hb _ _ _ rfl]

def respRow : Row := (findRow 0x1010 3).getD ⟨0x1010, 0x1010, 3, 3, .octets, .l, 0, 0, 0, .any, 0, 32⟩

theorem code_of (o : Octets) (h : o.length = 32) :
    (ch1.serveWrite 4 0 0x1010 3 o none).1 = if o = good then 0 else 0x0201 := by
  have hf : findRow 0x1010 3 = some respRow := by decide +kernel
  have ht : respRow.ty = .octets := by decide +kernel
  have hc : respRow.cls = .l := by decide +kernel
  have hh : State.headCode (ch1.accept 4 0) respRow ⟨4, 0, (ch1.accept 4 0).levelOf 4 0, 0x1010, 3⟩ 32 none = 0 := by decide +kernel
  have hl : State.liveChallenge (ch1.accept 4 0) 4 0 = some chal := by decide +kernel
  have hg : hmac ((ch1.accept 4 0).levelKey chal.level) (authMessage chal 4) = good := rfl
  have ha : acceptOk respRow (.oct o) = true := by
    have : respRow.acc = .len 32 := by decide +kernel
    simp [acceptOk, this, valOct, h]
  have hm : ∀ v, (State.homeValueOk (ch1.accept 4 0) 0x1010 3 v) = true := fun v => rfl
  have hk : State.k1Bad (ch1.accept 4 0) ⟨4, 0, (ch1.accept 4 0).levelOf 4 0, 0x1010, 3⟩ = false := by decide +kernel
  simp only [State.serveWrite, hf, State.writeRow, h, hh, hc, ht, octetsVal, maskVal, State.valueOk, typeOk, ha, hm, forcedLevel,
    State.liveWrite, hk, State.response, hl, valOct, hg]
  by_cases hx : o = good <;> simp [hx]

theorem witness_SessionsAndTheirTimers_c :
    Alone ch1 ∧ ch1.reaches jtag = true ∧ (ch1.path (pathNo jtag.path)).challenge = some chal ∧
      ch1.late .mgt chal.since (ch1.n 0x1011 1 * 1000000) = false ∧ (ch1.path (pathNo jtag.path)).xfer = none ∧
      ch1.knownBad 0x1010 3 = false ∧ (ch1.serveWrite (pathNo jtag.path) (ch1.requester jtag) 0x1010 3 good none).1 = 0 :=
  ⟨by unfold Alone; decide +kernel, by decide +kernel, by decide +kernel, by decide +kernel, by decide +kernel, by decide +kernel, by
    have h := code_of good (hmac_length _ _)
    rw [if_pos rfl] at h
    exact h⟩

/-- Two responses differ, so one of them is wrong, whatever the serial number. -/
theorem witness_SessionsAndTheirTimers_d :
    Alone ch1 ∧ ch1.reaches jtag = true ∧ (ch1.path (pathNo jtag.path)).challenge = some chal ∧
      ch1.late .mgt chal.since (ch1.n 0x1011 1 * 1000000) = false ∧ (ch1.path (pathNo jtag.path)).xfer = none ∧
      ch1.knownBad 0x1010 3 = false ∧
      ∃ o, (ch1.serveWrite (pathNo jtag.path) (ch1.requester jtag) 0x1010 3 o none).1 = 0x0201 :=
  ⟨by unfold Alone; decide +kernel, by decide +kernel, by decide +kernel, by decide +kernel, by decide +kernel, by decide +kernel, by
    by_cases h : good = List.replicate 32 0
    · refine ⟨List.replicate 32 1, ?_⟩
      have := code_of (List.replicate 32 1) (by decide)
      rwa [if_neg (by rw [h]; decide)] at this
    · refine ⟨List.replicate 32 0, ?_⟩
      have := code_of (List.replicate 32 0) (by decide)
      rwa [if_neg (fun e => h e.symm)] at this⟩

theorem witness_SessionsAndTheirTimers_e :
    (ch1.path (pathNo Path.jtag)).challenge = some chal := by decide +kernel

theorem witness_SessionsAndTheirTimers_f :
    (base.path (pathNo Path.jtag)).session = some v2 := by decide +kernel

theorem witness_LifeCycleKeysAndRecords_b :
    v4.sec.trState = 1 := by decide +kernel

theorem witness_LifeCycleKeysAndRecords_c :
    v4.sec.trState = 1 := by decide +kernel

theorem witness_LifeCycleKeysAndRecords_d :
    (v5.sec.wipePending.isSome = true) ∧
    (v5.sec.vaultState = 1) ∧
    (v5.sec.trState = 2) ∧
    (v5.mgtUp = true) := by decide +kernel

theorem witness_LifeCycleKeysAndRecords_e :
    (Alone (secF id)) ∧
    ((secF id).reaches jtag = true) ∧
    (((secF id).serveWrite (pathNo jtag.path) ((secF id).requester jtag) 36896 1 ki16 none).1 = 0) ∧
    ((secF id).kiSame (leNat ki16) = false) ∧
    (((secF id).path (pathNo jtag.path)).xfer = none) := ⟨by unfold Alone; decide +kernel, by decide +kernel, by decide +kernel, by decide +kernel, by decide +kernel⟩

theorem witness_LifeCycleKeysAndRecords_f :
    (Alone sameK) ∧
    (sameK.reaches jtag = true) ∧
    ((sameK.serveWrite (pathNo jtag.path) (sameK.requester jtag) 36896 1 ki16 none).1 = 0) ∧
    (sameK.kiSame (leNat ki16) = true) ∧
    ((sameK.path (pathNo jtag.path)).xfer = none) := ⟨by unfold Alone; decide +kernel, by decide +kernel, by decide +kernel, by decide +kernel, by decide +kernel⟩

theorem witness_LifeCycleKeysAndRecords_g :
    (Alone (secS id)) ∧
    ((secS id).reaches jtag = true) ∧
    (((secS id).serveWrite (pathNo jtag.path) ((secS id).requester jtag) 36897 1 ki16 none).1 = 0) ∧
    (((secS id).path (pathNo jtag.path)).xfer = none) := ⟨by unfold Alone; decide +kernel, by decide +kernel, by decide +kernel, by decide +kernel⟩

theorem witness_LifeCycleKeysAndRecords_h :
    (Alone (secS id)) ∧
    ((secS id).reaches jtag = true) ∧
    (((secS id).serveWrite (pathNo jtag.path) ((secS id).requester jtag) 36912 5 (List.replicate 64 3) none).1 = 0) ∧
    (((secS id).path (pathNo jtag.path)).xfer = none) := ⟨by unfold Alone; decide +kernel, by decide +kernel, by decide +kernel, by decide +kernel⟩

theorem witness_LifeCycleKeysAndRecords_i :
    kiP.sec.kiState = 1 := by decide +kernel

theorem witness_LifeCycleKeysAndRecords_j :
    ((prP 0).sec.kiState ≠ 1) ∧
    ((prP 0).sec.pairProg = some 4660) := by decide +kernel

theorem witness_LifeCycleKeysAndRecords_k :
    ((prP 0).sec.kiState ≠ 1) ∧
    ((prP 0).sec.pairProg = some 4660) := by decide +kernel

theorem witness_LifeCycleKeysAndRecords_k3 :
    ((prP 3).sec.kiState ≠ 1) ∧
    ((prP 3).sec.pairProg = some 4660) := by decide +kernel
end pair
end Sys2Proof.Tests
end

