-- ==== Sys2Proof/Tests/WitnessSecurity.lean ====
section
/-! SUPPORT. Sys2Proof/Tests/WitnessSecurity.lean: for each clause of the statements about life cycle and tamper, a state and operands that meet its
hypotheses together: witness_<statement>_<clause>, the clauses in the order in which the statement gives them. -/
set_option Elab.async false
open Sys2Proof Sys2Proof.Machine
namespace Sys2Proof.Tests
namespace security
def secS (f : Security → Security) : State := { base with sec := f { base.sec with vaultState := 2, fuses := [16, 0, 0, 0], lcs := 1, k3Ok := true } }
/-- A tamper event has been recorded in this AON cycle. -/
def joined : State := { base with sec := { base.sec with tamperCtl := 83, tamper0 := true, tamperAt := some base.aonCycle, tamperLog := [2 ^ 60 + 2 ^ 52] } }
def tam (n : Nat) : State := { base with sec := { base.sec with tamperCtl := n } }

theorem witness_LifeCycleKeysAndRecords_a :
    (Alone (secS id)) ∧
    (Accepted (secS id) jtag 4097 2 1279480578) ∧
    ((secS id).transitionTarget 1279480578 = some 2) := ⟨by unfold Alone; decide +kernel, by unfold Accepted; decide +kernel, by decide +kernel⟩

theorem witness_TamperAndEntropyAreWatched_a :
    ((tam 83).tamperJoins = false) ∧
    (b2n (true && !(tam 83).sec.tamper0) + 2 * b2n (false && !(tam 83).sec.tamper1) &&& bits (tam 83).tamperCopy 0 2 ≠ 0) ∧
    ((tam 83).mgtUp = true) := by decide +kernel

theorem witness_TamperAndEntropyAreWatched_a0 :
    ((tam 0).tamperJoins = false) ∧
    (b2n (true && !(tam 0).sec.tamper0) + 2 * b2n (true && !(tam 0).sec.tamper1) &&& bits (tam 0).tamperCopy 0 2 = 0) := by decide +kernel

theorem witness_TamperAndEntropyAreWatched_a1 :
    (joined.tamperJoins = true) := by decide +kernel

theorem witness_TamperAndEntropyAreWatched_c :
    ((tam 83).power.vddioUp = true) ∧
    ((tam 83).power.vaonUp = true) ∧
    ((tam 83).power.vddioLow = false) ∧
    ((tam 83).tamperJoins = false) := by decide +kernel

theorem witness_TamperAndEntropyAreWatched_d :
    (tam 83).up = true := by decide +kernel
end security
end Sys2Proof.Tests
end

