-- ==== Sys2Proof/Tests/WitnessTime.lean ====
section
/-! SUPPORT. Sys2Proof/Tests/WitnessTime.lean: for each clause of the statements about time, observation and PPS, a state and operands that meet its
hypotheses together: witness_<statement>_<clause>, the clauses in the order in which the statement gives them. -/
set_option Elab.async false
open Sys2Proof Sys2Proof.Machine
namespace Sys2Proof.Tests
namespace time
def opened : SourceSt := { present with open_ := some exch }
def pong : PongMsg := { sid := 16, tag := 7, ctr := 1, epoch := 2, t2 := 4850 * 65536, t3 := 4860 * 65536, late := 65536 }
def spoiled : SourceSt := { present with open_ := some { exch with spoiled := true } }
def v1 : Exchange := { exch with spoiled := true }
def tc (r : Option Nat) : State := tapS { st := 1, due := true, retryAt := r, q := 1, ctr := 1 }
def s3 : State := srcOn present
def full : State := tapS { st := 3, tctl := true, q := 2, ready := true, ctr := 1, chg := true, occ := 255, occAt := 5000 }
def far : State := pps 2 fun t => { t with pt := (10 ^ 9 + 5000) * 2 ^ 32 }
def armedW : State := pps 2 fun t => { t with atPps := some (77 * 2 ^ 32, 4000) }
def watching (n : Nat) : State := pps 2 fun t => { t with watch := some 1, ppsState := n, slew := 9, slewEnd := some 6000, rate := 4 }
def outS (h : Bool) : State := pps 0 fun t => { t with outNext := some 2, outHigh := h, outFall := 7000 }
def joining : State := tapS { st := 3, q := 1, ready := true, join := 5200 }
def v2 : GpSample := {}
def emptyDue : State := { s3 with time := { s3.time with empties := 3, lastSlice := 4100 } }

theorem witness_TimeExchangesAndTctl_a :
    (((srcOn present).src 0).present = true) ∧
    (srcEn ((srcOn present).srcEntry 0) = true) ∧
    ((srcOn present).acts = true) ∧
    ((srcOn present).time.ptRun = true) ∧
    (((srcOn present).src 0).nextPing < (srcOn present).belay.frame) ∧
    (((srcOn present).src 0).open_ = none) ∧
    (1 ≤ ((srcOn present).port (srcPort ((srcOn present).srcEntry 0))).gen) ∧
    (((srcOn present).port (srcPort ((srcOn present).srcEntry 0))).gen ≤ 3) := by decide +kernel

theorem witness_TimeExchangesAndTctl_b :
    (((srcOn opened).src 0).present = true) ∧
    (srcEn ((srcOn opened).srcEntry 0) = true) ∧
    ((srcOn opened).acts = true) ∧
    ((srcOn opened).time.ptRun = true) ∧
    (((srcOn opened).src 0).nextPing < (srcOn opened).belay.frame) ∧
    (((srcOn opened).src 0).open_ = some exch) ∧
    ((srcOn opened).time.tick ≤ exch.sent + 4096) := by decide +kernel

theorem witness_TimeExchangesAndTctl_c :
    (Alone (srcOn opened)) ∧
    (((srcOn opened).port 0).linked = true) ∧
    ((srcOn opened).msgFault 0 (pongMsg ((srcOn opened).port 0).gen pong) (msgLen (pongMsg ((srcOn opened).port 0).gen pong)) = false) ∧
    ((srcOn opened).srcOf 0 1 = some 0) ∧
    (((srcOn opened).src 0).open_ = some exch) ∧
    (exch.tag = 7) ∧
    ((srcOn opened).time.tick ≤ exch.sent + 4096) := ⟨by unfold Alone; decide +kernel, by decide +kernel, by decide +kernel, by decide +kernel, by decide +kernel, by decide +kernel, by decide +kernel⟩

theorem witness_TimeExchangesAndTctl_c2 :
    (Alone (srcOn spoiled)) ∧
    (((srcOn spoiled).port 0).linked = true) ∧
    ((srcOn spoiled).msgFault 0 (pongMsg ((srcOn spoiled).port 0).gen pong) (msgLen (pongMsg ((srcOn spoiled).port 0).gen pong)) = false) ∧
    ((srcOn spoiled).srcOf 0 1 = some 0) ∧
    (((srcOn spoiled).src 0).open_ = some v1) ∧
    (v1.tag = 7) ∧
    ((srcOn spoiled).time.tick ≤ v1.sent + 4096) := ⟨by unfold Alone; decide +kernel, by decide +kernel, by decide +kernel, by decide +kernel, by decide +kernel, by decide +kernel, by decide +kernel⟩

theorem witness_TimeExchangesAndTctl_d :
    ((srcOn opened).src 0).open_ = some exch := by decide +kernel

theorem witness_TimeExchangesAndTctl_e :
    ((tc none).tap 3).due = true := by decide +kernel

theorem witness_TimeExchangesAndTctl_f :
    (((tc (some 900000)).tap 3).due = true) ∧
    (((tc (some 900000)).tap 3).retryAt = some 900000) := by decide +kernel

theorem witness_ObservationMessagesExtendCoverage_a :
    (Observed s3 0 1 (obsM 4900 2 [1, 2, 3]) 3) ∧
    (∀ n ≤ 2, s3.time.tick ≤ sampleTick s3 3 (obsM 4900 2 [1, 2, 3]) n + s3.horizon) := ⟨by unfold Observed ForTap Alone; decide +kernel, by decide +kernel⟩

theorem witness_ObservationMessagesExtendCoverage_b :
    (Instr.obsChange 0 (obsM 4900 0 [1]) = Instr.obsChange 0 (obsM 4900 0 [1]) ∧ 2 = 2 ∨
      Instr.obsChange 0 (obsM 4900 0 [1]) = Instr.obsThru 0 (obsM 4900 0 [1]) ∧ 2 = 3 ∨
      Instr.obsChange 0 (obsM 4900 0 [1]) = Instr.obsLost 0 (obsM 4900 0 [1]) ∧ 2 = 4) ∧
    (Observed s3 0 2 (obsM 4900 0 [1]) 3) ∧
    (s3.time.tick ≤ sampleTick s3 3 (obsM 4900 0 [1]) 0 + s3.horizon) := ⟨by decide +kernel, by unfold Observed ForTap Alone; decide +kernel, by decide +kernel⟩

theorem witness_ObservationMessagesExtendCoverage_c :
    (Instr.obsThru 0 (obsM 4900 0 []) = Instr.obsChange 0 (obsM 4900 0 []) ∧ 3 = 2 ∨
      Instr.obsThru 0 (obsM 4900 0 []) = Instr.obsThru 0 (obsM 4900 0 []) ∧ 3 = 3 ∨
      Instr.obsThru 0 (obsM 4900 0 []) = Instr.obsLost 0 (obsM 4900 0 []) ∧ 3 = 4) ∧
    (Observed s3 0 3 (obsM 4900 0 []) 3) ∧
    (s3.time.tick ≤ sampleTick s3 3 (obsM 4900 0 []) 0 + s3.horizon) := ⟨by decide +kernel, by unfold Observed ForTap Alone; decide +kernel, by decide +kernel⟩

theorem witness_ObservationMessagesExtendCoverage_d :
    (Instr.obsLost 0 (obsM 4900 0 []) = Instr.obsChange 0 (obsM 4900 0 []) ∧ 4 = 2 ∨
      Instr.obsLost 0 (obsM 4900 0 []) = Instr.obsThru 0 (obsM 4900 0 []) ∧ 4 = 3 ∨
      Instr.obsLost 0 (obsM 4900 0 []) = Instr.obsLost 0 (obsM 4900 0 []) ∧ 4 = 4) ∧
    (Observed s3 0 4 (obsM 4900 0 []) 3) ∧
    (s3.time.tick ≤ sampleTick s3 3 (obsM 4900 0 []) 0 + s3.horizon) := ⟨by decide +kernel, by unfold Observed ForTap Alone; decide +kernel, by decide +kernel⟩

theorem witness_ObservationMessagesExtendCoverage_e :
    (Instr.obsChange 0 (obsM 4000 0 [1]) = Instr.obsChange 0 (obsM 4000 0 [1]) ∧ 2 = 2 ∨
      Instr.obsChange 0 (obsM 4000 0 [1]) = Instr.obsThru 0 (obsM 4000 0 [1]) ∧ 2 = 3 ∨
      Instr.obsChange 0 (obsM 4000 0 [1]) = Instr.obsLost 0 (obsM 4000 0 [1]) ∧ 2 = 4) ∧
    (Observed s3 0 2 (obsM 4000 0 [1]) 3) ∧
    (sampleTick s3 3 (obsM 4000 0 [1]) 0 + s3.horizon < s3.time.tick) ∧
    (s3.mgtFast = true) := ⟨by decide +kernel, by unfold Observed ForTap Alone; decide +kernel, by decide +kernel, by decide +kernel⟩

theorem witness_ObservationMessagesExtendCoverage_f :
    (Instr.obsSample 0 (obsM 4900 2 [1, 2, 3]) = Instr.obsSample 0 (obsM 4900 2 [1, 2, 3]) ∧ 1 = 1 ∨
      Instr.obsSample 0 (obsM 4900 2 [1, 2, 3]) = Instr.obsChange 0 (obsM 4900 2 [1, 2, 3]) ∧ 1 = 2 ∨
      Instr.obsSample 0 (obsM 4900 2 [1, 2, 3]) = Instr.obsThru 0 (obsM 4900 2 [1, 2, 3]) ∧ 1 = 3 ∨
      Instr.obsSample 0 (obsM 4900 2 [1, 2, 3]) = Instr.obsLost 0 (obsM 4900 2 [1, 2, 3]) ∧ 1 = 4) ∧
    (ForTap full 0 1 (obsM 4900 2 [1, 2, 3]) 3) ∧
    ((full.tap 3).hasRoom full.time.tick (obsM 4900 2 [1, 2, 3]) = false) := ⟨by decide +kernel, by unfold ForTap Alone; decide +kernel, by decide +kernel⟩

theorem witness_PpsDisciplinesPackageTime_a :
    true = ((pps 2 id).z 0x6003 2 == 0) ∧ (pps 2 id).time.ptRun = true ∧
      (10 ^ 9 * 2 ^ 32 + 40 * 2 ^ 32 : Int) = ((pps 2 id).time.pt : Int) - (pps 2 id).i 0x6003 5 * 2 ^ 32 ∧ (1 : Int) = nearSecond (10 ^ 9 * 2 ^ 32 + 40 * 2 ^ 32) ∧
      (40 * 2 ^ 32 : Int) = 10 ^ 9 * 2 ^ 32 + 40 * 2 ^ 32 - 1 * secUnits ∧ (pps 2 id).time.atPps = none ∧ (pps 2 id).z 0x6003 1 ≠ 0 ∧ (pps 2 id).time.writtenAt ≠ some (pps 2 id).time.tick ∧
      -((pps 2 id).n 0x6003 3 * 2 ^ 32 : Int) ≤ 40 * 2 ^ 32 ∧ (40 * 2 ^ 32 : Int) ≤ (pps 2 id).n 0x6003 3 * 2 ^ 32 ∧ (pps 2 id).z 0x6003 1 = 2 ∧
      (pps 2 id).pair.role ≠ 3 ∧ (pps 2 id).mirrors = false ∧
    ((pps 2 id).secondsMissed = 0) ∧
    ((pps 2 id).now ≤ (pps 2 id).time.lastInside + (pps 2 id).n 0x6003 4 * 1000000000 + 500000000) := by decide +kernel

theorem witness_PpsDisciplinesPackageTime_b :
    true = (far.z 0x6003 2 == 0) ∧ far.time.ptRun = true ∧
      ((10 ^ 9 + 5000) * 2 ^ 32 : Int) = (far.time.pt : Int) - far.i 0x6003 5 * 2 ^ 32 ∧ (1 : Int) = nearSecond ((10 ^ 9 + 5000) * 2 ^ 32) ∧
      (5000 * 2 ^ 32 : Int) = (10 ^ 9 + 5000) * 2 ^ 32 - 1 * secUnits ∧ far.time.atPps = none ∧ far.z 0x6003 1 ≠ 0 ∧ far.time.writtenAt ≠ some far.time.tick ∧
      ((far.n 0x6003 3 * 2 ^ 32 : Int) < 5000 * 2 ^ 32) ∧ far.mgtFast = true ∧
    (far.secondsMissed = 0) ∧
    (far.now ≤ far.time.lastInside + far.n 0x6003 4 * 1000000000 + 500000000) := by decide +kernel

theorem witness_PpsDisciplinesPackageTime_c :
    (armedW.time.atPps = some (77 * 2 ^ 32, 4000)) ∧
    (armedW.time.ptRun = true) ∧
    (armedW.time.tick ≤ 4000 + armedW.n 0x6003 4 * 1000000000) := by decide +kernel

theorem witness_PpsDisciplinesPackageTime_d :
    ((watching 2).time.watch = some 1) ∧
    ((watching 2).mgtFast = true) := by decide +kernel

theorem witness_PpsDisciplinesPackageTime_e :
    ((watching 2).time.watch ≠ none) ∧
    ((watching 2).time.ppsState = 1 ∨ (watching 2).time.ppsState = 2) ∧
    ((watching 2).mirrors = false) ∧
    ((watching 2).pair.role ≠ 3) := by decide +kernel

theorem witness_PpsDisciplinesPackageTime_f :
    (watching 2).time.slewEnd = some 6000 := by decide +kernel

theorem witness_PpsDisciplinesPackageTime_g :
    (armedW.time.atPps = some (77 * 2 ^ 32, 4000)) ∧
    (armedW.mgtFast = true) := by decide +kernel

theorem witness_PpsDisciplinesPackageTime_h :
    ((outS false).time.outNext = some 2) ∧
    ((outS false).time.ptRun = true) := by decide +kernel

theorem witness_PpsDisciplinesPackageTime_i :
    (outS true).time.outHigh = true := by decide +kernel

theorem witness_TapsJoinAndSlicesAreReleased_a :
    ((joining.tap 3).q = 1) ∧
    ((joining.tap 3).ready = true) := by decide +kernel

theorem witness_TapsJoinAndSlicesAreReleased_b :
    s3.mgtFast = true := by decide +kernel

theorem witness_TapsJoinAndSlicesAreReleased_b2 :
    s3.mgtFast = true := by decide +kernel

theorem witness_TapsJoinAndSlicesAreReleased_c :
    (Alone s3) ∧
    (Accepted s3 jtag 12295 0 1) := ⟨by unfold Alone; decide +kernel, by unfold Accepted; decide +kernel⟩

theorem witness_TapsJoinAndSlicesAreReleased_d :
    (s3.releases = true) ∧
    (s3.time.lastRelease = some 4999) ∧
    (4999 + 1 < 2 ^ 64) := by decide +kernel

theorem witness_TapsJoinAndSlicesAreReleased_d2 :
    (emptyDue.releases = true) ∧
    (emptyDue.time.lastRelease = some 4999) ∧
    (4999 + 1 < 2 ^ 64) := by decide +kernel
end time
end Sys2Proof.Tests
end

