-- ==== Sys2Proof/Tests/WitnessUnits.lean ====
section
/-! SUPPORT. Sys2Proof/Tests/WitnessUnits.lean: for each clause of the statements about taps, Belay, probe and trigger, a state and operands that meet its
hypotheses together: witness_<statement>_<clause>, the clauses in the order in which the statement gives them. -/
set_option Elab.async false
open Sys2Proof Sys2Proof.Machine
namespace Sys2Proof.Tests
namespace units
def v1 : State := loops [(0, { st := 2, uNext := some 7 })] id []
def v2 : ServoInputs := {}
def missedS (n : Nat) : State := loops [(16, { st := 2, missRun := n, uNext := some 7 })] (fun b => { b with missed := [16, 3] }) [(key 0x6201 17, .num (2 ^ 63))]
def feS : State := loops [(16, { st := 2, feStart := some 1 })] (fun b => { b with frame := 100000 }) [(key 0x6201 17, .num (2 ^ 63 + 2 ^ 30)), (key 0x6206 17, .num 5)]
def lockS : State := { (loops [(16, { st := 1 })] (fun b => { b with lockBy := some 9000 }) [(key 0x6201 17, .num (2 ^ 63))]) with boot := { base.boot with step := 13 } }
def heldL : State := loops [(16, { st := 3 }), (17, { st := 3, stepHeld := true })] id []
def v3 : State := loops [(31, { u := 9 })] id []
def v4 : State := probing [] fun p => { p with granule := [(0, { settleTo := 6000 })] }
def v5 : State := probing [] fun p => { p with xout := 5, pulse := [(2, 6000)] }
def run0 : Decoder := { running := true, startAt := 100, pos := 50, edgeAt := some 4000, stillFrom := 4000, interval := 500, still := false, speed := 3 }
def ctl (m : Nat) : Nat := 2 ^ 31 + m * 2 ^ 28
def dq : State := dec run0 (ctl 2)
def dz (pol : Nat) (lim : Nat) : State := probing [(key 0x3900 1, .num (ctl 2 + 2 ^ 26 + pol)), (key 0x3904 1, .num lim), (key 0x3903 1, .num 1000), (key 0x3902 1, .num 10)] fun p => { p with decoder := [(0, run0)] }
def pend : State := trigS { st := 1, armAt := 5120 } [(key 0x4019 1, .num 1), (key 0x5010 1, .num (2^31))]
def armedT : State := trigS { st := 2, armAt := 5000 } []
def v6 : GpSample := {}
def disS : State := trigS { st := 4, armAt := 3000, disarming := true, disarmAt := 5120, value := [1,2,3,4,5,6,7,8], timer := [(0, { running := true, start := 4000 })] } []
def tmS : State := trigS { st := 2, armAt := 3000, timer := [(0, { running := true, start := 4000 })] } [(key 0x4018 1, .num 1500)]
def openW (n : Nat) : WindowSt := { st := 2, had := true, open_ := true, wpos := 70, cur := List.replicate n 5, curK := 4000, lastRec := 4900 }
def v7 : State := winS { openW 400 with freezeAt := some 4990 } []
def st0 : StreamSt := {}
def v8 : State := streamS {} 0
def v9 : State := streamS { produced := 65536 } 0
def fr : SpillFrame := { id := 0, block := 0, lane := 0 }
def flying : State := let s := streamS { flight := [fr], next := 1, nextId := 1 } 0; { s with comp := { s.comp with lane := [(0, 1, 0)] } }
def v10 : LaneEvent := {}
def v11 : LaneEvent := { bad := true }
def v12 : State := streamS { st := 3 } 0
def v13 : State := streamS { st := 4 } 0

theorem witness_BelayFramesAndSupervision_a :
    (v1.belay.startAt = some 1000) ∧
    (v1.belay.missed = []) ∧
    (v1.belay.broken = []) ∧
    (v1.belay.sweep = none) ∧
    (∀ l < 32, v1.feOver l v1.belay.frame = false) ∧
    (v1.belay.lockBy = none) := by decide +kernel

theorem witness_BelayFramesAndSupervision_b :
    (16 ∈ (missedS 3).belay.missed) ∧
    (((missedS 3).loop 16).missRun < 15) ∧
    ((missedS 3).mgtFast = true) := by decide +kernel

theorem witness_BelayFramesAndSupervision_c :
    (16 ∈ (missedS 15).belay.missed) ∧
    (((missedS 15).loop 16).missRun = 15) ∧
    (((missedS 15).loop 16).st = 1 ∨ ((missedS 15).loop 16).st = 2) ∧
    ((missedS 15).mgtFast = true) := by decide +kernel

theorem witness_BelayFramesAndSupervision_d :
    (feS.feOver 16 feS.belay.frame = true) ∧
    (feS.mgtFast = true) := by decide +kernel

theorem witness_BelayFramesAndSupervision_e :
    (lockS.belay.lockBy = some 9000) ∧
    (lockS.mgtFast = true) := by decide +kernel

theorem witness_BelayFramesAndSupervision_f :
    (Alone heldL) ∧
    (Accepted heldL jtag 25099 0 196608) ∧
    (∀ l < 32, heldL.feOver l heldL.belay.frame = false) := ⟨by unfold Alone; decide +kernel, by unfold Accepted; decide +kernel, by decide +kernel⟩

theorem witness_BelayFramesAndSupervision_g :
    (Alone v3) ∧
    (Accepted v3 jtag 25168 1 31) := ⟨by unfold Alone; decide +kernel, by unfold Accepted; decide +kernel⟩

theorem witness_ProbeBankAndDecoders_a :
    ((probing [] id).granuleOn 0 = true) ∧
    ((probing [] id).z 14336 1 = 2) ∧
    (((probing [] id).pll Pll.ppll).locked = true) ∧
    ((probing [] id).mgtFast = true) := by decide +kernel

theorem witness_ProbeBankAndDecoders_b :
    (v4.granule 0).settleTo ≠ 0 := by decide +kernel

theorem witness_ProbeBankAndDecoders_c :
    mget v5.probe.pulse 2 = some 6000 := by decide +kernel

theorem witness_ProbeBankAndDecoders_d :
    ((dq.decoder 0).running = true) ∧
    ((dq.decoder 0).startAt < 4500) ∧
    (dq.decBad 0 4500 = false) ∧
    ((dq.decoder 0).edgeAt.isSome = true → 4500 ≤ dq.stillTick 0) ∧
    (((dq.decoder 0).zWait || !(dq.decoder 0).z && false && decZen (dq.decCtl 0)) = false) ∧
    (countStep (decMode (dq.decCtl 0)) (dq.decoder 0).a (dq.decoder 0).b true false = some 1) ∧
    (dq.z 0x3800 1 ≠ 0) := by decide +kernel

theorem witness_ProbeBankAndDecoders_d1 :
    ((dq.decoder 0).running = true) ∧
    ((dq.decoder 0).startAt < 4500) ∧
    (dq.decBad 0 4500 = false) ∧
    ((dq.decoder 0).edgeAt.isSome = true → 4500 ≤ dq.stillTick 0) ∧
    (((dq.decoder 0).zWait || !(dq.decoder 0).z && false && decZen (dq.decCtl 0)) = false) ∧
    (countStep (decMode (dq.decCtl 0)) (dq.decoder 0).a (dq.decoder 0).b false true = some (-1)) ∧
    (dq.z 0x3800 1 ≠ 0) := by decide +kernel

theorem witness_ProbeBankAndDecoders_d2 :
    ((dq.decoder 0).running = true) ∧
    ((dq.decoder 0).startAt < 4500) ∧
    (dq.decBad 0 4500 = false) ∧
    ((dq.decoder 0).edgeAt.isSome = true → 4500 ≤ dq.stillTick 0) ∧
    (((dq.decoder 0).zWait || !(dq.decoder 0).z && false && decZen (dq.decCtl 0)) = false) ∧
    (countStep (decMode (dq.decCtl 0)) (dq.decoder 0).a (dq.decoder 0).b false false = some 0) ∧
    (dq.z 0x3800 1 ≠ 0) := by decide +kernel

theorem witness_ProbeBankAndDecoders_e :
    ((dq.decoder 0).running = true) ∧
    ((dq.decoder 0).startAt < 4500) ∧
    (dq.decBad 0 4500 = false) ∧
    ((dq.decoder 0).edgeAt.isSome = true → 4500 ≤ dq.stillTick 0) ∧
    (((dq.decoder 0).zWait || !(dq.decoder 0).z && false && decZen (dq.decCtl 0)) = false) ∧
    (countStep (decMode (dq.decCtl 0)) (dq.decoder 0).a (dq.decoder 0).b true true = none) ∧
    (dq.z 0x3800 1 ≠ 0) := by decide +kernel

theorem witness_ProbeBankAndDecoders_f :
    (((dz 0 100).decoder 0).running = true) ∧
    (((dz 0 100).decoder 0).startAt < 4500) ∧
    ((dz 0 100).decBad 0 4500 = false) ∧
    (((dz 0 100).decoder 0).edgeAt.isSome = true → 4500 ≤ (dz 0 100).stillTick 0) ∧
    (decZen ((dz 0 100).decCtl 0) = true) ∧
    (decZqual ((dz 0 100).decCtl 0) = false) ∧
    (((dz 0 100).decoder 0).z = false) ∧
    ((dz 0 100).mgtFast = true) ∧
    ((dz 0 100).z 0x3800 1 ≠ 0) := by decide +kernel

theorem witness_ProbeBankAndDecoders_g :
    ((dq.decoder 0).running = true) ∧
    ((dq.decoder 0).edgeAt.isSome = true) ∧
    ((dq.decoder 0).still = false) ∧
    (dq.z 0x3800 1 ≠ 0) := by decide +kernel

theorem witness_ProbeBankAndDecoders_h :
    (Alone dq) ∧
    (Accepted dq jtag 14600 (0 + 1) 1280262468) := ⟨by unfold Alone; decide +kernel, by unfold Accepted; decide +kernel⟩

theorem witness_TriggerArmsTimesAndDisarms_a :
    (Alone base) ∧
    (Accepted base jtag 16384 1 1095912737) := ⟨by unfold Alone; decide +kernel, by unfold Accepted; decide +kernel⟩

theorem witness_TriggerArmsTimesAndDisarms_b :
    (Alone pend) ∧
    (pend.trig.st = 1) ∧
    (pend.releases = true) := ⟨by unfold Alone; decide +kernel, by decide +kernel, by decide +kernel⟩

theorem witness_TriggerArmsTimesAndDisarms_c :
    (Alone armedT) ∧
    (armedT.trig.st = 2 ∨ armedT.trig.st = 4) ∧
    (armedT.trig.disarming = false) ∧
    (armedT.releases = true) ∧
    (armedT.time.lastRelease = some 4999) ∧
    (4999 + 1 < 2 ^ 64) := ⟨by unfold Alone; decide +kernel, by decide +kernel, by decide +kernel, by decide +kernel, by decide +kernel, by decide +kernel⟩

theorem witness_TriggerArmsTimesAndDisarms_d :
    (Alone armedT) ∧
    (Accepted armedT jtag 16384 2 1398034256) := ⟨by unfold Alone; decide +kernel, by unfold Accepted; decide +kernel⟩

theorem witness_TriggerArmsTimesAndDisarms_e :
    (Alone disS) ∧
    (disS.trig.disarming = true) := ⟨by unfold Alone; decide +kernel, by decide +kernel⟩

theorem witness_TriggerArmsTimesAndDisarms_f :
    (Alone tmS) ∧
    ((tmS.timer 0).running = true) ∧
    (tmS.n 16408 (0 + 1) ≠ 0) ∧
    (tmS.trig.st = 2 ∨ tmS.trig.st = 4) ∧
    (bit (tmS.z 16409 (0 + 1)) 1 = true ∨ tmS.nextExpiry 0 = (tmS.timer 0).start + tmS.n 16408 (0 + 1)) := ⟨by unfold Alone; decide +kernel, by decide +kernel, by decide +kernel, by decide +kernel, by decide +kernel⟩

theorem witness_WindowsAndStreams_a :
    (((winS (openW 400) []).win 0).open_ = true) ∧
    ((winS (openW 400) []).winLive 0 = true) ∧
    ((winS (openW 400) []).n (20496 + 0) 6 ≠ 0) := by decide +kernel

theorem witness_WindowsAndStreams_b :
    ((v7.win 0).freezeAt = some 4990) ∧
    (v7.time.lastRelease = some 4999) ∧
    (4990 ≤ 4999) ∧
    (v7.winLive 0 = true) := by decide +kernel

theorem witness_WindowsAndStreams_c :
    (Alone v8) ∧
    (v8.streamWants 0 = true) ∧
    (v8.ringRoom 0 = true) ∧
    (v8.freeLane = some 0) := ⟨by unfold Alone; decide +kernel, by decide +kernel, by decide +kernel, by decide +kernel⟩

theorem witness_WindowsAndStreams_d :
    (Alone v9) ∧
    (v9.streamWants 0 = true) ∧
    (v9.ringRoom 0 = false) ∧
    ((v9.stream 0).st ≠ 3) ∧
    (v9.mgtFast = true) := ⟨by unfold Alone; decide +kernel, by decide +kernel, by decide +kernel, by decide +kernel, by decide +kernel⟩

theorem witness_WindowsAndStreams_e :
    (Alone flying) ∧
    (List.find? (fun y => !y.encoded) (flying.stream 0).flight = some fr) ∧
    (flying.engineOn = true) ∧
    (v10.bad = false) := ⟨by unfold Alone; decide +kernel, by decide +kernel, by decide +kernel, by decide +kernel⟩

theorem witness_WindowsAndStreams_f :
    (Alone flying) ∧
    (List.find? (fun y => !y.encoded) (flying.stream 0).flight = some fr) ∧
    (flying.engineOn = true) ∧
    (v11.bad = true) ∧
    (v11.corrected = 0) := ⟨by unfold Alone; decide +kernel, by decide +kernel, by decide +kernel, by decide +kernel, by decide +kernel⟩

theorem witness_WindowsAndStreams_g :
    (Alone v12) ∧
    ((v12.stream 0).st = 3) ∧
    ((v12.stream 0).rereading = false) ∧
    (v12.streamEn 0 = true) ∧
    (v12.route (v12.z (20736 + 0) 5) = some (0, 40)) ∧
    (v12.portActive 0 = true) ∧
    (vcPresent (v12.port 0).gen 0 = true) ∧
    (List.length v12.coh.reqs < 64) ∧
    (v12.lineBusy (v12.z (20736 + 0) 5) = false) := ⟨by unfold Alone; decide +kernel, by decide +kernel, by decide +kernel, by decide +kernel, by decide +kernel, by decide +kernel, by decide +kernel, by decide +kernel, by decide +kernel⟩

theorem witness_WindowsAndStreams_h :
    (Alone v13) ∧
    (Accepted v13 jtag 20768 (0 + 1) 1380275029) ∧
    (v13.mgtFast = true) := ⟨by unfold Alone; decide +kernel, by unfold Accepted; decide +kernel, by decide +kernel⟩
end units
end Sys2Proof.Tests
end

section
/-! PROOF. How a step runs: every command's meaning ends through `State.ends`, which gives the queue back as the command found it. -/
namespace Sys2Proof.Machine

/-! ### One step, by the queue -/

theorem step_of_pending_nil {s : State} (h : s.pending = []) : step s = s.ends (s.elapse 1) := by
  unfold step; rw [h]

theorem step_of_pending_cons {s : State} {c : Instr} {q : List Instr} (h : s.pending = c :: q) :
    step s = exec c { s with pending := q } := by
  unfold step; rw [h]

/-! ### The end of a command -/

/-- Every command has a meaning, and each meaning ends in the one common way: none faults, and none is refused. -/
theorem exec_eq_ends (c : Instr) (s : State) : ∃ u, exec c s = s.ends u := by
  cases c <;> exact ⟨_, rfl⟩

/-- A command completes and leaves the queue of the commands that wait alone. -/
theorem exec_completes (c : Instr) (s : State) : ∃ t, exec c s = .next t ∧ t.pending = s.pending := by
  obtain ⟨u, hu⟩ := exec_eq_ends c s
  exact ⟨_, hu, rfl⟩

/-! ### The passing of time -/

@[simp] theorem State.elapse_now (s : State) (d : Nat) : (s.elapse d).now = s.now + d := by
  unfold State.elapse; dsimp only; split <;> rfl

theorem State.elapse_time_of_stopped {s : State} (d : Nat) (h : s.time.tickRun = false) : (s.elapse d).time = s.time := by
  simp [State.elapse, h]

/-- Where the tick counter runs and the time base does not bridge, each nanosecond is one tick (R6, R451). -/
theorem State.elapse_tick_of_running {s : State} (d : Nat) (hrun : s.time.tickRun = true) (hb : s.time.bridging = false) :
    (s.elapse d).time.tick = s.time.tick + d := by
  simp [State.elapse, hrun, hb]

/-! ### The obligations -/

theorem noStepStops : Claims.NoStepStops := by
  intro s
  cases h : s.pending with
  | nil => exact ⟨_, step_of_pending_nil h, h⟩
  | cons c q =>
    obtain ⟨t, ht, hq⟩ := exec_completes c { s with pending := q }
    exact ⟨t, (step_of_pending_cons h).trans ht, hq⟩

theorem idleStepLetsTimePass : Claims.IdleStepLetsTimePass := by
  intro s h
  refine ⟨_, step_of_pending_nil h, ?_, h, fun hstop => ?_, fun hrun hb => ?_⟩
  · exact (State.alertSync_now _).trans (State.elapse_now s 1)
  · exact (State.alertSync_time _).trans (State.elapse_time_of_stopped 1 hstop)
  · exact (congrArg TimeBase.tick (State.alertSync_time _)).trans (State.elapse_tick_of_running 1 hrun hb)

/-- Settles O1: on a queue with a front, a step is that command's meaning. -/
theorem stepRunsTheFrontCommand : Obligations.StepRunsTheFrontCommand :=
  fun _ _ _ => step_of_pending_cons rfl

/-- Settles O4: a step is a command's meaning or one nanosecond, and both end through `State.ends`. -/
theorem stepsAlwaysComplete : Obligations.StepsAlwaysComplete :=
  ⟨noStepStops, idleStepLetsTimePass⟩

end Sys2Proof.Machine
end

section
/-! PROOF. How a staged set takes effect: installing it gives each object of the set its value, and the commit counts itself after
the set has taken effect. -/
namespace Sys2Proof.Machine

/-! ### Installing a set, entry by entry -/

theorem State.install_nil_obj (s : State) : (s.install []).obj = s.obj := rfl

theorem State.install_cons_obj (s : State) (e : Staged) (l : List Staged) :
    (s.install (e :: l)).obj = ((s.putVal e.idx e.sub e.val).install l).obj := rfl

/-- An object that a set does not name keeps its value (R316). -/
theorem State.install_val_of_forall_ne {l : List Staged} {idx sub : Nat} (hne : ∀ e ∈ l, key e.idx e.sub ≠ key idx sub) (s : State) :
    (s.install l).val idx sub = s.val idx sub := by
  induction l generalizing s with
  | nil => exact State.val_congr s.install_nil_obj idx sub
  | cons e l ih =>
    obtain ⟨he, hl⟩ := List.forall_mem_cons.mp hne
    rw [State.val_congr (s.install_cons_obj e l), ih hl, State.val_putVal, if_neg he.symm]

/-- Where no object has two entries, no later entry of a set overwrites what one of them has put (R316). -/
theorem State.install_val_of_mem {l : List Staged} (hd : (l.map fun e => key e.idx e.sub).Nodup) {e : Staged} (he : e ∈ l) (s : State) :
    (s.install l).val e.idx e.sub = e.val := by
  induction l generalizing s with
  | nil => cases he
  | cons x l ih =>
    obtain ⟨hx, hl⟩ := List.nodup_cons.mp hd
    rw [State.val_congr (s.install_cons_obj x l)]
    rcases List.mem_cons.mp he with rfl | he
    · have hne : ∀ y ∈ l, key y.idx y.sub ≠ key e.idx e.sub := fun y hy heq => hx (List.mem_map.mpr ⟨y, hy, heq⟩)
      rw [State.install_val_of_forall_ne hne, State.val_putVal, if_pos rfl]
    · exact ih hl he _

/-! ### A commit whose set names the commit's own counter -/

/-- A device whose commit waits for its boundary with TICK out of reset, and whose set holds 7 for 2004h:2, the count of the commits.
The object is of class R, so no accepted write stages it (Table 5.5); a state of the model may hold it all the same. -/
def countStaged : State :=
  { State.reset with
    clk := { State.reset.clk with dom := [(domNo .tick, { inReset := false })] }
    commit := { State.reset.commit with state := 3 }
    staged := [⟨0x2004, 2, .num 7, .jtag, 3, false⟩] }

/-- The set takes effect before the commit is counted, so the count goes on from the staged 7. -/
theorem countStaged_applies : ∃ t, exec .commitApply countStaged = .next t ∧ t.z 0x2004 2 = 8 :=
  ⟨_, rfl, by decide +kernel⟩

/-! ### The obligations -/

/-- Settles O23: a set is installed entry by entry, and each entry puts the value of one object. -/
theorem installPutsEveryValue : Obligations.InstallPutsEveryValue :=
  fun s _ hd => ⟨fun _ he => State.install_val_of_mem hd he s, fun _ _ hne => State.install_val_of_forall_ne hne s⟩

/-- Refutes O22: it asks that 2004h:2 become one more than before the commit for every staged set, and a set that holds 2004h:2
itself (`countStaged`) makes it 8 where it was 0. The statement has no hypothesis that keeps such an object, which no accepted write
stages, out of the set. -/
theorem not_commitAppliesTheWholeSet : ¬ Obligations.CommitAppliesTheWholeSet := by
  intro h
  have hbefore : countStaged.z 0x2004 2 = 0 := rfl
  obtain ⟨t, ht, -, -, hcount, -⟩ := (h countStaged rfl rfl).1 (by decide)
  obtain ⟨u, hu, height⟩ := countStaged_applies
  obtain rfl : t = u := Host.Outcome.next.inj (ht.symm.trans hu)
  rw [height, hbefore] at hcount
  exact absurd hcount (by decide)

end Sys2Proof.Machine
end

section
/-! PROOF. Supplies and resets: what entering a reset leaves, and how its release begins the boot. -/
namespace Sys2Proof.Machine

/-! ### Entering a reset -/

/-- The fuses that a reset cuts short change the security unit and draw free values, and nothing else (R783, R794). -/
theorem State.fusesCut_eq (s : State) : ∃ f x, s.burnCut.fuseCut = { s with free := f, sec := x } := by
  have hburn : ∃ f x, s.burnCut = { s with free := f, sec := x } := by
    unfold State.burnCut; split <;> exact ⟨_, _, rfl⟩
  have hfuse : ∀ t : State, ∃ f x, t.fuseCut = { t with free := f, sec := x } := by
    intro t; unfold State.fuseCut; split <;> dsimp only [State.drawn] <;> split <;> exact ⟨_, _, rfl⟩
  obtain ⟨f, x, h⟩ := hburn
  rw [h]
  exact hfuse _

@[simp] theorem State.enterReset_power (s : State) (k : ResetKind) : (s.enterReset k).power = s.power := by
  obtain ⟨f, x, h⟩ := s.fusesCut_eq
  unfold State.enterReset; rw [h]

/-- A reset of each kind leaves what Table 4.2 says, with its code in 2010h:0. -/
theorem State.enterReset_cleared (s : State) (k : ResetKind) : Cleared (resetCode k) s (s.enterReset k) := by
  obtain ⟨f, x, h⟩ := s.fusesCut_eq
  have hcode : (s.enterReset k).val 0x2010 0 = .num (resetCode k) := by
    simp [State.enterReset, State.val]
  unfold State.enterReset at hcode ⊢
  rw [h] at hcode ⊢
  exact ⟨rfl, hcode, rfl, rfl, rfl, rfl, rfl, rfl, rfl, rfl, rfl, rfl, rfl, rfl, rfl, rfl⟩

/-- What the end of a command adds does not touch what a reset has cleared. -/
theorem cleared_of_ends {code : Nat} {s u : State} (h : Cleared code s u) : Cleared code s { u.alertSync with pending := s.pending } := by
  obtain ⟨hstep, hcode, hstaged, hlocked, hcommit, hports, hcoh, htime, hbelay, htrig, hsto, hcomp, hcells, -, hnow, hout⟩ := h
  have hval : u.alertSync.val 0x2010 0 = .num code := (u.alertSync_val _ _ (by decide)).trans hcode
  refine ⟨?_, hval, ?_⟩
  · simpa using hstep
  · simp [*]

/-! ### A tamper event within a reset -/

/-- What a tamper event may change: objects other than 2010h:0, the paths, the alert tree, the security unit and the warm reset that
is due (R799). -/
def State.Tampered (s t : State) : Prop :=
  (∃ o a l x w, t = { s with obj := o, acc := a, alerts := l, sec := x, boot := { s.boot with warmDue := w } }) ∧
    t.val 0x2010 0 = s.val 0x2010 0

theorem State.Tampered.refl (s : State) : s.Tampered s := ⟨⟨_, _, _, _, _, rfl⟩, rfl⟩

theorem State.Tampered.trans {s t u : State} (h : s.Tampered t) (k : t.Tampered u) : s.Tampered u := by
  obtain ⟨⟨o, a, l, x, w, rfl⟩, hv⟩ := h
  obtain ⟨⟨o', a', l', x', w', rfl⟩, kv⟩ := k
  exact ⟨⟨o', a', l', x', w', rfl⟩, kv.trans hv⟩

theorem State.Tampered.ite {s t u : State} {c : Prop} [Decidable c] (ht : s.Tampered t) (hu : s.Tampered u) :
    s.Tampered (if c then t else u) := by
  split
  · exact ht
  · exact hu

theorem State.setSec_tampered (s : State) (x : Security) : s.Tampered { s with sec := x } := ⟨⟨_, _, _, _, _, rfl⟩, rfl⟩

theorem State.bump_tampered (s : State) : s.Tampered (s.bump 0xF098 4 1) :=
  ⟨⟨_, _, _, _, _, rfl⟩, State.val_bump _ _ _ _ _ _ (by decide)⟩

theorem State.setCause_tampered (s : State) (b : Nat) : s.Tampered (s.setCause 15 b) := by
  obtain ⟨o, a, l, h⟩ := s.setWord_alerted 15 (0x2101 + 15) 0 (2 ^ b)
  exact ⟨⟨o, a, l, s.sec, s.boot.warmDue, h⟩, s.setWord_val _ _ _ _ _ _ (by decide) (by decide) (by decide) (by decide)⟩

theorem State.setWarmDue_tampered (s : State) (w : Bool) : s.Tampered { s with boot := { s.boot with warmDue := w } } :=
  ⟨⟨_, _, _, _, _, rfl⟩, rfl⟩

theorem State.closeSession_tampered (s : State) (p : Nat) : s.Tampered (s.closeSession p) :=
  ⟨⟨_, _, _, _, _, rfl⟩, State.val_congr rfl _ _⟩

theorem State.closeSessions_tampered (s : State) : s.Tampered s.closeSessions :=
  (((s.closeSession_tampered 1).trans (State.closeSession_tampered _ 2)).trans (State.closeSession_tampered _ 3)).trans
    (State.closeSession_tampered _ 4)

theorem State.tamperBy_tampered (s : State) (ctl lcs mask : Nat) (vddio : Bool) : s.Tampered (s.tamperBy ctl lcs mask vddio) := by
  unfold State.tamperBy
  extract_lets m join prev all r entry _ logged new tamp0 tamp1 counted wiped _
  have hlogged : s.Tampered logged := s.setSec_tampered _
  have htamp0 : s.Tampered tamp0 := (hlogged.trans (State.setCause_tampered _ 0)).ite hlogged
  have htamp1 : s.Tampered tamp1 := (htamp0.trans (State.setCause_tampered _ 1)).ite htamp0
  have hcounted : s.Tampered counted := htamp1.ite (htamp1.trans (State.bump_tampered _))
  have hwiped : s.Tampered wiped := hcounted.ite (hcounted.trans (State.setSec_tampered _ _))
  have hclosed : s.Tampered (if wiped.mgtUp then wiped.closeSessions else wiped) :=
    (hwiped.trans wiped.closeSessions_tampered).ite hwiped
  have hdue : s.Tampered { wiped with boot := { wiped.boot with warmDue := true } } :=
    hwiped.trans (wiped.setWarmDue_tampered true)
  exact (State.Tampered.refl s).ite (hclosed.ite (hdue.ite hwiped))

theorem State.Tampered.power {s t : State} (h : s.Tampered t) : t.power = s.power := by
  obtain ⟨⟨_, _, _, _, _, rfl⟩, -⟩ := h
  rfl

theorem State.Tampered.cleared {code : Nat} {s t u : State} (h : t.Tampered u) (hc : Cleared code s t) : Cleared code s u := by
  obtain ⟨⟨_, _, _, _, _, rfl⟩, hv⟩ := h
  obtain ⟨hstep, hcode, hrest⟩ := hc
  exact ⟨hstep, hv.trans hcode, hrest⟩

/-! ### A supply that falls -/

/-- The fall of a supply is a POR, and the records of a tamper event where VDDIO falls alone (R70, R98). -/
theorem State.supplyFall_tampered (s : State) (rail : Rail) :
    (State.enterReset { s with power := s.power.fall rail s.now } .por).Tampered (s.supplyFall rail) := by
  unfold State.supplyFall
  extract_lets p t m low recorded
  have hrecorded : t.Tampered recorded := (t.setSec_tampered _).trans (State.tamperBy_tampered _ _ _ _ _)
  have hend : t.Tampered { recorded with boot := { recorded.boot with warmDue := false } } :=
    hrecorded.trans (recorded.setWarmDue_tampered false)
  exact hend.ite (.refl t)

theorem State.supplyFall_cleared (s : State) (rail : Rail) : Cleared 0 s (s.supplyFall rail) :=
  (s.supplyFall_tampered rail).cleared (State.enterReset_cleared { s with power := s.power.fall rail s.now } .por)

theorem State.supplyFall_power (s : State) (rail : Rail) : (s.supplyFall rail).power = s.power.fall rail s.now :=
  (s.supplyFall_tampered rail).power.trans (State.enterReset_power _ _)

/-! ### The causes of a reset -/

theorem State.supplyTrip_long (s : State) (rail : Rail) {ns : Nat} (h : 1000 ≤ ns) : s.supplyTrip rail ns = s.supplyFall rail := by
  simp [State.supplyTrip, h, Nat.not_lt.mpr h]

theorem State.pinReset_long {s : State} {ns : Nat} (h : 1200 ≤ ns) (hpor : s.power.por = false) (htrip : s.power.tripHeld = false) :
    s.pinReset ns = State.enterReset { s with power := { s.power with pinHeld := true } } .pin := by
  simp [State.pinReset, h, Nat.not_lt.mpr h, hpor, htrip]

theorem State.thermalTrip_free {s : State} (hpor : s.power.por = false) (htrip : s.power.tripHeld = false) :
    s.thermalTrip = State.enterReset { s with power := { s.power with tripHeld := true, tripped := true } } .thermal := by
  simp [State.thermalTrip, hpor, htrip]

/-! ### The release of a reset -/

/-- What the load of the always-on latch may change before ALERT_N follows: objects and the alert part (R341). -/
def State.Loaded (s t : State) : Prop := ∃ o l, t = { s with obj := o, alerts := l }

theorem State.Loaded.refl (s : State) : s.Loaded s := ⟨_, _, rfl⟩

theorem State.Loaded.trans {s t u : State} (h : s.Loaded t) (k : t.Loaded u) : s.Loaded u := by
  obtain ⟨o, l, rfl⟩ := h
  obtain ⟨o', l', rfl⟩ := k
  exact ⟨o', l', rfl⟩

theorem State.Loaded.foldl {α : Type} {f : State → α → State} (h : ∀ (s : State) (x : α), s.Loaded (f s x)) (l : List α) :
    ∀ s : State, s.Loaded (l.foldl f s) := by
  induction l with
  | nil => exact State.Loaded.refl
  | cons x l ih => exact fun s => (h s x).trans (ih _)

theorem State.putCause_loaded (s : State) (idx sub n : Nat) : s.Loaded (s.putCause idx sub n) := ⟨_, _, rfl⟩

theorem State.latchFault_loaded (s : State) (k : Nat) : s.Loaded (s.latchFault k) := by
  unfold State.latchFault
  extract_lets idx br found
  have hfound : s.Loaded found := by
    unfold found
    split
    · exact s.putCause_loaded _ _ _
    · split
      · exact s.putCause_loaded _ _ _
      · split
        · exact (s.putCause_loaded _ _ _).trans (State.Loaded.foldl (fun s _ => s.putCause_loaded _ _ _) _ _)
        · exact s.putCause_loaded _ _ _
  exact hfound.trans ⟨_, _, rfl⟩

theorem State.reloadLatch_eq (s : State) : ∃ o l, s.reloadLatch = State.alertSync { s with obj := o, alerts := l } := by
  have hwords : s.Loaded (s.alerts.latch.foldl (fun (s : State) e => s.put (e.1 / 256) (e.1 % 256) e.2) s) :=
    State.Loaded.foldl (fun _ _ => ⟨_, _, rfl⟩) _ _
  unfold State.reloadLatch
  extract_lets t bad
  have hbad : s.Loaded (bad.foldl State.latchFault { t with alerts := { t.alerts with badParity := [] } }) :=
    (hwords.trans ⟨_, _, rfl⟩).trans (State.Loaded.foldl State.latchFault_loaded _ _)
  obtain ⟨o, l, h⟩ := hbad
  exact ⟨o, l, congrArg State.alertSync h⟩

/-- The boot sequencer as its first step finds it (R160). -/
def Boot.begun (b : Boot) (step now : Nat) : Boot := { b with step := step, entry := step, releasedAt := now, stepAt := now }

theorem State.startBoot_eq (s : State) (step : Nat) :
    ∃ o l, s.startBoot step = State.alertSync { s with boot := s.boot.begun step s.now, obj := o, alerts := l } :=
  State.reloadLatch_eq _

@[simp] theorem State.startBoot_now (s : State) (step : Nat) : (s.startBoot step).now = s.now := by
  obtain ⟨o, l, h⟩ := s.startBoot_eq step; simp [h]

@[simp] theorem State.startBoot_power (s : State) (step : Nat) : (s.startBoot step).power = s.power := by
  obtain ⟨o, l, h⟩ := s.startBoot_eq step; simp [h]

@[simp] theorem State.startBoot_boot (s : State) (step : Nat) : (s.startBoot step).boot = s.boot.begun step s.now := by
  obtain ⟨o, l, h⟩ := s.startBoot_eq step; simp [h]

theorem Part.same_refl (p : Part) (s : State) : p.same s s := by
  cases p with
  | acc => exact ⟨rfl, fun _ => rfl⟩
  | latch => exact ⟨rfl, rfl, rfl⟩
  | _ => rfl

/-- A part that is the same before ALERT_N and the ALERT frames follow the tree is the same afterwards. -/
theorem Part.same_alertSync {p : Part} {s u : State} (h : p.same s u) : p.same s u.alertSync := by
  cases p with
  | acc => exact ⟨u.alertSync_accRest.trans h.1, fun k => (quietPath_alertSync u k).trans (h.2 k)⟩
  | _ => simpa [Part.same] using h

/-- The begin of the boot changes the sequencer, the objects and the alert tree alone. -/
theorem State.startBoot_same (s : State) (q : Power) (step : Nat) {p : Part} (h : p ∉ [Part.power, .boot, .latch]) :
    p.same s (State.startBoot { s with power := q } step) := by
  obtain ⟨o, l, hboot⟩ := State.startBoot_eq { s with power := q } step
  rw [hboot]
  refine Part.same_alertSync ?_
  have hself := Part.same_refl p s
  cases p with
  | power | boot | latch => simp at h
  | _ => exact hself

@[simp] theorem State.elapseTo_now (s : State) (t : Nat) : (s.elapseTo t).now = max s.now t := by
  unfold State.elapseTo
  split
  · rw [State.elapse_now]; omega
  · omega

/-- The end of a release of POR in the right supply order, AON time counting from this real time: what stands of `State.porRelease` once its
1.0 ms have passed. -/
def State.porEnds (s : State) (temp : Int) (rose : Nat) : State :=
  let p := s.power
  let s := { s with
    power := { p with
      por := false, bootRoleSel := p.roleSel, bootPairPres := p.pairPres, vaonLost := false
      vddioLow := false, vddioUp := true, vaonUp := true, rmiiUp := true, lnkUp := true, prbUp := true, vaonRose := rose }
    pair := { s.pair with role := b2n p.pairPres } }
  if 132 ≤ temp then
    { s with power := { s.power with tripHeld := true, tripped := true }, obj := mset s.obj (key 0x2010 0) (.num 3) }
  else if p.pinHeld then { s with obj := mset s.obj (key 0x2010 0) (.num 1) }
  else s.startBoot 1

theorem State.porRelease_eq {s : State} (temp : Int) (hpor : s.power.por = true) :
    ∃ rose, s.porRelease temp true = (s.elapseTo (s.power.porAt + 1000000)).porEnds temp rose := by
  unfold State.porRelease
  rw [if_neg (by simp [hpor])]
  generalize s.elapseTo (s.power.porAt + 1000000) = t
  exact ⟨_, rfl⟩

/-- A cool device whose RESET_N is high begins its boot, with the straps as they are then (R99, R107). -/
theorem State.porEnds_boots {s : State} {temp : Int} (rose : Nat) (hpin : s.power.pinHeld = false) (ht : temp < 132) :
    ∃ u : State, s.porEnds temp rose = u.startBoot 1 ∧ u.now = s.now ∧ u.power.por = false ∧
      u.power.bootRoleSel = s.power.roleSel ∧ u.power.bootPairPres = s.power.pairPres := by
  unfold State.porEnds
  rw [if_neg (Int.not_le.mpr ht), if_neg (by simp [hpin])]
  exact ⟨_, rfl, rfl, rfl, rfl, rfl⟩

theorem State.bootIfFree_boots {s : State} (hpor : s.power.por = false) (hpin : s.power.pinHeld = false)
    (htrip : s.power.tripHeld = false) (hstep : s.boot.step = 0) : s.bootIfFree = s.startBoot 1 := by
  simp [State.bootIfFree, State.up, hpor, hpin, htrip, hstep]

/-! ### The obligations -/

/-- Settles O3: at power-on no supply is there, so that no output is driven, and the rest is the value of each field. -/
theorem powerOnState : Obligations.PowerOnState := by
  refine ⟨by unfold AlertsFollow; decide, rfl, rfl, by decide, rfl, rfl, rfl, Memory.wf_reset, rfl, fun o => ?_⟩
  have hdead : State.reset.powered o = false := by cases o <;> rfl
  simp [State.pinLevel, hdead]

/-- Settles O5: each of the three resets is an `enterReset`, which leaves what Table 4.2 says (`State.enterReset_cleared`). -/
theorem resetsClearTheDevice : Obligations.ResetsClearTheDevice := by
  intro s
  refine ⟨fun rail ns hns => ⟨_, rfl, ?_, ?_⟩, fun ns hns hpor htrip => ⟨_, rfl, ?_, ?_⟩, fun hpor htrip => ⟨_, rfl, ?_, ?_, ?_⟩⟩
  · rw [s.supplyTrip_long rail hns]
    exact cleared_of_ends (s.supplyFall_cleared rail)
  · rw [s.supplyTrip_long rail hns]
    simp [s.supplyFall_power rail, Power.fall]
  · rw [State.pinReset_long hns hpor htrip]
    exact cleared_of_ends (State.enterReset_cleared { s with power := { s.power with pinHeld := true } } .pin)
  · simp [State.pinReset_long hns hpor htrip]
  · rw [State.thermalTrip_free hpor htrip]
    exact cleared_of_ends (State.enterReset_cleared { s with power := { s.power with tripHeld := true, tripped := true } } .thermal)
  · simp [State.thermalTrip_free hpor htrip]
  · simp [State.thermalTrip_free hpor htrip]

/-- Settles O6: each of the three releases is a `startBoot` at step 1. -/
theorem releasesBeginTheBoot : Obligations.ReleasesBeginTheBoot := by
  intro s
  refine ⟨fun temp hpor hpin ht => ?_, fun hpin hpor htrip hstep => ?_, fun temp ht htrip hpor hpin hstep => ?_⟩
  · obtain ⟨rose, hrelease⟩ := State.porRelease_eq temp hpor
    obtain ⟨u, hu, hnow, hreleased, hrole, hpair⟩ :=
      State.porEnds_boots (s := s.elapseTo (s.power.porAt + 1000000)) rose (by simpa using hpin) ht
    refine ⟨_, rfl, ?_⟩
    simp [hrelease, hu, hnow, hreleased, hrole, hpair, Boot.begun]
  · have hboots : s.pinRelease = State.startBoot { s with power := { s.power with pinHeld := false } } 1 := by
      simp only [State.pinRelease, hpin, if_true]
      exact State.bootIfFree_boots hpor rfl htrip hstep
    refine completesWithin_of_ends (u := s.pinRelease) rfl ?_ ?_
    · rw [hboots]; exact fun p => s.startBoot_same _ 1
    · simp [hboots, Boot.begun]
  · have hboots : s.tripRecovery temp = State.startBoot { s with power := { s.power with tripHeld := false, therm := false } } 1 := by
      simp only [State.tripRecovery, htrip, ht, and_self, if_true]
      exact State.bootIfFree_boots hpor hpin rfl hstep
    refine completesWithin_of_ends (u := s.tripRecovery temp) rfl ?_ ?_
    · rw [hboots]; exact fun p => s.startBoot_same _ 1
    · simp [hboots, Boot.begun]

end Sys2Proof.Machine
end

section
/-! PROOF. Sensors, straps and pins: the causes they raise, the operating point under THERM, the edges of XTRIG_IN, and the levels of the
outputs. -/
namespace Sys2Proof.Machine

/-! ### Raising a cause -/

/-- Raising a cause leaves every part but the latch alone. -/
theorem Part.same_setCause {p : Part} {s u : State} (br b : Nat) (hp : p ≠ .latch) (h : p.same s u) : p.same s (u.setCause br b) := by
  cases p with
  | latch => exact absurd rfl hp
  | acc => exact ⟨(u.setWord_accRest _ _ _ _).trans h.1, fun k => (quietPath_setWord _ _ _ _ _ k).trans (h.2 k)⟩
  | _ => simpa [Part.same] using h

/-- Raising a cause of a branch changes no object but those of `causeObjects` and the count of ALERT_N's assertions. -/
theorem State.setCause_val {br i a : Nat} (s : State) (b : Nat) (hbr : br < 16) (ha : a < 256) (h : (i, a) ∉ causeObjects br)
    (h17 : (i, a) ≠ (0xF018, 17)) : (s.setCause br b).val i a = s.val i a := by
  simp only [causeObjects, List.mem_cons, List.not_mem_nil, or_false, not_or, Prod.mk.injEq, ne_eq] at h h17
  obtain ⟨hcause, hcount, hclears⟩ := h
  refine s.setWord_val br _ _ _ i a ?_ ?_ ?_ ?_ <;> rw [ne_eq, key_inj ha (by omega)] <;> assumption

/-- A cause that MGT sees sets its bit (R333). -/
theorem State.setCause_z {s : State} {br : Nat} (b : Nat) (hbr : br < 16) (h : s.mgtFast = true) :
    (s.setCause br b).z (0x2101 + br) 0 = s.z (0x2101 + br) 0 ||| 2 ^ b :=
  s.setWord_z br _ 0 _ h (by unfold key; omega) (by unfold key; omega)

theorem bit_or_two_pow (n b : Nat) : bit (n ||| 2 ^ b) b = true := by
  simp [bit, ← Nat.testBit_eq_decide_div_mod_eq]

/-! ### The operating point under THERM -/

/-- With THERM standing, the sequencer picks no point above OP3 (R129). -/
theorem State.dvfsPick_le {s : State} (h : bit (s.z 0x2102 0) 1 = true) : s.dvfsPick ≤ 3 := by
  have hceil : s.dvfsCeil ≤ 3 := by simp [State.dvfsCeil, h]
  unfold State.dvfsPick State.dvfsFloor
  dsimp only
  omega

theorem State.dvfsMove_eq (s : State) : ∃ c, s.dvfsMove = { s with clk := c } := by
  unfold State.dvfsMove; dsimp only; split <;> exact ⟨_, rfl⟩

theorem State.dvfsMove_moving {s : State} (h : s.clk.dvfsState ≠ 0) : s.dvfsMove = s := by
  simp [State.dvfsMove, h]

/-- A stable point above OP3 is left downward, toward a point of OP3 or below (R129). -/
theorem State.dvfsMove_down {s : State} (hst : s.clk.dvfsState = 0) (hcur : 3 < s.clk.dvfsCur) (h : bit (s.z 0x2102 0) 1 = true) :
    s.dvfsMove.clk.dvfsState = 3 ∧ s.dvfsMove.clk.dvfsTarget ≤ 3 ∧ s.dvfsMove.clk.dvfsCur = s.clk.dvfsCur := by
  have hpick := s.dvfsPick_le h
  have hne : s.dvfsPick ≠ s.clk.dvfsCur := by omega
  have hnlt : ¬ s.clk.dvfsCur < s.dvfsPick := by omega
  simp [State.dvfsMove, hst, hne, hnlt, hpick]

/-! ### Temperature and straps -/

theorem State.thermReached_hot {s : State} {temp : Int} (ht : 120 ≤ temp) (h : s.power.therm = false) :
    s.thermReached temp = (State.setCause { s with power := { s.power with therm := true } } 1 1).dvfsMove := by
  simp [State.thermReached, h, Int.not_lt.mpr ht]

theorem State.strapChange_changed {s : State} {r p : Bool} (h : r ≠ s.power.roleSel ∨ p ≠ s.power.pairPres) (hpor : s.power.por = false) :
    s.strapChange r p = State.setCause { s with power := { s.power with roleSel := r, pairPres := p } } 1 3 := by
  have hne : (decide (s.power.roleSel ≠ r) || decide (s.power.pairPres ≠ p)) = true := by
    rcases h with h | h <;> simp [Ne.symm h]
  simp only [State.strapChange, hne, hpor, if_true, Bool.false_eq_true, if_false]

/-- A change of the supplies, the straps or the sensors leaves every other part the same. -/
theorem Part.same_setPower {p : Part} {s u : State} (q : Power) (hp : p ≠ .power) (h : p.same s u) : p.same s { u with power := q } := by
  cases p with
  | power => exact absurd rfl hp
  | _ => exact h

theorem Part.same_dvfsMove {p : Part} {s u : State} (hp : p ≠ .clk) (h : p.same s u) : p.same s u.dvfsMove := by
  obtain ⟨c, hc⟩ := u.dvfsMove_eq
  rw [hc]
  cases p with
  | clk => exact absurd rfl hp
  | _ => exact h

theorem State.dvfsMove_val (s : State) (i a : Nat) : s.dvfsMove.val i a = s.val i a := by
  obtain ⟨c, hc⟩ := s.dvfsMove_eq
  rw [hc]; rfl

theorem State.dvfsMove_z (s : State) (i a : Nat) : s.dvfsMove.z i a = s.z i a := by
  obtain ⟨c, hc⟩ := s.dvfsMove_eq
  rw [hc]; rfl

theorem State.dvfsMove_power (s : State) : s.dvfsMove.power = s.power := by
  obtain ⟨c, hc⟩ := s.dvfsMove_eq
  rw [hc]

/-- The device at 120 °C, before the sequencer of the operating points moves. -/
def State.heated (s : State) : State := State.setCause { s with power := { s.power with therm := true } } 1 1

@[simp] theorem State.heated_power (s : State) : s.heated.power = { s.power with therm := true } := State.setCause_power _ _ _

@[simp] theorem State.heated_clk (s : State) : s.heated.clk = s.clk := State.setCause_clk _ _ _

theorem State.heated_z {s : State} (hfast : s.mgtFast = true) : s.heated.z 0x2102 0 = s.z 0x2102 0 ||| 2 :=
  State.setCause_z (s := { s with power := { s.power with therm := true } }) 1 (by omega) hfast

theorem State.heated_therm {s : State} (hfast : s.mgtFast = true) : bit (s.heated.z 0x2102 0) 1 = true := by
  rw [State.heated_z hfast]
  exact bit_or_two_pow _ 1

theorem temperatureAndStrapsSetPwrCauses : Claims.TemperatureAndStrapsSetPwrCauses := by
  intro s
  refine ⟨fun temp ht htherm hfast => ?_, ?_, fun r p hrp hpor hfast => ?_⟩
  · have hu : exec (.thermThreshold temp) s = s.ends s.heated.dvfsMove := congrArg s.ends (State.thermReached_hot ht htherm)
    refine completes_of_ends hu (fun p hp => ?_) (fun i a ha hi h17 => ?_) ⟨?_, ?_, fun hst hcur => ?_, fun hst => ?_⟩
    · simp only [List.mem_cons, List.not_mem_nil, or_false, not_or] at hp
      obtain ⟨hpower, hclk, hlatch⟩ := hp
      exact Part.same_dvfsMove hclk (Part.same_setCause _ _ hlatch (Part.same_setPower _ hpower (Part.same_refl p s)))
    · exact (State.dvfsMove_val _ _ _).trans (State.setCause_val _ _ (by omega) ha hi h17)
    · simp [State.dvfsMove_power]
    · exact (State.alertSync_z _ _ _ (by decide)).trans ((State.dvfsMove_z _ _ _).trans (State.heated_z hfast))
    · simpa using State.dvfsMove_down (s := s.heated) (by simpa using hst) (by simpa using hcur) (State.heated_therm hfast)
    · simp [State.dvfsMove_moving (s := s.heated) (by simpa using hst)]
  · exact completes_of_ends (u := s.thermOver) rfl (fun p hp => Part.same_setPower _ (by simpa using hp) (Part.same_refl p s))
      (fun _ _ _ _ _ => rfl) (State.alertSync_power _)
  · have hu : exec (.strapChange r p) s = s.ends (State.setCause { s with power := { s.power with roleSel := r, pairPres := p } } 1 3) :=
      congrArg s.ends (State.strapChange_changed hrp hpor)
    refine completes_of_ends hu (fun p hp => ?_) (fun i a ha hi h17 => ?_) ⟨?_, ?_⟩
    · simp only [List.mem_cons, List.not_mem_nil, or_false, not_or] at hp
      obtain ⟨hpower, hlatch⟩ := hp
      exact Part.same_setCause _ _ hlatch (Part.same_setPower _ hpower (Part.same_refl p s))
    · exact State.setCause_val _ _ (by omega) ha hi h17
    · exact (State.alertSync_power _).trans (State.setCause_power _ _ _)
    · exact (State.alertSync_z _ _ _ (by decide)).trans
        (State.setCause_z (s := { s with power := { s.power with roleSel := r, pairPres := p } }) 3 (by omega) hfast)

/-! ### Edges of XTRIG_IN -/

/-- An edge of an enabled pin, seen by the holds at this tick (R81, R568). -/
def State.edgeSeen (s : State) (n : Nat) (level : Bool) (tick : Nat) : State :=
  let x := putBit s.probe.xin n level
  { s with probe := { s.probe with xin := x }, sig := { s.sig with xtrig := (tick, x) :: s.sig.xtrig } }

theorem State.xtrigIn_kept {s : State} {n : Nat} {level : Bool} (hon : bit (s.z 0x3810 (n + 1)) 1 = true) :
    s.xtrigIn n level false = s.edgeSeen n level (s.time.tick + 3) := by
  simp [State.xtrigIn, hon, State.edgeSeen]

theorem State.xtrigIn_violated {s : State} {n : Nat} {level : Bool} (hon : bit (s.z 0x3810 (n + 1)) 1 = true) :
    s.xtrigIn n level true = s.drawn.edgeSeen n level (s.time.tick + s.freeVal % 2 + 3) := by
  simp [State.xtrigIn, hon, State.edgeSeen]

/-- An edge changes the inputs as probes and holds see them, and no other part. -/
theorem Part.same_edgeSeen {p : Part} {s u : State} (n : Nat) (level : Bool) (tick : Nat) (hprobe : p ≠ .probe) (hsig : p ≠ .sig)
    (h : p.same s u) : p.same s (u.edgeSeen n level tick) := by
  cases p with
  | probe => exact absurd rfl hprobe
  | sig => exact absurd rfl hsig
  | _ => exact h

theorem Part.same_drawn {p : Part} {s u : State} (hp : p ≠ .free) (h : p.same s u) : p.same s u.drawn := by
  cases p with
  | free => exact absurd rfl hp
  | _ => exact h

theorem crossTriggerEdgeIsSeenThreeTicksLater : Claims.CrossTriggerEdgeIsSeenThreeTicksLater := by
  intro s n level hon
  constructor
  · refine completes_of_ends (congrArg s.ends (State.xtrigIn_kept hon)) (fun p hp => ?_) (fun _ _ _ _ _ => rfl)
      ⟨State.alertSync_probe _, State.alertSync_sig _⟩
    simp only [List.mem_cons, List.not_mem_nil, or_false, not_or] at hp
    obtain ⟨hprobe, hsig⟩ := hp
    exact Part.same_edgeSeen _ _ _ hprobe hsig (Part.same_refl p s)
  · refine completes_of_ends (congrArg s.ends (State.xtrigIn_violated hon)) (fun p hp => ?_) (fun _ _ _ _ _ => rfl)
      ⟨State.alertSync_free _, State.alertSync_probe _, s.time.tick + s.freeVal % 2 + 3, by omega, State.alertSync_sig _⟩
    simp only [List.mem_cons, List.not_mem_nil, or_false, not_or] at hp
    obtain ⟨hprobe, hsig, hfree⟩ := hp
    exact Part.same_edgeSeen _ _ _ hprobe hsig (Part.same_drawn hfree (Part.same_refl p s))

/-! ### Outputs -/

theorem outputsFollowTheSupplies : Claims.OutputsFollowTheSupplies := by
  intro s o
  refine ⟨fun hoff => ?_, fun hon hpin hir hscan => ?_, fun n hon ho hpair hbar => ?_⟩
  · simp [State.pinLevel, hoff]
  · simp [State.pinLevel, State.tapDrives, hon, hpin, hir, hscan]
  · have hfan : s.drivesFanout = false := by
      unfold State.drivesFanout
      split <;> simp_all
    obtain ⟨hrefclk, hprst⟩ := State.fanout_z hfan n.val
    rcases ho with rfl | rfl <;> simp [State.pinLevel, hon, State.ownLevel, State.fanoutBarred, hpair, hrefclk, hprst]

/-! ### The obligation -/

/-- Settles O7: the sensors and straps, the cross-trigger inputs and the outputs, each by its claim. -/
theorem pinsAndSensorsAreObserved : Obligations.PinsAndSensorsAreObserved :=
  ⟨temperatureAndStrapsSetPwrCauses, crossTriggerEdgeIsSeenThreeTicksLater, outputsFollowTheSupplies⟩

end Sys2Proof.Machine
end

section
/-! PROOF. Tamper events: one that joins the event of its AON cycle rewrites the newest entry of the log and cuts the log at eight entries
(R800). -/
namespace Sys2Proof.Machine

/-- A device whose tamper log holds nine entries, the newest of the present AON cycle. No run fills the log beyond eight (every event cuts it
there), but the statement speaks of every state. -/
def overfullLog : State :=
  { State.reset with sec := { State.reset.sec with tamperAt := some 0, tamperLog := List.replicate 9 0 } }

/-- TAMPER_N[0], enabled by the default copy of 9010h:1, joins the event of the cycle, and the log is cut to eight entries. -/
theorem overfullLog_cut : ∃ t, exec (.tamperEvent true false) overfullLog = .next t ∧ t.sec.tamperLog.length = 8 :=
  ⟨_, rfl, by decide +kernel⟩

/-- Refutes O60: it asks that an event that joins another leave the older entries of the log as they are, whatever the log's length, and on a
log of nine entries (`overfullLog`) the ninth is lost. The statement has no hypothesis that bounds the log. -/
theorem not_tamperAndEntropyAreWatched : ¬ Obligations.TamperAndEntropyAreWatched := by
  intro h
  obtain ⟨t, ht, -, -, -, hjoined, -⟩ := (h overfullLog).1 true false
  obtain ⟨-, hkept⟩ := hjoined (by decide)
  obtain ⟨u, hu, hcut⟩ := overfullLog_cut
  obtain rfl : t = u := Host.Outcome.next.inj (ht.symm.trans hu)
  have hlen : t.sec.tamperLog.length - 1 = 8 := by
    rw [← List.length_tail, hkept]; rfl
  omega

end Sys2Proof.Machine
end

section
/-! PROOF. The operating point (R126-R128). -/
namespace Sys2Proof.Machine

/-- A device whose time base bridges while CMP's voltage ramps toward a point that the table of 2209h does not hold. No evaluation picks a
target above 5, but the statement speaks of every state. The number names the object F050h:16, the counter of the bridged REF cycles. -/
def strayTarget : State :=
  { State.reset with
    obj := [(key 0xF050 16, .num 65535)]
    clk := { State.reset.clk with
      dom := [(domNo .cmp, { inReset := false })], dvfsState := 1, dvfsTarget := (0xF050 - 0x2209) * 256 + 15 }
    time := { State.reset.time with tickRun := true, bridging := true } }

theorem strayTarget_ramps : ∃ t, exec .dvfsTransitionPhaseDone strayTarget = .next t ∧ t.clk.dvfsMv = 1 :=
  ⟨_, rfl, by decide +kernel⟩

/-- Refutes O9: the end of a ramp lets its time pass before it reads the target's voltage. In `strayTarget` the target names the counter
F050h:16, which that time moves, so the voltage stored is 1 where the statement says the voltage before, which is 0. -/
theorem not_operatingPointMovesInPhases : ¬ Obligations.OperatingPointMovesInPhases := by
  intro h
  have hvoltage : strayTarget.opMv strayTarget.clk.dvfsTarget = 0 := by decide +kernel
  obtain ⟨t, ht, -, -, -, hclk⟩ := ((h strayTarget).2 (by decide) rfl).1 rfl rfl
  obtain ⟨u, hu, hone⟩ := strayTarget_ramps
  obtain rfl : t = u := Host.Outcome.next.inj (ht.symm.trans hu)
  rw [hclk] at hone
  exact absurd (hvoltage.symm.trans hone) (by decide)

end Sys2Proof.Machine
end

section
/-! PROOF. Frames: what a chain of updates leaves alone, told by one rule for each update, so that the frame of a command follows the
updates that its meaning makes. -/
namespace Sys2Proof.Machine

/-- No part but `parts` and no object but `objs` differs in two states; the count of ALERT_N's assertions is left out, as in `KeepsObjects`. -/
structure Frame (parts : List Part) (objs : List (Nat × Nat)) (s u : State) : Prop where
  part : ∀ p, p ∉ parts → p.same s u
  val : ∀ i a, a < 256 → (i, a) ∉ objs → (i, a) ≠ (0xF018, 17) → u.val i a = s.val i a

/-- The state that a command of `s` ends in, whose meaning is `u`. -/
def State.ended (s u : State) : State := { u.alertSync with pending := s.pending }

theorem completes_of_frame {c : Instr} {parts : List Part} {objs : List (Nat × Nat)} {s u : State} {P : State → Prop}
    (hc : exec c s = s.ends u) (hf : Frame parts objs s u) (hP : P (s.ended u)) : Completes c s parts objs P :=
  completes_of_ends hc hf.part hf.val hP

/-! ### One rule for each update -/

section
variable {parts : List Part} {objs : List (Nat × Nat)} {s u : State}

theorem Frame.refl (s : State) : Frame parts objs s s := ⟨fun p _ => Part.same_refl p s, fun _ _ _ _ _ => rfl⟩

theorem Frame.setClk (h : Frame parts objs s u) (c : Clocks) (hm : .clk ∈ parts := by decide) : Frame parts objs s { u with clk := c } := by
  refine ⟨fun p hp => ?_, h.val⟩
  cases p with
  | clk => exact absurd hm hp
  | _ => exact h.part _ hp

theorem Frame.setBoot (h : Frame parts objs s u) (b : Boot) (hm : .boot ∈ parts := by decide) : Frame parts objs s { u with boot := b } := by
  refine ⟨fun p hp => ?_, h.val⟩
  cases p with
  | boot => exact absurd hm hp
  | _ => exact h.part _ hp

theorem Frame.setSec (h : Frame parts objs s u) (x : Security) (hm : .sec ∈ parts := by decide) : Frame parts objs s { u with sec := x } := by
  refine ⟨fun p hp => ?_, h.val⟩
  cases p with
  | sec => exact absurd hm hp
  | _ => exact h.part _ hp

theorem Frame.setMem (h : Frame parts objs s u) (m : Memory) (hm : .mem ∈ parts := by decide) : Frame parts objs s { u with mem := m } := by
  refine ⟨fun p hp => ?_, h.val⟩
  cases p with
  | mem => exact absurd hm hp
  | _ => exact h.part _ hp

theorem Frame.emit (h : Frame parts objs s u) (o : Output) (hm : .out ∈ parts := by decide) : Frame parts objs s (u.emit o) := by
  refine ⟨fun p hp => ?_, h.val⟩
  cases p with
  | out => exact absurd hm hp
  | _ => exact h.part _ hp

theorem Frame.drawn (h : Frame parts objs s u) (hm : .free ∈ parts := by decide) : Frame parts objs s u.drawn :=
  ⟨fun p hp => Part.same_drawn (ne_of_mem_of_not_mem hm hp).symm (h.part p hp), h.val⟩

theorem Frame.setDom (h : Frame parts objs s u) (d : Domain) (x : DomainSt) (hm : .clk ∈ parts := by decide) :
    Frame parts objs s (u.setDom d x) := h.setClk _ hm

theorem Frame.setPll (h : Frame parts objs s u) (p : Pll) (x : PllSt) (hm : .clk ∈ parts := by decide) :
    Frame parts objs s (u.setPll p x) := h.setClk _ hm

theorem Frame.putVal (h : Frame parts objs s u) (i a : Nat) (v : Val) (hm : (i, a) ∈ objs := by decide) (ha : a < 256 := by decide) :
    Frame parts objs s (u.putVal i a v) := by
  refine ⟨fun p hp => ?_, fun j b hb hj h17 => ?_⟩
  · have hu := h.part p hp
    cases p <;> exact hu
  · have hne : key j b ≠ key i a := fun heq => hj (by obtain ⟨rfl, rfl⟩ := (key_inj hb ha).1 heq; exact hm)
    rw [State.val_putVal, if_neg hne, h.val j b hb hj h17]

theorem Frame.put (h : Frame parts objs s u) (i a n : Nat) (hm : (i, a) ∈ objs := by decide) (ha : a < 256 := by decide) :
    Frame parts objs s (u.put i a n) := h.putVal i a _ hm ha

theorem Frame.bump (h : Frame parts objs s u) (i a n : Nat) (hm : (i, a) ∈ objs := by decide) (ha : a < 256 := by decide) :
    Frame parts objs s (u.bump i a n) := h.putVal i a _ hm ha

/-- A cause of a branch changes the latch and the objects of `causeObjects`. -/
theorem Frame.setCause (h : Frame parts objs s u) (br b : Nat) (hm : .latch ∈ parts := by decide) (ho : ∀ x ∈ causeObjects br, x ∈ objs := by decide)
    (hbr : br < 16 := by decide) : Frame parts objs s (u.setCause br b) :=
  ⟨fun p hp => Part.same_setCause br b (ne_of_mem_of_not_mem hm hp).symm (h.part p hp),
    fun i a ha hi h17 => (u.setCause_val b hbr ha (fun hmem => hi (ho _ hmem)) h17).trans (h.val i a ha hi h17)⟩

/-- What the passing of time changes: the real time, the time base, and the count of the REF cycles that the time base bridges (R453). -/
theorem State.elapseTo_eq (s : State) (t : Nat) :
    ∃ o b, s.elapseTo t = { s with now := max s.now t, time := b, obj := o } ∧
      ∀ i a, key i a ≠ key 0xF050 16 → (s.elapseTo t).val i a = s.val i a := by
  have hnow := s.elapseTo_now t
  generalize hu : s.elapseTo t = u at hnow
  unfold State.elapseTo at hu
  split at hu
  · unfold State.elapse at hu
    extract_lets refs ticks tb tb' s' at hu
    split at hu
    · refine ⟨u.obj, u.time, ?_, fun i a hk => ?_⟩
      · rw [← hnow, ← hu]; rfl
      · rw [← hu, State.val_bump _ _ _ _ _ _ hk]; rfl
    · refine ⟨u.obj, u.time, ?_, fun i a _ => ?_⟩
      · rw [← hnow, ← hu]
      · rw [← hu]; rfl
  · refine ⟨u.obj, u.time, ?_, fun i a _ => ?_⟩
    · rw [← hnow, ← hu]
    · rw [hu]

theorem State.elapseTo_val (s : State) (t : Nat) {i a : Nat} (h : key i a ≠ key 0xF050 16) : (s.elapseTo t).val i a = s.val i a := by
  obtain ⟨_, _, -, hval⟩ := s.elapseTo_eq t
  exact hval i a h

theorem Frame.elapseTo (h : Frame parts objs s u) (t : Nat) (hnow : .now ∈ parts := by decide) (htime : .time ∈ parts := by decide)
    (hm : (0xF050, 16) ∈ objs := by decide) : Frame parts objs s (u.elapseTo t) := by
  obtain ⟨o, b, heq, hval⟩ := u.elapseTo_eq t
  refine ⟨fun p hp => ?_, fun i a ha hi h17 => ?_⟩
  · have hu := h.part p hp
    rw [heq]
    cases p with
    | now => exact absurd hnow hp
    | time => exact absurd htime hp
    | _ => exact hu
  · have hne : key i a ≠ key 0xF050 16 := fun hk => hi (by obtain ⟨rfl, rfl⟩ := (key_inj ha (by decide)).1 hk; exact hm)
    rw [hval i a hne, h.val i a ha hi h17]

end

/-! ### The state that a command ends in -/

@[simp] theorem State.ended_now (s u : State) : (s.ended u).now = u.now := u.alertSync_now
@[simp] theorem State.ended_out (s u : State) : (s.ended u).out = u.out := u.alertSync_out
@[simp] theorem State.ended_free (s u : State) : (s.ended u).free = u.free := u.alertSync_free
@[simp] theorem State.ended_staged (s u : State) : (s.ended u).staged = u.staged := u.alertSync_staged
@[simp] theorem State.ended_locked (s u : State) : (s.ended u).locked = u.locked := u.alertSync_locked
@[simp] theorem State.ended_power (s u : State) : (s.ended u).power = u.power := u.alertSync_power
@[simp] theorem State.ended_clk (s u : State) : (s.ended u).clk = u.clk := u.alertSync_clk
@[simp] theorem State.ended_boot (s u : State) : (s.ended u).boot = u.boot := u.alertSync_boot
@[simp] theorem State.ended_sec (s u : State) : (s.ended u).sec = u.sec := u.alertSync_sec
@[simp] theorem State.ended_mem (s u : State) : (s.ended u).mem = u.mem := u.alertSync_mem

theorem State.dom_congr {s u : State} (hdom : u.clk.dom = s.clk.dom) (hpower : u.power = s.power) (d : Domain) : u.dom d = s.dom d := by
  unfold State.dom; rw [hdom, hpower]

@[simp] theorem State.ended_dom (s u : State) (d : Domain) : (s.ended u).dom d = u.dom d := State.dom_congr (by simp) (by simp) d

@[simp] theorem State.ended_pll (s u : State) (p : Pll) : (s.ended u).pll p = u.pll p := by simp [State.pll]

theorem State.ended_val (s u : State) {i a : Nat} (h : key i a ≠ key 0xF018 17 := by decide) : (s.ended u).val i a = u.val i a :=
  u.alertSync_val i a h

theorem State.ended_z (s u : State) {i a : Nat} (h : key i a ≠ key 0xF018 17 := by decide) : (s.ended u).z i a = u.z i a :=
  u.alertSync_z i a h

end Sys2Proof.Machine
end

section
/-! PROOF. Clock roots: what the loss and the return of a domain leave of every root, of the supplies and of the real time. -/
namespace Sys2Proof.Machine

/-- What a clock root is read from, the real time, and which PLLs are locked. -/
def State.roots (s : State) : Map DomainSt × Power × Nat × (Pll → Bool) := (s.clk.dom, s.power, s.now, fun p => (s.pll p).locked)

theorem State.dom_of_roots {s t : State} (h : t.roots = s.roots) (d : Domain) : t.dom d = s.dom d :=
  State.dom_congr (congrArg (·.1) h) (congrArg (·.2.1) h) d

theorem State.now_of_roots {s t : State} (h : t.roots = s.roots) : t.now = s.now := congrArg (·.2.2.1) h

theorem State.locked_of_roots {s t : State} (h : t.roots = s.roots) (p : Pll) : (t.pll p).locked = (s.pll p).locked :=
  congrFun (congrArg (·.2.2.2) h) p

theorem State.roots_congr {s t : State} (hclk : t.clk = s.clk) (hpower : t.power = s.power) (hnow : t.now = s.now) : t.roots = s.roots := by
  simp only [State.roots, State.pll, hclk, hpower, hnow]

theorem State.Homed.roots {s t : State} (h : s.Homed t) : t.roots = s.roots := by
  obtain ⟨_, _, _, _, _, _, _, _, rfl⟩ := h; rfl

theorem State.Alerted.roots {s t : State} (h : s.Alerted t) : t.roots = s.roots := (State.Homed.of_alerted h).roots

theorem State.ite_roots {s t u : State} {c : Prop} [Decidable c] (ht : t.roots = s.roots) (hu : u.roots = s.roots) :
    (if c then t else u).roots = s.roots := by
  split
  · exact ht
  · exact hu

@[simp] theorem State.setCause_roots (s : State) (br b : Nat) : (s.setCause br b).roots = s.roots := (s.setWord_alerted ..).roots

@[simp] theorem State.alertSync_roots (s : State) : s.alertSync.roots = s.roots := s.alertSync_alerted.roots

@[simp] theorem State.bump_roots (s : State) (i a n : Nat) : (s.bump i a n).roots = s.roots := rfl

@[simp] theorem State.put_roots (s : State) (i a n : Nat) : (s.put i a n).roots = s.roots := rfl

theorem State.roots_setCoh (s : State) (c : Coh) : State.roots { s with coh := c } = s.roots := rfl

@[simp] theorem State.setLoop_roots (s : State) (l : Nat) (x : LoopSt) : (s.setLoop l x).roots = s.roots := rfl

@[simp] theorem State.settle_roots (s : State) : s.settle.roots = s.roots := State.roots_congr (by simp) (by simp) (by simp)

/-! ### Paths, banks and the home -/

@[simp] theorem State.pathLost_roots (s : State) (p : Nat) : (s.pathLost p).roots = s.roots := by
  unfold State.pathLost
  dsimp only
  repeat' split
  all_goals rfl

theorem State.startRecall_homed (s : State) (line : Nat) : s.Homed (s.startRecall line) := by
  unfold State.startRecall
  split
  · split
    · exact ⟨_, _, _, _, _, _, _, _, rfl⟩
    · exact s.snoopAll_homed ..
  · exact .refl s

theorem State.recallLine_homed (s : State) (line k : Nat) : s.Homed (s.recallLine line k) := by
  unfold State.recallLine
  split
  · split
    · exact .refl s
    · exact State.Homed.trans ⟨_, _, _, _, _, _, _, _, rfl⟩ (State.startRecall_homed ..)
  · exact .refl s

theorem State.recallBank_homed (s : State) (b : Nat) : s.Homed (s.recallBank b) := by
  refine State.Homed.foldl (fun s e => ?_) _ s
  split
  · split
    · exact s.recallLine_homed ..
    · exact .refl s
  · exact .refl s

theorem State.moveBank_homed (s : State) (b st target : Nat) (zero : Bool) : s.Homed (s.moveBank b st target zero) :=
  ⟨_, _, _, _, _, _, _, _, rfl⟩

theorem State.stopTest_homed (s : State) (b : Nat) : s.Homed (s.stopTest b) := by
  unfold State.stopTest
  split
  · exact ⟨_, _, _, _, _, _, _, _, rfl⟩
  · exact .refl s

/-- A bank that leaves READY is moved, its test ends, and its lines are recalled. -/
theorem State.leaveReady_homed (s : State) (b target : Nat) : s.Homed (((s.moveBank b 1 target false).stopTest b).recallBank b) :=
  ((s.moveBank_homed ..).trans (State.stopTest_homed _ b)).trans (State.recallBank_homed _ b)

theorem State.bankToward_homed (s : State) (b sel : Nat) : s.Homed (s.bankToward b sel) := by
  have hwake : ∀ target, s.Homed (if (s.bank b).bist = 3 then s else s.moveBank b 5 target true) := fun target => by
    split
    · exact .refl s
    · exact s.moveBank_homed ..
  unfold State.bankToward
  dsimp only
  split
  · exact s.leaveReady_homed b 3
  · exact s.leaveReady_homed b 4
  · exact s.moveBank_homed ..
  · exact s.moveBank_homed ..
  · exact s.moveBank_homed ..
  · exact s.moveBank_homed ..
  · exact hwake 0
  · exact hwake 3
  · split
    · exact .refl s
    · exact ⟨_, _, _, _, _, _, _, _, rfl⟩
  · exact .refl s

theorem State.banksFollow_homed (s : State) : s.Homed s.banksFollow :=
  State.Homed.foldl (fun s b => s.bankToward_homed b _) _ s

theorem State.wakesUndone_homed (s : State) : s.Homed s.wakesUndone := by
  refine State.Homed.foldl (fun s b => ?_) _ s
  split
  · exact s.bankToward_homed ..
  · exact .refl s

theorem State.poisonLine_homed (s : State) (line : Nat) : s.Homed (s.poisonLine line) := by
  unfold State.poisonLine
  split
  · exact ⟨_, _, _, _, _, _, _, _, rfl⟩
  · exact .refl s

theorem State.endSnoops_homed (s : State) (line : Nat) (recalling : Bool) : s.Homed (s.endSnoops line recalling) := by
  unfold State.endSnoops
  split
  · split
    · exact ⟨_, _, _, _, _, _, _, _, rfl⟩
    · exact .refl s
  · exact ⟨_, _, _, _, _, _, _, _, rfl⟩

theorem State.freeEntry_homed (s : State) (line : Nat) : s.Homed (s.freeEntry line) := ⟨_, _, _, _, _, _, _, _, rfl⟩

theorem State.putEntry_homed (s : State) (line : Nat) (e : FilterEntry) : s.Homed (s.putEntry line e) := ⟨_, _, _, _, _, _, _, _, rfl⟩

theorem State.serveTxn_homed (s : State) (line p : Nat) (m : LinkMsg) (off : Nat) : s.Homed (s.serveTxn line p m off) := by
  unfold State.serveTxn
  split
  · exact s.homeDecide_homed ..
  · split
    · split
      · exact s.homeDecide_homed ..
      · exact (s.freeEntry_homed line).trans (State.homeDecide_homed ..)
    · split
      · exact s.answer_homed ..
      · split
        · exact (s.putEntry_homed ..).trans (State.answerLine_homed ..)
        · split
          · exact (s.putEntry_homed ..).trans (State.answer_homed ..)
          · split
            · exact s.answerBarred_homed ..
            · split
              · exact s.applyWrite_homed ..
              · exact s.answerUc_homed ..

theorem State.finishTxn_homed (s : State) (line : Nat) : s.Homed (s.finishTxn line) := by
  unfold State.finishTxn
  split
  · exact .refl s
  · next t ht =>
    split
    · extract_lets ended served
      have hserved : s.Homed served := by
        refine State.Homed.trans (t := ended) ⟨_, _, _, _, _, _, _, _, rfl⟩ ?_
        unfold served
        split
        · exact State.endSnoops_homed ..
        · exact State.serveTxn_homed ..
      split
      · exact hserved.trans (State.startRecall_homed ..)
      · exact hserved.trans (State.quiesceLine_homed ..)
    · exact .refl s

theorem State.removeFromLine_homed (port : Nat) (s : State) (line : Nat) : s.Homed (State.removeFromLine port s line) := by
  have hpoison : ∀ (s : State) (c : Prop) [Decidable c], s.Homed (if c then s.poisonLine line else s) := fun s c _ => by
    split
    · exact s.poisonLine_homed line
    · exact .refl s
  unfold State.removeFromLine
  extract_lets mine left
  have hleft : s.Homed left := by
    unfold left
    split
    · next e _ =>
      extract_lets poisoned holders
      have hp : s.Homed poisoned := hpoison s _
      split
      · exact hp.trans (State.freeEntry_homed ..)
      · exact hp.trans (State.putEntry_homed ..)
    · exact .refl s
  split
  · exact ((hleft.trans (hpoison left _)).trans ⟨_, _, _, _, _, _, _, _, rfl⟩).trans (State.finishTxn_homed ..)
  · exact hleft

theorem State.removeAgents_homed (s : State) (port : Nat) : s.Homed (s.removeAgents port) := by
  unfold State.removeAgents
  extract_lets _ t lines u gone _
  have hu : s.Homed u := State.Homed.trans (t := t) ⟨_, _, _, _, _, _, _, _, rfl⟩ (State.Homed.foldl (State.removeFromLine_homed port) _ _)
  exact hu.trans ⟨_, _, _, _, _, _, _, _, rfl⟩

/-! ### Ports -/

@[simp] theorem State.mailboxLost_roots (s : State) (p : Nat) : (s.mailboxLost p).roots = s.roots := by
  unfold State.mailboxLost
  split
  · exact State.ite_roots (s.pathLost_roots 3) rfl
  · rfl

@[simp] theorem State.removeAgents_roots (s : State) (p : Nat) : (s.removeAgents p).roots = s.roots := (s.removeAgents_homed p).roots

@[simp] theorem State.tapLeave_roots (s : State) (i : Nat) : (s.tapLeave i).roots = s.roots := State.ite_roots rfl rfl

@[simp] theorem State.cairnGone_roots (s : State) (p : Nat) : (s.cairnGone p).roots = s.roots := by
  unfold State.cairnGone
  extract_lets _ unread gone
  have hgone : gone.roots = s.roots := (foldl_keeps State.roots _ (fun s i => by split <;> rfl) _ unread).trans rfl
  refine (foldl_keeps State.roots _ (fun s i => ?_) _ gone).trans hgone
  dsimp only
  split
  · exact State.ite_roots (s.tapLeave_roots i) rfl
  · rfl

@[simp] theorem State.portDown_roots (s : State) (p : Nat) : (s.portDown p).roots = s.roots := by
  refine (State.Alerted.roots (State.setWord_alerted ..)).trans ?_
  simp only [State.cairnGone_roots, State.removeAgents_roots, State.mailboxLost_roots]
  rfl

@[simp] theorem State.portDisable_roots (s : State) (p : Nat) : (s.portDisable p).roots = s.roots := by
  unfold State.portDisable
  simp only [State.cairnGone_roots, State.removeAgents_roots, State.mailboxLost_roots]
  rfl

/-- An attempt starts the port's PLL and leaves every lock as it is. -/
@[simp] theorem State.startAttempt_roots (s : State) (p attempt : Nat) : (s.startAttempt p attempt).roots = s.roots := by
  have hlocks : ∀ q, ((s.startAttempt p attempt).pll q).locked = (s.pll q).locked := fun q => by
    show ((s.setPll (.port (Fin.ofNat 6 p)) { s.pll (.port (Fin.ofNat 6 p)) with started := true }).pll q).locked = _
    rw [State.pll_setPll]
    split
    · next h => rw [h]
    · rfl
  unfold State.roots
  rw [funext hlocks]
  rfl

@[simp] theorem State.trainAgain_roots (s : State) (p : Nat) : (s.trainAgain p).roots = s.roots := State.ite_roots (s.startAttempt_roots p 1) rfl

@[simp] theorem State.portLost_roots (s : State) (p : Nat) : (s.portLost p).roots = s.roots :=
  State.ite_roots (s.portDisable_roots p) (State.ite_roots (s.portDown_roots p) rfl)

@[simp] theorem State.portBack_roots (s : State) (p : Nat) : (s.portBack p).roots = s.roots := State.ite_roots (s.trainAgain_roots p) rfl

@[simp] theorem State.quiesceEnd_roots (s : State) (p : Nat) : (s.quiesceEnd p).roots = s.roots := by
  have hdisable : ((s.emit (.sideband p 3 0 0)).portDisable p).roots = s.roots := State.portDisable_roots ..
  exact State.ite_roots ((State.trainAgain_roots ..).trans hdisable) hdisable

@[simp] theorem State.portLeave_roots (s : State) (p : Nat) : (s.portLeave p).roots = s.roots :=
  State.ite_roots (s.quiesceEnd_roots p) ((State.trainAgain_roots ..).trans (s.portDown_roots p))

@[simp] theorem State.failAttempt_roots (s : State) (p result : Nat) : (s.failAttempt p result).roots = s.roots := by
  unfold State.failAttempt
  dsimp only
  split
  · rfl
  · exact State.roots_congr (by simp) (by simp) (by simp)

/-! ### A domain is lost (Table 3.12) -/

@[simp] theorem State.fabLost_roots (s : State) : s.fabLost.roots = s.roots := by
  have hports : ∀ u : State, ((List.range 6).foldl State.portLost u).roots = u.roots := foldl_keeps State.roots _ State.portLost_roots _
  unfold State.fabLost
  extract_lets dirty c cleared lost done
  have hlost : lost.roots = s.roots := hports cleared
  have hdone : done.roots = s.roots := (State.roots_setCoh lost _).trans hlost
  exact State.ite_roots ((State.setCause_roots ..).trans hdone) hdone

@[simp] theorem State.tickLost_roots (s : State) : s.tickLost.roots = s.roots := State.pathLost_roots ..

@[simp] theorem State.prbLost_roots (s : State) : s.prbLost.roots = s.roots := State.ite_roots rfl rfl

@[simp] theorem State.setActuator_roots (s : State) (l : Nat) (u : Int) : (s.setActuator l u).roots = s.roots := by
  simp only [State.setActuator, State.campSrcStat, State.sendAdjMsg, State.sendTime]
  repeat' split
  all_goals exact State.roots_congr (by simp) (by simp) (by simp)

@[simp] theorem State.endSweep_roots (s : State) (w : SweepSt) (how : Nat) : (s.endSweep w how).roots = s.roots :=
  State.setActuator_roots ..

@[simp] theorem State.srvLost_roots (s : State) : s.srvLost.roots = s.roots := by
  have hlock : ∀ (s : State) (l was : Nat) (x : LoopSt), ((s.lockLost l was).setLoop l x).roots = s.roots := fun s l was x => by
    rw [State.setLoop_roots]
    unfold State.lockLost
    split
    · exact State.Alerted.roots (State.setWord_alerted ..)
    · rfl
  unfold State.srvLost
  extract_lets ended _ reset
  have hended : ended.roots = s.roots := by
    unfold ended
    split
    · exact s.endSweep_roots ..
    · rfl
  have hreset : reset.roots = s.roots := by
    refine Eq.trans ?_ hended
    unfold reset
    generalize ended = u
    refine foldl_keeps State.roots _ (fun s l => ?_) _ u
    dsimp only
    exact hlock s l _ _
  clear_value reset
  exact hreset

@[simp] theorem State.mgtLost_roots (s : State) : s.mgtLost.roots = s.roots := by
  unfold State.mgtLost
  extract_lets woken _ _ lost
  have hwoken : woken.roots = s.roots := State.ite_roots s.wakesUndone_homed.roots rfl
  exact (foldl_keeps State.roots _ State.pathLost_roots _ lost).trans hwoken

theorem State.domainLost_roots (s : State) (d : Domain) : (s.domainLost d).roots = s.roots := by
  cases d with
  | tick => exact s.tickLost_roots
  | fab => exact s.fabLost_roots
  | lnk p => exact s.portLost_roots p
  | prb => exact s.prbLost_roots
  | srv => exact s.srvLost_roots
  | mgt => exact s.mgtLost_roots
  | _ => rfl

end Sys2Proof.Machine
end

section
/-! PROOF. Stalls of clock roots (R117, R118, R145). -/
namespace Sys2Proof.Machine

/-! ### Causes of the branches that AON sets itself -/

/-- A cause of a branch that AON sets itself shows its bit while MGT runs, on AON too (R333). -/
theorem State.setCause_z_up {s : State} {br : Nat} (b : Nat) (hbr : br < 16) (haon : aonBranch br = true) (h : s.mgtUp = true) :
    (s.setCause br b).z (0x2101 + br) 0 = s.z (0x2101 + br) 0 ||| 2 ^ b := by
  unfold State.setCause State.setWord
  rw [h, haon, if_pos (by simp), State.alertSync_z _ _ _ (by unfold key; omega), State.z_bump, if_neg (by unfold key; omega),
    State.z_congr (State.putCause_obj ..), State.z_put, if_pos rfl]

/-- A cause leaves the counters that are no counters of events. -/
theorem State.setCause_z_ne {br i a : Nat} (s : State) (b : Nat) (hbr : br < 16) (ha : a < 256) (h : (i, a) ∉ causeObjects br)
    (h17 : (i, a) ≠ (0xF018, 17)) (hd : defaultVal i a = .num 0) : (s.setCause br b).z i a = s.z i a :=
  State.z_of_val (s.setCause_val b hbr ha h h17) hd

theorem State.mgtUp_of_roots {s t : State} (hboot : t.boot = s.boot) (hdom : t.clk.dom = s.clk.dom) (hpower : t.power = s.power) :
    t.mgtUp = s.mgtUp := by
  unfold State.mgtUp State.up; rw [hboot, State.dom_congr hdom hpower]

/-! ### The forced switch -/

@[simp] theorem State.meterHit_roots (s : State) (d : Domain) : (s.meterHit d).roots = s.roots := State.ite_roots rfl rfl

@[simp] theorem State.rootAsked_roots (s : State) (d : Domain) (src : Nat) : (s.rootAsked d src).roots = s.roots := by cases d <;> rfl

theorem State.setDom_dom {s t : State} (h : t.roots = s.roots) (d e : Domain) (x : DomainSt) :
    (t.setDom d x).dom e = if e = d then x else s.dom e := by
  rw [State.dom_setDom, State.dom_of_roots h]

/-- The domain root that a forced switch to `src` leaves behind: in reset, asked for `src`, without a clock (R143). -/
def DomainSt.forced (x : DomainSt) (src now : Nat) : DomainSt :=
  { x with switching := none, forcing := some src, inReset := true, running := false, since := now }

/-- A forced switch moves one root alone. -/
theorem State.startForced_dom (s : State) (d e : Domain) (src : Nat) :
    (s.startForced d src).dom e = if e = d then (s.dom d).forced src s.now else s.dom e := by
  unfold State.startForced
  extract_lets hit was lost point _ put asked
  have hlost : lost.roots = s.roots := State.ite_roots (s.meterHit_roots d) ((State.domainLost_roots ..).trans (s.meterHit_roots d))
  have hpoint : point.roots = s.roots := by
    unfold point
    refine State.ite_roots ?_ hlost
    cases d <;> exact hlost
  have hput : put.dom e = if e = d then (s.dom d).forced src s.now else s.dom e := by
    refine (State.setDom_dom hpoint d e _).trans ?_
    show (if e = d then (point.dom d).forced src point.now else s.dom e) = _
    rw [State.dom_of_roots hpoint, State.now_of_roots hpoint]
  have hasked : asked.dom e = put.dom e := State.dom_of_roots (State.rootAsked_roots ..) e
  rw [← hput, ← hasked]
  clear_value asked
  split
  · split
    · rfl
    · exact State.dom_congr rfl rfl e
  · rfl

theorem State.startForced_stalled (s : State) (d e : Domain) (src : Nat) : ((s.startForced d src).dom e).stalled = (s.dom e).stalled := by
  rw [State.startForced_dom]
  split
  · next h => subst h; rfl
  · rfl

theorem State.mgtRecovery_stalled (s : State) (e : Domain) : (s.mgtRecovery.dom e).stalled = (s.dom e).stalled :=
  s.startForced_stalled ..

/-- The step of `State.xoRecovery` that takes one domain down. -/
def State.downWithXo (s : State) (d : Domain) : State :=
  if (s.dom d).inReset then s.setDom d { s.dom d with switching := none, forcing := none, running := false }
  else (s.domainLost d).setDom d { s.dom d with switching := none, forcing := none, inReset := true, running := false }

theorem State.downWithXo_stalled (s : State) (d e : Domain) : ((s.downWithXo d).dom e).stalled = (s.dom e).stalled := by
  have hkeep : ∀ (t : State) (x : DomainSt), t.roots = s.roots → x.stalled = (s.dom d).stalled →
      ((t.setDom d x).dom e).stalled = (s.dom e).stalled := fun t x ht hx => by
    rw [State.setDom_dom ht]
    split
    · next h => subst h; exact hx
    · rfl
  unfold State.downWithXo
  split
  · exact hkeep s _ rfl rfl
  · exact hkeep _ _ (s.domainLost_roots d) rfl

theorem State.xoRecovery_stalled (s : State) (e : Domain) : (s.xoRecovery.dom e).stalled = (s.dom e).stalled := by
  have hforced : (((s.startForced .mgt 2).startForced .xo 1).dom e).stalled = (s.dom e).stalled :=
    (State.startForced_stalled ..).trans (State.startForced_stalled ..)
  refine Eq.trans ?_ hforced
  unfold State.xoRecovery
  extract_lets _ forced down fallen saved _
  have hfallen : (fallen.dom e).stalled = (forced.dom e).stalled :=
    foldl_keeps (fun s : State => (s.dom e).stalled) _ (fun s d => s.downWithXo_stalled d e) down forced
  have hsaved : saved.dom e = fallen.dom e := by
    unfold saved
    clear_value fallen
    split <;> rfl
  rw [← hfallen, ← hsaved]
  clear_value saved
  exact congrArg DomainSt.stalled (State.dom_congr (s := saved) rfl rfl e)

/-! ### Stalls -/

/-- What the declaration of a stall stores before the recovery of its root: the root, the meter's mark, cause STALL and its count. -/
def State.stallNoted (s : State) (d : Domain) : State :=
  (((s.setDom d { s.dom d with stalled := true, running := false }).meterHit d).setCause 0 0).bump 0xF030 1 1

/-- What follows the declaration of a stall of a root (R145). -/
def State.stallFollowed (s : State) (d : Domain) : State :=
  match d with
  | .cmp => s.dvfsAbandon
  | .mgt => s.mgtRecovery
  | .xo => s.xoRecovery
  | _ => s

theorem State.stall_eq {s : State} {d : Domain} (hd : d ≠ .aon) (h : (s.dom d).stalled = false) :
    s.stall d = (s.stallNoted d).stallFollowed d := by
  cases d with
  | aon => exact absurd rfl hd
  | _ => simp only [State.stall, State.stallNoted, State.stallFollowed, h, Bool.false_eq_true, if_false]

theorem State.stallNoted_stalled (s : State) (d : Domain) : ((s.stallNoted d).dom d).stalled = true := by
  have hroots : (s.stallNoted d).roots = (s.setDom d { s.dom d with stalled := true, running := false }).roots :=
    (State.setCause_roots ..).trans (State.meterHit_roots ..)
  rw [State.dom_of_roots hroots, State.dom_setDom, if_pos rfl]

theorem State.dvfsAbandon_roots (s : State) : s.dvfsAbandon.roots = s.roots := State.ite_roots rfl rfl

theorem State.stallFollowed_stalled (s : State) (d e : Domain) : ((s.stallFollowed d).dom e).stalled = (s.dom e).stalled := by
  cases d with
  | cmp => exact congrArg DomainSt.stalled (State.dom_of_roots s.dvfsAbandon_roots e)
  | mgt => exact s.mgtRecovery_stalled e
  | xo => exact s.xoRecovery_stalled e
  | _ => rfl

section
variable {parts : List Part} {objs : List (Nat × Nat)} {s u : State}

theorem Frame.meterHit (h : Frame parts objs s u) (d : Domain) (hm : .clk ∈ parts := by decide) : Frame parts objs s (u.meterHit d) := by
  unfold State.meterHit
  split
  · exact h.setClk _ hm
  · exact h

theorem Frame.dvfsAbandon (h : Frame parts objs s u) (hm : .clk ∈ parts := by decide) : Frame parts objs s u.dvfsAbandon := by
  unfold State.dvfsAbandon
  extract_lets
  split
  · exact h
  · exact h.setClk _ hm

/-- Nothing but the command itself acts at the end of a command that leaves the pair and the home of a lone device as they are. -/
theorem Frame.settle_eq (h : Frame parts objs s u) (ha : Alone s) (hpair : .pair ∉ parts) (hcoh : .coh ∉ parts) : u.settle = u := by
  have hp : u.pair = s.pair := h.part _ hpair
  have hc : u.coh = s.coh := h.part _ hcoh
  obtain ⟨hlead, hsecond, hdone, hwait, hinbox⟩ := ha
  exact u.settle_alone (hp ▸ hlead) (hp ▸ hsecond) (hc ▸ hdone) (hc ▸ hwait) (hc ▸ hinbox)

end

theorem State.stallNoted_frame (s : State) (d : Domain) : Frame [.clk, .latch] (causeObjects 0 ++ [(0xF030, 1)]) s (s.stallNoted d) :=
  ((((Frame.refl s).setDom d _).meterHit d).setCause 0 0).bump 0xF030 1 1

/-- A stall of another root than MGT and XO has no recovery; the operating point of CMP is abandoned. -/
theorem State.stallFollowed_frame {s u : State} {d : Domain} {objs : List (Nat × Nat)} (h : Frame [.clk, .latch] objs s u) (hmgt : d ≠ .mgt)
    (hxo : d ≠ .xo) : Frame [.clk, .latch] objs s (u.stallFollowed d) := by
  cases d with
  | cmp => exact h.dvfsAbandon
  | mgt => exact absurd rfl hmgt
  | xo => exact absurd rfl hxo
  | _ => exact h

theorem State.stallFollowed_obj {s : State} {d : Domain} (hmgt : d ≠ .mgt) (hxo : d ≠ .xo) : (s.stallFollowed d).obj = s.obj := by
  cases d with
  | cmp =>
    show s.dvfsAbandon.obj = s.obj
    unfold State.dvfsAbandon
    extract_lets
    split <;> rfl
  | mgt => exact absurd rfl hmgt
  | xo => exact absurd rfl hxo
  | _ => rfl

theorem State.meterHit_obj (s : State) (d : Domain) : (s.meterHit d).obj = s.obj := by
  unfold State.meterHit; split <;> rfl

theorem State.meterHit_boot (s : State) (d : Domain) : (s.meterHit d).boot = s.boot := by
  unfold State.meterHit; split <;> rfl

/-- MGT runs as before when a stall of another root is noted. -/
theorem State.stallNoted_mgtUp {s : State} {d : Domain} (hmgt : d ≠ .mgt) (h : s.mgtUp = true) :
    ((s.setDom d { s.dom d with stalled := true, running := false }).meterHit d).mgtUp = true := by
  have hdom : ((s.setDom d { s.dom d with stalled := true, running := false }).meterHit d).dom .mgt = s.dom .mgt := by
    rw [State.dom_of_roots (State.meterHit_roots ..), State.dom_setDom, if_neg hmgt.symm]
  unfold State.mgtUp State.up at h ⊢
  rw [hdom, State.meterHit_boot]
  exact h

theorem State.stallNoted_z {s : State} {d : Domain} (hmgt : d ≠ .mgt) (h : s.mgtUp = true) :
    (s.stallNoted d).z 0x2101 0 = s.z 0x2101 0 ||| 1 ∧ (s.stallNoted d).z 0xF030 1 = min (s.z 0xF030 1 + 1) (2 ^ 32 - 1) := by
  have hup := State.stallNoted_mgtUp hmgt h
  have hz : ∀ i a, ((s.setDom d { s.dom d with stalled := true, running := false }).meterHit d).z i a = s.z i a :=
    fun i a => State.z_congr ((State.meterHit_obj ..).trans rfl) i a
  unfold State.stallNoted
  constructor
  · rw [State.z_bump, if_neg (by decide), ← hz]
    exact State.setCause_z_up (br := 0) 0 (by decide) rfl hup
  · rw [State.z_bump, if_pos rfl, State.setCause_z_ne _ _ (by decide) (by decide) (by decide) (by decide) rfl, hz]

theorem stallDeclared_stalled {s : State} {d : Domain} (hd : d ≠ .aon) (h : (s.dom d).stalled = false) :
    ∃ t, exec (.stallDeclared d) s = .next t ∧ (t.dom d).stalled = true := by
  refine ⟨s.ended (s.stall d).settle, rfl, ?_⟩
  rw [State.ended_dom, State.dom_of_roots (State.settle_roots _), State.stall_eq hd h, State.stallFollowed_stalled]
  exact s.stallNoted_stalled d

theorem stallDeclared_completes {s : State} {d : Domain} (hd : d ≠ .aon) (hmgt : d ≠ .mgt) (hxo : d ≠ .xo) (halone : Alone s)
    (hup : s.mgtUp = true) (h : (s.dom d).stalled = false) :
    Completes (.stallDeclared d) s [.clk, .latch] (causeObjects 0 ++ [(0xF030, 1)]) fun t =>
      t.z 0x2101 0 = s.z 0x2101 0 ||| 1 ∧ t.z 0xF030 1 = min (s.z 0xF030 1 + 1) (2 ^ 32 - 1) := by
  have hframe := State.stallFollowed_frame (s.stallNoted_frame d) hmgt hxo
  have hz := fun i a => State.z_congr (State.stallFollowed_obj (s := s.stallNoted d) hmgt hxo) i a
  obtain ⟨hcause, hcount⟩ := State.stallNoted_z hmgt hup
  have hexec : exec (.stallDeclared d) s = s.ends ((s.stallNoted d).stallFollowed d) := by
    show s.ends (s.stall d).settle = _
    rw [State.stall_eq hd h, hframe.settle_eq halone (by decide) (by decide)]
  refine completes_of_frame hexec hframe ⟨?_, ?_⟩
  · rw [State.ended_z, hz, hcause]
  · rw [State.ended_z, hz, hcount]

theorem rootEdgeAfterStall_completes {s : State} {d : Domain} (h : (s.dom d).stalled = true) :
    Completes (.rootEdgeAfterStall d) s [.clk] [] fun t => t.dom d = { s.dom d with stalled := false, running := true } := by
  have hexec : exec (.rootEdgeAfterStall d) s = s.ends (s.setDom d { s.dom d with stalled := false, running := true }) := by
    show s.ends (s.stallEnd d) = _
    simp only [State.stallEnd, h, if_true]
  refine completes_of_frame hexec ((Frame.refl s).setDom d _) ?_
  rw [State.ended_dom, State.dom_setDom, if_pos rfl]

theorem aonClockFault_completes {s : State} (hup : s.mgtUp = true) :
    Completes (.aonClockFault false) s [.latch] (causeObjects 0 ++ [(0xF030, 6)]) fun t =>
      t.z 0x2101 0 = s.z 0x2101 0 ||| 8 ∧ t.z 0xF030 6 = min (s.z 0xF030 6 + 1) (2 ^ 32 - 1) := by
  have hexec : exec (.aonClockFault false) s = s.ends ((s.setCause 0 3).bump 0xF030 6 1) := rfl
  refine completes_of_frame hexec (((Frame.refl s).setCause 0 3).bump 0xF030 6 1) ⟨?_, ?_⟩
  · rw [State.ended_z, State.z_bump, if_neg (by decide)]
    exact State.setCause_z_up (br := 0) 3 (by decide) rfl hup
  · rw [State.ended_z, State.z_bump, if_pos rfl, State.setCause_z_ne _ _ (by decide) (by decide) (by decide) (by decide) rfl]

/-- What a fault of the AON root notes before it asserts POR. -/
def State.aonStopNoted (s : State) : State :=
  let t := (s.setCause 0 3).bump 0xF030 6 1
  { t with power := { t.power with por := true, porAt := t.now, tripHeld := false, tripped := false, therm := false } }

/-- Clearing is told from the queue, the real time and the outputs of the state before alone. -/
theorem cleared_of_same {code : Nat} {s u t : State} (h : Cleared code u t) (hpending : u.pending = s.pending) (hnow : u.now = s.now)
    (hout : u.out = s.out) : Cleared code s t := by
  unfold Cleared at h ⊢
  rwa [← hpending, ← hnow, ← hout]

theorem aonClockFault_stopped (s : State) : ∃ t, exec (.aonClockFault true) s = .next t ∧ Cleared 0 s t ∧ t.power.por = true := by
  have hcleared : Cleared 0 s (s.aonStopNoted.enterReset .por) :=
    cleared_of_same (s.aonStopNoted.enterReset_cleared .por) (State.setWord_pending ..) (State.setWord_now ..) (State.setWord_out ..)
  have hpower : (s.aonStopNoted.enterReset .por).power.por = true := congrArg Power.por (State.enterReset_power ..)
  exact ⟨s.ended (s.aonStopNoted.enterReset .por), rfl, cleared_of_ends hcleared, (congrArg Power.por (State.ended_power ..)).trans hpower⟩

/-- Settles O8: the recovery of MGT and XO moves no STALLED bit but by the declaration, and every other stall changes its root, the cause and
the counter alone. -/
theorem stallsAreDeclaredAndEnd : Obligations.StallsAreDeclaredAndEnd := by
  intro s
  exact ⟨fun _ => stallDeclared_stalled, fun _ => stallDeclared_completes, fun _ => rootEdgeAfterStall_completes, aonClockFault_completes,
    aonClockFault_stopped s⟩

end Sys2Proof.Machine
end

section
/-! PROOF. Accepted writes of class L: the write is served, its effect is that of its object alone, and the answer leaves. -/
namespace Sys2Proof.Machine

/-! ### Operands -/

theorem leNat_leBytes (k v : Nat) : leNat (leBytes k v) = v % 256 ^ k := by
  induction k generalizing v with
  | zero => simp [leBytes, leNat, Nat.mod_one]
  | succ k ih => rw [leBytes, leNat, ih, BitVec.toNat_ofNat, show 2 ^ 8 = 256 from rfl, pow_succ', Nat.mod_mul]

/-- What a write of `n` to an object of a row stores. -/
def storedVal (r : Row) (idx sub n : Nat) : Val := maskVal r (octetsVal r.ty (operand idx sub n))

theorem storedVal_u8 {r : Row} {idx sub n : Nat} (hr : findRow idx sub = some r) (hty : r.ty = .u8) (hmask : r.mask = 0xff) (hn : n < 2 ^ 8) :
    storedVal r idx sub n = .num n := by
  simp only [storedVal, operand, hr, hty, octetsVal, maskVal, hmask, leNat_leBytes, tyLen]
  rw [Nat.mod_eq_of_lt (by omega), show (0xff : Nat) = 2 ^ 8 - 1 from rfl, Nat.and_two_pow_sub_one_of_lt_two_pow hn]

theorem storedVal_u16 {r : Row} {idx sub n : Nat} (hr : findRow idx sub = some r) (hty : r.ty = .u16) (hmask : r.mask = 0xffff)
    (hn : n < 2 ^ 16) : storedVal r idx sub n = .num n := by
  simp only [storedVal, operand, hr, hty, octetsVal, maskVal, hmask, leNat_leBytes, tyLen]
  rw [Nat.mod_eq_of_lt (by omega), show (0xffff : Nat) = 2 ^ 16 - 1 from rfl, Nat.and_two_pow_sub_one_of_lt_two_pow hn]

/-! ### The served write -/

/-- The access of a command's write is accepted. -/
def State.accepted (s : State) (w : Who) : State := s.accept (pathNo w.path) (s.requester w)

/-- A write that took effect is counted and answered. -/
def State.answered (s : State) (w : Who) : State := (s.bump 0xF000 3 1).emit (.answer w 0 [])

theorem State.rewritten_eq {s : State} {idx sub : Nat} (h : s.knownBad idx sub = false) : s.rewritten (key idx sub) = s := by
  have hkept : (s.badWords.filter fun w => decide (w / 1024 ≠ key idx sub)) = s.badWords := by
    refine List.filter_eq_self.2 fun w hw => ?_
    simpa using List.any_eq_false.1 h w hw
  unfold State.rewritten
  rw [hkept]

theorem State.knownBad_accepted (s : State) (w : Who) (idx sub : Nat) : (s.accepted w).knownBad idx sub = s.knownBad idx sub := by
  simp [State.knownBad, State.accepted]

theorem State.up_of_mgtUp {s : State} (h : s.mgtUp = true) : s.up = true := by
  unfold State.mgtUp at h
  exact (Bool.and_eq_true_iff.1 h).1

theorem State.mgtUp_of_mgtFast {s : State} (h : s.mgtFast = true) : s.mgtUp = true := by
  unfold State.mgtFast at h
  exact (Bool.and_eq_true_iff.1 h).1

/-- Every path in service has MGT running. -/
theorem State.mgtUp_of_pathUp {s : State} {p : Nat} (h : s.pathUp p = true) : s.mgtUp = true := by
  unfold State.pathUp at h
  split at h
  · simp only [Bool.and_eq_true] at h; exact State.mgtUp_of_mgtFast h.1.1.1.1.1
  · simp only [Bool.and_eq_true] at h; exact State.mgtUp_of_mgtFast h.1.1.1.1
  · simp only [Bool.and_eq_true] at h; exact State.mgtUp_of_mgtFast h.1.1.1.1
  · simp only [Bool.and_eq_true] at h; exact h.1
  · exact absurd h Bool.false_ne_true

theorem State.up_of_accepted {s : State} {w : Who} {idx sub n : Nat} (h : Accepted s w idx sub n) : s.up = true := by
  obtain ⟨hreaches, -⟩ := h
  unfold State.reaches at hreaches
  exact State.up_of_mgtUp (State.mgtUp_of_pathUp (Bool.and_eq_true_iff.1 hreaches).1)

/-- An accepted write names an object that exists. -/
theorem findRow_of_accepted {s : State} {w : Who} {idx sub n : Nat} (h : Accepted s w idx sub n) : ∃ r, findRow idx sub = some r := by
  obtain ⟨-, -, -, hcode⟩ := h
  cases hrow : findRow idx sub with
  | some r => exact ⟨r, rfl⟩
  | none =>
    unfold State.serveWrite at hcode
    simp only [hrow, nameCode, Option.isSome_none, Bool.false_eq_true, if_false] at hcode
    split at hcode <;> exact absurd hcode (by decide)

/-- An accepted write of class L whose effect is `eff`, on a device that it leaves out of every reset: it is answered, and the units follow. -/
theorem State.writeNum_effect {s : State} {w : Who} {idx sub n : Nat} {r : Row} {eff : State → State} (hr : findRow idx sub = some r)
    (hl : r.cls = .l) (hx : ¬ (idx = 0x1010 ∧ sub = 3)) (h : Accepted s w idx sub n)
    (heff : ∀ (u : State) (a : Acc), a.idx = idx → a.sub = sub → u.liveEffect a (storedVal r idx sub n) = eff (u.rewritten (key idx sub)))
    (hup : (eff (s.accepted w)).up = true) : s.writeNum w idx sub n = ((eff (s.accepted w)).answered w).settle := by
  have hbad : (s.accepted w).knownBad idx sub = false := (s.knownBad_accepted w idx sub).trans h.2.2.1
  have hlive := fun a hidx hsub => (heff (s.accepted w) a hidx hsub).trans (congrArg eff (State.rewritten_eq hbad))
  rw [State.writeNum_live hr hl hx h]
  refine congrArg State.settle ?_
  rw [show maskVal r (octetsVal r.ty (operand idx sub n)) = storedVal r idx sub n from rfl]
  rw [show s.accept (pathNo w.path) (s.requester w) = s.accepted w from rfl, hlive _ rfl rfl, if_pos (show ((eff (s.accepted w)).bump 0xF000 3 1).up = true from hup)]
  rfl

section
variable {parts : List Part} {objs : List (Nat × Nat)} {s u : State}

theorem Frame.accept (h : Frame parts objs s u) (p req : Nat) (hm : .acc ∈ parts := by decide) (ho : ∀ x ∈ accessObjects, x ∈ objs := by decide) :
    Frame parts objs s (u.accept p req) := by
  refine ⟨fun q hq => ?_, fun i a ha hi h17 => ?_⟩
  · have hu := h.part q hq
    cases q with
    | acc => exact absurd hm hq
    | _ => simpa [Part.same] using hu
  · have hne : ∀ x ∈ accessObjects, key i a ≠ key x.1 x.2 := fun x hx heq => by
      have hlt : x.2 < 256 := (show ∀ x ∈ accessObjects, x.2 < 256 by decide) x hx
      obtain ⟨rfl, rfl⟩ := (key_inj ha hlt).1 heq
      exact hi (ho x hx)
    rw [u.accept_val p req i a (hne (0xF098, 3) (by decide)) (hne (0xF000, 1) (by decide)), h.val i a ha hi h17]

theorem Frame.accepted (s : State) (w : Who) (hm : .acc ∈ parts := by decide) (ho : ∀ x ∈ accessObjects, x ∈ objs := by decide) :
    Frame parts objs s (s.accepted w) := (Frame.refl s).accept _ _ hm ho

theorem Frame.answered (h : Frame parts objs s u) (w : Who) (hm : .out ∈ parts := by decide) (ho : (0xF000, 3) ∈ objs := by decide) :
    Frame parts objs s (u.answered w) := (h.bump 0xF000 3 1 ho).emit _ hm

end

/-- A lone device ends an accepted write of class L with the write's effect, its count and its answer. -/
theorem completes_of_accepted {c : Instr} {s : State} {w : Who} {idx sub n : Nat} {r : Row} {eff : State → State} {parts : List Part}
    {objs : List (Nat × Nat)} {P : State → Prop} (hc : exec c s = s.ends (s.writeNum w idx sub n)) (hr : findRow idx sub = some r)
    (hl : r.cls = .l) (hx : ¬ (idx = 0x1010 ∧ sub = 3)) (halone : Alone s) (h : Accepted s w idx sub n)
    (heff : ∀ (u : State) (a : Acc), a.idx = idx → a.sub = sub → u.liveEffect a (storedVal r idx sub n) = eff (u.rewritten (key idx sub)))
    (hup : (eff (s.accepted w)).up = true) (hf : Frame parts objs s (eff (s.accepted w))) (hP : P (s.ended ((eff (s.accepted w)).answered w)))
    (hpair : .pair ∉ parts := by decide) (hcoh : .coh ∉ parts := by decide) (hout : .out ∈ parts := by decide)
    (ho : (0xF000, 3) ∈ objs := by decide) : Completes c s parts objs P := by
  have hans := hf.answered w hout ho
  refine completes_of_frame ?_ hans hP
  rw [hc, State.writeNum_effect hr hl hx h heff hup, hans.settle_eq halone hpair hcoh]

@[simp] theorem State.accepted_boot (s : State) (w : Who) : (s.accepted w).boot = s.boot := by simp [State.accepted]
@[simp] theorem State.accepted_clk (s : State) (w : Who) : (s.accepted w).clk = s.clk := by simp [State.accepted]
@[simp] theorem State.accepted_now (s : State) (w : Who) : (s.accepted w).now = s.now := by simp [State.accepted]
@[simp] theorem State.accepted_power (s : State) (w : Who) : (s.accepted w).power = s.power := by simp [State.accepted]
@[simp] theorem State.accepted_out (s : State) (w : Who) : (s.accepted w).out = s.out := by simp [State.accepted]

/-- Acceptance changes no object but the counts of accesses and of idle closes. -/
theorem State.accepted_val (s : State) (w : Who) {i a : Nat} (h : key i a ≠ key 0xF098 3 := by decide) (h' : key i a ≠ key 0xF000 1 := by decide) :
    (s.accepted w).val i a = s.val i a := s.accept_val _ _ i a h h'

theorem State.accepted_n (s : State) (w : Who) {i a : Nat} (h : key i a ≠ key 0xF098 3 := by decide) (h' : key i a ≠ key 0xF000 1 := by decide) :
    (s.accepted w).n i a = s.n i a := congrArg valNum (s.accepted_val w h h')

end Sys2Proof.Machine
end

section
/-! PROOF. The frequency meter and CLKMON_OUT (R131, R132, R135). -/
namespace Sys2Proof.Machine

theorem meterStart_completes {s : State} (w : Who) (halone : Alone s) (h : Accepted s w 0x2206 4 1) :
    Completes (.meterStart w 1) s [.clk, .acc, .out] accessObjects fun t =>
      t.clk = { s.clk with
        meterRun := true, meterTarget := s.n 0x2206 1, meterRef := s.n 0x2206 2, meterN := s.n 0x2206 3, meterBad := false
        meterAt := s.now } := by
  have hrow : findRow 0x2206 4 = some ⟨0x2206, 0x2206, 4, 4, .bool, .l, 0, 1, 0, .any, 0xff, 1⟩ := rfl
  have heff : ∀ (u : State) (a : Acc), a.idx = 0x2206 → a.sub = 4 →
      u.liveEffect a (.num 1) = (u.rewritten (key 0x2206 4)).startMeter := by
    rintro u ⟨path, req, level, idx, sub⟩ rfl rfl
    rfl
  refine completes_of_accepted rfl hrow rfl (by decide) halone h heff ?_ ?_ ?_
  · exact (congrArg (fun b : Boot => decide (b.step ≠ 0)) (s.accepted_boot w)).trans (State.up_of_accepted h)
  · exact (Frame.accepted s w).setClk _
  · rw [State.ended_clk]
    show ((s.accepted w).startMeter).clk = _
    simp only [State.startMeter, State.accepted_clk, State.accepted_now, s.accepted_n w (i := 0x2206) (a := 1), s.accepted_n w (i := 0x2206) (a := 2),
      s.accepted_n w (i := 0x2206) (a := 3)]

/-- What the end of a meter window stores, once its time has passed (R131, R132). -/
def State.meterStored (s : State) (count khz good : Nat) : State :=
  (((({ s with clk := { s.clk with meterRun := false } }.put 0x2206 5 2).put 0x2206 6 (min count (2 ^ 32 - 1))).put 0x2206 7
    (min khz (2 ^ 32 - 1))).put 0x2206 8 good)

@[simp] theorem State.meterStored_now (s : State) (count khz good : Nat) : (s.meterStored count khz good).now = s.now := rfl

@[simp] theorem State.meterStored_clk (s : State) (count khz good : Nat) :
    (s.meterStored count khz good).clk = { s.clk with meterRun := false } := rfl

theorem meterWindowEnd_completes {s : State} (count : Nat) (hrun : s.clk.meterRun = true) (href : s.clk.meterRef = 1) :
    Completes (.meterWindowEnd count) s [.clk, .now, .time] (clockObjects ++ [(0x2206, 5), (0x2206, 6), (0x2206, 7), (0x2206, 8)]) fun t =>
      t.now = max s.now (s.clk.meterAt + s.clk.meterN * 10) ∧ t.clk = { s.clk with meterRun := false } ∧ t.z 0x2206 5 = 2 ∧
      t.z 0x2206 6 = min count (2 ^ 32 - 1) ∧ t.z 0x2206 7 = min (count * 100000 / s.clk.meterN) (2 ^ 32 - 1) ∧
      t.z 0x2206 8 = (if s.clk.meterBad then 0 else 1) := by
  have hexec : exec (.meterWindowEnd count) s = s.ends ((s.elapseTo (s.clk.meterAt + s.clk.meterN * 10)).meterStored count
      (count * 100000 / s.clk.meterN) (b2n !s.clk.meterBad)) := by
    show s.ends (s.meterEnd count) = _
    simp only [State.meterEnd, State.meterStored, hrun, href, Bool.not_true, Bool.false_eq_true, if_false, one_ne_zero]
  refine completes_of_frame hexec ?_ ?_
  · exact ((((((Frame.refl s).elapseTo _).setClk _).put _ _ _).put _ _ _).put _ _ _).put _ _ _
  · refine ⟨?_, ?_, ?_, ?_, ?_, ?_⟩
    · rw [State.ended_now, State.meterStored_now, State.elapseTo_now]
    · rw [State.ended_clk, State.meterStored_clk, State.elapseTo_clk]
    · rw [State.ended_z]; simp [State.meterStored, State.z_put, key]
    · rw [State.ended_z]; simp [State.meterStored, State.z_put, key]
    · rw [State.ended_z]; simp [State.meterStored, State.z_put, key]
    · rw [State.ended_z]
      cases hbad : s.clk.meterBad <;> simp [State.meterStored, State.z_put, b2n]

theorem frequencyMeterMeasuresAWindow : Claims.FrequencyMeterMeasuresAWindow := fun _ =>
  ⟨fun w halone h => meterStart_completes w halone h, fun count hrun href => meterWindowEnd_completes count hrun href⟩

/-! ### CLKMON_OUT -/

/-- What an accepted write of an object of 2207h does: the value is put and the selection follows (R135). -/
def State.clkmonPut (s : State) (k n : Nat) : State := (s.put 0x2207 k n).clkmonFollow

/-- The selection of CLKMON_OUT changes the clocks alone. -/
theorem State.clkmonFollow_touches (s : State) : ∃ c, s.clkmonFollow = { s with clk := c } := by
  unfold State.clkmonFollow
  extract_lets
  split
  · exact ⟨_, rfl⟩
  · exact ⟨_, rfl⟩

theorem State.clkmonFollow_z (s : State) (i a : Nat) : s.clkmonFollow.z i a = s.z i a := by
  obtain ⟨_, h⟩ := s.clkmonFollow_touches
  rw [h]; rfl

theorem State.clkmonFollow_b (s : State) (i a : Nat) : s.clkmonFollow.b i a = s.b i a := by
  obtain ⟨_, h⟩ := s.clkmonFollow_touches
  rw [h]; rfl

/-- The selection of CLKMON_OUT is that of its objects. -/
theorem State.clkmonFollow_selection (s : State) : s.clkmonFollow.clk.clkmonSrc = s.z 0x2207 1 ∧ s.clkmonFollow.clk.clkmonDiv = s.z 0x2207 2 ∧
    s.clkmonFollow.clk.clkmonOn = s.b 0x2207 3 := by
  unfold State.clkmonFollow
  extract_lets
  split
  · assumption
  · exact ⟨rfl, rfl, rfl⟩

/-- A change of the selection of CLKMON_OUT holds the pin low for 2,000 ns from now. -/
theorem State.clkmonFollow_at {s : State} (h : (s.clkmonFollow.clk.clkmonSrc, s.clkmonFollow.clk.clkmonDiv, s.clkmonFollow.clk.clkmonOn) ≠
    (s.clk.clkmonSrc, s.clk.clkmonDiv, s.clk.clkmonOn)) : s.clkmonFollow.clk.clkmonAt = s.now + 2000 := by
  unfold State.clkmonFollow at h ⊢
  extract_lets at h ⊢
  split
  · next hsame =>
    rw [if_pos hsame] at h
    exact absurd rfl h
  · rfl

/-- While the pin's wait has not ended, it is low. -/
theorem State.clkmonPin_low {s : State} (hvddio : s.power.vddioUp = true) (h : s.now < s.clk.clkmonAt) : s.clkmonPin = .low := by
  unfold State.clkmonPin
  simp [hvddio, Nat.not_le.2 h]

theorem clkmonRows_live : ∀ sub < 256, ∀ r, findRow 0x2207 sub = some r → r.cls = .l := by decide +kernel

theorem clkmonChangeHoldsThePinLow : Claims.ClkmonChangeHoldsThePinLow := by
  intro s w sub v halone h
  obtain ⟨r, hrow⟩ := findRow_of_accepted h
  have heff : ∀ (u : State) (a : Acc), a.idx = 0x2207 → a.sub = sub.toNat → u.liveEffect a (storedVal r 0x2207 sub.toNat v.toNat) =
      (u.rewritten (key 0x2207 sub.toNat)).clkmonPut sub.toNat (valNum (storedVal r 0x2207 sub.toNat v.toNat)) := by
    rintro u ⟨path, req, level, idx, k⟩ rfl rfl
    rfl
  generalize valNum (storedVal r 0x2207 sub.toNat v.toNat) = n at heff
  obtain ⟨hsrc, hdiv, hon⟩ := ((s.accepted w).put 0x2207 sub.toNat n).clkmonFollow_selection
  obtain ⟨c, hc⟩ := ((s.accepted w).put 0x2207 sub.toNat n).clkmonFollow_touches
  have hz : ∀ k < 256, (s.ended (((s.accepted w).clkmonPut sub.toNat n).answered w)).z 0x2207 k = ((s.accepted w).put 0x2207 sub.toNat n).z 0x2207 k :=
    fun k hk => by
      rw [State.ended_z _ _ (by unfold key; omega)]
      exact (State.z_bump ..).trans ((if_neg (by unfold key; omega)).trans (State.clkmonFollow_z ..))
  have hb : (s.ended (((s.accepted w).clkmonPut sub.toNat n).answered w)).b 0x2207 3 = ((s.accepted w).put 0x2207 sub.toNat n).b 0x2207 3 := by
    unfold State.b State.n
    rw [State.ended_val _ _]
    exact congrArg (fun v => decide (valNum v = 1)) ((State.val_bump _ _ _ _ _ _ (by decide)).trans (by rw [State.clkmonPut, hc]; rfl))
  have hframe : Frame [.clk, .acc, .out] (accessObjects ++ [(0x2207, sub.toNat)]) s ((s.accepted w).clkmonPut sub.toNat n) := by
    rw [State.clkmonPut, hc]
    have haccess : ∀ x ∈ accessObjects, x ∈ accessObjects ++ [(0x2207, sub.toNat)] := fun x hx => List.mem_append_left _ hx
    exact ((Frame.accepted s w (by decide) haccess).put _ _ _ (by simp) sub.isLt).setClk _
  refine completes_of_accepted rfl hrow (clkmonRows_live _ sub.isLt r hrow) (by simp) halone h
    (eff := fun u => u.clkmonPut sub.toNat n) heff ?_ hframe ?_ (ho := by simp [accessObjects])
  · have hboot : ((s.accepted w).clkmonPut sub.toNat n).boot = s.boot := hframe.part .boot (by decide)
    have hup := State.up_of_accepted h
    unfold State.up at hup ⊢
    rwa [hboot]
  · have hclk : (s.ended (((s.accepted w).clkmonPut sub.toNat n).answered w)).clk = ((s.accepted w).clkmonPut sub.toNat n).clk := State.ended_clk ..
    have hpower : (s.ended (((s.accepted w).clkmonPut sub.toNat n).answered w)).power = s.power := by
      rw [State.ended_power]; exact hframe.part .power (by decide)
    have hnow : (s.ended (((s.accepted w).clkmonPut sub.toNat n).answered w)).now = s.now := by
      rw [State.ended_now]; exact hframe.part .now (by decide)
    rw [hclk, hz 1 (by decide), hz 2 (by decide), hb]
    refine ⟨hsrc, hdiv, hon, fun hne => ?_⟩
    have hat : ((s.accepted w).clkmonPut sub.toNat n).clk.clkmonAt = s.now + 2000 := by
      rw [← s.accepted_clk w] at hne
      exact (State.clkmonFollow_at hne).trans (congrArg (· + 2000) (s.accepted_now w))
    refine ⟨hat, fun hvddio => State.clkmonPin_low (by rwa [hpower]) ?_⟩
    rw [hnow, hclk, hat]
    omega

/-- Settles O12: the window and the selection are read off the updates of their commands. -/
theorem meterAndClockMonitor : Obligations.MeterAndClockMonitor := ⟨frequencyMeterMeasuresAWindow, clkmonChangeHoldsThePinLow⟩

end Sys2Proof.Machine
end

section
/-! PROOF. Switches of clock roots (R115, R138-R144). -/
namespace Sys2Proof.Machine

/-! ### A domain comes back (Table 3.12) -/

/-- Time may have passed, and no root and no supply has moved. -/
structure State.Later (s t : State) : Prop where
  dom : t.clk.dom = s.clk.dom
  power : t.power = s.power
  now : s.now ≤ t.now

theorem State.Later.of_roots {s t : State} (h : t.roots = s.roots) : s.Later t :=
  ⟨congrArg (·.1) h, congrArg (·.2.1) h, (State.now_of_roots h).ge⟩

theorem State.Later.refl (s : State) : s.Later s := ⟨rfl, rfl, le_rfl⟩

theorem State.Later.trans {s t u : State} (h : s.Later t) (k : t.Later u) : s.Later u :=
  ⟨k.dom.trans h.dom, k.power.trans h.power, h.now.trans k.now⟩

theorem State.Later.ite {s t u : State} {c : Prop} [Decidable c] (ht : s.Later t) (hu : s.Later u) : s.Later (if c then t else u) := by
  split
  · exact ht
  · exact hu

theorem State.Later.dom_eq {s t : State} (h : s.Later t) (d : Domain) : t.dom d = s.dom d := State.dom_congr h.dom h.power d

theorem State.elapse_later (s : State) (d : Nat) : s.Later (s.elapse d) := by
  have hnow := s.elapse_now d
  unfold State.elapse at hnow ⊢
  extract_lets at hnow ⊢
  split
  · exact ⟨rfl, rfl, Nat.le_add_right ..⟩
  · exact ⟨rfl, rfl, Nat.le_add_right ..⟩

theorem State.elapseTo_later (s : State) (t : Nat) : s.Later (s.elapseTo t) := State.Later.ite (s.elapse_later _) (.refl s)

@[simp] theorem State.freshLine_roots (s : State) (off : Nat) (data : Octets) (poison : Bool) : (s.freshLine off data poison).roots = s.roots := rfl

@[simp] theorem State.stepEnd_roots (s : State) : s.stepEnd.roots = s.roots := rfl

@[simp] theorem State.regionDone_roots (s : State) : s.regionDone.roots = s.roots := by
  unfold State.regionDone
  extract_lets
  repeat' split
  all_goals rfl

@[simp] theorem State.abandonEnd_roots (s : State) : s.abandonEnd.roots = s.roots :=
  (State.stepEnd_roots _).trans (State.ite_roots (by simp) rfl)

/-- The region under test comes back zeroed and poisoned (R694). -/
def State.regionZeroed (s : State) : State :=
  (List.range 64).foldl (fun (s : State) i => s.freshLine (offOf s.mem.tbank (64 * s.mem.tregion + i)) (zeros 64) true) s

theorem State.regionZeroed_roots (s : State) : s.regionZeroed.roots = s.roots :=
  foldl_keeps State.roots _ (fun _ _ => State.freshLine_roots ..) _ s

theorem State.roots_setMem (s : State) (m : Memory) : State.roots { s with mem := m } = s.roots := rfl

@[simp] theorem State.testLost_roots (s : State) : s.testLost.roots = s.roots := by
  unfold State.testLost
  refine State.ite_roots ?_ (State.ite_roots s.stepEnd_roots rfl)
  extract_lets _ lost zeroed _ _ counted
  have hlost : lost.roots = s.roots := rfl
  clear_value lost
  have hzeroed : zeroed.roots = lost.roots := lost.regionZeroed_roots
  clear_value zeroed
  have hcounted : counted.roots = zeroed.roots := State.ite_roots ((State.roots_setMem _ _).trans (zeroed.bump_roots ..)) rfl
  rw [State.abandonEnd_roots, State.bump_roots, hcounted, hzeroed, hlost]

@[simp] theorem State.skipBlocks_roots (s : State) (t next n : Nat) : (s.skipBlocks t next n).roots = s.roots := by
  unfold State.skipBlocks
  extract_lets x lost
  split
  · rfl
  · rw [State.bump_roots]
    exact (State.setWord_alerted ..).roots

@[simp] theorem State.startWindow_roots (s : State) (w : Nat) : (s.startWindow w).roots = s.roots := by
  unfold State.startWindow
  split
  · exact State.skipBlocks_roots ..
  · rfl

@[simp] theorem State.tapReady_roots (s : State) (i : Nat) : (s.tapReady i).roots = s.roots := by
  unfold State.tapReady
  extract_lets
  split <;> rfl

@[simp] theorem State.tapFollow_roots (s : State) (i : Nat) : (s.tapFollow i).roots = s.roots := by
  unfold State.tapFollow
  extract_lets x isSet due
  have hdue : due.roots = s.roots := State.ite_roots rfl rfl
  split
  · rfl
  · exact State.ite_roots ((State.tapReady_roots ..).trans hdue) (State.ite_roots (s.tapLeave_roots i) rfl)

@[simp] theorem State.tapsFollow_roots (s : State) : s.tapsFollow.roots = s.roots := foldl_keeps State.roots _ State.tapFollow_roots _ s

theorem State.tickBack_later (s : State) : s.Later s.tickBack := by
  unfold State.tickBack
  extract_lets refEdge _ counting kept started
  have hcounting : s.Later counting := (s.elapse_later _).trans ⟨rfl, rfl, le_rfl⟩
  have hstarted : started.roots = kept.roots := foldl_keeps State.roots _ (fun s w => State.ite_roots (s.startWindow_roots w) rfl) _ kept
  exact hcounting.trans (State.Later.of_roots ((started.tapsFollow_roots.trans hstarted).trans counting.testLost_roots))

@[simp] theorem State.endJob_roots (s : State) (c : Nat) (e : JobEnd) : (s.endJob c e).roots = s.roots := State.roots_congr (by simp) (by simp) (by simp)

@[simp] theorem State.cmpBack_roots (s : State) : s.cmpBack.roots = s.roots := by
  unfold State.cmpBack
  extract_lets lost restarted caused
  have hrestarted : restarted.roots = s.roots := foldl_keeps State.roots _ (fun s t => by rfl) _ s
  have hcaused : caused.roots = s.roots := State.ite_roots ((State.setCause_roots ..).trans hrestarted) hrestarted
  exact (foldl_keeps State.roots _ (fun s c => State.ite_roots (s.endJob_roots c _) rfl) _ caused).trans hcaused

@[simp] theorem State.startDecoder_roots (t : Nat) (s : State) (j : Nat) : (State.startDecoder t s j).roots = s.roots :=
  State.ite_roots rfl (State.ite_roots rfl rfl)

@[simp] theorem State.prbBack_roots (s : State) : s.prbBack.roots = s.roots := by
  unfold State.prbBack
  split
  · rfl
  · exact (foldl_keeps State.roots _ (State.startDecoder_roots _) _ _).trans (State.ite_roots rfl rfl)

@[simp] theorem State.srvStart_roots (s : State) : s.srvStart.roots = s.roots := State.ite_roots rfl rfl

@[simp] theorem State.syncTrace_roots (s : State) : s.syncTrace.roots = s.roots := State.ite_roots (s.setCause_roots ..) rfl

@[simp] theorem State.syncInelig_roots (s : State) : s.syncInelig.roots = s.roots := State.ite_roots (s.setCause_roots ..) rfl

@[simp] theorem State.probeBadFrom_roots (s : State) : s.probeBadFrom.roots = s.roots := by
  unfold State.probeBadFrom
  split <;> rfl

@[simp] theorem State.syncProbe_roots (s : State) : s.syncProbe.roots = s.roots := by
  unfold State.syncProbe
  split
  · exact State.ite_roots s.probeBadFrom_roots ((State.setCause_roots ..).trans s.probeBadFrom_roots)
  · exact State.ite_roots rfl rfl

@[simp] theorem State.dueCauses_roots (s : State) : s.dueCauses.roots = s.roots := by
  unfold State.dueCauses
  extract_lets _ abandoned network los
  have habandoned : abandoned.roots = s.roots := State.ite_roots (State.setCause_roots ..) rfl
  have hnetwork : network.roots = s.roots := State.ite_roots ((State.setCause_roots ..).trans habandoned) habandoned
  have hlos : los.roots = s.roots := State.ite_roots ((State.setCause_roots ..).trans hnetwork) hnetwork
  rw [State.syncInelig_roots, State.syncProbe_roots, State.syncTrace_roots, hlos]

@[simp] theorem State.reloadLatch_roots (s : State) : s.reloadLatch.roots = s.roots := by
  obtain ⟨o, l, h⟩ := s.reloadLatch_eq
  rw [h, State.alertSync_roots]; rfl

@[simp] theorem State.mgtBack_roots (s : State) : s.mgtBack.roots = s.roots :=
  State.ite_roots (s.reloadLatch.dueCauses_roots.trans s.reloadLatch_roots) s.reloadLatch_roots

theorem State.domainBack_later (s : State) (d : Domain) (src : Nat) : s.Later (s.domainBack d src) := by
  cases d with
  | tick => exact State.Later.ite (State.Later.ite s.tickBack_later (.refl s)) (State.Later.ite (.refl s) ⟨rfl, rfl, le_rfl⟩)
  | fab => exact .of_roots (foldl_keeps State.roots _ State.portBack_roots _ s)
  | lnk p => exact .of_roots (s.portBack_roots p)
  | cmp => exact .of_roots (State.cmpBack_roots _)
  | prb => exact .of_roots s.prbBack_roots
  | srv => exact .of_roots s.srvStart_roots
  | mgt => exact .of_roots s.mgtBack_roots
  | _ => exact .refl s

/-! ### A normal switch -/

@[simp] theorem State.netsFollow_dom (s : State) (src : Nat) (d : Domain) : (s.netsFollow src).dom d = s.dom d := by
  unfold State.netsFollow
  split
  · rfl
  · split <;> rfl

theorem State.mgtSource_dom (s : State) (old new : Nat) (d : Domain) : (s.mgtSource old new).dom d = s.dom d := by
  unfold State.mgtSource
  extract_lets nets
  rw [← s.netsFollow_dom new d]
  refine State.dom_of_roots ?_ d
  exact State.ite_roots (foldl_keeps State.roots _ State.pathLost_roots _ nets) (State.ite_roots nets.mgtBack_roots rfl)

/-- What follows a normal switch moves no root. -/
theorem State.rootMoved_dom (s : State) (d e : Domain) (old new : Nat) : (s.rootMoved d old new).dom e = s.dom e := by
  cases d with
  | tick =>
    show (if old = 0 ∧ new ≠ 0 then s.tickLost else if old ≠ 0 ∧ new = 0 ∧ s.time.bridging then s.tickBack else s).dom e = _
    split
    · exact State.dom_of_roots s.tickLost_roots e
    · split
      · exact s.tickBack_later.dom_eq e
      · rfl
  | cmp =>
    show (if new ≠ 0 then s.cmpLost else if old ≠ 0 then State.dvfsMove { s with clk := { s.clk with dvfsState := 0 } } else s).dom e = _
    split
    · rfl
    · split
      · refine State.dom_of_roots (t := State.dvfsMove _) ?_ e
        unfold State.dvfsMove
        extract_lets
        split <;> rfl
      · rfl
  | mgt => exact s.mgtSource_dom old new e
  | _ => rfl

/-- The domain root that a normal switch to `src` leaves behind (R115). -/
def DomainSt.moved (x : DomainSt) (src : Nat) : DomainSt := { x with src := src, switching := none, running := true }

theorem State.normalDone_eq {s : State} {d : Domain} {src : Nat} (hswitch : (s.dom d).switching = some src) (hstall : (s.dom d).stalled = false)
    (hruns : s.srcRuns d src = true) : s.normalDone d = (s.setDom d ((s.dom d).moved src)).rootMoved d (s.dom d).src src := by
  simp only [State.normalDone, hswitch, hstall, hruns, Bool.not_true, Bool.or_false, Bool.false_eq_true, if_false]
  simp only [DomainSt.moved, hstall]

theorem normalSwitchComplete_dom {s : State} {d : Domain} {src : Nat} (hswitch : (s.dom d).switching = some src)
    (hstall : (s.dom d).stalled = false) (hruns : s.srcRuns d src = true) :
    ∃ t, exec (.normalSwitchComplete d) s = .next t ∧ (t.dom d).src = src ∧ (t.dom d).switching = none ∧ (t.dom d).running = true := by
  have hdom : (s.ended (s.normalDone d).settle).dom d = (s.dom d).moved src := by
    rw [State.ended_dom, State.dom_of_roots (State.settle_roots _), State.normalDone_eq hswitch hstall hruns, State.rootMoved_dom,
      State.dom_setDom, if_pos rfl]
  refine ⟨s.ended (s.normalDone d).settle, rfl, ?_⟩
  rw [hdom]
  exact ⟨rfl, rfl, rfl⟩

/-- FAB, PRB and SRV go on as they are when their root moves. -/
theorem normalSwitchComplete_completes {s : State} {d : Domain} {src : Nat} (hd : d = .fab ∨ d = .prb ∨ d = .srv) (halone : Alone s)
    (hswitch : (s.dom d).switching = some src) (hstall : (s.dom d).stalled = false) (hruns : s.srcRuns d src = true) :
    Completes (.normalSwitchComplete d) s [.clk] [] fun t =>
      t.clk = (s.setDom d { s.dom d with src := src, switching := none, running := true }).clk := by
  have hframe : Frame [.clk] [] s (s.setDom d ((s.dom d).moved src)) := (Frame.refl s).setDom d _
  have hstay : s.normalDone d = s.setDom d ((s.dom d).moved src) := by
    rw [State.normalDone_eq hswitch hstall hruns]
    rcases hd with rfl | rfl | rfl <;> rfl
  have hexec : exec (.normalSwitchComplete d) s = s.ends (s.setDom d ((s.dom d).moved src)) := by
    show s.ends (s.normalDone d).settle = _
    rw [hstay, hframe.settle_eq halone (by decide) (by decide)]
  exact completes_of_frame hexec hframe (State.ended_clk ..)

/-! ### Roots after an accepted write -/

theorem State.accepted_roots (s : State) (w : Who) : (s.accepted w).roots = s.roots := State.roots_congr (by simp) (by simp) (by simp)

theorem State.answered_val (s : State) (w : Who) {i a : Nat} (h : key i a ≠ key 0xF000 3) : (s.answered w).val i a = s.val i a :=
  s.val_bump 0xF000 3 1 i a h

theorem State.answered_roots (s : State) (w : Who) : (s.answered w).roots = s.roots := rfl

/-- The roots after an accepted write of class L are those of its effect, on every device. -/
theorem State.writeNum_roots {s : State} {w : Who} {idx sub n : Nat} {r : Row} {eff : State → State} (hr : findRow idx sub = some r)
    (hl : r.cls = .l) (hx : ¬ (idx = 0x1010 ∧ sub = 3)) (h : Accepted s w idx sub n)
    (heff : ∀ (u : State) (a : Acc), a.idx = idx → a.sub = sub → u.liveEffect a (storedVal r idx sub n) = eff (u.rewritten (key idx sub))) :
    (s.writeNum w idx sub n).roots = (eff (s.accepted w)).roots := by
  have hbad : (s.accepted w).knownBad idx sub = false := (s.knownBad_accepted w idx sub).trans h.2.2.1
  have hlive := fun a hidx hsub => (heff (s.accepted w) a hidx hsub).trans (congrArg eff (State.rewritten_eq hbad))
  rw [State.writeNum_live hr hl hx h, State.settle_roots]
  rw [show maskVal r (octetsVal r.ty (operand idx sub n)) = storedVal r idx sub n from rfl]
  rw [show s.accept (pathNo w.path) (s.requester w) = s.accepted w from rfl, hlive _ rfl rfl]
  exact State.ite_roots rfl rfl

theorem domOfSub_subOfDom {sub : Nat} {d : Domain} (h : domOfSub sub = some d) : subOfDom d = sub := by
  unfold domOfSub at h
  split at h <;> cases h <;> rfl

/-- Every object of 2203h is of one row. -/
theorem rootSelectRows : ∀ sub < 256, ∀ r, findRow 0x2203 sub = some r → r.cls = .l ∧ r.ty = .u8 ∧ r.mask = 0xff := by decide +kernel

theorem rootSelect_completes {s : State} (w : Who) (sub src : BitVec 8) (d : Domain) (halone : Alone s)
    (h : Accepted s w 0x2203 sub.toNat src.toNat) (hd : domOfSub sub.toNat = some d) :
    Completes (.rootSelect w sub src) s [.clk, .acc, .out] (accessObjects ++ [(0x2203, subOfDom d)]) fun t =>
      t.dom d = { s.dom d with switching := some src.toNat } ∧ (∀ e, e ≠ d → t.dom e = s.dom e) ∧
      t.n 0x2203 (subOfDom d) = src.toNat ∧ .answer w 0 [] ∈ t.out := by
  obtain ⟨r, hrow⟩ := findRow_of_accepted h
  obtain ⟨hlive, hty, hmask⟩ := rootSelectRows _ sub.isLt r hrow
  have hstored : storedVal r 0x2203 sub.toNat src.toNat = .num src.toNat := storedVal_u8 hrow hty hmask src.isLt
  have hsub := domOfSub_subOfDom hd
  have heff : ∀ (u : State) (a : Acc), a.idx = 0x2203 → a.sub = sub.toNat → u.liveEffect a (storedVal r 0x2203 sub.toNat src.toNat) =
      (u.rewritten (key 0x2203 sub.toNat)).requestRoot d src.toNat := by
    rintro u ⟨path, req, level, idx, k⟩ rfl rfl
    rw [hstored]
    show (match domOfSub sub.toNat with | some d => (u.rewritten _).requestRoot d src.toNat | none => u.rewritten _) = _
    rw [hd]
  have hmem : ∀ x ∈ accessObjects, x ∈ accessObjects ++ [(0x2203, subOfDom d)] := fun x hx => List.mem_append_left _ hx
  have hframe : Frame [.clk, .acc, .out] (accessObjects ++ [(0x2203, subOfDom d)]) s ((s.accepted w).requestRoot d src.toNat) :=
    ((Frame.accepted s w (by decide) hmem).setDom d _).put _ _ _ (by simp) (by rw [hsub]; exact sub.isLt)
  have hdom : ∀ e, (s.ended (((s.accepted w).requestRoot d src.toNat).answered w)).dom e =
      if e = d then { s.dom d with switching := some src.toNat } else s.dom e := fun e => by
    rw [State.ended_dom, State.dom_of_roots (State.answered_roots ..), State.requestRoot, State.dom_of_roots (State.put_roots ..),
      State.dom_setDom, State.dom_of_roots (s.accepted_roots w), State.dom_of_roots (s.accepted_roots w)]
  refine completes_of_accepted rfl hrow hlive (by simp) halone h (eff := fun u => u.requestRoot d src.toNat) heff ?_ hframe
    ⟨?_, fun e he => ?_, ?_, ?_⟩ (ho := hmem _ (by decide))
  · have hboot : ((s.accepted w).requestRoot d src.toNat).boot = s.boot := hframe.part .boot (by decide)
    have hup := State.up_of_accepted h
    unfold State.up at hup ⊢
    rwa [hboot]
  · rw [hdom, if_pos rfl]
  · rw [hdom, if_neg he]
  · unfold State.n
    have hkey : key 0x2203 (subOfDom d) ≠ key 0xF000 3 := by have := sub.isLt; unfold key; omega
    rw [State.ended_val _ _ (by have := sub.isLt; unfold key; omega), State.answered_val _ _ hkey, State.requestRoot, State.val_put, if_pos rfl]
    rfl
  · rw [State.ended_out]
    exact List.mem_cons_self ..

theorem normalSwitchMovesTheRoot : Claims.NormalSwitchMovesTheRoot := fun _ =>
  ⟨fun w sub src d halone h hd => rootSelect_completes w sub src d halone h hd,
    fun _ _ hswitch hstall hruns => normalSwitchComplete_dom hswitch hstall hruns,
    fun _ _ hd halone hswitch hstall hruns => normalSwitchComplete_completes hd halone hswitch hstall hruns⟩

/-! ### A forced switch -/

theorem forcedSwitch_dom {s : State} (w : Who) (v : BitVec 16) (d : Domain) (h : Accepted s w 0x2204 0 v.toNat)
    (hd : domOfCode (v.toNat / 256) = some d) (htick : d = .tick → s.leadWithSecond = false) :
    ∃ t, exec (.forcedSwitch w v) s = .next t ∧ (t.dom d).forcing = some (v.toNat % 256) ∧ (t.dom d).inReset = true ∧
      (t.dom d).running = false := by
  have hrow : findRow 0x2204 0 = some ⟨0x2204, 0x2204, 0, 0, .u16, .l, 0, 2, 0, .any, 0xffff, 2⟩ := rfl
  have hstored := storedVal_u16 hrow rfl rfl v.isLt
  have heff : ∀ (u : State) (a : Acc), a.idx = 0x2204 → a.sub = 0 →
      u.liveEffect a (storedVal ⟨0x2204, 0x2204, 0, 0, .u16, .l, 0, 2, 0, .any, 0xffff, 2⟩ 0x2204 0 v.toNat) =
      ((u.rewritten (key 0x2204 0)).put 0x2204 0 v.toNat).hostForced d (v.toNat % 256) := by
    rintro u ⟨path, req, level, idx, k⟩ rfl rfl
    rw [hstored]
    show (match domOfCode (v.toNat / 256) with
      | some d => ((u.rewritten _).put 0x2204 0 v.toNat).hostForced d (v.toNat % 256) | none => u.rewritten _) = _
    rw [hd]
  have hlead : ((s.accepted w).put 0x2204 0 v.toNat).leadWithSecond = s.leadWithSecond := by
    have hpair : (s.accepted w).pair = s.pair := State.accept_pair ..
    exact congrArg (fun x : Pair => decide (x.role = 2) && x.eligible) hpair
  have hforced : ((s.accepted w).put 0x2204 0 v.toNat).hostForced d (v.toNat % 256) =
      ((s.accepted w).put 0x2204 0 v.toNat).startForced d (v.toNat % 256) := by
    cases d with
    | tick =>
      show (if ((s.accepted w).put 0x2204 0 v.toNat).leadWithSecond then _ else _) = _
      rw [hlead, htick rfl]
      rfl
    | _ => rfl
  have hdom : (s.ended (s.writeNum w 0x2204 0 v.toNat)).dom d = (s.dom d).forced (v.toNat % 256) s.now := by
    rw [State.ended_dom, State.dom_of_roots (State.writeNum_roots (eff := fun u => (u.put 0x2204 0 v.toNat).hostForced d (v.toNat % 256))
      hrow rfl (by decide) h heff), hforced, State.startForced_dom, if_pos rfl]
    have hput : ((s.accepted w).put 0x2204 0 v.toNat).roots = s.roots := s.accepted_roots w
    rw [State.dom_of_roots hput, State.now_of_roots hput]
  refine ⟨s.ended (s.writeNum w 0x2204 0 v.toNat), rfl, ?_⟩
  rw [hdom]
  exact ⟨rfl, rfl, rfl⟩

/-- The domain root that a forced switch comes to (R143). -/
def DomainSt.released (x : DomainSt) (src : Nat) : DomainSt :=
  { x with src := src, forcing := none, inReset := false, running := true, stalled := false }

/-- The return of the domain at the end of a forced switch, which the networks follow for MGT (R143, R146). -/
def State.forcedBack (s : State) (d : Domain) (src : Nat) : State :=
  (match d with | .mgt => s.netsFollow src | _ => s).domainBack d src

theorem State.forcedBack_dom (s : State) (d e : Domain) (src : Nat) : (s.forcedBack d src).dom e = s.dom e := by
  unfold State.forcedBack
  rw [(State.domainBack_later _ d src).dom_eq]
  cases d with
  | mgt => exact s.netsFollow_dom src e
  | _ => rfl

theorem State.netsFollow_now (s : State) (src : Nat) : (s.netsFollow src).now = s.now := by
  unfold State.netsFollow
  split
  · rfl
  · split <;> rfl

theorem State.forcedBack_now (s : State) (d : Domain) (src : Nat) : s.now ≤ (s.forcedBack d src).now := by
  refine le_trans (le_of_eq ?_) (State.domainBack_later _ d src).now
  cases d with
  | mgt => exact (s.netsFollow_now src).symm
  | _ => rfl

theorem forcedSwitchComplete_dom {s : State} {d : Domain} {src : Nat} (hforcing : (s.dom d).forcing = some src)
    (hready : s.srcReady d src = true) :
    ∃ t, exec (.forcedSwitchComplete d) s = .next t ∧ s.now ≤ t.now ∧ (s.dom d).since + 3000 ≤ t.now ∧ (t.dom d).src = src ∧
      (t.dom d).forcing = none ∧ (t.dom d).inReset = false ∧ (t.dom d).running = true := by
  have hdone : (s.forcedDone d).roots =
      (((s.elapseTo ((s.dom d).since + 3000)).setDom d (((s.elapseTo ((s.dom d).since + 3000)).dom d).released src)).forcedBack d src).roots := by
    unfold State.forcedDone
    rw [hforcing]
    simp only [hready, Bool.not_true, Bool.false_eq_true, if_false]
    exact State.setCause_roots ..
  have hend : (s.ended (s.forcedDone d).settle).roots = (s.forcedDone d).roots :=
    State.roots_congr (by simp) (by simp) (by simp)
  have hnow := (State.now_of_roots (hend.trans hdone)).ge.trans' (State.forcedBack_now _ d src)
  have hlater : max s.now ((s.dom d).since + 3000) ≤ (s.ended (s.forcedDone d).settle).now := by
    rw [← State.elapseTo_now]; exact hnow
  have hdom : (s.ended (s.forcedDone d).settle).dom d = ((s.elapseTo ((s.dom d).since + 3000)).dom d).released src := by
    rw [State.dom_of_roots (hend.trans hdone), State.forcedBack_dom, State.dom_setDom, if_pos rfl]
  refine ⟨s.ended (s.forcedDone d).settle, rfl, le_of_max_le_left hlater, le_of_max_le_right hlater, ?_⟩
  rw [hdom]
  exact ⟨rfl, rfl, rfl, rfl⟩

/-- A forced switch whose PLL came too late has ended with the domain in its reset (R144). -/
def State.forcedLost (s : State) (d : Domain) (src : Nat) : State := s.setDom d { s.dom d with src := src, forcing := none }

theorem State.forcedLost_z (s : State) (d : Domain) (src i a : Nat) : (s.forcedLost d src).z i a = s.z i a := rfl

theorem State.forcedLost_mgtUp (s : State) (d : Domain) (src : Nat) : (s.forcedLost d src).mgtUp = s.mgtUp := by
  have hreset : ((s.forcedLost d src).dom .mgt).inReset = (s.dom .mgt).inReset := by
    rw [State.forcedLost, State.dom_setDom]
    split
    · next h => subst h; rfl
    · rfl
  unfold State.mgtUp
  rw [hreset]
  rfl

theorem State.elapseTo_mgtUp (s : State) (t : Nat) : (s.elapseTo t).mgtUp = s.mgtUp :=
  State.mgtUp_of_roots (s.elapseTo_boot t) (s.elapseTo_later t).dom (s.elapseTo_later t).power

theorem State.elapseTo_z (s : State) (t : Nat) {i a : Nat} (h : key i a ≠ key 0xF050 16) (hd : defaultVal i a = .num 0 := by rfl) :
    (s.elapseTo t).z i a = s.z i a := State.z_of_val (s.elapseTo_val t h) hd

theorem forcedSwitchLockTimeout_completes {s : State} {d : Domain} {src : Nat} (hforcing : (s.dom d).forcing = some src)
    (hready : s.srcReady d src = false) (hup : s.mgtUp = true) :
    Completes (.forcedSwitchLockTimeout d) s [.clk, .now, .time, .latch] (clockObjects ++ causeObjects 0) fun t =>
      t.dom d = { s.dom d with src := src, forcing := none } ∧ t.z 0x2101 0 = s.z 0x2101 0 ||| 2 := by
  rw [← State.elapseTo_mgtUp s ((s.dom d).since + 1001000)] at hup
  have hexec : exec (.forcedSwitchLockTimeout d) s = s.ends (((s.elapseTo ((s.dom d).since + 1001000)).forcedLost d src).setCause 0 1) := by
    show s.ends (s.forcedLate d) = _
    simp only [State.forcedLate, hforcing, hready, Bool.false_eq_true, if_false]
    rfl
  refine completes_of_frame hexec ((((Frame.refl s).elapseTo _).setDom d _).setCause 0 1) ⟨?_, ?_⟩
  · rw [State.ended_dom, State.dom_of_roots (State.setCause_roots ..), State.forcedLost, State.dom_setDom, if_pos rfl,
      (s.elapseTo_later _).dom_eq]
  · rw [State.ended_z]
    rw [State.setCause_z_up (br := 0) 1 (by decide) rfl ((State.forcedLost_mgtUp ..).trans hup), State.forcedLost_z,
      State.elapseTo_z s _ (by decide)]
    rfl

theorem forcedSwitchResetsTheDomain : Claims.ForcedSwitchResetsTheDomain := fun _ =>
  ⟨fun w v d h hd htick => forcedSwitch_dom w v d h hd htick, fun _ _ hforcing hready => forcedSwitchComplete_dom hforcing hready,
    fun _ _ hforcing hready hup => forcedSwitchLockTimeout_completes hforcing hready hup⟩

/-- Settles O11: neither switch moves another root than its own, and what follows a switch moves none. -/
theorem rootsSwitchNormallyAndForced : Obligations.RootsSwitchNormallyAndForced := ⟨normalSwitchMovesTheRoot, forcedSwitchResetsTheDomain⟩

end Sys2Proof.Machine
end

section
/-! PROOF. XO qualification, and the PLLs (R112-R114, R148, R167). -/
namespace Sys2Proof.Machine

/-- What a frame says of an object whose default is 0. -/
theorem Frame.z_eq {parts : List Part} {objs : List (Nat × Nat)} {s u : State} {i a : Nat} (h : Frame parts objs s u) (ha : a < 256 := by decide)
    (ho : (i, a) ∉ objs := by decide) (h17 : (i, a) ≠ (0xF018, 17) := by decide) (hd : defaultVal i a = .num 0 := by rfl) :
    u.z i a = s.z i a := State.z_of_val (h.val i a ha ho h17) hd

/-- A timer of AON is told from the real time alone. -/
theorem State.late_aon {s t : State} (h : t.now = s.now) (since limit : Nat) : t.late .aon since limit = s.late .aon since limit :=
  congrArg (fun n => decide (since * 2 / 125 + limit * 2 / 125 < n * 2 / 125)) h

/-! ### A qualification window -/

theorem State.qualLate_done {s : State} (h : s.clk.qualLate = true) : s.qualLate = s := by
  unfold State.qualLate
  rw [h]; rfl

theorem State.qualLate_new {s : State} (h : s.clk.qualLate = false) :
    s.qualLate = State.put ({ s with clk := { s.clk with qualLate := true } }.setCause 0 2) 0x2205 3 3 := by
  unfold State.qualLate
  rw [h]; rfl

section
variable {parts : List Part} {objs : List (Nat × Nat)} {s u : State}

theorem Frame.qualLate (h : Frame parts objs s u) (hclk : .clk ∈ parts := by decide) (hlatch : .latch ∈ parts := by decide)
    (ho : ∀ x ∈ causeObjects 0, x ∈ objs := by decide) (hstate : (0x2205, 3) ∈ objs := by decide) : Frame parts objs s u.qualLate := by
  cases hlate : u.clk.qualLate with
  | true => rwa [State.qualLate_done hlate]
  | false =>
    rw [State.qualLate_new hlate]
    exact ((h.setClk _ hclk).setCause 0 2 hlatch ho).put 0x2205 3 3 hstate

end

@[simp] theorem State.qualLate_now (s : State) : s.qualLate.now = s.now := by
  cases hlate : s.clk.qualLate with
  | true => rw [State.qualLate_done hlate]
  | false => rw [State.qualLate_new hlate]; exact State.setWord_now ..

theorem State.qualLate_clk (s : State) : s.qualLate.clk = { s.clk with qualLate := true } := by
  cases hlate : s.clk.qualLate with
  | true => rw [State.qualLate_done hlate, ← hlate]
  | false => rw [State.qualLate_new hlate]; exact State.setWord_clk ..

theorem State.qualLate_state {s : State} (h : s.clk.qualLate = false) : s.qualLate.z 0x2205 3 = 3 := by
  rw [State.qualLate_new h, State.z_put, if_pos rfl]

theorem State.qualLate_cause {s : State} (h : s.clk.qualLate = false) (hup : s.mgtUp = true) :
    s.qualLate.z 0x2101 0 = s.z 0x2101 0 ||| 4 := by
  rw [State.qualLate_new h, State.z_put, if_neg (by decide)]
  exact State.setCause_z_up (br := 0) 2 (by decide) rfl hup

theorem State.windowEnd_eq (s : State) : s.windowEnd =
    if (s.elapseTo (s.clk.qualAt + 64000)).late .aon s.boot.stepAt 20000000 then (s.elapseTo (s.clk.qualAt + 64000)).qualLate
    else s.elapseTo (s.clk.qualAt + 64000) := by
  unfold State.windowEnd
  dsimp only
  rw [State.elapseTo_boot]

theorem State.windowEnd_frame (s : State) :
    Frame [.clk, .now, .time, .latch] (clockObjects ++ causeObjects 0 ++ [(0x2205, 3)]) s s.windowEnd := by
  have helapsed : Frame [.clk, .now, .time, .latch] (clockObjects ++ causeObjects 0 ++ [(0x2205, 3)]) s (s.elapseTo (s.clk.qualAt + 64000)) :=
    (Frame.refl s).elapseTo _
  rw [State.windowEnd_eq]
  split
  · exact helapsed.qualLate
  · exact helapsed

theorem State.windowEnd_now (s : State) : s.windowEnd.now = max s.now (s.clk.qualAt + 64000) := by
  rw [← State.elapseTo_now]
  rw [State.windowEnd_eq]
  split
  · exact State.qualLate_now _
  · rfl

theorem State.windowEnd_clk (s : State) :
    s.windowEnd.clk = { s.clk with qualLate := s.clk.qualLate || s.windowEnd.late .aon s.boot.stepAt 20000000 } := by
  have hclk := s.elapseTo_clk (s.clk.qualAt + 64000)
  have hnow : s.windowEnd.now = (s.elapseTo (s.clk.qualAt + 64000)).now := s.windowEnd_now.trans (State.elapseTo_now ..).symm
  rw [State.late_aon hnow]
  rw [State.windowEnd_eq]
  split
  · next h => rw [State.qualLate_clk, hclk, h, Bool.or_true]
  · next h => rw [hclk, Bool.eq_false_iff.2 h, Bool.or_false]

/-- A report is told from the real time and the two objects that it names. -/
theorem qualReported_congr {s t u : State} (h : Claims.QualReported s t) (hnow : u.now = t.now) (hstate : u.z 0x2205 3 = t.z 0x2205 3)
    (hcause : u.z 0x2101 0 = t.z 0x2101 0) : Claims.QualReported s u := by
  unfold Claims.QualReported at h ⊢
  rwa [State.late_aon hnow, hstate, hcause]

theorem State.windowEnd_reported (s : State) : Claims.QualReported s s.windowEnd := by
  have hnow : s.windowEnd.now = (s.elapseTo (s.clk.qualAt + 64000)).now := s.windowEnd_now.trans (State.elapseTo_now ..).symm
  have hclk := s.elapseTo_clk (s.clk.qualAt + 64000)
  have hup := s.elapseTo_mgtUp (s.clk.qualAt + 64000)
  have hstate : (s.elapseTo (s.clk.qualAt + 64000)).z 0x2205 3 = s.z 0x2205 3 := State.elapseTo_z s _ (by decide)
  have hcause : (s.elapseTo (s.clk.qualAt + 64000)).z 0x2101 0 = s.z 0x2101 0 := State.elapseTo_z s _ (by decide)
  unfold Claims.QualReported
  rw [State.late_aon hnow, State.windowEnd_eq]
  generalize s.elapseTo (s.clk.qualAt + 64000) = e at hclk hup hstate hcause
  refine ⟨fun hlate hfirst => ?_, fun hquiet => ?_⟩
  · rw [if_pos hlate]
    have hfirst' : e.clk.qualLate = false := hclk ▸ hfirst
    refine ⟨State.qualLate_state hfirst', fun hmgt => ?_⟩
    rw [State.qualLate_cause hfirst' (hup.trans hmgt)]
    exact bit_or_two_pow _ 2
  · rcases hquiet with hquiet | hquiet
    · rw [hquiet]
      exact ⟨hstate, hcause⟩
    · rw [State.qualLate_done (hclk ▸ hquiet), ite_self]
      exact ⟨hstate, hcause⟩

/-- A window that passes stores its count and one more pass in a row (R112). -/
def State.windowPassed (s : State) (count : Nat) : State := (s.put 0x2205 1 (min 65535 count)).put 0x2205 2 (min 255 (s.z 0x2205 2 + 1))

/-- A window that fails stores its count, no pass in a row, and counts (R112). -/
def State.windowFailed (s : State) (count : Nat) : State := ((s.put 0x2205 1 (min 65535 count)).put 0x2205 2 0).bump 0xF030 5 1

theorem State.qualCount_pass {s : State} {count : Nat} (hlow : 6272 ≤ count) (hhigh : count ≤ 6528) : s.qualCount count = s.windowPassed count := by
  simp only [State.qualCount, State.windowPassed, hlow, hhigh, decide_true, Bool.and_self, if_true]

theorem State.qualCount_fail {s : State} {count : Nat} (h : count < 6272 ∨ 6528 < count) : s.qualCount count = s.windowFailed count := by
  have hpass : (decide (6272 ≤ count) && decide (count ≤ 6528)) = false := by
    rcases h with h | h
    · simp [Nat.not_le.2 h]
    · simp [Nat.not_le.2 h]
  simp only [State.qualCount, State.windowFailed, hpass, Bool.false_eq_true, if_false]

theorem State.windowPassed_now (s : State) (count : Nat) : (s.windowPassed count).now = s.now := rfl

theorem State.windowPassed_clk (s : State) (count : Nat) : (s.windowPassed count).clk = s.clk := rfl

theorem State.windowPassed_z (s : State) (count : Nat) {i a : Nat} (hpasses : key i a ≠ key 0x2205 2) (hcount : key i a ≠ key 0x2205 1) :
    (s.windowPassed count).z i a = s.z i a := by
  rw [State.windowPassed, State.z_put, if_neg hpasses, State.z_put, if_neg hcount]

theorem State.windowFailed_now (s : State) (count : Nat) : (s.windowFailed count).now = s.now := rfl

theorem State.windowFailed_clk (s : State) (count : Nat) : (s.windowFailed count).clk = s.clk := rfl

theorem State.windowFailed_z (s : State) (count : Nat) {i a : Nat} (hfails : key i a ≠ key 0xF030 5) (hpasses : key i a ≠ key 0x2205 2)
    (hcount : key i a ≠ key 0x2205 1) : (s.windowFailed count).z i a = s.z i a := by
  rw [State.windowFailed, State.z_bump, if_neg hfails, State.z_put, if_neg hpasses, State.z_put, if_neg hcount]

theorem State.windowFailed_fails (s : State) (count : Nat) :
    (s.windowFailed count).z 0xF030 5 = min (s.z 0xF030 5 + 1) (2 ^ 32 - 1) := by
  rw [State.windowFailed, State.z_bump, if_pos rfl, State.z_put, if_neg (by decide), State.z_put, if_neg (by decide)]

theorem State.windowPassed_passes (s : State) (count : Nat) : (s.windowPassed count).z 0x2205 2 = min 255 (s.z 0x2205 2 + 1) := by
  rw [State.windowPassed, State.z_put, if_pos rfl]

theorem State.windowFailed_passes (s : State) (count : Nat) : (s.windowFailed count).z 0x2205 2 = 0 := by
  rw [State.windowFailed, State.z_bump, if_neg (by decide), State.z_put, if_pos rfl]

section
variable {parts : List Part} {objs : List (Nat × Nat)} {s u : State}

theorem Frame.windowPassed (h : Frame parts objs s u) (count : Nat) (hcount : (0x2205, 1) ∈ objs := by decide)
    (hpasses : (0x2205, 2) ∈ objs := by decide) : Frame parts objs s (u.windowPassed count) :=
  (h.put 0x2205 1 _ hcount).put 0x2205 2 _ hpasses

theorem Frame.windowFailed (h : Frame parts objs s u) (count : Nat) (hcount : (0x2205, 1) ∈ objs := by decide)
    (hpasses : (0x2205, 2) ∈ objs := by decide) (hfails : (0xF030, 5) ∈ objs := by decide) : Frame parts objs s (u.windowFailed count) :=
  ((h.put 0x2205 1 _ hcount).put 0x2205 2 _ hpasses).bump 0xF030 5 1 hfails

theorem Frame.qualStop (h : Frame parts objs s u) (hclk : .clk ∈ parts := by decide) : Frame parts objs s u.qualStop := h.setClk _ hclk

theorem Frame.startPlls (h : Frame parts objs s u) (hclk : .clk ∈ parts := by decide) (hboot : .boot ∈ parts := by decide) :
    Frame parts objs s u.startPlls := (h.setBoot _ hboot).setPll _ _ hclk

end

/-- The state that a window which runs ends in, before its count is judged. -/
def State.windowOver (s : State) : State := s.windowEnd.qualNext

theorem State.qualWindow_eq {s : State} {count : Nat} (hrun : s.clk.qualRun = true) : s.qualWindow count =
    if (s.windowOver.qualCount count).z 0x2205 2 < 4 then s.windowOver.qualCount count
    else ((s.windowOver.qualCount count).put 0x2205 3 2).qualStop.startPlls := by
  simp only [State.qualWindow, hrun, Bool.not_true, Bool.false_eq_true, if_false, State.windowOver]
  rfl

theorem State.qualNext_z (s : State) (i a : Nat) : s.qualNext.z i a = s.z i a := rfl

theorem State.qualNext_now (s : State) : s.qualNext.now = s.now := rfl

theorem State.qualNext_clk (s : State) : s.qualNext.clk = { s.clk with qualAt := s.now } := rfl

theorem State.windowOver_now (s : State) : s.windowOver.now = s.windowEnd.now := s.windowEnd.qualNext_now

theorem State.windowOver_reported (s : State) : Claims.QualReported s s.windowOver :=
  qualReported_congr s.windowEnd_reported s.windowOver_now (s.windowEnd.qualNext_z _ _) (s.windowEnd.qualNext_z _ _)

theorem State.windowOver_clk (s : State) : s.windowOver.clk =
    { s.clk with qualAt := s.windowEnd.now, qualLate := s.clk.qualLate || s.windowEnd.late .aon s.boot.stepAt 20000000 } := by
  rw [State.windowOver, State.qualNext_clk, State.windowEnd_clk]

theorem State.windowOver_z (s : State) {i a : Nat} (ha : a < 256 := by decide)
    (ho : (i, a) ∉ clockObjects ++ causeObjects 0 ++ [(0x2205, 3)] := by decide) (h17 : (i, a) ≠ (0xF018, 17) := by decide)
    (hd : defaultVal i a = .num 0 := by rfl) : s.windowOver.z i a = s.z i a :=
  s.windowEnd.qualNext_z i a |>.trans (s.windowEnd_frame.z_eq ha ho h17 hd)

theorem windowOver_frame (s : State) (parts : List Part) (objs : List (Nat × Nat)) (hp : ∀ p ∈ [.clk, .now, .time, .latch], p ∈ parts := by decide)
    (ho : ∀ x ∈ clockObjects ++ causeObjects 0 ++ [(0x2205, 3)], x ∈ objs := by decide) : Frame parts objs s s.windowOver := by
  have h : Frame [.clk, .now, .time, .latch] (clockObjects ++ causeObjects 0 ++ [(0x2205, 3)]) s s.windowOver := s.windowEnd_frame.setClk _
  exact ⟨fun p hn => h.part p fun hm => hn (hp p hm), fun i a ha hn h17 => h.val i a ha (fun hm => hn (ho _ hm)) h17⟩

theorem xoQualWindowEnd_passes {s : State} {count : Nat} (hrun : s.clk.qualRun = true) (hlow : 6272 ≤ count) (hhigh : count ≤ 6528)
    (hfew : s.z 0x2205 2 < 3) :
    Completes (.xoQualWindowEnd count) s [.clk, .now, .time, .latch]
      (clockObjects ++ causeObjects 0 ++ [(0x2205, 1), (0x2205, 2), (0x2205, 3)]) fun t =>
      t.now = max s.now (s.clk.qualAt + 64000) ∧
      t.clk = { s.clk with qualAt := t.now, qualLate := s.clk.qualLate || t.late .aon s.boot.stepAt 20000000 } ∧
      t.z 0x2205 1 = count ∧ t.z 0x2205 2 = s.z 0x2205 2 + 1 ∧ Claims.QualReported s t := by
  have hpasses : (s.windowOver.windowPassed count).z 0x2205 2 = s.z 0x2205 2 + 1 := by
    rw [State.windowPassed_passes, State.windowOver_z s]
    omega
  have hexec : exec (.xoQualWindowEnd count) s = s.ends (s.windowOver.windowPassed count) := by
    show s.ends (s.qualWindow count) = _
    rw [State.qualWindow_eq hrun, State.qualCount_pass hlow hhigh, if_pos (by omega)]
  have hnow : (s.ended (s.windowOver.windowPassed count)).now = s.windowEnd.now := by
    rw [State.ended_now, State.windowPassed_now, State.windowOver_now]
  refine completes_of_frame hexec ((windowOver_frame s _ _).windowPassed count) ⟨?_, ?_, ?_, ?_, ?_⟩
  · rw [hnow, State.windowEnd_now]
  · rw [State.late_aon hnow, hnow, State.ended_clk, State.windowPassed_clk, State.windowOver_clk]
  · rw [State.ended_z, State.windowPassed, State.z_put, if_neg (by decide), State.z_put, if_pos rfl]
    omega
  · rw [State.ended_z, hpasses]
  · refine qualReported_congr s.windowOver_reported (hnow.trans s.windowOver_now.symm) ?_ ?_
    · rw [State.ended_z, State.windowPassed_z _ _ (by decide) (by decide)]
    · rw [State.ended_z, State.windowPassed_z _ _ (by decide) (by decide)]

theorem State.startPlls_step (s : State) : s.startPlls.boot.step = 3 := rfl

theorem State.startPlls_qualRun (s : State) : s.startPlls.clk.qualRun = s.clk.qualRun := rfl

theorem State.startPlls_z (s : State) (i a : Nat) : s.startPlls.z i a = s.z i a := rfl

theorem State.qualStop_qualRun (s : State) : s.qualStop.clk.qualRun = false := rfl

theorem State.qualStop_z (s : State) (i a : Nat) : s.qualStop.z i a = s.z i a := rfl

theorem xoQualWindowEnd_qualifies {s : State} {count : Nat} (hrun : s.clk.qualRun = true) (hlow : 6272 ≤ count) (hhigh : count ≤ 6528)
    (henough : 3 ≤ s.z 0x2205 2) :
    Completes (.xoQualWindowEnd count) s [.clk, .now, .time, .boot, .latch]
      (clockObjects ++ causeObjects 0 ++ [(0x2205, 1), (0x2205, 2), (0x2205, 3)]) fun t =>
      t.boot.step = 3 ∧ t.clk.qualRun = false ∧ t.z 0x2205 3 = 2 ∧ (t.pll .rpll).started = true := by
  have hpasses : ¬ (s.windowOver.windowPassed count).z 0x2205 2 < 4 := by
    rw [State.windowPassed_passes, State.windowOver_z s]
    omega
  have hexec : exec (.xoQualWindowEnd count) s = s.ends (((s.windowOver.windowPassed count).put 0x2205 3 2).qualStop.startPlls) := by
    show s.ends (s.qualWindow count) = _
    rw [State.qualWindow_eq hrun, State.qualCount_pass hlow hhigh, if_neg hpasses]
  refine completes_of_frame hexec ?_ ⟨?_, ?_, ?_, ?_⟩
  · exact ((((windowOver_frame s _ _).windowPassed count).put 0x2205 3 2).qualStop).startPlls
  · rw [State.ended_boot, State.startPlls_step]
  · rw [State.ended_clk, State.startPlls_qualRun, State.qualStop_qualRun]
  · rw [State.ended_z, State.startPlls_z, State.qualStop_z, State.z_put, if_pos rfl]
  · rw [State.ended_pll, State.startPlls, State.pll_setPll, if_pos rfl]

theorem xoQualWindowEnd_fails {s : State} {count : Nat} (hrun : s.clk.qualRun = true) (hout : count < 6272 ∨ 6528 < count) :
    Completes (.xoQualWindowEnd count) s [.clk, .now, .time, .latch]
      (clockObjects ++ causeObjects 0 ++ [(0x2205, 1), (0x2205, 2), (0x2205, 3), (0xF030, 5)]) fun t =>
      t.z 0x2205 2 = 0 ∧ t.clk.qualRun = true ∧ t.z 0xF030 5 = min (s.z 0xF030 5 + 1) (2 ^ 32 - 1) ∧ Claims.QualReported s t := by
  have hexec : exec (.xoQualWindowEnd count) s = s.ends (s.windowOver.windowFailed count) := by
    show s.ends (s.qualWindow count) = _
    rw [State.qualWindow_eq hrun, State.qualCount_fail hout, if_pos (by rw [State.windowFailed_passes]; decide)]
  refine completes_of_frame hexec ((windowOver_frame s _ _).windowFailed count) ⟨?_, ?_, ?_, ?_⟩
  · rw [State.ended_z, State.windowFailed_passes]
  · rw [State.ended_clk, State.windowFailed_clk, State.windowOver_clk]
    exact hrun
  · rw [State.ended_z, State.windowFailed_fails, State.windowOver_z s]
  · refine qualReported_congr s.windowOver_reported ?_ ?_ ?_
    · rw [State.ended_now, State.windowFailed_now]
    · rw [State.ended_z, State.windowFailed_z _ _ (by decide) (by decide) (by decide)]
    · rw [State.ended_z, State.windowFailed_z _ _ (by decide) (by decide) (by decide)]

theorem xoQualTimeout_completes {s : State} (hrun : s.clk.qualRun = true) (hfirst : s.clk.qualLate = false) (hup : s.mgtUp = true) :
    Completes .xoQualTimeout s [.clk, .now, .time, .latch] (clockObjects ++ causeObjects 0 ++ [(0x2205, 3)]) fun t =>
      t.now = max s.now (s.boot.stepAt + 20000000) ∧ t.clk.qualRun = true ∧ t.z 0x2205 3 = 3 ∧ t.z 0x2101 0 = s.z 0x2101 0 ||| 4 := by
  have hexec : exec .xoQualTimeout s = s.ends (s.elapseTo (s.boot.stepAt + 20000000)).qualLate := by
    show s.ends s.qualTimeout = _
    simp only [State.qualTimeout, hrun, hfirst, Bool.not_true, Bool.or_self, Bool.false_eq_true, if_false]
  have hclk := s.elapseTo_clk (s.boot.stepAt + 20000000)
  have hlate : (s.elapseTo (s.boot.stepAt + 20000000)).clk.qualLate = false := (congrArg Clocks.qualLate hclk).trans hfirst
  refine completes_of_frame hexec ((Frame.refl s).elapseTo _).qualLate ⟨?_, ?_, ?_, ?_⟩
  · rw [State.ended_now, State.qualLate_now, State.elapseTo_now]
  · rw [State.ended_clk, State.qualLate_clk, hclk]
    exact hrun
  · rw [State.ended_z, State.qualLate_state hlate]
  · rw [State.ended_z, State.qualLate_cause hlate ((s.elapseTo_mgtUp _).trans hup), State.elapseTo_z s _ (by decide)]

theorem xoQualifiesAfterFourPasses : Claims.XoQualifiesAfterFourPasses := fun _ hrun =>
  ⟨fun _ hlow hhigh hfew => xoQualWindowEnd_passes hrun hlow hhigh hfew, fun _ hlow hhigh h => xoQualWindowEnd_qualifies hrun hlow hhigh h,
    fun _ hout => xoQualWindowEnd_fails hrun hout, fun hfirst hup => xoQualTimeout_completes hrun hfirst hup⟩

end Sys2Proof.Machine
end

section
/-! PROOF. The locking of the PLLs and its loss (R114, R148, R167). -/
namespace Sys2Proof.Machine

/-! ### A PLL that locks late at step 3 -/

/-- Boot step 3 starts again: the PLLs behind RPLL stop, and RPLL starts (R167). -/
def State.pllsAgain (s : State) : State := (((s.setPll .spll {}).setPll .ppll {}).setPll .cpll {}).startPlls

theorem State.pllsAgain_pll (s : State) (p : Pll) : s.pllsAgain.pll p =
    if p = .rpll then { started := true } else if p = .cpll then {} else if p = .ppll then {} else if p = .spll then {} else s.pll p := by
  have hstart : ∀ u : State, u.startPlls.pll p = if p = .rpll then { started := true } else u.pll p := fun u => State.pll_setPll ..
  rw [State.pllsAgain, hstart, State.pll_setPll, State.pll_setPll, State.pll_setPll]

theorem State.pllsAgain_z (s : State) (i a : Nat) : s.pllsAgain.z i a = s.z i a := rfl

theorem State.pllsAgain_now (s : State) : s.pllsAgain.now = s.now := rfl

theorem State.pllsAgain_step (s : State) : s.pllsAgain.boot.step = 3 := rfl

theorem State.pllsAgain_stepAt (s : State) : s.pllsAgain.boot.stepAt = s.pllsAgain.now := rfl

theorem Frame.pllsAgain {parts : List Part} {objs : List (Nat × Nat)} {s u : State} (h : Frame parts objs s u) (hclk : .clk ∈ parts := by decide)
    (hboot : .boot ∈ parts := by decide) : Frame parts objs s u.pllsAgain :=
  (((h.setPll .spll {} hclk).setPll .ppll {} hclk).setPll .cpll {} hclk).startPlls hclk hboot

theorem bootPllLockTimeout_completes {s : State} (hstep : s.boot.step = 3) (hup : s.mgtUp = true) :
    Completes .bootPllLockTimeout s [.clk, .now, .time, .boot, .latch] (clockObjects ++ causeObjects 0) fun t =>
      t.now = max s.now (s.boot.stepAt + 1000000) ∧ t.boot.step = 3 ∧ t.boot.stepAt = t.now ∧ t.z 0x2101 0 = s.z 0x2101 0 ||| 2 ∧
      t.pll .rpll = { started := true } ∧ t.pll .spll = {} ∧ t.pll .ppll = {} ∧ t.pll .cpll = {} := by
  have hexec : exec .bootPllLockTimeout s = s.ends ((s.elapseTo (s.boot.stepAt + 1000000)).setCause 0 1).pllsAgain := by
    show s.ends s.bootLockLate = _
    simp only [State.bootLockLate, hstep, ne_eq, not_true_eq_false, if_false, State.pllsAgain]
  have hnow : ((s.elapseTo (s.boot.stepAt + 1000000)).setCause 0 1).now = max s.now (s.boot.stepAt + 1000000) :=
    (State.setWord_now ..).trans (State.elapseTo_now ..)
  refine completes_of_frame hexec ?_ ⟨?_, ?_, ?_, ?_, ?_, ?_, ?_, ?_⟩
  · exact (((Frame.refl s).elapseTo _).setCause 0 1).pllsAgain
  · rw [State.ended_now, State.pllsAgain_now, hnow]
  · rw [State.ended_boot, State.pllsAgain_step]
  · rw [State.ended_boot, State.ended_now, State.pllsAgain_stepAt]
  · rw [State.ended_z, State.pllsAgain_z, State.setCause_z_up (br := 0) 1 (by decide) rfl ((s.elapseTo_mgtUp _).trans hup),
      State.elapseTo_z s _ (by decide)]
    rfl
  · rw [State.ended_pll, State.pllsAgain_pll, if_pos rfl]
  · rw [State.ended_pll, State.pllsAgain_pll]; rfl
  · rw [State.ended_pll, State.pllsAgain_pll]; rfl
  · rw [State.ended_pll, State.pllsAgain_pll]; rfl

/-! ### A PLL that loses lock -/

/-- What a loss of lock notes before the conditions that look at the PLL follow (R148). -/
def State.lockLossNoted (s : State) (p : Pll) : State := ((s.setPll p { s.pll p with locked := false }).setCause 0 1).bump 0xF030 3 1

theorem State.pllLoss_eq {s : State} {p : Pll} (h : (s.pll p).locked = true) : s.pllLoss p = (s.lockLossNoted p).syncTrace.syncProbe := by
  simp only [State.pllLoss, h, Bool.not_true, Bool.false_eq_true, if_false, State.lockLossNoted]

@[simp] theorem State.syncElig_roots (s : State) : s.syncElig.roots = s.roots := State.roots_congr (by simp) (by simp) (by simp)

/-- What follows a loss of lock for a port and for a Second moves no root and no lock. -/
theorem State.pllUnlocked_roots {s : State} {p : Pll} (h : (s.pll p).locked = true) :
    (s.pllUnlocked p).roots = (s.setPll p { s.pll p with locked := false }).roots := by
  have hloss : (s.pllLoss p).roots = (s.setPll p { s.pll p with locked := false }).roots := by
    rw [State.pllLoss_eq h, State.syncProbe_roots, State.syncTrace_roots, State.lockLossNoted, State.bump_roots, State.setCause_roots]
  rw [← hloss]
  cases p with
  | port q =>
    unfold State.pllUnlocked
    dsimp only
    exact State.ite_roots (State.failAttempt_roots ..) (State.ite_roots (State.portLeave_roots ..) rfl)
  | rpll => exact State.syncElig_roots _
  | _ => rfl

theorem pllLossOfLock_unlocked {s : State} {p : Pll} (h : (s.pll p).locked = true) :
    ∃ t, exec (.pllLossOfLock p) s = .next t ∧ (t.pll p).locked = false ∧ ∀ d, t.dom d = s.dom d := by
  have hroots := (State.settle_roots _).trans (State.pllUnlocked_roots h)
  refine ⟨s.ended (s.pllUnlocked p).settle, rfl, ?_, fun d => ?_⟩
  · rw [State.ended_pll, State.locked_of_roots hroots, State.pll_setPll, if_pos rfl]
  · rw [State.ended_dom, State.dom_of_roots hroots]; rfl

section
variable {parts : List Part} {objs : List (Nat × Nat)} {s u : State}

theorem Frame.lockLossNoted (h : Frame parts objs s u) (p : Pll) (hclk : .clk ∈ parts := by decide) (hlatch : .latch ∈ parts := by decide)
    (ho : ∀ x ∈ causeObjects 0, x ∈ objs := by decide) (hcount : (0xF030, 3) ∈ objs := by decide) :
    Frame parts objs s (u.lockLossNoted p) := ((h.setPll p _ hclk).setCause 0 1 hlatch ho).bump 0xF030 3 1 hcount

theorem Frame.setProbe (h : Frame parts objs s u) (x : Probe) (hm : .probe ∈ parts := by decide) : Frame parts objs s { u with probe := x } := by
  refine ⟨fun p hp => ?_, h.val⟩
  cases p with
  | probe => exact absurd hm hp
  | _ => exact h.part _ hp

theorem Frame.syncTrace (h : Frame parts objs s u) (hm : .latch ∈ parts := by decide) (ho : ∀ x ∈ causeObjects 7, x ∈ objs := by decide) :
    Frame parts objs s u.syncTrace := by
  unfold State.syncTrace
  split
  · exact h.setCause 7 0 hm ho
  · exact h

theorem Frame.syncProbe (h : Frame parts objs s u) (hp : .probe ∈ parts := by decide) (hm : .latch ∈ parts := by decide)
    (ho : ∀ x ∈ causeObjects 13, x ∈ objs := by decide) : Frame parts objs s u.syncProbe := by
  have hfrom : Frame parts objs s u.probeBadFrom := by
    unfold State.probeBadFrom
    split
    · exact h
    · exact h.setProbe _ hp
  unfold State.syncProbe
  split
  · dsimp only
    split
    · exact hfrom
    · exact hfrom.setCause 13 8 hm ho
  · split
    · exact h.setProbe _ hp
    · exact h

end

/-- A loss of lock of a PLL of the device itself changes no more than this on a lone device. -/
theorem State.pllLoss_frame {s : State} {p : Pll} (h : (s.pll p).locked = true) :
    Frame [.clk, .latch, .probe] (causeObjects 0 ++ [(0xF030, 3)] ++ causeObjects 7 ++ causeObjects 13) s (s.pllLoss p) := by
  rw [State.pllLoss_eq h]
  exact (((Frame.refl s).lockLossNoted p).syncTrace).syncProbe

theorem State.pllUnlocked_alone {s : State} {p : Pll} (hp : p = .rpll ∨ p = .spll ∨ p = .ppll ∨ p = .cpll) (halone : Alone s)
    (h : (s.pll p).locked = true) : s.pllUnlocked p = s.pllLoss p := by
  have hpair : (s.pllLoss p).pair = s.pair := (State.pllLoss_frame h).part .pair (by decide)
  obtain ⟨-, hsecond, -⟩ := halone
  rcases hp with rfl | rfl | rfl | rfl
  · show (s.pllLoss .rpll).syncElig = _
    unfold State.syncElig
    rw [hpair, if_pos hsecond]
  · rfl
  · rfl
  · rfl

theorem pllLossOfLock_counted {s : State} {p : Pll} (hp : p = .rpll ∨ p = .spll ∨ p = .ppll ∨ p = .cpll) (halone : Alone s)
    (hup : s.mgtUp = true) (h : (s.pll p).locked = true) :
    ∃ t, exec (.pllLossOfLock p) s = .next t ∧ t.z 0x2101 0 = s.z 0x2101 0 ||| 2 ∧ t.z 0xF030 3 = min (s.z 0xF030 3 + 1) (2 ^ 32 - 1) := by
  have hrest : Frame [.latch, .probe] (causeObjects 7 ++ causeObjects 13) (s.lockLossNoted p) (s.pllLoss p) := by
    rw [State.pllLoss_eq h]
    exact ((Frame.refl _).syncTrace).syncProbe
  have hunlocked : (s.setPll p { s.pll p with locked := false }).mgtUp = true := (State.mgtUp_of_roots rfl rfl rfl).trans hup
  have hexec : exec (.pllLossOfLock p) s = s.ends (s.pllLoss p) := by
    show s.ends (s.pllUnlocked p).settle = _
    rw [State.pllUnlocked_alone hp halone h, (State.pllLoss_frame h).settle_eq halone (by decide) (by decide)]
  refine ⟨s.ended (s.pllLoss p), hexec, ?_, ?_⟩
  · rw [State.ended_z, hrest.z_eq, State.lockLossNoted, State.z_bump, if_neg (by decide)]
    exact State.setCause_z_up (br := 0) 1 (by decide) rfl hunlocked
  · rw [State.ended_z, hrest.z_eq, State.lockLossNoted, State.z_bump, if_pos rfl,
      State.setCause_z_ne _ _ (by decide) (by decide) (by decide) (by decide) rfl]
    rfl

/-! ### A PLL that locks -/

/-- The PLLs and the boot, which the limits of a forced switch leave alone. -/
def State.plls (s : State) : Map PllSt × Boot := (s.clk.pll, s.boot)

theorem State.pll_of_plls {s t : State} (h : t.plls = s.plls) (p : Pll) : t.pll p = s.pll p :=
  congrArg (fun m : Map PllSt × Boot => mgetD m.1 (pllNo p) {}) h

theorem State.step_of_plls {s t : State} (h : t.plls = s.plls) : t.boot.step = s.boot.step := congrArg (·.2.step) h

theorem State.setDom_plls (s : State) (d : Domain) (x : DomainSt) : (s.setDom d x).plls = s.plls := rfl

theorem State.setCause_plls (s : State) (br b : Nat) : (s.setCause br b).plls = s.plls :=
  congrArg₂ (fun (c : Clocks) (b : Boot) => (c.pll, b)) (State.setWord_clk ..) (State.setWord_boot ..)

theorem State.forcedLate_plls (s : State) (d : Domain) : (s.forcedLate d).plls = s.plls := by
  have helapsed : ∀ t, (s.elapseTo t).plls = s.plls := fun t => by simp only [State.plls, State.elapseTo_clk, State.elapseTo_boot]
  unfold State.forcedLate
  split
  · rfl
  · split
    · rfl
    · exact (State.setCause_plls ..).trans ((State.setDom_plls ..).trans (helapsed _))

theorem State.lockLimits_plls {s : State} {p : Pll} (hstep : s.boot.step ≠ 3) : (s.lockLimits p).plls = s.plls := by
  unfold State.lockLimits
  rw [if_neg fun h => hstep h.1]
  refine foldl_keeps State.plls _ (fun s d => ?_) _ s
  split
  · exact s.forcedLate_plls d
  · rfl

/-- Behind step 3, a PLL that is started locks, and leaves its holdover. -/
theorem State.pllLocked_pll {s : State} {p : Pll} (hstarted : (s.pll p).started = true) (hstep : s.boot.step ≠ 3) :
    ((s.pllLocked p).pll p).locked = true ∧ ((s.pllLocked p).pll p).holdover = false := by
  have hlimits : (s.lockLimits p).plls = s.plls := State.lockLimits_plls hstep
  have hpll := State.pll_of_plls hlimits p
  unfold State.pllLocked
  rw [hstarted, Bool.not_true, if_neg Bool.false_ne_true]
  extract_lets limits x locked waited _
  have hx : x = s.pll p := hpll
  change limits.plls = s.plls at hlimits
  clear_value limits
  rw [hx, hstarted, Bool.not_true, if_neg Bool.false_ne_true]
  have hwaited : waited.plls = locked.plls := foldl_keeps State.plls _ (fun s d => by dsimp only; split <;> rfl) _ locked
  have hlocked : locked.boot.step = limits.boot.step := rfl
  have hkept : waited.boot.step ≠ 3 := by
    rw [State.step_of_plls hwaited]
    exact (hlocked.trans (State.step_of_plls hlimits)).trans_ne hstep
  rw [if_pos hkept, State.pll_of_plls hwaited, State.pll_setPll, if_pos rfl]
  exact ⟨rfl, rfl⟩

@[simp] theorem State.probeBadFrom_clk (s : State) : s.probeBadFrom.clk = s.clk := by
  unfold State.probeBadFrom
  split <;> rfl

theorem State.pllRelock_clk (s : State) (p : Pll) : (s.pllRelock p).clk = (s.pllLocked p).clk := by
  have htrace : ∀ u : State, u.syncTrace.clk = u.clk := fun u => by
    unfold State.syncTrace
    split
    · exact State.setWord_clk ..
    · rfl
  have hprobe : ∀ u : State, u.syncProbe.clk = u.clk := fun u => by
    unfold State.syncProbe
    split
    · dsimp only
      split
      · exact u.probeBadFrom_clk
      · exact (State.setWord_clk ..).trans u.probeBadFrom_clk
    · split <;> rfl
  exact (hprobe _).trans (htrace _)

theorem State.pllLockedAgain_clk (s : State) (p : Pll) : (s.pllLockedAgain p).clk = (s.pllLocked p).clk := by
  have hsecond : ∀ u : State, u.secondLocked.clk = u.clk := fun u => by
    unfold State.secondLocked
    split
    · exact (State.pairFollow_clk _).trans rfl
    · rfl
  unfold State.pllLockedAgain
  rw [State.syncElig_clk, hsecond, State.pllRelock_clk]

theorem pllLock_locked {s : State} {p : Pll} (hstarted : (s.pll p).started = true) (hstep : s.boot.step ≠ 3) :
    ∃ t, exec (.pllLock p) s = .next t ∧ (t.pll p).locked = true ∧ (t.pll p).holdover = false := by
  have hpll : (s.ended (s.pllLockedAgain p)).pll p = (s.pllLocked p).pll p := by
    rw [State.ended_pll, State.pll, State.pllLockedAgain_clk]; rfl
  refine ⟨s.ended (s.pllLockedAgain p), rfl, ?_⟩
  rw [hpll]
  exact State.pllLocked_pll hstarted hstep

theorem pllRelock_locked {s : State} {p : Pll} (hstarted : (s.pll p).started = true) (hstep : s.boot.step ≠ 3) :
    ∃ t, exec (.pllRelock p) s = .next t ∧ (t.pll p).locked = true ∧ (t.pll p).holdover = false := by
  have hpll : (s.ended (s.pllLockedAgain p).settle).pll p = (s.pllLocked p).pll p := by
    rw [State.ended_pll, State.pll, State.settle_clk, State.pllLockedAgain_clk]; rfl
  refine ⟨s.ended (s.pllLockedAgain p).settle, rfl, ?_⟩
  rw [hpll]
  exact State.pllLocked_pll hstarted hstep

theorem pllLockAndLossOfLock : Claims.PllLockAndLossOfLock := fun _ =>
  ⟨bootPllLockTimeout_completes, fun _ => pllLossOfLock_unlocked, fun _ => pllLossOfLock_counted,
    fun _ hstarted hstep => ⟨pllLock_locked hstarted hstep, pllRelock_locked hstarted hstep⟩⟩

/-- Settles O10: each window is judged behind the limit that may have passed before it, and what follows a lock or its loss touches neither
the PLLs nor the roots. -/
theorem oscillatorQualifiesAndPllsLock : Obligations.OscillatorQualifiesAndPllsLock := ⟨xoQualifiesAfterFourPasses, pllLockAndLossOfLock⟩

end Sys2Proof.Machine
end

section
/-! PROOF. Warm resets (R153, R161). -/
namespace Sys2Proof.Machine

/-- A fold whose every step over an element of its list keeps a reading keeps it. -/
theorem foldl_keeps_of_mem {α β : Type} (g : State → β) (f : State → α → State) (l : List α) (h : ∀ s, ∀ a ∈ l, g (f s a) = g s) (s : State) :
    g (l.foldl f s) = g s := by
  induction l generalizing s with
  | nil => rfl
  | cons a l ih =>
    exact (ih (fun s b hb => h s b (List.mem_cons_of_mem a hb)) (f s a)).trans (h s a List.mem_cons_self)

/-! ### The load of the latch -/

theorem key_div_mod (k : Nat) : key (k / 256) (k % 256) = k := by unfold key; omega

theorem State.putCause_val (s : State) (idx sub n : Nat) {i a : Nat} (h : key i a ≠ key idx sub) : (s.putCause idx sub n).val i a = s.val i a := by
  rw [State.val_congr (State.putCause_obj ..), State.val_put, if_neg h]

/-- The bits of a kept cause whose parity is bad are set in its own object alone, and the fault is counted (R350). -/
theorem State.latchFault_val {s : State} {k i a : Nat} (hk : keptCause k = true) (hword : key i a ≠ k) (hcount : key i a ≠ key 0xF018 19) :
    (s.latchFault k).val i a = s.val i a := by
  have hown : k = key 0x2101 0 ∨ k = key 0x2102 0 ∨ k = key 0x2110 0 := by
    simpa [keptCause, or_assoc] using hk
  rcases hown with rfl | rfl | rfl
  · show ((s.putCause 0x2101 0 (causeBits 0)).bump 0xF018 19 1).val i a = _
    rw [State.val_bump _ _ _ _ _ _ hcount, State.putCause_val _ _ _ _ hword]
  · show ((s.putCause 0x2102 0 (causeBits 1)).bump 0xF018 19 1).val i a = _
    rw [State.val_bump _ _ _ _ _ _ hcount, State.putCause_val _ _ _ _ hword]
  · show ((s.putCause 0x2110 0 (causeBits 15)).bump 0xF018 19 1).val i a = _
    rw [State.val_bump _ _ _ _ _ _ hcount, State.putCause_val _ _ _ _ hword]

/-- A latch that holds kept causes alone is loaded into their objects alone (R341, R350). -/
theorem State.reloadLatch_val {s : State} {i a : Nat} (hlatch : ∀ e ∈ s.alerts.latch, keptCause e.1 = true)
    (hparity : ∀ k ∈ s.alerts.badParity, keptCause k = true) (hkept : keptCause (key i a) = false) (hcount : key i a ≠ key 0xF018 19)
    (halert : key i a ≠ key 0xF018 17) : s.reloadLatch.val i a = s.val i a := by
  have hne : ∀ k, keptCause k = true → key i a ≠ k := fun k hk heq => by rw [heq, hk] at hkept; exact absurd hkept (by decide)
  unfold State.reloadLatch
  extract_lets loaded bad
  have hloaded : loaded.val i a = s.val i a := by
    refine foldl_keeps_of_mem (fun s => s.val i a) _ _ (fun s e he => ?_) s
    rw [State.val_put, key_div_mod, if_neg (hne e.1 (hlatch e he))]
  have hsame : loaded.alerts.badParity = s.alerts.badParity :=
    foldl_keeps (fun s : State => s.alerts.badParity) _ (fun _ _ => by rfl) _ s
  rw [State.alertSync_val _ _ _ halert]
  refine (foldl_keeps_of_mem (fun s => s.val i a) State.latchFault bad (fun s k hk => ?_) _).trans hloaded
  exact State.latchFault_val (hparity k (hsame ▸ hk)) (hne k (hparity k (hsame ▸ hk))) hcount

/-! ### The reset -/

/-- Behind a reset that is no POR, the latch holds kept causes alone (Table 8.6). -/
theorem enterReset_warm_latch (s : State) :
    (∀ e ∈ (s.enterReset .warm).alerts.latch, keptCause e.1 = true) ∧ ∀ k ∈ (s.enterReset .warm).alerts.badParity, keptCause k = true :=
  ⟨fun _ he => (List.mem_filter.1 he).2, fun _ hk => (List.mem_filter.1 hk).2⟩

/-- The code of the reset stands through the start of the boot. -/
theorem State.startBoot_val {s : State} (step : Nat) {i a : Nat} (hlatch : ∀ e ∈ s.alerts.latch, keptCause e.1 = true)
    (hparity : ∀ k ∈ s.alerts.badParity, keptCause k = true) (hkept : keptCause (key i a) = false) (hcount : key i a ≠ key 0xF018 19)
    (halert : key i a ≠ key 0xF018 17) : (s.startBoot step).val i a = s.val i a :=
  State.reloadLatch_val (s := { s with boot := s.boot.begun step s.now }) hlatch hparity hkept hcount halert

/-- The start of the boot leaves every part of the state but the boot, the objects and the latch. -/
theorem State.startBoot_parts (s : State) (step : Nat) : (s.startBoot step).staged = s.staged ∧ (s.startBoot step).locked = s.locked ∧
    (s.startBoot step).ports = s.ports ∧ (s.startBoot step).coh = s.coh ∧ (s.startBoot step).sto = s.sto ∧
    (s.startBoot step).trig = s.trig ∧ (s.startBoot step).mem = s.mem ∧ (s.startBoot step).time = s.time := by
  obtain ⟨o, l, h⟩ := s.startBoot_eq step
  rw [h]
  simp

/-- What a warm reset leaves (Tables 4.1 and 4.2). -/
structure WarmlyReset (s t : State) : Prop where
  step : t.boot.step = 4
  code : t.val 0x2010 0 = .num 2
  now : t.now = s.now
  staged : t.staged = []
  locked : t.locked = false
  ports : t.ports = []
  coh : t.coh = {}
  sto : t.sto = {}
  trig : t.trig = {}
  cells : t.mem.cells = []
  due : t.boot.warmDue = false
  ptRun : t.time.ptRun = false
  tick : t.time.tick = 0

theorem startBoot_warmlyReset (s : State) : WarmlyReset s ((s.enterReset .warm).startBoot 4) := by
  obtain ⟨-, hcode, hstaged, hlocked, -, hports, hcoh, htime, -, htrig, hsto, -, hcells, -, hnow, -⟩ := s.enterReset_cleared .warm
  obtain ⟨hlatch, hparity⟩ := enterReset_warm_latch s
  obtain ⟨kstaged, klocked, kports, kcoh, ksto, ktrig, kmem, ktime⟩ := (s.enterReset .warm).startBoot_parts 4
  exact {
    step := congrArg Boot.step (State.startBoot_boot ..)
    code := (State.startBoot_val 4 hlatch hparity (by decide) (by decide) (by decide)).trans hcode
    now := (State.startBoot_now ..).trans hnow
    staged := kstaged.trans hstaged
    locked := klocked.trans hlocked
    ports := kports.trans hports
    coh := kcoh.trans hcoh
    sto := ksto.trans hsto
    trig := ktrig.trans htrig
    cells := (congrArg Memory.cells kmem).trans hcells
    due := congrArg Boot.warmDue (State.startBoot_boot ..)
    ptRun := (congrArg TimeBase.ptRun (ktime.trans htime))
    tick := (congrArg TimeBase.tick (ktime.trans htime)) }

/-- The tick counter starts as its domain leaves its reset, or not yet. -/
theorem WarmlyReset.tickStart {s u : State} (h : WarmlyReset s u) (run bridging : Bool) (lead : Nat) :
    WarmlyReset s { u with time := { u.time with tickRun := run, bridging := bridging, bridgeLead := lead } } := { h with }

theorem WarmlyReset.srvStart {s u : State} (h : WarmlyReset s u) : WarmlyReset s u.srvStart := by
  unfold State.srvStart
  split
  · exact h
  · exact { h with }

theorem softReset_warmlyReset (s : State) : WarmlyReset s (s.softReset .warm) := by
  have hbegun := startBoot_warmlyReset s
  unfold State.softReset
  extract_lets begun tick _ started
  change WarmlyReset s begun at hbegun
  clear_value begun
  have hstarted : WarmlyReset s started := hbegun.tickStart _ _ _
  split
  · exact hstarted
  · exact hstarted.srvStart

theorem WarmlyReset.ended {s u : State} (q : State) (h : WarmlyReset s u) : WarmlyReset s (q.ended u) where
  step := (congrArg Boot.step (State.ended_boot ..)).trans h.step
  code := (State.ended_val ..).trans h.code
  now := (State.ended_now ..).trans h.now
  staged := (State.ended_staged ..).trans h.staged
  locked := (State.ended_locked ..).trans h.locked
  ports := u.alertSync_ports.trans h.ports
  coh := u.alertSync_coh.trans h.coh
  sto := u.alertSync_sto.trans h.sto
  trig := u.alertSync_trig.trans h.trig
  cells := (congrArg Memory.cells (State.ended_mem ..)).trans h.cells
  due := (congrArg Boot.warmDue (State.ended_boot ..)).trans h.due
  ptRun := (congrArg TimeBase.ptRun u.alertSync_time).trans h.ptRun
  tick := (congrArg TimeBase.tick u.alertSync_time).trans h.tick

theorem warmReset_enters {s : State} (hdue : s.boot.warmDue = true) :
    ∃ t, exec .warmReset s = .next t ∧ WarmlyReset (s.elapse 1) t := by
  refine ⟨s.ended ((s.elapse 1).softReset .warm), ?_, (softReset_warmlyReset _).ended s⟩
  show s.ends s.warmReset = s.ends ((s.elapse 1).softReset .warm)
  unfold State.warmReset
  rw [if_pos hdue]

/-! ### The request -/

theorem warmResetRequest_completes {s : State} (w : Who) (halone : Alone s) (h : Accepted s w 0x2017 0 0x57525354) :
    Completes (.warmResetRequest w 0x57525354#32) s [.boot, .acc, .out] accessObjects fun t =>
      t.boot = { s.boot with warmDue := true } ∧ .answer w 0 [] ∈ t.out := by
  have hrow : findRow 0x2017 0 = some ⟨0x2017, 0x2017, 0, 0, .u32, .l, 0, 2, 0, .oneOf [1465013076], 0xffffffff, 4⟩ := rfl
  have heff : ∀ (u : State) (a : Acc), a.idx = 0x2017 → a.sub = 0 →
      u.liveEffect a (storedVal ⟨0x2017, 0x2017, 0, 0, .u32, .l, 0, 2, 0, .oneOf [1465013076], 0xffffffff, 4⟩ 0x2017 0 0x57525354) =
      { u.rewritten (key 0x2017 0) with boot := { (u.rewritten (key 0x2017 0)).boot with warmDue := true } } := by
    rintro u ⟨path, req, level, idx, sub⟩ rfl rfl
    rfl
  refine completes_of_accepted rfl hrow rfl (by decide) halone h (eff := fun u => { u with boot := { u.boot with warmDue := true } }) heff ?_
    ((Frame.accepted s w).setBoot _) ⟨?_, ?_⟩
  · have hup := State.up_of_accepted h
    rw [State.up, ← s.accepted_boot w] at hup
    exact hup
  · rw [State.ended_boot]
    exact congrArg (fun b : Boot => { b with warmDue := true }) (s.accepted_boot w)
  · rw [State.ended_out]
    exact List.mem_cons_self ..

theorem warmResetEntersStep4 : Claims.WarmResetEntersStep4 := by
  intro s
  refine ⟨fun w halone h => warmResetRequest_completes w halone h, fun hdue => ?_⟩
  obtain ⟨t, hexec, h⟩ := warmReset_enters hdue
  exact ⟨t, hexec, h.step, h.code, h.now.trans (s.elapse_now 1), h.staged, h.locked, h.ports, h.coh, h.sto, h.trig, h.cells, h.due, h.ptRun,
    h.tick⟩

end Sys2Proof.Machine
end

section
/-! PROOF. Image saves (R184-R186). -/
namespace Sys2Proof.Machine

/-! ### Slots and phases -/

theorem State.slot_congr {s t : State} (h : t.boot = s.boot) (n : Nat) : t.slot n = s.slot n := by
  unfold State.slot; rw [h]

theorem State.ended_slot (s u : State) (n : Nat) : (s.ended u).slot n = u.slot n := State.slot_congr (State.ended_boot ..) n

theorem State.setSlot_slot (s : State) (n : Nat) (o : Octets) : (s.setSlot n o).slot n = o := by
  unfold State.setSlot State.slot
  by_cases h : n = 1
  · simp only [h, if_true]
  · simp only [h, if_false]

theorem State.setSlot_out (s : State) (n : Nat) (o : Octets) : (s.setSlot n o).out = s.out := by
  unfold State.setSlot; split <;> rfl

theorem State.setSlot_z (s : State) (n : Nat) (o : Octets) (i a : Nat) : (s.setSlot n o).z i a = s.z i a := by
  unfold State.setSlot; split <;> rfl

theorem State.setSlot_mgtFast (s : State) (n : Nat) (o : Octets) : (s.setSlot n o).mgtFast = s.mgtFast := by
  unfold State.setSlot; split <;> rfl

theorem State.savePhaseTo_boot (s : State) (ph : Nat) (head : Bool) :
    (s.savePhaseTo ph head).boot = { s.boot with savePhase := ph, saveHeader := head } := rfl

theorem State.savePhaseTo_slot (s : State) (ph : Nat) (head : Bool) (n : Nat) : (s.savePhaseTo ph head).slot n = s.slot n := rfl

theorem State.savePhaseTo_out (s : State) (ph : Nat) (head : Bool) : (s.savePhaseTo ph head).out = s.out := rfl

theorem State.savePhaseTo_z (s : State) (ph : Nat) (head : Bool) : (s.savePhaseTo ph head).z 0x201C 2 = ph := by
  rw [State.savePhaseTo, State.z_put, if_pos rfl]

theorem State.answered_boot (s : State) (w : Who) : (s.answered w).boot = s.boot := rfl

theorem State.answered_z (s : State) (w : Who) {i a : Nat} (h : key i a ≠ key 0xF000 3) : (s.answered w).z i a = s.z i a :=
  (s.z_bump 0xF000 3 1 i a).trans (if_neg h)

theorem State.emit_out (s : State) (o : Output) : (s.emit o).out = o :: s.out := rfl

theorem State.emit_z (s : State) (o : Output) (i a : Nat) : (s.emit o).z i a = s.z i a := rfl

theorem State.flashRead_boot (s : State) (addr clk : Nat) : (s.flashRead addr clk).boot = s.boot := rfl

theorem State.flashRead_z (s : State) (addr clk i a : Nat) : (s.flashRead addr clk).z i a = s.z i a := rfl

section
variable {parts : List Part} {objs : List (Nat × Nat)} {s u : State}

theorem Frame.setSlot (h : Frame parts objs s u) (n : Nat) (o : Octets) (hm : .boot ∈ parts := by decide) : Frame parts objs s (u.setSlot n o) := by
  unfold State.setSlot
  split
  · exact h.setBoot _ hm
  · exact h.setBoot _ hm

theorem Frame.savePhaseTo (h : Frame parts objs s u) (ph : Nat) (head : Bool) (hm : .boot ∈ parts := by decide)
    (ho : (0x201C, 2) ∈ objs := by decide) : Frame parts objs s (u.savePhaseTo ph head) := (h.setBoot _ hm).put 0x201C 2 ph ho

theorem Frame.flashRead (h : Frame parts objs s u) (addr clk : Nat) (hm : .out ∈ parts := by decide) : Frame parts objs s (u.flashRead addr clk) :=
  h.emit _ hm

end

/-! ### The phases of a save -/

/-- The erase has completed: the record area is programmed (R184). -/
theorem saveFlashCommandDone_erased {s : State} (ok : Bool) (hphase : s.boot.savePhase = 2) :
    Completes (.saveFlashCommandDone ok) s [.boot, .out] [(0x201C, 2)] fun t =>
      t.boot.savePhase = 3 ∧ t.z 0x201C 2 = 3 ∧ t.slot s.boot.saveSlot = [] ∧
      t.out = .flash 1 (slotBase s.boot.saveSlot + 32) s.boot.saveBody :: s.out := by
  have hexec : exec (.saveFlashCommandDone ok) s = s.ends (((s.setSlot s.boot.saveSlot []).savePhaseTo 3 false).emit
      (.flash 1 (slotBase s.boot.saveSlot + 32) s.boot.saveBody)) := by
    show s.ends (s.saveNext ok) = _
    simp only [State.saveNext, hphase]
  refine completes_of_frame hexec ((((Frame.refl s).setSlot _ _).savePhaseTo _ _).emit _) ⟨?_, ?_, ?_, ?_⟩
  · rw [State.ended_boot, State.emit_boot, State.savePhaseTo_boot]
  · rw [State.ended_z, State.emit_z, State.savePhaseTo_z]
  · rw [State.ended_slot, State.slot_congr (State.emit_boot ..), State.savePhaseTo_slot, State.setSlot_slot]
  · rw [State.ended_out, State.emit_out, State.savePhaseTo_out, State.setSlot_out]

/-- The record area is programmed: it is read back (R184). -/
theorem saveFlashCommandDone_body {s : State} (ok : Bool) (hphase : s.boot.savePhase = 3) :
    Completes (.saveFlashCommandDone ok) s [.boot, .out] [(0x201C, 2)] fun t =>
      t.boot.savePhase = 5 ∧ t.boot.saveHeader = false ∧ t.z 0x201C 2 = 5 ∧ (t.slot s.boot.saveSlot).drop 32 = s.boot.saveBody := by
  have hexec : exec (.saveFlashCommandDone ok) s = s.ends
      (((s.setSlot s.boot.saveSlot (List.replicate 32 0xFF#8 ++ s.boot.saveBody)).savePhaseTo 5 false).flashRead
        (slotBase s.boot.saveSlot + 32) s.boot.bootRdclk) := by
    show s.ends (s.saveNext ok) = _
    simp only [State.saveNext, hphase]
  refine completes_of_frame hexec ((((Frame.refl s).setSlot _ _).savePhaseTo _ _).flashRead _ _) ⟨?_, ?_, ?_, ?_⟩
  · rw [State.ended_boot, State.flashRead_boot, State.savePhaseTo_boot]
  · rw [State.ended_boot, State.flashRead_boot, State.savePhaseTo_boot]
  · rw [State.ended_z, State.flashRead_z, State.savePhaseTo_z]
  · rw [State.ended_slot, State.slot_congr (State.flashRead_boot ..), State.savePhaseTo_slot, State.setSlot_slot]
    exact List.drop_left' List.length_replicate

/-- The record area reads back as written: the header is programmed (R184). -/
theorem saveFlashCommandDone_bodyRead {s : State} (hphase : s.boot.savePhase = 5) (hheader : s.boot.saveHeader = false) :
    Completes (.saveFlashCommandDone true) s [.boot, .out] [(0x201C, 2)] fun t => t.boot.savePhase = 4 ∧ t.z 0x201C 2 = 4 := by
  have hexec : exec (.saveFlashCommandDone true) s = s.ends ((s.savePhaseTo 4 false).emit
      (.flash 1 (slotBase s.boot.saveSlot) s.saveHead)) := by
    show s.ends (s.saveNext true) = _
    simp only [State.saveNext, hphase, hheader, Bool.false_eq_true, if_false, if_true]
  refine completes_of_frame hexec (((Frame.refl s).savePhaseTo _ _).emit _) ⟨?_, ?_⟩
  · rw [State.ended_boot, State.emit_boot, State.savePhaseTo_boot]
  · rw [State.ended_z, State.emit_z, State.savePhaseTo_z]

/-- The header is programmed: it is read back (R184). -/
theorem saveFlashCommandDone_header {s : State} (ok : Bool) (hphase : s.boot.savePhase = 4) :
    Completes (.saveFlashCommandDone ok) s [.boot, .out] [(0x201C, 2)] fun t =>
      t.boot.savePhase = 5 ∧ t.boot.saveHeader = true ∧ t.slot s.boot.saveSlot = s.saveHead ++ s.boot.saveBody := by
  have hexec : exec (.saveFlashCommandDone ok) s = s.ends
      (((s.setSlot s.boot.saveSlot (s.saveHead ++ s.boot.saveBody)).savePhaseTo 5 true).flashRead (slotBase s.boot.saveSlot) 0) := by
    show s.ends (s.saveNext ok) = _
    simp only [State.saveNext, hphase]
  refine completes_of_frame hexec ((((Frame.refl s).setSlot _ _).savePhaseTo _ _).flashRead _ _) ⟨?_, ?_, ?_⟩
  · rw [State.ended_boot, State.flashRead_boot, State.savePhaseTo_boot]
  · rw [State.ended_boot, State.flashRead_boot, State.savePhaseTo_boot]
  · rw [State.ended_slot, State.slot_congr (State.flashRead_boot ..), State.savePhaseTo_slot, State.setSlot_slot]

/-- The header reads back as written: the target is the reference slot (R184). -/
theorem saveFlashCommandDone_headerRead {s : State} (hphase : s.boot.savePhase = 5) (hheader : s.boot.saveHeader = true)
    (hslot : s.boot.saveSlot ≤ 2) :
    Completes (.saveFlashCommandDone true) s [.boot] [(0x201C, 2), (0x2019, s.boot.saveSlot), (0x201A, s.boot.saveSlot)] fun t =>
      t.boot.savePhase = 0 ∧ t.boot.refSlot = s.boot.saveSlot ∧ t.z 0x201C 2 = 6 ∧ t.z 0x201A s.boot.saveSlot = s.boot.saveSeq := by
  have hexec : exec (.saveFlashCommandDone true) s = s.ends s.saveDone := by
    show s.ends (s.saveNext true) = _
    simp only [State.saveNext, hphase, hheader, if_true]
  have hframe : Frame [.boot] [(0x201C, 2), (0x2019, s.boot.saveSlot), (0x201A, s.boot.saveSlot)] s s.saveDone :=
    ((((Frame.refl s).setBoot _).put 0x201C 2 6 (by simp)).put 0x2019 _ _ (by simp) (by omega)).put 0x201A _ _ (by simp) (by omega)
  refine completes_of_frame hexec hframe ⟨?_, ?_, ?_, ?_⟩
  · rw [State.ended_boot]; rfl
  · rw [State.ended_boot]; rfl
  · rw [State.ended_z, State.saveDone, State.z_put, if_neg (by unfold key; omega), State.z_put, if_neg (by unfold key; omega), State.z_put,
      if_pos rfl]
  · rw [State.ended_z _ _ (by unfold key; omega), State.saveDone, State.z_put, if_pos rfl]

/-! ### A read-back that differs -/

/-- What a save that fails for another cause than its length leaves before BOOT cause SAVE is set (R186). -/
def State.saveOver (s : State) (why : Nat) : State :=
  ({ s with boot := { s.boot with savePhase := 0, saveBody := [] } }.put 0x201C 2 7).put 0x201C 3 why

theorem State.saveFailed_eq {s : State} {why : Nat} (h : why ≠ 1) : s.saveFailed why = (s.saveOver why).setCause 2 8 := by
  unfold State.saveFailed
  rw [if_neg h]
  rfl

theorem State.saveOver_mgtFast (s : State) (why : Nat) : (s.saveOver why).mgtFast = s.mgtFast := rfl

theorem State.saveOver_boot (s : State) (why : Nat) : (s.saveOver why).boot = { s.boot with savePhase := 0, saveBody := [] } := rfl

theorem State.saveOver_z (s : State) (why : Nat) {i a : Nat} (h2 : key i a ≠ key 0x201C 2) (h3 : key i a ≠ key 0x201C 3) :
    (s.saveOver why).z i a = s.z i a := by
  rw [State.saveOver, State.z_put, if_neg h3, State.z_put, if_neg h2]; rfl

theorem State.saveOver_state (s : State) (why : Nat) : (s.saveOver why).z 0x201C 2 = 7 := by
  rw [State.saveOver, State.z_put, if_neg (by decide), State.z_put, if_pos rfl]

theorem State.saveOver_why (s : State) (why : Nat) : (s.saveOver why).z 0x201C 3 = why := by
  rw [State.saveOver, State.z_put, if_pos rfl]

theorem Frame.saveFailed {parts : List Part} {objs : List (Nat × Nat)} {s u : State} (h : Frame parts objs s u) {why : Nat} (hwhy : why ≠ 1)
    (hboot : .boot ∈ parts := by decide) (hlatch : .latch ∈ parts := by decide) (ho : ∀ x ∈ causeObjects 2, x ∈ objs := by decide)
    (hstate : (0x201C, 2) ∈ objs := by decide) (hcause : (0x201C, 3) ∈ objs := by decide) : Frame parts objs s (u.saveFailed why) := by
  rw [State.saveFailed_eq hwhy]
  exact (((h.setBoot _ hboot).put 0x201C 2 7 hstate).put 0x201C 3 why hcause).setCause 2 8 hlatch ho

/-- What a save that fails leaves: FAILED with its cause, and BOOT cause SAVE (R186). -/
theorem State.saveFailed_read {s : State} {why : Nat} (hwhy : why ≠ 1) (hfast : s.mgtFast = true) :
    (s.saveFailed why).boot.savePhase = 0 ∧ (s.saveFailed why).z 0x201C 2 = 7 ∧ (s.saveFailed why).z 0x201C 3 = why ∧
      (s.saveFailed why).z 0x2103 0 = s.z 0x2103 0 ||| 256 := by
  rw [State.saveFailed_eq hwhy]
  refine ⟨?_, ?_, ?_, ?_⟩
  · exact congrArg Boot.savePhase ((State.setWord_boot ..).trans (s.saveOver_boot why))
  · rw [State.setCause_z_ne _ _ (by decide) (by decide) (by decide) (by decide) rfl, State.saveOver_state]
  · rw [State.setCause_z_ne _ _ (by decide) (by decide) (by decide) (by decide) rfl, State.saveOver_why]
  · have hset := State.setCause_z (s := s.saveOver why) (br := 2) 8 (by decide) ((s.saveOver_mgtFast why).trans hfast)
    rw [State.saveOver_z _ _ (by decide) (by decide)] at hset
    exact hset

theorem completes_of_saveFailed {c : Instr} {s u : State} {parts : List Part} (hc : exec c s = s.ends (u.saveFailed 2))
    (hframe : Frame parts (causeObjects 2 ++ [(0x201C, 2), (0x201C, 3)]) s (u.saveFailed 2)) (hfast : u.mgtFast = true)
    (hz : u.z 0x2103 0 = s.z 0x2103 0) :
    Completes c s parts (causeObjects 2 ++ [(0x201C, 2), (0x201C, 3)]) fun t =>
      t.boot.savePhase = 0 ∧ t.z 0x201C 2 = 7 ∧ t.z 0x201C 3 = 2 ∧ t.z 0x2103 0 = s.z 0x2103 0 ||| 256 := by
  obtain ⟨hphase, hstate, hwhy, hcause⟩ := State.saveFailed_read (why := 2) (by decide) hfast
  refine completes_of_frame hc hframe ⟨?_, ?_, ?_, ?_⟩
  · rw [State.ended_boot, hphase]
  · rw [State.ended_z, hstate]
  · rw [State.ended_z, hwhy]
  · rw [State.ended_z, hcause, hz]

theorem saveFlashCommandDone_bodyDiffers {s : State} (hphase : s.boot.savePhase = 5) (hheader : s.boot.saveHeader = false)
    (hfast : s.mgtFast = true) :
    Completes (.saveFlashCommandDone false) s [.boot, .latch] (causeObjects 2 ++ [(0x201C, 2), (0x201C, 3)]) fun t =>
      t.boot.savePhase = 0 ∧ t.z 0x201C 2 = 7 ∧ t.z 0x201C 3 = 2 ∧ t.z 0x2103 0 = s.z 0x2103 0 ||| 256 := by
  have hexec : exec (.saveFlashCommandDone false) s = s.ends (s.saveFailed 2) := by
    show s.ends (s.saveNext false) = _
    simp only [State.saveNext, hphase, hheader, Bool.false_eq_true, if_false]
  exact completes_of_saveFailed hexec ((Frame.refl s).saveFailed (by decide)) hfast rfl

/-- The slot whose header does not read back takes a CRC that is wrong. -/
theorem State.spoilHeader_eq (s : State) : ∃ o, s.spoilHeader = s.drawn.setSlot s.boot.saveSlot o := ⟨_, rfl⟩

theorem saveFlashCommandDone_headerDiffers {s : State} (hphase : s.boot.savePhase = 5) (hheader : s.boot.saveHeader = true)
    (hfast : s.mgtFast = true) :
    Completes (.saveFlashCommandDone false) s [.boot, .free, .latch] (causeObjects 2 ++ [(0x201C, 2), (0x201C, 3)]) fun t =>
      t.boot.savePhase = 0 ∧ t.z 0x201C 2 = 7 ∧ t.z 0x201C 3 = 2 ∧ t.z 0x2103 0 = s.z 0x2103 0 ||| 256 := by
  obtain ⟨o, hspoil⟩ := s.spoilHeader_eq
  have hexec : exec (.saveFlashCommandDone false) s = s.ends ((s.drawn.setSlot s.boot.saveSlot o).saveFailed 2) := by
    show s.ends (s.saveNext false) = _
    simp only [State.saveNext, hphase, hheader, Bool.false_eq_true, if_false, if_true, hspoil]
  refine completes_of_saveFailed hexec ((((Frame.refl s).drawn).setSlot _ _).saveFailed (by decide)) ?_ ?_
  · exact (State.setSlot_mgtFast ..).trans hfast
  · exact State.setSlot_z ..

/-! ### The request -/

/-- A value that no entry is made of changes no entries. -/
theorem filterMap_mset {α β : Type} {f : Nat × α → Option β} {k : Nat} (h : ∀ v, f (k, v) = none) (m : Map α) (v : α) :
    (mset m k v).filterMap f = m.filterMap f := by
  induction m with
  | nil => simp [mset, h]
  | cons e m ih =>
    obtain ⟨j, w⟩ := e
    unfold mset
    split
    · simp [List.filterMap_cons, h]
    · split
      · next hkj => simp [h, ← hkj]
      · simp [List.filterMap_cons, ih]

/-- The committed entry that a stored value makes (R184). -/
def committedEntry (e : Nat × Val) : Option (Nat × Nat × Ty × Val) :=
  match findRow (e.1 / 256) (e.1 % 256) with
  | some r => if stagedClass r.cls && decide (e.2 ≠ defaultVal (e.1 / 256) (e.1 % 256)) && decide (e.1 / 256 ≠ 0x6001) then some (e.1 / 256, e.1 % 256, r.ty, e.2) else none
  | none => none

theorem State.committedEntries_eq (s : State) : s.committedEntries = s.obj.filterMap committedEntry := rfl

/-- A counter is no committed object. -/
theorem committedEntry_counter {k : Nat} (hk : k = key 0xF000 1 ∨ k = key 0xF098 3) (v : Val) : committedEntry (k, v) = none := by
  have hclass : ∀ r, findRow (k / 256) (k % 256) = some r → stagedClass r.cls = false := by
    rcases hk with rfl | rfl
    · decide +kernel
    · decide +kernel
  unfold committedEntry
  split
  · next r hr => rw [hclass r hr]; rfl
  · rfl

theorem State.bump_committedEntries {s : State} {i a : Nat} (h : key i a = key 0xF000 1 ∨ key i a = key 0xF098 3) (n : Nat) :
    (s.bump i a n).committedEntries = s.committedEntries :=
  filterMap_mset (f := committedEntry) (fun v => committedEntry_counter h v) s.obj _

theorem State.accepted_committedRecords (s : State) (w : Who) : (s.accepted w).committedRecords = s.committedRecords := by
  have hidle : (s.closeIdle (pathNo w.path)).committedEntries = s.committedEntries := by
    unfold State.closeIdle
    split
    · split
      · exact State.bump_committedEntries (.inr rfl) 1
      · rfl
    · rfl
  refine congrArg (List.map _) ?_
  exact (State.bump_committedEntries (.inl rfl) 1).trans hidle

/-- The target of a save: the slot that is not the reference (R184). -/
def Boot.saveTarget (b : Boot) : Nat := if b.refSlot = 1 then 2 else 1

/-- A save that is not too long starts with the erase of its target (R184). -/
theorem State.startSave_read {s : State} (hlen : s.committedRecords.flatten.length ≤ 65504) :
    s.startSave.boot.savePhase = 2 ∧ s.startSave.z 0x201C 2 = 2 ∧ s.startSave.z 0x201C 3 = 0 ∧ s.startSave.boot.saveSlot = s.boot.saveTarget ∧
      s.startSave.z 0x201C 4 = s.boot.saveTarget ∧ s.startSave.boot.step = s.boot.step := by
  unfold State.startSave
  extract_lets body r target seq _ taken asked _
  rw [if_neg (Nat.not_lt.2 hlen)]
  refine ⟨rfl, ?_, ?_, rfl, ?_, rfl⟩
  · rw [State.eraseTarget, State.emit_z, State.z_put, if_pos rfl]
  · rw [State.eraseTarget, State.emit_z, State.z_put, if_neg (by decide)]
    exact (State.z_put ..).trans (if_pos rfl)
  · rw [State.eraseTarget, State.emit_z, State.z_put, if_neg (by decide)]
    exact (State.z_put ..).trans ((if_neg (by decide)).trans ((State.z_put ..).trans (if_pos rfl)))

theorem Frame.startSave {parts : List Part} {objs : List (Nat × Nat)} {s u : State} (h : Frame parts objs s u)
    (hlen : u.committedRecords.flatten.length ≤ 65504) (hboot : .boot ∈ parts := by decide) (hout : .out ∈ parts := by decide)
    (hstate : (0x201C, 2) ∈ objs := by decide) (hcause : (0x201C, 3) ∈ objs := by decide) (hslot : (0x201C, 4) ∈ objs := by decide) :
    Frame parts objs s u.startSave := by
  unfold State.startSave
  extract_lets body r target seq _ taken asked _
  have hasked : Frame parts objs s asked := ((h.setBoot _ hboot).put 0x201C 4 target hslot).put 0x201C 3 0 hcause
  rw [if_neg (Nat.not_lt.2 hlen)]
  exact ((hasked.setBoot _ hboot).put 0x201C 2 2 hstate).emit _ hout

theorem saveRequest_starts {s : State} (w : Who) (halone : Alone s) (h : Accepted s w 0x201C 1 1)
    (hlen : s.committedRecords.flatten.length ≤ 65504) :
    ∃ t, exec (.saveRequest w 1) s = .next t ∧ t.boot.savePhase = 2 ∧ t.z 0x201C 2 = 2 ∧ t.z 0x201C 3 = 0 ∧
      t.boot.saveSlot = (if s.boot.refSlot = 1 then 2 else 1) ∧ t.z 0x201C 4 = t.boot.saveSlot := by
  have hrow : findRow 0x201C 1 = some ⟨0x201C, 0x201C, 1, 1, .bool, .l, 0, 2, 0, .any, 0xff, 1⟩ := rfl
  have heff : ∀ (u : State) (a : Acc), a.idx = 0x201C → a.sub = 1 →
      u.liveEffect a (storedVal ⟨0x201C, 0x201C, 1, 1, .bool, .l, 0, 2, 0, .any, 0xff, 1⟩ 0x201C 1 1) =
      (u.rewritten (key 0x201C 1)).startSave := by
    rintro u ⟨path, req, level, idx, sub⟩ rfl rfl
    rfl
  have hlen' : (s.accepted w).committedRecords.flatten.length ≤ 65504 := by rwa [s.accepted_committedRecords w]
  obtain ⟨hphase, hstate, hwhy, hslot, htarget, hstep⟩ := State.startSave_read hlen'
  rw [State.accepted_boot] at hslot htarget hstep
  have hcompletes : Completes (.saveRequest w 1) s [.boot, .acc, .out] (accessObjects ++ [(0x201C, 2), (0x201C, 3), (0x201C, 4)]) fun t =>
      t.boot.savePhase = 2 ∧ t.z 0x201C 2 = 2 ∧ t.z 0x201C 3 = 0 ∧ t.boot.saveSlot = s.boot.saveTarget ∧ t.z 0x201C 4 = t.boot.saveSlot := by
    refine completes_of_accepted rfl hrow rfl (by decide) halone h heff ?_ ((Frame.accepted s w).startSave hlen') ⟨?_, ?_, ?_, ?_, ?_⟩
    · have hup := State.up_of_accepted h
      unfold State.up at hup ⊢
      rwa [hstep]
    · rw [State.ended_boot, State.answered_boot, hphase]
    · rw [State.ended_z, State.answered_z _ _ (by decide), hstate]
    · rw [State.ended_z, State.answered_z _ _ (by decide), hwhy]
    · rw [State.ended_boot, State.answered_boot, hslot]
    · rw [State.ended_z, State.answered_z _ _ (by decide), htarget, State.ended_boot, State.answered_boot, hslot]
  obtain ⟨t, hexec, -, -, hread⟩ := hcompletes
  exact ⟨t, hexec, hread⟩

theorem imageSaveGoesThroughItsPhases : Claims.ImageSaveGoesThroughItsPhases := fun _ =>
  ⟨fun w halone h hlen => saveRequest_starts w halone h hlen, fun ok hphase => saveFlashCommandDone_erased ok hphase,
    fun ok hphase => saveFlashCommandDone_body ok hphase, saveFlashCommandDone_bodyRead, fun ok hphase => saveFlashCommandDone_header ok hphase,
    saveFlashCommandDone_headerRead, saveFlashCommandDone_bodyDiffers, saveFlashCommandDone_headerDiffers⟩

/-- Settles O16: behind the reset the latch holds nothing that its load could put over the reset's code, and each phase of a save is read off
its updates. -/
theorem warmResetAndImageSave : Obligations.WarmResetAndImageSave := ⟨warmResetEntersStep4, imageSaveGoesThroughItsPhases⟩

end Sys2Proof.Machine
end

section
/-! PROOF. Boot steps 1, 4, 5 and 6 (R111, R162, R165, R166, R696, R786). -/
namespace Sys2Proof.Machine

/-! ### Step 1 -/

theorem State.startQual_now (s : State) : s.startQual.now = s.now := rfl

theorem State.startQual_boot (s : State) : s.startQual.boot = { s.boot with step := 2, stepAt := s.now } := rfl

theorem State.startQual_qualRun (s : State) : s.startQual.clk.qualRun = true := rfl

theorem State.startQual_qualAt (s : State) : s.startQual.clk.qualAt = s.now := rfl

theorem State.startQual_passes (s : State) : s.startQual.z 0x2205 2 = 0 := by
  unfold State.startQual
  rw [State.z_put, if_neg (by decide), State.z_put, if_pos rfl]

theorem State.startQual_state (s : State) : s.startQual.z 0x2205 3 = 1 := by
  unfold State.startQual
  rw [State.z_put, if_pos rfl]

theorem Frame.startQual {parts : List Part} {objs : List (Nat × Nat)} {s u : State} (h : Frame parts objs s u) (hboot : .boot ∈ parts := by decide)
    (hclk : .clk ∈ parts := by decide) (h1 : (0x2205, 1) ∈ objs := by decide) (h2 : (0x2205, 2) ∈ objs := by decide)
    (h3 : (0x2205, 3) ∈ objs := by decide) : Frame parts objs s u.startQual :=
  ((((h.setBoot { u.boot with step := 2, stepAt := u.now } hboot).setClk { u.clk with qualRun := true, qualAt := u.now, qualLate := false } hclk
    ).put 0x2205 1 0 h1).put 0x2205 2 0 h2).put 0x2205 3 1 h3

theorem aonStart_completes {s : State} (hstep : s.boot.step = 1) :
    Completes .aonStart s [.boot, .clk, .now, .time] (clockObjects ++ [(0x2205, 1), (0x2205, 2), (0x2205, 3)]) fun t =>
      t.now = max s.now (s.boot.stepAt + 4000) ∧ t.boot = { s.boot with step := 2, stepAt := t.now } ∧ t.clk.qualRun = true ∧
      t.clk.qualAt = t.now ∧ t.z 0x2205 2 = 0 ∧ t.z 0x2205 3 = 1 := by
  have hexec : exec .aonStart s = s.ends (s.elapseTo (s.boot.stepAt + 4000)).startQual := by
    show s.ends s.aonStart = _
    unfold State.aonStart
    rw [if_neg (not_not_intro hstep)]
  have hnow : (s.ended (s.elapseTo (s.boot.stepAt + 4000)).startQual).now = (s.elapseTo (s.boot.stepAt + 4000)).now := by
    rw [State.ended_now, State.startQual_now]
  refine completes_of_frame hexec ((Frame.refl s).elapseTo _).startQual ⟨?_, ?_, ?_, ?_, ?_, ?_⟩
  · rw [hnow, State.elapseTo_now]
  · rw [hnow, State.ended_boot, State.startQual_boot, State.elapseTo_boot]
  · rw [State.ended_clk, State.startQual_qualRun]
  · rw [hnow, State.ended_clk, State.startQual_qualAt]
  · rw [State.ended_z, State.startQual_passes]
  · rw [State.ended_z, State.startQual_state]

/-! ### Step 4 -/

/-- A fuse load whose check holds: the fuses are read, the spares mapped and the repairs of the banks gone (R166, R679). -/
def State.fusesLoaded (s : State) (k3 : Bool) : State :=
  { s.readFuses k3 with
    boot := { s.boot with fuseFails := 0 }
    mem := { s.mem with fused := true, bank := s.mem.bank.map fun e : Nat × BankSt => (e.1, e.2.noRepairs) } }

/-- A fused pair identity stands in 8000h:1 (R793). -/
def State.pairIdLoaded (s : State) : State := if s.sec.pairValid then s.put 0x8000 1 s.sec.pairId else s

theorem State.fuseLoad_good {s : State} (hstep : s.boot.step = 4) (hhalted : s.boot.halted = false) (k3 : Bool) :
    s.fuseLoad true k3 = (s.fusesLoaded k3).pairIdLoaded.toStep 5 := by
  unfold State.fuseLoad
  rw [if_neg (by simp [hstep, hhalted]), if_pos rfl]
  rfl

theorem State.pairIdLoaded_touches (s : State) : ∃ o, s.pairIdLoaded = { s with obj := o } := by
  unfold State.pairIdLoaded
  split
  · exact ⟨_, rfl⟩
  · exact ⟨_, rfl⟩

theorem fuseLoad_completes {s : State} (hstep : s.boot.step = 4) (hhalted : s.boot.halted = false) (k3 : Bool) :
    Completes (.fuseLoad true k3) s [.boot, .sec, .mem] [(0x8000, 1)] fun t =>
      t.boot = { s.boot with step := 5, stepAt := s.now, fuseFails := 0 } ∧
      t.mem = { s.mem with fused := true, bank := s.mem.bank.map fun e : Nat × BankSt => (e.1, e.2.noRepairs) } ∧
      t.sec.lcs = fusedState s.sec.fuses ∧ t.sec.k3Ok = k3 := by
  have hexec : exec (.fuseLoad true k3) s = s.ends ((s.fusesLoaded k3).pairIdLoaded.toStep 5) := by
    show s.ends (s.fuseLoad true k3) = _
    rw [State.fuseLoad_good hstep hhalted]
  have hloaded : Frame [.boot, .sec, .mem] [(0x8000, 1)] s (s.fusesLoaded k3) :=
    (((Frame.refl s).setSec (s.readFuses k3).sec).setBoot { s.boot with fuseFails := 0 }).setMem
      { s.mem with fused := true, bank := s.mem.bank.map fun e : Nat × BankSt => (e.1, e.2.noRepairs) }
  have hpaired : Frame [.boot, .sec, .mem] [(0x8000, 1)] s (s.fusesLoaded k3).pairIdLoaded := by
    unfold State.pairIdLoaded
    split
    · exact hloaded.put 0x8000 1 _
    · exact hloaded
  obtain ⟨o, ho⟩ := (s.fusesLoaded k3).pairIdLoaded_touches
  refine completes_of_frame hexec (hpaired.setBoot _) ⟨?_, ?_, ?_, ?_⟩
  · rw [State.ended_boot, ho]; rfl
  · rw [State.ended_mem, ho]; rfl
  · rw [State.ended_sec, ho]; rfl
  · rw [State.ended_sec, ho]; rfl

/-- A fuse load whose check fails counts. -/
def State.fuseLoadFailed (s : State) : State := { s with boot := { s.boot with fuseFails := s.boot.fuseFails + 1 } }

/-- The third failed load halts the boot (R166). -/
def State.fuseHalted (s : State) : State := { s.fuseLoadFailed with boot := { s.fuseLoadFailed.boot with halted := true } }

theorem State.fuseLoad_bad {s : State} (hstep : s.boot.step = 4) (hhalted : s.boot.halted = false) (k3 : Bool) :
    s.fuseLoad false k3 = if s.boot.fuseFails + 1 < 3 then s.fuseLoadFailed else s.fuseHalted.setCause 2 0 := by
  unfold State.fuseLoad
  rw [if_neg (by simp [hstep, hhalted]), if_neg Bool.false_ne_true]
  rfl

theorem fuseLoad_fails {s : State} (hstep : s.boot.step = 4) (hhalted : s.boot.halted = false) (k3 : Bool) (hfew : s.boot.fuseFails < 2) :
    Completes (.fuseLoad false k3) s [.boot] [] fun t => t.boot = { s.boot with fuseFails := s.boot.fuseFails + 1 } := by
  have hexec : exec (.fuseLoad false k3) s = s.ends s.fuseLoadFailed := by
    show s.ends (s.fuseLoad false k3) = _
    rw [State.fuseLoad_bad hstep hhalted, if_pos (by omega)]
  refine completes_of_frame hexec ((Frame.refl s).setBoot _) ?_
  rw [State.ended_boot]; rfl

theorem fuseLoad_halts {s : State} (hstep : s.boot.step = 4) (hhalted : s.boot.halted = false) (k3 : Bool) (hmany : 2 ≤ s.boot.fuseFails)
    (hfast : s.mgtFast = true) : Completes (.fuseLoad false k3) s [.boot, .latch] (causeObjects 2) fun t =>
      t.boot.halted = true ∧ t.boot.step = 4 ∧ t.z 0x2103 0 = s.z 0x2103 0 ||| 1 := by
  have hexec : exec (.fuseLoad false k3) s = s.ends (s.fuseHalted.setCause 2 0) := by
    show s.ends (s.fuseLoad false k3) = _
    rw [State.fuseLoad_bad hstep hhalted, if_neg (by omega)]
  have hboot : (s.ended (s.fuseHalted.setCause 2 0)).boot = s.fuseHalted.boot := (State.ended_boot ..).trans (State.setWord_boot ..)
  refine completes_of_frame hexec (((Frame.refl s).setBoot _).setCause 2 0) ⟨?_, ?_, ?_⟩
  · rw [hboot]; rfl
  · rw [hboot]; exact hstep
  · rw [State.ended_z]
    exact State.setCause_z (s := s.fuseHalted) (br := 2) 0 (by decide) hfast

theorem firstStepsOfTheBoot : Claims.FirstStepsOfTheBoot := fun _ =>
  ⟨aonStart_completes, fun hstep hhalted => ⟨fuseLoad_completes hstep hhalted, fuseLoad_fails hstep hhalted, fuseLoad_halts hstep hhalted⟩⟩

/-! ### Step 5 -/

theorem State.repairColumn_roots (s : State) (b sub col : Nat) : (s.repairColumn b sub col).2.roots = s.roots := by
  unfold State.repairColumn
  dsimp only
  split
  · rfl
  · exact State.setCause_roots ..

theorem bistColumns_roots (b : Nat) (cols : List (Nat × Nat × Nat)) (x : Bool × State) :
    (cols.foldl (State.bistColumn b) x).2.roots = x.2.roots := by
  induction cols generalizing x with
  | nil => rfl
  | cons c cols ih => exact (ih _).trans ((State.repairColumn_roots ..).trans rfl)

theorem State.bistBank_roots (find : List BistFinding) (s : State) (b : Nat) : (State.bistBank find s b).roots = s.roots := by
  unfold State.bistBank
  extract_lets cols
  split
  next ok tested htested =>
    have hroots : tested.roots = s.roots := (congrArg (fun x : Bool × State => x.2.roots) htested).symm.trans (bistColumns_roots b cols (true, s))
    split
    · exact hroots
    · exact (State.setCause_roots ..).trans hroots

/-- The banks that step 5 tests or zeroes: BV only after POR (R165). -/
def State.bistBanks (s : State) : List Nat := if s.boot.afterPor then upto 49 else upto 48

/-- The banks behind their tests. -/
def State.bistDone (s : State) (find : List BistFinding) : State := s.bistBanks.foldl (State.bistBank find) s.zeroBanks

theorem State.bistAll_eq {s : State} (find : List BistFinding) (hstep : s.boot.step = 5) : ∃ n, s.bistAll find =
    ((s.bistDone find).put 0x2011 2 n).toStep 6 := by
  unfold State.bistAll
  rw [if_neg (not_not_intro hstep)]
  exact ⟨_, rfl⟩

theorem State.bistDone_now (s : State) (find : List BistFinding) : (s.bistDone find).now = s.now := by
  have hroots : (s.bistDone find).roots = s.zeroBanks.roots := foldl_keeps State.roots _ (State.bistBank_roots find) _ _
  exact (State.now_of_roots hroots).trans rfl

theorem State.toStep_boot (s : State) (n : Nat) : (s.toStep n).boot = { s.boot with step := n, stepAt := s.now } := rfl

theorem bankBist_ends {s : State} (find : List BistFinding) (hstep : s.boot.step = 5) :
    ∃ t, exec (.bankBist find) s = .next t ∧ t.boot.step = 6 ∧ t.boot.stepAt = s.now := by
  obtain ⟨n, hall⟩ := State.bistAll_eq find hstep
  have hboot : (s.ended (s.bistAll find)).boot = { (s.bistDone find).boot with step := 6, stepAt := (s.bistDone find).now } := by
    rw [State.ended_boot, hall, State.toStep_boot]; rfl
  refine ⟨s.ended (s.bistAll find), rfl, ?_, ?_⟩
  · rw [hboot]
  · rw [hboot, State.bistDone_now]

/-- A bank whose test finds nothing is READY with its test passed, or repaired by earlier soft repairs (R681-R683). -/
def BankSt.passed (x : BankSt) (now : Nat) : BankSt := { x with bist := if x.softCount = 0 then 1 else 2, st := 0, since := now }

/-- A bank reads as its test passed, with `k` soft repairs. -/
def BankSt.Passed (x : BankSt) (k : Nat) : Prop := x.st = 0 ∧ x.bist = if k = 0 then 1 else 2

theorem State.bistBank_quiet {s : State} (find : List BistFinding) (b : Nat) (h : s.n 0x2011 1 = 0) :
    State.bistBank find s b = s.setBank b ((s.bank b).passed s.now) := by
  unfold State.bistBank
  rw [if_pos h]
  rfl

theorem State.setBank_n (s : State) (b : Nat) (x : BankSt) (i a : Nat) : (s.setBank b x).n i a = s.n i a := rfl

/-- With the tests switched off, a pass over a list of banks leaves every bank of the list READY, and the soft repairs as they were. -/
theorem bistFold_passed {find : List BistFinding} {b k : Nat} (l : List Nat) {s : State} (h : s.n 0x2011 1 = 0) (hsoft : (s.bank b).softCount = k)
    (hb : b ∈ l ∨ (s.bank b).Passed k) : ((l.foldl (State.bistBank find) s).bank b).Passed k := by
  induction l generalizing s with
  | nil => exact hb.resolve_left (List.not_mem_nil)
  | cons c l ih =>
    rw [List.foldl_cons, State.bistBank_quiet find c h]
    refine ih ((State.setBank_n ..).trans h) ?_ ?_
    · rw [State.bank_setBank]
      split
      · next hbc => subst hbc; exact hsoft
      · exact hsoft
    · by_cases hbc : b = c
      · subst hbc
        right
        rw [State.bank_setBank, if_pos rfl]
        exact ⟨rfl, by rw [← hsoft]; rfl⟩
      · rw [State.bank_setBank, if_neg hbc]
        exact hb.imp_left fun hmem => (List.mem_cons.1 hmem).resolve_left hbc

theorem bistFold_frame {find : List BistFinding} {objs : List (Nat × Nat)} (l : List Nat) {s u : State} (h : u.n 0x2011 1 = 0)
    (hf : Frame [.boot, .mem] objs s u) : Frame [.boot, .mem] objs s (l.foldl (State.bistBank find) u) := by
  induction l generalizing u with
  | nil => exact hf
  | cons c l ih =>
    rw [List.foldl_cons, State.bistBank_quiet find c h]
    exact ih ((State.setBank_n ..).trans h) (hf.setMem _)

theorem bankBist_passes {s : State} (find : List BistFinding) (hstep : s.boot.step = 5) (hoff : s.n 0x2011 1 = 0) :
    CompletesWithin (.bankBist find) s [.boot, .mem] fun t =>
      ∀ b, b < 48 → (t.bank b).st = 0 ∧ (t.bank b).bist = (if (s.bank b).softCount = 0 then 1 else 2) := by
  obtain ⟨n, hall⟩ := State.bistAll_eq find hstep
  have hexec : exec (.bankBist find) s = s.ends (((s.bistDone find).put 0x2011 2 n).toStep 6) := by
    show s.ends (s.bistAll find) = _
    rw [hall]
  have hdone : Frame [.boot, .mem] [(0x2011, 2)] s (s.bistDone find) := bistFold_frame _ hoff ((Frame.refl s).setMem _)
  have hframe : Frame [.boot, .mem] [(0x2011, 2)] s (((s.bistDone find).put 0x2011 2 n).toStep 6) := (hdone.put 0x2011 2 n).setBoot _
  refine completesWithin_of_ends hexec hframe.part fun b hb => ?_
  have hmem : b ∈ s.bistBanks := by
    unfold State.bistBanks upto
    split
    · exact List.mem_range.2 (by omega)
    · exact List.mem_range.2 hb
  have hbank : (s.ended (((s.bistDone find).put 0x2011 2 n).toStep 6)).bank b = (s.bistDone find).bank b :=
    congrArg (fun m : Memory => mgetD m.bank b {}) (State.ended_mem ..)
  have hpassed : ((s.bistDone find).bank b).Passed (s.bank b).softCount := bistFold_passed s.bistBanks (s := s.zeroBanks) hoff rfl (.inl hmem)
  show ((s.ended (((s.bistDone find).put 0x2011 2 n).toStep 6)).bank b).Passed (s.bank b).softCount
  rw [hbank]
  exact hpassed

/-! ### Step 6 -/

/-- The life-cycle state and its transition. -/
def State.cycleState (s : State) : Nat × Nat := (s.sec.lcs, s.sec.trState)

theorem State.requestWipe_cycleState (s : State) (reason : Nat) : (s.requestWipe reason).cycleState = s.cycleState := rfl

theorem State.startWipe_cycleState (s : State) : s.startWipe.cycleState = s.cycleState := by
  unfold State.startWipe
  split <;> rfl

theorem State.transitionDone_idle {s : State} (h : s.sec.trState = 0) : s.transitionDone = s := by
  unfold State.transitionDone
  rw [if_pos (by rw [h]; decide)]

theorem State.setCause_cycleState (s : State) (br b : Nat) : (s.setCause br b).cycleState = s.cycleState :=
  congrArg (fun x : Security => (x.lcs, x.trState)) (State.setWord_sec ..)

/-- A wipe that ends with no transition in progress leaves the life-cycle state. -/
theorem State.wipeDone_cycleState {s : State} (h : s.sec.trState = 0) : s.wipeDone.cycleState = s.cycleState := by
  unfold State.wipeDone
  split
  · rfl
  · extract_lets waited _ wiped
    have hwaited : waited.cycleState = s.cycleState := congrArg (fun x : Security => (x.lcs, x.trState)) (s.elapseTo_sec _)
    have hwiped : wiped.cycleState = waited.cycleState := rfl
    clear_value wiped
    have hcounted : ((wiped.setCause 15 3).bump 0xF080 11 1).cycleState = s.cycleState :=
      (State.setCause_cycleState ..).trans (hwiped.trans hwaited)
    rw [State.transitionDone_idle ((congrArg Prod.snd hcounted).trans h), hcounted]

/-- Step 6 leaves the life-cycle state, but for a transition that its wipe ends. -/
theorem State.initVault_lcs {s : State} (bad : Bool) (h : s.sec.trState = 0) : (s.initVault bad).sec.lcs = s.sec.lcs := by
  suffices hcycle : (s.initVault bad).cycleState = s.cycleState from congrArg Prod.fst hcycle
  unfold State.initVault
  extract_lets zeroed _ tagBad tagged wiping _ initialised done
  unfold done
  split
  · rfl
  · have htagged : tagged.cycleState = s.cycleState := by
      unfold tagged
      split <;> rfl
    have hwiping : wiping.cycleState = tagged.cycleState := by
      unfold wiping
      split <;> rfl
    have hinitialised : initialised.cycleState = s.cycleState := Eq.trans rfl (hwiping.trans htagged)
    split
    · have hidle : initialised.startWipe.sec.trState = 0 :=
        (congrArg Prod.snd ((State.startWipe_cycleState _).trans hinitialised)).trans h
      exact (State.wipeDone_cycleState hidle).trans ((State.startWipe_cycleState _).trans hinitialised)
    · exact hinitialised

/-- After POR the vault is zero and READY, or FAILED with its bank (R696). -/
theorem State.initVault_por {s : State} (bad : Bool) (h : s.boot.afterPor = true) : s.initVault bad =
    { s.zeroVault with sec := { s.zeroVault.sec with vaultTag := s.sec.lcs, vaultState := s.vaultAfter, wipeReason := 1, wipePending := none } } := by
  unfold State.initVault
  rw [if_pos h]
  rfl

/-- The end of step 6: POR's mark is used up, and the boot goes on, or halts on a SCRAPPED device (R786). -/
def State.vaultDone (s : State) : State :=
  if s.sec.lcs = 4 then { s with boot := { s.boot with afterPor := false, halted := true } }
  else State.toStep { s with boot := { s.boot with afterPor := false } } 7

theorem State.vaultStep_eq {s : State} (bad : Bool) (hstep : s.boot.step = 6) (hhalted : s.boot.halted = false) :
    s.vaultStep bad = (s.initVault bad).vaultDone := by
  unfold State.vaultStep
  rw [if_neg (by simp [hstep, hhalted])]
  rfl

theorem State.vaultDone_sec (s : State) : s.vaultDone.sec = s.sec := by
  unfold State.vaultDone
  split <;> rfl

theorem vaultInitialisation_ends {s : State} (bad : Bool) (hstep : s.boot.step = 6) (hhalted : s.boot.halted = false) (hlcs : s.sec.lcs ≠ 4)
    (htr : s.sec.trState = 0) : ∃ t, exec (.vaultInitialisation bad) s = .next t ∧ t.boot.step = 7 ∧ t.boot.afterPor = false := by
  have hboot : (s.ended (s.vaultStep bad)).boot = (State.toStep { s.initVault bad with boot := { (s.initVault bad).boot with afterPor := false } } 7).boot := by
    rw [State.ended_boot, State.vaultStep_eq bad hstep hhalted, State.vaultDone, if_neg (by rwa [State.initVault_lcs bad htr])]
  refine ⟨s.ended (s.vaultStep bad), rfl, ?_, ?_⟩
  · rw [hboot]; rfl
  · rw [hboot]; rfl

theorem vaultInitialisation_por {s : State} (bad : Bool) (hstep : s.boot.step = 6) (hhalted : s.boot.halted = false)
    (hpor : s.boot.afterPor = true) (hbist : (s.bank 48).bist ≠ 3) :
    ∃ t, exec (.vaultInitialisation bad) s = .next t ∧ t.sec.vaultState = 2 ∧ t.sec.vaultTag = s.sec.lcs ∧ t.sec.wipeReason = 1 ∧
      t.sec.k1 = none ∧ t.sec.records = [] := by
  have hsec : (s.ended (s.vaultStep bad)).sec =
      { s.zeroVault.sec with vaultTag := s.sec.lcs, vaultState := s.vaultAfter, wipeReason := 1, wipePending := none } := by
    rw [State.ended_sec, State.vaultStep_eq bad hstep hhalted, State.vaultDone_sec, State.initVault_por bad hpor]
  refine ⟨s.ended (s.vaultStep bad), rfl, ?_, ?_, ?_, ?_, ?_⟩
  · rw [hsec]
    exact if_neg hbist
  · rw [hsec]
  · rw [hsec]
  · rw [hsec]; rfl
  · rw [hsec]; rfl

theorem vaultInitialisation_scrapped {s : State} (bad : Bool) (hstep : s.boot.step = 6) (hhalted : s.boot.halted = false)
    (hlcs : s.sec.lcs = 4) (hpor : s.boot.afterPor = true) :
    ∃ t, exec (.vaultInitialisation bad) s = .next t ∧ t.boot.halted = true ∧ t.boot.step = 6 := by
  have hboot : (s.ended (s.vaultStep bad)).boot = { s.boot with afterPor := false, halted := true } := by
    rw [State.ended_boot, State.vaultStep_eq bad hstep hhalted, State.initVault_por bad hpor]
    unfold State.vaultDone
    rw [if_pos (show s.zeroVault.sec.lcs = 4 from hlcs)]
    rfl
  refine ⟨s.ended (s.vaultStep bad), rfl, ?_, ?_⟩
  · rw [hboot]
  · rw [hboot]; exact hstep

theorem memoryAndVaultSteps : Claims.MemoryAndVaultSteps := fun _ =>
  ⟨fun find hstep => ⟨bankBist_ends find hstep, bankBist_passes find hstep⟩, fun bad hstep hhalted =>
    ⟨vaultInitialisation_ends bad hstep hhalted, fun hpor hbist _ => vaultInitialisation_por bad hstep hhalted hpor hbist,
      vaultInitialisation_scrapped bad hstep hhalted⟩⟩

end Sys2Proof.Machine
end

section
/-! PROOF. Boot step 7 (R168, R176, R183, R186). -/
namespace Sys2Proof.Machine

/-! ### What step 7 reports of its selection -/

/-- The slot applied, the causes of BOOT and the staged set: what step 7 reports of its selection (R176, R183). -/
def State.selection (s : State) : Nat × Nat × List Staged := (s.z 0x201B 0, s.z 0x2103 0, s.staged)

theorem State.selection_congr {s t : State} (hobj : t.obj = s.obj) (hstaged : t.staged = s.staged) : t.selection = s.selection := by
  unfold State.selection
  rw [State.z_congr hobj, State.z_congr hobj, hstaged]

/-- A counter of the diagnostics is none of them. -/
theorem State.bumpW_selection (s : State) {i : Nat} (a w n : Nat) (h : 0xF000 ≤ i) : (s.bumpW i a w n).selection = s.selection := by
  have hbump : ∀ j b, key j b < key 0xF000 0 → (s.bumpW i a w n).z j b = s.z j b := fun j b hlt => by
    rw [State.z_bumpW, if_neg (by unfold key at hlt ⊢; omega)]
  unfold State.selection
  rw [hbump 0x201B 0 (by decide), hbump 0x2103 0 (by decide)]
  rfl

theorem State.put_selection (s : State) (i a n : Nat) (hslot : key 0x201B 0 ≠ key i a) (hcause : key 0x2103 0 ≠ key i a) :
    (s.put i a n).selection = s.selection := by
  unfold State.selection
  rw [State.z_put, if_neg hslot, State.z_put, if_neg hcause]
  rfl

theorem State.alertSync_selection (s : State) : s.alertSync.selection = s.selection := by
  unfold State.selection
  rw [State.alertSync_z _ _ _ (by decide), State.alertSync_z _ _ _ (by decide), State.alertSync_staged]

theorem State.elapse_selection (s : State) (d : Nat) : (s.elapse d).selection = s.selection := by
  unfold State.elapse
  extract_lets
  split
  · exact (State.bumpW_selection _ _ _ _ (by decide)).trans (State.selection_congr rfl rfl)
  · exact State.selection_congr rfl rfl

/-! ### The banks follow the committed set -/

theorem sendSeqFlit_selection (s : State) (p ftype cont : Nat) (slots : Octets) : (sendSeqFlit p ftype cont slots s).selection = s.selection :=
  (State.selection_congr rfl rfl).trans ((State.bumpW_selection _ _ _ _ (by decide)).trans (State.selection_congr rfl rfl))

theorem sendSlots_selection (p fuel : Nat) : ∀ (cont : Nat) (slots : Octets) (s : State), (sendSlots p fuel cont slots s).selection = s.selection := by
  induction fuel with
  | zero => exact fun _ _ _ => rfl
  | succ fuel ih =>
    intro cont slots s
    unfold sendSlots
    dsimp only
    split
    · exact sendSeqFlit_selection ..
    · exact (ih ..).trans (sendSeqFlit_selection ..)

theorem sendMsg_selection (s : State) (p : Nat) (m : LinkMsg) : (sendMsg p m s).selection = s.selection := by
  unfold sendMsg
  dsimp only
  split
  · split
    · exact (State.selection_congr rfl rfl).trans ((sendSlots_selection ..).trans (State.selection_congr rfl rfl))
    · exact State.selection_congr rfl rfl
  · rfl

theorem State.awaitSnoop_selection (s : State) (line : Nat) (x : Snoop) : (s.awaitSnoop line x).selection = s.selection := by
  unfold State.awaitSnoop
  split
  · exact State.selection_congr rfl rfl
  · rfl

theorem State.sendSnp_selection (s : State) (line sid : Nat) (inv : Bool) (tag : Nat) : (s.sendSnp line sid inv tag).selection = s.selection :=
  (sendMsg_selection ..).trans ((State.bumpW_selection _ _ _ _ (by decide)).trans (State.selection_congr rfl rfl))

theorem State.sendSnoop_selection (s : State) (line sid : Nat) (inv : Bool) : (s.sendSnoop line sid inv).selection = s.selection := by
  unfold State.sendSnoop
  dsimp only
  split
  · exact (State.awaitSnoop_selection ..).trans (State.sendSnp_selection ..)
  · exact State.awaitSnoop_selection ..

theorem State.startRecall_selection (s : State) (line : Nat) : (s.startRecall line).selection = s.selection := by
  unfold State.startRecall
  split
  · split
    · exact State.selection_congr rfl rfl
    · exact (foldl_keeps State.selection _ (fun s sid => s.sendSnoop_selection line sid true) _ _).trans (State.selection_congr rfl rfl)
  · rfl

theorem State.recallLine_selection (s : State) (line k : Nat) : (s.recallLine line k).selection = s.selection := by
  unfold State.recallLine
  split
  · split
    · rfl
    · exact (State.startRecall_selection ..).trans ((State.bumpW_selection _ _ _ _ (by decide)).trans (State.selection_congr rfl rfl))
  · rfl

theorem State.recallBank_selection (s : State) (b : Nat) : (s.recallBank b).selection = s.selection := by
  refine foldl_keeps State.selection _ (fun s e => ?_) _ s
  split
  · split
    · exact s.recallLine_selection ..
    · rfl
  · rfl

theorem State.moveBank_selection (s : State) (b st target : Nat) (zero : Bool) : (s.moveBank b st target zero).selection = s.selection :=
  State.selection_congr rfl rfl

theorem State.stopTest_selection (s : State) (b : Nat) : (s.stopTest b).selection = s.selection := by
  unfold State.stopTest
  split
  · exact State.selection_congr rfl rfl
  · rfl

theorem State.leaveReady_selection (s : State) (b target : Nat) :
    (((s.moveBank b 1 target false).stopTest b).recallBank b).selection = s.selection :=
  (State.recallBank_selection ..).trans ((State.stopTest_selection ..).trans (s.moveBank_selection ..))

theorem State.bankToward_selection (s : State) (b sel : Nat) : (s.bankToward b sel).selection = s.selection := by
  unfold State.bankToward
  dsimp only
  split
  · exact s.leaveReady_selection b 3
  · exact s.leaveReady_selection b 4
  · exact s.moveBank_selection ..
  · exact s.moveBank_selection ..
  · exact s.moveBank_selection ..
  · exact s.moveBank_selection ..
  · split
    · rfl
    · exact s.moveBank_selection ..
  · split
    · rfl
    · exact s.moveBank_selection ..
  · split
    · rfl
    · exact State.selection_congr rfl rfl
  · rfl

theorem State.banksFollow_selection (s : State) : s.banksFollow.selection = s.selection :=
  foldl_keeps State.selection _ (fun s b => s.bankToward_selection b _) _ s

/-! ### The end of step 7 -/

theorem State.homed_pair {s t : State} (h : s.Homed t) : t.pair = s.pair := by
  obtain ⟨_, _, _, _, _, _, _, _, rfl⟩ := h; rfl

/-- The ports that the committed set does not enable have no link. -/
def State.portsClosed (s : State) : State :=
  (upto 6).foldl (fun (s : State) p => if s.b 0x7000 (p + 1) then s else s.setPort p (freshLink (s.port p) 0)) s

theorem State.portsClosed_selection (s : State) : s.portsClosed.selection = s.selection :=
  foldl_keeps State.selection _ (fun s p => by split; exacts [rfl, State.selection_congr rfl rfl]) _ s

theorem State.portsClosed_pair (s : State) : s.portsClosed.pair = s.pair :=
  foldl_keeps State.pair _ (fun s p => by split <;> rfl) _ s

/-- The parts that take their values from the committed set at once. -/
def State.valuesTaken (s : State) : State :=
  { s with
    alerts := { s.alerts with masks := s.latchMasks }
    acc := { s.acc with canPending := true }
    sec := if s.locked then s.sec else { s.sec with tamperCtl := s.n 0x9010 1, tamperNext := none }
    time := { s.time with horizon := s.n 0x3000 1 } }

/-- The pair identity of an image is fused. -/
def State.pairIdTaken (s : State) (once : Bool) : State := if once ∧ s.n 0x8000 1 ≠ 0 then s.startPairId (s.n 0x8000 1) else s

theorem State.committed_eq (s : State) (once : Bool) :
    s.committed once = (s.valuesTaken.banksFollow.portsClosed.pairIdTaken once).alertSync := rfl

theorem State.pairIdTaken_selection (s : State) (once : Bool) : (s.pairIdTaken once).selection = s.selection := by
  unfold State.pairIdTaken State.startPairId
  split
  · split
    · rfl
    · exact State.selection_congr rfl rfl
  · rfl

theorem State.pairIdTaken_pair (s : State) (once : Bool) : (s.pairIdTaken once).pair = s.pair := by
  unfold State.pairIdTaken State.startPairId
  split
  · split <;> rfl
  · rfl

theorem State.committed_selection (s : State) (once : Bool) : (s.committed once).selection = s.selection := by
  rw [State.committed_eq, State.alertSync_selection, State.pairIdTaken_selection, State.portsClosed_selection, State.banksFollow_selection]
  exact State.selection_congr rfl rfl

theorem State.committed_pair (s : State) (once : Bool) : (s.committed once).pair = s.pair := by
  rw [State.committed_eq, State.alertSync_pair, State.pairIdTaken_pair, State.portsClosed_pair, State.homed_pair (State.banksFollow_homed _)]
  rfl

theorem State.enterRoles_selection (s : State) : s.enterRoles.selection = s.selection := by
  unfold State.enterRoles
  extract_lets at8
  have hat8 : at8.selection = s.selection := State.selection_congr rfl rfl
  split
  · exact (State.selection_congr rfl rfl).trans ((State.elapse_selection at8 _).trans hat8)
  · exact (State.selection_congr (State.campSend_obj ..) (State.campSend_staged ..)).trans hat8

/-- Step 8 gives a single device its role at once, so that step 9 begins; a device of a pair starts its handshake (R743). -/
theorem State.enterRoles_step (s : State) : s.enterRoles.boot.step = if s.pair.role = 0 then 9 else 8 := by
  unfold State.enterRoles
  extract_lets at8
  have hpair : at8.pair.role = s.pair.role := rfl
  rw [hpair]
  split
  · rfl
  · exact congrArg Boot.step (State.campSend_boot ..)

/-- A save that a reset cut is reported as step 7 ends. -/
def State.saveCutTold (s : State) : State :=
  if s.boot.saveCut then (State.put { s with boot := { s.boot with saveCut := false } } 0x201C 2 7).put 0x201C 3 4 else s

theorem State.endStep7_eq (s : State) : s.endStep7 = (s.saveCutTold.committed true).enterRoles := rfl

theorem State.saveCutTold_selection (s : State) : s.saveCutTold.selection = s.selection := by
  unfold State.saveCutTold
  split
  · rw [State.put_selection _ _ _ _ (by decide) (by decide), State.put_selection _ _ _ _ (by decide) (by decide)]
    exact State.selection_congr rfl rfl
  · rfl

theorem State.saveCutTold_pair (s : State) : s.saveCutTold.pair = s.pair := by
  unfold State.saveCutTold
  split <;> rfl

theorem State.endStep7_selection (s : State) : s.endStep7.selection = s.selection := by
  rw [State.endStep7_eq, State.enterRoles_selection, State.committed_selection, State.saveCutTold_selection]

theorem State.endStep7_step (s : State) : s.endStep7.boot.step = if s.pair.role = 0 then 9 else 8 := by
  rw [State.endStep7_eq, State.enterRoles_step, State.committed_pair, State.saveCutTold_pair]

theorem State.keepMasks_pair (s old : State) : (s.keepMasks old).pair = s.pair := by
  unfold State.keepMasks
  split
  · rfl
  · exact foldl_keeps State.pair _ (fun _ _ => by rfl) _ s

/-- The masks are none of what step 7 reports. -/
theorem State.keepMasks_selection (s old : State) : (s.keepMasks old).selection = s.selection := by
  unfold State.keepMasks
  split
  · rfl
  · refine foldl_keeps_of_mem State.selection _ _ (fun s br hbr => ?_) s
    have hlt : br < 16 := List.mem_range.1 hbr
    have hval : ∀ j, j = 0x201B ∨ j = 0x2103 → (s.putVal (0x2111 + br) 0 (old.val (0x2111 + br) 0)).val j 0 = s.val j 0 := fun j hj => by
      rw [State.val_putVal, if_neg (by unfold key; omega)]
    unfold State.selection
    rw [State.z_of_val (hval _ (.inl rfl)) rfl, State.z_of_val (hval _ (.inr rfl)) rfl]
    rfl

/-! ### The candidates -/

theorem State.refuse_pair (s : State) (a : Acc) (code : Nat) : (s.refuse a code).pair = s.pair := by
  have hcause : ∀ (u : State) (br b : Nat), (u.setCause br b).pair = u.pair := fun u br b => State.setWord_pair ..
  have hite : ∀ {c : Prop} [Decidable c] {t u : State}, t.pair = u.pair → (if c then t else u).pair = u.pair := fun h => by
    split
    · exact h
    · rfl
  unfold State.refuse
  extract_lets counted s5 s6 s7 s10 store
  have hcounted : counted.pair = s.pair := State.bump_pair ..
  have h5 : s5.pair = counted.pair := hite ((hcause ..).trans (State.bump_pair ..))
  have h6 : s6.pair = s5.pair := hite (State.bump_pair ..)
  have h7 : s7.pair = s6.pair := hite (State.bump_pair ..)
  have h10 : s10.pair = s7.pair := hite (State.bump_pair ..)
  have hstore : store.pair = s10.pair := hite (hcause ..)
  rw [State.put_pair, State.put_pair, State.put_pair, hstore, h10, h7, h6, h5, hcounted]

theorem State.stage_pair (s : State) (r : Row) (a : Acc) (v : Val) : (s.stage r a v).pair = s.pair := by
  unfold State.stage
  split <;> rfl

theorem State.imageRecord_pair (s : State) (idx sub ty : Nat) (o : Octets) : (s.imageRecord idx sub ty o).2.pair = s.pair := by
  unfold State.imageRecord
  dsimp only
  split
  · exact State.refuse_pair ..
  · split
    · exact (State.stage_pair ..).trans rfl
    · rfl

theorem writeRecords_pair (l : List ImageRecord) (s : State) : (writeRecords l s).2.pair = s.pair := by
  induction l generalizing s with
  | nil => rfl
  | cons r l ih =>
    have hrecord := s.imageRecord_pair r.idx r.sub r.ty r.val
    unfold writeRecords
    split
    next hr => exact (ih _).trans (by rw [hr] at hrecord; exact hrecord)
    next hr => rw [hr] at hrecord; exact hrecord

theorem State.applyImage_pair (s : State) (n : Nat) (l : List ImageRecord) : (s.applyImage n l).2.pair = s.pair := by
  have hcause : ∀ (u : State) (br b : Nat), (u.setCause br b).pair = u.pair := fun u br b => State.setWord_pair ..
  have hwritten := writeRecords_pair l { s with staged := [] }
  unfold State.applyImage
  split
  next hw => rw [hw] at hwritten; exact (hcause ..).trans hwritten
  next hw =>
    rw [hw] at hwritten
    split
    · exact hwritten
    · exact (hcause ..).trans hwritten

theorem State.trySlot_pair (s : State) (n : Nat) : (s.trySlot n).2.pair = s.pair := by
  unfold State.trySlot
  extract_lets o h read
  split
  · exact (State.setWord_pair ..).trans rfl
  · split
    · rfl
    next l _ =>
      have happly := (read.slotMark n 1).applyImage_pair n l
      split
      next ok t ht =>
        rw [ht] at happly
        split
        · exact happly
        · exact happly

theorem State.trySlots_pair (l : List Nat) (s : State) : (s.trySlots l).pair = s.pair := by
  induction l generalizing s with
  | nil => exact (State.setWord_pair ..).trans rfl
  | cons n l ih =>
    have hslot := s.trySlot_pair n
    unfold State.trySlots
    split
    next hs => rw [hs] at hslot; exact hslot
    next hs => rw [hs] at hslot; exact (ih _).trans hslot

/-- With no candidate left the defaults stand, and NOIMAGE is set (R183). -/
theorem State.trySlots_none {s : State} (hfast : s.mgtFast = true) : (s.trySlots []).z 0x201B 0 = 0 ∧
    bit ((s.trySlots []).z 0x2103 0) 7 = true ∧ (s.trySlots []).staged = [] := by
  have hput : (State.put { s with staged := [] } 0x201B 0 0).mgtFast = true := hfast
  show ((State.put { s with staged := [] } 0x201B 0 0).setCause 2 7).z 0x201B 0 = 0 ∧
    bit (((State.put { s with staged := [] } 0x201B 0 0).setCause 2 7).z 0x2103 0) 7 = true ∧
    ((State.put { s with staged := [] } 0x201B 0 0).setCause 2 7).staged = []
  refine ⟨?_, ?_, ?_⟩
  · rw [State.setCause_z_ne _ _ (by decide) (by decide) (by decide) (by decide) rfl, State.z_put, if_pos rfl]
  · have hset := State.setCause_z (br := 2) 7 (by decide) hput
    rw [show 0x2103 = 0x2101 + 2 from rfl, hset]
    exact bit_or_two_pow _ 7
  · exact (State.setWord_staged ..).trans rfl

/-! ### The headers -/

/-- What step 7 has found in the flash when it has read the two headers (R168-R173). -/
def State.headersRead (s : State) (f : FlashInfo) : State :=
  ((s.toDefaults.discoverFlash f).flashRead (slotBase 1) 0).flashRead (slotBase 2) 0

/-- The state and the sequence number of the two slots (R176). -/
def State.headersStored (s : State) (a b : SlotHeader) : State :=
  (((s.put 0x2019 1 a.status).put 0x2019 2 b.status).put 0x201A 1 (if a.magic then a.seq else 0)).put 0x201A 2 (if b.magic then b.seq else 0)

/-- Two slots of one sequence number set SEQEQ (R177). -/
def State.equalMarked (s : State) (eq : Bool) : State := if eq then s.setCause 2 4 else s

/-- The two headers as step 7 reads them. -/
def State.header (s : State) (n : Nat) : SlotHeader := readHeader (s.slotRead n)

theorem State.selectImage_eq {s : State} (f : FlashInfo) (hstep : s.boot.step = 7) : s.selectImage f =
    (((((s.headersRead f).headersStored ((s.headersRead f).header 1) ((s.headersRead f).header 2)).equalMarked
      (candidateOrder ((s.headersRead f).header 1) ((s.headersRead f).header 2)).2).trySlots
      (candidateOrder ((s.headersRead f).header 1) ((s.headersRead f).header 2)).1).keepMasks s).endStep7 := by
  unfold State.selectImage
  rw [if_neg (not_not_intro hstep)]
  rfl

theorem State.equalMarked_pair (s : State) (eq : Bool) : (s.equalMarked eq).pair = s.pair := by
  unfold State.equalMarked
  split
  · exact State.setWord_pair ..
  · rfl

/-- Whether MGT runs, and where the boot stands, with the slots that it reads. -/
def State.bootRun (s : State) : (Nat × Octets × Octets) × Map DomainSt × Power := ((s.boot.step, s.boot.slotA, s.boot.slotB), s.clk.dom, s.power)

theorem State.mgtFast_of_bootRun {s t : State} (h : t.bootRun = s.bootRun) : t.mgtFast = s.mgtFast := by
  have hdom : t.dom .mgt = s.dom .mgt := State.dom_congr (congrArg (·.2.1) h) (congrArg (·.2.2) h) .mgt
  have hstep : t.boot.step = s.boot.step := congrArg (·.1.1) h
  unfold State.mgtFast State.mgtUp State.up
  rw [hdom, hstep]

theorem State.slot_of_bootRun {s t : State} (h : t.bootRun = s.bootRun) (n : Nat) : t.slot n = s.slot n := by
  unfold State.slot
  rw [show t.boot.slotA = s.boot.slotA from congrArg (·.1.2.1) h, show t.boot.slotB = s.boot.slotB from congrArg (·.1.2.2) h]

theorem State.setCause_bootRun (s : State) (br b : Nat) : (s.setCause br b).bootRun = s.bootRun := by
  unfold State.setCause State.bootRun
  rw [State.setWord_boot, State.setWord_clk, State.setWord_power]

theorem State.setupFlash_touches (s : State) (f : FlashInfo) : ∃ o, s.setupFlash f = { s with out := o } := by
  unfold State.setupFlash
  extract_lets quad
  have hquad : ∃ o, quad = { s with out := o } := by
    unfold quad
    split
    · exact ⟨_, rfl⟩
    · exact ⟨_, rfl⟩
  obtain ⟨o, ho⟩ := hquad
  rw [ho]
  split
  · exact ⟨_, rfl⟩
  · exact ⟨_, rfl⟩

theorem State.discoverFlash_kept (s : State) (f : FlashInfo) : (s.discoverFlash f).bootRun = s.bootRun ∧ (s.discoverFlash f).pair = s.pair := by
  unfold State.discoverFlash
  extract_lets _ asked found
  have hrun : found.bootRun = s.bootRun := rfl
  have hpair : found.pair = s.pair := rfl
  clear_value found
  split
  · obtain ⟨o, ho⟩ := found.setupFlash_touches f
    rw [ho]
    exact ⟨hrun, hpair⟩
  · exact ⟨(State.setCause_bootRun ..).trans hrun, (State.setWord_pair ..).trans hpair⟩

theorem State.headersRead_bootRun (s : State) (f : FlashInfo) : (s.headersRead f).bootRun = s.bootRun := s.toDefaults.discoverFlash_kept f |>.1

theorem State.headersRead_pair (s : State) (f : FlashInfo) : (s.headersRead f).pair = s.pair := s.toDefaults.discoverFlash_kept f |>.2

/-- An erased slot is no candidate. -/
theorem candidate_erased : (readHeader []).candidate = false := by decide +kernel

theorem candidateOrder_none {a b : SlotHeader} (ha : a.candidate = false) (hb : b.candidate = false) : candidateOrder a b = ([], false) := by
  simp only [candidateOrder, ha, hb]

theorem candidates_of_order {a b : SlotHeader} (h : (candidateOrder a b).1 = []) : a.candidate = false ∧ b.candidate = false := by
  unfold candidateOrder at h
  cases ha : a.candidate <;> cases hb : b.candidate <;> simp only [ha, hb] at h
  · exact ⟨rfl, rfl⟩
  · exact absurd h (by decide)
  · exact absurd h (by decide)
  · split at h
    · exact absurd h (by decide)
    · split at h <;> exact absurd h (by decide)

/-- A slot that holds no candidate is none as step 7 reads it, with a flash that does not answer as well (R171). -/
theorem State.header_candidate {s u : State} (h : u.bootRun = s.bootRun) (n : Nat) (hslot : (readHeader (s.slot n)).candidate = false) :
    (u.header n).candidate = false := by
  unfold State.header State.slotRead
  split
  · rwa [State.slot_of_bootRun h]
  · exact candidate_erased

theorem imageSelection_ends {s : State} (f : FlashInfo) (hstep : s.boot.step = 7) :
    ∃ t, exec (.imageSelection f) s = .next t ∧ t.boot.step = (if s.pair.role = 0 then 9 else 8) := by
  refine ⟨s.ended (s.selectImage f), rfl, ?_⟩
  rw [State.ended_boot, State.selectImage_eq f hstep, State.endStep7_step, State.keepMasks_pair, State.trySlots_pair, State.equalMarked_pair]
  exact congrArg (fun p : Pair => if p.role = 0 then 9 else 8) (s.headersRead_pair f)

theorem imageSelection_none {s : State} (f : FlashInfo) (hstep : s.boot.step = 7)
    (hnone : (candidateOrder (readHeader s.boot.slotA) (readHeader s.boot.slotB)).1 = []) (hfast : s.mgtFast = true) :
    ∃ t, exec (.imageSelection f) s = .next t ∧ t.z 0x201B 0 = 0 ∧ bit (t.z 0x2103 0) 7 = true ∧ t.staged = [] := by
  obtain ⟨ha, hb⟩ := candidates_of_order hnone
  have hrun := s.headersRead_bootRun f
  have horder := candidateOrder_none (State.header_candidate hrun 1 ha) (State.header_candidate hrun 2 hb)
  have hend : (s.selectImage f).selection =
      (((s.headersRead f).headersStored ((s.headersRead f).header 1) ((s.headersRead f).header 2)).trySlots []).selection := by
    rw [State.selectImage_eq f hstep, State.endStep7_selection, State.keepMasks_selection, horder]
    rfl
  have hready : ((s.headersRead f).headersStored ((s.headersRead f).header 1) ((s.headersRead f).header 2)).mgtFast = true :=
    (State.mgtFast_of_bootRun hrun).trans hfast
  obtain ⟨hslot, hcause, hstaged⟩ := State.trySlots_none hready
  refine ⟨s.ended (s.selectImage f), rfl, ?_, ?_, ?_⟩
  · rw [State.ended_z]
    exact (congrArg (·.1) hend).trans hslot
  · rw [State.ended_z, show (s.selectImage f).z 0x2103 0 = _ from congrArg (·.2.1) hend]
    exact hcause
  · rw [State.ended_staged]
    exact (congrArg (·.2.2) hend).trans hstaged

/-! ### A flash that stays busy -/

theorem State.spoilTarget_keeps (s : State) : s.spoilTarget.mgtFast = s.mgtFast ∧ s.spoilTarget.z 0x2103 0 = s.z 0x2103 0 := by
  unfold State.spoilTarget
  split
  · obtain ⟨o, ho⟩ := s.spoilHeader_eq
    rw [ho]
    exact ⟨State.setSlot_mgtFast .., State.setSlot_z ..⟩
  · exact ⟨State.setSlot_mgtFast .., State.setSlot_z ..⟩

theorem Frame.spoilTarget {objs : List (Nat × Nat)} (s : State) : Frame [.boot, .free, .latch] objs s s.spoilTarget := by
  unfold State.spoilTarget
  split
  · obtain ⟨o, ho⟩ := s.spoilHeader_eq
    rw [ho]
    exact ((Frame.refl s).drawn).setSlot _ _
  · exact (Frame.refl s).setSlot _ _

theorem State.saveFailed_slot {s : State} {why : Nat} (hwhy : why ≠ 1) (n : Nat) : (s.saveFailed why).slot n = s.slot n := by
  rw [State.saveFailed_eq hwhy]
  exact (State.slot_congr (t := (s.saveOver why).setCause 2 8) (State.setWord_boot ..) n).trans rfl

theorem State.saveFailed_free {s : State} {why : Nat} (hwhy : why ≠ 1) : (s.saveFailed why).free = s.free := by
  rw [State.saveFailed_eq hwhy]
  exact State.setWord_free ..

theorem State.setSlot_free (s : State) (n : Nat) (o : Octets) : (s.setSlot n o).free = s.free := by
  unfold State.setSlot; split <;> rfl

theorem flashBusyTimeout_fails {s : State} (hsaving : s.boot.savePhase ≠ 0) (hfast : s.mgtFast = true) :
    Completes .flashBusyTimeout s [.boot, .free, .latch] (causeObjects 2 ++ [(0x201C, 2), (0x201C, 3)]) fun t =>
      t.boot.savePhase = 0 ∧ t.z 0x201C 2 = 7 ∧ t.z 0x201C 3 = 3 ∧ t.z 0x2103 0 = s.z 0x2103 0 ||| 256 ∧
      (s.boot.savePhase ≠ 5 ∨ s.boot.saveHeader = false →
        t.free = s.free ∧ t.slot s.boot.saveSlot = cutSlot s.boot.savePhase (s.slot s.boot.saveSlot)) := by
  have hexec : exec .flashBusyTimeout s = s.ends (s.spoilTarget.saveFailed 3) := by
    show s.ends s.flashBusy = _
    unfold State.flashBusy
    rw [if_pos (show s.saving = true from decide_eq_true hsaving)]
  obtain ⟨kfast, kcause⟩ := s.spoilTarget_keeps
  obtain ⟨hphase, hstate, hwhy, hcause⟩ := State.saveFailed_read (s := s.spoilTarget) (why := 3) (by decide) (kfast.trans hfast)
  refine completes_of_frame hexec ((Frame.spoilTarget s).saveFailed (by decide)) ⟨?_, ?_, ?_, ?_, fun hbody => ?_⟩
  · rw [State.ended_boot, hphase]
  · rw [State.ended_z, hstate]
  · rw [State.ended_z, hwhy]
  · rw [State.ended_z, hcause, kcause]
  · have hcut : s.spoilTarget = s.setSlot s.boot.saveSlot (cutSlot s.boot.savePhase (s.slot s.boot.saveSlot)) := by
      unfold State.spoilTarget
      rw [if_neg]
      rintro ⟨h5, hheader⟩
      rcases hbody with hbody | hbody
      · exact hbody h5
      · rw [hheader] at hbody; exact absurd hbody (by decide)
    constructor
    · rw [State.ended_free, State.saveFailed_free (by decide), hcut, State.setSlot_free]
    · rw [State.ended_slot, State.saveFailed_slot (by decide), hcut, State.setSlot_slot]

theorem flashBusyTimeout_ends {s : State} (hidle : s.boot.savePhase = 0) (hstep : s.boot.step = 7) :
    ∃ t, exec .flashBusyTimeout s = .next t ∧ t.boot.step = (if s.pair.role = 0 then 9 else 8) := by
  have hbusy : s.flashBusy = (((s.toDefaults.setCause 2 9).trySlots []).keepMasks s).endStep7 := by
    unfold State.flashBusy
    rw [if_neg (by simp [State.saving, hidle]), if_pos hstep]
  have hpair : (s.toDefaults.setCause 2 9).pair = s.pair := (State.setWord_pair ..).trans rfl
  refine ⟨s.ended s.flashBusy, rfl, ?_⟩
  rw [State.ended_boot, hbusy, State.endStep7_step, State.keepMasks_pair, State.trySlots_pair, hpair]

theorem imageSelectionEndsStep7 : Claims.ImageSelectionEndsStep7 := fun _ =>
  ⟨fun f hstep => ⟨imageSelection_ends f hstep, imageSelection_none f hstep⟩, flashBusyTimeout_fails, flashBusyTimeout_ends⟩

/-- Settles O15: each step's end is read off its updates; the pass over the banks and the trial of the slots are inductions over their
lists. -/
theorem bootStepsOneToSeven : Obligations.BootStepsOneToSeven := ⟨firstStepsOfTheBoot, memoryAndVaultSteps, imageSelectionEndsStep7⟩

end Sys2Proof.Machine
end

section
/-! PROOF. What follows a command never takes the boot back: requests that wait leave the boot alone, a Lead's messages too, and a
Second's catch-up only raises the step (Table 19.6). -/
namespace Sys2Proof.Machine

@[simp] theorem State.drainOne_boot (s : State) : s.drainOne.boot = s.boot := by
  unfold State.drainOne
  repeat' split
  all_goals simp

@[simp] theorem State.drainDev_boot (s : State) : s.drainDev.boot = s.boot := foldl_keeps State.boot _ (fun s _ => s.drainOne_boot) _ s

@[simp] theorem State.progress_boot (s : State) (code : Nat) : (s.progress code).boot = s.boot := State.campSend_boot ..

@[simp] theorem State.syncInelig_boot (s : State) : s.syncInelig.boot = s.boot := by
  unfold State.syncInelig
  split <;> simp

@[simp] theorem State.syncRope_boot (s : State) : s.syncRope.boot = s.boot := by
  unfold State.syncRope
  extract_lets
  split
  · rfl
  · rfl

@[simp] theorem State.setEligible_boot (s : State) (e : Bool) : (s.setEligible e).boot = s.boot := by
  unfold State.setEligible
  extract_lets counted
  have hcounted : counted.boot = s.boot := by unfold counted; split <;> rfl
  exact (State.syncRope_boot _).trans ((State.syncInelig_boot _).trans hcounted)

@[simp] theorem State.syncElig_boot (s : State) : s.syncElig.boot = s.boot := by
  unfold State.syncElig
  split
  · rfl
  · extract_lets good _ kept
    have hkept : kept.boot = s.boot := by unfold kept; split <;> rfl
    split
    · exact (State.syncInelig_boot _).trans hkept
    · exact (State.setEligible_boot _ _).trans hkept

@[simp] theorem State.toDict_boot (s : State) : s.toDict.boot = s.boot := (State.syncElig_boot _).trans (State.progress_boot ..)

@[simp] theorem State.sendPortStat_boot (s : State) (p : Nat) : (s.sendPortStat p).boot = s.boot := by
  unfold State.sendPortStat
  extract_lets
  split
  · rfl
  · exact State.campSend_boot ..

@[simp] theorem State.leadPort_boot (s : State) (p : Nat) : (s.leadPort p).boot = s.boot := by
  unfold State.leadPort
  extract_lets _ told
  have htold : told.boot = s.boot := s.sendPortStat_boot p
  split
  · exact (State.campSend_boot ..).trans htold
  · split
    · exact (State.campSend_boot ..).trans htold
    · exact htold

@[simp] theorem State.leadFollow_boot (s : State) : s.leadFollow.boot = s.boot := by
  unfold State.leadFollow
  extract_lets told
  have htold : told.boot = s.boot := by
    unfold told
    split
    · exact foldl_keeps State.boot _ State.leadPort_boot _ s
    · rfl
  split
  · exact (State.campSend_boot ..).trans htold
  · exact htold

theorem State.step_le_stepUp (s : State) (n : Nat) : s.boot.step ≤ (s.stepUp n).boot.step := by
  unfold State.stepUp
  split
  · next h => exact h.le
  · exact le_rfl

theorem State.step_le_secondFollow (s : State) : s.boot.step ≤ s.secondFollow.boot.step := by
  unfold State.secondFollow
  extract_lets inDict inTime inTrig
  have hdict : inDict.boot = s.boot := by unfold inDict; split <;> simp
  have htime : inDict.boot.step ≤ inTime.boot.step := by
    unfold inTime
    split
    · rw [State.progress_boot]; exact inDict.step_le_stepUp 12
    · exact le_rfl
  have htrig : inTrig.boot = inTime.boot := by unfold inTrig; split <;> simp
  rw [State.syncElig_boot, htrig, ← hdict]
  exact htime

theorem State.step_le_pairFollow (s : State) : s.boot.step ≤ s.pairFollow.boot.step := by
  unfold State.pairFollow
  split
  · extract_lets told
    have htold : told.boot = s.boot := by
      unfold told
      split
      · exact foldl_keeps State.boot _ State.sendPortStat_boot _ s
      · rfl
    exact htold ▸ told.step_le_secondFollow
  · split
    · rw [State.leadFollow_boot]
    · exact le_rfl

/-- Nothing that follows a command takes the boot back. -/
theorem State.step_le_settle (s : State) : s.boot.step ≤ s.settle.boot.step := by
  have hserved : s.drainInbox.drainDev.serveUnits.boot = s.boot := by simp
  exact hserved ▸ s.drainInbox.drainDev.serveUnits.step_le_pairFollow

end Sys2Proof.Machine
end

section
/-! PROOF. Boot steps 9 and 10: the lead time of REFCLK, the releases of PRST_N_OUT and the link start (R188, R189, R191). -/
namespace Sys2Proof.Machine

theorem Frame.setPort {parts : List Part} {objs : List (Nat × Nat)} {s u : State} (h : Frame parts objs s u) (p : Nat) (x : PortSt)
    (hm : .ports ∈ parts := by decide) : Frame parts objs s (u.setPort p x) := by
  refine ⟨fun q hq => ?_, h.val⟩
  cases q with
  | ports => exact absurd hm hq
  | _ => exact h.part _ hq

theorem State.elapseTo_n (s : State) (t : Nat) {i a : Nat} (h : key i a ≠ key 0xF050 16) : (s.elapseTo t).n i a = s.n i a :=
  congrArg valNum (s.elapseTo_val t h)

/-! ### Step 9 -/

/-- Step 10 begins: the lines of 2014h:0 wait for their release, with the delays as they stand now. [DEDUCED, log entry 33] -/
def State.startReleases (s : State) : State :=
  { s with boot := { s.boot with
    step := 10, stepAt := s.now, prstAt := s.now, prstPending := s.n 0x2014 0 % 256, linkDelay := s.n 0x2016 0
    delays := (upto 8).map fun n => s.n 0x2013 (n + 1) } }

theorem State.refclkLead_eq {s : State} (hstep : s.boot.step = 9) :
    s.refclkLead = (s.elapseTo (s.boot.stepAt + s.boot.lead * 1000)).startReleases := by
  unfold State.refclkLead
  rw [if_neg (not_not_intro hstep)]
  rfl

theorem refclkLeadTimeExpiry_completes {s : State} (hstep : s.boot.step = 9) :
    Completes .refclkLeadTimeExpiry s [.boot, .now, .time] clockObjects fun t =>
      t.now = max s.now (s.boot.stepAt + s.boot.lead * 1000) ∧ t.boot.step = 10 ∧ t.boot.stepAt = t.now ∧
      t.boot.prstPending = s.n 0x2014 0 % 256 ∧ t.boot.linkDelay = s.n 0x2016 0 := by
  have hexec : exec .refclkLeadTimeExpiry s = s.ends (s.elapseTo (s.boot.stepAt + s.boot.lead * 1000)).startReleases :=
    congrArg s.ends (State.refclkLead_eq hstep)
  refine completes_of_frame hexec (((Frame.refl s).elapseTo _).setBoot _) ⟨?_, ?_, ?_, ?_, ?_⟩
  · rw [State.ended_now]
    exact State.elapseTo_now ..
  · rw [State.ended_boot]; rfl
  · rw [State.ended_boot, State.ended_now]; rfl
  · rw [State.ended_boot]
    exact congrArg (· % 256) (State.elapseTo_n s _ (by decide))
  · rw [State.ended_boot]
    exact State.elapseTo_n s _ (by decide)

/-! ### Step 10 -/

theorem State.firstRelease_now (s : State) (t : Nat) : (s.firstRelease t).now = s.now := by
  unfold State.firstRelease
  split <;> rfl

theorem State.firstRelease_boot (s : State) (t : Nat) : (s.firstRelease t).boot = { s.boot with prstFirst := true } := by
  unfold State.firstRelease
  split
  · next h => rw [← h]
  · rfl

theorem Frame.firstRelease {parts : List Part} {objs : List (Nat × Nat)} {s u : State} (h : Frame parts objs s u) (t : Nat)
    (hboot : .boot ∈ parts := by decide) (ho : (0x2018, 2) ∈ objs := by decide) : Frame parts objs s (u.firstRelease t) := by
  unfold State.firstRelease
  split
  · exact h
  · exact (h.setBoot _ hboot).put 0x2018 2 _ ho

/-- A line goes high now. -/
def State.lineReleased (s : State) (n : Nat) : State :=
  { s with boot := { s.boot with prst := setBit s.boot.prst n, prstPending := clrBit s.boot.prstPending n, prstAt := s.now } }

/-- The first rising edge of REF at or after the delay of a line. [DESIGN CHOICE, log entry 50] -/
def State.releaseEdge (s : State) (n : Nat) : Nat := roundUp (s.boot.stepAt + (s.boot.delays[n]?).getD 0 * 1000) 10

theorem State.releaseLine_eq {s : State} {n : Nat} (hstep : s.boot.step = 10) (hpending : bit s.boot.prstPending n = true) :
    s.releaseLine n = ((s.elapseTo (s.releaseEdge n)).lineReleased n).firstRelease (s.elapseTo (s.releaseEdge n)).now := by
  unfold State.releaseLine
  rw [if_neg (by simp [hstep, hpending])]
  rfl

theorem prstNOutRelease_completes {s : State} (line : Fin 8) (hstep : s.boot.step = 10) (hpending : bit s.boot.prstPending line.val = true) :
    Completes (.prstNOutRelease line) s [.boot, .now, .time] (clockObjects ++ [(0x2018, 2)]) fun t =>
      t.now = max s.now (roundUp (s.boot.stepAt + (s.boot.delays[line.val]?).getD 0 * 1000) 10) ∧
      t.boot.prst = setBit s.boot.prst line.val ∧ t.boot.prstPending = clrBit s.boot.prstPending line.val ∧ t.boot.prstAt = t.now := by
  have hexec : exec (.prstNOutRelease line) s =
      s.ends (((s.elapseTo (s.releaseEdge line.val)).lineReleased line.val).firstRelease (s.elapseTo (s.releaseEdge line.val)).now) :=
    congrArg s.ends (State.releaseLine_eq hstep hpending)
  have hboot := State.elapseTo_boot s (s.releaseEdge line.val)
  refine completes_of_frame hexec ((((Frame.refl s).elapseTo _).setBoot _).firstRelease _) ⟨?_, ?_, ?_, ?_⟩
  · rw [State.ended_now, State.firstRelease_now]
    exact State.elapseTo_now ..
  · rw [State.ended_boot, State.firstRelease_boot]
    exact congrArg (fun b : Boot => setBit b.prst line.val) hboot
  · rw [State.ended_boot, State.firstRelease_boot]
    exact congrArg (fun b : Boot => clrBit b.prstPending line.val) hboot
  · rw [State.ended_boot, State.firstRelease_boot, State.ended_now, State.firstRelease_now]
    rfl

/-! ### The link start -/

/-- A port in phase 1 of its first attempt, begun at a real time (R358). -/
def PortSt.Starts (x : PortSt) (now : Nat) : Prop := x.st = 2 ∧ x.phase = 1 ∧ x.attempt = 1 ∧ x.attemptAt = now

theorem State.port_startTraining (s : State) (p q : Nat) :
    (s.startTraining p).port q = if q = p then { freshLink (s.port p) 2 with phase := 1, attempt := 1, attemptAt := s.now } else s.port q :=
  State.port_setPort ..

/-- A port trains at the link start where it is enabled (R191). -/
def State.trainEnabled (s : State) (p : Nat) : State := if s.b 0x7000 (p + 1) then s.startTraining p else s

/-- The step, the real time and the objects, none of which training changes. -/
def State.bootClock (s : State) : Nat × Nat × Map Val := (s.boot.step, s.now, s.obj)

theorem State.trainEnabled_bootClock (s : State) (p : Nat) : (s.trainEnabled p).bootClock = s.bootClock := by
  unfold State.trainEnabled
  split <;> rfl

theorem State.trainEnabled_starts {s : State} {p : Nat} (h : s.b 0x7000 (p + 1) = true) : ((s.trainEnabled p).port p).Starts s.now := by
  unfold State.trainEnabled
  rw [if_pos h, State.port_startTraining, if_pos rfl]
  exact ⟨rfl, rfl, rfl, rfl⟩

theorem State.trainEnabled_port_ne {s : State} {p q : Nat} (h : q ≠ p) : (s.trainEnabled p).port q = s.port q := by
  unfold State.trainEnabled
  split
  · rw [State.port_startTraining, if_neg h]
  · rfl

theorem Frame.trainEnabled {parts : List Part} {objs : List (Nat × Nat)} {s u : State} (h : Frame parts objs s u) (p : Nat)
    (hclk : .clk ∈ parts := by decide) (hports : .ports ∈ parts := by decide) : Frame parts objs s (u.trainEnabled p) := by
  unfold State.trainEnabled
  split
  · exact (h.setPll _ _ hclk).setPort _ _ hports
  · exact h

/-- After a pass over a list of ports, every enabled port of the list has started. -/
theorem State.trainFold_starts {p : Nat} (l : List Nat) {s : State} (h : s.b 0x7000 (p + 1) = true) (hp : p ∈ l ∨ (s.port p).Starts s.now) :
    ((l.foldl State.trainEnabled s).port p).Starts s.now := by
  induction l generalizing s with
  | nil => exact hp.resolve_left List.not_mem_nil
  | cons q l ih =>
    have hkept := s.trainEnabled_bootClock q
    have hnow : (s.trainEnabled q).now = s.now := congrArg (·.2.1) hkept
    have henabled : (s.trainEnabled q).b 0x7000 (p + 1) = true :=
      (congrArg (fun n => decide (n = 1)) (State.n_congr (congrArg (·.2.2) hkept) _ _)).trans h
    rw [List.foldl_cons, ← hnow]
    refine ih henabled ?_
    rw [hnow]
    by_cases hpq : p = q
    · subst hpq
      exact .inr (State.trainEnabled_starts h)
    · rw [State.trainEnabled_port_ne hpq]
      exact hp.imp_left fun hmem => (List.mem_cons.1 hmem).resolve_left hpq

/-- Step 11 begins once the link start delay has passed since the last release. -/
def State.linkStarted (s : State) : State := (s.elapseTo (s.boot.prstAt + s.boot.linkDelay * 1000)).toStep 11

theorem State.linkStart_eq {s : State} (hstep : s.boot.step = 10) (hpending : s.boot.prstPending = 0) :
    s.linkStart = (upto 6).foldl State.trainEnabled s.linkStarted := by
  unfold State.linkStart
  rw [if_neg (by simp [hstep, hpending])]
  rfl

theorem State.linkStart_frame {s : State} (hstep : s.boot.step = 10) (hpending : s.boot.prstPending = 0) :
    Frame [.boot, .now, .time, .clk, .ports] clockObjects s s.linkStart := by
  have hfold : ∀ (l : List Nat) (u : State), Frame [.boot, .now, .time, .clk, .ports] clockObjects s u →
      Frame [.boot, .now, .time, .clk, .ports] clockObjects s (l.foldl State.trainEnabled u) := fun l => by
    induction l with
    | nil => exact fun _ h => h
    | cons p l ih => exact fun u h => ih _ (h.trainEnabled p)
  rw [State.linkStart_eq hstep hpending]
  exact hfold _ _ (((Frame.refl s).elapseTo _).setBoot _)

theorem State.ended_port (s u : State) (p : Nat) : (s.ended u).port p = u.port p :=
  congrArg (fun m : Map PortSt => mgetD m p {}) u.alertSync_ports

theorem linkStartDelayExpiry_completes {s : State} (hstep : s.boot.step = 10) (hpending : s.boot.prstPending = 0) (halone : Alone s) :
    Completes .linkStartDelayExpiry s [.boot, .now, .time, .clk, .ports] clockObjects fun t =>
      t.now = max s.now (s.boot.prstAt + s.boot.linkDelay * 1000) ∧ t.boot.step = 11 ∧
      ∀ p, p < 6 → s.b 0x7000 (p + 1) = true →
        (t.port p).st = 2 ∧ (t.port p).phase = 1 ∧ (t.port p).attempt = 1 ∧ (t.port p).attemptAt = t.now := by
  have hframe := State.linkStart_frame hstep hpending
  have hexec : exec .linkStartDelayExpiry s = s.ends s.linkStart :=
    congrArg s.ends (hframe.settle_eq halone (by decide) (by decide))
  have hkept : s.linkStart.bootClock = s.linkStarted.bootClock := by
    rw [State.linkStart_eq hstep hpending]
    exact foldl_keeps State.bootClock _ State.trainEnabled_bootClock _ _
  have hnow : s.linkStart.now = s.linkStarted.now := congrArg (·.2.1) hkept
  refine completes_of_frame hexec hframe ⟨?_, ?_, fun p hp henabled => ?_⟩
  · rw [State.ended_now, hnow]
    exact State.elapseTo_now ..
  · rw [State.ended_boot]
    exact congrArg (·.1) hkept
  · have hstarted : s.linkStarted.b 0x7000 (p + 1) = true :=
      (congrArg (fun n => decide (n = 1)) (State.elapseTo_n s _ (by unfold key; omega))).trans henabled
    rw [State.ended_port, State.ended_now, hnow, State.linkStart_eq hstep hpending]
    exact State.trainFold_starts _ hstarted (.inl (List.mem_range.2 hp))

end Sys2Proof.Machine
end

section
/-! PROOF. Boot step 12: package time starts at zero (R452), and the lock of step 13 leaves it (R515). -/
namespace Sys2Proof.Machine

/-! ### Package time -/

/-- Whether package time runs, and its value. -/
def State.ptClock (s : State) : Bool × Nat := (s.time.ptRun, s.time.pt)

theorem State.ptClock_congr {s t : State} (h : t.time = s.time) : t.ptClock = s.ptClock :=
  congrArg (fun b : TimeBase => (b.ptRun, b.pt)) h

theorem State.startWatch_ptClock (s : State) : s.startWatch.ptClock = s.ptClock := by
  unfold State.startWatch
  split <;> rfl

theorem State.startPpsOut_ptClock (s : State) : s.startPpsOut.ptClock = s.ptClock := by
  unfold State.startPpsOut
  split <;> rfl

theorem State.ppsAfterStep_ptClock (s : State) : s.ppsAfterStep.ptClock = s.ptClock := by
  unfold State.ppsAfterStep
  split
  · rfl
  · split <;> rfl

theorem State.sendTime_ptClock (s : State) (i opc tag : Nat) (data : Octets) : (s.sendTime i opc tag data).ptClock = s.ptClock :=
  State.ptClock_congr (sendMsg_time ..)

theorem State.campSend_ptClock (s : State) (urgent : Bool) (code : Nat) (body : Octets) : (s.campSend urgent code body).ptClock = s.ptClock :=
  State.ptClock_congr (State.campSend_time ..)

theorem State.issueSet_ptClock (s : State) (i : Nat) : (s.issueSet i).ptClock = s.ptClock := by
  unfold State.issueSet
  extract_lets _ started
  have hstarted : started.ptClock = s.ptClock := rfl
  split
  · exact (State.campSend_ptClock started ..).trans hstarted
  · exact (State.sendTime_ptClock started ..).trans hstarted

theorem State.issueStep_ptClock (s : State) (i : Nat) (delta : Int) : (s.issueStep i delta).ptClock = s.ptClock := by
  unfold State.issueStep
  extract_lets x stepped
  have hstepped : stepped.ptClock = s.ptClock := rfl
  split
  · exact (State.campSend_ptClock stepped ..).trans hstepped
  · exact (State.sendTime_ptClock (stepped.setSrc i _) ..).trans hstepped

theorem State.stepSource_ptClock (delta : Int) (s : State) (i : Nat) : (State.stepSource delta s i).ptClock = s.ptClock := by
  unfold State.stepSource
  extract_lets
  split
  · rfl
  · split
    · split
      · exact s.issueStep_ptClock i delta
      · exact s.issueSet_ptClock i
    · rfl

theorem State.setCause_ptClock (s : State) (br b : Nat) : (s.setCause br b).ptClock = s.ptClock := State.ptClock_congr (State.setCause_time ..)

theorem State.syncTrace_ptClock (s : State) : s.syncTrace.ptClock = s.ptClock := by
  unfold State.syncTrace
  split
  · exact s.setCause_ptClock ..
  · rfl

/-! ### A held write -/

theorem State.stepTo_ptRun (s : State) (new : Nat) (d : Int) : (s.stepTo new d).time.ptRun = s.time.ptRun := by
  unfold State.stepTo
  extract_lets _ _ _ due stepped
  have hdue : due.ptClock.1 = s.ptClock.1 := rfl
  have hstepped : stepped.ptClock = due.ptClock := by
    unfold stepped
    split
    · exact foldl_keeps State.ptClock _ (State.stepSource_ptClock _) _ due
    · rfl
  have hend : ((stepped.startWatch.ppsAfterStep).setCause 7 3).ptClock = due.ptClock := by
    rw [State.setCause_ptClock, State.ppsAfterStep_ptClock, State.startWatch_ptClock, hstepped]
  exact (congrArg (·.1) hend).trans hdue

theorem State.wroteTime_ptRun (s : State) : s.wroteTime.time.ptRun = s.time.ptRun := congrArg (·.1) (State.syncTrace_ptClock _)

/-- A write of package time leaves it running (R472). -/
theorem State.applyTimeWrite_ptRun (s : State) (mode v : Nat) (neg : Bool) : (s.applyTimeWrite mode v neg).time.ptRun = s.time.ptRun := by
  have hwrite : ∀ new d, ((s.stepTo new d).wroteTime).clearTimeWrite.time.ptRun = s.time.ptRun := fun new d =>
    (State.wroteTime_ptRun _).trans (s.stepTo_ptRun new d)
  unfold State.applyTimeWrite
  split
  · exact hwrite ..
  · exact hwrite ..
  · rfl
  · rfl

/-! ### The start of the time base -/

/-- The time base at its start, before a held write: package time 0 (R452). -/
def State.timeZero (s : State) : State :=
  { s with time := { s.time with
    ptRun := true, pt := 0, rate := 0, slew := 0, slewEnd := none, past := [], written := false, writtenAt := none
    heldWrite := none, ppsState := if s.z 0x6003 1 = 0 then 0 else 1, ppsGood := 0, ppsOut := [], ppsErr := 0 } }

/-- The time base with a write that was held until its start (R452). -/
def State.heldApplied (s : State) : State :=
  match s.time.heldWrite with
  | some (m, v, neg) => s.timeZero.applyTimeWrite m v neg
  | none => s.timeZero

theorem State.startTimeBase_ptClock (s : State) : s.startTimeBase.ptClock = s.heldApplied.ptClock := by
  unfold State.startTimeBase
  extract_lets _ zero held watched sent
  have hheld : held = s.heldApplied := rfl
  have hwatched : watched.ptClock = held.ptClock := (State.startPpsOut_ptClock _).trans (State.startWatch_ptClock _)
  have hsent : sent.ptClock = watched.ptClock := by
    unfold sent
    split
    · refine foldl_keeps State.ptClock _ (fun s i => ?_) _ watched
      split
      · exact s.issueSet_ptClock i
      · rfl
    · rfl
  rw [State.syncTrace_ptClock, hsent, hwatched, hheld]

theorem State.startTimeBase_ptRun (s : State) : s.startTimeBase.time.ptRun = true := by
  refine (congrArg (·.1) s.startTimeBase_ptClock).trans ?_
  show s.heldApplied.time.ptRun = true
  unfold State.heldApplied
  split
  · exact State.applyTimeWrite_ptRun ..
  · rfl

theorem State.startTimeBase_pt {s : State} (h : s.time.heldWrite = none) : s.startTimeBase.time.pt = 0 := by
  refine (congrArg (·.2) s.startTimeBase_ptClock).trans ?_
  show s.heldApplied.time.pt = 0
  unfold State.heldApplied
  rw [h]
  rfl

/-! ### The probe bank and the boot lock -/

/-- The time base and whether the probe bank samples. -/
def State.sampling (s : State) : TimeBase × Bool := (s.time, s.probe.on)

theorem State.startDecoder_sampling (t : Nat) (s : State) (j : Nat) : (State.startDecoder t s j).sampling = s.sampling := by
  unfold State.startDecoder
  extract_lets
  split
  · rfl
  · split <;> rfl

theorem State.setCause_sampling (s : State) (br b : Nat) : (s.setCause br b).sampling = s.sampling := by
  unfold State.sampling
  rw [State.setCause_time, State.setCause_probe]

theorem State.probeBadFrom_sampling (s : State) : s.probeBadFrom.sampling = s.sampling := by
  unfold State.probeBadFrom
  split <;> rfl

theorem State.syncProbe_sampling (s : State) : s.syncProbe.sampling = s.sampling := by
  unfold State.syncProbe
  split
  · extract_lets bad
    have hbad : bad.sampling = s.sampling := s.probeBadFrom_sampling
    split
    · exact hbad
    · exact (State.setCause_sampling ..).trans hbad
  · split <;> rfl

/-- The probe bank starts to sample and leaves the time base (R589). -/
theorem State.startProbe_sampling (s : State) : s.startProbe.sampling = (s.time, true) := by
  unfold State.startProbe
  exact (State.syncProbe_sampling _).trans (foldl_keeps State.sampling _ (State.startDecoder_sampling _) _ _)

/-- What step 13 leaves of step 12, and the step. -/
def State.lockClock (s : State) : (TimeBase × Bool) × Nat := (s.sampling, s.boot.step)

theorem State.lockClock_eq_iff {s : State} {x : TimeBase × Bool} {n : Nat} : s.lockClock = (x, n) ↔ s.sampling = x ∧ s.boot.step = n := Prod.ext_iff

theorem State.startLock_lockClock (s : State) : s.startLock.lockClock = (s.sampling, 13) := by
  unfold State.startLock
  refine (foldl_keeps State.lockClock _ (fun s l => ?_) _ _).trans rfl
  repeat' split
  all_goals rfl

theorem State.setCause_lockClock (s : State) (br b : Nat) : (s.setCause br b).lockClock = s.lockClock := by
  unfold State.lockClock
  rw [State.setCause_sampling, State.setCause_boot]

theorem State.campSend_lockClock (s : State) (urgent : Bool) (code : Nat) (body : Octets) :
    (s.campSend urgent code body).lockClock = s.lockClock := by
  unfold State.lockClock State.sampling
  rw [State.campSend_time, State.campSend_probe, State.campSend_boot]

theorem State.startTest_lockClock (s : State) : s.startTest.lockClock = s.lockClock := by
  unfold State.startTest
  split <;> rfl

theorem State.captureReady_lockClock (s : State) : s.captureReady.lockClock = (s.sampling, 14) := by
  unfold State.captureReady
  extract_lets _ _ ready noted _ told tested
  have hnoted : noted.lockClock = (s.sampling, 14) := rfl
  have htold : told.lockClock = noted.lockClock := by
    unfold told
    split
    · exact State.setCause_lockClock ..
    · rfl
  have htested : tested.lockClock = told.lockClock := told.startTest_lockClock
  rw [← hnoted, ← htold, ← htested]
  split
  · exact State.campSend_lockClock ..
  · rfl

/-- Step 13 begins, or is over at once, and leaves the time base and the probe bank (R515). -/
theorem State.lockStep_keeps (s : State) : s.lockStep.sampling = s.sampling ∧ 13 ≤ s.lockStep.boot.step := by
  obtain ⟨hlocking, hstep⟩ := State.lockClock_eq_iff.1 s.startLock_lockClock
  unfold State.lockStep
  generalize s.startLock = locking at hlocking hstep ⊢
  dsimp only
  split
  · obtain ⟨hready, hdone⟩ := State.lockClock_eq_iff.1 locking.captureReady_lockClock
    exact ⟨hready.trans hlocking, by rw [hdone]; decide⟩
  · exact ⟨hlocking, hstep.ge⟩

/-! ### Step 12 -/

theorem State.timeStep_eq {s : State} (hstep : s.boot.step = 11) (hacts : s.acts = true) (hports : s.portsSettled = true) :
    s.timeStep = (s.toStep 12).startTimeBase.startProbe.lockStep := by
  unfold State.timeStep
  rw [if_pos ⟨hstep, hacts, hports⟩]

theorem State.ended_time (s u : State) : (s.ended u).time = u.time := u.alertSync_time

theorem State.ended_probe (s u : State) : (s.ended u).probe = u.probe := u.alertSync_probe

/-- Step 12 starts the time base and the probe bank, and step 13 follows in the same command. -/
theorem State.timeStep_keeps {s : State} (hstep : s.boot.step = 11) (hacts : s.acts = true) (hports : s.portsSettled = true) :
    s.timeStep.sampling = ((s.toStep 12).startTimeBase.time, true) ∧ 13 ≤ s.timeStep.boot.step := by
  rw [State.timeStep_eq hstep hacts hports]
  obtain ⟨hkept, hlock⟩ := (s.toStep 12).startTimeBase.startProbe.lockStep_keeps
  exact ⟨hkept.trans (State.startProbe_sampling _), hlock⟩

theorem timeBaseStart_starts {s : State} (hstep : s.boot.step = 11) (hacts : s.acts = true) (hports : s.portsSettled = true) :
    ∃ t, exec .timeBaseStart s = .next t ∧ t.time.ptRun = true ∧ t.probe.on = true ∧ 13 ≤ t.boot.step ∧
      (s.time.heldWrite = none → t.time.pt = 0) := by
  obtain ⟨hkept, hlock⟩ := State.timeStep_keeps hstep hacts hports
  obtain ⟨htime, hon⟩ := Prod.ext_iff.1 hkept
  have hended : (s.ended s.timeStep.settle).time = (s.toStep 12).startTimeBase.time := by
    rw [State.ended_time, State.settle_time]
    exact htime
  refine ⟨s.ended s.timeStep.settle, rfl, ?_, ?_, ?_, fun hheld => ?_⟩
  · rw [hended, State.startTimeBase_ptRun]
  · rw [State.ended_probe, State.settle_probe]
    exact hon
  · rw [State.ended_boot]
    exact hlock.trans s.timeStep.step_le_settle
  · rw [hended]
    exact State.startTimeBase_pt (s := s.toStep 12) hheld

/-- Settles O14: the ends of steps 9 and 10 are read off their updates, the training of the ports by induction over their list; package time
is followed from its start through step 13 and the end of the command. The edge of REF is the choice of log entry 50, and the capture of
2016h:0 at the start of step 10 the deduction of log entry 33. -/
theorem fanOutAndTimeBaseSteps : Obligations.FanOutAndTimeBaseSteps := fun _ =>
  ⟨refclkLeadTimeExpiry_completes, prstNOutRelease_completes, linkStartDelayExpiry_completes, timeBaseStart_starts⟩

end Sys2Proof.Machine
end

section
/-! PROOF. Writes of objects without a row of their own (R214, R215, R234, R247, R260, R297): what serving a write answers and leaves, told
from its row alone. -/
set_option Elab.async false
namespace Sys2Proof.Machine

/-! ### Frames of further updates -/

section
variable {parts : List Part} {objs : List (Nat × Nat)} {s u : State}

theorem Frame.setStaged (h : Frame parts objs s u) (l : List Staged) (hm : .staged ∈ parts := by decide) :
    Frame parts objs s { u with staged := l } := by
  refine ⟨fun p hp => ?_, h.val⟩
  cases p with
  | staged => exact absurd hm hp
  | _ => exact h.part _ hp

theorem Frame.setLocked (h : Frame parts objs s u) (b : Bool) (hm : .locked ∈ parts := by decide) :
    Frame parts objs s { u with locked := b } := by
  refine ⟨fun p hp => ?_, h.val⟩
  cases p with
  | locked => exact absurd hm hp
  | _ => exact h.part _ hp

theorem Frame.setBadWords (h : Frame parts objs s u) (l : List Nat) (hm : .badWords ∈ parts := by decide) :
    Frame parts objs s { u with badWords := l } := by
  refine ⟨fun p hp => ?_, h.val⟩
  cases p with
  | badWords => exact absurd hm hp
  | _ => exact h.part _ hp

theorem Frame.setPath (h : Frame parts objs s u) (p : Nat) (x : PathSt) (hm : .acc ∈ parts := by decide) :
    Frame parts objs s (u.setPath p x) := by
  refine ⟨fun q hq => ?_, h.val⟩
  cases q with
  | acc => exact absurd hm hq
  | _ => exact h.part _ hq

theorem Frame.ite {t : State} {c : Prop} [Decidable c] (ht : Frame parts objs s t) (hu : Frame parts objs s u) :
    Frame parts objs s (if c then t else u) := by
  split
  · exact ht
  · exact hu

theorem Frame.up_eq (h : Frame parts objs s u) (hm : .boot ∉ parts := by decide) : u.up = s.up := by
  have hboot : u.boot = s.boot := h.part _ hm
  unfold State.up
  rw [hboot]

end

/-! ### The record of a refusal -/

/-- What a refusal's code sets and counts beside the refusal itself (R219, R246). -/
def State.refusalNoted (s : State) (a : Acc) (code : Nat) : State :=
  let s := if code = 0x0205 then (s.bump 0xF000 5 1).setCause 3 0 else s
  let s := if code = 0x0204 then s.bump 0xF000 6 1 else s
  let s := if code = 0x0201 then s.bump 0xF000 7 1 else s
  let s := if code = 0x0402 then s.bump 0xF010 10 1 else s
  if code = 0x0701 ∧ outsideStore a.idx = false then s.setCause 3 1 else s

theorem State.refuse_eq (s : State) (a : Acc) (code : Nat) : s.refuse a code =
    ((((s.bump 0xF000 4 1).refusalNoted a code).put 0x1082 1 (key a.idx a.sub)).put 0x1082 2 code).put 0x1082 3 a.path := rfl

/-- The objects of `State.refusalNoted`. -/
def notedObjects : List (Nat × Nat) := [(0xF000, 5), (0xF000, 6), (0xF000, 7), (0xF010, 10)] ++ causeObjects 3

/-- The count and the record of a refusal (R234). -/
def refusalObjects : List (Nat × Nat) := [(0xF000, 4), (0x1082, 1), (0x1082, 2), (0x1082, 3)]

section
variable {parts : List Part} {objs : List (Nat × Nat)} {s u : State}

theorem Frame.refusalNoted (h : Frame parts objs s u) (a : Acc) (code : Nat) (hm : .latch ∈ parts := by decide)
    (ho : ∀ x ∈ notedObjects, x ∈ objs := by decide) : Frame parts objs s (u.refusalNoted a code) := by
  have hcause : ∀ x ∈ causeObjects 3, x ∈ objs := fun x hx => ho x (List.mem_append_right _ hx)
  have hrefused := Frame.ite (c := code = 0x0205) ((h.bump 0xF000 5 1 (ho _ (by decide))).setCause 3 0 hm hcause) h
  have hlocked := Frame.ite (c := code = 0x0204) (hrefused.bump 0xF000 6 1 (ho _ (by decide))) hrefused
  have hlevel := Frame.ite (c := code = 0x0201) (hlocked.bump 0xF000 7 1 (ho _ (by decide))) hlocked
  have hfull := Frame.ite (c := code = 0x0402) (hlevel.bump 0xF010 10 1 (ho _ (by decide))) hlevel
  exact Frame.ite (hfull.setCause 3 1 hm hcause) hfull

theorem Frame.refuse (h : Frame parts objs s u) (a : Acc) (code : Nat) (hm : .latch ∈ parts := by decide)
    (ho : ∀ x ∈ refusalObjects ++ notedObjects, x ∈ objs := by decide) : Frame parts objs s (u.refuse a code) := by
  rw [State.refuse_eq]
  exact ((((h.bump 0xF000 4 1 (ho _ (by decide))).refusalNoted a code hm fun x hx => ho x (List.mem_append_right _ hx)).put 0x1082 1 _
    (ho _ (by decide))).put 0x1082 2 _ (ho _ (by decide))).put 0x1082 3 _ (ho _ (by decide))

end

/-- A refusal is counted once (R234). -/
theorem State.refuse_counted (s : State) (a : Acc) (code : Nat) : (s.refuse a code).z 0xF000 4 = min (s.z 0xF000 4 + 1) (2 ^ 32 - 1) := by
  have hnoted := (Frame.refl (parts := [.latch]) (objs := notedObjects) (s.bump 0xF000 4 1)).refusalNoted a code
  rw [State.refuse_eq, State.z_put, if_neg (by decide), State.z_put, if_neg (by decide), State.z_put, if_neg (by decide),
    hnoted.z_eq (i := 0xF000) (a := 4), State.z_bump, if_pos rfl]

/-- The last refusal is kept with its object, its code and its path (R234). -/
theorem State.refuse_recorded (s : State) (a : Acc) (code : Nat) :
    (s.refuse a code).z 0x1082 1 = key a.idx a.sub ∧ (s.refuse a code).z 0x1082 2 = code ∧ (s.refuse a code).z 0x1082 3 = a.path := by
  rw [State.refuse_eq]
  exact ⟨by rw [State.z_put, if_neg (by decide), State.z_put, if_neg (by decide), State.z_put, if_pos rfl],
    by rw [State.z_put, if_neg (by decide), State.z_put, if_pos rfl], by rw [State.z_put, if_pos rfl]⟩

/-! ### One row of Table 5.5 -/

/-- A write of class L that draws a code of its own changes nothing, but for the writes of a session (R234, R789, R790). -/
theorem State.liveWrite_refused {s : State} {a : Acc} {v : Val} (hidx : a.idx ≠ 0x1010) (hc : (s.liveWrite a v).1 ≠ 0) :
    (s.liveWrite a v).2 = s := by
  unfold State.liveWrite at hc ⊢
  rw [if_neg fun h => hidx h.1] at hc ⊢
  dsimp only at hc ⊢
  split at hc
  · exact absurd rfl hc
  · next hcode => rw [if_neg hcode]; exact if_neg fun h => hidx h.2.1

/-- A write that a check refuses leaves the state as its acceptance left it (R234). -/
theorem State.writeRow_refused {s : State} {r : Row} {a : Acc} {o : Octets} {ty : Option Nat} (hidx : a.idx ≠ 0x1010)
    (hc : (s.writeRow r a o ty).1 ≠ 0) : (s.writeRow r a o ty).2 = s := by
  unfold State.writeRow at hc ⊢
  cases hcls : r.cls with
  | l =>
    rw [hcls] at hc
    dsimp only at hc ⊢
    split_ifs at hc ⊢
    · rfl
    · rfl
    · rfl
    · exact State.liveWrite_refused hidx hc
  | _ =>
    rw [hcls] at hc
    dsimp only at hc ⊢
    split_ifs at hc ⊢
    · rfl
    · rfl
    · rfl
    · exact absurd rfl hc
    · rfl

/-- A write of class S that no check refuses is staged (R214, R215). -/
theorem State.writeRow_staged {s : State} {r : Row} {a : Acc} {o : Octets} {ty : Option Nat} (hcls : r.cls = .s)
    (hc : (s.writeRow r a o ty).1 = 0) : (s.writeRow r a o ty).2 = { s with
      staged := putStaged s.staged ⟨a.idx, a.sub, maskVal r (octetsVal r.ty o), pathOfNo a.path, r.wr, false⟩ } := by
  have hstage : ∀ v, s.stage r a v = { s with staged := putStaged s.staged ⟨a.idx, a.sub, v, pathOfNo a.path, r.wr, false⟩ } := fun v => by
    simp [State.stage, State.onceSame, hcls]
  unfold State.writeRow at hc ⊢
  rw [hcls] at hc ⊢
  dsimp only at hc ⊢
  split_ifs at hc ⊢ with hhead hforced hvalue hcode
  · exact absurd hc hhead
  · exact hstage _
  · exact absurd hc hcode

/-! ### The served write -/

/-- The access that a command's write makes. -/
def State.access (s : State) (w : Who) (idx sub : Nat) : Acc :=
  ⟨pathNo w.path, s.requester w, (s.accepted w).levelOf (pathNo w.path) (s.requester w), idx, sub⟩

theorem State.serveWrite_of_row {s : State} {w : Who} {idx sub : Nat} {o : Octets} {ty : Option Nat} {r : Row} (hr : findRow idx sub = some r) :
    s.serveWrite (pathNo w.path) (s.requester w) idx sub o ty =
      if ((s.accepted w).writeRow r (s.access w idx sub) o ty).1 = 0 then
        (0, ((s.accepted w).writeRow r (s.access w idx sub) o ty).2.bump 0xF000 3 1)
      else (((s.accepted w).writeRow r (s.access w idx sub) o ty).1, ((s.accepted w).writeRow r (s.access w idx sub) o ty).2.refuse
        (s.access w idx sub) ((s.accepted w).writeRow r (s.access w idx sub) o ty).1) := by
  unfold State.serveWrite
  rw [hr]
  rfl

/-- A write that a check refuses is accepted and recorded, and nothing else of it remains (R234). -/
theorem State.serveWrite_refused {s : State} {w : Who} {idx sub c : Nat} {o : Octets} {ty : Option Nat} (hidx : idx ≠ 0x1010)
    (hc : (s.serveWrite (pathNo w.path) (s.requester w) idx sub o ty).1 = c) (hne : c ≠ 0) :
    s.serveWrite (pathNo w.path) (s.requester w) idx sub o ty = (c, (s.accepted w).refuse (s.access w idx sub) c) := by
  cases hrow : findRow idx sub with
  | none =>
    have hname : s.serveWrite (pathNo w.path) (s.requester w) idx sub o ty =
        (nameCode idx sub, (s.accepted w).refuse (s.access w idx sub) (nameCode idx sub)) := by
      unfold State.serveWrite
      rw [hrow]
      rfl
    rw [hname] at hc ⊢
    rw [show nameCode idx sub = c from hc]
  | some r =>
    rw [State.serveWrite_of_row hrow] at hc ⊢
    split_ifs at hc ⊢ with hcode
    · exact absurd hc.symm hne
    · rw [State.writeRow_refused hidx hcode, show ((s.accepted w).writeRow r (s.access w idx sub) o ty).1 = c from hc]

theorem State.serveWrite_staged {s : State} {w : Who} {idx sub : Nat} {o : Octets} {ty : Option Nat} {r : Row} (hr : findRow idx sub = some r)
    (hcls : r.cls = .s) (hc : (s.serveWrite (pathNo w.path) (s.requester w) idx sub o ty).1 = 0) :
    s.serveWrite (pathNo w.path) (s.requester w) idx sub o ty = (0, State.bump { s.accepted w with
      staged := putStaged s.staged ⟨idx, sub, maskVal r (octetsVal r.ty o), pathOfNo (pathNo w.path), r.wr, false⟩ } 0xF000 3 1) := by
  have hstaged : (s.accepted w).staged = s.staged := State.accept_staged ..
  rw [State.serveWrite_of_row hr] at hc ⊢
  split_ifs at hc ⊢ with hcode
  · rw [State.writeRow_staged hcls hcode, hstaged]
    rfl
  · exact absurd hc hcode

/-! ### The command -/

theorem State.up_of_reaches {s : State} {w : Who} (h : s.reaches w = true) : s.up = true := by
  unfold State.reaches at h
  exact State.up_of_mgtUp (State.mgtUp_of_pathUp (Bool.and_eq_true_iff.1 h).1)

/-- Without an open transfer, a row that writes has its turn at once (R260). -/
theorem State.rowTurn_idle {s : State} {p : Nat} (req : Nat) (h : (s.path p).xfer = none) : (s.xferDue p).rowTurn p req = (true, s) := by
  have hdue : s.xferDue p = s := by simp [State.xferDue, State.xferLate, h]
  rw [hdue]
  unfold State.rowTurn
  rw [h]

/-- A lone device ends a served write with what serving it left, and its answer. -/
theorem exec_dictWrite_served {s u : State} {w : Who} {idx : BitVec 16} {sub : BitVec 8} {o : Octets} {ty : Option (BitVec 8)} {c : Nat}
    {parts : List Part} {objs : List (Nat × Nat)} (halone : Alone s) (hserved : Served s w)
    (hserve : s.serveWrite (pathNo w.path) (s.requester w) idx.toNat sub.toNat o (ty.map BitVec.toNat) = (c, u))
    (hf : Frame parts objs s u) (hboot : .boot ∉ parts := by decide) (hpair : .pair ∉ parts := by decide) (hcoh : .coh ∉ parts := by decide)
    (hout : .out ∈ parts := by decide) : exec (.dictWrite w idx sub o ty) s = s.ends (u.emit (.answer w c [])) := by
  obtain ⟨hreaches, hxfer⟩ := hserved
  show s.ends (s.writeBy w idx.toNat sub.toNat o (ty.map BitVec.toNat)) = _
  unfold State.writeBy
  rw [if_pos hreaches, State.rowTurn_idle _ hxfer]
  dsimp only
  rw [hserve]
  dsimp only
  rw [if_pos ((hf.up_eq hboot).trans (State.up_of_reaches hreaches)), (hf.emit _ hout).settle_eq halone hpair hcoh]

/-- The parts and the objects that a refused write may change. -/
def refusedParts : List Part := [.acc, .latch, .out]

/-- The objects that a refused write may change: the counts of its acceptance, and those of the refusal. -/
def refusedObjects : List (Nat × Nat) := accessObjects ++ refusalObjects ++ notedObjects

theorem Frame.refused (s : State) (w : Who) (a : Acc) (c : Nat) : Frame refusedParts refusedObjects s ((s.accepted w).refuse a c) :=
  (Frame.accepted s w).refuse a c

/-- The state that a refused write ends in: accepted, recorded and answered (R234). -/
def State.refusedEnd (s : State) (w : Who) (idx sub c : Nat) : State :=
  s.ended (((s.accepted w).refuse (s.access w idx sub) c).emit (.answer w c []))

theorem exec_dictWrite_refused {s : State} {w : Who} {idx : BitVec 16} {sub : BitVec 8} {o : Octets} {ty : Option (BitVec 8)} {c : Nat}
    (halone : Alone s) (hserved : Served s w)
    (hserve : s.serveWrite (pathNo w.path) (s.requester w) idx.toNat sub.toNat o (ty.map BitVec.toNat) =
      (c, (s.accepted w).refuse (s.access w idx.toNat sub.toNat) c)) :
    exec (.dictWrite w idx sub o ty) s = .next (s.refusedEnd w idx.toNat sub.toNat c) :=
  exec_dictWrite_served halone hserved hserve (Frame.refused s w _ c)

section
variable (s : State) (w : Who) (idx sub c : Nat)

theorem State.refusedEnd_answer : .answer w c [] ∈ (s.refusedEnd w idx sub c).out := by
  rw [State.refusedEnd, State.ended_out]
  exact List.mem_cons_self ..

theorem State.refusedEnd_staged : (s.refusedEnd w idx sub c).staged = s.staged := by
  rw [State.refusedEnd, State.ended_staged]
  exact (Frame.refused s w _ c).part .staged (by decide)

theorem State.refusedEnd_locked : (s.refusedEnd w idx sub c).locked = s.locked := by
  rw [State.refusedEnd, State.ended_locked]
  exact (Frame.refused s w _ c).part .locked (by decide)

theorem State.refusedEnd_counted : (s.refusedEnd w idx sub c).z 0xF000 4 = min (s.z 0xF000 4 + 1) (2 ^ 32 - 1) := by
  rw [State.refusedEnd, State.ended_z, State.emit_z, State.refuse_counted,
    (Frame.accepted (parts := [.acc]) (objs := accessObjects) s w).z_eq (i := 0xF000) (a := 4)]

theorem State.refusedEnd_recorded : (s.refusedEnd w idx sub c).z 0x1082 1 = key idx sub ∧ (s.refusedEnd w idx sub c).z 0x1082 2 = c ∧
    (s.refusedEnd w idx sub c).z 0x1082 3 = pathNo w.path := by
  rw [State.refusedEnd, State.ended_z, State.ended_z, State.ended_z]
  exact State.refuse_recorded ..

end

/-! ### The obligation -/

theorem dictWriteStagesClassS : Claims.DictWriteStagesClassS := by
  intro s w idx sub o ty r halone hserved hr hcls hcode
  have hserve := State.serveWrite_staged hr hcls hcode
  have hf := ((Frame.accepted (parts := [.staged, .acc, .out]) (objs := accessObjects) s w).setStaged (putStaged s.staged ⟨idx.toNat, sub.toNat,
    maskVal r (octetsVal r.ty o), pathOfNo (pathNo w.path), r.wr, false⟩)).bump 0xF000 3 1
  refine completes_of_frame (exec_dictWrite_served halone hserved hserve hf) (hf.emit _) ⟨?_, ?_⟩
  · rw [State.ended_staged]; rfl
  · rw [State.ended_out]; exact List.mem_cons_self ..

theorem refusedWritesAreRecorded : Claims.RefusedWritesAreRecorded := by
  intro s w idx sub o ty c halone hserved hidx hcode hne
  have hserve := State.serveWrite_refused (fun h => hidx (BitVec.eq_of_toNat_eq h)) hcode hne
  exact ⟨_, exec_dictWrite_refused halone hserved hserve, s.refusedEnd_staged .., s.refusedEnd_answer .., s.refusedEnd_counted ..,
    s.refusedEnd_recorded ..⟩

theorem openTransfersRefuseOthers : Claims.OpenTransfersRefuseOthers := by
  intro s w idx sub o ty halone hreaches x hxfer hother hlate
  have hturn : (s.xferDue (pathNo w.path)).rowTurn (pathNo w.path) (s.requester w) = (false, s) := by
    unfold State.xferDue
    rw [hlate]
    unfold State.rowTurn
    simp [hxfer, hother]
  have hf : Frame [.out] refusalObjects s (s.busyRow w idx.toNat sub.toNat) :=
    (((((Frame.refl s).bump 0xF000 4 1).put 0x1082 1 _).put 0x1082 2 _).put 0x1082 3 _).emit _
  have hexec : exec (.dictWrite w idx sub o ty) s = s.ends (s.busyRow w idx.toNat sub.toNat) := by
    show s.ends (s.writeBy w idx.toNat sub.toNat o (ty.map BitVec.toNat)) = _
    unfold State.writeBy
    rw [if_pos hreaches, hturn]
    dsimp only
    rw [hf.settle_eq halone (by decide) (by decide)]
  refine completes_of_frame hexec hf ⟨?_, ?_, ?_, ?_, ?_⟩
  · rw [State.ended_out]; rfl
  · rw [State.ended_z, State.busyRow, State.emit_z, State.z_put, if_neg (by decide), State.z_put, if_neg (by decide), State.z_put,
      if_neg (by decide), State.z_bump, if_pos rfl]
  · rw [State.ended_z, State.busyRow, State.emit_z, State.z_put, if_neg (by decide), State.z_put, if_neg (by decide), State.z_put, if_pos rfl]
  · rw [State.ended_z, State.busyRow, State.emit_z, State.z_put, if_neg (by decide), State.z_put, if_pos rfl]
  · rw [State.ended_z, State.busyRow, State.emit_z, State.z_put, if_pos rfl]

/-- Settles O18: a served write of class S is staged in its row, a refused one leaves what its acceptance left with the record of the refusal,
and another requester's open transfer refuses it before it is served. -/
theorem writesAreStagedOrRefused : Obligations.WritesAreStagedOrRefused :=
  ⟨dictWriteStagesClassS, refusedWritesAreRecorded, openTransfersRefuseOthers⟩

end Sys2Proof.Machine
end

section
/-! PROOF. The lock of class K and the descriptor query (R220, R236). -/
set_option Elab.async false
namespace Sys2Proof.Machine

/-! ### A locked object -/

/-- Neither a commit request nor a discard is a write of class K, so a write of class K requires the level of its row (R302). -/
theorem classK_not_commit {idx sub : Nat} {r : Row} (hr : findRow idx sub = some r) (hcls : r.cls = .k) : idx ≠ 0x2002 ∧ idx ≠ 0x2003 := by
  have hrows : ∀ r ∈ rowsOf 0x20, r.cls = .k → r.i1 < 0x2002 ∨ 0x2003 < r.i0 := by decide
  have hspan := List.find?_some hr
  simp only [Bool.and_eq_true, decide_eq_true_eq] at hspan
  have hout : ¬ (0x2002 ≤ idx ∧ idx ≤ 0x2003) := fun hidx => by
    have hpage : idx / 256 = 0x20 := by omega
    have hpast := hrows r (hpage ▸ List.mem_of_find?_eq_some hr) hcls
    omega
  omega

theorem State.writeLevel_classK {s : State} {r : Row} {a : Acc} (hr : findRow a.idx a.sub = some r) (hcls : r.cls = .k) :
    s.writeLevel r a = r.wr := by
  obtain ⟨hdiscard, hcommit⟩ := classK_not_commit hr hcls
  unfold State.writeLevel
  rw [if_neg (by simp [hdiscard, hcommit])]

/-- The lock refuses a write of class K on every path but the image's (R220). -/
theorem State.writeRow_locked {s : State} {r : Row} {a : Acc} {o : Octets} {ty : Option Nat} (hlocked : s.locked = true)
    (hr : findRow a.idx a.sub = some r) (hcls : r.cls = .k) (hopen : accessWithheld s.sec.lcs a.idx a.sub true = false)
    (hlevel : r.wr ≤ a.level) (hpath : a.path ≠ 5) : s.writeRow r a o ty = (0x0204, s) := by
  have hhead : s.headCode r a o.length ty = 0x0204 := by
    unfold State.headCode
    rw [hopen, State.writeLevel_classK hr hcls, hcls, hlocked]
    simp [hpath, Nat.not_lt.2 hlevel]
  unfold State.writeRow
  simp [hhead]

/-- No access that a command brings comes on the image's path (R203). -/
theorem pathNo_of_reaches {s : State} {w : Who} (h : s.reaches w = true) : pathNo w.path ≠ 5 := fun himage => by
  unfold State.reaches at h
  rw [himage] at h
  exact absurd h (by simp [State.pathUp])

theorem dictWrite_locked {s : State} {w : Who} {idx : BitVec 16} {sub : BitVec 8} (o : Octets) (ty : Option (BitVec 8)) {r : Row}
    (halone : Alone s) (hserved : Served s w) (hlocked : s.locked = true) (hr : findRow idx.toNat sub.toNat = some r) (hcls : r.cls = .k)
    (hopen : accessWithheld s.sec.lcs idx.toNat sub.toNat true = false)
    (hlevel : r.wr ≤ (s.accepted w).levelOf (pathNo w.path) (s.requester w)) :
    ∃ t, exec (.dictWrite w idx sub o ty) s = .next t ∧ .answer w 0x0204 [] ∈ t.out ∧ t.staged = s.staged ∧ t.locked = true := by
  have hkept : (s.accepted w).locked = s.locked ∧ (s.accepted w).sec = s.sec := ⟨State.accept_locked .., State.accept_sec ..⟩
  have hrow : (s.accepted w).writeRow r (s.access w idx.toNat sub.toNat) o (ty.map BitVec.toNat) = (0x0204, s.accepted w) :=
    State.writeRow_locked (hkept.1.trans hlocked) hr hcls (by rw [hkept.2]; exact hopen) hlevel (pathNo_of_reaches hserved.1)
  have hserve := State.serveWrite_of_row (s := s) (w := w) (o := o) (ty := ty.map BitVec.toNat) hr
  rw [hrow, if_neg (show ¬ (0x0204 : Nat) = 0 by decide)] at hserve
  exact ⟨_, exec_dictWrite_refused halone hserved hserve, s.refusedEnd_answer .., s.refusedEnd_staged ..,
    (s.refusedEnd_locked ..).trans hlocked⟩

/-! ### The lock request -/

theorem lockRequest_completes {s : State} (w : Who) (halone : Alone s) (h : Accepted s w 0x1081 1 0x4C4F434B) :
    Completes (.lockRequest w 0x4C4F434B#32) s [.locked, .acc, .out] accessObjects fun t =>
      t.locked = true ∧ .answer w 0 [] ∈ t.out := by
  have hrow : findRow 0x1081 1 = some ⟨0x1081, 0x1081, 1, 1, .u32, .l, 0, 2, 0, .oneOf [1280262987], 0xffffffff, 4⟩ := rfl
  have heff : ∀ (u : State) (a : Acc), a.idx = 0x1081 → a.sub = 1 →
      u.liveEffect a (storedVal ⟨0x1081, 0x1081, 1, 1, .u32, .l, 0, 2, 0, .oneOf [1280262987], 0xffffffff, 4⟩ 0x1081 1 0x4C4F434B) =
      { u.rewritten (key 0x1081 1) with locked := true } := by
    rintro u ⟨path, req, level, idx, sub⟩ rfl rfl
    rfl
  have hf := (Frame.accepted (parts := [.locked, .acc, .out]) (objs := accessObjects) s w).setLocked true
  refine completes_of_accepted (eff := fun u => { u with locked := true }) rfl hrow rfl (by decide) halone h heff
    (hf.up_eq.trans (State.up_of_accepted h)) hf ⟨?_, ?_⟩
  · rw [State.ended_locked]; rfl
  · rw [State.ended_out]; exact List.mem_cons_self ..

theorem lockFreezesClassK : Claims.LockFreezesClassK := fun _ w halone =>
  ⟨lockRequest_completes w halone, fun _ _ o ty _ hserved hlocked hr hcls hopen hlevel =>
    dictWrite_locked o ty halone hserved hlocked hr hcls hopen hlevel⟩

/-! ### The descriptor query -/

theorem storedVal_u32 {r : Row} {idx sub n : Nat} (hr : findRow idx sub = some r) (hty : r.ty = .u32) (hmask : r.mask = 0xffffffff)
    (hn : n < 2 ^ 32) : storedVal r idx sub n = .num n := by
  simp only [storedVal, operand, hr, hty, octetsVal, maskVal, hmask, leNat_leBytes, tyLen]
  rw [Nat.mod_eq_of_lt (by omega), show (0xffffffff : Nat) = 2 ^ 32 - 1 from rfl, Nat.and_two_pow_sub_one_of_lt_two_pow hn]

theorem State.ended_query (s u : State) (p : Nat) : ((s.ended u).path p).query = (u.path p).query :=
  by
  have hquiet : (quietPath (u.alertSync.path p)).query = (quietPath (u.path p)).query := by rw [quietPath_alertSync]
  exact hquiet

theorem State.answered_path (s : State) (w : Who) (p : Nat) : (s.answered w).path p = s.path p := rfl

theorem State.closeIdle_query (s : State) (p q : Nat) : ((s.closeIdle p).path q).query = (s.path q).query := by
  unfold State.closeIdle
  split
  · split
    · show ((s.setPath p _).path q).query = _
      rw [State.path_setPath]
      split
      · next hq => rw [hq]
      · rfl
    · rfl
  · rfl

/-- Acceptance leaves the query of every path (R236). -/
theorem State.accepted_query (s : State) (w : Who) (q : Nat) : ((s.accepted w).path q).query = (s.path q).query := by
  have hclosed := s.closeIdle_query (pathNo w.path) q
  unfold State.accepted State.accept
  generalize s.closeIdle (pathNo w.path) = u at hclosed ⊢
  show ((u.setPath (pathNo w.path) _).path q).query = _
  rw [State.path_setPath, ← hclosed]
  split
  · next hq =>
    rw [hq]
    repeat' split
    all_goals rfl
  · rfl

/-- A lone device ends an accepted write of class L with the effect of its own access, its count and its answer. -/
theorem completes_of_access {c : Instr} {s u : State} {w : Who} {idx sub n : Nat} {r : Row} {parts : List Part} {objs : List (Nat × Nat)}
    {P : State → Prop} (hc : exec c s = s.ends (s.writeNum w idx sub n)) (hr : findRow idx sub = some r) (hl : r.cls = .l)
    (hx : ¬ (idx = 0x1010 ∧ sub = 3)) (halone : Alone s) (h : Accepted s w idx sub n)
    (heff : (s.accepted w).liveEffect (s.access w idx sub) (storedVal r idx sub n) = u) (hf : Frame parts objs s u)
    (hP : P (s.ended (u.answered w))) (hboot : .boot ∉ parts := by decide) (hpair : .pair ∉ parts := by decide)
    (hcoh : .coh ∉ parts := by decide) (hout : .out ∈ parts := by decide) (ho : (0xF000, 3) ∈ objs := by decide) : Completes c s parts objs P := by
  have hlive : s.writeNum w idx sub n = (if (u.bump 0xF000 3 1).up then u.answered w else u.bump 0xF000 3 1).settle := by
    rw [← heff]
    exact State.writeNum_live hr hl hx h
  have hup : (u.bump 0xF000 3 1).up = true := (hf.up_eq hboot).trans (State.up_of_accepted h)
  have hans := hf.answered w hout ho
  refine completes_of_frame ?_ hans hP
  rw [hc, hlive, if_pos hup, hans.settle_eq halone hpair hcoh]

/-- The path names an object, and keeps all else (R236). -/
def State.queried (s : State) (p v : Nat) : State := s.setPath p { s.path p with query := v }

theorem State.queried_query (s : State) (p v q : Nat) : ((s.queried p v).path q).query = if q = p then v else (s.path q).query := by
  unfold State.queried
  rw [State.path_setPath]
  split <;> rfl

theorem State.liveEffect_query {a : Acc} (hidx : a.idx = 0x1083) (hsub : a.sub = 1) (s : State) (v : Nat) :
    s.liveEffect a (.num v) = (s.rewritten (key 0x1083 1)).queried a.path v := by
  obtain ⟨path, req, level, idx, sub⟩ := a
  subst hidx hsub
  rfl

theorem descriptorQueryIsHeldPerPath : Claims.DescriptorQueryIsHeldPerPath := by
  intro s w v halone h
  have ⟨_, _, hgood, _⟩ := h
  have hrow : findRow 0x1083 1 = some ⟨0x1083, 0x1083, 1, 1, .u32, .l, 0, 0, 0, .any, 0xffffffff, 4⟩ := rfl
  have heff : (s.accepted w).liveEffect (s.access w 0x1083 1)
      (storedVal ⟨0x1083, 0x1083, 1, 1, .u32, .l, 0, 0, 0, .any, 0xffffffff, 4⟩ 0x1083 1 v.toNat) =
      (s.accepted w).queried (pathNo w.path) v.toNat := by
    rw [storedVal_u32 hrow rfl rfl v.isLt, State.liveEffect_query rfl rfl, State.rewritten_eq ((s.knownBad_accepted w 0x1083 1).trans hgood)]
    rfl
  have hquery : ∀ q, ((s.ended (((s.accepted w).queried (pathNo w.path) v.toNat).answered w)).path q).query =
      if q = pathNo w.path then v.toNat else (s.path q).query := fun q => by
    rw [State.ended_query, State.answered_path, State.queried_query, State.accepted_query]
  refine completes_of_access rfl hrow rfl (by decide) halone h heff ((Frame.accepted s w).setPath _ _) ⟨?_, fun q hq => ?_⟩
  · rw [hquery, if_pos rfl]
  · rw [hquery, if_neg hq]

/-- Settles O17: the lock is seen by the check of the write's row before anything is staged, and the query of a path is kept by acceptance
and by what follows the command. -/
theorem lockAndDescriptorQuery : Obligations.LockAndDescriptorQuery := ⟨lockFreezesClassK, descriptorQueryIsHeldPerPath⟩

end Sys2Proof.Machine
end

section
/-! PROOF. The diagnostic clear (R240) and the scrub of the dictionary store (R243, R245). -/
set_option Elab.async false
namespace Sys2Proof.Machine

/-! ### The diagnostic clear -/

/-- A map cut down by its keys lists what it listed at the keys that stay. -/
theorem mget_filter {α : Type} (p : Nat → Prop) [DecidablePred p] (m : Map α) (k : Nat) :
    mget (m.filter fun e => decide (p e.1)) k = if p k then mget m k else none := by
  induction m with
  | nil => simp [mget]
  | cons e m ih =>
    obtain ⟨j, v⟩ := e
    by_cases hj : p j
    · rw [List.filter_cons_of_pos (by simpa using hj)]
      by_cases hk : k = j
      · subst hk; simp [mget, hj]
      · simp [mget, hk, ih]
    · rw [List.filter_cons_of_neg (by simpa using hj), ih]
      by_cases hk : k = j
      · subst hk; simp [hj]
      · simp [mget, hk]

theorem State.clearDiag_z (s : State) {i : Nat} (a : Nat) (h : 0xF000 ≤ i) : s.clearDiag.z i a = 0 := by
  unfold State.clearDiag State.z
  dsimp only
  rw [mget_filter (fun k => k < key 0xF000 0), if_neg (by unfold key; omega)]

theorem State.clearDiag_val (s : State) {i a : Nat} (h : i < 0xF000) (ha : a < 256) : s.clearDiag.val i a = s.val i a := by
  unfold State.clearDiag State.val
  dsimp only
  rw [mget_filter (fun k => k < key 0xF000 0), if_pos (by unfold key; omega)]

/-- The clear changes the objects alone. -/
theorem Part.same_clearDiag {p : Part} {s u : State} (h : p.same s u) : p.same s u.clearDiag := by
  cases p <;> exact h

/-- An answer changes, beside a count, what has been handed outward alone. -/
theorem Part.same_answered {p : Part} {s u : State} (w : Who) (hp : p ≠ .out) (h : p.same s u) : p.same s (u.answered w) := by
  cases p with
  | out => exact absurd rfl hp
  | _ => exact h

/-- The state that an accepted diagnostic clear ends in, before what every command has in common at its end. -/
def State.diagCleared (s : State) (w : Who) : State := ((s.accepted w).clearDiag).answered w

/-- A diagnostic clear changes no part but the path that it comes on and what has been handed outward. -/
theorem State.diagCleared_part (s : State) (w : Who) {p : Part} (h : p ∉ [Part.acc, .out]) : p.same s (s.diagCleared w) := by
  have haccepted := (Frame.accepted (parts := [.acc, .out]) (objs := accessObjects) s w).part p h
  exact Part.same_answered w (ne_of_mem_of_not_mem (by decide) h).symm (Part.same_clearDiag haccepted)

theorem State.diagCleared_settle {s : State} (w : Who) (halone : Alone s) : (s.diagCleared w).settle = s.diagCleared w := by
  have hpair : (s.diagCleared w).pair = s.pair := s.diagCleared_part w (p := .pair) (by decide)
  have hcoh : (s.diagCleared w).coh = s.coh := s.diagCleared_part w (p := .coh) (by decide)
  have hsame : Alone (s.diagCleared w) := by
    unfold Alone
    rw [hpair, hcoh]
    exact halone
  exact (Frame.refl (parts := []) (objs := []) _).settle_eq hsame (by decide) (by decide)

/-- The clear leaves one count: that of its own write (R240). -/
theorem State.diagCleared_z (s : State) (w : Who) {i a : Nat} (hi : 0xF000 ≤ i) :
    (s.diagCleared w).z i a = if key i a = key 0xF000 3 then 1 else 0 := by
  rw [State.diagCleared, State.answered, State.emit_z, State.z_bump, State.clearDiag_z _ _ (le_refl _), State.clearDiag_z _ _ hi]
  rfl

theorem State.diagCleared_val (s : State) (w : Who) {i a : Nat} (hi : i < 0xF000) (ha : a < 256) : (s.diagCleared w).val i a = s.val i a := by
  have hkey : ∀ b < 256, ∀ j ≥ 0xF000, key i a ≠ key j b := fun b hb j hj heq => by
    have := ((key_inj ha hb).1 heq).1
    omega
  rw [State.diagCleared, State.answered_val _ _ (hkey 3 (by decide) 0xF000 (by decide)), State.clearDiag_val _ hi ha,
    State.accepted_val _ _ (hkey 3 (by decide) 0xF098 (by decide)) (hkey 1 (by decide) 0xF000 (by decide))]

theorem diagnosticClearZeroesTheCounters : Claims.DiagnosticClearZeroesTheCounters := by
  intro s w halone h
  have hrow : findRow 0xF0FF 0 = some ⟨0xF0FF, 0xF0FF, 0, 0, .u32, .l, 0, 2, 0, .oneOf [1145261138], 0xffffffff, 4⟩ := rfl
  have heff : ∀ (u : State) (a : Acc), a.idx = 0xF0FF → a.sub = 0 →
      u.liveEffect a (storedVal ⟨0xF0FF, 0xF0FF, 0, 0, .u32, .l, 0, 2, 0, .oneOf [1145261138], 0xffffffff, 4⟩ 0xF0FF 0 0x44434C52) =
      (u.rewritten (key 0xF0FF 0)).clearDiag := by
    rintro u ⟨path, req, level, idx, sub⟩ rfl rfl
    rfl
  have hup : ((s.accepted w).clearDiag).up = true :=
    ((Frame.accepted (parts := [.acc]) (objs := accessObjects) s w).up_eq).trans (State.up_of_accepted h)
  have hexec : exec (.diagnosticClear w 0x44434C52#32) s = s.ends (s.diagCleared w) := by
    show s.ends (s.writeNum w 0xF0FF 0 0x44434C52) = _
    rw [State.writeNum_effect hrow rfl (by decide) h heff hup]
    exact congrArg s.ends (s.diagCleared_settle w halone)
  refine completesWithin_of_ends hexec (fun p hp => s.diagCleared_part w hp) ⟨fun i a hi ha hwrites hasserted => ?_, ?_, fun i a hi ha => ?_⟩
  · show (s.ended (s.diagCleared w)).z i a = 0
    have hcount : key i a ≠ key 0xF000 3 := fun heq => hwrites (Prod.ext_iff.2 ((key_inj ha (by decide)).1 heq))
    have hpin : key i a ≠ key 0xF018 17 := fun heq => hasserted (Prod.ext_iff.2 ((key_inj ha (by decide)).1 heq))
    rw [State.ended_z _ _ hpin, State.diagCleared_z _ _ hi, if_neg hcount]
  · show (s.ended (s.diagCleared w)).z 0xF000 3 = 1
    rw [State.ended_z, State.diagCleared_z _ _ (le_refl _), if_pos rfl]
  · show (s.ended (s.diagCleared w)).val i a = s.val i a
    rw [State.ended_val _ _ (by unfold key; omega), State.diagCleared_val _ _ hi ha]

/-! ### The scrub -/

/-- No value takes more words than a word's number has places for. -/
theorem storeWords_le {h : Nat} : ∀ r ∈ rowsOf h, storeWords r ≤ 1024 := by
  unfold rowsOf
  split <;> decide +kernel

theorem storeWords_le_of_findRow {idx sub : Nat} {r : Row} (h : findRow idx sub = some r) : storeWords r ≤ 1024 :=
  storeWords_le r (List.mem_of_find?_eq_some h)

/-- A word's number tells the object whose value it belongs to. -/
theorem State.knownBad_of_mem {s : State} {idx sub word : Nat} (hword : word < 1024) (h : key idx sub * 1024 + word ∈ s.badWords) :
    s.knownBad idx sub = true :=
  List.any_eq_true.2 ⟨_, h, decide_eq_true (by omega)⟩

theorem storeScrub_single {s : State} (idx sub : Nat) (hfast : s.mgtFast = true) :
    Completes (.storeScrub [.single idx sub]) s [] [(0xF000, 9)] fun t => t.z 0xF000 9 = min (s.z 0xF000 9 + 1) (2 ^ 32 - 1) := by
  have hexec : exec (.storeScrub [.single idx sub]) s = s.ends (s.bump 0xF000 9 1) :=
    congrArg s.ends (if_pos (State.mgtUp_of_mgtFast hfast))
  refine completes_of_frame hexec ((Frame.refl s).bump 0xF000 9 1) ?_
  rw [State.ended_z, State.z_bump, if_pos rfl]

/-- A word of the store is known to be bad (R245). -/
def State.wordLost (s : State) (k : Nat) : State := { s with badWords := s.badWords ++ [k] }

theorem Frame.wordLost {parts : List Part} {objs : List (Nat × Nat)} {s u : State} (h : Frame parts objs s u) (k : Nat)
    (hm : .badWords ∈ parts := by decide) : Frame parts objs s (u.wordLost k) := h.setBadWords _ hm

theorem State.scrubFinds_double (s : State) (idx sub word : Nat) : s.scrubFinds (.double idx sub word) =
    if s.mgtUp && (findRow idx sub).any fun r => decide (word < storeWords r) then s.storeDouble (key idx sub * 1024 + word) else s := rfl

theorem State.storeDouble_new {s : State} {k : Nat} (h : s.badWords.contains k = false) : s.storeDouble k = (s.wordLost k).setCause 3 1 := by
  unfold State.storeDouble
  exact if_neg (by rw [h]; exact Bool.false_ne_true)

theorem State.storeDouble_known {s : State} {k : Nat} (h : s.badWords.contains k = true) : s.storeDouble k = s := if_pos h

/-- An uncorrectable word that is new is noted, and STORE tells it (R245). -/
theorem storeScrub_double {s : State} {idx sub word : Nat} {r : Row} (hfast : s.mgtFast = true) (hr : findRow idx sub = some r)
    (hword : word < storeWords r) (hnew : s.badWords.contains (key idx sub * 1024 + word) = false) :
    Completes (.storeScrub [.double idx sub word]) s [.badWords, .latch] (causeObjects 3) fun t =>
      t.badWords = s.badWords ++ [key idx sub * 1024 + word] ∧ t.knownBad idx sub = true ∧ t.z 0x2104 0 = s.z 0x2104 0 ||| 2 := by
  have hexec : exec (.storeScrub [.double idx sub word]) s =
      s.ends ((s.wordLost (key idx sub * 1024 + word)).setCause 3 1) := by
    show s.ends (s.scrubFinds (.double idx sub word)) = _
    rw [State.scrubFinds_double, if_pos (by simp [State.mgtUp_of_mgtFast hfast, hr, hword]), State.storeDouble_new hnew]
  have hbad : (s.ended ((s.wordLost (key idx sub * 1024 + word)).setCause 3 1)).badWords =
      s.badWords ++ [key idx sub * 1024 + word] := (State.alertSync_badWords _).trans (State.setCause_badWords ..)
  refine completes_of_frame hexec (((Frame.refl s).wordLost _).setCause 3 1) ⟨hbad, ?_, ?_⟩
  · exact State.knownBad_of_mem (hword.trans_le (storeWords_le_of_findRow hr)) (by rw [hbad]; simp)
  · rw [State.ended_z]
    exact State.setCause_z (s := s.wordLost _) (br := 3) 1 (by decide) hfast

/-- A word that is known bad is told no second time (R245). -/
theorem storeScrub_known {s : State} {idx sub word : Nat} (hold : s.badWords.contains (key idx sub * 1024 + word) = true) :
    Completes (.storeScrub [.double idx sub word]) s [] [] fun t => t.badWords = s.badWords := by
  have hexec : exec (.storeScrub [.double idx sub word]) s = s.ends s := by
    show s.ends (s.scrubFinds (.double idx sub word)) = _
    rw [State.scrubFinds_double, State.storeDouble_known hold, ite_self]
  exact completes_of_frame hexec (Frame.refl s) (State.alertSync_badWords s)

theorem scrubFindsUpsets : Claims.ScrubFindsUpsets := fun _ idx sub _ hfast =>
  ⟨storeScrub_single idx sub hfast, fun _ hr hword hnew => storeScrub_double hfast hr hword hnew, storeScrub_known⟩

/-- Settles O19: the clear keeps the objects below F000h and leaves the count of its own write alone; a word's number tells its object, so a
new bad word is known at once, and one known before changes nothing. -/
theorem diagnosticsAndScrub : Obligations.DiagnosticsAndScrub := ⟨diagnosticClearZeroesTheCounters, scrubFindsUpsets⟩

end Sys2Proof.Machine
end

section
/-! PROOF. The access part across the end of a command, and the TAP with its JTAG mailbox (R284-R286). -/
set_option Elab.async false
namespace Sys2Proof.Machine

/-! ### The access part -/

theorem Frame.setAcc {parts : List Part} {objs : List (Nat × Nat)} {s u : State} (h : Frame parts objs s u) (x : Access)
    (hm : .acc ∈ parts := by decide) : Frame parts objs s { u with acc := x } := by
  refine ⟨fun p hp => ?_, h.val⟩
  cases p with
  | acc => exact absurd hm hp
  | _ => exact h.part _ hp

/-- The end of a command keeps the access part but for the paths. -/
theorem State.ended_access {β : Type} (s u : State) (g : Access → β) (hg : ∀ a, g { a with path := [] } = g a := by exact fun _ => rfl) :
    g (s.ended u).acc = g u.acc :=
  calc g (s.ended u).acc = g { u.alertSync.acc with path := [] } := (hg _).symm
    _ = g { u.acc with path := [] } := congrArg g u.alertSync_accRest
    _ = g u.acc := hg _

/-- The end of a command keeps a path but for what the ALERT frames are to tell (R264). -/
theorem State.ended_path {β : Type} (s u : State) (p : Nat) (g : PathSt → β) (hg : ∀ x, g (quietPath x) = g x := by exact fun _ => rfl) :
    g ((s.ended u).path p) = g (u.path p) :=
  calc g ((s.ended u).path p) = g (quietPath (u.alertSync.path p)) := (hg _).symm
    _ = g (quietPath (u.path p)) := congrArg g (quietPath_alertSync u p)
    _ = g (u.path p) := hg _

/-! ### The instructions of the TAP -/

/-- An instruction that selects the boundary register (R284). -/
theorem completes_of_boundaryScan {c : Instr} {s : State} {ir : Nat} {scan : Octets} (hc : exec c s = s.ends (s.boundaryScan ir scan)) :
    Completes c s [.acc, .out, .free] [] fun t =>
      t.acc.tapIr = ir ∧ t.acc.boundary = leBytes 12 (leAt scan 0 12 % 2 ^ 90) ∧ ∃ n, n < 2 ^ 90 ∧ t.out = .tdo n 90 :: s.out := by
  have hf : Frame [.acc, .out, .free] [] s (s.boundaryScan ir scan) :=
    Frame.drawn (Frame.setAcc (Frame.emit (Frame.setAcc (Frame.refl s) _) _) _)
  refine completes_of_frame hc hf ⟨?_, ?_, s.freeVal % 2 ^ 90, Nat.mod_lt _ (by decide), ?_⟩
  · exact s.ended_access _ Access.tapIr
  · exact s.ended_access _ Access.boundary
  · exact s.ended_out _

/-- An instruction that selects a register of another kind: the register leaves as it was captured (R284). -/
theorem completes_of_tapLoad {c : Instr} {s : State} {ir n w : Nat} (hc : exec c s = s.ends ((s.tapLoad ir).emit (.tdo n w))) :
    Completes c s [.acc, .out] [] fun t => t.acc.tapIr = ir ∧ t.out = .tdo n w :: s.out :=
  completes_of_frame hc (Frame.emit (Frame.setAcc (Frame.refl s) _) _) ⟨s.ended_access _ Access.tapIr, s.ended_out _⟩

theorem State.tapBypass_undefined {c : Nat} (s : State) (h : tapCode c = false) : s.tapBypass c = s.bypassScan c :=
  if_neg (Bool.not_eq_true _ ▸ h)

/-- A scan of the network: what it hands outward (R285). -/
def State.jtagShown (s : State) : Output := if s.acc.sib then .tdo (2 * s.jtagWord + 1) 41 else .tdo 0 1

theorem State.jtagCapture_eq (s : State) : s.jtagCapture = s.emit s.jtagShown := by
  unfold State.jtagCapture State.jtagShown
  split <;> rfl

theorem ijtagAccess_completes (s : State) (sib : Bool) : Completes (.ijtagAccess sib) s [.acc, .out] [] fun t =>
    t.acc.tapIr = 0x10 ∧ t.acc.sib = sib ∧ t.out = (if s.acc.sib then .tdo (2 * s.jtagWord + 1) 41 else .tdo 0 1) :: s.out := by
  have hscan : exec (.ijtagAccess sib) s =
      s.ends { (s.tapLoad 0x10).emit s.jtagShown with acc := { (s.tapLoad 0x10).acc with sib := sib } } := by
    show s.ends (s.ijtag sib) = _
    unfold State.ijtag
    rw [State.jtagCapture_eq]
    rfl
  exact completes_of_frame hscan (Frame.setAcc (Frame.emit (Frame.setAcc (Frame.refl s) _) _) _)
    ⟨s.ended_access _ Access.tapIr, s.ended_access _ Access.sib, s.ended_out _⟩

theorem tapReset_completes (s : State) : Completes .tapReset s [.acc] [] fun t => t.acc.tapIr = 1 ∧ t.acc.sib = false :=
  completes_of_frame (u := s.tapReset) rfl (Frame.setAcc (Frame.refl s) _) ⟨s.ended_access _ Access.tapIr, s.ended_access _ Access.sib⟩

theorem tapInstructionsSelectRegisters : Claims.TapInstructionsSelectRegisters := fun s =>
  ⟨fun _ => completes_of_boundaryScan rfl, fun _ => completes_of_boundaryScan rfl, completes_of_tapLoad rfl, completes_of_tapLoad rfl,
    completes_of_tapLoad rfl, fun _ hcode => completes_of_tapLoad (congrArg s.ends (s.tapBypass_undefined hcode)),
    ijtagAccess_completes s, tapReset_completes s⟩

/-! ### The JTAG mailbox -/

/-- One scan of the mailbox register, with its segment in the scan path: what it shows leaves, and Update-DR acts (R285). -/
theorem State.jtagScan_open {s : State} (h : s.jtagOpen = true) (f : State → State) :
    s.jtagScan f = f (s.emit (.tdo (2 * s.jtagWord + 1) 41)) := by
  have hsib : s.acc.sib = true := by
    unfold State.jtagOpen at h
    exact (Bool.and_eq_true_iff.1 h).2
  unfold State.jtagScan
  rw [if_pos h, State.jtagCapture_eq, State.jtagShown, if_pos hsib]

/-- A scan whose Update-DR changes the access part alone. -/
theorem completes_of_jtagScan {c : Instr} {s : State} {f : State → State} {x : Access} {P : State → Prop} (hopen : s.jtagOpen = true)
    (hc : exec c s = s.ends (s.jtagScan f))
    (hf : f (s.emit (.tdo (2 * s.jtagWord + 1) 41)) = { s.emit (.tdo (2 * s.jtagWord + 1) 41) with acc := x })
    (hP : P (s.ended { s.emit (.tdo (2 * s.jtagWord + 1) 41) with acc := x })) : Completes c s [.acc, .out] [] P := by
  refine completes_of_frame ?_ (Frame.setAcc (Frame.emit (Frame.refl s) _) x) hP
  rw [hc, State.jtagScan_open hopen, hf]

theorem State.jtagRelease_path (s : State) : s.jtagRelease.path 4 = { s.path 4 with xfer := none, session := none, challenge := none } := by
  unfold State.jtagRelease State.closeSession State.setXfer
  simp only [State.path_setPath, if_true]
  rfl

theorem jtagRelease_completes {s : State} (hopen : s.jtagOpen = true) : Completes .jtagRelease s [.acc, .out] [] fun t =>
    t.acc.jtagState = 0 ∧ (t.path 4).xfer = none ∧ (t.path 4).session = none ∧ (t.path 4).challenge = none ∧
      t.out = .tdo (2 * s.jtagWord + 1) 41 :: s.out := by
  have hpath := (s.emit (.tdo (2 * s.jtagWord + 1) 41)).jtagRelease_path
  refine completes_of_jtagScan (f := State.jtagRelease) hopen rfl rfl ⟨s.ended_access _ Access.jtagState, ?_, ?_, ?_, s.ended_out _⟩
  · exact (s.ended_path _ 4 PathSt.xfer).trans (congrArg PathSt.xfer hpath)
  · exact (s.ended_path _ 4 PathSt.session).trans (congrArg PathSt.session hpath)
  · exact (s.ended_path _ 4 PathSt.challenge).trans (congrArg PathSt.challenge hpath)

theorem jtagMailboxCommands : Claims.JtagMailboxCommands := by
  intro s hopen
  refine ⟨fun addr data => ?_, fun addr => ?_, ?_, jtagRelease_completes hopen, fun reqlen => ?_⟩
  · exact completes_of_jtagScan (f := fun s => s.jtagWrite addr.toNat data.toNat) hopen rfl rfl
      ⟨s.ended_access _ Access.jtagReq, s.ended_out _⟩
  · exact completes_of_jtagScan (f := fun s => s.jtagSelect addr.toNat) hopen rfl rfl ⟨s.ended_access _ Access.jtagSel, s.ended_out _⟩
  · exact completes_of_jtagScan (f := fun s => s.jtagSelect 64) hopen rfl rfl ⟨s.ended_access _ Access.jtagSel, s.ended_out _⟩
  · have hscan : exec (.jtagDoorbell reqlen) s =
        s.ends ((s.emit (.tdo (2 * s.jtagWord + 1) 41)).jtagSubmit reqlen.toNat) :=
      congrArg s.ends (State.jtagScan_open hopen fun s => s.jtagSubmit reqlen.toNat)
    exact ⟨_, hscan, rfl⟩

/-- Settles O32: each instruction changes the access part and hands its captured register outward; with the segment in the scan path each
scan first hands the mailbox register outward, and Update-DR then changes the access part or submits the request. -/
theorem tapAndJtagMailbox : Obligations.TapAndJtagMailbox := ⟨tapInstructionsSelectRegisters, jtagMailboxCommands⟩

end Sys2Proof.Machine
end

section
/-! PROOF. EOP frames (R251-R263): a frame that is heard is handled by its command alone, and what the device answers leaves on the carrier
of the request. -/
set_option Elab.async false
namespace Sys2Proof.Machine

/-! ### What the device sends -/

/-- What a frame says of an object's number. -/
theorem Frame.n_eq {parts : List Part} {objs : List (Nat × Nat)} {s u : State} {i a : Nat} (h : Frame parts objs s u) (ha : a < 256 := by decide)
    (ho : (i, a) ∉ objs := by decide) (h17 : (i, a) ≠ (0xF018, 17) := by decide) : u.n i a = s.n i a := congrArg valNum (h.val i a ha ho h17)

/-- What a frame says of the objects of an index that it does not name. -/
theorem Frame.val_of_index {parts : List Part} {objs : List (Nat × Nat)} {s u : State} (h : Frame parts objs s u) {i a : Nat}
    (ho : ∀ x ∈ objs, x.1 ≠ i) (ha : a < 256 := by decide) (h18 : i ≠ 0xF018 := by decide) : u.val i a = s.val i a :=
  h.val i a ha (fun hmem => ho _ hmem rfl) fun heq => h18 (congrArg Prod.fst heq)

section
variable {parts : List Part} {objs : List (Nat × Nat)} {s u : State}

/-- The device's own address depends on its role and on its network objects (R277). -/
theorem Frame.ownIp (h : Frame parts objs s u) (hpair : .pair ∉ parts := by decide)
    (ho : ∀ x ∈ objs, x.1 ≠ 0x1110 ∧ x.1 ≠ 0x8010 := by decide) : u.ownIp = s.ownIp := by
  have hrole : u.pair = s.pair := h.part _ hpair
  unfold State.ownIp State.n
  rw [hrole, h.val_of_index fun x hx => (ho x hx).2, h.val_of_index fun x hx => (ho x hx).1]

/-- Toward which hops the device sends depends on its role and on its network objects (R277). -/
theorem Frame.nextHop (h : Frame parts objs s u) (hpair : .pair ∉ parts := by decide)
    (ho : ∀ x ∈ objs, x.1 ≠ 0x1110 ∧ x.1 ≠ 0x8010 := by decide) : u.nextHop = s.nextHop := by
  have hval : ∀ a, a < 256 → u.val 0x1110 a = s.val 0x1110 a := fun a ha => h.val_of_index (fun x hx => (ho x hx).1) ha
  have hsubnet : u.inSubnet = s.inSubnet := by
    funext ip
    unfold State.inSubnet State.n
    rw [h.ownIp hpair ho, hval 4 (by decide)]
  funext ip
  unfold State.nextHop
  rw [hsubnet, State.z_of_val (hval 5 (by decide)) rfl]

end

/-- The objects that a frame of the device may change: the count of the CAN frames sent, and the delay measured with one (R239, 1103h:4). -/
def sendObjects : List (Nat × Nat) := [(0xF008, 2), (0x1103, 4)]

section
variable {parts : List Part} {objs : List (Nat × Nat)} {s u : State}

theorem Frame.sendCan (h : Frame parts objs s u) (id : Nat) (fd brs : Bool) (o : Octets) (hout : .out ∈ parts := by decide)
    (hfree : .free ∈ parts := by decide) (ho : ∀ x ∈ sendObjects, x ∈ objs := by decide) : Frame parts objs s (u.sendCan id fd brs o) := by
  have hsent := (h.bump 0xF008 2 1 (ho _ (by decide))).emit (.can id fd brs (octAt o 0 (dlcLen o.length))) hout
  exact Frame.ite (Frame.ite ((hsent.put 0x1103 4 _ (ho _ (by decide))).drawn hfree) hsent) h

theorem Frame.sendIp (h : Frame parts objs s u) (d : Datagram) (hacc : .acc ∈ parts := by decide) (hout : .out ∈ parts := by decide) :
    Frame parts objs s (u.sendIp d) := by
  refine Frame.ite h ?_
  split
  · exact h
  · split
    · exact h.emit _ hout
    · exact (h.setAcc _ hacc).emit _ hout

theorem Frame.reply (h : Frame parts objs s u) (c : Carrier) (o : Octets) (hacc : .acc ∈ parts := by decide) (hout : .out ∈ parts := by decide)
    (hfree : .free ∈ parts := by decide) (ho : ∀ x ∈ sendObjects, x ∈ objs := by decide) : Frame parts objs s (u.reply c o) := by
  cases c with
  | can => exact h.sendCan _ _ _ _ hout hfree ho
  | udp => exact h.sendIp _ hacc hout
  | mailbox => exact h.setAcc _ hacc
  | jtag => exact h.setAcc _ hacc

end

/-- A CAN frame leaves while the controller is on the bus (R272). -/
theorem State.sendCan_out {s : State} (h : s.acc.canState = 1 ∨ s.acc.canState = 2) (id : Nat) (fd brs : Bool) (o : Octets) :
    .can id fd brs (octAt o 0 (dlcLen o.length)) ∈ (s.sendCan id fd brs o).out := by
  unfold State.sendCan
  rw [if_pos h]
  dsimp only
  split
  · exact List.mem_cons_self ..
  · exact List.mem_cons_self ..

/-- A datagram leaves at once, or waits for its next hop (R276). -/
theorem State.sendIp_out {s : State} {d : Datagram} (hup : s.acc.netDown = false) (hhop : (s.nextHop d.dst).isSome = true) :
    .ip d true ∈ (s.sendIp d).out ∨ d ∈ (s.sendIp d).acc.arpWait := by
  obtain ⟨hop, hhop⟩ := Option.isSome_iff_exists.1 hhop
  unfold State.sendIp
  rw [if_neg (by rw [hup]; exact Bool.false_ne_true), hhop]
  dsimp only
  split
  · exact .inl (List.mem_cons_self ..)
  · exact .inr (List.mem_append_right _ (List.mem_singleton.2 rfl))

theorem State.sendCan_acc (s : State) (id : Nat) (fd brs : Bool) (o : Octets) : (s.sendCan id fd brs o).acc = s.acc := by
  unfold State.sendCan
  dsimp only
  split_ifs <;> rfl

theorem State.sendIp_path (s : State) (d : Datagram) (p : Nat) : (s.sendIp d).path p = s.path p := by
  unfold State.sendIp
  split
  · rfl
  · split
    · rfl
    · split <;> rfl

theorem State.reply_path (s : State) (c : Carrier) (o : Octets) (p : Nat) : (s.reply c o).path p = s.path p := by
  cases c with
  | can => exact congrArg (fun a : Access => mgetD a.path p {}) (State.sendCan_acc ..)
  | udp => exact s.sendIp_path _ p
  | mailbox => rfl
  | jtag => rfl

theorem State.reply_staged (s : State) (c : Carrier) (o : Octets) : (s.reply c o).staged = s.staged :=
  ((Frame.refl (parts := [.acc, .out, .free]) (objs := sendObjects) s).reply c o).part .staged (by decide)

/-- What is sent on the carrier of a request is its answer, as a state sends it that has the same network and the same bus. -/
theorem answered_reply {parts : List Part} {objs : List (Nat × Nat)} {v w : State} (s : State) (c : Carrier) (o : Octets)
    (h : Frame parts objs v w) (hcan : w.acc.canState = v.acc.canState) (hnet : w.acc.netDown = v.acc.netDown) (hpair : .pair ∉ parts := by decide)
    (ho : ∀ x ∈ objs, x.1 ≠ 0x1110 ∧ x.1 ≠ 0x8010 := by decide) : Answered c o v (s.ended (w.reply c o)) := by
  cases c with
  | can id ext fd brs =>
    intro hon
    rw [State.ended_out]
    exact State.sendCan_out (hcan ▸ hon) _ _ _ _
  | udp src dst sport dport clean =>
    intro hup hhop
    rw [State.ended_out, s.ended_access _ Access.arpWait]
    exact State.sendIp_out (hnet.trans hup) (by rw [h.nextHop hpair ho]; exact hhop)
  | mailbox => exact ⟨s.ended_access _ Access.response, s.ended_access _ Access.rspLen, s.ended_access _ Access.mbStatus⟩
  | jtag => exact ⟨s.ended_access _ Access.jtagRsp, s.ended_access _ Access.jtagRspLen, s.ended_access _ Access.jtagState⟩

/-! ### A frame that is heard -/

/-- The end of the handling on a path: a mailbox that has drawn no answer returns to IDLE (R281, R285). -/
def State.rested (s : State) (p : Nat) : State :=
  match p with
  | 3 => if s.acc.mbStatus = 1 then { s with acc := { s.acc with mbStatus := 0 } } else s
  | 4 => if s.acc.jtagState = 1 then { s with acc := { s.acc with jtagState := 0 } } else s
  | _ => s

theorem State.rested_reply (s : State) (c : Carrier) (o : Octets) : (s.reply c o).rested (carrierPath c) = s.reply c o := by
  cases c <;> rfl

theorem Frame.rested {parts : List Part} {objs : List (Nat × Nat)} {s u : State} (h : Frame parts objs s u) (p : Nat)
    (hm : .acc ∈ parts := by decide) : Frame parts objs s (u.rested p) := by
  unfold State.rested
  split
  · exact Frame.ite (h.setAcc _ hm) h
  · exact Frame.ite (h.setAcc _ hm) h
  · exact h

theorem State.rested_path (s : State) (p q : Nat) : (s.rested p).path q = s.path q := by
  unfold State.rested
  split
  · split <;> rfl
  · split <;> rfl
  · rfl

/-- The start of the handling on a path: a mailbox is BUSY (R281, R285). -/
def State.busy (s : State) (p : Nat) : State :=
  { s with acc := { s.acc with mbStatus := if p = 3 then 1 else s.acc.mbStatus, jtagState := if p = 4 then 1 else s.acc.jtagState } }

theorem State.busy_of_ne {p : Nat} (s : State) (h3 : p ≠ 3) (h4 : p ≠ 4) : s.busy p = s := by
  unfold State.busy
  rw [if_neg h3, if_neg h4]

theorem State.busy_busy (s : State) (p : Nat) : (s.busy p).busy p = s.busy p := by
  unfold State.busy
  dsimp only
  split_ifs <;> rfl

theorem State.rested_of_ne {p : Nat} (s : State) (h3 : p ≠ 3) (h4 : p ≠ 4) : s.rested p = s := by
  unfold State.rested
  split
  · exact absurd rfl h3
  · exact absurd rfl h4
  · rfl

theorem State.handleOn_of_ne {p : Nat} (s : State) (req : Nat) (c : Carrier) (o : Octets) (h3 : p ≠ 3) (h4 : p ≠ 4) :
    s.handleOn p req c o = s.handle p req c o := by
  unfold State.handleOn
  split
  · exact absurd rfl h3
  · exact absurd rfl h4
  · rfl

theorem State.handleOn_eq (s : State) (p req : Nat) (c : Carrier) (o : Octets) :
    s.handleOn p req c o = ((s.busy p).handle p req c o).rested p := by
  by_cases h3 : p = 3
  · subst h3; rfl
  · by_cases h4 : p = 4
    · subst h4; rfl
    · rw [s.handleOn_of_ne req c o h3 h4, s.busy_of_ne h3 h4, State.rested_of_ne _ h3 h4]

theorem State.setQueue_self {s : State} {l : List Request} (h : s.acc.queue = l) : { s with acc := { s.acc with queue := l } } = s := by
  rw [← h]

/-- Where nothing waits and the core is free, what is received is handled at once, whether it completes a request or not (R268). -/
theorem State.receive_free {s : State} {f : Sys2Proof.Frame} {p : Nat} (req : Nat) (hqueue : s.acc.queue = []) (hwaits : f.waits = false)
    (hlate : s.xferLate p = false) : s.receive f p req = ((s.busy p).handle p req f.via f.o).rested p := by
  have hdue : s.xferDue p = s := if_neg (Bool.not_eq_true _ ▸ hlate)
  have hserved : ∀ r : Request, State.serveQueue { s.busy p with acc := { (s.busy p).acc with queue := [r] } } 1 =
      (s.busy p).handleOn r.path r.req r.via r.o := fun r => by
    have hbusy : { s.busy p with acc := { (s.busy p).acc with queue := [] } } = s.busy p := State.setQueue_self hqueue
    simp only [State.serveQueue, firstRequest, List.erase_cons_head]
    exact congrArg (fun u : State => u.handleOn r.path r.req r.via r.o) hbusy
  unfold State.receive
  rw [hdue]
  dsimp only
  split
  · exact s.handleOn_eq ..
  · rw [hqueue, hwaits]
    refine (hserved _).trans (((s.busy p).handleOn_eq ..).trans ?_)
    rw [State.busy_busy]

theorem State.drops_free {s : State} {f : Sys2Proof.Frame} (hqueue : s.acc.queue = []) (hfull : f.queueFull = false) (hparity : f.parityOk = true) :
    s.drops f = false := by
  have hroom : s.queueFull (carrierPath f.via) = false := by
    unfold State.queueFull queueDepth
    rw [hqueue]
    split <;> rfl
  unfold State.drops
  rw [hroom, hfull, hparity]
  rfl

/-- A timer of MGT is told from the root of MGT and the real time (R10). -/
theorem State.late_mgt {s t : State} (hdom : t.dom .mgt = s.dom .mgt) (hnow : t.now = s.now) : t.late .mgt = s.late .mgt := by
  have hrate : t.clockRate .mgt = s.clockRate .mgt := by
    unfold State.clockRate
    rw [hdom]
    generalize (s.dom .mgt).src = src
    match src with
    | 0 => rfl
    | 1 => rfl
    | 2 => rfl
    | _ + 3 => rfl
  funext since limit
  unfold State.late State.cycle
  rw [hrate, hnow]

/-- A count of chapter 6 is no limit of a transfer. -/
theorem State.xferLate_bump (s : State) {p a : Nat} (hp : p < 256 := by decide) (ha : a < 256 := by decide) :
    (s.bump 0xF008 a 1).xferLate p = s.xferLate p := by
  have hlimit : (s.bump 0xF008 a 1).xferLimit p = s.xferLimit p := by
    unfold State.xferLimit State.n
    rw [State.val_bump _ _ _ _ _ _ fun heq => absurd ((key_inj hp ha).1 heq).1 (by decide)]
  have hlate : (s.bump 0xF008 a 1).late .mgt = s.late .mgt := State.late_mgt rfl rfl
  unfold State.xferLate
  rw [hlimit, hlate]
  rfl

/-- A CAN frame of another node for this one is received (R271). -/
theorem State.canFrame_taken {s : State} {f : Sys2Proof.Frame} {id : Nat} (hremote : f.remote = false) (hup : s.pathUp 1 = true)
    (hkind : bits id 24 5 = 0x1A) (hto : bits id 16 8 = 1) (hnode : bits id 8 8 = s.acc.canNode) (hnull : bits id 0 8 ≠ 0)
    (hall : bits id 0 8 ≠ 255) (hown : bits id 0 8 ≠ s.acc.canNode) (hroom : s.drops f = false) :
    s.canFrame f id true = (s.bump 0xF008 1 1).receive f 1 (bits id 0 8) := by
  simp [State.canFrame, hremote, hup, hkind, hto, hnode, hnull, hall, hown, hroom]

/-- A clean datagram for the device that can be answered is received (R276, R277). -/
theorem State.udpFrame_taken {s : State} {f : Sys2Proof.Frame} {src dst sport dport : Nat} (hup : s.pathUp 2 = true) (hdst : dst = s.ownIp)
    (hport : dport = s.n 0x1110 6) (hhop : (s.nextHop src).isSome = true) (hroom : s.drops f = false) :
    s.udpFrame f src dst sport dport true = (s.bump 0xF008 5 1).receive f 2 (src + sport * 2 ^ 32) := by
  simp [State.udpFrame, hup, hdst, hport, Option.isSome_iff_ne_none.1 hhop, hroom]

/-- A submission of the owner, whose claim stands, is received (R281). -/
theorem State.mailboxFrame_taken {s : State} {f : Sys2Proof.Frame} {q sid claim : Nat} (howner : s.acc.owner = some (q, sid, claim))
    (hup : s.pathUp 3 = true) (hadmitted : (s.port q).admitted = true) (hidle : s.acc.mbStatus ≠ 1)
    (hclaim : s.late .mgt s.acc.claimAt s.claimLimit = false) (hroom : s.drops f = false) :
    s.mailboxFrame f q sid = State.receive { s with acc := { s.acc with claimAt := s.now } } f 3 s.ownerWord := by
  have hdue : s.claimDue = s := by
    unfold State.claimDue
    rw [howner]
    exact if_neg (Bool.not_eq_true _ ▸ hclaim)
  unfold State.mailboxFrame
  rw [hdue]
  simp [howner, hup, hadmitted, hidle, hroom]

theorem State.jtagFrame_taken {s : State} {f : Sys2Proof.Frame} (hup : s.pathUp 4 = true) (hroom : s.drops f = false) :
    s.jtagFrame f = s.receive f 4 0 := by
  simp [State.jtagFrame, hup, hroom]

/-- A frame that is heard is handled in the state that it is heard in (R268, R271, R276, R281, R285). -/
theorem takeFrame_of_heard {s u : State} {f : Sys2Proof.Frame} {p req : Nat} (h : Heard s f p req u) :
    s.takeFrame f = ((u.handle p req f.via f.o).rested p).settle := by
  obtain ⟨hqueue, hwaits, hfull, hparity, hlate, h⟩ := h
  have hroom : s.drops f = false := State.drops_free hqueue hfull hparity
  unfold State.takeFrame
  refine congrArg State.settle ?_
  cases hvia : f.via with
  | can id ext fd brs =>
    rw [hvia] at h
    obtain ⟨hremote, hup, rfl, hkind, hto, hnode, hnull, hall, hown, rfl, rfl, rfl⟩ := h
    have hfree := State.receive_free (s := s.bump 0xF008 1 1) (bits id.toNat 0 8) hqueue hwaits (s.xferLate_bump.trans hlate)
    rw [State.busy_of_ne _ (by decide) (by decide), hvia] at hfree
    exact (State.canFrame_taken hremote hup hkind hto hnode hnull hall hown hroom).trans hfree
  | udp src dst sport dport clean =>
    rw [hvia] at h
    obtain ⟨hup, hdst, rfl, hport, hhop, rfl, rfl, rfl⟩ := h
    have hfree := State.receive_free (s := s.bump 0xF008 5 1) (src.toNat + sport.toNat * 2 ^ 32) hqueue hwaits (s.xferLate_bump.trans hlate)
    rw [State.busy_of_ne _ (by decide) (by decide), hvia] at hfree
    exact (State.udpFrame_taken hup hdst hport hhop hroom).trans hfree
  | mailbox q sid =>
    rw [hvia] at h
    obtain ⟨hup, hadmitted, howner, hidle, hclaim, rfl, rfl, rfl⟩ := h
    obtain ⟨⟨q', sid', claim⟩, howner, hsource⟩ := Option.map_eq_some_iff.1 howner
    obtain ⟨rfl, rfl⟩ := Prod.mk.inj hsource
    have hfree := State.receive_free (s := { s with acc := { s.acc with claimAt := s.now } }) s.ownerWord hqueue hwaits hlate
    rw [hvia] at hfree
    exact (State.mailboxFrame_taken howner hup hadmitted hidle hclaim hroom).trans hfree
  | jtag =>
    rw [hvia] at h
    obtain ⟨hup, rfl, rfl, rfl⟩ := h
    have hfree := State.receive_free 0 hqueue hwaits hlate
    rw [hvia] at hfree
    exact (State.jtagFrame_taken hup hroom).trans hfree

theorem carrierPath_of_heard {s u : State} {f : Sys2Proof.Frame} {p req : Nat} (h : Heard s f p req u) : carrierPath f.via = p := by
  obtain ⟨via, o, parityOk, queueFull, waits, remote⟩ := f
  obtain ⟨-, -, -, -, -, h⟩ := h
  cases via with
  | can =>
    obtain ⟨-, -, -, -, -, -, -, -, -, hp, -⟩ := h
    exact hp.symm
  | udp =>
    obtain ⟨-, -, -, -, -, hp, -⟩ := h
    exact hp.symm
  | mailbox =>
    obtain ⟨-, -, -, -, -, hp, -⟩ := h
    exact hp.symm
  | jtag =>
    obtain ⟨-, hp, -⟩ := h
    exact hp.symm

/-- The counts of the frames taken (F008h:1, F008h:5). -/
def heardObjects : List (Nat × Nat) := [(0xF008, 1), (0xF008, 5)]

/-- What is heard has been counted, and its mailbox is BUSY; nothing else has happened yet. -/
theorem frame_of_heard {s u : State} {f : Sys2Proof.Frame} {p req : Nat} (h : Heard s f p req u) : Frame [.acc] heardObjects s u := by
  obtain ⟨via, o, parityOk, queueFull, waits, remote⟩ := f
  obtain ⟨-, -, -, -, -, h⟩ := h
  cases via with
  | can =>
    obtain ⟨-, -, -, -, -, -, -, -, -, -, -, rfl⟩ := h
    exact (Frame.refl s).bump 0xF008 1 1
  | udp =>
    obtain ⟨-, -, -, -, -, -, -, rfl⟩ := h
    exact (Frame.refl s).bump 0xF008 5 1
  | mailbox =>
    obtain ⟨-, -, -, -, -, -, -, rfl⟩ := h
    exact (Frame.refl s).setAcc _
  | jtag =>
    obtain ⟨-, -, -, rfl⟩ := h
    exact (Frame.refl s).setAcc _

theorem now_of_heard {s u : State} {f : Sys2Proof.Frame} {p req : Nat} (h : Heard s f p req u) : u.now = s.now :=
  (frame_of_heard h).part .now (by decide)

theorem staged_of_heard {s u : State} {f : Sys2Proof.Frame} {p req : Nat} (h : Heard s f p req u) : u.staged = s.staged :=
  (frame_of_heard h).part .staged (by decide)

/-- A command that is an EOP frame. -/
def IsFrame (c : Instr) (f : Sys2Proof.Frame) : Prop := ∀ s, exec c s = s.ends (s.takeFrame f)

/-- A frame that draws an answer of a lone device: the answer leaves on the carrier of the frame, and the command ends. -/
theorem exec_answered {c : Instr} {s u w : State} {f : Sys2Proof.Frame} {p req : Nat} {o : Octets} (hc : IsFrame c f) (h : Heard s f p req u)
    (hw : u.handle p req f.via f.o = w.reply f.via o) (ha : Alone w) : exec c s = .next (s.ended (w.reply f.via o)) := by
  have hrest : (w.reply f.via o).rested p = w.reply f.via o := carrierPath_of_heard h ▸ w.rested_reply f.via o
  have hsettle : (w.reply f.via o).settle = w.reply f.via o :=
    ((Frame.refl (parts := [.acc, .out, .free]) (objs := sendObjects) w).reply f.via o).settle_eq ha (by decide) (by decide)
  rw [hc, takeFrame_of_heard h, hw, hrest, hsettle]
  rfl

/-! ### The handling of each frame (Table 6.2) -/

section
variable {s : State} {c : Carrier} {o : Octets} {p req : Nat}

theorem malformed_read (hcmd : leAt o 0 1 = 0x10) (hlen : 4 ≤ o.length) : malformed c o = false := by
  simp [malformed, hcmd, hlen]

theorem malformed_write (hcmd : leAt o 0 1 / 16 = 3) (hpar : leAt o 0 1 % 16 ≠ 0) (hlen : 4 + leAt o 0 1 % 16 ≤ o.length) :
    malformed c o = false := by
  simp [malformed, hcmd, hpar, hlen]

theorem malformed_segWriteStart (hcmd : leAt o 0 1 = 0x60) (hlen : 6 ≤ o.length) (hlo : 1 ≤ leAt o 4 2) (hhi : leAt o 4 2 ≤ 4096) :
    malformed c o = false := by
  have hne : leAt o 4 2 ≠ 0 := by omega
  simp [malformed, hcmd, hlen, hne, hhi]

theorem malformed_segReq (hcmd : leAt o 0 1 / 16 = 9) (hlen : 1 ≤ o.length) : malformed c o = false := by
  have hne : o ≠ [] := List.ne_nil_of_length_pos hlen
  simp [malformed, hcmd, hne]

theorem malformed_abort (hcmd : leAt o 0 1 = 0xF0) (hlen : 6 ≤ o.length) : malformed c o = false := by
  simp [malformed, hcmd, hlen]

theorem State.handle_read (hgood : malformed c o = false) (hcmd : leAt o 0 1 / 16 = 1) :
    s.handle p req c o = s.eopRead p req c (leAt o 2 2) (leAt o 1 1) := by
  simp [State.handle, hgood, hcmd]

theorem State.handle_write (hgood : malformed c o = false) (hcmd : leAt o 0 1 / 16 = 3) :
    s.handle p req c o = s.eopWrite p req c (leAt o 2 2) (leAt o 1 1) (octAt o 4 (leAt o 0 1 % 16)) := by
  simp [State.handle, hgood, hcmd]

theorem State.handle_segWriteStart (hgood : malformed c o = false) (hcmd : leAt o 0 1 / 16 = 6) :
    s.handle p req c o = s.segStartFrame p req c (leAt o 2 2) (leAt o 1 1) (leAt o 4 2) := by
  simp [State.handle, hgood, hcmd]

theorem State.handle_seg (hgood : malformed c o = false) (hcmd : leAt o 0 1 / 16 = 7) :
    s.handle p req c o = s.segIn p req c (leAt o 0 1 % 16) (octAt o 2 (leAt o 1 1)) := by
  simp [State.handle, hgood, hcmd]

theorem State.handle_segReq (hgood : malformed c o = false) (hcmd : leAt o 0 1 / 16 = 9) :
    s.handle p req c o = s.segReqIn p req c (leAt o 0 1 % 16) := by
  simp [State.handle, hgood, hcmd]

theorem State.handle_abort (hgood : malformed c o = false) (hcmd : leAt o 0 1 = 0xF0) : s.handle p req c o = s.hostAbort p req := by
  simp [State.handle, hgood, hcmd]

/-- With no transfer open a frame starts its request at once (R260). -/
theorem State.newRequest_idle (h : (s.path p).xfer = none) (idx sub : Nat) : s.newRequest p req c idx sub = (true, s) := by
  unfold State.newRequest
  rw [h]

theorem State.xferFor_none (h : (s.path p).xfer = none) : s.xferFor p req c = (none, s.noXfer c) := by
  unfold State.xferFor
  rw [h]

/-- A frame in the format of the open transfer, of its requester, belongs to it (R260). -/
theorem State.xferFor_some {x : Transfer} (h : (s.path p).xfer = some x) (hreq : x.req = req) (hfd : p = 1 → x.fd = carrierFd c) :
    s.xferFor p req c = (some x, s) := by
  unfold State.xferFor
  rw [h]
  dsimp only
  rw [if_neg (not_not_intro hreq), if_neg fun hne => hne.2 (hfd hne.1)]

/-- The toggle that a transfer expects is not the one it has had last (R258, R259). -/
theorem Transfer.again_expected {x : Transfer} {k : Nat} (h : x.toggle = k % 16) : x.again x.toggle = false := by
  have hlt : x.toggle < 16 := h ▸ Nat.mod_lt k (by decide)
  have hne : (x.toggle + 1) % 16 ≠ x.toggle := by omega
  unfold Transfer.again
  rw [decide_eq_false hne, Bool.and_false]

theorem State.noXfer_eq : s.noXfer c = ((s.bump 0xF000 4 1).bump 0xF008 8 1).reply c (abortFrame 0 0 0x0502) := rfl

end

theorem State.setXfer_xfer (s : State) (p : Nat) (x : Option Transfer) : ((s.setXfer p x).path p).xfer = x := by
  unfold State.setXfer
  rw [State.path_setPath, if_pos rfl]

/-- What the transfer of a path is, after an answer of a command. -/
theorem State.ended_reply_xfer (s w : State) (c : Carrier) (o : Octets) (p : Nat) :
    ((s.ended (w.reply c o)).path p).xfer = (w.path p).xfer :=
  (s.ended_path _ p PathSt.xfer).trans (congrArg PathSt.xfer (w.reply_path c o p))

theorem Frame.setXfer {parts : List Part} {objs : List (Nat × Nat)} {s u : State} (h : Frame parts objs s u) (p : Nat) (x : Option Transfer)
    (hm : .acc ∈ parts := by decide) : Frame parts objs s (u.setXfer p x) := h.setPath _ _ hm

/-- A lone device is alone still after what leaves its pair and its home as they are. -/
theorem Frame.alone {parts : List Part} {objs : List (Nat × Nat)} {s u : State} (h : Frame parts objs s u) (ha : Alone s)
    (hpair : .pair ∉ parts := by decide) (hcoh : .coh ∉ parts := by decide) : Alone u := by
  have hp : u.pair = s.pair := h.part _ hpair
  have hc : u.coh = s.coh := h.part _ hcoh
  unfold Alone
  rw [hp, hc]
  exact ha

end Sys2Proof.Machine
end

section
/-! PROOF. READ and WRITE frames (R252, R255, R256). -/
set_option Elab.async false
namespace Sys2Proof.Machine

/-! ### A served read -/

theorem State.closeIdle_path (s : State) (p q : Nat) :
    ∃ y z, (s.closeIdle p).path q = { s.path q with session := y, challenge := z } := by
  unfold State.closeIdle
  split
  · split
    · show ∃ y z, ((s.setPath p _).path q) = _
      rw [State.path_setPath]
      split
      · next hq => exact hq ▸ ⟨_, _, rfl⟩
      · exact ⟨_, _, rfl⟩
    · exact ⟨_, _, rfl⟩
  · exact ⟨_, _, rfl⟩

/-- Acceptance changes nothing of a path but its session and its challenge (R789, R791). -/
theorem State.accept_path (s : State) (p req q : Nat) :
    ∃ y z, (s.accept p req).path q = { s.path q with session := y, challenge := z } := by
  obtain ⟨y, z, hclosed⟩ := s.closeIdle_path p q
  unfold State.accept
  generalize s.closeIdle p = u at hclosed ⊢
  show ∃ y z, (u.setPath p _).path q = _
  rw [State.path_setPath]
  split
  · next hq =>
    subst hq
    repeat' split
    all_goals exact ⟨_, _, by rw [hclosed]⟩
  · exact ⟨y, z, hclosed⟩

theorem State.accept_xfer (s : State) (p req q : Nat) : ((s.accept p req).path q).xfer = (s.path q).xfer := by
  obtain ⟨_, _, hpath⟩ := s.accept_path p req q
  rw [hpath]

/-- An object that does not exist has a code of its own (R234). -/
theorem nameCode_ne_zero (idx sub : Nat) (h : findRow idx sub = none) : nameCode idx sub ≠ 0 := by
  unfold nameCode
  rw [h]
  dsimp only [Option.isSome_none]
  rw [if_neg Bool.false_ne_true]
  split <;> decide

/-- A read that draws no code is accepted and counted. -/
theorem State.serveRead_served {s v : State} {p req idx sub : Nat} {o : Octets} (h : s.serveRead p req idx sub = (0, o, v)) :
    v = (s.accept p req).bump 0xF000 2 1 := by
  unfold State.serveRead at h
  dsimp only at h
  split at h
  · next hrow => exact absurd (congrArg Prod.fst h) (nameCode_ne_zero idx sub hrow)
  · split at h
    · exact (congrArg (·.2.2) h).symm
    · next hcode => exact absurd (congrArg Prod.fst h) hcode

/-- A read stages nothing. -/
theorem State.serveRead_staged {s v : State} {p req idx sub code : Nat} {o : Octets} (h : s.serveRead p req idx sub = (code, o, v)) :
    v.staged = s.staged := by
  have hrefused : ∀ (u : State) (a : Acc) (n : Nat), u.staged = s.staged → (u.refuse a n).staged = s.staged := fun u a n hu =>
    (((Frame.refl (parts := [.latch]) (objs := refusalObjects ++ notedObjects) u).refuse a n).part .staged (by decide)).trans hu
  have hv : (s.serveRead p req idx sub).2.2 = v := by rw [h]
  rw [← hv]
  unfold State.serveRead
  dsimp only
  split
  · exact hrefused _ _ _ (s.accept_staged p req)
  · split
    · exact (State.bump_staged ..).trans (s.accept_staged p req)
    · refine hrefused _ _ _ ?_
      split
      · exact s.accept_staged p req
      · exact s.accept_staged p req

theorem State.bump_path (s : State) (i a n p : Nat) : (s.bump i a n).path p = s.path p := rfl

/-! ### The frames -/

/-- A frame that is served in `v`, and whose answer leaves in `w`. -/
theorem exec_sent {c : Instr} {s u v w : State} {f : Sys2Proof.Frame} {p req : Nat} {o : Octets} {objs : List (Nat × Nat)} (hc : IsFrame c f)
    (h : Heard s f p req u) (ha : Alone v) (hf : Frame [.acc] objs v w) (hcan : w.acc.canState = v.acc.canState)
    (hnet : w.acc.netDown = v.acc.netDown) (hw : u.handle p req f.via f.o = w.reply f.via o)
    (ho : ∀ x ∈ objs, x.1 ≠ 0x1110 ∧ x.1 ≠ 0x8010 := by decide) :
    ∃ t, exec c s = .next t ∧ Answered f.via o v t ∧ t.staged = v.staged ∧ (t.path p).xfer = (w.path p).xfer :=
  ⟨_, exec_answered hc h hw (hf.alone ha), answered_reply s _ _ hf hcan hnet (by decide) ho,
    (s.ended_staged _).trans ((State.reply_staged ..).trans (hf.part .staged (by decide))), State.ended_reply_xfer ..⟩

/-- A frame that is served in `v` with an answer, where the transfer of the path becomes `x`. -/
theorem exec_opened {c : Instr} {s u v : State} {f : Sys2Proof.Frame} {p req : Nat} {x : Option Transfer} {o : Octets} (hc : IsFrame c f)
    (h : Heard s f p req u) (ha : Alone v) (hw : u.handle p req f.via f.o = (v.setXfer p x).reply f.via o) :
    ∃ t, exec c s = .next t ∧ Answered f.via o v t ∧ t.staged = v.staged ∧ (t.path p).xfer = x := by
  obtain ⟨t, ht, hans, hst, hx⟩ := exec_sent (objs := []) hc h ha ((Frame.refl v).setXfer p x) rfl rfl hw
  exact ⟨t, ht, hans, hst, hx.trans (v.setXfer_xfer p x)⟩

/-- A frame that is served in `v` with an answer alone. -/
theorem exec_replied {c : Instr} {s u v : State} {f : Sys2Proof.Frame} {p req : Nat} {o : Octets} (hc : IsFrame c f) (h : Heard s f p req u)
    (ha : Alone v) (hw : u.handle p req f.via f.o = v.reply f.via o) :
    ∃ t, exec c s = .next t ∧ Answered f.via o v t ∧ t.staged = v.staged ∧ (t.path p).xfer = (v.path p).xfer :=
  exec_sent (objs := []) hc h ha (Frame.refl v) rfl rfl hw

/-- A frame outside any transfer draws ABORT 0x0502 (R260). -/
theorem exec_noXfer {c : Instr} {s u : State} {f : Sys2Proof.Frame} {p req : Nat} (hc : IsFrame c f) (h : Heard s f p req u) (ha : Alone u)
    (hw : u.handle p req f.via f.o = u.noXfer f.via) : ∃ t, exec c s = .next t ∧ Answered f.via (abortFrame 0 0 0x0502) u t := by
  obtain ⟨t, ht, hans, -⟩ := exec_sent (objs := [(0xF000, 4), (0xF008, 8)]) hc h ha (((Frame.refl u).bump 0xF000 4 1).bump 0xF008 8 1) rfl rfl
    (hw.trans State.noXfer_eq)
  exact ⟨t, ht, hans⟩

theorem readFramesAreAnswered : Claims.ReadFramesAreAnswered := by
  intro s u v f p req code o h hidle hlen hcmd hserve ha
  have hhandle : u.handle p req f.via f.o = u.eopRead p req f.via (leAt f.o 2 2) (leAt f.o 1 1) :=
    State.handle_read (malformed_read hcmd hlen) (by rw [hcmd])
  have hread : u.eopRead p req f.via (leAt f.o 2 2) (leAt f.o 1 1) =
      if code ≠ 0 then v.reply f.via (abortFrame (leAt f.o 2 2) (leAt f.o 1 1) code)
      else if o.length ≤ expMax f.via then v.reply f.via (rspFrame (leAt f.o 2 2) (leAt f.o 1 1) o)
      else (v.setXfer p (some ⟨req, false, leAt f.o 2 2, leAt f.o 1 1, o, o.length, 0, segReadStart (leAt f.o 2 2) (leAt f.o 1 1) o.length, false,
        false, carrierFd f.via, f.via, v.now⟩)).reply f.via (segReadStart (leAt f.o 2 2) (leAt f.o 1 1) o.length) := by
    unfold State.eopRead
    rw [State.newRequest_idle hidle]
    dsimp only
    rw [hserve]
    rfl
  have hstaged : v.staged = s.staged := (State.serveRead_staged hserve).trans (staged_of_heard h)
  rw [hread] at hhandle
  by_cases hcode : code = 0
  · subst hcode
    rw [if_neg (by decide)] at hhandle
    have hserved := State.serveRead_served hserve
    have hnow : v.now = s.now := by rw [hserved, State.bump_now, u.accept_now, now_of_heard h]
    have hxfer : (v.path p).xfer = none := by rw [hserved]; exact (congrArg PathSt.xfer (State.bump_path ..)).trans ((u.accept_xfer p req p).trans hidle)
    by_cases hfits : o.length ≤ expMax f.via
    · rw [if_pos hfits] at hhandle
      obtain ⟨t, ht, hans, hst, hx⟩ := exec_replied (c := .read f) (fun _ => rfl) h ha hhandle
      exact ⟨t, ht, hst.trans hstaged, fun hne => absurd rfl hne, fun _ _ => ⟨hans, hx.trans hxfer⟩, fun _ hlong => absurd hfits (by omega)⟩
    · rw [if_neg hfits, hnow] at hhandle
      obtain ⟨t, ht, hans, hst, hx⟩ := exec_opened (c := .read f) (fun _ => rfl) h ha hhandle
      exact ⟨t, ht, hst.trans hstaged, fun hne => absurd rfl hne, fun _ hshort => absurd hshort hfits, fun _ _ => ⟨hans, hx⟩⟩
  · rw [if_pos hcode] at hhandle
    obtain ⟨t, ht, hans, hst, -⟩ := exec_replied (c := .read f) (fun _ => rfl) h ha hhandle
    exact ⟨t, ht, hst.trans hstaged, fun _ => hans, fun hzero => absurd hzero hcode, fun hzero => absurd hzero hcode⟩

theorem writeFramesAreAnswered : Claims.WriteFramesAreAnswered := by
  intro s u v f p req code h hidle hcmd hpar hlen hserve ha hup
  have hhandle : u.handle p req f.via f.o = v.reply f.via (writeAnswer (leAt f.o 2 2) (leAt f.o 1 1) code) := by
    rw [State.handle_write (malformed_write hcmd hpar hlen) hcmd]
    unfold State.eopWrite
    rw [State.newRequest_idle hidle]
    dsimp only
    rw [hserve]
    exact if_pos hup
  obtain ⟨t, ht, hans, hst, -⟩ := exec_replied (c := .write f) (fun _ => rfl) h ha hhandle
  exact ⟨t, ht, hst, hans⟩

/-- Settles O28: a frame that is heard is handled in the state it is heard in, and with no transfer open it is served as one access, whose
answer leaves on the frame's carrier. -/
theorem readAndWriteFrames : Obligations.ReadAndWriteFrames := ⟨readFramesAreAnswered, writeFramesAreAnswered⟩

end Sys2Proof.Machine
end

section
/-! PROOF. Segmented transfers (R256-R263), and the reset of the acceptance queue (R269). -/
set_option Elab.async false
namespace Sys2Proof.Machine

/-! ### Segmented writes -/

theorem length_octAt (o : Octets) (i n : Nat) : (octAt o i n).length = n := by
  unfold octAt
  rw [List.length_append, List.length_replicate, List.length_take]
  omega

section
variable {s : State} {c : Carrier} {p req : Nat} {x : Transfer} {o : Octets}

/-- A segmented write starts where no transfer is open and no check of its head refuses it (R259). -/
theorem State.segStartFrame_opens {idx sub total : Nat} {r : Row} (hidle : (s.path p).xfer = none) (hr : findRow idx sub = some r)
    (hhead : s.headCode r ⟨p, req, s.levelOf p req, idx, sub⟩ total none = 0) : s.segStartFrame p req c idx sub total =
      (s.setXfer p (some ⟨req, true, idx, sub, [], total, 0, segAck 0, false, false, carrierFd c, c, s.now⟩)).reply c (segAck 0) := by
  unfold State.segStartFrame
  rw [State.newRequest_idle hidle, hr]
  exact if_neg (not_not_intro hhead)

theorem State.segIn_none {k : Nat} (hidle : (s.path p).xfer = none) : s.segIn p req c k o = s.noXfer c := by
  unfold State.segIn
  rw [State.xferFor_none hidle]

/-- The segment with the expected toggle goes to the open write (R259). -/
theorem State.segIn_expected {k : Nat} (hx : (s.path p).xfer = some x) (hreq : x.req = req) (hfd : p = 1 → x.fd = carrierFd c)
    (hwrite : x.write = true) (hopen : x.done = false) (htoggle : x.toggle = k % 16) : s.segIn p req c x.toggle o = s.segAccept p c x o := by
  have hnew := Transfer.again_expected htoggle
  unfold State.segIn
  rw [State.xferFor_some hx hreq hfd]
  dsimp only
  rw [if_neg (by rw [hnew]; exact fun h => Bool.false_ne_true h.2), hopen, if_neg Bool.false_ne_true, if_pos ⟨hwrite, rfl⟩]

/-- A full segment that leaves the write open is acknowledged (R259). -/
theorem State.segAccept_more (hmore : (x.data ++ o).length < x.total) (hfull : o.length = segMax c) : s.segAccept p c x o =
      (s.setXfer p (some { x with data := x.data ++ o, toggle := (x.toggle + 1) % 16, last := segAck ((x.toggle + 1) % 16), any := true, since := s.now })).reply c
        (segAck ((x.toggle + 1) % 16)) := by
  unfold State.segAccept
  dsimp only
  rw [if_neg (by omega), if_pos hmore]

/-- The segment that completes the length has the write served, whose answer leaves (R256, R259). -/
theorem State.segAccept_last {v : State} {code : Nat} (hall : (x.data ++ o).length = x.total)
    (hserve : s.serveWrite p x.req x.idx x.sub (x.data ++ o) none = (code, v)) (hup : v.up = true) :
    ∃ y, s.segAccept p c x o = (v.setXfer p y).reply c (writeAnswer x.idx x.sub code) ∨
      s.segAccept p c x o = v.reply c (writeAnswer x.idx x.sub code) := by
  unfold State.segAccept
  dsimp only
  rw [if_neg (by omega), if_neg (by omega), hserve]
  dsimp only
  rw [if_pos hup]
  split
  · exact ⟨_, .inl rfl⟩
  · exact ⟨none, .inr rfl⟩

end

/-- Settles O26: a segmented write opens as its head is checked; a full segment with the expected toggle is collected, and the one that
completes the length has the whole value served as one write. -/
theorem segmentedWritesCollectTheirValue : Obligations.SegmentedWritesCollectTheirValue := by
  intro s u f p req h ha
  refine ⟨fun r hidle hlen hcmd hlo hhi hr hhead => ?_, fun hcmd hgood => ⟨fun hidle => ?_, fun x hx hreq hwrite hopen hfd htoggle => ⟨fun hmore hfull => ?_,
    fun code v hall hserve hav hup => ?_⟩⟩⟩
  · have hhandle : u.handle p req f.via f.o = _ := State.handle_segWriteStart (malformed_segWriteStart hcmd hlen hlo hhi) (by rw [hcmd])
    rw [State.segStartFrame_opens hidle hr hhead, now_of_heard h] at hhandle
    obtain ⟨t, ht, hans, hst, hx⟩ := exec_opened (c := .segWriteStart f) (fun _ => rfl) h ha hhandle
    exact ⟨t, ht, hans, hst.trans (staged_of_heard h), hx⟩
  · exact exec_noXfer (fun _ => rfl) h ha ((State.handle_seg hgood hcmd).trans (State.segIn_none hidle))
  · have hhandle : u.handle p req f.via f.o = u.segAccept p f.via x (octAt f.o 2 (leAt f.o 1 1)) := by
      rw [State.handle_seg hgood hcmd, ← htoggle, State.segIn_expected hx hreq hfd hwrite hopen htoggle]
    rw [State.segAccept_more hmore ((length_octAt ..).trans hfull), now_of_heard h] at hhandle
    obtain ⟨t, ht, hans, hst, hx⟩ := exec_opened (c := .seg f) (fun _ => rfl) h ha hhandle
    exact ⟨t, ht, hans, hst.trans (staged_of_heard h), hx⟩
  · have hhandle : u.handle p req f.via f.o = u.segAccept p f.via x (octAt f.o 2 (leAt f.o 1 1)) := by
      rw [State.handle_seg hgood hcmd, ← htoggle, State.segIn_expected hx hreq hfd hwrite hopen htoggle]
    obtain ⟨y, hlast | hlast⟩ := State.segAccept_last (c := f.via) hall hserve hup
    · obtain ⟨t, ht, hans, hst, -⟩ := exec_opened (c := .seg f) (fun _ => rfl) h hav (hhandle.trans hlast)
      exact ⟨t, ht, hans, hst⟩
    · obtain ⟨t, ht, hans, hst, -⟩ := exec_replied (c := .seg f) (fun _ => rfl) h hav (hhandle.trans hlast)
      exact ⟨t, ht, hans, hst⟩

/-! ### Segmented reads -/

section
variable {s : State} {c : Carrier} {p req : Nat} {x : Transfer}

theorem State.segReqIn_none {k : Nat} (hidle : (s.path p).xfer = none) : s.segReqIn p req c k = s.noXfer c := by
  unfold State.segReqIn
  rw [State.xferFor_none hidle]

/-- The request with the expected toggle fetches the next segment; the last one completes the read (R258). -/
theorem State.segReqIn_expected {k : Nat} (hx : (s.path p).xfer = some x) (hreq : x.req = req) (hfd : p = 1 → x.fd = carrierFd c)
    (hread : x.write = false) (hopen : x.done = false) (htoggle : x.toggle = k % 16) : s.segReqIn p req c x.toggle =
      (s.setXfer p (some { x with
        data := x.data.drop (segMax c), toggle := (x.toggle + 1) % 16, last := segFrame x.toggle (x.data.take (segMax c)), any := true
        done := (x.data.drop (segMax c)).isEmpty, since := s.now })).reply c (segFrame x.toggle (x.data.take (segMax c))) := by
  have hnew := Transfer.again_expected htoggle
  unfold State.segReqIn
  rw [State.xferFor_some hx hreq hfd]
  dsimp only
  rw [if_neg (by rw [hnew]; exact fun h => Bool.false_ne_true h.2), hopen, if_neg Bool.false_ne_true, if_pos ⟨by rw [hread]; rfl, rfl⟩]

/-- The request that repeats the last toggle draws the last frame again (R258). -/
theorem State.segReqIn_again {k : Nat} (hx : (s.path p).xfer = some x) (hreq : x.req = req) (hfd : p = 1 → x.fd = carrierFd c)
    (hread : x.write = false) (hany : x.any = true) (htoggle : (k + 1) % 16 = x.toggle) :
    s.segReqIn p req c k = (s.setXfer p (some { x with since := s.now })).reply c x.last := by
  have hagain : x.again k = true := by
    unfold Transfer.again
    rw [hany, decide_eq_true htoggle]
    rfl
  unfold State.segReqIn
  rw [State.xferFor_some hx hreq hfd]
  dsimp only
  rw [if_pos ⟨by rw [hread]; rfl, hagain⟩]
  rfl

/-- An ABORT of the requester ends its transfer (R261). -/
theorem State.hostAbort_own (hx : (s.path p).xfer = some x) (hreq : x.req = req) : s.hostAbort p req = s.setXfer p none := by
  unfold State.hostAbort
  rw [hx]
  exact if_pos hreq

end

/-- An ABORT draws no answer: its mailbox returns to IDLE (R261). -/
theorem abort_completes {s u : State} {f : Sys2Proof.Frame} {p req : Nat} {x : Transfer} (h : Heard s f p req u) (ha : Alone u)
    (hcmd : leAt f.o 0 1 = 0xF0) (hlen : 6 ≤ f.o.length) (hx : (u.path p).xfer = some x) (hreq : x.req = req) :
    Completes (.abort f) s [.acc] [(0xF008, 1), (0xF008, 5)] fun t => (t.path p).xfer = none := by
  have hf : Frame [.acc] heardObjects s ((u.setXfer p none).rested p) := ((frame_of_heard h).setXfer p none).rested p
  have hsettle : ((u.setXfer p none).rested p).settle = (u.setXfer p none).rested p :=
    (((Frame.refl (parts := [.acc]) (objs := []) u).setXfer p none).rested p).settle_eq ha (by decide) (by decide)
  have hexec : exec (.abort f) s = s.ends ((u.setXfer p none).rested p) := by
    show s.ends (s.takeFrame f) = _
    rw [takeFrame_of_heard h, State.handle_abort (malformed_abort hcmd hlen) hcmd, State.hostAbort_own hx hreq, hsettle]
  refine completes_of_frame hexec hf ?_
  rw [s.ended_path _ p PathSt.xfer, State.rested_path, State.setXfer_xfer]

theorem segmentedReadsAndAborts : Claims.SegmentedReadsAndAborts := by
  intro s u f p req h ha
  refine ⟨fun hcmd hlen => ⟨fun hidle => ?_, fun x hx hreq hread hfd => ⟨fun hopen htoggle => ?_, fun hany htoggle => ?_⟩⟩,
    fun hcmd hlen x hx hreq => abort_completes h ha hcmd hlen hx hreq⟩
  · exact exec_noXfer (fun _ => rfl) h ha ((State.handle_segReq (malformed_segReq hcmd hlen) hcmd).trans (State.segReqIn_none hidle))
  · have hhandle : u.handle p req f.via f.o = _ := State.handle_segReq (malformed_segReq hcmd hlen) hcmd
    rw [← htoggle, State.segReqIn_expected hx hreq hfd hread hopen htoggle, now_of_heard h] at hhandle
    obtain ⟨t, ht, hans, -, hx⟩ := exec_opened (c := .segReq f) (fun _ => rfl) h ha hhandle
    exact ⟨t, ht, hans, hx⟩
  · have hhandle : u.handle p req f.via f.o = _ := State.handle_segReq (malformed_segReq hcmd hlen) hcmd
    rw [State.segReqIn_again hx hreq hfd hread hany htoggle, now_of_heard h] at hhandle
    obtain ⟨t, ht, hans, -, hx⟩ := exec_opened (c := .segReq f) (fun _ => rfl) h ha hhandle
    exact ⟨t, ht, hans, hx⟩

/-! ### The transfer timeout -/

section
variable {s : State} {p : Nat} {x : Transfer}

theorem State.xferTimeout_held (h : s.xferHeld p = true) : s.xferTimeout p = s := by
  unfold State.xferTimeout
  split
  · rfl
  · exact if_pos h

/-- Time has moved on to the end of the transfer's limit (R262). -/
def State.toXferEnd (s : State) (p : Nat) (x : Transfer) : State := s.elapseTo (x.since + s.xferLimit p)

/-- The timeout of a transfer whose next frame does not wait fires (R262). -/
theorem State.xferTimeout_fires (hx : (s.path p).xfer = some x) (hfree : s.xferHeld p = false) :
    s.xferTimeout p = (s.toXferEnd p x).xferFire p := by
  unfold State.xferTimeout
  rw [hx]
  exact if_neg (Bool.not_eq_true _ ▸ hfree)

theorem State.toXferEnd_acc (s : State) (p : Nat) (x : Transfer) : (s.toXferEnd p x).acc = s.acc := State.elapseTo_acc ..

theorem State.toXferEnd_xfer (hx : (s.path p).xfer = some x) : ((s.toXferEnd p x).path p).xfer = some x := by
  unfold State.path
  rw [State.toXferEnd_acc]
  exact hx

theorem Frame.toXferEnd {objs : List (Nat × Nat)} (s : State) (p : Nat) (x : Transfer) (ho : (0xF050, 16) ∈ objs := by decide) :
    Frame [.acc, .now, .time] objs s (s.toXferEnd p x) := (Frame.refl s).elapseTo _ (by decide) (by decide) ho

theorem State.xferFire_done (hx : (s.path p).xfer = some x) (hdone : x.done = true) : s.xferFire p = s.setXfer p none := by
  unfold State.xferFire
  rw [hx]
  exact if_pos hdone

theorem State.xferFire_open (hx : (s.path p).xfer = some x) (hopen : x.done = false) :
    s.xferFire p = (((s.setXfer p none).bump 0xF008 7 1).bump 0xF000 4 1).reply x.carrier (abortFrame x.idx x.sub 0x0501) := by
  unfold State.xferFire
  rw [hx]
  exact if_neg (Bool.not_eq_true _ ▸ hopen)

end

/-- The timeout of a completed transfer closes it in silence (R263). -/
theorem transferTimeout_done {s : State} {path : Path} {x : Transfer} (hx : (s.path (pathNo path)).xfer = some x)
    (hfree : s.xferHeld (pathNo path) = false) (hdone : x.done = true) :
    Completes (.transferTimeout path) s [.acc, .now, .time] clockObjects fun t => (t.path (pathNo path)).xfer = none := by
  have hexec : exec (.transferTimeout path) s = s.ends ((s.toXferEnd (pathNo path) x).setXfer (pathNo path) none) := by
    show s.ends (s.xferTimeout (pathNo path)) = _
    rw [State.xferTimeout_fires hx hfree, State.xferFire_done (State.toXferEnd_xfer hx) hdone]
  refine completes_of_frame hexec ((Frame.toXferEnd s _ x).setXfer _ _) ?_
  rw [s.ended_path _ _ PathSt.xfer, State.setXfer_xfer]

/-- The transfer has timed out, and the ABORT that is to leave is counted (R234, R263). -/
def State.timedOut (s : State) (p : Nat) (x : Transfer) : State := (((s.toXferEnd p x).setXfer p none).bump 0xF008 7 1).bump 0xF000 4 1

theorem State.timedOut_now (s : State) (p : Nat) (x : Transfer) : (s.timedOut p x).now = max s.now (x.since + s.n 0x1104 p * 1000000) := by
  rw [State.timedOut, State.bump_now, State.bump_now, State.setXfer, State.setPath_now, State.toXferEnd, State.elapseTo_now, State.xferLimit]

theorem State.timedOut_xfer (s : State) (p : Nat) (x : Transfer) : ((s.timedOut p x).path p).xfer = none := by
  unfold State.timedOut
  rw [State.bump_path, State.bump_path, State.setXfer_xfer]

theorem State.timedOut_counted (s : State) (p : Nat) (x : Transfer) : (s.timedOut p x).z 0xF008 7 = min (s.z 0xF008 7 + 1) (2 ^ 32 - 1) := by
  have hend := (Frame.toXferEnd (objs := clockObjects) s p x).setXfer p none
  rw [State.timedOut, State.z_bump, if_neg (by decide), State.z_bump, if_pos rfl, hend.z_eq (i := 0xF008) (a := 7)]

theorem State.timedOut_canState (s : State) (p : Nat) (x : Transfer) : (s.timedOut p x).acc.canState = s.acc.canState := by
  simp [State.timedOut, State.setXfer, State.setPath, State.toXferEnd]

theorem State.timedOut_netDown (s : State) (p : Nat) (x : Transfer) : (s.timedOut p x).acc.netDown = s.acc.netDown := by
  simp [State.timedOut, State.setXfer, State.setPath, State.toXferEnd]

theorem Frame.timedOut (s : State) (p : Nat) (x : Transfer) :
    Frame [.acc, .now, .time] [(0xF050, 16), (0xF008, 7), (0xF000, 4)] s (s.timedOut p x) :=
  (((Frame.toXferEnd s p x).setXfer p none).bump 0xF008 7 1).bump 0xF000 4 1

/-- The timeout of an open transfer draws ABORT 0x0501 on the carrier of the transfer, and is counted (R263). -/
theorem transferTimeout_open {s : State} {path : Path} {x : Transfer} (hx : (s.path (pathNo path)).xfer = some x)
    (hfree : s.xferHeld (pathNo path) = false) (hopen : x.done = false) :
    ∃ t, exec (.transferTimeout path) s = .next t ∧ (t.path (pathNo path)).xfer = none ∧
      t.now = max s.now (x.since + s.n 0x1104 (pathNo path) * 1000000) ∧ Answered x.carrier (abortFrame x.idx x.sub 0x0501) s t ∧
      t.z 0xF008 7 = min (s.z 0xF008 7 + 1) (2 ^ 32 - 1) := by
  have hexec : exec (.transferTimeout path) s =
      .next (s.ended ((s.timedOut (pathNo path) x).reply x.carrier (abortFrame x.idx x.sub 0x0501))) := by
    show s.ends (s.xferTimeout (pathNo path)) = _
    rw [State.xferTimeout_fires hx hfree, State.xferFire_open (State.toXferEnd_xfer hx) hopen]
    rfl
  have hsent := (Frame.refl (parts := [.acc, .out, .free]) (objs := sendObjects) (s.timedOut (pathNo path) x)).reply x.carrier
    (abortFrame x.idx x.sub 0x0501)
  have hnow := hsent.part .now (by decide)
  refine ⟨_, hexec, ?_, ?_, answered_reply s _ _ (Frame.timedOut s _ x) (s.timedOut_canState ..) (s.timedOut_netDown ..), ?_⟩
  · rw [State.ended_reply_xfer, State.timedOut_xfer]
  · rw [State.ended_now, hnow, State.timedOut_now]
  · rw [State.ended_z, hsent.z_eq, State.timedOut_counted]

/-! ### The reset of the acceptance queue -/

/-- A cause leaves the access part alone but for the paths. -/
theorem State.setCause_access {β : Type} (s : State) (br b : Nat) (g : Access → β) (hg : ∀ a, g { a with path := [] } = g a := by exact fun _ => rfl) :
    g (s.setCause br b).acc = g s.acc :=
  calc g (s.setCause br b).acc = g { (s.setCause br b).acc with path := [] } := (hg _).symm
    _ = g { s.acc with path := [] } := congrArg g (s.setWord_accRest ..)
    _ = g s.acc := hg _

/-- A cause leaves a path alone but for what the ALERT frames are to tell. -/
theorem State.setCause_path {β : Type} (s : State) (br b p : Nat) (g : PathSt → β) (hg : ∀ x, g (quietPath x) = g x := by exact fun _ => rfl) :
    g ((s.setCause br b).path p) = g (s.path p) :=
  calc g ((s.setCause br b).path p) = g (quietPath ((s.setCause br b).path p)) := (hg _).symm
    _ = g (quietPath (s.path p)) := congrArg g (quietPath_setWord ..)
    _ = g (s.path p) := hg _

theorem acceptanceQueueReset_completes {s : State} (hfast : s.mgtFast = true) :
    Completes .acceptanceQueueReset s [.acc, .latch] (causeObjects 3) fun t =>
      t.acc.queue = [] ∧ t.z 0x2104 0 = s.z 0x2104 0 ||| 4 ∧ ∀ p, (t.path p).xfer = (s.path p).xfer := by
  refine completes_of_frame (u := s.queueReset) rfl (((Frame.refl s).setAcc _).setCause 3 2) ⟨?_, ?_, fun p => ?_⟩
  · exact (s.ended_access _ Access.queue).trans (State.setCause_access _ 3 2 Access.queue)
  · exact (s.ended_z _).trans (State.setCause_z (br := 3) 2 (by decide) hfast)
  · exact (s.ended_path _ p PathSt.xfer).trans (State.setCause_path _ 3 2 p PathSt.xfer)

theorem transferTimeoutAndQueueReset : Claims.TransferTimeoutAndQueueReset := fun s =>
  ⟨fun path _ _ hheld => completes_of_frame (congrArg s.ends (State.xferTimeout_held (p := pathNo path) hheld)) (Frame.refl s) trivial,
    fun _ _ hx hfree => ⟨transferTimeout_open hx hfree, transferTimeout_done hx hfree⟩, acceptanceQueueReset_completes⟩

/-- Settles O29: a request of the open read's requester fetches or repeats by its toggle, an ABORT closes the transfer, the timeout of a
transfer whose next frame does not wait answers on the transfer's carrier or closes it, and the reset of the queue ends no transfer. -/
theorem segmentedReadsAbortsAndTimeouts : Obligations.SegmentedReadsAbortsAndTimeouts := ⟨segmentedReadsAndAborts, transferTimeoutAndQueueReset⟩

end Sys2Proof.Machine
end

section
/-! PROOF. ALERT frames (R264-R266): on a device whose pin and frames follow the tree, a frame leaves as its path stands, and the end of the
command adds nothing to it. -/
set_option Elab.async false
namespace Sys2Proof.Machine

/-! ### The tree across updates that leave it alone -/

theorem causeObject_default : ∀ br < 16, defaultVal (0x2101 + br) 0 = .num 0 ∧ defaultVal (0x2111 + br) 0 = .num 0 := by decide +kernel

theorem causeChild_default : ∀ br < 16, ∀ x ∈ childOf br, 0x2101 ≤ x.1 ∧ ∀ j < x.2.1, defaultVal x.1 (j + 1) = .num 0 := by decide +kernel

section
variable {parts : List Part} {objs : List (Nat × Nat)} {s u : State}

/-- What is neither a cause nor a mask of the tree (Chapter 8). -/
def OffTree (objs : List (Nat × Nat)) : Prop := ∀ x ∈ objs, x.1 < 0x2101 ∨ 0x3000 ≤ x.1

theorem Frame.tree_z (h : Frame parts objs s u) (ho : OffTree objs) {i a : Nat} (hlo : 0x2101 ≤ i) (hhi : i < 0x3000) (ha : a < 256)
    (hd : defaultVal i a = .num 0) : u.z i a = s.z i a := by
  have hoff : ∀ x ∈ objs, x.1 ≠ i := fun x hx heq => by have := ho x hx; omega
  exact State.z_of_val (h.val_of_index hoff ha (by omega)) hd

theorem Frame.cause (h : Frame parts objs s u) (ho : OffTree objs) {br : Nat} (hbr : br < 16) : u.cause br = s.cause br := by
  have hown : u.z (0x2101 + br) 0 = s.z (0x2101 + br) 0 :=
    h.tree_z ho (by omega) (by omega) (by decide) (causeObject_default br hbr).1
  have hchildren : aggregate u.z br = aggregate s.z br := by
    unfold aggregate
    cases hchild : childOf br with
    | none => rfl
    | some x =>
      obtain ⟨ci, n, m⟩ := x
      have hbounds := childOf_bounds hchild
      obtain ⟨hlo, hd⟩ := causeChild_default br hbr _ hchild
      refine congrArg List.sum (List.map_congr_left fun j hj => ?_)
      have hjn : j < n := List.mem_range.1 hj
      rw [h.tree_z ho hlo hbounds.1 (by omega) (hd j hjn)]
  unfold State.cause
  rw [hown, hchildren]

theorem Frame.summary (h : Frame parts objs s u) (ho : OffTree objs) : u.summary = s.summary := by
  unfold State.summary summaryOf
  refine congrArg List.sum (List.map_congr_left fun br hbr => ?_)
  have hbr : br < 16 := List.mem_range.1 hbr
  have hmask : u.mask br = s.mask br := by
    unfold State.mask
    rw [h.tree_z ho (by omega) (by omega) (by decide) (causeObject_default br hbr).2]
  rw [h.cause ho hbr, hmask]

/-- The pin and the frames follow the tree still, where neither the tree nor what the pin and the frames have of it changes. -/
theorem Frame.alertsFollow (h : Frame parts objs s u) (ho : OffTree objs) (halerts : u.alerts = s.alerts) (hs : AlertsFollow s)
    (hboot : .boot ∉ parts := by decide) : AlertsFollow u := by
  have hstep : u.boot = s.boot := h.part _ hboot
  have hsum := h.summary ho
  have hpin : u.alertN = s.alertN := by
    unfold State.alertN State.up State.latchSummary State.latchCause State.latchWord
    rw [hstep, halerts, hsum, h.tree_z ho (i := 0x2122) (a := 2) (by decide) (by decide) (by decide) rfl]
  obtain ⟨hdriven, hseen⟩ := hs
  exact ⟨by rw [halerts, hpin, hdriven], by rw [halerts, hsum, hseen]⟩

end

/-- Where the pin and the frames follow the tree already, the end of a command has nothing to add. -/
theorem State.alertSync_of_follows {s : State} (h : AlertsFollow s) : s.alertSync = s := by
  obtain ⟨hdriven, hseen⟩ := h
  have hedge : s.alertEdge = s := by
    unfold State.alertEdge
    rw [hdriven]
    cases s.alertN <;> rfl
  unfold State.alertSync State.alertPaths
  rw [hedge]
  dsimp only
  rw [if_pos hseen, ← hdriven, ← hseen]

theorem State.ended_of_follows {u : State} (s : State) (h : AlertsFollow u) : s.ended u = { u with pending := s.pending } := by
  unfold State.ended
  rw [State.alertSync_of_follows h]

/-! ### One ALERT frame -/

/-- The octets of an ALERT frame: SUMMARY, and the branches risen since the last one, all of them in the first (R265). -/
def State.alertOctets (s : State) (p : Nat) : Octets :=
  let x := s.path p
  let sum := s.summary % 65536
  leBytes 1 0xA0 ++ leBytes 1 x.alseq ++ leBytes 2 sum ++ leBytes 2 ((if x.alertAt.isNone then x.risen ||| sum else x.risen) % 65536)

/-- A path as an ALERT frame at a real time leaves it (R264, R265). -/
def State.alertedPath (s : State) (p at_ : Nat) : PathSt :=
  { s.path p with alseq := ((s.path p).alseq + 1) % 256, sent := s.summary % 65536, risen := 0, due := false, alertAt := some at_ }

/-- An ALERT frame is noted on its path and counted. -/
def State.alertNoted (s : State) (p : Nat) : State := (s.setPath p (s.alertedPath p s.now)).bump 0xF008 11 1

/-- The ALERT register of the mailbox window takes a value. -/
def State.setMbAlert (s : State) (v : Nat) : State := { s with acc := { s.acc with mbAlert := v } }

theorem State.setMbAlert_path (s : State) (v p : Nat) : (s.setMbAlert v).path p = s.path p := rfl

theorem State.setMbAlert_z (s : State) (v i a : Nat) : (s.setMbAlert v).z i a = s.z i a := rfl

section
variable (s : State) (p : Nat)

theorem State.alertNoted_now : (s.alertNoted p).now = s.now := by
  unfold State.alertNoted
  rw [State.bump_now, State.setPath_now]

theorem State.sendAlert_can : s.sendAlert 1 =
    (s.alertNoted 1).sendCan (0x1A03FF00 + s.acc.canNode) ((s.alertNoted 1).b 0x1100 3) ((s.alertNoted 1).b 0x1100 3) (s.alertOctets 1) := rfl

theorem State.sendAlert_t1s : s.sendAlert 2 = (s.alertNoted 2).sendIp
    ⟨(s.alertNoted 2).z 0x1110 7, (s.alertNoted 2).n 0x1110 8, (s.alertNoted 2).ownIp, (s.alertNoted 2).n 0x1110 6, s.alertOctets 2, false⟩ := rfl

theorem State.sendAlert_mailbox : s.sendAlert 3 = (s.alertNoted 3).setMbAlert ((s.path 3).alseq + s.summary % 65536 * 65536) := rfl

end

/-- Time has passed at most: what an ALERT frame tells stands as it did. -/
structure Waited (s e : State) : Prop where
  frame : Frame [.now, .time] clockObjects s e
  acc : e.acc = s.acc
  alerts : e.alerts = s.alerts

theorem Waited.refl (s : State) : Waited s s := ⟨Frame.refl s, rfl, rfl⟩

theorem Waited.elapseTo (s : State) (t : Nat) : Waited s (s.elapseTo t) := ⟨(Frame.refl s).elapseTo t, s.elapseTo_acc t, s.elapseTo_alerts t⟩

/-- The objects that an ALERT frame may change, time passing before it. -/
def alertObjects : List (Nat × Nat) := [(0xF050, 16), (0xF008, 11)]

theorem alertObjects_offTree : OffTree (alertObjects ++ sendObjects) := by unfold OffTree; decide

section
variable {s e : State} (h : Waited s e) (p : Nat)
include h

theorem Waited.path : e.path p = s.path p := by
  unfold State.path
  rw [h.acc]

theorem Waited.summary : e.summary = s.summary := h.frame.summary (by unfold OffTree; decide)

theorem Waited.alertOctets : e.alertOctets p = s.alertOctets p := by
  unfold State.alertOctets
  rw [h.path, h.summary]

theorem Waited.noted : Frame [.now, .time, .acc, .out, .free] (alertObjects ++ sendObjects) s (e.alertNoted p) := by
  have hwide : Frame [.now, .time, .acc, .out, .free] (alertObjects ++ sendObjects) s e :=
    ⟨fun q hq => h.frame.part q fun hmem => hq (List.mem_append_left _ hmem), fun i a ha hi h17 =>
      h.frame.val i a ha (fun hmem => hi (List.mem_cons.2 (.inl (List.mem_singleton.1 hmem)))) h17⟩
  exact (hwide.setPath p _).bump 0xF008 11 1

theorem Waited.noted_path : (e.alertNoted p).path p = s.alertedPath p e.now := by
  unfold State.alertNoted State.alertedPath
  rw [State.bump_path, State.path_setPath, if_pos rfl, h.path, h.summary]

theorem Waited.noted_counted : (e.alertNoted p).z 0xF008 11 = min (s.z 0xF008 11 + 1) (2 ^ 32 - 1) := by
  unfold State.alertNoted
  rw [State.z_bump, if_pos rfl, State.z_congr (State.setPath_obj ..), h.frame.z_eq]

theorem Waited.noted_alerts : (e.alertNoted p).alerts = s.alerts := h.alerts

theorem Waited.noted_canState : (e.alertNoted p).acc.canState = s.acc.canState := show e.acc.canState = _ from congrArg Access.canState h.acc

theorem Waited.noted_netDown : (e.alertNoted p).acc.netDown = s.acc.netDown := show e.acc.netDown = _ from congrArg Access.netDown h.acc

end

theorem State.sendCan_alerts (s : State) (id : Nat) (fd brs : Bool) (o : Octets) : (s.sendCan id fd brs o).alerts = s.alerts := by
  unfold State.sendCan
  dsimp only
  split_ifs <;> rfl

theorem State.sendIp_alerts (s : State) (d : Datagram) : (s.sendIp d).alerts = s.alerts := by
  unfold State.sendIp
  split
  · rfl
  · split
    · rfl
    · split <;> rfl

/-- What has become of an ALERT frame of a path, once the command has ended in `s.ended w`. -/
theorem alertLeft_of_sent {s w : State} {p n : Nat} {parts : List Part} (hs : AlertsFollow s)
    (hf : Frame parts (alertObjects ++ sendObjects) s w) (halerts : w.alerts = s.alerts) (hnow : w.now = n) (hpath : w.path p = s.alertedPath p n)
    (hcount : w.z 0xF008 11 = min (s.z 0xF008 11 + 1) (2 ^ 32 - 1))
    (hcan : p = 1 → .can (0x1A03FF00 + s.acc.canNode) (s.b 0x1100 3) (s.b 0x1100 3)
      (octAt (s.alertOctets p) 0 (dlcLen (s.alertOctets p).length)) ∈ w.out)
    (hudp : p = 2 → s.acc.netDown = false → (s.nextHop (s.z 0x1110 7)).isSome = true →
      .ip ⟨s.z 0x1110 7, s.n 0x1110 8, s.ownIp, s.n 0x1110 6, s.alertOctets p, false⟩ true ∈ w.out ∨
        ⟨s.z 0x1110 7, s.n 0x1110 8, s.ownIp, s.n 0x1110 6, s.alertOctets p, false⟩ ∈ w.acc.arpWait)
    (hmailbox : p = 3 → w.acc.mbAlert = (s.path p).alseq + s.summary % 65536 * 65536) (hboot : .boot ∉ parts := by decide)
    (hstaged : .staged ∉ parts := by decide) :
    AlertLeft s (s.ended w) p ∧ (s.ended w).now = n ∧ (s.ended w).staged = s.staged := by
  have hst : w.staged = s.staged := hf.part _ hstaged
  rw [State.ended_of_follows s (hf.alertsFollow alertObjects_offTree halerts hs hboot)]
  subst hnow
  exact ⟨⟨hpath, hcount, hcan, hudp, hmailbox⟩, rfl, hst⟩

section
variable {s e : State} (h : Waited s e) (hs : AlertsFollow s)
include h hs

/-- An ALERT frame on CAN FD (R264, R272). -/
theorem alertLeft_can (hup : s.pathUp 1 = true) : AlertLeft s (s.ended (e.sendAlert 1)) 1 ∧ (s.ended (e.sendAlert 1)).now = e.now ∧
    (s.ended (e.sendAlert 1)).staged = s.staged := by
  have hon : s.acc.canState = 1 ∨ s.acc.canState = 2 := by
    simp only [State.pathUp, Bool.and_eq_true, Bool.or_eq_true, decide_eq_true_eq] at hup
    exact hup.2
  have hfd : (e.alertNoted 1).b 0x1100 3 = s.b 0x1100 3 := congrArg (fun n => decide (n = 1)) (h.noted 1).n_eq
  have hframe := (Frame.refl (parts := [.out, .free]) (objs := sendObjects) (e.alertNoted 1)).sendCan (0x1A03FF00 + s.acc.canNode) (s.b 0x1100 3)
    (s.b 0x1100 3) (s.alertOctets 1)
  rw [State.sendAlert_can, hfd, h.alertOctets, h.acc]
  refine alertLeft_of_sent hs ((h.noted 1).sendCan _ _ _ _) ((State.sendCan_alerts ..).trans (h.noted_alerts 1)) ?_ ?_ ?_ (fun _ => ?_)
    (fun hne => absurd hne (by decide)) (fun hne => absurd hne (by decide))
  · exact (hframe.part .now (by decide)).trans (e.alertNoted_now 1)
  · exact (congrArg (fun a : Access => mgetD a.path 1 {}) (State.sendCan_acc ..)).trans (h.noted_path 1)
  · rw [hframe.z_eq, h.noted_counted]
  · exact State.sendCan_out ((h.noted_canState 1).symm ▸ hon) _ _ _ _

/-- An ALERT frame on 10BASE-T1S (R264, R277). -/
theorem alertLeft_t1s : AlertLeft s (s.ended (e.sendAlert 2)) 2 ∧ (s.ended (e.sendAlert 2)).now = e.now ∧
    (s.ended (e.sendAlert 2)).staged = s.staged := by
  have hnoted := h.noted 2
  have hframe := fun d => (Frame.refl (parts := [.acc, .out]) (objs := []) (e.alertNoted 2)).sendIp d
  rw [State.sendAlert_t1s, hnoted.z_eq (i := 0x1110) (a := 7), hnoted.n_eq (i := 0x1110) (a := 8), hnoted.n_eq (i := 0x1110) (a := 6), hnoted.ownIp,
    h.alertOctets]
  refine alertLeft_of_sent hs (hnoted.sendIp _) ((State.sendIp_alerts ..).trans (h.noted_alerts 2)) ?_ ?_ ?_ (fun hne => absurd hne (by decide))
    (fun _ hup hhop => ?_) (fun hne => absurd hne (by decide))
  · exact ((hframe _).part .now (by decide)).trans (e.alertNoted_now 2)
  · exact (State.sendIp_path ..).trans (h.noted_path 2)
  · rw [(hframe _).z_eq, h.noted_counted]
  · exact State.sendIp_out ((h.noted_netDown 2).trans hup) (by rw [hnoted.nextHop]; exact hhop)

/-- The ALERT register of the fabric mailbox (R264, R266). -/
theorem alertLeft_mailbox : AlertLeft s (s.ended (e.sendAlert 3)) 3 ∧ (s.ended (e.sendAlert 3)).now = e.now ∧
    (s.ended (e.sendAlert 3)).staged = s.staged := by
  rw [State.sendAlert_mailbox, h.path, h.summary]
  exact alertLeft_of_sent hs ((h.noted 3).setAcc _) (h.noted_alerts 3) (e.alertNoted_now 3) ((State.setMbAlert_path ..).trans (h.noted_path 3))
    ((State.setMbAlert_z ..).trans (h.noted_counted 3)) (fun hne => absurd hne (by decide)) (fun hne => absurd hne (by decide)) fun _ => rfl

/-- An ALERT frame on a path that sends them. -/
theorem alertLeft_of_alertsOn {path : Path} (hon : s.alertsOn (pathNo path) = true) :
    AlertLeft s (s.ended (e.sendAlert (pathNo path))) (pathNo path) ∧ (s.ended (e.sendAlert (pathNo path))).now = e.now ∧
      (s.ended (e.sendAlert (pathNo path))).staged = s.staged := by
  simp only [State.alertsOn, Bool.and_eq_true, decide_eq_true_eq] at hon
  obtain ⟨⟨⟨⟨hup, -⟩, -⟩, -⟩, hlast⟩ := hon
  cases path with
  | can => exact alertLeft_can h hs hup
  | t1s => exact alertLeft_t1s h hs
  | mailbox => exact alertLeft_mailbox h hs
  | jtag => exact absurd hlast (by decide)
  | image => exact absurd hlast (by decide)

end

/-! ### The obligation -/

section
variable {s : State} {p : Nat} (hon : s.alertsOn p = true)
include hon

theorem State.alertSend_due (hdue : (s.path p).due = true) :
    s.alertSend p = State.sendAlert (match (s.path p).alertAt with | some t => s.elapseTo (t + 1000000) | none => s) p :=
  if_pos ⟨hon, .inl hdue⟩

theorem State.alertRepeat_standing {a : Nat} (hsum : s.summary ≠ 0) (hat : (s.path p).alertAt = some a) :
    s.alertRepeat p = (s.elapseTo (a + s.n 0x1105 2 * 1000000)).sendAlert p := by
  unfold State.alertRepeat
  rw [hat]
  exact if_pos ⟨hon, hsum⟩

end

/-- A due frame leaves, 1 ms after the last one at the earliest (R264). -/
theorem alertFrameSend_leaves {s : State} {path : Path} (hs : AlertsFollow s) (hon : s.alertsOn (pathNo path) = true)
    (hdue : (s.path (pathNo path)).due = true) : ∃ t, exec (.alertFrameSend path) s = .next t ∧ AlertLeft s t (pathNo path) ∧
      (∀ a, (s.path (pathNo path)).alertAt = some a → t.now = max s.now (a + 1000000)) ∧ t.staged = s.staged := by
  have hsend := State.alertSend_due hon hdue
  cases hat : (s.path (pathNo path)).alertAt with
  | none =>
    rw [hat] at hsend
    obtain ⟨hleft, -, hst⟩ := alertLeft_of_alertsOn (Waited.refl s) hs hon
    exact ⟨_, congrArg s.ends hsend, hleft, fun a ha => absurd ha (by simp), hst⟩
  | some a =>
    rw [hat] at hsend
    obtain ⟨hleft, hnow, hst⟩ := alertLeft_of_alertsOn (Waited.elapseTo s (a + 1000000)) hs hon
    refine ⟨_, congrArg s.ends hsend, hleft, fun b hb => ?_, hst⟩
    rw [← Option.some.inj hb]
    exact hnow.trans (s.elapseTo_now _)

/-- The repeat interval has a frame leave while the summary stands (R264). -/
theorem alertRepeatExpiry_leaves {s : State} {path : Path} {a : Nat} (hs : AlertsFollow s) (hon : s.alertsOn (pathNo path) = true)
    (hsum : s.summary ≠ 0) (hat : (s.path (pathNo path)).alertAt = some a) :
    ∃ t, exec (.alertRepeatExpiry path) s = .next t ∧ AlertLeft s t (pathNo path) ∧
      t.now = max s.now (a + s.n 0x1105 2 * 1000000) ∧ t.staged = s.staged := by
  obtain ⟨hleft, hnow, hst⟩ := alertLeft_of_alertsOn (Waited.elapseTo s (a + s.n 0x1105 2 * 1000000)) hs hon
  exact ⟨_, congrArg s.ends (State.alertRepeat_standing hon hsum hat), hleft, hnow.trans (s.elapseTo_now _), hst⟩

/-- Settles O27: neither the time that passes before an ALERT frame nor what sends it touches the tree, so the end of the command finds pin
and frames following it, and leaves the path as the frame has noted it. -/
theorem alertFramesFollowTheSummary : Obligations.AlertFramesFollowTheSummary := fun _ _ hs hon =>
  ⟨alertFrameSend_leaves hs hon, fun _ hsum hat => alertRepeatExpiry_leaves hs hon hsum hat⟩

end Sys2Proof.Machine
end

section
/-! PROOF. An ICMP echo on a device whose ALERT frames are behind the tree (R264, R276). -/
set_option Elab.async false
namespace Sys2Proof.Machine

/-- A device in service on 10BASE-T1S that knows the hop of the sender, and whose paths have yet to learn that the summary has become zero.
A run that starts at power-on keeps them abreast of the tree; a state of the model may hold them behind it all the same. -/
def summaryBehind : State :=
  { State.reset with
    boot := { State.reset.boot with step := 14 }
    clk := { State.reset.clk with netsOut := false, dom := [(domNo .mgt, { src := 0, inReset := false })] }
    obj := [(key 0x1110 1, .num 1), (key 0x1110 3, .num 0xC0A80105)]
    acc := { arp := [(0xC0A80107, 2)] }
    alerts := { summary := 1 } }

/-- The end of the command has the paths learn of the summary, and an ALERT frame is due on CAN FD that was not. -/
theorem summaryBehind_due : ∃ t, exec (.icmpEchoRequest 0xC0A80107 0xC0A80105 { o := [1], clean := true }) summaryBehind = .next t ∧
    (t.path 1).due = true :=
  ⟨_, rfl, by decide +kernel⟩

/-- Refutes O30: its clause of the ICMP echo asks that the whole access part be as before (`t.acc = s.acc`), and with it that no ALERT frame
has become due; the end of a command makes one due on every path that is behind the tree (`summaryBehind`), which no hypothesis of the
statement excludes. -/
theorem not_fieldNetworks : ¬ Obligations.FieldNetworks := by
  rintro ⟨-, hnet⟩
  obtain ⟨-, -, hpath⟩ := hnet summaryBehind
  obtain ⟨-, -, hecho, -⟩ := hpath (by decide +kernel)
  obtain ⟨t, ht, -, -, hsent, -⟩ := hecho 0xC0A80107 0xC0A80105 [1] 0xC0A80107 (by decide +kernel) (by decide +kernel) rfl
  obtain ⟨u, hu, hdue⟩ := summaryBehind_due
  obtain rfl : t = u := Host.Outcome.next.inj (ht.symm.trans hu)
  obtain ⟨-, hacc⟩ := hsent (by decide +kernel)
  have hbefore : (t.path 1).due = (summaryBehind.path 1).due := congrArg (fun a : Access => (mgetD a.path 1 {}).due) hacc
  rw [hdue] at hbefore
  exact absurd hbefore (by decide +kernel)

end Sys2Proof.Machine
end

section
/-! PROOF. The fabric mailbox window (R279-R283): its registers, its views, and the end of a claim. -/
set_option Elab.async false
namespace Sys2Proof.Machine

/-! ### Octets and words (R7) -/

theorem leBytes_leNat (o : Octets) : leBytes o.length (leNat o) = o := by
  induction o with
  | nil => rfl
  | cons b o ih =>
    have hlow : BitVec.ofNat 8 (b.toNat + 256 * leNat o) = b := by
      apply BitVec.eq_of_toNat_eq
      rw [BitVec.toNat_ofNat]
      omega
    have hrest : (b.toNat + 256 * leNat o) / 256 = leNat o := by omega
    rw [List.length_cons, leNat, leBytes, hlow, hrest, ih]

theorem leBytes_leAt (o : Octets) (i n : Nat) : leBytes n (leAt o i n) = octAt o i n := by
  have hword := leBytes_leNat (octAt o i n)
  rwa [length_octAt] at hword

theorem octAt_of_le {o : Octets} {i n : Nat} (h : i + n ≤ o.length) : octAt o i n = (o.drop i).take n := by
  have hlen : ((o.drop i).take n).length = n := by
    rw [List.length_take, List.length_drop]
    omega
  unfold octAt
  rw [hlen, Nat.sub_self]
  exact List.append_nil _

theorem length_leBytes (n v : Nat) : (leBytes n v).length = n := by
  induction n generalizing v with
  | zero => rfl
  | succ n ih => exact congrArg Nat.succ (ih _)

/-- A 32-bit word reads as it was written. -/
theorem leAt_leBytes (v : BitVec 32) : leAt (leBytes 4 v.toNat) 0 4 = v.toNat := by
  have hall : octAt (leBytes 4 v.toNat) 0 4 = leBytes 4 v.toNat := by
    rw [octAt_of_le (by rw [length_leBytes]), List.drop_zero, List.take_of_length_le (by rw [length_leBytes])]
  unfold leAt
  rw [hall, leNat_leBytes]
  exact Nat.mod_eq_of_lt v.isLt

/-! ### The claim -/

section
variable {s : State}

theorem State.claimDue_stands (h : s.acc.owner ≠ none → s.late .mgt s.acc.claimAt s.claimLimit = false) : s.claimDue = s := by
  unfold State.claimDue
  split
  · next howner => exact if_neg (Bool.not_eq_true _ ▸ h (by rw [howner]; exact Option.some_ne_none _))
  · rfl

theorem State.claimDue_late (howner : s.acc.owner ≠ none) (h : s.late .mgt s.acc.claimAt s.claimLimit = true) :
    s.claimDue = s.releaseClaim.bump 0xF008 13 1 := by
  obtain ⟨o, ho⟩ := Option.ne_none_iff_exists'.1 howner
  unfold State.claimDue
  rw [ho]
  exact if_pos h

theorem Frame.releaseClaim {parts : List Part} {objs : List (Nat × Nat)} {u : State} (h : Frame parts objs s u) (hm : .acc ∈ parts := by decide) :
    Frame parts objs s u.releaseClaim := ((h.setAcc _ hm).setXfer 3 none hm).setPath 3 _ hm

theorem State.releaseClaim_owner (s : State) : s.releaseClaim.acc.owner = none := rfl

theorem State.releaseClaim_now (s : State) : s.releaseClaim.now = s.now := rfl

theorem State.releaseClaim_reqLen (s : State) : s.releaseClaim.acc.reqLen = 0 := rfl

theorem State.releaseClaim_path (s : State) : (s.releaseClaim.path 3).xfer = none ∧ (s.releaseClaim.path 3).session = none := by
  unfold State.releaseClaim State.closeSession State.setXfer
  simp [State.path_setPath]

end

/-- The window's path is in service by the boot, MGT, FAB and its enable (R146, R293). -/
theorem Frame.mailboxUp {parts : List Part} {objs : List (Nat × Nat)} {s u : State} (h : Frame parts objs s u) (hboot : .boot ∉ parts := by decide)
    (hclk : .clk ∉ parts := by decide) (hpower : .power ∉ parts := by decide) (ho : ∀ x ∈ objs, x.1 ≠ 0x1120 := by decide) :
    u.pathUp 3 = s.pathUp 3 := by
  have hb : u.boot = s.boot := h.part _ hboot
  have hc : u.clk = s.clk := h.part _ hclk
  have hdom : ∀ d, u.dom d = s.dom d := State.dom_congr (congrArg Clocks.dom hc) (h.part _ hpower)
  unfold State.pathUp State.mgtFast State.mgtUp State.up State.b State.n
  simp only [hb, hc, hdom, h.val_of_index ho (a := 1)]

theorem State.mgt_of_pathUp {s : State} {p : Nat} (h : s.pathUp p = true) : (s.dom .mgt).inReset = false := by
  have hup := State.mgtUp_of_pathUp h
  unfold State.mgtUp at hup
  simpa using (Bool.and_eq_true_iff.1 hup).2

/-! ### One word of the window -/

section
variable {s u : State} {p sid off v : Nat}

/-- A 32-bit write of a command reaches its word of the window, once a claim whose limit has passed is gone (R279, R282). -/
theorem State.windowCmd_word (v : BitVec 32) (hopen : s.windowOpen p = true) (hclaim : s.claimDue = u) (hup : u.pathUp 3 = true)
    (hform : windowForm off 4 = true) : s.windowCmd p sid off (leBytes 4 v.toNat) = u.windowWord p sid off v.toNat := by
  unfold State.windowCmd State.windowWrite
  rw [if_pos hopen, hclaim]
  dsimp only
  rw [hup, length_leBytes, hform, leAt_leBytes]
  rfl

theorem State.windowWord_refused (hmgt : (s.dom .mgt).inReset = false) (h : s.windowRefuses p sid off v = true) :
    s.windowWord p sid off v = s.bump 0xF008 12 1 := by
  unfold State.windowWord State.windowDiscard
  rw [if_pos h, hmgt]
  rfl

theorem State.windowWord_taken (h : s.windowRefuses p sid off v = false) : s.windowWord p sid off v = s.windowPut p sid off v :=
  if_neg (Bool.not_eq_true _ ▸ h)

theorem State.owns_of_owner {c : Nat} (h : s.acc.owner = some (p, sid, c)) : s.owns p sid = true := by
  unfold State.owns
  rw [h]
  simp

theorem State.owns_of_other {q b c : Nat} (h : s.acc.owner = some (q, b, c)) (hne : (q, b) ≠ (p, sid)) : s.owns p sid = false := by
  unfold State.owns
  rw [h]
  simpa using hne

/-- The state in which a port and a source have claimed the mailbox (R280). -/
def State.claimed (s : State) (p sid c : Nat) : State := { s with acc := { s.acc with owner := some (p, sid, c), claimAt := s.now } }

/-- An unclaimed mailbox is claimed by a CLAIM that is not zero (R280). -/
theorem State.windowWord_claims (howner : s.acc.owner = none) (hv : v % 65536 ≠ 0) : s.windowWord p sid 8 v = s.claimed p sid (v % 65536) := by
  have htaken : s.windowRefuses p sid 8 v = false := by simp [State.windowRefuses, howner]
  rw [State.windowWord_taken htaken]
  unfold State.windowPut State.claimWrite
  rw [if_pos rfl, howner]
  exact if_neg hv

/-- A zero CLAIM of the owner releases the mailbox (R280, R282). -/
theorem State.windowWord_releases {c : Nat} (howner : s.acc.owner = some (p, sid, c)) (hv : v % 65536 = 0) :
    s.windowWord p sid 8 v = s.releaseClaim := by
  have howns := State.owns_of_owner howner
  have htaken : s.windowRefuses p sid 8 v = false := by simp [State.windowRefuses, howns]
  rw [State.windowWord_taken htaken]
  unfold State.windowPut State.claimWrite
  rw [if_pos rfl, howner]
  simp [howns, hv]

theorem State.windowRefuses_claim {q b c : Nat} (howner : s.acc.owner = some (q, b, c)) (hne : (q, b) ≠ (p, sid)) :
    s.windowRefuses p sid 8 v = true := by
  simp [State.windowRefuses, howner, State.owns_of_other howner hne]

theorem State.windowRefuses_reqLen {c : Nat} (howner : s.acc.owner = some (p, sid, c)) (hidle : s.acc.mbStatus ≠ 1) :
    s.windowRefuses p sid 0x14 v = (decide (v = 0) || decide (256 < v)) := by
  simp [State.windowRefuses, State.owns_of_owner howner, hidle]

theorem State.windowRefuses_doorbell {c : Nat} (howner : s.acc.owner = some (p, sid, c)) (hidle : s.acc.mbStatus ≠ 1) :
    s.windowRefuses p sid 0x10 1 = false := by
  simp [State.windowRefuses, State.owns_of_owner howner, hidle]

/-- The registers below REQUEST have places of their own. -/
theorem State.windowRefuses_request {c : Nat} (howner : s.acc.owner = some (p, sid, c)) (hidle : s.acc.mbStatus ≠ 1) (hlo : 0x100 ≤ off)
    (hhi : off < 0x200) : s.windowRefuses p sid off v = false := by
  unfold State.windowRefuses
  rw [if_neg (by omega), if_neg (by omega), if_neg (by omega), if_pos ⟨hlo, hhi⟩, State.owns_of_owner howner, decide_eq_false hidle]
  rfl

theorem State.requestWrite_owner (s : State) (off : Nat) (o : Octets) : (s.requestWrite off o).acc.owner = s.acc.owner := by
  unfold State.requestWrite
  dsimp only

theorem State.requestWrite_mbStatus (s : State) (off : Nat) (o : Octets) : (s.requestWrite off o).acc.mbStatus = s.acc.mbStatus := by
  unfold State.requestWrite
  dsimp only

theorem State.requestWrite_request (s : State) (off : Nat) (o : Octets) :
    (s.requestWrite off o).acc.request = (putOct s.acc.request (off - 0x100) o).take 256 := by
  unfold State.requestWrite
  dsimp only

/-- A word of REQUEST takes its four octets (R280). -/
theorem State.windowWord_request {c : Nat} (howner : s.acc.owner = some (p, sid, c)) (hidle : s.acc.mbStatus ≠ 1) (hlo : 0x100 ≤ off)
    (hhi : off < 0x200) : s.windowWord p sid off v = s.requestWrite off (leBytes 4 v) := by
  rw [State.windowWord_taken (State.windowRefuses_request howner hidle hlo hhi)]
  unfold State.windowPut
  rw [if_neg (by omega), if_neg (by omega), if_neg (by omega)]

end

/-! ### REQUEST -/

/-- Two words side by side are the eight octets (R7, log entry 20). -/
theorem putOct_words (r o : Octets) (i : Nat) (ho : o.length = 8) (hi : i + 8 ≤ 256) :
    (putOct ((putOct r i (octAt o 0 4)).take 256) (i + 4) (octAt o 4 4)).take 256 = (putOct r i o).take 256 := by
  have hlow : octAt o 0 4 = o.take 4 := octAt_of_le (by omega)
  have hhigh : octAt o 4 4 = o.drop 4 := by
    rw [octAt_of_le (by omega), List.take_of_length_le (by rw [List.length_drop]; omega)]
  have hl4 : (o.take 4).length = 4 := by rw [List.length_take]; omega
  have hd4 : (o.drop 4).length = 4 := by rw [List.length_drop]; omega
  have hpre : (octAt r 0 i).length = i := length_octAt r 0 i
  have hfirst : (putOct r i (o.take 4)).take 256 = octAt r 0 i ++ o.take 4 ++ (r.drop (i + 4)).take (256 - (i + 4)) := by
    unfold putOct
    rw [hl4, List.take_append, List.length_append, hpre, hl4, List.take_of_length_le (by rw [List.length_append, hpre, hl4]; omega)]
  have hhead : octAt ((putOct r i (o.take 4)).take 256) 0 (i + 4) = octAt r 0 i ++ o.take 4 := by
    rw [hfirst, octAt_of_le (by rw [List.length_append, List.length_append, hpre, hl4]; omega), List.drop_zero,
      List.take_left' (by rw [List.length_append, hpre, hl4])]
  have htail : ((putOct r i (o.take 4)).take 256).drop (i + 8) = (r.drop (i + 8)).take (256 - (i + 8)) := by
    rw [hfirst, List.drop_append, List.length_append, hpre, hl4, List.drop_of_length_le (by rw [List.length_append, hpre, hl4]; omega),
      List.nil_append, List.drop_take, List.drop_drop]
    congr 1
    · omega
    · congr 1
      omega
  rw [hlow, hhigh]
  have hall : octAt r 0 i ++ o.take 4 ++ o.drop 4 = octAt r 0 i ++ o := by rw [List.append_assoc, List.take_append_drop]
  have hlen : (octAt r 0 i ++ o).length = i + 8 := by rw [List.length_append, hpre, ho]
  have hsecond : putOct ((putOct r i (o.take 4)).take 256) (i + 4) (o.drop 4) = octAt r 0 i ++ o ++ (r.drop (i + 8)).take (256 - (i + 8)) := by
    rw [← hall, ← htail, ← hhead]
    unfold putOct
    rw [hd4]
  have hwhole : putOct r i o = octAt r 0 i ++ o ++ r.drop (i + 8) := by
    unfold putOct
    rw [ho]
  rw [hsecond, hwhole]
  generalize octAt r 0 i ++ o = pre at hlen ⊢
  rw [List.take_append, hlen, List.take_append, hlen, List.take_take, Nat.min_self]

section
variable {s : State} {p sid off c : Nat} (howner : s.acc.owner = some (p, sid, c)) (hidle : s.acc.mbStatus ≠ 1) (hlo : 0x100 ≤ off)
include howner hidle hlo

/-- An access of 64 bits is two words, the lower first (log entry 20). -/
theorem State.windowPair_request {o : Octets} (ho : o.length = 8) (hhi : off + 8 ≤ 0x200) :
    s.windowPair p sid off (leAt o 0 4) (leAt o 4 4) = s.requestWrite off o := by
  have hlow : s.windowWord p sid off (leAt o 0 4) = s.requestWrite off (octAt o 0 4) := by
    rw [State.windowWord_request howner hidle hlo (by omega), leBytes_leAt]
  have hhigh : (s.requestWrite off (octAt o 0 4)).windowWord p sid (off + 4) (leAt o 4 4) =
      (s.requestWrite off (octAt o 0 4)).requestWrite (off + 4) (octAt o 4 4) := by
    rw [State.windowWord_request ((State.requestWrite_owner ..).trans howner) (by rwa [State.requestWrite_mbStatus]) (by omega) (by omega),
      leBytes_leAt]
  have hoff : off + 4 - 0x100 = off - 0x100 + 4 := by omega
  unfold State.windowPair
  rw [hlow, State.windowRefuses_request howner hidle hlo (by omega)]
  refine hhigh.trans ?_
  unfold State.requestWrite
  dsimp only
  rw [hoff, putOct_words _ _ _ ho (by omega)]

/-- REQUEST takes the octets of an aligned access of 4 or 8 octets (R279, R280). -/
theorem State.windowWrite_request {o : Octets} (hclaim : s.claimDue = s) (hup : s.pathUp 3 = true) (hhi : off < 0x200)
    (ho : o.length = 4 ∨ o.length = 8) (haligned : off % o.length = 0) : s.windowWrite p sid off o = s.requestWrite off o := by
  have hform : windowForm off o.length = true := by
    unfold windowForm
    rw [decide_eq_true haligned]
    rcases ho with ho | ho <;> rw [ho] <;> rfl
  unfold State.windowWrite
  rw [hclaim]
  dsimp only
  rw [hup, hform]
  rcases ho with ho | ho
  · have hall : octAt o 0 4 = o := by rw [octAt_of_le (by omega), List.drop_zero, List.take_of_length_le (by omega)]
    rw [if_neg (by simp), if_neg (by omega), State.windowWord_request howner hidle hlo hhi, leBytes_leAt, hall]
  · rw [ho] at haligned
    rw [if_neg (by simp), if_pos ho, State.windowPair_request howner hidle hlo ho (by omega)]

end

/-! ### The commands of the owner and of others -/

section
variable {s : State} {p : Fin 6} {sid : BitVec 8} {v : BitVec 32}

/-- A write that the window discards is counted (R279). -/
theorem completes_of_refused {c : Instr} {off : Nat} (hc : exec c s = s.ends (s.windowWord p.val sid.toNat off v.toNat)) (hup : s.pathUp 3 = true)
    (h : s.windowRefuses p.val sid.toNat off v.toNat = true) :
    Completes c s [] [(0xF008, 12)] fun t => t.z 0xF008 12 = min (s.z 0xF008 12 + 1) (2 ^ 32 - 1) := by
  rw [State.windowWord_refused (State.mgt_of_pathUp hup) h] at hc
  refine completes_of_frame hc ((Frame.refl s).bump 0xF008 12 1) ?_
  rw [State.ended_z, State.z_bump, if_pos rfl]

variable (hopen : s.windowOpen p.val = true) (hup : s.pathUp 3 = true)
include hopen hup

/-- A claim whose limit has passed is gone before the next CLAIM, and counted (R282). -/
theorem mailboxClaim_late (howner : s.acc.owner ≠ none) (hlate : s.late .mgt s.acc.claimAt s.claimLimit = true) (hv : v.toNat % 65536 ≠ 0) :
    Completes (.mailboxClaim p sid v) s [.acc] [(0xF008, 13)] fun t =>
      t.acc.owner = some (p.val, sid.toNat, v.toNat % 65536) ∧ t.acc.claimAt = s.now ∧
      t.z 0xF008 13 = min (s.z 0xF008 13 + 1) (2 ^ 32 - 1) := by
  have hgone : Frame [.acc] [(0xF008, 13)] s (s.releaseClaim.bump 0xF008 13 1) := (Frame.refl s).releaseClaim.bump 0xF008 13 1
  have hexec : exec (.mailboxClaim p sid v) s =
      s.ends ((s.releaseClaim.bump 0xF008 13 1).claimed p.val sid.toNat (v.toNat % 65536)) := by
    show s.ends (s.windowCmd p.val sid.toNat 8 (leBytes 4 v.toNat)) = _
    rw [State.windowCmd_word v hopen (State.claimDue_late howner hlate) (hgone.mailboxUp.trans hup) rfl, State.windowWord_claims rfl hv]
  refine completes_of_frame hexec (hgone.setAcc _) ⟨s.ended_access _ Access.owner, s.ended_access _ Access.claimAt, ?_⟩
  rw [State.ended_z]
  exact (State.z_bump ..).trans (if_pos rfl)

variable (hclaim : s.claimDue = s)
include hclaim

theorem exec_mailboxClaim (sid : BitVec 8) (v : BitVec 32) :
    exec (.mailboxClaim p sid v) s = s.ends (s.windowWord p.val sid.toNat 8 v.toNat) :=
  congrArg s.ends (State.windowCmd_word v hopen hclaim hup rfl)

theorem exec_mailboxRelease (sid : BitVec 8) (v : BitVec 32) :
    exec (.mailboxRelease p sid v) s = s.ends (s.windowWord p.val sid.toNat 8 v.toNat) :=
  congrArg s.ends (State.windowCmd_word v hopen hclaim hup rfl)

theorem exec_mailboxReqlenWrite (sid : BitVec 8) (v : BitVec 32) :
    exec (.mailboxReqlenWrite p sid v) s = s.ends (s.windowWord p.val sid.toNat 0x14 v.toNat) :=
  congrArg s.ends (State.windowCmd_word v hopen hclaim hup rfl)

theorem exec_mailboxDoorbell (sid : BitVec 8) (v : BitVec 32) :
    exec (.mailboxDoorbell p sid v) s = s.ends (s.windowWord p.val sid.toNat 0x10 v.toNat) :=
  congrArg s.ends (State.windowCmd_word v hopen hclaim hup rfl)

theorem mailboxClaim_claims (howner : s.acc.owner = none) (hv : v.toNat % 65536 ≠ 0) : Completes (.mailboxClaim p sid v) s [.acc] [] fun t =>
    t.acc.owner = some (p.val, sid.toNat, v.toNat % 65536) ∧ t.acc.claimAt = s.now :=
  completes_of_frame ((exec_mailboxClaim hopen hup hclaim sid v).trans (congrArg s.ends (State.windowWord_claims howner hv)))
    ((Frame.refl s).setAcc _) ⟨s.ended_access _ Access.owner, s.ended_access _ Access.claimAt⟩

theorem mailboxRelease_releases {c : Nat} (howner : s.acc.owner = some (p.val, sid.toNat, c)) (hv : v.toNat % 65536 = 0) :
    Completes (.mailboxRelease p sid v) s [.acc] [] fun t =>
      t.acc.owner = none ∧ t.acc.reqLen = 0 ∧ (t.path 3).xfer = none ∧ (t.path 3).session = none := by
  obtain ⟨hxfer, hsession⟩ := s.releaseClaim_path
  exact completes_of_frame ((exec_mailboxRelease hopen hup hclaim sid v).trans (congrArg s.ends (State.windowWord_releases howner hv)))
    (Frame.refl s).releaseClaim ⟨(s.ended_access _ Access.owner).trans s.releaseClaim_owner,
      (s.ended_access _ Access.reqLen).trans s.releaseClaim_reqLen, (s.ended_path _ 3 PathSt.xfer).trans hxfer,
      (s.ended_path _ 3 PathSt.session).trans hsession⟩

variable {c : Nat} (howner : s.acc.owner = some (p.val, sid.toNat, c)) (hidle : s.acc.mbStatus ≠ 1)
include howner hidle

/-- REQLEN takes a length within its range (R280). -/
theorem mailboxReqlenWrite_sets (hlo : 1 ≤ v.toNat) (hhi : v.toNat ≤ 256) :
    Completes (.mailboxReqlenWrite p sid v) s [.acc] [] fun t => t.acc.reqLen = v.toNat := by
  have hne : v.toNat ≠ 0 := by omega
  have htaken : s.windowRefuses p.val sid.toNat 0x14 v.toNat = false := by
    rw [State.windowRefuses_reqLen howner hidle, decide_eq_false hne, decide_eq_false (by omega)]
    rfl
  have hexec : exec (.mailboxReqlenWrite p sid v) s = s.ends { s with acc := { s.acc with reqLen := v.toNat } } :=
    (exec_mailboxReqlenWrite hopen hup hclaim sid v).trans (congrArg s.ends (State.windowWord_taken htaken))
  exact completes_of_frame hexec ((Frame.refl s).setAcc _) (s.ended_access _ Access.reqLen)

/-- A length out of range is discarded and counted (R279, R280). -/
theorem mailboxReqlenWrite_refused (hv : v.toNat = 0 ∨ 256 < v.toNat) : Completes (.mailboxReqlenWrite p sid v) s [] [(0xF008, 12)] fun t =>
    t.z 0xF008 12 = min (s.z 0xF008 12 + 1) (2 ^ 32 - 1) := by
  refine completes_of_refused (exec_mailboxReqlenWrite hopen hup hclaim sid v) hup ?_
  rw [State.windowRefuses_reqLen howner hidle, ← Bool.decide_or, decide_eq_true hv]

theorem mailboxRequestWrite_stores {off : BitVec 16} {o : Octets} (hlo : 0x100 ≤ off.toNat) (hhi : off.toNat < 0x200)
    (ho : o.length = 4 ∨ o.length = 8) (haligned : off.toNat % o.length = 0) : Completes (.mailboxRequestWrite p sid off o) s [.acc] [] fun t =>
      t.acc.request = (putOct s.acc.request (off.toNat - 0x100) o).take 256 := by
  have hexec : exec (.mailboxRequestWrite p sid off o) s = s.ends (s.requestWrite off.toNat o) := by
    show s.ends (s.windowCmd p.val sid.toNat off.toNat o) = _
    unfold State.windowCmd
    rw [if_pos hopen, State.windowWrite_request howner hidle hlo hclaim hup hhi ho haligned]
  exact completes_of_frame hexec ((Frame.refl s).setAcc _) ((s.ended_access _ Access.request).trans (State.requestWrite_request ..))

/-- The doorbell submits what REQUEST holds (R281). -/
theorem exec_mailboxDoorbell_rings (hv : v = 1#32) :
    exec (.mailboxDoorbell p sid v) s = exec (.read { via := .mailbox p sid, o := octAt s.acc.request 0 s.acc.reqLen }) s := by
  subst hv
  refine (exec_mailboxDoorbell hopen hup hclaim sid 1#32).trans (congrArg s.ends ?_)
  show s.windowWord p.val sid.toNat 0x10 1 = _
  rw [State.windowWord_taken (State.windowRefuses_doorbell howner hidle)]
  show s.takeFrame ⟨.mailbox (Fin.ofNat 6 p.val) (BitVec.ofNat 8 sid.toNat), octAt s.acc.request 0 s.acc.reqLen, true, false, false, false⟩ = _
  have hport : Fin.ofNat 6 p.val = p := Fin.ext (Nat.mod_eq_of_lt p.isLt)
  rw [hport, BitVec.ofNat_toNat, BitVec.setWidth_eq]

end

/-! ### The views, invalid accesses, and the end of a claim -/

/-- The claim of a silent owner is released and counted (R282). -/
theorem mailboxClaimExpiry_completes {s : State} (howner : s.acc.owner ≠ none) :
    Completes .mailboxClaimExpiry s [.acc, .now, .time] (clockObjects ++ [(0xF008, 13)]) fun t =>
      t.acc.owner = none ∧ (t.path 3).session = none ∧ t.now = max s.now (s.acc.claimAt + s.n 0x1120 3 * 1000000) := by
  obtain ⟨o, ho⟩ := Option.ne_none_iff_exists'.1 howner
  have hexec : exec .mailboxClaimExpiry s = s.ends ((s.elapseTo (s.acc.claimAt + s.claimLimit)).releaseClaim.bump 0xF008 13 1) := by
    show s.ends s.claimExpiry = _
    unfold State.claimExpiry
    rw [ho]
  obtain ⟨-, hsession⟩ := (s.elapseTo (s.acc.claimAt + s.claimLimit)).releaseClaim_path
  refine completes_of_frame hexec (((Frame.refl s).elapseTo _).releaseClaim.bump 0xF008 13 1) ⟨?_, ?_, ?_⟩
  · exact (s.ended_access _ Access.owner).trans (State.releaseClaim_owner _)
  · rw [s.ended_path _ 3 PathSt.session, State.bump_path, hsession]
  · rw [State.ended_now, State.bump_now, State.releaseClaim_now, State.elapseTo_now, State.claimLimit]

section
variable {s : State} {p : Fin 6} (hopen : s.windowOpen p.val = true)
include hopen

/-- A write that the window does not serve is discarded and counted (R279). -/
theorem mailboxInvalidAccess_write (hmgt : (s.dom .mgt).inReset = false) : Completes (.mailboxInvalidAccess p true) s [] [(0xF008, 12)] fun t =>
    t.z 0xF008 12 = min (s.z 0xF008 12 + 1) (2 ^ 32 - 1) := by
  have hexec : exec (.mailboxInvalidAccess p true) s = s.ends (s.bump 0xF008 12 1) := by
    show s.ends (s.invalidWindow p.val true) = _
    simp [State.invalidWindow, State.windowDiscard, hopen, hmgt]
  refine completes_of_frame hexec ((Frame.refl s).bump 0xF008 12 1) ?_
  rw [State.ended_z, State.z_bump, if_pos rfl]

/-- A read that the window does not serve reads zero, too (R279). -/
theorem mailboxInvalidAccess_read (hmgt : (s.dom .mgt).inReset = false) :
    Completes (.mailboxInvalidAccess p false) s [.out] [(0xF008, 12)] fun t =>
      t.out = .window p.val 0 4 :: s.out ∧ t.z 0xF008 12 = min (s.z 0xF008 12 + 1) (2 ^ 32 - 1) := by
  have hexec : exec (.mailboxInvalidAccess p false) s = s.ends ((s.bump 0xF008 12 1).emit (.window p.val 0 4)) := by
    show s.ends (s.invalidWindow p.val false) = _
    simp [State.invalidWindow, State.windowDiscard, hopen, hmgt]
  refine completes_of_frame hexec (((Frame.refl s).bump 0xF008 12 1).emit _) ⟨s.ended_out _, ?_⟩
  rw [State.ended_z, State.emit_z, State.z_bump, if_pos rfl]

variable (hup : s.pathUp 3 = true)
include hup

/-- A read of the TIME view (R283). -/
theorem State.windowGet_timeView {off n : Nat} (hform : windowForm off n = true) (hlo : 0x400 ≤ off) (hhi : off < 0x410) :
    s.windowGet p.val off n = (s.timeView p.val off n).2.emit (.window p.val (s.timeView p.val off n).1 n) := by
  unfold State.windowGet State.windowRead
  rw [if_pos hopen, hup, hform, if_neg (by simp), if_pos ⟨hlo, hhi⟩]

/-- A read of the TICK view (R283). -/
theorem State.windowGet_tickView {off n : Nat} (hform : windowForm off n = true) (hlo : 0x410 ≤ off) (hhi : off < 0x418) :
    s.windowGet p.val off n = (s.tickView p.val off n).2.emit (.window p.val (s.tickView p.val off n).1 n) := by
  unfold State.windowGet State.windowRead
  rw [if_pos hopen, hup, hform, if_neg (by simp), if_neg (by omega), if_pos ⟨hlo, hhi⟩]

/-- The low word of the TIME view latches the rest of the snapshot for the port (R283). -/
theorem timeViewRead_low (wide : Bool) : Completes (.timeViewRead p 0x400#16 wide) s [.acc, .out] [] fun t =>
    t.out = .window p.val ((s.timeLow + s.timeWords * 2 ^ 32) % 2 ^ (if wide then 64 else 32)) (if wide then 8 else 4) :: s.out ∧
    mget t.acc.timeView p.val = some s.timeWords := by
  have hread : ∀ n, s.timeView p.val 0x400 n = ((s.timeLow + s.timeWords * 2 ^ 32) % 2 ^ (8 * n),
      { s with acc := { s.acc with timeView := mset s.acc.timeView p.val s.timeWords } }) := fun _ => rfl
  have hform : windowForm 0x400 (if wide then 8 else 4) = true := by cases wide <;> rfl
  have hexec : exec (.timeViewRead p 0x400#16 wide) s = s.ends (s.windowGet p.val 0x400 (if wide then 8 else 4)) := rfl
  rw [State.windowGet_timeView hopen hup hform (by decide) (by decide), hread] at hexec
  refine completes_of_frame hexec (((Frame.refl s).setAcc _).emit _) ⟨?_, ?_⟩
  · rw [State.ended_out]
    cases wide <;> rfl
  · exact (s.ended_access _ fun a => mget a.timeView p.val).trans ((mget_mset ..).trans (if_pos rfl))

/-- The words behind it read what the port has latched (R283). -/
theorem timeViewRead_high (k : Nat) (hk : k < 3) : Completes (.timeViewRead p (BitVec.ofNat 16 (0x404 + 4 * k)) false) s [.out] [] fun t =>
    t.out = .window p.val (mgetD s.acc.timeView p.val 0 / 2 ^ (32 * k) % 2 ^ 32) 4 :: s.out := by
  have hoff : (BitVec.ofNat 16 (0x404 + 4 * k)).toNat = 0x404 + 4 * k := by
    rw [BitVec.toNat_ofNat]
    omega
  have hread : s.timeView p.val (0x404 + 4 * k) 4 = (mgetD s.acc.timeView p.val 0 / 2 ^ (32 * k) % 2 ^ 32, s) := by
    unfold State.timeView
    dsimp only
    rw [if_neg (by omega), show 8 * (0x404 + 4 * k - 0x404) = 32 * k by omega]
  have hform : windowForm (0x404 + 4 * k) 4 = true := by
    unfold windowForm
    rw [decide_eq_true (show (0x404 + 4 * k) % 4 = 0 by omega)]
    rfl
  have hexec : exec (.timeViewRead p (BitVec.ofNat 16 (0x404 + 4 * k)) false) s =
      s.ends (s.emit (.window p.val (mgetD s.acc.timeView p.val 0 / 2 ^ (32 * k) % 2 ^ 32) 4)) := by
    show s.ends (s.windowGet p.val (BitVec.ofNat 16 (0x404 + 4 * k)).toNat 4) = _
    rw [hoff, State.windowGet_timeView hopen hup hform (by omega) (by omega), hread]
  exact completes_of_frame hexec ((Frame.refl s).emit _) (s.ended_out _)

/-- The low word of the TICK view latches its high word for the port (R283). -/
theorem tickViewRead_low (wide : Bool) : Completes (.tickViewRead p 0x410#16 wide) s [.acc, .out] [] fun t =>
    t.out = .window p.val (s.time.tick % 2 ^ (if wide then 64 else 32)) (if wide then 8 else 4) :: s.out ∧
    mget t.acc.tickView p.val = some (s.time.tick / 2 ^ 32) := by
  have hread : ∀ n, s.tickView p.val 0x410 n = (s.time.tick % 2 ^ (8 * n),
      { s with acc := { s.acc with tickView := mset s.acc.tickView p.val (s.time.tick / 2 ^ 32) } }) := fun _ => rfl
  have hform : windowForm 0x410 (if wide then 8 else 4) = true := by cases wide <;> rfl
  have hexec : exec (.tickViewRead p 0x410#16 wide) s = s.ends (s.windowGet p.val 0x410 (if wide then 8 else 4)) := rfl
  rw [State.windowGet_tickView hopen hup hform (by decide) (by decide), hread] at hexec
  refine completes_of_frame hexec (((Frame.refl s).setAcc _).emit _) ⟨?_, ?_⟩
  · rw [State.ended_out]
    cases wide <;> rfl
  · exact (s.ended_access _ fun a => mget a.tickView p.val).trans ((mget_mset ..).trans (if_pos rfl))

/-- The high word of the TICK view reads what the port has latched (R283). -/
theorem tickViewRead_high : Completes (.tickViewRead p 0x414#16 false) s [.out] [] fun t =>
    t.out = .window p.val (mgetD s.acc.tickView p.val 0 % 2 ^ 32) 4 :: s.out := by
  have hread : s.tickView p.val 0x414 4 = (mgetD s.acc.tickView p.val 0 % 2 ^ 32, s) := rfl
  have hexec : exec (.tickViewRead p 0x414#16 false) s = s.ends (s.emit (.window p.val (mgetD s.acc.tickView p.val 0 % 2 ^ 32) 4)) := by
    show s.ends (s.windowGet p.val 0x414 4) = _
    rw [State.windowGet_tickView hopen hup rfl (by decide) (by decide), hread]
  exact completes_of_frame hexec ((Frame.refl s).emit _) (s.ended_out _)

end

theorem windowViewsAndExpiry : Claims.WindowViewsAndExpiry := fun _ =>
  ⟨mailboxClaimExpiry_completes, fun _ hopen => ⟨fun hmgt => ⟨mailboxInvalidAccess_write hopen hmgt, mailboxInvalidAccess_read hopen hmgt⟩,
    fun hup => ⟨timeViewRead_low hopen hup, timeViewRead_high hopen hup, tickViewRead_low hopen hup, tickViewRead_high hopen hup⟩⟩⟩

end Sys2Proof.Machine
end

section
/-! PROOF. What the model's functions leave of the mailbox's status and of the requests that wait for the core: all but the loss of a path
(R203), the answer on the mailbox (R281) and a reset leave both. -/
set_option Elab.async false
namespace Sys2Proof.Machine

/-- The status of the fabric mailbox, and the requests that wait for the core. -/
def Access.mail (a : Access) : Nat × List Request := (a.mbStatus, a.queue)

theorem foldl_mail {α : Type} {f : State → α → State} (h : ∀ s a, (f s a).acc.mail = s.acc.mail) (l : List α) (s : State) :
    (l.foldl f s).acc.mail = s.acc.mail := foldl_keeps (fun s => s.acc.mail) f h l s

/-! ### Paths and carriers -/

@[simp] theorem State.sendCan_mail (s : State) (id : Nat) (fd brs : Bool) (o : Octets) : (s.sendCan id fd brs o).acc.mail = s.acc.mail := by
  unfold State.sendCan
  dsimp only
  repeat' split
  all_goals simp

@[simp] theorem State.sendIp_mail (s : State) (d : Datagram) : (s.sendIp d).acc.mail = s.acc.mail := by
  unfold State.sendIp
  split
  · rfl
  · split
    · rfl
    · split <;> rfl

@[simp] theorem State.sendUdp_mail (s : State) (dst dport src sport : Nat) (o : Octets) :
    (s.sendUdp dst dport src sport o).acc.mail = s.acc.mail := by
  unfold State.sendUdp
  simp

@[simp] theorem State.setPath_mail (s : State) (p : Nat) (x : PathSt) : (s.setPath p x).acc.mail = s.acc.mail := rfl
@[simp] theorem State.setXfer_mail (s : State) (p : Nat) (t : Option Transfer) : (s.setXfer p t).acc.mail = s.acc.mail := rfl

@[simp] theorem State.closeDone_mail (s : State) (p req : Nat) : (s.closeDone p req).acc.mail = s.acc.mail := by
  unfold State.closeDone
  split
  · split <;> rfl
  · rfl

@[simp] theorem State.closeIdle_mail (s : State) (p : Nat) : (s.closeIdle p).acc.mail = s.acc.mail := by
  unfold State.closeIdle
  dsimp only
  repeat' split
  all_goals simp

@[simp] theorem State.accept_mail (s : State) (p req : Nat) : (s.accept p req).acc.mail = s.acc.mail := by
  unfold State.accept
  simp

/-! ### Causes, refusals and reads -/

@[simp] theorem pathAlert_mail (old new : Nat) (s : State) (p : Nat) : (pathAlert old new s p).acc.mail = s.acc.mail := rfl
@[simp] theorem pathCalm_mail (s : State) (e : Nat × Bool × Nat) : (pathCalm s e).acc.mail = s.acc.mail := rfl

@[simp] theorem State.alertPaths_mail (s : State) (old new : Nat) : (s.alertPaths old new).acc.mail = s.acc.mail := by
  unfold State.alertPaths
  split
  · rfl
  · extract_lets told
    have htold : told.acc.mail = s.acc.mail := foldl_mail (pathAlert_mail old new) _ s
    split
    · split
      · exact (foldl_mail pathCalm_mail _ told).trans htold
      · exact htold
    · exact htold

@[simp] theorem State.alertSync_mail (s : State) : s.alertSync.acc.mail = s.acc.mail :=
  (State.alertPaths_mail ..).trans (congrArg Access.mail s.alertEdge_acc)

@[simp] theorem State.setWord_mail (s : State) (br idx sub m : Nat) : (s.setWord br idx sub m).acc.mail = s.acc.mail := by
  unfold State.setWord
  split
  · simp [State.raise_acc]
  · split <;> simp

@[simp] theorem State.setCause_mail (s : State) (br b : Nat) : (s.setCause br b).acc.mail = s.acc.mail := by
  unfold State.setCause
  simp

@[simp] theorem State.refuse_mail (s : State) (a : Acc) (code : Nat) : (s.refuse a code).acc.mail = s.acc.mail := by
  unfold State.refuse
  dsimp only
  repeat' split
  all_goals simp

@[simp] theorem State.requestWipe_mail (s : State) (reason : Nat) : (s.requestWipe reason).acc.mail = s.acc.mail := rfl

@[simp] theorem State.serveRead_mail (s : State) (p req idx sub : Nat) : (s.serveRead p req idx sub).2.2.acc.mail = s.acc.mail := by
  unfold State.serveRead
  extract_lets t a
  have ht : t.acc.mail = s.acc.mail := s.accept_mail p req
  split
  · exact (State.refuse_mail ..).trans ht
  · extract_lets code
    split
    · exact ht
    · refine (State.refuse_mail ..).trans ?_
      split <;> exact ht

@[simp] theorem State.response_mail (s : State) (p req : Nat) (o : Octets) : (s.response p req o).2.acc.mail = s.acc.mail := by
  unfold State.response
  split
  · rfl
  · extract_lets x
    split
    · rfl
    · simp

/-! ### Access, staging and boot objects -/

@[simp] theorem State.rewritten_mail (s : State) (k : Nat) : (s.rewritten k).acc.mail = s.acc.mail := rfl
@[simp] theorem State.startTransition_mail (s : State) (t : Nat) : (s.startTransition t).acc.mail = s.acc.mail := rfl
@[simp] theorem State.closeSession_mail (s : State) (p : Nat) : (s.closeSession p).acc.mail = s.acc.mail := rfl
@[simp] theorem State.issueChallenge_mail (s : State) (p req level : Nat) : (s.issueChallenge p req level).acc.mail = s.acc.mail := rfl

@[simp] theorem State.requestSession_mail (s : State) (a : Acc) (v : Nat) : (s.requestSession a v).acc.mail = s.acc.mail := by
  unfold State.requestSession
  split <;> simp

@[simp] theorem State.discard_mail (s : State) : s.discard.acc.mail = s.acc.mail := rfl
@[simp] theorem State.startCommit_mail (s : State) : s.startCommit.acc.mail = s.acc.mail := rfl
@[simp] theorem State.sendBoundary_mail (s : State) (t : Nat) (cancel : Bool) : (s.sendBoundary t cancel).acc.mail = s.acc.mail := rfl

@[simp] theorem State.cancelCommit_mail (s : State) : s.cancelCommit.acc.mail = s.acc.mail := by
  unfold State.cancelCommit
  dsimp only
  repeat' split
  all_goals simp

@[simp] theorem State.saveFailed_mail (s : State) (why : Nat) : (s.saveFailed why).acc.mail = s.acc.mail := by
  unfold State.saveFailed
  split <;> simp

@[simp] theorem State.eraseTarget_mail (s : State) (n : Nat) : (s.eraseTarget n).acc.mail = s.acc.mail := rfl

@[simp] theorem State.startSave_mail (s : State) : s.startSave.acc.mail = s.acc.mail := by
  unfold State.startSave
  dsimp only
  repeat' split
  all_goals simp

@[simp] theorem State.noteCleared_mail (s : State) (k m : Nat) : (s.noteCleared k m).acc.mail = s.acc.mail := rfl

@[simp] theorem State.noteBefore_mail (s : State) : s.noteBefore.acc.mail = s.acc.mail := by
  unfold State.noteBefore
  split <;> simp

@[simp] theorem State.clearWord_mail (s : State) (idx sub m : Nat) : (s.clearWord idx sub m).acc.mail = s.acc.mail := by
  unfold State.clearWord
  extract_lets hit cycle met took counted
  have hcounted : counted.acc = s.acc := by
    unfold counted
    split
    · exact s.alertCycle_acc
    · exact s.alertCycle_acc
  split
  · rfl
  · split
    · exact congrArg Access.mail hcounted
    · simp [hcounted]

@[simp] theorem State.clearBranch_mail (s : State) (br m : Nat) : (s.clearBranch br m).acc.mail = s.acc.mail := by
  unfold State.clearBranch
  extract_lets t
  have ht : t.acc.mail = s.acc.mail := s.clearWord_mail ..
  split
  · refine (foldl_mail (fun u j => ?_) _ t).trans ht
    split <;> simp
  · exact ht

@[simp] theorem State.clearAll_mail (s : State) : s.clearAll.acc.mail = s.acc.mail :=
  (State.alertSync_mail _).trans (foldl_mail (fun t br => t.clearBranch_mail br _) _ s)

@[simp] theorem State.clearCause_mail (s : State) (idx sub m : Nat) : (s.clearCause idx sub m).acc.mail = s.acc.mail := by
  unfold State.clearCause
  rw [State.alertSync_mail]
  split
  · simp
  · split
    · split <;> simp
    · rfl

@[simp] theorem State.liveAccess_mail (s : State) (a : Acc) (n : Nat) : (s.liveAccess a n).acc.mail = s.acc.mail := by
  unfold State.liveAccess
  dsimp only
  repeat' split
  all_goals simp

/-! ### Clocks and resets -/

@[simp] theorem State.requestRoot_mail (s : State) (d : Domain) (src : Nat) : (s.requestRoot d src).acc.mail = s.acc.mail := rfl

@[simp] theorem State.latchFault_mail (s : State) (k : Nat) : (s.latchFault k).acc.mail = s.acc.mail := by
  unfold State.latchFault
  extract_lets idx br t
  show t.acc.mail = s.acc.mail
  unfold t
  split
  · rfl
  · split
    · rfl
    · split
      · refine (foldl_mail (fun _ _ => ?_) _ _).trans ?_
        · rfl
        · rfl
      · rfl

@[simp] theorem State.reloadLatch_mail (s : State) : s.reloadLatch.acc.mail = s.acc.mail := by
  unfold State.reloadLatch
  extract_lets t bad
  have ht : t.acc.mail = s.acc.mail := by
    refine foldl_mail (fun _ _ => ?_) _ s
    rfl
  exact (State.alertSync_mail _).trans ((foldl_mail State.latchFault_mail _ _).trans ht)

@[simp] theorem State.startBoot_mail (s : State) (step : Nat) : (s.startBoot step).acc.mail = s.acc.mail := by
  unfold State.startBoot
  simp

@[simp] theorem State.srvStart_mail (s : State) : s.srvStart.acc.mail = s.acc.mail := by
  unfold State.srvStart
  split <;> simp

@[simp] theorem State.meterHit_mail (s : State) (d : Domain) : (s.meterHit d).acc.mail = s.acc.mail := by
  unfold State.meterHit
  split <;> simp

@[simp] theorem State.tapLeave_mail (s : State) (i : Nat) : (s.tapLeave i).acc.mail = s.acc.mail := by
  unfold State.tapLeave
  dsimp only
  repeat' split
  all_goals simp

@[simp] theorem State.cairnGone_mail (s : State) (p : Nat) : (s.cairnGone p).acc.mail = s.acc.mail := by
  unfold State.cairnGone
  extract_lets _ gone sources
  have hsources : sources.acc.mail = s.acc.mail := by
    refine (foldl_mail (fun t i => ?_) _ gone).trans rfl
    split <;> rfl
  refine (foldl_mail (fun t i => ?_) _ sources).trans hsources
  split
  · extract_lets left
    show left.acc.mail = t.acc.mail
    unfold left
    split <;> simp
  · rfl

/-! ### The home -/

@[simp] theorem State.poisonLine_mail (s : State) (line : Nat) : (s.poisonLine line).acc.mail = s.acc.mail := by
  unfold State.poisonLine
  split <;> simp

@[simp] theorem State.freeEntry_mail (s : State) (line : Nat) : (s.freeEntry line).acc.mail = s.acc.mail := rfl
@[simp] theorem State.putEntry_mail (s : State) (line : Nat) (e : FilterEntry) : (s.putEntry line e).acc.mail = s.acc.mail := rfl
@[simp] theorem State.endTxn_mail (s : State) (line : Nat) : (s.endTxn line).acc.mail = s.acc.mail := rfl

@[simp] theorem State.endSnoops_mail (s : State) (line : Nat) (recalling : Bool) : (s.endSnoops line recalling).acc.mail = s.acc.mail := by
  unfold State.endSnoops
  split
  · split <;> rfl
  · rfl

@[simp] theorem State.answer_mail (s : State) (p : Nat) (m : LinkMsg) (vc opc : Nat) (poison : Bool) (data : Octets) :
    (s.answer p m vc opc poison data).acc.mail = s.acc.mail := by
  unfold State.answer
  split <;> simp

@[simp] theorem State.abandonStep_mail (s : State) : s.abandonStep.acc.mail = s.acc.mail := by
  unfold State.abandonStep
  split <;> simp

@[simp] theorem State.correctLine_mail (s : State) (off : Nat) : (s.correctLine off).acc.mail = s.acc.mail := by
  unfold State.correctLine
  dsimp only
  repeat' split
  all_goals simp

@[simp] theorem State.failLine_mail (s : State) (off w n : Nat) : (s.failLine off w n).acc.mail = s.acc.mail := rfl

@[simp] theorem State.readLine_mail (s : State) (off : Nat) : (s.readLine off).2.2.acc.mail = s.acc.mail := by
  unfold State.readLine
  split
  · rfl
  · split
    · split <;> simp
    · split <;> simp

@[simp] theorem State.cohEvent_mail (s : State) (bitNo kind addr sid : Nat) : (s.cohEvent bitNo kind addr sid).acc.mail = s.acc.mail := by
  unfold State.cohEvent
  simp

@[simp] theorem State.answerLine_mail (s : State) (p : Nat) (m : LinkMsg) (opc off : Nat) : (s.answerLine p m opc off).acc.mail = s.acc.mail := by
  unfold State.answerLine
  dsimp only
  split <;> simp

@[simp] theorem State.answerUc_mail (s : State) (p : Nat) (m : LinkMsg) (off : Nat) : (s.answerUc p m off).acc.mail = s.acc.mail := by
  unfold State.answerUc
  dsimp only
  split <;> split <;> simp

@[simp] theorem State.answerBarred_mail (s : State) (p : Nat) (m : LinkMsg) (off : Nat) : (s.answerBarred p m off).acc.mail = s.acc.mail := by
  unfold State.answerBarred
  split
  · simp
  · split <;> simp

@[simp] theorem State.hit_mail (s : State) (line : Nat) : (s.hit line).acc.mail = s.acc.mail := by
  unfold State.hit
  split <;> simp

@[simp] theorem State.putTxn_mail (s : State) (line : Nat) (t : Txn) : (s.putTxn line t).acc.mail = s.acc.mail := rfl

@[simp] theorem State.awaitSnoop_mail (s : State) (line : Nat) (x : Snoop) : (s.awaitSnoop line x).acc.mail = s.acc.mail := by
  unfold State.awaitSnoop
  split <;> simp

@[simp] theorem State.sendSnp_mail (s : State) (line sid : Nat) (inv : Bool) (tag : Nat) : (s.sendSnp line sid inv tag).acc.mail = s.acc.mail := by
  unfold State.sendSnp
  simp

@[simp] theorem State.sendSnoop_mail (s : State) (line sid : Nat) (inv : Bool) : (s.sendSnoop line sid inv).acc.mail = s.acc.mail := by
  unfold State.sendSnoop
  dsimp only
  repeat' split
  all_goals simp

@[simp] theorem State.snoopAll_mail (s : State) (line port : Nat) (req : Option LinkMsg) (recalling : Bool) (sids : List Nat) (inv : Bool) :
    (s.snoopAll line port req recalling sids inv).acc.mail = s.acc.mail :=
  foldl_mail (fun t sid => t.sendSnoop_mail line sid inv) sids _

@[simp] theorem State.quiesceLine_mail (s : State) (line : Nat) : (s.quiesceLine line).acc.mail = s.acc.mail := by
  unfold State.quiesceLine
  dsimp only
  repeat' split
  all_goals simp

@[simp] theorem State.clearUse_mail (s : State) (k : Nat) : (s.clearUse k).acc.mail = s.acc.mail := rfl
@[simp] theorem State.waitOn_mail (s : State) (w : Waiter) : (s.waitOn w).acc.mail = s.acc.mail := rfl

@[simp] theorem State.grantNew_mail (s : State) (line p : Nat) (m : LinkMsg) (off : Nat) (excl : Bool) :
    (s.grantNew line p m off excl).acc.mail = s.acc.mail := by
  unfold State.grantNew
  dsimp only
  repeat' split
  all_goals simp

@[simp] theorem State.freshLine_mail (s : State) (off : Nat) (data : Octets) (poison : Bool) :
    (s.freshLine off data poison).acc.mail = s.acc.mail :=
  rfl

@[simp] theorem State.writeLine_mail (s : State) (off : Nat) (data : Octets) (poison : Bool) :
    (s.writeLine off data poison).acc.mail = s.acc.mail := by
  unfold State.writeLine
  split <;> simp

@[simp] theorem State.hostWrite_mail (s : State) (off i : Nat) (data : Octets) (poison : Bool) :
    (s.hostWrite off i data poison).acc.mail = s.acc.mail := by
  unfold State.hostWrite
  split
  · rfl
  · split <;> simp

@[simp] theorem State.applyWrite_mail (s : State) (p : Nat) (m : LinkMsg) (off : Nat) : (s.applyWrite p m off).acc.mail = s.acc.mail := by
  unfold State.applyWrite
  simp

@[simp] theorem State.decideI_mail (s : State) (line p : Nat) (m : LinkMsg) (off : Nat) : (s.decideI line p m off).acc.mail = s.acc.mail := by
  unfold State.decideI
  split <;> simp

@[simp] theorem State.decideEM_mail (s : State) (line p : Nat) (m : LinkMsg) (e : FilterEntry) : (s.decideEM line p m e).acc.mail = s.acc.mail := by
  unfold State.decideEM
  split
  case h_2 => split <;> simp
  all_goals simp

@[simp] theorem State.decideS_mail (s : State) (line p : Nat) (m : LinkMsg) (off : Nat) (e : FilterEntry) :
    (s.decideS line p m off e).acc.mail = s.acc.mail := by
  unfold State.decideS
  dsimp only
  repeat' split
  all_goals simp

@[simp] theorem State.homeDecide_mail (s : State) (line p : Nat) (m : LinkMsg) (off : Nat) : (s.homeDecide line p m off).acc.mail = s.acc.mail := by
  unfold State.homeDecide
  dsimp only
  repeat' split
  all_goals simp

@[simp] theorem State.serveTxn_mail (s : State) (line p : Nat) (m : LinkMsg) (off : Nat) : (s.serveTxn line p m off).acc.mail = s.acc.mail := by
  unfold State.serveTxn
  split
  · simp
  · repeat' split
    all_goals simp

@[simp] theorem State.startRecall_mail (s : State) (line : Nat) : (s.startRecall line).acc.mail = s.acc.mail := by
  unfold State.startRecall
  split
  · split <;> simp
  · rfl

@[simp] theorem State.finishTxn_mail (s : State) (line : Nat) : (s.finishTxn line).acc.mail = s.acc.mail := by
  unfold State.finishTxn
  dsimp only
  repeat' split
  all_goals simp

@[simp] theorem State.removeFromLine_mail (port : Nat) (s : State) (line : Nat) : (State.removeFromLine port s line).acc.mail = s.acc.mail := by
  unfold State.removeFromLine
  dsimp only
  repeat' split
  all_goals simp

@[simp] theorem State.removeAgents_mail (s : State) (port : Nat) : (s.removeAgents port).acc.mail = s.acc.mail := by
  unfold State.removeAgents
  exact foldl_mail (State.removeFromLine_mail port) _ _

/-! ### Units that are lost -/

@[simp] theorem State.setPortCause_mail (s : State) (p b : Nat) : (s.setPortCause p b).acc.mail = s.acc.mail := by
  unfold State.setPortCause
  simp

@[simp] theorem State.cmpLost_mail (s : State) : s.cmpLost.acc.mail = s.acc.mail := rfl

@[simp] theorem State.probeBadFrom_mail (s : State) : s.probeBadFrom.acc.mail = s.acc.mail := by
  unfold State.probeBadFrom
  split <;> simp

@[simp] theorem State.prbLost_mail (s : State) : s.prbLost.acc.mail = s.acc.mail := by
  unfold State.prbLost
  simp

@[simp] theorem State.campSrcStat_mail (s : State) (i : Nat) : (s.campSrcStat i).acc.mail = s.acc.mail := by
  unfold State.campSrcStat
  split <;> simp

@[simp] theorem State.sendTime_mail (s : State) (i opc tag : Nat) (data : Octets) : (s.sendTime i opc tag data).acc.mail = s.acc.mail := by
  unfold State.sendTime
  simp

@[simp] theorem State.sendAdjMsg_mail (s : State) (i : Nat) (delta trim : Int) : (s.sendAdjMsg i delta trim).acc.mail = s.acc.mail := by
  unfold State.sendAdjMsg
  simp

@[simp] theorem State.setActuator_mail (s : State) (l : Nat) (u : Int) : (s.setActuator l u).acc.mail = s.acc.mail := by
  unfold State.setActuator
  dsimp only
  repeat' split
  all_goals simp

@[simp] theorem State.endSweep_mail (s : State) (w : SweepSt) (how : Nat) : (s.endSweep w how).acc.mail = s.acc.mail := by
  unfold State.endSweep
  simp

@[simp] theorem State.setLoopCause_mail (s : State) (l b : Nat) : (s.setLoopCause l b).acc.mail = s.acc.mail := by
  unfold State.setLoopCause
  simp

@[simp] theorem State.lockLost_mail (s : State) (l : Nat) (was : Nat) : (s.lockLost l was).acc.mail = s.acc.mail := by
  unfold State.lockLost
  split <;> simp

@[simp] theorem State.srvLost_mail (s : State) : s.srvLost.acc.mail = s.acc.mail := by
  unfold State.srvLost
  extract_lets swept _ loops
  have hswept : swept.acc.mail = s.acc.mail := by
    unfold swept
    split <;> simp
  have hloops : loops.acc.mail = s.acc.mail := by
    refine (foldl_mail (fun t l => ?_) _ swept).trans hswept
    simp
  clear_value loops
  exact hloops

@[simp] theorem State.recallLine_mail (s : State) (line k : Nat) : (s.recallLine line k).acc.mail = s.acc.mail := by
  unfold State.recallLine
  split
  · split <;> simp
  · rfl

@[simp] theorem State.recallBank_mail (s : State) (b : Nat) : (s.recallBank b).acc.mail = s.acc.mail :=
  foldl_mail (fun t e => by
    split
    · split <;> simp
    · rfl) _ s

@[simp] theorem State.stopTest_mail (s : State) (b : Nat) : (s.stopTest b).acc.mail = s.acc.mail := by
  unfold State.stopTest
  split <;> simp

@[simp] theorem State.moveBank_mail (s : State) (b st target : Nat) (zero : Bool) : (s.moveBank b st target zero).acc.mail = s.acc.mail := rfl

@[simp] theorem State.bankToward_mail (s : State) (b sel : Nat) : (s.bankToward b sel).acc.mail = s.acc.mail := by
  unfold State.bankToward
  dsimp only
  repeat' split
  all_goals simp

@[simp] theorem State.wakesUndone_mail (s : State) : s.wakesUndone.acc.mail = s.acc.mail := foldl_mail (fun t b => by split <;> simp) _ s

/-! ### Clock and unit objects -/

@[simp] theorem State.rootAsked_mail (s : State) (d : Domain) (src : Nat) : (s.rootAsked d src).acc.mail = s.acc.mail := by
  unfold State.rootAsked
  split <;> simp

@[simp] theorem State.startMeter_mail (s : State) : s.startMeter.acc.mail = s.acc.mail := rfl

@[simp] theorem State.clkmonFollow_mail (s : State) : s.clkmonFollow.acc.mail = s.acc.mail := by
  unfold State.clkmonFollow
  dsimp only
  repeat' split
  all_goals simp

@[simp] theorem State.dvfsMove_mail (s : State) : s.dvfsMove.acc.mail = s.acc.mail := by
  unfold State.dvfsMove
  dsimp only
  repeat' split
  all_goals simp

@[simp] theorem State.marginReset_mail (s : State) : s.marginReset.acc.mail = s.acc.mail := by
  refine foldl_mail (fun _ _ => ?_) _ s
  rfl

@[simp] theorem State.positionLoad_mail (s : State) (j : Nat) : (s.positionLoad j).acc.mail = s.acc.mail := rfl

@[simp] theorem State.requestArm_mail (s : State) : s.requestArm.acc.mail = s.acc.mail := by
  unfold State.requestArm
  dsimp only
  repeat' split
  all_goals simp

@[simp] theorem State.requestDisarm_mail (s : State) : s.requestDisarm.acc.mail = s.acc.mail := by
  unfold State.requestDisarm
  dsimp only
  repeat' split
  all_goals simp

@[simp] theorem State.resumeStream_mail (s : State) (t : Nat) : (s.resumeStream t).acc.mail = s.acc.mail := by
  unfold State.resumeStream
  simp

@[simp] theorem State.submitJobs_mail (s : State) (v : Nat) : (s.submitJobs v).acc.mail = s.acc.mail := foldl_mail (fun t i => by simp) _ _

@[simp] theorem State.jobFailed_mail (s : State) (slot status detail : Nat) : (s.jobFailed slot status detail).acc.mail = s.acc.mail := by
  unfold State.jobFailed
  dsimp only
  repeat' split
  all_goals simp

@[simp] theorem State.endJob_mail (s : State) (c : Nat) (e : JobEnd) : (s.endJob c e).acc.mail = s.acc.mail := by
  unfold State.endJob
  dsimp only
  repeat' split
  all_goals simp

@[simp] theorem State.flushJobs_mail (s : State) : s.flushJobs.acc.mail = s.acc.mail :=
  foldl_mail (fun t c => by
    dsimp only
    split
    · rfl
    · split <;> simp) _ s

@[simp] theorem State.dropLock_mail (s : State) (l sub : Nat) : (s.dropLock l sub).acc.mail = s.acc.mail := by
  unfold State.dropLock
  simp

@[simp] theorem State.resumeLoops_mail (s : State) (m : Nat) : (s.resumeLoops m).acc.mail = s.acc.mail :=
  foldl_mail (fun t l => by
    dsimp only
    repeat' split
    all_goals simp) _ s

@[simp] theorem State.startSweep_mail (s : State) (l : Nat) : (s.startSweep l).acc.mail = s.acc.mail := by
  unfold State.startSweep
  dsimp only
  repeat' split
  all_goals simp

/-! ### The pair -/

@[simp] theorem State.sendPortStat_mail (s : State) (p : Nat) : (s.sendPortStat p).acc.mail = s.acc.mail := by
  unfold State.sendPortStat
  dsimp only
  repeat' split
  all_goals simp

@[simp] theorem State.syncInelig_mail (s : State) : s.syncInelig.acc.mail = s.acc.mail := by
  unfold State.syncInelig
  split <;> simp

@[simp] theorem State.syncRope_mail (s : State) : s.syncRope.acc.mail = s.acc.mail := by
  unfold State.syncRope
  dsimp only
  repeat' split
  all_goals simp

@[simp] theorem State.setEligible_mail (s : State) (e : Bool) : (s.setEligible e).acc.mail = s.acc.mail := by
  unfold State.setEligible
  split <;> simp

@[simp] theorem State.syncElig_mail (s : State) : s.syncElig.acc.mail = s.acc.mail := by
  unfold State.syncElig
  dsimp only
  repeat' split
  all_goals simp

@[simp] theorem State.progress_mail (s : State) (code : Nat) : (s.progress code).acc.mail = s.acc.mail := rfl

@[simp] theorem State.toDict_mail (s : State) : s.toDict.acc.mail = s.acc.mail := by
  unfold State.toDict
  simp

@[simp] theorem State.stepUp_mail (s : State) (n : Nat) : (s.stepUp n).acc.mail = s.acc.mail := by
  unfold State.stepUp
  split <;> simp

@[simp] theorem State.secondFollow_mail (s : State) : s.secondFollow.acc.mail = s.acc.mail := by
  unfold State.secondFollow
  dsimp only
  repeat' split
  all_goals simp

@[simp] theorem State.leadPort_mail (s : State) (p : Nat) : (s.leadPort p).acc.mail = s.acc.mail := by
  unfold State.leadPort
  dsimp only
  repeat' split
  all_goals simp

@[simp] theorem State.leadFollow_mail (s : State) : s.leadFollow.acc.mail = s.acc.mail := by
  unfold State.leadFollow
  extract_lets told
  have htold : told.acc.mail = s.acc.mail := by
    unfold told
    split
    · exact foldl_mail State.leadPort_mail _ s
    · rfl
  split
  · simpa using htold
  · exact htold

@[simp] theorem State.pairFollow_mail (s : State) : s.pairFollow.acc.mail = s.acc.mail := by
  unfold State.pairFollow
  split
  · extract_lets told
    have htold : told.acc.mail = s.acc.mail := by
      unfold told
      split
      · exact foldl_mail State.sendPortStat_mail _ s
      · rfl
    exact (State.secondFollow_mail _).trans htold
  · split
    · exact s.leadFollow_mail
    · rfl

/-! ### Ports, keys and staging -/

@[simp] theorem State.startAttempt_mail (s : State) (p attempt : Nat) : (s.startAttempt p attempt).acc.mail = s.acc.mail := rfl
@[simp] theorem State.startTraining_mail (s : State) (p : Nat) : (s.startTraining p).acc.mail = s.acc.mail := rfl

@[simp] theorem State.trainAgain_mail (s : State) (p : Nat) : (s.trainAgain p).acc.mail = s.acc.mail := by
  unfold State.trainAgain
  split <;> simp

@[simp] theorem State.startHandover_mail (s : State) : s.startHandover.acc.mail = s.acc.mail := rfl
@[simp] theorem State.startKi_mail (s : State) (v : Nat) : (s.startKi v).acc.mail = s.acc.mail := rfl
@[simp] theorem State.clearDiag_mail (s : State) : s.clearDiag.acc.mail = s.acc.mail := rfl

@[simp] theorem State.stage_mail (s : State) (r : Row) (a : Acc) (v : Val) : (s.stage r a v).acc.mail = s.acc.mail := by
  unfold State.stage
  split <;> simp

@[simp] theorem State.hostAbort_mail (s : State) (p req : Nat) : (s.hostAbort p req).acc.mail = s.acc.mail := by
  unfold State.hostAbort
  split
  · split <;> rfl
  · rfl

/-! ### The units' completions -/

@[simp] theorem State.setWinCause_mail (s : State) (w b : Nat) : (s.setWinCause w b).acc.mail = s.acc.mail := by
  unfold State.setWinCause
  simp

@[simp] theorem State.freeStreamLanes_mail (s : State) (t : Nat) : (s.freeStreamLanes t).acc.mail = s.acc.mail := rfl

@[simp] theorem State.streamError_mail (s : State) (t code : Nat) : (s.streamError t code).acc.mail = s.acc.mail := by
  unfold State.streamError
  simp

@[simp] theorem State.sendProducer_mail (s : State) (t : Nat) : (s.sendProducer t).acc.mail = s.acc.mail := by
  unfold State.sendProducer
  dsimp only
  repeat' split
  all_goals simp

@[simp] theorem State.frameAck_mail (s : State) (t id : Nat) : (s.frameAck t id).acc.mail = s.acc.mail := by
  unfold State.frameAck
  simp

@[simp] theorem State.checkpoint_mail (s : State) (t id : Nat) : (s.checkpoint t id).acc.mail = s.acc.mail := by
  unfold State.checkpoint
  dsimp only
  repeat' split
  all_goals simp

@[simp] theorem State.consumerRead_mail (s : State) (t : Nat) (data : Octets) : (s.consumerRead t data).acc.mail = s.acc.mail := by
  unfold State.consumerRead
  dsimp only
  repeat' split
  all_goals simp

@[simp] theorem State.descRead_mail (s : State) (c result : Nat) (data : Octets) : (s.descRead c result data).acc.mail = s.acc.mail := by
  unfold State.descRead
  dsimp only
  repeat' split
  all_goals simp

@[simp] theorem State.advanceHead_mail (s : State) (fuel : Nat) : (s.advanceHead fuel).acc.mail = s.acc.mail := by
  induction fuel generalizing s with
  | zero => rfl
  | succ n ih =>
    unfold State.advanceHead
    split
    · exact ih _
    · rfl

@[simp] theorem State.descWritten_mail (s : State) (c result : Nat) : (s.descWritten c result).acc.mail = s.acc.mail := by
  unfold State.descWritten
  split <;> simp

@[simp] theorem State.unitDone_mail (s : State) (r : DevReq) (result : Nat) (data : Octets) : (s.unitDone r result data).acc.mail = s.acc.mail := by
  unfold State.unitDone
  dsimp only
  repeat' split
  all_goals simp

@[simp] theorem State.takeDone_mail (s : State) (fuel : Nat) : (s.takeDone fuel).acc.mail = s.acc.mail := by
  induction fuel generalizing s with
  | zero => rfl
  | succ n ih =>
    unfold State.takeDone
    split
    · rfl
    · exact (ih _).trans (State.unitDone_mail ..)

@[simp] theorem State.serveUnits_mail (s : State) : s.serveUnits.acc.mail = s.acc.mail := by
  unfold State.serveUnits
  simp

/-! ### Requests that waited -/

@[simp] theorem State.drainOne_mail (s : State) : s.drainOne.acc.mail = s.acc.mail := by
  unfold State.drainOne
  dsimp only
  repeat' split
  all_goals simp

@[simp] theorem State.drainDev_mail (s : State) : s.drainDev.acc.mail = s.acc.mail := foldl_mail (fun t _ => t.drainOne_mail) _ s

@[simp] theorem State.tracked_mail (s : State) : s.tracked.acc.mail = s.acc.mail := rfl

@[simp] theorem State.protoViolation_mail (s : State) (addr sid : Nat) : (s.protoViolation addr sid).acc.mail = s.acc.mail := by
  unfold State.protoViolation
  simp

@[simp] theorem State.wait_mail (s : State) (w : Waiter) : (s.wait w).acc.mail = s.acc.mail := rfl

@[simp] theorem State.placeRequest_mail (s : State) (p : Nat) (m : LinkMsg) (off : Nat) (more : Bool) :
    (s.placeRequest p m off more).acc.mail = s.acc.mail := by
  unfold State.placeRequest
  dsimp only
  repeat' split
  all_goals simp

@[simp] theorem State.request_mail (s : State) (p : Nat) (m : LinkMsg) (off : Nat) (more : Bool) :
    (s.request p m off more).acc.mail = s.acc.mail := by
  unfold State.request
  dsimp only
  repeat' split
  all_goals simp

@[simp] theorem State.drainOneReq_mail (s : State) : s.drainOneReq.acc.mail = s.acc.mail := by
  unfold State.drainOneReq
  dsimp only
  repeat' split
  all_goals simp

@[simp] theorem State.drainInbox_mail (s : State) : s.drainInbox.acc.mail = s.acc.mail := foldl_mail (fun t _ => t.drainOneReq_mail) _ s

@[simp] theorem State.settle_mail (s : State) : s.settle.acc.mail = s.acc.mail := by
  unfold State.settle
  simp

end Sys2Proof.Machine
end

section
/-! PROOF. The handling of a frame and the service of the queue leave the fabric mailbox BUSY only for a request that waits (R268, R281). -/
set_option Elab.async false
namespace Sys2Proof.Machine

/-! ### Requests of the mailbox that a change leaves waiting -/

/-- Requests leave the queue alone, and the mailbox is BUSY after only where it was before, with its own requests still waiting. -/
def State.MailLeft (s t : State) : Prop :=
  t.acc.queue.Sublist s.acc.queue ∧ (t.acc.mbStatus = 1 → s.acc.mbStatus = 1 ∧ ∀ r ∈ s.acc.queue, r.path = 3 → r ∈ t.acc.queue)

section
variable {s t u : State}

theorem State.MailLeft.of_mail (h : t.acc.mail = s.acc.mail) : s.MailLeft t := by
  obtain ⟨hstatus, hqueue⟩ := Prod.mk.inj h
  exact ⟨by rw [hqueue], fun hbusy => ⟨hstatus ▸ hbusy, fun r hr _ => hqueue ▸ hr⟩⟩

/-- A mailbox that shows something other than BUSY says nothing of the queue but that none came. -/
theorem State.MailLeft.of_idle (hqueue : t.acc.queue.Sublist s.acc.queue) (h : t.acc.mbStatus ≠ 1) : s.MailLeft t :=
  ⟨hqueue, fun hbusy => absurd hbusy h⟩

theorem State.MailLeft.refl (s : State) : s.MailLeft s := .of_mail rfl

theorem State.MailLeft.trans (h : s.MailLeft t) (k : t.MailLeft u) : s.MailLeft u := by
  obtain ⟨hqueue, hbusy⟩ := h
  obtain ⟨kqueue, kbusy⟩ := k
  refine ⟨kqueue.trans hqueue, fun hu => ?_⟩
  obtain ⟨ht, kept⟩ := kbusy hu
  obtain ⟨hs, kept'⟩ := hbusy ht
  exact ⟨hs, fun r hr hp => kept r (kept' r hr hp) hp⟩

theorem State.MailLeft.keep (h : s.MailLeft t) (k : u.acc.mail = t.acc.mail) : s.MailLeft u := h.trans (.of_mail k)

theorem State.MailLeft.ite {c : Prop} [Decidable c] (h : c → s.MailLeft t) (k : ¬c → s.MailLeft u) : s.MailLeft (if c then t else u) := by
  split
  · next hc => exact h hc
  · next hc => exact k hc

theorem State.MailLeft.foldl {α : Type} {f : State → α → State} (h : ∀ (s : State) (a : α), s.MailLeft (f s a)) (l : List α) (s : State) :
    s.MailLeft (l.foldl f s) := by
  induction l generalizing s with
  | nil => exact .refl s
  | cons a l ih => exact (h s a).trans (ih _)

/-- Where the mailbox was not BUSY, it is not. -/
theorem State.MailLeft.idle (h : s.MailLeft t) (hs : s.acc.mbStatus ≠ 1) : t.acc.mbStatus ≠ 1 := fun ht => hs (h.2 ht).1

end

/-! ### Units and paths that are lost -/

theorem State.enterReset_mailLeft (s : State) (k : ResetKind) : s.MailLeft (s.enterReset k) :=
  .of_idle (List.nil_sublist _) Nat.zero_ne_one

theorem State.softReset_mailLeft (s : State) (k : ResetKind) : s.MailLeft (s.softReset k) := by
  unfold State.softReset
  extract_lets boot _ _ timed
  have htimed : s.MailLeft timed := (s.enterReset_mailLeft k).keep (State.startBoot_mail ..)
  exact .ite (fun _ => htimed) fun _ => htimed.keep (State.srvStart_mail _)

theorem State.pathLost_mailLeft (s : State) (p : Nat) : s.MailLeft (s.pathLost p) := by
  have hqueue : (s.acc.queue.filter fun r => decide (r.path ≠ p)).Sublist s.acc.queue := List.filter_sublist
  have hother : p ≠ 3 → ∀ r ∈ s.acc.queue, r.path = 3 → r ∈ s.acc.queue.filter fun r => decide (r.path ≠ p) := fun hp r hr h3 =>
    List.mem_filter.2 ⟨hr, decide_eq_true (h3 ▸ hp.symm)⟩
  unfold State.pathLost
  refine .ite (fun h => ?_) fun _ => .ite (fun h => ?_) fun _ => .ite (fun _ => ?_) fun h3 => .ite (fun _ => ?_) fun _ => ?_
  · exact ⟨hqueue, fun hbusy => ⟨hbusy, hother (by omega)⟩⟩
  · exact ⟨hqueue, fun hbusy => ⟨hbusy, hother (by omega)⟩⟩
  · exact .of_idle hqueue Nat.zero_ne_one
  · exact ⟨hqueue, fun hbusy => ⟨hbusy, hother h3⟩⟩
  · exact ⟨hqueue, fun hbusy => ⟨hbusy, hother h3⟩⟩

theorem State.tickLost_mailLeft (s : State) : s.MailLeft s.tickLost :=
  (State.MailLeft.of_mail (s := s) rfl).trans (State.pathLost_mailLeft _ 1)

theorem State.mailboxLost_mailLeft (s : State) (p : Nat) : s.MailLeft (s.mailboxLost p) := by
  unfold State.mailboxLost
  split
  · exact .ite (fun _ => s.pathLost_mailLeft 3) fun _ => .refl s
  · exact .refl s

theorem State.portDisable_mailLeft (s : State) (p : Nat) : s.MailLeft (s.portDisable p) :=
  ((State.MailLeft.of_mail (congrArg Access.mail (s.setPort_acc p _))).trans (State.mailboxLost_mailLeft _ p)).keep
    ((State.cairnGone_mail _ p).trans (State.removeAgents_mail _ p))

theorem State.portDown_mailLeft (s : State) (p : Nat) : s.MailLeft (s.portDown p) :=
  ((State.MailLeft.of_mail (congrArg Access.mail (s.setPort_acc p _))).trans (State.mailboxLost_mailLeft _ p)).keep
    ((State.setPortCause_mail ..).trans ((State.cairnGone_mail _ p).trans (State.removeAgents_mail _ p)))

theorem State.portLost_mailLeft (s : State) (p : Nat) : s.MailLeft (s.portLost p) :=
  .ite (fun _ => s.portDisable_mailLeft p) fun _ => .ite (fun _ => s.portDown_mailLeft p) fun _ => .refl s

theorem State.fabLost_mailLeft (s : State) : s.MailLeft s.fabLost := by
  unfold State.fabLost
  extract_lets dirty c cleared lost done
  have hcleared : s.MailLeft cleared := .of_mail rfl
  have hlost : s.MailLeft lost := hcleared.trans (.foldl State.portLost_mailLeft _ cleared)
  clear_value lost
  have hdone : s.MailLeft done := hlost.keep rfl
  clear_value done
  exact .ite (fun _ => hdone.keep (State.setCause_mail ..)) fun _ => hdone

theorem State.mgtLost_mailLeft (s : State) : s.MailLeft s.mgtLost := by
  unfold State.mgtLost
  extract_lets woken _ _ dropped
  have hwoken : s.MailLeft woken := .ite (fun _ => .of_mail s.wakesUndone_mail) fun _ => .refl s
  exact (hwoken.keep (u := dropped) rfl).trans (.foldl State.pathLost_mailLeft _ dropped)

theorem State.domainLost_mailLeft (s : State) (d : Domain) : s.MailLeft (s.domainLost d) := by
  cases d with
  | tick => exact s.tickLost_mailLeft
  | fab => exact s.fabLost_mailLeft
  | lnk p => exact s.portLost_mailLeft p
  | cmp => exact .of_mail s.cmpLost_mail
  | prb => exact .of_mail s.prbLost_mail
  | srv => exact .of_mail s.srvLost_mail
  | mgt => exact s.mgtLost_mailLeft
  | _ => exact .refl s

/-! ### Effects of class L objects -/

theorem State.startForced_mailLeft (s : State) (d : Domain) (src : Nat) : s.MailLeft (s.startForced d src) := by
  unfold State.startForced
  extract_lets met was lost compressed _ forced asked
  have hmet : s.MailLeft met := .of_mail (s.meterHit_mail d)
  have hlost : s.MailLeft lost := hmet.trans (.ite (fun _ => .refl met) fun _ => met.domainLost_mailLeft d)
  have hcompressed : s.MailLeft compressed := by
    refine hlost.trans (.ite (fun _ => ?_) fun _ => .refl lost)
    split
    · exact .of_mail lost.cmpLost_mail
    · exact .refl lost
  have hasked : s.MailLeft asked := (hcompressed.keep (u := forced) rfl).keep (State.rootAsked_mail ..)
  split
  · exact .ite (fun _ => hasked) fun _ => hasked.keep rfl
  · exact hasked

theorem State.hostForced_mailLeft (s : State) (d : Domain) (src : Nat) : s.MailLeft (s.hostForced d src) := by
  unfold State.hostForced
  split
  · exact .ite (fun _ => s.softReset_mailLeft .failover) fun _ => s.startForced_mailLeft _ src
  · exact s.startForced_mailLeft d src

theorem State.liveClock_mailLeft (s : State) (a : Acc) (n : Nat) : s.MailLeft (s.liveClock a n) := by
  unfold State.liveClock
  split
  · split
    · exact .of_mail (s.requestRoot_mail ..)
    · exact .refl s
  · split
    · exact (State.MailLeft.of_mail (congrArg Access.mail (State.put_acc s ..))).trans (State.hostForced_mailLeft ..)
    · exact .refl s
  · split
    · exact .of_mail s.startMeter_mail
    · exact .refl s
  · exact .of_mail (by simp)
  · exact .of_mail (by simp)
  · exact .of_mail (by simp)

theorem State.quiesceEnd_mailLeft (s : State) (p : Nat) : s.MailLeft (s.quiesceEnd p) :=
  have hgone := (State.MailLeft.of_mail (s := s) rfl).trans (State.portDisable_mailLeft (s.emit (.sideband p 3 0 0)) p)
  .ite (fun _ => hgone.keep (State.trainAgain_mail ..)) fun _ => hgone

theorem State.portLeave_mailLeft (s : State) (p : Nat) : s.MailLeft (s.portLeave p) :=
  .ite (fun _ => s.quiesceEnd_mailLeft p) fun _ => (s.portDown_mailLeft p).keep (State.trainAgain_mail ..)

theorem State.retrain_mailLeft (s : State) (p : Nat) : s.MailLeft (s.retrain p) :=
  State.MailLeft.keep (.ite (fun _ => s.portLeave_mailLeft p) fun _ => .of_mail (s.startTraining_mail p)) (State.pairFollow_mail _)

theorem State.liveUnit_mailLeft (s : State) (a : Acc) (v : Val) : s.MailLeft (s.liveUnit a v) := by
  unfold State.liveUnit
  dsimp only
  split
  case h_11 => exact s.retrain_mailLeft _
  all_goals refine .of_mail ?_
  all_goals try split
  all_goals simp

theorem State.liveEffect_mailLeft (s : State) (a : Acc) (v : Val) : s.MailLeft (s.liveEffect a v) := by
  have hwords : s.MailLeft (s.rewritten (key a.idx a.sub)) := .of_mail (State.rewritten_mail ..)
  exact .ite (fun _ => hwords.keep (State.liveAccess_mail ..)) fun _ =>
    .ite (fun _ => hwords.trans (State.liveClock_mailLeft ..)) fun _ => hwords.trans (State.liveUnit_mailLeft ..)

theorem State.liveWrite_mailLeft (s : State) (a : Acc) (v : Val) : s.MailLeft (s.liveWrite a v).2 := by
  unfold State.liveWrite
  split
  · split
    · exact .of_mail (s.requestWipe_mail 4)
    · exact .of_mail (s.response_mail ..)
  · extract_lets code
    split
    · exact s.liveEffect_mailLeft a v
    · exact .ite (fun _ => .of_mail rfl) fun _ => .refl s

/-! ### Reads, writes and answers -/

theorem State.writeRow_mailLeft (s : State) (r : Row) (a : Acc) (o : Octets) (ty : Option Nat) : s.MailLeft (s.writeRow r a o ty).2 := by
  unfold State.writeRow
  extract_lets head v m
  split
  · exact .refl s
  · split
    · exact .refl s
    · split
      · exact .refl s
      · split
        · exact s.liveWrite_mailLeft a m
        · split
          · exact .of_mail (s.stage_mail ..)
          · exact .refl s

theorem State.serveWrite_mailLeft (s : State) (p req idx sub : Nat) (o : Octets) (ty : Option Nat) :
    s.MailLeft (s.serveWrite p req idx sub o ty).2 := by
  have haccept : s.MailLeft (s.accept p req) := .of_mail (s.accept_mail p req)
  unfold State.serveWrite
  extract_lets t a
  split
  · exact haccept.keep (State.refuse_mail ..)
  · next r _ =>
    have hrow : s.MailLeft (t.writeRow r a o ty).2 := haccept.trans (State.writeRow_mailLeft ..)
    dsimp only
    split
    · exact hrow.keep rfl
    · exact hrow.keep (State.refuse_mail ..)

theorem State.reply_mailLeft (s : State) (c : Carrier) (o : Octets) : s.MailLeft (s.reply c o) := by
  cases c with
  | can => exact .of_mail (State.sendCan_mail ..)
  | udp => exact .of_mail (State.sendUdp_mail ..)
  | mailbox => exact .of_idle (List.Sublist.refl _) (by show (2 : Nat) ≠ 1; decide)
  | jtag => exact .of_mail rfl

theorem State.pathAbort_mailLeft (s : State) (c : Carrier) (idx sub code : Nat) : s.MailLeft (s.pathAbort c idx sub code) := by
  unfold State.pathAbort
  extract_lets counted kind recorded
  have hkind : s.MailLeft kind := .ite (fun _ => .of_mail rfl) fun _ => .ite (fun _ => .of_mail rfl) fun _ => .of_mail rfl
  have hrecorded : s.MailLeft recorded := .ite (fun _ => hkind.keep rfl) fun _ => hkind
  exact hrecorded.trans (State.reply_mailLeft ..)

theorem State.setXfer_reply_mailLeft (s : State) (p : Nat) (x : Option Transfer) (c : Carrier) (o : Octets) :
    s.MailLeft ((s.setXfer p x).reply c o) :=
  (State.MailLeft.of_mail (s.setXfer_mail p x)).trans (State.reply_mailLeft ..)

theorem State.endXfer_mailLeft (s : State) (p : Nat) (c : Carrier) (x : Transfer) : s.MailLeft (s.endXfer p c x) :=
  (State.MailLeft.of_mail (s.setXfer_mail p none)).trans (State.pathAbort_mailLeft ..)

theorem State.newRequest_mailLeft (s : State) (p req : Nat) (c : Carrier) (idx sub : Nat) : s.MailLeft (s.newRequest p req c idx sub).2 := by
  unfold State.newRequest
  split
  · exact .refl s
  · split
    · exact s.pathAbort_mailLeft ..
    · split
      · exact .of_mail (s.setXfer_mail p none)
      · exact s.endXfer_mailLeft ..

/-! ### Frames -/

theorem State.eopRead_mailLeft (s : State) (p req : Nat) (c : Carrier) (idx sub : Nat) : s.MailLeft (s.eopRead p req c idx sub) := by
  have hnew := s.newRequest_mailLeft p req c idx sub
  have hread := hnew.keep (State.serveRead_mail (s.newRequest p req c idx sub).2 p req idx sub)
  unfold State.eopRead
  exact .ite (fun _ => hnew) fun _ => .ite (fun _ => hread.trans (State.reply_mailLeft ..)) fun _ =>
    .ite (fun _ => hread.trans (State.reply_mailLeft ..)) fun _ => hread.trans (State.setXfer_reply_mailLeft ..)

theorem State.eopWrite_mailLeft (s : State) (p req : Nat) (c : Carrier) (idx sub : Nat) (o : Octets) :
    s.MailLeft (s.eopWrite p req c idx sub o) := by
  have hnew := s.newRequest_mailLeft p req c idx sub
  have hwrite := hnew.trans (State.serveWrite_mailLeft (s.newRequest p req c idx sub).2 p req idx sub o none)
  unfold State.eopWrite
  exact .ite (fun _ => hnew) fun _ => .ite (fun _ => hwrite.trans (State.reply_mailLeft ..)) fun _ => hwrite

theorem State.segStartFrame_mailLeft (s : State) (p req : Nat) (c : Carrier) (idx sub total : Nat) :
    s.MailLeft (s.segStartFrame p req c idx sub total) := by
  have hnew := s.newRequest_mailLeft p req c idx sub
  unfold State.segStartFrame
  exact .ite (fun _ => hnew) fun _ => .ite (fun _ => (hnew.keep (State.refuse_mail ..)).trans (State.reply_mailLeft ..)) fun _ =>
    hnew.trans (State.setXfer_reply_mailLeft ..)

theorem State.segAccept_mailLeft (s : State) (p : Nat) (c : Carrier) (x : Transfer) (o : Octets) : s.MailLeft (s.segAccept p c x o) := by
  have hwrite := s.serveWrite_mailLeft p x.req x.idx x.sub (x.data ++ o) none
  unfold State.segAccept
  exact .ite (fun _ => s.endXfer_mailLeft ..) fun _ => .ite (fun _ => s.setXfer_reply_mailLeft ..) fun _ =>
    .ite (fun _ => hwrite.trans (State.setXfer_reply_mailLeft ..)) fun _ => .ite (fun _ => hwrite.trans (State.reply_mailLeft ..)) fun _ => hwrite

theorem State.xferFor_mailLeft (s : State) (p req : Nat) (c : Carrier) : s.MailLeft (s.xferFor p req c).2 := by
  unfold State.xferFor
  split
  · exact s.pathAbort_mailLeft ..
  · split
    · exact s.pathAbort_mailLeft ..
    · split
      · exact s.endXfer_mailLeft ..
      · exact .refl s

theorem State.noXfer_mailLeft (s : State) (p : Nat) (c : Carrier) : s.MailLeft ((s.setXfer p none).noXfer c) :=
  (State.MailLeft.of_mail (s.setXfer_mail p none)).trans (State.pathAbort_mailLeft ..)

theorem State.segIn_mailLeft (s : State) (p req : Nat) (c : Carrier) (toggle : Nat) (o : Octets) : s.MailLeft (s.segIn p req c toggle o) := by
  have hfor := s.xferFor_mailLeft p req c
  unfold State.segIn
  split
  · next h => rwa [h] at hfor
  · next h =>
    rw [h] at hfor
    exact hfor.trans (.ite (fun _ => State.setXfer_reply_mailLeft ..) fun _ => .ite (fun _ => State.noXfer_mailLeft ..) fun _ =>
      .ite (fun _ => State.segAccept_mailLeft ..) fun _ => State.endXfer_mailLeft ..)

theorem State.segReqIn_mailLeft (s : State) (p req : Nat) (c : Carrier) (toggle : Nat) : s.MailLeft (s.segReqIn p req c toggle) := by
  have hfor := s.xferFor_mailLeft p req c
  unfold State.segReqIn
  split
  · next h => rwa [h] at hfor
  · next h =>
    rw [h] at hfor
    exact hfor.trans (.ite (fun _ => State.setXfer_reply_mailLeft ..) fun _ => .ite (fun _ => State.noXfer_mailLeft ..) fun _ =>
      .ite (fun _ => State.setXfer_reply_mailLeft ..) fun _ => State.endXfer_mailLeft ..)

theorem State.handle_mailLeft (s : State) (p req : Nat) (c : Carrier) (o : Octets) : s.MailLeft (s.handle p req c o) := by
  unfold State.handle
  extract_lets b sub idx
  refine .ite (fun _ => (State.MailLeft.of_mail (s.closeDone_mail p req)).trans (State.pathAbort_mailLeft ..)) fun _ => ?_
  split
  · exact s.eopRead_mailLeft ..
  · exact s.eopWrite_mailLeft ..
  · exact s.segStartFrame_mailLeft ..
  · exact s.segIn_mailLeft ..
  · exact s.segReqIn_mailLeft ..
  · exact .of_mail (s.hostAbort_mail p req)

/-! ### The service of the queue -/

theorem State.rested_mailbox (s : State) : (s.rested 3).acc.queue = s.acc.queue ∧ (s.rested 3).acc.mbStatus ≠ 1 := by
  have hrested : s.rested 3 = if s.acc.mbStatus = 1 then { s with acc := { s.acc with mbStatus := 0 } } else s := rfl
  rw [hrested]
  split
  · exact ⟨rfl, Nat.zero_ne_one⟩
  · next h => exact ⟨rfl, h⟩

/-- The mailbox is not BUSY once its request or frame has been handled (R281). -/
theorem State.handleOn_mailbox (s : State) (req : Nat) (c : Carrier) (o : Octets) :
    (s.handleOn 3 req c o).acc.queue.Sublist s.acc.queue ∧ (s.handleOn 3 req c o).acc.mbStatus ≠ 1 := by
  obtain ⟨hqueue, -⟩ := (s.busy 3).handle_mailLeft 3 req c o
  obtain ⟨hsame, hidle⟩ := State.rested_mailbox ((s.busy 3).handle 3 req c o)
  rw [State.handleOn_eq]
  exact ⟨hsame ▸ hqueue, hidle⟩

theorem State.handleOn_mailLeft (s : State) (p req : Nat) (c : Carrier) (o : Octets) : s.MailLeft (s.handleOn p req c o) := by
  unfold State.handleOn
  split
  · obtain ⟨hqueue, hidle⟩ := s.handleOn_mailbox req c o
    exact .of_idle hqueue hidle
  · have hbusy : s.MailLeft { s with acc := { s.acc with jtagState := 1 } } := .of_mail rfl
    have hhandled := hbusy.trans (State.handle_mailLeft _ 4 req c o)
    exact .ite (fun _ => hhandled.keep rfl) fun _ => hhandled
  · exact s.handle_mailLeft p req c o

theorem firstRequest_isSome (r : Request) (l : List Request) : ∃ x, firstRequest (r :: l) = some x ∧ x ∈ r :: l := by
  induction l generalizing r with
  | nil => exact ⟨r, rfl, List.mem_cons_self⟩
  | cons q l ih =>
    obtain ⟨x, hx, hmem⟩ := ih q
    unfold firstRequest
    rw [hx]
    dsimp only
    split
    · exact ⟨x, rfl, List.mem_cons_of_mem r hmem⟩
    · exact ⟨r, rfl, List.mem_cons_self⟩

/-- The mailbox is BUSY only for a request of its own that waits. -/
def State.BusyForOwn (s : State) : Prop := s.acc.mbStatus = 1 → ∃ r ∈ s.acc.queue, r.path = 3

/-- The request that the core accepts next leaves the queue, and the mailbox is BUSY for another one only. -/
theorem State.busyForOwn_handleOn {s : State} {r : Request} (h : s.BusyForOwn) (hr : r ∈ s.acc.queue) :
    let t := State.handleOn { s with acc := { s.acc with queue := s.acc.queue.erase r } } r.path r.req r.via r.o
    t.BusyForOwn ∧ t.acc.queue.length < s.acc.queue.length := by
  intro t
  have hless : (s.acc.queue.erase r).length < s.acc.queue.length := by
    have hpos := List.length_pos_of_mem hr
    rw [List.length_erase_of_mem hr]
    omega
  obtain ⟨hqueue, hbusy⟩ := State.handleOn_mailLeft { s with acc := { s.acc with queue := s.acc.queue.erase r } } r.path r.req r.via r.o
  refine ⟨fun ht => ?_, hqueue.length_le.trans_lt hless⟩
  obtain ⟨hs, hkept⟩ := hbusy ht
  obtain ⟨q, hq, hq3⟩ := h hs
  have hother : r.path ≠ 3 := fun h3 => by
    obtain ⟨-, hidle⟩ := State.handleOn_mailbox { s with acc := { s.acc with queue := s.acc.queue.erase r } } r.req r.via r.o
    exact hidle (h3 ▸ ht)
  have hne : q ≠ r := fun hqr => hother (hqr ▸ hq3)
  exact ⟨q, hkept q ((List.mem_erase_of_ne hne).2 hq) hq3, hq3⟩

/-- Once every request has been served, the mailbox is not BUSY (R268, R281). -/
theorem State.serveQueue_idle {n : Nat} {s : State} (hn : s.acc.queue.length ≤ n) (h : s.BusyForOwn) : (s.serveQueue n).acc.mbStatus ≠ 1 := by
  have hempty : ∀ u : State, u.BusyForOwn → u.acc.queue = [] → u.acc.mbStatus ≠ 1 := fun u hu hqueue hbusy => by
    obtain ⟨r, hr, -⟩ := hu hbusy
    rw [hqueue] at hr
    exact List.not_mem_nil hr
  induction n generalizing s with
  | zero => exact hempty s h (List.length_eq_zero_iff.1 (Nat.le_zero.1 hn))
  | succ n ih =>
    unfold State.serveQueue
    cases hqueue : s.acc.queue with
    | nil => exact hempty s h hqueue
    | cons q l =>
      obtain ⟨r, hfirst, hr⟩ := firstRequest_isSome q l
      rw [← hqueue] at hr
      obtain ⟨hserved, hless⟩ := State.busyForOwn_handleOn h hr
      rw [hqueue] at hserved hless
      rw [hfirst]
      exact ih (by rw [hqueue] at hn; omega) hserved

/-! ### The doorbell -/

/-- A submission of the mailbox that the core does not hold back is served at once (R281). -/
theorem State.receive_mailbox_idle (s : State) {f : Sys2Proof.Frame} (req : Nat) (hwaits : f.waits = false) :
    (s.receive f 3 req).acc.mbStatus ≠ 1 := by
  unfold State.receive
  extract_lets due q _ queued
  split
  · exact (due.handleOn_mailbox req f.via f.o).2
  · rw [hwaits]
    exact State.serveQueue_idle (s := queued) le_rfl fun _ => ⟨_, List.mem_append_right _ List.mem_cons_self, rfl⟩

theorem State.takeFrame_mailbox_idle {s : State} {f : Sys2Proof.Frame} {q : Fin 6} {sid : BitVec 8} (hvia : f.via = .mailbox q sid)
    (hwaits : f.waits = false) (hclaim : s.claimDue = s) (hidle : s.acc.mbStatus ≠ 1) : (s.takeFrame f).acc.mbStatus ≠ 1 := by
  have hframe : (s.mailboxFrame f q.val sid.toNat).acc.mbStatus ≠ 1 := by
    unfold State.mailboxFrame
    rw [hclaim]
    dsimp only
    split
    · split
      · split
        · exact hidle
        · exact State.receive_mailbox_idle _ _ hwaits
      · exact hidle
    · exact hidle
  unfold State.takeFrame
  rw [hvia]
  exact (State.MailLeft.of_mail (State.settle_mail _)).idle hframe

theorem State.ended_mail (s u : State) : (s.ended u).acc.mail = u.acc.mail := u.alertSync_mail

/-- The doorbell of the owner submits REQUEST, and the mailbox is no longer BUSY when it has been served (R281). -/
theorem mailboxDoorbell_serves {s : State} {p : Fin 6} {sid : BitVec 8} {v : BitVec 32} {c : Nat} (hopen : s.windowOpen p.val = true)
    (hup : s.pathUp 3 = true) (hclaim : s.claimDue = s) (howner : s.acc.owner = some (p.val, sid.toNat, c)) (hidle : s.acc.mbStatus ≠ 1)
    (hv : v = 1#32) : ∃ t, exec (.mailboxDoorbell p sid v) s = .next t ∧
      exec (.read { via := .mailbox p sid, o := octAt s.acc.request 0 s.acc.reqLen }) s = .next t ∧ t.acc.mbStatus ≠ 1 := by
  refine ⟨s.ended (s.takeFrame { via := .mailbox p sid, o := octAt s.acc.request 0 s.acc.reqLen }),
    exec_mailboxDoorbell_rings hopen hup hclaim howner hidle hv, rfl, ?_⟩
  exact (State.MailLeft.of_mail (s.ended_mail _)).idle (State.takeFrame_mailbox_idle rfl rfl hclaim hidle)

theorem mailboxServesItsOwner : Claims.MailboxServesItsOwner := by
  intro s p sid v hopen hup
  refine ⟨mailboxClaim_late hopen hup, fun hstands => ?_⟩
  have hclaim : s.claimDue = s := State.claimDue_stands hstands
  refine ⟨mailboxClaim_claims hopen hup hclaim, fun q b c howner hne => ?_, fun c howner => ⟨mailboxRelease_releases hopen hup hclaim howner,
    fun hidle => ⟨mailboxReqlenWrite_sets hopen hup hclaim howner hidle, mailboxReqlenWrite_refused hopen hup hclaim howner hidle,
      fun off o => mailboxRequestWrite_stores hopen hup hclaim howner hidle, mailboxDoorbell_serves hopen hup hclaim howner hidle⟩⟩⟩
  exact completes_of_refused (exec_mailboxClaim hopen hup hclaim sid v) hup (State.windowRefuses_claim howner hne)

/-- Settles O31: the owner's accesses by the rule of each word of the window; and no handling of a request leaves the mailbox BUSY, since
nothing but a request of its own that waits keeps it so (R279-R283). -/
theorem fabricMailboxWindow : Obligations.FabricMailboxWindow := ⟨mailboxServesItsOwner, windowViewsAndExpiry⟩

end Sys2Proof.Machine
end

section
/-! PROOF. The commands on the staged set, and the request and the cancel of a commit (R300, R301, R304, R322): each is an accepted write of
class L, whose effect is one update of the state and one count. -/
set_option Elab.async false
namespace Sys2Proof.Machine

/-! ### The commit engine in a frame -/

theorem Frame.setCommit {parts : List Part} {objs : List (Nat × Nat)} {s u : State} (h : Frame parts objs s u) (c : Commit)
    (hm : .commit ∈ parts := by decide) : Frame parts objs s { u with commit := c } := by
  refine ⟨fun p hp => ?_, h.val⟩
  cases p with
  | commit => exact absurd hm hp
  | _ => exact h.part _ hp

@[simp] theorem State.ended_commit (s u : State) : (s.ended u).commit = u.commit := u.alertSync_commit

@[simp] theorem State.accepted_commit (s : State) (w : Who) : (s.accepted w).commit = s.commit := s.accept_commit ..

/-- Acceptance leaves every object alone whose default is 0, but the counts of accesses and of idle closes. -/
theorem State.accepted_z (s : State) (w : Who) {i a : Nat} (ha : a < 256 := by decide) (ho : (i, a) ∉ accessObjects := by decide)
    (h17 : (i, a) ≠ (0xF018, 17) := by decide) (hd : defaultVal i a = .num 0 := by rfl) : (s.accepted w).z i a = s.z i a :=
  (Frame.accepted (parts := [.acc]) s w).z_eq ha ho h17 hd

/-- The count that an accepted write's effect has stepped, at the command's end. -/
theorem State.ended_answered_bump (s t : State) (w : Who) (i a d : Nat) (h17 : key i a ≠ key 0xF018 17 := by decide)
    (hans : key i a ≠ key 0xF000 3 := by decide) :
    (s.ended ((t.bump i a d).answered w)).z i a = min (t.z i a + d) (2 ^ 32 - 1) := by
  rw [State.ended_z _ _ h17, State.answered_z _ _ hans, State.z_bump, if_pos rfl]

/-! ### The query of the staged set -/

/-- The path names a staged entry, and keeps all else (R300). -/
def State.stagedQueried (s : State) (p v : Nat) : State := s.setPath p { s.path p with squery := v }

theorem State.liveEffect_squery {a : Acc} (hidx : a.idx = 0x2001) (hsub : a.sub = 1) (s : State) (v : Nat) :
    s.liveEffect a (.num v) = (s.rewritten (key 0x2001 1)).stagedQueried a.path v := by
  obtain ⟨path, req, level, idx, sub⟩ := a
  subst hidx hsub
  rfl

theorem stagedQuery_completes {s : State} (w : Who) (v : BitVec 32) (halone : Alone s) (h : Accepted s w 0x2001 1 v.toNat) :
    Completes (.stagedQuery w v) s [.acc, .out] accessObjects fun t => (t.path (pathNo w.path)).squery = v.toNat := by
  have ⟨_, _, hgood, _⟩ := h
  have hrow : findRow 0x2001 1 = some ⟨0x2001, 0x2001, 1, 1, .u32, .l, 0, 0, 0, .any, 0xffffffff, 4⟩ := rfl
  have heff : (s.accepted w).liveEffect (s.access w 0x2001 1)
      (storedVal ⟨0x2001, 0x2001, 1, 1, .u32, .l, 0, 0, 0, .any, 0xffffffff, 4⟩ 0x2001 1 v.toNat) =
      (s.accepted w).stagedQueried (pathNo w.path) v.toNat := by
    rw [storedVal_u32 hrow rfl rfl v.isLt, State.liveEffect_squery rfl rfl, State.rewritten_eq ((s.knownBad_accepted w 0x2001 1).trans hgood)]
    rfl
  refine completes_of_access rfl hrow rfl (by decide) halone h heff ((Frame.accepted s w).setPath _ _) ?_
  rw [State.ended_path _ _ _ PathSt.squery, State.answered_path, State.stagedQueried, State.path_setPath, if_pos rfl]

/-! ### The discard -/

theorem discard_completes {s : State} (w : Who) (halone : Alone s) (h : Accepted s w 0x2002 0 0x44524F50) :
    Completes (.discard w 0x44524F50#32) s [.staged, .acc, .out] (accessObjects ++ [(0xF010, 8)]) fun t =>
      t.staged = [] ∧ t.z 0xF010 8 = min (s.z 0xF010 8 + 1) (2 ^ 32 - 1) := by
  have hrow : findRow 0x2002 0 = some ⟨0x2002, 0x2002, 0, 0, .u32, .l, 0, 1, 0, .oneOf [1146244944], 0xffffffff, 4⟩ := rfl
  have heff : ∀ (u : State) (a : Acc), a.idx = 0x2002 → a.sub = 0 →
      u.liveEffect a (storedVal ⟨0x2002, 0x2002, 0, 0, .u32, .l, 0, 1, 0, .oneOf [1146244944], 0xffffffff, 4⟩ 0x2002 0 0x44524F50) =
      (u.rewritten (key 0x2002 0)).discard := by
    rintro u ⟨path, req, level, idx, sub⟩ rfl rfl
    rfl
  have hf : Frame [.staged, .acc, .out] (accessObjects ++ [(0xF010, 8)]) s (s.accepted w).discard :=
    ((Frame.accepted s w).setStaged []).bump 0xF010 8 1
  refine completes_of_accepted rfl hrow rfl (by decide) halone h heff (hf.up_eq.trans (State.up_of_accepted h)) hf ⟨?_, ?_⟩
  · rw [State.ended_staged]
    rfl
  · exact (State.ended_answered_bump ..).trans (congrArg (fun n => min (n + 1) _) (s.accepted_z w))

/-! ### The request of a commit -/

/-- The instant of a commit is read from objects that acceptance leaves alone. -/
theorem State.accepted_commitInstant (s : State) (w : Who) : (s.accepted w).commitInstant = s.commitInstant :=
  congrArg₂ ofTime80 (s.accepted_z w) (s.accepted_z w)

theorem commitRequest_completes {s : State} (w : Who) (halone : Alone s) (h : Accepted s w 0x2003 4 0x434F4D54) :
    Completes (.commitRequest w 0x434F4D54#32) s [.commit, .acc, .out] (accessObjects ++ [(0xF010, 1)]) fun t =>
      t.commit.state = 1 ∧ t.commit.report = [] ∧ t.commit.mirrored = false ∧ t.commit.instant = s.commitInstant ∧
        t.z 0xF010 1 = min (s.z 0xF010 1 + 1) (2 ^ 32 - 1) := by
  have hrow : findRow 0x2003 4 = some ⟨0x2003, 0x2003, 4, 4, .u32, .l, 0, 1, 0, .oneOf [1129270612], 0xffffffff, 4⟩ := rfl
  have heff : ∀ (u : State) (a : Acc), a.idx = 0x2003 → a.sub = 4 →
      u.liveEffect a (storedVal ⟨0x2003, 0x2003, 4, 4, .u32, .l, 0, 1, 0, .oneOf [1129270612], 0xffffffff, 4⟩ 0x2003 4 0x434F4D54) =
      (u.rewritten (key 0x2003 4)).startCommit := by
    rintro u ⟨path, req, level, idx, sub⟩ rfl rfl
    rfl
  have hf : Frame [.commit, .acc, .out] (accessObjects ++ [(0xF010, 1)]) s (s.accepted w).startCommit :=
    ((Frame.accepted s w).setCommit _).bump 0xF010 1 1
  refine completes_of_accepted rfl hrow rfl (by decide) halone h heff (hf.up_eq.trans (State.up_of_accepted h)) hf ?_
  rw [State.ended_commit]
  exact ⟨rfl, rfl, rfl, s.accepted_commitInstant w,
    (State.ended_answered_bump ..).trans (congrArg (fun n => min (n + 1) _) (s.accepted_z w))⟩

/-! ### The cancel -/

/-- What a cancel does to a commit that no Second holds (R322). -/
def State.cancelled (s : State) : State := State.bump { s with commit := { s.commit with state := 8, mirrored := false } } 0xF010 6 1

theorem State.cancelCommit_unmirrored {s : State} (hmirrored : s.commit.mirrored = false) (hstate : s.commit.state ≠ 2) :
    s.cancelCommit = s.cancelled := by
  unfold State.cancelCommit State.cancelled
  rw [hmirrored, decide_eq_false hstate]
  rfl

theorem State.cancelled_commit {s : State} (hmirrored : s.commit.mirrored = false) : s.cancelled.commit = { s.commit with state := 8 } := by
  show { s.commit with state := 8, mirrored := false } = { s.commit with state := 8 }
  rw [← hmirrored]

theorem commitCancel_completes {s : State} (w : Who) (halone : Alone s) (h : Accepted s w 0x2003 5 0x434E434C)
    (hmirrored : s.commit.mirrored = false) (hstate : s.commit.state ≠ 2) :
    Completes (.commitCancel w 0x434E434C#32) s [.commit, .acc, .out] (accessObjects ++ [(0xF010, 6)]) fun t =>
      t.commit = { s.commit with state := 8 } ∧ t.z 0xF010 6 = min (s.z 0xF010 6 + 1) (2 ^ 32 - 1) := by
  have hrow : findRow 0x2003 5 = some ⟨0x2003, 0x2003, 5, 5, .u32, .l, 0, 1, 0, .oneOf [1129202508], 0xffffffff, 4⟩ := rfl
  have heff : ∀ (u : State) (a : Acc), a.idx = 0x2003 → a.sub = 5 →
      u.liveEffect a (storedVal ⟨0x2003, 0x2003, 5, 5, .u32, .l, 0, 1, 0, .oneOf [1129202508], 0xffffffff, 4⟩ 0x2003 5 0x434E434C) =
      (u.rewritten (key 0x2003 5)).cancelCommit := by
    rintro u ⟨path, req, level, idx, sub⟩ rfl rfl
    unfold State.liveEffect
    rw [if_pos (show 0x2003 < 0x2200 by decide)]
    rfl
  have hcancel : (s.accepted w).cancelCommit = (s.accepted w).cancelled :=
    State.cancelCommit_unmirrored ((congrArg _ (s.accepted_commit w)).trans hmirrored) (fun hk => hstate (s.accepted_commit w ▸ hk))
  have hf : Frame [.commit, .acc, .out] (accessObjects ++ [(0xF010, 6)]) s (s.accepted w).cancelled :=
    ((Frame.accepted s w).setCommit _).bump 0xF010 6 1
  refine completes_of_accepted rfl hrow rfl (by decide) halone h heff ?_ ?_ ?_ <;> rw [hcancel]
  · exact hf.up_eq.trans (State.up_of_accepted h)
  · exact hf
  · refine ⟨?_, (State.ended_answered_bump ..).trans (congrArg (fun n => min (n + 1) _) (s.accepted_z w))⟩
    rw [State.ended_commit]
    refine (State.cancelled_commit ((congrArg _ (s.accepted_commit w)).trans hmirrored)).trans ?_
    rw [s.accepted_commit w]

/-! ### The obligation -/

/-- Settles O20: each command is an accepted write whose effect is read off its one update, and acceptance leaves the commit engine and the
counts of the set alone. -/
theorem stagedSetAndCommitCommands : Obligations.StagedSetAndCommitCommands :=
  ⟨fun _ w halone => ⟨fun v h => stagedQuery_completes w v halone h, discard_completes w halone⟩,
    fun _ w halone => ⟨commitRequest_completes w halone, commitCancel_completes w halone⟩⟩

end Sys2Proof.Machine
end

section
/-! PROOF. The end of a commit's check (R306-R309, R311-R314): with violations the commit fails; without, its boundary is chosen by its mode,
and a mirroring Lead sends its set first. -/
set_option Elab.async false
namespace Sys2Proof.Machine

/-! ### A check that finds violations -/

/-- A check that fails on violations other than a bad word of the staged set does nothing besides (R308, R326). -/
theorem State.checkDone_failed {s : State} (hstate : s.commit.state = 1) (hfound : s.checkEnd ≠ [])
    (hread : ∀ v ∈ s.checkEnd, v.rule ≠ 0x07FF) : s.checkDone = s.checkFailed s.checkEnd := by
  have hclean : (s.checkEnd.any fun v => decide (v.rule = 0x07FF)) = false := by simpa using hread
  unfold State.checkDone
  dsimp only
  rw [if_neg (by simp [hstate]), hclean, if_neg Bool.false_ne_true, if_pos (by simpa using hfound)]

/-- The report, the number of violations and the counts of a failed check, before its cause is raised (R308, R309). -/
def State.checkReported (s : State) (l : List Violation) : State :=
  State.bump (State.bump (State.put { s with commit := { s.commit with state := 6, report := l.take 32 } } 0x2004 6 (min l.length 65535)) 0xF010 3 1)
    0xF010 4 l.length

theorem State.checkFailed_eq (s : State) (l : List Violation) : s.checkFailed l = (s.checkReported l).setCause 4 0 := rfl

/-- The objects that a failed check changes. -/
def checkFailedObjects : List (Nat × Nat) := causeObjects 4 ++ [(0x2004, 6), (0xF010, 3), (0xF010, 4)]

theorem State.checkReported_frame (s : State) (l : List Violation) :
    Frame [.commit, .latch] checkFailedObjects s (s.checkReported l) :=
  ((((Frame.refl s).setCommit _).put 0x2004 6 _).bump 0xF010 3 1).bump 0xF010 4 _

/-- What a cause does not touch is as it was when it was raised, at the command's end too. -/
theorem State.ended_setCause_z (s u : State) (br b : Nat) {i a : Nat} (hbr : br < 16 := by decide) (ha : a < 256 := by decide)
    (h : (i, a) ∉ causeObjects br := by decide) (h17 : (i, a) ≠ (0xF018, 17) := by decide) (hd : defaultVal i a = .num 0 := by rfl) :
    (s.ended (u.setCause br b)).z i a = u.z i a := by
  have hk : key i a ≠ key 0xF018 17 := fun hk => h17 (by obtain ⟨rfl, rfl⟩ := (key_inj ha (by decide)).1 hk; rfl)
  rw [State.ended_z _ _ hk]
  exact State.z_of_val (u.setCause_val b hbr ha h h17) hd

theorem failedCheckReportsItsViolations : Claims.FailedCheckReportsItsViolations := by
  intro s hstate hfound hread hfast
  have hexec : exec .commitCheckDone s = s.ends ((s.checkReported s.checkEnd).setCause 4 0) :=
    congrArg s.ends ((State.checkDone_failed hstate hfound hread).trans (s.checkFailed_eq _))
  have hf := s.checkReported_frame s.checkEnd
  refine completes_of_frame hexec (hf.setCause 4 0) ⟨?_, ?_, ?_, ?_, ?_⟩
  · rw [State.ended_commit, State.setCause_commit]
    rfl
  · rw [State.ended_setCause_z _ _ 4 0, State.checkReported, State.z_bump, if_neg (by decide), State.z_bump, if_neg (by decide), State.z_put, if_pos rfl]
  · have hfast' : (s.checkReported s.checkEnd).mgtFast = true := hfast
    have hcause : (s.checkReported s.checkEnd).z 0x2105 0 = s.z 0x2105 0 := by
      rw [State.checkReported, State.z_bump, if_neg (by decide), State.z_bump, if_neg (by decide), State.z_put, if_neg (by decide)]
      rfl
    rw [State.ended_z, State.setCause_z (br := 4) 0 (by decide) hfast', hcause]
    rfl
  · rw [State.ended_setCause_z _ _ 4 0, State.checkReported, State.z_bump, if_neg (by decide), State.z_bump, if_pos rfl, State.z_put, if_neg (by decide)]
    rfl
  · rw [State.ended_setCause_z _ _ 4 0, State.checkReported, State.z_bump, if_pos rfl, State.z_bump, if_neg (by decide), State.z_put, if_neg (by decide)]
    rfl

/-! ### The choice of the boundary -/

/-- T is the next boundary: the state of a commit in mode NEXT once it is chosen (R312). -/
def State.nextBoundary (s : State) (m : Nat) : State :=
  { s with commit := { s.commit with
    state := 3, tReady := s.time.tick, margin := m, fixTick := s.time.tick, boundary := roundUp (s.time.tick + m) 1024 } }

/-- Without a mirror nothing is announced. -/
theorem State.announce_unmirrored {s : State} (h : s.commit.mirrored = false) : s.announce = s := by
  unfold State.announce
  rw [if_neg (by simp [h])]

/-- The instant lies within the margin: the commit is LATE (R314). -/
def State.lateReady (s : State) (m : Nat) : State :=
  State.bump { s with commit := { s.commit with tReady := s.time.tick, margin := m, state := 7 } } 0xF010 5 1

/-- The commit waits for its instant (R313). -/
def State.scheduledReady (s : State) (m : Nat) : State :=
  { s with commit := { s.commit with tReady := s.time.tick, margin := m, state := 4, boundary := 0 } }

/-- The Lead takes back the set of a commit that is LATE (R314). -/
def State.withdrawn (s : State) : State := if s.commit.mirrored then s.sendBoundary 0 true else s

theorem State.chooseBoundary_eq (s : State) (m : Nat) : s.chooseBoundary m =
    if !s.commit.atTime then (s.nextBoundary m).announce
    else if s.commit.instant ≤ s.time.pt + m * 2 ^ 32 then ((s.lateReady m).setCause 4 2).withdrawn
    else s.scheduledReady m := rfl

theorem State.chooseBoundary_next {s : State} (m : Nat) (hmode : s.commit.atTime = false) :
    s.chooseBoundary m = (s.nextBoundary m).announce := by
  rw [State.chooseBoundary_eq, if_pos (by simp [hmode])]

theorem State.chooseBoundary_late {s : State} {m : Nat} (hmirrored : s.commit.mirrored = false) (hmode : s.commit.atTime = true)
    (hlate : s.commit.instant ≤ s.time.pt + m * 2 ^ 32) : s.chooseBoundary m = (s.lateReady m).setCause 4 2 := by
  have hkept : ((s.lateReady m).setCause 4 2).commit.mirrored = false := (congrArg _ (State.setCause_commit ..)).trans hmirrored
  rw [State.chooseBoundary_eq, if_neg (by simp [hmode]), if_pos hlate, State.withdrawn, hkept, if_neg Bool.false_ne_true]

theorem State.chooseBoundary_scheduled {s : State} {m : Nat} (hmode : s.commit.atTime = true)
    (hahead : s.time.pt + m * 2 ^ 32 < s.commit.instant) : s.chooseBoundary m = s.scheduledReady m := by
  rw [State.chooseBoundary_eq, if_neg (by simp [hmode]), if_neg (Nat.not_le.2 hahead)]

/-! ### A check that passes -/

/-- The check is over, with nothing to report (R308). -/
def State.checkPassed (s : State) : State := (s.put 0x2004 6 0).put 0x2004 5 0

theorem State.checkDone_passed {s : State} (hstate : s.commit.state = 1) (hfound : s.checkEnd = []) : s.checkDone =
    if s.mirrors then State.sendSet { s.checkPassed with commit := { s.commit with state := 2, mirrorAt := s.now } } 1 s.stagedRecords
    else s.checkPassed.chooseBoundary 64 := by
  unfold State.checkDone
  dsimp only
  rw [if_neg (by simp [hstate]), hfound]
  rfl

theorem State.checkPassed_frame {parts : List Part} {objs : List (Nat × Nat)} (s : State) (h6 : (0x2004, 6) ∈ objs := by decide)
    (h5 : (0x2004, 5) ∈ objs := by decide) : Frame parts objs s s.checkPassed :=
  ((Frame.refl s).put 0x2004 6 0 h6).put 0x2004 5 0 h5

/-- A device that mirrors nothing goes on from its passed check to the choice of its boundary. -/
theorem exec_commitCheckDone_alone {s : State} (hstate : s.commit.state = 1) (hfound : s.checkEnd = []) (hmirrors : s.mirrors = false) :
    exec .commitCheckDone s = s.ends (s.checkPassed.chooseBoundary 64) := by
  refine congrArg s.ends ((State.checkDone_passed hstate hfound).trans ?_)
  rw [hmirrors, if_neg Bool.false_ne_true]

theorem commitCheckDone_next {s : State} (hstate : s.commit.state = 1) (hfound : s.checkEnd = []) (hmirrors : s.mirrors = false)
    (hmirrored : s.commit.mirrored = false) (hmode : s.commit.atTime = false) :
    Completes .commitCheckDone s [.commit] [(0x2004, 5), (0x2004, 6)] fun t =>
      t.commit = { s.commit with
        state := 3, tReady := s.time.tick, margin := 64, fixTick := s.time.tick, boundary := roundUp (s.time.tick + 64) 1024 } ∧
      t.z 0x2004 5 = 0 ∧ t.z 0x2004 6 = 0 := by
  have hexec : exec .commitCheckDone s = s.ends (s.checkPassed.nextBoundary 64) := by
    rw [exec_commitCheckDone_alone hstate hfound hmirrors, State.chooseBoundary_next 64 (s := s.checkPassed) hmode,
      State.announce_unmirrored (s := s.checkPassed.nextBoundary 64) hmirrored]
  refine completes_of_frame hexec (s.checkPassed_frame.setCommit _) ⟨?_, ?_, ?_⟩
  · rw [State.ended_commit]
    rfl
  · rw [State.ended_z]
    show s.checkPassed.z 0x2004 5 = 0
    rw [State.checkPassed, State.z_put, if_pos rfl]
  · rw [State.ended_z]
    show s.checkPassed.z 0x2004 6 = 0
    rw [State.checkPassed, State.z_put, if_neg (by decide), State.z_put, if_pos rfl]

theorem commitCheckDone_late {s : State} (hstate : s.commit.state = 1) (hfound : s.checkEnd = []) (hmirrors : s.mirrors = false)
    (hmirrored : s.commit.mirrored = false) (hmode : s.commit.atTime = true) (hfast : s.mgtFast = true)
    (hlate : s.commit.instant ≤ s.time.pt + 64 * 2 ^ 32) :
    Completes .commitCheckDone s [.commit, .latch] (causeObjects 4 ++ [(0x2004, 5), (0x2004, 6), (0xF010, 5)]) fun t =>
      t.commit = { s.commit with state := 7, tReady := s.time.tick, margin := 64 } ∧ t.z 0x2105 0 = s.z 0x2105 0 ||| 4 := by
  have hexec : exec .commitCheckDone s = s.ends ((s.checkPassed.lateReady 64).setCause 4 2) := by
    rw [exec_commitCheckDone_alone hstate hfound hmirrors, State.chooseBoundary_late (s := s.checkPassed) hmirrored hmode hlate]
  have hf : Frame [.commit, .latch] [(0x2004, 5), (0x2004, 6), (0xF010, 5)] s (s.checkPassed.lateReady 64) :=
    (s.checkPassed_frame.setCommit _).bump 0xF010 5 1
  have hf' : Frame [.commit, .latch] (causeObjects 4 ++ [(0x2004, 5), (0x2004, 6), (0xF010, 5)]) s (s.checkPassed.lateReady 64) :=
    (s.checkPassed_frame.setCommit _).bump 0xF010 5 1
  have hfast' : (s.checkPassed.lateReady 64).mgtFast = true := hfast
  refine completes_of_frame hexec (hf'.setCause 4 2) ⟨?_, ?_⟩
  · rw [State.ended_commit, State.setCause_commit]
    rfl
  · rw [State.ended_z, State.setCause_z (br := 4) 2 (by decide) hfast', hf.z_eq (i := 0x2101 + 4)]
    rfl

theorem commitCheckDone_scheduled {s : State} (hstate : s.commit.state = 1) (hfound : s.checkEnd = []) (hmirrors : s.mirrors = false)
    (hmode : s.commit.atTime = true) (hahead : s.time.pt + 64 * 2 ^ 32 < s.commit.instant) :
    Completes .commitCheckDone s [.commit] [(0x2004, 5), (0x2004, 6)] fun t =>
      t.commit = { s.commit with state := 4, tReady := s.time.tick, margin := 64, boundary := 0 } := by
  have hexec : exec .commitCheckDone s = s.ends (s.checkPassed.scheduledReady 64) := by
    rw [exec_commitCheckDone_alone hstate hfound hmirrors, State.chooseBoundary_scheduled (s := s.checkPassed) hmode hahead]
  refine completes_of_frame hexec (s.checkPassed_frame.setCommit _) ?_
  rw [State.ended_commit]
  rfl

/-! ### The sets that a Lead sends -/

theorem foldl_campSend_keeps {β : Type} (g : State → β) (h : ∀ (s : State) (r : Octets), g (s.campSend false 3 r) = g s) (recs : List Octets)
    (s : State) : g (recs.foldl (fun s r => s.campSend false 3 r) s) = g s := foldl_keeps g _ h recs s

@[simp] theorem State.sendSet_commit (s : State) (kind : Nat) (recs : List Octets) : (s.sendSet kind recs).commit = s.commit := by
  unfold State.sendSet
  rw [State.campSend_commit, foldl_campSend_keeps State.commit (fun t r => t.campSend_commit false 3 r), State.campSend_commit]

@[simp] theorem State.sendSet_staged (s : State) (kind : Nat) (recs : List Octets) : (s.sendSet kind recs).staged = s.staged := by
  unfold State.sendSet
  rw [State.campSend_staged, foldl_campSend_keeps State.staged (fun t r => t.campSend_staged false 3 r), State.campSend_staged]

theorem commitCheckDone_mirrors {s : State} (hstate : s.commit.state = 1) (hfound : s.checkEnd = []) (hmirrors : s.mirrors = true) :
    ∃ t, exec .commitCheckDone s = .next t ∧ t.commit = { s.commit with state := 2, mirrorAt := s.now } ∧ t.staged = s.staged := by
  have hexec : exec .commitCheckDone s =
      s.ends (State.sendSet { s.checkPassed with commit := { s.commit with state := 2, mirrorAt := s.now } } 1 s.stagedRecords) := by
    refine congrArg s.ends ((State.checkDone_passed hstate hfound).trans ?_)
    rw [hmirrors, if_pos rfl]
  refine ⟨_, hexec, ?_, ?_⟩
  · exact (State.ended_commit ..).trans (State.sendSet_commit ..)
  · exact (State.ended_staged ..).trans (State.sendSet_staged ..)

theorem passedCheckChoosesTheBoundary : Claims.PassedCheckChoosesTheBoundary := fun _ hstate hfound =>
  ⟨commitCheckDone_next hstate hfound, commitCheckDone_late hstate hfound,
    fun hmirrors _ => commitCheckDone_scheduled hstate hfound hmirrors, commitCheckDone_mirrors hstate hfound⟩

/-- Settles O24: a check that fails is one report and one cause; a check that passes chooses its boundary by the commit's mode, or sends the
set to its Second. -/
theorem commitCheckEnds : Obligations.CommitCheckEnds := ⟨failedCheckReportsItsViolations, passedCheckChoosesTheBoundary⟩

end Sys2Proof.Machine
end

section
/-! PROOF. What the pair's follow-up of a command leaves alone (Table 19.6, R753, R762): a Lead's messages change no object, and a Second's
eligibility none but its own counts and causes. -/
set_option Elab.async false
namespace Sys2Proof.Machine

/-! ### Frames of the pair's updates -/

/-- The objects that a change of eligibility may change: PAIR causes and the count of its losses (R762, Table 19.12). -/
def pairObjects : List (Nat × Nat) := causeObjects 14 ++ [(0xF090, 11)]

section
variable {parts : List Part} {objs : List (Nat × Nat)} {s u : State}

theorem Frame.setPair (h : Frame parts objs s u) (x : Pair) (hm : .pair ∈ parts := by decide) : Frame parts objs s { u with pair := x } := by
  refine ⟨fun p hp => ?_, h.val⟩
  cases p with
  | pair => exact absurd hm hp
  | _ => exact h.part _ hp

theorem Frame.setSig (h : Frame parts objs s u) (x : Signals) (hm : .sig ∈ parts := by decide) : Frame parts objs s { u with sig := x } := by
  refine ⟨fun p hp => ?_, h.val⟩
  cases p with
  | sig => exact absurd hm hp
  | _ => exact h.part _ hp

theorem Frame.foldl {α : Type} {f : State → α → State} (hf : ∀ (t : State) (a : α), Frame parts objs s t → Frame parts objs s (f t a))
    (l : List α) : ∀ {u : State}, Frame parts objs s u → Frame parts objs s (l.foldl f u) := by
  induction l with
  | nil => exact fun h => h
  | cons a l ih => exact fun h => ih (hf _ a h)

theorem Frame.campSend (h : Frame parts objs s u) (urgent : Bool) (code : Nat) (body : Octets) (hpair : .pair ∈ parts := by decide)
    (hout : .out ∈ parts := by decide) : Frame parts objs s (u.campSend urgent code body) :=
  ((h.emit _ hout).setPair _ hpair).ite ((h.emit _ hout).setPair _ hpair)

theorem Frame.syncRope (h : Frame parts objs s u) (hsig : .sig ∈ parts := by decide) : Frame parts objs s u.syncRope :=
  h.ite (h.setSig _ hsig)

theorem Frame.syncInelig (h : Frame parts objs s u) (hlatch : .latch ∈ parts := by decide)
    (ho : ∀ x ∈ causeObjects 14, x ∈ objs := by decide) : Frame parts objs s u.syncInelig :=
  (h.setCause 14 4 hlatch ho).ite h

theorem Frame.setEligible (h : Frame parts objs s u) (e : Bool) (hpair : .pair ∈ parts := by decide) (hsig : .sig ∈ parts := by decide)
    (hlatch : .latch ∈ parts := by decide) (ho : ∀ x ∈ pairObjects, x ∈ objs := by decide) : Frame parts objs s (u.setEligible e) := by
  unfold State.setEligible
  have hcounted : Frame parts objs s (if u.pair.eligible && !e then u.bump 0xF090 11 1 else u) :=
    (h.bump 0xF090 11 1 (ho _ (by decide))).ite h
  exact ((hcounted.setPair _ hpair).syncInelig hlatch fun x hx => ho x (List.mem_append_left _ hx)).syncRope hsig

end

/-! ### A Lead's messages -/

section
variable {parts : List Part} {objs : List (Nat × Nat)} {s u : State}

theorem Frame.sendPortStat (h : Frame parts objs s u) (p : Nat) (hpair : .pair ∈ parts := by decide) (hout : .out ∈ parts := by decide) :
    Frame parts objs s (u.sendPortStat p) :=
  h.ite ((h.setPair _ hpair).campSend _ _ _ hpair hout)

theorem Frame.leadPort (h : Frame parts objs s u) (p : Nat) (hpair : .pair ∈ parts := by decide) (hout : .out ∈ parts := by decide) :
    Frame parts objs s (u.leadPort p) := by
  have htold := h.sendPortStat p hpair hout
  exact (htold.campSend _ _ _ hpair hout).ite ((htold.campSend _ _ _ hpair hout).ite htold)

theorem Frame.leadFollow (h : Frame parts objs s u) (hpair : .pair ∈ parts := by decide) (hout : .out ∈ parts := by decide) :
    Frame parts objs s u.leadFollow := by
  unfold State.leadFollow
  have htold : Frame parts objs s (if 3 ≤ u.pair.secondState then (upto 6).foldl State.leadPort u else u) :=
    (Frame.foldl (fun _ p ht => ht.leadPort p hpair hout) _ h).ite h
  exact ((htold.setPair _ hpair).campSend _ _ _ hpair hout).ite htold

end

/-! ### A Second's catch-up -/

/-- The parts that the pair's follow-up of a command may change. -/
def pairParts : List Part := [.out, .pair, .boot, .sig, .latch]

section
variable {s u : State}

theorem Frame.syncElig (h : Frame pairParts pairObjects s u) : Frame pairParts pairObjects s u.syncElig := by
  unfold State.syncElig
  have hrun : Frame pairParts pairObjects s (if u.shadowGood then u else { u with pair := { u.pair with run := 0 } }) := h.ite (h.setPair _)
  exact h.ite (hrun.syncInelig.ite (hrun.setEligible _))

theorem Frame.progress (h : Frame pairParts pairObjects s u) (code : Nat) : Frame pairParts pairObjects s (u.progress code) :=
  (h.setPair _).campSend ..

theorem Frame.toDict (h : Frame pairParts pairObjects s u) : Frame pairParts pairObjects s u.toDict :=
  ((h.setPair _).progress 2).syncElig

theorem Frame.stepUp (h : Frame pairParts pairObjects s u) (n : Nat) : Frame pairParts pairObjects s (u.stepUp n) :=
  (h.setBoot _).ite h

theorem Frame.secondFollow (h : Frame pairParts pairObjects s u) : Frame pairParts pairObjects s u.secondFollow := by
  unfold State.secondFollow
  extract_lets inDict inTime inTrig
  have hdict : Frame pairParts pairObjects s inDict := h.toDict.ite h
  have htime : Frame pairParts pairObjects s inTime := ((hdict.stepUp 12).progress 4).ite hdict
  have htrig : Frame pairParts pairObjects s inTrig := (htime.progress 6).ite htime
  exact htrig.syncElig

/-- The pair's follow-up of a command changes the parts of the pair alone, and no object but those of the eligibility. -/
theorem State.pairFollow_frame (s : State) : Frame pairParts pairObjects s s.pairFollow := by
  have h : Frame pairParts pairObjects s s := .refl s
  unfold State.pairFollow
  have htold : Frame pairParts pairObjects s (if 3 ≤ s.pair.catchup then (upto 6).foldl State.sendPortStat s else s) :=
    (Frame.foldl (fun _ p ht => ht.sendPortStat p) _ h).ite h
  exact htold.secondFollow.ite (h.leadFollow.ite h)

end

end Sys2Proof.Machine
end

section
/-! PROOF. The mirror timeout and the fix tick of a commit (R310, R312, R313). -/
set_option Elab.async false
namespace Sys2Proof.Machine

/-! ### Frames that time and the choice of a boundary keep -/

/-- A frame that keeps the boot, the clocks and the supplies keeps whether MGT sees an event. -/
theorem Frame.mgtFast_eq {parts : List Part} {objs : List (Nat × Nat)} {s u : State} (h : Frame parts objs s u)
    (hboot : .boot ∉ parts := by decide) (hclk : .clk ∉ parts := by decide) (hpower : .power ∉ parts := by decide) : u.mgtFast = s.mgtFast := by
  have kboot : u.boot = s.boot := h.part _ hboot
  have kclk : u.clk = s.clk := h.part _ hclk
  have kpower : u.power = s.power := h.part _ hpower
  unfold State.mgtFast State.mgtUp State.up State.dom
  rw [kboot, kclk, kpower]

/-- Time that passes changes the real time, the time base, and the count of the REF cycles that the time base bridges (R453). -/
theorem Frame.elapse {parts : List Part} {objs : List (Nat × Nat)} {s u : State} (h : Frame parts objs s u) (d : Nat)
    (hnow : .now ∈ parts := by decide) (htime : .time ∈ parts := by decide) (hm : (0xF050, 16) ∈ objs := by decide) :
    Frame parts objs s (u.elapse d) := by
  have hmoved : ∀ (n : Nat) (b : TimeBase), Frame parts objs s { u with now := n, time := b } := fun n b => by
    refine ⟨fun p hp => ?_, h.val⟩
    cases p with
    | now => exact absurd hnow hp
    | time => exact absurd htime hp
    | _ => exact h.part _ hp
  unfold State.elapse
  extract_lets refs ticks tb tb' u'
  exact ((hmoved _ _).bump 0xF050 16 refs hm).ite (hmoved _ _)

theorem Frame.elapseToPt {parts : List Part} {objs : List (Nat × Nat)} {s u : State} (h : Frame parts objs s u) (target : Nat)
    (hnow : .now ∈ parts := by decide) (htime : .time ∈ parts := by decide) (hm : (0xF050, 16) ∈ objs := by decide) :
    Frame parts objs s (u.elapseToPt target) := (h.elapse _ hnow htime hm).ite h

theorem Frame.announce {parts : List Part} {objs : List (Nat × Nat)} {s u : State} (h : Frame parts objs s u) (hpair : .pair ∈ parts := by decide)
    (hout : .out ∈ parts := by decide) : Frame parts objs s u.announce := (h.campSend _ _ _ hpair hout).ite h

/-! ### The fix tick -/

/-- The commit at its fix tick: T is the margin ahead of it (R312). -/
def State.fixed (s : State) : State :=
  { s with commit := { s.commit with state := 3, fixTick := s.time.tick, boundary := s.time.tick + s.commit.margin } }

theorem State.fixTick_eq {s : State} (hstate : s.commit.state = 4) (hrun : s.time.ptRun = true) :
    s.fixTick = (s.elapseToPt (s.commit.instant - s.commit.margin * 2 ^ 32)).fixed.announce := by
  unfold State.fixTick
  rw [if_neg (by simp [hstate, hrun])]
  rfl

theorem fixTickFixesTheBoundary : Claims.FixTickFixesTheBoundary := by
  intro s hstate hrun hmirrored
  have hf : Frame [.now, .time] clockObjects s (s.elapseToPt (s.commit.instant - s.commit.margin * 2 ^ 32)) := (Frame.refl s).elapseToPt _
  have hcommit : (s.elapseToPt (s.commit.instant - s.commit.margin * 2 ^ 32)).commit = s.commit := hf.part .commit (by decide)
  have hexec : exec .commitFixTick s = s.ends (s.elapseToPt (s.commit.instant - s.commit.margin * 2 ^ 32)).fixed := by
    refine congrArg s.ends ((State.fixTick_eq hstate hrun).trans (State.announce_unmirrored ?_))
    exact (congrArg Commit.mirrored hcommit).trans hmirrored
  refine completes_of_frame hexec (((Frame.refl s).elapseToPt _).setCommit _) ?_
  generalize s.elapseToPt (s.commit.instant - s.commit.margin * 2 ^ 32) = u at hcommit
  rw [State.ended_commit, State.ended_time, ← hcommit]
  rfl

/-! ### The choice of the boundary, in general -/

@[simp] theorem State.announce_commit (s : State) : s.announce.commit = s.commit := by
  unfold State.announce
  split
  · exact State.campSend_commit ..
  · rfl

@[simp] theorem State.withdrawn_commit (s : State) : s.withdrawn.commit = s.commit := by
  unfold State.withdrawn
  split
  · exact State.campSend_commit ..
  · rfl

theorem State.sendBoundary_obj (s : State) (t : Nat) (cancel : Bool) : (s.sendBoundary t cancel).obj = s.obj := State.campSend_obj ..

theorem State.announce_obj (s : State) : s.announce.obj = s.obj := by
  unfold State.announce
  split
  · exact s.sendBoundary_obj ..
  · rfl

theorem State.withdrawn_obj (s : State) : s.withdrawn.obj = s.obj := by
  unfold State.withdrawn
  split
  · exact s.sendBoundary_obj ..
  · rfl

/-- Whatever its mode, a commit that goes on has its margin, and is WAITING, SCHEDULED or LATE (R312-R314). -/
theorem State.chooseBoundary_commit (s : State) (m : Nat) : (s.chooseBoundary m).commit.margin = m ∧
    ((s.chooseBoundary m).commit.state = 3 ∨ (s.chooseBoundary m).commit.state = 4 ∨ (s.chooseBoundary m).commit.state = 7) := by
  rw [State.chooseBoundary_eq]
  split
  · rw [State.announce_commit]
    exact ⟨rfl, .inl rfl⟩
  · split
    · rw [State.withdrawn_commit, State.setCause_commit]
      exact ⟨rfl, .inr (.inr rfl)⟩
    · exact ⟨rfl, .inr (.inl rfl)⟩

/-- The parts and the objects that the choice of a boundary may change. -/
def choiceParts : List Part := [.commit, .pair, .out, .latch]
def choiceObjects : List (Nat × Nat) := causeObjects 4 ++ [(0xF010, 5)]

theorem State.chooseBoundary_frame (s : State) (m : Nat) : Frame choiceParts choiceObjects s (s.chooseBoundary m) := by
  have h : Frame choiceParts choiceObjects s s := .refl s
  have hlate : Frame choiceParts choiceObjects s ((s.lateReady m).setCause 4 2) := ((h.setCommit _).bump 0xF010 5 1).setCause 4 2
  rw [State.chooseBoundary_eq]
  exact (h.setCommit _).announce.ite (((hlate.campSend ..).ite hlate).ite (h.setCommit _))

theorem bit_or_of_bit {n b : Nat} (m : Nat) (h : bit n b = true) : bit (n ||| m) b = true := by
  simp only [bit, ← Nat.testBit_eq_decide_div_mod_eq, Nat.testBit_or] at h ⊢
  rw [h, Bool.true_or]

/-- The choice of a boundary clears no COMMIT cause. -/
theorem State.chooseBoundary_cause {s : State} {b : Nat} (m : Nat) (hfast : s.mgtFast = true) (h : bit (s.z 0x2105 0) b = true) :
    bit ((s.chooseBoundary m).z 0x2105 0) b = true := by
  rw [State.chooseBoundary_eq]
  split
  · rw [State.z_congr (State.announce_obj _)]
    exact h
  · split
    · have hfast' : (s.lateReady m).mgtFast = true := hfast
      have hcause := State.setCause_z (s := s.lateReady m) (br := 4) 2 (by decide) hfast'
      have hkept : (s.lateReady m).z 0x2105 0 = s.z 0x2105 0 := (State.z_bump ..).trans (if_neg (by decide))
      rw [State.z_congr (State.withdrawn_obj _), hcause, hkept]
      exact bit_or_of_bit _ h
    · exact h

/-! ### The mirror timeout -/

/-- MGT is at no clock faster than 250 MHz, so the timeout of 250,000 of its cycles is 1 ms or more (R310). -/
theorem State.mirrorLimit_ge (s : State) : 1000000 ≤ s.mirrorLimit := by
  have hrate : s.clockRate .mgt = (2, 125) ∨ s.clockRate .mgt = (1, 4) ∨ s.clockRate .mgt = (1, 10) := by
    unfold State.clockRate
    split <;> simp_all
  unfold State.mirrorLimit
  rcases hrate with h | h | h <;> rw [h] <;> decide

/-- The commit goes on alone: its cause, its count and 2004h:5, before the Second is ineligible (R310). -/
def State.mirrorMissed (s : State) : State := ((s.setCause 4 1).bump 0xF010 7 1).put 0x2004 5 2

/-- The Second has missed the commit, and is ineligible (R310). -/
def State.secondMissed (s : State) : State := State.setEligible { s with pair := { s.pair with mirrorFail := true } } false

theorem State.mirrorGivenUp_eq (s : State) : s.mirrorGivenUp = s.mirrorMissed.secondMissed.chooseBoundary 64 := rfl

theorem State.secondMissed_frame (s : State) : Frame [.pair, .sig, .latch] pairObjects s s.secondMissed :=
  ((Frame.refl s).setPair _).setEligible _

theorem State.mirrorMissed_frame (s : State) :
    Frame [.latch] (causeObjects 4 ++ [(0xF010, 7), (0x2004, 5)]) s s.mirrorMissed :=
  (((Frame.refl s).setCause 4 1).bump 0xF010 7 1).put 0x2004 5 2

/-- The state of a commit that has gone on alone, once the pair has followed. -/
def State.wentAlone (s : State) : State := s.mirrorGivenUp.pairFollow

/-- The ineligibility of the Second, the choice of the boundary and the pair's follow-up leave the other objects as the missed mirror
did. -/
theorem State.wentAlone_z (s : State) {i a : Nat} (ha : a < 256 := by decide) (hpair : (i, a) ∉ pairObjects := by decide)
    (hchoice : (i, a) ∉ choiceObjects := by decide) (h17 : (i, a) ≠ (0xF018, 17) := by decide) (hd : defaultVal i a = .num 0 := by rfl) :
    s.wentAlone.z i a = s.mirrorMissed.z i a :=
  calc s.wentAlone.z i a = s.mirrorGivenUp.z i a := s.mirrorGivenUp.pairFollow_frame.z_eq ha hpair h17 hd
    _ = s.mirrorMissed.secondMissed.z i a := (State.chooseBoundary_frame _ 64).z_eq ha hchoice h17 hd
    _ = s.mirrorMissed.z i a := s.mirrorMissed.secondMissed_frame.z_eq ha hpair h17 hd

theorem State.wentAlone_commit (s : State) : s.wentAlone.commit.margin = 64 ∧
    (s.wentAlone.commit.state = 3 ∨ s.wentAlone.commit.state = 4 ∨ s.wentAlone.commit.state = 7) := by
  rw [State.wentAlone, State.pairFollow_commit, State.mirrorGivenUp_eq]
  exact State.chooseBoundary_commit ..

theorem State.wentAlone_kept (s : State) : s.wentAlone.staged = s.staged ∧ s.wentAlone.now = s.now := by
  have hmissed := s.mirrorMissed_frame
  have hsecond := s.mirrorMissed.secondMissed_frame
  have hchoice := s.mirrorMissed.secondMissed.chooseBoundary_frame 64
  rw [State.wentAlone, State.pairFollow_staged, State.pairFollow_now, State.mirrorGivenUp_eq]
  exact ⟨(hchoice.part .staged (by decide)).trans ((hsecond.part .staged (by decide)).trans (hmissed.part .staged (by decide))),
    (hchoice.part .now (by decide)).trans ((hsecond.part .now (by decide)).trans (hmissed.part .now (by decide)))⟩

theorem State.mirrorMissed_count (s : State) : s.mirrorMissed.z 0xF010 7 = min (s.z 0xF010 7 + 1) (2 ^ 32 - 1) := by
  have hcause : (s.setCause 4 1).z 0xF010 7 = s.z 0xF010 7 := ((Frame.refl (parts := [.latch]) (objs := causeObjects 4) s).setCause 4 1).z_eq
  rw [State.mirrorMissed, State.z_put, if_neg (by decide), State.z_bump, if_pos rfl, hcause]

theorem State.mirrorMissed_cause {s : State} (h : s.mgtFast = true) : bit (s.mirrorMissed.z 0x2105 0) 1 = true := by
  rw [State.mirrorMissed, State.z_put, if_neg (by decide), State.z_bump, if_neg (by decide), State.setCause_z (br := 4) 1 (by decide) h]
  exact bit_or_two_pow _ 1

theorem State.wentAlone_cause {s : State} (h : s.mgtFast = true) : bit (s.wentAlone.z 0x2105 0) 1 = true := by
  have hmissed : s.mirrorMissed.mgtFast = true := s.mirrorMissed_frame.mgtFast_eq.trans h
  have hsecond : s.mirrorMissed.secondMissed.mgtFast = true := s.mirrorMissed.secondMissed_frame.mgtFast_eq.trans hmissed
  have hcause : bit (s.mirrorMissed.secondMissed.z 0x2105 0) 1 = true := by
    rw [s.mirrorMissed.secondMissed_frame.z_eq]
    exact State.mirrorMissed_cause h
  rw [State.wentAlone, s.mirrorGivenUp.pairFollow_frame.z_eq, State.mirrorGivenUp_eq]
  exact State.chooseBoundary_cause 64 hsecond hcause

theorem mirrorTimeoutGoesOnAlone : Claims.MirrorTimeoutGoesOnAlone := by
  intro s hstate
  have hexec : exec .mirrorTimeout s = s.ends (s.elapseTo (s.commit.mirrorAt + s.mirrorLimit)).wentAlone := by
    show s.ends s.mirrorTimeout.pairFollow = _
    rw [State.mirrorTimeout, if_neg (not_not.2 hstate)]
    rfl
  have hlimit := s.mirrorLimit_ge
  have hnow := s.elapseTo_now (s.commit.mirrorAt + s.mirrorLimit)
  have hstaged := s.elapseTo_staged (s.commit.mirrorAt + s.mirrorLimit)
  have hcount := s.elapseTo_z (s.commit.mirrorAt + s.mirrorLimit) (i := 0xF010) (a := 7) (by decide)
  have hfast : (s.elapseTo (s.commit.mirrorAt + s.mirrorLimit)).mgtFast = s.mgtFast :=
    ((Frame.refl (parts := [.now, .time]) (objs := clockObjects) s).elapseTo _).mgtFast_eq
  generalize s.elapseTo (s.commit.mirrorAt + s.mirrorLimit) = u at hexec hnow hstaged hcount hfast
  obtain ⟨hmargin, hchosen⟩ := u.wentAlone_commit
  obtain ⟨kstaged, know⟩ := u.wentAlone_kept
  refine ⟨_, hexec, ?_, ?_, ?_, ?_, ?_, ?_, fun h => ?_⟩
  · show _ ≤ (s.ended u.wentAlone).now
    rw [State.ended_now, know, hnow]
    omega
  · refine (State.ended_z ..).trans (u.wentAlone_z.trans ?_)
    rw [State.mirrorMissed, State.z_put, if_pos rfl]
  · exact (congrArg Commit.margin (State.ended_commit ..)).trans hmargin
  · show (s.ended u.wentAlone).commit.state = 3 ∨ (s.ended u.wentAlone).commit.state = 4 ∨ (s.ended u.wentAlone).commit.state = 7
    rw [State.ended_commit]
    exact hchosen
  · exact (State.ended_staged ..).trans (kstaged.trans hstaged)
  · rw [← hcount]
    exact (State.ended_z ..).trans (u.wentAlone_z.trans u.mirrorMissed_count)
  · show bit ((s.ended u.wentAlone).z 0x2105 0) 1 = true
    rw [State.ended_z]
    exact State.wentAlone_cause (hfast.trans h)

/-- Settles O25: what follows the missed mirror leaves its cause, its count and 2004h:5 alone, and at the fix tick no more than the commit
changes beside the time. -/
theorem mirrorTimeoutAndFixTick : Obligations.MirrorTimeoutAndFixTick := ⟨mirrorTimeoutGoesOnAlone, fixTickFixesTheBoundary⟩

end Sys2Proof.Machine
end

section
/-! PROOF. The Lead serves its Second (R310, R322, R752-R754): what it does with SET_ACK, PROGRESS and PORTSTAT, and what its own messages leave
of the pair. -/
set_option Elab.async false
namespace Sys2Proof.Machine

/-! ### What a Lead's messages leave of the pair -/

/-- The pair but for the streams of the camp channel, the port states reported, and the snapshot owed. -/
def Pair.untold (x : Pair) : Pair := { x with txUrgent := [], txBulk := [], sentPorts := [], snapDue := false }

/-- Only messages leave between two states: the pair is the same but for what they tell, and nothing handed outward is taken back. -/
structure State.Told (s t : State) : Prop where
  pair : t.pair.untold = s.pair.untold
  out : s.out ⊆ t.out

section
variable {s t u : State}

theorem State.Told.refl (s : State) : s.Told s := ⟨rfl, fun _ h => h⟩

theorem State.Told.trans (h : s.Told t) (k : t.Told u) : s.Told u := ⟨k.pair.trans h.pair, fun _ ho => k.out (h.out ho)⟩

theorem State.Told.ite {c : Prop} [Decidable c] (h : s.Told t) (k : s.Told u) : s.Told (if c then t else u) := by
  split
  · exact h
  · exact k

theorem State.Told.foldl {α : Type} {f : State → α → State} (hf : ∀ (s : State) (a : α), s.Told (f s a)) (l : List α) (s : State) :
    s.Told (l.foldl f s) := by
  induction l generalizing s with
  | nil => exact .refl s
  | cons a l ih => exact (hf s a).trans (ih _)

end

theorem State.campSend_out (s : State) (urgent : Bool) (code : Nat) (body : Octets) :
    (s.campSend urgent code body).out = .camp code body :: s.out := by
  unfold State.campSend
  extract_lets o t
  split <;> rfl

theorem State.campSend_told (s : State) (urgent : Bool) (code : Nat) (body : Octets) : s.Told (s.campSend urgent code body) := by
  refine ⟨?_, by rw [State.campSend_out]; exact List.subset_cons_self ..⟩
  unfold State.campSend
  extract_lets o t
  split <;> rfl

theorem State.sendPortStat_told (s : State) (p : Nat) : s.Told (s.sendPortStat p) := by
  have hsent : ∀ m, s.Told { s with pair := { s.pair with sentPorts := m } } := fun _ => ⟨rfl, fun _ h => h⟩
  exact (State.Told.refl s).ite ((hsent _).trans (State.campSend_told ..))

theorem State.leadPort_told (s : State) (p : Nat) : s.Told (s.leadPort p) := by
  have htold := s.sendPortStat_told p
  exact (htold.trans (State.campSend_told ..)).ite ((htold.trans (State.campSend_told ..)).ite htold)

theorem State.leadFollow_told (s : State) : s.Told s.leadFollow := by
  unfold State.leadFollow
  extract_lets ports
  have hports : s.Told ports := (State.Told.foldl State.leadPort_told _ s).ite (.refl s)
  have hdue : ports.Told { ports with pair := { ports.pair with snapDue := false } } := ⟨rfl, fun _ h => h⟩
  exact ((hports.trans hdue).trans (State.campSend_told ..)).ite hports

theorem State.pairFollow_lead {s : State} (h : s.pair.role = 2) : s.pairFollow = s.leadFollow := by
  unfold State.pairFollow
  rw [if_neg (by simp [h]), if_pos h]

theorem State.pairFollow_told {s : State} (h : s.pair.role = 2) : s.Told s.pairFollow := by
  rw [State.pairFollow_lead h]
  exact s.leadFollow_told

theorem State.ended_pair (s u : State) : (s.ended u).pair = u.pair := u.alertSync_pair

/-- A Lead's command that ends in the pair's follow-up leaves the commit as its meaning does, and only messages leave besides. -/
theorem exec_lead {c : Instr} {s u v : State} (hc : exec c s = s.ends v.pairFollow) (hv : v = u) (hrole : u.pair.role = 2) :
    ∃ t, exec c s = .next t ∧ t.commit = u.commit ∧ u.Told t := by
  subst hv
  have htold := State.pairFollow_told hrole
  refine ⟨s.ended v.pairFollow, hc, ?_, ?_, ?_⟩
  · rw [State.ended_commit, State.pairFollow_commit]
  · rw [State.ended_pair]
    exact htold.pair
  · rw [State.ended_out]
    exact htold.out

/-! ### Sets -/

/-- A set is begun: it takes the next number and its kind. -/
def State.setBegun (s : State) (kind : Nat) : State := { s with pair := { s.pair with setNo := s.pair.setNo + 1, setKind := kind } }

/-- A set's own messages leave the pair as its number and kind left it. -/
theorem State.sendSet_told (s : State) (kind : Nat) (recs : List Octets) :
    (s.setBegun kind).Told (s.sendSet kind recs) := by
  unfold State.sendSet
  extract_lets n _ u first recs'
  change u.Told _
  have hfirst : u.Told first := State.campSend_told ..
  have hrecs : first.Told recs' := State.Told.foldl (fun t r => t.campSend_told false 3 r) recs first
  exact (hfirst.trans hrecs).trans (State.campSend_told ..)

/-- A set that is sent takes the next number and its kind, and keeps the roles of both devices. -/
theorem State.sendSet_pair (s : State) (kind : Nat) (recs : List Octets) : (s.sendSet kind recs).pair.untold =
    { s.pair.untold with setNo := s.pair.setNo + 1, setKind := kind } := (s.sendSet_told kind recs).pair

theorem State.sendBoundary_out (s : State) (t : Nat) (cancel : Bool) :
    (s.sendBoundary t cancel).out = .camp 6 (leBytes 4 s.pair.setNo ++ leBytes 8 t ++ leBytes 1 (b2n cancel)) :: s.out := State.campSend_out ..

theorem State.sendBoundary_told (s : State) (t : Nat) (cancel : Bool) : s.Told (s.sendBoundary t cancel) := State.campSend_told ..

@[simp] theorem State.sendBoundary_commit (s : State) (t : Nat) (cancel : Bool) : (s.sendBoundary t cancel).commit = s.commit :=
  State.campSend_commit ..

/-! ### SET_ACK -/

/-- The Second has answered: it is not absent from mirroring (R763). -/
def State.secondPresent (s : State) : State := { s with pair := { s.pair with absent := false } }

/-- What the Lead does with the acknowledgement of the last set that it has sent. -/
theorem State.setAck_eq {s : State} {o : Octets} (hrole : s.pair.role = 2) (hno : leAt o 0 4 = s.pair.setNo) : s.setAck o =
    if s.pair.setKind = 1 ∧ !decide (s.commit.state = 2) then
      (if leAt o 4 1 ≠ 0 ∨ s.commit.mirrored then s.secondPresent else s.secondPresent.sendBoundary 0 true)
    else if leAt o 4 1 ≠ 0 then
      (if decide (s.commit.state = 2) then s.secondPresent.sendSet 1 s.secondPresent.stagedRecords else s.secondPresent.startCatchup)
    else if decide (s.commit.state = 2) then s.secondPresent.mirrorAck
    else s.secondPresent.sendBoundary (if decide (5 ≤ s.pair.secondState) then roundUp (s.time.tick + 1024) 1024 else 0) false := by
  unfold State.setAck
  rw [if_neg (by simp [hrole, hno])]
  rfl

/-- The acknowledgement is answered by one BOUNDARY, which leaves the commit alone. -/
theorem setAck_boundary {s : State} {o : Octets} {b : Nat} {cancel : Bool} (hrole : s.pair.role = 2)
    (h : s.setAck o = s.secondPresent.sendBoundary b cancel) :
    ∃ t, exec (.setAck o) s = .next t ∧ t.pair.absent = false ∧ t.commit = s.commit ∧
      .camp 6 (leBytes 4 s.pair.setNo ++ leBytes 8 b ++ leBytes 1 (b2n cancel)) ∈ t.out := by
  have hsent := s.secondPresent.sendBoundary_told b cancel
  have hlead : (s.secondPresent.sendBoundary b cancel).pair.role = 2 := (congrArg Pair.role hsent.pair).trans hrole
  obtain ⟨t, hexec, hcommit, htold⟩ := exec_lead (c := .setAck o) rfl h hlead
  refine ⟨t, hexec, congrArg Pair.absent (hsent.trans htold).pair, ?_, htold.out ?_⟩
  · rw [hcommit, State.sendBoundary_commit]
    rfl
  · rw [State.sendBoundary_out]
    exact List.mem_cons_self ..

section
variable {s : State} {o : Octets} (hrole : s.pair.role = 2) (hno : leAt o 0 4 = s.pair.setNo)
include hrole hno

theorem setAck_cancels (hok : leAt o 4 1 = 0) (hstate : s.commit.state ≠ 2) (hkind : s.pair.setKind = 1)
    (hmirrored : s.commit.mirrored = false) : ∃ t, exec (.setAck o) s = .next t ∧ t.pair.absent = false ∧ t.commit = s.commit ∧
      .camp 6 (leBytes 4 s.pair.setNo ++ leBytes 8 0 ++ leBytes 1 1) ∈ t.out :=
  setAck_boundary hrole (b := 0) (cancel := true) (by
    rw [State.setAck_eq hrole hno, if_pos ⟨hkind, by simp [hstate]⟩, if_neg (by simp [hok, hmirrored])])

theorem setAck_catchup (hok : leAt o 4 1 = 0) (hstate : s.commit.state ≠ 2) (hkind : s.pair.setKind ≠ 1) :
    ∃ t, exec (.setAck o) s = .next t ∧ t.pair.absent = false ∧ t.commit = s.commit ∧
      .camp 6 (leBytes 4 s.pair.setNo ++
        leBytes 8 (if 5 ≤ s.pair.secondState then roundUp (s.time.tick + 1024) 1024 else 0) ++ leBytes 1 0) ∈ t.out := by
  refine setAck_boundary hrole (cancel := false) ?_
  rw [State.setAck_eq hrole hno, if_neg (fun h => hkind h.1), if_neg (not_not.2 hok), if_neg (by simp [hstate])]
  simp only [decide_eq_true_eq]

/-- The commit as the acknowledgement of its set leaves it, before its boundary is chosen (R311). -/
def State.setAcknowledged (s : State) : State :=
  { s.secondPresent.put 0x2004 5 1 with commit := { s.commit with mirrored := true } }

theorem setAck_goesOn (hok : leAt o 4 1 = 0) (hstate : s.commit.state = 2) (hmode : s.commit.atTime = false)
    (htime : s.late .mgt s.commit.mirrorAt s.mirrorLimit = false) :
    ∃ t, exec (.setAck o) s = .next t ∧ t.commit.state = 3 ∧ t.commit.mirrored = true ∧ t.commit.fixTick = s.time.tick ∧
      t.commit.boundary = roundUp (s.time.tick + 1024) 1024 ∧ t.pair.absent = false ∧
      .camp 6 (leBytes 4 s.pair.setNo ++ leBytes 8 t.commit.boundary ++ leBytes 1 0) ∈ t.out := by
  have hack : s.setAck o = s.secondPresent.mirrorAck := by
    rw [State.setAck_eq hrole hno, if_neg (by simp [hstate]), if_neg (not_not.2 hok), if_pos (by simp [hstate])]
  have hchoice : s.secondPresent.mirrorAck = s.setAcknowledged.chooseBoundary 1024 := by
    have hlate : s.secondPresent.late .mgt s.secondPresent.commit.mirrorAt s.secondPresent.mirrorLimit = false := htime
    unfold State.mirrorAck
    rw [if_neg (show ¬ s.secondPresent.commit.state ≠ 2 from not_not.2 hstate), hlate, if_neg Bool.false_ne_true]
    rfl
  have hnext : s.setAcknowledged.chooseBoundary 1024 = (s.setAcknowledged.nextBoundary 1024).announce :=
    State.chooseBoundary_next 1024 hmode
  have hsent : (s.setAcknowledged.nextBoundary 1024).announce =
      (s.setAcknowledged.nextBoundary 1024).sendBoundary (roundUp (s.time.tick + 1024) 1024) false := if_pos ⟨rfl, rfl⟩
  have hend := hack.trans (hchoice.trans (hnext.trans hsent))
  have htold := (s.setAcknowledged.nextBoundary 1024).sendBoundary_told (roundUp (s.time.tick + 1024) 1024) false
  have hlead : ((s.setAcknowledged.nextBoundary 1024).sendBoundary (roundUp (s.time.tick + 1024) 1024) false).pair.role = 2 :=
    (congrArg Pair.role htold.pair).trans hrole
  obtain ⟨t, hexec, hcommit, hleft⟩ := exec_lead (c := .setAck o) rfl hend hlead
  rw [State.sendBoundary_commit] at hcommit
  refine ⟨t, hexec, ?_, ?_, ?_, ?_, congrArg Pair.absent (htold.trans hleft).pair, hleft.out ?_⟩
  · rw [hcommit]; rfl
  · rw [hcommit]; rfl
  · rw [hcommit]; rfl
  · rw [hcommit]; rfl
  · rw [hcommit, State.sendBoundary_out]
    exact List.mem_cons_self ..

end

/-- A set whose CRC did not match is sent again under the next number. -/
theorem setAck_resends {s : State} {o : Octets} (hrole : s.pair.role = 2) (hno : leAt o 0 4 = s.pair.setNo) (hcrc : leAt o 4 1 ≠ 0)
    (hset : s.commit.state = 2 ∨ s.pair.setKind ≠ 1) :
    ∃ t, exec (.setAck o) s = .next t ∧ t.pair.setNo = s.pair.setNo + 1 ∧ t.commit = s.commit := by
  have hresent : ∃ u kind recs, s.setAck o = State.sendSet u kind recs ∧ u.pair.role = 2 ∧ u.pair.setNo = s.pair.setNo ∧ u.commit = s.commit := by
    rw [State.setAck_eq hrole hno, if_neg (by simp only [Bool.not_eq_true', decide_eq_false_iff_not]; tauto), if_pos hcrc]
    split
    · exact ⟨_, _, _, rfl, hrole, rfl, rfl⟩
    · exact ⟨_, _, _, rfl, hrole, rfl, rfl⟩
  obtain ⟨u, kind, recs, hsent, hlead, hnumber, hkept⟩ := hresent
  have hpair := u.sendSet_pair kind recs
  obtain ⟨t, hexec, hcommit, hleft⟩ := exec_lead (c := .setAck o) rfl hsent ((congrArg Pair.role hpair).trans hlead)
  refine ⟨t, hexec, ?_, ?_⟩
  · exact (congrArg Pair.setNo (hleft.pair.trans hpair)).trans (congrArg (· + 1) hnumber)
  · rw [hcommit, State.sendSet_commit, hkept]

/-! ### PROGRESS -/

/-- The Lead has learnt the catch-up state of its Second. -/
def State.secondAt (s : State) (c : Nat) : State := { s with pair := { s.pair with secondState := c } }

/-- In DICT of its Second, the Lead sends the CATCHUP set (R754). -/
theorem State.progressMsg_dict {s : State} {o : Octets} (hrole : s.pair.role = 2) (hc : leAt o 0 1 = 2) :
    s.progressMsg o = (s.secondAt 2).startCatchup := by
  unfold State.progressMsg
  rw [if_neg (not_not.2 hrole), hc]
  rfl

theorem State.sendTimeSync_told (s : State) : s.Told s.sendTimeSync := by
  unfold State.sendTimeSync
  exact State.campSend_told ..

/-- In every other state of its Second, the Lead sends no more than messages. -/
theorem State.progressMsg_told {s : State} {o : Octets} (hrole : s.pair.role = 2) (hc : leAt o 0 1 ≠ 2) :
    (s.secondAt (leAt o 0 1)).Told (s.progressMsg o) := by
  have hports : (s.secondAt (leAt o 0 1)).Told { s.secondAt (leAt o 0 1) with pair := { (s.secondAt (leAt o 0 1)).pair with sentPorts := [] } } :=
    ⟨rfl, fun _ h => h⟩
  have hdue : (s.secondAt (leAt o 0 1)).Told { s.secondAt (leAt o 0 1) with pair := { (s.secondAt (leAt o 0 1)).pair with snapDue := true } } :=
    ⟨rfl, fun _ h => h⟩
  unfold State.progressMsg
  rw [if_neg (not_not.2 hrole)]
  extract_lets c u
  change leAt o 0 1 ≠ 2 at hc
  change u.Told _ at hports hdue
  change u.Told _
  split
  · next h => exact absurd h hc
  · exact hports.trans (State.pairFollow_told hrole)
  · exact u.sendTimeSync_told
  · exact hdue.trans (State.pairFollow_told hrole)
  · exact .refl u

theorem progress_serves {s : State} (o : Octets) (hrole : s.pair.role = 2) :
    ∃ t, exec (.progress o) s = .next t ∧ t.pair.secondState = leAt o 0 1 ∧
      (leAt o 0 1 = 2 → t.pair.setNo = s.pair.setNo + 1 ∧ t.pair.mirrorFail = false) ∧
      (leAt o 0 1 ≠ 2 → t.pair.setNo = s.pair.setNo) := by
  by_cases hc : leAt o 0 1 = 2
  · have hpair : (s.progressMsg o).pair.untold = _ := (congrArg (fun u : State => u.pair.untold) (State.progressMsg_dict hrole hc)).trans
      (State.sendSet_pair ..)
    obtain ⟨t, hexec, -, hleft⟩ := exec_lead (c := .progress o) (s := s) (u := s.progressMsg o) rfl rfl ((congrArg Pair.role hpair).trans hrole)
    have hend := hleft.pair.trans hpair
    exact ⟨t, hexec, (congrArg Pair.secondState hend).trans hc.symm, fun _ => ⟨congrArg Pair.setNo hend, congrArg Pair.mirrorFail hend⟩,
      fun h => absurd hc h⟩
  · have htold := State.progressMsg_told hrole hc
    obtain ⟨t, hexec, -, hleft⟩ := exec_lead (c := .progress o) (s := s) (u := s.progressMsg o) rfl rfl
      ((congrArg Pair.role htold.pair).trans hrole)
    have hend := (htold.trans hleft).pair
    exact ⟨t, hexec, congrArg Pair.secondState hend, fun h => absurd h hc, fun _ => (congrArg Pair.setNo hend :)⟩

/-! ### PORTSTAT -/

theorem State.trainLost_told (s : State) (p status : Nat) : s.Told (s.trainLost p status) := (State.campSend_told ..).ite (.refl s)

/-- The Lead notes a port state of its Second. -/
def State.portNoted (s : State) (p status : Nat) : State :=
  { s with pair := { s.pair with partnerPorts := mset s.pair.partnerPorts p status } }

theorem portstat_serves {s : State} (o : Octets) (hrole : s.pair.role = 2) (p : Nat) (hp : leAt o 0 1 = p) (hlt : p < 6) :
    ∃ t, exec (.portstat o) s = .next t ∧ mget t.pair.partnerPorts p = some (leAt o 1 4) := by
  have hstat : s.portStat o = ((s.trainLost p (leAt o 1 4)).portNoted p (leAt o 1 4)).pairFollow := by
    unfold State.portStat
    rw [hp, if_neg (by omega)]
    rfl
  have hnoted : ((s.trainLost p (leAt o 1 4)).portNoted p (leAt o 1 4)).pair.role = 2 :=
    (congrArg Pair.role (s.trainLost_told p (leAt o 1 4)).pair).trans hrole
  have htold := State.pairFollow_told hnoted
  obtain ⟨t, hexec, -, hleft⟩ := exec_lead (c := .portstat o) rfl hstat
    ((congrArg Pair.role htold.pair).trans hnoted)
  refine ⟨t, hexec, ?_⟩
  have hports : t.pair.partnerPorts = mset (s.trainLost p (leAt o 1 4)).pair.partnerPorts p (leAt o 1 4) :=
    congrArg Pair.partnerPorts (htold.trans hleft).pair
  rw [hports, mget_mset, if_pos rfl]

theorem theLeadServesItsSecond : Claims.TheLeadServesItsSecond := fun _ o hrole =>
  ⟨fun hno hok => ⟨setAck_goesOn hrole hno hok, setAck_cancels hrole hno hok, setAck_catchup hrole hno hok⟩,
    fun hno hcrc hset => setAck_resends hrole hno hcrc hset, progress_serves o hrole, portstat_serves o hrole⟩

end Sys2Proof.Machine
end

section
/-! PROOF. What requests that waited for the home leave alone (R433): the units' completions and requests, what has been handed outward, and the
count of handovers. A port's counters lie at subindices of their own, whatever the port. -/
set_option Elab.async false
namespace Sys2Proof.Machine

/-- The home serves the fabric: no completion and no request of a unit comes or goes, nothing handed outward is taken back, and F090h:12
stands. -/
structure State.HomeLeaves (s t : State) : Prop where
  done : t.coh.done = s.coh.done
  waits : t.coh.devWait = s.coh.devWait
  out : s.out ⊆ t.out
  handovers : t.z 0xF090 12 = s.z 0xF090 12

/-! ### How such changes compose -/

section
variable {s t u : State}

theorem State.HomeLeaves.refl (s : State) : s.HomeLeaves s := ⟨rfl, rfl, fun _ h => h, rfl⟩

theorem State.HomeLeaves.trans (h : s.HomeLeaves t) (k : t.HomeLeaves u) : s.HomeLeaves u :=
  ⟨k.done.trans h.done, k.waits.trans h.waits, fun _ ho => k.out (h.out ho), k.handovers.trans h.handovers⟩

theorem State.HomeLeaves.ite {c : Prop} [Decidable c] (h : s.HomeLeaves t) (k : s.HomeLeaves u) : s.HomeLeaves (if c then t else u) := by
  split
  · exact h
  · exact k

theorem State.HomeLeaves.foldl {α : Type} {f : State → α → State} (hf : ∀ (s : State) (a : α), s.HomeLeaves (f s a)) (l : List α)
    (s : State) : s.HomeLeaves (l.foldl f s) := by
  induction l generalizing s with
  | nil => exact .refl s
  | cons a l ih => exact (hf s a).trans (ih _)

theorem State.HomeLeaves.of_same (hcoh : t.coh = s.coh) (hout : t.out = s.out) (hobj : t.obj = s.obj) : s.HomeLeaves t :=
  ⟨congrArg _ hcoh, congrArg _ hcoh, fun _ h => hout ▸ h, State.z_congr hobj ..⟩

theorem State.HomeLeaves.setCoh {c : Coh} (hdone : c.done = s.coh.done) (hwait : c.devWait = s.coh.devWait) :
    s.HomeLeaves { s with coh := c } := ⟨hdone, hwait, fun _ h => h, rfl⟩

theorem State.HomeLeaves.setMem (m : Memory) : s.HomeLeaves { s with mem := m } := .of_same rfl rfl rfl

theorem State.HomeLeaves.setPort (p : Nat) (x : PortSt) : s.HomeLeaves (s.setPort p x) := .of_same rfl rfl rfl

theorem State.HomeLeaves.emit (o : Output) : s.HomeLeaves (s.emit o) := ⟨rfl, rfl, List.subset_cons_self .., rfl⟩

theorem State.HomeLeaves.bumpW (i a w d : Nat) (h : key 0xF090 12 ≠ key i a := by decide) : s.HomeLeaves (s.bumpW i a w d) :=
  ⟨rfl, rfl, fun _ ho => ho, (State.z_bumpW ..).trans (if_neg h)⟩

theorem State.HomeLeaves.bump (i a d : Nat) (h : key 0xF090 12 ≠ key i a := by decide) : s.HomeLeaves (s.bump i a d) := .bumpW i a 32 d h

theorem State.HomeLeaves.setCause (br b : Nat) (hbr : br < 16) (h : (0xF090, 12) ∉ causeObjects br) : s.HomeLeaves (s.setCause br b) :=
  ⟨congrArg _ (State.setCause_coh ..), congrArg _ (State.setCause_coh ..), fun _ ho => by rw [State.setCause_out]; exact ho,
    State.z_of_val (s.setCause_val b hbr (by decide) h (by decide)) rfl⟩

end

/-! ### Messages -/

/-- The count of a port's flits is no object of the pair, whatever the port: their subindices differ modulo 16. -/
theorem sendSeqFlit_homeLeaves (s : State) (p f c : Nat) (o : Octets) : s.HomeLeaves (sendSeqFlit p f c o s) := by
  have hk : key 0xF090 12 ≠ key 0xF040 (16 * p + 2) := by unfold key; omega
  exact ((State.HomeLeaves.setPort ..).trans (.bumpW _ _ _ _ hk)).trans (.emit _)

theorem sendSlots_homeLeaves (p fuel c : Nat) (o : Octets) (s : State) : s.HomeLeaves (sendSlots p fuel c o s) := by
  induction fuel generalizing c o s with
  | zero => exact .refl s
  | succ n ih => exact (sendSeqFlit_homeLeaves ..).ite ((sendSeqFlit_homeLeaves ..).trans (ih ..))

theorem sendMsg_homeLeaves (s : State) (p : Nat) (m : LinkMsg) : s.HomeLeaves (sendMsg p m s) :=
  ((((State.HomeLeaves.setPort ..).trans (sendSlots_homeLeaves ..)).trans (.emit _)).ite (.setPort ..)).ite (.refl s)

theorem State.cohEvent_homeLeaves (s : State) (b k a i : Nat) : s.HomeLeaves (s.cohEvent b k a i) := by
  have hnoted : s.HomeLeaves { s with coh := { s.coh with eventAddr := a, eventSid := i, eventKind := k } } := .setCoh rfl rfl
  unfold State.cohEvent
  exact hnoted.trans (.setCause 6 b (by decide) (by decide))

theorem State.protoViolation_homeLeaves (s : State) (a i : Nat) : s.HomeLeaves (s.protoViolation a i) :=
  (s.cohEvent_homeLeaves ..).trans (.bump 0xF048 17 1)

theorem State.answer_homeLeaves (s : State) (p : Nat) (m : LinkMsg) (vc opc : Nat) (poison : Bool) (data : Octets) :
    s.HomeLeaves (s.answer p m vc opc poison data) :=
  ((State.HomeLeaves.bump 0xF048 10 1).ite (.refl s)).trans (sendMsg_homeLeaves ..)

/-! ### The capture memory -/

theorem State.abandonStep_homeLeaves (s : State) : s.HomeLeaves s.abandonStep :=
  ((State.HomeLeaves.setMem _).trans (.bump 0xF080 5 1)).ite (.refl s)

theorem State.correctLine_homeLeaves (s : State) (off : Nat) : s.HomeLeaves (s.correctLine off) :=
  (State.HomeLeaves.setMem _).ite ((State.HomeLeaves.setMem _).trans (.bumpW 0xF080 1 64 _))

theorem State.failLine_homeLeaves (s : State) (off w n : Nat) : s.HomeLeaves (s.failLine off w n) :=
  ((State.HomeLeaves.setMem _).trans (.bump 0xF080 2 n)).trans (.bump 0xF080 3 1)

theorem State.readLine_homeLeaves (s : State) (off : Nat) : s.HomeLeaves (s.readLine off).2.2 := by
  unfold State.readLine
  split
  · exact .bump 0xF080 12 1
  · split
    · split
      · exact s.abandonStep_homeLeaves
      · exact s.abandonStep_homeLeaves
    · split
      · exact s.correctLine_homeLeaves off
      · exact (s.correctLine_homeLeaves off).trans (State.failLine_homeLeaves ..)

theorem State.writeLine_homeLeaves (s : State) (off : Nat) (data : Octets) (poison : Bool) : s.HomeLeaves (s.writeLine off data poison) :=
  ((State.HomeLeaves.setMem _).trans (State.abandonStep_homeLeaves _)).ite (.setMem _)

theorem State.hostWrite_homeLeaves (s : State) (off i : Nat) (data : Octets) (poison : Bool) : s.HomeLeaves (s.hostWrite off i data poison) :=
  (State.HomeLeaves.bump 0xF080 12 1).ite ((s.writeLine_homeLeaves ..).ite ((s.readLine_homeLeaves off).trans (State.writeLine_homeLeaves ..)))

theorem State.applyWrite_homeLeaves (s : State) (p : Nat) (m : LinkMsg) (off : Nat) : s.HomeLeaves (s.applyWrite p m off) :=
  (s.hostWrite_homeLeaves ..).trans (State.answer_homeLeaves ..)

theorem State.answerLine_homeLeaves (s : State) (p : Nat) (m : LinkMsg) (opc off : Nat) : s.HomeLeaves (s.answerLine p m opc off) := by
  have hread := s.readLine_homeLeaves (off / 64 * 64)
  exact ((hread.trans (State.cohEvent_homeLeaves ..)).ite hread).trans (State.answer_homeLeaves ..)

theorem State.answerUc_homeLeaves (s : State) (p : Nat) (m : LinkMsg) (off : Nat) : s.HomeLeaves (s.answerUc p m off) := by
  have hread := s.readLine_homeLeaves (off / 64 * 64)
  unfold State.answerUc
  generalize s.readLine (off / 64 * 64) = r at hread
  obtain ⟨d, poison, u⟩ := r
  dsimp only
  generalize hreported : (if poison = true then u.cohEvent 3 2 (m.addr / 64 * 64) m.sid else u) = t
  have ht : s.HomeLeaves t := hreported ▸ (hread.trans (State.cohEvent_homeLeaves ..)).ite hread
  split
  · exact ht.trans (State.answer_homeLeaves ..)
  · exact ht.trans (State.answer_homeLeaves ..)
  · exact ht.trans (State.answer_homeLeaves ..)

/-! ### Snoops and the directory -/

theorem State.putEntry_homeLeaves (s : State) (line : Nat) (e : FilterEntry) : s.HomeLeaves (s.putEntry line e) := .setCoh rfl rfl
theorem State.putTxn_homeLeaves (s : State) (line : Nat) (x : Txn) : s.HomeLeaves (s.putTxn line x) := .setCoh rfl rfl
theorem State.waitOn_homeLeaves (s : State) (w : Waiter) : s.HomeLeaves (s.waitOn w) := .setCoh rfl rfl
theorem State.wait_homeLeaves (s : State) (w : Waiter) : s.HomeLeaves (s.wait w) := .setCoh rfl rfl
theorem State.clearUse_homeLeaves (s : State) (k : Nat) : s.HomeLeaves (s.clearUse k) := .setCoh rfl rfl

theorem State.sendSnp_homeLeaves (s : State) (line sid : Nat) (inv : Bool) (tag : Nat) : s.HomeLeaves (s.sendSnp line sid inv tag) := by
  have htag : s.HomeLeaves { s with coh := { s.coh with nextTag := (tag + 1) % 4096 } } := .setCoh rfl rfl
  exact (htag.trans (.bumpW 0xF048 2 64 1)).trans (sendMsg_homeLeaves ..)

theorem State.awaitSnoop_homeLeaves (s : State) (line : Nat) (x : Snoop) : s.HomeLeaves (s.awaitSnoop line x) := by
  unfold State.awaitSnoop
  split
  · exact s.putTxn_homeLeaves ..
  · exact .refl s

theorem State.sendSnoop_homeLeaves (s : State) (line sid : Nat) (inv : Bool) : s.HomeLeaves (s.sendSnoop line sid inv) :=
  ((s.sendSnp_homeLeaves ..).trans (State.awaitSnoop_homeLeaves ..)).ite (s.awaitSnoop_homeLeaves ..)

theorem State.snoopAll_homeLeaves (s : State) (line port : Nat) (req : Option LinkMsg) (recalling : Bool) (sids : List Nat) (inv : Bool) :
    s.HomeLeaves (s.snoopAll line port req recalling sids inv) :=
  (s.putTxn_homeLeaves ..).trans (.foldl (fun t sid => t.sendSnoop_homeLeaves line sid inv) _ _)

theorem State.hit_homeLeaves (s : State) (line : Nat) : s.HomeLeaves (s.hit line) := by
  unfold State.hit
  split
  · exact s.putEntry_homeLeaves ..
  · exact .refl s

theorem State.quiesceLine_homeLeaves (s : State) (line : Nat) : s.HomeLeaves (s.quiesceLine line) := by
  unfold State.quiesceLine
  split
  · exact (State.HomeLeaves.refl s).ite (s.snoopAll_homeLeaves ..)
  · exact .refl s

/-! ### The home's decisions -/

theorem State.grantNew_homeLeaves (s : State) (line p : Nat) (m : LinkMsg) (off : Nat) (excl : Bool) :
    s.HomeLeaves (s.grantNew line p m off excl) := by
  have hdrawn : s.HomeLeaves s.drawn := .of_same rfl rfl rfl
  unfold State.grantNew
  extract_lets es ways
  split
  · exact (hdrawn.trans (State.putEntry_homeLeaves ..)).trans (State.answerLine_homeLeaves ..)
  · split
    · next v cl _ =>
      have hvictim : s.HomeLeaves (if cl then s.clearUse (lineSet line) else s) := (s.clearUse_homeLeaves _).ite (.refl s)
      exact (((hvictim.trans (State.waitOn_homeLeaves ..)).trans (State.cohEvent_homeLeaves ..)).trans (.bump 0xF048 5 1)).trans
        (State.snoopAll_homeLeaves ..)
    · exact (s.waitOn_homeLeaves ..).trans (.bump 0xF048 14 1)

theorem State.decideI_homeLeaves (s : State) (line p : Nat) (m : LinkMsg) (off : Nat) : s.HomeLeaves (s.decideI line p m off) := by
  unfold State.decideI
  split
  · exact s.grantNew_homeLeaves ..
  · exact s.grantNew_homeLeaves ..
  · exact s.grantNew_homeLeaves ..
  · exact s.applyWrite_homeLeaves ..
  · exact s.applyWrite_homeLeaves ..
  · exact s.applyWrite_homeLeaves ..
  · exact s.answerUc_homeLeaves ..

theorem State.decideS_homeLeaves (s : State) (line p : Nat) (m : LinkMsg) (off : Nat) (e : FilterEntry) :
    s.HomeLeaves (s.decideS line p m off e) := by
  have hsnoop : ∀ sids, s.HomeLeaves (s.snoopAll line p (some m) false sids true) := fun sids => s.snoopAll_homeLeaves ..
  unfold State.decideS
  extract_lets others
  split
  · exact (s.putEntry_homeLeaves ..).trans (State.answerLine_homeLeaves ..)
  · exact hsnoop _
  · exact (((s.putEntry_homeLeaves ..).trans (State.answer_homeLeaves ..)).ite (hsnoop _)).ite (hsnoop _)
  · exact hsnoop _
  · exact hsnoop _
  · exact hsnoop _
  · exact s.answerUc_homeLeaves ..

theorem State.decideEM_homeLeaves (s : State) (line p : Nat) (m : LinkMsg) (e : FilterEntry) : s.HomeLeaves (s.decideEM line p m e) := by
  have hsnoop : ∀ inv, s.HomeLeaves (s.snoopAll line p (some m) false [e.owner] inv) := fun inv => s.snoopAll_homeLeaves ..
  unfold State.decideEM
  split
  · exact hsnoop _
  · exact (s.answer_homeLeaves ..).ite (hsnoop _)
  · exact hsnoop _
  · exact hsnoop _
  · exact hsnoop _
  · exact hsnoop _

theorem State.answerBarred_homeLeaves (s : State) (p : Nat) (m : LinkMsg) (off : Nat) : s.HomeLeaves (s.answerBarred p m off) :=
  (s.answerLine_homeLeaves ..).ite ((s.answer_homeLeaves ..).ite (s.answerUc_homeLeaves ..))

theorem State.homeDecide_homeLeaves (s : State) (line p : Nat) (m : LinkMsg) (off : Nat) : s.HomeLeaves (s.homeDecide line p m off) := by
  unfold State.homeDecide
  refine (s.answer_homeLeaves ..).ite ((s.answerBarred_homeLeaves ..).ite ?_)
  extract_lets hit
  refine ((s.hit_homeLeaves line).trans ?_).trans (State.quiesceLine_homeLeaves ..)
  split
  · exact State.decideI_homeLeaves ..
  · exact (State.decideEM_homeLeaves ..).ite (State.decideS_homeLeaves ..)

theorem State.placeRequest_homeLeaves (s : State) (p : Nat) (m : LinkMsg) (off : Nat) (more : Bool) :
    s.HomeLeaves (s.placeRequest p m off more) :=
  (s.answerBarred_homeLeaves ..).ite ((s.wait_homeLeaves _).ite ((s.wait_homeLeaves _).ite (s.homeDecide_homeLeaves ..)))

theorem State.request_homeLeaves (s : State) (p : Nat) (m : LinkMsg) (off : Nat) (more : Bool) : s.HomeLeaves (s.request p m off more) := by
  have htracked : s.HomeLeaves s.tracked := .bumpW 0xF048 1 64 1
  exact (htracked.trans (State.answer_homeLeaves ..)).ite ((s.protoViolation_homeLeaves ..).ite ((s.protoViolation_homeLeaves ..).ite
    (htracked.trans (State.placeRequest_homeLeaves ..))))

/-! ### Requests that waited -/

theorem State.drainOneReq_homeLeaves (s : State) : s.HomeLeaves s.drainOneReq := by
  unfold State.drainOneReq
  split
  · exact .refl s
  · next p m charged rest _ =>
    refine (State.HomeLeaves.refl s).ite ?_
    extract_lets _ taken x credited
    have htaken : s.HomeLeaves taken := .setCoh rfl rfl
    have hcredited : s.HomeLeaves credited := (htaken.trans (.setPort ..)).ite htaken
    split
    · exact hcredited.trans (State.request_homeLeaves ..)
    · exact hcredited

/-- REQ messages that enter the tracker bring no unit a completion (R433). -/
theorem State.drainInbox_homeLeaves (s : State) : s.HomeLeaves s.drainInbox := .foldl (fun t _ => t.drainOneReq_homeLeaves) _ s

end Sys2Proof.Machine
end

section
/-! PROOF. Resets of the pair, and the handover (R154, R764, R767, R774): a warm or a failover reset, told once for both kinds; the yield of a
Lead; and its request, whatever waits for the home. -/
set_option Elab.async false
namespace Sys2Proof.Machine

/-! ### Resets that keep the clocks -/

/-- What a warm or a failover reset leaves of the boot, the commit, the units and the pair (Tables 4.1 and 4.2). -/
structure SoftlyReset (k : ResetKind) (s t : State) : Prop where
  step : t.boot.step = 4
  code : t.val 0x2010 0 = .num (resetCode k)
  now : t.now = s.now
  commit : t.commit = {}
  coh : t.coh = {}
  trig : t.trig = {}
  pair : ∃ present, t.pair = { role := b2n present }

/-- Behind a reset that is no POR, the latch holds kept causes alone (Table 8.6). -/
theorem enterReset_latch (s : State) {k : ResetKind} (hk : k ≠ .por) :
    (∀ e ∈ (s.enterReset k).alerts.latch, keptCause e.1 = true) ∧ ∀ w ∈ (s.enterReset k).alerts.badParity, keptCause w = true := by
  have hkept : ∀ x : Alerts, (∀ e ∈ (x.latch.filter fun e => keptCause e.1), keptCause e.1 = true) ∧
      ∀ w ∈ x.badParity.filter keptCause, keptCause w = true :=
    fun _ => ⟨fun _ he => (List.mem_filter.1 he).2, fun _ hw => (List.mem_filter.1 hw).2⟩
  cases k with
  | por => exact absurd rfl hk
  | _ => exact hkept _

/-- A reset leaves the pair to its strap alone. -/
theorem State.enterReset_pair (s : State) (k : ResetKind) : ∃ present, (s.enterReset k).pair = { role := b2n present } := ⟨_, rfl⟩

theorem startBoot_softlyReset (s : State) {k : ResetKind} (hk : k ≠ .por) : SoftlyReset k s ((s.enterReset k).startBoot 4) := by
  obtain ⟨-, hcode, -, -, hcommit, -, hcoh, -, -, htrig, -, -, -, -, hnow, -⟩ := s.enterReset_cleared k
  obtain ⟨hlatch, hparity⟩ := enterReset_latch s hk
  obtain ⟨-, -, -, kcoh, -, ktrig, -, -⟩ := (s.enterReset k).startBoot_parts 4
  obtain ⟨present, hpair⟩ := s.enterReset_pair k
  obtain ⟨o, l, hbegun⟩ := (s.enterReset k).startBoot_eq 4
  exact {
    step := congrArg Boot.step (State.startBoot_boot ..)
    code := (State.startBoot_val 4 hlatch hparity (by decide) (by decide) (by decide)).trans hcode
    now := (State.startBoot_now ..).trans hnow
    commit := by rw [hbegun, State.alertSync_commit]; exact hcommit
    coh := kcoh.trans hcoh
    trig := ktrig.trans htrig
    pair := ⟨present, by rw [hbegun, State.alertSync_pair]; exact hpair⟩ }

theorem softReset_softlyReset (s : State) {k : ResetKind} (hk : k ≠ .por) : SoftlyReset k s (s.softReset k) := by
  have hbegun := startBoot_softlyReset s hk
  unfold State.softReset
  extract_lets begun tick _ started
  change SoftlyReset k s begun at hbegun
  clear_value begun
  have hstarted : SoftlyReset k s started := { hbegun with }
  split
  · exact hstarted
  · unfold State.srvStart
    split
    · exact hstarted
    · exact { hstarted with }

theorem SoftlyReset.ended {k : ResetKind} {s u : State} (q : State) (h : SoftlyReset k s u) : SoftlyReset k s (q.ended u) where
  step := (congrArg Boot.step (State.ended_boot ..)).trans h.step
  code := (State.ended_val ..).trans h.code
  now := (State.ended_now ..).trans h.now
  commit := (State.ended_commit ..).trans h.commit
  coh := u.alertSync_coh.trans h.coh
  trig := u.alertSync_trig.trans h.trig
  pair := by rw [State.ended_pair]; exact h.pair

/-- Behind a reset no Second is known to be eligible. -/
theorem SoftlyReset.eligible {k : ResetKind} {s u : State} (h : SoftlyReset k s u) : u.pair.eligible = false := by
  obtain ⟨_, hpair⟩ := h.pair
  rw [hpair]

/-- Behind a reset the device has no role that the pair's follow-up serves. -/
theorem SoftlyReset.pairFollow {k : ResetKind} {s u : State} (h : SoftlyReset k s u) : u.pairFollow = u := by
  obtain ⟨present, hpair⟩ := h.pair
  refine u.pairFollow_single ?_ ?_ <;> rw [hpair] <;> cases present <;> decide

/-! ### The yield -/

theorem handoverYield_resets {s : State} {x : Nat} (hx : s.pair.yieldAt = some x) (hrole : s.pair.role = 2) :
    ∃ t, exec .handoverYield s = .next t ∧ t.boot.step = 4 ∧ t.val 0x2010 0 = .num 4 ∧ t.commit = {} ∧ t.coh = {} ∧ t.trig = {} ∧
      t.pair.eligible = false ∧ t.now = (s.elapseToTick x).now := by
  have hyield : s.handoverYield = (s.elapseToTick x).softReset .failover := by
    unfold State.handoverYield
    rw [hx]
    exact if_pos hrole
  have hreset := (softReset_softlyReset (s.elapseToTick x) (k := .failover) (by decide)).ended s
  exact ⟨_, congrArg s.ends hyield, hreset.step, hreset.code, hreset.commit, hreset.coh, hreset.trig, hreset.eligible, hreset.now⟩

/-! ### What follows an access of a Lead -/

/-- What follows an access on a Lead whose units have nothing outstanding: requests that waited enter the tracker, and the pair is told. -/
theorem State.settle_lead {s : State} (hdone : s.coh.done = []) (hwait : s.coh.devWait = []) (hrole : s.pair.role = 2) :
    s.Told s.settle ∧ s.settle.z 0xF090 12 = s.z 0xF090 12 := by
  have hhome := s.drainInbox_homeLeaves
  have hpair := s.drainInbox_pair
  have hsettle : s.settle = s.drainInbox.pairFollow := by
    unfold State.settle
    rw [State.drainDev_idle _ (hhome.waits.trans hwait), State.serveUnits_idle _ (hhome.done.trans hdone)]
  have hinbox : s.Told s.drainInbox := ⟨congrArg Pair.untold hpair, hhome.out⟩
  rw [hsettle]
  exact ⟨hinbox.trans (State.pairFollow_told ((congrArg Pair.role hpair).trans hrole)),
    (s.drainInbox.pairFollow_frame.z_eq).trans hhome.handovers⟩

/-! ### The request -/

/-- The tick at which a handover that is requested now yields (R767). -/
def State.yieldTick (s : State) : Nat := roundUp (s.time.tick + 1024) 1024

theorem State.startHandover_eq (s : State) : s.startHandover =
    (({ s with pair := { s.pair with yieldAt := some s.yieldTick } } : State).bump 0xF090 12 1).campSend true 0x12 (leBytes 8 s.yieldTick) := rfl

theorem State.startHandover_out (s : State) : s.startHandover.out = .camp 0x12 (leBytes 8 s.yieldTick) :: s.out := State.campSend_out ..

theorem Pair.untold_role (x : Pair) : x.untold.role = x.role := rfl

theorem Pair.untold_yieldAt (x : Pair) : x.untold.yieldAt = x.yieldAt := rfl

theorem State.startHandover_pair (s : State) : s.startHandover.pair.untold = { s.pair.untold with yieldAt := some s.yieldTick } := by
  rw [State.startHandover_eq, (State.campSend_told ..).pair]
  rfl

theorem State.startHandover_z (s : State) : s.startHandover.z 0xF090 12 = min (s.z 0xF090 12 + 1) (2 ^ 32 - 1) := by
  rw [State.startHandover_eq, State.z_congr (State.campSend_obj ..), State.z_bump, if_pos rfl]
  rfl

theorem State.startHandover_coh (s : State) : s.startHandover.coh = s.coh := by
  rw [State.startHandover_eq, State.campSend_coh]
  rfl

theorem State.startHandover_boot (s : State) : s.startHandover.boot = s.boot := by
  rw [State.startHandover_eq, State.campSend_boot]
  rfl

/-- The state that a handover request leaves, before what follows it. -/
def State.handoverAnswered (s : State) (w : Who) : State := (s.accepted w).startHandover.answered w

theorem exec_handoverRequest {s : State} (w : Who) (v : BitVec 32) (h : Accepted s w 0x8003 0 v.toNat) :
    exec (.handoverRequest w v) s = s.ends (s.handoverAnswered w).settle := by
  have hrow : findRow 0x8003 0 = some ⟨0x8003, 0x8003, 0, 0, .u32, .l, 0, 2, 0, .oneOf [1212239428], 0xffffffff, 4⟩ := rfl
  have heff : ∀ (u : State) (a : Acc), a.idx = 0x8003 → a.sub = 0 →
      u.liveEffect a (storedVal ⟨0x8003, 0x8003, 0, 0, .u32, .l, 0, 2, 0, .oneOf [1212239428], 0xffffffff, 4⟩ 0x8003 0 v.toNat) =
      (u.rewritten (key 0x8003 0)).startHandover := by
    rintro u ⟨path, req, level, idx, sub⟩ rfl rfl
    unfold State.liveEffect
    rw [if_neg (show ¬ 0x8003 < 0x2200 by decide), if_neg (show ¬ 0x8003 < 0x3000 by decide)]
    rfl
  have hup : (s.accepted w).startHandover.up = true := by
    have hboot : (s.accepted w).startHandover.boot = s.boot := (State.startHandover_boot _).trans (s.accepted_boot w)
    have hs := State.up_of_accepted h
    unfold State.up at hs ⊢
    rw [hboot]
    exact hs
  exact congrArg s.ends (State.writeNum_effect hrow rfl (by decide) h heff hup)

theorem State.accepted_yieldTick (s : State) (w : Who) : (s.accepted w).yieldTick = s.yieldTick := by
  unfold State.yieldTick State.accepted
  rw [State.accept_time]

theorem State.answered_coh (s : State) (w : Who) : (s.answered w).coh = s.coh := rfl

theorem State.answered_pair (s : State) (w : Who) : (s.answered w).pair = s.pair := rfl

theorem State.handoverAnswered_coh (s : State) (w : Who) : (s.handoverAnswered w).coh = s.coh := by
  rw [State.handoverAnswered, State.answered_coh, State.startHandover_coh]
  exact State.accept_coh s (pathNo w.path) (s.requester w)

theorem State.handoverAnswered_pair (s : State) (w : Who) :
    (s.handoverAnswered w).pair.untold = { s.pair.untold with yieldAt := some s.yieldTick } := by
  have hpair : (s.accepted w).pair = s.pair := State.accept_pair s (pathNo w.path) (s.requester w)
  rw [State.handoverAnswered, State.answered_pair, State.startHandover_pair, s.accepted_yieldTick w, hpair]

theorem State.handoverAnswered_role (s : State) (w : Who) : (s.handoverAnswered w).pair.role = s.pair.role := by
  rw [← Pair.untold_role, s.handoverAnswered_pair]
  rfl

theorem State.handoverAnswered_z (s : State) (w : Who) : (s.handoverAnswered w).z 0xF090 12 = min (s.z 0xF090 12 + 1) (2 ^ 32 - 1) := by
  rw [State.handoverAnswered, State.answered_z _ _ (by decide), State.startHandover_z, s.accepted_z w]

theorem State.handoverAnswered_out (s : State) (w : Who) : .camp 0x12 (leBytes 8 s.yieldTick) ∈ (s.handoverAnswered w).out := by
  refine List.mem_cons_of_mem _ ?_
  change _ ∈ (s.accepted w).startHandover.out
  rw [State.startHandover_out, s.accepted_yieldTick]
  exact List.mem_cons_self ..

theorem handoverRequest_fixes {s : State} (w : Who) (v : BitVec 32) (hdone : s.coh.done = []) (hwait : s.coh.devWait = [])
    (hrole : s.pair.role = 2) (h : Accepted s w 0x8003 0 v.toNat) :
    ∃ t, exec (.handoverRequest w v) s = .next t ∧ t.pair.yieldAt = some s.yieldTick ∧
      t.z 0xF090 12 = min (s.z 0xF090 12 + 1) (2 ^ 32 - 1) ∧ .camp 0x12 (leBytes 8 s.yieldTick) ∈ t.out := by
  have hcoh := s.handoverAnswered_coh w
  obtain ⟨htold, hkept⟩ := State.settle_lead ((congrArg Coh.done hcoh).trans hdone) ((congrArg Coh.devWait hcoh).trans hwait)
    ((s.handoverAnswered_role w).trans hrole)
  refine ⟨s.ended (s.handoverAnswered w).settle, exec_handoverRequest w v h, ?_, ?_, ?_⟩
  · rw [State.ended_pair, ← Pair.untold_yieldAt, htold.pair, s.handoverAnswered_pair]
  · exact (State.ended_z ..).trans (hkept.trans (s.handoverAnswered_z w))
  · rw [State.ended_out]
    exact htold.out (s.handoverAnswered_out w)

end Sys2Proof.Machine
end


section
/-! PROOF. A Second that loses its Lead (R765, R766, R774): the failover, and the warm reset of one that was not eligible. -/
set_option Elab.async false
namespace Sys2Proof.Machine

/-! ### What a Second's follow-up keeps of the pair -/

/-- The role in the pair, and the declared loss of REF (R765). -/
def Pair.side (x : Pair) : Nat × Bool := (x.role, x.refLost)

theorem Pair.untold_side (x : Pair) : x.untold.side = x.side := rfl

theorem State.Told.side {s t : State} (h : s.Told t) : t.pair.side = s.pair.side := by
  rw [← Pair.untold_side, h.pair, Pair.untold_side]

theorem State.syncInelig_pair (s : State) : s.syncInelig.pair = s.pair := by
  unfold State.syncInelig
  split
  · rw [State.setCause_pair]
  · rfl

theorem State.syncRope_pair (s : State) : s.syncRope.pair = s.pair := by
  unfold State.syncRope
  extract_lets old
  split <;> rfl

theorem State.syncRope_obj (s : State) : s.syncRope.obj = s.obj := by
  unfold State.syncRope
  extract_lets old
  split <;> rfl

theorem State.setEligible_pair (s : State) (e : Bool) : (s.setEligible e).pair = { s.pair with eligible := e } := by
  unfold State.setEligible
  extract_lets counted
  have hcounted : counted.pair = s.pair := by
    show (if _ then _ else _ : State).pair = _
    split <;> rfl
  rw [State.syncRope_pair, State.syncInelig_pair]
  exact congrArg (fun x : Pair => { x with eligible := e }) hcounted

theorem State.setEligible_side (s : State) (e : Bool) : (s.setEligible e).pair.side = s.pair.side := by
  rw [State.setEligible_pair]
  rfl

theorem State.syncElig_side (s : State) : s.syncElig.pair.side = s.pair.side := by
  unfold State.syncElig
  extract_lets good _ counted e
  have hcounted : counted.pair.side = s.pair.side := by
    show (if _ then _ else _ : State).pair.side = _
    split <;> rfl
  split
  · rfl
  · split
    · exact (congrArg Pair.side counted.syncInelig_pair).trans hcounted
    · exact (counted.setEligible_side e).trans hcounted

theorem State.progress_side (s : State) (code : Nat) : (s.progress code).pair.side = s.pair.side := (State.campSend_told ..).side

theorem State.toDict_side (s : State) : s.toDict.pair.side = s.pair.side := (State.syncElig_side _).trans (State.progress_side ..)

theorem State.stepUp_side (s : State) (n : Nat) : (s.stepUp n).pair.side = s.pair.side := by
  unfold State.stepUp
  split <;> rfl

theorem State.secondFollow_side (s : State) : s.secondFollow.pair.side = s.pair.side := by
  unfold State.secondFollow
  extract_lets inDict inTime inTrig
  have hdict : inDict.pair.side = s.pair.side := by
    show (if _ then _ else _ : State).pair.side = _
    split
    · exact s.toDict_side
    · rfl
  have htime : inTime.pair.side = s.pair.side := by
    refine Eq.trans ?_ hdict
    show (if _ then _ else _ : State).pair.side = _
    split
    · exact (State.progress_side ..).trans (inDict.stepUp_side 12)
    · rfl
  have htrig : inTrig.pair.side = s.pair.side := by
    refine Eq.trans ?_ htime
    show (if _ then _ else _ : State).pair.side = _
    split
    · exact inTime.progress_side 6
    · rfl
  exact inTrig.syncElig_side.trans htrig

/-- The pair's follow-up of a command changes neither the role of a device nor its declared loss of REF. -/
theorem State.pairFollow_side (s : State) : s.pairFollow.pair.side = s.pair.side := by
  by_cases hlead : s.pair.role = 2
  · exact (State.pairFollow_told hlead).side
  by_cases hsecond : s.pair.role = 3
  · unfold State.pairFollow
    rw [if_pos hsecond]
    refine (State.secondFollow_side _).trans ?_
    split
    · exact foldl_keeps (fun t : State => t.pair.side) _ (fun t p => (t.sendPortStat_told p).side) _ s
    · rfl
  · rw [s.pairFollow_single hlead hsecond]

/-! ### The loss of REF -/

/-- A Second that has declared the loss of REF. -/
def State.refGone (s : State) : State := { s with pair := { s.pair with refLost := true } }

theorem State.refLoss_eq {s : State} (hrole : s.pair.role = 3) : s.refLoss = s.refGone.checkYield := if_pos hrole

theorem refLoss_waits {s : State} (hrole : s.pair.role = 3) (hlos : s.pair.losTick = none) :
    ∃ t, exec .refLoss s = .next t ∧ t.pair.refLost = true ∧ t.pair.role = 3 := by
  have hcheck : s.refGone.checkYield = s.refGone := by
    unfold State.checkYield
    rw [show s.refGone.pair.losTick = none from hlos]
  have hexec : exec .refLoss s = s.ends s.refGone.pairFollow :=
    congrArg (fun u : State => s.ends u.pairFollow) ((State.refLoss_eq hrole).trans hcheck)
  have hside := s.refGone.pairFollow_side
  refine ⟨s.ended s.refGone.pairFollow, hexec, ?_, ?_⟩ <;> rw [State.ended_pair]
  · exact congrArg Prod.snd hside
  · exact (congrArg Prod.fst hside).trans hrole

theorem State.checkYield_resets {s : State} {k : Nat} (hlos : s.pair.losTick = some k)
    (hyield : s.pair.role = 3 ∧ s.pair.los = 15 ∧ s.pair.refLost = true) (h : s.pair.losElig = false ∨ k + 16 < s.time.tick) :
    s.checkYield = s.rpllToOsc.softReset .warm := by
  have hnot : ¬ (s.pair.losElig = true ∧ s.time.tick ≤ k + 16) := by
    rintro ⟨helig, htime⟩
    rcases h with h | h
    · exact Bool.false_ne_true (h.symm.trans helig)
    · omega
  unfold State.checkYield
  rw [hlos]
  exact (if_pos hyield).trans (if_neg hnot)

theorem State.checkYield_failover {s : State} {k : Nat} (hlos : s.pair.losTick = some k)
    (hyield : s.pair.role = 3 ∧ s.pair.los = 15 ∧ s.pair.refLost = true) (h : s.pair.losElig = true ∧ s.time.tick ≤ k + 16) :
    s.checkYield = s.failover := by
  unfold State.checkYield
  rw [hlos]
  exact (if_pos hyield).trans (if_pos h)

theorem refLoss_resets {s : State} {k : Nat} (hrole : s.pair.role = 3) (hlos : s.pair.losTick = some k) (hlanes : s.pair.los = 15)
    (h : s.pair.losElig = false ∨ k + 16 < s.time.tick) :
    ∃ t, exec .refLoss s = .next t ∧ t.boot.step = 4 ∧ t.val 0x2010 0 = .num 2 ∧ t.commit = {} ∧ t.pair.eligible = false := by
  have hreset := softReset_softlyReset s.refGone.rpllToOsc (k := .warm) (by decide)
  have hcheck : s.refLoss = s.refGone.rpllToOsc.softReset .warm :=
    (State.refLoss_eq hrole).trans (State.checkYield_resets hlos ⟨hrole, hlanes, rfl⟩ h)
  have hexec : exec .refLoss s = s.ends (s.refGone.rpllToOsc.softReset .warm) := by
    refine congrArg s.ends (?_ : s.refLoss.pairFollow = _)
    rw [hcheck, hreset.pairFollow]
  have hended := hreset.ended s
  exact ⟨_, hexec, hended.step, hended.code, hended.commit, hended.eligible⟩

/-! ### The failover -/

/-- The device as the Lead of its pair, before it acts as one (Table 19.9). -/
def State.newLead (s : State) : State := { s with
  pair := { s.pair with
    role := 2, catchup := 0, run := 0, secondState := 0, absent := true, hbRun := false, mirrorFail := false, snapDue := false, refLost := false
    losTick := none, yieldAt := none, sentPorts := [], partnerPorts := [] }
  boot := { s.boot with
    prst := s.n 0x2014 0 % 256, prstFirst := true, refclk := s.n 0x220A 0 % 256, prstOld := s.n 0x2014 0 % 256, refclkOld := 0
    fanAt := s.now }
  acc := { s.acc with canPending := true } }

/-- What the new Lead records at tick F (R766). -/
def State.leadRecorded (s : State) (f gap : Nat) : State :=
  ((((s.rpllToOsc.put 0x8005 1 f).put 0x8005 2 gap).setCause 14 3).bump 0xF090 10 1).ropePulse 3

/-- What the new Lead does for its loops, its ports, its streams and its paths (Table 19.9). -/
def State.leadServices (s : State) : State :=
  let s := (upto 16).foldl State.failLoop s
  let s := (upto 6).foldl (fun (s : State) p => if (s.port p).admitted then s.writeOrole p true else s) s
  let s := (upto 4).foldl State.failStream s
  let s := (s.closeSession 1).closeSession 2
  if s.mgtFast && s.b 0x1110 1 && !s.acc.netDown then s.emit (.arp 1 (s.n 0x1110 3) (leNat (valOct (s.val 0x1110 2)).reverse)) else s

theorem State.failover_eq (s : State) : ∃ gap, s.failover =
    (((s.elapse 1).newLead.leadRecorded (s.elapse 1).time.tick gap).setEligible false).leadServices := ⟨_, rfl⟩

/-! ### The services of the new Lead -/

/-- The parts that the services of the new Lead change, but for the sessions that close (R792). -/
def serviceParts : List Part := [.belay, .out, .sto, .comp, .latch]

/-- The objects that they change: the causes of the windows, their counts, and the count of the blocks lost (R650). -/
def serviceObjects : List (Nat × Nat) := (List.range 16).map (fun w => (0x2160, w + 1)) ++ [(0xF018, 11), (0xF018, 18), (0xF078, 12)]

section
variable {s u : State}

theorem Frame.setBelay {parts : List Part} {objs : List (Nat × Nat)} (h : Frame parts objs s u) (x : Belay) (hm : .belay ∈ parts := by decide) :
    Frame parts objs s { u with belay := x } := by
  refine ⟨fun p hp => ?_, h.val⟩
  cases p with
  | belay => exact absurd hm hp
  | _ => exact h.part _ hp

theorem Frame.setSto {parts : List Part} {objs : List (Nat × Nat)} (h : Frame parts objs s u) (x : Storage) (hm : .sto ∈ parts := by decide) :
    Frame parts objs s { u with sto := x } := by
  refine ⟨fun p hp => ?_, h.val⟩
  cases p with
  | sto => exact absurd hm hp
  | _ => exact h.part _ hp

theorem Frame.setComp {parts : List Part} {objs : List (Nat × Nat)} (h : Frame parts objs s u) (x : Comp) (hm : .comp ∈ parts := by decide) :
    Frame parts objs s { u with comp := x } := by
  refine ⟨fun p hp => ?_, h.val⟩
  cases p with
  | comp => exact absurd hm hp
  | _ => exact h.part _ hp

theorem State.streamWin_lt (s : State) (t : Nat) : s.streamWin t < 16 := Nat.mod_lt _ (by decide)

/-- A cause of a window changes the latch, the window's cause word and the counts of its branch. -/
theorem Frame.setWinCause (h : Frame serviceParts serviceObjects s u) {w : Nat} (b : Nat) (hw : w < 16) :
    Frame serviceParts serviceObjects s (u.setWinCause w b) := by
  have hcause : (0x2160, w + 1) ∈ serviceObjects := List.mem_append_left _ (List.mem_map.2 ⟨w, List.mem_range.2 hw, rfl⟩)
  have hne : ∀ {i a : Nat} {x : Nat × Nat}, a < 256 → x.2 < 256 → (i, a) ∉ serviceObjects → x ∈ serviceObjects → key i a ≠ key x.1 x.2 := by
    intro i a x ha hx hi hmem hkey
    obtain ⟨rfl, rfl⟩ := (key_inj ha hx).1 hkey
    exact hi hmem
  refine ⟨fun p hp => ?_, fun i a ha hi h17 => ?_⟩
  · have hu := h.part p hp
    cases p with
    | latch => exact absurd (by decide) hp
    | acc => exact ⟨(u.setWord_accRest ..).trans hu.1, fun k => (quietPath_setWord _ _ _ _ _ k).trans (hu.2 k)⟩
    | _ => simpa [Part.same] using hu
  · have hassert : key i a ≠ key 0xF018 17 := fun hkey => h17 (by obtain ⟨rfl, rfl⟩ := (key_inj ha (by decide)).1 hkey; rfl)
    refine (u.setWord_val 10 0x2160 (w + 1) _ i a hassert ?_ ?_ ?_).trans (h.val i a ha hi h17)
    · exact hne (x := (0xF018, 11)) ha (by decide) hi (by decide)
    · exact hne (x := (0xF018, 18)) ha (by decide) hi (by decide)
    · exact hne (x := (0x2160, w + 1)) ha (show w + 1 < 256 by omega) hi hcause

theorem Frame.skipBlocks (h : Frame serviceParts serviceObjects s u) (t next n : Nat) :
    Frame serviceParts serviceObjects s (u.skipBlocks t next n) := by
  unfold State.skipBlocks
  extract_lets x freed
  have hfreed : Frame serviceParts serviceObjects s freed := (h.setSto _).setComp _
  exact hfreed.ite ((hfreed.setWinCause 1 (freed.streamWin_lt t)).bump 0xF078 12 n)

theorem Frame.failStream (h : Frame serviceParts serviceObjects s u) (t : Nat) : Frame serviceParts serviceObjects s (u.failStream t) :=
  h.ite (h.ite (h.skipBlocks ..))

theorem Frame.failLoop (h : Frame serviceParts serviceObjects s u) (l : Nat) : Frame serviceParts serviceObjects s (u.failLoop l) :=
  (h.setBelay _).ite h

theorem Frame.writeOrole (h : Frame serviceParts serviceObjects s u) (p : Nat) (lead : Bool) :
    Frame serviceParts serviceObjects s (u.writeOrole p lead) := (h.emit _).ite h

/-- The services of the new Lead change the parts of what they serve, the paths whose sessions close, and what is sent. -/
theorem State.leadServices_eq (s : State) : ∃ u o path, Frame serviceParts serviceObjects s u ∧
    s.leadServices = { u with out := o, acc := { u.acc with path := path } } := by
  unfold State.leadServices
  extract_lets looped told streamed closed
  have hloops : Frame serviceParts serviceObjects s looped := Frame.foldl (fun _ l h => h.failLoop l) _ (.refl s)
  have hports : Frame serviceParts serviceObjects s told := Frame.foldl (fun _ p h => (h.writeOrole p true).ite h) _ hloops
  have hstreams : Frame serviceParts serviceObjects s streamed := Frame.foldl (fun _ t h => h.failStream t) _ hports
  clear_value streamed
  split
  · exact ⟨streamed, _, _, hstreams, rfl⟩
  · exact ⟨streamed, _, _, hstreams, rfl⟩

/-- The services of the new Lead keep its pair, its time, its boot and its PLLs, and CAN FD restarts. -/
theorem State.leadServices_kept (s : State) : s.leadServices.pair = s.pair ∧ s.leadServices.time = s.time ∧ s.leadServices.boot = s.boot ∧
    s.leadServices.clk = s.clk ∧ s.leadServices.acc.canPending = s.acc.canPending := by
  obtain ⟨u, o, path, hu, heq⟩ := s.leadServices_eq
  have hacc : { u.acc with path := [] } = { s.acc with path := [] } := (hu.part .acc (by decide)).1
  have hcan := congrArg (fun a : Access => a.canPending) hacc
  rw [heq]
  exact ⟨hu.part .pair (by decide), hu.part .time (by decide), hu.part .boot (by decide), hu.part .clk (by decide), hcan⟩

theorem State.leadServices_z (s : State) {i a : Nat} (ha : a < 256 := by decide) (ho : (i, a) ∉ serviceObjects := by decide)
    (h17 : (i, a) ≠ (0xF018, 17) := by decide) (hd : defaultVal i a = .num 0 := by rfl) : s.leadServices.z i a = s.z i a := by
  obtain ⟨u, o, path, hu, heq⟩ := s.leadServices_eq
  rw [heq]
  exact hu.z_eq ha ho h17 hd

end

/-! ### The state that the failover leaves -/

theorem State.leadRecorded_frame (s : State) (f gap : Nat) :
    Frame [.clk, .latch, .sig] ([(0x8005, 1), (0x8005, 2), (0xF090, 10)] ++ causeObjects 14) s (s.leadRecorded f gap) :=
  ((((((Frame.refl s).setPll _ _).put 0x8005 1 f).put 0x8005 2 gap).setCause 14 3).bump 0xF090 10 1).setSig _

theorem State.leadRecorded_clk (s : State) (f gap : Nat) : (s.leadRecorded f gap).clk = s.rpllToOsc.clk :=
  State.setCause_clk ((s.rpllToOsc.put 0x8005 1 f).put 0x8005 2 gap) 14 3

/-- RPLL runs free of the rope (Table 19.9). -/
theorem State.leadRecorded_rpll (s : State) (f gap : Nat) : ((s.leadRecorded f gap).pll .rpll).refRope = false := by
  have hpll : (s.leadRecorded f gap).pll .rpll = s.rpllToOsc.pll .rpll :=
    congrArg (fun c : Clocks => mgetD c.pll (pllNo .rpll) {}) (s.leadRecorded_clk f gap)
  rw [hpll, State.rpllToOsc, State.pll_setPll, if_pos rfl]

theorem State.leadRecorded_mgtFast (s : State) (f gap : Nat) : (s.leadRecorded f gap).mgtFast = s.mgtFast := by
  have hframe := s.leadRecorded_frame f gap
  have kboot : (s.leadRecorded f gap).boot = s.boot := hframe.part .boot (by decide)
  have kpower : (s.leadRecorded f gap).power = s.power := hframe.part .power (by decide)
  unfold State.mgtFast State.mgtUp State.up State.dom
  rw [kboot, kpower, s.leadRecorded_clk f gap]
  rfl

theorem State.leadRecorded_tick (s : State) (f gap : Nat) : (s.leadRecorded f gap).z 0x8005 1 = f := by
  refine (State.z_bump ..).trans ((if_neg (by decide)).trans ?_)
  rw [State.setCause_z_ne _ _ (by decide) (by decide) (by decide) (by decide) rfl, State.z_put, if_neg (by decide), State.z_put, if_pos rfl]

theorem State.leadRecorded_count (s : State) (f gap : Nat) : (s.leadRecorded f gap).z 0xF090 10 = min (s.z 0xF090 10 + 1) (2 ^ 32 - 1) := by
  refine (State.z_bump ..).trans ((if_pos rfl).trans ?_)
  rw [State.setCause_z_ne _ _ (by decide) (by decide) (by decide) (by decide) rfl, State.z_put, if_neg (by decide), State.z_put,
    if_neg (by decide)]
  rfl

/-- PAIR cause FAILOVER is set (R766). -/
theorem State.leadRecorded_cause {s : State} (f gap : Nat) (h : s.mgtFast = true) : bit ((s.leadRecorded f gap).z 0x210F 0) 3 = true := by
  have hz : (s.leadRecorded f gap).z 0x210F 0 = s.z 0x210F 0 ||| 2 ^ 3 := by
    refine (State.z_bump ..).trans ((if_neg (by decide)).trans ?_)
    have hfast : ((s.rpllToOsc.put 0x8005 1 f).put 0x8005 2 gap).mgtFast = true := h
    rw [State.setCause_z (br := 14) 3 (by decide) hfast, State.z_put, if_neg (by decide), State.z_put, if_neg (by decide)]
    rfl
  rw [hz]
  exact bit_or_two_pow _ 3

theorem State.syncInelig_cause {s : State} {b : Nat} (hfast : s.mgtFast = true) (h : bit (s.z 0x210F 0) b = true) :
    bit (s.syncInelig.z 0x210F 0) b = true := by
  unfold State.syncInelig
  split
  · rw [State.setCause_z (br := 14) 4 (by decide) hfast]
    exact bit_or_of_bit _ h
  · exact h

/-- A change of the eligibility clears no PAIR cause. -/
theorem State.setEligible_cause {s : State} {b : Nat} (e : Bool) (hfast : s.mgtFast = true) (h : bit (s.z 0x210F 0) b = true) :
    bit ((s.setEligible e).z 0x210F 0) b = true := by
  unfold State.setEligible
  extract_lets counted
  have hcounted : counted.mgtFast = true ∧ bit (counted.z 0x210F 0) b = true := by
    show (if _ then _ else _ : State).mgtFast = _ ∧ bit ((if _ then _ else _ : State).z 0x210F 0) b = _
    split
    · exact ⟨hfast, (congrArg (bit · b) ((State.z_bump ..).trans (if_neg (by decide)))).trans h⟩
    · exact ⟨hfast, h⟩
  rw [State.z_congr (State.syncRope_obj _)]
  exact State.syncInelig_cause hcounted.1 hcounted.2

/-- The new Lead behind its records: not eligible, and without a Second. -/
def State.leadTaken (s : State) (gap : Nat) : State := ((s.elapse 1).newLead.leadRecorded (s.elapse 1).time.tick gap).setEligible false

theorem State.leadTaken_frame (s : State) (gap : Nat) :
    Frame [.pair, .sig, .latch] pairObjects ((s.elapse 1).newLead.leadRecorded (s.elapse 1).time.tick gap) (s.leadTaken gap) :=
  (Frame.refl _).setEligible false

theorem State.leadTaken_pair (s : State) (gap : Nat) : (s.leadTaken gap).pair = { (s.elapse 1).newLead.pair with eligible := false } := by
  have hrecorded := ((s.elapse 1).newLead.leadRecorded_frame (s.elapse 1).time.tick gap).part .pair (by decide)
  rw [State.leadTaken, State.setEligible_pair]
  exact congrArg (fun x : Pair => { x with eligible := false }) hrecorded

theorem State.leadTaken_kept (s : State) (gap : Nat) : (s.leadTaken gap).time = (s.elapse 1).time ∧
    (s.leadTaken gap).boot.step = s.boot.step ∧ (s.leadTaken gap).acc.canPending = true ∧ ((s.leadTaken gap).pll .rpll).refRope = false := by
  have htaken := s.leadTaken_frame gap
  have hrecorded := (s.elapse 1).newLead.leadRecorded_frame (s.elapse 1).time.tick gap
  have hacc : { (s.leadTaken gap).acc with path := [] } = { (s.elapse 1).newLead.acc with path := [] } :=
    (htaken.part .acc (by decide)).1.trans (hrecorded.part .acc (by decide)).1
  have hboot : (s.leadTaken gap).boot = (s.elapse 1).newLead.boot := (htaken.part .boot (by decide)).trans (hrecorded.part .boot (by decide))
  have hclk : (s.leadTaken gap).clk = ((s.elapse 1).newLead.leadRecorded (s.elapse 1).time.tick gap).clk := htaken.part .clk (by decide)
  refine ⟨(htaken.part .time (by decide)).trans (hrecorded.part .time (by decide)), ?_, ?_, ?_⟩
  · rw [hboot]
    show (s.elapse 1).boot.step = s.boot.step
    rw [s.elapse_boot 1]
  · have hcan := congrArg (fun a : Access => a.canPending) hacc
    exact hcan
  · have hpll : (s.leadTaken gap).pll .rpll = _ := congrArg (fun c : Clocks => mgetD c.pll (pllNo .rpll) {}) hclk
    exact (congrArg PllSt.refRope hpll).trans (State.leadRecorded_rpll ..)

/-- What the new Lead has recorded: tick F, PAIR cause FAILOVER, and one more failover (R766). -/
theorem State.leadTaken_records {s : State} (gap : Nat) (hfast : s.mgtFast = true) :
    (s.leadTaken gap).z 0x8005 1 = (s.elapse 1).time.tick ∧ bit ((s.leadTaken gap).z 0x210F 0) 3 = true ∧
      (s.leadTaken gap).z 0xF090 10 = min (s.z 0xF090 10 + 1) (2 ^ 32 - 1) := by
  have helapsed : Frame [.now, .time] clockObjects s (s.elapse 1) := (Frame.refl s).elapse 1
  have hlead : (s.elapse 1).newLead.mgtFast = true := helapsed.mgtFast_eq.trans hfast
  have hrecorded : ((s.elapse 1).newLead.leadRecorded (s.elapse 1).time.tick gap).mgtFast = true :=
    (State.leadRecorded_mgtFast ..).trans hlead
  refine ⟨?_, ?_, ?_⟩
  · rw [(s.leadTaken_frame gap).z_eq, State.leadRecorded_tick]
  · exact State.setEligible_cause false hrecorded (State.leadRecorded_cause _ gap hlead)
  · rw [(s.leadTaken_frame gap).z_eq, State.leadRecorded_count]
    exact congrArg (fun n => min (n + 1) (2 ^ 32 - 1)) helapsed.z_eq

/-- A Second that was eligible at `s` has taken over as the Lead one tick later (R765, R766, Table 19.9). -/
structure TakenOver (s t : State) : Prop where
  role : t.pair.role = 2
  absent : t.pair.absent = true
  eligible : t.pair.eligible = false
  tick : t.time.tick = s.time.tick + 1
  recorded : t.z 0x8005 1 = s.time.tick + 1
  cause : bit (t.z 0x210F 0) 3 = true
  count : t.z 0xF090 10 = min (s.z 0xF090 10 + 1) (2 ^ 32 - 1)
  canPending : t.acc.canPending = true
  rpll : (t.pll .rpll).refRope = false
  step : t.boot.step = s.boot.step
  secondState : t.pair.secondState = 0
  snapDue : t.pair.snapDue = false

theorem TakenOver.ended {s u : State} (q : State) (h : TakenOver s u) : TakenOver s (q.ended u) where
  role := by rw [State.ended_pair]; exact h.role
  absent := by rw [State.ended_pair]; exact h.absent
  eligible := by rw [State.ended_pair]; exact h.eligible
  tick := by rw [State.ended_time]; exact h.tick
  recorded := by rw [State.ended_z]; exact h.recorded
  cause := by rw [State.ended_z]; exact h.cause
  count := by rw [State.ended_z]; exact h.count
  canPending := (State.ended_access q u Access.canPending).trans h.canPending
  rpll := by rw [State.ended_pll]; exact h.rpll
  step := by rw [State.ended_boot]; exact h.step
  secondState := by rw [State.ended_pair]; exact h.secondState
  snapDue := by rw [State.ended_pair]; exact h.snapDue

/-- A new Lead, which has no Second, has nothing to tell. -/
theorem TakenOver.pairFollow {s t : State} (h : TakenOver s t) : t.pairFollow = t := by
  rw [State.pairFollow_lead h.role]
  unfold State.leadFollow
  rw [if_neg (show ¬ 3 ≤ t.pair.secondState by rw [h.secondState]; decide)]
  exact if_neg fun hdue => Bool.false_ne_true (h.snapDue.symm.trans hdue.1)

theorem State.failover_takesOver {s : State} (hrun : s.time.tickRun = true) (hbridge : s.time.bridging = false) (hfast : s.mgtFast = true) :
    TakenOver s s.failover := by
  obtain ⟨gap, hfailover⟩ := s.failover_eq
  change s.failover = (s.leadTaken gap).leadServices at hfailover
  obtain ⟨hrecord, hcause, hcount⟩ := State.leadTaken_records gap hfast
  obtain ⟨ktime, kboot, kcan, kpll⟩ := s.leadTaken_kept gap
  have hpair := s.leadTaken_pair gap
  have htick := State.elapse_tick_of_running 1 hrun hbridge
  rw [← ktime] at htick hrecord
  rw [hfailover]
  generalize s.leadTaken gap = u at *
  obtain ⟨lpair, ltime, lboot, lclk, lcan⟩ := u.leadServices_kept
  have lpll : u.leadServices.pll .rpll = u.pll .rpll := congrArg (fun c : Clocks => mgetD c.pll (pllNo .rpll) {}) lclk
  exact {
    role := by rw [lpair, hpair]; rfl
    absent := by rw [lpair, hpair]; rfl
    eligible := by rw [lpair, hpair]
    tick := by rw [ltime]; exact htick
    recorded := by rw [State.leadServices_z, hrecord]; exact htick
    cause := by rw [State.leadServices_z]; exact hcause
    count := by rw [State.leadServices_z]; exact hcount
    canPending := lcan.trans kcan
    rpll := by rw [lpll]; exact kpll
    step := by rw [lboot]; exact kboot
    secondState := by rw [lpair, hpair]; rfl
    snapDue := by rw [lpair, hpair]; rfl }

theorem refLoss_takesOver {s : State} {k : Nat} (hrole : s.pair.role = 3) (hlos : s.pair.losTick = some k) (hlanes : s.pair.los = 15)
    (h : s.pair.losElig = true ∧ s.time.tick ≤ k + 16) (hrun : s.time.tickRun = true) (hbridge : s.time.bridging = false)
    (hfast : s.mgtFast = true) : ∃ t, exec .refLoss s = .next t ∧ TakenOver s t := by
  have htaken : TakenOver s.refGone s.refGone.failover := State.failover_takesOver hrun hbridge hfast
  have hcheck : s.refLoss = s.refGone.failover := (State.refLoss_eq hrole).trans (State.checkYield_failover hlos ⟨hrole, hlanes, rfl⟩ h)
  have hexec : exec .refLoss s = s.ends s.refGone.failover := by
    refine congrArg s.ends (?_ : s.refLoss.pairFollow = _)
    rw [hcheck, htaken.pairFollow]
  have hended := htaken.ended s
  exact ⟨s.ended s.refGone.failover, hexec, { hended with }⟩

/-! ### The obligation -/

theorem failoverAndHandover : Claims.FailoverAndHandover := by
  intro s
  refine ⟨fun hrole => ⟨refLoss_waits hrole, fun k hlos hlanes => ⟨fun helig hin hrun hbridge hfast => ?_, refLoss_resets hrole hlos hlanes⟩⟩,
    fun w v hdone hwait hrole h => handoverRequest_fixes w v hdone hwait hrole h, fun x hx hrole => handoverYield_resets hx hrole⟩
  obtain ⟨t, hexec, ht⟩ := refLoss_takesOver hrole hlos hlanes ⟨helig, hin⟩ hrun hbridge hfast
  exact ⟨t, hexec, ht.role, ht.absent, ht.eligible, ht.tick, ht.recorded, ht.cause, ht.count, ht.canPending, ht.rpll, ht.step⟩

/-- Settles O57: the Lead's messages by the follow-up that only tells; a Second's loss of its Lead by the failover or the reset it ends in. -/
theorem theLeadAndFailover : Obligations.TheLeadAndFailover := ⟨theLeadServesItsSecond, failoverAndHandover⟩

end Sys2Proof.Machine
end

section
/-! PROOF. The alert tree after every step (R264, R331, R340): a step ends through `State.ends`, which lets the pin and the ALERT frames
follow the tree, and following it changes nothing that the tree is read from. -/
set_option Elab.async false
namespace Sys2Proof.Machine

/-- Letting the pin and the frames follow the tree adds at most an assertion of ALERT_N to the objects, which the summary does not read. -/
theorem State.alertSync_summary (s : State) : s.alertSync.summary = s.summary := summary_congr (sameTree_alertSync s)

theorem State.alertEdge_summary (s : State) : s.alertEdge.summary = s.summary := by
  have hobj : s.alertSync.obj = s.alertEdge.obj := State.alertPaths_keeps (g := fun s => s.obj) (fun _ _ _ => rfl) _ _ _
  have hsync : s.alertSync.summary = s.alertEdge.summary := summary_congr (sameTree_of_obj hobj)
  rw [← hsync, s.alertSync_summary]

theorem State.alertSync_alertN (s : State) : s.alertSync.alertN = s.alertN :=
  alertN_congr (sameTree_alertSync s) s.alertSync_boot s.alertSync_latch s.alertSync_masks

theorem State.ended_alertN (s u : State) : (s.ended u).alertN = u.alertN :=
  alertN_congr (fun _ _ _ _ => State.ended_z s u (by unfold key; omega)) (State.ended_boot s u) u.alertSync_latch u.alertSync_masks

/-- Whatever the state before, the pin and the frames follow the tree after `State.alertSync`. -/
theorem State.alertSync_follows (s : State) : AlertsFollow s.alertSync := by
  have halerts := s.alertSync_alerts
  refine ⟨?_, ?_⟩
  · rw [s.alertSync_alertN, halerts]
  · rw [s.alertSync_summary, halerts, ← s.alertEdge_summary]

/-- The state that a command ends in follows the tree, whatever its meaning left. -/
theorem State.ended_follows (s u : State) : AlertsFollow (s.ended u) := u.alertSync_follows

/-- A step, of a command or of one nanosecond, ends through `State.ends`. -/
theorem step_eq_ended (s : State) : ∃ s' u, step s = .next (State.ended s' u) := by
  cases h : s.pending with
  | nil => exact ⟨s, s.elapse 1, step_of_pending_nil h⟩
  | cons c q =>
    obtain ⟨u, hu⟩ := exec_eq_ends c { s with pending := q }
    exact ⟨_, u, (step_of_pending_cons h).trans hu⟩

/-- Settles O2: every step ends through `State.ends`, after which the pin and the frames follow the tree. -/
theorem alertPinFollowsTheTree : Obligations.AlertPinFollowsTheTree := by
  intro s t _ hstep
  obtain ⟨s', u, hended⟩ := step_eq_ended s
  obtain rfl : State.ended s' u = t := Host.Outcome.next.inj (hended.symm.trans hstep)
  exact s'.ended_follows u

end Sys2Proof.Machine
end

section
/-! PROOF. Clears of causes (R335-R338): a clear is a list of words with the bits that it names in each, and of each word it takes the bits
that no event of its MGT cycle has set. -/
set_option Elab.async false
namespace Sys2Proof.Machine

/-! ### Bits that a clear takes -/

theorem and_add_ldiff (n m : Nat) : (n &&& m) + n.ldiff m = n := by
  induction n using Nat.binaryRec generalizing m with
  | zero => simp [Nat.ldiff]
  | bit a n ih =>
    obtain ⟨b, k, rfl⟩ : ∃ b k, m = Nat.bit b k := ⟨m.bodd, m.div2, (Nat.bit_bodd_div2 m).symm⟩
    have hhalf := ih k
    rw [Nat.land_bit, Nat.ldiff_bit]
    cases a <;> cases b <;> simp only [Nat.bit_val, Bool.and_true, Bool.and_false, Bool.not_true, Bool.not_false, Bool.toNat_true,
      Bool.toNat_false] <;> omega

theorem testBit_andNot (n m i : Nat) : (andNot n m).testBit i = (n.testBit i && !m.testBit i) := by
  have hsplit := and_add_ldiff n m
  rw [show andNot n m = n.ldiff m by unfold andNot; omega, Nat.testBit_ldiff]

/-- What a clear takes are the bits of its word that no event has set: it leaves the word without its bits but those of events. -/
theorem andNot_taken (z m r : Nat) : andNot z (andNot (z &&& m) (z &&& m &&& r)) = andNot z (andNot m r) := by
  refine Nat.eq_of_testBit_eq fun i => ?_
  simp only [testBit_andNot, Nat.testBit_and]
  cases z.testBit i <;> cases m.testBit i <;> rfl

theorem andNot_andNot_self (z m : Nat) : andNot (andNot z m) m = andNot z m := by
  refine Nat.eq_of_testBit_eq fun i => ?_
  simp only [testBit_andNot]
  cases m.testBit i <;> simp

theorem andNot_zero (z : Nat) : andNot z 0 = z := by simp [andNot]

/-! ### One word -/

theorem State.alertCycle_eq (s : State) : s.alertCycle = { s with alerts := s.alertCycle.alerts } := by
  unfold State.alertCycle
  split <;> rfl

section
variable (s : State) (i a m : Nat)

/-- The bits of a word that a clear names and an event of its MGT cycle has set (R338). -/
def State.clearMet : Nat := s.z i a &&& m &&& raisedNow s i a

/-- The bits of a word that a clear takes. -/
def State.clearTook : Nat := andNot (s.z i a &&& m) (s.clearMet i a m)

/-- The count of the bits that a clear leaves for an event of its MGT cycle (R338). -/
def State.clearCounted : State :=
  if s.clearMet i a m = 0 then s.alertCycle else s.alertCycle.bump 0xF018 18 (popCount 32 (s.clearMet i a m))

/-- The bits that a clear takes leave both copies of their word (R341). -/
def State.clearTaken (took : Nat) : State := (s.noteBefore.noteCleared (key i a) took).putCause i a (andNot (s.z i a) took)

theorem State.clearWord_eq : s.clearWord i a m =
    if s.z i a &&& m = 0 then s
    else if s.clearTook i a m = 0 then s.clearCounted i a m else (s.clearCounted i a m).clearTaken i a (s.clearTook i a m) := rfl

/-- A clear of a word changes the objects and the alert tree alone. -/
theorem State.clearCounted_eq : ∃ o, s.clearCounted i a m = { s with obj := o, alerts := s.alertCycle.alerts } := by
  unfold State.clearCounted
  rw [s.alertCycle_eq]
  split <;> exact ⟨_, rfl⟩

theorem State.clearTaken_eq (took : Nat) : ∃ o l, s.clearTaken i a took = { s with obj := o, alerts := l } ∧
    l.cycle = s.alerts.cycle ∧ l.raised = s.alerts.raised := by
  unfold State.clearTaken State.noteBefore
  split <;> exact ⟨_, _, rfl, rfl, rfl⟩

end

/-! ### The events of an MGT cycle -/

theorem State.mgtCycle_congr {s t : State} (hdom : t.dom .mgt = s.dom .mgt) (hnow : t.now = s.now) :
    t.cycle .mgt t.now = s.cycle .mgt s.now := by
  unfold State.cycle State.clockRate
  rw [hdom, hnow]
  match (s.dom .mgt).src with
  | 0 | 1 | 2 | _ + 3 => rfl

/-- The events of the present MGT cycle are told from the records of the tree, in the same cycle. -/
theorem raisedNow_congr {s t : State} (hdom : t.dom .mgt = s.dom .mgt) (hnow : t.now = s.now) (hcycle : t.alerts.cycle = s.alerts.cycle)
    (hraised : t.alerts.raised = s.alerts.raised) : raisedNow t = raisedNow s := by
  have hsame := State.mgtCycle_congr hdom hnow
  have hlist : t.alertCycle.alerts.raised = s.alertCycle.alerts.raised := by
    unfold State.alertCycle
    rw [hsame, hcycle]
    split
    · exact hraised
    · rfl
  funext i a
  exact congrArg (fun l => mgetD l (key i a) 0) hlist

theorem State.alertCycle_alertCycle (s : State) : s.alertCycle.alertCycle = s.alertCycle := by
  unfold State.alertCycle
  split
  · rfl
  · exact if_pos rfl

theorem raisedNow_alertCycle (s : State) : raisedNow s.alertCycle = raisedNow s := by
  unfold raisedNow
  rw [s.alertCycle_alertCycle]

/-- A clear sets no event. -/
theorem raisedNow_clearWord (s : State) (i a m : Nat) : raisedNow (s.clearWord i a m) = raisedNow s := by
  have hcounted : raisedNow (s.clearCounted i a m) = raisedNow s := by
    obtain ⟨o, ho⟩ := s.clearCounted_eq i a m
    rw [ho, ← raisedNow_alertCycle s, s.alertCycle_eq]
    exact raisedNow_congr rfl rfl rfl rfl
  rw [State.clearWord_eq]
  split
  · rfl
  · split
    · exact hcounted
    · obtain ⟨o, l, htaken, hcycle, hraised⟩ := (s.clearCounted i a m).clearTaken_eq i a (s.clearTook i a m)
      rw [htaken, ← hcounted]
      exact raisedNow_congr rfl rfl hcycle hraised

/-! ### A word after its clear -/

section
variable (s : State) (i a m : Nat)

theorem State.clearCounted_val (j b : Nat) (h : key j b ≠ key 0xF018 18) : (s.clearCounted i a m).val j b = s.val j b := by
  unfold State.clearCounted
  split
  · exact State.val_congr s.alertCycle_obj j b
  · exact (State.val_bump _ _ _ _ _ _ h).trans (State.val_congr s.alertCycle_obj j b)

theorem State.clearTaken_obj (took : Nat) : (s.clearTaken i a took).obj = (s.put i a (andNot (s.z i a) took)).obj := by
  unfold State.clearTaken State.noteBefore
  split <;> rfl

/-- A clear of a word takes the bits that it names, but those that an event of its MGT cycle has set (R336, R338). -/
theorem State.clearWord_z (hd : defaultVal i a = .num 0) (h : key i a ≠ key 0xF018 18) :
    (s.clearWord i a m).z i a = andNot (s.z i a) (andNot m (raisedNow s i a)) := by
  have hcounted : (s.clearCounted i a m).z i a = s.z i a := State.z_of_val (s.clearCounted_val i a m i a h) hd
  rw [← andNot_taken, State.clearWord_eq]
  change _ = andNot (s.z i a) (s.clearTook i a m)
  split
  · next hhit => simp [State.clearTook, hhit, andNot]
  · split
    · next htook => rw [htook, andNot_zero, hcounted]
    · rw [State.z_congr (State.clearTaken_obj ..), State.z_put, if_pos rfl, hcounted]

/-- A clear of a word changes that word and the count of the clears that events overtake, and no other object. -/
theorem State.clearWord_val {j b : Nat} (hi : key j b ≠ key i a) (h : key j b ≠ key 0xF018 18) : (s.clearWord i a m).val j b = s.val j b := by
  rw [State.clearWord_eq]
  split
  · rfl
  · split
    · exact State.clearCounted_val _ _ _ _ _ _ h
    · rw [State.val_congr (State.clearTaken_obj ..), State.val_put, if_neg hi, State.clearCounted_val _ _ _ _ _ _ h]

/-- The bits that a clear leaves for events of its MGT cycle are counted (R338). -/
theorem State.clearWord_count (h : key i a ≠ key 0xF018 18) : (s.clearWord i a m).z 0xF018 18 =
    if s.clearMet i a m = 0 then s.z 0xF018 18 else min (s.z 0xF018 18 + popCount 32 (s.clearMet i a m)) (2 ^ 32 - 1) := by
  have hcounted : (s.clearCounted i a m).z 0xF018 18 =
      if s.clearMet i a m = 0 then s.z 0xF018 18 else min (s.z 0xF018 18 + popCount 32 (s.clearMet i a m)) (2 ^ 32 - 1) := by
    unfold State.clearCounted
    split
    · exact State.z_congr s.alertCycle_obj _ _
    · rw [State.z_bump, if_pos rfl, State.z_congr s.alertCycle_obj]
  rw [State.clearWord_eq]
  split
  · next hhit =>
    have hmet : s.clearMet i a m = 0 := by simp [State.clearMet, hhit]
    rw [if_pos hmet]
  · split
    · exact hcounted
    · rw [State.z_congr (State.clearTaken_obj ..), State.z_put, if_neg h.symm, hcounted]

end

/-- A clear of a word changes the objects and the alert tree alone. -/
theorem State.clearWord_rest (s : State) (i a m : Nat) : ∃ o l, s.clearWord i a m = { s with obj := o, alerts := l } := by
  rw [State.clearWord_eq]
  obtain ⟨o, ho⟩ := s.clearCounted_eq i a m
  split
  · exact ⟨_, _, rfl⟩
  · split
    · exact ⟨_, _, ho⟩
    · obtain ⟨o', l, htaken, -, -⟩ := (s.clearCounted i a m).clearTaken_eq i a (s.clearTook i a m)
      rw [htaken, ho]
      exact ⟨_, _, rfl⟩

/-- The conditions of R335 are not read from the tree. -/
theorem State.clearWord_held (s : State) (i a m : Nat) : (s.clearWord i a m).held = s.held := by
  obtain ⟨o, l, hrest⟩ := s.clearWord_rest i a m
  rw [hrest]
  rfl

section
variable {parts : List Part} {objs : List (Nat × Nat)} {s u : State}

theorem Frame.clearWord (h : Frame parts objs s u) (i a m : Nat) (ha : a < 256) (hi : (i, a) ∈ objs) (hcount : (0xF018, 18) ∈ objs)
    (hm : .latch ∈ parts := by decide) : Frame parts objs s (u.clearWord i a m) := by
  refine ⟨fun p hp => ?_, fun j b hb hj h17 => ?_⟩
  · obtain ⟨o, l, hrest⟩ := u.clearWord_rest i a m
    rw [hrest]
    cases p with
    | latch => exact absurd hm hp
    | _ => exact h.part _ hp
  · have hne : ∀ x ∈ objs, x.2 < 256 → key j b ≠ key x.1 x.2 := fun x hx hlt heq => hj (by
      obtain ⟨rfl, rfl⟩ := (key_inj hb hlt).1 heq
      exact hx)
    rw [u.clearWord_val i a m (hne (i, a) hi ha) (hne (0xF018, 18) hcount (by decide)), h.val j b hb hj h17]

/-- Letting the pin and the frames follow the tree touches nothing that a frame speaks of. -/
theorem Frame.alertSync (h : Frame parts objs s u) : Frame parts objs s u.alertSync := by
  refine ⟨fun p hp => Part.same_alertSync (h.part p hp), fun i a ha hi h17 => ?_⟩
  have hne : key i a ≠ key 0xF018 17 := fun heq => h17 (by obtain ⟨rfl, rfl⟩ := (key_inj ha (by decide)).1 heq; rfl)
  rw [u.alertSync_val i a hne, h.val i a ha hi h17]

end

/-! ### Several words -/

/-- A word of the tree, and the bits of it that a clear names. -/
structure WordClear where
  idx : Nat
  sub : Nat
  bits : Nat

/-- The object of a word. -/
def WordClear.object (c : WordClear) : Nat × Nat := (c.idx, c.sub)

/-- One word after the other is cleared. -/
def State.clearWords (s : State) (l : List WordClear) : State := l.foldl (fun u c => u.clearWord c.idx c.sub c.bits) s

theorem State.clearWords_nil (s : State) : s.clearWords [] = s := rfl

theorem State.clearWords_cons (s : State) (c : WordClear) (l : List WordClear) :
    s.clearWords (c :: l) = (s.clearWord c.idx c.sub c.bits).clearWords l := rfl

theorem State.clearWords_append (s : State) (l k : List WordClear) : s.clearWords (l ++ k) = (s.clearWords l).clearWords k := List.foldl_append

theorem State.clearWords_held (s : State) (l : List WordClear) : (s.clearWords l).held = s.held :=
  State.foldPath_keeps (g := State.held) (fun u _ => u.clearWord_held _ _ _) l s

/-- The objects that a clear of some words may change. -/
def clearedObjects (l : List WordClear) : List (Nat × Nat) := l.map WordClear.object ++ [(0xF018, 18)]

theorem object_mem_clearedObjects {l : List WordClear} {c : WordClear} (hc : c ∈ l) : (c.idx, c.sub) ∈ clearedObjects l :=
  List.mem_append_left _ (List.mem_map.2 ⟨c, hc, rfl⟩)

theorem Frame.clearWords {parts : List Part} {objs : List (Nat × Nat)} {s u : State} {l : List WordClear} (h : Frame parts objs s u)
    (hsub : ∀ c ∈ l, c.sub < 256) (ho : ∀ x ∈ clearedObjects l, x ∈ objs) (hm : .latch ∈ parts := by decide) :
    Frame parts objs s (u.clearWords l) := by
  have hcount : (0xF018, 18) ∈ objs := ho _ (List.mem_append_right _ (List.mem_singleton.2 rfl))
  have hword : ∀ c ∈ l, (c.idx, c.sub) ∈ objs := fun c hc => ho _ (object_mem_clearedObjects hc)
  clear ho
  induction l generalizing u with
  | nil => exact h
  | cons c l ih =>
    exact ih (h.clearWord _ _ _ (hsub c List.mem_cons_self) (hword c List.mem_cons_self) hcount hm)
      (fun d hd => hsub d (List.mem_cons_of_mem c hd)) fun d hd => hword d (List.mem_cons_of_mem c hd)

/-- A word that a list of clears does not name keeps its bits. -/
theorem State.clearWords_z_of_not_mem {s : State} {l : List WordClear} {i a : Nat} (hsub : ∀ c ∈ l, c.sub < 256)
    (hi : (i, a) ∉ l.map WordClear.object) (ha : a < 256) (h18 : i ≠ 0xF018) (hd : defaultVal i a = .num 0) :
    (s.clearWords l).z i a = s.z i a := by
  have hframe : Frame [.latch] (clearedObjects l) s (s.clearWords l) := (Frame.refl s).clearWords hsub fun _ hx => hx
  refine hframe.z_eq ha (fun hmem => ?_) (fun heq => h18 (congrArg Prod.fst heq)) hd
  obtain hmem | hmem := List.mem_append.1 hmem
  · exact hi hmem
  · exact h18 (congrArg Prod.fst (List.mem_singleton.1 hmem))

/-- A word that a list of clears names, with the same bits wherever it does, loses those that no event of the MGT cycle has set: naming it
again takes nothing more. -/
theorem State.clearWords_z {l : List WordClear} {i a m : Nat} (s : State) (hmem : (i, a) ∈ l.map WordClear.object)
    (hsub : ∀ c ∈ l, c.sub < 256) (hbits : ∀ c ∈ l, c.object = (i, a) → c.bits = m) (ha : a < 256) (h18 : i ≠ 0xF018)
    (hd : defaultVal i a = .num 0) : (s.clearWords l).z i a = andNot (s.z i a) (andNot m (raisedNow s i a)) := by
  have hkey : key i a ≠ key 0xF018 18 := fun heq => h18 ((key_inj ha (by decide)).1 heq).1
  induction l generalizing s with
  | nil => exact absurd hmem List.not_mem_nil
  | cons c l ih =>
    have hsubs : ∀ d ∈ l, d.sub < 256 := fun d hd => hsub d (List.mem_cons_of_mem c hd)
    have hfirst : c.object = (i, a) →
        (s.clearWord c.idx c.sub c.bits).z i a = andNot (s.z i a) (andNot m (raisedNow s i a)) := fun hc => by
      obtain ⟨hidx, hsubc⟩ := Prod.mk.inj hc
      rw [hbits c List.mem_cons_self hc, hidx, hsubc, State.clearWord_z s i a m hd hkey]
    have hother : c.object ≠ (i, a) → (s.clearWord c.idx c.sub c.bits).z i a = s.z i a := fun hc =>
      State.clearWords_z_of_not_mem (l := [c]) (List.forall_mem_singleton.2 (hsub c List.mem_cons_self))
        (fun h => hc (List.mem_singleton.1 h).symm) ha h18 hd
    rw [State.clearWords_cons]
    by_cases hlater : (i, a) ∈ l.map WordClear.object
    · rw [ih _ hlater hsubs fun d hd => hbits d (List.mem_cons_of_mem c hd), raisedNow_clearWord]
      by_cases hc : c.object = (i, a)
      · rw [hfirst hc, andNot_andNot_self]
      · rw [hother hc]
    · obtain hc | hc := List.mem_cons.1 hmem
      · rw [State.clearWords_z_of_not_mem hsubs hlater ha h18 hd, hfirst hc.symm]
      · exact absurd hc hlater

/-! ### The words of a branch, and of the tree -/

/-- The words that a write-one-to-clear of a branch's cause object names: its own, and the child of each aggregate (R335, R336). -/
def branchClears (held : Nat → Nat) (m br : Nat) : List WordClear :=
  ⟨0x2101 + br, 0, andNot (m &&& causeBits br) (held br)⟩ ::
    match childOf br with
    | some (ci, n, d) => ((List.range n).filter fun j => bit m j).map fun j => ⟨ci, j + 1, d⟩
    | none => []

/-- The words that a clear of the whole tree names (R337). -/
def treeClears (held : Nat → Nat) : List WordClear := (List.range 16).flatMap (branchClears held (2 ^ 32 - 1))

theorem State.clearBranch_eq (s : State) (br m : Nat) : s.clearBranch br m = s.clearWords (branchClears s.held m br) := by
  unfold State.clearBranch branchClears
  rw [State.clearWords_cons]
  cases childOf br with
  | none => rfl
  | some x =>
    unfold State.clearWords
    rw [List.foldl_map, List.foldl_filter]

theorem State.clearAll_eq (s : State) : s.clearAll = (s.clearWords (treeClears s.held)).alertSync := by
  have hbranches : ∀ (l : List Nat) (u : State), l.foldl (fun u br => u.clearBranch br (2 ^ 32 - 1)) u =
      u.clearWords (l.flatMap (branchClears u.held (2 ^ 32 - 1))) := fun l => by
    induction l with
    | nil => exact fun _ => rfl
    | cons br l ih =>
      intro u
      rw [List.foldl_cons, List.flatMap_cons, State.clearWords_append, ih, State.clearBranch_eq, State.clearWords_held]
  exact congrArg State.alertSync (hbranches _ s)

/-- The branches with children (Table 8.1). -/
theorem childOf_cases {br ci n d : Nat} (h : childOf br = some (ci, n, d)) :
    (br = 5 ∧ ci = 0x2140 ∧ n = 6 ∧ d = 0x7F) ∨ (br = 8 ∧ ci = 0x2150 ∧ n = 32 ∧ d = 0x1F) ∨ (br = 10 ∧ ci = 0x2160 ∧ n = 16 ∧ d = 0x1F) := by
  unfold childOf at h
  split at h <;> simp_all

theorem mem_branchClears {held : Nat → Nat} {m br : Nat} {c : WordClear} : c ∈ branchClears held m br ↔
    c = ⟨0x2101 + br, 0, andNot (m &&& causeBits br) (held br)⟩ ∨
      ∃ ci n d j, childOf br = some (ci, n, d) ∧ j < n ∧ bit m j = true ∧ c = ⟨ci, j + 1, d⟩ := by
  unfold branchClears
  rw [List.mem_cons]
  refine or_congr_right ?_
  cases childOf br with
  | none => simp
  | some x =>
    obtain ⟨ci, n, d⟩ := x
    simp only [List.mem_map, List.mem_filter, List.mem_range, Option.some.injEq, Prod.mk.injEq]
    constructor
    · rintro ⟨j, ⟨hj, hbit⟩, rfl⟩
      exact ⟨ci, n, d, j, ⟨rfl, rfl, rfl⟩, hj, hbit, rfl⟩
    · rintro ⟨_, _, _, j, ⟨rfl, rfl, rfl⟩, hj, hbit, rfl⟩
      exact ⟨j, ⟨hj, hbit⟩, rfl⟩

theorem mem_treeClears {held : Nat → Nat} {c : WordClear} : c ∈ treeClears held ↔ ∃ br < 16, c ∈ branchClears held (2 ^ 32 - 1) br := by
  simp [treeClears]

theorem branchClears_sub {held : Nat → Nat} {m br : Nat} : ∀ c ∈ branchClears held m br, c.sub < 256 := by
  intro c hc
  obtain rfl | ⟨ci, n, d, j, hchild, hj, -, rfl⟩ := mem_branchClears.1 hc
  · exact Nat.zero_lt_succ 255
  · have hbounds := (childOf_bounds hchild).2
    show j + 1 < 256
    omega

theorem treeClears_sub {held : Nat → Nat} : ∀ c ∈ treeClears held, c.sub < 256 := fun c hc => by
  obtain ⟨br, -, hc⟩ := mem_treeClears.1 hc
  exact branchClears_sub c hc

/-- A cause object is named with its own bits wherever it is named. -/
theorem branchClears_own {held : Nat → Nat} {m br br' : Nat} {c : WordClear} (hc : c ∈ branchClears held m br')
    (ho : c.object = (0x2101 + br, 0)) : c.bits = andNot (m &&& causeBits br) (held br) := by
  obtain rfl | ⟨ci, n, d, j, -, -, -, rfl⟩ := mem_branchClears.1 hc
  · have hidx := (Prod.mk.inj ho).1
    obtain rfl : br' = br := Nat.add_left_cancel hidx
    rfl
  · exact absurd (Prod.mk.inj ho).2 (Nat.succ_ne_zero j)

/-- A child is named with all its bits wherever it is named. -/
theorem branchClears_child {held : Nat → Nat} {m br br' ci n d j : Nat} (hchild : childOf br = some (ci, n, d)) {c : WordClear}
    (hc : c ∈ branchClears held m br') (ho : c.object = (ci, j + 1)) : c.bits = d := by
  obtain rfl | ⟨ci', n', d', j', hchild', -, -, rfl⟩ := mem_branchClears.1 hc
  · exact absurd (Prod.mk.inj ho).2 (Nat.succ_ne_zero j).symm
  · have hidx : ci' = ci := (Prod.mk.inj ho).1
    show d' = d
    have h := childOf_cases hchild
    have h' := childOf_cases hchild'
    omega

/-! ### What the words of the tree hold after a clear -/

section
variable {br ci n d j : Nat} (s : State) (m : Nat)

theorem causeChild_zero (hbr : br < 16) (hchild : childOf br = some (ci, n, d)) (hj : j < n) : defaultVal ci (j + 1) = .num 0 :=
  (causeChild_default br hbr _ hchild).2 j hj

theorem bit_eq_testBit (k i : Nat) : bit k i = k.testBit i := by simp [bit, ← Nat.testBit_eq_decide_div_mod_eq]

theorem State.branchCleared_own (hbr : br < 16) : (s.clearWords (branchClears s.held m br)).z (0x2101 + br) 0 =
    andNot (s.z (0x2101 + br) 0) (andNot (andNot (m &&& causeBits br) (s.held br)) (raisedNow s (0x2101 + br) 0)) :=
  s.clearWords_z (List.mem_cons_self ..) branchClears_sub (fun _ hc => branchClears_own hc) (by decide) (by omega)
    (causeObject_default br hbr).1

theorem State.branchCleared_child (hbr : br < 16) (hchild : childOf br = some (ci, n, d)) (hj : j < n) :
    (s.clearWords (branchClears s.held m br)).z ci (j + 1) =
      if bit m j then andNot (s.z ci (j + 1)) (andNot d (raisedNow s ci (j + 1))) else s.z ci (j + 1) := by
  have hd := causeChild_zero hbr hchild hj
  have hcases := childOf_cases hchild
  split
  · next hbit =>
    refine s.clearWords_z (List.mem_map.2 ⟨⟨ci, j + 1, d⟩, ?_, rfl⟩) branchClears_sub (fun _ hc => branchClears_child hchild hc)
      (by omega) (by omega) hd
    exact mem_branchClears.2 (Or.inr ⟨ci, n, d, j, hchild, hj, hbit, rfl⟩)
  · next hbit =>
    refine State.clearWords_z_of_not_mem branchClears_sub (fun hmem => ?_) (by omega) (by omega) hd
    obtain ⟨c, hc, ho⟩ := List.mem_map.1 hmem
    obtain rfl | ⟨_, _, _, k, -, -, hset, rfl⟩ := mem_branchClears.1 hc
    · exact absurd (Prod.mk.inj ho).2 (Nat.succ_ne_zero j).symm
    · obtain rfl : k = j := Nat.succ.inj (Prod.mk.inj ho).2
      exact hbit hset

theorem State.treeCleared_own (hbr : br < 16) : (s.clearWords (treeClears s.held)).z (0x2101 + br) 0 =
    andNot (s.z (0x2101 + br) 0) (andNot (andNot (causeBits br) (s.held br)) (raisedNow s (0x2101 + br) 0)) := by
  have hall : (2 ^ 32 - 1) &&& causeBits br = causeBits br := (show ∀ br < 16, (2 ^ 32 - 1) &&& causeBits br = causeBits br by decide) br hbr
  rw [← hall]
  refine s.clearWords_z (List.mem_map.2 ⟨_, mem_treeClears.2 ⟨br, hbr, List.mem_cons_self ..⟩, rfl⟩) treeClears_sub (fun c hc ho => ?_)
    (by decide) (by omega) (causeObject_default br hbr).1
  obtain ⟨br', -, hc⟩ := mem_treeClears.1 hc
  exact branchClears_own hc ho

theorem State.treeCleared_child (hbr : br < 16) (hchild : childOf br = some (ci, n, d)) (hj : j < n) :
    (s.clearWords (treeClears s.held)).z ci (j + 1) = andNot (s.z ci (j + 1)) (andNot d (raisedNow s ci (j + 1))) := by
  have hcases := childOf_cases hchild
  have hbit : bit (2 ^ 32 - 1) j = true := by
    rw [bit_eq_testBit, Nat.testBit_two_pow_sub_one]
    exact decide_eq_true (by omega)
  refine s.clearWords_z (List.mem_map.2 ⟨⟨ci, j + 1, d⟩, mem_treeClears.2 ⟨br, hbr, ?_⟩, rfl⟩) treeClears_sub (fun c hc ho => ?_)
    (by omega) (by omega) (causeChild_zero hbr hchild hj)
  · exact mem_branchClears.2 (Or.inr ⟨ci, n, d, j, hchild, hj, hbit, rfl⟩)
  · obtain ⟨br', -, hc⟩ := mem_treeClears.1 hc
    exact branchClears_child hchild hc ho

end

end Sys2Proof.Machine
end

section
/-! PROOF. The commands on the cause tree (R336, R337, R340): the writes of ones, the clear of the whole tree and its wrong keys, and the test
of ALERT_N. -/
set_option Elab.async false
namespace Sys2Proof.Machine

/-! ### Accepted clears -/

/-- A number is stored in the width of its type, without the reserved bits (R8). -/
theorem storedVal_num {r : Row} {idx sub : Nat} (n : Nat) (hr : findRow idx sub = some r) (ho : r.ty ≠ .octets) (ht : r.ty ≠ .time80) :
    storedVal r idx sub n = .num (n % 256 ^ tyLen r.ty &&& r.mask) := by
  simp only [storedVal, operand, hr]
  rw [← leNat_leBytes]
  unfold maskVal octetsVal
  cases hty : r.ty with
  | octets => exact absurd hty ho
  | time80 => exact absurd hty ht
  | _ => rfl

section
variable (s : State) (w : Who)

/-- The conditions of R335 are not read from what acceptance changes. -/
theorem State.accepted_held : (s.accepted w).held = s.held := by
  have hnet : (s.accepted w).acc.netDown = s.acc.netDown := by
    unfold State.accepted State.accept State.closeIdle
    split
    · split <;> rfl
    · rfl
  have hpair : (s.accepted w).pair = s.pair := State.accept_pair ..
  have htime : (s.accepted w).time = s.time := State.accept_time ..
  have hprobe : (s.accepted w).probe = s.probe := State.accept_probe ..
  funext br
  unfold State.held State.noTrace State.traceable State.probePll State.ineligible State.pll
  rw [hnet, hpair, htime, hprobe, s.accepted_power, s.accepted_clk]

theorem raisedNow_accepted : raisedNow (s.accepted w) = raisedNow s := by
  have halerts : (s.accepted w).alerts = s.alerts := State.accept_alerts ..
  exact raisedNow_congr (State.dom_congr (by simp) (by simp) _) (by simp) (by rw [halerts]) (by rw [halerts])

/-- What an accepted clear of some words ends in. -/
def State.clearedEnd (l : List WordClear) : State := s.ended (((s.accepted w).clearWords l).alertSync.answered w)

theorem State.clearedEnd_answer (l : List WordClear) : .answer w 0 [] ∈ (s.clearedEnd w l).out := by
  unfold State.clearedEnd
  rw [State.ended_out]
  exact List.mem_cons_self ..

theorem State.clearedEnd_z (l : List WordClear) {i a : Nat} (h17 : key i a ≠ key 0xF018 17) (hans : key i a ≠ key 0xF000 3) :
    (s.clearedEnd w l).z i a = ((s.accepted w).clearWords l).z i a := by
  unfold State.clearedEnd
  rw [State.ended_z _ _ h17, State.answered_z _ _ hans, State.alertSync_z _ _ _ h17]

/-- The words of the tree hold after the command what the clear has left. -/
theorem State.clearedEnd_tree (l : List WordClear) {i a : Nat} (hi : i < 0x3000) (ha : a < 256) :
    (s.clearedEnd w l).z i a = ((s.accepted w).clearWords l).z i a :=
  s.clearedEnd_z w l (by unfold key; omega) (by unfold key; omega)

theorem State.accepted_tree {i a : Nat} (hi : i < 0x3000) (ha : a < 256) (hd : defaultVal i a = .num 0) : (s.accepted w).z i a = s.z i a :=
  State.z_of_val (s.accepted_val w (by unfold key; omega) (by unfold key; omega)) hd

end

section
variable {c : Instr} {s : State} {w : Who} {idx sub n : Nat} {r : Row} {l : List WordClear}

/-- A lone device ends an accepted write that clears words of the tree with their clear, the pin following, the count and the answer. -/
theorem completes_of_clear {P : State → Prop} (hc : exec c s = s.ends (s.writeNum w idx sub n)) (hr : findRow idx sub = some r)
    (hl : r.cls = .l) (hx : idx ≠ 0x1010) (halone : Alone s) (h : Accepted s w idx sub n)
    (heff : ∀ (u : State) (a : Acc), a.idx = idx → a.sub = sub → u.held = s.held →
      u.liveEffect a (storedVal r idx sub n) = ((u.rewritten (key idx sub)).clearWords l).alertSync)
    (hsub : ∀ x ∈ l, x.sub < 256) (hP : P (s.clearedEnd w l)) :
    Completes c s [.latch, .acc, .out] (accessObjects ++ clearedObjects l) P := by
  have ⟨_, _, hgood, _⟩ := h
  have haccess : ∀ x ∈ accessObjects, x ∈ accessObjects ++ clearedObjects l := fun x hx => List.mem_append_left _ hx
  have hframe : Frame [.latch, .acc, .out] (accessObjects ++ clearedObjects l) s ((s.accepted w).clearWords l).alertSync :=
    ((Frame.accepted s w (by decide) haccess).clearWords hsub fun x hx => List.mem_append_right _ hx).alertSync
  refine completes_of_access hc hr hl (fun hk => hx hk.1) halone h ?_ hframe hP (ho := haccess _ (by decide))
  rw [heff _ _ rfl rfl (s.accepted_held w), State.rewritten_eq ((s.knownBad_accepted w idx sub).trans hgood)]

end

/-! ### Writes of ones to a cause object -/

/-- The row of the cause objects (Table 8.2). -/
def causeRow : Row := ⟨0x2101, 0x2110, 0, 0, .bits32, .l, 0, 1, 0, .any, 0xffffffff, 4⟩

theorem findRow_cause : ∀ br < 16, findRow (0x2101 + br) 0 = some causeRow := by decide +kernel

theorem storedVal_cause {br : Nat} (hbr : br < 16) (v : BitVec 32) : storedVal causeRow (0x2101 + br) 0 v.toNat = .num v.toNat := by
  rw [storedVal_num _ (findRow_cause br hbr) (by decide) (by decide)]
  show Val.num (v.toNat % 2 ^ 32 &&& 2 ^ 32 - 1) = _
  rw [Nat.mod_eq_of_lt v.isLt, Nat.and_two_pow_sub_one_of_lt_two_pow v.isLt]

/-- A live write of an object between the cause objects and the windows' children clears causes, but for the test of the pin and the clear of
the whole tree. -/
theorem State.liveEffect_tree {a : Acc} (hlo : 0x2101 ≤ a.idx) (hhi : a.idx ≤ 0x2160) (hpin : a.idx ≠ 0x2122) (hall : a.idx ≠ 0x2123)
    (u : State) (m : Nat) : u.liveEffect a (.num m) = (u.rewritten (key a.idx a.sub)).clearCause a.idx a.sub m := by
  have hlive : ∀ t : State, t.liveAccess a m = t.clearCause a.idx a.sub m := fun t => by
    unfold State.liveAccess
    split
    case h_13 => exact if_pos ⟨hlo, hhi⟩
    all_goals omega
  exact (if_pos (show a.idx < 0x2200 by omega)).trans (hlive _)

theorem State.clearCause_own {br : Nat} (hbr : br < 16) (u : State) (m : Nat) :
    u.clearCause (0x2101 + br) 0 m = (u.clearWords (branchClears u.held m br)).alertSync := by
  unfold State.clearCause
  rw [if_pos ⟨by omega, by omega⟩, Nat.add_sub_cancel_left, State.clearBranch_eq]

section
variable {s : State} {w : Who} {v : BitVec 32} {br : Nat}

theorem exec_causeClear_own (s : State) (w : Who) (v : BitVec 32) (hbr : br < 16) :
    exec (.causeClear w (BitVec.ofNat 16 (0x2101 + br)) 0 v) s = s.ends (s.writeNum w (0x2101 + br) 0 v.toNat) := by
  have hidx : (BitVec.ofNat 16 (0x2101 + br)).toNat = 0x2101 + br := by
    rw [BitVec.toNat_ofNat]
    exact Nat.mod_eq_of_lt (by omega)
  show s.ends (s.writeNum w (BitVec.ofNat 16 (0x2101 + br)).toNat 0 v.toNat) = _
  rw [hidx]

theorem causeClear_completes {P : State → Prop} (halone : Alone s) (hbr : br < 16) (h : Accepted s w (0x2101 + br) 0 v.toNat)
    (hP : P (s.clearedEnd w (branchClears s.held v.toNat br))) :
    Completes (.causeClear w (BitVec.ofNat 16 (0x2101 + br)) 0 v) s [.latch, .acc, .out]
      (accessObjects ++ clearedObjects (branchClears s.held v.toNat br)) P := by
  refine completes_of_clear (exec_causeClear_own s w v hbr) (findRow_cause br hbr) rfl (by omega) halone h (fun u a hidx hsub hheld => ?_)
    branchClears_sub hP
  rw [storedVal_cause hbr, State.liveEffect_tree (by omega) (by omega) (by omega) (by omega), hidx, hsub, State.clearCause_own hbr, ← hheld]
  rfl

/-- The cause object after its clear. -/
theorem causeCleared_own (hbr : br < 16) : (s.clearedEnd w (branchClears s.held v.toNat br)).z (0x2101 + br) 0 =
    andNot (s.z (0x2101 + br) 0) (andNot (andNot (v.toNat &&& causeBits br) (s.held br)) (raisedNow s (0x2101 + br) 0)) := by
  have hcleared := (s.accepted w).branchCleared_own v.toNat hbr
  rwa [s.accepted_held, raisedNow_accepted, s.accepted_tree w (by omega) (by decide) (causeObject_default br hbr).1,
    ← s.clearedEnd_tree w _ (by omega) (by decide)] at hcleared

/-- The children of a branch after the clear of its cause object. -/
theorem causeCleared_child {ci n d j : Nat} (hbr : br < 16) (hchild : childOf br = some (ci, n, d)) (hj : j < n) :
    (s.clearedEnd w (branchClears s.held v.toNat br)).z ci (j + 1) =
      if bit v.toNat j then andNot (s.z ci (j + 1)) (andNot d (raisedNow s ci (j + 1))) else s.z ci (j + 1) := by
  have hcleared := (s.accepted w).branchCleared_child v.toNat hbr hchild hj
  have hbounds := childOf_bounds hchild
  rwa [s.accepted_held, raisedNow_accepted, s.accepted_tree w hbounds.1 (by omega) (causeChild_zero hbr hchild hj),
    ← s.clearedEnd_tree w _ hbounds.1 (by omega)] at hcleared

/-- The count of the clears that events overtake, after the clear of a branch without children (R338). -/
theorem causeCleared_count (hbr : br < 16) (hnone : childOf br = none) :
    let met := s.z (0x2101 + br) 0 &&& andNot (v.toNat &&& causeBits br) (s.held br) &&& raisedNow s (0x2101 + br) 0
    (s.clearedEnd w (branchClears s.held v.toNat br)).z 0xF018 18 =
      if met = 0 then s.z 0xF018 18 else min (s.z 0xF018 18 + popCount 32 met) (2 ^ 32 - 1) := by
  intro met
  have hword : branchClears s.held v.toNat br = [⟨0x2101 + br, 0, andNot (v.toNat &&& causeBits br) (s.held br)⟩] := by
    unfold branchClears
    rw [hnone]
  have hmet : (s.accepted w).clearMet (0x2101 + br) 0 (andNot (v.toNat &&& causeBits br) (s.held br)) = met := by
    unfold State.clearMet
    rw [raisedNow_accepted, s.accepted_tree w (by omega) (by decide) (causeObject_default br hbr).1]
  have hkey : key (0x2101 + br) 0 ≠ key 0xF018 18 := by unfold key; omega
  rw [s.clearedEnd_z w _ (by decide) (by decide), hword, State.clearWords_cons, State.clearWords_nil,
    State.clearWord_count _ _ _ _ hkey, hmet, s.accepted_z w]

end

/-! ### Writes of ones to a child -/

/-- The rows of the children (Table 8.2). -/
def childRow (ci n d : Nat) : Row := ⟨ci, ci, 1, n, .bits16, .l, 0, 1, 0, .any, d, 2⟩

section
variable {br ci n d j : Nat}

theorem findRow_child (hchild : childOf br = some (ci, n, d)) (hj : j < n) : findRow ci (j + 1) = some (childRow ci n d) := by
  obtain ⟨-, rfl, rfl, rfl⟩ | ⟨-, rfl, rfl, rfl⟩ | ⟨-, rfl, rfl, rfl⟩ := childOf_cases hchild
  · exact (show ∀ j < 6, findRow 0x2140 (j + 1) = some (childRow 0x2140 6 0x7F) by decide +kernel) j hj
  · exact (show ∀ j < 32, findRow 0x2150 (j + 1) = some (childRow 0x2150 32 0x1F) by decide +kernel) j hj
  · exact (show ∀ j < 16, findRow 0x2160 (j + 1) = some (childRow 0x2160 16 0x1F) by decide +kernel) j hj

/-- A write of ones to a child names the defined bits of its low 16. -/
theorem storedVal_child (hchild : childOf br = some (ci, n, d)) (hj : j < n) (v : Nat) :
    storedVal (childRow ci n d) ci (j + 1) v = .num (v &&& d) := by
  have hd : (2 ^ 16 - 1) &&& d = d := by
    obtain ⟨-, -, -, rfl⟩ | ⟨-, -, -, rfl⟩ | ⟨-, -, -, rfl⟩ := childOf_cases hchild <;> rfl
  rw [storedVal_num _ (findRow_child hchild hj) nofun nofun]
  show Val.num (v % 2 ^ 16 &&& d) = _
  rw [← Nat.and_two_pow_sub_one_eq_mod, Nat.and_assoc, hd]

theorem State.clearCause_child (hchild : childOf br = some (ci, n, d)) (u : State) (m : Nat) :
    u.clearCause ci (j + 1) m = (u.clearWord ci (j + 1) (m &&& d)).alertSync := by
  obtain ⟨-, rfl, -, rfl⟩ | ⟨-, rfl, -, rfl⟩ | ⟨-, rfl, -, rfl⟩ := childOf_cases hchild <;> rfl

theorem childClear_completes {s : State} {w : Who} {v : BitVec 32} (halone : Alone s) (hbr : br < 16) (hchild : childOf br = some (ci, n, d))
    (hj : j < n) (h : Accepted s w ci (j + 1) v.toNat) :
    Completes (.causeClear w (BitVec.ofNat 16 ci) (BitVec.ofNat 8 (j + 1)) v) s [.latch, .acc, .out]
      (accessObjects ++ [(ci, j + 1), (0xF018, 18)]) fun t =>
      t.z ci (j + 1) = andNot (s.z ci (j + 1)) (andNot (v.toNat &&& d) (raisedNow s ci (j + 1))) ∧ .answer w 0 [] ∈ t.out := by
  have hcases := childOf_cases hchild
  have hd := causeChild_zero hbr hchild hj
  have hexec : exec (.causeClear w (BitVec.ofNat 16 ci) (BitVec.ofNat 8 (j + 1)) v) s = s.ends (s.writeNum w ci (j + 1) v.toNat) := by
    show s.ends (s.writeNum w (BitVec.ofNat 16 ci).toNat (BitVec.ofNat 8 (j + 1)).toNat v.toNat) = _
    rw [BitVec.toNat_ofNat, BitVec.toNat_ofNat, Nat.mod_eq_of_lt (by omega), Nat.mod_eq_of_lt (by omega)]
  refine completes_of_clear (l := [⟨ci, j + 1, v.toNat &&& d⟩]) hexec (findRow_child hchild hj) rfl (by omega) halone h
    (fun u a hidx hsub _ => ?_) (List.forall_mem_singleton.2 (by show j + 1 < 256; omega)) ⟨?_, s.clearedEnd_answer w _⟩
  · rw [storedVal_child hchild hj, State.liveEffect_tree (by omega) (by omega) (by omega) (by omega), hidx, hsub,
      State.clearCause_child hchild, Nat.and_assoc, Nat.and_self]
    rfl
  · rw [s.clearedEnd_tree w _ (by omega) (by omega), State.clearWords_cons, State.clearWords_nil,
      State.clearWord_z _ _ _ _ hd (by unfold key; omega), raisedNow_accepted, s.accepted_tree w (by omega) (by omega) hd]

end

/-- A write of ones takes the named bits of a cause object and of the children of its named aggregates, or of a child, and counts what events
of its MGT cycle have kept (R336, R338). -/
theorem causesAreClearedByWritingOnes : Claims.CausesAreClearedByWritingOnes := by
  intro s w v halone
  refine ⟨fun br hbr h => ?_, fun br hbr hnone h => ?_, fun br ci n d j hchild hj h => ?_⟩
  · obtain ⟨t, hexec, -, -, rfl⟩ := causeClear_completes (P := (· = s.clearedEnd w (branchClears s.held v.toNat br))) halone hbr h rfl
    exact ⟨_, hexec, s.clearedEnd_answer w _, causeCleared_own hbr, fun ci n d j hchild hj => causeCleared_child hbr hchild hj⟩
  · have hobjects : clearedObjects (branchClears s.held v.toNat br) = [(0x2101 + br, 0), (0xF018, 18)] := by
      unfold clearedObjects branchClears
      rw [hnone]
      rfl
    rw [← hobjects]
    refine causeClear_completes halone hbr h ?_
    have hcount := causeCleared_count (s := s) (w := w) (v := v) hbr hnone
    exact ⟨fun hmet => hcount.trans (if_pos hmet), fun hmet => hcount.trans (if_neg hmet)⟩
  · have hcases := childOf_cases hchild
    exact childClear_completes halone (by omega) hchild hj h

/-! ### The clear of the whole tree -/

/-- The row of 2123h:0 (Table 8.2). -/
def clearAllRow : Row := ⟨0x2123, 0x2123, 0, 0, .u32, .l, 0, 1, 0, .oneOf [0x434C5241], 0xffffffff, 4⟩

theorem findRow_clearAll : findRow 0x2123 0 = some clearAllRow := rfl

theorem State.liveEffect_clearAll {a : Acc} (hidx : a.idx = 0x2123) (hsub : a.sub = 0) (u : State) (v : Val) :
    u.liveEffect a v = (u.rewritten (key 0x2123 0)).clearAll := by
  obtain ⟨path, req, level, idx, sub⟩ := a
  subst hidx hsub
  rfl

theorem clearAll_completes {s : State} {w : Who} {P : State → Prop} (halone : Alone s) (h : Accepted s w 0x2123 0 0x434C5241)
    (hP : P (s.clearedEnd w (treeClears s.held))) : CompletesWithin (.clearAll w 0x434C5241#32) s [.latch, .acc, .out] P := by
  obtain ⟨t, hexec, hkeeps, -, ht⟩ := completes_of_clear (c := .clearAll w 0x434C5241#32) rfl findRow_clearAll rfl (by decide) halone h
    (fun u a hidx hsub hheld => by rw [State.liveEffect_clearAll hidx hsub, State.clearAll_eq, ← hheld]; rfl) treeClears_sub hP
  exact ⟨t, hexec, hkeeps, ht⟩

/-! ### A key that is wrong -/

/-- What a refusal with 0x0302 may change beside its acceptance: its count and its record. -/
theorem Frame.refuse_value {parts : List Part} {objs : List (Nat × Nat)} {s u : State} (h : Frame parts objs s u) (a : Acc)
    (ho : ∀ x ∈ refusalObjects, x ∈ objs := by decide) : Frame parts objs s (u.refuse a 0x0302) := by
  rw [State.refuse_eq, show (u.bump 0xF000 4 1).refusalNoted a 0x0302 = u.bump 0xF000 4 1 by simp [State.refusalNoted]]
  exact (((h.bump 0xF000 4 1 (ho _ (by decide))).put 0x1082 1 _ (ho _ (by decide))).put 0x1082 2 _ (ho _ (by decide))).put 0x1082 3 _
    (ho _ (by decide))

/-- A value that the row of an object does not take is refused with 0x0302, once the checks before it have passed (Table 5.5). -/
theorem State.writeRow_value_refused {s : State} {r : Row} {a : Acc} {o : Octets} {ty : Option Nat} (hhead : s.headCode r a o.length ty = 0)
    (hforced : forcedLevel a (octetsVal r.ty o) = false) (hvalue : s.valueOk r a.idx a.sub (maskVal r (octetsVal r.ty o)) = false) :
    (s.writeRow r a o ty).1 = 0x0302 := by
  simp [State.writeRow, hhead, hforced, hvalue]

section
variable {s : State} {w : Who} {v : BitVec 32}

/-- Another value than the key is none that the row of 2123h:0 takes (R212, R337). -/
theorem serveWrite_clearAll_refused (hv : v ≠ 0x434C5241#32) (hlcs : accessWithheld s.sec.lcs 0x2123 0 true = false)
    (hlevel : 1 ≤ (s.access w 0x2123 0).level) :
    s.serveWrite (pathNo w.path) (s.requester w) 0x2123 0 (operand 0x2123 0 v.toNat) none =
      (0x0302, (s.accepted w).refuse (s.access w 0x2123 0) 0x0302) := by
  have hhead : (s.accepted w).headCode clearAllRow (s.access w 0x2123 0) (operand 0x2123 0 v.toNat).length none = 0 := by
    have hwithheld : accessWithheld (s.accepted w).sec.lcs 0x2123 0 true = false := by
      rw [show (s.accepted w).sec = s.sec from State.accept_sec ..]
      exact hlcs
    have hserved : ¬ (s.access w 0x2123 0).level < (s.accepted w).writeLevel clearAllRow (s.access w 0x2123 0) := Nat.not_lt.2 hlevel
    exact (if_neg (ne_true_of_eq_false hwithheld)).trans (if_neg hserved)
  have hvalue : (s.accepted w).valueOk clearAllRow 0x2123 0 (storedVal clearAllRow 0x2123 0 v.toNat) = false := by
    have hne : v.toNat ≠ 0x434C5241 := fun h => hv (BitVec.eq_of_toNat_eq h)
    rw [storedVal_u32 findRow_clearAll rfl rfl v.isLt]
    simp [State.valueOk, acceptOk, clearAllRow, valNum, hne]
  have hcode : ((s.accepted w).writeRow clearAllRow (s.access w 0x2123 0) (operand 0x2123 0 v.toNat) none).1 = 0x0302 :=
    State.writeRow_value_refused hhead rfl hvalue
  refine State.serveWrite_refused (by decide) ?_ (by decide)
  rw [State.serveWrite_of_row findRow_clearAll, hcode]
  rfl

/-- The objects of an access that is refused for its value lie outside the tree. -/
theorem refusedValue_offTree : OffTree (accessObjects ++ refusalObjects) := by
  unfold OffTree
  decide

theorem clearAll_refused (halone : Alone s) (hv : v ≠ 0x434C5241#32) (hserved : Served s w)
    (hlcs : accessWithheld s.sec.lcs 0x2123 0 true = false) (hlevel : 1 ≤ (s.access w 0x2123 0).level) :
    exec (.clearAll w v) s = .next (s.refusedEnd w 0x2123 0 0x0302) :=
  exec_dictWrite_refused (idx := 0x2123) (sub := 0) (ty := none) halone hserved (serveWrite_clearAll_refused hv hlcs hlevel)

theorem refusedEnd_tree {i a : Nat} (hlo : 0x2101 ≤ i) (hhi : i < 0x3000) (ha : a < 256) (hd : defaultVal i a = .num 0) :
    (s.refusedEnd w 0x2123 0 0x0302).z i a = s.z i a := by
  have hframe : Frame [.acc] (accessObjects ++ refusalObjects) s ((s.accepted w).refuse (s.access w 0x2123 0) 0x0302) :=
    (Frame.accepted s w).refuse_value _
  rw [State.refusedEnd, State.ended_z _ _ (by unfold key; omega), State.emit_z, hframe.tree_z refusedValue_offTree hlo hhi ha hd]

end

/-- The key clears the tree, and another value leaves it (R337). -/
theorem clearAllClearsTheTree : Claims.ClearAllClearsTheTree := by
  intro s w halone
  refine ⟨fun h => clearAll_completes halone h fun br hbr => ⟨?_, fun ci n d j hchild hj => ?_⟩, fun v hv hserved hlcs hlevel => ?_⟩
  · have hcleared := (s.accepted w).treeCleared_own hbr
    rwa [s.accepted_held, raisedNow_accepted, s.accepted_tree w (by omega) (by decide) (causeObject_default br hbr).1,
      ← s.clearedEnd_tree w _ (by omega) (by decide)] at hcleared
  · have hcleared := (s.accepted w).treeCleared_child hbr hchild hj
    have hbounds := childOf_bounds hchild
    rwa [s.accepted_held, raisedNow_accepted, s.accepted_tree w hbounds.1 (by omega) (causeChild_zero hbr hchild hj),
      ← s.clearedEnd_tree w _ hbounds.1 (by omega)] at hcleared
  · refine ⟨_, clearAll_refused halone hv hserved hlcs hlevel, s.refusedEnd_answer .., fun br hbr => ?_, fun br ci n d j hchild hj => ?_⟩
    · exact refusedEnd_tree (by omega) (by omega) (by decide) (causeObject_default br hbr).1
    · have hcases := childOf_cases hchild
      exact refusedEnd_tree (by omega) (by omega) (by omega) (causeChild_zero (by omega) hchild hj)

/-! ### The test of ALERT_N -/

/-- The row of 2122h:2 (Table 8.2). -/
def pinTestRow : Row := ⟨0x2122, 0x2122, 2, 2, .bool, .l, 0, 2, 0, .any, 0xff, 1⟩

theorem findRow_pinTest : findRow 0x2122 2 = some pinTestRow := rfl

/-- The pin test is set, and the pin follows (R340). -/
def State.pinTested (s : State) (n : Nat) : State := (s.put 0x2122 2 n).alertSync

theorem State.liveEffect_pinTest {a : Acc} (hidx : a.idx = 0x2122) (hsub : a.sub = 2) (u : State) (n : Nat) :
    u.liveEffect a (.num n) = (u.rewritten (key 0x2122 2)).pinTested n := by
  obtain ⟨path, req, level, idx, sub⟩ := a
  subst hidx hsub
  rfl

theorem storedVal_pinTest (v : BitVec 8) : storedVal pinTestRow 0x2122 2 v.toNat = .num v.toNat := by
  rw [storedVal_num _ findRow_pinTest (by decide) (by decide)]
  show Val.num (v.toNat % 2 ^ 8 &&& 2 ^ 8 - 1) = _
  rw [Nat.mod_eq_of_lt v.isLt, Nat.and_two_pow_sub_one_of_lt_two_pow v.isLt]

/-- The summary is read from the cause objects, the masks and the children. -/
theorem summary_of_words {s t : State} (hown : ∀ br < 16, t.z (0x2101 + br) 0 = s.z (0x2101 + br) 0)
    (hmask : ∀ br < 16, t.z (0x2111 + br) 0 = s.z (0x2111 + br) 0)
    (hchildren : ∀ br ci n d j, childOf br = some (ci, n, d) → j < n → t.z ci (j + 1) = s.z ci (j + 1)) : t.summary = s.summary := by
  have haggregate : ∀ br, aggregate t.z br = aggregate s.z br := fun br => by
    unfold aggregate
    split
    · next ci n d hchild =>
      refine congrArg List.sum (List.map_congr_left fun j hj => ?_)
      rw [hchildren br ci n d j hchild (List.mem_range.1 hj)]
    · rfl
  unfold State.summary summaryOf
  refine congrArg List.sum (List.map_congr_left fun br hbr => ?_)
  have hbr : br < 16 := List.mem_range.1 hbr
  rw [State.cause, State.cause, State.mask, State.mask, hown br hbr, hmask br hbr, haggregate]

/-- The objects that a test of the pin may change. -/
def pinTestObjects : List (Nat × Nat) := accessObjects ++ [(0x2122, 2)]

section
variable {parts : List Part} {s u : State}

theorem Frame.pinTest_summary (h : Frame parts pinTestObjects s u) : u.summary = s.summary := by
  have hword : ∀ i a, i < 0x3000 → i ≠ 0x2122 → a < 256 → defaultVal i a = .num 0 → u.z i a = s.z i a := fun i a hi hpin ha hd =>
    h.z_eq ha (by simp [pinTestObjects, accessObjects]; omega) (fun heq => by have := congrArg Prod.fst heq; omega) hd
  refine summary_of_words (fun br hbr => ?_) (fun br hbr => ?_) (fun br ci n d j hchild hj => ?_)
  · exact hword _ _ (by omega) (by omega) (by decide) (causeObject_default br hbr).1
  · exact hword _ _ (by omega) (by omega) (by decide) (causeObject_default br hbr).2
  · have hcases := childOf_cases hchild
    exact hword _ _ (by omega) (by omega) (by omega) (causeChild_zero (by omega) hchild hj)

/-- The pin under test: beside the test itself, the latch, the boot and the tree drive it as before (R340, R353). -/
theorem Frame.pinTest_alertN (h : Frame parts pinTestObjects s u) (hup : s.up = true) (hboot : .boot ∉ parts := by decide)
    (hlatch : .latch ∉ parts := by decide) : u.alertN =
      (decide (s.latchSummary ≠ 0) || (decide (7 ≤ s.boot.step) && (decide (s.summary ≠ 0) || decide (u.z 0x2122 2 = 1)))) := by
  have hstep : u.boot = s.boot := h.part _ hboot
  obtain ⟨hlatched, -, hmasks⟩ : u.alerts.latch = s.alerts.latch ∧ u.alerts.badParity = s.alerts.badParity ∧ u.alerts.masks = s.alerts.masks :=
    h.part _ hlatch
  have hlatch : u.latchSummary = s.latchSummary := by
    unfold State.latchSummary State.latchCause State.latchWord
    rw [hlatched, hmasks]
  unfold State.alertN
  rw [h.up_eq hboot, hup, hlatch, hstep, h.pinTest_summary, Bool.true_and]

end

/-- A test of ALERT_N drives it, or lets it follow the tree, and touches no cause (R340). -/
theorem pinTestDrivesThePin : Claims.PinTestDrivesThePin := by
  intro s w v halone h
  have ⟨_, _, hgood, _⟩ := h
  have heff : (s.accepted w).liveEffect (s.access w 0x2122 2) (storedVal pinTestRow 0x2122 2 v.toNat) = (s.accepted w).pinTested v.toNat := by
    rw [storedVal_pinTest, State.liveEffect_pinTest rfl rfl, State.rewritten_eq ((s.knownBad_accepted w 0x2122 2).trans hgood)]
  have hframe : Frame [.acc, .out] pinTestObjects s ((s.accepted w).pinTested v.toNat) := ((Frame.accepted s w).put 0x2122 2 v.toNat).alertSync
  have htest : (((s.accepted w).pinTested v.toNat).answered w).z 0x2122 2 = v.toNat := by
    rw [State.answered_z _ _ (by decide), State.pinTested, State.alertSync_z _ _ _ (by decide), State.z_put, if_pos rfl]
  have hdriven := (s.ended_follows (((s.accepted w).pinTested v.toNat).answered w)).1.trans
    ((State.ended_alertN ..).trans ((hframe.answered w).pinTest_alertN (State.up_of_accepted h)))
  rw [htest] at hdriven
  refine completes_of_access rfl findRow_pinTest rfl (by decide) halone h heff hframe ⟨?_, fun hone hstep => ?_, fun hzero => ?_⟩
  · rw [State.ended_z, htest]
  · rw [hdriven, hone, decide_eq_true hstep]
    simp
  · rw [hdriven, hzero]
    simp

/-- Settles O21: a clear is a list of words of which each loses the named bits that no event of its MGT cycle has set; a wrong key is refused
by the row of 2123h:0; and the test of the pin leaves all that the summaries are read from. -/
theorem causesAreClearedAndThePinTested : Obligations.CausesAreClearedAndThePinTested :=
  ⟨causesAreClearedByWritingOnes, clearAllClearsTheTree, pinTestDrivesThePin⟩

end Sys2Proof.Machine
end

section
/-! PROOF. Olelle ports in a frame: what counting, raising a cause and sending on a port change (Tables 8.4, 9.12, 9.13), and how a command
ends on a device whose pair and home it leaves alone. -/
set_option Elab.async false
namespace Sys2Proof.Machine

/-! ### The state of a port -/

theorem State.port_congr {s t : State} (h : t.ports = s.ports) (p : Nat) : t.port p = s.port p :=
  congrArg (fun m : Map PortSt => mgetD m p {}) h

@[simp] theorem State.port_emit (s : State) (o : Output) (q : Nat) : (s.emit o).port q = s.port q := rfl
@[simp] theorem State.port_bumpPort (s : State) (p k q : Nat) : (s.bumpPort p k).port q = s.port q := rfl
@[simp] theorem State.port_setCause (s : State) (br b q : Nat) : (s.setCause br b).port q = s.port q := State.port_congr (by simp) q
@[simp] theorem State.port_setPortCause (s : State) (p b q : Nat) : (s.setPortCause p b).port q = s.port q := State.port_congr (by simp) q
@[simp] theorem State.port_elapseTo (s : State) (t q : Nat) : (s.elapseTo t).port q = s.port q := State.port_congr (by simp) q

/-! ### Counts and causes of a port -/

/-- The objects that raising a cause of a port may change (Table 8.4, R333, R338, R343). -/
def portCauseObjects (p : Nat) : List (Nat × Nat) := [(0x2140, p + 1), (0xF018, 6), (0xF018, 18)]

theorem State.z_bumpPort (s : State) {p k : Nat} (hk : 2 < k) :
    (s.bumpPort p k).z 0xF040 (16 * p + k) = min (s.z 0xF040 (16 * p + k) + 1) (2 ^ 32 - 1) := by
  rw [State.bumpPort, State.z_bumpW, if_pos rfl, if_neg (by omega)]

/-- A cause of a port that MGT sees sets its bit (R333). -/
theorem State.setPortCause_z {s : State} {p : Nat} (b : Nat) (hp : p < 6) (h : s.mgtFast = true) :
    (s.setPortCause p b).z 0x2140 (p + 1) = s.z 0x2140 (p + 1) ||| 2 ^ b :=
  s.setWord_z 5 _ _ _ h (by unfold key; omega) (by unfold key; omega)

section
variable {parts : List Part} {objs : List (Nat × Nat)} {s u : State}

theorem Frame.bumpPort (h : Frame parts objs s u) (p k : Nat) (hm : (0xF040, 16 * p + k) ∈ objs) (ha : 16 * p + k < 256) :
    Frame parts objs s (u.bumpPort p k) := h.putVal _ _ _ hm ha

/-- A cause of a port changes the latch, the port's cause word and the counts of its branch. -/
theorem Frame.setPortCause (h : Frame parts objs s u) {p : Nat} (b : Nat) (hp : p < 6) (ho : ∀ x ∈ portCauseObjects p, x ∈ objs)
    (hm : .latch ∈ parts := by decide) : Frame parts objs s (u.setPortCause p b) := by
  have hne : ∀ {i a : Nat} {x : Nat × Nat}, a < 256 → (i, a) ∉ objs → x ∈ portCauseObjects p → x.2 < 256 →
      key i a ≠ key x.1 x.2 := by
    intro i a x ha hi hx hlt hkey
    obtain ⟨rfl, rfl⟩ := (key_inj ha hlt).1 hkey
    exact hi (ho _ hx)
  refine ⟨fun q hq => ?_, fun i a ha hi h17 => ?_⟩
  · have hu := h.part q hq
    cases q with
    | latch => exact absurd hm hq
    | acc => exact ⟨(u.setWord_accRest ..).trans hu.1, fun k => (quietPath_setWord _ _ _ _ _ k).trans (hu.2 k)⟩
    | _ => simpa [Part.same] using hu
  · have hassert : key i a ≠ key 0xF018 17 := fun hkey => h17 (by obtain ⟨rfl, rfl⟩ := (key_inj ha (by decide)).1 hkey; rfl)
    refine (u.setWord_val 5 0x2140 (p + 1) _ i a hassert ?_ ?_ ?_).trans (h.val i a ha hi h17)
    · exact hne (x := (0xF018, 6)) ha hi (by simp [portCauseObjects]) (by decide)
    · exact hne (x := (0xF018, 18)) ha hi (by simp [portCauseObjects]) (by decide)
    · exact hne (x := (0x2140, p + 1)) ha hi (by simp [portCauseObjects]) (show p + 1 < 256 by omega)

end

/-! ### Control messages (R370) -/

theorem port_sendSeqFlit (p ftype cont : Nat) (slots : Octets) (s : State) : (sendSeqFlit p ftype cont slots s).port p =
    { s.port p with
      held := (s.port p).held ++
        [((s.port p).txSeq, flitOctets (s.port p) ftype (s.port p).txSeq cont false (creditOctets (s.port p).creditDue) slots)]
      txSeq := ((s.port p).txSeq + 1) % 1024
      creditRet := creditTotals (s.port p).creditDue (s.port p).creditRet
      creditDue := creditRest (s.port p).creditDue } := by
  simp [sendSeqFlit]

/-- A control message leaves at once while fewer than 256 flits are held and none waits before it. -/
theorem sendCtrl_of_room {p : Nat} {s : State} (hheld : (s.port p).held.length < 256) (hnone : (s.port p).ctrlq = []) (ctype flags epochNo : Nat) :
    sendCtrl p ctype flags epochNo s = sendCtrlNow p ctype flags epochNo s :=
  if_pos ⟨hheld, by rw [hnone]; rfl⟩

theorem sendCtrl_of_full {p : Nat} {s : State} (hheld : 256 ≤ (s.port p).held.length) (ctype flags epochNo : Nat) :
    sendCtrl p ctype flags epochNo s = s.setPort p { s.port p with ctrlq := (s.port p).ctrlq ++ [(ctype, flags, epochNo)] } :=
  if_neg fun hroom => Nat.not_lt.2 hheld hroom.1

theorem sendCtrlNow_out (p ctype flags epochNo : Nat) (s : State) : ∃ o, (sendCtrlNow p ctype flags epochNo s).out = .flit p o :: s.out := by
  unfold sendCtrlNow
  dsimp only
  split <;> exact ⟨_, rfl⟩

/-- Sending a control message leaves the phase and the state of the port as they are. -/
theorem sendCtrl_phase (p ctype flags epochNo : Nat) (s : State) :
    ((sendCtrl p ctype flags epochNo s).port p).phase = (s.port p).phase ∧ ((sendCtrl p ctype flags epochNo s).port p).st = (s.port p).st := by
  unfold sendCtrl
  dsimp only
  split
  · unfold sendCtrlNow
    dsimp only
    split <;> simp [port_sendSeqFlit]
  · simp

section
variable {parts : List Part} {objs : List (Nat × Nat)} {s u : State}

theorem Frame.sendSeqFlit (h : Frame parts objs s u) {p : Nat} (ftype cont : Nat) (slots : Octets) (hp : p < 6) (ho : (0xF040, 16 * p + 2) ∈ objs)
    (hports : .ports ∈ parts := by decide) (hout : .out ∈ parts := by decide) : Frame parts objs s (sendSeqFlit p ftype cont slots u) :=
  ((h.setPort _ _ hports).bumpPort p 2 ho (by omega)).emit _ hout

theorem Frame.sendCtrl (h : Frame parts objs s u) {p : Nat} (ctype flags epochNo : Nat) (hp : p < 6) (ho : (0xF040, 16 * p + 2) ∈ objs)
    (hports : .ports ∈ parts := by decide) (hout : .out ∈ parts := by decide) : Frame parts objs s (sendCtrl p ctype flags epochNo u) :=
  (((h.setPort _ _ hports).ite h).sendSeqFlit _ _ _ hp ho hports hout).ite (h.setPort _ _ hports)

/-! ### The end of a command -/

/-- On a lone device a command that leaves the pair and the home as they are ends with its own updates. -/
theorem Frame.exec_eq (h : Frame parts objs s u) (halone : Alone s) {c : Instr} {v : State} (hmeaning : v = u) (hc : exec c s = s.ends v.settle)
    (hpair : .pair ∉ parts := by decide) (hcoh : .coh ∉ parts := by decide) : exec c s = s.ends u := by
  rw [hc, hmeaning, h.settle_eq halone hpair hcoh]

theorem Frame.completes (h : Frame parts objs s u) (halone : Alone s) {c : Instr} {v : State} (hmeaning : v = u)
    (hc : exec c s = s.ends v.settle) {P : State → Prop} (hP : P (s.ended u)) (hpair : .pair ∉ parts := by decide)
    (hcoh : .coh ∉ parts := by decide) : Completes c s parts objs P :=
  completes_of_frame (h.exec_eq halone hmeaning hc hpair hcoh) h hP

theorem Frame.completesWithin (h : Frame parts objs s u) (halone : Alone s) {c : Instr} {v : State} (hmeaning : v = u)
    (hc : exec c s = s.ends v.settle) {P : State → Prop} (hP : P (s.ended u)) (hpair : .pair ∉ parts := by decide)
    (hcoh : .coh ∉ parts := by decide) : CompletesWithin c s parts P :=
  completesWithin_of_ends (h.exec_eq halone hmeaning hc hpair hcoh) h.part hP

end

end Sys2Proof.Machine
end

section
/-! PROOF. The phases of a training attempt that succeed (R358-R362). -/
set_option Elab.async false
namespace Sys2Proof.Machine

/-! ### Phases 1 and 2 -/

theorem portPllLocked_completes {s : State} {p : Fin 6} (halone : Alone s) (hphase : (s.port p.val).phase = 1) :
    Completes (.portPllLocked p true) s [.clk, .ports] [] fun t =>
      t.port p.val = { s.port p.val with phase := 2 } ∧ (t.pll (.port p)).locked = true ∧ (t.dom (.lnk p)).running = true := by
  have hmeaning : s.portPllLocked p true =
      ((s.setPll (.port p) { s.pll (.port p) with started := true, locked := true }).bootSwitch (.lnk p)).setPort p.val
        { s.port p.val with phase := 2 } := by
    simp [State.portPllLocked, hphase]
  refine ((((Frame.refl s).setPll _ _).setDom (.lnk p) _).setPort _ _).completes halone hmeaning rfl ⟨?_, ?_, ?_⟩
  · rw [State.ended_port, State.port_setPort, if_pos rfl]
  · rw [State.ended_pll]
    show ((s.setPll (.port p) _).pll (.port p)).locked = true
    rw [State.pll_setPll, if_pos rfl]
  · rw [State.ended_dom]
    show (((s.setPll _ _).setDom (.lnk p) _).dom (.lnk p)).running = true
    rw [State.dom_setDom, if_pos rfl]

theorem sidebandInitialisationDone_completes {s : State} {p : Fin 6} (halone : Alone s) (hphase : (s.port p.val).phase = 2) :
    Completes (.sidebandInitialisationDone p true) s [.ports] [] fun t => t.port p.val = { s.port p.val with phase := 3 } := by
  have hmeaning : s.sidebandReady p.val true = s.setPort p.val { s.port p.val with phase := 3 } := by
    simp [State.sidebandReady, hphase]
  refine ((Frame.refl s).setPort _ _).completes halone hmeaning rfl ?_
  rw [State.ended_port, State.port_setPort, if_pos rfl]

/-! ### Phase 3 -/

/-- A narrower width of P4 or P5 (Table 9.2). -/
def narrowWidth (p width : Nat) : Bool := decide (4 ≤ p) && decide (width = 1)

/-- The port as its main band has trained. -/
def PortSt.banded (x : PortSt) (p rate width mx : Nat) (rep : Bool) : PortSt :=
  { x with
    phase := 4, st := 3, rate := min rate mx, width := width, repaired := rep, wasRepaired := rep, wasNarrow := narrowWidth p width }

/-- Repair or a narrower width is new with this training (R358). -/
def PortSt.degrades (x : PortSt) (p width : Nat) (rep : Bool) : Bool :=
  (rep && !x.wasRepaired) || (narrowWidth p width && !x.wasNarrow)

theorem PortSt.degrades_iff (x : PortSt) (p width : Nat) (rep : Bool) :
    x.degrades p width rep = true ↔ rep = true ∧ x.wasRepaired = false ∨ 4 ≤ p ∧ width = 1 ∧ x.wasNarrow = false := by
  simp [PortSt.degrades, narrowWidth, and_assoc]

/-- The main band has trained: DEGRADE where repair or a narrower width is new, and OCAP is read (R358). -/
def State.bandTrained (s : State) (p rate width : Nat) (rep : Bool) : State :=
  let t := s.setPort p ((s.port p).banded p rate width (s.n 0x7001 (p + 1)) rep)
  (if (s.port p).degrades p width rep then t.setPortCause p 1 else t).emit (.sideband p 0 0x0F00 0)

theorem State.mainband_ok {s : State} {p : Nat} {rate : Fin 6} {width : Fin 4} {rep : Bool} (hphase : (s.port p).phase = 3)
    (hsubset : inSubset p width.val rep = true) : s.mainband p (.ok rate width rep) = s.bandTrained p rate.val width.val rep := by
  simp only [State.mainband, hphase, hsubset, ne_eq, not_true_eq_false, if_false, Bool.not_true, Bool.false_eq_true]
  rfl

theorem State.bandTrained_frame (s : State) {p : Nat} (hp : p < 6) (rate width : Nat) (rep : Bool) :
    Frame [.ports, .out, .latch] (portCauseObjects p) s (s.bandTrained p rate width rep) := by
  have hbanded := (Frame.refl (parts := [.ports, .out, .latch]) (objs := portCauseObjects p) s).setPort p
    ((s.port p).banded p rate width (s.n 0x7001 (p + 1)) rep)
  exact ((hbanded.setPortCause 1 hp fun _ hx => hx).ite hbanded).emit _

theorem State.bandTrained_port (s : State) (p rate width : Nat) (rep : Bool) :
    (s.bandTrained p rate width rep).port p = (s.port p).banded p rate width (s.n 0x7001 (p + 1)) rep := by
  unfold State.bandTrained
  dsimp only
  split <;> simp

theorem State.bandTrained_out (s : State) (p rate width : Nat) (rep : Bool) :
    (s.bandTrained p rate width rep).out = .sideband p 0 0x0F00 0 :: s.out := by
  unfold State.bandTrained
  dsimp only
  split <;> simp [State.emit]

/-- DEGRADE is set where repair or a narrower width is new, and the port's other causes stay. -/
theorem State.bandTrained_cause {s : State} {p : Nat} (hp : p < 6) (rate width : Nat) (rep : Bool) (hfast : s.mgtFast = true) :
    (s.bandTrained p rate width rep).z 0x2140 (p + 1) =
      if (s.port p).degrades p width rep then s.z 0x2140 (p + 1) ||| 2 else s.z 0x2140 (p + 1) := by
  unfold State.bandTrained
  dsimp only
  split
  · exact State.setPortCause_z (s := s.setPort p _) 1 hp hfast
  · rfl

theorem mainbandTrainingDone_completes {s : State} {p : Fin 6} (rate : Fin 6) (width : Fin 4) (rep : Bool) (halone : Alone s)
    (hphase : (s.port p.val).phase = 3) (hsubset : inSubset p.val width.val rep = true) (hfast : s.mgtFast = true) :
    CompletesWithin (.mainbandTrainingDone p (.ok rate width rep)) s [.ports, .out, .latch] fun t =>
      (t.port p.val).phase = 4 ∧ (t.port p.val).st = 3 ∧ (t.port p.val).width = width.val ∧ (t.port p.val).repaired = rep ∧
      (t.port p.val).rate = min rate.val (s.n 0x7001 (p.val + 1)) ∧ t.out = .sideband p.val 0 0x0F00 0 :: s.out ∧
      t.z 0x2140 (p.val + 1) =
        if rep = true ∧ (s.port p.val).wasRepaired = false ∨ 4 ≤ p.val ∧ width.val = 1 ∧ (s.port p.val).wasNarrow = false then
          s.z 0x2140 (p.val + 1) ||| 2
        else s.z 0x2140 (p.val + 1) := by
  refine (s.bandTrained_frame p.isLt rate.val width.val rep).completesWithin halone (State.mainband_ok hphase hsubset) rfl ?_
  rw [State.ended_port, State.bandTrained_port]
  refine ⟨rfl, rfl, rfl, rfl, rfl, ?_, ?_⟩
  · rw [State.ended_out, State.bandTrained_out]
  · rw [State.ended_z _ _ (by unfold key; omega), State.bandTrained_cause p.isLt rate.val width.val rep hfast]
    exact if_congr (PortSt.degrades_iff ..) rfl rfl

/-! ### Phase 4 -/

/-- The port as its generation has been chosen from OCAP (R360, Table 9.6). -/
def PortSt.negotiated (x : PortSt) (p gen ocap : Nat) : PortSt :=
  { x with
    phase := 5, gen := gen, sidBase := 16 * (p + 1), agents := bits ocap 4 4 + 1
    tap := bit ocap 8, caching := bit ocap 9 && decide (2 ≤ gen), home := bit ocap 10 }

/-- OCAP has been read, with a cause where the generation chosen from it is below the port's minimum (R360). -/
def State.genFound (s : State) (p gen ocap : Nat) : State :=
  let t := s.setPort p { s.port p with ocap := ocap }
  if gen < t.n 0x7002 (p + 1) then t.setPortCause p 6 else t

/-- The generation is taken, and OSET is written (R361). -/
def State.genChosen (s : State) (p gen ocap : Nat) : State :=
  let t := s.genFound p gen ocap
  (t.setPort p ((t.port p).negotiated p gen ocap)).emit
    (.sideband p 1 0x0F04 (16 * (p + 1) * 2 ^ 24 + (bits ocap 4 4 + 1 - 1) * 2 ^ 20 + 2 ^ 16 + gen))

theorem State.genFound_port (s : State) (p gen ocap : Nat) : (s.genFound p gen ocap).port p = { s.port p with ocap := ocap } := by
  unfold State.genFound
  dsimp only
  split <;> simp

theorem State.genChosen_port (s : State) (p gen ocap : Nat) :
    (s.genChosen p gen ocap).port p = PortSt.negotiated { s.port p with ocap := ocap } p gen ocap := by
  rw [State.genChosen, State.port_emit, State.port_setPort, if_pos rfl, State.genFound_port]

theorem State.genChosen_frame (s : State) {p : Nat} (hp : p < 6) (gen ocap : Nat) :
    Frame [.ports, .out, .latch] (portCauseObjects p) s (s.genChosen p gen ocap) := by
  have hread := (Frame.refl (parts := [.ports, .out, .latch]) (objs := portCauseObjects p) s).setPort p { s.port p with ocap := ocap }
  exact (((hread.setPortCause 6 hp fun _ hx => hx).ite hread).setPort _ _).emit _

theorem State.ocapRead_chosen {s : State} {p ocap : Nat} (hphase : (s.port p).phase = 4) (hid : bits ocap 16 16 = 0x4F4C)
    (hgens : bits ocap 0 3 ≠ 0) (hgen : pickGen (bits ocap 0 3) (s.n 0x7003 (p + 1)) ≠ 0) :
    s.ocapRead p ocap = s.genChosen p (pickGen (bits ocap 0 3) (s.n 0x7003 (p + 1))) ocap :=
  (if_neg (not_not_intro hphase)).trans ((if_neg (not_or.2 ⟨not_not_intro hid, hgens⟩)).trans (if_neg hgen))

theorem ocapReadDone_completes {s : State} {p : Fin 6} {ocap : BitVec 32} (halone : Alone s) (hphase : (s.port p.val).phase = 4)
    (hid : bits ocap.toNat 16 16 = 0x4F4C) (hgens : bits ocap.toNat 0 3 ≠ 0)
    (hgen : pickGen (bits ocap.toNat 0 3) (s.n 0x7003 (p.val + 1)) ≠ 0) :
    CompletesWithin (.ocapReadDone p ocap) s [.ports, .out, .latch] fun t =>
      (t.port p.val).phase = 5 ∧ (t.port p.val).gen = pickGen (bits ocap.toNat 0 3) (s.n 0x7003 (p.val + 1)) ∧
      (t.port p.val).sidBase = 16 * (p.val + 1) ∧ (t.port p.val).agents = bits ocap.toNat 4 4 + 1 ∧ (t.port p.val).ocap = ocap.toNat := by
  refine (s.genChosen_frame p.isLt _ ocap.toNat).completesWithin halone (State.ocapRead_chosen hphase hid hgens hgen) rfl ?_
  rw [State.ended_port, State.genChosen_port]
  exact ⟨rfl, rfl, rfl, rfl, rfl⟩

/-! ### Phase 5 -/

theorem osetWriteDone_completes {s : State} {p : Fin 6} (halone : Alone s) (hphase : (s.port p.val).phase = 5) :
    Completes (.osetWriteDone p) s [.ports, .out] [(0xF040, 16 * p.val + 2)] fun t =>
      (t.port p.val).phase = 6 ∧ (t.port p.val).st = 4 ∧
      ((s.port p.val).held.length < 256 → (s.port p.val).ctrlq = [] →
        ∃ o, t.out = .sideband p.val 0 0x0F08 0 :: .flit p.val o :: s.out) ∧
      (256 ≤ (s.port p.val).held.length →
        t.out = .sideband p.val 0 0x0F08 0 :: s.out ∧ (t.port p.val).ctrlq = (s.port p.val).ctrlq ++ [(1, 0, 0)]) := by
  generalize hgo : s.setPort p.val { s.port p.val with phase := 6, st := 4 } = v
  have hport : v.port p.val = { s.port p.val with phase := 6, st := 4 } := by rw [← hgo, State.port_setPort, if_pos rfl]
  have hout : v.out = s.out := by rw [← hgo]; rfl
  have hmeaning : s.osetDone p.val = (sendCtrl p.val 1 0 0 v).emit (.sideband p.val 0 0x0F08 0) := by
    rw [← hgo]; exact if_neg (not_not_intro hphase)
  have hframe : Frame [.ports, .out] [(0xF040, 16 * p.val + 2)] s ((sendCtrl p.val 1 0 0 v).emit (.sideband p.val 0 0x0F08 0)) := by
    rw [← hgo]
    exact (((Frame.refl s).setPort _ _).sendCtrl _ _ _ p.isLt (List.mem_singleton_self _)).emit _
  refine hframe.completes halone hmeaning rfl ?_
  obtain ⟨hsix, hinit⟩ := sendCtrl_phase p.val 1 0 0 v
  rw [State.ended_port, State.ended_out, State.port_emit]
  refine ⟨by rw [hsix, hport], by rw [hinit, hport], fun hheld hnone => ?_, fun hfull => ?_⟩
  · obtain ⟨o, ho⟩ := sendCtrlNow_out p.val 1 0 0 v
    rw [sendCtrl_of_room (by rw [hport]; exact hheld) (by rw [hport]; exact hnone)]
    exact ⟨o, by rw [State.emit, ho, hout]⟩
  · rw [sendCtrl_of_full (by rw [hport]; exact hfull), State.port_setPort, if_pos rfl, hport]
    exact ⟨by rw [State.emit, State.setPort_out, hout], rfl⟩

/-! ### Phase 6 -/

/-- What a pass over a list of keys has listed is read at each of them. -/
theorem mgetD_map_of_mem {α : Type} (f : Nat → α) (d : α) {l : List Nat} {k : Nat} (hk : k ∈ l) :
    mgetD (l.map fun v => (v, f v)) k d = f k := by
  induction l with
  | nil => cases hk
  | cons v l ih =>
    by_cases hv : k = v
    · simp [mgetD, mget, hv]
    · have hrest := ih ((List.mem_cons.1 hk).resolve_left hv)
      simpa [mgetD, mget, hv] using hrest

/-- Training completes where CRINIT and READY have both come (R362). -/
theorem State.trainingDone_port (s : State) (p : Nat) : (s.trainingDone p).port p =
    if (s.port p).crinitIn = true ∧ (s.port p).ready = true ∧ (s.port p).phase = 6 then
      { s.port p with st := 5, phase := 0, result := 1, trainedAt := s.time.tick }
    else s.port p := by
  unfold State.trainingDone
  dsimp only
  split <;> simp

theorem Frame.trainingDone {parts : List Part} {objs : List (Nat × Nat)} {s u : State} (h : Frame parts objs s u) {p : Nat} (hp : p < 6)
    (ho : (0xF040, 16 * p + 7) ∈ objs) (hports : .ports ∈ parts := by decide) : Frame parts objs s (u.trainingDone p) :=
  ((h.setPort _ _ hports).bumpPort p 7 ho (by omega)).ite h

theorem crinit_completes {s : State} {p : Fin 6} (credits : List Nat) (halone : Alone s) (hphase : (s.port p.val).phase = 6)
    (hnew : (s.port p.val).crinitIn = false) :
    Completes (.crinit p credits) s [.ports] [(0xF040, 16 * p.val + 7)] fun t =>
      (t.port p.val).crinitIn = true ∧ (∀ v, v < 8 → mgetD (t.port p.val).creditOut v 0 = min 4095 ((credits[v]?).getD 0)) ∧
      (t.port p.val).st = if (s.port p.val).ready then 5 else (s.port p.val).st := by
  have hcredits : ∀ v, v < 8 → mgetD ((List.range 8).map fun v => (v, min 4095 ((credits[v]?).getD 0))) v 0 = min 4095 ((credits[v]?).getD 0) :=
    fun v hv => mgetD_map_of_mem _ 0 (List.mem_range.2 hv)
  have hmeaning : s.crinit p.val credits = _ := if_pos ⟨hphase, by rw [hnew]; rfl⟩
  refine (((Frame.refl s).setPort _ _).trainingDone p.isLt (List.mem_singleton_self _)).completes halone hmeaning rfl ?_
  rw [State.ended_port, State.trainingDone_port, State.port_setPort, if_pos rfl]
  cases hready : (s.port p.val).ready <;> simpa [hready, hphase] using hcredits

/-- READY with CRINIT before it completes the training (R362). -/
theorem ostatReady_completes {s : State} {p : Fin 6} {ostat : BitVec 32} (halone : Alone s) (hphase : (s.port p.val).phase = 6)
    (herr : bit ostat.toNat 1 = false) (hready : bit ostat.toNat 0 = true) :
    Completes (.ostatReady p ostat) s [.ports] [(0xF040, 16 * p.val + 7)] fun t =>
      (t.port p.val).ready = true ∧ ((s.port p.val).crinitIn = true →
        (t.port p.val).st = 5 ∧ (t.port p.val).phase = 0 ∧ (t.port p.val).result = 1 ∧ (t.port p.val).trainedAt = s.time.tick) := by
  have hmeaning : s.ostat p.val ostat.toNat = (s.setPort p.val { s.port p.val with ready := true }).trainingDone p.val := by
    simp only [State.ostat, hphase, herr, hready, ne_eq, not_true_eq_false, Bool.false_eq_true, if_true, if_false]
  refine (((Frame.refl s).setPort _ _).trainingDone p.isLt (List.mem_singleton_self _)).completes halone hmeaning rfl ?_
  rw [State.ended_port, State.trainingDone_port, State.port_setPort, if_pos rfl]
  cases hcrinit : (s.port p.val).crinitIn <;> simp [hcrinit, hphase]

/-- Without READY and ERR, OSTAT is read again (R359). -/
theorem ostatReady_rereads {s : State} {p : Fin 6} {ostat : BitVec 32} (halone : Alone s) (hphase : (s.port p.val).phase = 6)
    (herr : bit ostat.toNat 1 = false) (hready : bit ostat.toNat 0 = false) :
    Completes (.ostatReady p ostat) s [.out] [] fun t => t.out = .sideband p.val 0 0x0F08 0 :: s.out := by
  have hmeaning : s.ostat p.val ostat.toNat = s.emit (.sideband p.val 0 0x0F08 0) := by
    simp only [State.ostat, hphase, herr, hready, ne_eq, not_true_eq_false, Bool.false_eq_true, if_false]
  exact ((Frame.refl s).emit _).completes halone hmeaning rfl (State.ended_out ..)

/-- Settles O33: each phase is one change of its port, whose frame is read off its updates; nothing follows it on a lone device. -/
theorem trainingPassesItsPhases : Obligations.TrainingPassesItsPhases := fun _ _ halone =>
  ⟨portPllLocked_completes halone, sidebandInitialisationDone_completes halone,
    fun rate width rep => mainbandTrainingDone_completes rate width rep halone, fun _ => ocapReadDone_completes halone,
    osetWriteDone_completes halone, fun credits => crinit_completes credits halone, fun _ => ostatReady_completes halone,
    fun _ => ostatReady_rereads halone⟩

end Sys2Proof.Machine
end

section
/-! PROOF. Training attempts that fail, and the attempt after (R358, R359, R363, R386). -/
set_option Elab.async false
namespace Sys2Proof.Machine

/-! ### The end of a failed attempt -/

/-- The objects that the end of a failed attempt may change: the causes of the port and its count of failed attempts (Table 9.13). -/
def failObjects (p : Nat) : List (Nat × Nat) := (0xF040, 16 * p + 8) :: portCauseObjects p

/-- The link of a port whose attempt has failed at a real time: another follows after 100 µs, or the port is FAILED (R358, R363). -/
def PortSt.failed (x : PortSt) (limit now result : Nat) : PortSt :=
  if x.attempt < limit then { freshLink x 2 with result := result, attempt := x.attempt, retryAt := some (now + 100000) }
  else { freshLink x 9 with result := result, attempt := x.attempt }

theorem State.n_bumpPort (s : State) (p k i a : Nat) (hi : i < 0xF040) (ha : a < 256) : (s.bumpPort p k).n i a = s.n i a :=
  congrArg valNum (s.val_bumpW _ _ _ _ i a (by unfold key; omega))

/-- An attempt that fails is counted, and its port waits for the next one or is FAILED with cause TRAIN (R363, R386). -/
theorem State.failAttempt_eq (s : State) (p result : Nat) : s.failAttempt p result =
    (let t := (s.bumpPort p 8).setPort p ((s.port p).failed (s.n 0x7007 0) s.now result)
     if (s.port p).attempt < s.n 0x7007 0 then t else t.setPortCause p 0) := by
  unfold State.failAttempt PortSt.failed
  dsimp only
  rw [s.n_bumpPort p 8 0x7007 0 (by decide) (by decide)]
  split <;> rfl

theorem State.failAttempt_port (s : State) (p result : Nat) :
    (s.failAttempt p result).port p = (s.port p).failed (s.n 0x7007 0) s.now result := by
  rw [State.failAttempt_eq]
  dsimp only
  split <;> simp

theorem State.failAttempt_now (s : State) (p result : Nat) : (s.failAttempt p result).now = s.now := by
  rw [State.failAttempt_eq]
  dsimp only
  split <;> simp

theorem portFailures_default {p : Nat} (hp : p < 6) : defaultVal 0xF040 (16 * p + 8) = .num 0 := by
  interval_cases p <;> rfl

theorem State.failAttempt_counted (s : State) {p : Nat} (hp : p < 6) (result : Nat) :
    (s.failAttempt p result).z 0xF040 (16 * p + 8) = min (s.z 0xF040 (16 * p + 8) + 1) (2 ^ 32 - 1) := by
  have hset : ∀ x, ((s.bumpPort p 8).setPort p x).z 0xF040 (16 * p + 8) = min (s.z 0xF040 (16 * p + 8) + 1) (2 ^ 32 - 1) :=
    fun _ => s.z_bumpPort (by decide)
  rw [State.failAttempt_eq]
  dsimp only
  split
  · exact hset _
  · rw [← hset]
    exact ((Frame.refl (parts := [.latch]) _).setPortCause 0 hp fun _ hx => hx).z_eq (by omega) (by simp [portCauseObjects])
      (by simp) (portFailures_default hp)

theorem State.failAttempt_cause {s : State} {p : Nat} (hp : p < 6) (result : Nat) (hlast : s.n 0x7007 0 ≤ (s.port p).attempt)
    (hfast : s.mgtFast = true) : bit ((s.failAttempt p result).z 0x2140 (p + 1)) 0 = true := by
  rw [State.failAttempt_eq]
  dsimp only
  rw [if_neg (Nat.not_lt.2 hlast), State.setPortCause_z (s := (s.bumpPort p 8).setPort p _) 0 hp hfast]
  exact bit_or_two_pow _ 0

theorem Frame.failAttempt {parts : List Part} {objs : List (Nat × Nat)} {s u : State} (h : Frame parts objs s u) {p : Nat} (result : Nat)
    (hp : p < 6) (ho : ∀ x ∈ failObjects p, x ∈ objs) (hports : .ports ∈ parts := by decide) (hlatch : .latch ∈ parts := by decide) :
    Frame parts objs s (u.failAttempt p result) := by
  rw [State.failAttempt_eq]
  have hcounted := (h.bumpPort p 8 (ho _ List.mem_cons_self) (by omega)).setPort p ((u.port p).failed (u.n 0x7007 0) u.now result) hports
  exact hcounted.ite (hcounted.setPortCause 0 hp (fun x hx => ho x (List.mem_cons_of_mem _ hx)) hlatch)

/-! ### The commands that fail an attempt -/

/-- What the commands that fail an attempt may change before the failure: the port, time that passes, and causes of the LINK branch. -/
def beforeFailure : List (Nat × Nat) := clockObjects ++ causeObjects 5

/-- A command that fails the attempt of a port, whose link is `x` by then, ends with the failure. -/
theorem attemptFails {s v w : State} {p : Fin 6} {x : PortSt} {c : Instr} {result : Nat} (halone : Alone s)
    (hbefore : Frame [.ports, .now, .time, .latch] beforeFailure s v) (hport : v.port p.val = x) (hmeaning : w = v.failAttempt p.val result)
    (hc : exec c s = s.ends w.settle) :
    exec c s = .next (s.ended (v.failAttempt p.val result)) ∧ AttemptFailed s (s.ended (v.failAttempt p.val result)) p.val x result := by
  have hframe : Frame [.ports, .now, .time, .latch] (beforeFailure ++ failObjects p.val) s (v.failAttempt p.val result) :=
    Frame.failAttempt ⟨hbefore.part, fun i a ha hi => hbefore.val i a ha fun hmem => hi (List.mem_append_left _ hmem)⟩ result p.isLt
      fun _ hx => List.mem_append_right _ hx
  have hlimit : v.n 0x7007 0 = s.n 0x7007 0 := hbefore.n_eq
  have hcount : v.z 0xF040 (16 * p.val + 8) = s.z 0xF040 (16 * p.val + 8) :=
    hbefore.z_eq (by omega) (by simp [beforeFailure, clockObjects, causeObjects]) (by simp) (portFailures_default p.isLt)
  have hfailed := v.failAttempt_port p.val result
  rw [hport, hlimit] at hfailed
  refine ⟨hframe.exec_eq halone hmeaning hc, fun hmore => ?_, fun hlast => ⟨?_, fun hfast => ?_⟩, ?_⟩
  · rw [State.ended_port, State.ended_now, State.failAttempt_now, hfailed]
    exact if_pos hmore
  · rw [State.ended_port, hfailed]
    exact if_neg (Nat.not_lt.2 hlast)
  · rw [State.ended_z _ _ (by unfold key; omega)]
    exact State.failAttempt_cause p.isLt result (by rw [hport, hlimit]; exact hlast) (hbefore.mgtFast_eq.trans hfast)
  · rw [State.ended_z _ _ (by unfold key; omega), State.failAttempt_counted v p.isLt, hcount]

section
variable {s : State} {p : Fin 6}

/-- Without a prelude of its own, a command fails the attempt as its port is (R358). -/
theorem attemptFails_at_once {w : State} {c : Instr} {result : Nat} (halone : Alone s) (hmeaning : w = s.failAttempt p.val result)
    (hc : exec c s = s.ends w.settle) : ∃ t, exec c s = .next t ∧ AttemptFailed s t p.val (s.port p.val) result :=
  ⟨_, attemptFails halone (.refl s) rfl hmeaning hc⟩

theorem portPllLocked_fails (halone : Alone s) (hphase : (s.port p.val).phase = 1) :
    ∃ t, exec (.portPllLocked p false) s = .next t ∧ AttemptFailed s t p.val (s.port p.val) 9 :=
  attemptFails_at_once halone (by simp [State.portPllLocked, hphase]) rfl

theorem sidebandInitialisationDone_fails (halone : Alone s) (hphase : (s.port p.val).phase = 2) :
    ∃ t, exec (.sidebandInitialisationDone p false) s = .next t ∧ AttemptFailed s t p.val (s.port p.val) 2 :=
  attemptFails_at_once halone (by simp [State.sidebandReady, hphase]) rfl

theorem mainbandTrainingDone_fails (halone : Alone s) (hphase : (s.port p.val).phase = 3) :
    (∃ t, exec (.mainbandTrainingDone p .failed) s = .next t ∧ AttemptFailed s t p.val (s.port p.val) 3) ∧
    (∃ t, exec (.mainbandTrainingDone p .noStreamRaw) s = .next t ∧ AttemptFailed s t p.val (s.port p.val) 4) ∧
    ∀ rate width rep, inSubset p.val (Fin.val width) rep = false →
      ∃ t, exec (.mainbandTrainingDone p (.ok rate width rep)) s = .next t ∧ AttemptFailed s t p.val (s.port p.val) 3 :=
  ⟨attemptFails_at_once halone (if_neg (not_not_intro hphase)) rfl, attemptFails_at_once halone (if_neg (not_not_intro hphase)) rfl,
    fun _ _ _ hsubset => attemptFails_at_once halone (by simp [State.mainband, hphase, hsubset]) rfl⟩

/-- An OCAP that shows no generation at all, or none that the port may use, fails the attempt with what it shows kept (R360). -/
theorem ocapReadDone_fails (halone : Alone s) (ocap : BitVec 32) (hphase : (s.port p.val).phase = 4) :
    (bits ocap.toNat 16 16 ≠ 0x4F4C ∨ bits ocap.toNat 0 3 = 0 →
      ∃ t, exec (.ocapReadDone p ocap) s = .next t ∧ AttemptFailed s t p.val { s.port p.val with ocap := ocap.toNat } 5) ∧
    (bits ocap.toNat 16 16 = 0x4F4C → bits ocap.toNat 0 3 ≠ 0 → pickGen (bits ocap.toNat 0 3) (s.n 0x7003 (p.val + 1)) = 0 →
      ∃ t, exec (.ocapReadDone p ocap) s = .next t ∧ AttemptFailed s t p.val { s.port p.val with ocap := ocap.toNat } 6) := by
  have hread := (Frame.refl (parts := [.ports, .now, .time, .latch]) (objs := beforeFailure) s).setPort p.val
    { s.port p.val with ocap := ocap.toNat }
  have hport : (s.setPort p.val { s.port p.val with ocap := ocap.toNat }).port p.val = { s.port p.val with ocap := ocap.toNat } := by
    rw [State.port_setPort, if_pos rfl]
  have hlaid : s.ocapRead p.val ocap.toNat = _ := if_neg (not_not_intro hphase)
  refine ⟨fun hbad => ?_, fun hid hgens hnone => ?_⟩
  · exact ⟨_, attemptFails halone hread hport (hlaid.trans (if_pos hbad)) rfl⟩
  · exact ⟨_, attemptFails halone hread hport (hlaid.trans ((if_neg (not_or.2 ⟨not_not_intro hid, hgens⟩)).trans (if_pos hnone))) rfl⟩

theorem ostatReady_fails (halone : Alone s) (ostat : BitVec 32) (hphase : (s.port p.val).phase = 6) (herr : bit ostat.toNat 1 = true) :
    ∃ t, exec (.ostatReady p ostat) s = .next t ∧ AttemptFailed s t p.val (s.port p.val) 7 :=
  attemptFails_at_once halone ((if_neg (not_not_intro hphase)).trans (if_pos herr)) rfl

/-- A sideband access that fails ends phase 4, 5 or 6, and sets SIDEBAND (R359, R386). -/
theorem sidebandAccessTimeout_fails (halone : Alone s) {k : Nat} (hk : k = 4 ∨ k = 5 ∨ k = 6) (hphase : (s.port p.val).phase = k)
    (hfast : s.mgtFast = true) : ∃ t, exec (.sidebandAccessTimeout p) s = .next t ∧ AttemptFailed s t p.val (s.port p.val) (k + 1) ∧
      bit (t.z 0x2106 0) 8 = true := by
  have hmeaning : s.sidebandFail p.val = (s.setCause 5 8).failAttempt p.val (k + 1) := by
    rcases hk with rfl | rfl | rfl <;> simp [State.sidebandFail, hphase]
  have hcause : Frame [.ports, .now, .time, .latch] beforeFailure s (s.setCause 5 8) := (Frame.refl s).setCause 5 8
  obtain ⟨hexec, hfailed⟩ := attemptFails (c := .sidebandAccessTimeout p) halone hcause (s.port_setCause 5 8 p.val) hmeaning rfl
  have hkept : ((s.setCause 5 8).failAttempt p.val (k + 1)).z 0x2106 0 = (s.setCause 5 8).z 0x2106 0 :=
    ((Frame.refl (parts := [.ports, .latch]) _).failAttempt (k + 1) p.isLt fun _ hx => hx).z_eq
      (ho := by simp [failObjects, portCauseObjects])
  refine ⟨_, hexec, hfailed, ?_⟩
  rw [State.ended_z, hkept, State.setCause_z (br := 5) 8 (by decide) hfast]
  exact bit_or_two_pow _ 8

/-- The attempt's limit fails it in whatever phase it is (R358). -/
theorem trainingAttemptTimeout_fails (halone : Alone s) (hphase : (s.port p.val).phase ≠ 0) :
    ∃ t, exec (.trainingAttemptTimeout p) s = .next t ∧ AttemptFailed s t p.val (s.port p.val) 8 ∧
      t.now = max s.now ((s.port p.val).attemptAt + s.n 0x7006 0 * 1000000) := by
  have hmeaning : s.attemptLate p.val = _ := if_neg hphase
  obtain ⟨hexec, hfailed⟩ := attemptFails (c := .trainingAttemptTimeout p) halone ((Frame.refl s).elapseTo _) (s.port_elapseTo _ p.val)
    hmeaning rfl
  exact ⟨_, hexec, hfailed, by rw [State.ended_now, State.failAttempt_now, State.elapseTo_now]⟩

/-! ### The next attempt -/

theorem trainingRetry_completes (halone : Alone s) {r : Nat} (hdue : (s.port p.val).retryAt = some r) :
    Completes (.trainingRetry p) s [.ports, .clk, .now, .time] clockObjects fun t =>
      t.now = max s.now r ∧ (t.port p.val).st = 2 ∧ (t.port p.val).phase = 1 ∧
        (t.port p.val).attempt = (s.port p.val).attempt + 1 ∧ (t.port p.val).attemptAt = t.now := by
  have hmeaning : s.attemptAgain p.val = (s.elapseTo r).startAttempt p.val ((s.port p.val).attempt + 1) := by
    simp only [State.attemptAgain, hdue]
  refine ((((Frame.refl s).elapseTo r).setPll _ _).setPort _ _).completes halone hmeaning rfl ?_
  rw [State.ended_port, State.ended_now, State.port_setPort, if_pos rfl]
  exact ⟨State.elapseTo_now .., rfl, rfl, rfl, rfl⟩

end

/-- Settles O34: every way to fail ends in `State.failAttempt`, whose result, count and cause are read off it once. -/
theorem failedAttemptsAreRepeated : Obligations.FailedAttemptsAreRepeated := fun _ _ halone =>
  ⟨portPllLocked_fails halone, sidebandInitialisationDone_fails halone, mainbandTrainingDone_fails halone, ocapReadDone_fails halone,
    ostatReady_fails halone, fun _ => sidebandAccessTimeout_fails halone, trainingAttemptTimeout_fails halone,
    fun _ => trainingRetry_completes halone⟩

end Sys2Proof.Machine
end

section
/-! PROOF. Ports that leave service, and credit epochs, on devices that the statements about them do not keep apart (R376, R387, R388,
Table 9.16, Table 19.1). -/
set_option Elab.async false
namespace Sys2Proof.Machine

/-- An ISOLATED device, whose ports the device does not train (Table 19.1), with a port in service. `Alone` leaves such a device in, as it
shuts out Lead and Second alone. -/
def isolatedInService : State :=
  { State.reset with
    pair := { State.reset.pair with role := 4 }
    ports := [(0, { st := 6, gen := 2, admitted := true })] }

/-- The failure of a lane takes the port out of service, and the device does not train it again. -/
theorem isolatedInService_leaves : ∃ t, exec (.laneFailure 0) isolatedInService = .next t ∧ (t.port 0).st = 8 :=
  ⟨_, rfl, by decide +kernel⟩

/-- Refutes O35: it asks that a port whose lane fails train again from phase 1 on every device that is neither Lead nor Second, and an
ISOLATED one (`isolatedInService`) leaves it in RETRAIN, since of its own accord only a single device or a Lead trains its ports. -/
theorem not_portsLeaveService : ¬ Obligations.PortsLeaveService := by
  rintro ⟨hleave, -⟩
  have halone : Alone isolatedInService := ⟨by decide, by decide, rfl, rfl, rfl⟩
  obtain ⟨hfails, -⟩ := hleave isolatedInService 0 halone
  obtain ⟨⟨t, ht, htrains, -⟩, -⟩ := hfails rfl (by decide)
  obtain ⟨u, hu, hleft⟩ := isolatedInService_leaves
  obtain rfl : t = u := Host.Outcome.next.inj (ht.symm.trans hu)
  exact absurd (htrains.1.symm.trans hleft) (by decide)

/-- A commit whose boundary is the next credit epoch boundary disables port 0, which has waited for its admission since tick 0. -/
def disabledAtEpoch : State :=
  { State.reset with
    clk := { State.reset.clk with dom := [(domNo .tick, { inReset := false })] }
    time := { State.reset.time with tickRun := true, tick := 16000 }
    ports := [(0, { st := 5, gen := 2 })]
    commit := { State.reset.commit with state := 3, boundary := 16384 }
    staged := [⟨0x7000, 1, .num 0, .jtag, 3, false⟩] }

/-- The commit applies before the boundary (Table 9.16), so the port quiesces and is not admitted. -/
theorem disabledAtEpoch_quiesces : ∃ t, exec (.creditEpochBoundary []) disabledAtEpoch = .next t ∧ (t.port 0).st = 7 :=
  ⟨_, rfl, by decide +kernel⟩

/-- Refutes O36: it asks that every port which has waited 64 ticks be ACTIVE behind the boundary, and a commit that applies in the same tick
and disables the port (`disabledAtEpoch`) has it quiesce instead. The statement has no hypothesis that keeps such a commit away. -/
theorem not_epochsReplaysAndFlits : ¬ Obligations.EpochsReplaysAndFlits := by
  rintro ⟨hepochs, -⟩
  have halone : Alone disabledAtEpoch := ⟨by decide, by decide, rfl, rfl, rfl⟩
  obtain ⟨t, ht, -, -, -, -, -, hadmitted⟩ := (hepochs disabledAtEpoch 0 halone).1 [] rfl
  obtain ⟨u, hu, hquiesces⟩ := disabledAtEpoch_quiesces
  obtain rfl : t = u := Host.Outcome.next.inj (ht.symm.trans hu)
  obtain ⟨hactive, -⟩ := hadmitted rfl (by decide)
  exact absurd (hactive.symm.trans hquiesces) (by decide)

end Sys2Proof.Machine
end

section
/-! PROOF. The capture home and its snoops on devices that the statements about them do not keep apart: a full tracker (R433), snoops that wait for
a TAG (R399), and an ISOLATED device (Table 19.1). -/
set_option Elab.async false
namespace Sys2Proof.Machine

/-! ### A full tracker -/

/-- A request for the second line of the capture region, which waits at the home. -/
def elsewhere : Waiter := ⟨2 ^ 40 + 64, 0, devMsg 0 3 17 1 (2 ^ 40 + 64) false [], none, false, false⟩

/-- A device whose capture home has 512 transactions in its tracker (R433), none of them on the first line of the capture region. -/
def fullTracker : State :=
  { State.reset with
    ports := [(0, { st := 6, gen := 2, admitted := true, sidBase := 16, agents := 4 })]
    obj := [(key 0x7800 1, .num (2 ^ 40))]
    coh := { State.reset.coh with waiting := List.replicate 512 elsewhere } }

/-- A request of agent 17 for the first line of the capture region. -/
def firstLine : CohMsg := { sid := 17, tag := 5, addr := BitVec.ofNat 52 (2 ^ 40) }

theorem fullTracker_requests {opc : Nat} (h : opc = 3 ∨ opc = 8) : Requests fullTracker 0 opc firstLine 0 := by
  obtain rfl | rfl := h
  · unfold Requests Alone Arrives LineQuiet
    decide +kernel
  · unfold Requests Alone Arrives LineQuiet
    decide +kernel

/-- A request that finds the tracker full waits for room, and nothing leaves. -/
theorem fullTracker_keepsRead : ∃ t, exec (.rdUline 0 firstLine) fullTracker = .next t ∧ t.out = [] ∧ (t.port 0).txq = [] :=
  ⟨_, rfl, by decide +kernel, by decide +kernel⟩

theorem fullTracker_keepsRdS : ∃ t, exec (.rdS 0 firstLine) fullTracker = .next t ∧ t.out = [] ∧ (t.port 0).txq = [] :=
  ⟨_, rfl, by decide +kernel, by decide +kernel⟩

theorem not_sent_of_silent {t : State} {p : Nat} (hout : t.out = []) (hwaits : (t.port p).txq = []) (x : LinkMsg) : ¬ Sent t p x := by
  rintro (hleft | hheld)
  · rw [hout] at hleft
    exact List.not_mem_nil hleft
  · rw [hwaits] at hheld
    exact List.not_mem_nil hheld

/-- Refutes O37: it asks that a request on a quiet line be answered, and one that finds 512 transactions in the tracker (`fullTracker`) waits
for room there (R433). -/
theorem not_uncachedAccessesToCaptureMemory : ¬ Obligations.UncachedAccessesToCaptureMemory := by
  rintro ⟨hreads, -⟩
  have hline : ∀ e, fullTracker.entry (fullTracker.lineAddr 0) = some e → e.st ≠ 2 := by decide +kernel
  obtain ⟨hanswered, -⟩ := hreads fullTracker 0 firstLine 0 (.rdUline 0 firstLine) 3 (.inr (.inr ⟨rfl, rfl⟩)) (fullTracker_requests (.inl rfl))
  obtain ⟨t, ht, -, hsent⟩ := hanswered hline
  obtain ⟨u, hu, hout, hwaits⟩ := fullTracker_keepsRead
  obtain rfl : t = u := Host.Outcome.next.inj (ht.symm.trans hu)
  exact not_sent_of_silent hout hwaits _ hsent

/-- Refutes O38: as for uncached requests, RD_S of a line that no agent holds draws no answer while the tracker is full (`fullTracker`, R433). -/
theorem not_cachedRequestsFollowTheDirectory : ¬ Obligations.CachedRequestsFollowTheDirectory := by
  intro hcached
  obtain ⟨hgranted, -⟩ := hcached fullTracker 0 firstLine 0
  obtain ⟨t, ht, -, hsent, -⟩ := hgranted (fullTracker_requests (.inr rfl)) (by decide +kernel) (by decide +kernel)
  obtain ⟨u, hu, hout, hwaits⟩ := fullTracker_keepsRdS
  obtain rfl : t = u := Host.Outcome.next.inj (ht.symm.trans hu)
  exact not_sent_of_silent hout hwaits _ hsent

/-! ### A snoop that waits for a TAG -/

/-- Agent 17 owes the home two answers on one line. The second snoop waits for a TAG, as its TAG 4096 says (R399). -/
def twoSnoops : State :=
  { State.reset with
    now := 5
    ports := [(0, { st := 6, gen := 2, admitted := true, sidBase := 16, agents := 4 })]
    coh := { State.reset.coh with txn := [(2 ^ 40, ⟨0, none, [⟨17, true, 5, 0⟩, ⟨17, true, 4096, 0⟩], [], false⟩)] } }

theorem twoSnoops_arrives : Arrives twoSnoops 0 2 4 firstLine := by
  unfold Arrives
  decide +kernel

/-- The answer to the first snoop frees its TAG, and the second snoop leaves with it. -/
theorem twoSnoops_reusesTheTag : ∃ t, exec (.rspI 0 firstLine) twoSnoops = .next t ∧
    t.txn firstLine.addr.toNat = some ⟨0, none, [⟨17, true, 5, 5⟩], [], false⟩ := ⟨_, rfl, by decide +kernel⟩

/-- Refutes O39: it asks that the snoops behind an answer be those that were awaited before it, and the answer's TAG goes to a snoop to the same
agent that waits for one (R399), here on the same line (`twoSnoops`). -/
theorem not_snoopAnswersAndEvictionsAreApplied : ¬ Obligations.SnoopAnswersAndEvictionsAreApplied := by
  intro happlied
  obtain ⟨hanswers, -⟩ := happlied twoSnoops 0 firstLine ⟨by decide, by decide, rfl, rfl, rfl⟩
  obtain ⟨t, ht, tx, htx, hsnoops, -⟩ := hanswers (.rspI 0 firstLine) 2 4 0 (.inl ⟨rfl, rfl, rfl, rfl⟩) twoSnoops_arrives (by decide +kernel)
    (by decide +kernel) ⟨0, none, [⟨17, true, 5, 0⟩, ⟨17, true, 4096, 0⟩], [], false⟩ (by decide +kernel) ⟨17, true, 5, 0⟩ (by decide +kernel)
    (by decide +kernel) ⟨17, true, 4096, 0⟩ (by decide) (by decide)
  obtain ⟨u, hu, hreused⟩ := twoSnoops_reusesTheTag
  obtain rfl : t = u := Host.Outcome.next.inj (ht.symm.trans hu)
  obtain rfl := Option.some.inj (htx.symm.trans hreused)
  exact absurd hsnoops (by decide)

/-! ### An ISOLATED device -/

/-- An ISOLATED device, whose ports the device does not train (Table 19.1), awaits the answer of an agent behind port 0. `Alone` leaves such a
device in. -/
def isolatedSnooping : State :=
  { State.reset with
    pair := { State.reset.pair with role := 4 }
    boot := { State.reset.boot with step := 14 }
    clk := { State.reset.clk with dom := [(domNo .mgt, { src := 0, inReset := false })] }
    ports := [(0, { st := 6, gen := 2, admitted := true, sidBase := 16, agents := 4 })]
    coh := { State.reset.coh with txn := [(2 ^ 40, ⟨0, none, [⟨17, true, 5, 0⟩], [], false⟩)] } }

/-- The silent port leaves service, and the device does not train it again. -/
theorem isolatedSnooping_leaves : ∃ t, exec (.snoopAnswerTimeout (BitVec.ofNat 64 (2 ^ 40)) 17) isolatedSnooping = .next t ∧ (t.port 0).st = 8 :=
  ⟨_, rfl, by decide +kernel⟩

/-- Refutes O42: it asks that a port whose agent is silent train again from phase 1 on every device that is neither Lead nor Second, and an
ISOLATED one (`isolatedSnooping`) leaves it in RETRAIN, since of its own accord only a single device or a Lead trains its ports. -/
theorem not_homeTimersQueueAndCaptureWrites : ¬ Obligations.HomeTimersQueueAndCaptureWrites := by
  intro htimers
  obtain ⟨hoverdue, -⟩ := htimers isolatedSnooping ⟨by decide, by decide, rfl, rfl, rfl⟩
  obtain ⟨hsnoop, -⟩ := hoverdue (BitVec.ofNat 64 (2 ^ 40)) 17 ⟨0, none, [⟨17, true, 5, 0⟩], [], false⟩ (by decide +kernel) (by decide +kernel)
    (by decide +kernel)
  obtain ⟨t, ht, -, ⟨htrains, -⟩, -⟩ := hsnoop ⟨17, true, 5, 0⟩ (by decide +kernel)
  obtain ⟨u, hu, hleft⟩ := isolatedSnooping_leaves
  obtain rfl : t = u := Host.Outcome.next.inj (ht.symm.trans hu)
  obtain ⟨htraining, -⟩ := htrains
  exact absurd (htraining.symm.trans hleft) (by decide)

end Sys2Proof.Machine
end

section
/-! PROOF. Messages of the fabric that arrive (R374, R416): what their way to their consumer leaves alone, what follows them, and that a message of
the device leaves or waits for credits. -/
set_option Elab.async false
namespace Sys2Proof.Machine

/-! ### Finite maps -/

@[simp] theorem mget_mdel_self {α : Type} (m : Map α) (k : Nat) : mget (mdel m k) k = none := by
  induction m with
  | nil => rfl
  | cons e t ih =>
    obtain ⟨j, v⟩ := e
    by_cases h : j = k
    · simpa [mdel, h] using ih
    · simpa [mdel, mget, h, Ne.symm h] using ih

/-! ### Fabric holds (R596) -/

/-- Comparing a message with the fabric holds changes their signals and the count of their matches. -/
theorem State.matchFabric_eq (s : State) (p : Nat) (m : LinkMsg) : ∃ g o, s.matchFabric p m = { s with sig := g, obj := o } := by
  unfold State.matchFabric
  extract_lets
  split
  · exact ⟨s.sig, s.obj, rfl⟩
  · exact ⟨_, _, rfl⟩

@[simp] theorem State.matchFabric_coh (s : State) (p : Nat) (m : LinkMsg) : (s.matchFabric p m).coh = s.coh := by
  obtain ⟨_, _, h⟩ := s.matchFabric_eq p m
  rw [h]

@[simp] theorem State.matchFabric_pair (s : State) (p : Nat) (m : LinkMsg) : (s.matchFabric p m).pair = s.pair := by
  obtain ⟨_, _, h⟩ := s.matchFabric_eq p m
  rw [h]

@[simp] theorem State.matchFabric_out (s : State) (p : Nat) (m : LinkMsg) : (s.matchFabric p m).out = s.out := by
  obtain ⟨_, _, h⟩ := s.matchFabric_eq p m
  rw [h]

@[simp] theorem State.matchFabric_ports (s : State) (p : Nat) (m : LinkMsg) : (s.matchFabric p m).ports = s.ports := by
  obtain ⟨_, _, h⟩ := s.matchFabric_eq p m
  rw [h]

@[simp] theorem State.matchFabric_port (s : State) (p : Nat) (m : LinkMsg) (q : Nat) : (s.matchFabric p m).port q = s.port q :=
  State.port_congr (s.matchFabric_ports p m) q

theorem State.matchFabric_desc (s : State) (p : Nat) (m : LinkMsg) (line : Nat) : (s.matchFabric p m).desc line = s.desc line := by
  simp [State.desc]

theorem Frame.matchFabric {parts : List Part} {objs : List (Nat × Nat)} {s u : State} (h : Frame parts objs s u) (p : Nat) (m : LinkMsg)
    (hsig : .sig ∈ parts := by decide) (ho : (0xF070, 10) ∈ objs := by decide) : Frame parts objs s (u.matchFabric p m) := by
  unfold State.matchFabric
  extract_lets
  split
  · exact h
  · exact (h.setSig _ hsig).putVal _ _ _ ho

/-! ### Coherence messages as link messages -/

@[simp] theorem coherent_opc (vc opc : Nat) (m : CohMsg) : (coherent vc opc m).opc = opc := rfl
@[simp] theorem coherent_sid (vc opc : Nat) (m : CohMsg) : (coherent vc opc m).sid = m.sid.toNat := rfl
@[simp] theorem coherent_tag (vc opc : Nat) (m : CohMsg) : (coherent vc opc m).tag = m.tag.toNat := rfl
@[simp] theorem coherent_addr (vc opc : Nat) (m : CohMsg) : (coherent vc opc m).addr = m.addr.toNat := rfl
@[simp] theorem coherent_poison (vc opc : Nat) (m : CohMsg) : (coherent vc opc m).poison = m.poison := rfl
@[simp] theorem coherent_data (vc opc : Nat) (m : CohMsg) : (coherent vc opc m).data = m.data := rfl

/-! ### A message that arrives -/

theorem State.msgFault_congr {s t : State} {p : Nat} (h : t.port p = s.port p) (m : LinkMsg) (len : Nat) :
    t.msgFault p m len = s.msgFault p m len := by
  unfold State.msgFault
  rw [h]

/-- A message that arrives is given to its consumer, and nothing but what waits follows it, unless it leaves requests of its FAB cycle. -/
theorem State.cohIn_of_arrives {s : State} {p vc opc : Nat} {m : CohMsg} (harr : Arrives s p vc opc m)
    (hwaiting : ((s.matchFabric p (coherent vc opc m)).deliver p (coherent vc opc m) m.more).settle.coh.waiting = s.coh.waiting) :
    s.cohIn p vc opc m = ((s.matchFabric p (coherent vc opc m)).deliver p (coherent vc opc m) m.more).settle := by
  obtain ⟨hlinked, hfault, hgroup⟩ := harr
  have hgiven : (s.fromPort p (coherent vc opc m) fun s => s.deliver p (coherent vc opc m) m.more) =
      ((s.matchFabric p (coherent vc opc m)).deliver p (coherent vc opc m) m.more).settle := by
    unfold State.fromPort
    dsimp only
    rw [hlinked, State.msgFault_congr (s.matchFabric_port ..), hfault, Bool.not_true, if_neg Bool.false_ne_true, if_neg Bool.false_ne_true]
  unfold State.cohIn
  dsimp only
  rw [hgiven, hwaiting, hgroup, Bool.not_false, Bool.or_true, if_pos rfl]

/-- What could follow a command stays: completions and requests of units, REQ messages, requests at the home, and the pair. -/
structure State.LeavesQueues (s t : State) : Prop where
  pair : t.pair = s.pair
  done : t.coh.done = s.coh.done
  waits : t.coh.devWait = s.coh.devWait
  inbox : t.coh.inbox = s.coh.inbox
  waiting : t.coh.waiting = s.coh.waiting

/-- On a lone device a message whose consumer leaves alone what could follow it ends with what its consumer does. -/
theorem exec_of_arrives {c : Instr} {s u : State} {p vc opc : Nat} {m : CohMsg} (hc : exec c s = s.ends (s.cohIn p vc opc m))
    (halone : Alone s) (harr : Arrives s p vc opc m)
    (hu : (s.matchFabric p (coherent vc opc m)).deliver p (coherent vc opc m) m.more = u) (hleaves : s.LeavesQueues u) :
    exec c s = s.ends u := by
  obtain ⟨hlead, hsecond, hdone, hwaits, hinbox⟩ := halone
  have hsettle : u.settle = u := u.settle_alone (hleaves.pair ▸ hlead) (hleaves.pair ▸ hsecond) (hleaves.done.trans hdone)
    (hleaves.waits.trans hwaits) (hleaves.inbox.trans hinbox)
  rw [hc, State.cohIn_of_arrives harr (by rw [hu, hsettle, hleaves.waiting]), hu, hsettle]

/-! ### The state that a command ends in -/

@[simp] theorem State.ended_coh (s u : State) : (s.ended u).coh = u.coh := u.alertSync_coh

theorem State.ended_desc (s u : State) (line : Nat) : (s.ended u).desc line = u.desc line := by simp [State.desc]

/-! ### Messages of the device -/

/-- A message on a channel of the port's generation leaves, or waits for credits (R375). -/
theorem sendMsg_sent {s : State} {p : Nat} {m : LinkMsg} (h : vcPresent (s.port p).gen m.vc = true) : Sent (sendMsg p m s) p m := by
  unfold sendMsg Sent
  dsimp only
  rw [h, if_pos rfl]
  split
  · exact .inl (List.mem_cons_self ..)
  · exact .inr (by simp)

theorem sent_ended {u : State} {p : Nat} {m : LinkMsg} (h : Sent u p m) (s : State) : Sent (s.ended u) p m := by
  unfold Sent
  rw [State.ended_out, State.ended_port]
  exact h

/-! ### What sending leaves of the port -/

theorem sendSlots_phase (p fuel cont : Nat) (slots : Octets) (s : State) (q : Nat) :
    ((sendSlots p fuel cont slots s).port q).st = (s.port q).st := by
  have hflit : ∀ (cont : Nat) (slots : Octets) (s : State), ((sendSeqFlit p 1 cont slots s).port q).st = (s.port q).st := fun cont slots s => by
    simp only [sendSeqFlit, State.port_emit, State.port_bumpPort, State.port_setPort]
    split
    · next hq => rw [hq]
    · rfl
  induction fuel generalizing cont slots s with
  | zero => rfl
  | succ n ih =>
    unfold sendSlots
    dsimp only
    split
    · exact hflit ..
    · exact (ih ..).trans (hflit ..)

/-- Sending a message leaves every port in its state. -/
theorem sendMsg_phase (p : Nat) (m : LinkMsg) (s : State) (q : Nat) : ((sendMsg p m s).port q).st = (s.port q).st := by
  have hset : ∀ x : PortSt, x.st = (s.port p).st → ((s.setPort p x).port q).st = (s.port q).st := fun x hx => by
    rw [State.port_setPort]
    split
    · next hq => rw [hq, hx]
    · rfl
  unfold sendMsg
  dsimp only
  split
  · split
    · exact (sendSlots_phase ..).trans (hset _ rfl)
    · exact hset _ rfl
  · rfl

/-! ### What the agent's evictions leave alone -/

/-- The agent sends and evicts: its requests and what waits for them stay, and so does the state of every port. -/
structure State.LeavesRequests (s t : State) : Prop extends State.LeavesQueues s t where
  reqs : t.coh.reqs = s.coh.reqs
  deferred : t.coh.deferred = s.coh.deferred
  phase : ∀ q, (t.port q).st = (s.port q).st

section
variable {s t u : State}

theorem State.LeavesRequests.refl (s : State) : s.LeavesRequests s := ⟨⟨rfl, rfl, rfl, rfl, rfl⟩, rfl, rfl, fun _ => rfl⟩

theorem State.LeavesRequests.trans (h : s.LeavesRequests t) (k : t.LeavesRequests u) : s.LeavesRequests u :=
  ⟨⟨k.pair.trans h.pair, k.done.trans h.done, k.waits.trans h.waits, k.inbox.trans h.inbox, k.waiting.trans h.waiting⟩, k.reqs.trans h.reqs,
    k.deferred.trans h.deferred, fun q => (k.phase q).trans (h.phase q)⟩

theorem State.LeavesRequests.ite {c : Prop} [Decidable c] (h : s.LeavesRequests t) (k : s.LeavesRequests u) :
    s.LeavesRequests (if c then t else u) := by
  split
  · exact h
  · exact k

theorem State.LeavesRequests.of_coh (hpair : t.pair = s.pair) (hcoh : t.coh = s.coh) (hphase : ∀ q, (t.port q).st = (s.port q).st) :
    s.LeavesRequests t :=
  ⟨⟨hpair, congrArg _ hcoh, congrArg _ hcoh, congrArg _ hcoh, congrArg _ hcoh⟩, congrArg _ hcoh, congrArg _ hcoh, hphase⟩

end

theorem State.matchFabric_leaves (s : State) (p : Nat) (m : LinkMsg) : s.LeavesRequests (s.matchFabric p m) :=
  .of_coh (s.matchFabric_pair ..) (s.matchFabric_coh ..) fun q => congrArg _ (s.matchFabric_port p m q)

theorem sendMsg_leaves (s : State) (p : Nat) (m : LinkMsg) : s.LeavesRequests (sendMsg p m s) :=
  .of_coh (sendMsg_pair ..) (sendMsg_coh ..) (sendMsg_phase p m s)

theorem State.dropDesc_leaves (s : State) (line : Nat) : s.LeavesRequests (s.dropDesc line) :=
  ⟨⟨rfl, rfl, rfl, rfl, rfl⟩, rfl, rfl, fun _ => rfl⟩

theorem State.putDesc_leaves (s : State) (line : Nat) (d : DescLine) : s.LeavesRequests (s.putDesc line d) :=
  ⟨⟨rfl, rfl, rfl, rfl, rfl⟩, rfl, rfl, fun _ => rfl⟩

end Sys2Proof.Machine
end

section
/-! PROOF. Snoops of foreign homes (R409, Table 10.5). -/
set_option Elab.async false
namespace Sys2Proof.Machine

/-! ### The channels of a port that snoops -/

/-- A generation that carries snoops carries their answers (Table 9.9). -/
theorem vcPresent_of_snoops {gen : Nat} (h : vcPresent gen 1 = true) : vcPresent gen 2 = true ∧ vcPresent gen 3 = true := by
  unfold vcPresent at *
  split at h
  · simp at h
  · simp
  · simp
  · simp at h

theorem vcPresent_of_arrives {s : State} {p vc opc : Nat} {m : CohMsg} (h : Arrives s p vc opc m) : vcPresent (s.port p).gen vc = true := by
  obtain ⟨-, hfault, -⟩ := h
  unfold State.msgFault at hfault
  simp only [Bool.or_eq_false_iff] at hfault
  obtain ⟨⟨⟨⟨hvc, -⟩, -⟩, -⟩, -⟩ := hfault
  simpa [coherent] using hvc

/-! ### The answer from the state of the line -/

section
variable {s : State} {p : Nat} {m : LinkMsg} {d : DescLine}

theorem State.answerSnoop_inv (hd : s.desc m.addr = some d) (hopc : m.opc = 1) : s.answerSnoop p m =
    sendMsg p (if d.st = 3 then devMsg 3 5 m.sid m.tag m.addr false d.data else devMsg 2 4 m.sid m.tag m.addr false []) (s.dropDesc m.addr) := by
  by_cases hdirty : d.st = 3
  · simp [State.answerSnoop, hd, hopc, hdirty]
  · simp [State.answerSnoop, hd, hopc, hdirty]

theorem State.answerSnoop_shr (hd : s.desc m.addr = some d) (hopc : m.opc = 2) : s.answerSnoop p m =
    sendMsg p (if d.st = 3 then devMsg 3 6 m.sid m.tag m.addr false d.data else devMsg 2 5 m.sid m.tag m.addr false [])
      (s.putDesc m.addr { d with st := 1 }) := by
  by_cases hdirty : d.st = 3
  · simp [State.answerSnoop, hd, hopc, hdirty]
  · simp [State.answerSnoop, hd, hopc, hdirty]

/-- A line that the device neither holds nor is writing back draws RSP_I. -/
theorem State.answerSnoop_absent (hd : s.desc m.addr = none) (hwbs : ∀ x ∈ s.coh.wbs, x.2.line ≠ m.addr)
    (hwaits : ∀ x ∈ s.coh.wbWait, x.line ≠ m.addr) : s.answerSnoop p m = sendMsg p (devMsg 2 4 m.sid m.tag m.addr false []) s := by
  have hnone : (((s.coh.wbs.map Prod.snd) ++ s.coh.wbWait).find? fun w => w.line == m.addr) = none := by
    simp only [List.find?_eq_none, List.mem_append, List.mem_map, beq_iff_eq]
    rintro w (⟨x, hx, rfl⟩ | hw)
    · exact hwbs x hx
    · exact hwaits w hw
  unfold State.answerSnoop
  simp only [hd, hnone]

/-- A snoop of a line in the descriptor cache is answered at once. -/
theorem State.foreignSnoop_held (hd : s.desc m.addr = some d) : s.foreignSnoop p m = s.answerSnoop p m := by
  simp [State.foreignSnoop, hd]

theorem State.foreignSnoop_quiet (hreqs : ∀ x ∈ s.coh.reqs, x.2.line ≠ m.addr) : s.foreignSnoop p m = s.answerSnoop p m := by
  have hnone : (s.coh.reqs.any fun r => r.2.line == m.addr && (r.2.opc == 8 || r.2.opc == 9)) = false := by
    simp only [List.any_eq_false, Bool.and_eq_true, beq_iff_eq, not_and]
    exact fun x hx hline => absurd hline (hreqs x hx)
  simp [State.foreignSnoop, hnone]

/-- A snoop that meets RD_S or RD_OWN of the device is deferred. -/
theorem State.foreignSnoop_deferred (hd : s.desc m.addr = none) (hreqs : ∃ x ∈ s.coh.reqs, x.2.line = m.addr ∧ (x.2.opc = 8 ∨ x.2.opc = 9)) :
    s.foreignSnoop p m = { s with coh := { s.coh with deferred := s.coh.deferred ++ [(p, m)] } } := by
  have hmeets : (s.coh.reqs.any fun r => r.2.line == m.addr && (r.2.opc == 8 || r.2.opc == 9)) = true := by
    simpa using hreqs
  simp [State.foreignSnoop, hmeets, hd]

end

/-! ### The commands -/

section
variable {s u : State} {p : Nat} {m : CohMsg} {opc : Nat} {c : Instr}

/-- A snoop that arrives ends with what the agent does with it. -/
theorem exec_snoop (hc : exec c s = s.ends (s.cohIn p 1 opc m)) (hopc : opc = 1 ∨ opc = 2) (hlen : msgLen (coherent 1 opc m) = 0)
    (hline : m.addr.toNat % 64 = 0) (halone : Alone s) (harr : Arrives s p 1 opc m)
    (hu : (s.matchFabric p (coherent 1 opc m)).foreignSnoop p (coherent 1 opc m) = u) (hleaves : s.LeavesQueues u) : exec c s = s.ends u := by
  refine exec_of_arrives hc halone harr ?_ hleaves
  rw [← hu]
  exact if_pos ⟨hopc, by simp [lineMsg, hlen, hline]⟩

/-- A snoop that draws an answer changes nothing that could follow it. -/
theorem exec_snoop_answered {x : LinkMsg} {v : State} (hc : exec c s = s.ends (s.cohIn p 1 opc m)) (hopc : opc = 1 ∨ opc = 2)
    (hlen : msgLen (coherent 1 opc m) = 0) (hline : m.addr.toNat % 64 = 0) (halone : Alone s) (harr : Arrives s p 1 opc m)
    (hu : (s.matchFabric p (coherent 1 opc m)).foreignSnoop p (coherent 1 opc m) = sendMsg p x v)
    (hv : (s.matchFabric p (coherent 1 opc m)).LeavesRequests v) (hports : v.ports = s.ports) (hx : x.vc = 2 ∨ x.vc = 3) :
    ∃ t, exec c s = .next t ∧ (∀ line, t.desc line = v.desc line) ∧ Sent t p x := by
  have hleaves : s.LeavesRequests (sendMsg p x v) := ((s.matchFabric_leaves ..).trans hv).trans (sendMsg_leaves ..)
  have hvc : vcPresent (v.port p).gen x.vc = true := by
    obtain ⟨hrsp, hdat⟩ := vcPresent_of_snoops (vcPresent_of_arrives harr)
    rw [State.port_congr hports]
    obtain h | h := hx
    · rw [h, hrsp]
    · rw [h, hdat]
  refine ⟨s.ended (sendMsg p x v), exec_snoop hc hopc hlen hline halone harr hu hleaves.toLeavesQueues, fun line => ?_, sent_ended (sendMsg_sent hvc) s⟩
  simp [State.desc]

/-- Each snoop of a line in the descriptor cache, as Table 10.5 gives it. -/
theorem exec_snoop_held {d : DescLine} (hlen : msgLen (coherent 1 1 m) = 0) (hline : m.addr.toNat % 64 = 0) (halone : Alone s)
    {p : Fin 6} (hd : s.desc m.addr.toNat = some d) :
    (Arrives s p.val 1 1 m → ∃ t, exec (.snpInv p m) s = .next t ∧ t.desc m.addr.toNat = none ∧
      Sent t p.val (if d.st = 3 then devMsg 3 5 m.sid.toNat m.tag.toNat m.addr.toNat false d.data
        else devMsg 2 4 m.sid.toNat m.tag.toNat m.addr.toNat false [])) ∧
    (Arrives s p.val 1 2 m → ∃ t, exec (.snpShr p m) s = .next t ∧
      (∃ d', t.desc m.addr.toNat = some d' ∧ d'.st = 1 ∧ d'.data = d.data) ∧
      Sent t p.val (if d.st = 3 then devMsg 3 6 m.sid.toNat m.tag.toNat m.addr.toNat false d.data
        else devMsg 2 5 m.sid.toNat m.tag.toNat m.addr.toNat false [])) := by
  have hheld : ∀ opc, (s.matchFabric p.val (coherent 1 opc m)).desc (coherent 1 opc m).addr = some d := fun opc =>
    (s.matchFabric_desc ..).trans hd
  refine ⟨fun harr => ?_, fun harr => ?_⟩
  · obtain ⟨t, ht, hdesc, hsent⟩ := exec_snoop_answered (c := .snpInv p m) rfl (.inl rfl) hlen hline halone harr
      ((State.foreignSnoop_held (hheld 1)).trans (State.answerSnoop_inv (hheld 1) rfl)) (State.dropDesc_leaves ..) (by simp)
      (by split <;> simp [devMsg])
    exact ⟨t, ht, by rw [hdesc]; simp [State.desc, State.dropDesc], hsent⟩
  · obtain ⟨t, ht, hdesc, hsent⟩ := exec_snoop_answered (c := .snpShr p m) rfl (.inr rfl) hlen hline halone harr
      ((State.foreignSnoop_held (hheld 2)).trans (State.answerSnoop_shr (hheld 2) rfl)) (State.putDesc_leaves ..) (by simp)
      (by split <;> simp [devMsg])
    exact ⟨t, ht, ⟨{ d with st := 1 }, by rw [hdesc]; simp [State.desc, State.putDesc], rfl, rfl⟩, hsent⟩

/-- A snoop that meets RD_S or RD_OWN of the device waits for the grant, and one of a line that the device has nothing to do with draws RSP_I. -/
theorem exec_snoop_absent {p : Fin 6} (hcase : c = .snpInv p m ∧ opc = 1 ∨ c = .snpShr p m ∧ opc = 2)
    (hlen : msgLen (coherent 1 1 m) = 0) (hline : m.addr.toNat % 64 = 0) (halone : Alone s) (hd : s.desc m.addr.toNat = none)
    (harr : Arrives s p.val 1 opc m) :
    ((∃ x ∈ s.coh.reqs, x.2.line = m.addr.toNat ∧ (x.2.opc = 8 ∨ x.2.opc = 9)) →
      ∃ t, exec c s = .next t ∧ t.coh.deferred = s.coh.deferred ++ [(p.val, coherent 1 opc m)] ∧ t.out = s.out) ∧
    ((∀ x ∈ s.coh.reqs, x.2.line ≠ m.addr.toNat) → (∀ x ∈ s.coh.wbs, x.2.line ≠ m.addr.toNat) →
      (∀ x ∈ s.coh.wbWait, x.line ≠ m.addr.toNat) →
      ∃ t, exec c s = .next t ∧ Sent t p.val (devMsg 2 4 m.sid.toNat m.tag.toNat m.addr.toNat false [])) := by
  have hc : exec c s = s.ends (s.cohIn p.val 1 opc m) := by
    obtain ⟨rfl, rfl⟩ | ⟨rfl, rfl⟩ := hcase
    · rfl
    · rfl
  have hopc : opc = 1 ∨ opc = 2 := hcase.imp And.right And.right
  have hv : (s.matchFabric p.val (coherent 1 opc m)).desc (coherent 1 opc m).addr = none := (s.matchFabric_desc ..).trans hd
  refine ⟨fun hreqs => ?_, fun hreqs hwbs hwaits => ?_⟩
  · have hu := State.foreignSnoop_deferred (p := p.val) hv (by simpa using hreqs)
    refine ⟨s.ended _, exec_snoop hc hopc hlen hline halone harr hu ⟨?_, ?_, ?_, ?_, ?_⟩, ?_, ?_⟩ <;> simp
  · have hu := (State.foreignSnoop_quiet (p := p.val) (by simpa using hreqs)).trans
      (State.answerSnoop_absent (p := p.val) hv (by simpa using hwbs) (by simpa using hwaits))
    obtain ⟨t, ht, -, hsent⟩ := exec_snoop_answered hc hopc hlen hline halone harr hu (.refl _) (by simp) (.inl rfl)
    exact ⟨t, ht, hsent⟩

end

/-- Settles O40: a snoop of a held line is answered from its state, one that meets a request of the device is deferred, and any other draws
RSP_I. -/
theorem foreignSnoopsAreAnswered : Obligations.ForeignSnoopsAreAnswered := fun _ _ _ halone hlen hline =>
  ⟨fun _ hd => exec_snoop_held hlen hline halone hd, fun _ _ hcase hd harr => exec_snoop_absent hcase hlen hline halone hd harr⟩

end Sys2Proof.Machine
end

section
/-! PROOF. The units' completions leave the requests that wait at the home as they are (R404). -/
set_option Elab.async false
namespace Sys2Proof.Machine

@[simp] theorem State.devSend_waiting (s : State) (r : DevReq) (did : Nat) : (s.devSend r did).coh.waiting = s.coh.waiting := by
  simp [State.devSend]

@[simp] theorem State.devRequest_waiting (s : State) (unit arg opc line : Nat) (data : Octets) :
    (s.devRequest unit arg opc line data).coh.waiting = s.coh.waiting := by
  have hdone : ∀ (s : State) (r : DevReq) (n : Nat) (o : Octets), (s.devDone r n o).coh.waiting = s.coh.waiting := fun _ _ _ _ => rfl
  have hput : ∀ (s : State) (l : Nat) (d : DescLine), (s.putDesc l d).coh.waiting = s.coh.waiting := fun _ _ _ => rfl
  unfold State.devRequest
  dsimp only
  repeat' split
  all_goals simp [hdone, hput]

/-! ### Streams -/

@[simp] theorem State.streamError_waiting (s : State) (t code : Nat) : (s.streamError t code).coh.waiting = s.coh.waiting := by
  simp [State.streamError, State.freeStreamLanes]

@[simp] theorem State.sendProducer_waiting (s : State) (t : Nat) : (s.sendProducer t).coh.waiting = s.coh.waiting := by
  unfold State.sendProducer
  dsimp only
  split
  · split
    · simp
    · rfl
  · rfl

@[simp] theorem State.frameAck_waiting (s : State) (t id : Nat) : (s.frameAck t id).coh.waiting = s.coh.waiting := by
  simp [State.frameAck]

@[simp] theorem State.checkpoint_waiting (s : State) (t id : Nat) : (s.checkpoint t id).coh.waiting = s.coh.waiting := by
  unfold State.checkpoint
  dsimp only
  repeat' split
  all_goals simp

@[simp] theorem State.consumerRead_waiting (s : State) (t : Nat) (data : Octets) : (s.consumerRead t data).coh.waiting = s.coh.waiting := by
  unfold State.consumerRead
  dsimp only
  repeat' split
  all_goals simp

/-! ### Jobs -/

@[simp] theorem State.jobFailed_waiting (s : State) (slot status detail : Nat) : (s.jobFailed slot status detail).coh.waiting = s.coh.waiting := by
  unfold State.jobFailed
  dsimp only
  repeat' split
  all_goals simp

@[simp] theorem State.endJob_waiting (s : State) (c : Nat) (e : JobEnd) : (s.endJob c e).coh.waiting = s.coh.waiting := by
  unfold State.endJob
  dsimp only
  repeat' split
  all_goals simp

@[simp] theorem State.descRead_waiting (s : State) (c result : Nat) (data : Octets) : (s.descRead c result data).coh.waiting = s.coh.waiting := by
  unfold State.descRead
  dsimp only
  repeat' split
  all_goals simp

@[simp] theorem State.advanceHead_waiting (s : State) (fuel : Nat) : (s.advanceHead fuel).coh.waiting = s.coh.waiting := by
  induction fuel generalizing s with
  | zero => rfl
  | succ n ih =>
    unfold State.advanceHead
    split
    · exact ih _
    · rfl

@[simp] theorem State.descWritten_waiting (s : State) (c result : Nat) : (s.descWritten c result).coh.waiting = s.coh.waiting := by
  unfold State.descWritten
  split <;> simp

/-! ### All completions -/

@[simp] theorem State.unitDone_waiting (s : State) (r : DevReq) (result : Nat) (data : Octets) :
    (s.unitDone r result data).coh.waiting = s.coh.waiting := by
  unfold State.unitDone
  dsimp only
  repeat' split
  all_goals simp

theorem State.takeDone_waiting (s : State) (fuel : Nat) : (s.takeDone fuel).coh.waiting = s.coh.waiting := by
  induction fuel generalizing s with
  | zero => rfl
  | succ n ih =>
    unfold State.takeDone
    split
    · rfl
    · exact (ih _).trans (State.unitDone_waiting ..)

/-- What follows a command leaves the requests at the home, where no REQ message and no request of a unit waits. -/
theorem State.settle_waiting {s : State} (hinbox : s.coh.inbox = []) (hwaits : s.coh.devWait = []) :
    s.settle.coh.waiting = s.coh.waiting := by
  unfold State.settle
  rw [s.drainInbox_idle hinbox, s.drainDev_idle hwaits, State.pairFollow_coh]
  exact s.takeDone_waiting _

end Sys2Proof.Machine
end

section
/-! PROOF. Requests of the device caching agent that end (R400, R401, R407, R410, R427, R429): by their answer, by WB_ACK, or at their limit. -/
set_option Elab.async false
namespace Sys2Proof.Machine

/-! ### Evictions -/

theorem State.cohEvent_leaves (s : State) (b k a i : Nat) : s.LeavesRequests (s.cohEvent b k a i) := by
  have hcoh : (s.cohEvent b k a i).coh = { s.coh with eventAddr := a, eventSid := i, eventKind := k } := by simp [State.cohEvent]
  exact ⟨⟨by simp, by rw [hcoh], by rw [hcoh], by rw [hcoh], by rw [hcoh]⟩, by rw [hcoh], by rw [hcoh],
    fun q => congrArg _ (State.port_congr (State.cohEvent_ports ..) q)⟩

theorem State.cohEvent_desc (s : State) (b k a i : Nat) : (s.cohEvent b k a i).coh.desc = s.coh.desc := by simp [State.cohEvent]

theorem State.sendWb_leaves (s : State) (w : DevReq) : s.LeavesRequests (s.sendWb w) := by
  refine State.LeavesRequests.trans ?_ (sendMsg_leaves ..)
  exact ⟨⟨rfl, rfl, rfl, rfl, rfl⟩, rfl, rfl, fun _ => rfl⟩

theorem State.queueWb_leaves (s : State) (w : DevReq) : s.LeavesRequests (s.queueWb w) :=
  (s.sendWb_leaves w).ite ⟨⟨rfl, rfl, rfl, rfl, rfl⟩, rfl, rfl, fun _ => rfl⟩

@[simp] theorem State.queueWb_desc (s : State) (w : DevReq) : (s.queueWb w).coh.desc = s.coh.desc := by
  unfold State.queueWb
  split
  · simp [State.sendWb]
  · rfl

theorem State.giveUp_leaves (s : State) (line : Nat) : s.LeavesRequests (s.giveUp line) := by
  unfold State.giveUp State.evictDesc
  split
  · exact .refl s
  · exact (s.dropDesc_leaves line).trans (State.queueWb_leaves ..)

theorem State.makeRoom_leaves (s : State) (line : Nat) : s.LeavesRequests (s.makeRoom line) := by
  have hdrawn : s.LeavesRequests s.drawn := .of_coh rfl rfl fun _ => rfl
  unfold State.makeRoom
  extract_lets es
  split
  · exact .refl s
  · split
    · next v _ => exact hdrawn.trans (s.drawn.giveUp_leaves v.1)
    · exact .refl s

/-- Without deferred snoops a grant has none to answer. -/
theorem State.runDeferred_idle {s : State} (h : s.coh.deferred = []) (line : Nat) : s.runDeferred line = s := by
  unfold State.runDeferred
  rw [h]
  show { s with coh := { s.coh with deferred := [] } } = s
  rw [← h]

/-! ### The answer -/

/-- The request with a TAG is outstanding no longer. -/
def State.withoutRequest (s : State) (tag : Nat) : State := { s with coh := { s.coh with reqs := mdel s.coh.reqs tag } }

/-- An answer takes its request from those that are outstanding, and poison in it is reported (R401). -/
def State.requestAnswered (s : State) (m : LinkMsg) (r : DevReq) : State :=
  if m.poison then (s.withoutRequest m.tag).cohEvent 3 2 r.line m.sid else s.withoutRequest m.tag

/-- A grant puts the line into the descriptor cache: as it was read, or as the unit writes it (R400, R407); a line read with poison is given
back (R401). -/
def State.lineGranted (s : State) (p : Nat) (m : LinkMsg) (grant : Nat) (r : DevReq) : State :=
  if grant = 0 then s
  else if r.opc = 8 ∧ m.poison then (s.dropDesc r.line).queueWb ⟨r.line, p, 1, 0, 0, [], s.now⟩
  else if r.opc = 8 then (s.makeRoom r.line).putDesc r.line ⟨grant, octAt m.data 0 64, p⟩
  else (s.makeRoom r.line).putDesc r.line ⟨3, octAt r.data 0 64, p⟩

/-- What an answer completes its request with: poisoned data, unless the unit writes the line that is granted, or its own result. -/
def answerResult (m : LinkMsg) (result grant : Nat) (r : DevReq) : Nat := if m.poison && !(grant ≠ 0 && r.opc ≠ 8) then 3 else result

/-- The state in which an answer has completed its request to its unit. -/
def State.requestCompleted (s : State) (p : Nat) (m : LinkMsg) (result grant : Nat) (r : DevReq) : State :=
  ((s.requestAnswered m r).lineGranted p m grant r).devDone r (answerResult m result grant r) (octAt m.data 0 64)

section
variable {s : State} {p : Nat} {m : LinkMsg} {r : DevReq}

theorem State.requestAnswered_leaves (s : State) (m : LinkMsg) (r : DevReq) : (s.withoutRequest m.tag).LeavesRequests (s.requestAnswered m r) :=
  (State.cohEvent_leaves ..).ite (.refl _)

theorem State.lineGranted_leaves (s : State) (p : Nat) (m : LinkMsg) (grant : Nat) (r : DevReq) :
    s.LeavesRequests (s.lineGranted p m grant r) := by
  have hkept : ∀ d, s.LeavesRequests ((s.makeRoom r.line).putDesc r.line d) := fun _ => (s.makeRoom_leaves _).trans (State.putDesc_leaves ..)
  exact (State.LeavesRequests.refl s).ite (((s.dropDesc_leaves _).trans (State.queueWb_leaves ..)).ite ((hkept _).ite (hkept _)))

/-- The completion of a request takes it from those that are outstanding and hands it to its unit; nothing else that could follow changes. -/
theorem State.requestCompleted_leaves (s : State) (p : Nat) (m : LinkMsg) (result grant : Nat) (r : DevReq) :
    ((s.withoutRequest m.tag).devDone r (answerResult m result grant r) (octAt m.data 0 64)).LeavesRequests
      (s.requestCompleted p m result grant r) := by
  obtain ⟨⟨hpair, hdone, hwaits, hinbox, hwaiting⟩, hreqs, hdeferred, hphase⟩ :=
    (s.requestAnswered_leaves m r).trans (State.lineGranted_leaves _ p m grant r)
  exact ⟨⟨hpair, congrArg (· ++ _) hdone, hwaits, hinbox, hwaiting⟩, hreqs, hdeferred, hphase⟩

/-- A line that was read without poison is in the descriptor cache with what the grant allows. -/
theorem State.lineGranted_read {grant : Nat} (hgrant : grant ≠ 0) (hread : r.opc = 8) (hpoison : m.poison = false) :
    (s.lineGranted p m grant r).desc r.line = some ⟨grant, octAt m.data 0 64, p⟩ := by
  simp [State.lineGranted, hgrant, hread, hpoison, State.desc, State.putDesc]

theorem State.lineGranted_poisoned {grant : Nat} (hgrant : grant ≠ 0) (hread : r.opc = 8) (hpoison : m.poison = true) :
    (s.lineGranted p m grant r).desc r.line = none := by
  simp [State.lineGranted, hgrant, hread, hpoison, State.desc, State.dropDesc]

theorem State.lineGranted_written {grant : Nat} (hgrant : grant ≠ 0) (hwrite : r.opc ≠ 8) :
    (s.lineGranted p m grant r).desc r.line = some ⟨3, octAt r.data 0 64, p⟩ := by
  simp [State.lineGranted, hgrant, hwrite, State.desc, State.putDesc]

end

section
variable {s : State} {p : Nat} {m : LinkMsg} {r : DevReq}

/-- An answer completes its request; a line that is granted through a quiescing port is given up again (R443). -/
theorem State.devAnswer_eq (result grant : Nat) (hr : s.devReq p m.tag = some r) (hwaits : s.coh.devWait = []) (hdeferred : s.coh.deferred = []) :
    s.devAnswer p m result grant =
      if ((s.requestCompleted p m result grant r).port p).st = 7 then (s.requestCompleted p m result grant r).giveUp r.line
      else s.requestCompleted p m result grant r := by
  have hleaves := s.requestCompleted_leaves p m result grant r
  have hidle := State.runDeferred_idle (hleaves.deferred.trans hdeferred) r.line
  have hended := (State.LeavesRequests.ite (c := ((s.requestCompleted p m result grant r).port p).st = 7)
    (State.giveUp_leaves _ r.line) (.refl (s.requestCompleted p m result grant r))).waits
  calc s.devAnswer p m result grant
      = State.drainDev (if (((s.requestCompleted p m result grant r).runDeferred r.line).port p).st = 7
          then ((s.requestCompleted p m result grant r).runDeferred r.line).giveUp r.line
          else (s.requestCompleted p m result grant r).runDeferred r.line) := by
        unfold State.devAnswer
        rw [hr]
        rfl
    _ = _ := by
        rw [hidle]
        exact State.drainDev_idle _ (hended.trans (hleaves.waits.trans hwaits))

/-- An answer takes its request from those that are outstanding and hands it to its unit; what else could follow stays. -/
theorem State.devAnswer_queues (result grant : Nat) (hr : s.devReq p m.tag = some r) (hwaits : s.coh.devWait = [])
    (hdeferred : s.coh.deferred = []) :
    (s.devAnswer p m result grant).coh.reqs = mdel s.coh.reqs m.tag ∧
    (s.devAnswer p m result grant).coh.done = s.coh.done ++ [(r, answerResult m result grant r, octAt m.data 0 64)] ∧
    (s.devAnswer p m result grant).coh.devWait = s.coh.devWait ∧ (s.devAnswer p m result grant).coh.inbox = s.coh.inbox ∧
    (s.devAnswer p m result grant).coh.waiting = s.coh.waiting := by
  have hended : (s.requestCompleted p m result grant r).LeavesRequests (s.devAnswer p m result grant) := by
    rw [State.devAnswer_eq result grant hr hwaits hdeferred]
    exact (State.giveUp_leaves ..).ite (.refl _)
  obtain ⟨⟨-, kdone, kwaits, kinbox, kwaiting⟩, kreqs, -, -⟩ := (s.requestCompleted_leaves p m result grant r).trans hended
  exact ⟨kreqs, kdone, kwaits, kinbox, kwaiting⟩

/-- Behind a port that is not quiescing, the line stands as the grant left it. -/
theorem State.devAnswer_desc (result grant : Nat) (hr : s.devReq p m.tag = some r) (hwaits : s.coh.devWait = [])
    (hdeferred : s.coh.deferred = []) (hport : (s.port p).st ≠ 7) :
    (s.devAnswer p m result grant).desc r.line = ((s.requestAnswered m r).lineGranted p m grant r).desc r.line := by
  have hphase : ((s.requestCompleted p m result grant r).port p).st ≠ 7 := by
    rw [(s.requestCompleted_leaves p m result grant r).phase p]
    exact hport
  rw [State.devAnswer_eq result grant hr hwaits hdeferred, if_neg hphase]
  rfl

end

/-! ### The commands that answer -/

/-- The limits of FAB are told from the real time and the root of FAB alone. -/
theorem State.late_fab {s t : State} (hnow : t.now = s.now) (hdom : t.dom .fab = s.dom .fab) (since limit : Nat) :
    t.late .fab since limit = s.late .fab since limit := by
  have hrate : ∀ v : State, v.clockRate .fab = if (v.dom .fab).src = 0 then (8, 5) else (1, 10) := fun v => by
    unfold State.clockRate
    split <;> simp_all
  simp only [State.late, State.cycle, hrate, hnow, hdom]

/-- The way to its consumer takes no answer past its limit. -/
theorem State.matchFabric_late (s : State) (p : Nat) (m : LinkMsg) (since : Nat) :
    (s.matchFabric p m).late .fab since ((s.matchFabric p m).n 0x7801 2 * 1000) = s.late .fab since (s.n 0x7801 2 * 1000) := by
  have hframe : Frame [.sig] [(0xF070, 10)] s (s.matchFabric p m) := (Frame.refl s).matchFabric p m
  have hnow : (s.matchFabric p m).now = s.now := hframe.part .now (by decide)
  have hclk : (s.matchFabric p m).clk = s.clk := hframe.part .clk (by decide)
  rw [State.late_fab hnow (State.dom_congr (congrArg _ hclk) (hframe.part .power (by decide)) .fab), hframe.n_eq]

theorem answerResult_eq (m : LinkMsg) (result grant : Nat) (r : DevReq) :
    answerResult m result grant r = if m.poison = true ∧ (grant = 0 ∨ r.opc = 8) then 3 else result := by
  unfold answerResult
  congr 1
  simp

/-- A message that arrives ends with what its consumer does, and what waited for that. -/
theorem endsAs_of_arrives {c : Instr} {s u : State} {p vc opc : Nat} {m : CohMsg} (hc : exec c s = s.ends (s.cohIn p vc opc m))
    (harr : Arrives s p vc opc m) (hu : (s.matchFabric p (coherent vc opc m)).deliver p (coherent vc opc m) m.more = u)
    (hinbox : u.coh.inbox = []) (hwaits : u.coh.devWait = []) (hwaiting : u.coh.waiting = s.coh.waiting) : EndsAs c s u := by
  have hsettled : s.cohIn p vc opc m = u.settle := by
    rw [State.cohIn_of_arrives harr (by rw [hu, State.settle_waiting hinbox hwaits, hwaiting]), hu]
  exact ⟨_, by rw [hc, hsettled]; rfl, rfl⟩

section
variable {s : State} {p : Fin 6} {m : CohMsg} {c : Instr} {vc opc result grant : Nat} {r : DevReq}

/-- The answers to requests of the device (Table 10.3). -/
theorem exec_answer_kinds
    (hcase : c = .wrAck p m ∧ vc = 2 ∧ opc = 1 ∧ result = 0 ∧ grant = 0 ∨ c = .gntE p m ∧ vc = 2 ∧ opc = 2 ∧ result = 0 ∧ grant = 2 ∨
      c = .errAddr p m ∧ vc = 2 ∧ opc = 0x1C ∧ result = 1 ∧ grant = 0 ∨ c = .errType p m ∧ vc = 2 ∧ opc = 0x1D ∧ result = 1 ∧ grant = 0 ∨
      c = .errGone p m ∧ vc = 2 ∧ opc = 0x1F ∧ result = 2 ∧ grant = 0 ∨ c = .dataUc p m ∧ vc = 3 ∧ opc = 1 ∧ result = 0 ∧ grant = 0 ∨
      c = .dataS p m ∧ vc = 3 ∧ opc = 2 ∧ result = 0 ∧ grant = 1 ∨ c = .dataE p m ∧ vc = 3 ∧ opc = 3 ∧ result = 0 ∧ grant = 2 ∨
      c = .dataI p m ∧ vc = 3 ∧ opc = 4 ∧ result = 0 ∧ grant = 0)
    (hlen : if vc = 3 then (if opc = 1 then msgLen (coherent vc opc m) = 1 ∨ msgLen (coherent vc opc m) = 4
      else msgLen (coherent vc opc m) = 4 ∧ m.addr.toNat % 64 = 0) else msgLen (coherent vc opc m) = 0) :
    exec c s = s.ends (s.cohIn p.val vc opc m) ∧
      ∀ v : State, v.deliver p.val (coherent vc opc m) m.more = v.devAnswered p.val (coherent vc opc m) result grant := by
  have hline : msgLen (coherent vc opc m) = 4 ∧ m.addr.toNat % 64 = 0 → lineMsg (coherent vc opc m) 4 = true := fun h => by
    simp [lineMsg, h]
  rcases hcase with ⟨rfl, rfl, rfl, rfl, rfl⟩ | ⟨rfl, rfl, rfl, rfl, rfl⟩ | ⟨rfl, rfl, rfl, rfl, rfl⟩ | ⟨rfl, rfl, rfl, rfl, rfl⟩ |
    ⟨rfl, rfl, rfl, rfl, rfl⟩ | ⟨rfl, rfl, rfl, rfl, rfl⟩ | ⟨rfl, rfl, rfl, rfl, rfl⟩ | ⟨rfl, rfl, rfl, rfl, rfl⟩ | ⟨rfl, rfl, rfl, rfl, rfl⟩
  · exact ⟨rfl, fun _ => if_neg (absurd hlen)⟩
  · exact ⟨rfl, fun _ => if_neg (absurd hlen)⟩
  · exact ⟨rfl, fun _ => if_neg (absurd hlen)⟩
  · exact ⟨rfl, fun _ => if_neg (absurd hlen)⟩
  · exact ⟨rfl, fun _ => if_neg (absurd hlen)⟩
  · exact ⟨rfl, fun _ => if_pos hlen⟩
  · exact ⟨rfl, fun _ => if_pos (hline hlen)⟩
  · exact ⟨rfl, fun _ => if_pos (hline hlen)⟩
  · exact ⟨rfl, fun _ => if_pos (hline hlen)⟩

/-- An answer in time completes its request to its unit, and a grant through a port that is not quiescing leaves the line as it says. -/
theorem exec_answer (halone : Alone s) (hc : exec c s = s.ends (s.cohIn p.val vc opc m))
    (hdeliver : ∀ v : State, v.deliver p.val (coherent vc opc m) m.more = v.devAnswered p.val (coherent vc opc m) result grant)
    (harr : Arrives s p.val vc opc m) (hr : s.devReq p.val m.tag.toNat = some r)
    (hlate : s.late .fab r.since (s.n 0x7801 2 * 1000) = false) (hdeferred : s.coh.deferred = []) :
    ∃ u, EndsAs c s u ∧ mget u.coh.reqs m.tag.toNat = none ∧
      u.coh.done = [(r, if m.poison = true ∧ (grant = 0 ∨ r.opc = 8) then 3 else result, octAt m.data 0 64)] ∧
      (grant ≠ 0 → (s.port p.val).st ≠ 7 →
        (r.opc = 8 → m.poison = false → u.desc r.line = some ⟨grant, octAt m.data 0 64, p.val⟩) ∧
        (r.opc = 8 → m.poison = true → u.desc r.line = none) ∧
        (r.opc ≠ 8 → u.desc r.line = some ⟨3, octAt r.data 0 64, p.val⟩)) := by
  obtain ⟨-, -, hdone, hwaits, hinbox⟩ := halone
  generalize hx : coherent vc opc m = x at hdeliver
  have hmatch := s.matchFabric_leaves p.val x
  have hreq : (s.matchFabric p.val x).devReq p.val x.tag = some r := by
    rw [← hr, ← hx]
    simp [State.devReq]
  have hnone := hmatch.waits.trans hwaits
  have hundeferred := hmatch.deferred.trans hdeferred
  obtain ⟨hreqs, hcompleted, kwaits, kinbox, kwaiting⟩ := State.devAnswer_queues result grant hreq hnone hundeferred
  have hu : (s.matchFabric p.val x).deliver p.val x m.more = (s.matchFabric p.val x).devAnswer p.val x result grant := by
    rw [hdeliver, State.devAnswered, hreq]
    dsimp only
    rw [State.matchFabric_late, hlate, if_neg Bool.false_ne_true]
  have hends : EndsAs c s ((s.matchFabric p.val x).devAnswer p.val x result grant) :=
    endsAs_of_arrives hc harr (by rw [hx]; exact hu) (kinbox.trans (hmatch.inbox.trans hinbox)) (kwaits.trans hnone)
      (kwaiting.trans hmatch.waiting)
  refine ⟨_, hends, ?_, ?_, fun hgrant hport => ?_⟩
  · rw [hreqs, ← hx]
    exact mget_mdel_self ..
  · rw [hcompleted, answerResult_eq, hmatch.done, hdone, ← hx]
    rfl
  · rw [State.devAnswer_desc result grant hreq hnone hundeferred (by rw [State.matchFabric_port]; exact hport)]
    subst hx
    exact ⟨fun hread hpoison => State.lineGranted_read hgrant hread hpoison,
      fun hread hpoison => State.lineGranted_poisoned hgrant hread hpoison, fun hwrite => State.lineGranted_written hgrant hwrite⟩

end

/-! ### Writebacks -/

theorem Frame.setCoh {parts : List Part} {objs : List (Nat × Nat)} {s u : State} (h : Frame parts objs s u) (c : Coh)
    (hm : .coh ∈ parts := by decide) : Frame parts objs s { u with coh := c } := by
  refine ⟨fun p hp => ?_, h.val⟩
  cases p with
  | coh => exact absurd hm hp
  | _ => exact h.part _ hp

/-- The WB message with a TAG is unacknowledged no longer. -/
def State.withoutWriteback (s : State) (tag : Nat) : State := { s with coh := { s.coh with wbs := mdel s.coh.wbs tag } }

theorem State.withoutWriteback_leaves (s : State) (tag : Nat) : s.LeavesRequests (s.withoutWriteback tag) :=
  ⟨⟨rfl, rfl, rfl, rfl, rfl⟩, rfl, rfl, fun _ => rfl⟩

theorem State.drainWb_idle {s : State} (h : s.coh.wbWait = []) : s.drainWb = s := by
  simp [State.drainWb, h]

/-- WB_ACK ends its writeback, and with no eviction and no request waiting nothing goes on. -/
theorem State.devWbAck_eq {s : State} {p : Nat} {m : LinkMsg} {w : DevReq} (hw : mget s.coh.wbs m.tag = some w) (hport : w.port = p)
    (hevictions : s.coh.wbWait = []) (hwaits : s.coh.devWait = []) :
    s.devWbAck p m = s.withoutWriteback m.tag := by
  unfold State.devWbAck
  simp only [hw, hport, if_true]
  have hdrain : (s.withoutWriteback m.tag).drainWb = s.withoutWriteback m.tag := State.drainWb_idle hevictions
  exact (congrArg State.drainDev hdrain).trans (State.drainDev_idle _ hwaits)

theorem wbAck_completes {s : State} {p : Fin 6} {m : CohMsg} {w : DevReq} (halone : Alone s) (harr : Arrives s p.val 2 3 m)
    (hlen : msgLen (coherent 2 3 m) = 0) (hw : mget s.coh.wbs m.tag.toNat = some w) (hport : w.port = p.val) (hevictions : s.coh.wbWait = []) :
    Completes (.wbAck p m) s [.coh, .sig] [(0xF070, 10)] fun t => t.coh = { s.coh with wbs := mdel s.coh.wbs m.tag.toNat } := by
  have hleaves := (s.matchFabric_leaves p.val (coherent 2 3 m)).trans (State.withoutWriteback_leaves _ m.tag.toNat)
  have hcoh := s.matchFabric_coh p.val (coherent 2 3 m)
  have hframe : Frame [.coh, .sig] [(0xF070, 10)] s (s.matchFabric p.val (coherent 2 3 m)) := (Frame.refl s).matchFabric ..
  have hu : (s.matchFabric p.val (coherent 2 3 m)).deliver p.val (coherent 2 3 m) m.more =
      (s.matchFabric p.val (coherent 2 3 m)).withoutWriteback m.tag.toNat := by
    obtain ⟨-, -, -, hwaits, -⟩ := halone
    calc _ = (s.matchFabric p.val (coherent 2 3 m)).devWbAck p.val (coherent 2 3 m) := if_neg (absurd hlen)
      _ = _ := State.devWbAck_eq (by rw [hcoh]; exact hw) hport (by rw [hcoh]; exact hevictions) (by rw [hcoh]; exact hwaits)
  refine completes_of_frame (exec_of_arrives rfl halone harr hu hleaves.toLeavesQueues) (hframe.setCoh _) ?_
  rw [State.ended_coh, State.withoutWriteback, hcoh]

/-! ### Expiry -/

/-- The state in which a request of the device has expired: ERR_GONE goes to its unit, and the line is dropped (R429). -/
def State.requestExpired (s : State) (tag : Nat) (r : DevReq) : State :=
  State.devDone ((((((s.elapseTo (r.since + s.n 0x7801 2 * 1000)).withoutRequest tag).dropDesc r.line).cohEvent 0 5 r.line 0).bump 0xF048 16 1))
    r 2 []

theorem State.devExpire_eq {s : State} {tag : Nat} {r : DevReq} (hr : mget s.coh.reqs tag = some r) (hwaits : s.coh.devWait = [])
    (hdeferred : s.coh.deferred = []) : s.devExpire tag = s.requestExpired tag r := by
  have hkeeps : (s.requestExpired tag r).coh.deferred = [] ∧ (s.requestExpired tag r).coh.devWait = [] := by
    simp [State.requestExpired, State.withoutRequest, State.devDone, State.dropDesc, State.cohEvent, hwaits, hdeferred]
  obtain ⟨hnone, hidle⟩ := hkeeps
  calc s.devExpire tag = ((s.requestExpired tag r).runDeferred r.line).drainDev := by
        unfold State.devExpire
        rw [hr]
        rfl
    _ = s.requestExpired tag r := by rw [State.runDeferred_idle hnone, State.drainDev_idle _ hidle]

/-- A frame holds for more parts and more objects. -/
theorem Frame.mono {parts parts' : List Part} {objs objs' : List (Nat × Nat)} {s u : State} (h : Frame parts objs s u)
    (hparts : ∀ p ∈ parts, p ∈ parts') (hobjs : ∀ o ∈ objs, o ∈ objs') : Frame parts' objs' s u :=
  ⟨fun p hp => h.part p fun hm => hp (hparts p hm), fun i a ha hi h17 => h.val i a ha (fun hm => hi (hobjs _ hm)) h17⟩

theorem Frame.cohEvent {parts : List Part} {objs : List (Nat × Nat)} {s u : State} (h : Frame parts objs s u) (b k a i : Nat)
    (hcoh : .coh ∈ parts := by decide) (hlatch : .latch ∈ parts := by decide) (ho : ∀ x ∈ causeObjects 6, x ∈ objs := by decide) :
    Frame parts objs s (u.cohEvent b k a i) := (h.setCoh _ hcoh).setCause 6 b hlatch ho

/-- A COH event that MGT sees sets its cause (R333, R439). -/
theorem State.cohEvent_z {s : State} (b k a i : Nat) (hfast : s.mgtFast = true) : (s.cohEvent b k a i).z 0x2107 0 = s.z 0x2107 0 ||| 2 ^ b :=
  State.setCause_z (s := { s with coh := { s.coh with eventAddr := a, eventSid := i, eventKind := k } }) b (by decide) hfast

/-- A request that expires is gone to its unit, sets DCACHE and is counted (R429). -/
theorem deviceRequestTimeout_ends {s : State} {tag : BitVec 16} {r : DevReq} (halone : Alone s) (hr : mget s.coh.reqs tag.toNat = some r)
    (hdeferred : s.coh.deferred = []) (hfast : s.mgtFast = true) :
    ∃ u, EndsAs (.deviceRequestTimeout tag) s u ∧ u.now = max s.now (r.since + s.n 0x7801 2 * 1000) ∧
      mget u.coh.reqs tag.toNat = none ∧ u.coh.done = [(r, 2, [])] ∧ u.desc r.line = none ∧
      u.z 0x2107 0 = s.z 0x2107 0 ||| 1 ∧ u.z 0xF048 16 = min (s.z 0xF048 16 + 1) (2 ^ 32 - 1) := by
  obtain ⟨-, -, hdone, hwaits, -⟩ := halone
  have hends : EndsAs (.deviceRequestTimeout tag) s (s.requestExpired tag.toNat r) := by
    rw [← State.devExpire_eq hr hwaits hdeferred]
    exact ⟨_, rfl, rfl⟩
  refine ⟨_, hends, ?_⟩
  unfold State.requestExpired
  generalize hv : ((s.elapseTo (r.since + s.n 0x7801 2 * 1000)).withoutRequest tag.toNat).dropDesc r.line = v
  have hframe : Frame [.now, .time, .coh] clockObjects s v := hv ▸ (((Frame.refl s).elapseTo _).setCoh _).setCoh _
  have hevent : Frame [.now, .time, .coh, .latch] (clockObjects ++ causeObjects 6) s (v.cohEvent 0 5 r.line 0) :=
    (hframe.mono (by decide) (by decide)).cohEvent 0 5 r.line 0
  have hleaves := v.cohEvent_leaves 0 5 r.line 0
  refine ⟨?_, ?_, ?_, ?_, ?_, ?_⟩
  · simp [← hv, State.withoutRequest, State.dropDesc]
  · show mget (v.cohEvent 0 5 r.line 0).coh.reqs _ = _
    rw [hleaves.reqs, ← hv]
    exact mget_mdel_self ..
  · show (v.cohEvent 0 5 r.line 0).coh.done ++ _ = _
    rw [hleaves.done, ← hv]
    simp [State.withoutRequest, State.dropDesc, hdone]
  · show mget (v.cohEvent 0 5 r.line 0).coh.desc _ = _
    rw [State.cohEvent_desc, ← hv]
    exact mget_mdel_self ..
  · show ((v.cohEvent 0 5 r.line 0).bump 0xF048 16 1).z 0x2107 0 = _
    rw [State.z_bump, if_neg (by decide), State.cohEvent_z _ _ _ _ (hframe.mgtFast_eq.trans hfast), hframe.z_eq]
    rfl
  · show ((v.cohEvent 0 5 r.line 0).bump 0xF048 16 1).z 0xF048 16 = _
    rw [State.z_bump, if_pos rfl, hevent.z_eq]

/-! ### The obligation -/

/-- Settles O41: by the kinds of answers, and by the limit of a request. -/
theorem deviceRequestsComplete : Obligations.DeviceRequestsComplete := fun _ _ _ halone =>
  ⟨fun _ _ _ _ _ _ hcase harr hlen hr hlate _ hdeferred =>
      have hkind := exec_answer_kinds hcase hlen
      exec_answer halone hkind.1 hkind.2 harr hr hlate hdeferred,
    fun _ harr hlen hw hport hevictions => wbAck_completes halone harr hlen hw hport hevictions,
    fun _ _ hr _ hdeferred hfast => deviceRequestTimeout_ends halone hr hdeferred hfast⟩

end Sys2Proof.Machine
end

section
/-! PROOF. An edge of PPS_IN, a loop's following error, a bank's supply fault and a full ring on devices that the statements about them do
not keep apart: a commit of the same instant (Table 9.16, Table 17.11), a Second in TRAIN (Table 19.6), and a clear of the same MGT cycle
(R338). -/
set_option Elab.async false
namespace Sys2Proof.Machine

/-- A write of package time waits for the next rising edge of PPS_IN, and the commit of the present tick selects the falling edges. -/
def polarityAtEdge : State :=
  { State.reset with
    clk := { State.reset.clk with dom := [(domNo .tick, { inReset := false })] }
    time := { State.reset.time with ptRun := true, atPps := some (0, 0) }
    commit := { State.reset.commit with state := 3 }
    staged := [⟨0x6003, 2, .num 1, .jtag, 3, false⟩] }

/-- The commit applies before the edge (R472, R483), which is then one that the device does not look for, so the write stays armed. -/
theorem polarityAtEdge_stays_armed :
    ∃ t, exec (.ppsInEdge (polarityAtEdge.z 0x6003 2 == 0) false) polarityAtEdge = .next t ∧ t.time.atPps = some (0, 0) :=
  ⟨_, rfl, by decide +kernel⟩

/-- Refutes O45: it asks that an edge of the selected polarity apply the armed write, and a commit that applies in the tick of the edge and
selects the other polarity (`polarityAtEdge`) leaves the write armed. No hypothesis of the statement keeps such a commit away. -/
theorem not_ppsDisciplinesPackageTime : ¬ Obligations.PpsDisciplinesPackageTime := by
  intro h
  obtain ⟨-, harmed, -⟩ := h polarityAtEdge
  obtain ⟨t, ht, -, hnone, -⟩ := harmed 0 0 rfl rfl (Nat.zero_le _)
  obtain ⟨u, hu, hsome⟩ := polarityAtEdge_stays_armed
  obtain rfl : t = u := Host.Outcome.next.inj (ht.symm.trans hu)
  exact absurd (hnone.symm.trans hsome) (by decide)

/-- A Second in TRAIN of whose ports its Lead reports none admitted, with a locked loop whose following error has lasted. -/
def secondCaughtUp : State :=
  { State.reset with
    boot := { State.reset.boot with step := 11 }
    clk := { State.reset.clk with netsOut := false, dom := [(domNo .mgt, { src := 0, inReset := false })] }
    pair := { State.reset.pair with role := 3, catchup := 3, partnerPorts := [(0, 0), (1, 0), (2, 0), (3, 0), (4, 0), (5, 0)] }
    belay := { State.reset.belay with frame := 2 ^ 32, loop := [(0, { st := 2, feStart := some 0 })] } }

/-- At the end of the command the Second finds its ports caught up and its boot goes on to step 12. -/
theorem secondCaughtUp_boots_on : ∃ t, exec (.followingErrorExpiry 0) secondCaughtUp = .next t ∧ t.boot.step = 12 :=
  ⟨_, rfl, by decide +kernel⟩

/-- Refutes O47: its clause of the following-error limit asks that no part but Belay, the alerts, the pair and the output change, and a
Second whose ports have caught up (`secondCaughtUp`) goes on with its boot at the end of the same command. -/
theorem not_belayFramesAndSupervision : ¬ Obligations.BelayFramesAndSupervision := by
  intro h
  obtain ⟨-, -, -, hfollowing, -⟩ := h secondCaughtUp
  obtain ⟨t, ht, ⟨-, hparts⟩, -⟩ := hfollowing 0 (by decide +kernel) (by decide +kernel)
  obtain ⟨u, hu, hstep⟩ := secondCaughtUp_boots_on
  obtain rfl : t = u := Host.Outcome.next.inj (ht.symm.trans hu)
  have hboot : t.boot = secondCaughtUp.boot := hparts .boot (by decide)
  rw [hboot] at hstep
  exact absurd hstep (by decide)

/-- A bank is READY, and the commit of the present tick turns it off. -/
def offAtFault : State :=
  { State.reset with
    boot := { State.reset.boot with step := 14 }
    clk := { State.reset.clk with netsOut := false, dom := [(domNo .tick, { inReset := false }), (domNo .mgt, { src := 0, inReset := false })] }
    mem := { State.reset.mem with bank := [(0, {})] }
    commit := { State.reset.commit with state := 3 }
    staged := [⟨0x2300, 1, .num 2, .jtag, 3, false⟩] }

/-- The commit governs (Table 17.11): the bank drains towards Off, and the fault of its supply is none. -/
theorem offAtFault_drains : ∃ t, exec (.bankSupplyFault 0) offAtFault = .next t ∧ (t.bank 0).st = 1 :=
  ⟨_, rfl, by decide +kernel⟩

/-- Refutes O51: it asks that a supply fault fail a READY bank, and keeps apart only a bank that drains to Off since this instant; one
that a commit of the same tick turns off (`offAtFault`) is READY before the command and drains behind it. -/
theorem not_banksMoveBetweenPowerStates : ¬ Obligations.BanksMoveBetweenPowerStates := by
  rintro ⟨-, hfail⟩
  have halone : Alone offAtFault := ⟨by decide, by decide, rfl, rfl, rfl⟩
  obtain ⟨hsupply, -⟩ := hfail offAtFault 0 halone (by decide +kernel)
  obtain ⟨t, ht, ⟨hfailed, -⟩, -⟩ := hsupply (.inl rfl) (by decide)
  obtain ⟨u, hu, hdrains⟩ := offAtFault_drains
  obtain rfl : t = u := Host.Outcome.next.inj (ht.symm.trans hu)
  exact absurd (hfailed.symm.trans hdrains) (by decide)

/-- Stream 0 would start a frame of a block of window 0, its ring is full, and a clear of this MGT cycle has taken bit 2 of the window's
child. -/
def clearedBeforeStall : State :=
  { State.reset with
    boot := { State.reset.boot with step := 14 }
    clk := { State.reset.clk with netsOut := false, dom := [(domNo .mgt, { src := 0, inReset := false }), (domNo .cmp, { inReset := false })] }
    obj := [(key 0x5100 1, .num (2 ^ 15)), (key 0x5800 1, .num 1), (key 0x5800 3, .num 1)]
    sto := { State.reset.sto with win := [(0, { closed := [(0, 4096)] })], stream := [(0, { produced := 2 ^ 64 })] }
    alerts := { State.reset.alerts with cleared := [(key 0x2160 1, 4)] } }

/-- The event overtakes the clear, which is counted (R338). -/
theorem clearedBeforeStall_counts :
    ∃ t, exec (.spillFrameStart 0) clearedBeforeStall = .next t ∧ t.val 0xF018 18 = .num 1 :=
  ⟨_, rfl, by decide +kernel⟩

/-- Refutes O50: its clause of the full ring leaves out the counter of the overtaken clears (F018h:18) where it lists the objects that may
change, and the counter goes up when a clear of the same MGT cycle has taken the bit (`clearedBeforeStall`). -/
theorem not_windowsAndStreams : ¬ Obligations.WindowsAndStreams := by
  rintro ⟨-, hspill⟩
  have halone : Alone clearedBeforeStall := ⟨by decide, by decide, rfl, rfl, rfl⟩
  obtain ⟨-, hfull, -⟩ := hspill clearedBeforeStall 0 halone
  obtain ⟨t, ht, -, hobjects, -⟩ := hfull (by decide +kernel) (by decide +kernel) (by decide) (by decide +kernel)
  obtain ⟨u, hu, hcounts⟩ := clearedBeforeStall_counts
  obtain rfl : t = u := Host.Outcome.next.inj (ht.symm.trans hu)
  have hwindow : clearedBeforeStall.streamWin (0 : Fin 4).val = 0 := by decide +kernel
  rw [hwindow] at hobjects
  have hbefore : clearedBeforeStall.val 0xF018 18 = .num 0 := by decide +kernel
  rw [hobjects 0xF018 18 (by decide) (by decide) (by decide), hbefore] at hcounts
  exact absurd hcounts (by decide)

end Sys2Proof.Machine
end

section
/-! PROOF. Time that passes and the units that are read from the time base: what the passing of time leaves of it, and where it brings the
tick counter (R6, R451); frames of the updates of the time base and of the trigger. -/
set_option Elab.async false
namespace Sys2Proof.Machine

/-! ### Frames -/

section
variable {parts : List Part} {objs : List (Nat × Nat)} {s u : State}

theorem Frame.setTime (h : Frame parts objs s u) (x : TimeBase) (hm : .time ∈ parts := by decide) : Frame parts objs s { u with time := x } := by
  refine ⟨fun p hp => ?_, h.val⟩
  cases p with
  | time => exact absurd hm hp
  | _ => exact h.part _ hp

theorem Frame.setTrig (h : Frame parts objs s u) (x : Trigger) (hm : .trig ∈ parts := by decide) : Frame parts objs s { u with trig := x } := by
  refine ⟨fun p hp => ?_, h.val⟩
  cases p with
  | trig => exact absurd hm hp
  | _ => exact h.part _ hp

theorem Frame.setTap (h : Frame parts objs s u) (i : Nat) (x : TapSt) (hm : .time ∈ parts := by decide) : Frame parts objs s (u.setTap i x) :=
  h.setTime _ hm

theorem Frame.setSrc (h : Frame parts objs s u) (i : Nat) (x : SourceSt) (hm : .time ∈ parts := by decide) : Frame parts objs s (u.setSrc i x) :=
  h.setTime _ hm

theorem Frame.elapseToTick (h : Frame parts objs s u) (k : Nat) (hnow : .now ∈ parts := by decide) (htime : .time ∈ parts := by decide)
    (hm : (0xF050, 16) ∈ objs := by decide) : Frame parts objs s (u.elapseToTick k) := (h.elapse _ hnow htime hm).ite h

end

/-! ### What time leaves of the time base -/

/-- A reading of the time base that the passing of time leaves alone. -/
def Timeless {β : Type} (g : TimeBase → β) : Prop := ∀ (t : TimeBase) (k n b : Nat), g { t with tick := k, pt := n, bridgeLead := b } = g t

theorem State.elapse_timeless {β : Type} {g : TimeBase → β} (hg : Timeless g) (s : State) (d : Nat) : g (s.elapse d).time = g s.time := by
  unfold State.elapse
  extract_lets refs ticks t moved s'
  have hmoved : g moved = g s.time := by
    unfold moved
    split
    · exact hg t _ _ _
    · rfl
  split <;> exact hmoved

theorem State.elapseTo_timeless {β : Type} {g : TimeBase → β} (hg : Timeless g) (s : State) (n : Nat) : g (s.elapseTo n).time = g s.time := by
  unfold State.elapseTo
  split
  · exact s.elapse_timeless hg _
  · rfl

theorem State.elapseToTick_timeless {β : Type} {g : TimeBase → β} (hg : Timeless g) (s : State) (k : Nat) :
    g (s.elapseToTick k).time = g s.time := by
  unfold State.elapseToTick
  split
  · exact s.elapse_timeless hg _
  · rfl

theorem State.tap_elapseToTick (s : State) (k i : Nat) : (s.elapseToTick k).tap i = s.tap i :=
  s.elapseToTick_timeless (g := fun t => mgetD t.tap i {}) (fun _ _ _ _ => rfl) k

/-- Time moves on to a tick that lies ahead, where the counter runs and the time base does not bridge. -/
theorem State.tick_elapseToTick {s : State} (k : Nat) (hrun : s.time.tickRun = true) (hb : s.time.bridging = false) :
    (s.elapseToTick k).time.tick = max s.time.tick k := by
  unfold State.elapseToTick
  split
  · next h =>
    rw [State.elapse_tick_of_running _ hrun hb, State.spanOf, hb, if_neg Bool.false_ne_true]
    omega
  · next h =>
    have : ¬ s.time.tick < k := fun hlt => h ⟨hrun, hlt⟩
    omega

theorem State.ended_tap (s u : State) (i : Nat) : (s.ended u).tap i = u.tap i := congrArg (fun t : TimeBase => mgetD t.tap i {}) (s.ended_time u)

theorem State.ended_src (s u : State) (i : Nat) : (s.ended u).src i = u.src i :=
  congrArg (fun t : TimeBase => mgetD t.source i {}) (s.ended_time u)

end Sys2Proof.Machine
end

section
/-! PROOF. Taps that join, the resets of their queues, and the reset of the margins (R539, R542, R546). -/
set_option Elab.async false
namespace Sys2Proof.Machine

theorem tapJoin_completes {s : State} {i : Fin 64} (hjoining : (s.tap i.val).q = 1) (hready : (s.tap i.val).ready = true) :
    Completes (.tapJoin i) s [.now, .time] clockObjects fun t => t.tap i.val = { s.tap i.val with q := 2 } := by
  have hmeaning : s.tapJoin i.val = (s.elapseToTick (s.tap i.val).join).setTap i.val { (s.elapseToTick (s.tap i.val).join).tap i.val with q := 2 } :=
    if_pos ⟨hjoining, hready⟩
  refine completes_of_frame (congrArg s.ends hmeaning) (((Frame.refl s).elapseToTick _).setTap _ _) ?_
  rw [State.ended_tap, State.tap_setTap, if_pos rfl, State.tap_elapseToTick]

/-! ### A pass over the taps -/

/-- `f` gives each tap of the state `s` the state that `g` says, and leaves the other taps and the objects alone. -/
def State.PassesTaps (s : State) (f : State → Nat → State) (g : Nat → TapSt → TapSt) : Prop :=
  ∀ u : State, u.obj = s.obj → ∀ i, (f u i).obj = s.obj ∧ ∀ j, (f u i).tap j = if j = i then g i (u.tap i) else u.tap j

theorem State.tap_ite_setTap (u : State) (i j : Nat) (c : Prop) [Decidable c] (x : TapSt) :
    (if c then u.setTap i x else u).tap j = if j = i then (if c then x else u.tap i) else u.tap j := by
  by_cases hc : c
  · simp [hc]
  · by_cases hj : j = i <;> simp [hc, hj]

theorem State.obj_ite_setTap (u : State) (i : Nat) (c : Prop) [Decidable c] (x : TapSt) : (if c then u.setTap i x else u).obj = u.obj := by
  split <;> rfl

theorem State.PassesTaps.foldl {s : State} {f : State → Nat → State} {g : Nat → TapSt → TapSt} (hf : s.PassesTaps f g) :
    ∀ (l : List Nat) (u : State), l.Nodup → u.obj = s.obj → ∀ j, (l.foldl f u).tap j = if j ∈ l then g j (u.tap j) else u.tap j := by
  intro l
  induction l with
  | nil => exact fun u _ _ j => by simp
  | cons i l ih =>
    intro u hnodup hobj j
    obtain ⟨hi, hl⟩ := List.nodup_cons.1 hnodup
    obtain ⟨hkept, htap⟩ := hf u hobj i
    rw [List.foldl_cons, ih _ hl hkept, htap]
    by_cases hj : j = i
    · subst hj
      simp [hi]
    · simp [hj]

theorem State.PassesTaps.tap {s : State} {f : State → Nat → State} {g : Nat → TapSt → TapSt} (hf : s.PassesTaps f g) {i : Nat} (hi : i < 64) :
    ((List.range 64).foldl f s).tap i = g i (s.tap i) := by
  rw [hf.foldl _ s List.nodup_range rfl, if_pos (List.mem_range.2 hi)]

/-! ### The resets -/

/-- What a reset of a queue reports behind the pass over its taps (R546). -/
def State.queueResetTold (s : State) : State := (s.setCause 9 5).bump 0xF060 12 1

theorem Frame.queueResetTold {s u : State} (h : Frame [.time, .latch] (causeObjects 9 ++ [(0xF060, 12)]) s u) :
    Frame [.time, .latch] (causeObjects 9 ++ [(0xF060, 12)]) s u.queueResetTold := (h.setCause 9 5).bump 0xF060 12 1

theorem State.ended_queueResetTold {s u : State} (h : Frame [.time] [] s u) (hfast : s.mgtFast = true) :
    (s.ended u.queueResetTold).z 0x210A 0 = s.z 0x210A 0 ||| 32 ∧
    (s.ended u.queueResetTold).z 0xF060 12 = min (s.z 0xF060 12 + 1) (2 ^ 32 - 1) ∧ ∀ i, (s.ended u.queueResetTold).tap i = u.tap i := by
  refine ⟨?_, ?_, fun i => ?_⟩
  · rw [State.ended_z, State.queueResetTold, State.z_bump, if_neg (by decide), State.setCause_z 5 (by decide) (h.mgtFast_eq.trans hfast)]
    exact congrArg (· ||| 32) (h.z_eq (i := 0x210A) (a := 0))
  · rw [State.ended_z, State.queueResetTold, State.z_bump, if_pos rfl, State.setCause_z_ne _ _ (by decide) (by decide) (by decide) (by decide) rfl, h.z_eq]
  · rw [State.ended_tap]
    simp [State.queueResetTold, State.tap]

/-- The reset of the dispatch queues of port `p` reaches tap `i`. -/
def State.gapTap (p : Nat) (s : State) (i : Nat) : State :=
  if tapPort (s.tapEntry i) = p ∧ (s.tap i).q = 2 then s.setTap i { s.tap i with gap := 7 } else s

theorem State.gapTap_passes (s : State) (p : Nat) :
    s.PassesTaps (State.gapTap p) fun i x => if tapPort (s.tapEntry i) = p ∧ x.q = 2 then { x with gap := 7 } else x := by
  intro u hu i
  have hentry : u.tapEntry i = s.tapEntry i := State.z_congr hu ..
  refine ⟨(State.obj_ite_setTap ..).trans hu, fun j => ?_⟩
  rw [State.gapTap, State.tap_ite_setTap, hentry]

theorem Frame.gapTap {parts : List Part} {objs : List (Nat × Nat)} {s u : State} (h : Frame parts objs s u) (p i : Nat)
    (hm : .time ∈ parts := by decide) : Frame parts objs s (u.gapTap p i) := (h.setTap _ _ hm).ite h

theorem dispatchReset_completes {s : State} (p : Fin 6) (hfast : s.mgtFast = true) :
    Completes (.dispatchQueueReset p) s [.time, .latch] (causeObjects 9 ++ [(0xF060, 12)]) fun t =>
      t.z 0x210A 0 = s.z 0x210A 0 ||| 32 ∧ t.z 0xF060 12 = min (s.z 0xF060 12 + 1) (2 ^ 32 - 1) ∧
      ∀ i, i < 64 → t.tap i = if tapPort (s.tapEntry i) = p.val ∧ (s.tap i).q = 2 then { s.tap i with gap := 7 } else s.tap i := by
  have hmeaning : s.dispatchReset p.val = ((List.range 64).foldl (State.gapTap p.val) s).queueResetTold := rfl
  obtain ⟨hcause, hcount, htap⟩ := State.ended_queueResetTold (Frame.foldl (fun _ i h => h.gapTap p.val i) (List.range 64) (Frame.refl s)) hfast
  exact completes_of_frame (congrArg s.ends hmeaning) (Frame.foldl (fun _ i h => h.gapTap p.val i) _ (Frame.refl s)).queueResetTold
    ⟨hcause, hcount, fun i hi => (htap i).trans ((s.gapTap_passes p.val).tap hi)⟩

/-- What the reset of the tap event queue leaves of a tap that joins or counts. -/
def TapSt.queueGone (x : TapSt) : TapSt := { x.leave with tctl := false, due := decide (x.st ≠ 0), st := if 2 ≤ x.st then 2 else x.st }

/-- The reset of the tap event queue reaches tap `i`. -/
def State.goneTap (s : State) (i : Nat) : State := if (s.tap i).q = 1 ∨ (s.tap i).q = 2 then s.setTap i (s.tap i).queueGone else s

theorem State.goneTap_passes (s : State) : s.PassesTaps State.goneTap fun _ x => if x.q = 1 ∨ x.q = 2 then x.queueGone else x := by
  intro u hu i
  refine ⟨(State.obj_ite_setTap ..).trans hu, fun j => ?_⟩
  rw [State.goneTap, State.tap_ite_setTap]

theorem Frame.goneTap {parts : List Part} {objs : List (Nat × Nat)} {s u : State} (h : Frame parts objs s u) (i : Nat)
    (hm : .time ∈ parts := by decide) : Frame parts objs s (u.goneTap i) := (h.setTap _ _ hm).ite h

theorem tapEventReset_completes {s : State} (hfast : s.mgtFast = true) :
    Completes .tapEventQueueReset s [.time, .latch] (causeObjects 9 ++ [(0xF060, 12)]) fun t =>
      t.z 0x210A 0 = s.z 0x210A 0 ||| 32 ∧ t.z 0xF060 12 = min (s.z 0xF060 12 + 1) (2 ^ 32 - 1) ∧
      ∀ i, i < 64 → if (s.tap i).q = 1 ∨ (s.tap i).q = 2 then (t.tap i).q = 3 ∧ (t.tap i).ready = false ∧ (t.tap i).rows = []
        else t.tap i = s.tap i := by
  have hmeaning : s.tapEventReset = ((List.range 64).foldl State.goneTap s).queueResetTold := rfl
  obtain ⟨hcause, hcount, htap⟩ := State.ended_queueResetTold (Frame.foldl (fun _ i h => h.goneTap i) (List.range 64) (Frame.refl s)) hfast
  refine completes_of_frame (congrArg s.ends hmeaning) (Frame.foldl (fun _ i h => h.goneTap i) _ (Frame.refl s)).queueResetTold
    ⟨hcause, hcount, fun i hi => ?_⟩
  rw [htap i, s.goneTap_passes.tap hi]
  split
  · exact ⟨rfl, rfl, rfl⟩
  · rfl

/-! ### The margins -/

/-- The reset of the margins reaches tap `i`. -/
def State.marginTap (s : State) (i : Nat) : State := s.setTap i { s.tap i with margin := none }

theorem State.marginTap_passes (s : State) : s.PassesTaps State.marginTap fun _ x => { x with margin := none } :=
  fun _ hu _ => ⟨hu, fun _ => State.tap_setTap ..⟩

theorem Frame.marginTap {parts : List Part} {objs : List (Nat × Nat)} {s u : State} (h : Frame parts objs s u) (i : Nat)
    (hm : .time ∈ parts := by decide) : Frame parts objs s (u.marginTap i) := h.setTap _ _ hm

theorem State.answered_tap (s : State) (w : Who) (i : Nat) : (s.answered w).tap i = s.tap i := rfl

theorem State.accepted_tap (s : State) (w : Who) (i : Nat) : (s.accepted w).tap i = s.tap i := by simp [State.tap, State.accepted]

theorem State.marginReset_eq (s : State) : s.marginReset = (List.range 64).foldl State.marginTap s := by
  unfold State.marginReset State.marginTap
  rfl

theorem State.liveUnit_marginReset (s : State) (path req level : Nat) :
    s.liveUnit ⟨path, req, level, 0x3007, 0⟩ (.num 1) = s.marginReset := by
  unfold State.liveUnit
  generalize s.marginReset = t
  rfl

theorem marginReset_completes {s : State} (w : Who) (halone : Alone s) (h : Accepted s w 0x3007 0 1) :
    Completes (.marginReset w 1) s [.time, .acc, .out] accessObjects fun t => ∀ i, i < 64 → t.tap i = { s.tap i with margin := none } := by
  have hrow : findRow 0x3007 0 = some ⟨0x3007, 0x3007, 0, 0, .bool, .l, 0, 1, 0, .any, 0xff, 1⟩ := rfl
  have heff : ∀ (u : State) (a : Acc), a.idx = 0x3007 → a.sub = 0 → u.liveEffect a (.num 1) = (u.rewritten (key 0x3007 0)).marginReset := by
    rintro u ⟨path, req, level, idx, sub⟩ rfl rfl
    exact State.liveUnit_marginReset (u.rewritten (key 0x3007 0)) path req level
  have hf : Frame [.time, .acc, .out] accessObjects s (s.accepted w).marginReset := by
    rw [State.marginReset_eq]
    exact Frame.foldl (fun t i h => h.marginTap i) _ (Frame.accepted s w)
  refine completes_of_accepted (eff := State.marginReset) rfl hrow rfl (by decide) halone h heff (hf.up_eq.trans (State.up_of_accepted h)) hf fun i hi => ?_
  rw [State.ended_tap, State.answered_tap, State.marginReset_eq, ← s.accepted_tap w]
  exact (s.accepted w).marginTap_passes.tap hi

end Sys2Proof.Machine
end

section
/-! PROOF. The storage writer, told by what it leaves: it changes the rings, the lanes, the write buffer and what a recall of the ring's lines
changes, and no count of the sequencer (R422, R625, R636, R639, R649). -/
set_option Elab.async false
namespace Sys2Proof.Machine

/-! ### Objects that no count of the fabric is -/

/-- The object is no count of a port's flits and none of the home (Table 9.13, Table 10.9). -/
structure OffFabric (i a : Nat) : Prop where
  port : ∀ p, key i a ≠ key 0xF040 (16 * p + 2)
  home : ∀ b, b < 256 → key i a ≠ key 0xF048 b

section
variable {i a p : Nat} (h : key i a ≠ key 0xF040 (16 * p + 2))
include h

theorem State.z_sendSeqFlit (ftype cont : Nat) (slots : Octets) (s : State) : (sendSeqFlit p ftype cont slots s).z i a = s.z i a :=
  (State.z_bumpW ..).trans (if_neg h)

theorem State.z_sendSlots (fuel : Nat) : ∀ (cont : Nat) (slots : Octets) (s : State), (sendSlots p fuel cont slots s).z i a = s.z i a := by
  induction fuel with
  | zero => exact fun _ _ _ => rfl
  | succ fuel ih =>
    intro cont slots s
    unfold sendSlots
    dsimp only
    split
    · exact State.z_sendSeqFlit h ..
    · exact (ih ..).trans (State.z_sendSeqFlit h ..)

theorem State.z_sendMsg (m : LinkMsg) (s : State) : (sendMsg p m s).z i a = s.z i a := by
  unfold sendMsg
  dsimp only
  split
  · split
    · exact State.z_sendSlots h ..
    · rfl
  · rfl

end

section
variable {i a : Nat} (h : OffFabric i a)
include h

theorem State.z_sendSnoop (s : State) (line sid : Nat) (inv : Bool) : (s.sendSnoop line sid inv).z i a = s.z i a := by
  have hawait : ∀ (t : State) (x : Snoop), (t.awaitSnoop line x).z i a = t.z i a := fun t x => by
    unfold State.awaitSnoop
    split <;> rfl
  have hsnp : ∀ tag, (s.sendSnp line sid inv tag).z i a = s.z i a := fun tag =>
    (State.z_sendMsg (h.port _) ..).trans ((State.z_bumpW ..).trans (if_neg (h.home 2 (by decide))))
  unfold State.sendSnoop
  dsimp only
  split
  · exact (hawait ..).trans (hsnp _)
  · exact hawait ..

theorem State.z_recallLine (s : State) (line : Nat) {k : Nat} (hk : k < 256) : (s.recallLine line k).z i a = s.z i a := by
  have hstart : ∀ t : State, (t.startRecall line).z i a = t.z i a := fun t => by
    unfold State.startRecall
    split
    · split
      · rfl
      · exact State.foldPath_keeps (g := fun t : State => t.z i a) (fun u sid => u.z_sendSnoop h line sid true) _ _
    · rfl
  unfold State.recallLine
  split
  · split
    · rfl
    · exact (hstart _).trans ((State.z_bump ..).trans (if_neg (h.home k hk)))
  · rfl

end

/-! ### What the storage writer changes -/

/-- What the storage writer may change: the rings, the lanes, and what recalls of the ring's lines may; the count of the evaluated ticks
stays (F070h:1). -/
structure State.Stores (s t : State) : Prop where
  rest : ∃ out free obj acc alerts ports coh mem sto comp, t = { s with
    out := out, free := free, obj := obj, acc := acc, alerts := alerts, ports := ports, coh := coh, mem := mem, sto := sto, comp := comp }
  evaluated : t.z 0xF070 1 = s.z 0xF070 1

namespace State.Stores
variable {s t u : State}

theorem refl (s : State) : s.Stores s := ⟨⟨_, _, _, _, _, _, _, _, _, _, rfl⟩, rfl⟩

theorem trans (h : s.Stores t) (k : t.Stores u) : s.Stores u := by
  refine ⟨?_, k.evaluated.trans h.evaluated⟩
  obtain ⟨_, _, _, _, _, _, _, _, _, _, rfl⟩ := h.rest
  obtain ⟨_, _, _, _, _, _, _, _, _, _, rfl⟩ := k.rest
  exact ⟨_, _, _, _, _, _, _, _, _, _, rfl⟩

theorem ite {c : Prop} [Decidable c] (ht : s.Stores t) (hu : s.Stores u) : s.Stores (if c then t else u) := by
  split
  · exact ht
  · exact hu

theorem foldl {α : Type} {f : State → α → State} (h : ∀ (s : State) (x : α), s.Stores (f s x)) (l : List α) : ∀ s : State, s.Stores (l.foldl f s) := by
  induction l with
  | nil => exact fun s => .refl s
  | cons x l ih => exact fun s => (h s x).trans (ih _)

theorem of_homed (h : s.Homed t) (hz : t.z 0xF070 1 = s.z 0xF070 1) : s.Stores t := by
  obtain ⟨_, _, _, _, _, _, _, _, rfl⟩ := h
  exact ⟨⟨_, _, _, _, _, _, _, _, _, _, rfl⟩, hz⟩

theorem setSto (h : s.Stores t) (x : Storage) : s.Stores { t with sto := x } := h.trans ⟨⟨_, _, _, _, _, _, _, _, _, _, rfl⟩, rfl⟩

theorem setWin (h : s.Stores t) (w : Nat) (x : WindowSt) : s.Stores (t.setWin w x) := h.setSto _

theorem bumpW (h : s.Stores t) (i a w n : Nat) (hk : key 0xF070 1 ≠ key i a := by decide) : s.Stores (t.bumpW i a w n) :=
  h.trans (.of_homed (State.bumpW_homed ..) ((State.z_bumpW ..).trans (if_neg hk)))

theorem bump (h : s.Stores t) (i a n : Nat) (hk : key 0xF070 1 ≠ key i a := by decide) : s.Stores (t.bump i a n) := h.bumpW i a 32 n hk

theorem setWinCause (h : s.Stores t) {w : Nat} (b : Nat) (hw : w < 16) : s.Stores (t.setWinCause w b) := by
  refine h.trans (.of_homed (.of_alerted (State.setWord_alerted ..)) (State.z_of_val (State.setWord_val _ _ _ _ _ _ _ ?_ ?_ ?_ ?_) rfl))
  all_goals unfold key; omega

end State.Stores

/-! ### Its steps -/

theorem State.ringRecall_stores (s : State) : s.Stores s.ringRecall := by
  have hoff : OffFabric 0xF070 1 := ⟨fun p => by unfold key; omega, fun b hb => by unfold key; omega⟩
  refine State.Stores.foldl (fun s e => ?_) _ s
  split
  · exact .ite (.of_homed (s.recallLine_homed ..) (s.z_recallLine hoff _ (by decide))) (.refl s)
  · exact .refl s

theorem State.Stores.setWpos {s t : State} (h : s.Stores t) (w p : Nat) : s.Stores (t.setWpos w p) := by
  unfold State.setWpos
  exact .ite ((h.setWin _ _).trans (State.ringRecall_stores _)) (h.setWin _ _)

theorem State.Stores.bufPush {s t : State} (h : s.Stores t) (l : List BufLine) : s.Stores (t.bufPush l) := h.setSto _

theorem State.Stores.closeBlock {s t : State} (h : s.Stores t) (w : Nat) : s.Stores (t.closeBlock w) := by
  unfold State.closeBlock
  refine .ite h ?_
  extract_lets q n o ls pushed used keep closed counted
  have hpushed : s.Stores pushed := .ite (h.bufPush _) h
  have hclosed : s.Stores closed := hpushed.setWin _ _
  have hcounted : s.Stores counted := .ite hclosed (hclosed.bumpW _ _ _ _)
  exact (hcounted.setWpos _ _).bump _ _ _

theorem State.Stores.freezeDue {s t : State} (h : s.Stores t) (r w : Nat) : s.Stores (t.freezeDue r w) := by
  unfold State.freezeDue
  split
  · exact .ite ((h.closeBlock w).setWin _ _) h
  · exact h

theorem State.Stores.idleCloseAt {s t : State} (h : s.Stores t) (r w : Nat) : s.Stores (t.idleCloseAt r w) :=
  .ite ((h.closeBlock w).bump _ _ _) h

theorem State.storageDue_stores (s : State) (r : Nat) : s.Stores (s.storageDue r) :=
  State.Stores.foldl (fun s w => ((State.Stores.refl s).freezeDue r w).idleCloseAt r w) _ s

theorem State.Stores.skipBlocks {s t : State} (h : s.Stores t) (k next n : Nat) : s.Stores (t.skipBlocks k next n) := by
  have hskipped : ∀ x, s.Stores ((t.setStream k x).freeStreamLanes k) := fun x => h.trans ⟨⟨_, _, _, _, _, _, _, _, _, _, rfl⟩, rfl⟩
  unfold State.skipBlocks
  exact .ite (hskipped _) (((hskipped _).setWinCause _ (State.streamWin_lt ..)).bump _ _ _)

theorem State.Stores.startWindow {s t : State} (h : s.Stores t) (w : Nat) : s.Stores (t.startWindow w) := by
  unfold State.startWindow
  dsimp only
  refine State.Stores.setWin (State.Stores.setSto ?_ _) _ _
  split
  · exact h.skipBlocks ..
  · exact h

theorem State.Stores.armWindow {s t : State} (h : s.Stores t) (a w : Nat) : s.Stores (t.armWindow a w) :=
  .ite ((h.startWindow w).setWin _ _) h

theorem State.Stores.layInto {s t : State} (h : s.Stores t) {w : Nat} (hw : w < 16) (l : List Rec) (r : Nat) : s.Stores (t.layInto w l r) := by
  unfold State.layInto
  extract_lets x q start line marks bad
  generalize layRecs l x.curK = laid
  obtain ⟨o, k⟩ := laid
  dsimp -zeta only
  extract_lets cur pushed lostMark entered moved counted marked gapped
  have hmoved : s.Stores moved := ((h.bufPush _).setWin _ _).setWpos _ _
  have hcounted : s.Stores counted := hmoved.bumpW _ _ _ _
  have hmarked : s.Stores marked := .ite hcounted (hcounted.bump _ _ _)
  have hgapped : s.Stores gapped := .ite ((hmarked.setWinCause 0 hw).bump _ _ _) hmarked
  exact .ite hgapped ((hgapped.setWinCause 4 hw).bumpW _ _ _ _)

theorem State.Stores.enterTick {s t : State} (h : s.Stores t) {w : Nat} (hw : w < 16) (r : Nat) (newBlock : Bool) (l : List Rec) :
    s.Stores (t.enterTick w r newBlock l) := by
  unfold State.enterTick
  exact .ite h (State.Stores.layInto (.ite (h.closeBlock w) h) hw ..)

theorem State.Stores.tickStored {s t : State} (h : s.Stores t) (w : Nat) (key : Bool) : s.Stores (t.tickStored w key) :=
  .ite ((h.setWin _ _).bump _ _ _) (h.setWin _ _)

theorem State.Stores.lose {s t : State} (h : s.Stores t) (w src k : Nat) : s.Stores (t.lose w src k) := by
  unfold State.lose
  extract_lets x mixed g drawn
  have hdrawn : s.Stores drawn := .ite (h.trans ⟨⟨_, _, _, _, _, _, _, _, _, _, rfl⟩, rfl⟩) h
  exact (hdrawn.setWin _ _).bumpW _ _ _ _

theorem State.Stores.mayOpen {s t : State} (h : s.Stores t) (w q : Nat) : s.Stores (t.mayOpen w q).2 := by
  unfold State.mayOpen
  split
  · exact h
  · dsimp only
    split
    · exact h
    · split
      · exact h
      · exact h.skipBlocks ..

theorem State.Stores.placeWindow {s t : State} (h : s.Stores t) {w : Nat} (hw : w < 16) (stored : Bool) (i : StoreIn) (p : Placement) :
    s.Stores (t.placeWindow w stored i p) := by
  unfold State.placeWindow
  extract_lets x q
  have hopen : s.Stores (if p.newBlock then t.mayOpen w q else (true, t)).2 := by
    split
    · exact h.mayOpen ..
    · exact h
  generalize (if p.newBlock then t.mayOpen w q else (true, t)) = opened at hopen
  obtain ⟨ok, u⟩ := opened
  dsimp only at hopen ⊢
  split
  · exact .ite ((hopen.closeBlock w).lose ..) (hopen.closeBlock w)
  · split
    · exact .ite ((hopen.enterTick hw ..).tickStored ..) (State.Stores.lose (.ite (hopen.enterTick hw ..) hopen) ..)
    · have hentered : ∀ (c : Prop) [Decidable c], s.Stores (if c then u.enterTick w i.r p.newBlock p.recs else u) := fun c _ =>
        .ite (hopen.enterTick hw ..) hopen
      exact .ite ((hentered _).tickStored ..) (hentered _)

theorem State.Stores.windowTick {s t : State} (h : s.Stores t) (i : StoreIn) {w : Nat} (hw : w < 16) : s.Stores (t.windowTick i w) := by
  unfold State.windowTick
  refine .ite h ?_
  extract_lets stored placed c x x' set
  have hset : s.Stores set := (h.placeWindow hw ..).setWin _ _
  exact .ite (hset.closeBlock w) hset

theorem State.storageTick_stores (s : State) (r : Nat) (now : Slice) (old : Option Slice) (o : TrigOut) : s.Stores (s.storageTick r now old o) := by
  have hwindows : ∀ (i : StoreIn) (l : List Nat), (∀ w ∈ l, w < 16) → ∀ t, s.Stores t → s.Stores (l.foldl (State.windowTick i) t) := by
    intro i l
    induction l with
    | nil => exact fun _ t ht => ht
    | cons w l ih => exact fun hl t ht => ih (fun v hv => hl v (List.mem_cons_of_mem _ hv)) _ (ht.windowTick i (hl w List.mem_cons_self))
  unfold State.storageTick
  exact (hwindows _ _ (fun w hw => List.mem_range.1 hw) s (.refl s)).setSto _

end Sys2Proof.Machine
end

section
/-! PROOF. Slices: their forming leaves the clock of the time base and the sequencer alone, their evaluation counts itself once in an ARMED
tick, and the release as a whole (R534, R545, R606, R607). -/
set_option Elab.async false
namespace Sys2Proof.Machine

/-! ### Forming a slice -/

/-- What the forming of a slice leaves alone, of the state and of the slice: the time base apart from the taps, the sequencer, the count of
the evaluated ticks, and the sample tick. -/
structure SliceKeeps (a b : State × Slice) : Prop where
  time : { b.1.time with tap := [] } = { a.1.time with tap := [] }
  trig : b.1.trig = a.1.trig
  evaluated : b.1.z 0xF070 1 = a.1.z 0xF070 1
  sample : b.2.k = a.2.k

namespace SliceKeeps
variable {a b c : State × Slice}

theorem refl (a : State × Slice) : SliceKeeps a a := ⟨rfl, rfl, rfl, rfl⟩

theorem trans (h : SliceKeeps a b) (k : SliceKeeps b c) : SliceKeeps a c :=
  ⟨k.time.trans h.time, k.trig.trans h.trig, k.evaluated.trans h.evaluated, k.sample.trans h.sample⟩

theorem foldl {α : Type} {f : State × Slice → α → State × Slice} (h : ∀ a x, SliceKeeps a (f a x)) (l : List α) : ∀ a, SliceKeeps a (l.foldl f a) := by
  induction l with
  | nil => exact refl
  | cons x l ih => exact fun a => (h a x).trans (ih _)

theorem setTap (h : SliceKeeps a b) (i : Nat) (x : TapSt) : SliceKeeps a (b.1.setTap i x, b.2) := ⟨h.time, h.trig, h.evaluated, h.sample⟩

theorem setSlice (h : SliceKeeps a b) {sl : Slice} (hk : sl.k = b.2.k) : SliceKeeps a (b.1, sl) := ⟨h.time, h.trig, h.evaluated, hk.trans h.sample⟩

theorem bumpW (h : SliceKeeps a b) (i s w n : Nat) (hk : key 0xF070 1 ≠ key i s) : SliceKeeps a (b.1.bumpW i s w n, b.2) :=
  ⟨h.time, h.trig, ((State.z_bumpW ..).trans (if_neg hk)).trans h.evaluated, h.sample⟩

theorem setCause (h : SliceKeeps a b) (br c : Nat) (hbr : br < 16) : SliceKeeps a (b.1.setCause br c, b.2) := by
  have hcauses : ∀ br < 16, ((0xF070, 1) : Nat × Nat) ∉ causeObjects br := by decide
  exact ⟨(congrArg (fun t : TimeBase => { t with tap := [] }) (State.setCause_time ..)).trans h.time, (State.setCause_trig ..).trans h.trig,
    (State.setCause_z_ne _ _ hbr (by decide) (hcauses br hbr) (by decide) rfl).trans h.evaluated, h.sample⟩

theorem ite {p : Prop} [Decidable p] {x y : State} {sl : Slice} (hx : SliceKeeps a (x, sl)) (hy : SliceKeeps a (y, sl)) :
    SliceKeeps a (if p then x else y, sl) := by
  split
  · exact hx
  · exact hy

end SliceKeeps

theorem poisonRow_le (why : Nat) : poisonRow why ≤ 8 := by
  unfold poisonRow
  split <;> decide

theorem State.sliceTap_keeps (k : Nat) (empty : Bool) (a : State × Slice) (i : Nat) : SliceKeeps a (State.sliceTap k empty a i) := by
  obtain ⟨s, sl⟩ := a
  unfold State.sliceTap
  dsimp -zeta only
  extract_lets x e why w formed set counted
  have hformed : SliceKeeps (s, sl) (s, formed) := (SliceKeeps.refl (s, sl)).setSlice rfl
  have hset : SliceKeeps (s, sl) (set, formed) := hformed.setTap ..
  have hcounted : SliceKeeps (s, sl) (counted, formed) := .ite hset (hset.bumpW _ _ _ _ (by
    have := poisonRow_le why
    unfold key
    omega))
  split
  · exact .refl _
  · split
    · exact hformed.setTap ..
    · exact .ite (hcounted.setCause 9 4 (by decide)) hcounted

theorem State.probeSample_keeps (s : State) (x : GpSample) (sl : Slice) : SliceKeeps (s, sl) ((s.probeSample x).1, sl) := by
  have hprobe : ∀ y, SliceKeeps (s, sl) ({ s with probe := y }, sl) := fun y => ⟨rfl, rfl, rfl, rfl⟩
  unfold State.probeSample
  split
  · exact .refl _
  · split
    · exact .refl _
    · exact .ite (hprobe _) ((hprobe _).bumpW _ _ _ _ (by decide))
  · exact .refl _

theorem State.sliceProbe_keeps (s : State) (k : Nat) (empty : Bool) (x : GpSample) (sl : Slice) : SliceKeeps (s, sl) (s.sliceProbe k empty x sl) := by
  have hsample : SliceKeeps (s, sl) ((if empty then (s, s.gpHeld, 0, false, 0) else s.probeSample x).1, sl) := by
    split
    · exact .refl _
    · exact s.probeSample_keeps x sl
  unfold State.sliceProbe
  generalize (if empty then (s, s.gpHeld, 0, false, 0) else s.probeSample x) = y at hsample
  obtain ⟨t, gp, sub, clkv, pos⟩ := y
  dsimp -zeta only at hsample ⊢
  extract_lets all bad counted
  refine SliceKeeps.setSlice (b := (counted, sl)) ?_ rfl
  exact .ite hsample (.ite (hsample.bumpW _ _ _ _ (by decide)) (hsample.bumpW _ _ _ _ (by decide)))

theorem State.parityGranule_keeps (a : State × Slice) (g : Nat) : SliceKeeps a (State.parityGranule a g) := by
  obtain ⟨s, sl⟩ := a
  unfold State.parityGranule
  dsimp -zeta only
  split
  · exact .refl _
  · refine SliceKeeps.setSlice (b := (_, sl)) ?_ rfl
    split
    · exact (SliceKeeps.refl (s, sl)).setTap ..
    · exact .refl _

theorem State.sliceMotion_k (s : State) (k : Nat) (sl : Slice) : (s.sliceMotion k sl).k = sl.k := by
  unfold State.sliceMotion
  rfl

/-- The sample tick of the slice of release tick `r` (R534, R545). -/
def State.sliceSample (s : State) (r : Nat) : Nat := if 0 < s.time.empties then s.time.lastSlice else r - s.horizon

/-- What the release of a slice counts and reports ahead of reading its row: an empty slice is used up, and a faulty row is told (R545). -/
def State.sliceBegun (s : State) (r : Nat) (x : GpSample) : State :=
  let empty := decide (0 < s.time.empties)
  let t := if empty then State.bump { s with time := { s.time with empties := s.time.empties - 1 } } 0xF060 15 1 else s
  if !empty && t.sliceFaulty (s.sliceSample r) x then t.setCause 9 3 else t

/-- A slice is read from its row, and the release is noted. -/
theorem State.formSlice_eq (s : State) (r : Nat) (x : GpSample) :
    ∃ b : State × Slice, SliceKeeps (s.sliceBegun r x, { k := s.sliceSample r }) b ∧ s.formSlice r x =
      ({ b.1 with time := { b.1.time with lastSlice := s.sliceSample r, lastRelease := some r, poisoned := b.2.pz } }, b.2) := by
  have hk : (if decide (0 < s.time.empties) then s.time.lastSlice else r - s.horizon) = s.sliceSample r := by
    unfold State.sliceSample
    simp only [decide_eq_true_eq]
  unfold State.formSlice
  generalize List.range 64 = taps
  have hrows := SliceKeeps.foldl (fun a i => State.sliceTap_keeps (s.sliceSample r) (decide (0 < s.time.empties)) a i) taps
    (s.sliceBegun r x, { k := s.sliceSample r })
  dsimp only
  rw [hk]
  unfold State.sliceBegun at hrows ⊢
  dsimp only at hrows ⊢
  generalize List.foldl _ _ taps = a at hrows ⊢
  obtain ⟨t, rows⟩ := a
  have hprobe := hrows.trans (t.sliceProbe_keeps (s.sliceSample r) (decide (0 < s.time.empties)) x rows)
  dsimp only
  generalize t.sliceProbe (s.sliceSample r) (decide (0 < s.time.empties)) x rows = b at hprobe ⊢
  obtain ⟨u, probed⟩ := b
  have hmotion := hprobe.setSlice (sl := u.sliceMotion (s.sliceSample r) probed) (u.sliceMotion_k ..)
  dsimp only at hmotion ⊢
  generalize u.sliceMotion (s.sliceSample r) probed = sl at hmotion ⊢
  have hparity := hmotion.trans (b := (u, sl)) (c := if decide (0 < s.time.empties) = true ∨ x.badGranules.isEmpty = true then (u, sl)
      else x.badGranules.foldl State.parityGranule (u.bump 0xF060 10 1, sl)) <| by
    split
    · exact .refl _
    · exact ((SliceKeeps.refl (u, sl)).bumpW _ _ _ _ (by decide)).trans (SliceKeeps.foldl State.parityGranule_keeps _ _)
  exact ⟨_, hparity, rfl⟩

/-- A slice is formed of its sample tick; the release is noted, an empty slice is used up, and the clock and the sequencer stay. -/
theorem State.formSlice_keeps (s : State) (r : Nat) (x : GpSample) : ∃ t sl, s.formSlice r x = (t, sl) ∧ sl.k = s.sliceSample r ∧
    t.time.tick = s.time.tick ∧ t.time.lastRelease = some r ∧ t.time.lastSlice = s.sliceSample r ∧ t.time.empties = s.time.empties - 1 ∧
    t.trig = s.trig ∧ t.z 0xF070 1 = s.z 0xF070 1 := by
  have hbegun : (s.sliceBegun r x).time.tick = s.time.tick ∧ (s.sliceBegun r x).time.empties = s.time.empties - 1 ∧
      (s.sliceBegun r x).trig = s.trig ∧ (s.sliceBegun r x).z 0xF070 1 = s.z 0xF070 1 := by
    have hz : ∀ t : State, (t.setCause 9 3).z 0xF070 1 = t.z 0xF070 1 := fun t =>
      State.setCause_z_ne t 3 (by decide) (by decide) (by decide) (by decide) rfl
    have hone : ∀ t : State, (t.bump 0xF060 15 1).z 0xF070 1 = t.z 0xF070 1 := fun t => (State.z_bump ..).trans (if_neg (by decide))
    unfold State.sliceBegun
    by_cases hempty : 0 < s.time.empties
    · simp only [hempty, decide_true, if_true, Bool.not_true, Bool.false_and, Bool.false_eq_true, if_false]
      exact ⟨rfl, rfl, rfl, hone _⟩
    · have hzero : s.time.empties - 1 = s.time.empties := by omega
      simp only [hempty, decide_false, Bool.false_eq_true, if_false, Bool.not_false, Bool.true_and, hzero]
      split
      · exact ⟨by simp, by simp, by simp, hz s⟩
      · exact ⟨rfl, rfl, rfl, rfl⟩
  obtain ⟨htick, hempties, htrig, hz⟩ := hbegun
  obtain ⟨b, ⟨ktime, ktrig, kz, ksample⟩, heq⟩ := s.formSlice_eq r x
  have kclock : b.1.time.tick = (s.sliceBegun r x).time.tick := (congrArg TimeBase.tick ktime :)
  have kempties : b.1.time.empties = (s.sliceBegun r x).time.empties := (congrArg TimeBase.empties ktime :)
  exact ⟨_, _, heq, ksample, kclock.trans htick, rfl, rfl, kempties.trans hempties, ktrig.trans htrig, kz.trans hz⟩

/-! ### Its evaluation -/

/-- The count of the evaluated ticks and the time base stay. -/
structure State.CountKept (s t : State) : Prop where
  evaluated : t.z 0xF070 1 = s.z 0xF070 1
  time : t.time = s.time

namespace State.CountKept
variable {s t u : State}

theorem refl (s : State) : s.CountKept s := ⟨rfl, rfl⟩

theorem trans (h : s.CountKept t) (k : t.CountKept u) : s.CountKept u := ⟨k.evaluated.trans h.evaluated, k.time.trans h.time⟩

theorem ite {c : Prop} [Decidable c] (ht : s.CountKept t) (hu : s.CountKept u) : s.CountKept (if c then t else u) := by
  split
  · exact ht
  · exact hu

theorem foldl {α : Type} {f : State → α → State} (h : ∀ (s : State) (x : α), s.CountKept (f s x)) (l : List α) :
    ∀ s : State, s.CountKept (l.foldl f s) := by
  induction l with
  | nil => exact refl
  | cons x l ih => exact fun s => (h s x).trans (ih _)

theorem setTrig (h : s.CountKept t) (x : Trigger) : s.CountKept { t with trig := x } := ⟨h.evaluated, h.time⟩

theorem setProbe (h : s.CountKept t) (x : Probe) : s.CountKept { t with probe := x } := ⟨h.evaluated, h.time⟩

theorem bumpW (h : s.CountKept t) (i a w n : Nat) (hk : key 0xF070 1 ≠ key i a := by decide) : s.CountKept (t.bumpW i a w n) :=
  ⟨((State.z_bumpW ..).trans (if_neg hk)).trans h.evaluated, h.time⟩

theorem bump (h : s.CountKept t) (i a n : Nat) (hk : key 0xF070 1 ≠ key i a := by decide) : s.CountKept (t.bump i a n) := h.bumpW i a 32 n hk

theorem setCause (h : s.CountKept t) (b : Nat) : s.CountKept (t.setCause 9 b) :=
  ⟨(State.setCause_z_ne t b (by decide) (by decide) (by decide) (by decide) rfl).trans h.evaluated, (State.setCause_time ..).trans h.time⟩

theorem driveXout (h : s.CountKept t) (req d n : Nat) : s.CountKept (t.driveXout req d n) := by
  unfold State.driveXout
  dsimp only
  split
  · exact h.setProbe _
  · exact .ite (h.setProbe _) h
  · exact .ite (h.setProbe _) h

end State.CountKept

theorem State.driveXouts_kept (s : State) (req d : Nat) : s.CountKept ((List.range 4).foldl (State.driveXout req d) s) :=
  .foldl (fun s n => (State.CountKept.refl s).driveXout req d n) _ s

/-- An evaluated tick is counted once (R606). -/
theorem State.evalTick_counts (s : State) (r k hv : Nat) :
    (s.evalTick r k hv).1.z 0xF070 1 = min (s.z 0xF070 1 + 1) (2 ^ 64 - 1) ∧ (s.evalTick r k hv).1.time = s.time := by
  suffices h : ∃ x, (State.bumpW { s with trig := x } 0xF070 1 64 1).CountKept (s.evalTick r k hv).1 by
    obtain ⟨x, hcount, htime⟩ := h
    exact ⟨hcount.trans ((State.z_bumpW ..).trans (if_pos rfl)), htime⟩
  unfold State.evalTick
  extract_lets t tf tfw pre auto val cfw inputs held ctl plain taken w passed ends sats exps timers store summit go level
    begun counted taking moved expired saturated crossed src reached word src' worded driven
  refine ⟨begun.trig, State.CountKept.trans (s := counted) (t := worded) ?_ (State.driveXouts_kept ..)⟩
  have hcounted : counted.CountKept counted := .refl _
  have htaking : counted.CountKept taking := .ite (hcounted.bumpW _ _ _ _) hcounted
  have hmoved : counted.CountKept moved := .ite htaking (htaking.bump _ _ _)
  have hexpired : counted.CountKept expired := .ite hmoved (hmoved.bump _ _ _)
  have hsaturated : counted.CountKept saturated := .ite hexpired ((hexpired.bump _ _ _).setCause 2)
  have hcrossed : counted.CountKept crossed := .ite (hsaturated.bump _ _ _) hsaturated
  have hreached : counted.CountKept reached := .ite (((hcrossed.setTrig _).setCause 0).bump _ _ _) (hcrossed.setTrig _)
  exact hreached.setTrig _

/-- What the sequencer does with the slice of tick `r`: the slice is the one before at the next, and an evaluated tick is counted (R606). -/
theorem State.triggerTick_keeps (s : State) (r : Nat) (x : Slice) (aux : Option Nat) :
    ∃ t o, s.triggerTick r x aux = (t, o) ∧ t.time = s.time ∧ t.trig.prev = some x ∧ t.z 0xF070 1 =
      if (s.trig.st = 2 ∨ s.trig.st = 4) ∧ s.trig.armAt ≤ r then min (s.z 0xF070 1 + 1) (2 ^ 64 - 1) else s.z 0xF070 1 := by
  unfold State.triggerTick
  generalize s.holdsOf x = holds
  obtain ⟨hv0, bad⟩ := holds
  dsimp -zeta only
  extract_lets +onlyGivenNames hv n poisoned
  have hpoisoned : s.CountKept poisoned := .ite (.refl s) ((State.CountKept.refl s).bumpW _ _ _ _)
  have htrig : poisoned.trig = s.trig := by
    unfold poisoned
    split <;> rfl
  clear_value poisoned hv
  have hticked : ∀ y, y = (if (poisoned.trig.st = 2 ∨ poisoned.trig.st = 4) ∧ poisoned.trig.armAt ≤ r then poisoned.evalTick r x.k hv
      else ((List.range 4).foldl (State.driveXout 0 (r + 1)) poisoned, ⟨poisoned.trig.gate, none, false⟩)) →
      y.1.time = s.time ∧ y.1.z 0xF070 1 =
        if (s.trig.st = 2 ∨ s.trig.st = 4) ∧ s.trig.armAt ≤ r then min (s.z 0xF070 1 + 1) (2 ^ 64 - 1) else s.z 0xF070 1 := by
    rintro y rfl
    rw [htrig]
    split
    · obtain ⟨hcount, htime⟩ := poisoned.evalTick_counts r x.k hv
      exact ⟨htime.trans hpoisoned.time, hcount.trans (by rw [hpoisoned.evaluated])⟩
    · have hkept := hpoisoned.trans (poisoned.driveXouts_kept 0 (r + 1))
      exact ⟨hkept.time, hkept.evaluated⟩
  obtain ⟨htime, hcount⟩ := hticked _ rfl
  generalize (if (poisoned.trig.st = 2 ∨ poisoned.trig.st = 4) ∧ poisoned.trig.armAt ≤ r then poisoned.evalTick r x.k hv
      else ((List.range 4).foldl (State.driveXout 0 (r + 1)) poisoned, ⟨poisoned.trig.gate, none, false⟩)) = y at htime hcount ⊢
  obtain ⟨t, o⟩ := y
  exact ⟨_, _, rfl, htime, rfl, hcount⟩

/-! ### The release -/

/-- Arm and disarm ticks that have come leave the time base alone. -/
theorem State.armDue_time (s : State) (r : Nat) : (s.armDue r).time = s.time := by
  have harm : ∀ (t : State) (a : Nat), (t.armStart a).time = t.time := fun t a => by
    obtain ⟨_, _, _, _, _, _, _, _, _, _, heq⟩ :=
      (State.Stores.foldl (fun u w => (State.Stores.refl u).armWindow a w) (List.range 16) (t.armNow a false)).rest
    unfold State.armStart
    rw [heq]
    rfl
  have hdisarm : (if s.trig.disarming ∧ s.trig.disarmAt ≤ r then s.disarmNow else s).time = s.time := by
    split <;> rfl
  unfold State.armDue
  dsimp only
  generalize (if s.trig.disarming ∧ s.trig.disarmAt ≤ r then s.disarmNow else s) = t at hdisarm ⊢
  split
  · exact (harm ..).trans hdisarm
  · exact hdisarm

/-- The state in which the slice of release tick `r` is formed: time has come to the tick, and what fell due before it has been done. -/
def State.releaseDue (s : State) (r : Nat) : State := ((s.elapseToTick r).storageDue (r - 1)).armDue r

theorem State.releaseDue_time (s : State) (r : Nat) : (s.releaseDue r).time = (s.elapseToTick r).time := by
  obtain ⟨⟨_, _, _, _, _, _, _, _, _, _, heq⟩, -⟩ := (s.elapseToTick r).storageDue_stores (r - 1)
  rw [State.releaseDue, State.armDue_time, heq]

theorem State.releaseDue_armed {s : State} (r : Nat) (hst : s.trig.st = 2 ∨ s.trig.st = 4) (hd : s.trig.disarming = false) :
    (s.releaseDue r).trig = s.trig ∧ (s.releaseDue r).z 0xF070 1 = s.z 0xF070 1 := by
  obtain ⟨⟨_, _, _, _, _, _, _, _, _, _, heq⟩, hz⟩ := (s.elapseToTick r).storageDue_stores (r - 1)
  have htrig : ((s.elapseToTick r).storageDue (r - 1)).trig = s.trig := by
    rw [heq]
    exact s.elapseToTick_trig r
  have hdue : s.releaseDue r = (s.elapseToTick r).storageDue (r - 1) := by
    unfold State.releaseDue State.armDue
    generalize (s.elapseToTick r).storageDue (r - 1) = t at htrig
    have hidle : ¬ (t.trig.st = 1 ∧ t.trig.armAt ≤ r) := fun h => by
      rw [htrig] at h
      omega
    rw [htrig, hd]
    simp only [Bool.false_eq_true, false_and, if_false]
    exact if_neg hidle
  rw [hdue, hz]
  exact ⟨htrig, (Frame.elapseToTick (parts := [.now, .time]) (objs := [(0xF050, 16)]) (Frame.refl s) r).z_eq⟩

/-- The release of tick `r`, told by the slice that it forms. -/
theorem State.sliceRelease_eq {s : State} (gp : GpSample) (r : Nat) (hrel : s.releases = true) (hlast : s.time.lastRelease = some r) :
    ∃ t sl aux y o old, (s.releaseDue (r + 1)).formSlice (r + 1) gp = (t, sl) ∧ t.triggerTick (r + 1) sl aux = (y, o) ∧
      s.sliceRelease gp = y.storageTick (r + 1) sl old o := by
  unfold State.sliceRelease
  rw [if_neg (by simp [hrel])]
  extract_lets k moved due old
  have hnext : k = r + 1 := by
    unfold k State.nextRelease
    rw [hlast]
  have hdue : due = s.releaseDue k := rfl
  clear_value old due moved k
  rw [hdue, hnext]
  generalize (s.releaseDue (r + 1)).formSlice (r + 1) gp = formed
  obtain ⟨t, sl⟩ := formed
  dsimp -zeta only
  extract_lets aux
  generalize ht : t.triggerTick (r + 1) sl aux = ticked
  obtain ⟨y, o⟩ := ticked
  exact ⟨t, sl, aux, y, o, old, rfl, ht, rfl⟩

/-- What a release leaves: its tick has come and is noted, the slice's sample tick too, and an evaluated tick is counted. -/
theorem State.sliceRelease_leaves {s : State} (gp : GpSample) (r : Nat) (hrel : s.releases = true) (hlast : s.time.lastRelease = some r) :
    let u := s.releaseDue (r + 1)
    let t := s.sliceRelease gp
    t.time.tick = u.time.tick ∧ t.time.lastRelease = some (r + 1) ∧ t.time.lastSlice = u.sliceSample (r + 1) ∧
      t.time.empties = u.time.empties - 1 ∧ t.trig.prev.map Slice.k = some (u.sliceSample (r + 1)) ∧
      t.z 0xF070 1 = if (u.trig.st = 2 ∨ u.trig.st = 4) ∧ u.trig.armAt ≤ r + 1 then min (u.z 0xF070 1 + 1) (2 ^ 64 - 1) else u.z 0xF070 1 := by
  obtain ⟨t, sl, aux, y, o, old, hformed, hticked, heq⟩ := State.sliceRelease_eq gp r hrel hlast
  obtain ⟨t', sl', hformed', hk, htick, hrelease, hslice, hempties, htrig, hz⟩ := (s.releaseDue (r + 1)).formSlice_keeps (r + 1) gp
  obtain ⟨rfl, rfl⟩ := Prod.mk.inj (hformed.symm.trans hformed')
  obtain ⟨y', o', hticked', ktime, kprev, kz⟩ := t.triggerTick_keeps (r + 1) sl aux
  obtain ⟨rfl, rfl⟩ := Prod.mk.inj (hticked.symm.trans hticked')
  obtain ⟨⟨_, _, _, _, _, _, _, _, _, _, hstored⟩, sz⟩ := y.storageTick_stores (r + 1) sl old o
  have stime : (s.sliceRelease gp).time = t.time := by
    rw [heq, hstored]
    exact ktime
  have sprev : (s.sliceRelease gp).trig.prev = some sl := by
    rw [heq, hstored]
    exact kprev
  dsimp only
  rw [stime, sprev, Option.map_some, hk]
  refine ⟨htick, hrelease, hslice, hempties, rfl, ?_⟩
  rw [heq, sz, kz, htrig, hz]

theorem State.tick_of_releases {s : State} (k : Nat) (h : s.releases = true) : (s.elapseToTick k).time.tick = max s.time.tick k := by
  unfold State.releases at h
  simp only [Bool.and_eq_true, Bool.not_eq_true'] at h
  obtain ⟨⟨⟨-, hrun⟩, -⟩, hb⟩ := h
  exact State.tick_elapseToTick k hrun hb

theorem sliceRelease_releases {s : State} (gp : GpSample) (r : Nat) (hrel : s.releases = true) (hlast : s.time.lastRelease = some r) :
    ∃ t, exec (.sliceRelease gp) s = .next t ∧ t.time.lastRelease = some (r + 1) ∧ t.time.tick = max s.time.tick (r + 1) ∧
      t.trig.prev.map Slice.k = some t.time.lastSlice ∧
      (s.time.empties = 0 → t.time.lastSlice = r + 1 - s.horizon ∧ t.time.empties = 0) ∧
      (0 < s.time.empties → t.time.lastSlice = s.time.lastSlice ∧ t.time.empties = s.time.empties - 1) := by
  have hdue := s.releaseDue_time (r + 1)
  have hempties : (s.releaseDue (r + 1)).time.empties = s.time.empties := by
    rw [hdue]
    exact s.elapseToTick_timeless (g := TimeBase.empties) (fun _ _ _ _ => rfl) _
  have hslice : (s.releaseDue (r + 1)).time.lastSlice = s.time.lastSlice := by
    rw [hdue]
    exact s.elapseToTick_timeless (g := TimeBase.lastSlice) (fun _ _ _ _ => rfl) _
  have hhorizon : (s.releaseDue (r + 1)).horizon = s.horizon := by
    unfold State.horizon
    rw [hdue]
    exact s.elapseToTick_timeless (g := TimeBase.horizon) (fun _ _ _ _ => rfl) _
  have hsample : (s.releaseDue (r + 1)).sliceSample (r + 1) = if 0 < s.time.empties then s.time.lastSlice else r + 1 - s.horizon := by
    unfold State.sliceSample
    rw [hempties, hslice, hhorizon]
  obtain ⟨ktick, krelease, kslice, kempties, kprev, -⟩ := State.sliceRelease_leaves gp r hrel hlast
  refine ⟨s.ended (s.sliceRelease gp).pairFollow, rfl, ?_⟩
  have htrig : (s.ended (s.sliceRelease gp).pairFollow).trig = (s.sliceRelease gp).trig :=
    (State.alertSync_trig _).trans (State.pairFollow_trig _)
  rw [State.ended_time, State.pairFollow_time, htrig, ktick, krelease, kslice, kempties, kprev, hsample, hempties, hdue,
    State.tick_of_releases _ hrel]
  refine ⟨rfl, rfl, rfl, fun h => ?_, fun h => ⟨if_pos h, rfl⟩⟩
  rw [h]
  exact ⟨rfl, rfl⟩

/-- Settles O46: a tap that is ready joins, the resets pass over the taps and report, and a release forms the slice of its sample tick. -/
theorem tapsJoinAndSlicesAreReleased : Obligations.TapsJoinAndSlicesAreReleased := fun _ =>
  ⟨fun _ hjoining hready => tapJoin_completes hjoining hready,
    fun hfast => ⟨fun p => dispatchReset_completes p hfast, tapEventReset_completes hfast⟩,
    fun w halone h => marginReset_completes w halone h, fun gp r hrel hlast => sliceRelease_releases gp r hrel hlast⟩

end Sys2Proof.Machine
end

section
/-! PROOF. The sequencer's arm and disarm requests, its arm and disarm ticks, and its timers (R602, R608, R611, R612, R625). -/
set_option Elab.async false
namespace Sys2Proof.Machine

theorem Part.same_trans {p : Part} {s t u : State} (h : p.same s t) (k : p.same t u) : p.same s u := by
  cases p with
  | acc => exact ⟨k.1.trans h.1, fun n => (k.2 n).trans (h.2 n)⟩
  | latch => exact ⟨k.1.trans h.1, k.2.1.trans h.2.1, k.2.2.trans h.2.2⟩
  | _ => exact Eq.trans k h

theorem Frame.trans {parts : List Part} {objs : List (Nat × Nat)} {s t u : State} (h : Frame parts objs s t) (k : Frame parts objs t u) :
    Frame parts objs s u :=
  ⟨fun p hp => Part.same_trans (h.part p hp) (k.part p hp), fun i a ha hi h17 => (k.val i a ha hi h17).trans (h.val i a ha hi h17)⟩

theorem completesWithin_of_frame {c : Instr} {parts : List Part} {objs : List (Nat × Nat)} {s u : State} {P : State → Prop}
    (hc : exec c s = s.ends u) (hf : Frame parts objs s u) (hP : P (s.ended u)) : CompletesWithin c s parts P :=
  completesWithin_of_ends hc hf.part hP

/-! ### Readings that time leaves alone -/

theorem State.elapse_reads {i a : Nat} (h : key i a ≠ key 0xF050 16) (s : State) (d : Nat) :
    mget (s.elapse d).obj (key i a) = mget s.obj (key i a) := by
  unfold State.elapse
  dsimp only
  split
  · exact (mget_mset ..).trans (if_neg h)
  · rfl

theorem State.elapseToTick_reads {i a : Nat} (h : key i a ≠ key 0xF050 16) (s : State) (k : Nat) :
    mget (s.elapseToTick k).obj (key i a) = mget s.obj (key i a) := by
  unfold State.elapseToTick
  split
  · exact s.elapse_reads h _
  · rfl

theorem State.z_of_reads {s t : State} {i a : Nat} (h : mget t.obj (key i a) = mget s.obj (key i a)) : t.z i a = s.z i a := by
  unfold State.z
  rw [h]

theorem State.n_of_reads {s t : State} {i a : Nat} (h : mget t.obj (key i a) = mget s.obj (key i a)) : t.n i a = s.n i a := by
  unfold State.n State.val
  rw [h]

theorem State.ended_trig (s u : State) : (s.ended u).trig = u.trig := u.alertSync_trig

theorem State.ended_sto (s u : State) : (s.ended u).sto = u.sto := u.alertSync_sto

/-! ### The requests -/

theorem State.armTickFor_alone {s : State} (halone : Alone s) : s.armTickFor = roundUp (s.time.tick + 64) 1024 := by
  obtain ⟨hlead, -⟩ := halone
  have hmirrors : s.mirrors = false := by simp [State.mirrors, hlead]
  rw [State.armTickFor, hmirrors, if_neg Bool.false_ne_true]

theorem State.mirrors_alone {s : State} (halone : Alone s) : s.mirrors = false := by
  obtain ⟨hlead, -⟩ := halone
  simp [State.mirrors, hlead]

theorem alone_accepted {s : State} (halone : Alone s) (w : Who) : Alone (s.accepted w) :=
  (Frame.accepted (parts := [.acc]) (objs := accessObjects) s w).alone halone

/-- The sequencer is PENDING for tick `a`, and the request is counted (R611). -/
def State.pendingFor (s : State) (a : Nat) : State :=
  State.bump { s with trig := { s.trig with st := 1, armAt := a, gate := false } } 0xF070 5 1

theorem State.requestArm_alone {s : State} (halone : Alone s) : s.requestArm = s.pendingFor (roundUp (s.time.tick + 64) 1024) := by
  have hmirrors : (s.pendingFor (roundUp (s.time.tick + 64) 1024)).mirrors = false := State.mirrors_alone halone
  unfold State.requestArm
  rw [State.armTickFor_alone halone]
  exact if_neg (by rw [Bool.not_eq_true]; exact hmirrors)

theorem armRequest_completes {s : State} (halone : Alone s) (w : Who) (v : BitVec 32) (h : Accepted s w 0x4000 1 v.toNat) :
    Completes (.armRequest w v) s [.trig, .acc, .out] (accessObjects ++ [(0xF070, 5)]) fun t =>
      t.trig = { s.trig with st := 1, armAt := roundUp (s.time.tick + 64) 1024, gate := false } ∧
      t.z 0xF070 5 = min (s.z 0xF070 5 + 1) (2 ^ 32 - 1) := by
  have hrow : findRow 0x4000 1 = some ⟨0x4000, 0x4000, 1, 1, .u32, .l, 0, 1, 0, .oneOf [1095912737], 0xffffffff, 4⟩ := rfl
  have heff : ∀ (u : State) (a : Acc), a.idx = 0x4000 → a.sub = 1 →
      u.liveEffect a (storedVal ⟨0x4000, 0x4000, 1, 1, .u32, .l, 0, 1, 0, .oneOf [1095912737], 0xffffffff, 4⟩ 0x4000 1 v.toNat) =
      (u.rewritten (key 0x4000 1)).requestArm := by
    rintro u ⟨path, req, level, idx, sub⟩ rfl rfl
    rfl
  have hmeaning : (s.accepted w).requestArm = (s.accepted w).pendingFor (roundUp (s.time.tick + 64) 1024) := by
    rw [State.requestArm_alone (alone_accepted halone w)]
    simp [State.accepted]
  have hf : Frame [.trig, .acc, .out] (accessObjects ++ [(0xF070, 5)]) s (s.accepted w).requestArm := by
    rw [hmeaning]
    exact ((Frame.accepted s w).setTrig _).bump 0xF070 5 1
  refine completes_of_accepted (eff := State.requestArm) rfl hrow rfl (by decide) halone h heff (hf.up_eq.trans (State.up_of_accepted h)) hf ?_
  rw [hmeaning, State.ended_trig]
  refine ⟨?_, (State.ended_answered_bump ..).trans (congrArg (fun n => min (n + 1) _) (s.accepted_z w))⟩
  show ({ (s.accepted w).trig with st := 1, armAt := _, gate := false } : Trigger) = _
  rw [show (s.accepted w).trig = s.trig from s.accept_trig ..]

/-- The sequencer disarms at tick `d` (R612). -/
def Trigger.disarmsAt (x : Trigger) (d : Nat) : Trigger :=
  if x.st = 0 ∨ x.disarming = true then x else { x with disarming := true, disarmAt := d, st := if x.st = 2 then 4 else x.st }

theorem State.requestDisarm_alone {s : State} (halone : Alone s) :
    s.requestDisarm = { s with trig := s.trig.disarmsAt (roundUp (s.time.tick + 64) 1024) } := by
  have hmirrors : ∀ x : Trigger, State.mirrors { s with trig := x } = false := fun _ => State.mirrors_alone halone
  unfold State.requestDisarm Trigger.disarmsAt
  rw [State.armTickFor_alone halone]
  split
  · rfl
  · dsimp only
    rw [hmirrors, if_neg Bool.false_ne_true]

theorem disarmRequest_completes {s : State} (halone : Alone s) (w : Who) (v : BitVec 32) (h : Accepted s w 0x4000 2 v.toNat) :
    Completes (.disarmRequest w v) s [.trig, .acc, .out] accessObjects fun t =>
      t.trig = s.trig.disarmsAt (roundUp (s.time.tick + 64) 1024) := by
  have hrow : findRow 0x4000 2 = some ⟨0x4000, 0x4000, 2, 2, .u32, .l, 0, 1, 0, .oneOf [1398034256], 0xffffffff, 4⟩ := rfl
  have heff : ∀ (u : State) (a : Acc), a.idx = 0x4000 → a.sub = 2 →
      u.liveEffect a (storedVal ⟨0x4000, 0x4000, 2, 2, .u32, .l, 0, 1, 0, .oneOf [1398034256], 0xffffffff, 4⟩ 0x4000 2 v.toNat) =
      (u.rewritten (key 0x4000 2)).requestDisarm := by
    rintro u ⟨path, req, level, idx, sub⟩ rfl rfl
    rfl
  have hmeaning := State.requestDisarm_alone (alone_accepted halone w)
  have hf : Frame [.trig, .acc, .out] accessObjects s (s.accepted w).requestDisarm := by
    rw [hmeaning]
    exact (Frame.accepted s w).setTrig _
  refine completes_of_accepted (eff := State.requestDisarm) rfl hrow rfl (by decide) halone h heff (hf.up_eq.trans (State.up_of_accepted h)) hf ?_
  rw [hmeaning, State.ended_trig]
  show (s.accepted w).trig.disarmsAt (roundUp ((s.accepted w).time.tick + 64) 1024) = _
  simp [State.accepted]

/-! ### The arm tick -/

theorem mget_map_pair {α : Type} (f : Nat → α) (l : List Nat) (j : Nat) : mget (l.map fun i => (i, f i)) j = if j ∈ l then some (f j) else none := by
  induction l with
  | nil => rfl
  | cons i l ih =>
    rw [List.map_cons, mget, ih]
    by_cases hj : j = i
    · simp [hj]
    · simp [hj]

/-- The parts that an arm changes, but for the sequencer (R625, R650). -/
def armParts : List Part := [.sto, .comp, .latch]

theorem Frame.windowCause {s u : State} (h : Frame armParts serviceObjects s u) {w : Nat} (b : Nat) (hw : w < 16) :
    Frame armParts serviceObjects s (u.setWinCause w b) := by
  refine ⟨fun p hp => ?_, fun i a ha hi h17 => (((Frame.refl u).setWinCause b hw).val i a ha hi h17).trans (h.val i a ha hi h17)⟩
  have hu := h.part p hp
  cases p with
  | latch => exact absurd (by decide) hp
  | acc => exact ⟨(u.setWord_accRest ..).trans hu.1, fun k => (quietPath_setWord _ _ _ _ _ k).trans (hu.2 k)⟩
  | _ => simpa [Part.same] using hu

theorem Frame.blocksSkipped {s u : State} (h : Frame armParts serviceObjects s u) (t next n : Nat) :
    Frame armParts serviceObjects s (u.skipBlocks t next n) := by
  unfold State.skipBlocks
  extract_lets x freed
  have hfreed : Frame armParts serviceObjects s freed := (h.setSto _).setComp _
  exact hfreed.ite ((hfreed.windowCause 1 (freed.streamWin_lt t)).bump 0xF078 12 n)

theorem Frame.startWindow {s u : State} (h : Frame armParts serviceObjects s u) (w : Nat) : Frame armParts serviceObjects s (u.startWindow w) := by
  unfold State.startWindow
  refine Frame.setSto (Frame.setSto ?_ _) _
  split
  · exact h.blocksSkipped ..
  · exact h

theorem Frame.armWindow {s u : State} (h : Frame armParts serviceObjects s u) (a w : Nat) : Frame armParts serviceObjects s (u.armWindow a w) :=
  ((h.startWindow w).setSto _).ite h

theorem State.win_skipBlocks (s : State) (t next n v : Nat) : (s.skipBlocks t next n).win v = s.win v := by
  unfold State.skipBlocks
  dsimp only
  split
  · rfl
  · simp [State.win, State.bump, State.bumpW, State.put, State.putVal, State.freeStreamLanes, State.setStream]

theorem State.win_startWindow (s : State) (w v : Nat) : (s.startWindow w).win v = if v = w then {} else s.win v := by
  unfold State.startWindow
  rw [State.win_setWin]
  refine if_congr Iff.rfl rfl ?_
  show State.win (match s.winStreamOf w with
    | some t => s.skipBlocks t 0 (((s.win w).closed.filter fun c : Nat × Nat => decide ((s.stream t).first ≤ c.1)).length)
    | none => s) v = _
  split
  · exact s.win_skipBlocks ..
  · rfl

/-- The control words of the windows are no objects that an arm changes. -/
theorem Frame.winCtl_eq {s u : State} (h : Frame armParts serviceObjects s u) {w : Nat} (hw : w < 16) : u.winCtl w = s.winCtl w := by
  have hout : ∀ w < 16, (0x5010 + w, 1) ∉ serviceObjects ∧ defaultVal (0x5010 + w) 1 = .num 0 := by decide
  exact h.z_eq (by decide) (hout w hw).1 (by simp) (hout w hw).2

/-- A window that stores snapshots starts at an arm (R625). -/
def State.snapshots (s : State) (w : Nat) : Bool := winEn (s.winCtl w) && !winStream (s.winCtl w)

theorem State.win_armWindow {s : State} (hrole : s.pair.role ≠ 3) (a w v : Nat) :
    (s.armWindow a w).win v = if v = w ∧ s.snapshots w = true then {} else s.win v := by
  have hpair : (s.startWindow w).pair = s.pair := ((Frame.refl s).startWindow w).part .pair (by decide)
  unfold State.armWindow State.snapshots
  split
  · next hsnap =>
    rw [State.win_setWin, State.win_startWindow, State.win_startWindow, hpair, if_pos rfl, decide_eq_false hrole]
    simp only [hsnap, and_true]
    split <;> rfl
  · next hsnap => rw [if_neg fun h => hsnap h.2]

theorem State.win_armWindows {s : State} (hrole : s.pair.role ≠ 3) (a : Nat) : ∀ (l : List Nat), (∀ w ∈ l, w < 16) → ∀ u : State,
    Frame armParts serviceObjects s u → ∀ v, s.snapshots v = true →
      (l.foldl (State.armWindow a) u).win v = if v ∈ l then {} else u.win v := by
  intro l
  induction l with
  | nil => exact fun _ u _ v _ => by simp
  | cons w l ih =>
    intro hl u hu v hsnap
    have hurole : u.pair.role ≠ 3 := by
      have hpair : u.pair = s.pair := hu.part .pair (by decide)
      rw [hpair]
      exact hrole
    rw [List.foldl_cons, ih (fun x hx => hl x (List.mem_cons_of_mem _ hx)) _ (hu.armWindow a w) v hsnap, State.win_armWindow hurole]
    by_cases hv : v = w
    · have hctl : u.snapshots w = true := by
        unfold State.snapshots at hsnap ⊢
        rw [hu.winCtl_eq (hl w List.mem_cons_self), ← hv]
        exact hsnap
      simp [hv, hctl]
    · simp [hv]

/-- The sequencer as it arms at tick `a` (R608). -/
theorem State.armNow_trig (s : State) (a : Nat) : (s.armNow a false).trig.st = (if s.trig.disarming then 4 else 2) ∧ (s.armNow a false).trig.level = 0 ∧
    (s.armNow a false).trig.value = [0, 0, 0, 0, 0, 0, 0, 0] ∧ (s.armNow a false).trig.gate = s.b 0x4000 11 ∧ (s.armNow a false).trig.armAt = a ∧
    ∀ j, j < 8 → (s.armNow a false).timer j = if bit (s.z 0x4019 (j + 1)) 0 then { running := true, start := a - 1 } else {} := by
  refine ⟨rfl, rfl, rfl, rfl, rfl, fun j hj => ?_⟩
  show (mget ((List.range 8).map fun j => (j, if bit (s.z 0x4019 (j + 1)) 0 then ({ running := true, start := a - 1 } : TimerSt) else {})) j).getD {} = _
  rw [mget_map_pair, if_pos (List.mem_range.2 hj), Option.getD_some]

theorem armTick_completes {s : State} (halone : Alone s) (hpending : s.trig.st = 1) (hrel : s.releases = true) :
    CompletesWithin .armTick s [.now, .time, .trig, .sto, .comp, .latch] fun t =>
      t.trig.st = (if s.trig.disarming then 4 else 2) ∧ t.trig.level = 0 ∧ t.trig.value = [0, 0, 0, 0, 0, 0, 0, 0] ∧
      t.trig.gate = s.b 0x4000 11 ∧ t.trig.armAt = s.trig.armAt ∧
      (∀ j, j < 8 → t.timer j = if bit (s.z 0x4019 (j + 1)) 0 then { running := true, start := s.trig.armAt - 1 } else {}) ∧
      ∀ w, w < 16 → winEn (s.winCtl w) = true → winStream (s.winCtl w) = false → t.win w = {} := by
  have ⟨hlead, hsecond, _⟩ := halone
  have hmoved : Frame [.now, .time] [(0xF050, 16)] s (s.elapseToTick s.trig.armAt) := (Frame.refl s).elapseToTick _
  have hreads : ∀ i a, key i a ≠ key 0xF050 16 → mget (s.elapseToTick s.trig.armAt).obj (key i a) = mget s.obj (key i a) :=
    fun i a hk => s.elapseToTick_reads hk _
  have htrig : (s.elapseToTick s.trig.armAt).trig = s.trig := s.elapseToTick_trig _
  have hpair : (s.elapseToTick s.trig.armAt).pair = s.pair := s.elapseToTick_pair _
  have hmeaning : s.armTick = (s.elapseToTick s.trig.armAt).armStart s.trig.armAt := if_pos ⟨hpending, hrel⟩
  generalize s.trig.armAt = a at *
  generalize s.elapseToTick a = u at *
  have hfold : Frame armParts serviceObjects (u.armNow a false) (u.armStart a) := Frame.foldl (fun _ w h => h.armWindow a w) _ (Frame.refl _)
  have harmed : (u.armStart a).trig = (u.armNow a false).trig := hfold.part .trig (by decide)
  have hkept : (u.armStart a).pair = s.pair := (hfold.part .pair (by decide)).trans hpair
  have hfollow : s.armTick.pairFollow = u.armStart a := by
    rw [hmeaning]
    exact State.pairFollow_single _ (by rw [hkept]; exact hlead) (by rw [hkept]; exact hsecond)
  have hf : Frame [.now, .time, .trig, .sto, .comp, .latch] ([(0xF050, 16)] ++ serviceObjects) s (u.armStart a) :=
    ((hmoved.mono (by decide) (by decide)).setTrig _).trans (hfold.mono (by decide) (by decide))
  refine completesWithin_of_frame (congrArg s.ends hfollow) hf ?_
  obtain ⟨hst, hlevel, hvalue, hgate, harmAt, htimer⟩ := u.armNow_trig a
  have hended : (s.ended (u.armStart a)).trig = (u.armNow a false).trig := (State.ended_trig ..).trans harmed
  have hcounting : ∀ j, (s.ended (u.armStart a)).timer j = (u.armNow a false).timer j := fun j => by
    unfold State.timer
    rw [hended]
  rw [hended, hst, hgate, htrig]
  refine ⟨rfl, hlevel, hvalue, congrArg (fun n => decide (n = 1)) (State.n_of_reads (hreads _ _ (by decide))), harmAt, fun j hj => ?_, fun w hw hen hsnap => ?_⟩
  · rw [hcounting, htimer j hj, State.z_of_reads (hreads 0x4019 (j + 1) (by unfold key; omega))]
  · have hctl : (u.armNow a false).snapshots w = true := by
      have hz : (u.armNow a false).winCtl w = s.winCtl w := State.z_of_reads (hreads (0x5010 + w) 1 (by unfold key; omega))
      rw [State.snapshots, hz, hen, hsnap]
      rfl
    have hrole : (u.armNow a false).pair.role ≠ 3 := fun h => hsecond (by rw [← hpair]; exact h)
    have hwin := State.win_armWindows hrole a (List.range 16) (fun w hw => List.mem_range.1 hw) _ (Frame.refl _) w hctl
    rw [if_pos (List.mem_range.2 hw)] at hwin
    unfold State.win at hwin ⊢
    rw [State.ended_sto]
    exact hwin

/-! ### The disarm tick, and the timers -/

theorem mgetD_map_snd {α : Type} (f : α → α) (m : Map α) (j : Nat) (d : α) : mgetD (m.map fun e => (e.1, f e.2)) j d = ((mget m j).map f).getD d := by
  unfold mgetD
  induction m with
  | nil => rfl
  | cons e m ih =>
    obtain ⟨k, x⟩ := e
    simp only [List.map_cons, mget]
    split
    · rfl
    · exact ih

theorem disarmTick_completes {s : State} (halone : Alone s) (hdisarming : s.trig.disarming = true) :
    Completes .disarmTick s [.now, .time, .trig] (clockObjects ++ [(0xF070, 6)]) fun t =>
      t.trig.st = 0 ∧ t.trig.gate = false ∧ t.trig.disarming = false ∧ t.trig.value = s.trig.value ∧
      (∀ j, (t.timer j).running = false) ∧ t.z 0xF070 6 = min (s.z 0xF070 6 + 1) (2 ^ 32 - 1) := by
  have ⟨hlead, hsecond, _⟩ := halone
  have htrig : (s.elapseToTick s.trig.disarmAt).trig = s.trig := s.elapseToTick_trig _
  have hpair : (s.elapseToTick s.trig.disarmAt).pair = s.pair := s.elapseToTick_pair _
  have hcount : (s.elapseToTick s.trig.disarmAt).z 0xF070 6 = s.z 0xF070 6 := State.z_of_reads (s.elapseToTick_reads (by decide) _)
  have hmoved : Frame [.now, .time, .trig] (clockObjects ++ [(0xF070, 6)]) s (s.elapseToTick s.trig.disarmAt) := (Frame.refl s).elapseToTick _
  have hmeaning : s.disarmTick = (s.elapseToTick s.trig.disarmAt).disarmNow := if_pos hdisarming
  generalize s.elapseToTick s.trig.disarmAt = u at *
  have hfollow : s.disarmTick.pairFollow = u.disarmNow := by
    rw [hmeaning]
    exact State.pairFollow_single _ (fun h => hlead (by rw [← hpair]; exact h)) (fun h => hsecond (by rw [← hpair]; exact h))
  refine completes_of_frame (congrArg s.ends hfollow) ((hmoved.setTrig _).bump 0xF070 6 1) ?_
  unfold State.timer
  rw [State.ended_trig, ← htrig]
  refine ⟨rfl, rfl, rfl, rfl, fun j => ?_, ?_⟩
  · refine (congrArg TimerSt.running (mgetD_map_snd (fun x : TimerSt => { x with running := false }) u.trig.timer j {})).trans ?_
    cases mget u.trig.timer j <;> rfl
  · exact (State.ended_z ..).trans ((State.z_bump ..).trans ((if_pos rfl).trans (congrArg (fun n => min (n + 1) _) hcount)))

/-- Timer `j`, which stood at `x`, has reached its limit in tick `e` (R602). -/
def State.timerFired (s : State) (j : Nat) (x : TimerSt) (e : Nat) : State :=
  State.bump { s with trig := { s.trig with
    timer := mset s.trig.timer j { x with elapsed := e - x.start, seen := some e }
    flags := s.trig.flags ||| 2 ^ (8 + j) } } 0xF070 7 1

theorem timerExpiry_completes {s : State} (j : Fin 8) (hrunning : (s.timer j.val).running = true) (hlimit : s.n 0x4018 (j.val + 1) ≠ 0)
    (hst : s.trig.st = 2 ∨ s.trig.st = 4)
    (hdue : bit (s.z 0x4019 (j.val + 1)) 1 = true ∨ s.nextExpiry j.val = (s.timer j.val).start + s.n 0x4018 (j.val + 1)) :
    Completes (.triggerTimerExpiry j) s [.now, .time, .trig] (clockObjects ++ [(0xF070, 7)]) fun t =>
      bit t.trig.flags (8 + j.val) = true ∧ (t.timer j.val).elapsed = s.nextExpiry j.val - (s.timer j.val).start ∧
      t.z 0xF070 7 = min (s.z 0xF070 7 + 1) (2 ^ 32 - 1) ∧
      (s.time.tickRun = true → s.time.bridging = false → t.time.tick = max s.time.tick (s.nextExpiry j.val)) := by
  have hfires : ¬ ((!(s.timer j.val).running) = true ∨ s.n 0x4018 (j.val + 1) = 0 ∨ (s.trig.st ≠ 2 ∧ s.trig.st ≠ 4) ∨
      ((!bit (s.z 0x4019 (j.val + 1)) 1) = true ∧ s.nextExpiry j.val ≠ (s.timer j.val).start + s.n 0x4018 (j.val + 1))) := by
    rintro (h | h | ⟨h2, h4⟩ | ⟨hbit, hne⟩)
    · simp [hrunning] at h
    · exact hlimit h
    · exact hst.elim h2 h4
    · refine hdue.elim (fun h => ?_) hne
      simp [h] at hbit
  have hmeaning : s.timerExpiry j.val = (s.elapseToTick (s.nextExpiry j.val)).timerFired j.val (s.timer j.val) (s.nextExpiry j.val) := if_neg hfires
  refine completes_of_frame (congrArg s.ends hmeaning) ((((Frame.refl s).elapseToTick _).setTrig _).bump 0xF070 7 1) ⟨?_, ?_, ?_, fun hrun hb => ?_⟩
  · rw [State.ended_trig]
    exact bit_or_two_pow _ _
  · unfold State.timer
    rw [State.ended_trig]
    refine (congrArg TimerSt.elapsed (mgetD_mset ..)).trans ?_
    rw [if_pos rfl]
  · exact (State.ended_z ..).trans ((State.z_bump ..).trans ((if_pos rfl).trans
      (congrArg (fun n => min (n + 1) _) (State.z_of_reads (s.elapseToTick_reads (by decide) _)))))
  · rw [State.ended_time]
    exact State.tick_elapseToTick _ hrun hb

/-! ### The obligation -/

theorem sliceRelease_counts {s : State} (gp : GpSample) (r : Nat) (hst : s.trig.st = 2 ∨ s.trig.st = 4)
    (hd : s.trig.disarming = false) (hrel : s.releases = true) (hlast : s.time.lastRelease = some r) :
    ∃ t, exec (.sliceRelease gp) s = .next t ∧
      t.z 0xF070 1 = if s.trig.armAt ≤ r + 1 then min (s.z 0xF070 1 + 1) (2 ^ 64 - 1) else s.z 0xF070 1 := by
  obtain ⟨htrig, hz⟩ := State.releaseDue_armed (s := s) (r + 1) hst hd
  obtain ⟨-, -, -, -, -, hcount⟩ := State.sliceRelease_leaves gp r hrel hlast
  refine ⟨s.ended (s.sliceRelease gp).pairFollow, rfl, ?_⟩
  rw [State.ended_z, (State.pairFollow_frame _).z_eq, hcount, htrig, hz]
  simp only [hst, true_and]

/-- Settles O49: the requests and the arm tick are told on a lone device; a release counts its tick once the sequencer is armed. -/
theorem triggerArmsTimesAndDisarms : Obligations.TriggerArmsTimesAndDisarms := fun _ halone =>
  ⟨fun w v h => armRequest_completes halone w v h, fun hpending hrel => armTick_completes halone hpending hrel,
    fun gp r hst hd hrel hlast => sliceRelease_counts gp r hst hd hrel hlast, fun w v h => disarmRequest_completes halone w v h,
    fun hd => disarmTick_completes halone hd, fun j hrunning hlimit hst hdue => timerExpiry_completes j hrunning hlimit hst hdue⟩

end Sys2Proof.Machine
end

section
/-! PROOF. Observation messages: a message that a port brings, the tap it is for, and the samples that it decides (R469-R471, R528-R532). -/
set_option Elab.async false
namespace Sys2Proof.Machine

/-! ### A message that a port brings -/

@[simp] theorem State.matchFabric_time (s : State) (p : Nat) (m : LinkMsg) : (s.matchFabric p m).time = s.time := by
  obtain ⟨_, _, h⟩ := s.matchFabric_eq p m
  rw [h]

theorem State.z_matchFabric (s : State) (p : Nat) (m : LinkMsg) {i a : Nat} (h : key i a ≠ key 0xF070 10) :
    (s.matchFabric p m).z i a = s.z i a := by
  unfold State.matchFabric
  extract_lets
  split
  · rfl
  · exact (State.z_bumpW _ _ _ _ _ _ _).trans (if_neg h)

theorem State.z_setTap (s : State) (i : Nat) (x : TapSt) (j b : Nat) : (s.setTap i x).z j b = s.z j b := rfl

theorem State.n_matchFabric (s : State) (p : Nat) (m : LinkMsg) {i a : Nat} (h : key i a ≠ key 0xF070 10) :
    (s.matchFabric p m).n i a = s.n i a := by
  unfold State.matchFabric
  extract_lets
  split
  · rfl
  · exact congrArg valNum (State.val_bumpW _ _ _ _ _ _ _ h)

/-- A message without a fault, on a port whose link runs, is given to its receiver. -/
theorem State.fromPort_taken {s : State} {p : Nat} {m : LinkMsg} (f : State → State) (hlink : (s.port p).linked = true)
    (hfault : s.msgFault p m (msgLen m) = false) : s.fromPort p m f = (f (s.matchFabric p m)).settle := by
  unfold State.fromPort
  rw [hlink, Bool.not_true, if_neg Bool.false_ne_true]
  dsimp only
  rw [State.msgFault_congr (s.matchFabric_port p m p), hfault, if_neg Bool.false_ne_true]

/-! ### The tap and the source that a message names -/

theorem State.tapEntry_matchFabric (s : State) (p : Nat) (m : LinkMsg) {i : Nat} (hi : i < 64) :
    (s.matchFabric p m).tapEntry i = s.tapEntry i := s.z_matchFabric p m (by unfold key; omega)

theorem State.srcEntry_matchFabric (s : State) (p : Nat) (m : LinkMsg) {i : Nat} (hi : i < 16) :
    (s.matchFabric p m).srcEntry i = s.srcEntry i := s.n_matchFabric p m (by unfold key; omega)

theorem State.obsEntry_matchFabric (s : State) (p : Nat) (m : LinkMsg) (q sid tapN : Nat) :
    (s.matchFabric p m).obsEntry q sid tapN = s.obsEntry q sid tapN := by
  refine List.find?_congr fun i hi => ?_
  dsimp only
  rw [s.tapEntry_matchFabric p m (List.mem_range.1 hi), s.matchFabric_port]

theorem State.srcOf_matchFabric (s : State) (p : Nat) (m : LinkMsg) (q ctr : Nat) : (s.matchFabric p m).srcOf q ctr = s.srcOf q ctr := by
  refine List.find?_congr fun i hi => ?_
  rw [s.srcEntry_matchFabric p m (List.mem_range.1 hi)]

theorem State.tap_matchFabric (s : State) (p : Nat) (m : LinkMsg) (i : Nat) : (s.matchFabric p m).tap i = s.tap i :=
  congrArg (fun t : TimeBase => mgetD t.tap i {}) (s.matchFabric_time p m)

theorem State.src_matchFabric (s : State) (p : Nat) (m : LinkMsg) (i : Nat) : (s.matchFabric p m).src i = s.src i :=
  congrArg (fun t : TimeBase => mgetD t.source i {}) (s.matchFabric_time p m)

theorem State.obsEntry_lt {s : State} {p sid tapN i : Nat} (h : s.obsEntry p sid tapN = some i) : i < 64 :=
  List.mem_range.1 (List.mem_of_find?_eq_some h)

theorem State.tapSource_matchFabric (s : State) (p : Nat) (m : LinkMsg) {i : Nat} (hi : i < 64) :
    (s.matchFabric p m).tapSource i = s.tapSource i := by
  unfold State.tapSource
  rw [s.srcOf_matchFabric, s.tapEntry_matchFabric p m hi, s.tap_matchFabric]

/-- A message for a tap entry is for it after its comparison with the fabric holds too. -/
theorem forTap_matchFabric {s : State} {p kind : Nat} {m : ObsMsg} {i : Nat} (h : ForTap s p kind m i) (x : LinkMsg) :
    ForTap (s.matchFabric p x) p kind m i := by
  obtain ⟨halone, hlink, hfault, hentry, htctl, hready, j, hj, hset, hstep, hepoch⟩ := h
  have hframe : Frame [.sig] [(0xF070, 10)] s (s.matchFabric p x) := (Frame.refl s).matchFabric p x
  refine ⟨hframe.alone halone (by decide) (by decide), ?_, ?_, ?_, ?_, ?_, j, ?_, ?_, ?_, ?_⟩
  · rw [State.matchFabric_port, hlink]
  · rw [State.msgFault_congr (s.matchFabric_port p x p), hfault]
  · rw [State.obsEntry_matchFabric, hentry]
  · rw [State.tap_matchFabric, htctl]
  · rw [State.tap_matchFabric, hready]
  · rw [s.tapSource_matchFabric p x (State.obsEntry_lt hentry)]
    exact hj
  · rw [State.src_matchFabric, hset]
  · rw [State.src_matchFabric, hstep]
  · rw [State.src_matchFabric, hepoch]

/-! ### The alignment queue -/

/-- A message that finds no room is dropped and counted (R529). -/
theorem State.obs_of_full {s : State} {p kind : Nat} {m : ObsMsg} {i : Nat} (h : ForTap s p kind m i)
    (hroom : (s.tap i).hasRoom s.time.tick m = false) : s.obs p kind m = (s.setTap i { s.tap i with gap := 6 }).bump 0xF060 4 1 := by
  obtain ⟨-, -, -, hentry, htctl, -, j, hj, hset, -, -⟩ := h
  simp [State.obs, hentry, htctl, Option.mem_def.1 hj, hset, hroom]

/-- A tap's queue takes a message. -/
def State.queued (s : State) (i : Nat) (m : ObsMsg) : State := (s.bumpW 0xF060 1 64 1).setTap i ((s.tap i).enqueue s.time.tick m)

theorem State.obs_of_room {s : State} {p kind : Nat} {m : ObsMsg} {i : Nat} (h : ForTap s p kind m i)
    (hroom : (s.tap i).hasRoom s.time.tick m = true) (hheader : m.headerBad = false) :
    ∃ j ∈ s.tapSource i, (s.src j).step = none ∧ (s.src j).epoch = m.epoch.toNat ∧ s.obs p kind m = (s.queued i m).expand i j kind m := by
  obtain ⟨-, -, -, hentry, htctl, -, j, hj, hset, hstep, hepoch⟩ := h
  refine ⟨j, hj, hstep, hepoch, ?_⟩
  simp [State.obs, hentry, htctl, Option.mem_def.1 hj, hset, hroom, hheader, State.queued]

/-! ### The expander -/

/-- Octets of a sample of a tap entry. -/
def State.sampleOctets (s : State) (i : Nat) : Nat := widthBits (s.tap i).width / 8

/-- Why the n-th sample of a message is poisoned. -/
def sampleFlaw (m : ObsMsg) (n : Nat) : Nat := if m.badSamples.contains n then 5 else if m.poison then 4 else 0

/-- The package time of the n-th sample of a message. -/
def sampleTime (s : State) (i : Nat) (m : ObsMsg) (n : Nat) : Int := stampTime s m + n * (intervalNs (s.tap i).interval * 2 ^ 32)

/-- The number of the last sample of a message of a kind. -/
def lastSample (m : ObsMsg) (kind : Nat) : Nat := if kind = 1 then m.count.toNat else 0

/-- The expander has taken a message for a tap entry. -/
def State.taken (s : State) (i kind : Nat) (m : ObsMsg) : State :=
  ((s.bump 0xF060 9 m.badWords).bumpW 0xF050 6 64 1).setTap i
    { s.tap i with st := 3, covTime := some (sampleTime s i m (lastSample m kind) / 65536).toNat }

/-- The samples of a message are decided one after the other. -/
def State.decided (s : State) (i kind : Nat) (m : ObsMsg) (b : State) : State :=
  if kind = 1 then State.takeSamples i (s.sampleOctets i) m (stampTime s m) (intervalNs (s.tap i).interval * 2 ^ 32) 0 (m.count.toNat + 1) b
  else b.decideSample i kind (b.tickOfTime (stampTime s m)) (leAt m.data 0 (s.sampleOctets i)) (sampleFlaw m 0)

/-- A message in which no rule of R469 or R485 is broken, and none of whose samples lies before the join, goes to its samples. -/
theorem State.expand_of_valid {s : State} {i j kind : Nat} {m : ObsMsg} (hstep : (s.src j).step = none)
    (hepoch : (s.src j).epoch = m.epoch.toNat) (hkind : 1 ≤ kind ∧ kind ≤ 4)
    (hallowed : (tapChange (s.tapEntry i) || kind == 1 || kind == 4) = true) (hlen : obsLenOk kind (s.sampleOctets i) m = true)
    (hahead : stampTime s m ≤ s.time.pt + 4096 * 2 ^ 32) (hcov : ∀ c ∈ (s.tap i).covTime, (c : Int) < stampTime s m / 65536)
    (hready : (s.tap i).ready = true) (hjoin : (s.tap i).join ≤ s.tickOfTime (sampleTime s i m (lastSample m kind))) :
    s.expand i j kind m = s.decided i kind m (s.taken i kind m) := by
  obtain ⟨hk1, hk4⟩ := hkind
  have hbehind : (match (s.tap i).covTime with | some c => decide (stampTime s m / 65536 ≤ (c : Int)) | none => false) = false := by
    cases hc : (s.tap i).covTime with
    | none => rfl
    | some c => exact decide_eq_false (Int.not_le.2 (hcov c hc))
  have htime : (if kind = 1 then stampTime s m + (m.count.toNat : Int) * (intervalNs (s.tap i).interval * 2 ^ 32) else stampTime s m) =
      sampleTime s i m (lastSample m kind) := by
    unfold sampleTime lastSample
    split <;> simp
  have hbefore : ¬ s.tickOfTime (sampleTime s i m (lastSample m kind)) < (s.tap i).join := Nat.not_lt.2 hjoin
  unfold State.expand
  extract_lets sid x e src s1 wb allowed ep before delta ref st v t t2 behind iv n tEnd s2 s3 why
  have hallow : allowed = true := by simpa [allowed, hk1, hk4] using hallowed
  have hb : before = false := by simp [before, src, hstep]
  have ht : t2 = stampTime s m := by simp [t2, t, ref, delta, hb, v, st, stampTime, s1]
  have htEnd : tEnd = sampleTime s i m (lastSample m kind) := by rw [← htime, ← ht]
  have hbf : behind = false := by
    unfold behind
    rw [ht]
    exact hbehind
  have hs3 : s3 = s.taken i kind m := by
    show s2.setTap i { x with st := 3, covTime := some (tEnd / 65536).toNat } = _
    rw [htEnd]
    rfl
  have hlate : ¬ ref + 4096 * 2 ^ 32 < t := by
    have : t = t2 - delta := by simp [t2]
    simp only [this, ht, ref, delta, hb, s1, State.bump_time]
    simpa using hahead
  rw [if_neg (by simp [hallow, wb, x, hlen, show widthBits (s.tap i).width / 8 = s.sampleOctets i from rfl]),
    if_neg (by simp [ep, src, hepoch]), if_neg hlate, if_neg (by rw [hbf]; decide), if_neg]
  · rw [hs3, ht]
    rfl
  · rw [htEnd, not_or]
    exact ⟨hbefore, by simp [x, hready]⟩

/-! ### Samples that are taken -/

/-- Only what belongs to the taps changes in the time base. -/
def OnlyTaps (s t : State) : Prop := ∃ l, t.time = { s.time with tap := l }

theorem OnlyTaps.tickOfTime {s t : State} (h : OnlyTaps s t) (n : Int) : t.tickOfTime n = s.tickOfTime n := by
  obtain ⟨l, hl⟩ := h
  unfold State.tickOfTime State.adj
  rw [hl]

theorem OnlyTaps.trans {s t u : State} (h : OnlyTaps s t) (h' : OnlyTaps t u) : OnlyTaps s u := by
  obtain ⟨l, hl⟩ := h
  obtain ⟨l', hl'⟩ := h'
  exact ⟨l', by rw [hl', hl]⟩

theorem OnlyTaps.of_setTap {s t u : State} {i : Nat} {x : TapSt} (h : OnlyTaps s t) (hu : u.time = (t.setTap i x).time) : OnlyTaps s u := by
  obtain ⟨l, hl⟩ := h
  refine ⟨mset l i x, ?_⟩
  rw [hu, State.setTap, hl]

theorem OnlyTaps.bumpW {s t : State} (h : OnlyTaps s t) (i a w d : Nat) : OnlyTaps s (t.bumpW i a w d) := h

theorem OnlyTaps.setTap {s t : State} (h : OnlyTaps s t) (i : Nat) (x : TapSt) : OnlyTaps s (t.setTap i x) := h.of_setTap rfl

theorem OnlyTaps.queued {s t : State} (h : OnlyTaps s t) (i : Nat) (m : ObsMsg) : OnlyTaps s (t.queued i m) :=
  (h.bumpW 0xF060 1 64 1).setTap i _

theorem OnlyTaps.taken {s t : State} (h : OnlyTaps s t) (i kind : Nat) (m : ObsMsg) : OnlyTaps s (t.taken i kind m) :=
  ((h.bumpW 0xF060 9 32 m.badWords).bumpW 0xF050 6 64 1).setTap i _

/-- A tap entry has taken a sample of a kind at a tick. -/
def Took (x y : TapSt) (kind k value : Nat) : Prop :=
  y.cov = k + 1 ∧ y.gap = 0 ∧ y.st = x.st ∧ y.join = x.join ∧ y.last = (if kind ≤ 2 then some value else x.last) ∧
    (kind = 4 → ∃ r ∈ y.rows, r.a = k ∧ r.why = 3)

theorem State.acceptSample_spec (s : State) (i kind k value why : Nat) :
    OnlyTaps s (s.acceptSample i kind k value why) ∧ Took (s.tap i) ((s.acceptSample i kind k value why).tap i) kind k value := by
  unfold State.acceptSample
  extract_lets x f lv fw fill v w displaced repeated mg x' s1 s2
  have htime : s2.time = (s.setTap i x').time := by unfold s2; split <;> rfl
  have hend : (if repeated = 0 then s2 else s2.bump 0xF050 10 repeated).time = (s.setTap i x').time := by split <;> exact htime
  refine ⟨⟨_, hend⟩, ?_⟩
  have htap : (if repeated = 0 then s2 else s2.bump 0xF050 10 repeated).tap i = x' :=
    (congrArg (fun t : TimeBase => mgetD t.tap i {}) hend).trans (by simp [s.tap_setTap] : (s.setTap i x').tap i = x')
  rw [htap]
  refine ⟨rfl, rfl, rfl, rfl, rfl, fun h4 => ⟨⟨k, k, v, w⟩, ?_, rfl, ?_⟩⟩
  · show _ ∈ cutRows x.rows k ++ fill ++ [⟨k, k, v, w⟩]
    simp
  · simp [w, h4]

/-- A sample inside the horizon, not before the join, is accepted (R530). -/
theorem State.decideSample_accepted {s : State} {i k : Nat} (hjoin : (s.tap i).join ≤ k) (hin : s.time.tick ≤ k + s.horizon) (kind value why : Nat) :
    s.decideSample i kind k value why = s.acceptSample i kind k value why := by
  unfold State.decideSample
  rw [if_neg (Nat.not_lt.2 hjoin), if_pos hin]

/-- A sample behind the horizon is late (R530). -/
theorem State.decideSample_late {s : State} {i k : Nat} (hjoin : (s.tap i).join ≤ k) (hin : k + s.horizon < s.time.tick) (kind value why : Nat) :
    s.decideSample i kind k value why = ((s.setTap i { s.tap i with gap := 2 }).bump 0xF060 3 1).setCause 9 4 := by
  unfold State.decideSample
  rw [if_neg (Nat.not_lt.2 hjoin), if_neg (Nat.not_le.2 hin)]

/-- Samples that are all accepted leave the tap as the last of them leaves it. -/
theorem State.takeSamples_spec {i wb : Nat} {m : ObsMsg} {t0 iv : Int} (f : Nat) :
    ∀ (n : Nat) (s : State), (∀ j : Nat, n ≤ j → j ≤ n + f →
      (s.tap i).join ≤ s.tickOfTime (t0 + j * iv) ∧ s.time.tick ≤ s.tickOfTime (t0 + j * iv) + s.horizon) →
    Took (s.tap i) ((State.takeSamples i wb m t0 iv n (f + 1) s).tap i) 1 (s.tickOfTime (t0 + (n + f : Nat) * iv)) (leAt m.data ((n + f) * wb) wb) := by
  induction f with
  | zero =>
    intro n s h
    obtain ⟨hjoin, hin⟩ := h n le_rfl le_rfl
    show Took _ ((s.decideSample i 1 _ _ _).tap i) _ _ _
    rw [State.decideSample_accepted hjoin hin]
    exact (s.acceptSample_spec i 1 _ _ _).2
  | succ f ih =>
    intro n s h
    obtain ⟨hjoin, hin⟩ := h n le_rfl (by omega)
    have hstep : State.takeSamples i wb m t0 iv n (f + 1 + 1) s =
        State.takeSamples i wb m t0 iv (n + 1) (f + 1) (s.acceptSample i 1 (s.tickOfTime (t0 + n * iv)) (leAt m.data (n * wb) wb) (sampleFlaw m n)) := by
      rw [← State.decideSample_accepted hjoin hin]
      rfl
    obtain ⟨honly, -, -, hst, hj, -, -⟩ := s.acceptSample_spec i 1 (s.tickOfTime (t0 + n * iv)) (leAt m.data (n * wb) wb) (sampleFlaw m n)
    rw [hstep]
    generalize s.acceptSample i 1 (s.tickOfTime (t0 + n * iv)) (leAt m.data (n * wb) wb) (sampleFlaw m n) = t at honly hst hj ⊢
    obtain ⟨hcov, hgap, hst', hj', hlast, -⟩ := ih (n + 1) t fun j hlo hhi => by
      rw [hj, honly.tickOfTime]
      obtain ⟨l, hl⟩ := honly
      rw [State.horizon, hl]
      exact h j (by omega) (by omega)
    refine ⟨?_, hgap, hst'.trans hst, hj'.trans hj, ?_, nofun⟩
    · rw [hcov, honly.tickOfTime, Nat.add_assoc n 1 f, Nat.add_comm 1 f]
    · rw [hlast, Nat.add_assoc n 1 f, Nat.add_comm 1 f]
      rfl

section
variable {parts : List Part} {objs : List (Nat × Nat)} {s u : State}

theorem Frame.acceptSample (h : Frame parts objs s u) (i kind k value why : Nat) (hm : .time ∈ parts := by decide)
    (h2 : (0xF060, 2) ∈ objs := by decide) (h9 : (0xF050, 9) ∈ objs := by decide) (h10 : (0xF050, 10) ∈ objs := by decide) :
    Frame parts objs s (u.acceptSample i kind k value why) := by
  unfold State.acceptSample
  extract_lets x f lv fw fill v w displaced repeated mg x' s1 s2
  have h1 : Frame parts objs s s1 := (h.setTap i x' hm).putVal _ _ _ h2
  have h2 : Frame parts objs s s2 := by
    unfold s2
    split
    · exact h1.bump _ _ _ h9
    · exact h1
  exact h2.ite (h2.bump _ _ _ h10)

theorem Frame.decideSample (h : Frame parts objs s u) (i kind k value why : Nat) (hm : .time ∈ parts := by decide)
    (hl : .latch ∈ parts := by decide) (h2 : (0xF060, 2) ∈ objs := by decide) (h3 : (0xF060, 3) ∈ objs := by decide)
    (h9 : (0xF050, 9) ∈ objs := by decide) (h10 : (0xF050, 10) ∈ objs := by decide) (hc : ∀ x ∈ causeObjects 9, x ∈ objs := by decide) :
    Frame parts objs s (u.decideSample i kind k value why) := by
  unfold State.decideSample
  dsimp only
  split
  · exact h
  · split
    · exact h.acceptSample i kind k value why hm h2 h9 h10
    · exact ((h.setTap i _ hm).bump _ _ _ h3).setCause 9 4 hl hc

theorem Frame.takeSamples (i wb : Nat) (m : ObsMsg) (t0 iv : Int) (f : Nat) (hm : .time ∈ parts := by decide)
    (hl : .latch ∈ parts := by decide) (h2 : (0xF060, 2) ∈ objs := by decide) (h3 : (0xF060, 3) ∈ objs := by decide)
    (h9 : (0xF050, 9) ∈ objs := by decide) (h10 : (0xF050, 10) ∈ objs := by decide) (hc : ∀ x ∈ causeObjects 9, x ∈ objs := by decide) :
    ∀ (n : Nat) (u : State), Frame parts objs s u → Frame parts objs s (State.takeSamples i wb m t0 iv n f u) := by
  induction f with
  | zero => exact fun _ _ h => h
  | succ f ih => exact fun n u h => ih (n + 1) _ (h.decideSample i 1 _ _ _ hm hl h2 h3 h9 h10 hc)

end

/-! ### A message as a command brings it -/

/-- The objects that an observation message changes. -/
def obsObjects : List (Nat × Nat) :=
  [(0xF070, 10), (0xF060, 1), (0xF060, 2), (0xF060, 3), (0xF060, 4), (0xF060, 9), (0xF050, 6), (0xF050, 9), (0xF050, 10)] ++ causeObjects 9

/-- On a lone device an observation message ends with what its tap does with it. -/
theorem sampleIn_eq {s : State} {p kind i : Nat} {m : ObsMsg} (h : ForTap s p kind m i)
    (hframe : Frame [.time, .sig, .latch] obsObjects s ((s.matchFabric p (obsMsg kind m)).obs p kind m)) :
    s.sampleIn p kind m = (s.matchFabric p (obsMsg kind m)).obs p kind m := by
  obtain ⟨halone, hlink, hfault, -⟩ := h
  unfold State.sampleIn
  rw [State.fromPort_taken _ hlink hfault, hframe.settle_eq halone (by decide) (by decide)]

/-- What a message has done before the first of its samples is decided. -/
def BeforeSamples (s b : State) (i : Nat) : Prop :=
  OnlyTaps s b ∧ (b.tap i).st = 3 ∧ (b.tap i).join = (s.tap i).join ∧ (b.tap i).cov = (s.tap i).cov ∧ (b.tap i).last = (s.tap i).last ∧
    Frame [.time, .sig] [(0xF070, 10), (0xF060, 1), (0xF060, 9), (0xF050, 6)] s b

theorem decided_congr {s t : State} {i kind : Nat} {m : ObsMsg} (hstamp : stampTime t m = stampTime s m)
    (hwidth : (t.tap i).width = (s.tap i).width) (hinterval : (t.tap i).interval = (s.tap i).interval) (b : State) :
    t.decided i kind m b = s.decided i kind m b := by
  unfold State.decided State.sampleOctets
  rw [hstamp, hwidth, hinterval]

/-- A message that its tap takes, where none of its samples lies before the join, goes to its samples. -/
theorem observed_decided {s : State} {p kind i : Nat} {m : ObsMsg} (h : Observed s p kind m i) (hkind : 1 ≤ kind ∧ kind ≤ 4) (x : LinkMsg) :
    ∃ b, (s.matchFabric p x).obs p kind m = s.decided i kind m b ∧ BeforeSamples s b i := by
  obtain ⟨hfor, hroom, hheader, hallowed, hlen, hahead, hcov, hjoin⟩ := h
  have hf := forTap_matchFabric hfor x
  have hi : i < 64 := State.obsEntry_lt hf.2.2.2.1
  have hframe : Frame [.time, .sig] [(0xF070, 10), (0xF060, 1), (0xF060, 9), (0xF050, 6)] s (s.matchFabric p x) := (Frame.refl s).matchFabric p x
  have htime : (s.matchFabric p x).time = s.time := s.matchFabric_time p x
  have htap : (s.matchFabric p x).tap i = s.tap i := s.tap_matchFabric p x i
  have hentry : (s.matchFabric p x).tapEntry i = s.tapEntry i := s.tapEntry_matchFabric p x hi
  have hready : ((s.matchFabric p x).tap i).ready = true := hf.2.2.2.2.2.1
  generalize s.matchFabric p x = a at hf hframe htime htap hentry hready ⊢
  obtain ⟨j, hj, hstep, hepoch, heq⟩ := State.obs_of_room hf (by rw [htap, htime]; exact hroom) hheader
  have hqtap : (a.queued i m).tap i = (s.tap i).enqueue s.time.tick m := by simp [State.queued, State.tap_setTap, htap, htime]
  have hpt : (a.queued i m).time.pt = s.time.pt := (congrArg TimeBase.pt htime : a.time.pt = s.time.pt)
  have hstamp : stampTime (a.queued i m) m = stampTime s m := by
    unfold stampTime
    rw [hpt]
  have hqueued : OnlyTaps s (a.queued i m) := OnlyTaps.queued (t := a) ⟨s.time.tap, htime⟩ i m
  have hclock := hqueued.tickOfTime
  refine ⟨(a.queued i m).taken i kind m, ?_, hqueued.taken i kind m, ?_⟩
  · rw [heq, ← decided_congr hstamp (by rw [hqtap]; rfl) (by rw [hqtap]; rfl)]
    refine State.expand_of_valid hstep hepoch hkind ?_ ?_ ?_ ?_ ?_ ?_
    · rw [show (a.queued i m).tapEntry i = a.tapEntry i from ?_, hentry]
      · exact hallowed
      · exact (State.z_bumpW a 0xF060 1 64 1 0x3200 (i + 1)).trans (if_neg (by unfold key; omega))
    · rw [State.sampleOctets, hqtap]
      exact hlen
    · rw [hstamp, hpt]
      exact hahead
    · rw [hstamp, hqtap]
      exact hcov
    · rw [hqtap]
      exact hfor.2.2.2.2.2.1
    · rw [sampleTime, hclock, hstamp, hqtap]
      exact hjoin (lastSample m kind) le_rfl
  · have htaken : ((a.queued i m).taken i kind m).tap i =
        { (a.queued i m).tap i with st := 3, covTime := some (sampleTime (a.queued i m) i m (lastSample m kind) / 65536).toNat } := by
      simp [State.taken, State.tap_setTap]
    rw [htaken, hqtap]
    exact ⟨rfl, rfl, rfl, rfl,
      (((((hframe.putVal 0xF060 1 _).setTap i _).bump 0xF060 9 _).putVal 0xF050 6 _).setTap i _)⟩

theorem obsSample_completes {s : State} {p : Fin 6} {i : Nat} {m : ObsMsg} (h : Observed s p.val 1 m i)
    (hin : ∀ n, n ≤ m.count.toNat → s.time.tick ≤ sampleTick s i m n + s.horizon) :
    ∃ t, exec (.obsSample p m) s = .next t ∧ (t.tap i).cov = sampleTick s i m m.count.toNat + 1 ∧ (t.tap i).gap = 0 ∧ (t.tap i).st = 3 ∧
      (t.tap i).last = some (leAt m.data (m.count.toNat * (widthBits (s.tap i).width / 8)) (widthBits (s.tap i).width / 8)) := by
  obtain ⟨b, heq, honly, hst, hjoin, -, -, hframe⟩ := observed_decided h (by decide) (obsMsg 1 m)
  have hf : Frame [.time, .sig, .latch] obsObjects s b := hframe.mono (by decide) (by decide)
  have hexec : s.sampleIn p.val 1 m = s.decided i 1 m b := by
    rw [sampleIn_eq h.1, heq]
    rw [heq, State.decided, if_pos rfl]
    exact Frame.takeSamples (parts := [.time, .sig, .latch]) (objs := obsObjects) i _ m _ _ _ (by decide) (by decide) (by decide) (by decide) (by decide)
      (by decide) (by decide) 0 b hf
  obtain ⟨hcov, hgap, hst', -, hlast, -⟩ := State.takeSamples_spec (i := i) (wb := s.sampleOctets i) (m := m) (t0 := stampTime s m)
    (iv := intervalNs (s.tap i).interval * 2 ^ 32) m.count.toNat 0 b fun j _ hj => by
      rw [hjoin, honly.tickOfTime]
      obtain ⟨l, hl⟩ := honly
      rw [State.horizon, hl]
      exact ⟨h.2.2.2.2.2.2.2 j (by simpa using hj), hin j (by simpa using hj)⟩
  refine ⟨s.ended (s.decided i 1 m b), congrArg s.ends hexec, ?_⟩
  rw [State.ended_tap]
  refine ⟨hcov.trans ?_, hgap, hst'.trans hst, hlast.trans ?_⟩
  · rw [honly.tickOfTime, Nat.zero_add]
    rfl
  · rw [Nat.zero_add]
    rfl

/-- A message of one sample as a command brings it. -/
theorem oneSample_eq {s : State} {p kind i : Nat} {m : ObsMsg} (h : Observed s p kind m i) (hkind : 2 ≤ kind ∧ kind ≤ 4) :
    ∃ b, s.sampleIn p kind m = b.decideSample i kind (sampleTick s i m 0) (leAt m.data 0 (s.sampleOctets i)) (sampleFlaw m 0) ∧
      BeforeSamples s b i := by
  obtain ⟨b, heq, hb⟩ := observed_decided h ⟨by omega, hkind.2⟩ (obsMsg kind m)
  have hf : Frame [.time, .sig, .latch] obsObjects s b := hb.2.2.2.2.2.mono (by decide) (by decide)
  have hdec : s.decided i kind m b =
      b.decideSample i kind (sampleTick s i m 0) (leAt m.data 0 (s.sampleOctets i)) (sampleFlaw m 0) := by
    unfold State.decided sampleTick
    rw [if_neg (by omega), hb.1.tickOfTime]
    simp
  refine ⟨b, ?_, hb⟩
  rw [sampleIn_eq h.1, heq, hdec]
  rw [heq, hdec]
  exact hf.decideSample _ _ _ _ _

theorem oneSample_accepted {s : State} {c : Instr} {p kind i : Nat} {m : ObsMsg} (hc : exec c s = s.ends (s.sampleIn p kind m))
    (h : Observed s p kind m i) (hkind : 2 ≤ kind ∧ kind ≤ 4) (hin : s.time.tick ≤ sampleTick s i m 0 + s.horizon) :
    ∃ t, exec c s = .next t ∧ (t.tap i).cov = sampleTick s i m 0 + 1 ∧ (t.tap i).gap = 0 ∧ (t.tap i).st = 3 ∧
      (t.tap i).last = (if kind = 2 then some (leAt m.data 0 (widthBits (s.tap i).width / 8)) else (s.tap i).last) ∧
      (kind = 4 → ∃ r ∈ (t.tap i).rows, r.a = sampleTick s i m 0 ∧ r.why = 3) := by
  obtain ⟨b, heq, ⟨l, hl⟩, hst, hjoin, -, hlast, -⟩ := oneSample_eq h hkind
  refine ⟨s.ended (s.sampleIn p kind m), hc, ?_⟩
  rw [State.ended_tap, heq, State.decideSample_accepted (by rw [hjoin]; exact h.2.2.2.2.2.2.2 0 (Nat.zero_le _)) (by rw [State.horizon, hl]; exact hin)]
  obtain ⟨-, hcov, hgap, hst', -, hlast', hrows⟩ := b.acceptSample_spec i kind (sampleTick s i m 0) (leAt m.data 0 (s.sampleOctets i)) (sampleFlaw m 0)
  refine ⟨hcov, hgap, hst'.trans hst, hlast'.trans ?_, hrows⟩
  rw [hlast]
  exact if_congr (by omega) rfl rfl

theorem oneSample_late {s : State} {c : Instr} {p kind i : Nat} {m : ObsMsg} (hc : exec c s = s.ends (s.sampleIn p kind m))
    (h : Observed s p kind m i) (hkind : 2 ≤ kind ∧ kind ≤ 4) (hlate : sampleTick s i m 0 + s.horizon < s.time.tick) (hfast : s.mgtFast = true) :
    ∃ t, exec c s = .next t ∧ (t.tap i).cov = (s.tap i).cov ∧ (t.tap i).gap = 2 ∧ bit (t.z 0x210A 0) 4 = true ∧
      t.z 0xF060 3 = min (s.z 0xF060 3 + 1) (2 ^ 32 - 1) := by
  obtain ⟨b, heq, ⟨l, hl⟩, -, hjoin, hcov, -, hframe⟩ := oneSample_eq h hkind
  refine ⟨s.ended (s.sampleIn p kind m), hc, ?_⟩
  rw [heq, State.decideSample_late (by rw [hjoin]; exact h.2.2.2.2.2.2.2 0 (Nat.zero_le _)) (by rw [State.horizon, hl]; exact hlate)]
  have htap : ∀ x : TapSt, (((b.setTap i x).bump 0xF060 3 1).setCause 9 4).tap i = x := fun x =>
    (congrArg (fun t : TimeBase => mgetD t.tap i {}) (State.setCause_time _ 9 4)).trans (by simp [b.tap_setTap] : (b.setTap i x).tap i = x)
  refine ⟨?_, ?_, ?_, ?_⟩
  · rw [State.ended_tap, htap, hcov]
  · rw [State.ended_tap, htap]
  · have hb : b.mgtFast = true := (hframe.mgtFast_eq).trans hfast
    rw [State.ended_z]
    exact (congrArg (bit · 4) (State.setCause_z (s := (b.setTap i _).bump 0xF060 3 1) (br := 9) 4 (by decide) hb)).trans (bit_or_two_pow _ _)
  · rw [State.ended_setCause_z _ _ 9 4, State.z_bump, if_pos rfl, State.z_setTap, hframe.z_eq]

theorem obsDropped {s : State} {c : Instr} {p kind i : Nat} {m : ObsMsg} (hc : exec c s = s.ends (s.sampleIn p kind m))
    (h : ForTap s p kind m i) (hroom : (s.tap i).hasRoom s.time.tick m = false) :
    ∃ t, exec c s = .next t ∧ t.tap i = { s.tap i with gap := 6 } ∧ t.z 0xF060 4 = min (s.z 0xF060 4 + 1) (2 ^ 32 - 1) := by
  have hframe : Frame [.sig] [(0xF070, 10)] s (s.matchFabric p (obsMsg kind m)) := (Frame.refl s).matchFabric p _
  have heq : (s.matchFabric p (obsMsg kind m)).obs p kind m =
      ((s.matchFabric p (obsMsg kind m)).setTap i { s.tap i with gap := 6 }).bump 0xF060 4 1 := by
    rw [State.obs_of_full (forTap_matchFabric h _), State.tap_matchFabric]
    rw [State.tap_matchFabric, State.matchFabric_time]
    exact hroom
  refine ⟨s.ended (s.sampleIn p kind m), hc, ?_⟩
  rw [sampleIn_eq h, heq, State.ended_tap, State.ended_z]
  · refine ⟨((State.tap_setTap ..).trans (if_pos rfl) : (State.setTap _ i _).tap i = _), ?_⟩
    rw [State.z_bump, if_pos rfl, State.z_setTap, s.z_matchFabric _ _ (by decide)]
  · rw [heq]
    exact (((hframe.mono (by decide) (by decide) : Frame [.time, .sig, .latch] obsObjects s _).setTap i _).bump 0xF060 4 1)

/-- Settles O44: a message that nothing stops goes to the expander, which decides its samples one after the other against the horizon. -/
theorem observationMessagesExtendCoverage : Obligations.ObservationMessagesExtendCoverage := by
  intro s p m i
  refine ⟨fun h hin => obsSample_completes h hin, fun c kind hc h => ⟨fun hin => ?_, fun hlate hfast => ?_⟩, fun c kind hc h hroom => ?_⟩
  · obtain ⟨rfl, rfl⟩ | ⟨rfl, rfl⟩ | ⟨rfl, rfl⟩ := hc <;> exact oneSample_accepted rfl h (by decide) hin
  · obtain ⟨rfl, rfl⟩ | ⟨rfl, rfl⟩ | ⟨rfl, rfl⟩ := hc <;> exact oneSample_late rfl h (by decide) hlate hfast
  · obtain ⟨rfl, rfl⟩ | ⟨rfl, rfl⟩ | ⟨rfl, rfl⟩ | ⟨rfl, rfl⟩ := hc <;> exact obsDropped rfl h hroom

end Sys2Proof.Machine
end

section
/-! PROOF. The exchanges with the time sources, and the writes of TCTL (R457, R464-R467). -/
set_option Elab.async false
namespace Sys2Proof.Machine

/-! ### Sources and taps under the updates of the time base -/

theorem State.src_setTap (s : State) (i j : Nat) (x : TapSt) : (s.setTap i x).src j = s.src j := rfl

theorem State.z_setSrc (s : State) (i : Nat) (x : SourceSt) (j b : Nat) : (s.setSrc i x).z j b = s.z j b := rfl

theorem State.tap_setTap_self (s : State) (i : Nat) (x : TapSt) : (s.setTap i x).tap i = x := (s.tap_setTap i i x).trans (if_pos rfl)

theorem State.src_setSrc_self (s : State) (i : Nat) (x : SourceSt) : (s.setSrc i x).src i = x := (s.src_setSrc i i x).trans (if_pos rfl)

theorem State.src_of_time {s t : State} (h : t.time = s.time) (i : Nat) : t.src i = s.src i :=
  congrArg (fun t : TimeBase => mgetD t.source i {}) h

theorem State.tap_of_time {s t : State} (h : t.time = s.time) (i : Nat) : t.tap i = s.tap i :=
  congrArg (fun t : TimeBase => mgetD t.tap i {}) h

/-- An exchange that is not overdue stays as it is. -/
theorem State.exchangePast_open {s : State} {i : Nat} {o : Exchange} (ho : (s.src i).open_ = some o) (h : s.time.tick ≤ o.sent + 4096) :
    s.exchangePast i = s := by
  unfold State.exchangePast
  rw [ho]
  exact if_neg (Nat.not_lt.2 h)

theorem State.exchangePast_none {s : State} {i : Nat} (ho : (s.src i).open_ = none) : s.exchangePast i = s := by
  unfold State.exchangePast
  rw [ho]

/-! ### T_PING -/

/-- A source's exchange is due in a servo frame (R466). -/
def PingDue (s : State) (i : Nat) : Prop :=
  (s.src i).present = true ∧ srcEn (s.srcEntry i) = true ∧ s.acts = true ∧ s.time.ptRun = true ∧ (s.src i).nextPing < s.belay.frame

/-- The frame of a source's next exchange. -/
def State.pingAfter (s : State) (i : Nat) : Nat :=
  (if (s.src i).nextPing = 0 then s.belay.frame - 1 else (s.src i).nextPing) + srcPeriod (s.srcEntry i)

theorem State.pingDue_open {s : State} {i : Nat} {o : Exchange} (hdue : PingDue s i) (ho : (s.src i).open_ = some o)
    (h : s.time.tick ≤ o.sent + 4096) : s.pingDue i = s.setSrc i { s.src i with nextPing := s.pingAfter i } := by
  unfold State.pingDue
  rw [State.exchangePast_open ho h]
  dsimp only
  rw [if_neg (fun h => h hdue), if_pos (by rw [ho]; rfl)]
  rfl

/-- A source with a new exchange open. -/
def State.pinging (s : State) (i : Nat) : SourceSt :=
  { s.src i with
    nextPing := s.pingAfter i
    tag := ((s.src i).tag + 1) % 4096
    lateTags := (s.src i).lateTags.filter fun t => decide (t ≠ (s.src i).tag)
    open_ := some ⟨(s.src i).tag, s.time.pt, s.time.tick, if (s.src i).setting then none else some (s.src i).epoch, false⟩ }

theorem State.pingDue_none {s : State} {i : Nat} (hdue : PingDue s i) (ho : (s.src i).open_ = none) :
    s.pingDue i = ((s.setSrc i (s.pinging i)).sendTime i 1 (s.src i).tag []).bump 0xF050 1 1 := by
  unfold State.pingDue
  rw [State.exchangePast_none ho]
  dsimp only
  rw [if_neg (fun h => h hdue), if_neg (by rw [ho]; decide)]
  rfl

@[simp] theorem State.sendTime_time (s : State) (i opc tag : Nat) (data : Octets) : (s.sendTime i opc tag data).time = s.time :=
  sendMsg_time ..

@[simp] theorem State.sendTime_pair (s : State) (i opc tag : Nat) (data : Octets) : (s.sendTime i opc tag data).pair = s.pair :=
  sendMsg_pair ..

@[simp] theorem State.sendTime_coh (s : State) (i opc tag : Nat) (data : Octets) : (s.sendTime i opc tag data).coh = s.coh :=
  sendMsg_coh ..

theorem State.z_sendTime (s : State) (i opc tag : Nat) (data : Octets) (a : Nat) : (s.sendTime i opc tag data).z 0xF050 a = s.z 0xF050 a := by
  refine State.z_sendMsg ?_ _ _
  have hport : srcPort (s.srcEntry i) < 8 := Nat.mod_lt _ (by decide)
  unfold key
  omega

/-- The message that opens an exchange. -/
def State.pingMsg (s : State) (i : Nat) : LinkMsg :=
  devMsg (if (s.port (srcPort (s.srcEntry i))).gen = 3 then 5 else 7) 1 (s.port (srcPort (s.srcEntry i))).sidBase (s.src i).tag
    (srcCtr (s.srcEntry i) * 2 ^ 50) false []

theorem sent_bump {u : State} {p : Nat} {m : LinkMsg} (h : Sent u p m) (i a d : Nat) : Sent (u.bump i a d) p m := h

theorem tPingDue_sends {s : State} {i : Fin 16} (hdue : PingDue s i.val) (ho : (s.src i.val).open_ = none)
    (hlo : 1 ≤ (s.port (srcPort (s.srcEntry i.val))).gen) (hhi : (s.port (srcPort (s.srcEntry i.val))).gen ≤ 3) :
    ∃ t, exec (.tPingDue i) s = .next t ∧ t.z 0xF050 1 = min (s.z 0xF050 1 + 1) (2 ^ 32 - 1) ∧
      (t.src i.val).tag = ((s.src i.val).tag + 1) % 4096 ∧
      (∃ o, (t.src i.val).open_ = some o ∧ o.tag = (s.src i.val).tag ∧ o.t1 = s.time.pt ∧ o.sent = s.time.tick) ∧
      Sent t (srcPort (s.srcEntry i.val)) (s.pingMsg i.val) := by
  have heq := State.pingDue_none hdue ho
  have hsent : Sent ((s.setSrc i.val (s.pinging i.val)).sendTime i.val 1 (s.src i.val).tag []) (srcPort (s.srcEntry i.val)) (s.pingMsg i.val) := by
    refine sendMsg_sent (s := s.setSrc i.val (s.pinging i.val)) ?_
    show vcPresent (s.port (srcPort (s.srcEntry i.val))).gen (if (s.port (srcPort (s.srcEntry i.val))).gen = 3 then 5 else 7) = true
    generalize (s.port (srcPort (s.srcEntry i.val))).gen = g at hlo hhi
    obtain rfl | rfl | rfl : g = 1 ∨ g = 2 ∨ g = 3 := by omega
    all_goals decide
  have hsrc : (s.ended (s.pingDue i.val)).src i.val = s.pinging i.val := by
    rw [State.ended_src, heq, State.src_of_time (State.bump_time ..), State.src_of_time (State.sendTime_time ..), State.src_setSrc_self]
  refine ⟨s.ended (s.pingDue i.val), rfl, ?_, ?_, ?_, ?_⟩
  · rw [State.ended_z, heq, State.z_bump, if_pos rfl, State.z_sendTime, State.z_setSrc]
  · rw [hsrc]
    rfl
  · rw [hsrc]
    exact ⟨_, rfl, rfl, rfl, rfl⟩
  · rw [heq]
    exact sent_ended (sent_bump hsent _ _ _) s

theorem tPingDue_open {s : State} {i : Fin 16} {o : Exchange} (hdue : PingDue s i.val) (ho : (s.src i.val).open_ = some o)
    (h : s.time.tick ≤ o.sent + 4096) : Completes (.tPingDue i) s [.time] [] fun t => (t.src i.val).open_ = (s.src i.val).open_ := by
  refine completes_of_frame (u := s.setSrc i.val _) (congrArg s.ends (State.pingDue_open hdue ho h)) ((Frame.refl s).setSrc _ _) ?_
  rw [State.ended_src, State.src_setSrc_self]

/-! ### An exchange that is lost -/

theorem exchangeTimeout_completes {s : State} {i : Fin 16} {o : Exchange} (ho : (s.src i.val).open_ = some o) :
    Completes (.exchangeTimeout i) s [.now, .time] (clockObjects ++ [(0xF050, 3)]) fun t =>
      t.src i.val = { s.src i.val with open_ := none, lateTags := o.tag :: (s.src i.val).lateTags, late := true } ∧
        t.z 0xF050 3 = min (s.z 0xF050 3 + 1) (2 ^ 32 - 1) := by
  have hsrc : (s.elapseToTick (o.sent + 4096)).src i.val = s.src i.val :=
    s.elapseToTick_timeless (g := fun t => mgetD t.source i.val {}) (fun _ _ _ _ => rfl) _
  have heq : s.exchangeExpiry i.val = ((s.elapseToTick (o.sent + 4096)).setSrc i.val
      { s.src i.val with open_ := none, lateTags := o.tag :: (s.src i.val).lateTags, late := true }).bump 0xF050 3 1 := by
    unfold State.exchangeExpiry State.lateTagsOf
    rw [ho]
    dsimp only
    rw [hsrc]
  refine completes_of_frame (congrArg s.ends heq) ((((Frame.refl s).elapseToTick _).setSrc _ _).bump 0xF050 3 1) ⟨?_, ?_⟩
  · rw [State.ended_src, State.src_of_time (State.bump_time ..), State.src_setSrc_self]
  · rw [State.ended_z, State.z_bump, if_pos rfl, State.z_setSrc, State.z_of_reads (s.elapseToTick_reads (by decide) _)]

/-! ### What follows a completed exchange -/

/-- What a source holds of its exchanges. -/
def SourceSt.measured (x : SourceSt) : Option Exchange × Bool × Bool × Bool × Int × Nat := (x.open_, x.meas, x.late, x.fresh, x.theta, x.delay)

/-- The updates that may follow a source's exchange: the pair, the home, what the source holds of its exchanges and the counters of the
exchanges stay. -/
structure PongKeeps (i : Nat) (s t : State) : Prop where
  pair : t.pair = s.pair
  coh : t.coh = s.coh
  measured : (t.src i).measured = (s.src i).measured
  count : ∀ a, a < 256 → t.z 0xF050 a = s.z 0xF050 a

theorem PongKeeps.refl (i : Nat) (s : State) : PongKeeps i s s := ⟨rfl, rfl, rfl, fun _ _ => rfl⟩

theorem PongKeeps.trans {i : Nat} {s t u : State} (h : PongKeeps i s t) (h' : PongKeeps i t u) : PongKeeps i s u :=
  ⟨h'.pair.trans h.pair, h'.coh.trans h.coh, h'.measured.trans h.measured, fun a ha => (h'.count a ha).trans (h.count a ha)⟩

theorem PongKeeps.setTap {i : Nat} {s t : State} (h : PongKeeps i s t) (j : Nat) (x : TapSt) : PongKeeps i s (t.setTap j x) :=
  ⟨h.pair, h.coh, h.measured, h.count⟩

theorem PongKeeps.setSrc {i : Nat} {s t : State} (h : PongKeeps i s t) {x : SourceSt} (hx : x.measured = (t.src i).measured) :
    PongKeeps i s (t.setSrc i x) :=
  ⟨h.pair, h.coh, by rw [State.src_setSrc_self, hx, h.measured], h.count⟩

theorem PongKeeps.sendTime {i : Nat} {s t : State} (h : PongKeeps i s t) (j opc tag : Nat) (data : Octets) :
    PongKeeps i s (t.sendTime j opc tag data) :=
  ⟨(State.sendTime_pair ..).trans h.pair, (State.sendTime_coh ..).trans h.coh, by rw [State.src_of_time (State.sendTime_time ..), h.measured],
    fun a ha => (State.z_sendTime ..).trans (h.count a ha)⟩

theorem PongKeeps.sendAdjMsg {i : Nat} {s t : State} (h : PongKeeps i s t) (delta trim : Int) : PongKeeps i s (t.sendAdjMsg i delta trim) := by
  have hset : PongKeeps i s (t.setSrc i { t.src i with trim := trim }) := PongKeeps.setSrc h rfl
  unfold State.sendAdjMsg
  generalize t.setSrc i { t.src i with trim := trim } = u at hset ⊢
  exact hset.sendTime _ _ _ _

/-- Without a mirroring Second a set of a source's counter leaves its exchanges alone, where none is open. -/
theorem State.issueSet_keeps {s : State} {i : Nat} (hm : s.mirrors = false) (ho : (s.src i).open_ = none) : PongKeeps i s (s.issueSet i) := by
  unfold State.issueSet
  dsimp only
  rw [show (s.setSrc i (s.src i).startSet).mirrors = s.mirrors from rfl, hm, if_neg Bool.false_ne_true]
  refine PongKeeps.sendTime (PongKeeps.setSrc (.refl i s) ?_) _ _ _ _
  simp [SourceSt.startSet, SourceSt.measured, ho]

theorem State.issueStep_keeps {s : State} {i : Nat} (delta : Int) (hm : s.mirrors = false) (ho : (s.src i).open_ = none) :
    PongKeeps i s (s.issueStep i delta) := by
  unfold State.issueStep
  extract_lets x s1
  have h1 : PongKeeps i s s1 := PongKeeps.setSrc (.refl i s) (by simp [SourceSt.measured, x, ho])
  rw [show s1.mirrors = s.mirrors from rfl, hm, if_neg Bool.false_ne_true]
  exact PongKeeps.sendAdjMsg h1 _ _

theorem State.confirmed_keeps {s : State} {i : Nat} (hm : s.mirrors = false) (ho : (s.src i).open_ = none) : PongKeeps i s (s.confirmed i) := by
  unfold State.confirmed
  rw [hm]
  dsimp only [Bool.false_eq_true, if_false]
  split
  · exact .refl i s
  · have h1 : PongKeeps i s (s.setSrc i { s.src i with held := none }) := PongKeeps.setSrc (.refl i s) rfl
    have ho1 : ((s.setSrc i { s.src i with held := none }).src i).open_ = none := by rw [State.src_setSrc_self, ho]
    split
    · exact h1.trans (State.issueStep_keeps _ hm ho1)
    · exact h1.trans (State.issueSet_keeps hm ho1)

theorem PongKeeps.tapFollow {i : Nat} {s t : State} (h : PongKeeps i s t) (j : Nat) : PongKeeps i s (t.tapFollow j) := by
  have hleave : ∀ u, PongKeeps i s u → PongKeeps i s (u.tapLeave j) := fun u hu => by
    unfold State.tapLeave
    dsimp only
    split
    · have hset := hu.setTap j (u.tap j).leave
      exact ⟨hset.pair, hset.coh, hset.measured, fun a ha => ((State.z_bump ..).trans (if_neg (by unfold key; omega))).trans (hset.count a ha)⟩
    · exact hu
  have hready : ∀ u, PongKeeps i s u → PongKeeps i s (u.tapReady j) := fun u hu => by
    unfold State.tapReady
    extract_lets x b k
    split
    · exact hu.setTap j _
    · exact hu
  unfold State.tapFollow
  extract_lets x b u
  split
  · exact h
  · split
    · refine hready _ ?_
      unfold u
      split
      · exact h.setTap j _
      · exact h
    · split
      · exact hleave _ h
      · exact h

theorem PongKeeps.tapsFollow {i : Nat} {s t : State} (h : PongKeeps i s t) : PongKeeps i s t.tapsFollow := by
  unfold State.tapsFollow
  induction t.time.tap.map Prod.fst generalizing t with
  | nil => exact h
  | cons j l ih => exact ih (h.tapFollow j)

/-! ### T_PONG -/

/-- An exchange counts where nothing has spoiled it and its EPOCH is the expected one (R466). -/
def exchangeGood (o : Exchange) (m : PongMsg) : Bool := !o.spoiled && (match o.expect with | none => true | some q => q == m.epoch.toNat)

/-- theta and delay of an exchange that a T_PONG completes. -/
def State.pongTimes (s : State) (i : Nat) (o : Exchange) (m : PongMsg) : Int × Int :=
  thetaDelay o.t1 ((s.time.pt : Int) - m.late * 65536) (stamp64 m.t2.toNat) (stamp64 m.t3.toNat) (s.i 0x3202 (i + 1))

theorem State.src_confirmed_mirrors {s : State} (i : Nat) (hm : s.mirrors = false) : s.campSrcStat i = s := by
  unfold State.campSrcStat
  rw [hm]
  rfl

/-- A T_PONG confirms the outstanding step of a source, or its set (R468). -/
def SourceSt.stepDone (x : SourceSt) (m : PongMsg) : Bool := x.step.isSome && m.epoch.toNat == x.epoch

def SourceSt.setDone (x : SourceSt) (o : Exchange) : Bool := x.setting && o.expect.isNone && !o.spoiled

/-- A source whose exchange is closed, with its step and its set confirmed where they are. -/
def SourceSt.closed (x : SourceSt) (o : Exchange) (m : PongMsg) : SourceSt :=
  let y : SourceSt := { x with open_ := none, late := false }
  let y := if x.stepDone m then { y with step := none } else y
  if x.setDone o then { y with setting := false, set := true, epoch := m.epoch.toNat, rearm := true } else y

/-- A source after a T_PONG. -/
def State.ponged (s : State) (i : Nat) (o : Exchange) (m : PongMsg) : SourceSt :=
  if exchangeGood o m then
    { (s.src i).closed o m with
      theta := (s.pongTimes i o m).1, delay := (s.pongTimes i o m).2.toNat, meas := true, fresh := true }
  else (s.src i).closed o m

/-- The state after a T_PONG, before what a confirmed step or set brings. -/
def State.pongTaken (s : State) (i : Nat) (o : Exchange) (m : PongMsg) : State :=
  (s.setSrc i (s.ponged i o m)).bump 0xF050 (if exchangeGood o m then 2 else 5) 1

theorem SourceSt.closed_open (x : SourceSt) (o : Exchange) (m : PongMsg) : (x.closed o m).open_ = none ∧ (x.closed o m).late = false := by
  unfold SourceSt.closed
  dsimp only
  cases x.setDone o <;> cases x.stepDone m <;> exact ⟨rfl, rfl⟩

theorem State.ponged_open (s : State) (i : Nat) (o : Exchange) (m : PongMsg) : (s.ponged i o m).open_ = none := by
  unfold State.ponged
  split <;> exact (SourceSt.closed_open ..).1

theorem SourceSt.measured_eq {x : SourceSt} {e : Option Exchange} {b c d : Bool} {th : Int} {dl : Nat} (h : x.measured = (e, b, c, d, th, dl)) :
    x.open_ = e ∧ x.meas = b ∧ x.late = c ∧ x.fresh = d ∧ x.theta = th ∧ x.delay = dl := by
  simpa [SourceSt.measured] using h

theorem State.ponged_measured {s : State} {i : Nat} {o : Exchange} {m : PongMsg} (h : exchangeGood o m = true) :
    (s.ponged i o m).measured = (none, true, false, true, (s.pongTimes i o m).1, (s.pongTimes i o m).2.toNat) := by
  obtain ⟨hopen, hlate⟩ := (s.src i).closed_open o m
  unfold State.ponged SourceSt.measured
  rw [if_pos h]
  dsimp only
  rw [hopen, hlate]

theorem State.src_pongTaken (s : State) (i : Nat) (o : Exchange) (m : PongMsg) : (s.pongTaken i o m).src i = s.ponged i o m :=
  (State.src_of_time (State.bump_time ..) i).trans (State.src_setSrc_self ..)

/-- A T_PONG of an open exchange. -/
theorem State.pong_eq {s : State} {p i : Nat} {m : PongMsg} {o : Exchange} (hm : s.mirrors = false) (hi : s.srcOf p m.ctr.toNat = some i)
    (ho : (s.src i).open_ = some o) (htag : o.tag = m.tag.toNat) (hopen : s.time.tick ≤ o.sent + 4096) :
    s.pong p m = if (s.src i).stepDone m ∨ (s.src i).setDone o then (s.pongTaken i o m).confirmed i else s.pongTaken i o m := by
  have hend : ∀ u : State, u.pair = s.pair → u.campSrcStat i = u := fun u hu => u.src_confirmed_mirrors i (by rw [← hm, State.mirrors, hu]; rfl)
  have hstep : s.pong p m =
      (if (s.src i).stepDone m ∨ (s.src i).setDone o then (s.pongTaken i o m).confirmed i else s.pongTaken i o m).campSrcStat i := by
    unfold State.pong
    rw [hi]
    dsimp -zeta only
    rw [State.exchangePast_open ho hopen]
    extract_lets +onlyGivenNames s1 bad x
    rw [show x.open_ = some o from ho]
    dsimp -zeta only
    rw [if_neg (fun h => h htag)]
    extract_lets t4 ep sd st good y y1 y2 y3 u u1
    have hgood : good = exchangeGood o m := rfl
    have hy3 : y3 = s.ponged i o m := rfl
    have hu : u1 = s.pongTaken i o m := by
      unfold u1 u State.pongTaken
      rw [hy3, hgood]
      split <;> rfl
    rw [hu]
    rfl
  rw [hstep]
  split
  · exact hend _ (State.confirmed_keeps (s := s.pongTaken i o m) hm (by rw [State.src_pongTaken, State.ponged_open])).pair
  · exact hend _ rfl

/-- A T_PONG in time closes its exchange, and measures the source where the exchange counts (R466). -/
theorem State.pong_keeps {s : State} {p i : Nat} {m : PongMsg} {o : Exchange} (hm : s.mirrors = false) (hi : s.srcOf p m.ctr.toNat = some i)
    (ho : (s.src i).open_ = some o) (htag : o.tag = m.tag.toNat) (hopen : s.time.tick ≤ o.sent + 4096) :
    PongKeeps i (s.pongTaken i o m) (s.pong p m) := by
  rw [State.pong_eq hm hi ho htag hopen]
  split
  · exact State.confirmed_keeps hm (by rw [State.src_pongTaken, State.ponged_open])
  · exact .refl i _

theorem tPong_completes {s : State} {p : Fin 6} {m : PongMsg} {i : Nat} {o : Exchange} (halone : Alone s) (hlink : (s.port p.val).linked = true)
    (hfault : s.msgFault p.val (pongMsg (s.port p.val).gen m) (msgLen (pongMsg (s.port p.val).gen m)) = false)
    (hi : s.srcOf p.val m.ctr.toNat = some i) (ho : (s.src i).open_ = some o) (htag : o.tag = m.tag.toNat)
    (hopen : s.time.tick ≤ o.sent + 4096) :
    ∃ t, exec (.tPong p m) s = .next t ∧ (t.src i).open_ = none ∧
      (o.spoiled = false → (o.expect = none ∨ o.expect = some m.epoch.toNat) →
        (t.src i).meas = true ∧ (t.src i).late = false ∧ (t.src i).fresh = true ∧
        ((t.src i).theta, (t.src i).delay) = ((s.pongTimes i o m).1, (s.pongTimes i o m).2.toNat) ∧
        t.z 0xF050 2 = min (s.z 0xF050 2 + 1) (2 ^ 32 - 1)) ∧
      (o.spoiled = true → t.z 0xF050 5 = min (s.z 0xF050 5 + 1) (2 ^ 32 - 1)) := by
  have hframe : Frame [.sig] [(0xF070, 10)] s (s.matchFabric p.val (pongMsg (s.port p.val).gen m)) := (Frame.refl s).matchFabric _ _
  have hexec : exec (.tPong p m) s = s.ends ((s.matchFabric p.val (pongMsg (s.port p.val).gen m)).pongVisible p.val m).settle :=
    congrArg s.ends (State.fromPort_taken _ hlink hfault)
  have hcount : ∀ a, a < 256 → (s.matchFabric p.val (pongMsg (s.port p.val).gen m)).z 0xF050 a = s.z 0xF050 a := fun a ha =>
    s.z_matchFabric _ _ (by unfold key; omega)
  have htimes : (s.matchFabric p.val (pongMsg (s.port p.val).gen m)).pongTimes i o m = s.pongTimes i o m := by
    have hasym : (s.matchFabric p.val (pongMsg (s.port p.val).gen m)).i 0x3202 (i + 1) = s.i 0x3202 (i + 1) := by
      have hlt : i < 16 := List.mem_range.1 (List.mem_of_find?_eq_some hi)
      exact congrArg (toInt 32) (s.n_matchFabric _ _ (by unfold key; omega))
    unfold State.pongTimes
    rw [hasym, State.matchFabric_time]
  rw [← State.src_matchFabric s p.val (pongMsg (s.port p.val).gen m)] at ho
  rw [← State.srcOf_matchFabric s p.val (pongMsg (s.port p.val).gen m)] at hi
  rw [← State.matchFabric_time s p.val (pongMsg (s.port p.val).gen m)] at hopen
  generalize s.matchFabric p.val (pongMsg (s.port p.val).gen m) = a at *
  have ha : Alone a := hframe.alone halone (by decide) (by decide)
  have hk : PongKeeps i (a.pongTaken i o m) (a.pongVisible p.val m) := (State.pong_keeps (State.mirrors_alone ha) hi ho htag hopen).tapsFollow
  have hsettle : (a.pongVisible p.val m).settle = a.pongVisible p.val m := by
    obtain ⟨hlead, hsecond, hdone, hwait, hinbox⟩ := ha
    have hpair : (a.pongVisible p.val m).pair = a.pair := hk.pair
    have hcoh : (a.pongVisible p.val m).coh = a.coh := hk.coh
    exact State.settle_alone _ (hpair ▸ hlead) (hpair ▸ hsecond) (hcoh ▸ hdone) (hcoh ▸ hwait) (hcoh ▸ hinbox)
  have hmeasured := hk.measured
  rw [State.src_pongTaken] at hmeasured
  have hz : ∀ b, b < 256 → (s.ended (a.pongVisible p.val m)).z 0xF050 b = (a.pongTaken i o m).z 0xF050 b := fun b hb =>
    (State.ended_z _ _ (by unfold key; omega)).trans (hk.count b hb)
  refine ⟨s.ended (a.pongVisible p.val m), hexec.trans (congrArg s.ends hsettle), ?_, fun hspoiled hexpect => ?_, fun hspoiled => ?_⟩
  · rw [State.ended_src]
    exact (congrArg Prod.fst hmeasured).trans (a.ponged_open i o m)
  · have hgood : exchangeGood o m = true := by
      obtain he | he := hexpect <;> simp [exchangeGood, hspoiled, he]
    rw [State.ponged_measured hgood, htimes] at hmeasured
    obtain ⟨-, hmeas, hlate, hfresh, htheta, hdelay⟩ := SourceSt.measured_eq hmeasured
    rw [State.ended_src]
    refine ⟨hmeas, hlate, hfresh, Prod.ext htheta hdelay, ?_⟩
    rw [hz 2 (by decide), State.pongTaken, hgood, State.z_bump, if_pos rfl, if_pos rfl, State.z_setSrc, hcount 2 (by decide)]
  · have hbad : exchangeGood o m = false := by simp [exchangeGood, hspoiled]
    rw [hz 5 (by decide), State.pongTaken, hbad, State.z_bump, if_neg Bool.false_ne_true, if_pos rfl, State.z_setSrc, hcount 5 (by decide)]

theorem timeExchanges : Claims.TimeExchanges := by
  intro s
  refine ⟨fun i hpresent hen hacts hrun hnext => ⟨fun ho hlo hhi => ?_, fun o ho h => ?_⟩, fun p m halone hlink hfault i hi o ho htag hopen => ?_,
    fun i o ho => exchangeTimeout_completes ho⟩
  · exact tPingDue_sends ⟨hpresent, hen, hacts, hrun, hnext⟩ ho hlo hhi
  · exact tPingDue_open ⟨hpresent, hen, hacts, hrun, hnext⟩ ho h
  · exact tPong_completes halone hlink hfault hi ho htag hopen

/-! ### TCTL -/

/-- A tap whose write has completed, before it is looked at for its join. -/
def State.tctlDone (s : State) (i : Nat) : TapSt :=
  { s.tap i with due := false, retryAt := none, tctl := tapEn (s.tapEntry i), st := if tapEn (s.tapEntry i) then 3 else 1 }

/-- The sideband write of a tap. -/
def State.tctlSent (s : State) (i : Nat) : State :=
  s.emit (.sideband (tapPort (s.tapEntry i)) 1 (0x0F14 + 8 * tapNo (s.tapEntry i))
    (b2n (tapEn (s.tapEntry i)) * 2 ^ 31 + b2n (tapChange (s.tapEntry i)) * 2 ^ 30 + tapThru (s.tapEntry i)))

theorem State.tctlWrite_ok {s : State} {i : Nat} (h : (s.tap i).due = true) :
    s.tctlWrite i true = ((s.tctlSent i).setTap i (s.tctlDone i)).tapReady i := by
  unfold State.tctlWrite
  dsimp only
  rw [h, if_neg (by decide), if_pos rfl]
  rfl

theorem State.tctlWrite_fail {s : State} {i : Nat} (h : (s.tap i).due = true) :
    s.tctlWrite i false = (s.tctlSent i).setTap i { s.tap i with due := true, retryAt := some (s.now + 1000000) } := by
  unfold State.tctlWrite
  dsimp only
  rw [h, if_neg (by decide), if_neg Bool.false_ne_true]
  rfl

/-- A tap that is found ready keeps its TCTL state. -/
theorem State.tapReady_tap (s : State) (i : Nat) : ((s.tapReady i).tap i).due = (s.tap i).due ∧
    ((s.tapReady i).tap i).tctl = (s.tap i).tctl ∧ ((s.tapReady i).tap i).st = (s.tap i).st := by
  unfold State.tapReady
  extract_lets x b k
  split
  · rw [State.tap_setTap_self]
    exact ⟨rfl, rfl, rfl⟩
  · exact ⟨rfl, rfl, rfl⟩

section
variable {parts : List Part} {objs : List (Nat × Nat)} {s u : State}

theorem Frame.tapReady (h : Frame parts objs s u) (i : Nat) (hm : .time ∈ parts := by decide) : Frame parts objs s (u.tapReady i) := by
  unfold State.tapReady
  extract_lets x b k
  exact (h.setTap i _ hm).ite h

theorem Frame.tctlWrite (h : Frame parts objs s u) (i : Nat) (ok : Bool) (hm : .time ∈ parts := by decide) (ho : .out ∈ parts := by decide) :
    Frame parts objs s (u.tctlWrite i ok) := by
  cases hdue : (u.tap i).due
  · unfold State.tctlWrite
    dsimp only
    rw [hdue]
    exact h
  · cases ok
    · rw [State.tctlWrite_fail hdue]
      exact (h.emit _ ho).setTap i _ hm
    · rw [State.tctlWrite_ok hdue]
      exact ((h.emit _ ho).setTap i _ hm).tapReady i hm

end

theorem State.tctlWrite_ok_tap {s : State} {i : Nat} (h : (s.tap i).due = true) : ((s.tctlWrite i true).tap i).due = false ∧
    ((s.tctlWrite i true).tap i).tctl = tapEn (s.tapEntry i) ∧ ((s.tctlWrite i true).tap i).st = (if tapEn (s.tapEntry i) then 3 else 1) := by
  obtain ⟨hdue, htctl, hst⟩ := ((s.tctlSent i).setTap i (s.tctlDone i)).tapReady_tap i
  rw [State.tctlWrite_ok h, hdue, htctl, hst, State.tap_setTap_self]
  exact ⟨rfl, rfl, rfl⟩

theorem State.tctlWrite_fail_tap {s : State} {i : Nat} (h : (s.tap i).due = true) :
    (s.tctlWrite i false).tap i = { s.tap i with due := true, retryAt := some (s.now + 1000000) } := by
  rw [State.tctlWrite_fail h, State.tap_setTap_self]

theorem State.tap_elapseTo (s : State) (n i : Nat) : (s.elapseTo n).tap i = s.tap i :=
  s.elapseTo_timeless (g := fun t => mgetD t.tap i {}) (fun _ _ _ _ => rfl) n

theorem State.tctlRetry_eq {s : State} {i r : Nat} (h : (s.tap i).retryAt = some r) (ok : Bool) :
    s.tctlRetry i ok = (s.elapseTo r).tctlWrite i ok := by
  unfold State.tctlRetry
  rw [h]

theorem State.tapEntry_elapseTo (s : State) (n : Nat) {i : Nat} (hi : i < 64) : (s.elapseTo n).tapEntry i = s.tapEntry i := by
  unfold State.elapseTo
  split
  · exact State.z_of_reads (s.elapse_reads (by unfold key; omega) _)
  · rfl

theorem tctlWrites : Claims.TctlWrites := by
  intro s i
  refine ⟨fun hdue => ⟨?_, ?_⟩, fun r hr hdue => ?_⟩
  · refine completesWithin_of_frame (objs := []) (u := s.tctlWrite i.val true) rfl ((Frame.refl s).tctlWrite _ _) ?_
    rw [State.ended_tap]
    exact State.tctlWrite_ok_tap hdue
  · refine completes_of_frame (u := s.tctlWrite i.val false) rfl ((Frame.refl s).tctlWrite _ _) ?_
    rw [State.ended_tap]
    exact State.tctlWrite_fail_tap hdue
  · have hdue' : ((s.elapseTo r).tap i.val).due = true := by rw [State.tap_elapseTo, hdue]
    have hframe : ∀ ok, Frame [.time, .out, .now] [(0xF050, 16)] s ((s.elapseTo r).tctlWrite i.val ok) := fun ok =>
      ((Frame.refl s).elapseTo r).tctlWrite _ _
    have hnow : ∀ ok, (s.ended ((s.elapseTo r).tctlWrite i.val ok)).now = max s.now r := fun ok => by
      rw [State.ended_now]
      refine Eq.trans ?_ (s.elapseTo_now r)
      exact ((Frame.refl (s.elapseTo r)).tctlWrite (parts := [.time, .out]) (objs := []) _ _).part .now (by decide)
    refine ⟨completesWithin_of_frame (congrArg s.ends (State.tctlRetry_eq hr true)) (hframe true) ⟨hnow true, ?_⟩,
      completesWithin_of_frame (congrArg s.ends (State.tctlRetry_eq hr false)) (hframe false) ⟨hnow false, ?_⟩⟩
    · obtain ⟨hd, ht, -⟩ := State.tctlWrite_ok_tap hdue'
      rw [State.ended_tap, hd, ht, s.tapEntry_elapseTo r i.isLt]
      exact ⟨rfl, rfl⟩
    · rw [State.ended_tap, State.tctlWrite_fail_tap hdue', hnow false, s.elapseTo_now]

/-- Settles O43: the exchanges with the sources, and the TCTL writes of the taps. -/
theorem timeExchangesAndTctl : Obligations.TimeExchangesAndTctl := ⟨timeExchanges, tctlWrites⟩

end Sys2Proof.Machine
end

section
/-! PROOF. The probe bank and the motion decoders (R562-R580). -/
set_option Elab.async false
namespace Sys2Proof.Machine

/-! ### Granules and decoders under the updates of the bank -/

@[simp] theorem State.decoder_setDecoder (s : State) (i j : Nat) (x : Decoder) :
    (s.setDecoder i x).decoder j = if j = i then x else s.decoder j := by
  unfold State.setDecoder State.decoder; simp

theorem State.decoder_setDecoder_self (s : State) (j : Nat) (x : Decoder) : (s.setDecoder j x).decoder j = x := by simp

theorem State.decoder_of_probe {s t : State} (h : t.probe = s.probe) (j : Nat) : t.decoder j = s.decoder j :=
  congrArg (fun p : Probe => mgetD p.decoder j {}) h

theorem State.granule_of_probe {s t : State} (h : t.probe = s.probe) (g : Nat) : t.granule g = s.granule g :=
  congrArg (fun p : Probe => mgetD p.granule g {}) h

theorem State.ended_decoder (s u : State) (j : Nat) : (s.ended u).decoder j = u.decoder j := State.decoder_of_probe (s.ended_probe u) j
theorem State.ended_granule (s u : State) (g : Nat) : (s.ended u).granule g = u.granule g := State.granule_of_probe (s.ended_probe u) g

theorem State.z_setDecoder (s : State) (j : Nat) (x : Decoder) (i b : Nat) : (s.setDecoder j x).z i b = s.z i b := rfl

@[simp] theorem State.ended_belay (s u : State) : (s.ended u).belay = u.belay := State.alertSync_belay u

section
variable {parts : List Part} {objs : List (Nat × Nat)} {s u : State}

theorem Frame.setDecoder (h : Frame parts objs s u) (j : Nat) (x : Decoder) (hm : .probe ∈ parts := by decide) :
    Frame parts objs s (u.setDecoder j x) := h.setProbe _ hm

theorem Frame.setGranule (h : Frame parts objs s u) (g : Nat) (x : GranuleSt) (hm : .probe ∈ parts := by decide) :
    Frame parts objs s (u.setGranule g x) := h.setProbe _ hm

end

/-! ### Eye windows, settling and pulses (R562-R569) -/

/-- The eye of a granule has closed in a window (R565). -/
def State.eyeCloses (s : State) (g early late : Nat) : Bool :=
  let lim := if cfgDiff (s.granuleCfg g) then 1024 else 2048
  decide (lim ≤ early) && decide (lim ≤ late)

/-- What an eye window measures of its granule (R564). -/
def State.eyeOffset (s : State) (g early late : Nat) : Int :=
  if early + late = 0 then 0 else rnd (((late : Int) - early) * s.n 0x3804 (g + 1)) ((early + late : Nat) : Int)

/-- A window's measurement is taken and counted. -/
def State.eyeTaken (s : State) (g early late : Nat) : State :=
  let x := s.setGranule g
    { s.granule g with closed := s.eyeCloses g early late, meas := true, early := min early 65535, late := min late 65535 }
  State.bump { x with belay := { x.belay with eyes := mset x.belay.eyes g (s.eyeOffset g early late) } } 0xF068 1 1

theorem State.eyeWindow_eq {s : State} {g : Nat} (early late : Nat) (hon : s.granuleOn g = true) (hmode : s.z 0x3800 1 = 2)
    (hlock : (s.pll .ppll).locked = true) : s.eyeWindow g 4096 early late =
      if s.eyeCloses g early late then ((s.eyeTaken g early late).setCause 13 9).bump 0xF068 2 1 else s.eyeTaken g early late := by
  unfold State.eyeWindow
  rw [if_neg (by simp [hon, hmode, hlock])]
  rfl

theorem State.eyeTaken_frame (s : State) (g early late : Nat) : Frame [.probe, .belay] [(0xF068, 1)] s (s.eyeTaken g early late) :=
  (((Frame.refl s).setGranule g _).setBelay _).bump 0xF068 1 1

theorem eyeWindowEnd_completes {s : State} {g : Fin 8} (early late : Nat) (hon : s.granuleOn g.val = true) (hmode : s.z 0x3800 1 = 2)
    (hlock : (s.pll .ppll).locked = true) (hfast : s.mgtFast = true) :
    Completes (.eyeWindowEnd g 4096 early late) s [.probe, .belay, .latch] (causeObjects 13 ++ [(0xF068, 1), (0xF068, 2)]) fun t =>
      t.granule g.val = { s.granule g.val with closed := s.eyeCloses g.val early late, meas := true, early := min early 65535, late := min late 65535 } ∧
        mget t.belay.eyes g.val = some (s.eyeOffset g.val early late) ∧ t.z 0xF068 1 = min (s.z 0xF068 1 + 1) (2 ^ 32 - 1) ∧
        (s.eyeCloses g.val early late = true → t.z 0x210E 0 = s.z 0x210E 0 ||| 512 ∧ t.z 0xF068 2 = min (s.z 0xF068 2 + 1) (2 ^ 32 - 1)) := by
  have hexec : exec (.eyeWindowEnd g 4096 early late) s = s.ends (s.eyeWindow g.val 4096 early late) := rfl
  have hf := s.eyeTaken_frame g.val early late
  have hgranule : (s.eyeTaken g.val early late).granule g.val =
      { s.granule g.val with closed := s.eyeCloses g.val early late, meas := true, early := min early 65535, late := min late 65535 } :=
    (State.granule_of_probe (State.bump_probe ..) _).trans ((State.granule_setGranule ..).trans (if_pos rfl))
  have heyes : mget (s.eyeTaken g.val early late).belay.eyes g.val = some (s.eyeOffset g.val early late) :=
    (mget_mset ..).trans (if_pos rfl)
  have hcount : (s.eyeTaken g.val early late).z 0xF068 1 = min (s.z 0xF068 1 + 1) (2 ^ 32 - 1) := (State.z_bump ..).trans (if_pos rfl)
  have hw : Frame [.probe, .belay, .latch] (causeObjects 13 ++ [(0xF068, 1), (0xF068, 2)]) s (s.eyeTaken g.val early late) :=
    hf.mono (by decide) (by decide)
  rw [State.eyeWindow_eq early late hon hmode hlock] at hexec
  generalize s.eyeTaken g.val early late = u at hexec hf hgranule heyes hcount hw
  cases hclosed : s.eyeCloses g.val early late
  · rw [hclosed, if_neg Bool.false_ne_true] at hexec
    rw [hclosed] at hgranule
    refine completes_of_frame hexec hw ⟨?_, ?_, ?_, nofun⟩
    · rw [State.ended_granule, hgranule]
    · rw [State.ended_belay, heyes]
    · rw [State.ended_z, hcount]
  · rw [hclosed, if_pos rfl] at hexec
    rw [hclosed] at hgranule
    refine completes_of_frame hexec ((hw.setCause 13 9).bump 0xF068 2 1) ⟨?_, ?_, ?_, fun _ => ⟨?_, ?_⟩⟩
    · rw [State.ended_granule, State.granule_of_probe ((State.bump_probe ..).trans (State.setCause_probe ..)), hgranule]
    · rw [State.ended_belay, State.bump_belay, State.setCause_belay, heyes]
    · rw [State.ended_z, State.z_bump, if_neg (by decide), State.setCause_z_ne _ _ (by decide) (by decide) (by decide) (by decide) rfl, hcount]
    · have hfast' : u.mgtFast = true := hf.mgtFast_eq.trans hfast
      rw [State.ended_z, State.z_bump, if_neg (by decide), State.setCause_z (br := 13) 9 (by decide) hfast']
      exact congrArg (· ||| 512) (hf.z_eq (i := 0x210E) (a := 0))
    · rw [State.ended_z, State.z_bump, if_pos rfl, State.setCause_z_ne _ _ (by decide) (by decide) (by decide) (by decide) rfl, hf.z_eq]

theorem settlingEnd_completes {s : State} {g : Fin 8} (h : (s.granule g.val).settleTo ≠ 0) :
    Completes (.settlingEnd g) s [.now, .time, .probe] clockObjects fun t =>
      t.granule g.val = { s.granule g.val with settleTo := 0 } ∧
      (s.time.tickRun = true → s.time.bridging = false → t.time.tick = max s.time.tick (s.granule g.val).settleTo) := by
  have hmeaning : s.settlingEnd g.val = (s.elapseToTick (s.granule g.val).settleTo).setGranule g.val { s.granule g.val with settleTo := 0 } := by
    unfold State.settlingEnd
    exact if_neg h
  refine completes_of_frame (congrArg s.ends hmeaning) (((Frame.refl s).elapseToTick _).setGranule _ _) ⟨?_, fun hrun hb => ?_⟩
  · rw [State.ended_granule, State.granule_setGranule, if_pos rfl]
  · rw [State.ended_time, State.setGranule_time, State.tick_elapseToTick _ hrun hb]

theorem xtrigOutPulseEnd_completes {s : State} {pin : Fin 4} {k : Nat} (h : mget s.probe.pulse pin.val = some k) :
    Completes (.xtrigOutPulseEnd pin) s [.now, .time, .probe] clockObjects fun t =>
      t.probe.xout = clrBit s.probe.xout pin.val ∧ mget t.probe.pulse pin.val = none := by
  have hmeaning : s.pulseEnd pin.val = { s.elapseToTick k with
      probe := { (s.elapseToTick k).probe with
        xout := clrBit (s.elapseToTick k).probe.xout pin.val, pulse := mdel (s.elapseToTick k).probe.pulse pin.val } } := by
    unfold State.pulseEnd
    rw [h]
  refine completes_of_frame (congrArg s.ends hmeaning) (((Frame.refl s).elapseToTick _).setProbe _) ⟨?_, ?_⟩
  · rw [State.ended_probe]
    exact congrArg (fun p : Probe => clrBit p.xout pin.val) (s.elapseToTick_probe k)
  · rw [State.ended_probe]
    exact mget_mdel_self ..

theorem eyeWindowsSettlingAndPulses : Claims.EyeWindowsSettlingAndPulses := fun _ =>
  ⟨fun _ early late hon hmode hlock hfast => eyeWindowEnd_completes early late hon hmode hlock hfast, fun _ h => settlingEnd_completes h,
    fun _ _ h => xtrigOutPulseEnd_completes h⟩

/-! ### A change of a decoder's inputs (R570-R578) -/

/-- A decoder counts a change of its inputs in a tick: it runs, its bank is on, its start lies behind and nothing poisons the tick; its
standstill time has not run out. -/
structure Counting (s : State) (j tick : Nat) : Prop where
  running : (s.decoder j).running = true
  bank : s.z 0x3800 1 ≠ 0
  started : (s.decoder j).startAt < tick
  good : s.decBad j tick = false
  moving : (s.decoder j).edgeAt.isSome = true → tick ≤ s.stillTick j

/-- Z rises in a decoder that listens to it. -/
def State.zRises (s : State) (j : Nat) (z : Bool) : Bool := !(s.decoder j).z && z && decZen (s.decCtl j)

/-- A decoder with the levels of a tick. -/
def Decoder.levels (x : Decoder) (a b z : Bool) : Decoder := { x with a := a, b := b, z := z }

/-- The change of position as the decoder's direction gives it. -/
def decStep (w : Nat) (d : Int) : Int := if decInvDir w then -d else d

/-- What a change of the inputs counts (R572-R574). -/
def State.inputCounted (s : State) (j : Nat) (a b z : Bool) (t : Nat) : Nat × State :=
  let x := (s.decoder j).levels a b z
  match countStep (decMode (s.decCtl j)) (s.decoder j).a (s.decoder j).b a b with
  | none => (128, (s.setDecoder j { x with phaseErr := true }).bump 0xF068 (5 + j) 1)
  | some d =>
    let d := decStep (s.decCtl j) d
    if d = 0 then (0, s.setDecoder j x)
    else
      let pos := wrap32 (x.pos + d)
      let (m, y) := { x with pos := pos }.edge t (decide (d < 0))
      let s := s.setDecoder j y
      if pos = x.pos + d then (m, s) else (m + 32, s.bump 0xF068 10 1)

/-- What follows the count: the index, and the report of the tick (R576, R577). -/
def State.inputReported (s : State) (j : Nat) (z : Bool) (t : Nat) (qual rise a b : Bool) (mev : Nat) : State :=
  let x := s.decoder j
  let wait := x.zWait || rise
  let fires := if qual then wait && z && a && b else rise
  let u := s.setDecoder j { x with zWait := wait && !fires }
  let (m, u) := if fires then u.indexEvent j else (0, u)
  u.setDecoder j ((u.decoder j).record t (mev + m))

theorem State.decoderInput_eq {s : State} {j t : Nat} (h : Counting s j t) (a b z : Bool) :
    s.decoderInput j a b z t = (s.inputCounted j a b z t).2.inputReported j z t (decZqual (s.decCtl j)) (s.zRises j z) a b
      (s.inputCounted j a b z t).1 := by
  have hguard : (!(s.decoder j).running || decide (t < (s.decoder j).startAt) || s.decBad j t || decide (s.z 0x3800 1 = 0)) = false := by
    simp [h.running, h.good, h.bank, Nat.le_of_lt h.started]
  have hstill : ¬ ((s.decoder j).edgeAt.isSome = true ∧ s.stillTick j < t) := fun ⟨hsome, hlt⟩ => absurd (h.moving hsome) (Nat.not_le.2 hlt)
  unfold State.decoderInput
  refine (if_neg (by rw [hguard]; exact Bool.false_ne_true)).trans ((if_neg (Nat.ne_of_gt h.started)).trans ?_)
  extract_lets +onlyGivenNames u
  have hu : u = s := if_neg hstill
  clear_value u
  subst hu
  unfold State.inputReported
  rfl

/-- A report changes nothing but what the decoder has reported. -/
theorem Decoder.record_eq (x : Decoder) (t mev : Nat) : ∃ h, x.record t mev = { x with hist := h } := by
  unfold Decoder.record
  dsimp only
  split
  · split <;> exact ⟨_, rfl⟩
  · exact ⟨_, rfl⟩

/-- Where Z is neither awaited nor rising, the report follows at once. -/
theorem State.inputReported_quiet {s : State} {j : Nat} {rise : Bool} (hz : ((s.decoder j).zWait || rise) = false) (z : Bool) (t : Nat)
    (qual a b : Bool) (mev : Nat) : ∃ h, s.inputReported j z t qual rise a b mev =
      (s.setDecoder j { s.decoder j with zWait := false }).setDecoder j { s.decoder j with zWait := false, hist := h } := by
  have hrise : rise = false := (Bool.or_eq_false_iff.1 hz).2
  have hfires : (if qual then ((s.decoder j).zWait || rise) && z && a && b else rise) = false := by rw [hz, hrise]; simp
  obtain ⟨h, hh⟩ := Decoder.record_eq { s.decoder j with zWait := false } t (mev + 0)
  refine ⟨h, ?_⟩
  unfold State.inputReported
  dsimp only
  rw [hfires, hz, if_neg Bool.false_ne_true]
  dsimp only
  rw [Bool.false_and, State.decoder_setDecoder_self, hh]

/-- A decoder that counts a change of position. -/
def Decoder.counts (x : Decoder) (e : Int) (t : Nat) : Decoder :=
  if e = 0 then x else ({ x with pos := wrap32 (x.pos + e) }.edge t (decide (e < 0))).2

theorem State.inputCounted_some {s : State} {j t : Nat} {a b z : Bool} {d : Int}
    (hd : countStep (decMode (s.decCtl j)) (s.decoder j).a (s.decoder j).b a b = some d) :
    let y := ((s.decoder j).levels a b z).counts (decStep (s.decCtl j) d) t
    (s.inputCounted j a b z t).2 = s.setDecoder j y ∨ (s.inputCounted j a b z t).2 = (s.setDecoder j y).bump 0xF068 10 1 := by
  unfold State.inputCounted
  rw [hd]
  dsimp only
  unfold Decoder.counts
  by_cases he : decStep (s.decCtl j) d = 0
  · rw [if_pos he, if_pos he]
    exact .inl rfl
  · rw [if_neg he, if_neg he]
    split
    · exact .inl rfl
    · exact .inr rfl

theorem State.inputCounted_none {s : State} {j t : Nat} {a b z : Bool}
    (hd : countStep (decMode (s.decCtl j)) (s.decoder j).a (s.decoder j).b a b = none) :
    s.inputCounted j a b z t = (128, (s.setDecoder j { (s.decoder j).levels a b z with phaseErr := true }).bump 0xF068 (5 + j) 1) := by
  unfold State.inputCounted
  rw [hd]

/-- What counting leaves of a decoder, and what an edge brings (R578). -/
theorem Decoder.counts_spec (x : Decoder) (e : Int) (t : Nat) : let y := x.counts e t
    y.pos = (if e = 0 then x.pos else wrap32 (x.pos + e)) ∧ y.a = x.a ∧ y.b = x.b ∧ y.z = x.z ∧ y.phaseErr = x.phaseErr ∧ y.zWait = x.zWait ∧
      (e ≠ 0 → y.edgeAt = some t ∧ y.neg = decide (e < 0) ∧
        ∀ k, x.edgeAt = some k → x.neg = y.neg → y.speed = speedOf (t - k) y.neg ∧ y.interval = t - k ∧ y.still = false) := by
  unfold Decoder.counts
  by_cases he : e = 0
  · simp [he]
  · simp only [if_neg he]
    unfold Decoder.edge
    dsimp only
    split
    · next hnone => exact ⟨rfl, rfl, rfl, rfl, rfl, rfl, fun _ => ⟨rfl, rfl, fun k hk => by rw [hnone] at hk; cases hk⟩⟩
    · next k hk =>
      split
      · refine ⟨rfl, rfl, rfl, rfl, rfl, rfl, fun _ => ⟨rfl, rfl, fun k' hk' _ => ?_⟩⟩
        rw [hk] at hk'
        cases hk'
        exact ⟨rfl, rfl, rfl⟩
      · next hneg => exact ⟨rfl, rfl, rfl, rfl, rfl, rfl, fun _ => ⟨rfl, rfl, fun _ _ h => absurd h hneg⟩⟩

theorem decStep_eq_zero {w : Nat} {d : Int} : decStep w d = 0 ↔ d = 0 := by
  unfold decStep
  split <;> simp

/-- A change that counts. -/
theorem decoderInputChange_counts {s : State} {j : Fin 4} {tick : Nat} (h : Counting s j.val tick) {a b z : Bool} {d : Int}
    (hz : ((s.decoder j.val).zWait || s.zRises j.val z) = false)
    (hd : countStep (decMode (s.decCtl j.val)) (s.decoder j.val).a (s.decoder j.val).b a b = some d) :
    Completes (.decoderInputChange j a b z tick) s [.probe] [(0xF068, 10)] fun t =>
      (t.decoder j.val).pos = (if d = 0 then (s.decoder j.val).pos else wrap32 ((s.decoder j.val).pos + decStep (s.decCtl j.val) d)) ∧
        (t.decoder j.val).a = a ∧ (t.decoder j.val).b = b ∧ (t.decoder j.val).z = z ∧
        (t.decoder j.val).phaseErr = (s.decoder j.val).phaseErr ∧
        (d ≠ 0 → (t.decoder j.val).edgeAt = some tick ∧ (t.decoder j.val).neg = decide (decStep (s.decCtl j.val) d < 0) ∧
          (∀ k, (s.decoder j.val).edgeAt = some k → (s.decoder j.val).neg = (t.decoder j.val).neg →
            (t.decoder j.val).speed = speedOf (tick - k) (t.decoder j.val).neg ∧ (t.decoder j.val).interval = tick - k ∧
              (t.decoder j.val).still = false)) := by
  have hexec : exec (.decoderInputChange j a b z tick) s = s.ends (s.decoderInput j.val a b z tick) := rfl
  have hframe : Frame [.probe] [(0xF068, 10)] s (s.inputCounted j.val a b z tick).2 := by
    obtain heq | heq := State.inputCounted_some (z := z) (t := tick) hd <;> rw [heq]
    · exact (Frame.refl s).setDecoder _ _
    · exact ((Frame.refl s).setDecoder _ _).bump 0xF068 10 1
  have hdec : (s.inputCounted j.val a b z tick).2.decoder j.val = ((s.decoder j.val).levels a b z).counts (decStep (s.decCtl j.val) d) tick := by
    obtain heq | heq := State.inputCounted_some (z := z) (t := tick) hd <;> rw [heq]
    · exact State.decoder_setDecoder_self ..
    · exact (State.decoder_of_probe (State.bump_probe ..) _).trans (State.decoder_setDecoder_self ..)
  obtain ⟨hpos, ha, hb, hzl, hph, hwait, hedge⟩ := ((s.decoder j.val).levels a b z).counts_spec (decStep (s.decCtl j.val) d) tick
  rw [State.decoderInput_eq h] at hexec
  generalize s.inputCounted j.val a b z tick = c at hexec hframe hdec
  rw [← hdec] at hpos ha hb hzl hph hwait hedge
  obtain ⟨hist, hrep⟩ := State.inputReported_quiet (s := c.2) (j := j.val) (rise := s.zRises j.val z) (by rw [hwait]; exact hz) z tick
    (decZqual (s.decCtl j.val)) a b c.1
  rw [hrep] at hexec
  refine completes_of_frame hexec ((hframe.setDecoder _ _).setDecoder _ _) ?_
  rw [State.ended_decoder, State.decoder_setDecoder_self]
  refine ⟨hpos.trans ?_, ha, hb, hzl, hph, fun hne => hedge fun he => hne (decStep_eq_zero.1 he)⟩
  exact if_congr decStep_eq_zero rfl rfl

/-- A change of both inputs at once, where it is a phase error. -/
theorem decoderInputChange_phaseError {s : State} {j : Fin 4} {tick : Nat} (h : Counting s j.val tick) {a b z : Bool}
    (hz : ((s.decoder j.val).zWait || s.zRises j.val z) = false)
    (hd : countStep (decMode (s.decCtl j.val)) (s.decoder j.val).a (s.decoder j.val).b a b = none) :
    Completes (.decoderInputChange j a b z tick) s [.probe] [(0xF068, 5 + j.val)] fun t =>
      (t.decoder j.val).phaseErr = true ∧ (t.decoder j.val).pos = (s.decoder j.val).pos ∧
        t.z 0xF068 (5 + j.val) = min (s.z 0xF068 (5 + j.val) + 1) (2 ^ 32 - 1) := by
  have hexec : exec (.decoderInputChange j a b z tick) s = s.ends (s.decoderInput j.val a b z tick) := rfl
  have hframe : Frame [.probe] [(0xF068, 5 + j.val)] s (s.inputCounted j.val a b z tick).2 := by
    rw [State.inputCounted_none hd]
    exact ((Frame.refl s).setDecoder _ _).bump 0xF068 (5 + j.val) 1 (List.mem_singleton.2 rfl) (by omega)
  have hdec : (s.inputCounted j.val a b z tick).2.decoder j.val = { (s.decoder j.val).levels a b z with phaseErr := true } := by
    rw [State.inputCounted_none hd]
    exact (State.decoder_of_probe (State.bump_probe ..) _).trans (State.decoder_setDecoder_self ..)
  have hcount : (s.inputCounted j.val a b z tick).2.z 0xF068 (5 + j.val) = min (s.z 0xF068 (5 + j.val) + 1) (2 ^ 32 - 1) := by
    rw [State.inputCounted_none hd]
    exact (State.z_bump ..).trans (if_pos rfl)
  rw [State.decoderInput_eq h] at hexec
  generalize s.inputCounted j.val a b z tick = c at hexec hframe hdec hcount
  obtain ⟨hist, hrep⟩ := State.inputReported_quiet (s := c.2) (j := j.val) (rise := s.zRises j.val z) (by rw [hdec]; exact hz) z tick
    (decZqual (s.decCtl j.val)) a b c.1
  rw [hrep] at hexec
  refine completes_of_frame hexec ((hframe.setDecoder _ _).setDecoder _ _) ?_
  rw [State.ended_decoder, State.decoder_setDecoder_self, State.ended_z _ _ (by unfold key; omega), State.z_setDecoder, State.z_setDecoder]
  have hphase : (c.2.decoder j.val).phaseErr = true := by rw [hdec]
  have hpos : (c.2.decoder j.val).pos = (s.decoder j.val).pos := by rw [hdec]; rfl
  exact ⟨hphase, hpos, hcount⟩

/-! ### The index (R576, R577) -/

/-- Inputs that stay count nothing. -/
theorem countStep_same (mode : Nat) (a b : Bool) : countStep mode a b a b = some 0 := by
  unfold countStep
  split <;> cases a <;> cases b <;> rfl

/-- The position that an index expects of a decoder, and how far the decoder is from it. -/
def State.indexWant (s : State) (j : Nat) : Int := expectedIndex (s.decoder j).pos (s.i 0x3902 (j + 1)) (s.n 0x3903 (j + 1))
def State.indexDev (s : State) (j : Nat) : Int := wrap32 ((s.decoder j).pos - s.indexWant j)

/-- An index has found a decoder. -/
def Decoder.found (x : Decoder) : Decoder := { x with indexed := true, lastIndex := x.pos }

/-- A decoder that an index has found too far off, by how much, and where it goes if the policy reloads it. -/
def Decoder.offBy (x : Decoder) (dev want : Int) (reload : Bool) : Decoder :=
  let x := { x.found with mismatched := true, deviation := dev, mismatches := min 65535 (x.mismatches + 1), skips := x.skips + 1 }
  if reload then { x with pos := want, reloaded := true } else { x with reloaded := false }

theorem Decoder.offBy_spec {x y : Decoder} {dev want : Int} {reload : Bool} (h : y = x.offBy dev want reload) :
    y.indexed = true ∧ y.lastIndex = x.pos ∧ y.mismatched = true ∧ y.deviation = dev ∧ (reload = false → y.pos = x.pos) ∧
      (reload = true → y.pos = want ∧ y.reloaded = true) := by
  subst h
  cases reload
  · exact ⟨rfl, rfl, rfl, rfl, fun _ => rfl, nofun⟩
  · exact ⟨rfl, rfl, rfl, rfl, nofun, fun _ => ⟨rfl, rfl⟩⟩

/-- The policy reloads the position (Table 14.4). -/
def State.indexReloads (s : State) (j : Nat) : Bool :=
  decide (decPolicy (s.decCtl j) = 1) || (decide (decPolicy (s.decCtl j) = 2) && decide (s.n 0x3905 (j + 1) < (s.decoder j).skips + 1))

theorem State.n_indexBump (s : State) {i j : Nat} (_ : i < 0x4000) (hj : j < 4) : (s.bump 0xF068 9 1).n i (j + 1) = s.n i (j + 1) :=
  congrArg valNum (s.val_bump _ _ _ _ _ (by unfold key; omega))

theorem State.indexEvent_inside {s : State} {j : Nat} (hj : j < 4) (h : (s.indexDev j).natAbs ≤ s.n 0x3904 (j + 1)) :
    s.indexEvent j = (8, (s.bump 0xF068 9 1).setDecoder j { (s.decoder j).found with mismatched := false, reloaded := false }) := by
  unfold State.indexEvent
  refine (if_neg ?_)
  rw [s.n_indexBump (by decide) hj]
  exact Nat.not_lt.2 h

theorem State.indexEvent_outside {s : State} {j : Nat} (hj : j < 4) (h : s.n 0x3904 (j + 1) < (s.indexDev j).natAbs) :
    s.indexEvent j = (24, ((s.bump 0xF068 9 1).setDecoder j
      ((s.decoder j).offBy (s.indexDev j) (s.indexWant j) (s.indexReloads j))).setCause 13 j) := by
  unfold State.indexEvent
  refine (if_pos ?_).trans ?_
  · rw [s.n_indexBump (by decide) hj]
    exact h
  · dsimp only
    rw [s.n_indexBump (by decide) hj]
    rfl

/-- A decoder whose Z has risen, before its index. -/
def State.zRisen (s : State) (j : Nat) : State :=
  (s.setDecoder j { s.decoder j with z := true }).setDecoder j { s.decoder j with z := true, zWait := false }

theorem State.decoder_zRisen (s : State) (j : Nat) : (s.zRisen j).decoder j = { s.decoder j with z := true, zWait := false } :=
  State.decoder_setDecoder_self ..

theorem State.zRisen_frame (s : State) (j : Nat) : Frame [.probe] [] s (s.zRisen j) := ((Frame.refl s).setDecoder _ _).setDecoder _ _

/-- A decoder that listens to Z alone takes the index where Z rises. -/
theorem State.decoderInput_index {s : State} {j t : Nat} (h : Counting s j t) (hzen : decZen (s.decCtl j) = true)
    (hqual : decZqual (s.decCtl j) = false) (hlow : (s.decoder j).z = false) :
    ∃ hist, s.decoderInput j (s.decoder j).a (s.decoder j).b true t =
      ((s.zRisen j).indexEvent j).2.setDecoder j { ((s.zRisen j).indexEvent j).2.decoder j with hist := hist } := by
  have hcount : s.inputCounted j (s.decoder j).a (s.decoder j).b true t = (0, s.setDecoder j { s.decoder j with z := true }) := by
    unfold State.inputCounted
    rw [countStep_same]
    dsimp only
    rw [if_pos (by unfold decStep; split <;> rfl)]
    rfl
  have hrise : s.zRises j true = true := by simp [State.zRises, hlow, hzen]
  obtain ⟨hist, hh⟩ := (((s.zRisen j).indexEvent j).2.decoder j).record_eq t (0 + ((s.zRisen j).indexEvent j).1)
  refine ⟨hist, ?_⟩
  rw [State.decoderInput_eq h, hcount, hrise, hqual, ← hh]
  unfold State.inputReported
  dsimp only
  rw [if_neg Bool.false_ne_true, if_pos rfl, Bool.not_true, Bool.and_false, State.decoder_setDecoder_self]
  rfl

/-- The objects and the decoder's level of Z aside, a decoder whose Z has risen is as it was. -/
theorem State.index_zRisen (s : State) (j : Nat) : (s.zRisen j).indexDev j = s.indexDev j ∧ (s.zRisen j).indexWant j = s.indexWant j ∧
    (s.zRisen j).indexReloads j = s.indexReloads j := by
  unfold State.indexDev State.indexReloads State.indexWant
  rw [State.decoder_zRisen]
  exact ⟨rfl, rfl, rfl⟩

theorem decoderInputChange_index {s : State} {j : Fin 4} {tick : Nat} (h : Counting s j.val tick) (hzen : decZen (s.decCtl j.val) = true)
    (hqual : decZqual (s.decCtl j.val) = false) (hlow : (s.decoder j.val).z = false) (hfast : s.mgtFast = true) :
    Completes (.decoderInputChange j (s.decoder j.val).a (s.decoder j.val).b true tick) s [.probe, .latch] (causeObjects 13 ++ [(0xF068, 9)]) fun t =>
      (t.decoder j.val).indexed = true ∧ (t.decoder j.val).lastIndex = (s.decoder j.val).pos ∧
      t.z 0xF068 9 = min (s.z 0xF068 9 + 1) (2 ^ 32 - 1) ∧
      ((s.indexDev j.val).natAbs ≤ s.n 0x3904 (j.val + 1) → (t.decoder j.val).mismatched = false ∧ (t.decoder j.val).reloaded = false ∧
        (t.decoder j.val).pos = (s.decoder j.val).pos) ∧
      (s.n 0x3904 (j.val + 1) < (s.indexDev j.val).natAbs → (t.decoder j.val).mismatched = true ∧
        (t.decoder j.val).deviation = s.indexDev j.val ∧ t.z 0x210E 0 = s.z 0x210E 0 ||| 2 ^ j.val ∧
        (decPolicy (s.decCtl j.val) = 0 → (t.decoder j.val).pos = (s.decoder j.val).pos) ∧
        (decPolicy (s.decCtl j.val) = 1 → (t.decoder j.val).pos = s.indexWant j.val ∧ (t.decoder j.val).reloaded = true)) := by
  obtain ⟨hist, hinput⟩ := State.decoderInput_index h hzen hqual hlow
  have hexec : exec (.decoderInputChange j (s.decoder j.val).a (s.decoder j.val).b true tick) s =
      s.ends (s.decoderInput j.val (s.decoder j.val).a (s.decoder j.val).b true tick) := rfl
  rw [hinput] at hexec
  obtain ⟨hdev, hwant, hreloads⟩ := s.index_zRisen j.val
  have hlimit : (s.zRisen j.val).n 0x3904 (j.val + 1) = s.n 0x3904 (j.val + 1) := rfl
  have hframe : Frame [.probe, .latch] (causeObjects 13 ++ [(0xF068, 9)]) s ((s.zRisen j.val).bump 0xF068 9 1) :=
    ((s.zRisen_frame j.val).mono (by decide) (by decide)).bump 0xF068 9 1
  have hcount : ((s.zRisen j.val).bump 0xF068 9 1).z 0xF068 9 = min (s.z 0xF068 9 + 1) (2 ^ 32 - 1) := (State.z_bump ..).trans (if_pos rfl)
  have hcause : ((s.zRisen j.val).bump 0xF068 9 1).z 0x210E 0 = s.z 0x210E 0 := (State.z_bump ..).trans (if_neg (by decide))
  have hup : ((s.zRisen j.val).bump 0xF068 9 1).mgtFast = true := hfast
  rcases Nat.lt_or_ge (s.n 0x3904 (j.val + 1)) (s.indexDev j.val).natAbs with hlt | hle
  · rw [State.indexEvent_outside j.isLt (by rw [hdev, hlimit]; exact hlt), hdev, hwant, hreloads, State.decoder_zRisen] at hexec
    generalize (s.zRisen j.val).bump 0xF068 9 1 = u at hexec hframe hcount hcause hup
    dsimp only at hexec
    rw [State.decoder_of_probe (State.setCause_probe ..), State.decoder_setDecoder_self] at hexec
    generalize hoff : ({ s.decoder j.val with z := true, zWait := false } : Decoder).offBy (s.indexDev j.val) (s.indexWant j.val)
      (s.indexReloads j.val) = y at hexec
    obtain ⟨hind, hlast, hmis, hdv, hkeep, hload⟩ := Decoder.offBy_spec hoff.symm
    have hbit : ((u.setDecoder j.val y).setCause 13 j.val).z 0x210E 0 = s.z 0x210E 0 ||| 2 ^ j.val :=
      (State.setCause_z (s := u.setDecoder j.val y) (br := 13) j.val (by decide) hup).trans (congrArg (· ||| 2 ^ j.val) hcause)
    refine completes_of_frame hexec (((hframe.setDecoder _ _).setCause 13 j.val).setDecoder _ _) ?_
    rw [State.ended_decoder, State.decoder_setDecoder_self, State.ended_z, State.ended_z, State.z_setDecoder, State.z_setDecoder,
      State.setCause_z_ne _ _ (by decide) (by decide) (by decide) (by decide) rfl, hbit, State.z_setDecoder, hcount]
    refine ⟨hind, hlast, rfl, fun hle => absurd hlt (Nat.not_lt.2 hle), fun _ => ⟨hmis, hdv, rfl, fun hpol => hkeep ?_, fun hpol => hload ?_⟩⟩
    · simp [State.indexReloads, hpol]
    · simp [State.indexReloads, hpol]
  · rw [State.indexEvent_inside j.isLt (by rw [hdev, hlimit]; exact hle), State.decoder_zRisen] at hexec
    generalize (s.zRisen j.val).bump 0xF068 9 1 = u at hexec hframe hcount hcause hup
    dsimp only at hexec
    rw [State.decoder_setDecoder_self] at hexec
    refine completes_of_frame hexec ((hframe.setDecoder _ _).setDecoder _ _) ?_
    rw [State.ended_decoder, State.decoder_setDecoder_self, State.ended_z, State.ended_z, State.z_setDecoder, State.z_setDecoder, hcount]
    exact ⟨rfl, rfl, rfl, fun _ => ⟨rfl, rfl, rfl⟩, fun hlt => absurd hlt (Nat.not_lt.2 hle)⟩

/-! ### Standstill and position loads (R575, R580) -/

theorem standstillExpiry_completes {s : State} {j : Fin 4} (hrun : (s.decoder j.val).running = true) (hbank : s.z 0x3800 1 ≠ 0)
    (hedge : (s.decoder j.val).edgeAt.isSome = true) (hmoving : (s.decoder j.val).still = false) :
    Completes (.standstillExpiry j) s [.now, .time, .probe] (clockObjects ++ [(0xF068, 12)]) fun t =>
      (t.decoder j.val).speed = 0 ∧ (t.decoder j.val).still = true ∧ (t.decoder j.val).pos = (s.decoder j.val).pos ∧
        t.z 0xF068 12 = min (s.z 0xF068 12 + 1) (2 ^ 32 - 1) := by
  have hdec : (s.elapseToTick (s.stillTick j.val)).decoder j.val = s.decoder j.val := State.decoder_of_probe (State.elapseToTick_probe ..) _
  have hframe : Frame [.now, .time, .probe] (clockObjects ++ [(0xF068, 12)]) s (s.elapseToTick (s.stillTick j.val)) :=
    (Frame.refl s).elapseToTick _
  have hz : (s.elapseToTick (s.stillTick j.val)).z 0xF068 12 = s.z 0xF068 12 := State.z_of_reads (s.elapseToTick_reads (by decide) _)
  have hexec : exec (.standstillExpiry j) s = s.ends ((s.elapseToTick (s.stillTick j.val)).enterStill j.val (s.stillTick j.val)) := by
    refine congrArg s.ends ?_
    unfold State.standstill
    exact if_pos ⟨hrun, hedge, hbank⟩
  generalize s.elapseToTick (s.stillTick j.val) = u at hdec hframe hz hexec
  obtain ⟨hist, hh⟩ := Decoder.record_eq { s.decoder j.val with speed := 0, still := true, edgeAt := none, stillFrom := s.stillTick j.val }
    (s.stillTick j.val) 64
  have hmeaning : u.enterStill j.val (s.stillTick j.val) = (u.setDecoder j.val
      { s.decoder j.val with speed := 0, still := true, edgeAt := none, stillFrom := s.stillTick j.val, hist := hist }).bump 0xF068 12 1 := by
    unfold State.enterStill
    dsimp only
    rw [hdec, hmoving, if_neg Bool.false_ne_true]
    exact congrArg (fun x => (u.setDecoder j.val x).bump 0xF068 12 1) hh
  rw [hmeaning] at hexec
  refine completes_of_frame hexec ((hframe.setDecoder _ _).bump 0xF068 12 1) ?_
  rw [State.ended_decoder, State.decoder_of_probe (State.bump_probe ..), State.decoder_setDecoder_self, State.ended_z, State.z_bump, if_pos rfl,
    State.z_setDecoder, hz]
  exact ⟨rfl, rfl, rfl, rfl⟩

theorem State.answered_probe (s : State) (w : Who) : (s.answered w).probe = s.probe :=
  ((Frame.refl (parts := [.out]) (objs := accessObjects) s).answered w (by decide) (by decide)).part .probe (by decide)

/-- A position load as the decoder reports it. -/
theorem State.positionLoad_eq (s : State) (j : Nat) : ∃ hist, s.positionLoad j =
    (s.setDecoder j { s.decoder j with pos := s.i 0x3907 (j + 1), hist := hist }).bump 0xF068 11 1 := by
  unfold State.positionLoad
  obtain ⟨hist, hh⟩ := Decoder.record_eq { s.decoder j with pos := s.i 0x3907 (j + 1) }
    (match (s.decoder j).hist with | h :: _ => max s.time.tick h.tick | [] => s.time.tick) 0
  exact ⟨hist, congrArg (fun x => (s.setDecoder j x).bump 0xF068 11 1) hh⟩

theorem positionLoad_completes {s : State} {j : Fin 4} (who : Who) (v : BitVec 32) (halone : Alone s)
    (h : Accepted s who 0x3908 (j.val + 1) v.toNat) :
    Completes (.positionLoad who j v) s [.probe, .acc, .out] (accessObjects ++ [(0xF068, 11)]) fun t =>
      (t.decoder j.val).pos = s.i 0x3907 (j.val + 1) ∧ t.z 0xF068 11 = min (s.z 0xF068 11 + 1) (2 ^ 32 - 1) := by
  have hrow : findRow 0x3908 (j.val + 1) = some ⟨0x3908, 0x3908, 1, 4, .u32, .l, 0, 1, 0, .oneOf [1280262468], 0xffffffff, 4⟩ := by
    clear h
    revert j
    decide
  have heff : ∀ (u : State) (a : Acc), a.idx = 0x3908 → a.sub = j.val + 1 →
      u.liveEffect a (storedVal ⟨0x3908, 0x3908, 1, 4, .u32, .l, 0, 1, 0, .oneOf [1280262468], 0xffffffff, 4⟩ 0x3908 (j.val + 1) v.toNat) =
      (u.rewritten (key 0x3908 (j.val + 1))).positionLoad j.val := by
    rintro u ⟨path, req, level, idx, sub⟩ rfl rfl
    rfl
  have hacc : Frame [.probe, .acc, .out] (accessObjects ++ [(0xF068, 11)]) s (s.accepted who) := Frame.accepted s who
  obtain ⟨hist, hload⟩ := (s.accepted who).positionLoad_eq j.val
  have hf : Frame [.probe, .acc, .out] (accessObjects ++ [(0xF068, 11)]) s ((s.accepted who).positionLoad j.val) := by
    rw [hload]
    exact (hacc.setDecoder _ _).bump 0xF068 11 1
  have hpreset : (s.accepted who).i 0x3907 (j.val + 1) = s.i 0x3907 (j.val + 1) :=
    congrArg (toInt 32) (congrArg valNum (hacc.val_of_index (by decide) (by omega)))
  refine completes_of_accepted (eff := fun u => u.positionLoad j.val) rfl hrow rfl (by omega) halone h heff
    (hf.up_eq.trans (State.up_of_accepted h)) hf ?_
  rw [hload, State.ended_decoder, State.decoder_of_probe (State.answered_probe ..), State.decoder_of_probe (State.bump_probe ..),
    State.decoder_setDecoder_self]
  exact ⟨hpreset, (State.ended_answered_bump ..).trans (congrArg (fun n => min (n + 1) _) (s.accepted_z who))⟩

theorem decodersCount : Claims.DecodersCount := by
  intro s j x w
  refine ⟨fun a b z tick hrun hbank hstart hgood hmoving hz => ⟨fun d hd => ?_, fun hd => ?_⟩,
    fun tick hrun hbank hstart hgood hmoving hzen hqual hlow hfast => ?_, fun hrun hbank hedge hmoving => ?_, fun who v halone h => ?_⟩
  · exact decoderInputChange_counts ⟨hrun, hbank, hstart, hgood, hmoving⟩ hz hd
  · exact decoderInputChange_phaseError ⟨hrun, hbank, hstart, hgood, hmoving⟩ hz hd
  · exact decoderInputChange_index ⟨hrun, hbank, hstart, hgood, hmoving⟩ hzen hqual hlow hfast
  · exact standstillExpiry_completes hrun hbank hedge hmoving
  · exact positionLoad_completes who v halone h

/-- Settles O48: the eye windows, the settling and the pulses of the probe bank, and its decoders. -/
theorem probeBankAndDecoders : Obligations.ProbeBankAndDecoders := ⟨eyeWindowsSettlingAndPulses, decodersCount⟩

end Sys2Proof.Machine
end

section
/-! PROOF. Role resolution at boot step 8 (Table 19.3, R743-R746). -/
set_option Elab.async false
namespace Sys2Proof.Machine

/-! ### What a pair's follow-up leaves -/

/-- A Lead stays Lead in its follow-up, and its boot stays where it is. -/
theorem State.pairFollow_stays_lead {s : State} (h : s.pair.role = 2) : s.pairFollow.pair.role = 2 ∧ s.pairFollow.boot = s.boot := by
  refine ⟨(congrArg Pair.role (State.pairFollow_told h).pair).trans h, ?_⟩
  rw [State.pairFollow_lead h, State.leadFollow_boot]

/-- A Second that catches up or has caught up. -/
def CatchingUp (s : State) : Prop := s.pair.role = 3 ∧ 1 ≤ s.pair.catchup

theorem CatchingUp.congr {s t : State} (h : CatchingUp s) (hp : t.pair = s.pair) : CatchingUp t := by
  unfold CatchingUp
  rw [hp]
  exact h

theorem CatchingUp.campSend {s : State} (h : CatchingUp s) (urgent : Bool) (code : Nat) (body : Octets) :
    CatchingUp (s.campSend urgent code body) := by
  unfold State.campSend
  extract_lets o t
  split <;> exact h

theorem CatchingUp.progress {s : State} (h : CatchingUp s) {code : Nat} (hc : 1 ≤ code) : CatchingUp (s.progress code) :=
  CatchingUp.campSend (s := { s with pair := { s.pair with catchup := code } }) ⟨h.1, hc⟩ _ _ _

theorem CatchingUp.setCause {s : State} (h : CatchingUp s) (br b : Nat) : CatchingUp (s.setCause br b) := h.congr (State.setCause_pair ..)

theorem CatchingUp.syncInelig {s : State} (h : CatchingUp s) : CatchingUp s.syncInelig := by
  unfold State.syncInelig
  split
  · exact h.setCause _ _
  · exact h

theorem CatchingUp.syncRope {s : State} (h : CatchingUp s) : CatchingUp s.syncRope := by
  unfold State.syncRope
  extract_lets old
  split <;> exact h

theorem CatchingUp.setEligible {s : State} (h : CatchingUp s) (e : Bool) : CatchingUp (s.setEligible e) := by
  unfold CatchingUp
  rw [State.setEligible_pair]
  exact h

theorem CatchingUp.syncElig {s : State} (h : CatchingUp s) : CatchingUp s.syncElig := by
  unfold State.syncElig
  split
  · exact h
  · extract_lets good p t e
    have ht : CatchingUp t := by
      unfold t
      split <;> exact h
    split
    · exact ht.syncInelig
    · exact ht.setEligible e

theorem CatchingUp.toDict {s : State} (h : CatchingUp s) : CatchingUp s.toDict :=
  CatchingUp.syncElig (CatchingUp.progress (s := { s with pair := { s.pair with mirrorFail := false, campReset := false, run := 0, rxSet := none, boundary := none } })
    h (by decide))

theorem CatchingUp.toStep {s : State} (h : CatchingUp s) (n : Nat) : CatchingUp (s.toStep n) := h

theorem CatchingUp.secondFollow {s : State} (h : CatchingUp s) : CatchingUp s.secondFollow := by
  unfold State.secondFollow
  extract_lets t u v
  have ht : CatchingUp t := by
    unfold t
    split
    · exact h.toDict
    · exact h
  have hu : CatchingUp u := by
    unfold u
    split
    · refine CatchingUp.progress ?_ (by decide)
      unfold State.stepUp
      split
      · exact ht.toStep 12
      · exact ht
    · exact ht
  have hv : CatchingUp v := by
    unfold v
    split
    · exact hu.progress (by decide)
    · exact hu
  exact hv.syncElig

theorem CatchingUp.sendPortStat {s : State} (h : CatchingUp s) (p : Nat) : CatchingUp (s.sendPortStat p) := by
  unfold State.sendPortStat
  extract_lets w
  split
  · exact h
  · exact CatchingUp.campSend (s := { s with pair := { s.pair with sentPorts := mset s.pair.sentPorts p w } }) h _ _ _

/-- A Second that catches up does so behind its follow-up too. -/
theorem CatchingUp.pairFollow {s : State} (h : CatchingUp s) : CatchingUp s.pairFollow := by
  have hports : ∀ (l : List Nat) (t : State), CatchingUp t → CatchingUp (l.foldl State.sendPortStat t) := fun l => by
    induction l with
    | nil => exact fun _ ht => ht
    | cons p l ih => exact fun t ht => ih _ (ht.sendPortStat p)
  unfold State.pairFollow
  rw [if_pos h.1]
  split
  · exact (hports _ s h).secondFollow
  · exact h.secondFollow

/-! ### The roles -/

theorem State.roleConflict_pair (s : State) : s.roleConflict.pair = s.pair := State.setCause_pair ..

theorem State.isolate_role (s : State) : s.isolate.pair.role = 4 := congrArg Pair.role (State.roleConflict_pair _)

/-- An isolated device has no follow-up. -/
theorem State.isolate_follow (s : State) : s.isolate.pairFollow = s.isolate :=
  State.pairFollow_single _ (by rw [s.isolate_role]; decide) (by rw [s.isolate_role]; decide)

theorem State.enterRefclk_step (s : State) : s.enterRefclk.boot.step = 9 := rfl

theorem State.enterRefclk_pair (s : State) : s.enterRefclk.pair = s.pair := State.elapse_pair ..

theorem State.enterRefclk_now (s : State) : s.now ≤ s.enterRefclk.now :=
  (Nat.le_add_right ..).trans (Nat.le_of_eq (State.elapse_now ..).symm)

/-- A device that becomes Lead begins step 9 (Table 19.3). -/
theorem State.becomeLead_spec (s : State) :
    s.becomeLead.pair.role = 2 ∧ s.becomeLead.boot.step = 9 ∧ s.now ≤ s.becomeLead.now := by
  unfold State.becomeLead
  extract_lets pair acc t
  refine ⟨?_, State.enterRefclk_step _, ?_⟩
  · rw [State.enterRefclk_pair, State.syncRope_pair, State.syncInelig_pair]
    have htold : t.Told t.sendHello := State.campSend_told ..
    exact (congrArg Pair.role htold.pair).trans rfl
  · refine Nat.le_trans (Nat.le_of_eq ?_) (State.enterRefclk_now _)
    rw [State.syncRope_now, State.syncInelig_now]
    exact (State.campSend_now t _ _ _).symm

theorem State.pll_of_clk {s t : State} (h : t.clk = s.clk) (p : Pll) : t.pll p = s.pll p := by
  unfold State.pll
  rw [h]

/-- A device that becomes Second catches up, with RPLL on the Rope clock (R746). -/
theorem State.becomeSecond_spec (s : State) (id : Nat) :
    CatchingUp (s.becomeSecond id) ∧ ((s.becomeSecond id).pll .rpll).refRope = true := by
  unfold State.becomeSecond
  extract_lets pair acc t x u v
  have ht : CatchingUp t := ⟨rfl, le_rfl⟩
  have hu : CatchingUp u ∧ (u.pll .rpll).refRope = true := by
    unfold u
    split
    · next h => exact ⟨ht, h.1⟩
    · exact ⟨ht, by rw [State.pll_setPll, if_pos rfl]⟩
  have hv : CatchingUp v ∧ (v.pll .rpll).refRope = true := by
    unfold v
    split
    · unfold State.startPairId
      split <;> exact hu
    · exact hu
  have hw : CatchingUp v.sendHello.syncInelig.syncRope ∧ (v.sendHello.syncInelig.syncRope.pll .rpll).refRope = true := by
    refine ⟨((hv.1.campSend _ _ _).syncInelig).syncRope, ?_⟩
    rw [State.pll_of_clk (State.syncRope_clk _), State.pll_of_clk (State.syncInelig_clk _)]
    exact (congrArg PllSt.refRope (State.pll_of_clk (State.campSend_clk v _ _ _) _)).trans hv.2
  generalize v.sendHello.syncInelig.syncRope = w at hw
  unfold State.secondLocked
  split
  · refine ⟨(hw.1.toStep 11).pairFollow, ?_⟩
    rw [State.pll_of_clk (State.pairFollow_clk _)]
    exact hw.2
  · exact hw

/-! ### HELLO and the wait -/

/-- The device has heard a HELLO of its partner. -/
def State.heard (s : State) (h : HelloMsg) : State :=
  { s with pair := { s.pair with partner := (match h.state.val with | 0 => 1 | 1 => 2 | _ => 3), partnerId := h.identity.toNat } }

theorem State.late_heard (s : State) (h : HelloMsg) (d : Domain) (since limit : Nat) : (s.heard h).late d since limit = s.late d since limit := rfl
theorem State.idMatch_heard (s : State) (h : HelloMsg) (id : Nat) : (s.heard h).idMatch id = s.idMatch id := rfl

/-- What a resolving device makes of a HELLO (Table 19.3). -/
theorem State.hello_eq {s : State} (hrole : s.pair.role = 1) (hstep : s.boot.step = 8) (h : HelloMsg) :
    s.hello h = if h.state = 2 ∨ s.late .aon s.boot.stepAt s.roleWait = true then s.heard h
      else if !s.idMatch h.identity.toNat then (s.heard h).isolate
      else if h.state = 1 then (s.heard h).becomeSecond h.identity.toNat
      else if h.roleSel ≠ s.power.bootRoleSel then
        (if s.power.bootRoleSel then (s.heard h).becomeLead else (s.heard h).becomeSecond h.identity.toNat)
      else if Config.serial.toNat < h.serial.toNat then (s.heard h).roleConflict.becomeLead
      else (s.heard h).roleConflict.becomeSecond h.identity.toNat := by
  have hboot : s.boot = (s.heard h).boot := rfl
  have hwait : s.roleWait = (s.heard h).roleWait := rfl
  have hsel : s.power = (s.heard h).power := rfl
  have hrole' : (s.heard h).pair.role = 1 := hrole
  have hstep' : (s.heard h).boot.step = 8 := hstep
  unfold State.hello
  extract_lets +onlyGivenNames id partner pr t
  have ht : t = s.heard h := if_neg (by rw [hrole]; decide)
  clear_value t
  subst ht
  rw [if_pos ⟨hrole', hstep'⟩, ← s.late_heard h, ← s.idMatch_heard h, hboot, hwait, hsel]

theorem State.roleWaitOver_eq {s : State} (hrole : s.pair.role = 1) (hstep : s.boot.step = 8) (edges los : Bool) :
    s.roleWaitOver edges los = if (if s.power.bootRoleSel then !edges else los && !edges) = true then (s.elapseTo (s.boot.stepAt + s.roleWait)).becomeLead
      else (s.elapseTo (s.boot.stepAt + s.roleWait)).isolate := by
  have hsel : (s.elapseTo (s.boot.stepAt + s.roleWait)).power = s.power := State.elapseTo_power ..
  unfold State.roleWaitOver
  rw [if_neg (by simp [hrole, hstep])]
  dsimp only
  rw [hsel]
  cases s.power.bootRoleSel <;> cases edges <;> cases los <;> rfl

theorem hello_ends {s u : State} {h : HelloMsg} (hu : s.hello h = u) {P : State → Prop} (hP : P (s.ended u.pairFollow)) :
    ∃ t, exec (.hello h) s = .next t ∧ P t := ⟨s.ended u.pairFollow, by rw [← hu]; rfl, hP⟩

theorem roleWaitExpiry_ends {s u : State} {edges los : Bool} (hu : s.roleWaitOver edges los = u) {P : State → Prop} (hP : P (s.ended u.pairFollow)) :
    ∃ t, exec (.roleWaitExpiry edges los) s = .next t ∧ P t := ⟨s.ended u.pairFollow, by rw [← hu]; rfl, hP⟩

/-- A Second that a HELLO has made. -/
theorem becomeSecond_ended (s u : State) (id : Nat) : (s.ended (u.becomeSecond id).pairFollow).pair.role = 3 ∧
    1 ≤ (s.ended (u.becomeSecond id).pairFollow).pair.catchup ∧ ((s.ended (u.becomeSecond id).pairFollow).pll .rpll).refRope = true := by
  obtain ⟨hcatch, hrope⟩ := u.becomeSecond_spec id
  rw [State.ended_pair, State.ended_pll, State.pll_of_clk (State.pairFollow_clk _)]
  exact ⟨hcatch.pairFollow.1, hcatch.pairFollow.2, hrope⟩

theorem becomeLead_ended (s u : State) : (s.ended u.becomeLead.pairFollow).pair.role = 2 ∧
    (s.ended u.becomeLead.pairFollow).boot.step = 9 ∧ u.now ≤ (s.ended u.becomeLead.pairFollow).now := by
  obtain ⟨hrole, hstep, hnow⟩ := u.becomeLead_spec
  obtain ⟨hrole', hboot⟩ := State.pairFollow_stays_lead hrole
  rw [State.ended_pair, State.ended_boot, State.ended_now, hboot, State.pairFollow_now]
  exact ⟨hrole', hstep, hnow⟩

theorem isolate_ended (s u : State) : (s.ended u.isolate.pairFollow).pair.role = 4 := by
  rw [State.ended_pair, State.isolate_follow, State.isolate_role]

/-- A resolving device becomes Lead when its wait is over. -/
theorem roleWaitExpiry_lead {s : State} (hrole : s.pair.role = 1) (hstep : s.boot.step = 8) {edges los : Bool}
    (h : (if s.power.bootRoleSel then !edges else los && !edges) = true) :
    ∃ t, exec (.roleWaitExpiry edges los) s = .next t ∧ t.pair.role = 2 ∧ t.boot.step = 9 ∧ s.boot.stepAt + s.roleWait ≤ t.now := by
  refine roleWaitExpiry_ends ((State.roleWaitOver_eq hrole hstep edges los).trans (if_pos h)) ?_
  obtain ⟨hlead, hnine, hnow⟩ := becomeLead_ended s (s.elapseTo (s.boot.stepAt + s.roleWait))
  refine ⟨hlead, hnine, Nat.le_trans ?_ hnow⟩
  rw [State.elapseTo_now]
  exact Nat.le_max_right ..

theorem roleWaitExpiry_isolates {s : State} (hrole : s.pair.role = 1) (hstep : s.boot.step = 8) {edges los : Bool}
    (h : (if s.power.bootRoleSel then !edges else los && !edges) = false) :
    ∃ t, exec (.roleWaitExpiry edges los) s = .next t ∧ t.pair.role = 4 :=
  roleWaitExpiry_ends ((State.roleWaitOver_eq hrole hstep edges los).trans (if_neg (by rw [h]; decide))) (isolate_ended ..)

/-- Settles O13: the roles of Table 19.3, by the HELLO or by the end of the wait. -/
theorem rolesResolve : Obligations.RolesResolve := by
  intro s hrole hstep
  have hheard : ∀ h : HelloMsg, h.state.val ≠ 2 → s.late .aon s.boot.stepAt s.roleWait = false →
      ¬ (h.state = 2 ∨ s.late .aon s.boot.stepAt s.roleWait = true) := fun h hstate hintime hor =>
    hor.elim (fun h2 => hstate (congrArg Fin.val h2)) fun hlate => Bool.false_ne_true (hintime.symm.trans hlate)
  refine ⟨fun h hlate => ?_, fun h hstate hintime => ⟨fun hid => ?_, fun hid hlead => ?_, fun hid hres hsel => ?_⟩,
    fun hsel => ⟨fun los => ?_, fun los => ?_⟩, fun hsel => ⟨?_, ?_, fun edges => ?_⟩⟩
  · refine hello_ends ((State.hello_eq hrole hstep h).trans (if_pos (.inr hlate))) ?_
    have hfollow : (s.heard h).pairFollow = s.heard h :=
      State.pairFollow_single _ (show s.pair.role ≠ 2 by rw [hrole]; decide) (show s.pair.role ≠ 3 by rw [hrole]; decide)
    rw [hfollow, State.ended_pair, State.ended_boot]
    exact ⟨hrole, hstep⟩
  · exact hello_ends (((State.hello_eq hrole hstep h).trans (if_neg (hheard h hstate hintime))).trans (if_pos (by rw [hid]; rfl))) (isolate_ended ..)
  · refine hello_ends ((((State.hello_eq hrole hstep h).trans (if_neg (hheard h hstate hintime))).trans (if_neg (by rw [hid]; decide))).trans
      (if_pos (Fin.ext hlead))) (becomeSecond_ended ..)
  · have hlead : ¬ h.state = 1 := fun h1 => by rw [h1] at hres; cases hres
    refine hello_ends (((((State.hello_eq hrole hstep h).trans (if_neg (hheard h hstate hintime))).trans (if_neg (by rw [hid]; decide))).trans
      (if_neg hlead)).trans (if_pos hsel)) ?_
    cases s.power.bootRoleSel
    · rw [if_neg Bool.false_ne_true, if_neg Bool.false_ne_true]
      exact (becomeSecond_ended ..).1
    · rw [if_pos rfl, if_pos rfl]
      exact (becomeLead_ended ..).1
  · obtain ⟨t, hexec, hlead, hnine, hnow⟩ := roleWaitExpiry_lead hrole hstep (edges := false) (los := los) (by rw [hsel]; rfl)
    exact ⟨t, hexec, hlead, hnine, by rw [State.roleWait, hsel] at hnow; exact hnow⟩
  · exact roleWaitExpiry_isolates hrole hstep (by rw [hsel]; rfl)
  · obtain ⟨t, hexec, hlead, hnine, hnow⟩ := roleWaitExpiry_lead hrole hstep (edges := false) (los := true) (by rw [hsel]; rfl)
    exact ⟨t, hexec, hlead, hnine, by rw [State.roleWait, hsel] at hnow; exact hnow⟩
  · exact roleWaitExpiry_isolates hrole hstep (by rw [hsel]; rfl)
  · exact roleWaitExpiry_isolates hrole hstep (by rw [hsel]; rfl)

end Sys2Proof.Machine
end

section
/-! PROOF. The canonical form of the capture memory, kept by the home's accesses, the banks' power states, the background test and the scrub
(R663, R669-R694). -/
set_option Elab.async false
namespace Sys2Proof.Machine

/-! ### Changes that keep the canonical form, and how they compose -/

/-- The capture memory of the second state is in canonical form where that of the first is. -/
structure State.KeepsWf (s t : State) : Prop where
  wf : s.mem.wf = true → t.mem.wf = true

section
variable {s t u : State}

theorem State.KeepsWf.refl (s : State) : s.KeepsWf s := ⟨id⟩

theorem State.KeepsWf.trans (h : s.KeepsWf t) (k : t.KeepsWf u) : s.KeepsWf u := ⟨k.wf ∘ h.wf⟩

theorem State.KeepsWf.of_mem (h : t.mem = s.mem) : s.KeepsWf t := ⟨fun hs => h ▸ hs⟩

theorem State.KeepsWf.ite {c : Prop} [Decidable c] (h : s.KeepsWf t) (k : s.KeepsWf u) : s.KeepsWf (if c then t else u) := by
  split
  · exact h
  · exact k

theorem State.KeepsWf.foldl {α : Type} {f : State → α → State} (hf : ∀ (s : State) (a : α), s.KeepsWf (f s a)) (l : List α) (s : State) :
    s.KeepsWf (l.foldl f s) := by
  induction l generalizing s with
  | nil => exact .refl s
  | cons a l ih => exact (hf s a).trans (ih _)

/-- What keeps the octets and the lists keeps the canonical form. -/
theorem State.KeepsWf.of_lists {m : Memory} (h : m.cells = s.mem.cells ∧ m.poison = s.mem.poison ∧ m.single = s.mem.single ∧ m.double = s.mem.double) :
    s.KeepsWf { s with mem := m } := ⟨Memory.wf_congr h⟩

theorem State.KeepsWf.bump (i a d : Nat) : s.KeepsWf (s.bump i a d) := ⟨id⟩
theorem State.KeepsWf.bumpW (i a w d : Nat) : s.KeepsWf (s.bumpW i a w d) := ⟨id⟩
theorem State.KeepsWf.setCause (br b : Nat) : s.KeepsWf (s.setCause br b) := .of_mem (s.setCause_mem br b)
theorem State.KeepsWf.elapseTo (n : Nat) : s.KeepsWf (s.elapseTo n) := .of_mem (s.elapseTo_mem n)
theorem State.KeepsWf.elapseToTick (k : Nat) : s.KeepsWf (s.elapseToTick k) := .of_mem (s.elapseToTick_mem k)
theorem State.KeepsWf.setBank (b : Nat) (x : BankSt) : s.KeepsWf (s.setBank b x) := .of_lists ⟨rfl, rfl, rfl, rfl⟩
theorem State.KeepsWf.setCoh (c : Coh) : s.KeepsWf { s with coh := c } := ⟨id⟩

end

/-! ### The home (R406-R425) -/

theorem State.sendMsg_keepsWf (s : State) (p : Nat) (m : LinkMsg) : s.KeepsWf (sendMsg p m s) := .of_mem (sendMsg_mem ..)

theorem State.cohEvent_keepsWf (s : State) (b k a i : Nat) : s.KeepsWf (s.cohEvent b k a i) := .of_mem (State.cohEvent_mem ..)

theorem State.answer_keepsWf (s : State) (p : Nat) (m : LinkMsg) (vc opc : Nat) (poison : Bool) (data : Octets) :
    s.KeepsWf (s.answer p m vc opc poison data) :=
  ((State.KeepsWf.bump 0xF048 10 1).ite (.refl s)).trans (State.sendMsg_keepsWf ..)

theorem State.readLine_keepsWf (s : State) (off : Nat) : s.KeepsWf (s.readLine off).2.2 := ⟨s.readLine_wf off⟩

theorem State.writeLine_keepsWf (s : State) (off : Nat) (data : Octets) (p : Bool) : s.KeepsWf (s.writeLine off data p) := ⟨s.writeLine_wf off data p⟩

theorem State.applyWrite_keepsWf (s : State) (p : Nat) (m : LinkMsg) (off : Nat) : s.KeepsWf (s.applyWrite p m off) :=
  State.KeepsWf.trans ⟨s.hostWrite_wf _ _ _ _⟩ (State.answer_keepsWf ..)

theorem State.answerLine_keepsWf (s : State) (p : Nat) (m : LinkMsg) (opc off : Nat) : s.KeepsWf (s.answerLine p m opc off) := by
  have hread := s.readLine_keepsWf (off / 64 * 64)
  exact ((hread.trans (State.cohEvent_keepsWf ..)).ite hread).trans (State.answer_keepsWf ..)

theorem State.answerUc_keepsWf (s : State) (p : Nat) (m : LinkMsg) (off : Nat) : s.KeepsWf (s.answerUc p m off) := by
  have hread := s.readLine_keepsWf (off / 64 * 64)
  unfold State.answerUc
  generalize s.readLine (off / 64 * 64) = r at hread
  obtain ⟨d, poison, u⟩ := r
  dsimp only
  generalize hreported : (if poison = true then u.cohEvent 3 2 (m.addr / 64 * 64) m.sid else u) = t
  have ht : s.KeepsWf t := hreported ▸ (hread.trans (State.cohEvent_keepsWf ..)).ite hread
  split
  · exact ht.trans (State.answer_keepsWf ..)
  · exact ht.trans (State.answer_keepsWf ..)
  · exact ht.trans (State.answer_keepsWf ..)

theorem State.awaitSnoop_mem (s : State) (line : Nat) (x : Snoop) : (s.awaitSnoop line x).mem = s.mem := by
  unfold State.awaitSnoop
  split <;> rfl

theorem State.sendSnoop_mem (s : State) (line sid : Nat) (inv : Bool) : (s.sendSnoop line sid inv).mem = s.mem := by
  have hsnp : ∀ tag, (s.sendSnp line sid inv tag).mem = s.mem := fun _ => sendMsg_mem ..
  unfold State.sendSnoop
  dsimp only
  split
  · rw [State.awaitSnoop_mem, hsnp]
  · rw [State.awaitSnoop_mem]

theorem State.snoopAll_mem (s : State) (line port : Nat) (req : Option LinkMsg) (recalling : Bool) (sids : List Nat) (inv : Bool) :
    (s.snoopAll line port req recalling sids inv).mem = s.mem :=
  foldl_keeps State.mem _ (fun t sid => t.sendSnoop_mem line sid inv) sids (s.putTxn line _)

theorem State.snoopAll_keepsWf (s : State) (line port : Nat) (req : Option LinkMsg) (recalling : Bool) (sids : List Nat) (inv : Bool) :
    s.KeepsWf (s.snoopAll line port req recalling sids inv) := .of_mem (State.snoopAll_mem ..)

theorem State.hit_mem (s : State) (line : Nat) : (s.hit line).mem = s.mem := by
  unfold State.hit
  split <;> rfl

theorem State.quiesceLine_mem (s : State) (line : Nat) : (s.quiesceLine line).mem = s.mem := by
  unfold State.quiesceLine
  split
  · extract_lets
    split
    · rfl
    · exact State.snoopAll_mem ..
  · rfl

theorem State.waitOn_keepsWf (s : State) (w : Waiter) : s.KeepsWf (s.waitOn w) := ⟨id⟩

theorem State.grantNew_keepsWf (s : State) (line p : Nat) (m : LinkMsg) (off : Nat) (excl : Bool) : s.KeepsWf (s.grantNew line p m off excl) := by
  unfold State.grantNew
  extract_lets es ways
  split
  · exact State.KeepsWf.trans (t := s.drawn.putEntry line _) (.of_mem rfl) (State.answerLine_keepsWf ..)
  · split
    · next v cl _ =>
      have hvictim : s.KeepsWf (if cl then s.clearUse (lineSet line) else s) := State.KeepsWf.ite (.of_mem rfl) (.refl s)
      exact (((hvictim.trans (State.waitOn_keepsWf ..)).trans (State.cohEvent_keepsWf ..)).trans (.bump 0xF048 5 1)).trans
        (State.snoopAll_keepsWf ..)
    · exact .of_mem rfl

theorem State.decideI_keepsWf (s : State) (line p : Nat) (m : LinkMsg) (off : Nat) : s.KeepsWf (s.decideI line p m off) := by
  unfold State.decideI
  split
  · exact s.grantNew_keepsWf ..
  · exact s.grantNew_keepsWf ..
  · exact s.grantNew_keepsWf ..
  · exact s.applyWrite_keepsWf ..
  · exact s.applyWrite_keepsWf ..
  · exact s.applyWrite_keepsWf ..
  · exact s.answerUc_keepsWf ..

theorem State.decideS_keepsWf (s : State) (line p : Nat) (m : LinkMsg) (off : Nat) (e : FilterEntry) : s.KeepsWf (s.decideS line p m off e) := by
  have hput : ∀ x, s.KeepsWf (s.putEntry line x) := fun _ => .of_mem rfl
  have hsnoop : ∀ sids, s.KeepsWf (s.snoopAll line p (some m) false sids true) := fun sids => s.snoopAll_keepsWf ..
  unfold State.decideS
  extract_lets others
  split
  · exact (hput _).trans (State.answerLine_keepsWf ..)
  · exact hsnoop _
  · exact (((hput _).trans (State.answer_keepsWf ..)).ite (hsnoop _)).ite (hsnoop _)
  · exact hsnoop _
  · exact hsnoop _
  · exact hsnoop _
  · exact s.answerUc_keepsWf ..

theorem State.decideEM_keepsWf (s : State) (line p : Nat) (m : LinkMsg) (e : FilterEntry) : s.KeepsWf (s.decideEM line p m e) := by
  have hsnoop : ∀ inv, s.KeepsWf (s.snoopAll line p (some m) false [e.owner] inv) := fun inv => s.snoopAll_keepsWf ..
  unfold State.decideEM
  split
  · exact hsnoop _
  · exact (s.answer_keepsWf ..).ite (hsnoop _)
  · exact hsnoop _
  · exact hsnoop _
  · exact hsnoop _
  · exact hsnoop _

theorem State.answerBarred_keepsWf (s : State) (p : Nat) (m : LinkMsg) (off : Nat) : s.KeepsWf (s.answerBarred p m off) :=
  (s.answerLine_keepsWf ..).ite ((s.answer_keepsWf ..).ite (s.answerUc_keepsWf ..))

theorem State.homeDecide_keepsWf (s : State) (line p : Nat) (m : LinkMsg) (off : Nat) : s.KeepsWf (s.homeDecide line p m off) := by
  unfold State.homeDecide
  refine (s.answer_keepsWf ..).ite ((s.answerBarred_keepsWf ..).ite ?_)
  extract_lets hit
  refine ((State.KeepsWf.of_mem (s.hit_mem line)).trans ?_).trans (.of_mem (State.quiesceLine_mem ..))
  split
  · exact State.decideI_keepsWf ..
  · exact (State.decideEM_keepsWf ..).ite (State.decideS_keepsWf ..)

theorem State.request_keepsWf (s : State) (p : Nat) (m : LinkMsg) (off : Nat) (more : Bool) : s.KeepsWf (s.request p m off more) := by
  have htracked : s.KeepsWf s.tracked := .bumpW 0xF048 1 64 1
  have hviolation : ∀ a i, s.KeepsWf (s.protoViolation a i) := fun _ _ => (s.cohEvent_keepsWf ..).trans (.bump 0xF048 17 1)
  have hwait : ∀ w, s.KeepsWf (s.tracked.wait w) := fun _ => .of_mem rfl
  have hplace : s.KeepsWf (s.tracked.placeRequest p m off more) :=
    (htracked.trans (State.answerBarred_keepsWf ..)).ite ((hwait _).ite ((hwait _).ite (htracked.trans (State.homeDecide_keepsWf ..))))
  exact (htracked.trans (State.answer_keepsWf ..)).ite ((hviolation ..).ite ((hviolation ..).ite hplace))

theorem State.drainOneReq_keepsWf (s : State) : s.KeepsWf s.drainOneReq := by
  unfold State.drainOneReq
  split
  · exact .refl s
  · refine (State.KeepsWf.refl s).ite ?_
    extract_lets _ taken x credited
    have hcredited : s.KeepsWf credited := State.KeepsWf.ite (.of_mem rfl) (.of_mem rfl)
    split
    · exact hcredited.trans (State.request_keepsWf ..)
    · exact hcredited

/-- What follows a command keeps the canonical form, whatever waits for the home. -/
theorem State.settle_keepsWf (s : State) : s.KeepsWf s.settle := by
  refine State.KeepsWf.trans (t := s.drainInbox) (.foldl (fun t _ => t.drainOneReq_keepsWf) _ s) (.of_mem ?_)
  rw [State.settle, State.pairFollow_mem, State.serveUnits_mem, State.drainDev_mem]

theorem State.startRecall_mem (s : State) (line : Nat) : (s.startRecall line).mem = s.mem := by
  unfold State.startRecall
  split
  · split
    · rfl
    · exact State.snoopAll_mem ..
  · rfl

theorem State.recallLine_mem (s : State) (line k : Nat) : (s.recallLine line k).mem = s.mem := by
  unfold State.recallLine
  split
  · split
    · rfl
    · exact State.startRecall_mem ..
  · rfl

/-! ### The storage writer -/

theorem State.captureWrite_keepsWf (s : State) (off : Nat) (data : Octets) : s.KeepsWf (s.captureWrite off data) := by
  have hwrite := s.writeLine_keepsWf off data false
  unfold State.captureWrite
  extract_lets line t
  split
  · exact (hwrite.trans (.setCoh _)).ite ((hwrite.trans (.setCoh _)).trans (.of_mem (State.recallLine_mem ..)))
  · exact hwrite

theorem State.winFault_mem (s : State) (w : Nat) : (s.winFault w).mem = s.mem := by
  unfold State.winFault
  split <;> rfl

theorem State.drainLine_keepsWf (s : State) : s.KeepsWf s.drainLine := by
  unfold State.drainLine
  split
  · exact .refl s
  · next l rest _ =>
    have htaken : s.KeepsWf { s with sto := { s.sto with buf := rest } } := .of_mem rfl
    extract_lets sto t b
    exact ((htaken.trans (State.captureWrite_keepsWf ..)).trans (.bumpW 0xF078 2 64 1)).ite
      ((htaken.trans (.bump 0xF080 12 1)).trans (.of_mem (State.winFault_mem ..)))

/-! ### The power states of the banks (R671-R676) -/

theorem cellWf_filter (f : Host.Cell → Bool) (m : List Host.Cell) (h : cellWf m = true) : cellWf (m.filter f) = true := by
  induction m with
  | nil => rfl
  | cons e t ih =>
    obtain ⟨a, v⟩ := e
    obtain ⟨hv, hlt, ht⟩ := (cellWf_cons a v t).1 h
    rw [List.filter_cons]
    split
    · exact (cellWf_cons a v _).2 ⟨hv, fun e he => hlt e (List.mem_filter.1 he).1, ih ht⟩
    · exact ih ht

theorem State.clearBank_keepsWf (s : State) (b : Nat) : s.KeepsWf (s.clearBank b) := by
  refine ⟨fun h => ?_⟩
  obtain ⟨hcells, hpoison, hsingle, hdouble⟩ := (Memory.wf_iff _).1 h
  exact (Memory.wf_iff _).2 ⟨cellWf_filter _ _ hcells, rising_filter _ _ hpoison, rising_filter _ _ hsingle, rising_filter _ _ hdouble⟩

theorem State.moveBank_keepsWf (s : State) (b st target : Nat) (zero : Bool) : s.KeepsWf (s.moveBank b st target zero) := .setBank b _

theorem State.recallBank_keepsWf (s : State) (b : Nat) : s.KeepsWf (s.recallBank b) := by
  refine .foldl (fun t e => ?_) _ s
  split
  · exact (State.KeepsWf.of_mem (t.recallLine_mem e.1 3)).ite (.refl t)
  · exact .refl t

theorem State.stopTest_keepsWf (s : State) (b : Nat) : s.KeepsWf (s.stopTest b) := by
  unfold State.stopTest
  split
  · exact .of_lists ⟨rfl, rfl, rfl, rfl⟩
  · exact .refl s

theorem State.bankToward_keepsWf (s : State) (b sel : Nat) : s.KeepsWf (s.bankToward b sel) := by
  have hmove : ∀ st target zero, s.KeepsWf (s.moveBank b st target zero) := fun _ _ _ => s.moveBank_keepsWf ..
  have hdrain : ∀ target, s.KeepsWf (((s.moveBank b 1 target false).stopTest b).recallBank b) := fun _ =>
    ((hmove ..).trans (State.stopTest_keepsWf ..)).trans (State.recallBank_keepsWf ..)
  unfold State.bankToward
  extract_lets x
  split
  · exact hdrain 3
  · exact hdrain 4
  · exact hmove ..
  · exact hmove ..
  · exact hmove ..
  · exact hmove ..
  · exact (State.KeepsWf.refl s).ite (hmove ..)
  · exact (State.KeepsWf.refl s).ite (hmove ..)
  · exact (State.KeepsWf.refl s).ite (.setBank b _)
  · exact .refl s

theorem State.bankSettle_keepsWf (s : State) (b : Nat) : s.KeepsWf (s.bankSettle b) :=
  State.KeepsWf.trans (.bump 0xF080 9 1) (State.bankToward_keepsWf ..)

theorem State.retentionWake_keepsWf (s : State) (b : Nat) : s.KeepsWf (s.retentionWake b) :=
  ((State.KeepsWf.elapseToTick _).trans ((State.moveBank_keepsWf ..).ite (.refl _))).ite (.refl s)

theorem State.drainDone_keepsWf (s : State) (b : Nat) : s.KeepsWf (s.drainDone b) := (State.KeepsWf.refl s).ite (s.moveBank_keepsWf ..)

theorem State.entryDone_keepsWf (s : State) (b : Nat) : s.KeepsWf (s.entryDone b) := by
  unfold State.entryDone
  extract_lets x t u
  refine (State.KeepsWf.refl s).ite ?_
  have hu : s.KeepsWf u := (State.KeepsWf.elapseTo _).trans (.setBank b _)
  exact ((hu.trans (State.clearBank_keepsWf ..)).ite hu).trans (State.bankSettle_keepsWf ..)

theorem State.wakeDone_keepsWf (s : State) (b : Nat) : s.KeepsWf (s.wakeDone b) := by
  have hready : s.KeepsWf (s.setBank b { s.bank b with st := 0, since := s.now }) := .setBank b _
  unfold State.wakeDone
  extract_lets x t u
  exact (State.KeepsWf.refl s).ite ((((State.KeepsWf.elapseTo _).trans (State.clearBank_keepsWf ..)).trans (.setBank b _)).ite
    ((hready.trans (.bump 0xF080 9 1)).ite (hready.trans (State.bankSettle_keepsWf ..))))

theorem State.zeroingDone_keepsWf (s : State) (b : Nat) : s.KeepsWf (s.zeroingDone b) := by
  unfold State.zeroingDone
  extract_lets x t
  have ht : s.KeepsWf t := (State.KeepsWf.elapseTo _).trans (.bump 0xF080 10 1)
  exact (State.KeepsWf.refl s).ite ((ht.trans (State.moveBank_keepsWf ..)).ite ((ht.trans (.setBank b _)).trans (State.bankSettle_keepsWf ..)))

/-! ### The background test (R684-R688) -/

theorem State.goOn_keepsWf (s : State) : s.KeepsWf s.goOn := by
  have hlists : ∀ m : Memory, m.cells = s.mem.cells → m.poison = s.mem.poison → m.single = s.mem.single → m.double = s.mem.double →
      s.KeepsWf { s with mem := m } := fun _ h1 h2 h3 h4 => .of_lists ⟨h1, h2, h3, h4⟩
  unfold State.goOn
  dsimp only
  split
  · exact .refl s
  · split
    · exact hlists _ rfl rfl rfl rfl
    · split
      · exact hlists _ rfl rfl rfl rfl
      · split
        · exact hlists _ rfl rfl rfl rfl
        · exact .refl s

theorem State.saveLine_keepsWf (s : State) (i : Nat) : s.KeepsWf (s.saveLine i) := by
  have hread := s.readLine_keepsWf (offOf s.mem.tbank (64 * s.mem.tregion + i))
  unfold State.saveLine
  exact hread.trans (.of_lists ⟨rfl, rfl, rfl, rfl⟩)

theorem State.testStep_keepsWf (s : State) : s.KeepsWf s.testStep := by
  unfold State.testStep
  generalize List.range 64 = lines
  extract_lets t u v
  have hu : s.KeepsWf u := (State.KeepsWf.elapseTo _).trans (State.goOn_keepsWf _)
  have hv : u.KeepsWf v := .foldl State.saveLine_keepsWf _ u
  refine (State.KeepsWf.refl s).ite (((hu.trans hv).trans ?_).ite hu)
  exact .of_lists ⟨rfl, rfl, rfl, rfl⟩

theorem State.repairColumn_keepsWf (s : State) (b sub col : Nat) : s.KeepsWf (s.repairColumn b sub col).2 := by
  unfold State.repairColumn
  extract_lets x n c
  split
  · exact (State.KeepsWf.setBank b _).trans (.bump 0xF080 8 1)
  · exact (State.KeepsWf.setBank b _).trans (.setCause 11 2)

theorem State.testFault_keepsWf (s : State) (f : Nat × Nat × Nat) : s.KeepsWf (s.testFault f) := by
  have hrecord : s.KeepsWf (s.recordFault s.mem.tbank f.1 f.2.1 f.2.2 2) := .of_lists ⟨rfl, rfl, rfl, rfl⟩
  exact (State.KeepsWf.refl s).ite (((hrecord.trans (.setCause 11 3)).trans (.bump 0xF080 7 1)).trans (State.repairColumn_keepsWf ..))

theorem State.restoreLine_keepsWf (bad : List Nat) (s : State) (i : Nat) : s.KeepsWf (State.restoreLine bad s i) := by
  unfold State.restoreLine
  split
  · exact .refl s
  · next l _ =>
    have hfresh : s.KeepsWf (s.freshLine (offOf s.mem.tbank (64 * s.mem.tregion + i)) l.data (l.poison || bad.contains i)) :=
      ⟨s.freshLine_wf _ _ _⟩
    exact (hfresh.trans ((State.KeepsWf.bump 0xF080 2 1).trans (.bump 0xF080 3 1))).ite hfresh

theorem State.regionDone_keepsWf (s : State) : s.KeepsWf s.regionDone := by
  unfold State.regionDone
  split <;> exact .of_lists ⟨rfl, rfl, rfl, rfl⟩

theorem State.stepEnd_keepsWf (s : State) : s.KeepsWf s.stepEnd := .of_lists ⟨rfl, rfl, rfl, rfl⟩

theorem State.nextPhase_keepsWf (s : State) (k n : Nat) : s.KeepsWf (s.nextPhase k n) := .of_lists ⟨rfl, rfl, rfl, rfl⟩

theorem State.abandonEnd_keepsWf (s : State) : s.KeepsWf s.abandonEnd :=
  (((State.KeepsWf.setCause 11 4).trans ((State.KeepsWf.bump 0xF080 6 1).trans (State.regionDone_keepsWf _))).ite (.refl s)).trans
    (State.stepEnd_keepsWf _)

theorem State.phaseDone_keepsWf (s : State) (r : TestFinding) : s.KeepsWf (s.phaseDone r) := by
  have hover : s.KeepsWf s.phaseOver := (State.KeepsWf.elapseTo _).ite (.refl s)
  unfold State.phaseDone
  generalize List.range 64 = lines
  generalize s.phaseOver = t at hover
  have hfaults : s.KeepsWf (r.faults.foldl State.testFault t) := hover.trans (.foldl State.testFault_keepsWf _ t)
  dsimp only
  split
  · exact hover.trans (State.nextPhase_keepsWf ..)
  · exact hfaults.trans (State.nextPhase_keepsWf ..)
  · have hrestored := hover.trans (State.KeepsWf.foldl (State.restoreLine_keepsWf (r.badLines.map fun i => i.val)) lines t)
    exact (hrestored.trans (State.abandonEnd_keepsWf _)).ite (hrestored.trans (State.nextPhase_keepsWf ..))
  · generalize r.faults.foldl State.testFault t = u at hfaults
    have hcounted : s.KeepsWf (u.bumpW 0xF080 4 64 1) := hfaults.trans (.bumpW 0xF080 4 64 1)
    refine ((hcounted.trans ?_).trans (State.regionDone_keepsWf _)).trans (State.stepEnd_keepsWf _)
    exact .of_lists ⟨rfl, rfl, rfl, rfl⟩
  · exact hover

/-! ### The scrub -/

theorem putCause_foldl_mem (ci m : Nat) (l : List Nat) (s : State) : (l.foldl (fun (s : State) j => s.putCause ci (j + 1) m) s).mem = s.mem :=
  foldl_keeps State.mem _ (fun t j => t.putCause_mem ci (j + 1) m) l s

theorem State.latchFault_mem (s : State) (k : Nat) : (s.latchFault k).mem = s.mem := by
  unfold State.latchFault
  extract_lets idx br t
  have ht : t.mem = s.mem := by
    unfold t
    split
    · exact State.putCause_mem ..
    · split
      · exact State.putCause_mem ..
      · split
        · rw [putCause_foldl_mem, State.putCause_mem]
        · exact State.putCause_mem ..
  exact (State.bump_mem ..).trans ht

theorem State.poisoned_keepsWf (s : State) {m : Memory} (hcells : m.cells = s.mem.cells) (hpoison : m.poison = s.mem.poison)
    (hsingle : rising s.mem.single = true → rising m.single = true) (hdouble : rising s.mem.double = true → rising m.double = true) :
    s.KeepsWf { s with mem := m } := by
  refine ⟨fun h => ?_⟩
  obtain ⟨h1, h2, h3, h4⟩ := (Memory.wf_iff _).1 h
  exact (Memory.wf_iff _).2 ⟨hcells ▸ h1, hpoison ▸ h2, hsingle h3, hdouble h4⟩

theorem State.storeDouble_mem (s : State) (k : Nat) : (s.storeDouble k).mem = s.mem := by
  unfold State.storeDouble
  split
  · rfl
  · rw [State.setCause_mem]

theorem State.stagedDouble_mem (s : State) (idx sub : Nat) : (s.stagedDouble idx sub).mem = s.mem := by
  unfold State.stagedDouble
  split
  · rw [State.setCause_mem]
  · rfl

theorem State.relatched_mem (s : State) (idx sub v : Nat) : (s.putCause idx sub v).alertSync.mem = s.mem := by
  rw [State.alertSync_mem, State.putCause_mem]

theorem State.parityFault_mem (s : State) (k : Nat) : (s.latchFault k).alertSync.mem = s.mem := by
  rw [State.alertSync_mem, State.latchFault_mem]

theorem State.scrubFinds_keepsWf (s : State) (f : ScrubFinding) : s.KeepsWf (s.scrubFinds f) := by
  unfold State.scrubFinds
  split
  · exact (State.KeepsWf.bump 0xF000 9 1).ite (.refl s)
  · exact (State.KeepsWf.of_mem (s.storeDouble_mem _)).ite (.refl s)
  · exact (State.KeepsWf.of_mem (s.stagedDouble_mem _ _)).ite (.refl s)
  · exact (State.KeepsWf.of_mem (s.relatched_mem _ _ _)).ite (.refl s)
  · refine (State.KeepsWf.refl s).ite ((State.KeepsWf.of_mem (s.parityFault_mem _)).ite ?_)
    exact .of_mem rfl
  · exact s.poisoned_keepsWf rfl rfl (rising_poisonSet s.mem.single _ true) id
  · exact s.poisoned_keepsWf rfl rfl id (rising_poisonSet s.mem.double _ true)
  · exact .of_mem rfl

/-! ### The commands -/

theorem keepsWf_ends {c : Instr} {s u : State} (h : s.KeepsWf u) (hc : exec c s = s.ends u) (hs : s.mem.wf = true) :
    ∃ t, exec c s = .next t ∧ t.mem.wf = true := ⟨s.ended u, hc, by rw [State.ended_mem]; exact h.wf hs⟩

/-- Settles O53: what a command changes in the capture memory keeps its canonical form. -/
theorem captureMemoryStaysCanonical : Obligations.CaptureMemoryStaysCanonical := by
  refine ⟨Memory.wf_reset, fun s hs => ⟨fun off i d p => ?_, fun c hc => ?_⟩⟩
  · exact ⟨s.hostWrite_wf off i d p hs, s.readLine_wf off hs, s.writeLine_wf off d p hs, (s.captureWrite_keepsWf off d).wf hs⟩
  · obtain ⟨f, rfl⟩ | rfl | rfl | ⟨r, rfl⟩ | ⟨b, rfl | rfl | rfl | rfl | rfl⟩ := hc
    · exact keepsWf_ends (.foldl State.scrubFinds_keepsWf f s) rfl hs
    · exact keepsWf_ends (s.drainLine_keepsWf.trans (State.settle_keepsWf _)) rfl hs
    · exact keepsWf_ends s.testStep_keepsWf rfl hs
    · exact keepsWf_ends (s.phaseDone_keepsWf r) rfl hs
    · exact keepsWf_ends (s.retentionWake_keepsWf b.val) rfl hs
    · exact keepsWf_ends (s.drainDone_keepsWf b.val) rfl hs
    · exact keepsWf_ends (s.entryDone_keepsWf b.val) rfl hs
    · exact keepsWf_ends (s.wakeDone_keepsWf b.val) rfl hs
    · exact keepsWf_ends (s.zeroingDone_keepsWf b.val) rfl hs

end Sys2Proof.Machine
end

section
/-! PROOF. The background test of the banks, and the wipe of the vault (R684-R688, R696). -/
set_option Elab.async false
namespace Sys2Proof.Machine

/-! ### SAVE -/

/-- What reading the lines of a region leaves: the real time, and the capture memory beside its save buffer and its faults. -/
structure State.KeepsRegion (s t : State) : Prop where
  now : t.now = s.now
  cells : t.mem.cells = s.mem.cells
  bank : t.mem.bank = s.mem.bank
  tbank : t.mem.tbank = s.mem.tbank
  tregion : t.mem.tregion = s.mem.tregion
  phase : t.mem.phase = s.mem.phase
  visited : t.mem.visited = s.mem.visited
  abandons : t.mem.abandons = s.mem.abandons

section
variable {s t u : State}

theorem State.KeepsRegion.refl (s : State) : s.KeepsRegion s := ⟨rfl, rfl, rfl, rfl, rfl, rfl, rfl, rfl⟩

theorem State.KeepsRegion.trans (h : s.KeepsRegion t) (k : t.KeepsRegion u) : s.KeepsRegion u :=
  ⟨k.now.trans h.now, k.cells.trans h.cells, k.bank.trans h.bank, k.tbank.trans h.tbank, k.tregion.trans h.tregion, k.phase.trans h.phase,
    k.visited.trans h.visited, k.abandons.trans h.abandons⟩

theorem State.bankReady_of_bank (h : t.mem.bank = s.mem.bank) (n : Nat) : t.bankReady n = s.bankReady n := by
  unfold State.bankReady State.bank; rw [h]

end

theorem State.redirected_of_idle {s : State} (h : s.mem.phase = 5) (off : Nat) : s.redirected off = false := by
  simp [State.redirected, h]

theorem State.correctLine_keepsRegion (s : State) (off : Nat) : s.KeepsRegion (s.correctLine off) := by
  unfold State.correctLine
  extract_lets n t
  split
  all_goals exact ⟨rfl, rfl, rfl, rfl, rfl, rfl, rfl, rfl⟩

theorem State.correctLine_save (s : State) (off : Nat) : (s.correctLine off).mem.save = s.mem.save := by
  unfold State.correctLine
  extract_lets n t
  split
  all_goals rfl

/-- A line that is read past the save buffer is read as it stands; the read leaves the region and the save buffer. -/
theorem State.readLine_idle {s : State} (h : s.mem.phase = 5) (off : Nat) :
    s.KeepsRegion (s.readLine off).2.2 ∧ (s.readLine off).2.2.mem.save = s.mem.save ∧
      (s.bankReady (bankOf off) = true → (s.readLine off).1 = cellRead s.mem.cells off 64) := by
  unfold State.readLine
  rw [State.redirected_of_idle h]
  split
  · next hready => exact ⟨⟨rfl, rfl, rfl, rfl, rfl, rfl, rfl, rfl⟩, rfl, fun hr => by simp [hr] at hready⟩
  · simp only [Bool.false_eq_true, if_false]
    split
    · exact ⟨s.correctLine_keepsRegion off, s.correctLine_save off, fun _ => rfl⟩
    · exact ⟨(s.correctLine_keepsRegion off).trans ⟨rfl, rfl, rfl, rfl, rfl, rfl, rfl, rfl⟩, s.correctLine_save off, fun _ => rfl⟩

/-- The offset of a line of the region that the test engine shows. -/
def State.testLine (s : State) (i : Nat) : Nat := offOf s.mem.tbank (64 * s.mem.tregion + i)

theorem State.KeepsRegion.testLine_eq {s t : State} (h : s.KeepsRegion t) (i : Nat) : t.testLine i = s.testLine i := by
  simp only [State.testLine, h.tbank, h.tregion]

theorem State.saveLine_keepsRegion {s : State} (h : s.mem.phase = 5) (i : Nat) : s.KeepsRegion (s.saveLine i) :=
  (State.readLine_idle h (s.testLine i)).1.trans ⟨rfl, rfl, rfl, rfl, rfl, rfl, rfl, rfl⟩

/-- SAVE takes each line of a list of lines, as it stands (R684, R685). -/
theorem State.saveLines_spec (lines : List Nat) {s : State} (h : s.mem.phase = 5) :
    s.KeepsRegion (lines.foldl State.saveLine s) ∧ ∀ i ∈ lines, s.bankReady (bankOf (s.testLine i)) = true →
      (mget (lines.foldl State.saveLine s).mem.save i).map SaveLine.data = some (cellRead s.mem.cells (s.testLine i) 64) := by
  induction lines using List.reverseRecOn with
  | nil => exact ⟨.refl s, fun i hi => absurd hi List.not_mem_nil⟩
  | append_singleton lines k ih =>
    obtain ⟨hkeeps, hsaved⟩ := ih
    rw [List.foldl_append]
    simp only [List.foldl_cons, List.foldl_nil]
    generalize lines.foldl State.saveLine s = t at hkeeps hsaved
    have hphase : t.mem.phase = 5 := hkeeps.phase.trans h
    obtain ⟨-, hsave, hdata⟩ := State.readLine_idle hphase (t.testLine k)
    refine ⟨hkeeps.trans (State.saveLine_keepsRegion hphase k), fun i hi hready => ?_⟩
    have hget : mget (t.saveLine k).mem.save i =
        if i = k then some ⟨(t.readLine (t.testLine k)).1, (t.readLine (t.testLine k)).2.1, false⟩ else mget t.mem.save i := by
      rw [← hsave]
      exact mget_mset _ _ _ _
    rw [hget]
    split
    · next heq =>
      subst heq
      rw [hkeeps.testLine_eq, State.bankReady_of_bank hkeeps.bank, hkeeps.cells] at hdata
      rw [hkeeps.testLine_eq, Option.map_some, hdata hready]
    · next hne =>
      exact hsaved i ((List.mem_append.1 hi).resolve_right fun hk => hne (List.mem_singleton.1 hk)) hready

/-- SAVE starts: the state in which a step saves its region. -/
theorem State.testStep_eq {s : State} (hphase : s.mem.phase = 5) (hup : s.mgtUp = true)
    (hready : (s.elapseTo s.mem.nextStep).goOn.bankReady (s.elapseTo s.mem.nextStep).goOn.mem.tbank = true) :
    ∃ lines : State, lines = (List.range 64).foldl State.saveLine (s.elapseTo s.mem.nextStep).goOn ∧
      s.testStep = { lines with mem := { lines.mem with phase := 1, phaseEnd := lines.now + 512, abandoned := false } } := by
  have hrun : ¬(s.mem.phase ≠ 5 ∨ s.mgtUp = false) := by simp [hphase, hup]
  exact ⟨_, rfl, (if_neg hrun).trans (if_pos hready)⟩

theorem State.goOn_of_unvisited {s : State} (hready : s.bankReady s.mem.tbank = true) (h : s.mem.visited = 0) : s.goOn = s :=
  if_pos ⟨h, hready⟩

theorem State.goOn_of_visited {s : State} (hready : s.bankReady s.mem.tbank = true) (h : s.mem.visited = 1) (hmore : s.mem.tregion + 1 < 512) :
    s.goOn = { s with mem := { s.mem with tregion := s.mem.tregion + 1, visited := 0, abandons := 0 } } :=
  (if_neg fun hc => by omega).trans (if_pos ⟨by omega, hmore, hready⟩)

/-- A step that starts saves the region it goes on to. -/
theorem State.testStep_spec {s g : State} (hphase : s.mem.phase = 5) (hup : s.mgtUp = true) (hg : (s.elapseTo s.mem.nextStep).goOn = g)
    (hgphase : g.mem.phase = 5) (hready : g.bankReady g.mem.tbank = true) :
    s.testStep.now = g.now ∧ s.testStep.mem.phase = 1 ∧ s.testStep.mem.abandoned = false ∧ s.testStep.mem.tbank = g.mem.tbank ∧
      s.testStep.mem.tregion = g.mem.tregion ∧ s.testStep.mem.cells = g.mem.cells ∧ s.testStep.mem.visited = g.mem.visited ∧
      s.testStep.mem.abandons = g.mem.abandons ∧
      ∀ i, i < 64 → g.bankReady (bankOf (g.testLine i)) = true →
        (mget s.testStep.mem.save i).map SaveLine.data = some (cellRead g.mem.cells (g.testLine i) 64) := by
  subst hg
  obtain ⟨lines, hlines, heq⟩ := State.testStep_eq hphase hup hready
  obtain ⟨hkeeps, hsaved⟩ := State.saveLines_spec (List.range 64) hgphase
  rw [← hlines] at hkeeps hsaved
  rw [heq]
  exact ⟨hkeeps.now, rfl, rfl, hkeeps.tbank, hkeeps.tregion, hkeeps.cells, hkeeps.visited, hkeeps.abandons,
    fun i hi => hsaved i (List.mem_range.2 hi)⟩

/-! ### TEST, RESTORE and COMPARE -/

theorem State.phaseOver_of {s : State} (h : 1 ≤ s.mem.phase ∧ s.mem.phase ≤ 4) : s.phaseOver = s.elapseTo s.mem.phaseEnd := if_pos h

/-- A phase's end is judged at its real time, at which the memory still stands. -/
theorem State.phaseOver_spec {s : State} {k : Nat} (h : s.mem.phase = k) (hk : 1 ≤ k ∧ k ≤ 4) :
    s.phaseOver = s.elapseTo s.mem.phaseEnd ∧ s.phaseOver.mem.phase = k := by
  have hover : s.phaseOver = s.elapseTo s.mem.phaseEnd := if_pos (h ▸ hk)
  exact ⟨hover, by rw [hover, State.elapseTo_mem, h]⟩

/-- The memory as RESTORE leaves it. -/
def State.restored (s : State) (r : TestFinding) : State :=
  (List.range 64).foldl (State.restoreLine (r.badLines.map fun i => i.val)) s

section
variable {s : State} (r : TestFinding)

theorem State.phaseDone_save (h : s.mem.phase = 1) : s.phaseDone r = (s.elapseTo s.mem.phaseEnd).nextPhase 2 5120 := by
  obtain ⟨hover, hphase⟩ := State.phaseOver_spec h (by decide)
  unfold State.phaseDone
  dsimp only
  rw [hphase, hover]
  generalize List.range 64 = lines
  rfl

theorem State.phaseDone_test (h : s.mem.phase = 2) :
    s.phaseDone r = (r.faults.foldl State.testFault (s.elapseTo s.mem.phaseEnd)).nextPhase 3 512 := by
  obtain ⟨hover, hphase⟩ := State.phaseOver_spec h (by decide)
  unfold State.phaseDone
  dsimp only
  rw [hphase, hover]
  generalize List.range 64 = lines
  rfl

theorem State.phaseDone_restore (h : s.mem.phase = 3) : s.phaseDone r =
    if ((s.elapseTo s.mem.phaseEnd).restored r).mem.abandoned then ((s.elapseTo s.mem.phaseEnd).restored r).abandonEnd
    else ((s.elapseTo s.mem.phaseEnd).restored r).nextPhase 4 511 := by
  obtain ⟨hover, hphase⟩ := State.phaseOver_spec h (by decide)
  unfold State.phaseDone State.restored
  dsimp only
  rw [hphase, hover]
  generalize List.range 64 = lines
  rfl

theorem State.phaseDone_compare (h : s.mem.phase = 4) : ∃ t, t = (r.faults.foldl State.testFault (s.elapseTo s.mem.phaseEnd)).bumpW 0xF080 4 64 1 ∧
    s.phaseDone r = (State.regionDone { t with mem := { t.mem with abandons := 0 } }).stepEnd := by
  obtain ⟨hover, hphase⟩ := State.phaseOver_spec h (by decide)
  refine ⟨_, rfl, ?_⟩
  unfold State.phaseDone
  dsimp only
  rw [hphase, hover]
  generalize List.range 64 = lines
  rfl

end

/-! ### The faults of a step -/

/-- What the repair of a column changes: the record of its bank, the counter of spares, and MEM cause UNREPAIRED. -/
theorem Frame.repairColumn {parts : List Part} {objs : List (Nat × Nat)} {s u : State} (h : Frame parts objs s u) (b sub col : Nat)
    (hmem : .mem ∈ parts := by decide) (hlatch : .latch ∈ parts := by decide) (hcause : ∀ x ∈ causeObjects 11, x ∈ objs := by decide)
    (hcount : (0xF080, 8) ∈ objs := by decide) : Frame parts objs s (u.repairColumn b sub col).2 := by
  unfold State.repairColumn
  extract_lets x n c
  split
  · exact (h.setMem _ hmem).bump 0xF080 8 1 hcount
  · exact (h.setMem _ hmem).setCause 11 2 hlatch hcause

theorem State.repairColumn_mem (s : State) (b sub col : Nat) : ∃ m, (s.repairColumn b sub col).2.mem = { s.mem with bank := m } := by
  unfold State.repairColumn
  extract_lets x n c
  split
  · exact ⟨_, rfl⟩
  · exact ⟨_, State.setCause_mem ..⟩

/-- The repair of a column leaves the counter of faults, and MEM cause BACKGROUND where it stands. -/
theorem State.repairColumn_reports (s : State) (b sub col : Nat) (hfast : s.mgtFast = true) (hset : bit (s.z 0x210C 0) 3 = true) :
    (s.repairColumn b sub col).2.z 0xF080 7 = s.z 0xF080 7 ∧ bit ((s.repairColumn b sub col).2.z 0x210C 0) 3 = true := by
  unfold State.repairColumn
  extract_lets x n c
  split
  · rw [State.z_bump, State.z_bump]
    exact ⟨if_neg (by decide), by rwa [if_neg (by decide)]⟩
  · generalize hx : ({ x with bare := if x.bare.contains c then x.bare else c :: x.bare } : BankSt) = x'
    have hcause : ((s.setBank b x').setCause 11 2).z 0x210C 0 = (s.setBank b x').z 0x210C 0 ||| 2 ^ 2 :=
      State.setCause_z (br := 11) 2 (by decide) hfast
    refine ⟨State.setCause_z_ne _ 2 (by decide) (by decide) (by decide) (by decide) rfl, ?_⟩
    exact hcause ▸ bit_or_of_bit _ hset

/-- What a background fault reports of the step (R688). -/
def faultReportObjects : List (Nat × Nat) := clockObjects ++ causeObjects 11 ++ [(0xF080, 7), (0xF080, 8)]

section
variable {s : State} (f : Nat × Nat × Nat)

/-- A background fault as it is recorded, before its column is repaired. -/
def State.faultRecorded (s : State) (f : Nat × Nat × Nat) : State :=
  ((s.recordFault s.mem.tbank f.1 f.2.1 f.2.2 2).setCause 11 3).bump 0xF080 7 1

theorem State.testFault_eq (hnew : (s.bank s.mem.tbank).spared.contains (f.1 * 512 + f.2.1) = false) :
    s.testFault f = ((s.faultRecorded f).repairColumn s.mem.tbank f.1 f.2.1).2 := if_neg (by rw [hnew]; decide)

theorem State.faultRecorded_mem : (s.faultRecorded f).mem = (s.recordFault s.mem.tbank f.1 f.2.1 f.2.2 2).mem :=
  (State.bump_mem ..).trans (State.setCause_mem ..)

theorem State.faultRecorded_reports (hfast : s.mgtFast = true) : (s.faultRecorded f).z 0xF080 7 = min (s.z 0xF080 7 + 1) (2 ^ 32 - 1) ∧
    bit ((s.faultRecorded f).z 0x210C 0) 3 = true := by
  unfold State.faultRecorded
  generalize hu : s.recordFault s.mem.tbank f.1 f.2.1 f.2.2 2 = u
  have hfast' : u.mgtFast = true := hu ▸ hfast
  have hcause : (u.setCause 11 3).z 0x210C 0 = u.z 0x210C 0 ||| 2 ^ 3 := State.setCause_z (br := 11) 3 (by decide) hfast'
  have hcount : (u.setCause 11 3).z 0xF080 7 = s.z 0xF080 7 :=
    (State.setCause_z_ne u 3 (by decide) (by decide) (by decide) (by decide) rfl).trans (hu ▸ rfl)
  constructor
  · rw [State.z_bump, if_pos rfl, hcount]
  · rw [State.z_bump, if_neg (by decide), hcause]
    exact bit_or_two_pow _ 3

end

/-! ### RESTORE without a bad line -/

/-- RESTORE changes nothing but lines of the capture memory. -/
structure State.Restores (s t : State) : Prop where
  rest : t = { s with mem := t.mem }
  bank : t.mem.bank = s.mem.bank
  tregion : t.mem.tregion = s.mem.tregion
  abandoned : t.mem.abandoned = s.mem.abandoned
  abandons : t.mem.abandons = s.mem.abandons

theorem State.Restores.refl (s : State) : s.Restores s := ⟨rfl, rfl, rfl, rfl, rfl⟩

theorem State.Restores.trans {s t u : State} (h : s.Restores t) (k : t.Restores u) : s.Restores u :=
  ⟨k.rest.trans (by rw [h.rest]), k.bank.trans h.bank, k.tregion.trans h.tregion, k.abandoned.trans h.abandoned, k.abandons.trans h.abandons⟩

theorem State.restoreLine_restores (s : State) (i : Nat) : s.Restores (State.restoreLine [] s i) := by
  unfold State.restoreLine
  split
  · exact .refl s
  · exact ⟨rfl, rfl, rfl, rfl, rfl⟩

theorem State.restored_restores (s : State) {r : TestFinding} (h : r.badLines = []) : s.Restores (s.restored r) := by
  unfold State.restored
  rw [h]
  generalize List.range 64 = lines
  show s.Restores (lines.foldl (State.restoreLine []) s)
  induction lines generalizing s with
  | nil => exact .refl s
  | cons i lines ih => exact (s.restoreLine_restores i).trans (ih _)

theorem Frame.restores {parts : List Part} {objs : List (Nat × Nat)} {s u v : State} (h : Frame parts objs s u) (k : u.Restores v)
    (hmem : .mem ∈ parts := by decide) : Frame parts objs s v := k.rest ▸ h.setMem v.mem hmem

/-- What the frame of a step says of the controls of the background test. -/
theorem State.stepEnd_of_frame {parts : List Part} {objs : List (Nat × Nat)} {s u : State} (h : Frame parts objs s u) (ho : ∀ x ∈ objs, x.1 ≠ 0x5400) :
    u.stepEnd.mem = { u.mem with
      phase := if s.b 0x5400 1 then 5 else 0, save := [], abandoned := false, nextStep := u.now + s.n 0x5400 2 * 1000 } := by
  have hn (k : Nat) (hk : k < 256) : u.n 0x5400 k = s.n 0x5400 k := congrArg valNum (h.val_of_index ho hk)
  have hb : u.b 0x5400 1 = s.b 0x5400 1 := congrArg (fun n => decide (n = 1)) (hn 1 (by decide))
  unfold State.stepEnd
  rw [hb, hn 2 (by decide)]

theorem Frame.regionDone {parts : List Part} {objs : List (Nat × Nat)} {s u : State} (h : Frame parts objs s u) (hmem : .mem ∈ parts := by decide) :
    Frame parts objs s u.regionDone := (h.setMem _ hmem).ite (h.setMem _ hmem)

theorem Frame.stepEnd {parts : List Part} {objs : List (Nat × Nat)} {s u : State} (h : Frame parts objs s u) (hmem : .mem ∈ parts := by decide) :
    Frame parts objs s u.stepEnd := h.setMem _ hmem

/-- The region done leaves all but the marks of its visit. -/
theorem State.regionDone_mem (s : State) : ∃ v p, s.regionDone.mem = { s.mem with visited := v, passes := p } ∧
    (s.mem.tregion + 1 < 512 → s.bankReady s.mem.tbank = true → v = 1 ∧ p = s.mem.passes) := by
  unfold State.regionDone
  split
  · next hends =>
    refine ⟨2, _, rfl, fun hmore hready => ?_⟩
    simp [State.passEnds, hmore, hready] at hends
  · exact ⟨1, _, rfl, fun _ _ => ⟨rfl, rfl⟩⟩

/-! ### The clauses -/

section
variable (s : State) (r : TestFinding)

theorem State.phaseElapse_frame : Frame [.now, .time, .mem] clockObjects s (s.elapseTo s.mem.phaseEnd) := (Frame.refl s).elapseTo _

theorem savePhase_completes (h : s.mem.phase = 1) : Completes (.backgroundPhaseDone r) s [.now, .time, .mem] clockObjects fun t =>
    t.now = max s.now s.mem.phaseEnd ∧ t.mem = { s.mem with phase := 2, phaseEnd := t.now + 5120 } := by
  refine completes_of_frame (congrArg s.ends (State.phaseDone_save r h)) (s.phaseElapse_frame.setMem _) ⟨?_, ?_⟩
  · rw [State.ended_now]
    exact s.elapseTo_now _
  · rw [State.ended_mem, State.ended_now]
    exact congrArg (fun m : Memory => { m with phase := 2, phaseEnd := (s.elapseTo s.mem.phaseEnd).now + 5120 }) (s.elapseTo_mem _)

theorem cleanTest_completes (h : s.mem.phase = 2) (hclean : r.faults = []) :
    Completes (.backgroundPhaseDone r) s [.now, .time, .mem] clockObjects fun t =>
      t.now = max s.now s.mem.phaseEnd ∧ t.mem = { s.mem with phase := 3, phaseEnd := t.now + 512 } := by
  have hdone := State.phaseDone_test r h
  rw [hclean, List.foldl_nil] at hdone
  refine completes_of_frame (congrArg s.ends hdone) (s.phaseElapse_frame.setMem _) ⟨?_, ?_⟩
  · rw [State.ended_now]
    exact s.elapseTo_now _
  · rw [State.ended_mem, State.ended_now]
    exact congrArg (fun m : Memory => { m with phase := 3, phaseEnd := (s.elapseTo s.mem.phaseEnd).now + 512 }) (s.elapseTo_mem _)

theorem faultyTest_completes (f : Nat × Nat × Nat) (h : s.mem.phase = 2) (hfault : r.faults = [f])
    (hnew : (s.bank s.mem.tbank).spared.contains (f.1 * 512 + f.2.1) = false) (hfast : s.mgtFast = true) :
    Completes (.backgroundPhaseDone r) s [.now, .time, .mem, .latch] faultReportObjects fun t =>
      t.mem.phase = 3 ∧ t.mem.faultBank = s.mem.tbank ∧ t.mem.faultSub = f.1 ∧ t.mem.faultCol = f.2.1 ∧ t.mem.faultRow = f.2.2 ∧
      t.mem.faultSrc = 2 ∧ bit (t.z 0x210C 0) 3 = true ∧ t.z 0xF080 7 = min (s.z 0xF080 7 + 1) (2 ^ 32 - 1) := by
  have hdone := State.phaseDone_test r h
  rw [hfault, List.foldl_cons, List.foldl_nil] at hdone
  have hf : Frame [.now, .time, .mem, .latch] faultReportObjects s (s.elapseTo s.mem.phaseEnd) := (Frame.refl s).elapseTo _
  have hmem := s.elapseTo_mem s.mem.phaseEnd
  have hfast' := hf.mgtFast_eq.trans hfast
  have hz : (s.elapseTo s.mem.phaseEnd).z 0xF080 7 = s.z 0xF080 7 := (s.phaseElapse_frame).z_eq
  generalize s.elapseTo s.mem.phaseEnd = u at hdone hf hmem hfast' hz
  have hnew' : (u.bank u.mem.tbank).spared.contains (f.1 * 512 + f.2.1) = false := by
    unfold State.bank at hnew ⊢
    rw [hmem]
    exact hnew
  rw [u.testFault_eq f hnew'] at hdone
  have hrecorded : Frame [.now, .time, .mem, .latch] faultReportObjects s (u.faultRecorded f) := ((hf.setMem _).setCause 11 3).bump 0xF080 7 1
  obtain ⟨hcount, hset⟩ := u.faultRecorded_reports f hfast'
  have hrmem := u.faultRecorded_mem f
  have hrfast := hrecorded.mgtFast_eq.trans hfast
  obtain ⟨m, hm⟩ := (u.faultRecorded f).repairColumn_mem u.mem.tbank f.1 f.2.1
  obtain ⟨hcount', hset'⟩ := (u.faultRecorded f).repairColumn_reports u.mem.tbank f.1 f.2.1 hrfast hset
  have hrepaired := hrecorded.repairColumn u.mem.tbank f.1 f.2.1
  generalize ((u.faultRecorded f).repairColumn u.mem.tbank f.1 f.2.1).2 = v at hdone hm hcount' hset' hrepaired
  rw [hrmem] at hm
  have hend : (s.ended (v.nextPhase 3 512)).mem = { v.mem with phase := 3, phaseEnd := v.now + 512 } := State.ended_mem ..
  refine completes_of_frame (congrArg s.ends hdone) (hrepaired.setMem _) ?_
  rw [hend, hm, State.ended_z _ _, State.ended_z _ _]
  exact ⟨rfl, congrArg Memory.tbank hmem, rfl, rfl, rfl, rfl, hset', hcount'.trans (hcount.trans (by rw [hz]))⟩

/-- RESTORE at its real time. -/
theorem State.restoredAt (hbad : r.badLines = []) : ∃ v, v = (s.elapseTo s.mem.phaseEnd).restored r ∧
    Frame [.now, .time, .mem] clockObjects s v ∧ v.mem.bank = s.mem.bank ∧ v.mem.tregion = s.mem.tregion ∧
      v.mem.abandoned = s.mem.abandoned ∧ v.mem.abandons = s.mem.abandons := by
  have hr := (s.elapseTo s.mem.phaseEnd).restored_restores hbad
  have hmem := s.elapseTo_mem s.mem.phaseEnd
  refine ⟨_, rfl, s.phaseElapse_frame.restores hr, ?_, ?_, ?_, ?_⟩
  · rw [hr.bank, hmem]
  · rw [hr.tregion, hmem]
  · rw [hr.abandoned, hmem]
  · rw [hr.abandons, hmem]

theorem wholeRestore_completes (h : s.mem.phase = 3) (hwhole : s.mem.abandoned = false) (hbad : r.badLines = []) :
    Completes (.backgroundPhaseDone r) s [.now, .time, .mem] clockObjects fun t =>
      t.mem.phase = 4 ∧ t.mem.bank = s.mem.bank ∧ t.mem.phaseEnd = t.now + 511 := by
  obtain ⟨v, hv, hf, hbank, -, habandoned, -⟩ := s.restoredAt r hbad
  have hdone := State.phaseDone_restore r h
  rw [← hv, habandoned, hwhole, if_neg Bool.false_ne_true] at hdone
  refine completes_of_frame (congrArg s.ends hdone) (hf.setMem _) ?_
  rw [State.ended_mem, State.ended_now]
  exact ⟨rfl, hbank, rfl⟩

theorem abandonedRestore_completes (h : s.mem.phase = 3) (habandoned : s.mem.abandoned = true) (hbad : r.badLines = [])
    (hfew : s.mem.abandons < s.n 0x5400 3) : Completes (.backgroundPhaseDone r) s [.now, .time, .mem] clockObjects fun t =>
      t.mem.phase = (if s.b 0x5400 1 then 5 else 0) ∧ t.mem.abandoned = false ∧ t.mem.save = [] ∧
      t.mem.tregion = s.mem.tregion ∧ t.mem.nextStep = t.now + s.n 0x5400 2 * 1000 := by
  obtain ⟨v, hv, hf, -, hregion, habandoned', habandons⟩ := s.restoredAt r hbad
  have hlimit : v.n 0x5400 3 = s.n 0x5400 3 := hf.n_eq
  have hfew' : ¬v.n 0x5400 3 ≤ v.mem.abandons := by omega
  have hend : v.abandonEnd = v.stepEnd := congrArg State.stepEnd (if_neg hfew')
  have hdone := State.phaseDone_restore r h
  rw [← hv, habandoned', habandoned, if_pos rfl, hend] at hdone
  refine completes_of_frame (congrArg s.ends hdone) hf.stepEnd ?_
  rw [State.ended_mem, State.ended_now, State.stepEnd_of_frame hf (by decide)]
  exact ⟨rfl, rfl, rfl, hregion, rfl⟩

theorem cleanCompare_completes (h : s.mem.phase = 4) (hclean : r.faults = []) :
    Completes (.backgroundPhaseDone r) s [.now, .time, .mem] (clockObjects ++ [(0xF080, 4)]) fun t =>
      t.mem.phase = (if s.b 0x5400 1 then 5 else 0) ∧ t.mem.save = [] ∧ t.mem.cells = s.mem.cells ∧
      t.mem.nextStep = t.now + s.n 0x5400 2 * 1000 ∧ t.z 0xF080 4 = min (s.z 0xF080 4 + 1) (2 ^ 64 - 1) ∧
      t.mem.tbank = s.mem.tbank ∧ t.mem.tregion = s.mem.tregion ∧ t.mem.abandons = 0 ∧
      (s.mem.tregion + 1 < 512 → s.bankReady s.mem.tbank = true → t.mem.visited = 1 ∧ t.mem.passes = s.mem.passes) := by
  obtain ⟨u, hu, hdone⟩ := State.phaseDone_compare r h
  rw [hclean, List.foldl_nil] at hu
  have helapsed : Frame [.now, .time, .mem] (clockObjects ++ [(0xF080, 4)]) s (s.elapseTo s.mem.phaseEnd) := (Frame.refl s).elapseTo _
  have hf : Frame [.now, .time, .mem] (clockObjects ++ [(0xF080, 4)]) s u := hu ▸ helapsed.put 0xF080 4 _
  have hmem : u.mem = s.mem := hu ▸ s.elapseTo_mem s.mem.phaseEnd
  have hz : u.z 0xF080 4 = min (s.z 0xF080 4 + 1) (2 ^ 64 - 1) := by
    rw [hu, State.z_bumpW, if_pos rfl, s.phaseElapse_frame.z_eq]
  generalize hw : ({ u with mem := { u.mem with abandons := 0 } } : State) = w at hdone
  have hfw : Frame [.now, .time, .mem] (clockObjects ++ [(0xF080, 4)]) s w := hw ▸ hf.setMem _
  have hwmem : w.mem = { s.mem with abandons := 0 } := hw ▸ congrArg (fun m : Memory => { m with abandons := 0 }) hmem
  have hwz : w.z 0xF080 4 = u.z 0xF080 4 := hw ▸ rfl
  obtain ⟨visited, passes, hregion, hnext⟩ := w.regionDone_mem
  have hrz : w.regionDone.stepEnd.z 0xF080 4 = w.z 0xF080 4 := by
    show w.regionDone.z 0xF080 4 = _
    unfold State.regionDone
    split <;> rfl
  refine completes_of_frame (congrArg s.ends hdone) hfw.regionDone.stepEnd ?_
  rw [State.ended_mem, State.ended_now, State.ended_z _ _, State.stepEnd_of_frame hfw.regionDone (by decide), hregion, hrz, hwz, hz]
  have hkept : w.mem.cells = s.mem.cells ∧ w.mem.bank = s.mem.bank ∧ w.mem.tbank = s.mem.tbank ∧ w.mem.tregion = s.mem.tregion ∧
      w.mem.passes = s.mem.passes ∧ w.mem.abandons = 0 := by
    rw [hwmem]
    exact ⟨rfl, rfl, rfl, rfl, rfl, rfl⟩
  obtain ⟨hcells, hbank, htbank, htregion, hpasses, habandons⟩ := hkept
  refine ⟨rfl, rfl, hcells, rfl, rfl, htbank, htregion, habandons, fun hmore hready => ?_⟩
  have hready' : w.bankReady w.mem.tbank = true := by
    rw [State.bankReady_of_bank hbank, htbank]
    exact hready
  obtain ⟨hv, hp⟩ := hnext (by rw [htregion]; exact hmore) hready'
  exact ⟨hv, hp.trans hpasses⟩

end

theorem backgroundTestSteps : Claims.BackgroundTestSteps := by
  intro s
  have hmem := s.elapseTo_mem s.mem.nextStep
  have hready : (s.elapseTo s.mem.nextStep).bankReady (s.elapseTo s.mem.nextStep).mem.tbank = s.bankReady s.mem.tbank := by
    rw [hmem]
    exact State.bankReady_of_bank (congrArg Memory.bank hmem) _
  refine ⟨fun hphase hup hr hvisited => ?_, fun _ hdown => ?_, fun r => ⟨savePhase_completes s r, cleanTest_completes s r,
    faultyTest_completes s r, wholeRestore_completes s r, abandonedRestore_completes s r, cleanCompare_completes s r⟩,
    fun hphase hup hr hvisited hmore => ?_⟩
  · have hgo := State.goOn_of_unvisited (hready.trans hr) (by rw [hmem]; exact hvisited)
    obtain ⟨hnow, hph, hab, htbank, htregion, hcells, -, -, hsaved⟩ :=
      State.testStep_spec hphase hup hgo (by rw [hmem]; exact hphase) (hready.trans hr)
    refine ⟨s.ended s.testStep, rfl, ?_⟩
    simp only [State.ended_now, State.ended_mem]
    rw [hmem] at htbank htregion hcells
    refine ⟨hnow.trans (s.elapseTo_now _), hph, hab, htbank, htregion, hcells, fun i hi hb => ?_⟩
    have hline : (s.elapseTo s.mem.nextStep).testLine i = s.testLine i := by unfold State.testLine; rw [hmem]
    have hs := hsaved i hi (by rw [hline, State.bankReady_of_bank (congrArg Memory.bank hmem)]; exact hb)
    rwa [hline, hmem] at hs
  · have hstay : s.testStep = s := if_pos (.inr hdown)
    exact completes_of_frame (congrArg s.ends hstay) (.refl s) trivial
  · have hgo := State.goOn_of_visited (hready.trans hr) (by rw [hmem]; exact hvisited) (by rw [hmem]; exact hmore)
    rw [hmem] at hgo
    obtain ⟨-, hph, -, htbank, htregion, hcells, hv, hab, -⟩ := State.testStep_spec hphase hup hgo hphase
      ((State.bankReady_of_bank (s := s) rfl _).trans hr)
    refine ⟨s.ended s.testStep, rfl, ?_⟩
    simp only [State.ended_mem]
    exact ⟨hph, hv, hab, htbank, htregion, hcells⟩

/-! ### The wipe of the vault -/

theorem Frame.mgtUp_eq {parts : List Part} {objs : List (Nat × Nat)} {s u : State} (h : Frame parts objs s u)
    (hboot : .boot ∉ parts := by decide) (hclk : .clk ∉ parts := by decide) (hpower : .power ∉ parts := by decide) :
    u.mgtUp = s.mgtUp := by
  have hclock : u.clk = s.clk := h.part .clk hclk
  have hdom : u.dom .mgt = s.dom .mgt := State.dom_congr (congrArg Clocks.dom hclock) (h.part .power hpower) .mgt
  unfold State.mgtUp
  rw [h.up_eq hboot, hdom]

theorem vaultWipes : Claims.VaultWipes := by
  intro s
  refine ⟨fun r hstate hpending => ?_, fun hpending hstate htr hup => ?_⟩
  · have hwipe : s.vaultWipe = { s with sec := { s.sec with
        k1 := none, records := [], badRegion := [], vaultState := 1, wipeReason := r, wipeAt := s.now } } := by
      refine (if_neg hstate).trans ?_
      unfold State.startWipe
      rw [hpending]
      rfl
    exact completes_of_frame (congrArg s.ends hwipe) ((Frame.refl s).setSec _) (State.ended_sec ..)
  · generalize hu : s.elapseTo (s.sec.wipeAt + 32768) = u
    generalize hw : ({ u with sec := { u.sec with vaultState := u.vaultAfter, vaultTag := fusedState u.sec.fuses, wipePending := none } } : State) = w
    have hf : Frame [.now, .time, .sec, .latch] (clockObjects ++ causeObjects 15 ++ [(0xF080, 11)]) s u := hu ▸ (Frame.refl s).elapseTo _
    have hfw : Frame [.now, .time, .sec, .latch] (clockObjects ++ causeObjects 15 ++ [(0xF080, 11)]) s w := hw ▸ hf.setSec _
    have husec : u.sec = s.sec := hu ▸ s.elapseTo_sec _
    have hafter : u.vaultAfter = s.vaultAfter := by
      unfold State.vaultAfter State.bank
      rw [← hu, s.elapseTo_mem]
    have hwsec : w.sec = { s.sec with vaultState := s.vaultAfter, vaultTag := fusedState s.sec.fuses, wipePending := none } := by
      rw [← hw, ← hafter, ← husec]
    have hdone : s.wipeDone = (w.setCause 15 3).bump 0xF080 11 1 := by
      have hsec : ((w.setCause 15 3).bump 0xF080 11 1).sec = w.sec := (State.bump_sec ..).trans (State.setCause_sec ..)
      have hend : ((w.setCause 15 3).bump 0xF080 11 1).transitionDone = (w.setCause 15 3).bump 0xF080 11 1 :=
        if_pos (by rw [hsec, hwsec]; exact htr)
      rw [← hend, ← hw, ← hu]
      exact if_neg (by rintro (h | h) <;> simp_all)
    have hcause : (w.setCause 15 3).z 0x2110 0 = w.z 0x2110 0 ||| 2 ^ 3 := State.setCause_z_up (br := 15) 3 (by decide) (by decide) (hfw.mgtUp_eq.trans hup)
    have hz : w.z 0x2110 0 = s.z 0x2110 0 ∧ w.z 0xF080 11 = s.z 0xF080 11 := by
      rw [← hw, ← hu]
      exact ⟨((Frame.refl s).elapseTo (parts := [.now, .time]) (objs := clockObjects) _).z_eq, ((Frame.refl s).elapseTo (parts := [.now, .time]) (objs := clockObjects) _).z_eq⟩
    refine completes_of_frame (congrArg s.ends hdone) ((hfw.setCause 15 3).bump 0xF080 11 1) ⟨?_, ?_, ?_, ?_⟩
    · rw [State.ended_sec, State.bump_sec, State.setCause_sec, hwsec]
    · rw [State.ended_now, State.bump_now, State.setCause_now, ← hw, ← hu]
      exact s.elapseTo_now _
    · rw [State.ended_z _ _, State.z_bump, if_neg (by decide), hcause, hz.1]
      rfl
    · rw [State.ended_z _ _, State.z_bump, if_pos rfl, State.setCause_z_ne w 3 (by decide) (by decide) (by decide) (by decide) rfl, hz.2]

/-- Settles O52: a step of the background test, phase by phase, and the wipe of the vault. -/
theorem backgroundTestAndVaultWipe : Obligations.BackgroundTestAndVaultWipe := ⟨backgroundTestSteps, vaultWipes⟩

end Sys2Proof.Machine
end

section
/-! PROOF. A write of the integrator key over a stored value whose parity is bad (R245). -/
set_option Elab.async false
namespace Sys2Proof.Machine

/-- A level 2 session on JTAG, and a word of 9020h:1 that is known to be bad. -/
def badKeyWord : State :=
  { State.reset with
    boot := { State.reset.boot with step := 14 }
    clk := { State.reset.clk with netsOut := false, dom := [(domNo .mgt, { src := 0, inReset := false, running := true })] }
    acc := { State.reset.acc with path := [(4, { session := some ⟨0, 2, 0⟩ })] }
    badWords := [key 0x9020 1 * 1024] }

/-- The write rewrites the words of the object, and none is known to be bad behind it. -/
theorem badKeyWord_is_rewritten : ∃ t, exec (.integratorKeyWrite ⟨.jtag, 0⟩ (zeros 32)) badKeyWord = .next t ∧ t.badWords = [] :=
  ⟨_, rfl, by decide +kernel⟩

/-- Refutes O59: its clause of the integrator key asks that an accepted write change no part but the keys, the access state and the output,
and leaves out that no word of the object be known to be bad, as the statement of the sessions asks for 1010h:3; an accepted write over
such a word (`badKeyWord`) takes it off the list of bad words (R245). -/
theorem not_lifeCycleKeysAndRecords : ¬ Obligations.LifeCycleKeysAndRecords := by
  rintro ⟨-, hkeys⟩
  have halone : Alone badKeyWord := ⟨by decide, by decide, rfl, rfl, rfl⟩
  obtain ⟨hwrites, -⟩ := hkeys badKeyWord ⟨.jtag, 0⟩ (zeros 32)
  obtain ⟨hintegrator, -⟩ := hwrites halone ⟨by decide +kernel, by decide +kernel⟩
  obtain ⟨t, ht, ⟨-, hparts⟩, -⟩ := hintegrator (by decide +kernel) (by decide +kernel)
  obtain ⟨u, hu, hclean⟩ := badKeyWord_is_rewritten
  obtain rfl : t = u := Host.Outcome.next.inj (ht.symm.trans hu)
  have hbad : t.badWords = badKeyWord.badWords := hparts .badWords (by decide)
  rw [hbad] at hclean
  exact absurd hclean (by decide)

end Sys2Proof.Machine
end

section
/-! PROOF. Sessions, their challenges and their timers (R787-R791). -/
set_option Elab.async false
namespace Sys2Proof.Machine

/-! ### A request for a session -/

/-- The row of a session's level. -/
def levelRow : Row := ⟨0x1010, 0x1010, 1, 1, .u8, .l, 0, 0, 0, .any, 0xff, 1⟩

section
variable {s : State} {w : Who}

theorem accepted_level_effect (v : BitVec 8) (h : Accepted s w 0x1010 1 v.toNat) :
    (s.accepted w).liveEffect (s.access w 0x1010 1) (storedVal levelRow 0x1010 1 v.toNat) =
      (s.accepted w).requestSession (s.access w 0x1010 1) v.toNat := by
  obtain ⟨-, -, hbad, -⟩ := h
  rw [storedVal_u8 (show findRow 0x1010 1 = some levelRow from rfl) rfl rfl v.isLt]
  show ((s.accepted w).rewritten (key 0x1010 1)).requestSession (s.access w 0x1010 1) v.toNat = _
  rw [State.rewritten_eq ((s.knownBad_accepted w 0x1010 1).trans hbad)]

theorem sessionRequest_completes (halone : Alone s) (v : BitVec 8) (h : Accepted s w 0x1010 1 v.toNat) (hlevel : v.toNat ≠ 0) :
    Completes (.sessionRequest w v) s [.free, .sec, .acc, .out] accessObjects fun t =>
      (t.path (pathNo w.path)).challenge = some ⟨s.requester w, v.toNat,
        leBytes 24 (Config.freeNat s.free) ++ leBytes 8 (s.sec.challenges + 1), s.now⟩ ∧
      t.sec = { s.sec with challenges := s.sec.challenges + 1 } ∧ t.free = s.free + 1 := by
  have hf := Frame.accepted (parts := [.acc]) (objs := accessObjects) s w
  have hsec : (s.accepted w).sec = s.sec := hf.part .sec (by decide)
  have hfree : (s.accepted w).free = s.free := hf.part .free (by decide)
  have heff := (accepted_level_effect v h).trans (if_neg hlevel)
  have hframe : Frame [.free, .sec, .acc, .out] accessObjects s ((s.accepted w).issueChallenge (s.access w 0x1010 1).path (s.access w 0x1010 1).req v.toNat) :=
    ((((Frame.accepted s w).drawn).setSec _)).setPath _ _
  refine completes_of_access rfl (show findRow 0x1010 1 = some levelRow from rfl) rfl (by decide) halone h heff hframe ⟨?_, ?_, ?_⟩
  · rw [State.ended_path (g := PathSt.challenge), State.answered_path]
    show (((((s.accepted w).drawn).setPath (pathNo w.path) _)).path (pathNo w.path)).challenge = _
    rw [State.path_setPath, if_pos rfl]
    show some (⟨s.requester w, v.toNat, leBytes 24 (Config.freeNat (s.accepted w).free) ++ leBytes 8 ((s.accepted w).sec.challenges + 1), (s.accepted w).now⟩ : Challenge) = _
    rw [hsec, hfree, State.accepted_now]
  · rw [State.ended_sec]
    show ({ (s.accepted w).sec with challenges := (s.accepted w).sec.challenges + 1 } : Security) = _
    rw [hsec]
  · rw [State.ended_free]
    show (s.accepted w).free + 1 = _
    rw [hfree]

theorem sessionClose_completes (halone : Alone s) (v : BitVec 8) (h : Accepted s w 0x1010 1 v.toNat) (hlevel : v.toNat = 0) {c : Instr}
    (hc : exec c s = s.ends (s.writeNum w 0x1010 1 v.toNat)) :
    Completes c s [.acc, .out] accessObjects fun t => (t.path (pathNo w.path)).session = none ∧ (t.path (pathNo w.path)).challenge = none := by
  have heff := (accepted_level_effect v h).trans (if_pos hlevel)
  generalize hu : ((s.accepted w).closeSession (s.access w 0x1010 1).path).setPath (s.access w 0x1010 1).path
    { ((s.accepted w).closeSession (s.access w 0x1010 1).path).path (s.access w 0x1010 1).path with level := 0 } = u at heff
  have hpath : u.path (pathNo w.path) = { ((s.accepted w).closeSession (pathNo w.path)).path (pathNo w.path) with level := 0 } := by
    rw [← hu]
    exact (State.path_setPath ..).trans (if_pos rfl)
  have hclosed : ((s.accepted w).closeSession (pathNo w.path)).path (pathNo w.path) =
      { (s.accepted w).path (pathNo w.path) with session := none, challenge := none } := (State.path_setPath ..).trans (if_pos rfl)
  have hframe : Frame [.acc, .out] accessObjects s u := hu ▸ ((Frame.accepted s w).setPath _ _).setPath _ _
  refine completes_of_access hc (show findRow 0x1010 1 = some levelRow from rfl) rfl (by decide) halone h heff hframe ?_
  rw [State.ended_path (g := PathSt.session), State.ended_path (g := PathSt.challenge), State.answered_path, hpath, hclosed]
  exact ⟨rfl, rfl⟩

end

/-! ### The response -/

/-- The row of a response. -/
def responseRow : Row := ⟨0x1010, 0x1010, 3, 3, .octets, .l, 0, 0, 0, .len 32, 0x0, 32⟩

theorem State.writeRow_response {s : State} {a : Acc} (hidx : a.idx = 0x1010) (hsub : a.sub = 3) (o : Octets) {c : Nat}
    (hcode : (s.writeRow responseRow a o none).1 = c) (hc : c = 0 ∨ c = 0x0201) :
    s.writeRow responseRow a o none = s.response a.path a.req o := by
  have hlevel : s.writeLevel responseRow a = 0 := if_neg (by simp [hidx])
  have hforced : forcedLevel a (octetsVal responseRow.ty o) = false := by simp [forcedLevel, hidx]
  have hhead : s.headCode responseRow a o.length none = 0 ∨ s.headCode responseRow a o.length none = 0x0203 ∨
      s.headCode responseRow a o.length none = 0x0301 := by
    have hchecks : s.headCode responseRow a o.length none = if accessWithheld s.sec.lcs a.idx a.sub true then 0x0203
        else if a.level < s.writeLevel responseRow a then 0x0201 else if lengthOk responseRow o.length none then 0 else 0x0301 := rfl
    rw [hchecks, hlevel, if_neg (Nat.not_lt_zero a.level)]
    split
    · exact .inr (.inl rfl)
    · split
      · exact .inl rfl
      · exact .inr (.inr rfl)
  have hchecks : s.writeRow responseRow a o none = if s.headCode responseRow a o.length none ≠ 0 then (s.headCode responseRow a o.length none, s)
      else if !typeOk .octets (.oct o) || !s.valueOk responseRow a.idx a.sub (.oct o) then (0x0302, s) else s.liveWrite a (.oct o) := by
    unfold State.writeRow
    dsimp only
    rw [hforced]
    rfl
  have hlive : s.liveWrite a (.oct o) = if s.k1Bad a then (0x0701, s.requestWipe 4) else s.response a.path a.req o := if_pos ⟨hidx, hsub⟩
  rw [hchecks] at hcode ⊢
  split_ifs at hcode ⊢
  · dsimp only at hcode
    omega
  · dsimp only at hcode
    omega
  · rw [hlive] at hcode ⊢
    split_ifs at hcode ⊢
    · dsimp only at hcode
      omega
    · rfl

section
variable {s : State} {w : Who}

theorem State.closeIdle_challenge (s : State) (p : Nat) : ((s.closeIdle p).path p).challenge = (s.path p).challenge := by
  unfold State.closeIdle
  split
  · split
    · show ((s.setPath p _).path p).challenge = _
      rw [State.path_setPath, if_pos rfl]
    · rfl
  · rfl

theorem State.accepted_late (s : State) (w : Who) : (s.accepted w).late .mgt = s.late .mgt :=
  State.late_mgt (State.dom_congr (congrArg Clocks.dom (s.accepted_clk w)) (s.accepted_power w) _) (s.accepted_now w)

/-- Acceptance of an access closes a session, and leaves what tells a challenge's limit (R791). -/
theorem Frame.closeIdle {parts : List Part} {objs : List (Nat × Nat)} {s u : State} (h : Frame parts objs s u) (p : Nat)
    (hm : .acc ∈ parts := by decide) (ho : (0xF098, 3) ∈ objs := by decide) : Frame parts objs s (u.closeIdle p) := by
  unfold State.closeIdle
  split
  · exact ((h.setPath p _ hm).bump 0xF098 3 1 ho).ite h
  · exact h

/-- A challenge within its limit outlasts the acceptance of an access (R789). -/
theorem State.accepted_challenge {c : Challenge} (h : (s.path (pathNo w.path)).challenge = some c)
    (hlive : s.late .mgt c.since s.challengeLimit = false) : ((s.accepted w).path (pathNo w.path)).challenge = some c := by
  have hclosed := (s.closeIdle_challenge (pathNo w.path)).trans h
  have hf : Frame [.acc] accessObjects s (s.closeIdle (pathNo w.path)) := (Frame.refl s).closeIdle _
  have hlate : (s.closeIdle (pathNo w.path)).late .mgt c.since (s.closeIdle (pathNo w.path)).challengeLimit = false := by
    have hlimit : (s.closeIdle (pathNo w.path)).challengeLimit = s.challengeLimit := congrArg (· * 1000000) hf.n_eq
    have hclk : (s.closeIdle (pathNo w.path)).clk = s.clk := hf.part .clk (by decide)
    rw [hlimit, State.late_mgt (State.dom_congr (congrArg Clocks.dom hclk) (hf.part .power (by decide)) _) (hf.part .now (by decide))]
    exact hlive
  unfold State.accepted State.accept
  generalize s.closeIdle (pathNo w.path) = u at hclosed hlate ⊢
  show ((u.setPath (pathNo w.path) _).path (pathNo w.path)).challenge = _
  rw [State.path_setPath, if_pos rfl]
  simp only [hclosed, hlate, Bool.false_eq_true, if_false]
  split
  · split
    · rfl
    · exact hclosed
  · exact hclosed

theorem State.accepted_liveChallenge {c : Challenge} (h : (s.path (pathNo w.path)).challenge = some c)
    (hlive : s.late .mgt c.since s.challengeLimit = false) (req : Nat) :
    (s.accepted w).liveChallenge (pathNo w.path) req = if c.req = req then some c else none := by
  have hlimit : (s.accepted w).challengeLimit = s.challengeLimit := congrArg (· * 1000000) (s.accepted_n w)
  unfold State.liveChallenge
  rw [State.accepted_challenge h hlive]
  dsimp only
  rw [State.accepted_late, hlimit, hlive]
  by_cases hreq : c.req = req
  · rw [if_pos ⟨hreq, rfl⟩, if_pos hreq]
  · rw [if_neg fun hand => hreq hand.1, if_neg hreq]

/-- The response that a challenge asks for (R787, R789). -/
def State.rightResponse (s : State) (p : Nat) (c : Challenge) : Octets := hmac (s.levelKey c.level) (authMessage c p)

/-- The right response has opened the session. -/
def State.opened (s : State) (p req : Nat) (c : Challenge) : State :=
  (s.setPath p { s.path p with challenge := none, session := some ⟨req, c.level, s.now⟩, fails := 0 }).bump 0xF098 1 1

/-- A wrong response has used up the challenge. -/
def State.failedResponse (s : State) (p : Nat) : State :=
  ((s.setPath p { s.path p with challenge := none, fails := min 255 ((s.path p).fails + 1), failAt := s.now }).setCause 15 2).bump 0xF098 2 1

theorem State.response_live {p req : Nat} {c : Challenge} (h : s.liveChallenge p req = some c) (o : Octets) :
    s.response p req o = if o = s.rightResponse p c then (0, s.opened p req c) else (0x0201, s.failedResponse p) := by
  unfold State.response
  rw [h]
  rfl

theorem State.response_stale {p req : Nat} (h : s.liveChallenge p req = none) (o : Octets) : s.response p req o = (0x0303, s) := by
  unfold State.response
  rw [h]

theorem State.accepted_levelKey (level : Nat) : (s.accepted w).levelKey level = s.levelKey level := by
  have hsec : (s.accepted w).sec = s.sec := (Frame.accepted (parts := [.acc]) (objs := accessObjects) s w).part .sec (by decide)
  unfold State.levelKey
  rw [hsec]

/-- A response that its challenge meets, or misses, is served so (R789). -/
theorem State.serveResponse {c : Challenge} (o : Octets) (h : (s.path (pathNo w.path)).challenge = some c)
    (hlive : s.late .mgt c.since s.challengeLimit = false) {code : Nat}
    (hcode : (s.serveWrite (pathNo w.path) (s.requester w) 0x1010 3 o none).1 = code) (hc : code = 0 ∨ code = 0x0201) :
    c.req = s.requester w ∧
      ((code = 0 ∧ o = s.rightResponse (pathNo w.path) c ∧ s.serveWrite (pathNo w.path) (s.requester w) 0x1010 3 o none =
        (0, ((s.accepted w).opened (pathNo w.path) (s.requester w) c).bump 0xF000 3 1)) ∨
      (code = 0x0201 ∧ o ≠ s.rightResponse (pathNo w.path) c ∧ s.serveWrite (pathNo w.path) (s.requester w) 0x1010 3 o none =
        (0x0201, ((s.accepted w).failedResponse (pathNo w.path)).refuse (s.access w 0x1010 3) 0x0201))) := by
  rw [State.serveWrite_of_row (show findRow 0x1010 3 = some responseRow from rfl)] at hcode ⊢
  have hright : (s.accepted w).rightResponse (pathNo w.path) c = s.rightResponse (pathNo w.path) c :=
    congrArg (fun k => hmac k (authMessage c (pathNo w.path))) (State.accepted_levelKey c.level)
  have hrow : ((s.accepted w).writeRow responseRow (s.access w 0x1010 3) o none).1 = code := by
    split_ifs at hcode with h0
    · exact h0.trans hcode
    · exact hcode
  have hresponse : (s.accepted w).writeRow responseRow (s.access w 0x1010 3) o none = (s.accepted w).response (pathNo w.path) (s.requester w) o :=
    State.writeRow_response rfl rfl o hrow hc
  rw [hresponse] at hrow ⊢
  have hchallenge := State.accepted_liveChallenge h hlive (s.requester w)
  by_cases hreq : c.req = s.requester w
  · rw [if_pos hreq] at hchallenge
    rw [State.response_live hchallenge, hright] at hrow
    have hserved : (s.accepted w).response (pathNo w.path) (s.requester w) o =
        if o = s.rightResponse (pathNo w.path) c then (0, (s.accepted w).opened (pathNo w.path) (s.requester w) c)
        else (0x0201, (s.accepted w).failedResponse (pathNo w.path)) := (State.response_live hchallenge o).trans (by rw [hright])
    rw [hserved]
    refine ⟨hreq, ?_⟩
    by_cases ho : o = s.rightResponse (pathNo w.path) c
    · rw [if_pos ho] at hrow ⊢
      exact .inl ⟨hrow.symm, ho, rfl⟩
    · rw [if_neg ho] at hrow ⊢
      exact .inr ⟨hrow.symm, ho, rfl⟩
  · rw [if_neg hreq] at hchallenge
    rw [State.response_stale hchallenge] at hrow
    exact absurd hrow (by dsimp only; omega)

end

/-! ### The clauses of the response -/

section
variable {s : State} {w : Who}

/-- A lone device ends a served response with what serving it left, and its answer. -/
theorem exec_sessionResponse {u : State} {o : Octets} {code : Nat} {parts : List Part} {objs : List (Nat × Nat)} (halone : Alone s) (hserved : Served s w)
    (hserve : s.serveWrite (pathNo w.path) (s.requester w) 0x1010 3 o none = (code, u)) (hf : Frame parts objs s u)
    (hboot : .boot ∉ parts := by decide) (hpair : .pair ∉ parts := by decide) (hcoh : .coh ∉ parts := by decide) (hout : .out ∈ parts := by decide) :
    exec (.sessionResponse w o) s = s.ends (u.emit (.answer w code [])) :=
  exec_dictWrite_served (idx := 0x1010#16) (sub := 3#8) (ty := none) halone hserved hserve hf hboot hpair hcoh hout

theorem State.opened_path (s : State) (p req : Nat) (c : Challenge) :
    (s.opened p req c).path p = { s.path p with challenge := none, session := some ⟨req, c.level, s.now⟩, fails := 0 } :=
  (State.path_setPath ..).trans (if_pos rfl)

theorem rightResponse_completes (halone : Alone s) (hserved : Served s w) (o : Octets) {c : Challenge} (hreq : c.req = s.requester w)
    (ho : o = s.rightResponse (pathNo w.path) c) (hserve : s.serveWrite (pathNo w.path) (s.requester w) 0x1010 3 o none =
      (0, ((s.accepted w).opened (pathNo w.path) (s.requester w) c).bump 0xF000 3 1)) :
    Completes (.sessionResponse w o) s [.acc, .out] (accessObjects ++ [(0xF098, 1)]) fun t =>
      o = hmac (s.levelKey c.level) (authMessage c (pathNo w.path)) ∧ c.req = s.requester w ∧
      (t.path (pathNo w.path)).session = some ⟨s.requester w, c.level, s.now⟩ ∧ (t.path (pathNo w.path)).challenge = none ∧
      (t.path (pathNo w.path)).fails = 0 ∧ t.z 0xF098 1 = min (s.z 0xF098 1 + 1) (2 ^ 32 - 1) := by
  have haccepted : Frame [.acc, .out] (accessObjects ++ [(0xF098, 1)]) s (s.accepted w) := Frame.accepted s w
  have hf : Frame [.acc, .out] (accessObjects ++ [(0xF098, 1)]) s (((s.accepted w).opened (pathNo w.path) (s.requester w) c).bump 0xF000 3 1) :=
    ((haccepted.setPath _ _).bump 0xF098 1 1).bump 0xF000 3 1
  have hpath (q : Nat) : ((((s.accepted w).opened (pathNo w.path) (s.requester w) c).bump 0xF000 3 1).emit (.answer w 0 [])).path q =
      ((s.accepted w).opened (pathNo w.path) (s.requester w) c).path q := State.answered_path _ w q
  refine completes_of_frame (exec_sessionResponse halone hserved hserve hf) (hf.emit _) ⟨ho, hreq, ?_, ?_, ?_, ?_⟩
  · rw [State.ended_path (g := PathSt.session), hpath, State.opened_path, State.accepted_now]
  · rw [State.ended_path (g := PathSt.challenge), hpath, State.opened_path]
  · rw [State.ended_path (g := PathSt.fails), hpath, State.opened_path]
  · rw [State.ended_z _ _, State.emit_z, State.z_bump, if_neg (by decide)]
    show (((s.accepted w).setPath _ _).bump 0xF098 1 1).z 0xF098 1 = _
    rw [State.z_bump, if_pos rfl]
    exact congrArg (fun n => min (n + 1) (2 ^ 32 - 1)) (s.accepted_z w)

theorem State.path_emit (s : State) (o : Output) (p : Nat) : (s.emit o).path p = s.path p := rfl

/-- What a wrong response changes of the objects. -/
def wrongObjects : List (Nat × Nat) := accessObjects ++ causeObjects 15 ++ [(0xF098, 2)] ++ refusalObjects ++ notedObjects

theorem wrongResponse_completes (halone : Alone s) (hserved : Served s w) (o : Octets) {c : Challenge}
    (ho : o ≠ s.rightResponse (pathNo w.path) c) (hserve : s.serveWrite (pathNo w.path) (s.requester w) 0x1010 3 o none =
      (0x0201, ((s.accepted w).failedResponse (pathNo w.path)).refuse (s.access w 0x1010 3) 0x0201)) :
    ∃ t, exec (.sessionResponse w o) s = .next t ∧ o ≠ hmac (s.levelKey c.level) (authMessage c (pathNo w.path)) ∧
      (t.path (pathNo w.path)).challenge = none ∧ (t.path (pathNo w.path)).fails = min 255 ((s.path (pathNo w.path)).fails + 1) ∧
      (t.path (pathNo w.path)).failAt = s.now ∧ t.z 0x2110 0 = s.z 0x2110 0 ||| 4 ∧ t.z 0xF098 2 = min (s.z 0xF098 2 + 1) (2 ^ 32 - 1) := by
  have haccepted : Frame [.acc, .latch, .out] wrongObjects s (s.accepted w) := Frame.accepted s w
  have hup : (s.accepted w).mgtUp = true := haccepted.mgtUp_eq.trans (State.mgtUp_of_pathUp (Bool.and_eq_true_iff.1 hserved.1).1)
  have hfails : ((s.accepted w).path (pathNo w.path)).fails = (s.path (pathNo w.path)).fails := by
    obtain ⟨y, z, hbefore⟩ := s.accept_path (pathNo w.path) (s.requester w) (pathNo w.path)
    unfold State.accepted
    rw [hbefore]
  generalize hx : ({ (s.accepted w).path (pathNo w.path) with
    challenge := none, fails := min 255 (((s.accepted w).path (pathNo w.path)).fails + 1), failAt := (s.accepted w).now } : PathSt) = x
  generalize hv : (s.accepted w).setPath (pathNo w.path) x = v
  have hfv : Frame [.acc, .latch, .out] wrongObjects s v := hv ▸ haccepted.setPath _ _
  have hvup : v.mgtUp = true := hfv.mgtUp_eq.trans (State.mgtUp_of_pathUp (Bool.and_eq_true_iff.1 hserved.1).1)
  have hvz {i a : Nat} (ha : a < 256) (hia : (i, a) ∉ accessObjects) (h17 : (i, a) ≠ (0xF018, 17)) (hd : defaultVal i a = .num 0) : v.z i a = s.z i a :=
    hv ▸ (Frame.accepted (parts := [.acc]) (objs := accessObjects) s w).z_eq ha hia h17 hd
  have hfailed : (s.accepted w).failedResponse (pathNo w.path) = (v.setCause 15 2).bump 0xF098 2 1 := by
    unfold State.failedResponse
    rw [hx, hv]
  have hcause : (v.setCause 15 2).z 0x2110 0 = v.z 0x2110 0 ||| 2 ^ 2 := State.setCause_z_up (br := 15) 2 (by decide) (by decide) hvup
  have hpath {β : Type} (g : PathSt → β) (hg : ∀ y, g (quietPath y) = g y) : g (((v.setCause 15 2).bump 0xF098 2 1).path (pathNo w.path)) = g x := by
    rw [State.bump_path]
    refine (State.setCause_path v 15 2 (pathNo w.path) g hg).trans (congrArg g ?_)
    rw [← hv, State.path_setPath, if_pos rfl]
  have hz : ((v.setCause 15 2).bump 0xF098 2 1).z 0x2110 0 = s.z 0x2110 0 ||| 4 ∧
      ((v.setCause 15 2).bump 0xF098 2 1).z 0xF098 2 = min (s.z 0xF098 2 + 1) (2 ^ 32 - 1) := by
    constructor
    · rw [State.z_bump, if_neg (by decide), hcause, hvz (by decide) (by decide) (by decide) rfl]
      rfl
    · rw [State.z_bump, if_pos rfl, State.setCause_z_ne v 2 (by decide) (by decide) (by decide) (by decide) rfl,
        hvz (by decide) (by decide) (by decide) rfl]
  rw [hfailed] at hserve
  have hfu : Frame [.acc, .latch, .out] wrongObjects s ((v.setCause 15 2).bump 0xF098 2 1) := (hfv.setCause 15 2).bump 0xF098 2 1
  generalize (v.setCause 15 2).bump 0xF098 2 1 = u at hserve hpath hz hfu
  have hrefused : Frame [.latch] (refusalObjects ++ notedObjects) u (u.refuse (s.access w 0x1010 3) 0x0201) := (Frame.refl u).refuse _ _
  have hf : Frame [.acc, .latch, .out] wrongObjects s (u.refuse (s.access w 0x1010 3) 0x0201) := hfu.refuse _ _
  have hend {β : Type} (g : PathSt → β) (hg : ∀ y, g (quietPath y) = g y) :
      g ((s.ended ((u.refuse (s.access w 0x1010 3) 0x0201).emit (.answer w 0x0201 []))).path (pathNo w.path)) = g x :=
    calc g ((s.ended ((u.refuse (s.access w 0x1010 3) 0x0201).emit (.answer w 0x0201 []))).path (pathNo w.path))
        = g (((u.refuse (s.access w 0x1010 3) 0x0201).emit (.answer w 0x0201 [])).path (pathNo w.path)) := State.ended_path _ _ _ g hg
      _ = g ((u.refuse (s.access w 0x1010 3) 0x0201).path (pathNo w.path)) := by rw [State.path_emit]
      _ = g (quietPath ((u.refuse (s.access w 0x1010 3) 0x0201).path (pathNo w.path))) := (hg _).symm
      _ = g (quietPath (u.path (pathNo w.path))) := congrArg g ((hrefused.part .acc (by decide)).2 _)
      _ = g (u.path (pathNo w.path)) := hg _
      _ = g x := hpath g hg
  refine ⟨_, exec_sessionResponse halone hserved hserve hf, ho, ?_, ?_, ?_, ?_, ?_⟩
  · exact (hend PathSt.challenge fun _ => rfl).trans (hx ▸ rfl)
  · exact (hend PathSt.fails fun _ => rfl).trans (by rw [← hx, ← hfails])
  · exact (hend PathSt.failAt fun _ => rfl).trans (hx ▸ s.accepted_now w)
  · exact ((State.ended_z _ _).trans ((State.emit_z ..).trans hrefused.z_eq)).trans hz.1
  · exact ((State.ended_z _ _).trans ((State.emit_z ..).trans hrefused.z_eq)).trans hz.2

end

theorem sessionsOpenAndClose : Claims.SessionsOpenAndClose := by
  intro s halone
  refine ⟨fun w v h => ⟨sessionRequest_completes halone v h, fun hlevel c hc => ?_⟩, fun w o hserved _ c hchallenge hlate => ?_⟩
  · obtain rfl | rfl := hc
    · exact sessionClose_completes halone v h hlevel rfl
    · exact sessionClose_completes halone v h hlevel rfl
  · refine ⟨fun hcode => ?_, fun hcode => ?_⟩
    · obtain ⟨hreq, ⟨-, ho, hserve⟩ | ⟨h, -⟩⟩ := State.serveResponse o hchallenge hlate hcode (.inl rfl)
      · exact rightResponse_completes halone hserved o hreq ho hserve
      · exact absurd h (by decide)
    · obtain ⟨-, ⟨h, -⟩ | ⟨-, ho, hserve⟩⟩ := State.serveResponse o hchallenge hlate hcode (.inr rfl)
      · exact absurd h (by decide)
      · exact wrongResponse_completes halone hserved o ho hserve

/-! ### The timers -/

/-- The clock of MGT runs in any of its sources. -/
theorem State.clockRate_mgt_pos (s : State) : 0 < (s.clockRate .mgt).1 ∧ 0 < (s.clockRate .mgt).2 := by
  unfold State.clockRate
  generalize (s.dom .mgt).src = src
  match src with
  | 0 => exact ⟨Nat.one_pos, Nat.succ_pos 3⟩
  | 1 => exact ⟨Nat.one_pos, Nat.succ_pos 9⟩
  | 2 => exact ⟨Nat.two_pos, Nat.succ_pos 124⟩
  | _ + 3 => exact ⟨Nat.one_pos, Nat.succ_pos 9⟩

/-- A timer has passed at the instant that `lateAt` names, and from then on (R10). -/
theorem State.late_of_lateAt {s u : State} (hdom : u.dom .mgt = s.dom .mgt) {since limit : Nat} (h : s.lateAt .mgt since limit ≤ u.now) :
    u.late .mgt since limit = true := by
  have hat := State.late_mgt (s := { s with now := u.now }) (t := u) hdom rfl
  rw [hat]
  obtain ⟨hn, hd⟩ := s.clockRate_mgt_pos
  have hrate : State.clockRate { s with now := u.now } .mgt = s.clockRate .mgt := rfl
  unfold State.lateAt at h
  unfold State.late State.cycle
  rw [hrate]
  dsimp only at h ⊢
  generalize s.clockRate .mgt = r at hn hd h ⊢
  refine decide_eq_true (Nat.lt_of_succ_le ((Nat.le_div_iff_mul_le hd).2 ?_))
  rw [Nat.succ_eq_add_one]
  generalize since * r.1 / r.2 + limit * r.1 / r.2 + 1 = k at h ⊢
  have hceil : (k * r.2 + r.1 - 1) / r.1 * r.1 ≥ k * r.2 := by
    have hdiv := Nat.div_add_mod (k * r.2 + r.1 - 1) r.1
    have hmod := Nat.mod_lt (k * r.2 + r.1 - 1) hn
    rw [Nat.mul_comm] at hdiv
    omega
  exact hceil.trans (Nat.mul_le_mul_right _ h)

theorem State.elapseTo_path (s : State) (t p : Nat) : (s.elapseTo t).path p = s.path p := by
  unfold State.path
  rw [s.elapseTo_acc]

theorem State.challengeLimit_eq (s : State) : s.challengeLimit = s.n 0x1011 1 * 1000000 := by unfold State.challengeLimit; rfl

theorem State.idleLimit_eq (s : State) : s.idleLimit = s.n 0x1011 2 * 1000000000 := by unfold State.idleLimit; rfl

theorem State.closeIdle_of_late {s : State} {p : Nat} {y : Session} (hy : (s.path p).session = some y)
    (hlate : s.late .mgt y.last s.idleLimit = true) : s.closeIdle p = (s.setPath p { s.path p with session := none }).bump 0xF098 3 1 := by
  unfold State.closeIdle
  rw [hy]
  dsimp only
  rw [if_pos hlate]

section
variable (s : State) (p : Path)

theorem challengeExpiry_completes {c : Challenge} (hc : (s.path (pathNo p)).challenge = some c) :
    Completes (.challengeExpiry p) s [.now, .time, .acc] clockObjects fun t =>
      (t.path (pathNo p)).challenge = none ∧ (t.path (pathNo p)).session = (s.path (pathNo p)).session ∧
      t.now = max s.now (s.lateAt .mgt c.since s.challengeLimit) := by
  generalize hu : s.elapseTo (s.lateAt .mgt c.since s.challengeLimit) = u
  have hf : Frame [.now, .time, .acc] clockObjects s u := hu ▸ (Frame.refl s).elapseTo _
  have hnow : u.now = max s.now (s.lateAt .mgt c.since s.challengeLimit) := by rw [← hu, s.elapseTo_now]
  have hpath : u.path (pathNo p) = s.path (pathNo p) := by rw [← hu, s.elapseTo_path]
  have hexpiry : s.challengeExpiry (pathNo p) = u.setPath (pathNo p) { u.path (pathNo p) with challenge := none } := by
    unfold State.challengeExpiry
    rw [hc]
    dsimp only
    rw [hu]
  refine completes_of_frame (congrArg s.ends hexpiry) (hf.setPath _ _) ⟨?_, ?_, ?_⟩
  · rw [State.ended_path (g := PathSt.challenge), State.path_setPath, if_pos rfl]
  · rw [State.ended_path (g := PathSt.session), State.path_setPath, if_pos rfl, hpath]
  · rw [State.ended_now, State.setPath_now, hnow]

theorem idleExpiry_completes {y : Session} (hy : (s.path (pathNo p)).session = some y) :
    Completes (.sessionIdleExpiry p) s [.now, .time, .acc] (clockObjects ++ [(0xF098, 3)]) fun t =>
      (t.path (pathNo p)).session = none ∧ t.now = max s.now (s.lateAt .mgt y.last s.idleLimit) ∧
      t.z 0xF098 3 = min (s.z 0xF098 3 + 1) (2 ^ 32 - 1) := by
  generalize hu : s.elapseTo (s.lateAt .mgt y.last s.idleLimit) = u
  have hf : Frame [.now, .time, .acc] (clockObjects ++ [(0xF098, 3)]) s u := hu ▸ (Frame.refl s).elapseTo _
  have hnow : u.now = max s.now (s.lateAt .mgt y.last s.idleLimit) := by rw [← hu, s.elapseTo_now]
  have hpath : u.path (pathNo p) = s.path (pathNo p) := by rw [← hu, s.elapseTo_path]
  have hz : u.z 0xF098 3 = s.z 0xF098 3 := hu ▸ ((Frame.refl s).elapseTo (parts := [.now, .time]) (objs := clockObjects) _).z_eq
  have hclk : u.clk = s.clk := hf.part .clk (by decide)
  have hlimit : u.idleLimit = s.idleLimit := by rw [u.idleLimit_eq, s.idleLimit_eq, hf.n_eq]
  have hlate : u.late .mgt y.last u.idleLimit = true := by
    rw [hlimit]
    refine State.late_of_lateAt (s := s) (State.dom_congr (congrArg Clocks.dom hclk) (hf.part .power (by decide)) _) ?_
    rw [hnow]
    exact Nat.le_max_right _ _
  have hexpiry : s.idleExpiry (pathNo p) = (u.setPath (pathNo p) { u.path (pathNo p) with session := none }).bump 0xF098 3 1 := by
    unfold State.idleExpiry
    rw [hy]
    dsimp only
    rw [hu, State.closeIdle_of_late (hpath ▸ hy) hlate]
  refine completes_of_frame (congrArg s.ends hexpiry) ((hf.setPath _ _).bump 0xF098 3 1) ⟨?_, ?_, ?_⟩
  · rw [State.ended_path (g := PathSt.session), State.bump_path, State.path_setPath, if_pos rfl]
  · rw [State.ended_now, State.bump_now, State.setPath_now, hnow]
  · have hclosed : (u.setPath (pathNo p) { u.path (pathNo p) with session := none }).z 0xF098 3 = s.z 0xF098 3 :=
      (State.z_of_val (State.val_congr (State.setPath_obj ..) _ _) rfl).trans hz
    rw [State.ended_z _ _, State.z_bump, if_pos rfl, hclosed]

theorem backoffExpiry_completes : Completes (.backoffExpiry p) s [.now, .time] clockObjects fun t =>
    t.now = max s.now (s.path (pathNo p)).backoffEnd ∧ (t.path (pathNo p)).backoffEnd ≤ t.now := by
  have hf : Frame [.now, .time] clockObjects s (s.elapseTo (s.path (pathNo p)).backoffEnd) := (Frame.refl s).elapseTo _
  have hover : s.backoffOver (pathNo p) = s.elapseTo (s.path (pathNo p)).backoffEnd := rfl
  refine completes_of_frame (congrArg s.ends hover) hf ⟨?_, ?_⟩
  · rw [State.ended_now, s.elapseTo_now]
  · rw [State.ended_path (g := PathSt.backoffEnd), State.ended_now, s.elapseTo_path, s.elapseTo_now]
    exact Nat.le_max_right _ _

end

theorem sessionTimersExpire : Claims.SessionTimersExpire := by
  intro s p
  refine ⟨fun c hc => ?_, fun y hy => ?_, backoffExpiry_completes s p⟩
  · rw [← s.challengeLimit_eq]
    exact challengeExpiry_completes s p hc
  · rw [← s.idleLimit_eq]
    exact idleExpiry_completes s p hy

/-- Settles O58: sessions, their challenges and their timers. -/
theorem sessionsAndTheirTimers : Obligations.SessionsAndTheirTimers := ⟨sessionsOpenAndClose, sessionTimersExpire⟩

end Sys2Proof.Machine
end

section
/-! PROOF. The job ring of the compression engine (R712-R717, R722-R726). -/
set_option Elab.async false
namespace Sys2Proof.Machine

/-! ### The requests of the units -/

/-- What a unit's request, and the agent that carries it, leave: all but the agent, the ports, what goes out and the counts of both. -/
structure State.DevSent (s t : State) : Prop where
  comp : t.comp = s.comp
  pair : t.pair = s.pair
  clk : t.clk = s.clk
  boot : t.boot = s.boot
  power : t.power = s.power
  now : t.now = s.now
  out : s.out ⊆ t.out
  z : ∀ i a, OffFabric i a → t.z i a = s.z i a

section
variable {s t u : State}

theorem State.DevSent.refl (s : State) : s.DevSent s := ⟨rfl, rfl, rfl, rfl, rfl, rfl, fun _ h => h, fun _ _ _ => rfl⟩

theorem State.DevSent.trans (h : s.DevSent t) (k : t.DevSent u) : s.DevSent u :=
  ⟨k.comp.trans h.comp, k.pair.trans h.pair, k.clk.trans h.clk, k.boot.trans h.boot, k.power.trans h.power, k.now.trans h.now,
    fun _ hx => k.out (h.out hx), fun i a ho => (k.z i a ho).trans (h.z i a ho)⟩

theorem State.DevSent.setCoh (c : Coh) : s.DevSent { s with coh := c } := ⟨rfl, rfl, rfl, rfl, rfl, rfl, fun _ h => h, fun _ _ _ => rfl⟩

theorem State.DevSent.bumpHome {b : Nat} (hb : b < 256) (w d : Nat) : s.DevSent (s.bumpW 0xF048 b w d) :=
  ⟨rfl, rfl, rfl, rfl, rfl, rfl, fun _ h => h, fun _ _ ho => (State.z_bumpW ..).trans (if_neg (ho.home b hb))⟩

end

theorem sendMsg_devSent (s : State) (p : Nat) (m : LinkMsg) : s.DevSent (sendMsg p m s) :=
  ⟨by simp, by simp, by simp, by simp, by simp, by simp, (sendMsg_homeLeaves s p m).out, fun _ _ ho => State.z_sendMsg (ho.port p) m s⟩

theorem State.devSend_devSent (s : State) (r : DevReq) (did : Nat) : s.DevSent (s.devSend r did) := by
  unfold State.devSend
  exact (State.DevSent.setCoh _).trans (sendMsg_devSent ..)

/-- The completions and the waiting requests of the agent are those of units that `P` names, and no REQ message waits for the tracker. -/
structure State.DevFrom (P : Nat → Nat → Prop) (s : State) : Prop where
  done : ∀ e ∈ s.coh.done, P e.1.unit e.1.arg
  wait : ∀ r ∈ s.coh.devWait, P r.unit r.arg
  inbox : s.coh.inbox = []

section
variable {P : Nat → Nat → Prop} {s t : State}

theorem State.DevFrom.of_coh (hs : s.DevFrom P) (h : t.coh = s.coh) : t.DevFrom P := ⟨h ▸ hs.done, h ▸ hs.wait, h ▸ hs.inbox⟩

theorem State.DevFrom.devDone (hs : s.DevFrom P) {r : DevReq} (hr : P r.unit r.arg) (result : Nat) (data : Octets) :
    (s.devDone r result data).DevFrom P := by
  refine ⟨fun e he => ?_, hs.wait, hs.inbox⟩
  obtain he | he := List.mem_append.1 he
  · exact hs.done e he
  · exact List.mem_singleton.1 he ▸ hr

theorem State.DevFrom.devSend (hs : s.DevFrom P) (r : DevReq) (did : Nat) : (s.devSend r did).DevFrom P := by
  unfold State.devSend
  dsimp only
  generalize hu : ({ s with coh := { s.coh with nextTag := _, reqs := _ } } : State) = u
  have hfrom : u.DevFrom P := hu ▸ ⟨hs.done, hs.wait, hs.inbox⟩
  exact hfrom.of_coh (sendMsg_coh ..)

theorem State.DevFrom.bumpW (hs : s.DevFrom P) (i a w d : Nat) : (s.bumpW i a w d).DevFrom P := ⟨hs.done, hs.wait, hs.inbox⟩

theorem State.DevFrom.putDesc (hs : s.DevFrom P) (line : Nat) (d : DescLine) : (s.putDesc line d).DevFrom P := ⟨hs.done, hs.wait, hs.inbox⟩

/-- A request of a unit that `P` names enters the agent. -/
theorem State.DevFrom.devRequest (hs : s.DevFrom P) {unit arg : Nat} (hp : P unit arg) (opc line : Nat) (data : Octets) :
    (s.devRequest unit arg opc line data).DevFrom P := by
  unfold State.devRequest
  dsimp only
  split
  · exact hs.devDone hp 1 []
  · split
    · exact hs.devDone hp 2 []
    · split
      · refine ⟨hs.done, fun r hr => ?_, hs.inbox⟩
        obtain hr | hr := List.mem_append.1 hr
        · exact hs.wait r hr
        · exact List.mem_singleton.1 hr ▸ hp
      · split
        · exact hs.devSend ..
        · exact hs.devSend ..
        · split
          · split
            · exact ((hs.bumpW 0xF048 11 64 1).putDesc ..).devDone hp ..
            · exact (hs.bumpW 0xF048 12 32 1).devSend ..
          · exact hs.devSend ..
        · split
          · split
            · split
              · exact ((hs.bumpW 0xF048 11 64 1).putDesc ..).devDone hp ..
              · exact (hs.bumpW 0xF048 12 32 1).devSend ..
            · exact (hs.bumpW 0xF048 12 32 1).devSend ..
          · exact hs.devSend ..

end

theorem State.devRequest_devSent (s : State) (unit arg opc line : Nat) (data : Octets) : s.DevSent (s.devRequest unit arg opc line data) := by
  have hhit : s.DevSent (s.bumpW 0xF048 11 64 1) := State.DevSent.bumpHome (by decide) 64 1
  have hmiss : s.DevSent (s.bump 0xF048 12 1) := State.DevSent.bumpHome (by decide) 32 1
  unfold State.devRequest
  dsimp only
  split
  · exact .setCoh _
  · split
    · exact .setCoh _
    · split
      · exact .setCoh _
      · split
        · exact s.devSend_devSent ..
        · exact s.devSend_devSent ..
        · split
          · split
            · exact hhit.trans ((State.DevSent.setCoh _).trans (.setCoh _))
            · exact hmiss.trans (State.devSend_devSent ..)
          · exact s.devSend_devSent ..
        · split
          · split
            · split
              · exact hhit.trans ((State.DevSent.setCoh _).trans (.setCoh _))
              · exact hmiss.trans (State.devSend_devSent ..)
            · exact hmiss.trans (State.devSend_devSent ..)
          · exact s.devSend_devSent ..

/-! ### What follows a command of the engine -/

/-- What the agent's requests keep, and the units' completions keep, holds when both have been served: the end of a command of a device
without a partner. -/
theorem State.settle_holds {P : Nat → Nat → Prop} {Q : State → Prop} (hsent : ∀ t u : State, t.DevSent u → Q t → Q u)
    (hdone : ∀ (t : State) (r : DevReq) (result : Nat) (data : Octets), P r.unit r.arg → Q t →
      Q (t.unitDone r result data) ∧ (t.unitDone r result data).coh = t.coh)
    (hrole : ∀ t, Q t → t.pair.role ≠ 2 ∧ t.pair.role ≠ 3) {s : State} (hs : Q s) (hfrom : s.DevFrom P) :
    Q s.settle := by
  have hone : ∀ t : State, Q t ∧ t.DevFrom P → Q t.drainOne ∧ t.drainOne.DevFrom P := by
    rintro t ⟨hq, hp⟩
    unfold State.drainOne
    split
    · exact ⟨hq, hp⟩
    · next r rest hwait =>
      have hmem : r ∈ t.coh.devWait := hwait ▸ List.mem_cons_self ..
      have hrest : ({ t with coh := { t.coh with devWait := rest } } : State).DevFrom P :=
        ⟨hp.done, fun x hx => hp.wait x (hwait ▸ List.mem_cons_of_mem _ hx), hp.inbox⟩
      split
      · exact ⟨hsent _ _ ((State.DevSent.setCoh _).trans (State.devRequest_devSent ..)) hq, hrest.devRequest (hp.wait r hmem) ..⟩
      · exact ⟨hq, hp⟩
  have hdrain : ∀ (l : List Nat) (t : State), Q t ∧ t.DevFrom P → Q (l.foldl (fun s _ => s.drainOne) t) ∧ (l.foldl (fun s _ => s.drainOne) t).DevFrom P := by
    intro l
    induction l with
    | nil => exact fun _ h => h
    | cons _ l ih => exact fun t h => ih _ (hone t h)
  have htake : ∀ (fuel : Nat) (t : State), Q t → t.DevFrom P → Q (t.takeDone fuel) := by
    intro fuel
    induction fuel with
    | zero => exact fun _ h _ => h
    | succ fuel ih =>
      intro t hq hp
      unfold State.takeDone
      split
      · exact hq
      · next r result data rest hdones =>
        have hfirst : P r.unit r.arg := hp.done (r, result, data) (hdones ▸ List.mem_cons_self ..)
        have hrest : ({ t with coh := { t.coh with done := rest } } : State).DevFrom P :=
          ⟨fun x hx => hp.done x (hdones ▸ List.mem_cons_of_mem _ hx), hp.wait, hp.inbox⟩
        obtain ⟨hq', hcoh⟩ := hdone _ r result data hfirst (hsent t _ (.setCoh _) hq)
        exact ih _ hq' (hrest.of_coh hcoh)
  have hinboxed : s.drainInbox = s := s.drainInbox_idle hfrom.inbox
  obtain ⟨hq, hp⟩ := hdrain (List.range s.coh.devWait.length) s ⟨hs, hfrom⟩
  have hserved : Q s.drainDev.serveUnits := htake _ _ hq hp
  obtain ⟨h2, h3⟩ := hrole _ hserved
  unfold State.settle
  rw [hinboxed, State.pairFollow_single _ h2 h3]
  exact hserved

/-! ### A descriptor's write-back -/

theorem mgetD_mdel_ne {α : Type} (m : Map α) {k j : Nat} (d : α) (h : j ≠ k) : mgetD (mdel m k) j d = mgetD m j d := by
  have hget : mget (mdel m k) j = mget m j := by
    induction m with
    | nil => rfl
    | cons e t ih =>
      obtain ⟨i, v⟩ := e
      by_cases hi : i = k
      · subst hi
        simpa [mdel, mget, h] using ih
      · by_cases hj : j = i
        · simp [mdel, mget, hi, hj]
        · simpa [mdel, mget, hi, hj] using ih
  unfold mgetD
  rw [hget]

/-- What the write-back of descriptors of jobs that `S` names leaves: those jobs complete and go, and all else of the ring stays. -/
structure State.WroteBack (S : Nat → Prop) (s t : State) : Prop where
  lane : t.comp.lane = s.comp.lane
  status : t.comp.lastStatus = s.comp.lastStatus
  detail : t.comp.lastDetail = s.comp.lastDetail
  slot : t.comp.lastSlot = s.comp.lastSlot ∨ ∃ c, S c ∧ t.comp.lastSlot = c % 16
  other : ∀ c, ¬S c → (s.job c).st ≠ 6 → t.job c = s.job c
  named : ∀ c, S c → (t.job c).st = (s.job c).st ∨ (t.job c).st = 6 ∨ (t.job c).st = 0
  pair : t.pair = s.pair
  now : t.now = s.now
  out : s.out ⊆ t.out
  counts : ∀ a, a = 5 ∨ a = 6 ∨ a = 8 → t.z 0xF088 a = s.z 0xF088 a
  causes : ∀ b, bit (s.z 0x210D 0) b = true → bit (t.z 0x210D 0) b = true

section
variable {S : Nat → Prop} {s t u : State}

theorem State.WroteBack.refl (s : State) : s.WroteBack S s :=
  ⟨rfl, rfl, rfl, .inl rfl, fun _ _ _ => rfl, fun _ _ => .inl rfl, rfl, rfl, fun _ h => h, fun _ _ => rfl, fun _ h => h⟩

theorem State.WroteBack.trans (h : s.WroteBack S t) (k : t.WroteBack S u) : s.WroteBack S u := by
  refine ⟨k.lane.trans h.lane, k.status.trans h.status, k.detail.trans h.detail, ?_, fun c hc hst => ?_, fun c hc => ?_, k.pair.trans h.pair,
    k.now.trans h.now, fun _ hx => k.out (h.out hx), fun a ha => (k.counts a ha).trans (h.counts a ha), fun b hb => k.causes b (h.causes b hb)⟩
  · obtain hk | hk := k.slot
    · exact hk ▸ h.slot
    · exact .inr hk
  · have ht := h.other c hc hst
    exact (k.other c hc (by rw [ht]; exact hst)).trans ht
  · obtain hk | hk := k.named c hc
    · exact hk ▸ h.named c hc
    · exact .inr hk

/-- The objects of `WroteBack` are no counts of the fabric. -/
theorem offFabric_jobs : (∀ a, a = 5 ∨ a = 6 ∨ a = 8 → OffFabric 0xF088 a) ∧ OffFabric 0x210D 0 :=
  ⟨fun a ha => ⟨fun p => by unfold key; omega, fun b hb => by unfold key; omega⟩,
    ⟨fun p => by unfold key; omega, fun b hb => by unfold key; omega⟩⟩

theorem State.DevSent.wroteBack (h : s.DevSent t) : s.WroteBack S t := by
  have hjob (c : Nat) : t.job c = s.job c := by unfold State.job; rw [h.comp]
  obtain ⟨hcounts, hcause⟩ := offFabric_jobs
  refine ⟨by rw [h.comp], by rw [h.comp], by rw [h.comp], .inl (by rw [h.comp]), fun c _ _ => hjob c, fun c _ => .inl (by rw [hjob]), h.pair, h.now,
    h.out, fun a ha => h.z _ _ (hcounts a ha), fun b hb => ?_⟩
  rw [h.z _ _ hcause]
  exact hb

theorem State.advanceHead_wroteBack (S : Nat → Prop) (fuel : Nat) : ∀ s : State, s.WroteBack S (s.advanceHead fuel) := by
  induction fuel with
  | zero => exact fun s => .refl s
  | succ fuel ih =>
    intro s
    unfold State.advanceHead
    split
    · next hhead =>
      refine State.WroteBack.trans ?_ (ih _)
      have hne (c : Nat) (hc : c ≠ s.comp.head) : mgetD (mdel s.comp.job s.comp.head) c {} = s.job c := mgetD_mdel_ne _ _ hc
      refine ⟨rfl, rfl, rfl, .inl rfl, fun c _ hst => ?_, fun c _ => ?_, rfl, rfl, fun _ h => h, fun _ _ => rfl, fun _ h => h⟩
      · exact hne c fun hc => hst (hc ▸ hhead.2)
      · by_cases hc : c = s.comp.head
        · refine .inr (.inr ?_)
          show (mgetD (mdel s.comp.job s.comp.head) c {}).st = 0
          unfold mgetD
          rw [hc, mget_mdel_self]
          rfl
        · exact .inl (congrArg Job.st (hne c hc))
    · exact .refl s

/-- An event leaves the bits of its cause object that are set. -/
theorem State.bit_setCause (s : State) {br b : Nat} (k : Nat) (hbr : br < 16) (haon : aonBranch br = false)
    (h : bit (s.z (0x2101 + br) 0) b = true) : bit ((s.setCause br k).z (0x2101 + br) 0) b = true := by
  cases hfast : s.mgtFast with
  | true =>
    rw [State.setCause_z k hbr hfast]
    exact bit_or_of_bit _ h
  | false =>
    have hstay : s.setCause br k = s := by
      unfold State.setCause State.setWord
      rw [hfast, haon, Bool.and_false, Bool.or_false, if_neg Bool.false_ne_true, if_neg Bool.false_ne_true]
    rw [hstay]
    exact h

/-- A write-back whose result is lost is recorded (R729). -/
def State.lostResult (s : State) (c : Nat) : State := { s.setCause 12 0 with comp := { (s.setCause 12 0).comp with lastSlot := c % 16 } }

theorem State.lostResult_wroteBack (s : State) {c : Nat} (hc : S c) : s.WroteBack S (s.lostResult c) := by
  have hcomp : (s.setCause 12 0).comp = s.comp := s.setCause_comp 12 0
  have hlost : (s.lostResult c).comp = { s.comp with lastSlot := c % 16 } := congrArg (fun x : Comp => { x with lastSlot := c % 16 }) hcomp
  have hjob (d : Nat) : (s.lostResult c).job d = s.job d := by unfold State.job; rw [hlost]
  refine ⟨by rw [hlost], by rw [hlost], by rw [hlost], .inr ⟨c, hc, rfl⟩, fun d _ _ => hjob d, fun d _ => .inl (by rw [hjob]),
    s.setCause_pair 12 0, s.setCause_now 12 0, ?_, fun a ha => ?_, fun b hb => ?_⟩
  · have hout : (s.setCause 12 0).out = s.out := s.setCause_out 12 0
    exact fun _ hx => hout ▸ hx
  · obtain rfl | rfl | rfl := ha
    · exact State.setCause_z_ne s 0 (by decide) (by decide) (by decide) (by decide) rfl
    · exact State.setCause_z_ne s 0 (by decide) (by decide) (by decide) (by decide) rfl
    · exact State.setCause_z_ne s 0 (by decide) (by decide) (by decide) (by decide) rfl
  · exact State.bit_setCause (br := 12) s 0 (by decide) (by decide) hb

theorem State.setJob_wroteBack (s : State) {c : Nat} (hc : S c) (j : Job) (hj : j.st = 6) : s.WroteBack S (s.setJob c j) := by
  refine ⟨rfl, rfl, rfl, .inl rfl, fun d hd _ => ?_, fun d _ => ?_, rfl, rfl, fun _ h => h, fun _ _ => rfl, fun _ h => h⟩
  · rw [State.job_setJob, if_neg (by rintro rfl; exact hd hc)]
  · rw [State.job_setJob]
    split
    · exact .inr (.inl hj)
    · exact .inl rfl

theorem State.descWritten_wroteBack (s : State) {c : Nat} (hc : S c) (result : Nat) : s.WroteBack S (s.descWritten c result) := by
  have hjob := s.setJob_wroteBack hc { s.job c with st := 6 } rfl
  unfold State.descWritten
  dsimp only
  refine State.WroteBack.trans ?_ (State.advanceHead_wroteBack S 32 _)
  split
  · exact hjob
  · exact hjob.trans (State.lostResult_wroteBack _ hc)

theorem State.descWritten_coh (s : State) (c result : Nat) : (s.descWritten c result).coh = s.coh := by
  have hadvance : ∀ (fuel : Nat) (t : State), (t.advanceHead fuel).coh = t.coh := by
    intro fuel
    induction fuel with
    | zero => exact fun _ => rfl
    | succ fuel ih =>
      intro t
      unfold State.advanceHead
      split
      · rw [ih]
      · rfl
  unfold State.descWritten
  dsimp only
  rw [hadvance]
  split
  · rfl
  · exact (State.setCause_coh ..)

/-- The end of a command that has asked for write-backs of jobs that `S` names, on a device without a partner. -/
theorem State.settle_wroteBack (hfrom : s.DevFrom fun unit arg => unit = 2 ∧ S arg) (h2 : s.pair.role ≠ 2)
    (h3 : s.pair.role ≠ 3) : s.WroteBack S s.settle := by
  refine State.settle_holds (Q := fun t => s.WroteBack S t) (fun t u hsent hq => hq.trans hsent.wroteBack) (fun t r result data hr hq => ?_)
    (fun t hq => ?_) (.refl s) hfrom
  · obtain ⟨hunit, harg⟩ := hr
    have hdone : t.unitDone r result data = t.descWritten r.arg (if decide (result = 1) || decide (result = 2) then result else 0) := by
      unfold State.unitDone
      dsimp only
      rw [hunit]
      rfl
    rw [hdone]
    exact ⟨hq.trans (t.descWritten_wroteBack harg _), t.descWritten_coh ..⟩
  · rw [hq.pair]
    exact ⟨h2, h3⟩

end

/-! ### A job ends -/

/-- A failure as 5805h keeps it. -/
def State.failureKept (s : State) (slot status detail : Nat) : State :=
  { s with comp := { s.comp with lastSlot := slot, lastStatus := status, lastDetail := detail } }

/-- The JOB cause of a failure (Table 18.5). -/
def failureCause (status : Nat) : Nat := if status = 2 then 2 else if status = 5 then 3 else if status = 8 then 1 else 0

/-- The counter of a failure's own kind (Table 18.8). -/
def State.kindCounted (s : State) (status : Nat) : State :=
  let s := if status = 8 then s.bump 0xF088 8 1 else s
  let s := if status = 2 then s.bump 0xF088 9 1 else s
  if status = 5 then s.bump 0xF088 10 1 else s

theorem State.jobFailed_eq (s : State) (slot status detail : Nat) : s.jobFailed slot status detail =
    (((s.failureKept slot status detail).setCause 12 (failureCause status)).bump 0xF088 6 1).kindCounted status := rfl

theorem State.kindCounted_ite (s : State) (status : Nat) : s.kindCounted status = if status = 8 then s.bump 0xF088 8 1
    else if status = 2 then s.bump 0xF088 9 1 else if status = 5 then s.bump 0xF088 10 1 else s := by
  unfold State.kindCounted
  dsimp only
  by_cases h8 : status = 8
  · simp [h8]
  · by_cases h2 : status = 2
    · simp [h2]
    · simp only [if_neg h8, if_neg h2]

theorem State.kindCounted_eq (s : State) (status : Nat) :
    ∃ o, s.kindCounted status = { s with obj := o } ∧ (∀ i a, (∀ b, b = 8 ∨ b = 9 ∨ b = 10 → key i a ≠ key 0xF088 b) →
      (s.kindCounted status).z i a = s.z i a) ∧ (status = 8 → (s.kindCounted status).z 0xF088 8 = min (s.z 0xF088 8 + 1) (2 ^ 32 - 1)) := by
  rw [State.kindCounted_ite]
  split_ifs with h8 h2 h5
  · exact ⟨_, rfl, fun i a h => (State.z_bump ..).trans (if_neg (h 8 (by omega))), fun _ => (State.z_bump ..).trans (if_pos rfl)⟩
  · exact ⟨_, rfl, fun i a h => (State.z_bump ..).trans (if_neg (h 9 (by omega))), fun h => absurd h h8⟩
  · exact ⟨_, rfl, fun i a h => (State.z_bump ..).trans (if_neg (h 10 (by omega))), fun h => absurd h h8⟩
  · exact ⟨s.obj, rfl, fun _ _ _ => rfl, fun h => absurd h h8⟩

/-- What a failed job leaves behind: its record, its counts and its cause. -/
theorem State.jobFailed_spec (s : State) (slot status detail : Nat) :
    (s.jobFailed slot status detail).comp = { s.comp with lastSlot := slot, lastStatus := status, lastDetail := detail } ∧
    (s.jobFailed slot status detail).coh = s.coh ∧ (s.jobFailed slot status detail).pair = s.pair ∧ (s.jobFailed slot status detail).now = s.now ∧
    (s.jobFailed slot status detail).out = s.out ∧
    (s.jobFailed slot status detail).z 0xF088 6 = min (s.z 0xF088 6 + 1) (2 ^ 32 - 1) ∧
    (status = 8 → (s.jobFailed slot status detail).z 0xF088 8 = min (s.z 0xF088 8 + 1) (2 ^ 32 - 1)) ∧
    (s.mgtFast = true → bit ((s.jobFailed slot status detail).z 0x210D 0) (failureCause status) = true) := by
  rw [State.jobFailed_eq]
  generalize hv : s.failureKept slot status detail = v
  have hz (a : Nat) (ha : a = 6 ∨ a = 8) : (v.setCause 12 (failureCause status)).z 0xF088 a = s.z 0xF088 a := by
    have hkept : v.z 0xF088 a = s.z 0xF088 a := hv ▸ rfl
    obtain rfl | rfl := ha
    · exact (State.setCause_z_ne v _ (by decide) (by decide) (by decide) (by decide) rfl).trans hkept
    · exact (State.setCause_z_ne v _ (by decide) (by decide) (by decide) (by decide) rfl).trans hkept
  have hcause : s.mgtFast = true → (v.setCause 12 (failureCause status)).z 0x210D 0 = v.z 0x210D 0 ||| 2 ^ failureCause status := fun hfast =>
    State.setCause_z (br := 12) _ (by decide) (hv ▸ hfast)
  obtain ⟨o, heq, hother, hwdog⟩ := State.kindCounted_eq ((v.setCause 12 (failureCause status)).bump 0xF088 6 1) status
  have hcomp : v.comp = { s.comp with lastSlot := slot, lastStatus := status, lastDetail := detail } := hv ▸ rfl
  have hsame : v.coh = s.coh ∧ v.pair = s.pair ∧ v.now = s.now ∧ v.out = s.out := hv ▸ ⟨rfl, rfl, rfl, rfl⟩
  obtain ⟨hcoh, hpair, hnow, hout⟩ := hsame
  refine ⟨?_, ?_, ?_, ?_, ?_, ?_, fun h8 => ?_, fun hfast => ?_⟩
  · rw [heq]; exact (State.setCause_comp ..).trans hcomp
  · rw [heq]; exact (State.setCause_coh ..).trans hcoh
  · rw [heq]; exact (State.setCause_pair ..).trans hpair
  · rw [heq]; exact (State.setCause_now ..).trans hnow
  · rw [heq]; exact (State.setCause_out ..).trans hout
  · rw [hother _ _ (by rintro b (rfl | rfl | rfl) <;> decide), State.z_bump, if_pos rfl, hz 6 (.inl rfl)]
  · rw [hwdog h8, State.z_bump, if_neg (by decide), hz 8 (.inr rfl)]
  · rw [hother _ _ (by rintro b (rfl | rfl | rfl) <;> decide), State.z_bump, if_neg (by decide), hcause hfast]
    exact bit_or_two_pow _ _

/-- A job's result is counted, or its failure recorded (R717, R722). -/
def State.resultNoted (s : State) (c : Nat) (e : JobEnd) : State :=
  if e.status = 1 then s.bump 0xF088 5 1 else if e.status = 11 then s else s.jobFailed (c % 16) e.status e.detail

/-- The unit of a running job, which its end frees. -/
def State.unitFreed (s : State) (j : Job) : State := if j.st = 3 ∧ j.lane < 8 then s.dropLane j.lane else s

/-- A job has ended, and its write-back is still to be asked for. -/
def State.jobEnded (s : State) (c : Nat) (e : JobEnd) : State :=
  ((s.unitFreed (s.job c)).resultNoted c e).setJob c { s.job c with st := 4 }

theorem State.endJob_eq (s : State) (c : Nat) (e : JobEnd) : s.endJob c e = (s.jobEnded c e).devRequest 2 c 9
    ((s.jobEnded c e).z 0x5801 1 + 64 * (c % 16)) ((s.job c).result e e.out.length) := rfl

theorem State.unitFreed_eq (s : State) (j : Job) : ∃ l, s.unitFreed j = { s with comp := { s.comp with lane := l } } ∧
    (j.st = 3 → j.lane < 8 → mget l j.lane = none) := by
  unfold State.unitFreed
  split
  · exact ⟨_, rfl, fun _ _ => mget_mdel_self ..⟩
  · next h => exact ⟨s.comp.lane, rfl, fun h3 h8 => absurd ⟨h3, h8⟩ h⟩

/-- What the end of a job notes leaves of the ring, and of what lies beyond the engine. -/
theorem State.resultNoted_keeps (s : State) (c : Nat) (e : JobEnd) : (s.resultNoted c e).comp.job = s.comp.job ∧
    (s.resultNoted c e).comp.lane = s.comp.lane ∧ (s.resultNoted c e).comp.head = s.comp.head ∧ (s.resultNoted c e).comp.tail = s.comp.tail ∧
    (s.resultNoted c e).coh = s.coh ∧ (s.resultNoted c e).pair = s.pair ∧
    (s.resultNoted c e).now = s.now ∧ (s.resultNoted c e).out = s.out := by
  unfold State.resultNoted
  split_ifs
  · exact ⟨rfl, rfl, rfl, rfl, rfl, rfl, rfl, rfl⟩
  · exact ⟨rfl, rfl, rfl, rfl, rfl, rfl, rfl, rfl⟩
  · obtain ⟨hcomp, hcoh, hpair, hnow, hout, -⟩ := s.jobFailed_spec (c % 16) e.status e.detail
    exact ⟨by rw [hcomp], by rw [hcomp], by rw [hcomp], by rw [hcomp], hcoh, hpair, hnow, hout⟩

/-- Nothing but the command acts, as before, once it has left the pair and the agent. -/
theorem alone_of_same {s t : State} (hpair : t.pair = s.pair) (hcoh : t.coh = s.coh) (h : Alone s) : Alone t := by
  obtain ⟨h2, h3, hdone, hwait, hinbox⟩ := h
  exact ⟨hpair ▸ h2, hpair ▸ h3, hcoh ▸ hdone, hcoh ▸ hwait, hcoh ▸ hinbox⟩

/-- The agent of a lone device has no request to serve. -/
theorem devFrom_of_alone {s : State} (h : Alone s) (P : Nat → Nat → Prop) : s.DevFrom P := by
  obtain ⟨-, -, hdone, hwait, hinbox⟩ := h
  exact ⟨fun e he => absurd (hdone ▸ he) List.not_mem_nil, fun r hr => absurd (hwait ▸ hr) List.not_mem_nil, hinbox⟩

section
variable (s : State) (c : Nat) (e : JobEnd)

theorem State.jobEnded_job (d : Nat) : (s.jobEnded c e).job d = if d = c then { s.job c with st := 4 } else s.job d := by
  obtain ⟨l, hfreed, -⟩ := s.unitFreed_eq (s.job c)
  obtain ⟨hjob, -⟩ := (s.unitFreed (s.job c)).resultNoted_keeps c e
  have hother : ((s.unitFreed (s.job c)).resultNoted c e).job d = s.job d :=
    by
    refine (congrArg (fun m : Map Job => mgetD m d {}) hjob).trans ?_
    rw [hfreed]
    rfl
  unfold State.jobEnded
  rw [State.job_setJob, hother]

/-- The end of a job leaves what lies beyond the engine, and frees the job's lane. -/
theorem State.jobEnded_keeps : (s.jobEnded c e).coh = s.coh ∧ (s.jobEnded c e).pair = s.pair ∧ (s.jobEnded c e).now = s.now ∧
    (s.jobEnded c e).out = s.out ∧ (s.jobEnded c e).comp.head = s.comp.head ∧ (s.jobEnded c e).comp.tail = s.comp.tail ∧
    ((s.job c).st = 3 → (s.job c).lane < 8 → mget (s.jobEnded c e).comp.lane (s.job c).lane = none) := by
  obtain ⟨l, hfreed, hlane⟩ := s.unitFreed_eq (s.job c)
  obtain ⟨-, hlanes, hhead, htail, hcoh, hpair, hnow, hout⟩ := (s.unitFreed (s.job c)).resultNoted_keeps c e
  rw [hfreed] at hlanes hhead htail hcoh hpair hnow hout
  unfold State.jobEnded
  rw [hfreed]
  exact ⟨hcoh, hpair, hnow, hout, hhead, htail, fun h3 h8 => (congrArg (mget · (s.job c).lane) hlanes).trans (hlane h3 h8)⟩

theorem State.jobEnded_succeeds (h : e.status = 1) : (s.jobEnded c e).z 0xF088 5 = min (s.z 0xF088 5 + 1) (2 ^ 32 - 1) := by
  obtain ⟨l, hfreed, -⟩ := s.unitFreed_eq (s.job c)
  have hz : (s.unitFreed (s.job c)).z 0xF088 5 = s.z 0xF088 5 := by rw [hfreed]; rfl
  have hnoted : (s.unitFreed (s.job c)).resultNoted c e = (s.unitFreed (s.job c)).bump 0xF088 5 1 := if_pos h
  unfold State.jobEnded
  rw [hnoted]
  exact (State.z_bump ..).trans ((if_pos rfl).trans (by rw [hz]))

theorem State.jobEnded_fails (h1 : e.status ≠ 1) (h11 : e.status ≠ 11) :
    (s.jobEnded c e).comp.lastSlot = c % 16 ∧ (s.jobEnded c e).comp.lastStatus = e.status ∧ (s.jobEnded c e).comp.lastDetail = e.detail ∧
    (s.jobEnded c e).z 0xF088 6 = min (s.z 0xF088 6 + 1) (2 ^ 32 - 1) ∧
    (e.status = 8 → (s.jobEnded c e).z 0xF088 8 = min (s.z 0xF088 8 + 1) (2 ^ 32 - 1)) ∧
    (s.mgtFast = true → bit ((s.jobEnded c e).z 0x210D 0) (failureCause e.status) = true) := by
  obtain ⟨l, hfreed, -⟩ := s.unitFreed_eq (s.job c)
  have hnoted : (s.unitFreed (s.job c)).resultNoted c e = (s.unitFreed (s.job c)).jobFailed (c % 16) e.status e.detail :=
    (if_neg h1).trans (if_neg h11)
  obtain ⟨hcomp, -, -, -, -, hcount, hwdog, hcause⟩ := (s.unitFreed (s.job c)).jobFailed_spec (c % 16) e.status e.detail
  have hz (i a : Nat) : (s.unitFreed (s.job c)).z i a = s.z i a := by rw [hfreed]; rfl
  have hfast : (s.unitFreed (s.job c)).mgtFast = s.mgtFast := by rw [hfreed]; rfl
  rw [hz] at hcount hwdog
  rw [hfast] at hcause
  unfold State.jobEnded
  rw [hnoted]
  generalize (s.unitFreed (s.job c)).jobFailed (c % 16) e.status e.detail = v at hcomp hcount hwdog hcause
  have hset : (v.setJob c { s.job c with st := 4 }).comp.lastSlot = v.comp.lastSlot ∧
      (v.setJob c { s.job c with st := 4 }).comp.lastStatus = v.comp.lastStatus ∧
      (v.setJob c { s.job c with st := 4 }).comp.lastDetail = v.comp.lastDetail := ⟨rfl, rfl, rfl⟩
  obtain ⟨hslot, hstatus, hdetail⟩ := hset
  rw [hslot, hstatus, hdetail, hcomp]
  exact ⟨rfl, rfl, rfl, hcount, hwdog, hcause⟩

/-- A job that ends on a lone device: the end, and then the write-back of its own descriptor alone. -/
theorem State.endJob_settles (h : Alone s) : (s.jobEnded c e).WroteBack (· = c) (s.endJob c e).settle := by
  obtain ⟨hcoh, hpair, -⟩ := s.jobEnded_keeps c e
  have halone := alone_of_same hpair hcoh h
  have h2 := halone.1
  have h3 := halone.2.1
  rw [State.endJob_eq]
  generalize s.jobEnded c e = u at halone h2 h3
  have hsent : u.DevSent (u.devRequest 2 c 9 (u.z 0x5801 1 + 64 * (c % 16)) ((s.job c).result e e.out.length)) := u.devRequest_devSent ..
  have hfrom := (devFrom_of_alone halone fun unit arg => unit = 2 ∧ arg = c).devRequest ⟨rfl, rfl⟩ 9 (u.z 0x5801 1 + 64 * (c % 16))
    ((s.job c).result e e.out.length)
  exact hsent.wroteBack.trans (State.settle_wroteBack hfrom (by rw [hsent.pair]; exact h2) (by rw [hsent.pair]; exact h3))

end

/-- What the end of a job leaves at the end of its command, where it fails. -/
theorem State.endJob_fails {s t : State} {c : Nat} {e : JobEnd} (h : (s.jobEnded c e).WroteBack (· = c) t) (h1 : e.status ≠ 1)
    (h11 : e.status ≠ 11) : t.comp.lastSlot = c % 16 ∧ t.comp.lastStatus = e.status ∧ t.comp.lastDetail = e.detail ∧
      t.z 0xF088 6 = min (s.z 0xF088 6 + 1) (2 ^ 32 - 1) ∧ (e.status = 8 → t.z 0xF088 8 = min (s.z 0xF088 8 + 1) (2 ^ 32 - 1)) ∧
      (s.mgtFast = true → bit (t.z 0x210D 0) (failureCause e.status) = true) := by
  obtain ⟨hslot, hstatus, hdetail, hcount, hwdog, hcause⟩ := s.jobEnded_fails c e h1 h11
  refine ⟨?_, h.status.trans hstatus, h.detail.trans hdetail, (h.counts 6 (by omega)).trans hcount, fun h8 => (h.counts 8 (by omega)).trans (hwdog h8),
    fun hfast => h.causes _ (hcause hfast)⟩
  obtain hs | ⟨d, rfl, hd⟩ := h.slot
  · exact hs.trans hslot
  · exact hd

theorem State.ended_comp (s u : State) : (s.ended u).comp = u.comp := u.alertSync_comp

theorem State.ended_job (s u : State) (c : Nat) : (s.ended u).job c = u.job c := congrArg (fun x : Comp => mgetD x.job c {}) (s.ended_comp u)

/-! ### The next job starts -/

/-- The state in which the next job starts: corrected errors of the descriptor's words are counted (R442). -/
def State.descChecked (s : State) (ev : LaneEvent) : State := if ev.corrected = 0 then s else s.bump 0xF048 13 ev.corrected

/-- A job runs on a unit. -/
def State.jobStarted (s : State) (c l : Nat) : State :=
  State.setJob { s with comp := { s.comp with starts := s.comp.starts + 1 } } c
    { s.job c with st := 3, lane := l, since := s.now, order := s.comp.starts }

theorem State.jobBegin_eq (s : State) {ev : LaneEvent} (hbad : ev.bad = false) : s.jobBegin ev = (s.descChecked ev).startJob := by
  unfold State.jobBegin State.descChecked
  rw [hbad]
  rfl

section
variable {s : State} {c : Nat}

/-- The job whose turn it is, and an engine that may start it. -/
structure State.NextJob (s : State) (c : Nat) : Prop where
  first : s.jobCounts.find? (fun c => (s.job c).st == 1 || (s.job c).st == 2 || (s.job c).st == 5 || (s.job c).st == 7) = some c
  ready : (s.job c).st = 2
  engine : s.engineOn = true
  ring : s.b 0x5801 2 = true

theorem State.startJob_next (h : s.NextJob c) : s.startJob =
    if (s.job c).valid = false then s.endJob c ⟨9, 0, 0, 0, []⟩
    else if (s.job c).codes then
      match s.freeLane with
      | some l => if ((List.range 4).filter fun t => s.streamWants t && s.ringRoom t).length < 8 - s.comp.lane.length then
          (s.takeLane l 2 (c % 16)).jobStarted c l else s
      | none => s
    else if s.decompBusy then s else s.jobStarted c 8 := by
  obtain ⟨hfirst, hready, hengine, hring⟩ := h
  unfold State.startJob
  rw [hfirst]
  dsimp only
  rw [hengine, hring, hready]
  cases hvalid : (s.job c).valid with
  | false => rfl
  | true =>
    refine (if_neg Bool.false_ne_true).trans ((if_neg (by decide)).trans ((if_neg (by decide)).trans ((if_neg Bool.false_ne_true).trans ?_)))
    refine Eq.trans ?_ (if_neg Bool.noConfusion).symm
    rfl

end

/-- The descriptor cache's count is none of the objects that a job or a stream looks at. -/
theorem State.val_descChecked (s : State) (ev : LaneEvent) (i a : Nat) (h : key i a ≠ key 0xF048 13) : (s.descChecked ev).val i a = s.val i a := by
  unfold State.descChecked
  split
  · rfl
  · exact State.val_bump _ _ _ _ _ _ h

theorem State.descChecked_eq (s : State) (ev : LaneEvent) : ∃ o, s.descChecked ev = { s with obj := o } := by
  unfold State.descChecked
  split
  · exact ⟨s.obj, rfl⟩
  · exact ⟨_, rfl⟩

theorem State.z_descChecked (s : State) (ev : LaneEvent) (i a : Nat) (h : key i a ≠ key 0xF048 13) : (s.descChecked ev).z i a = s.z i a := by
  unfold State.descChecked
  split
  · rfl
  · exact (State.z_bump ..).trans (if_neg h)

theorem State.n_descChecked (s : State) (ev : LaneEvent) (i a : Nat) (h : key i a ≠ key 0xF048 13) : (s.descChecked ev).n i a = s.n i a :=
  congrArg valNum (s.val_descChecked ev i a h)

theorem State.descChecked_frame (s : State) (ev : LaneEvent) : Frame [] [(0xF048, 13)] s (s.descChecked ev) := by
  unfold State.descChecked
  split
  · exact .refl s
  · exact (Frame.refl s).bump 0xF048 13 _

/-- The windows of the ports, and with them the way to an address. -/
theorem State.route_descChecked (s : State) (ev : LaneEvent) (a : Nat) : (s.descChecked ev).route a = s.route a := by
  unfold State.route
  rw [← List.head?_filterMap, ← List.head?_filterMap]
  refine congrArg List.head? (List.filterMap_congr fun w hw => ?_)
  have h16 := List.mem_range.1 hw
  have hkey (i : Nat) (hi : i < 0xF000) : key i (w + 1) ≠ key 0xF048 13 := by unfold key; omega
  rw [State.n_descChecked _ _ _ _ (hkey 0x7032 (by decide)), State.z_descChecked _ _ _ _ (hkey 0x7030 (by decide)),
    State.z_descChecked _ _ _ _ (hkey 0x7031 (by decide)), State.z_descChecked _ _ _ _ (hkey 0x7033 (by decide))]

theorem State.engineOn_descChecked (s : State) (ev : LaneEvent) : (s.descChecked ev).engineOn = s.engineOn := by
  obtain ⟨o, heq⟩ := s.descChecked_eq ev
  have hon : (s.descChecked ev).b 0x5800 1 = s.b 0x5800 1 := congrArg (decide <| · = 1) (s.n_descChecked ev _ _ (by decide))
  have hdom : (s.descChecked ev).dom .cmp = s.dom .cmp := by rw [heq]; rfl
  unfold State.engineOn
  rw [hon, hdom]

theorem State.streamWants_descChecked (s : State) (ev : LaneEvent) {t : Nat} (ht : t < 4) : (s.descChecked ev).streamWants t = s.streamWants t := by
  obtain ⟨o, heq⟩ := s.descChecked_eq ev
  have hz (a : Nat) (ha : a < 256) : (s.descChecked ev).z (0x5100 + t) a = s.z (0x5100 + t) a :=
    s.z_descChecked ev _ _ (by unfold key; omega)
  have hen : (s.descChecked ev).streamEn t = s.streamEn t := by unfold State.streamEn; rw [hz 1 (by decide)]
  have hwin : (s.descChecked ev).streamWin t = s.streamWin t := by unfold State.streamWin; rw [hz 1 (by decide)]
  have hbase : (s.descChecked ev).ringBase t = s.ringBase t := hz 2 (by decide)
  have hactive (p : Nat) : (s.descChecked ev).portActive p = s.portActive p := by rw [heq]; rfl
  have hport : (s.descChecked ev).streamPort t = s.streamPort t := by
    unfold State.streamPort
    rw [hbase, State.route_descChecked]
    cases s.route (s.ringBase t) with
    | none => rfl
    | some r => exact hactive r.1
  have hblock : (s.descChecked ev).blockReady t = s.blockReady t := by
    unfold State.blockReady
    rw [hwin, heq]
    rfl
  have hstream : (s.descChecked ev).stream t = s.stream t := by rw [heq]; rfl
  have hacts : (s.descChecked ev).acts = s.acts := by rw [heq]; rfl
  unfold State.streamWants
  rw [hen, hport, hacts, hstream, State.engineOn_descChecked, hblock, s.n_descChecked ev 0x5800 3 (by decide)]

theorem State.NextJob.descChecked {s : State} {c : Nat} (h : s.NextJob c) (ev : LaneEvent) : (s.descChecked ev).NextJob c := by
  obtain ⟨hfirst, hready, hengine, hring⟩ := h
  obtain ⟨o, heq⟩ := s.descChecked_eq ev
  refine ⟨?_, ?_, (s.engineOn_descChecked ev).trans hengine, ?_⟩
  · rw [heq]; exact hfirst
  · rw [heq]; exact hready
  · exact (congrArg (decide <| · = 1) (s.n_descChecked ev _ _ (by decide))).trans hring

section
variable {s : State} {c : Nat} {ev : LaneEvent}

/-- A coding job starts on the lowest free lane. -/
theorem exec_jobStart_codes {l : Nat} (halone : Alone s) (hbad : ev.bad = false) (h : s.NextJob c) (hvalid : (s.job c).valid = true)
    (hcodes : (s.job c).codes = true) (hlane : s.freeLane = some l) (hwants : ∀ i, i < 4 → s.streamWants i = false)
    (hfree : s.comp.lane.length < 8) :
    Completes (.jobStart ev) s [.comp] [(0xF048, 13)] fun t =>
      t.job c = { s.job c with st := 3, lane := l, since := s.now, order := s.comp.starts } ∧ mget t.comp.lane l = some (2, c % 16) := by
  obtain ⟨o, heq⟩ := s.descChecked_eq ev
  have hframe := s.descChecked_frame ev
  have hnext := h.descChecked ev
  have hclaims : (List.range 4).filter (fun t => (s.descChecked ev).streamWants t && (s.descChecked ev).ringRoom t) = [] := by
    refine List.filter_eq_nil_iff.2 fun t ht => ?_
    have h4 := List.mem_range.1 ht
    rw [State.streamWants_descChecked _ _ h4, hwants t h4]
    exact Bool.false_ne_true
  have hbegin : s.jobBegin ev = ((s.descChecked ev).takeLane l 2 (c % 16)).jobStarted c l := by
    have hjob : (s.descChecked ev).job c = s.job c := by rw [heq]; rfl
    have hl : (s.descChecked ev).freeLane = some l := by rw [heq]; exact hlane
    have hlen : (s.descChecked ev).comp.lane.length < 8 := by rw [heq]; exact hfree
    rw [s.jobBegin_eq hbad, State.startJob_next hnext, hjob, hvalid, hcodes, hl, hclaims]
    exact (if_neg Bool.noConfusion).trans ((if_pos rfl).trans (if_pos (Nat.sub_pos_of_lt hlen)))
  refine Frame.completes (u := ((s.descChecked ev).takeLane l 2 (c % 16)).jobStarted c l) ?_ halone hbegin rfl ?_
  · have hmono := hframe.mono (parts' := [.comp]) (objs' := [(0xF048, 13)]) (fun _ hp => absurd hp List.not_mem_nil) (fun _ ho => ho)
    exact ((hmono.setComp _).setComp _).setComp _
  · rw [State.ended_job, State.ended_comp, heq]
    refine ⟨?_, (mget_mset ..).trans (if_pos rfl)⟩
    unfold State.jobStarted
    rw [State.job_setJob, if_pos rfl]
    rfl

/-- A decoding job starts on the decompressor. -/
theorem exec_jobStart_decodes (halone : Alone s) (hbad : ev.bad = false) (h : s.NextJob c) (hvalid : (s.job c).valid = true)
    (hcodes : (s.job c).codes = false) (hbusy : s.decompBusy = false) :
    Completes (.jobStart ev) s [.comp] [(0xF048, 13)] fun t =>
      t.job c = { s.job c with st := 3, lane := 8, since := s.now, order := s.comp.starts } := by
  obtain ⟨o, heq⟩ := s.descChecked_eq ev
  have hframe := s.descChecked_frame ev
  have hnext := h.descChecked ev
  have hbegin : s.jobBegin ev = (s.descChecked ev).jobStarted c 8 := by
    have hjob : (s.descChecked ev).job c = s.job c := by rw [heq]; rfl
    have hidle : (s.descChecked ev).decompBusy = false := by rw [heq]; exact hbusy
    rw [s.jobBegin_eq hbad, State.startJob_next hnext, hjob, hvalid, hcodes, hidle]
    exact (if_neg Bool.noConfusion).trans ((if_neg Bool.noConfusion).trans (if_neg Bool.noConfusion))
  refine Frame.completes (u := (s.descChecked ev).jobStarted c 8) ?_ halone hbegin rfl ?_
  · have hmono := hframe.mono (parts' := [.comp]) (objs' := [(0xF048, 13)]) (fun _ hp => absurd hp List.not_mem_nil) (fun _ ho => ho)
    exact (hmono.setComp _).setComp _
  · rw [State.ended_job, heq]
    unfold State.jobStarted
    rw [State.job_setJob, if_pos rfl]
    rfl

/-- A job whose descriptor names no work ends as INVALID. -/
theorem exec_jobStart_invalid (halone : Alone s) (hbad : ev.bad = false) (h : s.NextJob c) (hvalid : (s.job c).valid = false)
    (hfast : s.mgtFast = true) :
    ∃ t, exec (.jobStart ev) s = .next t ∧ t.comp.lastSlot = c % 16 ∧ t.comp.lastStatus = 9 ∧
      t.z 0xF088 6 = min (s.z 0xF088 6 + 1) (2 ^ 32 - 1) ∧ bit (t.z 0x210D 0) 0 = true := by
  obtain ⟨o, heq⟩ := s.descChecked_eq ev
  have hbegin : s.jobBegin ev = (s.descChecked ev).endJob c ⟨9, 0, 0, 0, []⟩ := by
    have hjob : (s.descChecked ev).job c = s.job c := by rw [heq]; rfl
    rw [s.jobBegin_eq hbad, State.startJob_next (h.descChecked ev), hjob, hvalid]
    exact if_pos rfl
  have hpair : (s.descChecked ev).pair = s.pair := by rw [heq]
  have hcoh : (s.descChecked ev).coh = s.coh := by rw [heq]
  have hfast' : (s.descChecked ev).mgtFast = true := (s.descChecked_frame ev).mgtFast_eq.trans hfast
  have hback := (s.descChecked ev).endJob_settles c ⟨9, 0, 0, 0, []⟩ (alone_of_same hpair hcoh halone)
  obtain ⟨hslot, hstatus, -, hcount, -, hcause⟩ := State.endJob_fails hback (by decide) (by decide)
  refine ⟨s.ended (s.jobBegin ev).settle, rfl, ?_⟩
  rw [hbegin, State.ended_comp, State.ended_z _ _, State.ended_z _ _]
  exact ⟨hslot, hstatus, hcount.trans (by rw [s.z_descChecked ev 0xF088 6 (by decide)]), hcause hfast'⟩

end

/-! ### The running job ends -/

theorem State.running_spec {s : State} {slot c : Nat} (h : s.running slot = some c) : (s.job c).st = 3 ∧ c % 16 = slot := by
  have hfound : ((s.job c).st == 3 && c % 16 == slot) = true := List.find?_some (p := fun c => (s.job c).st == 3 && c % 16 == slot) h
  simpa using hfound

/-- The work of a job is counted, on its lane or on the decompressor (Table 18.8). -/
def State.workCounted (s : State) (j : Job) (input output : Octets) : State :=
  if j.codes then
    State.bumpW { (s.bumpW 0xF088 1 64 input.length) with
      comp := { (s.bumpW 0xF088 1 64 input.length).comp with consumed := s.comp.consumed + input.length } } 0xF088 2 64 output.length
  else s.bumpW 0xF088 11 64 output.length

/-- Corrected errors of a lane's buffers are counted. -/
def State.laneChecked (s : State) (x : JobInput) : State := if x.lane.corrected = 0 then s else s.bump 0xF088 12 x.lane.corrected

/-- A job's output has been written to its destination. -/
def State.jobWritten (s : State) (j : Job) (x : JobInput) : State :=
  ((s.laneChecked x).workCounted j (octAt x.input 0 j.srcLen) (j.work (octAt x.input 0 j.srcLen)).out).emit
    (.host 1 j.dst (j.work (octAt x.input 0 j.srcLen)).out)

theorem State.laneChecked_eq (s : State) (x : JobInput) : ∃ o, s.laneChecked x = { s with obj := o } ∧
    ∀ i a, key i a ≠ key 0xF088 12 → (s.laneChecked x).val i a = s.val i a ∧ (s.laneChecked x).z i a = s.z i a := by
  unfold State.laneChecked
  split
  · exact ⟨s.obj, rfl, fun _ _ _ => ⟨rfl, rfl⟩⟩
  · exact ⟨_, rfl, fun i a h => ⟨State.val_bump _ _ _ _ _ _ h, (State.z_bump ..).trans (if_neg h)⟩⟩

theorem State.workCounted_eq (s : State) (j : Job) (input output : Octets) :
    ∃ o k, s.workCounted j input output = { s with obj := o, comp := { s.comp with consumed := k } } ∧
      (s.workCounted j input output).z 0xF088 5 = s.z 0xF088 5 ∧ (s.workCounted j input output).z 0xF088 6 = s.z 0xF088 6 := by
  unfold State.workCounted
  split
  · refine ⟨_, _, rfl, ?_, ?_⟩
    · exact ((State.z_bumpW ..).trans (if_neg (by decide))).trans ((State.z_bumpW s ..).trans (if_neg (by decide)))
    · exact ((State.z_bumpW ..).trans (if_neg (by decide))).trans ((State.z_bumpW s ..).trans (if_neg (by decide)))
  · exact ⟨_, s.comp.consumed, rfl, (State.z_bumpW ..).trans (if_neg (by decide)), (State.z_bumpW ..).trans (if_neg (by decide))⟩

/-- What the work of a job leaves of the ring and of what lies beyond the engine. -/
theorem State.jobWritten_eq (s : State) (j : Job) (x : JobInput) :
    ∃ o k, s.jobWritten j x = { s with
        obj := o, comp := { s.comp with consumed := k },
        out := .host 1 j.dst (j.work (octAt x.input 0 j.srcLen)).out :: s.out } ∧
      (s.jobWritten j x).z 0xF088 5 = s.z 0xF088 5 := by
  obtain ⟨o, heq, hz⟩ := s.laneChecked_eq x
  obtain ⟨o', k, heq', h5, -⟩ := (s.laneChecked x).workCounted_eq j (octAt x.input 0 j.srcLen) (j.work (octAt x.input 0 j.srcLen)).out
  refine ⟨o', k, ?_, (State.emit_z ..).trans (h5.trans (hz 0xF088 5 (by decide)).2)⟩
  unfold State.jobWritten
  rw [heq', heq]
  rfl

/-- A job that ends in time, on a lane that is sound, has done the work of its descriptor. -/
theorem State.completeJob_eq {s : State} {slot c : Nat} {x : JobInput} (h : s.running slot = some c) (hreset : (s.dom .cmp).inReset = false)
    (hlate : s.late .mgt (s.job c).since (s.n 0x5800 4 * 1000) = false) (hbad : x.lane.bad = false) (herr : x.err = 0) :
    s.completeJob slot x = (s.jobWritten (s.job c) x).endJob c ((s.job c).work (octAt x.input 0 (s.job c).srcLen)) := by
  obtain ⟨o, heq, hval⟩ := s.laneChecked_eq x
  have hreset' : ((s.laneChecked x).dom .cmp).inReset = false := by rw [heq]; exact hreset
  have hlate' : (s.laneChecked x).late .mgt (s.job c).since ((s.laneChecked x).n 0x5800 4 * 1000) = false := by
    have hn : (s.laneChecked x).n 0x5800 4 = s.n 0x5800 4 := congrArg valNum (hval 0x5800 4 (by decide)).1
    have hsame : (s.laneChecked x).late .mgt = s.late .mgt := State.late_mgt (by rw [heq]; rfl) (by rw [heq])
    rw [hn, hsame]
    exact hlate
  unfold State.completeJob
  rw [h]
  refine (if_neg (fun hr => Bool.noConfusion (hr.symm.trans hreset'))).trans ((if_neg (fun hr => Bool.noConfusion (hr.symm.trans hlate'))).trans
    ((if_neg (fun hr => Bool.noConfusion (hr.symm.trans hbad))).trans ((if_neg (not_not.2 herr)).trans rfl)))

section
variable {s : State} {slot : Fin 16} {c : Nat}

theorem exec_jobComplete_ends (halone : Alone s) (h : s.running slot.val = some c) (r : JobInput) (hreset : (s.dom .cmp).inReset = false)
    (hlate : s.late .mgt (s.job c).since (s.n 0x5800 4 * 1000) = false) (hbad : r.lane.bad = false) (herr : r.err = 0) :
    ∃ t, exec (.jobComplete slot r) s = .next t ∧
      (let e := (s.job c).work (octAt r.input 0 (s.job c).srcLen)
       .host 1 (s.job c).dst e.out ∈ t.out ∧
       (e.status = 1 → t.z 0xF088 5 = min (s.z 0xF088 5 + 1) (2 ^ 32 - 1)) ∧
       (e.status ≠ 1 → e.status ≠ 11 → t.comp.lastSlot = c % 16 ∧ t.comp.lastStatus = e.status ∧ t.comp.lastDetail = e.detail)) ∧
      ((s.job c).lane < 8 → mget t.comp.lane (s.job c).lane = none) := by
  obtain ⟨hst, -⟩ := State.running_spec h
  obtain ⟨o, k, heq, h5⟩ := s.jobWritten_eq (s.job c) r
  refine ⟨s.ended (s.completeJob slot.val r).settle, rfl, ?_⟩
  rw [State.completeJob_eq h hreset hlate hbad herr]
  dsimp only
  generalize (s.job c).work (octAt r.input 0 (s.job c).srcLen) = e at heq h5 ⊢
  generalize s.jobWritten (s.job c) r = u at heq h5 ⊢
  have hjob : u.job c = s.job c := by rw [heq]; rfl
  have hout : .host 1 (s.job c).dst e.out ∈ u.out := by rw [heq]; exact List.mem_cons_self ..
  have hback := u.endJob_settles c e (alone_of_same (by rw [heq]) (by rw [heq]) halone)
  obtain ⟨-, -, -, hended, -, -, hlane⟩ := u.jobEnded_keeps c e
  refine ⟨⟨?_, fun h1 => ?_, fun h1 h11 => ?_⟩, fun h8 => ?_⟩
  · rw [State.ended_out]
    exact hback.out (hended ▸ hout)
  · rw [State.ended_z _ _, hback.counts 5 (.inl rfl), u.jobEnded_succeeds c e h1, h5]
  · obtain ⟨hslot, hstatus, hdetail, -⟩ := State.endJob_fails hback h1 h11
    rw [State.ended_comp]
    exact ⟨hslot, hstatus, hdetail⟩
  · rw [State.ended_comp, hback.lane, ← hjob]
    rw [← hjob] at h8 hst
    exact hlane hst h8

theorem exec_jobWatchdogExpiry_ends (halone : Alone s) (h : s.running slot.val = some c) (hfast : s.mgtFast = true) :
    ∃ t, exec (.jobWatchdogExpiry slot) s = .next t ∧ t.now = max s.now ((s.job c).since + s.n 0x5800 4 * 1000) ∧
      t.comp.lastSlot = c % 16 ∧ t.comp.lastStatus = 8 ∧ bit (t.z 0x210D 0) 1 = true ∧
      t.z 0xF088 8 = min (s.z 0xF088 8 + 1) (2 ^ 32 - 1) ∧ ((s.job c).lane < 8 → mget t.comp.lane (s.job c).lane = none) := by
  obtain ⟨hst, -⟩ := State.running_spec h
  have hexpiry : s.jobWatchdog slot.val = (s.elapseTo ((s.job c).since + s.n 0x5800 4 * 1000)).endJob c ⟨8, 0, 0, 0, []⟩ := by
    unfold State.jobWatchdog
    rw [h]
  refine ⟨s.ended (s.jobWatchdog slot.val).settle, rfl, ?_⟩
  rw [hexpiry]
  have hframe := (Frame.refl (parts := [.now, .time]) (objs := clockObjects) s).elapseTo ((s.job c).since + s.n 0x5800 4 * 1000)
  have hnow := s.elapseTo_now ((s.job c).since + s.n 0x5800 4 * 1000)
  generalize s.elapseTo ((s.job c).since + s.n 0x5800 4 * 1000) = u at hframe hnow ⊢
  have hcomp : u.comp = s.comp := hframe.part .comp (by decide)
  have hjob : u.job c = s.job c := congrArg (fun x : Comp => mgetD x.job c {}) hcomp
  have hback := u.endJob_settles c ⟨8, 0, 0, 0, []⟩ (alone_of_same (hframe.part .pair (by decide)) (hframe.part .coh (by decide)) halone)
  obtain ⟨-, -, hended, -, -, -, hlane⟩ := u.jobEnded_keeps c ⟨8, 0, 0, 0, []⟩
  obtain ⟨hslot, hstatus, -, -, hwdog, hcause⟩ := State.endJob_fails hback (by decide) (by decide)
  have hz : u.z 0xF088 8 = s.z 0xF088 8 := hframe.z_eq (by decide) (by decide)
  rw [State.ended_now, State.ended_comp, State.ended_z _ _, State.ended_z _ _]
  refine ⟨hback.now.trans (hended.trans hnow), hslot, hstatus, hcause (hframe.mgtFast_eq.trans hfast), (hwdog rfl).trans (by rw [hz]), fun h8 => ?_⟩
  rw [hback.lane, ← hjob]
  rw [← hjob] at h8 hst
  exact hlane hst h8

end

theorem exec_demandUpdate_completes (s : State) :
    Completes .demandUpdate s [.comp] [(0x2208, 7)] fun t => t.z 0x2208 7 = s.demand ∧ t.comp = { s.comp with consumed := 0 } := by
  have hframe : Frame [.comp] [(0x2208, 7)] s s.setDemand := ((Frame.refl s).put 0x2208 7 _).setComp _
  refine completes_of_frame rfl hframe ⟨?_, ?_⟩
  · rw [State.ended_z _ _]
    exact (State.z_put ..).trans (if_pos rfl)
  · rw [State.ended_comp]
    rfl

/-! ### The flush -/

/-- A pending job that a flush meets: one whose descriptor is still read waits to be cancelled, one that has not started ends. -/
def Job.flushed (j : Job) : Job := if j.st = 1 then { j with st := 7 } else if j.st = 2 ∨ j.st = 5 then { j with st := 4 } else j

/-- One job of the ring is flushed. -/
def State.flushJob (s : State) (c : Nat) : State :=
  if (s.job c).st = 1 then s.setJob c { s.job c with st := 7 }
  else if (s.job c).st = 2 ∨ (s.job c).st = 5 then s.endJob c ⟨11, 0, 0, 0, []⟩ else s

theorem State.flushJobs_eq (s : State) : s.flushJobs = s.jobCounts.foldl State.flushJob s := rfl

section
variable {P : Nat → Nat → Prop} {S : Nat → Prop} {s : State} {c : Nat}

theorem State.DevFrom.endJob (hs : s.DevFrom P) (hp : P 2 c) (e : JobEnd) : (s.endJob c e).DevFrom P := by
  obtain ⟨hcoh, -⟩ := s.jobEnded_keeps c e
  rw [State.endJob_eq]
  exact (hs.of_coh hcoh).devRequest hp ..

theorem State.resultNoted_boot (s : State) (c : Nat) (e : JobEnd) : (s.resultNoted c e).boot = s.boot := by
  unfold State.resultNoted
  split_ifs
  · rfl
  · rfl
  · rw [State.jobFailed_eq]
    obtain ⟨o, heq, -⟩ := State.kindCounted_eq
      (((s.failureKept (c % 16) e.status e.detail).setCause 12 (failureCause e.status)).bump 0xF088 6 1) e.status
    rw [heq]
    exact State.setCause_boot ..

theorem State.endJob_keeps (s : State) (c : Nat) (e : JobEnd) : (s.endJob c e).boot = s.boot ∧ (s.endJob c e).pair = s.pair ∧
    ∀ d, (s.endJob c e).job d = if d = c then { s.job c with st := 4 } else s.job d := by
  have hsent := (s.jobEnded c e).devRequest_devSent 2 c 9 ((s.jobEnded c e).z 0x5801 1 + 64 * (c % 16)) ((s.job c).result e e.out.length)
  obtain ⟨l, hfreed, -⟩ := s.unitFreed_eq (s.job c)
  have hboot : (s.jobEnded c e).boot = s.boot := (State.resultNoted_boot ..).trans (by rw [hfreed])
  obtain ⟨-, hpair, -⟩ := s.jobEnded_keeps c e
  rw [State.endJob_eq]
  exact ⟨hsent.boot.trans hboot, hsent.pair.trans hpair, fun d => (congrArg (fun x : Comp => mgetD x.job d {}) hsent.comp).trans (s.jobEnded_job c e d)⟩

theorem State.flushJob_spec (s : State) (c : Nat) : (s.flushJob c).boot = s.boot ∧ (s.flushJob c).pair = s.pair ∧
    ∀ d, (s.flushJob c).job d = if d = c then (s.job c).flushed else s.job d := by
  unfold State.flushJob Job.flushed
  split_ifs with h1 h2
  · exact ⟨rfl, rfl, fun d => State.job_setJob s c d _⟩
  · exact s.endJob_keeps c _
  · refine ⟨rfl, rfl, fun d => ?_⟩
    split
    · next h => rw [h]
    · rfl

theorem State.DevFrom.flushJob (hs : s.DevFrom P) (hp : (s.job c).st = 2 ∨ (s.job c).st = 5 → P 2 c) : (s.flushJob c).DevFrom P := by
  unfold State.flushJob
  split_ifs with h1 h2
  · exact hs.of_coh rfl
  · exact hs.endJob (hp h2) _
  · exact hs

/-- Jobs that are flushed one after another. -/
theorem State.foldl_flushJob (l : List Nat) : ∀ s : State, l.Nodup → s.DevFrom P → (∀ c ∈ l, (s.job c).st = 2 ∨ (s.job c).st = 5 → P 2 c) →
    (l.foldl State.flushJob s).boot = s.boot ∧ (l.foldl State.flushJob s).pair = s.pair ∧ (l.foldl State.flushJob s).DevFrom P ∧
    ∀ d, (l.foldl State.flushJob s).job d = if d ∈ l then (s.job d).flushed else s.job d := by
  induction l with
  | nil => exact fun s _ hs _ => ⟨rfl, rfl, hs, fun _ => (if_neg List.not_mem_nil).symm⟩
  | cons c l ih =>
    intro s hnodup hs hp
    obtain ⟨hc, hl⟩ := List.nodup_cons.1 hnodup
    obtain ⟨hboot, hpair, hjob⟩ := s.flushJob_spec c
    have hrest (d : Nat) (hd : d ∈ l) : (s.flushJob c).job d = s.job d := (hjob d).trans (if_neg fun (h : d = c) => hc (h ▸ hd))
    obtain ⟨hboots, hpairs, hfrom, hjobs⟩ := ih (s.flushJob c) hl (hs.flushJob (hp c (List.mem_cons_self ..))) fun d hd => by
      rw [hrest d hd]
      exact hp d (List.mem_cons_of_mem _ hd)
    refine ⟨hboots.trans hboot, hpairs.trans hpair, hfrom, fun d => (hjobs d).trans ?_⟩
    by_cases hd : d ∈ l
    · rw [if_pos hd, if_pos (List.mem_cons_of_mem _ hd), hrest d hd]
    · rw [if_neg hd, hjob d]
      by_cases hdc : d = c
      · rw [if_pos hdc, hdc, if_pos (List.mem_cons_self ..)]
      · rw [if_neg hdc, if_neg (List.not_mem_cons_of_ne_of_not_mem hdc hd)]

end

/-- The counts of the pending jobs all differ: the ring holds less than 32. -/
theorem State.jobCounts_nodup (s : State) : s.jobCounts.Nodup := by
  have hn : s.jobsPending < 32 := Nat.mod_lt _ (by decide)
  refine List.Nodup.map_on (fun i hi j hj h => ?_) List.nodup_range
  have hi' := List.mem_range.1 hi
  have hj' := List.mem_range.1 hj
  omega

/-- A write is answered, and what follows it begins. -/
theorem State.answered_devFrom {P : Nat → Nat → Prop} {s : State} (h : s.DevFrom P) (w : Who) : (s.answered w).DevFrom P := h.of_coh rfl

theorem exec_jobFlush_cancels {s : State} (halone : Alone s) (who : Who) (v : BitVec 32) (h : Accepted s who 0x5802 4 v.toNat) :
    ∃ t, exec (.jobFlush who v) s = .next t ∧ ∀ c ∈ s.jobCounts,
      ((s.job c).st = 3 → t.job c = s.job c) ∧ ((s.job c).st = 1 → t.job c = { s.job c with st := 7 }) ∧
      (((s.job c).st = 2 ∨ (s.job c).st = 5) → (t.job c).st ≠ 2 ∧ (t.job c).st ≠ 5 ∧ (t.job c).st ≠ 3) := by
  have hrow : findRow 0x5802 4 = some ⟨0x5802, 0x5802, 4, 4, .u32, .l, 0, 1, 0, .any, 0xffffffff, 4⟩ := rfl
  have heff : ∀ (u : State) (a : Acc), a.idx = 0x5802 → a.sub = 4 →
      u.liveEffect a (storedVal ⟨0x5802, 0x5802, 4, 4, .u32, .l, 0, 1, 0, .any, 0xffffffff, 4⟩ 0x5802 4 v.toNat) =
      (u.rewritten (key 0x5802 4)).flushJobs := by
    rintro u ⟨path, req, level, idx, sub⟩ rfl rfl
    unfold State.liveEffect
    rw [if_neg (show ¬ 0x5802 < 0x2200 by decide), if_neg (show ¬ 0x5802 < 0x3000 by decide)]
    rfl
  have hup := State.up_of_accepted h
  have hlone := alone_accepted halone who
  have hboot : (s.accepted who).boot = s.boot := s.accepted_boot who
  have hcomp : (s.accepted who).comp = s.comp := (Frame.accepted (parts := [.acc]) (objs := accessObjects) s who).part .comp (by decide)
  suffices hmain : (s.accepted who).flushJobs.up = true ∧ ∀ c ∈ s.jobCounts,
      ((s.job c).st = 3 → (((s.accepted who).flushJobs.answered who).settle).job c = s.job c) ∧
      ((s.job c).st = 1 → (((s.accepted who).flushJobs.answered who).settle).job c = { s.job c with st := 7 }) ∧
      (((s.job c).st = 2 ∨ (s.job c).st = 5) → ((((s.accepted who).flushJobs.answered who).settle).job c).st ≠ 2 ∧
        ((((s.accepted who).flushJobs.answered who).settle).job c).st ≠ 5 ∧ ((((s.accepted who).flushJobs.answered who).settle).job c).st ≠ 3) by
    obtain ⟨hup', hjobs⟩ := hmain
    refine ⟨_, congrArg s.ends (State.writeNum_effect hrow rfl (by decide) h heff hup'), fun c hc => ?_⟩
    show ((s.job c).st = 3 → (s.ended _).job c = _) ∧ ((s.job c).st = 1 → (s.ended _).job c = _) ∧
      (_ → ((s.ended _).job c).st ≠ 2 ∧ ((s.ended _).job c).st ≠ 5 ∧ ((s.ended _).job c).st ≠ 3)
    rw [State.ended_job]
    exact hjobs c hc
  generalize s.accepted who = u at hlone hboot hcomp
  have hjob (c : Nat) : u.job c = s.job c := congrArg (fun x : Comp => mgetD x.job c {}) hcomp
  have hcounts : u.jobCounts = s.jobCounts := by unfold State.jobCounts State.jobsPending; rw [hcomp]
  obtain ⟨hflushBoot, hflushPair, hfrom, hflushed⟩ := State.foldl_flushJob (P := fun unit arg => unit = 2 ∧ ((s.job arg).st = 2 ∨ (s.job arg).st = 5))
    s.jobCounts u s.jobCounts_nodup (devFrom_of_alone hlone _) fun c _ hc => ⟨rfl, hjob c ▸ hc⟩
  rw [u.flushJobs_eq, hcounts]
  generalize s.jobCounts.foldl State.flushJob u = w at hflushBoot hflushPair hfrom hflushed
  refine ⟨?_, fun c hc => ?_⟩
  · unfold State.up at hup ⊢
    rw [hflushBoot, hboot]
    exact hup
  · have hback := State.settle_wroteBack (S := fun c => (s.job c).st = 2 ∨ (s.job c).st = 5) (State.answered_devFrom hfrom who)
      (show w.pair.role ≠ 2 from hflushPair ▸ hlone.1) (show w.pair.role ≠ 3 from hflushPair ▸ hlone.2.1)
    have hend : (w.answered who).job c = (s.job c).flushed := (hflushed c).trans ((if_pos hc).trans (congrArg Job.flushed (hjob c)))
    refine ⟨fun h3 => ?_, fun h1 => ?_, fun h25 => ?_⟩
    · have hsame : (s.job c).flushed = s.job c := by unfold Job.flushed; rw [if_neg (by omega), if_neg (by omega)]
      rw [hback.other c (by omega) (by rw [hend, hsame]; omega), hend, hsame]
    · have hwaits : (s.job c).flushed = { s.job c with st := 7 } := if_pos h1
      rw [hback.other c (by omega) (by rw [hend, hwaits]; exact Nat.succ_ne_self 6), hend, hwaits]
    · have hends : ((w.answered who).job c).st = 4 := by
        rw [hend]
        unfold Job.flushed
        rw [if_neg (by omega), if_pos h25]
      have hnamed := hback.named c h25
      rw [hends] at hnamed
      omega

/-! ### The tail moves -/

/-- A new job of the ring asks for its descriptor. -/
def State.submitJob (s : State) (c : Nat) : State := (s.setJob c { st := 1 }).devRequest 1 c 8 (s.z 0x5801 1 + 64 * (c % 16)) []

theorem State.submitJobs_eq (s : State) (v : Nat) : s.submitJobs v =
    ((List.range ((v + 32 - s.comp.tail) % 32)).map fun i => (s.comp.tail + i) % 32).foldl State.submitJob
      { s with comp := { s.comp with tail := v } } := by
  rw [List.foldl_map]
  rfl

/-- The ring as a tail write leaves it: the new jobs wait for their descriptors, or have them. -/
structure State.Submitted (l : List Nat) (head tail : Nat) (p : Pair) (b : Boot) (s : State) : Prop where
  head : s.comp.head = head
  tail : s.comp.tail = tail
  pair : s.pair = p
  boot : s.boot = b
  jobs : ∀ c ∈ l, (s.job c).st = 1 ∨ (s.job c).st = 2 ∨ (s.job c).st = 5

section
variable {l : List Nat} {head tail : Nat} {p : Pair} {b : Boot} {s t : State}

theorem State.DevSent.submitted (h : s.DevSent t) (hs : s.Submitted l head tail p b) : t.Submitted l head tail p b := by
  obtain ⟨hhead, htail, hpair, hboot, hjobs⟩ := hs
  refine ⟨h.comp ▸ hhead, h.comp ▸ htail, h.pair.trans hpair, h.boot.trans hboot, fun c hc => ?_⟩
  have hjob : t.job c = s.job c := congrArg (fun x : Comp => mgetD x.job c {}) h.comp
  rw [hjob]
  exact hjobs c hc

theorem State.foldl_submitJob {P : Nat → Nat → Prop} (l : List Nat) : ∀ (done : List Nat) (s : State), s.Submitted done head tail p b →
    s.DevFrom P → (∀ c ∈ l, P 1 c) → (l.foldl State.submitJob s).Submitted (done ++ l) head tail p b ∧ (l.foldl State.submitJob s).DevFrom P := by
  induction l with
  | nil => exact fun done s hs hp _ => ⟨(List.append_nil done).symm ▸ hs, hp⟩
  | cons c l ih =>
    intro done s hs hfrom hp
    have hset : (s.setJob c { st := 1 }).Submitted (done ++ [c]) head tail p b := by
      obtain ⟨hhead, htail, hpair, hboot, hjobs⟩ := hs
      refine ⟨hhead, htail, hpair, hboot, fun d hd => ?_⟩
      rw [State.job_setJob]
      split
      · exact .inl rfl
      · next hne =>
        obtain hd | hd := List.mem_append.1 hd
        · exact hjobs d hd
        · exact absurd (List.mem_singleton.1 hd) hne
    have hfrom' : (s.setJob c { st := 1 }).DevFrom P := hfrom.of_coh rfl
    have hsent := (State.devRequest_devSent (s.setJob c { st := 1 }) 1 c 8 (s.z 0x5801 1 + 64 * (c % 16)) []).submitted hset
    have hstep := ih (done ++ [c]) (s.submitJob c) hsent (hfrom'.devRequest (hp c (List.mem_cons_self ..)) ..) fun d hd => hp d (List.mem_cons_of_mem _ hd)
    rw [List.append_assoc] at hstep
    exact hstep

/-- A descriptor that has been read makes its job ready, or makes it fail. -/
theorem State.descRead_submitted (h : s.Submitted l head tail p b) {c : Nat} (hc : c ∈ l) (result : Nat) (data : Octets) :
    (s.descRead c result data).Submitted l head tail p b ∧ (s.descRead c result data).coh = s.coh := by
  have h7 : (s.job c).st ≠ 7 := by
    have := h.jobs c hc
    omega
  unfold State.descRead
  dsimp only
  rw [if_neg h7]
  split
  · exact ⟨h, rfl⟩
  · obtain ⟨hhead, htail, hpair, hboot, hjobs⟩ := h
    refine ⟨⟨hhead, htail, hpair, hboot, fun d hd => ?_⟩, rfl⟩
    rw [State.job_setJob]
    split
    · dsimp only
      split
      · exact .inr (.inl rfl)
      · exact .inr (.inr rfl)
    · exact hjobs d hd

/-- What follows a tail write: the descriptors of the new jobs arrive. -/
theorem State.settle_submitted (h : s.Submitted l head tail p b) (hfrom : s.DevFrom fun unit arg => unit = 1 ∧ arg ∈ l) (h2 : p.role ≠ 2)
    (h3 : p.role ≠ 3) : s.settle.Submitted l head tail p b := by
  refine State.settle_holds (Q := State.Submitted l head tail p b) (fun t u hsent hq => hsent.submitted hq) (fun t r result data hr hq => ?_)
    (fun t hq => ?_) h hfrom
  · obtain ⟨hunit, harg⟩ := hr
    have hdone : t.unitDone r result data = t.descRead r.arg result data := by
      unfold State.unitDone
      dsimp only
      rw [hunit]
      rfl
    rw [hdone]
    exact State.descRead_submitted hq harg result data
  · rw [hq.pair]
    exact ⟨h2, h3⟩

end

theorem exec_jobTailWrite_submits {s : State} (halone : Alone s) (who : Who) (v : BitVec 8) (h : Accepted s who 0x5802 1 v.toNat) :
    ∃ t, exec (.jobTailWrite who v) s = .next t ∧ t.comp.tail = v.toNat ∧ t.comp.head = s.comp.head ∧
      ∀ i, i < (v.toNat + 32 - s.comp.tail) % 32 →
        (t.job ((s.comp.tail + i) % 32)).st = 1 ∨ (t.job ((s.comp.tail + i) % 32)).st = 2 ∨ (t.job ((s.comp.tail + i) % 32)).st = 5 := by
  have hrow : findRow 0x5802 1 = some ⟨0x5802, 0x5802, 1, 1, .u8, .l, 0, 1, 0, .any, 0xff, 1⟩ := rfl
  have heff : ∀ (u : State) (a : Acc), a.idx = 0x5802 → a.sub = 1 →
      u.liveEffect a (storedVal ⟨0x5802, 0x5802, 1, 1, .u8, .l, 0, 1, 0, .any, 0xff, 1⟩ 0x5802 1 v.toNat) =
      (u.rewritten (key 0x5802 1)).submitJobs v.toNat := by
    rintro u ⟨path, req, level, idx, sub⟩ rfl rfl
    rw [storedVal_u8 hrow rfl rfl v.isLt]
    unfold State.liveEffect
    rw [if_neg (show ¬ 0x5802 < 0x2200 by decide), if_neg (show ¬ 0x5802 < 0x3000 by decide)]
    rfl
  have hup := State.up_of_accepted h
  have hlone := alone_accepted halone who
  have hboot : (s.accepted who).boot = s.boot := s.accepted_boot who
  have hcomp : (s.accepted who).comp = s.comp := (Frame.accepted (parts := [.acc]) (objs := accessObjects) s who).part .comp (by decide)
  have hpair : (s.accepted who).pair = s.pair := (Frame.accepted (parts := [.acc]) (objs := accessObjects) s who).part .pair (by decide)
  have hsubmits := (s.accepted who).submitJobs_eq v.toNat
  have heff' := State.writeNum_effect (eff := (State.submitJobs · v.toNat)) hrow rfl (by decide) h heff
  rw [hsubmits, hcomp] at heff'
  generalize hl : (List.range ((v.toNat + 32 - s.comp.tail) % 32)).map (fun i => (s.comp.tail + i) % 32) = l at heff'
  have hstart : ({ s.accepted who with comp := { s.comp with tail := v.toNat } } : State).Submitted [] s.comp.head v.toNat s.pair s.boot :=
    ⟨rfl, rfl, hpair, hboot, fun c hc => absurd hc List.not_mem_nil⟩
  obtain ⟨hsub, hfrom⟩ := State.foldl_submitJob l [] _ hstart
    ((devFrom_of_alone hlone fun unit arg => unit = 1 ∧ arg ∈ l).of_coh rfl) fun c hc => ⟨rfl, hc⟩
  generalize l.foldl State.submitJob { s.accepted who with comp := { s.comp with tail := v.toNat } } = u at heff' hsub hfrom
  have hanswered : (u.answered who).Submitted l s.comp.head v.toNat s.pair s.boot := by
    obtain ⟨hhead, htail, hpr, hbt, hjobs⟩ := hsub
    exact ⟨hhead, htail, hpr, hbt, hjobs⟩
  have hup' : u.up = true := by
    unfold State.up at hup ⊢
    rw [hsub.boot]
    exact hup
  have hend := State.settle_submitted hanswered (State.answered_devFrom hfrom who) halone.1 halone.2.1
  refine ⟨s.ended (u.answered who).settle, congrArg s.ends (heff' hup'), ?_, ?_, fun i hi => ?_⟩
  · rw [State.ended_comp]; exact hend.tail
  · rw [State.ended_comp]; exact hend.head
  · rw [State.ended_job]
    exact hend.jobs _ (hl ▸ List.mem_map_of_mem (List.mem_range.2 hi))

/-! ### The ring as a whole -/

theorem jobsAreSubmittedAndStart : Claims.JobsAreSubmittedAndStart := by
  intro s halone
  refine ⟨fun who v h => exec_jobTailWrite_submits halone who v h, fun c ev hfirst hready hengine hring hbad => ?_⟩
  have hnext : s.NextJob c := ⟨hfirst, hready, hengine, hring⟩
  exact ⟨fun l hvalid hcodes hlane hwants hfree => exec_jobStart_codes halone hbad hnext hvalid hcodes hlane hwants hfree,
    fun hvalid hcodes hbusy => exec_jobStart_decodes halone hbad hnext hvalid hcodes hbusy,
    fun hvalid hfast => exec_jobStart_invalid halone hbad hnext hvalid hfast⟩

theorem jobsEnd : Claims.JobsEnd := by
  intro s halone
  exact ⟨fun slot c hrun => ⟨fun r hreset hlate hbad herr => exec_jobComplete_ends halone hrun r hreset hlate hbad herr,
      fun hfast => exec_jobWatchdogExpiry_ends halone hrun hfast⟩,
    fun who v h => exec_jobFlush_cancels halone who v h, exec_demandUpdate_completes s⟩

/-- Settles O54: a job's end is its record and a request for its own write-back, and what follows a command of a lone device serves
only the requests that the command made. -/
theorem jobsRunInOrder : Obligations.JobsRunInOrder := by
  unfold Obligations.JobsRunInOrder
  exact ⟨jobsAreSubmittedAndStart, jobsEnd⟩

end Sys2Proof.Machine
end

section
/-! PROOF. Rope frames and the faults of the Rope (R748, R749, R751, R762, R763, R772). -/
set_option Elab.async false
namespace Sys2Proof.Machine

/-! ### What the pair's follow-up leaves -/

/-- The link of the pair: all of the pair but its messages, its reports, and the catch-up of a Second. -/
def Pair.link (x : Pair) : Pair :=
  { x.untold with eligible := false, run := 0, catchup := 0, mirrorFail := false, campReset := false, rxSet := none, boundary := none }

/-- How a catch-up state may go on of itself (Table 19.6): never back below DICT, and from DICT by no command but those of the set. -/
def CatchupGoesOn (a b : Nat) : Prop := (2 ≤ a → 2 ≤ b) ∧ (a = 2 → b = 2) ∧ (a = 5 → b = 5 ∨ b = 6) ∧ (6 ≤ a → b = a)

/-- What a follow-up of the pair leaves: the link, everything beyond the pair, the Lead's view of its Second, and, on a Second, the set that
it gathers and an ineligibility whose reason lasts. -/
structure State.Followed (s t : State) : Prop where
  link : t.pair.link = s.pair.link
  frame : Frame pairParts pairObjects s t
  out : s.out ⊆ t.out
  cause : ∀ b, bit (s.z 0x210F 0) b = true → bit (t.z 0x210F 0) b = true
  lead : s.pair.role ≠ 3 → t.pair.eligible = s.pair.eligible
  run : s.pair.run = 0 → t.pair.run = 0
  goesOn : CatchupGoesOn s.pair.catchup t.pair.catchup
  barred : s.pair.hbRun = false ∨ s.pair.catchup = 6 ∨ s.pair.run = 0 → s.pair.eligible = false → t.pair.eligible = false
  sets : 2 ≤ s.pair.catchup ∨ (s.pair.rxSet = none ∧ s.pair.boundary = none) → t.pair.rxSet = s.pair.rxSet ∧ t.pair.boundary = s.pair.boundary

section
variable {s t u : State}

theorem CatchupGoesOn.refl (a : Nat) : CatchupGoesOn a a := ⟨id, id, .inl, fun _ => rfl⟩

theorem State.Followed.refl (s : State) : s.Followed s :=
  ⟨rfl, .refl s, fun _ h => h, fun _ h => h, fun _ => rfl, fun h => h, .refl _, fun _ h => h, fun _ => ⟨rfl, rfl⟩⟩

/-- A Second that waits for its snapshot, or shadows, goes on so. -/
theorem State.Followed.catchup (h : s.Followed t) (hc : 6 ≤ s.pair.catchup) : t.pair.catchup = s.pair.catchup := by
  obtain ⟨-, -, -, hstays⟩ := h.goesOn
  exact hstays hc

theorem State.Followed.role (h : s.Followed t) : t.pair.role = s.pair.role := by
  have hlink := congrArg Pair.role h.link
  exact hlink

theorem State.Followed.hbRun (h : s.Followed t) : t.pair.hbRun = s.pair.hbRun := by
  have hlink := congrArg Pair.hbRun h.link
  exact hlink

theorem State.Followed.trans (h : s.Followed t) (k : t.Followed u) : s.Followed u := by
  have hgoes : CatchupGoesOn s.pair.catchup u.pair.catchup := by
    have ht := h.goesOn
    have hu := k.goesOn
    unfold CatchupGoesOn at ht hu ⊢
    omega
  refine ⟨k.link.trans h.link, h.frame.trans k.frame, fun _ ho => k.out (h.out ho), fun b hb => k.cause b (h.cause b hb), fun hr => ?_,
    fun hr => k.run (h.run hr), hgoes, fun hbar hel => k.barred ?_ (h.barred hbar hel), fun hset => ?_⟩
  · rw [k.lead (by rw [h.role]; exact hr), h.lead hr]
  · obtain hb | hc | hr := hbar
    · exact .inl (h.hbRun.trans hb)
    · exact .inr (.inl ((h.catchup (by omega)).trans hc))
    · exact .inr (.inr (h.run hr))
  · obtain ⟨hrx, hbound⟩ := h.sets hset
    have hset' : 2 ≤ t.pair.catchup ∨ (t.pair.rxSet = none ∧ t.pair.boundary = none) := by
      obtain hc | ⟨hn, hm⟩ := hset
      · exact .inl (h.goesOn.1 hc)
      · exact .inr ⟨hrx.trans hn, hbound.trans hm⟩
    obtain ⟨hrx', hbound'⟩ := k.sets hset'
    exact ⟨hrx'.trans hrx, hbound'.trans hbound⟩

theorem State.Followed.ite {c : Prop} [Decidable c] (h : s.Followed t) (k : s.Followed u) : s.Followed (if c then t else u) := by
  split
  · exact h
  · exact k

theorem State.Followed.foldl {α : Type} {f : State → α → State} (hf : ∀ (s : State) (a : α), s.Followed (f s a)) (l : List α) (s : State) :
    s.Followed (l.foldl f s) := by
  induction l generalizing s with
  | nil => exact .refl s
  | cons a l ih => exact (hf s a).trans (ih _)

/-- The part of the pair that the catch-up of a Second decides. -/
def Pair.caught (x : Pair) : Bool × Nat × Nat × Option RxSet × Option Nat := (x.eligible, x.run, x.catchup, x.rxSet, x.boundary)

/-- A step that leaves the link and the state of the Second's catch-up. -/
theorem State.Followed.of_pair (hframe : Frame pairParts pairObjects s t) (hout : s.out ⊆ t.out) (hlink : t.pair.link = s.pair.link)
    (hcause : ∀ b, bit (s.z 0x210F 0) b = true → bit (t.z 0x210F 0) b = true) (hcaught : t.pair.caught = s.pair.caught) : s.Followed t := by
  obtain ⟨helig, hrun, hcatchup, hset, hbound⟩ : t.pair.eligible = s.pair.eligible ∧ t.pair.run = s.pair.run ∧ t.pair.catchup = s.pair.catchup ∧
      t.pair.rxSet = s.pair.rxSet ∧ t.pair.boundary = s.pair.boundary := by simpa [Pair.caught] using hcaught
  exact ⟨hlink, hframe, hout, hcause, fun _ => helig, fun h => hrun.trans h, hcatchup ▸ .refl _, fun _ h => helig.trans h, fun _ => ⟨hset, hbound⟩⟩

end

theorem State.campSend_followed (s : State) (urgent : Bool) (code : Nat) (body : Octets) : s.Followed (s.campSend urgent code body) := by
  have htold := s.campSend_told urgent code body
  have hobj : (s.campSend urgent code body).obj = s.obj := State.campSend_obj ..
  have hlink := congrArg Pair.link htold.pair
  have hcaught := congrArg Pair.caught htold.pair
  exact .of_pair ((Frame.refl s).campSend ..) htold.out hlink (fun b hb => by rw [State.z_congr hobj]; exact hb) hcaught

/-- Reports and the snapshot that is due are no part of the link. -/
theorem State.reports_followed (s : State) (m : Map Nat) (due : Bool) :
    s.Followed { s with pair := { s.pair with sentPorts := m, snapDue := due } } :=
  .of_pair ((Frame.refl s).setPair _) (fun _ h => h) rfl (fun _ h => h) rfl

theorem State.sendPortStat_followed (s : State) (p : Nat) : s.Followed (s.sendPortStat p) := by
  have hsent (m : Map Nat) : s.Followed { s with pair := { s.pair with sentPorts := m } } := s.reports_followed m s.pair.snapDue
  exact (State.Followed.refl s).ite ((hsent _).trans (State.campSend_followed ..))

theorem State.leadPort_followed (s : State) (p : Nat) : s.Followed (s.leadPort p) := by
  have htold := s.sendPortStat_followed p
  exact (htold.trans (State.campSend_followed ..)).ite ((htold.trans (State.campSend_followed ..)).ite htold)

theorem State.leadFollow_followed (s : State) : s.Followed s.leadFollow := by
  unfold State.leadFollow
  extract_lets ports
  have hports : s.Followed ports := (State.Followed.foldl State.leadPort_followed _ s).ite (.refl s)
  have hdue : ports.Followed { ports with pair := { ports.pair with snapDue := false } } := ports.reports_followed ports.pair.sentPorts false
  exact ((hports.trans hdue).trans (State.campSend_followed ..)).ite hports

theorem State.syncRope_out (s : State) : s.syncRope.out = s.out := by
  unfold State.syncRope
  extract_lets old
  split <;> rfl

theorem State.syncInelig_out (s : State) : s.syncInelig.out = s.out := by
  unfold State.syncInelig
  split
  · exact State.setCause_out ..
  · rfl

theorem State.setEligible_out (s : State) (e : Bool) : (s.setEligible e).out = s.out := by
  unfold State.setEligible
  extract_lets counted
  have hcounted : counted.out = s.out := by
    show (if _ then _ else _ : State).out = _
    split <;> rfl
  rw [State.syncRope_out, State.syncInelig_out]
  exact hcounted

theorem State.syncRope_followed (s : State) : s.Followed s.syncRope := by
  have hpair := s.syncRope_pair
  exact .of_pair (Frame.refl s).syncRope (by rw [s.syncRope_out]; exact fun _ ho => ho) (by rw [hpair]) (fun b hb => by rw [State.z_congr s.syncRope_obj]; exact hb)
    (by rw [hpair])

theorem State.syncInelig_followed (s : State) : s.Followed s.syncInelig := by
  have hpair := s.syncInelig_pair
  refine .of_pair (Frame.refl s).syncInelig (by rw [s.syncInelig_out]; exact fun _ ho => ho) (by rw [hpair]) (fun b hb => ?_) (by rw [hpair])
  unfold State.syncInelig
  split
  · exact State.bit_setCause (br := 14) s 4 (by decide) (by decide) hb
  · exact hb

/-- A change of eligibility clears no PAIR cause. -/
theorem State.bit_setEligible (s : State) (e : Bool) {b : Nat} (h : bit (s.z 0x210F 0) b = true) : bit ((s.setEligible e).z 0x210F 0) b = true := by
  unfold State.setEligible
  extract_lets counted
  have hcounted : bit (counted.z 0x210F 0) b = true := by
    show bit ((if _ then _ else _ : State).z 0x210F 0) b = _
    split
    · exact (congrArg (bit · b) ((State.z_bump ..).trans (if_neg (by decide)))).trans h
    · exact h
  rw [State.z_congr (State.syncRope_obj _)]
  exact (State.syncInelig_followed _).cause b hcounted

/-- The conditions of Table 19.8 hold of no Second without a heartbeat, and of none that is caught up no longer. -/
theorem State.shadowGood_of_barred {s : State} (h : s.pair.hbRun = false ∨ s.pair.catchup = 6) : s.shadowGood = false := by
  unfold State.shadowGood
  obtain h | h := h
  · simp [h]
  · simp [h]

/-- A Second whose conditions do not hold is not eligible, and its matching run is broken off. -/
theorem State.syncElig_barred {s : State} (hrole : s.pair.role = 3) (h : s.shadowGood = false) :
    s.syncElig.pair.eligible = false ∧ s.syncElig.pair.run = 0 := by
  unfold State.syncElig
  rw [if_neg (not_not.2 hrole), h]
  dsimp only
  rw [if_neg Bool.false_ne_true]
  generalize hu : ({ s with pair := { s.pair with run := 0 } } : State) = u
  have hrun : u.pair.run = 0 := hu ▸ rfl
  split
  · next he =>
    rw [State.syncInelig_pair]
    exact ⟨he.symm, hrun⟩
  · rw [State.setEligible_pair]
    exact ⟨rfl, hrun⟩

/-- The matching run of a Second. -/
def State.withRun (s : State) (r : Nat) : State := { s with pair := { s.pair with run := r } }

/-- On a Second the run goes on or breaks off, and the eligibility, which a short run does not give, or its cause follows. -/
theorem State.syncElig_cases {s : State} (hrole : s.pair.role = 3) : ∃ r, (s.pair.run = 0 → r = 0) ∧
    (s.syncElig = (s.withRun r).syncInelig ∧ (r = 0 → s.pair.eligible = false) ∨
      ∃ e, s.syncElig = (s.withRun r).setEligible e ∧ (r = 0 → e = false)) := by
  have hshort (good : Bool) (r : Nat) (hr : r = 0) : (good && decide (1024 ≤ r)) = false := by simp [hr]
  unfold State.syncElig
  rw [if_neg (not_not.2 hrole)]
  cases s.shadowGood with
  | true =>
    refine ⟨s.pair.run, fun h => h, ?_⟩
    dsimp only
    rw [if_pos rfl]
    split
    · next he => exact .inl ⟨rfl, fun h => he.symm.trans (hshort true _ h)⟩
    · exact .inr ⟨_, rfl, fun h => hshort true _ h⟩
  | false =>
    refine ⟨0, fun _ => rfl, ?_⟩
    dsimp only
    rw [if_neg Bool.false_ne_true]
    split
    · next he => exact .inl ⟨rfl, fun h => he.symm.trans (hshort false _ h)⟩
    · exact .inr ⟨_, rfl, fun h => hshort false _ h⟩

/-- What an eligibility that follows its conditions leaves of a Second's catch-up. -/
theorem State.syncElig_pair {s : State} (hrole : s.pair.role = 3) : ∃ r e, (s.pair.run = 0 → r = 0) ∧ (r = 0 → e = false) ∧
    s.syncElig.pair = { s.pair with run := r, eligible := e } := by
  obtain ⟨r, hr, ⟨h, he⟩ | ⟨e, h, he⟩⟩ := State.syncElig_cases hrole
  · exact ⟨r, s.pair.eligible, hr, he, by rw [h, State.syncInelig_pair]; rfl⟩
  · exact ⟨r, e, hr, he, by rw [h, State.setEligible_pair]; rfl⟩

/-- A Second whose matching run has been broken off is not eligible. -/
theorem State.syncElig_unmatched {s : State} (hrole : s.pair.role = 3) (h : s.pair.run = 0) : s.syncElig.pair.eligible = false := by
  obtain ⟨r, e, hr, he, hpair⟩ := State.syncElig_pair hrole
  rw [hpair]
  exact he (hr h)

theorem State.syncElig_followed (s : State) : s.Followed s.syncElig := by
  by_cases hrole : s.pair.role = 3
  · have hframe : Frame pairParts pairObjects s s.syncElig := (Frame.refl s).syncElig
    have hbarred : s.pair.hbRun = false ∨ s.pair.catchup = 6 ∨ s.pair.run = 0 → s.pair.eligible = false → s.syncElig.pair.eligible = false := by
      rintro (h | h | h) -
      · exact (State.syncElig_barred hrole (State.shadowGood_of_barred (.inl h))).1
      · exact (State.syncElig_barred hrole (State.shadowGood_of_barred (.inr h))).1
      · exact State.syncElig_unmatched hrole h
    obtain ⟨r, e, hr, -, hpair⟩ := State.syncElig_pair hrole
    refine ⟨by rw [hpair]; rfl, hframe, ?_, fun b hb => ?_, fun h => absurd hrole h, fun h => by rw [hpair]; exact hr h,
      by rw [hpair]; exact .refl _, hbarred, fun _ => by rw [hpair]; exact ⟨rfl, rfl⟩⟩
    · obtain ⟨r, -, ⟨h, -⟩ | ⟨e, h, -⟩⟩ := State.syncElig_cases hrole
      · rw [h, State.syncInelig_out]; exact fun _ ho => ho
      · rw [h, State.setEligible_out]; exact fun _ ho => ho
    · obtain ⟨r, -, ⟨h, -⟩ | ⟨e, h, -⟩⟩ := State.syncElig_cases hrole
      · rw [h]; exact (s.withRun r).syncInelig_followed.cause b hb
      · rw [h]; exact (s.withRun r).bit_setEligible e hb
  · have hstay : s.syncElig = s := if_pos hrole
    rw [hstay]
    exact .refl s

theorem State.progress_followed {s : State} {code : Nat} (h : CatchupGoesOn s.pair.catchup code) :
    s.Followed (s.progress code) := by
  refine State.Followed.trans ?_ (State.campSend_followed ..)
  refine ⟨rfl, (Frame.refl s).setPair _, fun _ h => h, fun _ h => h, fun _ => rfl, fun h => h, h, fun _ he => he, fun _ => ⟨rfl, rfl⟩⟩

theorem State.toDict_followed {s : State} (h : s.pair.catchup < 2) : s.Followed s.toDict := by
  have hlow : CatchupGoesOn s.pair.catchup 2 := ⟨fun _ => Nat.le_refl 2, fun _ => rfl, fun h5 => absurd h5 (by omega), fun h6 => absurd h6 (by omega)⟩
  refine State.Followed.trans ?_ (State.syncElig_followed _)
  refine State.Followed.trans ?_ (State.campSend_followed ..)
  refine ⟨rfl, ((Frame.refl s).setPair _).setPair _, fun _ h => h, fun _ h => h, fun _ => rfl, fun _ => rfl, hlow, fun _ he => he, ?_⟩
  rintro (h2 | ⟨hn, hm⟩)
  · exact absurd h2 (by omega)
  · exact ⟨hn.symm, hm.symm⟩

theorem State.stepUp_followed (s : State) (n : Nat) : s.Followed (s.stepUp n) := by
  have hframe : Frame pairParts pairObjects s (s.stepUp n) := (Frame.refl s).stepUp n
  unfold State.stepUp at hframe ⊢
  split at hframe
  · next hlt =>
    rw [if_pos hlt]
    exact .of_pair hframe (fun _ h => h) rfl (fun _ h => h) rfl
  · next hge =>
    rw [if_neg hge]
    exact .refl s

theorem State.stepUp_pair (s : State) (n : Nat) : (s.stepUp n).pair = s.pair := by
  unfold State.stepUp
  split <;> rfl

theorem State.secondFollow_followed (s : State) : s.Followed s.secondFollow := by
  unfold State.secondFollow
  extract_lets inDict inTime inTrig
  have hdict : s.Followed inDict := by
    show s.Followed (if _ then _ else _)
    split
    · next h => exact State.toDict_followed (by omega)
    · exact .refl s
  have htime : inDict.Followed inTime := by
    show inDict.Followed (if _ then _ else _)
    split
    · next h => exact (inDict.stepUp_followed 12).trans (State.progress_followed
        (by rw [inDict.stepUp_pair 12]; unfold CatchupGoesOn; omega))
    · exact .refl inDict
  have htrig : inTime.Followed inTrig := by
    show inTime.Followed (if _ then _ else _)
    split
    · next h => exact State.progress_followed (by unfold CatchupGoesOn; omega)
    · exact .refl inTime
  exact ((hdict.trans htime).trans htrig).trans inTrig.syncElig_followed

/-- The pair's follow-up of a command leaves the link. -/
theorem State.pairFollow_followed (s : State) : s.Followed s.pairFollow := by
  unfold State.pairFollow
  split
  · have htold : s.Followed (if 3 ≤ s.pair.catchup then (upto 6).foldl State.sendPortStat s else s) :=
      (State.Followed.foldl State.sendPortStat_followed _ s).ite (.refl s)
    exact htold.trans (State.secondFollow_followed _)
  · split
    · exact s.leadFollow_followed
    · exact .refl s

/-! ### The frame that leaves -/

theorem leAt_append_leBytes {a o : Octets} {n v : Nat} (hlen : a.length = n) (hv : v < 256 ^ 4) (ho : o = a ++ leBytes 4 v) : leAt o n 4 = v := by
  subst ho
  unfold leAt
  rw [octAt_of_le (by rw [List.length_append, length_leBytes, hlen]), ← hlen, List.drop_left, List.take_of_length_le (by rw [length_leBytes]),
    leNat_leBytes, Nat.mod_eq_of_lt hv]

theorem leAt_head {v : Nat} (o : Octets) (hv : v < 256) : leAt (leBytes 1 v ++ o) 0 1 = v := by
  show (BitVec.ofNat 8 v).toNat + 256 * 0 = v
  rw [BitVec.toNat_ofNat, Nat.mod_eq_of_lt hv]
  rfl

/-- The frame's type octet (Table 19.4). -/
def State.frameType (s : State) (seg : Option CampSeg) : Nat :=
  b2n (decide (s.pair.role = 2) || decide (s.pair.role = 3)) + 16 * b2n (decide (s.pair.role = 2)) +
    32 * b2n (decide (s.pair.role = 3) && s.pair.eligible) + 64 * b2n seg.isSome

/-- The state words and AUX octets of a DATA frame (R748). -/
def State.frameWords (s : State) (t0 : Nat) : Octets :=
  if decide (s.pair.role = 2) || decide (s.pair.role = 3) then
    leBytes 2 t0 ++ ((upto 4).map fun j => leBytes 4 (s.wordAt (t0 + j))).flatten ++
      (upto 4).map fun j => BitVec.ofNat 8 (if s.pair.role = 3 then 0 else mgetD s.pair.ownAux (t0 + j - 16) 0)
  else zeros 22

/-- The segment of a frame, or its empty place. -/
def State.frameSegment (s : State) (g : CampSeg) : Octets :=
  leBytes 1 g.seq ++ leBytes 1 ((s.pair.rxSeq + 255) % 256) ++ leBytes 1 (b2n g.urgent * 128 + g.data.length) ++ octAt g.data 0 19

/-- The octets that the FCRC covers. -/
def State.ropeBody (s : State) (t0 : Nat) (seg : Option CampSeg) : Octets :=
  leBytes 1 (s.frameType seg) ++ (s.frameWords t0 ++ s.frameSegment (seg.getD ⟨0, false, []⟩))

section
variable (s : State) (t0 : Nat) (seg : Option CampSeg)

theorem State.ropePayload_eq : s.ropePayload t0 seg = s.ropeBody t0 seg ++ leBytes 4 (crc32c (s.ropeBody t0 seg)) := by
  unfold State.ropePayload State.ropeBody State.frameSegment State.frameWords State.frameType
  simp only [List.append_assoc]

theorem State.length_frameWords : (s.frameWords t0).length = 22 := by
  unfold State.frameWords
  split
  · simp [length_leBytes, upto, List.range, List.range.loop]
  · rfl

theorem State.length_ropeBody : (s.ropeBody t0 seg).length = 45 := by
  unfold State.ropeBody State.frameSegment
  simp [length_leBytes, length_octAt, State.length_frameWords]

theorem State.frameType_eq : s.frameType seg < 256 ∧ s.frameType seg % 16 = (if s.pair.role = 2 ∨ s.pair.role = 3 then 1 else 0) ∧
    bit (s.frameType seg) 6 = seg.isSome := by
  unfold State.frameType bit
  by_cases h2 : s.pair.role = 2
  · cases seg.isSome <;> simp [h2, b2n]
  · by_cases h3 : s.pair.role = 3
    · cases seg.isSome <;> cases s.pair.eligible <;> simp [h3, b2n]
    · cases seg.isSome <;> simp [h2, h3, b2n]

theorem crc32c_lt (o : Octets) : crc32c o < 256 ^ 4 := BitVec.isLt _

/-- A frame of 49 octets: its type, and the FCRC over all before it. -/
theorem State.ropePayload_spec : (s.ropePayload t0 seg).length = 49 ∧
    leAt (s.ropePayload t0 seg) 45 4 = crc32c ((s.ropePayload t0 seg).take 45) ∧ leAt (s.ropePayload t0 seg) 0 1 = s.frameType seg := by
  obtain ⟨hlt, -⟩ := s.frameType_eq seg
  have hlen := s.length_ropeBody t0 seg
  rw [State.ropePayload_eq]
  refine ⟨by rw [List.length_append, hlen, length_leBytes], ?_, ?_⟩
  · rw [leAt_append_leBytes hlen (crc32c_lt _) rfl, ← hlen, List.take_left]
  · unfold State.ropeBody
    rw [List.append_assoc]
    exact leAt_head _ hlt

end

/-- The first tick of the frame that leaves next. -/
def State.frameTick (s : State) : Nat :=
  max (match s.pair.txT0 with | some t => t + 4 | none => roundUp s.time.tick 4) (s.time.tick / 4 * 4 - 4)

/-- A device without a partner asks for one. -/
def State.helloQueued (s : State) : State :=
  if (s.pair.txBulk.isEmpty && s.pair.unacked.isEmpty && decide (s.boot.step = 8)) && (decide (s.pair.role = 1) || decide (s.pair.role = 4)) then
    s.sendHello else s

/-- A segment leaves, in the frame that begins in a tick. -/
def State.frameSent (s : State) (t0 : Nat) : State :=
  State.emit { s.nextSegment.2 with pair := { s.nextSegment.2.pair with txT0 := some t0 } } (.rope (s.nextSegment.2.ropePayload t0 s.nextSegment.1))

theorem State.ropeSend_eq {s : State} (h : s.ropeSends = true) :
    s.ropeSend = (s.elapseToTick (s.frameTick + 4)).helloQueued.frameSent s.frameTick := by
  unfold State.ropeSend
  rw [h]
  rfl

theorem State.helloQueued_role (s : State) : s.helloQueued.pair.role = s.pair.role := by
  unfold State.helloQueued State.sendHello
  split
  · exact (State.campSend_followed ..).role
  · rfl

/-- A device with a partner sends no HELLO. -/
theorem State.helloQueued_paired {s : State} (h : s.pair.role = 2 ∨ s.pair.role = 3) : s.helloQueued = s := by
  refine if_neg ?_
  obtain h | h := h
  · simp [h]
  · simp [h]

theorem State.nextSegment_role (s : State) : s.nextSegment.2.pair.role = s.pair.role := by
  unfold State.nextSegment
  dsimp only
  split_ifs <;> rfl

theorem State.nextSegment_none {s : State} (h : s.pair.resend = 0) (hu : s.pair.txUrgent = []) (hb : s.pair.txBulk = []) :
    s.nextSegment = (none, s) := by
  unfold State.nextSegment
  exact (if_neg (by omega)).trans (if_pos (.inr ⟨by rw [hu]; rfl, by rw [hb]; rfl⟩))

theorem State.nextSegment_urgent {s : State} (h : s.pair.resend = 0) (hlen : s.pair.unacked.length < 64) (hu : s.pair.txUrgent ≠ []) :
    s.nextSegment.1 = some ⟨s.pair.txSeq, true, s.pair.txUrgent.take 19⟩ ∧ s.nextSegment.2.pair.txUrgent = s.pair.txUrgent.drop 19 ∧
      s.nextSegment.2.pair.txBulk = s.pair.txBulk ∧
      s.nextSegment.2.pair.unacked = s.pair.unacked ++ [⟨s.pair.txSeq, true, s.pair.txUrgent.take 19⟩] := by
  have hfull : ¬(64 ≤ s.pair.unacked.length ∨ (s.pair.txUrgent.isEmpty = true ∧ s.pair.txBulk.isEmpty = true)) := by
    rintro (h64 | ⟨hempty, -⟩)
    · omega
    · exact hu (List.isEmpty_iff.1 hempty)
  have hempty : s.pair.txUrgent.isEmpty = false := by
    cases hx : s.pair.txUrgent.isEmpty with
    | false => rfl
    | true => exact absurd (List.isEmpty_iff.1 hx) hu
  unfold State.nextSegment
  dsimp only
  rw [if_neg (by omega), if_neg hfull, hempty]
  exact ⟨rfl, rfl, rfl, rfl⟩

/-- A device that has a partner sends a frame every four ticks. -/
theorem exec_ropeFrameSend {s : State} (h : s.ropeSends = true) :
    ∃ t o t0, exec .ropeFrameSend s = .next t ∧ .rope o ∈ t.out ∧ o.length = 49 ∧ leAt o 45 4 = crc32c (o.take 45) ∧
      leAt o 0 1 % 16 = (if s.pair.role = 2 ∨ s.pair.role = 3 then 1 else 0) ∧ t.pair.txT0 = some t0 ∧
      (∀ k, s.pair.txT0 = some k → s.time.tick < k + 4 → t0 = k + 4) ∧
      (s.pair.role = 2 ∨ s.pair.role = 3 → s.pair.resend = 0 → s.pair.txUrgent = [] → s.pair.txBulk = [] →
        bit (leAt o 0 1) 6 = false ∧ KeepsParts [.now, .time, .pair, .out] s t) ∧
      (s.pair.role = 2 ∨ s.pair.role = 3 → s.pair.resend = 0 → s.pair.unacked.length < 64 → s.pair.txUrgent ≠ [] →
        bit (leAt o 0 1) 6 = true ∧ t.pair.txUrgent = s.pair.txUrgent.drop 19 ∧ t.pair.txBulk = s.pair.txBulk ∧
        t.pair.unacked = s.pair.unacked ++ [⟨s.pair.txSeq, true, s.pair.txUrgent.take 19⟩]) := by
  have hframe := (Frame.refl (parts := [.now, .time, .pair, .out]) (objs := clockObjects) s).elapseToTick (s.frameTick + 4)
  have hpair : (s.elapseToTick (s.frameTick + 4)).pair = s.pair :=
    ((Frame.refl (parts := [.now, .time]) (objs := clockObjects) s).elapseToTick (s.frameTick + 4)).part .pair (by decide)
  have hexec : exec .ropeFrameSend s = .next (s.ended ((s.elapseToTick (s.frameTick + 4)).helloQueued.frameSent s.frameTick)) :=
    congrArg s.ends (State.ropeSend_eq h)
  generalize s.elapseToTick (s.frameTick + 4) = u at hframe hpair hexec
  obtain ⟨hlen, hcrc, htype⟩ := u.helloQueued.nextSegment.2.ropePayload_spec s.frameTick u.helloQueued.nextSegment.1
  obtain ⟨-, hmod, hbit⟩ := u.helloQueued.nextSegment.2.frameType_eq u.helloQueued.nextSegment.1
  rw [State.nextSegment_role, State.helloQueued_role, hpair] at hmod
  have hhello (hr : s.pair.role = 2 ∨ s.pair.role = 3) : u.helloQueued = u := State.helloQueued_paired (by rw [hpair]; exact hr)
  refine ⟨_, _, s.frameTick, hexec, ?_, hlen, hcrc, by rw [htype]; exact hmod, ?_, fun k hk hlt => ?_, fun hr hresend hurgent hbulk => ?_,
    fun hr hresend h64 hurgent => ?_⟩
  · rw [State.ended_out]
    exact List.mem_cons_self ..
  · rw [State.ended_pair]
    rfl
  · unfold State.frameTick
    rw [hk]
    show max (k + 4) _ = _
    omega
  · have hnone : u.nextSegment = (none, u) := State.nextSegment_none (by rw [hpair]; exact hresend) (by rw [hpair]; exact hurgent)
      (by rw [hpair]; exact hbulk)
    rw [htype, hbit, hhello hr, hnone]
    refine ⟨rfl, ?_⟩
    unfold State.frameSent
    rw [hnone]
    have hsent := (hframe.setPair { u.pair with txT0 := some s.frameTick }).emit (.rope (u.ropePayload s.frameTick none))
    exact keepsParts_of_ends hsent.part
  · obtain ⟨hseg, htx, hbulk, hunacked⟩ := State.nextSegment_urgent (s := u) (by rw [hpair]; exact hresend) (by rw [hpair]; exact h64)
      (by rw [hpair]; exact hurgent)
    rw [hpair] at hseg htx hbulk hunacked
    rw [htype, hbit, hhello hr, hseg, State.ended_pair]
    exact ⟨rfl, htx, hbulk, hunacked⟩

/-! ### The end of a command of the pair -/

theorem Part.same_ended {p : Part} {s u v : State} (h : p.same v u) : p.same v (s.ended u) := by
  have hsync := Part.same_alertSync h
  cases p <;> exact hsync

section
variable {s t u v : State}

/-- A command that ends in the pair's follow-up leaves what the follow-up leaves. -/
theorem State.pairFollow_ended (s v : State) : v.Followed (s.ended v.pairFollow) := by
  obtain ⟨hlink, ⟨hpart, hval⟩, hout, hcause, hlead, hrun, hgoes, hbarred, hsets⟩ := v.pairFollow_followed
  have hpair : (s.ended v.pairFollow).pair = v.pairFollow.pair := State.ended_pair ..
  refine ⟨by rw [hpair]; exact hlink, ⟨fun p hp => Part.same_ended (hpart p hp), fun i a ha hi h17 => ?_⟩, by rw [State.ended_out]; exact hout,
    fun b hb => ?_, by rw [hpair]; exact hlead, by rw [hpair]; exact hrun, by rw [hpair]; exact hgoes, by rw [hpair]; exact hbarred,
    by rw [hpair]; exact hsets⟩
  · have hkey : key i a ≠ key 0xF018 17 := fun h => h17 (Prod.ext_iff.2 ((key_inj ha (by decide)).1 h))
    exact (State.ended_val _ _ hkey).trans (hval i a ha hi h17)
  · rw [State.ended_z _ _]
    exact hcause b hb

theorem exec_followed {c : Instr} (hc : exec c s = s.ends v.pairFollow) : ∃ t, exec c s = .next t ∧ v.Followed t :=
  ⟨s.ended v.pairFollow, hc, s.pairFollow_ended v⟩

/-- A reading of the link. -/
theorem State.Followed.linked {β : Type} (h : s.Followed t) (g : Pair → β) (hg : ∀ x : Pair, g x.link = g x) : g t.pair = g s.pair :=
  (hg _).symm.trans ((congrArg g h.link).trans (hg _))

theorem State.Followed.z (h : s.Followed t) {i a : Nat} (ha : a < 256 := by decide) (hi : (i, a) ∉ pairObjects := by decide)
    (h17 : (i, a) ≠ (0xF018, 17) := by decide) (hd : defaultVal i a = .num 0 := by rfl) : t.z i a = s.z i a := h.frame.z_eq ha hi h17 hd

end

/-! ### A frame is heard -/

/-- Any signal ends the loss of signal of the lanes. -/
def State.lanesHeard (s : State) : State := { s with pair := { s.pair with lanes := 15, los := 0 } }

section
variable {s : State} {o : Octets}

/-- A discarded frame breaks off the run of good ones, and that of the matching words. -/
def State.frameDropped (s : State) (n : Nat) : State := State.bump { s with pair := { s.pair with good := 0, run := 0, invalid := n } } 0xF090 2 1

theorem State.frameLost_eq (s : State) (header : Bool) : s.frameLost header =
    (if 16 ≤ (if header then s.pair.invalid + 1 else 0) ∧ (s.frameDropped (if header then s.pair.invalid + 1 else 0)).pair.aligned then
      State.syncRope { s.frameDropped (if header then s.pair.invalid + 1 else 0) with
        pair := { (s.frameDropped (if header then s.pair.invalid + 1 else 0)).pair with aligned := false } }
    else s.frameDropped (if header then s.pair.invalid + 1 else 0)).syncElig := rfl

/-- What a frame that is discarded leaves of the link, apart from its alignment. -/
theorem State.frameLost_spec (s : State) (header : Bool) : ∃ u : State, u.Followed (s.frameLost header) ∧ u.pair.good = 0 ∧ u.pair.run = 0 ∧
    u.pair.invalid = (if header then s.pair.invalid + 1 else 0) ∧ u.z 0xF090 2 = min (s.z 0xF090 2 + 1) (2 ^ 32 - 1) := by
  rw [State.frameLost_eq]
  generalize (if header then s.pair.invalid + 1 else 0) = n
  have hz : (s.frameDropped n).z 0xF090 2 = min (s.z 0xF090 2 + 1) (2 ^ 32 - 1) := (State.z_bump ..).trans (if_pos rfl)
  split
  · exact ⟨_, (State.syncRope_followed _).trans (State.syncElig_followed _), rfl, rfl, rfl, hz⟩
  · exact ⟨s.frameDropped n, State.syncElig_followed _, rfl, rfl, rfl, hz⟩

end

/-! ### A good frame -/

/-- A frame with a good FCRC counts towards the alignment (R749). -/
def State.frameGood (s : State) : State :=
  State.syncRope { s.lanesHeard with pair := { s.lanesHeard.pair with good := s.pair.good + 1, invalid := 0 } }

/-- The link aligns with its sixteenth good frame. -/
def State.linkAligned (s : State) (good : Nat) : State := if 16 ≤ good ∧ !s.pair.aligned then s.realigned else s

/-- A frame of a pair carries what its type says. -/
def State.frameContents (s : State) (o : Octets) : State :=
  if leAt o 0 1 % 16 = 1 ∧ (s.pair.role = 2 ∨ s.pair.role = 3) then s.dataFrame o else s

/-- The segment of the camp channel that a frame carries. -/
def State.segmentTaken (s : State) (o : Octets) : State :=
  if bit (leAt o 0 1) 6 ∧ leAt o 23 1 = s.pair.rxSeq then
    State.campSegment { s with pair := { s.pair with rxSeq := (s.pair.rxSeq + 1) % 256 } } (bit (leAt o 25 1) 7) (octAt o 26 (leAt o 25 1 % 32))
  else s

theorem State.ropeReceive_eq (s : State) (o : Octets) : s.ropeReceive o = if s.pair.role = 0 ∨ !s.up then s
    else if o.length ≠ 49 then s.lanesHeard.frameLost true
    else if leAt o 45 4 ≠ crc32c (o.take 45) ∨ 19 < leAt o 25 1 % 32 ∨ 1 < leAt o 0 1 % 16 then s.lanesHeard.frameLost false
    else ((((s.frameGood.linkAligned (s.pair.good + 1)).frameContents o).resendPast.campAck (leAt o 24 1)).segmentTaken o).syncElig := rfl

section
variable {s : State} {o : Octets}

theorem State.ropeReceive_lost (hrole : s.pair.role ≠ 0) (hup : s.up = true) (h : o.length ≠ 49 ∨ leAt o 45 4 ≠ crc32c (o.take 45)) :
    s.ropeReceive o = s.lanesHeard.frameLost (decide (o.length ≠ 49)) := by
  rw [State.ropeReceive_eq, if_neg (by simp [hrole, hup])]
  by_cases hlen : o.length = 49
  · have hcrc : leAt o 45 4 ≠ crc32c (o.take 45) := h.resolve_left (not_not.2 hlen)
    rw [if_neg (not_not.2 hlen), if_pos (.inl hcrc), decide_eq_false (not_not.2 hlen)]
  · rw [if_pos hlen, decide_eq_true hlen]

/-- A frame with another length or a wrong FCRC is discarded and counted. -/
theorem exec_ropeFrameReceive_lost (hrole : s.pair.role ≠ 0) (hup : s.up = true) (h : o.length ≠ 49 ∨ leAt o 45 4 ≠ crc32c (o.take 45)) :
    ∃ t, exec (.ropeFrameReceive o) s = .next t ∧ t.pair.good = 0 ∧ t.pair.run = 0 ∧ t.z 0xF090 2 = min (s.z 0xF090 2 + 1) (2 ^ 32 - 1) ∧
      t.pair.invalid = (if o.length = 49 then 0 else s.pair.invalid + 1) := by
  obtain ⟨t, hexec, hend⟩ := exec_followed (v := s.ropeReceive o) (s := s) (c := .ropeFrameReceive o) rfl
  refine ⟨t, hexec, ?_⟩
  rw [State.ropeReceive_lost hrole hup h] at hend
  obtain ⟨u, hlost, hgood, hrun, hinvalid, hz⟩ := s.lanesHeard.frameLost_spec (decide (o.length ≠ 49))
  have hall := hlost.trans hend
  refine ⟨(hall.linked Pair.good fun _ => rfl).trans hgood, hall.run hrun, (State.Followed.z hall).trans hz,
    (hall.linked Pair.invalid fun _ => rfl).trans (hinvalid.trans ?_)⟩
  by_cases hlen : o.length = 49
  · simp [hlen]
  · simp [hlen, State.lanesHeard]

/-- A frame that carries no segment of the camp channel. -/
structure GoodFrame (o : Octets) : Prop where
  length : o.length = 49
  crc : leAt o 45 4 = crc32c (o.take 45)
  none : bit (leAt o 0 1) 6 = false
  fits : leAt o 25 1 % 32 ≤ 19
  type : leAt o 0 1 % 16 ≤ 1

theorem State.frameGood_pair (s : State) : s.frameGood.pair = { s.pair with lanes := 15, los := 0, good := s.pair.good + 1, invalid := 0 } :=
  State.syncRope_pair _

theorem State.frameGood_frame (s : State) : Frame [.pair, .sig] [] s s.frameGood := ((Frame.refl s).setPair _).setPair _ |>.syncRope

theorem State.ropeReceive_good (hrole : s.pair.role ≠ 0) (hup : s.up = true) (h : GoodFrame o) : s.ropeReceive o =
    (((s.frameGood.linkAligned (s.pair.good + 1)).frameContents o).resendPast.campAck (leAt o 24 1)).syncElig := by
  obtain ⟨hlen, hcrc, hnone, hfits, htype⟩ := h
  have hframe : ¬(leAt o 45 4 ≠ crc32c (o.take 45) ∨ 19 < leAt o 25 1 % 32 ∨ 1 < leAt o 0 1 % 16) := by
    rintro (h | h | h)
    · exact h hcrc
    · omega
    · omega
  have htaken (u : State) : u.segmentTaken o = u := if_neg fun hseg => Bool.false_ne_true (hnone.symm.trans hseg.1)
  rw [State.ropeReceive_eq, if_neg (by simp [hrole, hup]), if_neg (not_not.2 hlen), if_neg hframe, htaken]

/-- The link that has not lost a frame's time: nothing is sent again. -/
theorem State.resendPast_inTime (h : s.pair.unacked ≠ [] → s.time.tick ≤ s.pair.ackTick + 256) : s.resendPast = s := by
  unfold State.resendPast
  split
  · next hlate =>
    unfold State.campTimeout
    refine if_pos ?_
    by_contra hne
    have hunacked : s.pair.unacked ≠ [] := fun h => hne (by rw [h]; rfl)
    have := h hunacked
    omega
  · rfl

theorem State.campAck_eq (s : State) (cack : Nat) : ∃ rest r a n,
    s.campAck cack = { s with pair := { s.pair with unacked := rest, resend := r, ackTick := a, resends := n } } := by
  unfold State.campAck
  dsimp only
  split
  · exact ⟨_, _, _, _, rfl⟩
  · exact ⟨s.pair.unacked, s.pair.resend, s.pair.ackTick, s.pair.resends, rfl⟩

end

/-! ### An idle frame -/

/-- What an idle link keeps, but for its alignment. -/
structure State.IdleKept (s t : State) : Prop where
  role : t.pair.role = s.pair.role
  good : t.pair.good = s.pair.good
  invalid : t.pair.invalid = s.pair.invalid
  los : t.pair.los = s.pair.los
  lost : t.z 0xF090 2 = s.z 0xF090 2

section
variable {s t u : State}

theorem State.IdleKept.trans (h : s.IdleKept t) (k : t.IdleKept u) : s.IdleKept u :=
  ⟨k.role.trans h.role, k.good.trans h.good, k.invalid.trans h.invalid, k.los.trans h.los, k.lost.trans h.lost⟩

theorem State.IdleKept.refl (s : State) : s.IdleKept s := ⟨rfl, rfl, rfl, rfl, rfl⟩

/-- The link of a device that is no Second is lost: it has been away for 1 ms. -/
theorem State.lossPast_eq (h : s.pair.role ≠ 3) : ∃ b, s.lossPast = { s with pair := { s.pair with losLong := b } } := by
  unfold State.lossPast
  split
  · split
    · exact ⟨true, if_neg h⟩
    · exact ⟨s.pair.losLong, rfl⟩
  · exact ⟨s.pair.losLong, rfl⟩

/-- The link of a device that is no Second aligns. -/
theorem State.realigned_eq (h : s.pair.role ≠ 3) : ∃ p : Pair, s.realigned = State.syncRope { s.lossPast with pair := p } ∧ p.role = s.pair.role ∧
    p.good = s.pair.good ∧ p.invalid = s.pair.invalid ∧ p.los = s.pair.los ∧ p.aligned = true := by
  obtain ⟨b, heq⟩ := State.lossPast_eq h
  have hpair : s.lossPast.pair = { s.pair with losLong := b } := congrArg State.pair heq
  have hrole : (State.syncRope { s.lossPast with pair := { s.lossPast.pair with aligned := true, losAt := none, losLong := false } }).pair.role ≠ 3 := by
    rw [State.syncRope_pair, hpair]
    exact h
  refine ⟨{ s.lossPast.pair with aligned := true, losAt := none, losLong := false }, if_pos hrole, ?_⟩
  rw [hpair]
  exact ⟨rfl, rfl, rfl, rfl, rfl⟩

theorem State.linkAligned_idle (g : Nat) (h : s.pair.role ≠ 3) : s.IdleKept (s.linkAligned g) ∧
    ((s.linkAligned g).pair.aligned = true ↔ s.pair.aligned = true ∨ 16 ≤ g) := by
  unfold State.linkAligned
  split
  · next haligns =>
    obtain ⟨h16, -⟩ := haligns
    obtain ⟨p, heq, hrole, hgood, hinvalid, hlos, haligned⟩ := State.realigned_eq h
    obtain ⟨b, hpast⟩ := State.lossPast_eq h
    have hpair : s.realigned.pair = p := (congrArg State.pair heq).trans (State.syncRope_pair _)
    have hz : s.realigned.z 0xF090 2 = s.z 0xF090 2 := by
      rw [heq, State.z_congr (State.syncRope_obj _), hpast]
      rfl
    refine ⟨⟨by rw [hpair]; exact hrole, by rw [hpair]; exact hgood, by rw [hpair]; exact hinvalid, by rw [hpair]; exact hlos, hz⟩, ?_⟩
    rw [hpair, haligned]
    exact ⟨fun _ => .inr h16, fun _ => rfl⟩
  · next hstays =>
    refine ⟨.refl s, fun ha => .inl ha, ?_⟩
    rintro (ha | h16)
    · exact ha
    · by_contra hna
      exact hstays ⟨h16, by simpa using hna⟩

/-- The resend timer of a device without a Second runs out. -/
theorem State.campTimeout_idle (h : s.pair.role ≠ 3) : s.IdleKept s.campTimeout ∧ s.campTimeout.pair.aligned = s.pair.aligned := by
  have hframe := (Frame.refl (parts := [.now, .time]) (objs := clockObjects) s).elapseToTick (s.pair.ackTick + 256)
  have hpair : (s.elapseToTick (s.pair.ackTick + 256)).pair = s.pair := hframe.part .pair (by decide)
  have hz : (s.elapseToTick (s.pair.ackTick + 256)).z 0xF090 2 = s.z 0xF090 2 := hframe.z_eq
  unfold State.campTimeout
  split
  · exact ⟨.refl s, rfl⟩
  · dsimp only
    generalize s.elapseToTick (s.pair.ackTick + 256) = u at hpair hz ⊢
    split
    · rw [if_neg (by rw [hpair]; exact fun hr => h hr.1)]
      have hstay (v : State) (hv : v.pair.role ≠ 3) : v.syncElig = v := if_pos hv
      rw [hstay _ (by dsimp only; rw [hpair]; exact h), hpair]
      exact ⟨⟨rfl, rfl, rfl, rfl, hz⟩, rfl⟩
    · rw [hpair]
      exact ⟨⟨rfl, rfl, rfl, rfl, (State.z_bump ..).trans ((if_neg (by decide)).trans hz)⟩, rfl⟩

theorem State.resendPast_idle (h : s.pair.role ≠ 3) : s.IdleKept s.resendPast ∧ s.resendPast.pair.aligned = s.pair.aligned := by
  unfold State.resendPast
  split
  · exact State.campTimeout_idle h
  · exact ⟨.refl s, rfl⟩

end

/-- An idle frame of a device without a partner counts as good, and the sixteenth aligns the link. -/
theorem exec_ropeFrameReceive_idle {s : State} {o : Octets} (halone : Alone s) (hrole : s.pair.role ≠ 0) (hup : s.up = true) (h : GoodFrame o)
    (hidle : leAt o 0 1 % 16 = 0) :
    ∃ t, exec (.ropeFrameReceive o) s = .next t ∧ t.pair.good = s.pair.good + 1 ∧ t.pair.invalid = 0 ∧ t.pair.los = 0 ∧
      (t.pair.aligned = true ↔ s.pair.aligned = true ∨ 16 ≤ s.pair.good + 1) ∧ t.z 0xF090 2 = s.z 0xF090 2 := by
  obtain ⟨-, h3, -⟩ := halone
  obtain ⟨t, hexec, hend⟩ := exec_followed (v := s.ropeReceive o) (s := s) (c := .ropeFrameReceive o) rfl
  refine ⟨t, hexec, ?_⟩
  rw [State.ropeReceive_good hrole hup h] at hend
  have hpair := s.frameGood_pair
  have hz : s.frameGood.z 0xF090 2 = s.z 0xF090 2 := s.frameGood_frame.z_eq
  generalize s.frameGood = u at hpair hz hend ⊢
  have hu3 : u.pair.role ≠ 3 := by rw [hpair]; exact h3
  obtain ⟨hkept, haligned⟩ := State.linkAligned_idle (s.pair.good + 1) hu3
  have hcontents : (u.linkAligned (s.pair.good + 1)).frameContents o = u.linkAligned (s.pair.good + 1) := if_neg (by omega)
  rw [hcontents] at hend
  generalize u.linkAligned (s.pair.good + 1) = v at hkept haligned hend ⊢
  obtain ⟨hpast, hpastAligned⟩ := State.resendPast_idle (s := v) (by rw [hkept.role]; exact hu3)
  obtain ⟨rest, r, a, n, hack⟩ := v.resendPast.campAck_eq (leAt o 24 1)
  have hacked : v.resendPast.IdleKept (v.resendPast.campAck (leAt o 24 1)) ∧
      (v.resendPast.campAck (leAt o 24 1)).pair.aligned = v.resendPast.pair.aligned := by
    rw [hack]
    exact ⟨⟨rfl, rfl, rfl, rfl, rfl⟩, rfl⟩
  obtain ⟨hackKept, hackAligned⟩ := hacked
  have hall := (hkept.trans hpast).trans hackKept
  generalize v.resendPast.campAck (leAt o 24 1) = w at hall hackAligned hend ⊢
  have hfollowed := w.syncElig_followed.trans hend
  have hend' := (hfollowed.linked Pair.aligned fun _ => rfl).trans (hackAligned.trans hpastAligned)
  refine ⟨?_, ?_, ?_, ?_, ?_⟩
  · rw [hfollowed.linked Pair.good fun _ => rfl, hall.good, hpair]
  · rw [hfollowed.linked Pair.invalid fun _ => rfl, hall.invalid, hpair]
  · rw [hfollowed.linked Pair.los fun _ => rfl, hall.los, hpair]
  · rw [hend', haligned, hpair]
  · rw [State.Followed.z hfollowed, hall.lost, hz]

/-! ### A DATA frame -/

/-- A frame of data is a heartbeat of its sender. -/
def State.beaten (s : State) (o : Octets) : State :=
  State.bumpW { s with pair := { s.pair with
    frameAt := s.time.tick, hbRun := true, losTick := none, lastLo := leAt o 1 2, lastRx := s.time.tick
    partner := if bit (leAt o 0 1) 4 then 2 else 3 } } 0xF090 1 64 1

/-- The Lead follows the eligibility that its Second reports. -/
def State.eligibleHeard (s : State) (e : Bool) : State := if e = s.pair.eligible then s.syncInelig else s.setEligible e

/-- The octets of AUX that a frame brings. -/
def State.auxHeard (s : State) (t0 : Nat) (o : Octets) : State :=
  { s with pair := { s.pair with aux := (((upto 4).map fun j => (t0 + j - 16, leAt o (19 + j) 1)) ++ s.pair.aux).take 96 } }

/-- The words of a frame are compared. -/
def State.wordsCompared (s : State) (t0 : Nat) (o : Octets) : State :=
  (upto 4).foldl (fun (s : State) j => s.compareWord (t0 + j) (leAt o (3 + 4 * j) 4)) s

section
variable {s : State} {o : Octets}

theorem State.dataFrame_eq (h : s.pair.hbRun = true → s.time.tick ≤ s.pair.frameAt + s.n 0x8002 1) : s.dataFrame o =
    if (s.beaten o).pair.role = 2 then
      if bit (leAt o 0 1) 4 then (s.beaten o).softReset .failover
      else (s.beaten o).eligibleHeard (bit (leAt o 0 1) 5 && !(s.beaten o).pair.mirrorFail)
    else ((s.beaten o).auxHeard (extend16 s.time.tick (leAt o 1 2)) o).wordsCompared (extend16 s.time.tick (leAt o 1 2)) o := by
  have hbeat : s.heartbeatPast = s := by
    refine if_neg fun hpast => ?_
    obtain ⟨hrun, hlate⟩ := Bool.and_eq_true_iff.1 hpast
    have hintime := h hrun
    have hpassed := of_decide_eq_true hlate
    omega
  unfold State.dataFrame
  rw [hbeat]
  rfl

theorem State.eligibleHeard_pair (s : State) (e : Bool) : (s.eligibleHeard e).pair = { s.pair with eligible := e } := by
  unfold State.eligibleHeard
  split
  · next h =>
    rw [State.syncInelig_pair, h]
  · exact s.setEligible_pair e

theorem State.eligibleHeard_frame (s : State) (e : Bool) : Frame pairParts pairObjects s (s.eligibleHeard e) :=
  (Frame.refl s).syncInelig.ite ((Frame.refl s).setEligible e)

/-- What a good DATA frame does, with the link aligned and nothing of it overdue. -/
theorem State.ropeReceive_data (hrole : s.pair.role = 2 ∨ s.pair.role = 3) (hup : s.up = true) (h : GoodFrame o) (hdata : leAt o 0 1 % 16 = 1)
    (haligned : s.pair.aligned = true) : s.ropeReceive o = ((s.frameGood.dataFrame o).resendPast.campAck (leAt o 24 1)).syncElig := by
  have hne : s.pair.role ≠ 0 := by omega
  have hpair := s.frameGood_pair
  rw [State.ropeReceive_good hne hup h]
  have hlink : s.frameGood.linkAligned (s.pair.good + 1) = s.frameGood := if_neg fun hal => by
    have haligned' : s.frameGood.pair.aligned = true := by rw [hpair]; exact haligned
    rw [haligned'] at hal
    exact Bool.false_ne_true hal.2
  have hcontents : s.frameGood.frameContents o = s.frameGood.dataFrame o := if_pos ⟨hdata, by rw [hpair]; exact hrole⟩
  rw [hlink, hcontents]

/-- A DATA frame that comes in time tells a Lead whether its Second is eligible. -/
theorem exec_ropeFrameReceive_lead (hup : s.up = true) (h : GoodFrame o) (hdata : leAt o 0 1 % 16 = 1) (haligned : s.pair.aligned = true)
    (hrole : s.pair.role = 2) (hsecond : bit (leAt o 0 1) 4 = false) (hintime : RopeInTime s) :
    ∃ t, exec (.ropeFrameReceive o) s = .next t ∧ t.pair.hbRun = true ∧ t.pair.frameAt = s.time.tick ∧ t.pair.losTick = none ∧
      t.pair.eligible = (bit (leAt o 0 1) 5 && !s.pair.mirrorFail) ∧ t.z 0xF090 1 = min (s.z 0xF090 1 + 1) (2 ^ 64 - 1) := by
  obtain ⟨hbeat, hresend⟩ := hintime
  obtain ⟨t, hexec, hend⟩ := exec_followed (v := s.ropeReceive o) (s := s) (c := .ropeFrameReceive o) rfl
  refine ⟨t, hexec, ?_⟩
  rw [State.ropeReceive_data (.inl hrole) hup h hdata haligned] at hend
  have hpair := s.frameGood_pair
  have hframe := s.frameGood_frame
  have htime : s.frameGood.time = s.time := hframe.part .time (by decide)
  have hz : s.frameGood.z 0xF090 1 = s.z 0xF090 1 := hframe.z_eq
  have hn : s.frameGood.n 0x8002 1 = s.n 0x8002 1 := congrArg valNum (hframe.val 0x8002 1 (by decide) (by decide) (by decide))
  generalize s.frameGood = u at hpair htime hz hn hend ⊢
  have hintime' : u.pair.hbRun = true → u.time.tick ≤ u.pair.frameAt + u.n 0x8002 1 := by rw [hpair, htime, hn]; exact hbeat
  have hbeaten : (u.beaten o).pair.role = 2 := by
    show u.pair.role = 2
    rw [hpair]
    exact hrole
  have hmirror : (u.beaten o).pair.mirrorFail = s.pair.mirrorFail := by
    show u.pair.mirrorFail = _
    rw [hpair]
  rw [State.dataFrame_eq hintime', if_pos hbeaten, hsecond, if_neg Bool.false_ne_true, hmirror] at hend
  generalize (bit (leAt o 0 1) 5 && !s.pair.mirrorFail) = e at hend ⊢
  have hheardPair := (u.beaten o).eligibleHeard_pair e
  have hheard := (u.beaten o).eligibleHeard_frame e
  have hheardZ : ((u.beaten o).eligibleHeard e).z 0xF090 1 = min (s.z 0xF090 1 + 1) (2 ^ 64 - 1) := by
    rw [hheard.z_eq, ← hz]
    exact (State.z_bumpW ..).trans (if_pos rfl)
  have hheardTime : ((u.beaten o).eligibleHeard e).time = s.time := (hheard.part .time (by decide)).trans htime
  have hfacts : (u.beaten o).pair.frameAt = s.time.tick ∧ (u.beaten o).pair.hbRun = true ∧ (u.beaten o).pair.losTick = none ∧
      (u.beaten o).pair.unacked = s.pair.unacked ∧ (u.beaten o).pair.ackTick = s.pair.ackTick :=
    ⟨congrArg TimeBase.tick htime, rfl, rfl, (congrArg Pair.unacked hpair :), (congrArg Pair.ackTick hpair :)⟩
  generalize u.beaten o = b at hheardPair hheardZ hheardTime hfacts hbeaten hend ⊢
  obtain ⟨hat, hrun, hlos, hunacked, hackTick⟩ := hfacts
  generalize b.eligibleHeard e = v at hheardPair hheardZ hheardTime hend ⊢
  have hpast : v.resendPast = v := State.resendPast_inTime (by rw [hheardPair, hheardTime]; dsimp only; rw [hunacked, hackTick]; exact hresend)
  rw [hpast] at hend
  obtain ⟨rest, r, a, n, hack⟩ := v.campAck_eq (leAt o 24 1)
  rw [hack] at hend
  have hfollowed := (State.syncElig_followed _).trans hend
  have hlead : v.pair.role ≠ 3 := by rw [hheardPair]; dsimp only; omega
  refine ⟨?_, ?_, ?_, ?_, ?_⟩
  · refine (hfollowed.linked Pair.hbRun fun _ => rfl).trans ?_
    dsimp only
    rw [hheardPair, hrun]
  · refine (hfollowed.linked Pair.frameAt fun _ => rfl).trans ?_
    dsimp only
    rw [hheardPair, hat]
  · refine (hfollowed.linked Pair.losTick fun _ => rfl).trans ?_
    dsimp only
    rw [hheardPair, hlos]
  · refine (hfollowed.lead hlead).trans ?_
    dsimp only
    rw [hheardPair]
  · exact (State.Followed.z hfollowed).trans hheardZ

end

/-! ### The state words of a Second -/

/-- A release tick's word has been compared. -/
def State.wordNoted (s : State) (r : Nat) : State := { s.bumpW 0xF090 4 64 1 with pair := { s.pair with compared := r } }

/-- A release tick's word differs from the Lead's: the matching run breaks off, and both words are kept (R761). -/
def State.wordDiffers (s : State) (r w own : Nat) : State :=
  ((({ s with pair := { s.pair with run := 0 } }.put 0x8004 1 r).put 0x8004 2 w).put 0x8004 3 own).setCause 14 1

theorem State.compareWord_eq {s : State} {r w own : Nat} (hcatchup : s.pair.catchup = 7) (hown : mget s.pair.words r = some own) :
    s.compareWord r w =
      if own = w then { s.wordNoted r with pair := { (s.wordNoted r).pair with run := min (2 ^ 32 - 1) ((s.wordNoted r).pair.run + 1) } }
      else ((((s.wordNoted r).wordDiffers r w own).bump 0xF090 5 1).ropePulse 1).progress 6 := by
  unfold State.compareWord
  rw [if_neg (not_not.2 hcatchup), hown]
  rfl

/-- So many words have been compared, and all were the Lead's. -/
structure State.Compared (t0 n : Nat) (s t : State) : Prop where
  pair : ∃ r run, t.pair = { s.pair with compared := r, run := run } ∧ (0 < n → r = t0 + (n - 1))
  count : t.z 0xF090 4 = min (s.z 0xF090 4 + n) (2 ^ 64 - 1) ∨ n = 0 ∧ t = s
  other : t.z 0xF090 5 = s.z 0xF090 5
  time : t.time = s.time

section
variable {s u : State} {o : Octets}

theorem State.foldl_compareWord {t0 : Nat} {w : Nat → Nat} (hcatchup : s.pair.catchup = 7) (n : Nat)
    (hwords : ∀ j, j < n → mget s.pair.words (t0 + j) = some (w j)) :
    s.Compared t0 n ((List.range n).foldl (fun (s : State) j => s.compareWord (t0 + j) (w j)) s) := by
  induction n with
  | zero => exact ⟨⟨s.pair.compared, s.pair.run, rfl, fun h => absurd h (Nat.lt_irrefl 0)⟩, .inr ⟨rfl, rfl⟩, rfl, rfl⟩
  | succ n ih =>
    obtain ⟨⟨r, run, hpair, -⟩, hcount, hother, htime⟩ := ih fun j hj => hwords j (Nat.lt_succ_of_lt hj)
    rw [List.range_succ, List.foldl_append]
    generalize (List.range n).foldl (fun (s : State) j => s.compareWord (t0 + j) (w j)) s = u at hpair hcount hother htime ⊢
    have hword : mget u.pair.words (t0 + n) = some (w n) := by rw [hpair]; exact hwords n (Nat.lt_succ_self n)
    show State.Compared t0 (n + 1) s (u.compareWord (t0 + n) (w n))
    rw [State.compareWord_eq (by rw [hpair]; exact hcatchup) hword, if_pos rfl]
    refine ⟨⟨t0 + n, min (2 ^ 32 - 1) (u.pair.run + 1), ?_, fun _ => rfl⟩, .inl ?_, (State.z_bumpW u ..).trans ((if_neg (by decide)).trans hother), htime⟩
    · show ({ ({ u.pair with compared := t0 + n } : Pair) with run := min (2 ^ 32 - 1) (u.pair.run + 1) } : Pair) = _
      rw [hpair]
    · refine (State.z_bumpW u ..).trans ((if_pos rfl).trans ?_)
      obtain hc | ⟨hn, hu⟩ := hcount
      · rw [hc]
        omega
      · rw [hn, hu]

/-- The pair and the time as a DATA frame of the Lead finds them, once the heartbeat has been noted. -/
structure State.BeatBy (o : Octets) (s u : State) : Prop where
  pair : ∃ (lanes los good invalid lo rx partner : Nat) (aux : Map Nat), u.pair = { s.pair with
    lanes := lanes, los := los, good := good, invalid := invalid, frameAt := s.time.tick, hbRun := true, losTick := none, lastLo := lo,
    lastRx := rx, partner := partner, aux := aux }
  time : u.time = s.time
  z : ∀ i a, key i a ≠ key 0xF090 1 → u.z i a = s.z i a
  fast : u.mgtFast = s.mgtFast
  contents : s.ropeReceive o = (((u.wordsCompared (extend16 s.time.tick (leAt o 1 2)) o).resendPast).campAck (leAt o 24 1)).syncElig

/-- A DATA frame of the Lead that comes in time is a heartbeat, and its words are compared. -/
theorem State.ropeReceive_second (hup : s.up = true) (h : GoodFrame o) (hdata : leAt o 0 1 % 16 = 1) (haligned : s.pair.aligned = true)
    (hrole : s.pair.role = 3) (hintime : RopeInTime s) : ∃ u, s.BeatBy o u := by
  obtain ⟨hbeat, -⟩ := hintime
  have hframe := s.frameGood_frame
  have hpair := s.frameGood_pair
  have htime : s.frameGood.time = s.time := hframe.part .time (by decide)
  have hobj : s.frameGood.obj = s.obj := State.syncRope_obj _
  have hn : s.frameGood.n 0x8002 1 = s.n 0x8002 1 := congrArg valNum (hframe.val 0x8002 1 (by decide) (by decide) (by decide))
  have hintime' : s.frameGood.pair.hbRun = true → s.frameGood.time.tick ≤ s.frameGood.pair.frameAt + s.frameGood.n 0x8002 1 := by
    rw [hpair, htime, hn]; exact hbeat
  have hne : ¬(s.frameGood.beaten o).pair.role = 2 := by
    show ¬s.frameGood.pair.role = 2
    rw [hpair]
    show ¬s.pair.role = 2
    omega
  have hreceive := State.ropeReceive_data (.inr hrole) hup h hdata haligned
  rw [State.dataFrame_eq hintime', if_neg hne, htime] at hreceive
  have hfast : s.frameGood.mgtFast = s.mgtFast := hframe.mgtFast_eq
  generalize s.frameGood = f at hpair htime hobj hfast hreceive
  generalize ht0 : extend16 s.time.tick (leAt o 1 2) = t0 at hreceive
  refine ⟨(f.beaten o).auxHeard t0 o, ⟨15, 0, s.pair.good + 1, 0, leAt o 1 2, s.time.tick, if bit (leAt o 0 1) 4 then 2 else 3,
    (((upto 4).map fun j => (t0 + j - 16, leAt o (19 + j) 1)) ++ s.pair.aux).take 96, ?_⟩, htime, fun i a hkey => ?_, hfast, ht0.symm ▸ hreceive⟩
  · unfold State.auxHeard State.beaten
    dsimp only [State.bumpW, State.put, State.putVal]
    rw [hpair, htime]
  · exact (State.z_bumpW ..).trans ((if_neg hkey).trans (State.z_congr hobj ..))

/-- A frame whose words are all the Second's own leaves it caught up. -/
theorem exec_ropeFrameReceive_matches (hup : s.up = true) (h : GoodFrame o) (hdata : leAt o 0 1 % 16 = 1) (haligned : s.pair.aligned = true)
    (hrole : s.pair.role = 3) (hcatchup : s.pair.catchup = 7) (hintime : RopeInTime s)
    (hwords : ∀ j, j < 4 → mget s.pair.words (extend16 s.time.tick (leAt o 1 2) + j) = some (leAt o (3 + 4 * j) 4)) :
    ∃ t, exec (.ropeFrameReceive o) s = .next t ∧ t.pair.hbRun = true ∧ t.pair.frameAt = s.time.tick ∧ t.pair.catchup = 7 ∧
      t.pair.compared = extend16 s.time.tick (leAt o 1 2) + 3 ∧ t.z 0xF090 4 = min (s.z 0xF090 4 + 4) (2 ^ 64 - 1) ∧
      t.z 0xF090 5 = s.z 0xF090 5 := by
  obtain ⟨t, hexec, hend⟩ := exec_followed (v := s.ropeReceive o) (s := s) (c := .ropeFrameReceive o) rfl
  refine ⟨t, hexec, ?_⟩
  obtain ⟨u, ⟨lanes, los, good, invalid, lo, rx, partner, aux, hpair⟩, htime, hz, -, hcontents⟩ :=
    State.ropeReceive_second hup h hdata haligned hrole hintime
  obtain ⟨-, hresend⟩ := hintime
  rw [hcontents] at hend
  generalize extend16 s.time.tick (leAt o 1 2) = t0 at hend hwords ⊢
  have hcompared : u.Compared t0 4 (u.wordsCompared t0 o) :=
    State.foldl_compareWord (w := fun j => leAt o (3 + 4 * j) 4) (by rw [hpair]; exact hcatchup) 4 (by rw [hpair]; exact hwords)
  generalize u.wordsCompared t0 o = v at hcompared hend
  obtain ⟨⟨r, run, hvpair, hr⟩, hcount, hother, hvtime⟩ := hcompared
  rw [hpair] at hvpair
  have hpast : v.resendPast = v := State.resendPast_inTime (by rw [hvpair, hvtime, htime]; exact hresend)
  rw [hpast] at hend
  obtain ⟨rest, re, a, n, hack⟩ := v.campAck_eq (leAt o 24 1)
  rw [hack] at hend
  have hfollowed := (State.syncElig_followed _).trans hend
  have hcaught : v.pair.catchup = 7 := by rw [hvpair]; exact hcatchup
  refine ⟨?_, ?_, ?_, ?_, ?_, ?_⟩
  · refine (hfollowed.linked Pair.hbRun fun _ => rfl).trans ?_
    dsimp only
    rw [hvpair]
  · refine (hfollowed.linked Pair.frameAt fun _ => rfl).trans ?_
    dsimp only
    rw [hvpair]
  · exact (hfollowed.catchup (by show 6 ≤ v.pair.catchup; omega)).trans hcaught
  · refine (hfollowed.linked Pair.compared fun _ => rfl).trans ?_
    dsimp only
    rw [hvpair]
    exact hr (by decide)
  · refine (State.Followed.z hfollowed).trans ?_
    obtain hc | ⟨h4, -⟩ := hcount
    · exact hc.trans (by rw [hz _ _ (by decide)])
    · exact absurd h4 (by decide)
  · exact (State.Followed.z hfollowed).trans (hother.trans (hz _ _ (by decide)))

/-- An event of the branch PAIR sets its cause. -/
theorem State.bit_pairCause {s : State} (b : Nat) (h : s.mgtFast = true) : bit ((s.setCause 14 b).z 0x210F 0) b = true := by
  have hz : (s.setCause 14 b).z 0x210F 0 = s.z 0x210F 0 ||| 2 ^ b := State.setCause_z (br := 14) b (by decide) h
  rw [hz]
  exact bit_or_two_pow _ b

/-- What a word that differs leaves. -/
structure State.Differed (r w own : Nat) (s t : State) : Prop where
  role : t.pair.role = s.pair.role
  catchup : t.pair.catchup = 6
  run : t.pair.run = 0
  unacked : t.pair.unacked = s.pair.unacked
  ackTick : t.pair.ackTick = s.pair.ackTick
  time : t.time = s.time
  tick : t.z 0x8004 1 = r
  lead : t.z 0x8004 2 = w
  own : t.z 0x8004 3 = own
  cause : s.mgtFast = true → bit (t.z 0x210F 0) 1 = true
  count : t.z 0xF090 5 = min (s.z 0xF090 5 + 1) (2 ^ 32 - 1)

theorem State.compareWord_differs {r w own : Nat} (hcatchup : s.pair.catchup = 7) (hown : mget s.pair.words r = some own) (hne : own ≠ w) :
    s.Differed r w own (s.compareWord r w) := by
  rw [State.compareWord_eq hcatchup hown, if_neg hne]
  have hstart : (s.wordNoted r).pair.role = s.pair.role ∧ (s.wordNoted r).pair.unacked = s.pair.unacked ∧
      (s.wordNoted r).pair.ackTick = s.pair.ackTick ∧ (s.wordNoted r).time = s.time ∧ (s.wordNoted r).mgtFast = s.mgtFast := ⟨rfl, rfl, rfl, rfl, rfl⟩
  have hcount : (s.wordNoted r).z 0xF090 5 = s.z 0xF090 5 := (State.z_bumpW s ..).trans (if_neg (by decide))
  generalize s.wordNoted r = u at hstart hcount
  obtain ⟨hrole, hunacked, hack, htime, hfast⟩ := hstart
  have hpair : (u.wordDiffers r w own).pair = { u.pair with run := 0 } := State.setCause_pair ..
  have hdtime : (u.wordDiffers r w own).time = u.time := State.setCause_time ..
  have hput (a : Nat) (ha : a = 1 ∨ a = 2 ∨ a = 3) : (u.wordDiffers r w own).z 0x8004 a = if a = 1 then r else if a = 2 then w else own := by
    obtain rfl | rfl | rfl := ha
    · refine (State.setCause_z_ne _ 1 (by decide) (by decide) (by decide) (by decide) rfl).trans ?_
      rw [State.z_put, if_neg (by decide), State.z_put, if_neg (by decide), State.z_put, if_pos rfl, if_pos rfl]
    · refine (State.setCause_z_ne _ 1 (by decide) (by decide) (by decide) (by decide) rfl).trans ?_
      rw [State.z_put, if_neg (by decide), State.z_put, if_pos rfl]
      rfl
    · refine (State.setCause_z_ne _ 1 (by decide) (by decide) (by decide) (by decide) rfl).trans ?_
      rw [State.z_put, if_pos rfl]
      rfl
  have hcause : u.mgtFast = true → bit ((u.wordDiffers r w own).z 0x210F 0) 1 = true := fun hf => by
    have hput : ((({ u with pair := { u.pair with run := 0 } }.put 0x8004 1 r).put 0x8004 2 w).put 0x8004 3 own).mgtFast = true := hf
    exact State.bit_pairCause 1 hput
  have hfail : (u.wordDiffers r w own).z 0xF090 5 = u.z 0xF090 5 := by
    refine (State.setCause_z_ne _ 1 (by decide) (by decide) (by decide) (by decide) rfl).trans ?_
    rw [State.z_put, if_neg (by decide), State.z_put, if_neg (by decide), State.z_put, if_neg (by decide)]
    rfl
  generalize u.wordDiffers r w own = v at hpair hdtime hput hcause hfail
  have hz (i a : Nat) : (((v.bump 0xF090 5 1).ropePulse 1).progress 6).z i a = (v.bump 0xF090 5 1).z i a := State.z_congr (State.campSend_obj ..) ..
  have hsent := (({ (v.bump 0xF090 5 1).ropePulse 1 with pair := { v.pair with catchup := 6 } } : State).campSend_followed false 0x13 [BitVec.ofNat 8 6])
  have hcaught : (((v.bump 0xF090 5 1).ropePulse 1).progress 6).pair.catchup = 6 := hsent.catchup (Nat.le_refl 6)
  have hsentTime : (((v.bump 0xF090 5 1).ropePulse 1).progress 6).time = v.time := hsent.frame.part .time (by decide)
  refine ⟨hsent.role.trans ?_, hcaught, hsent.run ?_, (hsent.linked Pair.unacked fun _ => rfl).trans ?_,
    (hsent.linked Pair.ackTick fun _ => rfl).trans ?_, hsentTime.trans (hdtime.trans htime), ?_, ?_, ?_, fun hf => ?_, ?_⟩
  · show v.pair.role = _
    rw [hpair]; exact hrole
  · show v.pair.run = 0
    rw [hpair]
  · show v.pair.unacked = _
    rw [hpair]; exact hunacked
  · show v.pair.ackTick = _
    rw [hpair]; exact hack
  · rw [hz, State.z_bump, if_neg (by decide), hput 1 (.inl rfl)]
    rfl
  · rw [hz, State.z_bump, if_neg (by decide), hput 2 (.inr (.inl rfl))]
    rfl
  · rw [hz, State.z_bump, if_neg (by decide), hput 3 (.inr (.inr rfl))]
    rfl
  · rw [hz, State.z_bump, if_neg (by decide)]
    exact hcause (hfast.trans hf)
  · rw [hz, State.z_bump, if_pos rfl, hfail, hcount]

/-- A Second that is caught up no longer compares no words. -/
theorem State.wordsCompared_first (t0 : Nat) (h : (s.compareWord t0 (leAt o 3 4)).pair.catchup = 6) :
    s.wordsCompared t0 o = s.compareWord t0 (leAt o 3 4) := by
  show (((s.compareWord t0 (leAt o 3 4)).compareWord (t0 + 1) _).compareWord (t0 + 2) _).compareWord (t0 + 3) _ = _
  generalize s.compareWord t0 (leAt o 3 4) = u at h ⊢
  have hstay (r w : Nat) : u.compareWord r w = u := if_pos (by omega)
  rw [hstay, hstay, hstay]

/-- A frame whose first word differs ends the shadowing. -/
theorem exec_ropeFrameReceive_differs (hup : s.up = true) (h : GoodFrame o) (hdata : leAt o 0 1 % 16 = 1) (haligned : s.pair.aligned = true)
    (hrole : s.pair.role = 3) (hcatchup : s.pair.catchup = 7) (hfast : s.mgtFast = true) (hintime : RopeInTime s) {own : Nat}
    (hown : mget s.pair.words (extend16 s.time.tick (leAt o 1 2)) = some own) (hne : own ≠ leAt o 3 4) :
    ∃ t, exec (.ropeFrameReceive o) s = .next t ∧ t.pair.catchup = 6 ∧ t.pair.run = 0 ∧ t.pair.eligible = false ∧
      t.z 0x8004 1 = extend16 s.time.tick (leAt o 1 2) ∧ t.z 0x8004 2 = leAt o 3 4 ∧ t.z 0x8004 3 = own ∧ bit (t.z 0x210F 0) 1 = true ∧
      t.z 0xF090 5 = min (s.z 0xF090 5 + 1) (2 ^ 32 - 1) := by
  obtain ⟨t, hexec, hend⟩ := exec_followed (v := s.ropeReceive o) (s := s) (c := .ropeFrameReceive o) rfl
  refine ⟨t, hexec, ?_⟩
  obtain ⟨u, ⟨lanes, los, good, invalid, lo, rx, partner, aux, hpair⟩, htime, hz, hufast, hcontents⟩ :=
    State.ropeReceive_second hup h hdata haligned hrole hintime
  obtain ⟨-, hresend⟩ := hintime
  rw [hcontents] at hend
  generalize extend16 s.time.tick (leAt o 1 2) = t0 at hend hown ⊢
  have hdiffers := State.compareWord_differs (s := u) (by rw [hpair]; exact hcatchup) (by rw [hpair]; exact hown) hne
  rw [State.wordsCompared_first t0 hdiffers.catchup] at hend
  generalize u.compareWord t0 (leAt o 3 4) = v at hdiffers hend
  obtain ⟨hvrole, hsix, hrun, hunacked, hackTick, hvtime, htick, hlead, hownKept, hcause, hcount⟩ := hdiffers
  have hpast : v.resendPast = v := State.resendPast_inTime (by rw [hunacked, hackTick, hvtime, htime, hpair]; exact hresend)
  rw [hpast] at hend
  obtain ⟨rest, re, a, n, hack⟩ := v.campAck_eq (leAt o 24 1)
  rw [hack] at hend
  generalize hw : ({ v with pair := { v.pair with unacked := rest, resend := re, ackTick := a, resends := n } } : State) = w at hend
  have hwrole : w.pair.role = 3 := by
    rw [← hw]
    show v.pair.role = 3
    rw [hvrole, hpair]
    exact hrole
  have hwsix : w.pair.catchup = 6 := hw ▸ hsix
  have hwrun : w.pair.run = 0 := hw ▸ hrun
  have hwz (i a : Nat) : w.z i a = v.z i a := hw ▸ rfl
  obtain ⟨hinelig, -⟩ := State.syncElig_barred hwrole (State.shadowGood_of_barred (.inr hwsix))
  have hsync := w.syncElig_followed
  have hfollowed := hsync.trans hend
  refine ⟨(hfollowed.catchup (by omega)).trans hwsix, hfollowed.run hwrun,
    hend.barred (.inr (.inl ((hsync.catchup (by omega)).trans hwsix))) hinelig, ?_, ?_, ?_, hfollowed.cause 1 ?_, ?_⟩
  · rw [State.Followed.z hfollowed, hwz, htick]
  · rw [State.Followed.z hfollowed, hwz, hlead]
  · rw [State.Followed.z hfollowed, hwz, hownKept]
  · rw [hwz]
    exact hcause (hufast.trans hfast)
  · rw [State.Followed.z hfollowed, hwz, hcount, hz _ _ (by decide)]

end

theorem ropeFramesAreExchanged : Claims.RopeFramesAreExchanged := by
  intro s
  refine ⟨exec_ropeFrameSend, fun o hrole hup => ⟨exec_ropeFrameReceive_lost hrole hup, fun hlen hcrc hnone hfits => ?_⟩⟩
  have hgood (htype : leAt o 0 1 % 16 ≤ 1) : GoodFrame o := ⟨hlen, hcrc, hnone, hfits, htype⟩
  refine ⟨fun hidle halone => exec_ropeFrameReceive_idle halone hrole hup (hgood (by omega)) hidle, fun hdata hal h2 hsecond hin =>
    exec_ropeFrameReceive_lead hup (hgood (by omega)) hdata hal h2 hsecond hin, fun hdata hal h3 hc hin hwords =>
    exec_ropeFrameReceive_matches hup (hgood (by omega)) hdata hal h3 hc hin hwords, fun hdata hal h3 hc hfast hin own hown hne =>
    exec_ropeFrameReceive_differs hup (hgood (by omega)) hdata hal h3 hc hfast hin hown hne⟩

/-! ### Loss of signal -/

/-- Lanes have gone into loss of signal: the link is not aligned. -/
def State.lanesLost (s : State) (m : Nat) : State :=
  { s with pair := { s.pair with
    los := s.pair.los ||| m, lanes := andNot s.pair.lanes m, aligned := false, good := 0
    losAt := if s.pair.los = 0 ∧ s.pair.losAt.isNone then some s.now else s.pair.losAt
    losTick := if s.pair.losTick.isNone then some s.time.tick else s.pair.losTick
    losElig := if s.pair.losTick.isNone then s.pair.eligible else s.pair.losElig } }

/-- The loss is counted, and its cause set. -/
def State.lossNoted (s : State) : State := ((State.syncRope s).bump 0xF090 7 1).setCause 14 2

/-- RPLL of a Second holds over while the lane of its reference is down (R110). -/
def State.rpllHeld (s : State) (m : Nat) : State :=
  if s.pair.role = 3 ∧ bit m 0 then s.setPll .rpll { s.pll .rpll with holdover := true } else s

theorem State.ropeLoss_eq (s : State) (m : Nat) : s.ropeLoss m =
    if s.pair.role = 0 ∨ !s.up ∨ andNot m s.pair.los = 0 then s else (((s.lanesLost m).lossNoted.rpllHeld m).syncElig).checkYield := rfl

section
variable {s t u : State}

theorem State.lossNoted_pair (s : State) : s.lossNoted.pair = s.pair := (State.setCause_pair ..).trans s.syncRope_pair

theorem State.lossNoted_z (s : State) : s.lossNoted.z 0xF090 7 = min (s.z 0xF090 7 + 1) (2 ^ 32 - 1) := by
  refine (State.setCause_z_ne _ 2 (by decide) (by decide) (by decide) (by decide) rfl).trans ((State.z_bump ..).trans ((if_pos rfl).trans ?_))
  rw [State.z_congr s.syncRope_obj]

theorem State.lossNoted_cause (hfast : s.mgtFast = true) : bit (s.lossNoted.z 0x210F 0) 2 = true := by
  have hsync : s.syncRope.mgtFast = s.mgtFast := (Frame.refl (parts := [.sig]) (objs := []) s).syncRope.mgtFast_eq
  exact State.bit_pairCause 2 (hsync.trans hfast)

theorem State.rpllHeld_keeps (s : State) (m : Nat) : (s.rpllHeld m).pair = s.pair ∧ (s.rpllHeld m).obj = s.obj := by
  unfold State.rpllHeld
  split
  · exact ⟨rfl, rfl⟩
  · exact ⟨rfl, rfl⟩

/-- A device that does not yield goes on. -/
theorem State.checkYield_stays (h : ¬(s.pair.role = 3 ∧ s.pair.refLost = true)) : s.checkYield = s := by
  unfold State.checkYield
  split
  · exact if_neg fun hy => h ⟨hy.1, hy.2.2⟩
  · rfl

/-- Lanes without signal are down, and the link is not aligned. -/
theorem exec_ropeLossOfSignal (lanes : BitVec 4) (hrole : s.pair.role ≠ 0) (hup : s.up = true) (hnew : andNot lanes.toNat s.pair.los ≠ 0)
    (hyield : ¬(s.pair.role = 3 ∧ s.pair.refLost = true)) (hfast : s.mgtFast = true) :
    ∃ t, exec (.ropeLossOfSignal lanes) s = .next t ∧ t.pair.los = s.pair.los ||| lanes.toNat ∧ t.pair.aligned = false ∧ t.pair.good = 0 ∧
      t.z 0xF090 7 = min (s.z 0xF090 7 + 1) (2 ^ 32 - 1) ∧ bit (t.z 0x210F 0) 2 = true ∧
      (s.pair.losTick = none → t.pair.losTick = some s.time.tick ∧ t.pair.losElig = s.pair.eligible) := by
  obtain ⟨t, hexec, hend⟩ := exec_followed (v := s.ropeLoss lanes.toNat) (s := s) (c := .ropeLossOfSignal lanes) rfl
  refine ⟨t, hexec, ?_⟩
  rw [State.ropeLoss_eq, if_neg (by simp [hrole, hup, hnew])] at hend
  obtain ⟨hpair, hobj⟩ := (s.lanesLost lanes.toNat).lossNoted.rpllHeld_keeps lanes.toNat
  have hlost := (s.lanesLost lanes.toNat).lossNoted_pair
  have hz : (s.lanesLost lanes.toNat).lossNoted.z 0xF090 7 = min (s.z 0xF090 7 + 1) (2 ^ 32 - 1) := (s.lanesLost lanes.toNat).lossNoted_z
  have hcause : bit ((s.lanesLost lanes.toNat).lossNoted.z 0x210F 0) 2 = true := State.lossNoted_cause (s := s.lanesLost lanes.toNat) hfast
  generalize (s.lanesLost lanes.toNat).lossNoted = u at hpair hobj hlost hz hcause hend
  generalize u.rpllHeld lanes.toNat = v at hpair hobj hend
  rw [hlost] at hpair
  have hsync := v.syncElig_followed
  have hstay : v.syncElig.checkYield = v.syncElig := State.checkYield_stays (by
    rw [hsync.role, hsync.linked Pair.refLost fun _ => rfl, hpair]
    exact hyield)
  rw [hstay] at hend
  have hall := hsync.trans hend
  refine ⟨?_, ?_, ?_, ?_, hall.cause 2 ?_, fun hnone => ⟨?_, ?_⟩⟩
  · rw [hall.linked Pair.los fun _ => rfl, hpair]
    rfl
  · rw [hall.linked Pair.aligned fun _ => rfl, hpair]
    rfl
  · rw [hall.linked Pair.good fun _ => rfl, hpair]
    rfl
  · rw [State.Followed.z hall, State.z_congr hobj, hz]
  · rw [State.z_congr hobj]
    exact hcause
  · rw [hall.linked Pair.losTick fun _ => rfl, hpair]
    exact if_pos (by rw [hnone]; rfl)
  · rw [hall.linked Pair.losElig fun _ => rfl, hpair]
    exact if_pos (by rw [hnone]; rfl)

theorem State.ropeLossOver_eq {a : Nat} (h : s.pair.losAt = some a) : s.ropeLossOver = (s.elapseTo (a + 1000000)).ropeLost := by
  unfold State.ropeLossOver
  rw [h]

/-- A Second whose link is lost runs on its own oscillator. -/
theorem State.ropeLost_spec (h : s.ropeLost.Followed t) : t.now = s.now ∧ t.pair.losLong = true ∧
    (s.pair.role = 3 → (t.pll .rpll).refRope = false ∧ (t.pll .rpll).locked = true) := by
  unfold State.ropeLost at h
  by_cases h3 : s.pair.role = 3
  · rw [if_pos h3] at h
    have hall := (State.syncElig_followed _).trans h
    have hclk := hall.frame.part .clk (by decide)
    refine ⟨hall.frame.part .now (by decide), hall.linked Pair.losLong fun _ => rfl, fun _ => ?_⟩
    have hpll : t.pll .rpll = { s.pll .rpll with refRope := false, holdover := false, locked := true } := by
      unfold State.pll
      rw [hclk]
      exact (mgetD_mset ..).trans (if_pos rfl)
    rw [hpll]
    exact ⟨rfl, rfl⟩
  · rw [if_neg h3] at h
    exact ⟨h.frame.part .now (by decide), h.linked Pair.losLong fun _ => rfl, fun hr => absurd hr h3⟩

/-- A link that does not realign within 1 ms is lost. -/
theorem exec_ropeLossTimeout {a : Nat} (hat : s.pair.losAt = some a) :
    ∃ t, exec .ropeLossTimeout s = .next t ∧ t.now = max s.now (a + 1000000) ∧ t.pair.losLong = true ∧
      (s.pair.role = 3 → (t.pll .rpll).refRope = false ∧ (t.pll .rpll).locked = true) := by
  obtain ⟨t, hexec, hend⟩ := exec_followed (v := s.ropeLossOver) (s := s) (c := .ropeLossTimeout) rfl
  refine ⟨t, hexec, ?_⟩
  rw [State.ropeLossOver_eq hat] at hend
  have hframe := (Frame.refl (parts := [.now, .time]) (objs := clockObjects) s).elapseTo (a + 1000000)
  have hpair : (s.elapseTo (a + 1000000)).pair = s.pair := hframe.part .pair (by decide)
  obtain ⟨hnow, hlong, hpll⟩ := State.ropeLost_spec hend
  exact ⟨hnow.trans (s.elapseTo_now _), hlong, fun hr => hpll (by rw [hpair]; exact hr)⟩

/-! ### The heartbeat -/

/-- The heartbeat has stopped: its cause, its count and the pulse on the Rope. -/
def State.beatLost (s : State) : State := (({ s with pair := { s.pair with hbRun := false } }.setCause 14 0).bump 0xF090 6 1).ropePulse 2

theorem State.heartbeatOver_eq (h : s.pair.hbRun = true) : s.heartbeatOver =
    if (s.elapseToTick (s.pair.frameAt + s.n 0x8002 1)).beatLost.pair.role = 2 then
      State.setEligible { (s.elapseToTick (s.pair.frameAt + s.n 0x8002 1)).beatLost with
        pair := { (s.elapseToTick (s.pair.frameAt + s.n 0x8002 1)).beatLost.pair with absent := true } } false
    else (s.elapseToTick (s.pair.frameAt + s.n 0x8002 1)).beatLost.syncElig := by
  unfold State.heartbeatOver
  rw [h]
  rfl

theorem State.beatLost_pair (s : State) : s.beatLost.pair = { s.pair with hbRun := false } := State.setCause_pair ..

theorem State.beatLost_z (s : State) : s.beatLost.z 0xF090 6 = min (s.z 0xF090 6 + 1) (2 ^ 32 - 1) := by
  refine (State.z_bump ..).trans ((if_pos rfl).trans ?_)
  rw [State.setCause_z_ne _ 0 (by decide) (by decide) (by decide) (by decide) rfl]
  rfl

theorem State.beatLost_cause (hfast : s.mgtFast = true) : bit (s.beatLost.z 0x210F 0) 0 = true := by
  have hset : bit (({ s with pair := { s.pair with hbRun := false } }.setCause 14 0).z 0x210F 0) 0 = true := State.bit_pairCause 0 hfast
  exact (congrArg (bit · 0) ((State.z_bump ..).trans (if_neg (by decide)))).trans hset

/-- The heartbeat limit without a DATA frame ends the mirroring of a Lead and the eligibility of a Second. -/
theorem exec_heartbeatExpiry (hrun : s.pair.hbRun = true) (hfast : s.mgtFast = true) :
    ∃ t, exec .heartbeatExpiry s = .next t ∧ t.pair.hbRun = false ∧ bit (t.z 0x210F 0) 0 = true ∧
      t.z 0xF090 6 = min (s.z 0xF090 6 + 1) (2 ^ 32 - 1) ∧
      (s.pair.role = 2 → t.pair.eligible = false ∧ t.pair.absent = true) ∧ (s.pair.role = 3 → t.pair.eligible = false) := by
  obtain ⟨t, hexec, hend⟩ := exec_followed (v := s.heartbeatOver) (s := s) (c := .heartbeatExpiry) rfl
  refine ⟨t, hexec, ?_⟩
  rw [State.heartbeatOver_eq hrun] at hend
  have hframe := (Frame.refl (parts := [.now, .time]) (objs := clockObjects) s).elapseToTick (s.pair.frameAt + s.n 0x8002 1)
  have hspair : (s.elapseToTick (s.pair.frameAt + s.n 0x8002 1)).pair = s.pair := hframe.part .pair (by decide)
  have hsz : (s.elapseToTick (s.pair.frameAt + s.n 0x8002 1)).z 0xF090 6 = s.z 0xF090 6 := hframe.z_eq
  have hsfast := hframe.mgtFast_eq.trans hfast
  generalize s.elapseToTick (s.pair.frameAt + s.n 0x8002 1) = w at hend hspair hsz hsfast
  have hpair : w.beatLost.pair = { s.pair with hbRun := false } := by rw [State.beatLost_pair, hspair]
  have hz : w.beatLost.z 0xF090 6 = min (s.z 0xF090 6 + 1) (2 ^ 32 - 1) := by rw [State.beatLost_z, hsz]
  have hcause := State.beatLost_cause hsfast
  generalize w.beatLost = u at hend hpair hz hcause
  by_cases h2 : s.pair.role = 2
  · rw [if_pos (by rw [hpair]; exact h2)] at hend
    generalize hv : ({ u with pair := { u.pair with absent := true } } : State) = v at hend
    have hvpair := v.setEligible_pair false
    have hvz : (v.setEligible false).z 0xF090 6 = v.z 0xF090 6 := ((Frame.refl (parts := pairParts) (objs := pairObjects) v).setEligible false).z_eq
    have hvcause : bit ((v.setEligible false).z 0x210F 0) 0 = true := v.bit_setEligible false (hv ▸ hcause)
    have hvbase : v.pair.hbRun = false ∧ v.pair.absent = true ∧ v.pair.role = 2 ∧ v.z 0xF090 6 = u.z 0xF090 6 := by
      rw [← hv]
      refine ⟨?_, rfl, ?_, rfl⟩
      · show u.pair.hbRun = false
        rw [hpair]
      · show u.pair.role = 2
        rw [hpair]; exact h2
    obtain ⟨hvrun, habsent, hvrole, hvcount⟩ := hvbase
    generalize v.setEligible false = x at hend hvpair hvz hvcause
    refine ⟨?_, hend.cause 0 hvcause, ?_, fun _ => ⟨?_, ?_⟩, fun h3 => absurd h3 (by omega)⟩
    · rw [hend.linked Pair.hbRun fun _ => rfl, hvpair]; exact hvrun
    · rw [State.Followed.z hend, hvz, hvcount, hz]
    · rw [hend.lead (by rw [hvpair]; dsimp only; omega), hvpair]
    · rw [hend.linked Pair.absent fun _ => rfl, hvpair]; exact habsent
  · rw [if_neg (by rw [hpair]; exact h2)] at hend
    have hsync := u.syncElig_followed
    have hall := hsync.trans hend
    have hurun : u.pair.hbRun = false := by rw [hpair]
    refine ⟨(hall.linked Pair.hbRun fun _ => rfl).trans hurun, hall.cause 0 hcause, ?_, fun h => absurd h h2, fun h3 => ?_⟩
    · rw [State.Followed.z hall, hz]
    · obtain ⟨hinelig, -⟩ := State.syncElig_barred (s := u) (by rw [hpair]; exact h3) (State.shadowGood_of_barred (.inl hurun))
      exact hend.barred (.inl (hsync.hbRun.trans hurun)) hinelig

/-! ### The camp channel's timer -/

/-- Everything that is not acknowledged is sent again. -/
def State.sentAgain (s : State) (n : Nat) : State :=
  State.bump { s with pair := { s.pair with resend := n, resends := s.pair.resends + 1, ackTick := s.time.tick } } 0xF090 3 n

/-- The channel resets. -/
def State.channelReset (s : State) : State :=
  { s with pair := { s.pair with
    unacked := [], resend := 0, resends := 0, txUrgent := [], txBulk := [], rxUrgent := [], rxBulk := [], campReset := true } }

theorem State.campTimeout_eq (h : s.pair.unacked ≠ []) : s.campTimeout =
    if 8 ≤ (s.elapseToTick (s.pair.ackTick + 256)).pair.resends then
      if (s.elapseToTick (s.pair.ackTick + 256)).channelReset.pair.role = 3 ∧ 2 ≤ (s.elapseToTick (s.pair.ackTick + 256)).channelReset.pair.catchup then
        (s.elapseToTick (s.pair.ackTick + 256)).channelReset.toDict
      else (s.elapseToTick (s.pair.ackTick + 256)).channelReset.syncElig
    else (s.elapseToTick (s.pair.ackTick + 256)).sentAgain (s.elapseToTick (s.pair.ackTick + 256)).pair.unacked.length := by
  have hempty : ¬s.pair.unacked.isEmpty = true := fun he => h (List.isEmpty_iff.1 he)
  exact if_neg hempty

/-- Segments without an acknowledgement for 256 ticks are sent again. -/
theorem exec_campResendTimeout_again (h : s.pair.unacked ≠ []) (hresends : s.pair.resends < 8) :
    ∃ t, exec .campResendTimeout s = .next t ∧ t.pair.resend = s.pair.unacked.length ∧ t.pair.resends = s.pair.resends + 1 ∧
      t.pair.ackTick = t.time.tick ∧ t.pair.unacked = s.pair.unacked ∧
      t.z 0xF090 3 = min (s.z 0xF090 3 + s.pair.unacked.length) (2 ^ 32 - 1) := by
  obtain ⟨t, hexec, hend⟩ := exec_followed (v := s.campTimeout) (s := s) (c := .campResendTimeout) rfl
  refine ⟨t, hexec, ?_⟩
  have hframe := (Frame.refl (parts := [.now, .time]) (objs := clockObjects) s).elapseToTick (s.pair.ackTick + 256)
  have hpair : (s.elapseToTick (s.pair.ackTick + 256)).pair = s.pair := hframe.part .pair (by decide)
  have hz : (s.elapseToTick (s.pair.ackTick + 256)).z 0xF090 3 = s.z 0xF090 3 := hframe.z_eq
  rw [State.campTimeout_eq h] at hend
  generalize s.elapseToTick (s.pair.ackTick + 256) = u at hend hpair hz
  rw [if_neg (by rw [hpair]; omega), hpair] at hend
  have htime : t.time = u.time := hend.frame.part .time (by decide)
  refine ⟨hend.linked Pair.resend fun _ => rfl, ?_, ?_, ?_, ?_⟩
  · refine (hend.linked Pair.resends fun _ => rfl).trans ?_
    show u.pair.resends + 1 = _
    rw [hpair]
  · rw [htime]
    exact hend.linked Pair.ackTick fun _ => rfl
  · refine (hend.linked Pair.unacked fun _ => rfl).trans ?_
    show u.pair.unacked = _
    rw [hpair]
  · rw [State.Followed.z hend, ← hz]
    exact (State.z_bump ..).trans (if_pos rfl)

/-- After eight times the channel resets. -/
theorem exec_campResendTimeout_resets (halone : Alone s) (h : s.pair.unacked ≠ []) (hresends : 8 ≤ s.pair.resends) :
    ∃ t, exec .campResendTimeout s = .next t ∧ t.pair.unacked = [] ∧ t.pair.txUrgent = [] ∧ t.pair.txBulk = [] ∧ t.pair.campReset = true := by
  obtain ⟨h2, h3, -⟩ := halone
  have hframe := (Frame.refl (parts := [.now, .time]) (objs := clockObjects) s).elapseToTick (s.pair.ackTick + 256)
  have hpair : (s.elapseToTick (s.pair.ackTick + 256)).pair = s.pair := hframe.part .pair (by decide)
  have hover := State.campTimeout_eq h
  generalize s.elapseToTick (s.pair.ackTick + 256) = u at hover hpair
  have hrole2 : u.channelReset.pair.role ≠ 2 := by show u.pair.role ≠ 2; rw [hpair]; exact h2
  have hrole3 : u.channelReset.pair.role ≠ 3 := by show u.pair.role ≠ 3; rw [hpair]; exact h3
  have hstay : u.channelReset.syncElig = u.channelReset := if_pos hrole3
  rw [if_pos (by rw [hpair]; exact hresends), if_neg fun hr => hrole3 hr.1, hstay] at hover
  refine ⟨s.ended u.channelReset, ?_, ?_⟩
  · show s.ends s.campTimeout.pairFollow = _
    rw [hover, State.pairFollow_single _ hrole2 hrole3]
    rfl
  · rw [State.ended_pair]
    exact ⟨rfl, rfl, rfl, rfl⟩

end

theorem ropeFaults : Claims.RopeFaults := by
  intro s
  exact ⟨fun lanes hrole hup hnew hyield hfast => exec_ropeLossOfSignal lanes hrole hup hnew hyield hfast, fun a hat => exec_ropeLossTimeout hat,
    fun hrun hfast => exec_heartbeatExpiry hrun hfast, fun h => ⟨exec_campResendTimeout_again h, fun hr halone => exec_campResendTimeout_resets halone h hr⟩⟩

/-- Settles O55: every command of the Rope ends in the pair's follow-up, which leaves the link and lets no ineligible Second become eligible
whose reason lasts. -/
theorem ropeFramesAndFaults : Obligations.RopeFramesAndFaults := by
  unfold Obligations.RopeFramesAndFaults
  exact ⟨ropeFramesAreExchanged, ropeFaults⟩

end Sys2Proof.Machine
end

section
/-! PROOF. What a set that applies leaves of the pair (R316): whatever the units do at the tick, of the pair only messages leave. -/
set_option Elab.async false
namespace Sys2Proof.Machine

/-! ### How such changes compose -/

/-- Between two states the pair has changed by its messages alone. -/
structure State.TellsOnly (s t : State) : Prop where
  pair : t.pair.untold = s.pair.untold

section
variable {s t u : State}

theorem State.TellsOnly.of (h : t.pair = s.pair) : s.TellsOnly t := ⟨congrArg Pair.untold h⟩

theorem State.TellsOnly.refl (s : State) : s.TellsOnly s := ⟨rfl⟩

theorem State.TellsOnly.trans (h : s.TellsOnly t) (k : t.TellsOnly u) : s.TellsOnly u := ⟨k.pair.trans h.pair⟩

theorem State.TellsOnly.ite {c : Prop} [Decidable c] (h : s.TellsOnly t) (k : s.TellsOnly u) : s.TellsOnly (if c then t else u) := by
  split
  · exact h
  · exact k

theorem State.TellsOnly.foldl {α : Type} {f : State → α → State} (hf : ∀ (s : State) (a : α), s.TellsOnly (f s a)) (l : List α) (s : State) :
    s.TellsOnly (l.foldl f s) := by
  induction l generalizing s with
  | nil => exact .refl s
  | cons a l ih => exact (hf s a).trans (ih _)

theorem State.TellsOnly.bump (h : s.TellsOnly t) (i a d : Nat) : s.TellsOnly (t.bump i a d) := ⟨h.pair⟩

theorem State.TellsOnly.setTap (h : s.TellsOnly t) (i : Nat) (x : TapSt) : s.TellsOnly (t.setTap i x) := ⟨h.pair⟩

theorem State.TellsOnly.setSrc (h : s.TellsOnly t) (i : Nat) (x : SourceSt) : s.TellsOnly (t.setSrc i x) := ⟨h.pair⟩

theorem State.TellsOnly.setWin (h : s.TellsOnly t) (w : Nat) (x : WindowSt) : s.TellsOnly (t.setWin w x) := ⟨h.pair⟩

theorem State.TellsOnly.setStream (h : s.TellsOnly t) (w : Nat) (x : StreamSt) : s.TellsOnly (t.setStream w x) := ⟨h.pair⟩

theorem State.TellsOnly.setCause (h : s.TellsOnly t) (br b : Nat) : s.TellsOnly (t.setCause br b) := h.trans (.of (State.setCause_pair ..))

end

/-! ### Sources, taps and package time -/

section
variable (s : State)

theorem State.syncTrace_tells : s.TellsOnly s.syncTrace := ((State.TellsOnly.refl s).setCause 7 0).ite (.refl s)

theorem State.issueSet_tells (i : Nat) : s.TellsOnly (s.issueSet i) := by
  have hset := (State.TellsOnly.refl s).setSrc i (s.src i).startSet
  unfold State.issueSet
  dsimp only
  generalize s.setSrc i (s.src i).startSet = u at hset ⊢
  split
  · exact hset.trans ⟨(u.campSend_told true 0x09 _).pair⟩
  · exact hset.trans (.of (State.sendTime_pair ..))

theorem State.issueStep_tells (i : Nat) (delta : Int) : s.TellsOnly (s.issueStep i delta) := by
  unfold State.issueStep
  dsimp only
  generalize hx : ({ s.src i with step := some delta, epoch := _, open_ := _ } : SourceSt) = x
  have hset := (State.TellsOnly.refl s).setSrc i x
  generalize s.setSrc i x = u at hset ⊢
  split
  · exact hset.trans ⟨(u.campSend_told true 0x09 _).pair⟩
  · exact hset.trans ((State.TellsOnly.refl u).setSrc i _ |>.trans (.of (State.sendTime_pair ..)))

theorem State.stepSource_tells (delta : Int) (i : Nat) : s.TellsOnly (State.stepSource delta s i) :=
  ((State.TellsOnly.refl s).setSrc i _).ite (((s.issueStep_tells i delta).ite (s.issueSet_tells i)).ite (.refl s))

theorem State.startWatch_pair : s.startWatch.pair = s.pair := by
  unfold State.startWatch
  split <;> rfl

theorem State.ppsAfterStep_pair : s.ppsAfterStep.pair = s.pair := by
  unfold State.ppsAfterStep
  split
  · rfl
  · split <;> rfl

theorem State.stepTo_tells (new : Nat) (d : Int) : s.TellsOnly (s.stepTo new d) := by
  unfold State.stepTo
  extract_lets _ moved _ owed sources
  have hsources : s.TellsOnly sources := by
    have howed : s.TellsOnly owed := .of rfl
    exact (howed.trans (.foldl (fun t i => t.stepSource_tells _ i) _ owed)).ite howed
  exact ((hsources.trans (.of sources.startWatch_pair)).trans (.of (State.ppsAfterStep_pair _))).setCause 7 3

theorem State.wroteTime_tells : s.TellsOnly s.wroteTime := by
  unfold State.wroteTime
  refine State.TellsOnly.trans ?_ (State.syncTrace_tells _)
  exact ⟨rfl⟩

theorem State.applyTimeWrite_tells (mode v : Nat) (neg : Bool) : s.TellsOnly (s.applyTimeWrite mode v neg) := by
  have hclear : ∀ t : State, t.TellsOnly t.clearTimeWrite := fun _ => ⟨rfl⟩
  have hwrote : ∀ new d, s.TellsOnly ((s.stepTo new d).wroteTime).clearTimeWrite := fun new d =>
    ((s.stepTo_tells new d).trans (State.wroteTime_tells _)).trans (hclear _)
  unfold State.applyTimeWrite
  split
  · exact hwrote ..
  · exact hwrote ..
  · exact ⟨rfl⟩
  · exact hclear s

theorem State.commitTimeWrite_tells : s.TellsOnly s.commitTimeWrite := by
  unfold State.commitTimeWrite
  extract_lets mode v neg _ disarmed
  have hdisarmed : s.TellsOnly disarmed := ⟨rfl⟩
  exact (hdisarmed.trans (State.applyTimeWrite_tells ..)).ite ⟨rfl⟩

theorem State.ppsModeChange_tells (old : Nat) : s.TellsOnly (s.ppsModeChange old) := by
  unfold State.ppsModeChange
  extract_lets new _ _ freed _ mode
  have hfreed : s.TellsOnly freed := by
    show s.TellsOnly (if _ then _ else _)
    split
    · exact ⟨rfl⟩
    · exact .refl s
  have hmode : s.TellsOnly mode := hfreed.trans ⟨rfl⟩
  exact (State.TellsOnly.refl s).ite (((hmode.trans (.of mode.startWatch_pair)).ite hmode).trans (State.syncTrace_tells _))

theorem State.startPpsOut_pair : s.startPpsOut.pair = s.pair := by
  unfold State.startPpsOut
  split <;> rfl

theorem State.tapLeave_tells (i : Nat) : s.TellsOnly (s.tapLeave i) := (((State.TellsOnly.refl s).setTap i _).bump 0xF060 13 1).ite (.refl s)

theorem State.tapFollow_tells (i : Nat) : s.TellsOnly (s.tapFollow i) := by
  have hready : ∀ t : State, t.TellsOnly (t.tapReady i) := fun t => ((State.TellsOnly.refl t).setTap i _).ite (.refl t)
  refine (State.TellsOnly.refl s).ite (State.TellsOnly.ite ?_ ((s.tapLeave_tells i).ite (.refl s)))
  exact (((State.TellsOnly.refl s).setTap i _).ite (.refl s)).trans (hready _)

theorem State.tapsFollow_tells : s.TellsOnly s.tapsFollow := .foldl (fun t i => t.tapFollow_tells i) _ s

theorem State.tapEval_tells (i : Nat) : s.TellsOnly (s.tapEval i) := by
  unfold State.tapEval
  dsimp only
  split
  · exact (State.TellsOnly.refl s).setTap i _
  · split
    · exact (State.TellsOnly.refl s).setTap i _
    · exact (State.TellsOnly.refl s).setTap i _

theorem State.tapEntryChange_tells (i : Nat) : s.TellsOnly (s.tapEntryChange i) := by
  have hleft : s.TellsOnly (if (s.tap i).q = 1 ∨ (s.tap i).q = 2 then s.bump 0xF060 13 1 else s) := ((State.TellsOnly.refl s).bump 0xF060 13 1).ite (.refl s)
  exact ((hleft.setTap i _).trans (State.tapEval_tells ..)).setTap i _

theorem State.sourceAdmit_tells (i : Nat) : s.TellsOnly (s.sourceAdmit i) := by
  unfold State.sourceAdmit
  dsimp only
  split
  · exact .refl s
  · have hset : ∀ x, s.TellsOnly (s.setSrc i x) := fun x => (State.TellsOnly.refl s).setSrc i x
    exact (((hset _).trans (State.issueSet_tells ..)).ite (hset _)).ite (.refl s)

theorem State.sourceEntryChange_tells (i : Nat) : s.TellsOnly (s.sourceEntryChange i) :=
  (((State.TellsOnly.refl s).setSrc i _).trans (State.sourceAdmit_tells ..)).trans (State.tapsFollow_tells _)

theorem State.cairnGone_tells (p : Nat) : s.TellsOnly (s.cairnGone p) := by
  unfold State.cairnGone
  extract_lets _ gone sources
  have hgone : s.TellsOnly gone := ⟨rfl⟩
  have hsources : s.TellsOnly sources := hgone.trans (.foldl (fun t i => ((State.TellsOnly.refl t).setSrc i _).ite (.refl t)) _ gone)
  refine hsources.trans (.foldl (fun t i => State.TellsOnly.ite ?_ (.refl t)) _ sources)
  exact ((t.tapLeave_tells i).ite (.refl t)).setTap i _

theorem State.hookHorizon_tells (l : List Staged) : s.TellsOnly (s.hookHorizon l) := by
  unfold State.hookHorizon
  extract_lets h old _ fitted
  have hempties : ∀ t, s.TellsOnly { s with time := t } := fun _ => ⟨rfl⟩
  have hfitted : s.TellsOnly fitted := (State.TellsOnly.refl s).ite ((hempties _).ite ((State.TellsOnly.refl s).bump 0xF060 14 _))
  exact State.TellsOnly.ite (hfitted.trans ⟨rfl⟩) (.refl s)

theorem State.hookTime_tells (l : List Staged) (old : State) (all : List Staged) : s.TellsOnly (s.hookTime l old all) := by
  unfold State.hookTime
  extract_lets taps sources mode pps
  have htaps : s.TellsOnly taps := .foldl (fun t i => (t.tapEntryChange_tells i).ite (.refl t)) _ s
  have hsources : s.TellsOnly sources := htaps.trans (.foldl (fun t i => (t.sourceEntryChange_tells i).ite (.refl t)) _ taps)
  have hmode : s.TellsOnly mode := (hsources.trans (State.ppsModeChange_tells ..)).ite hsources
  have hpps : s.TellsOnly pps := (hmode.trans (.of (State.startPpsOut_pair _))).ite hmode
  exact ((hpps.trans (State.commitTimeWrite_tells _)).trans (State.tapsFollow_tells _)).ite hpps

end

/-! ### Probe bank and loops -/

section
variable (s : State)

theorem State.syncProbe_tells : s.TellsOnly s.syncProbe := by
  have hfrom : s.TellsOnly s.probeBadFrom := (State.TellsOnly.refl s).ite ⟨rfl⟩
  exact (hfrom.ite (hfrom.setCause 13 8)).ite (State.TellsOnly.ite ⟨rfl⟩ (.refl s))

theorem State.startDecoder_tells (t j : Nat) : s.TellsOnly (State.startDecoder t s j) := State.TellsOnly.ite ⟨rfl⟩ (State.TellsOnly.ite ⟨rfl⟩ (.refl s))

theorem State.settleGranule_tells (g t : Nat) : s.TellsOnly (s.settleGranule g t) := ⟨rfl⟩

theorem State.hookProbe_tells (l : List Staged) (old : State) (t : Nat) : s.TellsOnly (s.hookProbe l old t) := by
  unfold State.hookProbe
  extract_lets settled decoders _ masked
  have hsettled : s.TellsOnly settled := 
    (State.TellsOnly.foldl (fun u g => (u.settleGranule_tells g t).ite (.refl u)) _ s).ite (.refl s)
  have hdecoders : s.TellsOnly decoders := hsettled.trans (.foldl (fun u j => (u.startDecoder_tells t j).ite (.refl u)) _ settled)
  have hprobe : ∀ p, s.TellsOnly { decoders with probe := p } := fun _ => hdecoders.trans ⟨rfl⟩
  have hmasked : s.TellsOnly masked := (hprobe _).ite hdecoders
  exact (hmasked.trans (State.syncProbe_tells _)).ite hmasked

theorem State.loopCommit_tells (l : Nat) : s.TellsOnly (s.loopCommit l) :=
  (State.TellsOnly.refl s).ite (State.TellsOnly.ite ⟨rfl⟩ ((State.TellsOnly.refl s).ite ⟨rfl⟩))

theorem State.hookLoops_tells (l : List Staged) (old : State) (all : List Staged) : s.TellsOnly (s.hookLoops l old all) :=
  .foldl (fun t i => (t.loopCommit_tells i).ite (.refl t)) _ s

end

/-! ### Memory and the home -/

section
variable (s : State)

theorem State.abandonStep_tells : s.TellsOnly s.abandonStep := by
  unfold State.abandonStep
  split
  · exact ⟨rfl⟩
  · exact .refl s

theorem State.writeLine_tells (off : Nat) (data : Octets) (poison : Bool) : s.TellsOnly (s.writeLine off data poison) := by
  unfold State.writeLine
  split
  · refine State.TellsOnly.trans ?_ (State.abandonStep_tells _)
    exact ⟨rfl⟩
  · exact ⟨rfl⟩

theorem State.correctLine_tells (off : Nat) : s.TellsOnly (s.correctLine off) := by
  unfold State.correctLine
  dsimp only
  split
  · exact ⟨rfl⟩
  · exact ⟨rfl⟩

theorem State.readLine_tells (off : Nat) : s.TellsOnly (s.readLine off).2.2 := by
  unfold State.readLine
  split
  · exact ⟨rfl⟩
  · split
    · split
      · exact s.abandonStep_tells
      · exact s.abandonStep_tells
    · split
      · exact s.correctLine_tells off
      · exact (s.correctLine_tells off).trans ⟨rfl⟩

theorem State.hostWrite_tells (off i : Nat) (data : Octets) (poison : Bool) : s.TellsOnly (s.hostWrite off i data poison) := by
  have hread := s.readLine_tells off
  exact ((State.TellsOnly.refl s).bump 0xF080 12 1).ite ((s.writeLine_tells ..).ite (hread.trans (State.writeLine_tells ..)))

theorem State.answer_tells (p : Nat) (m : LinkMsg) (vc opc : Nat) (poison : Bool) (data : Octets) : s.TellsOnly (s.answer p m vc opc poison data) :=
  (((State.TellsOnly.refl s).bump 0xF048 10 1).ite (.refl s)).trans (.of (sendMsg_pair ..))

theorem State.cohEvent_tells (b k a i : Nat) : s.TellsOnly (s.cohEvent b k a i) := .of (State.cohEvent_pair ..)

theorem State.answerLine_tells (p : Nat) (m : LinkMsg) (opc off : Nat) : s.TellsOnly (s.answerLine p m opc off) := by
  have hread := s.readLine_tells (off / 64 * 64)
  exact ((hread.trans (State.cohEvent_tells ..)).ite hread).trans (State.answer_tells ..)

theorem State.answerUc_tells (p : Nat) (m : LinkMsg) (off : Nat) : s.TellsOnly (s.answerUc p m off) := by
  have hread := s.readLine_tells (off / 64 * 64)
  unfold State.answerUc
  generalize s.readLine (off / 64 * 64) = r at hread
  obtain ⟨d, poison, u⟩ := r
  dsimp only
  generalize hreported : (if poison = true then u.cohEvent 3 2 (m.addr / 64 * 64) m.sid else u) = t
  have ht : s.TellsOnly t := hreported ▸ (hread.trans (State.cohEvent_tells ..)).ite hread
  split
  · exact ht.trans (State.answer_tells ..)
  · exact ht.trans (State.answer_tells ..)
  · exact ht.trans (State.answer_tells ..)

theorem State.applyWrite_tells (p : Nat) (m : LinkMsg) (off : Nat) : s.TellsOnly (s.applyWrite p m off) :=
  (State.hostWrite_tells ..).trans (State.answer_tells ..)

/-- Snoops leave without a change of a port's state. -/
theorem State.sendSnoop_spares (line sid : Nat) (inv : Bool) : (s.sendSnoop line sid inv).pair = s.pair ∧
    ∀ q, ((s.sendSnoop line sid inv).port q).st = (s.port q).st := by
  have hawait : ∀ (t : State) (x : Snoop), (t.awaitSnoop line x).pair = t.pair ∧ ∀ q, ((t.awaitSnoop line x).port q).st = (t.port q).st := fun t x => by
    unfold State.awaitSnoop
    split
    · exact ⟨rfl, fun _ => rfl⟩
    · exact ⟨rfl, fun _ => rfl⟩
  have hsnp : ∀ tag, (s.sendSnp line sid inv tag).pair = s.pair ∧ ∀ q, ((s.sendSnp line sid inv tag).port q).st = (s.port q).st := fun _ =>
    ⟨sendMsg_pair .., fun _ => sendMsg_phase ..⟩
  unfold State.sendSnoop
  dsimp only
  split
  · exact ⟨(hawait _ _).1.trans (hsnp _).1, fun q => ((hawait _ _).2 q).trans ((hsnp _).2 q)⟩
  · exact hawait s _

theorem State.snoopAll_pair (line port : Nat) (req : Option LinkMsg) (recalling : Bool) (sids : List Nat) (inv : Bool) :
    (s.snoopAll line port req recalling sids inv).pair = s.pair :=
  foldl_keeps State.pair _ (fun t sid => (t.sendSnoop_spares line sid inv).1) sids (s.putTxn line _)

theorem State.snoopAll_phase (line port : Nat) (req : Option LinkMsg) (recalling : Bool) (sids : List Nat) (inv : Bool) (q : Nat) :
    ((s.snoopAll line port req recalling sids inv).port q).st = (s.port q).st :=
  foldl_keeps (fun t : State => (t.port q).st) _ (fun t sid => (t.sendSnoop_spares line sid inv).2 q) sids (s.putTxn line _)

theorem State.snoopAll_tells (line port : Nat) (req : Option LinkMsg) (recalling : Bool) (sids : List Nat) (inv : Bool) :
    s.TellsOnly (s.snoopAll line port req recalling sids inv) := .of (State.snoopAll_pair ..)

theorem State.grantNew_tells (line p : Nat) (m : LinkMsg) (off : Nat) (excl : Bool) : s.TellsOnly (s.grantNew line p m off excl) := by
  unfold State.grantNew
  extract_lets es ways
  split
  · exact State.TellsOnly.trans (t := s.drawn.putEntry line _) ⟨rfl⟩ (State.answerLine_tells ..)
  · split
    · next v cl _ =>
      have hclear : s.TellsOnly (s.clearUse (lineSet line)) := ⟨rfl⟩
      have hvictim : s.TellsOnly (if cl then s.clearUse (lineSet line) else s) := hclear.ite (.refl s)
      have hwaits : ∀ w : Waiter, s.TellsOnly ((if cl then s.clearUse (lineSet line) else s).waitOn w) := fun _ => hvictim.trans ⟨rfl⟩
      exact (((hwaits _).trans (State.cohEvent_tells ..)).bump 0xF048 5 1).trans (State.snoopAll_tells ..)
    · exact ⟨rfl⟩

theorem State.decideI_tells (line p : Nat) (m : LinkMsg) (off : Nat) : s.TellsOnly (s.decideI line p m off) := by
  unfold State.decideI
  split
  · exact s.grantNew_tells ..
  · exact s.grantNew_tells ..
  · exact s.grantNew_tells ..
  · exact s.applyWrite_tells ..
  · exact s.applyWrite_tells ..
  · exact s.applyWrite_tells ..
  · exact s.answerUc_tells ..

theorem State.decideS_tells (line p : Nat) (m : LinkMsg) (off : Nat) (e : FilterEntry) : s.TellsOnly (s.decideS line p m off e) := by
  have hput : ∀ x, s.TellsOnly (s.putEntry line x) := fun _ => ⟨rfl⟩
  have hsnoop : ∀ sids, s.TellsOnly (s.snoopAll line p (some m) false sids true) := fun sids => s.snoopAll_tells ..
  unfold State.decideS
  extract_lets others
  split
  · exact (hput _).trans (State.answerLine_tells ..)
  · exact hsnoop _
  · exact (((hput _).trans (State.answer_tells ..)).ite (hsnoop _)).ite (hsnoop _)
  · exact hsnoop _
  · exact hsnoop _
  · exact hsnoop _
  · exact s.answerUc_tells ..

theorem State.decideEM_tells (line p : Nat) (m : LinkMsg) (e : FilterEntry) : s.TellsOnly (s.decideEM line p m e) := by
  have hsnoop : ∀ inv, s.TellsOnly (s.snoopAll line p (some m) false [e.owner] inv) := fun inv => s.snoopAll_tells ..
  unfold State.decideEM
  split
  · exact hsnoop _
  · exact (s.answer_tells ..).ite (hsnoop _)
  · exact hsnoop _
  · exact hsnoop _
  · exact hsnoop _
  · exact hsnoop _

theorem State.answerBarred_tells (p : Nat) (m : LinkMsg) (off : Nat) : s.TellsOnly (s.answerBarred p m off) :=
  (s.answerLine_tells ..).ite ((s.answer_tells ..).ite (s.answerUc_tells ..))

theorem State.hit_tells (line : Nat) : s.TellsOnly (s.hit line) := by
  unfold State.hit
  split
  · exact ⟨rfl⟩
  · exact .refl s

theorem State.quiesceLine_tells (line : Nat) : s.TellsOnly (s.quiesceLine line) := by
  unfold State.quiesceLine
  split
  · exact (State.TellsOnly.refl s).ite (s.snoopAll_tells ..)
  · exact .refl s

theorem State.quiesceLine_phase (line q : Nat) : ((s.quiesceLine line).port q).st = (s.port q).st := by
  unfold State.quiesceLine
  split
  · dsimp only
    split
    · rfl
    · exact s.snoopAll_phase ..
  · rfl

theorem State.homeDecide_tells (line p : Nat) (m : LinkMsg) (off : Nat) : s.TellsOnly (s.homeDecide line p m off) := by
  unfold State.homeDecide
  refine (s.answer_tells ..).ite ((s.answerBarred_tells ..).ite ?_)
  extract_lets hit
  refine ((s.hit_tells line).trans ?_).trans (State.quiesceLine_tells ..)
  split
  · exact State.decideI_tells ..
  · exact (State.decideEM_tells ..).ite (State.decideS_tells ..)

theorem State.startRecall_tells (line : Nat) : s.TellsOnly (s.startRecall line) := by
  have hfree : s.TellsOnly (s.freeEntry line) := ⟨rfl⟩
  unfold State.startRecall
  split
  · exact hfree.ite (s.snoopAll_tells ..)
  · exact .refl s

theorem State.recallLine_tells (line k : Nat) : s.TellsOnly (s.recallLine line k) := by
  unfold State.recallLine
  split
  · refine (State.TellsOnly.refl s).ite (State.TellsOnly.trans ?_ (State.startRecall_tells ..))
    exact ⟨rfl⟩
  · exact .refl s

theorem State.demote_tells (line : Nat) : s.TellsOnly (s.demote line) := by
  unfold State.demote
  split
  · exact (s.snoopAll_tells ..).ite (.refl s)
  · exact .refl s

theorem State.serveTxn_tells (line p : Nat) (m : LinkMsg) (off : Nat) : s.TellsOnly (s.serveTxn line p m off) := by
  have hput : ∀ x, s.TellsOnly (s.putEntry line x) := fun _ => ⟨rfl⟩
  have hfree : s.TellsOnly (s.freeEntry line) := ⟨rfl⟩
  unfold State.serveTxn
  split
  · exact s.homeDecide_tells ..
  · refine (((State.TellsOnly.refl s).ite hfree).trans (State.homeDecide_tells ..)).ite ((s.answer_tells ..).ite ?_)
    refine ((hput _).trans (State.answerLine_tells ..)).ite (((hput _).trans (State.answer_tells ..)).ite ?_)
    exact (s.answerBarred_tells ..).ite ((s.applyWrite_tells ..).ite (s.answerUc_tells ..))

theorem State.endSnoops_tells (line : Nat) (recalling : Bool) : s.TellsOnly (s.endSnoops line recalling) := by
  have hfree : s.TellsOnly (s.freeEntry line) := ⟨rfl⟩
  unfold State.endSnoops
  split
  · exact hfree.ite (.refl s)
  · exact hfree

theorem State.finishTxn_tells (line : Nat) : s.TellsOnly (s.finishTxn line) := by
  unfold State.finishTxn
  split
  · exact .refl s
  · next t _ =>
    refine State.TellsOnly.ite ?_ (.refl s)
    extract_lets ended served
    have hended : s.TellsOnly ended := ⟨rfl⟩
    have hserved : ended.TellsOnly served := by
      show ended.TellsOnly (match t.req with | none => _ | some m => _)
      split
      · exact ended.endSnoops_tells ..
      · exact ended.serveTxn_tells ..
    exact (hended.trans hserved).trans ((State.startRecall_tells ..).ite (State.quiesceLine_tells ..))

theorem State.poisonLine_tells (line : Nat) : s.TellsOnly (s.poisonLine line) := by
  unfold State.poisonLine
  split
  · exact ⟨rfl⟩
  · exact .refl s

theorem State.removeFromLine_tells (port line : Nat) : s.TellsOnly (State.removeFromLine port s line) := by
  unfold State.removeFromLine
  extract_lets mine entry
  have hentry : s.TellsOnly entry := by
    show s.TellsOnly (match s.entry line with | some e => _ | none => s)
    split
    · extract_lets poisoned hs
      have hpoisoned : s.TellsOnly poisoned := (s.poisonLine_tells line).ite (.refl s)
      have hput : ∀ x, s.TellsOnly (poisoned.putEntry line x) := fun _ => hpoisoned.trans ⟨rfl⟩
      have hfree : s.TellsOnly (poisoned.freeEntry line) := hpoisoned.trans ⟨rfl⟩
      exact hfree.ite (hput _)
    · exact .refl s
  split
  · extract_lets held poisoned drop
    have hpoisoned : s.TellsOnly poisoned := (hentry.trans (State.poisonLine_tells ..)).ite hentry
    have hput : ∀ x, s.TellsOnly (poisoned.putTxn line x) := fun _ => hpoisoned.trans ⟨rfl⟩
    exact (hput _).trans (State.finishTxn_tells ..)
  · exact hentry

theorem State.removeAgents_tells (port : Nat) : s.TellsOnly (s.removeAgents port) := by
  unfold State.removeAgents
  extract_lets _ dropped lines removed gone
  have hdropped : s.TellsOnly dropped := ⟨rfl⟩
  have hremoved : s.TellsOnly removed := hdropped.trans (.foldl (fun t line => t.removeFromLine_tells port line) _ dropped)
  exact hremoved.trans ⟨rfl⟩

end

/-! ### Windows, streams and banks -/

section
variable (s : State)

theorem State.ringRecall_tells : s.TellsOnly s.ringRecall := by
  refine .foldl (fun t e => ?_) _ s
  split
  · exact (State.recallLine_tells ..).ite (.refl t)
  · exact .refl t

theorem State.setWpos_tells (w p : Nat) : s.TellsOnly (s.setWpos w p) := by
  have hset := (State.TellsOnly.refl s).setWin w { s.win w with wpos := p, wrapped := (s.win w).wrapped || decide (64 * s.winSize w ≤ p) }
  exact (hset.trans (State.ringRecall_tells _)).ite hset

theorem State.bufPush_tells (l : List BufLine) : s.TellsOnly (s.bufPush l) := ⟨rfl⟩

theorem State.closeBlock_tells (w : Nat) : s.TellsOnly (s.closeBlock w) := by
  unfold State.closeBlock
  extract_lets x q n o ls buffered used keep closed counted
  have hbuffered : s.TellsOnly buffered := (s.bufPush_tells ls).ite (.refl s)
  have hclosed : s.TellsOnly closed := hbuffered.setWin w _
  have hcounted : s.TellsOnly counted := by
    have hbump : closed.TellsOnly (closed.bumpW 0xF078 1 64 1) := ⟨rfl⟩
    exact hclosed.ite (hclosed.trans hbump)
  exact (State.TellsOnly.refl s).ite ((hcounted.trans (State.setWpos_tells ..)).bump 0xF078 6 1)

theorem State.closeChanged_tells (l : List Staged) : s.TellsOnly (s.closeChanged l) :=
  .foldl (fun t w => (t.closeBlock_tells w).ite (.refl t)) _ s

theorem State.freeStreamLanes_tells (t : Nat) : s.TellsOnly (s.freeStreamLanes t) := ⟨rfl⟩

theorem State.skipBlocks_tells (t next n : Nat) : s.TellsOnly (s.skipBlocks t next n) := by
  unfold State.skipBlocks
  extract_lets x skipped
  have hskipped : s.TellsOnly skipped := ((State.TellsOnly.refl s).setStream t _).trans (State.freeStreamLanes_tells ..)
  have htold : s.TellsOnly (skipped.setWinCause (s.streamWin t) 1) := hskipped.trans (.of (State.setWinCause_pair ..))
  exact hskipped.ite (htold.bump 0xF078 12 n)

theorem State.startWindow_tells (w : Nat) : s.TellsOnly (s.startWindow w) := by
  unfold State.startWindow
  extract_lets skipped _ emptied
  have hskipped : s.TellsOnly skipped := by
    show s.TellsOnly (match s.winStreamOf w with | some t => _ | none => s)
    split
    · exact s.skipBlocks_tells ..
    · exact .refl s
  have hemptied : s.TellsOnly emptied := hskipped.trans ⟨rfl⟩
  exact hemptied.setWin w {}

theorem State.winCommit_tells (w : Nat) : s.TellsOnly (s.winCommit w) := (s.startWindow_tells w).ite (.refl s)

theorem State.streamCommit_tells (t : Nat) (was : Bool) : s.TellsOnly (s.streamCommit t was) := by
  have hfreed := s.freeStreamLanes_tells t
  exact (hfreed.setStream t _).ite ((hfreed.setStream t _).ite (.refl s))

theorem State.recallBank_tells (b : Nat) : s.TellsOnly (s.recallBank b) := by
  refine .foldl (fun t e => ?_) _ s
  split
  · exact (State.recallLine_tells ..).ite (.refl t)
  · exact .refl t

theorem State.stopTest_tells (b : Nat) : s.TellsOnly (s.stopTest b) := by
  unfold State.stopTest
  split
  · exact ⟨rfl⟩
  · exact .refl s

theorem State.moveBank_tells (b st target : Nat) (zero : Bool) : s.TellsOnly (s.moveBank b st target zero) := ⟨rfl⟩

theorem State.bankToward_tells (b sel : Nat) : s.TellsOnly (s.bankToward b sel) := by
  have hmoved := s.moveBank_tells b
  have hdrained : ∀ target, s.TellsOnly (((s.moveBank b 1 target false).stopTest b).recallBank b) := fun target =>
    ((hmoved 1 target false).trans (State.stopTest_tells ..)).trans (State.recallBank_tells ..)
  have hfailed : ∀ t, s.TellsOnly t → s.TellsOnly (if (s.bank b).bist = 3 then s else t) := fun _ h => (State.TellsOnly.refl s).ite h
  unfold State.bankToward
  dsimp only
  split
  · exact hdrained 3
  · exact hdrained 4
  · exact hmoved 5 0 false
  · exact hmoved 2 4 false
  · exact hmoved 5 0 true
  · exact hmoved 5 3 true
  · exact hfailed _ (hmoved 5 0 true)
  · exact hfailed _ (hmoved 5 3 true)
  · exact hfailed _ ⟨rfl⟩
  · exact .refl s

theorem State.startTest_tells : s.TellsOnly s.startTest := by
  unfold State.startTest
  split
  · exact ⟨rfl⟩
  · exact .refl s

theorem State.hookStorage_tells (l : List Staged) (old : State) : s.TellsOnly (s.hookStorage l old) := by
  unfold State.hookStorage
  extract_lets windows streams banks
  have hwindows : s.TellsOnly windows := .foldl (fun t w => (t.winCommit_tells w).ite (.refl t)) _ s
  have hstreams : s.TellsOnly streams := hwindows.trans (.foldl (fun t q => (t.streamCommit_tells q _).ite (.refl t)) _ windows)
  have hbanks : s.TellsOnly banks := hstreams.trans (.foldl (fun t b => (t.bankToward_tells ..).ite (.refl t)) _ streams)
  have hphase : ∀ m, s.TellsOnly { banks with mem := m } := fun _ => hbanks.trans ⟨rfl⟩
  have htest : s.TellsOnly banks.startTest := hbanks.trans banks.startTest_tells
  exact ((htest.ite hbanks).ite ((hphase _).ite hbanks)).ite hbanks

end

/-! ### Ports and the home -/

section
variable (s : State)

theorem State.pathLost_tells (p : Nat) : s.TellsOnly (s.pathLost p) := by
  unfold State.pathLost
  extract_lets x cleared _ lost
  have hacc : ∀ a, s.TellsOnly { lost with acc := a } := fun _ => ⟨rfl⟩
  exact (hacc _).ite ((hacc _).ite ((hacc _).ite ((hacc _).ite ⟨rfl⟩)))

theorem State.mailboxLost_tells (p : Nat) : s.TellsOnly (s.mailboxLost p) := by
  unfold State.mailboxLost
  split
  · exact (s.pathLost_tells 3).ite (.refl s)
  · exact .refl s

theorem State.startTraining_tells (p : Nat) : s.TellsOnly (s.startTraining p) := ⟨rfl⟩

theorem State.portDisable_tells (p : Nat) : s.TellsOnly (s.portDisable p) := by
  have hfresh : s.TellsOnly (s.setPort p (freshLink (s.port p) 0)) := ⟨rfl⟩
  exact ((hfresh.trans (State.mailboxLost_tells ..)).trans (State.removeAgents_tells ..)).trans (State.cairnGone_tells ..)

theorem State.recallAgents_tells (p : Nat) : s.TellsOnly (s.recallAgents p) :=
  .foldl (f := fun t (e : Nat × FilterEntry) => t.quiesceLine e.1) (fun t e => t.quiesceLine_tells e.1) _ s

theorem State.giveUpLines_tells (p : Nat) : s.TellsOnly (s.giveUpLines p) :=
  .foldl (f := fun t (e : Nat × DescLine) => t.giveUp e.1) (fun t e => .of (t.giveUp_leaves e.1).pair) _ s

theorem State.quiescePort_tells (p : Nat) : s.TellsOnly (s.quiescePort p) := by
  have hset : s.TellsOnly (s.setPort p { s.port p with st := 7, quiesceAt := none }) := ⟨rfl⟩
  exact ((hset.trans (State.recallAgents_tells ..)).trans (State.giveUpLines_tells ..)).ite (s.portDisable_tells p)

theorem State.enablePort_tells (p : Nat) : s.TellsOnly (s.enablePort p) :=
  (State.TellsOnly.refl s).ite ((s.startTraining_tells p).ite ⟨rfl⟩)

theorem State.hookPorts_tells (l : List Staged) : s.TellsOnly (s.hookPorts l) :=
  .foldl (fun t p => ((t.enablePort_tells p).ite (t.quiescePort_tells p)).ite (.refl t)) _ s

theorem State.recallZone_tells (line : Nat) : s.TellsOnly (s.recallZone line) := by
  unfold State.recallZone
  split
  · exact (s.recallLine_tells ..).ite (.refl s)
  · exact .refl s

theorem State.hookHome_tells (l : List Staged) : s.TellsOnly (s.hookHome l) := by
  unfold State.hookHome
  extract_lets demoted
  have hdemoted : s.TellsOnly demoted := (State.TellsOnly.foldl (fun t line => t.demote_tells line) _ s).ite (.refl s)
  exact (hdemoted.trans (.foldl (fun t line => t.recallZone_tells line) _ demoted)).ite hdemoted

end

/-! ### The whole set -/

section
variable (s : State)

theorem State.firstRelease_tells (t : Nat) : s.TellsOnly (s.firstRelease t) := by
  unfold State.firstRelease
  split
  · exact .refl s
  · exact ⟨rfl⟩

theorem State.fanPrst_tells (old : State) : s.TellsOnly (s.fanPrst old) := by
  unfold State.fanPrst
  extract_lets _ lines
  have hlines : s.TellsOnly lines := ⟨rfl⟩
  exact (hlines.trans (State.firstRelease_tells ..)).ite hlines

theorem State.hookFanout_tells (l : List Staged) (old : State) : s.TellsOnly (s.hookFanout l old) := by
  unfold State.hookFanout
  extract_lets clk rst noted _ clocks
  have hnoted : s.TellsOnly noted := ⟨rfl⟩
  have hclocks : s.TellsOnly clocks := by
    show s.TellsOnly (if clk = true then _ else noted)
    split
    · exact hnoted.trans ⟨rfl⟩
    · exact hnoted
  exact (State.TellsOnly.refl s).ite ((hclocks.trans (State.fanPrst_tells ..)).ite hclocks)

theorem State.startPairId_tells (v : Nat) : s.TellsOnly (s.startPairId v) := by
  unfold State.startPairId
  split
  · exact .refl s
  · exact ⟨rfl⟩

theorem State.hookSecurity_tells (l all : List Staged) : s.TellsOnly (s.hookSecurity l all) := by
  unfold State.hookSecurity
  extract_lets programmed
  have hprogrammed : s.TellsOnly programmed := (s.startPairId_tells _).ite (.refl s)
  have hsent : programmed.TellsOnly (programmed.sendTamperCopy (programmed.n 0x9010 1)) := ⟨rfl⟩
  exact (hprogrammed.trans hsent).ite hprogrammed

theorem State.hookAccess_tells (l : List Staged) : s.TellsOnly (s.hookAccess l) := by
  unfold State.hookAccess
  extract_lets can bus mailbox _ node
  have hcan : s.TellsOnly can := (s.pathLost_tells 1).ite (.refl s)
  have hbus : s.TellsOnly bus := (hcan.trans (can.pathLost_tells 2)).ite hcan
  have hmailbox : s.TellsOnly mailbox := (hbus.trans (bus.pathLost_tells 3)).ite hbus
  have hacc : ∀ (t : State) a, t.TellsOnly { t with acc := a } := fun _ _ => ⟨rfl⟩
  have hnode : s.TellsOnly node := (hmailbox.trans (hacc ..)).ite hmailbox
  exact (hnode.trans (hacc ..)).ite hnode

theorem State.hookAlerts_tells (l : List Staged) : s.TellsOnly (s.hookAlerts l) := by
  have halerts : ∀ a, s.TellsOnly (State.alertSync { s with alerts := a }) := fun _ => .of (State.alertSync_pair _)
  exact (halerts _).ite (.refl s)

theorem State.hooks_tells (l all : List Staged) (old : State) (t : Nat) : s.TellsOnly (s.hooks l all old t) := by
  have htime : s.TellsOnly ((s.hookHorizon l).hookTime l old all) := (s.hookHorizon_tells l).trans (State.hookTime_tells ..)
  have hloops := (htime.trans (State.hookProbe_tells _ l old t)).trans (State.hookLoops_tells _ l old all)
  have hstorage := ((hloops.trans (State.hookPorts_tells _ l)).trans (State.hookHome_tells _ l)).trans (State.hookStorage_tells _ l old)
  have hsecurity := (hstorage.trans (State.hookFanout_tells _ l old)).trans (State.hookSecurity_tells _ l all)
  exact (hsecurity.trans (State.hookAccess_tells _ l)).trans (State.hookAlerts_tells _ l)

theorem State.install_tells (l : List Staged) : s.TellsOnly (s.install l) := ⟨rfl⟩

theorem State.armNow_tells (a : Nat) (rearm : Bool) : s.TellsOnly (s.armNow a rearm) := ⟨rfl⟩

theorem State.applySet_tells (l : List Staged) (t : Nat) : s.TellsOnly (s.applySet l t).2 := by
  unfold State.applySet
  extract_lets changed again closed applied
  have happlied : s.TellsOnly applied :=
    ((s.closeChanged_tells changed).trans (State.install_tells _ l)).trans (State.hooks_tells _ changed l closed t)
  exact (((happlied.trans (State.armNow_tells ..)).bump 0xF010 9 1).setCause 9 1).ite happlied

end

end Sys2Proof.Machine
end

section
/-! PROOF. What a Second does with the camp messages of its Lead (R752, R753, R754, R756, R757, R758, R767). -/
set_option Elab.async false
namespace Sys2Proof.Machine

/-! ### Sets (R752, R754, R315) -/

/-- The pair gathers a set, or none, with a boundary or none. -/
def State.withSet (s : State) (x : Option RxSet) (b : Option Nat) : State := { s with pair := { s.pair with rxSet := x, boundary := b } }

/-- A Second is back in DICT. -/
def State.backInDict (s : State) : State := { s with pair := { s.pair with catchup := 2, mirrorFail := false, campReset := false, run := 0 } }

section
variable {s v t : State} {o : Octets} {x : RxSet}

/-- From DICT on, a Second's set and boundary are what its commands make them. -/
theorem State.Followed.keepsSet (h : v.Followed t) (hc : 2 ≤ v.pair.catchup) : t.pair.rxSet = v.pair.rxSet ∧ t.pair.boundary = v.pair.boundary :=
  h.sets (.inl hc)

theorem State.Followed.dict (h : v.Followed t) (hc : v.pair.catchup = 2) : t.pair.catchup = 2 := h.goesOn.2.1 hc

theorem State.setBegin_eq (s : State) (o : Octets) : s.setBegin o = if s.pair.role ≠ 3 then s
    else if leAt o 4 1 = 0 ∧ 2 < s.pair.catchup then
      (s.withSet (some ⟨leAt o 0 4, leAt o 4 1, leAt o 5 4, [], false⟩) none).backInDict.syncElig
    else s.withSet (some ⟨leAt o 0 4, leAt o 4 1, leAt o 5 4, [], false⟩) none := rfl

/-- The announced set is gathered from nothing. -/
theorem exec_setBegin (hrole : s.pair.role = 3) (hc : 2 ≤ s.pair.catchup) :
    ∃ t, exec (.setBegin o) s = .next t ∧ t.pair.rxSet = some ⟨leAt o 0 4, leAt o 4 1, leAt o 5 4, [], false⟩ ∧
      t.pair.boundary = none ∧ (leAt o 4 1 = 0 → 2 < s.pair.catchup → t.pair.catchup = 2) := by
  obtain ⟨t, hexec, hend⟩ := exec_followed (v := s.setBegin o) (s := s) (c := .setBegin o) rfl
  refine ⟨t, hexec, ?_⟩
  rw [State.setBegin_eq, if_neg (not_not.2 hrole)] at hend
  split at hend
  · have hall := (State.syncElig_followed _).trans hend
    obtain ⟨hset, hbound⟩ := hall.keepsSet (Nat.le_refl 2)
    exact ⟨hset, hbound, fun _ _ => hall.dict rfl⟩
  · next hkeeps =>
    obtain ⟨hset, hbound⟩ := hend.keepsSet hc
    exact ⟨hset, hbound, fun hkind hpast => absurd ⟨hkind, hpast⟩ hkeeps⟩

theorem State.setRec_gathers (hrole : s.pair.role = 3) (hx : s.pair.rxSet = some x) :
    s.setRec o = { s with pair := { s.pair with rxSet := some { x with records := x.records ++ [o] } } } := by
  unfold State.setRec
  rw [hx]
  exact if_pos hrole

theorem exec_setRec (hrole : s.pair.role = 3) (hc : 2 ≤ s.pair.catchup) (hx : s.pair.rxSet = some x) :
    ∃ t, exec (.setRec o) s = .next t ∧ t.pair.rxSet = some { x with records := x.records ++ [o] } := by
  obtain ⟨t, hexec, hend⟩ := exec_followed (v := s.setRec o) (s := s) (c := .setRec o) rfl
  refine ⟨t, hexec, ?_⟩
  rw [State.setRec_gathers hrole hx] at hend
  exact (hend.keepsSet hc).1

/-- The set is whole (R752). -/
def RxSet.complete (x : RxSet) (o : Octets) : Bool := decide (x.records.length = x.count) && decide (crc32c x.records.flatten = leAt o 4 4)

theorem State.setEnd_acks (hrole : s.pair.role = 3) (hx : s.pair.rxSet = some x) (hno : leAt o 0 4 = x.number) :
    s.setEnd o = (s.withSet (if x.complete o then some { x with whole := true } else none) s.pair.boundary).campSend true 5
      (leBytes 4 x.number ++ leBytes 1 (b2n !x.complete o)) := by
  unfold State.setEnd
  rw [hx]
  exact if_neg (by simp [hrole, hno])

theorem exec_setEnd (hrole : s.pair.role = 3) (hc : 2 ≤ s.pair.catchup) (hx : s.pair.rxSet = some x) (hno : leAt o 0 4 = x.number) :
    ∃ t, exec (.setEnd o) s = .next t ∧ t.pair.rxSet = (if x.complete o then some { x with whole := true } else none) ∧
      .camp 5 (leBytes 4 x.number ++ leBytes 1 (b2n !x.complete o)) ∈ t.out := by
  obtain ⟨t, hexec, hend⟩ := exec_followed (v := s.setEnd o) (s := s) (c := .setEnd o) rfl
  rw [State.setEnd_acks hrole hx hno] at hend
  have hsent := State.campSend_out (s.withSet (if x.complete o then some { x with whole := true } else none) s.pair.boundary) true 5
    (leBytes 4 x.number ++ leBytes 1 (b2n !x.complete o))
  exact ⟨t, hexec, (((State.campSend_followed ..).trans hend).keepsSet hc).1, hend.out (hsent ▸ List.mem_cons_self ..)⟩

/-! ### BOUNDARY -/

/-- The boundary that BOUNDARY names, 0 for at once. -/
def State.boundaryTick (s : State) (o : Octets) : Nat := if leAt o 4 8 = 0 then 0 else s.tickOf (leAt o 4 8)

theorem State.boundaryTick_at_once (h : leAt o 4 8 = 0) : s.boundaryTick o = 0 := if_pos h

theorem State.boundaryTick_named (h : leAt o 4 8 ≠ 0) : s.boundaryTick o = s.tickOf (leAt o 4 8) ∧ s.boundaryTick o ≠ 0 := by
  have heq : s.boundaryTick o = s.tickOf (leAt o 4 8) := if_neg h
  refine ⟨heq, ?_⟩
  rw [heq]
  unfold State.tickOf
  omega

theorem State.boundary_eq (hrole : s.pair.role = 3) (hx : s.pair.rxSet = some x) (hno : leAt o 0 4 = x.number) (hwhole : x.whole = true) :
    s.boundary o = if leAt o 12 1 = 1 then s.withSet none none
      else if s.boundaryTick o = 0 then s.installSet x true
      else if s.boundaryTick o < s.time.tick + 64 then s.toDict
      else { s with pair := { s.pair with boundary := some (s.boundaryTick o) } } := by
  unfold State.boundary
  rw [hx]
  dsimp only
  rw [if_neg (by simp [hrole, hno]), hwhole]
  rfl

/-- A Second that gathers no set begins none of itself. -/
theorem State.Followed.gathersNone (h : v.Followed t) (hx : v.pair.rxSet = none) (hb : v.pair.boundary = none) :
    t.pair.rxSet = none ∧ t.pair.boundary = none := by
  obtain ⟨hset, hbound⟩ := h.sets (.inr ⟨hx, hb⟩)
  exact ⟨hset.trans hx, hbound.trans hb⟩

/-- A set that applies is gathered no longer. -/
theorem State.installSet_gathersNone (s : State) (x : RxSet) : (s.installSet x true).pair.rxSet = none ∧ (s.installSet x true).pair.boundary = none := by
  unfold State.installSet
  extract_lets l changed _ taken applied marked
  have htells : taken.TellsOnly applied := State.applySet_tells ..
  have hset : marked.pair.rxSet = none := congrArg Pair.rxSet htells.pair
  have hbound : marked.pair.boundary = none := congrArg Pair.boundary htells.pair
  split
  · exact ((State.campSend_followed ..).trans (State.pairFollow_followed _)).gathersNone hset hbound
  · exact ⟨hset, hbound⟩

/-- A cancelled set leaves nothing behind. -/
theorem exec_boundary_cancel (hrole : s.pair.role = 3) (hx : s.pair.rxSet = some x) (hno : leAt o 0 4 = x.number) (hwhole : x.whole = true)
    (hcancel : leAt o 12 1 = 1) :
    ∃ t, exec (.boundary o) s = .next t ∧ t.pair.rxSet = none ∧ t.pair.boundary = none ∧ t.staged = s.staged ∧ t.commit = s.commit := by
  obtain ⟨t, hexec, hend⟩ := exec_followed (v := s.boundary o) (s := s) (c := .boundary o) rfl
  rw [State.boundary_eq hrole hx hno hwhole, if_pos hcancel] at hend
  obtain ⟨hset, hbound⟩ := hend.gathersNone rfl rfl
  exact ⟨t, hexec, hset, hbound, hend.frame.part .staged (by decide), hend.frame.part .commit (by decide)⟩

theorem exec_boundary_at_once (hrole : s.pair.role = 3) (hx : s.pair.rxSet = some x) (hno : leAt o 0 4 = x.number) (hwhole : x.whole = true)
    (hcancel : leAt o 12 1 ≠ 1) (hnow : leAt o 4 8 = 0) :
    ∃ t, exec (.boundary o) s = .next t ∧ t.pair.rxSet = none ∧ t.pair.boundary = none := by
  obtain ⟨t, hexec, hend⟩ := exec_followed (v := s.boundary o) (s := s) (c := .boundary o) rfl
  rw [State.boundary_eq hrole hx hno hwhole, if_neg hcancel, if_pos (State.boundaryTick_at_once hnow)] at hend
  obtain ⟨hset, hbound⟩ := s.installSet_gathersNone x
  exact ⟨t, hexec, hend.gathersNone hset hbound⟩

theorem exec_boundary_in_time (hrole : s.pair.role = 3) (hc : 2 ≤ s.pair.catchup) (hx : s.pair.rxSet = some x) (hno : leAt o 0 4 = x.number)
    (hwhole : x.whole = true) (hcancel : leAt o 12 1 ≠ 1) (hnamed : leAt o 4 8 ≠ 0) (hlead : s.time.tick + 64 ≤ s.tickOf (leAt o 4 8)) :
    ∃ t, exec (.boundary o) s = .next t ∧ t.pair.rxSet = some x ∧ t.pair.boundary = some (s.tickOf (leAt o 4 8)) := by
  obtain ⟨t, hexec, hend⟩ := exec_followed (v := s.boundary o) (s := s) (c := .boundary o) rfl
  obtain ⟨htick, hne⟩ := s.boundaryTick_named hnamed
  rw [State.boundary_eq hrole hx hno hwhole, if_neg hcancel, if_neg hne, htick, if_neg (Nat.not_lt.2 hlead)] at hend
  obtain ⟨hset, hbound⟩ := hend.keepsSet hc
  exact ⟨t, hexec, hset.trans hx, hbound⟩

theorem State.toDict_catchup (s : State) : s.toDict.pair.catchup = 2 ∧ s.toDict.pair.rxSet = none := by
  have hall (u : State) (body : Octets) : u.Followed (u.campSend false 0x13 body).syncElig := (State.campSend_followed ..).trans (State.syncElig_followed _)
  exact ⟨(hall _ _).dict rfl, ((hall _ _).keepsSet (Nat.le_refl 2)).1⟩

/-- A boundary that comes too late puts the Second back into DICT. -/
theorem exec_boundary_late (hrole : s.pair.role = 3) (hx : s.pair.rxSet = some x) (hno : leAt o 0 4 = x.number) (hwhole : x.whole = true)
    (hcancel : leAt o 12 1 ≠ 1) (hnamed : leAt o 4 8 ≠ 0) (hlate : s.tickOf (leAt o 4 8) < s.time.tick + 64) :
    ∃ t, exec (.boundary o) s = .next t ∧ t.pair.rxSet = none ∧ t.pair.catchup = 2 := by
  obtain ⟨t, hexec, hend⟩ := exec_followed (v := s.boundary o) (s := s) (c := .boundary o) rfl
  obtain ⟨htick, hne⟩ := s.boundaryTick_named hnamed
  rw [State.boundary_eq hrole hx hno hwhole, if_neg hcancel, if_neg hne, htick, if_pos hlate] at hend
  obtain ⟨hdict, hnone⟩ := s.toDict_catchup
  exact ⟨t, hexec, (hend.keepsSet (hdict.symm ▸ Nat.le_refl 2)).1.trans hnone, hend.dict hdict⟩

end

theorem setsReachTheSecond : Claims.SetsReachTheSecond := by
  intro s o hrole hc
  refine ⟨exec_setBegin hrole hc, fun x hx => ⟨exec_setRec hrole hc hx, exec_setEnd hrole hc hx, fun hno hwhole => ⟨?_, ?_, ?_, ?_⟩⟩⟩
  · exact exec_boundary_cancel hrole hx hno hwhole
  · exact exec_boundary_at_once hrole hx hno hwhole
  · exact exec_boundary_in_time hrole hc hx hno hwhole
  · exact exec_boundary_late hrole hx hno hwhole

/-! ### TIME_SYNC (R757) -/

section
variable {s v t : State} {o : Octets}

theorem State.Followed.time (h : v.Followed t) : t.time = v.time := h.frame.part .time (by decide)

theorem State.startLock_pair (s : State) : s.startLock.pair = s.pair := by
  unfold State.startLock
  refine (foldl_keeps State.pair _ (fun s l => ?_) _ _).trans rfl
  repeat' split
  all_goals rfl

theorem State.startProbe_tells (s : State) : s.TellsOnly s.startProbe := by
  have hon : s.TellsOnly { s with probe := { s.probe with on := true } } := ⟨rfl⟩
  exact (hon.trans (.foldl (fun t j => State.startDecoder_tells t s.time.tick j) _ _)).trans (State.syncProbe_tells _)

/-- A Second that is ready to capture waits for its snapshot. -/
theorem State.captureReady_catchup (s : State) : s.captureReady.pair.catchup = s.pair.catchup ∨ s.captureReady.pair.catchup = 6 := by
  unfold State.captureReady
  extract_lets _ _ ready noted _ told tested
  have hnoted : s.TellsOnly noted := ⟨rfl⟩
  have htold : noted.TellsOnly told := by
    have hpower (x : Power) : noted.TellsOnly { noted with power := x } := ⟨rfl⟩
    exact ((hpower _).setCause 1 2).ite (.refl noted)
  have htested : s.TellsOnly tested := (hnoted.trans htold).trans told.startTest_tells
  split
  · have hsent := State.campSend_told { tested with pair := { tested.pair with catchup := 6 } } false 0x13 [6]
    exact .inr (congrArg Pair.catchup hsent.pair)
  · have hcatchup := congrArg Pair.catchup htested.pair
    exact .inl hcatchup

theorem State.lockStep_catchup (s : State) : s.lockStep.pair.catchup = s.pair.catchup ∨ s.lockStep.pair.catchup = 6 := by
  have hstart := congrArg Pair.catchup s.startLock_pair
  unfold State.lockStep
  dsimp only
  split
  · rw [← hstart]
    exact State.captureReady_catchup _
  · exact .inl hstart

/-- The time that TIME_SYNC brings. -/
structure Synced (o : Octets) (x : TimeBase) : Prop where
  tick : x.tick = leAt o 0 8
  pt : x.pt = leAt o 8 6 * secUnits + leAt o 14 4 * 2 ^ 32 + leAt o 18 4
  rate : x.rate = toInt 32 (leAt o 22 4)
  slew : x.slew = 0

/-- The first TIME_SYNC of a boot starts the probe bank and the lock of the loops. -/
def State.bankStarted (s : State) (first : Bool) : State := if first then s.startProbe.lockStep else s

theorem State.bankStarted_time (s : State) (first : Bool) : (s.bankStarted first).time = s.time := by
  unfold State.bankStarted
  split
  · have hlock := congrArg Prod.fst s.startProbe.lockStep_keeps.1
    have hprobe := congrArg Prod.fst s.startProbe_sampling
    exact hlock.trans hprobe
  · rfl

theorem State.bankStarted_catchup (s : State) (first : Bool) :
    (s.bankStarted first).pair.catchup = s.pair.catchup ∨ (s.bankStarted first).pair.catchup = 6 := by
  unfold State.bankStarted
  split
  · have hprobe := congrArg Pair.catchup s.startProbe_tells.pair
    have hstarted : s.startProbe.pair.catchup = s.pair.catchup := hprobe
    rw [← hstarted]
    exact State.lockStep_catchup _
  · exact .inl rfl

theorem State.progress_catchup (s : State) (code : Nat) : (s.progress code).pair.catchup = code := by
  have hsent := State.campSend_told { s with pair := { s.pair with catchup := code } } false 0x13 [BitVec.ofNat 8 code]
  exact congrArg Pair.catchup hsent.pair

/-- A Second in TIME takes the time of its Lead and goes on to LOCK, or to TRIG_WAIT. -/
theorem State.timeSync_spec (hrole : s.pair.role = 3) (hc : s.pair.catchup = 4) :
    ∃ u : State, u.Followed (s.timeSync o) ∧ Synced o u.time ∧ (u.pair.catchup = 5 ∨ u.pair.catchup = 6) := by
  unfold State.timeSync
  rw [if_neg (by simp [hrole, hc])]
  extract_lets y leadRx own leadT0 trip l lead elapsed first based adj pt _ synced reported
  have hsynced : Synced o synced.time := ⟨rfl, rfl, rfl, rfl⟩
  have htime : reported.time = synced.time := synced.progress_time 5
  have hcatchup : reported.pair.catchup = 5 := synced.progress_catchup 5
  refine ⟨reported.bankStarted first, State.pairFollow_followed _, ?_, ?_⟩
  · rw [State.bankStarted_time, htime]
    exact hsynced
  · have hbank := reported.bankStarted_catchup first
    rwa [hcatchup] at hbank

theorem exec_timeSync (hrole : s.pair.role = 3) (hc : s.pair.catchup = 4) :
    ∃ t, exec (.timeSync o) s = .next t ∧ t.time.tick = leAt o 0 8 ∧
      t.time.pt = leAt o 8 6 * secUnits + leAt o 14 4 * 2 ^ 32 + leAt o 18 4 ∧ t.time.rate = toInt 32 (leAt o 22 4) ∧
      t.time.slew = 0 ∧ (t.pair.catchup = 5 ∨ t.pair.catchup = 6) := by
  obtain ⟨t, hexec, hend⟩ := exec_followed (v := s.timeSync o) (s := s) (c := .timeSync o) rfl
  obtain ⟨u, hsync, hsynced, hcatchup⟩ := State.timeSync_spec (o := o) hrole hc
  have hall := hsync.trans hend
  rw [← hall.time] at hsynced
  obtain ⟨htick, hpt, hrate, hslew⟩ := hsynced
  refine ⟨t, hexec, htick, hpt, hrate, hslew, ?_⟩
  obtain ⟨-, -, hlock, hstays⟩ := hall.goesOn
  obtain h5 | h6 := hcatchup
  · exact hlock h5
  · exact .inr ((hstays (h6 ▸ Nat.le_refl 6)).trans h6)

/-! ### ADJ, and a change that waited (R757) -/

theorem exec_adj (hrole : s.pair.role = 3) : ∃ t, exec (.adj o) s = .next t ∧
    t.time.delayed = s.time.delayed ++ [.adj (s.tickOf (leAt o 0 8)) (toInt 32 (leAt o 8 4)) 0 none] := by
  obtain ⟨t, hexec, hend⟩ := exec_followed (v := s.adjMsg o) (s := s) (c := .adj o) rfl
  have hadj : s.adjMsg o = s.delay (.adj (s.tickOf (leAt o 0 8)) (toInt 32 (leAt o 8 4)) 0 none) := if_pos hrole
  refine ⟨t, hexec, ?_⟩
  rw [hend.time, hadj]
  rfl

theorem exec_delayedAdjApply {k : Nat} {r sl : Int} {e : Option Nat} {rest : List Delayed} (hdelayed : s.time.delayed = .adj k r sl e :: rest) :
    Completes .delayedAdjApply s [.now, .time] clockObjects fun t =>
      t.time.rate = r ∧ t.time.slew = sl ∧ t.time.slewEnd = e ∧ t.time.delayed = rest ∧
      (s.time.tickRun = true → s.time.bridging = false → t.time.tick = max s.time.tick k) := by
  have hmeaning : s.applyDelayed =
      State.setAdj { s.elapseToTick k with time := { (s.elapseToTick k).time with delayed := rest } } r sl e := by
    unfold State.applyDelayed
    rw [hdelayed]
  refine completes_of_frame (congrArg s.ends hmeaning) ((((Frame.refl s).elapseToTick k).setTime _).setTime _) ?_
  rw [State.ended_time]
  exact ⟨rfl, rfl, rfl, rfl, fun hrun hb => State.tick_elapseToTick k hrun hb⟩

/-! ### Sources (R756, R757) -/

/-- What the taps do leaves every source as it is. -/
theorem State.tapFollow_source (s : State) (i : Nat) : (s.tapFollow i).time.source = s.time.source := by
  have hready (t : State) : (t.tapReady i).time.source = t.time.source := by
    unfold State.tapReady
    extract_lets
    split <;> rfl
  have hleave : (s.tapLeave i).time.source = s.time.source := by
    unfold State.tapLeave
    dsimp only
    split <;> rfl
  unfold State.tapFollow
  extract_lets x isSet due
  have hdue : due.time.source = s.time.source := by
    show (if _ then _ else s : State).time.source = _
    split <;> rfl
  split
  · rfl
  · split
    · exact (hready due).trans hdue
    · split
      · exact hleave
      · rfl

theorem State.src_tapsFollow (s : State) (i : Nat) : s.tapsFollow.src i = s.src i :=
  congrArg (fun m : Map SourceSt => mgetD m i {}) (foldl_keeps (fun t : State => t.time.source) _ State.tapFollow_source _ s)

theorem State.Followed.src (h : v.Followed t) (i : Nat) : t.src i = v.src i := congrArg (fun x : TimeBase => mgetD x.source i {}) h.time

section
variable (hrole : s.pair.role = 3) (hi : leAt o 0 1 < 16)
include hrole hi

theorem no_source_barred : ¬(s.pair.role ≠ 3 ∨ 16 ≤ leAt o 0 1) := by
  rintro (h | h)
  · exact h hrole
  · omega

theorem exec_step : ∃ t, exec (.step o) s = .next t ∧ (t.src (leAt o 0 1)).trim = toInt 32 (leAt o 16 4) ∧
    (leAt o 1 1 = 1 → (t.src (leAt o 0 1)).setting = true ∧ (t.src (leAt o 0 1)).set = false) ∧
    (leAt o 1 1 ≠ 1 → (t.src (leAt o 0 1)).step = some (toInt 64 (leAt o 4 8)) ∧ (t.src (leAt o 0 1)).epoch = (leAt o 2 1 + 1) % 4) := by
  obtain ⟨t, hexec, hend⟩ := exec_followed (v := s.stepMsg o) (s := s) (c := .step o) rfl
  have hsrc := hend.src (leAt o 0 1)
  refine ⟨t, hexec, ?_⟩
  rw [hsrc, show s.stepMsg o = _ from if_neg (no_source_barred hrole hi)]
  dsimp only
  split
  · next hset =>
    rw [State.src_setSrc_self]
    exact ⟨rfl, fun _ => ⟨rfl, rfl⟩, fun h => absurd hset h⟩
  · next hstep =>
    rw [State.src_setSrc_self]
    exact ⟨rfl, fun h => absurd h hstep, fun _ => ⟨rfl, rfl⟩⟩

theorem exec_confirm : ∃ t, exec (.confirm o) s = .next t ∧ (t.src (leAt o 0 1)).step = none ∧ (t.src (leAt o 0 1)).setting = false ∧
    (t.src (leAt o 0 1)).epoch = leAt o 1 1 % 4 ∧
    (t.src (leAt o 0 1)).set = ((s.src (leAt o 0 1)).set || (s.src (leAt o 0 1)).setting) := by
  obtain ⟨t, hexec, hend⟩ := exec_followed (v := s.confirmMsg o) (s := s) (c := .confirm o) rfl
  have hsrc := hend.src (leAt o 0 1)
  refine ⟨t, hexec, ?_⟩
  rw [hsrc, show s.confirmMsg o = _ from if_neg (no_source_barred hrole hi)]
  rw [State.src_tapsFollow, State.src_setSrc_self]
  exact ⟨rfl, rfl, rfl, rfl⟩

theorem exec_srcstat : ∃ t, exec (.srcstat o) s = .next t ∧ (t.src (leAt o 0 1)).set = bit (leAt o 1 1) 3 ∧
    (t.src (leAt o 0 1)).late = bit (leAt o 1 1) 2 ∧ (t.src (leAt o 0 1)).meas = bit (leAt o 1 1) 1 ∧
    (t.src (leAt o 0 1)).present = bit (leAt o 1 1) 0 ∧ (t.src (leAt o 0 1)).trim = toInt 32 (leAt o 2 4) := by
  obtain ⟨t, hexec, hend⟩ := exec_followed (v := s.srcStatMsg o) (s := s) (c := .srcstat o) rfl
  have hsrc := hend.src (leAt o 0 1)
  refine ⟨t, hexec, ?_⟩
  rw [hsrc, show s.srcStatMsg o = _ from if_neg (no_source_barred hrole hi)]
  dsimp only
  rw [State.src_tapsFollow, State.src_setSrc_self]
  exact ⟨rfl, rfl, rfl, rfl, rfl⟩

end

end

theorem timeReachesTheSecond : Claims.TimeReachesTheSecond := fun _ _ =>
  ⟨exec_timeSync, exec_adj, fun _ _ _ _ _ => exec_delayedAdjApply, fun hrole hi => ⟨exec_step hrole hi, exec_confirm hrole hi, exec_srcstat hrole hi⟩⟩

/-! ### ARM and DISARM (R613) -/

section
variable {s v t : State} {o : Octets}

theorem State.Followed.trig (h : v.Followed t) : t.trig = v.trig := h.frame.part .trig (by decide)

theorem State.Followed.port (h : v.Followed t) (p : Nat) : t.port p = v.port p :=
  State.port_congr (h.frame.part .ports (by decide)) p

/-- A message for a tick that it comes too late for ends the matching run. -/
def State.unmatched (s : State) : State := { s with pair := { s.pair with run := 0 } }

theorem State.armMsg_eq (hrole : s.pair.role = 3) (hc : 3 ≤ s.pair.catchup) : s.armMsg o =
    if s.time.tick + 64 ≤ s.tickOf (leAt o 0 8) then
      { s with
        trig := { s.trig with st := 1, armAt := s.tickOf (leAt o 0 8), gate := false }
        pair := { s.pair with leadStart := some (s.tickOf (leAt o 0 8)) } }
    else s.unmatched.syncElig := if_neg (by rw [not_or]; exact ⟨not_not.2 hrole, Nat.not_lt.2 hc⟩)

theorem State.disarmMsg_eq (hrole : s.pair.role = 3) (hc : 3 ≤ s.pair.catchup) : s.disarmMsg o =
    if s.time.tick + 64 ≤ s.tickOf (leAt o 0 8) then
      { s with trig := { s.trig with disarming := true, disarmAt := s.tickOf (leAt o 0 8), st := if s.trig.st = 2 then 4 else s.trig.st } }
    else s.unmatched.syncElig := if_neg (by rw [not_or]; exact ⟨not_not.2 hrole, Nat.not_lt.2 hc⟩)

theorem exec_arm (hrole : s.pair.role = 3) (hc : 3 ≤ s.pair.catchup) (hlead : s.time.tick + 64 ≤ s.tickOf (leAt o 0 8)) :
    ∃ t, exec (.arm o) s = .next t ∧ t.trig = { s.trig with st := 1, armAt := s.tickOf (leAt o 0 8), gate := false } ∧
      t.pair.leadStart = some (s.tickOf (leAt o 0 8)) := by
  obtain ⟨t, hexec, hend⟩ := exec_followed (v := s.armMsg o) (s := s) (c := .arm o) rfl
  rw [State.armMsg_eq hrole hc, if_pos hlead] at hend
  exact ⟨t, hexec, hend.trig, hend.linked Pair.leadStart fun _ => rfl⟩

theorem exec_disarm (hrole : s.pair.role = 3) (hc : 3 ≤ s.pair.catchup) (hlead : s.time.tick + 64 ≤ s.tickOf (leAt o 0 8)) :
    ∃ t, exec (.disarm o) s = .next t ∧
      t.trig = { s.trig with disarming := true, disarmAt := s.tickOf (leAt o 0 8), st := if s.trig.st = 2 then 4 else s.trig.st } := by
  obtain ⟨t, hexec, hend⟩ := exec_followed (v := s.disarmMsg o) (s := s) (c := .disarm o) rfl
  rw [State.disarmMsg_eq hrole hc, if_pos hlead] at hend
  exact ⟨t, hexec, hend.trig⟩

/-- What follows the end of a matching run leaves the Second ineligible. -/
theorem State.Followed.unmatched (h : s.unmatched.syncElig.Followed t) (hrole : s.pair.role = 3) :
    t.trig = s.trig ∧ t.pair.run = 0 ∧ t.pair.eligible = false := by
  have helig := s.unmatched.syncElig_followed
  have hrun : s.unmatched.syncElig.pair.run = 0 := helig.run rfl
  exact ⟨h.trig.trans helig.trig, h.run hrun, h.barred (.inr (.inr hrun)) (State.syncElig_unmatched hrole rfl)⟩

theorem exec_late (hrole : s.pair.role = 3) (hc : 3 ≤ s.pair.catchup) (hlate : s.tickOf (leAt o 0 8) < s.time.tick + 64) (c : Instr)
    (h : c = .arm o ∨ c = .disarm o) : ∃ t, exec c s = .next t ∧ t.trig = s.trig ∧ t.pair.run = 0 ∧ t.pair.eligible = false := by
  have hnot := Nat.not_le.2 hlate
  obtain rfl | rfl := h
  · obtain ⟨t, hexec, hend⟩ := exec_followed (v := s.armMsg o) (s := s) (c := .arm o) rfl
    rw [State.armMsg_eq hrole hc, if_neg hnot] at hend
    exact ⟨t, hexec, hend.unmatched hrole⟩
  · obtain ⟨t, hexec, hend⟩ := exec_followed (v := s.disarmMsg o) (s := s) (c := .disarm o) rfl
    rw [State.disarmMsg_eq hrole hc, if_neg hnot] at hend
    exact ⟨t, hexec, hend.unmatched hrole⟩

/-! ### TRIG_SNAP (R758) -/

/-- The sequencer as the Lead's snapshot says. -/
def State.snapTrig (s : State) (o : Octets) : Trigger :=
  { s.trig with
    word := leAt o 8 4, st := leAt o 12 1, level := leAt o 13 1, armAt := s.tickOf (leAt o 14 8), disarmAt := s.tickOf (leAt o 22 8)
    disarming := decide (leAt o 12 1 ≠ 0) && decide (s.time.tick < s.tickOf (leAt o 22 8))
    value := (upto 8).map fun j => leAt o (30 + 6 * j) 6
    timer := (upto 8).map fun j => let e := leAt o (78 + 6 * j) 6; (j, { running := bit (leAt o 126 1) j, start := s.tickOf (leAt o 0 8) - e, elapsed := e })
    gate := decide (leAt o 127 1 = 1), holds := leAt o 128 4
    summitAt := s.tickOf (leAt o 132 8), summitK := s.tickOf (leAt o 140 8), summitTime := ofTime80 (leAt o 148 10) (leAt o 158 2)
    summitBranch := leAt o 160 1 }

/-- A Second takes the snapshot, and counts it. -/
def State.snapTaken (s : State) (o : Octets) : State :=
  (({ s with trig := s.snapTrig o, pair := { s.pair with run := 0, tickReset := false } } : State).bump 0xF090 9 1).bump 0xF090 8 1

theorem State.trigSnap_eq (hrole : s.pair.role = 3) (hc : s.pair.catchup = 6) : s.trigSnap o = ((s.snapTaken o).progress 7).syncElig :=
  if_neg (by simp [hrole, hc])

theorem State.snapTaken_count (s : State) (o : Octets) : (s.snapTaken o).z 0xF090 9 = min (s.z 0xF090 9 + 1) (2 ^ 32 - 1) := by
  have hother (u : State) : (u.bump 0xF090 8 1).z 0xF090 9 = u.z 0xF090 9 := (State.z_bump ..).trans (if_neg (by decide))
  exact (hother _).trans ((State.z_bump ..).trans (if_pos rfl))

/-- A Second in a catch-up state. -/
def State.caughtUpTo (s : State) (code : Nat) : State := { s with pair := { s.pair with catchup := code } }

/-- The report of a catch-up state leaves all but the state. -/
theorem State.progress_told (s : State) (code : Nat) :
    (s.caughtUpTo code).Followed (s.progress code) ∧ .camp 0x13 [BitVec.ofNat 8 code] ∈ (s.progress code).out := by
  have hout := (s.caughtUpTo code).campSend_out false 0x13 [BitVec.ofNat 8 code]
  exact ⟨State.campSend_followed .., hout ▸ List.mem_cons_self ..⟩

theorem exec_trigSnap (hrole : s.pair.role = 3) (hc : s.pair.catchup = 6) :
    ∃ t, exec (.trigSnap o) s = .next t ∧ t.pair.catchup = 7 ∧ t.pair.run = 0 ∧ t.trig.st = leAt o 12 1 ∧ t.trig.level = leAt o 13 1 ∧
      t.trig.word = leAt o 8 4 ∧ t.trig.armAt = s.tickOf (leAt o 14 8) ∧ t.trig.value = (List.range 8).map (fun j => leAt o (30 + 6 * j) 6) ∧
      t.trig.holds = leAt o 128 4 ∧ t.trig.summitBranch = leAt o 160 1 ∧
      t.z 0xF090 9 = min (s.z 0xF090 9 + 1) (2 ^ 32 - 1) ∧ .camp 0x13 [7] ∈ t.out := by
  obtain ⟨t, hexec, hend⟩ := exec_followed (v := s.trigSnap o) (s := s) (c := .trigSnap o) rfl
  rw [State.trigSnap_eq hrole hc] at hend
  obtain ⟨htold, hsent⟩ := (s.snapTaken o).progress_told 7
  have hshadow := (State.syncElig_followed _).trans hend
  have hall := htold.trans hshadow
  have htrig : t.trig = s.snapTrig o := hall.trig
  have hobj : ((s.snapTaken o).caughtUpTo 7).obj = (s.snapTaken o).obj := rfl
  have hcatchup : t.pair.catchup = 7 := hall.catchup (show 6 ≤ 7 from Nat.le_succ 6)
  refine ⟨t, hexec, hcatchup, hall.run rfl, ?_⟩
  rw [htrig, State.Followed.z hall, State.z_congr hobj, s.snapTaken_count o]
  exact ⟨rfl, rfl, rfl, rfl, rfl, rfl, rfl, rfl, hshadow.out hsent⟩

/-! ### CKPT, TRAIN, PORTSTAT and HANDOVER (R753, R764, R767, R777) -/

theorem exec_ckpt (hrole : s.pair.role = 3) (hq : leAt o 0 1 < 4) :
    ∃ t, exec (.ckpt o) s = .next t ∧ t.stream (leAt o 0 1) = { s.stream (leAt o 0 1) with
      produced := leAt o 8 8, next := leAt o 16 8, frames := leAt o 24 8, lost := leAt o 32 8 } := by
  obtain ⟨t, hexec, hend⟩ := exec_followed (v := s.ckpt o) (s := s) (c := .ckpt o) rfl
  have hckpt : s.ckpt o = s.setStream (leAt o 0 1) { s.stream (leAt o 0 1) with
      produced := leAt o 8 8, next := leAt o 16 8, frames := leAt o 24 8, lost := leAt o 32 8 } :=
    if_neg (by rw [not_or]; exact ⟨not_not.2 hrole, Nat.not_le.2 hq⟩)
  have hsto : t.sto = (s.ckpt o).sto := hend.frame.part .sto (by decide)
  have hstream := congrArg (fun x : Storage => mgetD x.stream (leAt o 0 1) {}) hsto
  refine ⟨t, hexec, hstream.trans ?_⟩
  rw [hckpt]
  exact (State.stream_setStream ..).trans (if_pos rfl)

section
variable (hrole : s.pair.role = 3) (hp : leAt o 0 1 < 6)
include hrole hp

theorem exec_train (htrain : leAt o 1 1 ≠ 1) (htrained : (s.port (leAt o 0 1)).trained = false) (hst : (s.port (leAt o 0 1)).st ≠ 2)
    (hen : s.b 0x7000 (leAt o 0 1 + 1) = true) : ∃ t, exec (.train o) s = .next t ∧ Trains t (leAt o 0 1) := by
  obtain ⟨t, hexec, hend⟩ := exec_followed (v := s.trainMsg o) (s := s) (c := .train o) rfl
  have hstart : s.trainMsg o = s.startTraining (leAt o 0 1) := by
    unfold State.trainMsg
    dsimp only
    rw [if_neg (by rw [not_or]; exact ⟨not_not.2 hrole, Nat.not_le.2 hp⟩), if_neg htrain, if_neg (by simp [htrained, hst, hen])]
  refine ⟨t, hexec, ?_⟩
  unfold Trains
  rw [hend.port, hstart]
  unfold State.startTraining State.startAttempt
  rw [State.port_setPort, if_pos rfl]
  exact ⟨rfl, rfl, rfl⟩

omit hrole hp in
/-- A trained port that is to be disabled begins to quiesce. -/
theorem State.quiescePort_phase {p : Nat} (h : (s.port p).st = 5 ∨ (s.port p).st = 6) : ((s.quiescePort p).port p).st = 7 := by
  have hrecall (u : State) : ((u.recallAgents p).port p).st = (u.port p).st :=
    foldl_keeps (fun t : State => (t.port p).st) (fun (t : State) (e : Nat × FilterEntry) => t.quiesceLine e.1) (fun t e => t.quiesceLine_phase e.1 p) _ u
  have hgive (u : State) : ((u.giveUpLines p).port p).st = (u.port p).st :=
    foldl_keeps (fun t : State => (t.port p).st) (fun (t : State) (e : Nat × DescLine) => t.giveUp e.1) (fun t e => (t.giveUp_leaves e.1).phase p) _ u
  unfold State.quiescePort
  dsimp only
  rw [if_pos h, hgive, hrecall, State.port_setPort, if_pos rfl]

theorem exec_train_disable (htrain : leAt o 1 1 = 1) (hst : (s.port (leAt o 0 1)).st = 5 ∨ (s.port (leAt o 0 1)).st = 6) :
    ∃ t, exec (.train o) s = .next t ∧ (t.port (leAt o 0 1)).st = 7 := by
  obtain ⟨t, hexec, hend⟩ := exec_followed (v := s.trainMsg o) (s := s) (c := .train o) rfl
  have hquiesce : s.trainMsg o = (s.quiescePort (leAt o 0 1)).pairFollow := by
    unfold State.trainMsg
    dsimp only
    rw [if_neg (by rw [not_or]; exact ⟨not_not.2 hrole, Nat.not_le.2 hp⟩), if_pos htrain]
  rw [hquiesce] at hend
  have hall := (State.pairFollow_followed _).trans hend
  refine ⟨t, hexec, ?_⟩
  rw [hall.port]
  exact State.quiescePort_phase hst

theorem exec_portstat : ∃ t, exec (.portstat o) s = .next t ∧ mget t.pair.partnerPorts (leAt o 0 1) = some (leAt o 1 4) := by
  obtain ⟨t, hexec, hend⟩ := exec_followed (v := s.portStat o) (s := s) (c := .portstat o) rfl
  have hlost : s.trainLost (leAt o 0 1) (leAt o 1 4) = s := if_neg (by simp [hrole])
  have hstat : s.portStat o = State.pairFollow { s with pair := { s.pair with partnerPorts := mset s.pair.partnerPorts (leAt o 0 1) (leAt o 1 4) } } := by
    unfold State.portStat
    dsimp only
    rw [if_neg (by simp [hrole, Nat.not_le.2 hp]), hlost]
  rw [hstat] at hend
  have hall := (State.pairFollow_followed _).trans hend
  refine ⟨t, hexec, ?_⟩
  rw [hall.linked Pair.partnerPorts fun _ => rfl, mget_mset, if_pos rfl]

end

theorem exec_handover (hrole : s.pair.role = 3) : ∃ t, exec (.handover o) s = .next t ∧ t.pair.yieldAt = some (s.tickOf (leAt o 0 8)) := by
  obtain ⟨t, hexec, hend⟩ := exec_followed (v := s.handoverMsg o) (s := s) (c := .handover o) rfl
  rw [show s.handoverMsg o = _ from if_pos hrole] at hend
  exact ⟨t, hexec, hend.linked Pair.yieldAt fun _ => rfl⟩

end

theorem stateReachesTheSecond : Claims.StateReachesTheSecond := by
  intro s o hrole
  refine ⟨fun hc => ⟨fun hlead => ⟨exec_arm hrole hc hlead, exec_disarm hrole hc hlead⟩, exec_late hrole hc⟩, exec_trigSnap hrole, exec_ckpt hrole,
    fun hp => ⟨exec_train hrole hp, exec_train_disable hrole hp, exec_portstat hrole hp⟩, exec_handover hrole⟩

/-- Settles O56: the pair's follow-up at the end of each command leaves what the command brought to the Second. -/
theorem theSecondFollowsItsLead : Obligations.TheSecondFollowsItsLead :=
  ⟨setsReachTheSecond, timeReachesTheSecond, stateReachesTheSecond⟩

end Sys2Proof.Machine
end
